-- ==== Sys2Proof/Word.lean ====
section
/-! DEFINITION. The word types of the module and their plainest arithmetic. -/

namespace Sys2Proof

/-- A 64-bit word: a scalar register, a 64-bit register of the register maps (R7, R81). -/
abbrev Word := BitVec 64

/-- One byte of device memory (R6). -/
abbrev Byte := BitVec 8

/-- A 512-bit vector register (R81). -/
abbrev Vec := BitVec 512

/-- The number of a scalar or vector register in a bundle (R127). -/
abbrev R5 := BitVec 5

/-- Bit `i` of a natural number. -/
def natBit (n i : Nat) : Bool := n / 2 ^ i % 2 == 1

/-- `w` bits of `n` from bit `lo` upward. -/
def natBits (n lo w : Nat) : Nat := n / 2 ^ lo % 2 ^ w

/-- `n` with the `w` bits from bit `lo` upward replaced by the low bits of `v`. -/
def natPut (n lo w v : Nat) : Nat := n - natBits n lo w * 2 ^ lo + v % 2 ^ w * 2 ^ lo

/-- `true` is 1. -/
def boolNat (b : Bool) : Nat := if b then 1 else 0

/-- The first `n` natural numbers in ascending order. -/
def upto (n : Nat) : List Nat := List.range n

end Sys2Proof
end

