-- ==== Sys2Proof/Slots.lean ====
section
/-! DEFINITION. The operand types of the core's commands: the slot operations of a bundle with their fields (R130 to
R138), and where a bundle issues. -/

namespace Sys2Proof

/-- What the detectors of R93 report at the issue of a bundle. The environment supplies it. -/
inductive Detect where
  | none
  | pmCorrected    -- single-bit error in the fetched bundle, corrected (R83)
  | pmBad          -- uncorrectable error in the fetched bundle: fence, cause 0x2
  | dmCorrected    -- single-bit error in data memory at the M-slot or stream port (R87)
  | dmBad          -- uncorrectable error in data memory at the M-slot or stream port: fence, cause 0x1
  | parity         -- register or query-buffer parity: fence, cause 0x3
  | residue        -- residue check of the MAC array: fence, cause 0x4 (R94)
  | rowBus         -- row-bus parity: fence, cause 0x5
  | crossbar       -- crossbar or crossing-FIFO parity: stand-fatal
  deriving DecidableEq, Repr

/-- What error correction and parity find in the data an event reads and on its way (R87, R93, R380, R390): the surroundings supply it. [DESIGN CHOICE, assumption 8, safe] -/
inductive Ecc where
  | clean
  | corrected
  | bad
  | rowBus        -- a core's memory: row-bus parity on the way (R93)
  | crossbar      -- a core's memory: crossbar or crossing-FIFO parity
  deriving DecidableEq, Repr

/-- What a unit beside the pipeline does in a core's cycle. When each such access comes is not the program's to say: the
spec fixes neither the moment nor, within its rules, the order (R3, R181, R183, R200, R209). -/
inductive Near where
  | copy (n line : Nat)                 -- the stream port reads a line of the n-th pending A-buffer or scale copy
  | stream                              -- the stream port reads the next line of the B stream
  | sim (n line k : Nat)                -- it reads a data-memory line for the n-th queued similarity instruction: the reading
                                        -- comes after `k` of those that the instruction has
  | row (n line k : Nat) (ecc : Ecc)    -- a tower SRAM line comes for it likewise, and what error correction finds there (R390)
  | take (mt : BitVec 3) (line : Nat)   -- the block move on tag mt reads its line
  | put (mt : BitVec 3) (line : Nat)    -- it writes the line
  deriving DecidableEq, Repr

/-- The surroundings of a core's cycle: how many entries the crossbar has taken from the row's outgoing crossing FIFO since
the row's last command and the row from its incoming one (R78), how far the local rails of the row's region and
of the crossbar's region lie below L0's voltage of 720 mV, in millivolts (R447, R531), and what the units beside the pipeline do. [DESIGN CHOICE, assumption 119, safe] -/
structure Around where
  taken : Nat
  inTaken : Nat
  droop : Nat
  xdroop : Nat
  near : List Near
  deriving DecidableEq, Repr

/-- Quiet surroundings: both FIFOs are taken empty, and no rail droops at any level. -/
def Around.calm : Around := ⟨16, 16, 0, 0, []⟩

/-- Where and how a slot operation issues: the global core, the bundle's idle count (R126), whether the operation is
the last of its bundle, what the detectors report for the bundle, and the surroundings of its cycle. [DESIGN CHOICE, assumption 8, safe] -/
structure Iss where
  g : Nat
  idle : BitVec 4
  last : Bool
  det : Detect
  env : Around
  deriving DecidableEq, Repr

/-- Format SR operations (R134). -/
inductive SAlu where
  | add | sub | and | or | xor | shl | shr | sra | mul | mulh | mulhu | slt | sltu | seq
  | min | max | minu | maxu | clz | popc
  deriving DecidableEq, Repr

/-- Format SI operations (R134). -/
inductive SAluI where
  | addi | andi | ori | xori | shli | shri | srai | slti | sltui | muli
  deriving DecidableEq, Repr

/-- Branch conditions (R139). -/
inductive Cond where
  | eq | ne | lt | ge | ltu | geu
  deriving DecidableEq, Repr

/-- An S-slot operation with its fields (R130). -/
inductive SOp where
  | alu (o : SAlu) (d a b : R5)
  | alui (o : SAluI) (d a : R5) (imm : BitVec 30)
  | sliw (d : R5) (imm : BitVec 32)
  | slih (d : R5) (imm : BitVec 32)
  | jmp (t : BitVec 11)
  | br (c : Cond) (a b : R5) (t : BitVec 11)
  | jal (d : R5) (t : BitVec 11)
  | jr (a : R5)
  | lp (a : R5) (e : BitVec 11)
  | lpi (n : BitVec 16) (e : BitVec 11)
  | lcnt (d : R5)
  | rdcr (d : R5) (sel : BitVec 8)
  | rdgtc (d : R5) (sel : BitVec 8)
  | rdhw (d : R5) (sel : BitVec 8)
  | evt (sel : BitVec 8)
  | bwait (a : R5)
  | bdone
  | stop
  deriving DecidableEq, Repr

/-- V-slot operations (R135). -/
inductive VOp where
  | vadd | vsub | vmul | vfma | vmin | vmax | vabs | vneg | vand | vor | vxor | vshl | vshr | vsra | vsel
  | vcmpeq | vcmpne | vcmplt | vcmple | kand | kor | kxor | knot
  | vbcast | vperm | vshuf | vrot | vins | vext | vrsum | vrmax | vrmin
  | vexp | vrcp | vrsqrt | vtanh | vgelu | vstat | vstrd | vstclr | vcvt | vpackmx | vmov | vsplat
  deriving DecidableEq, Repr

/-- The fields of format VF (R131). -/
structure VF where
  ty : BitVec 4
  d : R5
  a : R5
  b : R5
  c : R5
  mask : BitVec 4
  z : Bool
  sat : Bool
  s : R5
  imm6 : BitVec 6
  imm8 : BitVec 8
  deriving DecidableEq, Repr

/-- T-slot operations that do not pass through the similarity queue (R136, R190). -/
inductive TOp where
  | tlda | tldb | tldsc | tmac | tmacz | tmov | tclr
  deriving DecidableEq, Repr

/-- T-slot operations that enter the similarity queue (R190). -/
inductive QOp where
  | qld | qwt | cbind | msim | dseg | dclose | tkins | tkrd | tkclr | tkcfg
  deriving DecidableEq, Repr

/-- The fields of format TF (R132). -/
structure TF where
  ta : BitVec 4
  tb : BitVec 4
  acc : BitVec 3
  a : R5
  b : R5
  c : R5
  s : R5
  imm6 : BitVec 6
  imm5 : BitVec 5
  deriving DecidableEq, Repr

/-- M-slot operations (R137). -/
inductive MOp where
  | ld | st | vld | vst | tsld | tsst | bmov | hmov | mwait | rld | rst
  | radd | rmax | rmin | rxchg | rcas | rfadd
  | rredAdd | rredMax | rredMin | rredFadd | rredTopk | mcst | fence | wflag | hxfer | nistat
  deriving DecidableEq, Repr

/-- The fields of format MF (R133). -/
structure MF where
  d : R5
  a : R5
  b : R5
  v : R5
  mt : BitVec 3
  af : Bool
  dg : Bool
  bo : Bool
  w : BitVec 3
  imm : BitVec 24
  deriving DecidableEq, Repr

/-- One slot's operation. -/
inductive SlotOp where
  | s (x : SOp)
  | v (o : VOp) (f : VF)
  | t (o : TOp) (f : TF)
  | q (o : QOp) (f : TF)
  | m (o : MOp) (f : MF)
  deriving DecidableEq, Repr

end Sys2Proof
end

