-- ==== Sys2Proof/Commands.lean ====
section
/-! DEFINITION. The operand types of the block's other commands: what a host, a link partner or the surroundings bring
with an event. -/

namespace Sys2Proof

/-- What the detectors find while the similarity unit executes an instruction (R87, R93, R94): the surroundings supply it. [DESIGN CHOICE, assumption 8, safe] -/
inductive SimFind where
  | clean
  | corrected     -- single-bit error in data memory at the stream port
  | bad           -- uncorrectable error there: fence, cause 0x1
  | parity        -- query-buffer parity: fence, cause 0x3
  | residue       -- residue check of the array: fence, cause 0x4
  deriving DecidableEq, Repr

/-- A core whose similarity unit executes the head of its queue, and what the detectors find meanwhile. -/
structure SimAt where
  g : Nat
  find : SimFind
  deriving DecidableEq, Repr

/-- A move tag that completes, and what error correction finds where the move read the core's data memory (R87). -/
structure TagEnd where
  mt : BitVec 3
  ecc : Ecc
  deriving DecidableEq, Repr

/-- A tile whose site returns a reply, and what parity finds on the reply's way to its core (R93). -/
structure ReplyAt where
  t : Nat
  find : Ecc
  deriving DecidableEq, Repr

/-- What a receiving tile has found in a frame so far (R265, R268): was every codeword correctable, the framing blocks of its head and of
its trailer where one was accepted, has the listener kept lock since E0, and has the frame ended, so that it is judged? -/
structure FrameSeen where
  codewords : Bool
  head : Option (BitVec 512)
  trailer : Option (BitVec 512)
  lock : Bool
  ended : Bool
  deriving DecidableEq, Repr

/-- What a receiver's decoder has counted since the last update of its ring's loop (R495): codewords received, symbols corrected,
uncorrectable codewords, and for an inbox receiver cells discarded. [DESIGN CHOICE, assumption 135, safe] -/
structure FecSeen where
  words : Nat
  fixed : Nat
  bad : Nat
  cells : Nat
  deriving DecidableEq, Repr

/-- What a lock loop finds in one update (R293): the ring's error in MHz, positive above its target, and what a receiver's decoder
has counted. [DESIGN CHOICE, assumption 8, safe] -/
structure LoopSeen where
  err : Int
  fec : FecSeen
  deriving DecidableEq, Repr

/-- What a calibration finds (R300): the modulator's heater and bias codes and its launch power. [DESIGN CHOICE, assumption 8, safe] -/
structure CalFound where
  heater : BitVec 12
  bias : BitVec 10
  power : BitVec 16
  deriving DecidableEq, Repr

/-- The data of a host write, of up to 512 bytes (R401), and what error correction finds in its 8-byte granules, each named by its
number in the write (R87, R390): only a granule that the write covers in part is read. [DESIGN CHOICE, assumption 8, safe] -/
structure BarStore where
  bits : BitVec 4096
  ecc : List (Nat × Ecc)
  deriving DecidableEq, Repr

/-- What regulator telemetry gives beside the core rails, each named by its unit, in tenths of a watt, averaged over 64 µs (R449,
R530): a tower's SRAM, tower-bus and site-link rails together, a stack's supply, and a tile's base-logic and optical supplies together. A
unit that is not named draws nothing. With it comes what the droop detectors have counted since the last update in cycles that no bundle
of a core brings (R447): a region, 9 times its tower and its number, its mild and its severe cycles. [DESIGN CHOICE, assumption 8, safe] -/
structure Telemetry where
  towers : List (Nat × Nat)
  hbms : List (Nat × Nat)
  tiles : List (Nat × Nat)
  droops : List (Nat × Nat × Nat)
  deriving DecidableEq, Repr

/-- What the management controllers hear in a heartbeat period (R508): the primary's heartbeat, and the standby's answer to it. [DESIGN CHOICE, assumption 8, safe] -/
structure Heartbeat where
  primary : Bool
  standby : Bool
  deriving DecidableEq, Repr

/-- How a store write ended on a copy (R459, R522): did its read-back agree, and the temperature of the store die then, in eighths
of a degree. [DESIGN CHOICE, assumption 8, safe] -/
structure CopyEnd where
  ok : Bool
  temp : BitVec 12
  deriving DecidableEq, Repr

/-- A site flit as it arrives: its 256 bytes (R356). -/
abbrev SiteFlit := BitVec 2048

/-- What an open site's agent says in its upward beat flit (R361): beat-ordered done, how many of its sources are late at the
sample and the lowest of them. A compute die's flit says what its cores say. [DESIGN CHOICE, assumption 8, safe] -/
structure AgentSample where
  bo : Bool
  late : Nat
  lowest : Nat
  deriving DecidableEq, Repr

/-- What the bring-up of a returning die finds (R352, R369): its descriptor, the modules that do not train, and whether a step fails
beside that. [DESIGN CHOICE, assumption 8, safe] -/
structure SiteFound where
  desc : BitVec 512
  out : List Nat
  fails : Bool
  deriving DecidableEq, Repr

/-- A tower that comes out of SLEEP, DEEP or OFF, and what a wake from OFF finds as its site trains (R352, R438): the modules that do not,
and whether a step fails beside that. [DESIGN CHOICE, assumption 8, safe] -/
structure Woken where
  w : Nat
  out : List Nat
  fails : Bool
  deriving DecidableEq, Repr

/-- How a failing site-link module comes back (R366). -/
inductive Repair where
  | lane          -- repaired onto a redundant lane
  | half          -- no redundant lane left: retrained at half width
  | dead          -- failed at half width too
  deriving DecidableEq, Repr

/-- What a stack's controller reads of it in a housekeeping round (R375, R382): the temperature in °C, whether that sensor is being
recalibrated (R305), and how many corrections its on-die error correction has reported since the last round (R380).
[DESIGN CHOICE, assumption 8, safe] -/
structure HbmSeen where
  temp : Byte
  stale : Bool
  ondie : Nat
  deriving DecidableEq, Repr

/-- A tower whose SRAM bank has migrated, and the SRAM offsets of the lines whose copy found an uncorrectable error (R386, R391).
[DESIGN CHOICE, assumption 8, safe] -/
structure TsEnd where
  w : Nat
  bad : List Nat
  deriving DecidableEq, Repr

/-- A reference that qualifies, or is back in use after holdover (R417, R418): its port, whether the other one qualifies in the same
cycle, and the other's offset from the one taken, in tenths of a ppm. [DESIGN CHOICE, assumption 8, safe] -/
structure RefSeen where
  r : Nat
  tie : Bool
  off : BitVec 16
  deriving DecidableEq, Repr

/-- A reference whose measured offset from the selected one is `off`, in tenths of a ppm (R417). [DESIGN CHOICE, assumption 8, safe] -/
structure RefOff where
  r : Nat
  off : BitVec 16
  deriving DecidableEq, Repr

/-- A write of CLK_REF_CTL with switch set: by which port, the prefer bit of the same word, and the offset that is measured after the
switch. [DESIGN CHOICE, assumption 8, safe] -/
structure RefSwitch where
  p : Nat
  prefer : Bool
  off : BitVec 16
  deriving DecidableEq, Repr

/-- Where a link goes (R394, R415): into L1 or L0p with an active width, back to L0, into training or into recovery.
[DESIGN CHOICE, assumption 140, safe] -/
inductive LinkMove where
  | l1
  | l0
  | l0p (width : Nat)
  | training
  | recovery
  deriving DecidableEq, Repr

/-- How a requester reaches a port's responder (R413): through its DOE mailbox or as an MCTP message. -/
structure Via where
  p : Nat
  mctp : Bool
  deriving DecidableEq, Repr

/-- What a start step finds (R464, R466, R467): everything well, or the failure it meets. The lists name units that
fail without failing the start. [DESIGN CHOICE, assumption 8, safe] -/
structure StepFinding where
  fail : Option (BitVec 4 × BitVec 4)   -- cause of R467 and the tile it names
  sites : List (Nat × BitVec 512)       -- descriptors read, by tower (step 5)
  badModules : List (Nat × Nat)         -- site-link modules that do not train: tower, module
  badSites : List Nat                   -- towers whose site fails step 5 or 6
  badStacks : List Nat                  -- stacks that fail training
  badCores : List Nat                   -- physical cores that fail self-test: 136·tower + 17·row + position
  badRings : List (Nat × Nat)           -- channels whose ring fails the sweep: trunk number, channel; on an inbox trunk its receiver;
                                        -- from 160 on a listener: 160 and its tile, its number
  badMods : List (Nat × Nat)            -- packet modulators that cannot lock, likewise
  feeds : List Nat                      -- tiles whose GTC feed fails in the tree test
  ref : BitVec 1                        -- reference that qualifies first (step 1)
  badRecs : List (Nat × Nat)            -- store records whose check words fail: the copy's tile, the record's number (step 4)
  badCopies : List Nat                  -- store copies that cannot be read (step 4): tile 0 or 15
  deriving DecidableEq, Repr

/-- A step that finds nothing amiss. -/
def StepFinding.clean : StepFinding := ⟨none, [], [], [], [], [], [], [], [], 0, [], []⟩

/-- A sensed reading of one monitor, rail or junction. -/
abbrev Reading := BitVec 16

/-- The PCIe configuration of a function that a trained link leaves (R396, R406): Bus Master Enable, MSI-X enable and
function mask, the codes of Max_Payload_Size and Max_Read_Request_Size (R401, R409); whether the link partner offers Flit mode
(R395), and the speed code and width that training reaches. [DESIGN CHOICE, assumption 8, safe] -/
structure PortCfg where
  bme : Bool
  msix : Bool
  fmask : Bool
  mps : BitVec 3
  mrrs : BitVec 3
  flit : Bool
  speed : BitVec 3
  width : BitVec 5
  deriving DecidableEq, Repr

end Sys2Proof
end

