-- ==== Sys2Proof/Syntax.lean ====
section
/-! DEFINITION. The commands of the module: one constructor per row of the opcode table. An operand `p` is a port, `t`
a tile, `c` a compute site of the tile, `i` a stand, `g` a global core, `w` a tower, `j` a stack, `h` a home trunk of its
tile, `x` a sequencer context, `off` a BAR0 or BAR2 offset, `n` a size in bytes. -/

namespace Sys2Proof

/-- The commands. -/
inductive Instr where
  -- host register accesses
  | registerWrite (p off n : Nat) (v : BitVec 64)
  | registerLowWordRead (p off n : Nat)
  | registerHighWordRead (p off : Nat)
  | registerLowWordWrite (p off : Nat) (v : BitVec 32)
  | registerHighWordWrite (p off : Nat) (v : BitVec 32)
  -- plan, launch and the run
  | commit (p : Nat)
  | restage (p : Nat)
  | launch (p i : Nat) (v : BitVec 32) (ecc : List (Nat × Ecc))
  | abort (p i : Nat) (v : BitVec 32)
  | programLoadComplete (i : Nat)
  | startMissed (i : Nat)
  | beatGate (i : Nat)
  | gridEdge (i : Nat) (ecc : List (Nat × Nat × Ecc))
  | holdLimit (i : Nat)
  | clearAbandon (i : Nat)
  | wflagHoldLimit (g : Nat)
  | spareLoadComplete (g : Nat)
  | fencedCorePowerOff (g : Nat)
  | levelChangeClockRestart (i : Nat)
  | levelRaiseDividerChange (i : Nat) (rails : List (Nat × Nat))
  | standHandlingSettled (i : Nat)
  -- S slot
  | add (e : Iss) (d a b : R5)
  | sub (e : Iss) (d a b : R5)
  | and (e : Iss) (d a b : R5)
  | or (e : Iss) (d a b : R5)
  | xor (e : Iss) (d a b : R5)
  | shl (e : Iss) (d a b : R5)
  | shr (e : Iss) (d a b : R5)
  | sra (e : Iss) (d a b : R5)
  | mul (e : Iss) (d a b : R5)
  | mulh (e : Iss) (d a b : R5)
  | mulhu (e : Iss) (d a b : R5)
  | slt (e : Iss) (d a b : R5)
  | sltu (e : Iss) (d a b : R5)
  | seq (e : Iss) (d a b : R5)
  | min (e : Iss) (d a b : R5)
  | max (e : Iss) (d a b : R5)
  | minu (e : Iss) (d a b : R5)
  | maxu (e : Iss) (d a b : R5)
  | clz (e : Iss) (d a : R5)
  | popc (e : Iss) (d a : R5)
  | addi (e : Iss) (d a : R5) (imm : BitVec 30)
  | andi (e : Iss) (d a : R5) (imm : BitVec 30)
  | ori (e : Iss) (d a : R5) (imm : BitVec 30)
  | xori (e : Iss) (d a : R5) (imm : BitVec 30)
  | shli (e : Iss) (d a : R5) (imm : BitVec 30)
  | shri (e : Iss) (d a : R5) (imm : BitVec 30)
  | srai (e : Iss) (d a : R5) (imm : BitVec 30)
  | slti (e : Iss) (d a : R5) (imm : BitVec 30)
  | sltui (e : Iss) (d a : R5) (imm : BitVec 30)
  | muli (e : Iss) (d a : R5) (imm : BitVec 30)
  | sliw (e : Iss) (d : R5) (imm : BitVec 32)
  | slih (e : Iss) (d : R5) (imm : BitVec 32)
  | jmp (e : Iss) (target : BitVec 11)
  | beq (e : Iss) (a b : R5) (target : BitVec 11)
  | bne (e : Iss) (a b : R5) (target : BitVec 11)
  | blt (e : Iss) (a b : R5) (target : BitVec 11)
  | bge (e : Iss) (a b : R5) (target : BitVec 11)
  | bltu (e : Iss) (a b : R5) (target : BitVec 11)
  | bgeu (e : Iss) (a b : R5) (target : BitVec 11)
  | jal (e : Iss) (d : R5) (target : BitVec 11)
  | jr (e : Iss) (a : R5)
  | lp (e : Iss) (a : R5) (last : BitVec 11)
  | lpi (e : Iss) (n : BitVec 16) (last : BitVec 11)
  | lcnt (e : Iss) (d : R5)
  | rdcr (e : Iss) (d : R5) (sel : BitVec 8)
  | rdgtc (e : Iss) (d : R5) (sel : BitVec 8)
  | rdhw (e : Iss) (d : R5) (sel : BitVec 8)
  | evt (e : Iss) (sel : BitVec 8)
  | bwait (e : Iss) (a : R5)
  | bdone (e : Iss)
  | coreEnd (e : Iss)
  -- V slot
  | vadd (e : Iss) (f : VF)
  | vsub (e : Iss) (f : VF)
  | vmul (e : Iss) (f : VF)
  | vfma (e : Iss) (f : VF)
  | vmin (e : Iss) (f : VF)
  | vmax (e : Iss) (f : VF)
  | vabs (e : Iss) (f : VF)
  | vneg (e : Iss) (f : VF)
  | vand (e : Iss) (f : VF)
  | vor (e : Iss) (f : VF)
  | vxor (e : Iss) (f : VF)
  | vshl (e : Iss) (f : VF)
  | vshr (e : Iss) (f : VF)
  | vsra (e : Iss) (f : VF)
  | vsel (e : Iss) (f : VF)
  | vcmpeq (e : Iss) (f : VF)
  | vcmpne (e : Iss) (f : VF)
  | vcmplt (e : Iss) (f : VF)
  | vcmple (e : Iss) (f : VF)
  | kand (e : Iss) (f : VF)
  | kor (e : Iss) (f : VF)
  | kxor (e : Iss) (f : VF)
  | knot (e : Iss) (f : VF)
  | vbcast (e : Iss) (f : VF)
  | vperm (e : Iss) (f : VF)
  | vshuf (e : Iss) (f : VF)
  | vrot (e : Iss) (f : VF)
  | vins (e : Iss) (f : VF)
  | vext (e : Iss) (f : VF)
  | vrsum (e : Iss) (f : VF)
  | vrmax (e : Iss) (f : VF)
  | vrmin (e : Iss) (f : VF)
  | vexp (e : Iss) (f : VF)
  | vrcp (e : Iss) (f : VF)
  | vrsqrt (e : Iss) (f : VF)
  | vtanh (e : Iss) (f : VF)
  | vgelu (e : Iss) (f : VF)
  | vstat (e : Iss) (f : VF)
  | vstrd (e : Iss) (f : VF)
  | vstclr (e : Iss) (f : VF)
  | vcvt (e : Iss) (f : VF)
  | vpackmx (e : Iss) (f : VF)
  | vmov (e : Iss) (f : VF)
  | vsplat (e : Iss) (f : VF)
  -- T slot
  | tlda (e : Iss) (f : TF)
  | tldb (e : Iss) (f : TF)
  | tldsc (e : Iss) (f : TF)
  | tmac (e : Iss) (f : TF)
  | tmacz (e : Iss) (f : TF)
  | tmov (e : Iss) (f : TF)
  | tclr (e : Iss) (f : TF)
  | similarityQueueEntry (e : Iss) (o : QOp) (f : TF)
  -- the similarity unit executes the head of a core's queue
  | qld (x : SimAt)
  | qwt (x : SimAt)
  | cbind (x : SimAt)
  | msim (x : SimAt)
  | dseg (x : SimAt)
  | dclose (x : SimAt)
  | tkins (x : SimAt)
  | tkrd (x : SimAt)
  | tkclr (x : SimAt)
  | tkcfg (x : SimAt)
  -- M slot
  | ld (e : Iss) (f : MF)
  | st (e : Iss) (f : MF)
  | vld (e : Iss) (f : MF)
  | vst (e : Iss) (f : MF)
  | tsld (e : Iss) (f : MF) (ecc : Ecc)
  | tsldDataReturn (g : Nat)
  | tsst (e : Iss) (f : MF)
  | bmov (e : Iss) (f : MF) (ecc : List (Nat × Ecc))
  | hmov (e : Iss) (f : MF) (ecc : List (Nat × Ecc))
  | moveTagComplete (g : Nat) (x : TagEnd)
  | mwait (e : Iss) (f : MF)
  | rld (e : Iss) (f : MF)
  | rst (e : Iss) (f : MF)
  | radd (e : Iss) (f : MF)
  | rmax (e : Iss) (f : MF)
  | rmin (e : Iss) (f : MF)
  | rxchg (e : Iss) (f : MF)
  | rcas (e : Iss) (f : MF)
  | rfadd (e : Iss) (f : MF)
  | rredAdd (e : Iss) (f : MF)
  | rredMax (e : Iss) (f : MF)
  | rredMin (e : Iss) (f : MF)
  | rredFadd (e : Iss) (f : MF)
  | rredTopk (e : Iss) (f : MF)
  | mcst (e : Iss) (f : MF)
  | fence (e : Iss) (f : MF)
  | wflag (e : Iss) (f : MF)
  | hxfer (e : Iss) (f : MF)
  | nistat (e : Iss) (f : MF)
  -- packet plane
  | requestArrival (t : Nat)
  | engineCycle (t : Nat) (ecc : List (Nat × Nat × Ecc))
  | replyArrival (x : ReplyAt)
  | confirmArrival (t : Nat)
  | retransmissionTimeout (t : Nat) (src : BitVec 14) (dst : BitVec 4) (number : BitVec 16)
  | routerCycle (t : Nat) (lost : List Nat)
  | combHoldExpiry (t : Nat)
  | laneFence (t q l : Nat)
  -- fabric sequencer
  | seqOpen (t x : Nat) (c : BitVec 8) (st : BitVec 4) (h : BitVec 3) (slot : BitVec 5) (pd : Bool)
  | seqClose (t x : Nat) (c : BitVec 8)
  | seqMcast (t x : Nat) (h : BitVec 3) (slot : BitVec 5) (on : Bool) (mask : BitVec 16)
  | seqSwap (t x : Nat) (h : BitVec 3) (slot : BitVec 5) (ch : BitVec 6)
  | seqPark (t x : Nat) (lst : Bool) (h : BitVec 3) (ch : BitVec 6) (index : BitVec 11)
  | seqBind (t x : Nat) (recv : Bool) (endpoint : BitVec 8) (mask : BitVec 6) (off : BitVec 21) (lines : BitVec 16)
      (ring : BitVec 2)
  | seqUnbind (t x : Nat) (recv : Bool) (endpoint : BitVec 8)
  | seqWait (t x : Nat) (rel : Bool) (v : BitVec 48)
  | seqLoop (t x : Nat) (n : BitVec 2) (count : BitVec 16) (target : BitVec 16)
  | seqJump (t x : Nat) (target : BitVec 12)
  | seqNote (t x : Nat) (v : BitVec 48)
  -- circuits and wavelength control
  | frameVerdict (t x c : Nat) (seen : FrameSeen)
  | framingCodeword (t l : Nat) (blocks : BitVec 2560) (fixed : Bool)
  | relockTimeout (t l : Nat)
  | listenerMoveComplete (t l : Nat) (tag : BitVec 12)
  | lockLoopUpdate (t conv : Nat) (seen : LoopSeen) (dim : Bool) (intruder : Option (Nat × Nat))
  | intruderMessage (tr ch : Nat)
  | rotationStep (t h : Nat)
  | calibrationComplete (t h : Nat) (found : CalFound)
  | heaterSupplyFail (t : Nat)
  | fibreSuddenLoss (t k : Nat)
  | fibreSwitch (t k : Nat)
  | fibreSwitchComplete (t : Nat)
  | pilotMissing (t k : Nat)
  | ilkClose (conn : BitVec 3) (pilot : BitVec 48)
  | rampTimeout (taps : List Reading)
  | opticalReady
  | ilkOpenRequest (p : Nat)
  | closeReq (p : Nat)
  | monitorReading (p t : Nat)
  | monitorReadingDone (t : Nat) (v : Reading)
  -- site links
  | siteFlitReceive (t c m : Nat) (flit : SiteFlit)
  | streamBind (t c : Nat) (n : BitVec 8) (recv : Bool) (off lines ring : Nat) (beat : BitVec 64)
  | streamUnbind (t c : Nat) (n : BitVec 8)
  | programImage (t c src len : Nat)
  | standStart (t c i : Nat)
  | standEnd (t c : Nat) (code : BitVec 8)
  | agentFault (t c : Nat) (code : BitVec 8) (src : BitVec 8)
  | linkEvent (t c m cause : Nat)
  | beatFlitDown (t c : Nat) (dieGtc : BitVec 64)
  | beatFlitUp (t c : Nat) (agentDone : Bool) (agent : AgentSample)
  | siteModuleFailure (t c m : Nat)
  | moduleRetrainComplete (t c m : Nat) (how : Repair)
  | siteLinkDown (t c : Nat)
  | siteLinkReturn (t c : Nat) (desc : SiteFound) (badCores : List Nat)
  -- HBM and tower SRAM
  | hbmRefresh (j : Nat) (x : HbmSeen)
  | hardRepair (j row : Nat)
  | migrationComplete (j : Nat) (bad : List Nat)
  | towerSramMigrationComplete (x : TsEnd)
  -- host interface
  | bar2Read (p off n : Nat) (ecc : List (Nat × Ecc))
  | bar2ReadTimeout (p off n : Nat)
  | bar2Write (p off n : Nat) (v : BarStore)
  | atomicopRequest (p : Nat)
  | perstAssert (p : Nat)
  | perstDeassert (p : Nat) (ref : Bool) (cfg : PortCfg)
  | hotReset (p : Nat)
  | pcieLinkDown (p : Nat)
  | cablePresenceChange (p : Nat) (present : Bool)
  | d3hotEntry (p : Nat)
  | d0Return (p : Nat)
  | msixPendingSend (p v : Nat) (cfg : PortCfg)
  | hxferComplete (g : Nat) (mt : BitVec 3) (kind : Nat) (data : List (BitVec 512)) (ecc : List (Nat × Ecc))
  | setEndpointId (p : Nat) (eid : Byte)
  | doeDiscovery (p : Nat) (index : Byte)
  | negotiateAlgorithms (v : Via) (sm2 sm3 : Bool)
  | getCertificate (v : Via) (slot off n : Nat)
  | challenge (v : Via) (slot : Nat) (nonce : BitVec 256)
  | getMeasurements (v : Via) (index : Nat) (signed : Bool) (nonce : BitVec 256)
  | mctpUnsupportedType (p : Nat) (ty : Byte)
  -- clocks
  | referenceLost (r : Nat)
  | referenceQualified (x : RefSeen) (ppm : BitVec 16)
  | switchRef (x : RefSwitch)
  | switchForcedComplete
  | holdoverExpiry
  | referenceAccepted (x : RefSeen) (lo hi : BitVec 32)
  | tileFeedFault (t : Nat)
  -- supply, temperature and power
  | powerUp (vin : BitVec 12)
  | powerRemoval
  | inputOvervoltage (vin : BitVec 12)
  | supplyHigh (vin : BitVec 12)
  | supplyLowExcursion (vin : BitVec 12)
  | supplyLowTimeout
  | supplyReturn (vin : BitVec 12)
  | inputLockout (vin : BitVec 12)
  | inputReenable (vin : BitVec 12)
  | thermalTrip (tower layer tile : Nat) (hbm : Bool)
  | tripRecordWrite
  | housekeepingMeasure (t ch : Nat) (v : BitVec 12)
  | suspectRecalibrationEnd (t ch : Nat) (v : BitVec 12)
  | powerManagerUpdate (rails : List (Nat × Nat × Nat)) (draws : Telemetry) (input : Nat)
  | moduleThrottle (input : Nat)
  | moduleThrottleEscalate (input : Nat)
  | moduleThrottleEnd (input : Nat)
  | standTargetWrite (p i : Nat) (v : BitVec 32)
  | idleDelayExpiry (i : Nat)
  | powerEntryStepComplete (i : Nat)
  | towerWakeStart (i : Nat)
  | wakeComplete (x : Woken)
  | serviceRecordInterval
  | deadwoodRetry
  -- start and reset
  | startCold (p : Nat)
  | startWarm (p : Nat) (bist : Bool)
  | startStepComplete (f : StepFinding)
  | tileWarmStartRequest (p : Nat) (v : BitVec 32)
  | tileWarmStartComplete (t : Nat)
  -- errors, counters and telemetry
  | errPop (p : Nat)
  | sampleCapture (t c arm : Nat)
  | samplePop (p t : Nat) (k : BitVec 7)
  | congestionPeriodBoundary
  | congestionMapComplete (late : BitVec 16)
  -- security and store
  | nvsWriteComplete (c0 c15 : CopyEnd)
  | bootGo (p : Nat)
  | imageFetchComplete (ok : Bool) (bytes : List Byte)
  | raiseSvn (p : Nat)
  | controllerHeartbeat (x : Heartbeat)
  | controllerTakeover
  | tapArm (p : Nat) (v : BitVec 32)
  | tapOpen (p : Nat)
  | idcode
  | bypass (bit : Bool)
  | reprovisioning (keys : List (Nat × List Byte)) (certs : List (List Byte)) (serial : BitVec 64)
  -- the further rows
  | emptyBundle (e : Iss)
  | levelChangeComplete (i : Nat) (rails : List (Nat × Nat))
  | referenceDisqualified (x : RefOff)
  | fullPowerReached (taps : List Reading)
  | modulatorRelockTimeout (tr ch : Nat)
  | settingsRetry
  | hardRepairComplete (j : Nat)
  | startStepTimeout (tile : BitVec 4)
  | bar2Resize (p size : Nat)
  | aspmL1Transition (p : Nat) (x : LinkMove)
  | getVersion (v : Via)
  | getCapabilities (v : Via)
  deriving DecidableEq, Repr

end Sys2Proof
end

