-- ==== Sys2Proof/Decode.lean ====
section
/-! DEFINITION. The commands that table words spell: no row of the opcode table has bits. -/

namespace Sys2Proof

/-- The command that a word of `nbits` bits spells by the table's bits; the table gives its rows none. [DESIGN CHOICE, assumption 4, safe] -/
def decodeTableWord (_nbits _w : Nat) : Option Instr := none

end Sys2Proof
end

