-- ==== Sys2Proof/Machine/Hash.lean ====
section
/-! DEFINITION. The digests and checks that the spec names and does not define: SM3 (GB/T 32905), CRC-32C and the SM2
verification equation over the curve of GB/T 32918.5. PRESUMED: the spec's words for them are their names alone
(assumption 24). A digest is held as the 256-bit number whose byte 0, the least significant, is the digest's first byte
(R6). -/

namespace Sys2Proof.Machine

/-! ### SM3 -/

/-- A 32-bit rotation to the left. -/
def rotl (x n : Nat) : Nat := (x <<< (n % 32)) % 2 ^ 32 ||| (x % 2 ^ 32) >>> (32 - n % 32)

/-- The message permutations P0 and P1. -/
def sm3P0 (x : Nat) : Nat := x ^^^ rotl x 9 ^^^ rotl x 17
def sm3P1 (x : Nat) : Nat := x ^^^ rotl x 15 ^^^ rotl x 23

/-- The next expanded word from the sixteen before it, the newest first. -/
def sm3Word (ws : List Nat) : Nat :=
  let w := fun n => ws.getD (n - 1) 0
  sm3P1 (w 16 ^^^ w 9 ^^^ rotl (w 3) 15) ^^^ rotl (w 13) 7 ^^^ w 6

/-- The expanded words, newest first, `n` more of them. -/
def sm3Expand : Nat → List Nat → List Nat
  | 0, ws => ws
  | n + 1, ws => sm3Expand n (sm3Word ws :: ws)

/-- One round `j` on the eight working words. -/
def sm3Round (v : List Nat) (j w w4 : Nat) : List Nat :=
  match v with
  | [a, b, c, d, e, f, g, h] =>
    let t := if j < 16 then 0x79cc4519 else 0x7a879d8a
    let ss1 := rotl ((rotl a 12 + e + rotl t j) % 2 ^ 32) 7
    let ss2 := ss1 ^^^ rotl a 12
    let ff := if j < 16 then a ^^^ b ^^^ c else (a &&& b) ||| (a &&& c) ||| (b &&& c)
    let gg := if j < 16 then e ^^^ f ^^^ g else (e &&& f) ||| ((e ^^^ 0xFFFF_FFFF) &&& g)
    let tt1 := (ff + d + ss2 + (w ^^^ w4)) % 2 ^ 32
    let tt2 := (gg + h + ss1 + w) % 2 ^ 32
    [tt1, a, rotl b 9, c, sm3P0 tt2, e, rotl f 19, g]
  | _ => v

/-- The rounds from `j` on, over the expanded words, oldest first. -/
def sm3Rounds : Nat → Nat → List Nat → List Nat → List Nat
  | 0, _, v, _ => v
  | n + 1, j, v, ws =>
    match ws with
    | [] => v
    | w :: rest => sm3Rounds n (j + 1) (sm3Round v j w (rest.getD 3 0)) rest

/-- The compression function on one block of sixteen words, oldest first. -/
def sm3Block (v : List Nat) (blk : List Nat) : List Nat :=
  let ws := (sm3Expand 52 blk.reverse).reverse
  (sm3Rounds 64 0 v ws).zipWith (· ^^^ ·) v

/-- Big-endian 32-bit words of bytes. -/
def beWords : List Nat → List Nat
  | a :: b :: c :: d :: rest => (a * 2 ^ 24 + b * 2 ^ 16 + c * 2 ^ 8 + d) :: beWords rest
  | _ => []

/-- Blocks of sixteen words, `n` of them. -/
def sm3Blocks : Nat → List Nat → List Nat → List Nat
  | 0, _, v => v
  | n + 1, ws, v => sm3Blocks n (ws.drop 16) (sm3Block v (ws.take 16))

/-- The bytes of a number, most significant first. -/
def beBytes : Nat → Nat → List Nat
  | 0, _ => []
  | n + 1, v => v / 256 ^ n % 256 :: beBytes n v

/-- The padded message. -/
def sm3Pad (m : List Nat) : List Nat :=
  m ++ 0x80 :: List.replicate ((119 - m.length % 64) % 64) 0 ++ beBytes 8 (8 * m.length)

/-- The initial value. -/
def sm3Init : List Nat :=
  [0x7380166f, 0x4914b2b9, 0x172442d7, 0xda8a0600, 0xa96f30bc, 0x163138aa, 0xe38dee4d, 0xb0fb0e4e]

/-- The 32 digest bytes of a message. -/
def sm3Bytes (m : List Nat) : List Nat :=
  let p := sm3Pad m
  (sm3Blocks (p.length / 64) (beWords p) sm3Init).flatMap (beBytes 4)

/-- A little-endian number of bytes. -/
def leNat : List Nat → Nat
  | [] => 0
  | b :: rest => b % 256 + 256 * leNat rest

/-- The low `n` bytes of a number, least significant first. -/
def leBytes : Nat → Nat → List Nat
  | 0, _ => []
  | n + 1, v => v % 256 :: leBytes n (v / 256)

/-- SM3 of a message as a 256-bit number. [PRESUMED, assumption 24, unsafe] -/
def sm3 (m : List Nat) : BitVec 256 := BitVec.ofNat 256 (leNat (sm3Bytes m))

/-! ### CRC-32C -/

/-- Eight steps of the reflected polynomial. -/
def crcBits : Nat → Nat → Nat
  | 0, c => c
  | n + 1, c => crcBits n (if c % 2 = 1 then (c / 2) ^^^ 0x82F63B78 else c / 2)

/-- CRC-32C of a message. [PRESUMED, assumption 24, unsafe] -/
def crc32c (m : List Nat) : Nat := (m.foldl (fun c b => crcBits 8 (c ^^^ b % 256)) 0xFFFF_FFFF) ^^^ 0xFFFF_FFFF

/-! ### SM2 verification -/

def sm2p : Nat := 0xFFFFFFFEFFFFFFFFFFFFFFFFFFFFFFFFFFFFFFFF00000000FFFFFFFFFFFFFFFF
def sm2a : Nat := 0xFFFFFFFEFFFFFFFFFFFFFFFFFFFFFFFFFFFFFFFF00000000FFFFFFFFFFFFFFFC
def sm2b : Nat := 0x28E9FA9E9D9F5E344D5A9E4BCF6509A7F39789F515AB8F92DDBCBD414D940E93
def sm2n : Nat := 0xFFFFFFFEFFFFFFFFFFFFFFFFFFFFFFFF7203DF6B21C6052B53BBF40939D54123
def sm2gx : Nat := 0x32C4AE2C1F1981195F9904466A39C9948FE30BBFF2660BE1715A4589334C74C7
def sm2gy : Nat := 0xBC3736A2F4F6779C59BDCEE36B692153D0A9877CC62A474002DF32E52139F0A0

/-- A power modulo the field prime, by the bits of the exponent. -/
def modPow : Nat → Nat → Nat → Nat
  | 0, _, _ => 1
  | k + 1, b, e => let r := modPow k (b * b % sm2p) (e / 2); if e % 2 = 1 then b * r % sm2p else r

/-- The inverse modulo the field prime. -/
def fieldInv (x : Nat) : Nat := modPow 256 (x % sm2p) (sm2p - 2)

/-- A point in projective coordinates (x : y : z); z = 0 is the point at infinity. -/
structure Pt where
  x : Nat
  y : Nat
  z : Nat
  deriving DecidableEq, Repr

/-- Subtraction modulo the field prime. -/
def fsub (a b : Nat) : Nat := (a + (sm2p - b % sm2p)) % sm2p

/-- Point doubling. -/
def Pt.dbl (p : Pt) : Pt :=
  if p.z = 0 ∨ p.y = 0 then ⟨0, 1, 0⟩
  else
    let w := (sm2a * (p.z * p.z % sm2p) + 3 * (p.x * p.x % sm2p)) % sm2p
    let q := p.y * p.z % sm2p
    let b := p.x * p.y % sm2p * q % sm2p
    let h := fsub (w * w % sm2p) (8 * b)
    let y2q2 := (p.y * p.y % sm2p) * (q * q % sm2p) % sm2p
    ⟨2 * h * q % sm2p, fsub (w * fsub (4 * b) h % sm2p) (8 * y2q2), 8 * (q * q % sm2p * q) % sm2p⟩

/-- Point addition. -/
def Pt.add (p q : Pt) : Pt :=
  if p.z = 0 then q
  else if q.z = 0 then p
  else
    let u := fsub (q.y * p.z % sm2p) (p.y * q.z)
    let v := fsub (q.x * p.z % sm2p) (p.x * q.z)
    if v = 0 then (if u = 0 then p.dbl else ⟨0, 1, 0⟩)
    else
      let zz := p.z * q.z % sm2p
      let v2 := v * v % sm2p
      let v3 := v2 * v % sm2p
      let r := v2 * (p.x * q.z % sm2p) % sm2p
      let h := fsub (fsub (u * u % sm2p * zz % sm2p) v3) (2 * r)
      ⟨v * h % sm2p, fsub (u * fsub r h % sm2p) (v3 * (p.y * q.z % sm2p)), v3 * zz % sm2p⟩

/-- A multiple of a point, by the bits of the factor. -/
def Pt.mul : Nat → Nat → Pt → Pt
  | 0, _, _ => ⟨0, 1, 0⟩
  | k + 1, n, p => let r := Pt.mul k (n / 2) p.dbl; if n % 2 = 1 then r.add p else r

/-- The verification equation of SM2: digest `e`, signature (r, s), public key (x, y), all as numbers. [PRESUMED, assumption 24, unsafe] -/
def sm2Verify (e r s x y : Nat) : Bool :=
  let t := (r + s) % sm2n
  if r = 0 ∨ r ≥ sm2n ∨ s = 0 ∨ s ≥ sm2n ∨ t = 0 then false
  else
    let p := (Pt.mul 256 s ⟨sm2gx, sm2gy, 1⟩).add (Pt.mul 256 t ⟨x, y, 1⟩)
    decide (p.z ≠ 0) && decide ((e + p.x * fieldInv p.z % sm2p) % sm2n = r)

end Sys2Proof.Machine
end

