-- ==== Sys2Proof/Config.lean ====
section
/-! DEFINITION. What the spec leaves open: constants without a body, applied to a counter of the state or to operands,
so that no proof can see what they are (notes/assumptions names each use). -/

namespace Sys2Proof.Config

/-- A free bit for each use (R3: each choice is made independently). [DESIGN CHOICE, assumption 7, safe] -/
opaque freeBit : Nat → Bool

/-- Does a tile's time counter run before tile 0's, or behind it (R429)? [DESIGN CHOICE, assumption 32, unsafe] -/
opaque tileAhead : Nat → Bool

/-- Has a tile's time counter not yet, or already, taken the step that tile 0's has taken at a value of GTC (R429, R484)? [DESIGN CHOICE,
assumption 157, safe] -/
opaque tileApart : Nat → Nat → Bool

/-- The level at which the clock of a selection of CLK_OBS_SEL stands while it is stopped (R424, R433). [DESIGN CHOICE, assumption 147, unsafe] -/
opaque clockLevel : Nat → Bool

/-- A free 64-bit word. -/
opaque freeWord : Nat → BitVec 64

/-- A free 64-byte line. -/
opaque freeLine : Nat → BitVec 512

/-- A free natural number, bounded where it is used. -/
opaque freeNat : Nat → Nat

/-- A free 256-bit value: nonces, keys and signature halves that the security controller makes. -/
opaque freeKey : Nat → BitVec 256

/-- The thermal resistance of a tower's layer 1 in mK/W, of its calibration record: 420 to 580 (R453). [DESIGN CHOICE, assumption 15, safe] -/
opaque theta : Nat → Nat

/-- A tile's part of the cold-resonance map (R309): pairs of trunk number and channel. [DESIGN CHOICE, assumption 15, safe] -/
opaque coldMap : Nat → List (Nat × Nat)

/-- The feed-forward term of a ring's loop in heater codes (R293): what the model of the record predicts from the power telemetry of the
upper dies, in tenths of a watt by tower. [DESIGN CHOICE, assumption 15, safe] -/
opaque feedForward : Nat → Nat → List Nat → Int

/-- The term in heater codes that a parked listener takes from its tile's housekeeping temperatures (R293). [DESIGN CHOICE, assumption 15, safe] -/
opaque openLoop : Nat → Nat → List Nat → Int

/-- The park code that a tile's hold latches keep for a listener heater's converter (R308). [DESIGN CHOICE, assumption 15, safe] -/
opaque parkCode : Nat → Nat → BitVec 12

/-- The vendor public key record that manufacture wrote for a slot (R505, R517), empty where the slot holds no key. [DESIGN CHOICE, assumption 15, safe] -/
opaque vendorKey : Nat → List (BitVec 8)

/-- The module's public identity key, made from an identity private key that never leaves the controller. [DESIGN CHOICE, assumption 15, safe] -/
opaque publicKey : BitVec 256 → BitVec 512

/-- The factory calibration record of a tile (R517). [DESIGN CHOICE, assumption 15, safe] -/
opaque factoryCal : Nat → List (BitVec 8)

/-- The identity private key that manufacture generated (R510). [DESIGN CHOICE, assumption 15, safe] -/
opaque identityKey : BitVec 256

/-- The module's serial number at manufacture (R510). [DESIGN CHOICE, assumption 15, safe] -/
opaque serial : BitVec 64

/-- The private keys of the Itaux root (0) and of the Itaux Gwearadra device CA (1), which the module does not hold. [DESIGN CHOICE, assumption 15, safe] -/
opaque issuerKey : Nat → BitVec 256

/-- The body of the root's (0) and of the device CA's (1) certificate. [DESIGN CHOICE, assumption 15, safe] -/
opaque caBody : Nat → List (BitVec 8)

/-- The body of a device certificate that names a part number and a serial number and carries a public key. [DESIGN CHOICE, assumption 15, safe] -/
opaque deviceBody : List (BitVec 8) → BitVec 64 → BitVec 512 → List (BitVec 8)

/-- The X.509 v3 certificate in DER of a body and a signature over it. [DESIGN CHOICE, assumption 15, safe] -/
opaque der : List (BitVec 8) → BitVec 512 → List (BitVec 8)

/-- An SM2 signature by a private key over an SM3 digest (R510). [DESIGN CHOICE, assumption 15, safe] -/
opaque sign : BitVec 256 → BitVec 256 → BitVec 512

end Sys2Proof.Config
end

