-- ==== Sys2Proof/Machine/RegTable.lean ====
section
/-! DEFINITION. The register tables of the spec's chapters as data: each register's place, width and fields with their
access codes and Cold and Warm values (R7, R10 to R12). A field not listed is reserved (R14). A Cold entry that is not
a number stands as 0 here; what sets it at a start is in the start procedure. -/

namespace Sys2Proof.Machine

/-- The access codes of R10. -/
inductive Access where
  | ro | rw | wo | w1c | w1s | rws
  deriving DecidableEq, Repr

/-- What a warm start does to a field (R11, R12): writes a value, or leaves it to its own rule. -/
inductive Warm where
  | val (n : Nat)
  | keep
  deriving DecidableEq, Repr

/-- A field: low bit, width, access, Cold value, Warm value. -/
structure FieldSpec where
  lo : Nat
  w : Nat
  acc : Access
  cold : Nat
  warm : Warm
  deriving DecidableEq, Repr

/-- A family of registers of one layout: the first one's address, the counts and strides of its dimensions, whether it
is 64 bits wide, and its fields. -/
structure RegSpec where
  base : Nat
  dims : List (Nat × Nat)
  wide : Bool
  fields : List FieldSpec
  deriving DecidableEq, Repr

/-- MGT_BOUNDARY, MGT_PLAN_CTL, MGT_PLAN_STATUS, MGT_PLAN_GEN, MGT_BL_SUPPORT, STD_PROG_DESC, STD_PARAM, STD_START, STD_LAUNCH_CFG, STD_LAUNCH, STD_STATUS, STD_TAG_RUN. -/
def regTable0 : List RegSpec := [
  ⟨0x200, [], false, [⟨0, 1, .ro, 0, .keep⟩, ⟨1, 1, .ro, 0, .keep⟩, ⟨2, 3, .ro, 0, .keep⟩, ⟨5, 1, .ro, 0, .keep⟩, ⟨6, 1, .w1c, 0, .keep⟩, ⟨7, 1, .ro, 0, .val 0⟩, ⟨8, 1, .w1c, 0, .keep⟩, ⟨9, 1, .w1c, 0, .keep⟩, ⟨16, 12, .ro, 0, .keep⟩, ⟨28, 1, .ro, 0, .keep⟩]⟩,
  ⟨0x300, [], false, [⟨0, 1, .wo, 0, .val 0⟩, ⟨1, 1, .wo, 0, .val 0⟩]⟩,
  ⟨0x304, [], false, [⟨0, 4, .ro, 0, .keep⟩, ⟨4, 1, .ro, 0, .val 0⟩, ⟨5, 1, .ro, 0, .keep⟩, ⟨6, 1, .ro, 0, .keep⟩]⟩,
  ⟨0x308, [], false, [⟨0, 32, .ro, 0, .keep⟩]⟩,
  ⟨0x30C, [], false, [⟨0, 32, .ro, 1, .val 1⟩]⟩,
  ⟨0x1000000, [(16, 0x100000)], true, [⟨0, 48, .rw, 0, .keep⟩]⟩,
  ⟨0x1000008, [(16, 0x100000)], true, [⟨0, 48, .rw, 0, .keep⟩]⟩,
  ⟨0x1000010, [(16, 0x100000)], true, [⟨0, 64, .rw, 0, .keep⟩]⟩,
  ⟨0x1000018, [(16, 0x100000)], false, [⟨0, 8, .rw, 0, .keep⟩, ⟨8, 9, .rw, 16, .keep⟩]⟩,
  ⟨0x100001C, [(16, 0x100000)], false, [⟨0, 4, .wo, 0, .val 0⟩, ⟨16, 16, .wo, 0, .val 0⟩]⟩,
  ⟨0x1000020, [(16, 0x100000)], false, [⟨0, 3, .ro, 0, .val 0⟩, ⟨8, 8, .ro, 0, .keep⟩, ⟨16, 8, .ro, 0, .val 0⟩]⟩,
  ⟨0x1000024, [(16, 0x100000)], false, [⟨0, 16, .ro, 0, .keep⟩]⟩]

/-- STD_BEATS, STD_FAIL_BEAT, STD_HOLDS, STD_DIGEST, STD_HOST_WORD, CORE_DIE_ID, CORE_ROW_MAP, CORE_STATE, CORE_FAULT, CORE_XFIFO, CORE_ECC_CORR, STD_GATE_LEVEL. -/
def regTable1 : List RegSpec := [
  ⟨0x1000028, [(16, 0x100000)], true, [⟨0, 64, .ro, 0, .keep⟩]⟩,
  ⟨0x1000038, [(16, 0x100000)], true, [⟨0, 64, .ro, 18446744073709551615, .keep⟩]⟩,
  ⟨0x1000030, [(16, 0x100000)], false, [⟨0, 32, .ro, 0, .keep⟩]⟩,
  ⟨0x1000040, [(16, 0x100000), (8, 0x4)], false, [⟨0, 32, .ro, 0, .keep⟩]⟩,
  ⟨0x1000100, [(16, 0x100000), (16, 0x8)], true, [⟨0, 64, .rw, 0, .val 0⟩]⟩,
  ⟨0x100400000, [(16, 0x100000000), (6, 0x10000)], false, [⟨0, 7, .ro, 0, .keep⟩, ⟨8, 8, .ro, 0, .keep⟩, ⟨16, 1, .ro, 0, .keep⟩]⟩,
  ⟨0x100400100, [(16, 0x100000000), (6, 0x10000), (8, 0x8)], true, [⟨0, 17, .ro, 0, .keep⟩, ⟨32, 17, .ro, 0, .keep⟩]⟩,
  ⟨0x100400200, [(16, 0x100000000), (6, 0x10000), (136, 0x4)], false, [⟨0, 3, .ro, 0, .keep⟩, ⟨8, 4, .ro, 0, .keep⟩, ⟨12, 1, .ro, 0, .val 0⟩, ⟨13, 1, .ro, 0, .val 0⟩]⟩,
  ⟨0x100400600, [(16, 0x100000000), (6, 0x10000)], false, [⟨0, 8, .ro, 0, .keep⟩, ⟨8, 4, .ro, 0, .keep⟩, ⟨12, 1, .w1c, 0, .keep⟩, ⟨13, 1, .w1c, 0, .keep⟩]⟩,
  ⟨0x100400700, [(16, 0x100000000), (6, 0x10000), (9, 0x4)], false, [⟨0, 16, .ro, 0, .val 0⟩]⟩,
  ⟨0x100400800, [(16, 0x100000000), (6, 0x10000)], false, [⟨0, 32, .ro, 0, .keep⟩]⟩,
  ⟨0x1000, [(16, 0x20)], false, [⟨0, 3, .ro, 7, .keep⟩, ⟨3, 3, .ro, 7, .keep⟩, ⟨6, 1, .ro, 0, .val 0⟩]⟩]

/-- STD_HOLD_LAST, STD_HOLD_RUN, STD_CLEARINGS, STD_NEXT_CLEAR, STD_CLEAR_ABANDON, FAB_CTX_STATUS, FAB_CTX_WAIT, FAB_CTX_ERR, FAB_CTX_REPEAT, FAB_CTX_LISTEN, FAB_CIRC, OPT_SLOT_MAP. -/
def regTable2 : List RegSpec := [
  ⟨0x1004, [(16, 0x20)], false, [⟨0, 1, .ro, 0, .keep⟩, ⟨1, 1, .ro, 0, .keep⟩, ⟨2, 1, .ro, 0, .keep⟩, ⟨3, 1, .ro, 0, .keep⟩, ⟨4, 14, .ro, 16383, .keep⟩, ⟨18, 4, .ro, 0, .keep⟩]⟩,
  ⟨0x1008, [(16, 0x20)], false, [⟨0, 16, .ro, 0, .keep⟩, ⟨16, 16, .ro, 0, .keep⟩]⟩,
  ⟨0x100C, [(16, 0x20)], false, [⟨0, 32, .ro, 0, .keep⟩]⟩,
  ⟨0x1010, [(16, 0x20)], true, [⟨0, 64, .ro, 18446744073709551615, .val 18446744073709551615⟩]⟩,
  ⟨0x1018, [(16, 0x20)], false, [⟨0, 16, .ro, 0, .keep⟩]⟩,
  ⟨0x100100000, [(16, 0x100000000), (7, 0x20)], false, [⟨0, 4, .ro, 0, .val 0⟩, ⟨4, 3, .ro, 0, .val 0⟩, ⟨8, 12, .ro, 0, .val 0⟩]⟩,
  ⟨0x100100008, [(16, 0x100000000), (7, 0x20)], true, [⟨0, 64, .ro, 18446744073709551615, .val 18446744073709551615⟩]⟩,
  ⟨0x100100010, [(16, 0x100000000), (7, 0x20)], false, [⟨0, 8, .ro, 0, .keep⟩, ⟨8, 12, .ro, 0, .keep⟩, ⟨20, 1, .w1c, 0, .keep⟩]⟩,
  ⟨0x100100014, [(16, 0x100000000), (7, 0x20)], false, [⟨0, 32, .ro, 0, .keep⟩]⟩,
  ⟨0x100100018, [(16, 0x100000000), (7, 0x20)], false, [⟨0, 9, .ro, 0, .val 0⟩, ⟨16, 9, .ro, 0, .val 0⟩]⟩,
  ⟨0x100101000, [(16, 0x100000000), (6, 0x800), (256, 0x8)], true, [⟨0, 1, .ro, 0, .val 0⟩, ⟨1, 1, .ro, 0, .val 0⟩, ⟨2, 1, .ro, 0, .val 0⟩, ⟨3, 1, .ro, 0, .val 0⟩, ⟨4, 4, .ro, 0, .val 0⟩, ⟨8, 3, .ro, 0, .val 0⟩, ⟨11, 5, .ro, 0, .val 0⟩, ⟨16, 11, .ro, 0, .val 0⟩, ⟨27, 1, .ro, 0, .val 0⟩, ⟨32, 32, .ro, 0, .val 0⟩]⟩,
  ⟨0x100200000, [(16, 0x100000000), (8, 0x40), (8, 0x4)], false, [⟨0, 6, .ro, 0, .keep⟩, ⟨6, 1, .ro, 0, .val 0⟩, ⟨8, 6, .ro, 0, .keep⟩, ⟨14, 1, .ro, 0, .val 0⟩, ⟨16, 6, .ro, 0, .keep⟩, ⟨22, 1, .ro, 0, .val 0⟩, ⟨24, 6, .ro, 0, .keep⟩, ⟨30, 1, .ro, 0, .val 0⟩]⟩]

/-- OPT_TRUNK_STATE, OPT_CH_FENCED, OPT_CH_HALF, OPT_CH_PARKED, OPT_RX_STATUS, OPT_SPARE_LISTEN, OPT_ROT_CFG, OPT_LOCK_EVENTS, OPT_MOD_PARK_LAST, OPT_HOLD_STATE, OPT_MON_SEL, OPT_MON_DATA. -/
def regTable3 : List RegSpec := [
  ⟨0x100200020, [(16, 0x100000000), (8, 0x40)], false, [⟨0, 6, .ro, 0, .keep⟩, ⟨6, 6, .ro, 63, .val 63⟩, ⟨12, 5, .ro, 0, .val 0⟩, ⟨17, 1, .ro, 0, .val 0⟩]⟩,
  ⟨0x100200028, [(16, 0x100000000), (8, 0x40)], true, [⟨0, 33, .ro, 0, .keep⟩]⟩,
  ⟨0x100200030, [(16, 0x100000000), (8, 0x40)], true, [⟨0, 33, .ro, 0, .val 0⟩]⟩,
  ⟨0x100200038, [(16, 0x100000000), (8, 0x40)], true, [⟨0, 33, .ro, 0, .keep⟩]⟩,
  ⟨0x100200400, [(16, 0x100000000)], false, [⟨0, 9, .ro, 0, .val 0⟩, ⟨16, 11, .ro, 0, .keep⟩]⟩,
  ⟨0x100200410, [(16, 0x100000000), (4, 0x4)], false, [⟨0, 32, .ro, 0, .keep⟩]⟩,
  ⟨0x100210000, [(16, 0x100000000)], false, [⟨0, 16, .rw, 2000, .keep⟩, ⟨16, 1, .rw, 1, .keep⟩]⟩,
  ⟨0x100210004, [(16, 0x100000000)], false, [⟨0, 8, .ro, 0, .keep⟩, ⟨8, 8, .ro, 0, .keep⟩, ⟨16, 8, .ro, 0, .keep⟩, ⟨24, 8, .ro, 0, .keep⟩]⟩,
  ⟨0x100210008, [(16, 0x100000000)], false, [⟨0, 8, .ro, 0, .keep⟩, ⟨8, 6, .ro, 0, .keep⟩, ⟨14, 1, .ro, 0, .keep⟩, ⟨15, 1, .w1c, 0, .keep⟩]⟩,
  ⟨0x10021000C, [(16, 0x100000000)], false, [⟨0, 1, .ro, 0, .val 0⟩, ⟨1, 1, .ro, 0, .val 0⟩, ⟨2, 1, .ro, 0, .val 0⟩, ⟨3, 1, .w1c, 0, .keep⟩]⟩,
  ⟨0x100210010, [(16, 0x100000000)], false, [⟨0, 2, .rw, 0, .keep⟩, ⟨2, 11, .rw, 0, .keep⟩, ⟨13, 2, .rw, 0, .keep⟩, ⟨15, 1, .wo, 0, .val 0⟩]⟩,
  ⟨0x100210014, [(16, 0x100000000)], false, [⟨0, 16, .ro, 0, .val 0⟩, ⟨16, 1, .ro, 0, .val 0⟩, ⟨17, 1, .ro, 0, .val 0⟩]⟩]

/-- OPT_FIBRE, OPT_CH_CAL_COUNT, OPT_CH_CAL_GTC, MGT_TRIM_SEL, MGT_TRIM_DATA, MGT_TRIM_COUNT, MGT_TRIM_GTC, OPT_ILK_CTL, OPT_ILK_STATUS, PKT_CFG, PKT_EJECT, PKT_POOL. -/
def regTable4 : List RegSpec := [
  ⟨0x100210020, [(16, 0x100000000), (3, 0x4)], false, [⟨0, 10, .ro, 0, .keep⟩, ⟨10, 1, .ro, 0, .keep⟩, ⟨11, 1, .ro, 0, .keep⟩, ⟨12, 1, .ro, 0, .keep⟩, ⟨13, 1, .w1c, 0, .keep⟩, ⟨14, 1, .ro, 0, .keep⟩, ⟨15, 1, .ro, 0, .val 0⟩]⟩,
  ⟨0x100211000, [(16, 0x100000000), (8, 0x400), (33, 0x10)], false, [⟨0, 32, .ro, 0, .keep⟩]⟩,
  ⟨0x100211008, [(16, 0x100000000), (8, 0x400), (33, 0x10)], true, [⟨0, 64, .ro, 0, .keep⟩]⟩,
  ⟨0x100214000, [(16, 0x100000000)], false, [⟨0, 12, .rw, 0, .keep⟩]⟩,
  ⟨0x100214004, [(16, 0x100000000)], false, [⟨0, 12, .ro, 0, .keep⟩, ⟨12, 1, .ro, 0, .val 0⟩]⟩,
  ⟨0x100214008, [(16, 0x100000000)], false, [⟨0, 32, .ro, 0, .keep⟩]⟩,
  ⟨0x100214010, [(16, 0x100000000)], true, [⟨0, 64, .ro, 0, .keep⟩]⟩,
  ⟨0x210, [], false, [⟨0, 1, .wo, 0, .val 0⟩, ⟨1, 1, .wo, 0, .val 0⟩, ⟨2, 3, .rw, 0, .keep⟩]⟩,
  ⟨0x214, [], false, [⟨0, 3, .ro, 1, .keep⟩, ⟨3, 1, .ro, 0, .keep⟩, ⟨4, 4, .ro, 0, .keep⟩, ⟨8, 4, .ro, 0, .keep⟩, ⟨12, 2, .ro, 0, .keep⟩, ⟨14, 1, .w1c, 0, .keep⟩]⟩,
  ⟨0x100300000, [(16, 0x100000000)], false, [⟨0, 6, .rw, 8, .keep⟩, ⟨6, 1, .rw, 1, .keep⟩]⟩,
  ⟨0x100300008, [(16, 0x100000000)], true, [⟨0, 10, .ro, 0, .val 0⟩, ⟨10, 12, .ro, 0, .val 0⟩, ⟨22, 13, .ro, 0, .val 0⟩, ⟨35, 13, .ro, 0, .val 0⟩]⟩,
  ⟨0x100300010, [(16, 0x100000000)], false, [⟨0, 16, .ro, 0, .val 0⟩, ⟨16, 16, .ro, 0, .val 0⟩]⟩]

/-- PKT_COMB, PKT_REPLY_CACHE, PKT_WINDOW, PKT_BO, PKT_DIGEST, PKT_DG_COUNT, PKT_LANE_MAP, PKT_LANE_GROUP, PKT_LANE_FENCED, PKT_REFUSE, SITE_LINK_STATE, SITE_MODULES. -/
def regTable5 : List RegSpec := [
  ⟨0x100300014, [(16, 0x100000000)], false, [⟨0, 11, .ro, 0, .val 0⟩, ⟨11, 14, .ro, 0, .val 0⟩]⟩,
  ⟨0x100300018, [(16, 0x100000000)], false, [⟨0, 13, .ro, 0, .val 0⟩]⟩,
  ⟨0x100300100, [(16, 0x100000000), (16, 0x4)], false, [⟨0, 9, .ro, 0, .val 0⟩]⟩,
  ⟨0x100300200, [(16, 0x100000000), (16, 0x4)], false, [⟨0, 13, .ro, 0, .val 0⟩, ⟨13, 1, .w1c, 0, .keep⟩]⟩,
  ⟨0x100300400, [(16, 0x100000000), (16, 0x40), (8, 0x4)], false, [⟨0, 32, .ro, 0, .keep⟩]⟩,
  ⟨0x100300420, [(16, 0x100000000), (16, 0x40)], false, [⟨0, 13, .ro, 0, .val 0⟩]⟩,
  ⟨0x100300800, [(16, 0x100000000), (2, 0x40), (8, 0x4)], false, [⟨0, 6, .ro, 0, .keep⟩, ⟨6, 1, .ro, 0, .keep⟩, ⟨7, 1, .ro, 0, .val 0⟩, ⟨8, 6, .ro, 0, .keep⟩, ⟨14, 1, .ro, 0, .keep⟩, ⟨15, 1, .ro, 0, .val 0⟩, ⟨16, 6, .ro, 0, .keep⟩, ⟨22, 1, .ro, 0, .keep⟩, ⟨23, 1, .ro, 0, .val 0⟩, ⟨24, 6, .ro, 0, .keep⟩, ⟨30, 1, .ro, 0, .keep⟩, ⟨31, 1, .ro, 0, .val 0⟩]⟩,
  ⟨0x100300820, [(16, 0x100000000), (2, 0x40)], false, [⟨0, 3, .ro, 0, .keep⟩, ⟨3, 3, .ro, 0, .val 0⟩]⟩,
  ⟨0x100300828, [(16, 0x100000000), (2, 0x40)], true, [⟨0, 33, .ro, 0, .keep⟩]⟩,
  ⟨0x100300C00, [(16, 0x100000000)], true, [⟨0, 4, .ro, 0, .keep⟩, ⟨4, 4, .ro, 0, .keep⟩, ⟨8, 14, .ro, 0, .keep⟩, ⟨22, 16, .ro, 0, .keep⟩, ⟨38, 1, .w1c, 0, .keep⟩, ⟨39, 1, .w1c, 0, .keep⟩]⟩,
  ⟨0x100500000, [(16, 0x100000000), (6, 0x100)], false, [⟨0, 3, .ro, 0, .keep⟩, ⟨3, 3, .ro, 0, .keep⟩, ⟨6, 1, .ro, 0, .keep⟩, ⟨7, 1, .ro, 0, .keep⟩, ⟨8, 5, .ro, 0, .keep⟩, ⟨13, 8, .ro, 0, .val 0⟩]⟩,
  ⟨0x100500004, [(16, 0x100000000), (6, 0x100)], false, [⟨0, 17, .ro, 0, .keep⟩]⟩]

/-- SITE_HALF, SITE_REPAIR, SITE_EQUIV, SITE_EVENTS, SITE_CENSUS0, SITE_CENSUS1, SITE_CENSUS2, SITE_CENSUS3, SITE_CENSUS_GEN, HBM_STATE, HBM_CFG, HBM_LAYER_MAP. -/
def regTable6 : List RegSpec := [
  ⟨0x100500008, [(16, 0x100000000), (6, 0x100)], false, [⟨0, 17, .ro, 0, .keep⟩]⟩,
  ⟨0x10050000C, [(16, 0x100000000), (6, 0x100)], true, [⟨0, 51, .ro, 0, .keep⟩, ⟨51, 1, .ro, 0, .keep⟩, ⟨52, 1, .ro, 0, .keep⟩]⟩,
  ⟨0x100500014, [(16, 0x100000000), (6, 0x100)], false, [⟨0, 10, .ro, 0, .keep⟩]⟩,
  ⟨0x100500018, [(16, 0x100000000), (6, 0x100)], false, [⟨0, 1, .rws, 0, .keep⟩, ⟨1, 1, .w1c, 0, .keep⟩, ⟨2, 14, .ro, 0, .keep⟩, ⟨16, 16, .ro, 0, .keep⟩]⟩,
  ⟨0x2000, [(96, 0x10)], false, [⟨0, 3, .ro, 0, .keep⟩, ⟨3, 1, .ro, 0, .keep⟩, ⟨4, 4, .ro, 0, .keep⟩, ⟨8, 8, .ro, 0, .keep⟩, ⟨16, 16, .ro, 0, .keep⟩]⟩,
  ⟨0x2004, [(96, 0x10)], false, [⟨0, 32, .ro, 0, .keep⟩]⟩,
  ⟨0x2008, [(96, 0x10)], false, [⟨0, 32, .ro, 0, .keep⟩]⟩,
  ⟨0x200C, [(96, 0x10)], false, [⟨0, 8, .ro, 0, .keep⟩, ⟨8, 8, .ro, 0, .keep⟩, ⟨16, 16, .ro, 0, .keep⟩]⟩,
  ⟨0x2600, [], false, [⟨0, 32, .ro, 0, .keep⟩]⟩,
  ⟨0x100600000, [(16, 0x100000000), (2, 0x1000)], false, [⟨0, 3, .ro, 0, .keep⟩, ⟨3, 1, .ro, 0, .keep⟩, ⟨4, 1, .ro, 0, .keep⟩, ⟨5, 1, .ro, 0, .keep⟩, ⟨8, 8, .ro, 0, .keep⟩, ⟨16, 1, .ro, 0, .keep⟩]⟩,
  ⟨0x100600004, [(16, 0x100000000), (2, 0x1000)], false, [⟨0, 8, .rw, 95, .keep⟩]⟩,
  ⟨0x100600008, [(16, 0x100000000), (2, 0x1000)], true, [⟨0, 4, .ro, 0, .keep⟩, ⟨4, 4, .ro, 0, .keep⟩, ⟨8, 4, .ro, 0, .keep⟩, ⟨12, 4, .ro, 0, .keep⟩, ⟨16, 4, .ro, 0, .keep⟩, ⟨20, 4, .ro, 0, .keep⟩, ⟨24, 4, .ro, 0, .keep⟩, ⟨28, 4, .ro, 0, .keep⟩, ⟨32, 4, .ro, 0, .keep⟩, ⟨36, 4, .ro, 0, .keep⟩, ⟨40, 4, .ro, 0, .keep⟩, ⟨44, 4, .ro, 0, .keep⟩, ⟨48, 4, .ro, 0, .keep⟩, ⟨52, 4, .ro, 0, .keep⟩, ⟨56, 4, .ro, 0, .keep⟩, ⟨60, 4, .ro, 0, .keep⟩]⟩]

/-- HBM_SPARE, HBM_ECC, HBM_UNCORR, HBM_ERR_ADDR, HBM_MIGRATE, HBM_REMAP, CORE_TS_MAP, CORE_TS_ECC, CORE_TS_UNCORR, CORE_TS_ERR_ADDR, CORE_TS_MIGRATE, CORE_TS_REMAP. -/
def regTable7 : List RegSpec := [
  ⟨0x100600010, [(16, 0x100000000), (2, 0x1000)], false, [⟨0, 6, .ro, 0, .keep⟩, ⟨6, 1, .ro, 0, .keep⟩, ⟨8, 8, .ro, 0, .keep⟩, ⟨16, 8, .ro, 0, .keep⟩]⟩,
  ⟨0x100600020, [(16, 0x100000000), (2, 0x1000)], false, [⟨0, 16, .ro, 0, .keep⟩, ⟨16, 16, .ro, 0, .keep⟩]⟩,
  ⟨0x100600024, [(16, 0x100000000), (2, 0x1000)], false, [⟨0, 32, .ro, 0, .keep⟩]⟩,
  ⟨0x100600028, [(16, 0x100000000), (2, 0x1000)], true, [⟨0, 39, .ro, 0, .keep⟩, ⟨39, 1, .w1c, 0, .keep⟩, ⟨40, 1, .w1c, 0, .keep⟩]⟩,
  ⟨0x100600030, [(16, 0x100000000), (2, 0x1000)], false, [⟨0, 27, .ro, 0, .keep⟩, ⟨27, 1, .ro, 0, .keep⟩]⟩,
  ⟨0x100600100, [(16, 0x100000000), (2, 0x1000), (32, 0x4)], false, [⟨0, 1, .ro, 0, .keep⟩, ⟨1, 4, .ro, 0, .keep⟩, ⟨5, 5, .ro, 0, .keep⟩, ⟨10, 4, .ro, 0, .keep⟩]⟩,
  ⟨0x100700000, [(16, 0x100000000), (6, 0x100)], false, [⟨0, 8, .ro, 0, .keep⟩, ⟨8, 8, .ro, 0, .keep⟩, ⟨16, 1, .ro, 0, .keep⟩]⟩,
  ⟨0x100700004, [(16, 0x100000000), (6, 0x100)], false, [⟨0, 32, .ro, 0, .keep⟩]⟩,
  ⟨0x100700008, [(16, 0x100000000), (6, 0x100)], false, [⟨0, 32, .ro, 0, .keep⟩]⟩,
  ⟨0x100700010, [(16, 0x100000000), (6, 0x100)], false, [⟨0, 27, .ro, 0, .keep⟩, ⟨27, 1, .w1c, 0, .keep⟩, ⟨28, 1, .w1c, 0, .keep⟩]⟩,
  ⟨0x100700018, [(16, 0x100000000), (6, 0x100)], false, [⟨0, 13, .ro, 0, .keep⟩, ⟨13, 1, .ro, 0, .keep⟩, ⟨14, 7, .ro, 0, .keep⟩]⟩,
  ⟨0x100700040, [(16, 0x100000000), (6, 0x100), (16, 0x4)], false, [⟨0, 1, .ro, 0, .keep⟩, ⟨1, 7, .ro, 0, .keep⟩]⟩]

/-- HIF_LINK, HIF_PM_CFG, HIF_BAR2_BASE, HIF_TILE_WIN, HIF_MOD_INT, HIF_MOD_INT_EN, HIF_XFER_BYTES, HIF_PERST_COUNT, HIF_XFER_ERR, HIF_STD_HX_BASE, HIF_STD_HX_SIZE, HIF_STD_INT. -/
def regTable8 : List RegSpec := [
  ⟨0x8000, [(2, 0x400)], false, [⟨0, 4, .ro, 0, .keep⟩, ⟨4, 3, .ro, 0, .keep⟩, ⟨7, 5, .ro, 0, .keep⟩, ⟨12, 5, .ro, 0, .keep⟩, ⟨17, 1, .ro, 0, .keep⟩, ⟨18, 1, .ro, 0, .keep⟩, ⟨19, 1, .ro, 1, .keep⟩]⟩,
  ⟨0x8004, [(2, 0x400)], false, [⟨0, 1, .rw, 1, .val 1⟩, ⟨1, 2, .rw, 0, .val 0⟩, ⟨3, 1, .rw, 0, .val 0⟩]⟩,
  ⟨0x8008, [(2, 0x400)], true, [⟨0, 48, .rw, 0, .val 0⟩, ⟨48, 4, .rw, 0, .val 0⟩]⟩,
  ⟨0x8010, [(2, 0x400)], false, [⟨0, 4, .rw, 0, .val 0⟩, ⟨8, 4, .rw, 15, .val 15⟩]⟩,
  ⟨0x8020, [(2, 0x400)], false, [⟨0, 19, .w1c, 0, .val 0⟩]⟩,
  ⟨0x8024, [(2, 0x400)], false, [⟨0, 19, .rw, 524287, .val 524287⟩]⟩,
  ⟨0x8028, [(2, 0x400)], true, [⟨0, 64, .ro, 0, .keep⟩]⟩,
  ⟨0x8030, [(2, 0x400)], false, [⟨0, 32, .ro, 0, .keep⟩]⟩,
  ⟨0x8034, [(2, 0x400)], false, [⟨0, 4, .ro, 0, .keep⟩, ⟨4, 4, .ro, 0, .keep⟩, ⟨8, 1, .w1c, 0, .keep⟩, ⟨9, 1, .w1c, 0, .keep⟩]⟩,
  ⟨0x9000, [(16, 0x40)], true, [⟨0, 64, .rw, 0, .val 0⟩]⟩,
  ⟨0x9008, [(16, 0x40)], true, [⟨0, 64, .rw, 0, .val 0⟩]⟩,
  ⟨0x9010, [(16, 0x40)], false, [⟨0, 7, .w1c, 0, .val 0⟩]⟩]

/-- HIF_STD_INT_EN, CLK_REF_STATUS, CLK_REF_CTL, CLK_SWITCH_STATUS, CLK_SWITCH_GTC, CLK_GTC, CLK_GAP_STOP, CLK_STANDBY_PPM, CLK_GAP, CLK_GAP_LO, CLK_GAP_HI, CLK_TREE. -/
def regTable9 : List RegSpec := [
  ⟨0x9014, [(16, 0x40)], false, [⟨0, 7, .rw, 127, .val 127⟩]⟩,
  ⟨0x600, [], false, [⟨0, 1, .ro, 0, .keep⟩, ⟨1, 1, .ro, 0, .keep⟩, ⟨2, 1, .ro, 0, .keep⟩, ⟨3, 1, .ro, 0, .keep⟩, ⟨4, 1, .ro, 0, .keep⟩, ⟨5, 2, .ro, 0, .keep⟩]⟩,
  ⟨0x604, [], false, [⟨0, 1, .rw, 0, .keep⟩, ⟨1, 1, .wo, 0, .val 0⟩]⟩,
  ⟨0x608, [], false, [⟨0, 1, .w1c, 0, .keep⟩, ⟨1, 1, .w1c, 0, .keep⟩, ⟨2, 1, .w1c, 0, .keep⟩, ⟨3, 1, .w1c, 0, .keep⟩, ⟨16, 16, .ro, 0, .keep⟩]⟩,
  ⟨0x610, [], true, [⟨0, 64, .ro, 18446744073709551615, .keep⟩]⟩,
  ⟨0x618, [], true, [⟨0, 64, .ro, 0, .keep⟩]⟩,
  ⟨0x630, [], true, [⟨0, 64, .ro, 0, .keep⟩]⟩,
  ⟨0x620, [], false, [⟨0, 16, .ro, 32768, .keep⟩]⟩,
  ⟨0x628, [], false, [⟨0, 1, .w1c, 0, .keep⟩, ⟨8, 8, .ro, 0, .keep⟩]⟩,
  ⟨0x638, [], false, [⟨0, 32, .ro, 0, .keep⟩]⟩,
  ⟨0x63C, [], false, [⟨0, 32, .ro, 0, .keep⟩]⟩,
  ⟨0x640, [], false, [⟨0, 16, .ro, 0, .keep⟩, ⟨16, 1, .w1c, 0, .keep⟩]⟩]

/-- CLK_OBS_SEL, CLK_TILE_STATUS, CLK_TILE_DESKEW, CLK_SITE_EN_RUN, CLK_SITE_EN_SLEEP, CLK_SITE_EN_DEEP, CLK_SITE_ACTIVE, CLK_SITE_DIV, PWR_MODULE, PWR_FLOOR, PWR_LIMIT_EVENTS, PWR_STD_CTL. -/
def regTable10 : List RegSpec := [
  ⟨0x648, [], false, [⟨0, 3, .rw, 0, .keep⟩, ⟨3, 4, .rw, 0, .keep⟩, ⟨7, 3, .rw, 0, .keep⟩, ⟨10, 4, .rw, 0, .keep⟩, ⟨14, 5, .rw, 1, .keep⟩]⟩,
  ⟨0x100800000, [(16, 0x100000000)], false, [⟨0, 1, .ro, 0, .keep⟩, ⟨1, 1, .ro, 0, .keep⟩, ⟨2, 2, .ro, 0, .keep⟩, ⟨4, 6, .ro, 0, .keep⟩, ⟨10, 1, .ro, 0, .keep⟩, ⟨11, 1, .ro, 0, .keep⟩]⟩,
  ⟨0x100800004, [(16, 0x100000000)], false, [⟨0, 10, .ro, 0, .keep⟩, ⟨10, 6, .ro, 0, .keep⟩]⟩,
  ⟨0x100800100, [(16, 0x100000000), (6, 0x20)], false, [⟨0, 15, .ro, 0, .keep⟩]⟩,
  ⟨0x100800104, [(16, 0x100000000), (6, 0x20)], false, [⟨0, 15, .ro, 0, .keep⟩]⟩,
  ⟨0x100800108, [(16, 0x100000000), (6, 0x20)], false, [⟨0, 15, .ro, 0, .keep⟩]⟩,
  ⟨0x10080010C, [(16, 0x100000000), (6, 0x20)], false, [⟨0, 15, .ro, 0, .keep⟩]⟩,
  ⟨0x100800110, [(16, 0x100000000), (6, 0x20)], false, [⟨0, 6, .ro, 12, .keep⟩, ⟨6, 1, .ro, 1, .keep⟩]⟩,
  ⟨0xA00, [], false, [⟨0, 16, .ro, 0, .keep⟩, ⟨16, 1, .ro, 0, .val 0⟩]⟩,
  ⟨0xA04, [], false, [⟨0, 16, .ro, 0, .keep⟩]⟩,
  ⟨0xA08, [], false, [⟨0, 32, .ro, 0, .keep⟩]⟩,
  ⟨0xC00, [(16, 0x20)], false, [⟨0, 2, .rw, 2, .keep⟩, ⟨2, 7, .rw, 16, .keep⟩, ⟨16, 16, .rw, 100, .keep⟩]⟩]

/-- PWR_STD_STATE, PWR_STD_DRAW, PWR_STD_THR, PWR_STD_WAKE, THM_CFG, THM_TRIP, THM_NV_WINDOW, THM_CH, THM_TOWER, THM_BASE, THM_ROUND, PWR_HALF. -/
def regTable11 : List RegSpec := [
  ⟨0xC04, [(16, 0x20)], false, [⟨0, 2, .ro, 2, .keep⟩, ⟨2, 3, .ro, 0, .val 0⟩, ⟨5, 1, .ro, 0, .val 0⟩, ⟨16, 16, .ro, 0, .keep⟩]⟩,
  ⟨0xC08, [(16, 0x20)], false, [⟨0, 16, .ro, 0, .keep⟩, ⟨16, 16, .ro, 0, .keep⟩]⟩,
  ⟨0xC0C, [(16, 0x20)], false, [⟨0, 1, .ro, 0, .val 0⟩, ⟨1, 1, .ro, 0, .val 0⟩, ⟨2, 1, .ro, 0, .val 0⟩, ⟨8, 8, .ro, 0, .val 0⟩, ⟨16, 16, .ro, 0, .keep⟩]⟩,
  ⟨0xC10, [(16, 0x20)], false, [⟨0, 32, .ro, 0, .keep⟩]⟩,
  ⟨0xE00, [], false, [⟨0, 8, .rw, 95, .keep⟩, ⟨8, 4, .rw, 5, .keep⟩]⟩,
  ⟨0xE04, [], false, [⟨0, 1, .ro, 0, .keep⟩, ⟨1, 7, .ro, 0, .keep⟩, ⟨8, 2, .ro, 0, .keep⟩, ⟨10, 4, .ro, 0, .keep⟩, ⟨14, 1, .ro, 0, .keep⟩]⟩,
  ⟨0xE08, [], false, [⟨0, 12, .ro, 0, .keep⟩, ⟨12, 12, .ro, 0, .keep⟩, ⟨24, 1, .ro, 0, .keep⟩]⟩,
  ⟨0x100900000, [(16, 0x100000000), (64, 0x4)], false, [⟨0, 12, .ro, 0, .keep⟩, ⟨12, 1, .ro, 0, .keep⟩, ⟨13, 1, .ro, 0, .keep⟩, ⟨14, 1, .ro, 0, .keep⟩]⟩,
  ⟨0x100900100, [(16, 0x100000000), (6, 0x8)], true, [⟨0, 12, .ro, 0, .keep⟩, ⟨12, 12, .ro, 0, .keep⟩, ⟨24, 1, .ro, 0, .keep⟩, ⟨25, 1, .ro, 0, .keep⟩, ⟨26, 2, .ro, 0, .keep⟩, ⟨32, 12, .ro, 0, .keep⟩, ⟨44, 12, .ro, 0, .keep⟩]⟩,
  ⟨0x100900140, [(16, 0x100000000)], false, [⟨0, 12, .ro, 0, .keep⟩]⟩,
  ⟨0x100900144, [(16, 0x100000000)], false, [⟨0, 32, .ro, 0, .keep⟩]⟩,
  ⟨0x100900200, [(16, 0x100000000), (6, 0x4)], false, [⟨0, 2, .ro, 0, .val 0⟩, ⟨2, 4, .ro, 0, .val 0⟩, ⟨6, 2, .ro, 0, .val 0⟩, ⟨8, 4, .ro, 0, .val 0⟩, ⟨12, 3, .ro, 0, .val 0⟩, ⟨15, 3, .ro, 0, .val 0⟩]⟩]

/-- PWR_DROOP, PWR_PAD_HOLD, MGT_START_CTL, MGT_START_STATUS, MGT_START_FAIL, MGT_TILE_CTL, MGT_DWM_COUNT, MGT_DWM_SEL, MGT_DWM_DATA, MGT_ERR_HEAD, MGT_ERR_POP, MGT_ERR_STATUS. -/
def regTable12 : List RegSpec := [
  ⟨0x100900300, [(16, 0x100000000), (6, 0x40), (9, 0x4)], false, [⟨0, 16, .ro, 0, .val 0⟩, ⟨16, 16, .ro, 0, .val 0⟩]⟩,
  ⟨0x100900500, [(16, 0x100000000)], false, [⟨0, 6, .ro, 0, .keep⟩, ⟨6, 2, .ro, 0, .keep⟩]⟩,
  ⟨0x700, [], false, [⟨0, 1, .wo, 0, .val 0⟩, ⟨1, 1, .wo, 0, .val 0⟩, ⟨2, 1, .wo, 0, .val 0⟩]⟩,
  ⟨0x704, [], false, [⟨0, 2, .ro, 0, .keep⟩, ⟨2, 4, .ro, 0, .val 0⟩, ⟨6, 1, .ro, 0, .val 1⟩, ⟨7, 1, .ro, 0, .keep⟩, ⟨8, 1, .w1c, 0, .val 0⟩, ⟨12, 4, .ro, 0, .keep⟩, ⟨16, 16, .ro, 0, .keep⟩]⟩,
  ⟨0x708, [], true, [⟨0, 4, .ro, 0, .keep⟩, ⟨4, 4, .ro, 0, .keep⟩, ⟨8, 4, .ro, 0, .keep⟩, ⟨12, 1, .ro, 0, .keep⟩, ⟨13, 1, .ro, 0, .keep⟩, ⟨32, 32, .ro, 0, .keep⟩]⟩,
  ⟨0x710, [], false, [⟨0, 4, .rw, 0, .keep⟩, ⟨4, 1, .wo, 0, .val 0⟩, ⟨5, 1, .ro, 0, .val 0⟩, ⟨6, 1, .w1c, 0, .keep⟩, ⟨16, 16, .ro, 0, .keep⟩]⟩,
  ⟨0x718, [], false, [⟨0, 16, .ro, 0, .keep⟩, ⟨16, 8, .ro, 0, .keep⟩]⟩,
  ⟨0x71C, [], false, [⟨0, 16, .rw, 0, .keep⟩]⟩,
  ⟨0x720, [(4, 0x4)], false, [⟨0, 32, .ro, 0, .keep⟩]⟩,
  ⟨0x3000, [(4, 0x8)], true, [⟨0, 64, .ro, 18446744073709551615, .keep⟩]⟩,
  ⟨0x3020, [], false, [⟨0, 1, .wo, 0, .val 0⟩]⟩,
  ⟨0x3028, [], true, [⟨0, 7, .ro, 0, .keep⟩, ⟨8, 8, .ro, 0, .keep⟩, ⟨16, 8, .ro, 0, .keep⟩, ⟨24, 8, .ro, 0, .keep⟩, ⟨32, 32, .ro, 0, .keep⟩]⟩]

/-- MGT_ERR_CFG, MGT_ERR_FIRST, MGT_ERR_FIRST_CTL, STD_ERR, PMC_MAP_CFG, PMC_ARM, PMC_SAMPLE_STATUS, PMC_CORE, PMC_ROUTER, PMC_ENGINE, PMC_FRONT, PMC_INBOX. -/
def regTable13 : List RegSpec := [
  ⟨0x3030, [], false, [⟨0, 1, .rw, 1, .keep⟩, ⟨1, 5, .rw, 24, .keep⟩]⟩,
  ⟨0x3040, [(4, 0x30), (4, 0x8)], true, [⟨0, 64, .ro, 18446744073709551615, .keep⟩]⟩,
  ⟨0x3060, [(4, 0x30)], false, [⟨0, 1, .w1c, 0, .keep⟩, ⟨1, 1, .w1c, 0, .keep⟩]⟩,
  ⟨0x1000060, [(16, 0x100000)], true, [⟨0, 8, .ro, 0, .keep⟩, ⟨8, 1, .ro, 0, .keep⟩, ⟨9, 1, .ro, 0, .keep⟩, ⟨16, 14, .ro, 16383, .keep⟩, ⟨32, 16, .ro, 0, .keep⟩]⟩,
  ⟨0x3100, [], false, [⟨0, 1, .rw, 1, .keep⟩, ⟨1, 5, .rw, 20, .keep⟩, ⟨6, 1, .ro, 0, .keep⟩]⟩,
  ⟨0x100A68000, [(16, 0x100000000), (6, 0x40), (8, 0x8)], true, [⟨0, 1, .rw, 0, .keep⟩, ⟨1, 8, .rw, 0, .keep⟩, ⟨9, 6, .rw, 0, .keep⟩, ⟨15, 6, .rw, 10, .keep⟩]⟩,
  ⟨0x100A69400, [(16, 0x100000000)], false, [⟨0, 7, .ro, 0, .keep⟩, ⟨7, 7, .wo, 0, .val 0⟩, ⟨16, 16, .ro, 0, .keep⟩]⟩,
  ⟨0x100A00000, [(16, 0x100000000), (6, 0x10000), (136, 0x140), (40, 0x8)], true, [⟨0, 48, .ro, 0, .keep⟩]⟩,
  ⟨0x100A60000, [(16, 0x100000000), (16, 0x8)], true, [⟨0, 48, .ro, 0, .keep⟩]⟩,
  ⟨0x100A60100, [(16, 0x100000000), (8, 0x8)], true, [⟨0, 48, .ro, 0, .keep⟩]⟩,
  ⟨0x100A70000, [(16, 0x100000000), (256, 0x40), (5, 0x8)], true, [⟨0, 48, .ro, 0, .keep⟩]⟩,
  ⟨0x100A74000, [(16, 0x100000000), (66, 0x40), (5, 0x8)], true, [⟨0, 48, .ro, 0, .keep⟩]⟩]

/-- STD_FENCES, STD_REJOIN_BEAT, FAB_NOTE_VALUE, FAB_NOTE_BEAT, PMC_SAMPLE, MAP_BUFFER, SITE_DESC, SEC_BOOT_ADDR, SEC_BOOT_LEN, SEC_BOOT_CTL, SEC_BOOT_STATUS, SEC_FW_DIGEST. -/
def regTable14 : List RegSpec := [
  ⟨0x1400, [(16, 0x20)], false, [⟨0, 8, .ro, 0, .keep⟩, ⟨8, 14, .ro, 16383, .keep⟩]⟩,
  ⟨0x1408, [(16, 0x20)], true, [⟨0, 64, .ro, 18446744073709551615, .keep⟩]⟩,
  ⟨0x100104000, [(16, 0x100000000), (7, 0x10)], true, [⟨0, 48, .ro, 0, .keep⟩]⟩,
  ⟨0x100104008, [(16, 0x100000000), (7, 0x10)], true, [⟨0, 64, .ro, 0, .keep⟩]⟩,
  ⟨0x100A69000, [(16, 0x100000000), (64, 0x10), (4, 0x4)], false, [⟨0, 32, .ro, 0, .keep⟩]⟩,
  ⟨0x20000, [(2, 0x2000), (1168, 0x4)], false, [⟨0, 32, .ro, 0, .keep⟩]⟩,
  ⟨0x4000, [(96, 0x40), (16, 0x4)], false, [⟨0, 32, .ro, 0, .keep⟩]⟩,
  ⟨0x6000, [], true, [⟨0, 64, .rw, 0, .keep⟩]⟩,
  ⟨0x6008, [], false, [⟨0, 23, .rw, 0, .keep⟩]⟩,
  ⟨0x600C, [], false, [⟨0, 1, .wo, 0, .val 0⟩, ⟨1, 1, .wo, 0, .val 0⟩]⟩,
  ⟨0x6010, [], false, [⟨0, 3, .ro, 0, .keep⟩, ⟨3, 4, .ro, 0, .keep⟩, ⟨7, 1, .ro, 0, .keep⟩, ⟨8, 16, .ro, 0, .keep⟩]⟩,
  ⟨0x6020, [(8, 0x4)], false, [⟨0, 32, .ro, 0, .keep⟩]⟩]

/-- SEC_STATE, SEC_TAP_ARM, SEC_TAP_CTL, MGT_CTRL, NVS_STATUS, NVS_REFUSE, NVS_LAST_SEQ, NVS_FREE. -/
def regTable15 : List RegSpec := [
  ⟨0x6040, [], false, [⟨0, 1, .ro, 0, .keep⟩, ⟨1, 1, .ro, 0, .keep⟩, ⟨2, 1, .ro, 0, .keep⟩, ⟨16, 16, .ro, 0, .keep⟩]⟩,
  ⟨0x6048, [], false, [⟨0, 32, .wo, 0, .val 0⟩]⟩,
  ⟨0x604C, [], false, [⟨0, 1, .wo, 0, .val 0⟩, ⟨1, 1, .w1c, 0, .keep⟩, ⟨2, 1, .ro, 0, .val 0⟩]⟩,
  ⟨0x6080, [], false, [⟨0, 4, .ro, 0, .keep⟩, ⟨4, 1, .ro, 0, .keep⟩, ⟨5, 1, .w1c, 0, .keep⟩]⟩,
  ⟨0x6100, [], false, [⟨0, 1, .ro, 0, .keep⟩, ⟨1, 1, .ro, 0, .keep⟩, ⟨2, 1, .ro, 0, .val 0⟩, ⟨3, 6, .ro, 0, .val 0⟩, ⟨9, 1, .ro, 0, .keep⟩, ⟨10, 1, .w1c, 0, .keep⟩]⟩,
  ⟨0x6104, [], false, [⟨0, 3, .ro, 0, .keep⟩, ⟨3, 8, .ro, 0, .keep⟩, ⟨11, 1, .w1c, 0, .keep⟩, ⟨12, 1, .w1c, 0, .keep⟩, ⟨16, 16, .ro, 0, .keep⟩]⟩,
  ⟨0x6108, [], false, [⟨0, 32, .ro, 0, .keep⟩]⟩,
  ⟨0x610C, [], false, [⟨0, 22, .ro, 0, .keep⟩]⟩]

/-- Every register family of the spec. -/
def regTable : List RegSpec :=
  regTable0 ++
  regTable1 ++
  regTable2 ++
  regTable3 ++
  regTable4 ++
  regTable5 ++
  regTable6 ++
  regTable7 ++
  regTable8 ++
  regTable9 ++
  regTable10 ++
  regTable11 ++
  regTable12 ++
  regTable13 ++
  regTable14 ++
  regTable15

end Sys2Proof.Machine
end

