-- ==== Sys2Proof/Machine/RegNames.lean ====
section
/-! DEFINITION. The addresses and fields of the registers under the spec's names. A register of a family takes its
indices in the order of its dimensions (stand, tile, site, then the register's own); a tile register's address is the
tile's base (see `tileBase`) plus its offset. -/

namespace Sys2Proof.Machine

/-- A field of a register: its low bit and its width. -/
structure Fld where
  lo : Nat
  w : Nat
  deriving DecidableEq, Repr

/-- Where tile `t`'s register space stands in the model's flat register addresses. [DEDUCED, assumption 10, safe] -/
def tileBase (t : Nat) : Nat := 0x1_0000_0000 * (t + 1)

def Reg.MGT_BOUNDARY : Nat := 0x200
def Fld.MGT_BOUNDARY_port0_cable : Fld := ⟨0, 1⟩
def Fld.MGT_BOUNDARY_port1_cable : Fld := ⟨1, 1⟩
def Fld.MGT_BOUNDARY_fibre_conn : Fld := ⟨2, 3⟩
def Fld.MGT_BOUNDARY_ilk_closed : Fld := ⟨5, 1⟩
def Fld.MGT_BOUNDARY_ilk_open_seen : Fld := ⟨6, 1⟩
def Fld.MGT_BOUNDARY_therm_trip : Fld := ⟨7, 1⟩
def Fld.MGT_BOUNDARY_supply_low_seen : Fld := ⟨8, 1⟩
def Fld.MGT_BOUNDARY_supply_high_seen : Fld := ⟨9, 1⟩
def Fld.MGT_BOUNDARY_vin : Fld := ⟨16, 12⟩
def Fld.MGT_BOUNDARY_vin_stale : Fld := ⟨28, 1⟩
def Reg.MGT_PLAN_CTL : Nat := 0x300
def Fld.MGT_PLAN_CTL_commit : Fld := ⟨0, 1⟩
def Fld.MGT_PLAN_CTL_restage : Fld := ⟨1, 1⟩
def Reg.MGT_PLAN_STATUS : Nat := 0x304
def Fld.MGT_PLAN_STATUS_code : Fld := ⟨0, 4⟩
def Fld.MGT_PLAN_STATUS_busy : Fld := ⟨4, 1⟩
def Fld.MGT_PLAN_STATUS_pending : Fld := ⟨5, 1⟩
def Fld.MGT_PLAN_STATUS_commit_port : Fld := ⟨6, 1⟩
def Reg.MGT_PLAN_GEN : Nat := 0x308
def Fld.MGT_PLAN_GEN_gen : Fld := ⟨0, 32⟩
def Reg.MGT_BL_SUPPORT : Nat := 0x30C
def Fld.MGT_BL_SUPPORT_bl : Fld := ⟨0, 32⟩
def Reg.STD_PROG_DESC (i0 : Nat) : Nat := 0x1000000 + i0 * 0x100000
def Fld.STD_PROG_DESC_addr : Fld := ⟨0, 48⟩
def Reg.STD_PARAM (i0 : Nat) : Nat := 0x1000008 + i0 * 0x100000
def Fld.STD_PARAM_addr : Fld := ⟨0, 48⟩
def Reg.STD_START (i0 : Nat) : Nat := 0x1000010 + i0 * 0x100000
def Fld.STD_START_start : Fld := ⟨0, 64⟩
def Reg.STD_LAUNCH_CFG (i0 : Nat) : Nat := 0x1000018 + i0 * 0x100000
def Fld.STD_LAUNCH_CFG_bl : Fld := ⟨0, 8⟩
def Fld.STD_LAUNCH_CFG_beat_len : Fld := ⟨8, 9⟩
def Reg.STD_LAUNCH (i0 : Nat) : Nat := 0x100001C + i0 * 0x100000
def Fld.STD_LAUNCH_op : Fld := ⟨0, 4⟩
def Fld.STD_LAUNCH_tag : Fld := ⟨16, 16⟩
def Reg.STD_STATUS (i0 : Nat) : Nat := 0x1000020 + i0 * 0x100000
def Fld.STD_STATUS_state : Fld := ⟨0, 3⟩
def Fld.STD_STATUS_run_code : Fld := ⟨8, 8⟩
def Fld.STD_STATUS_cmd_code : Fld := ⟨16, 8⟩
def Reg.STD_TAG_RUN (i0 : Nat) : Nat := 0x1000024 + i0 * 0x100000
def Fld.STD_TAG_RUN_tag : Fld := ⟨0, 16⟩
def Reg.STD_BEATS (i0 : Nat) : Nat := 0x1000028 + i0 * 0x100000
def Fld.STD_BEATS_beats : Fld := ⟨0, 64⟩
def Reg.STD_FAIL_BEAT (i0 : Nat) : Nat := 0x1000038 + i0 * 0x100000
def Fld.STD_FAIL_BEAT_fail_beat : Fld := ⟨0, 64⟩
def Reg.STD_HOLDS (i0 : Nat) : Nat := 0x1000030 + i0 * 0x100000
def Fld.STD_HOLDS_holds : Fld := ⟨0, 32⟩
def Reg.STD_DIGEST (i0 i1 : Nat) : Nat := 0x1000040 + i0 * 0x100000 + i1 * 0x4
def Fld.STD_DIGEST_digest : Fld := ⟨0, 32⟩
def Reg.STD_HOST_WORD (i0 i1 : Nat) : Nat := 0x1000100 + i0 * 0x100000 + i1 * 0x8
def Fld.STD_HOST_WORD_value : Fld := ⟨0, 64⟩
def Reg.CORE_DIE_ID (i0 i1 : Nat) : Nat := 0x100400000 + i0 * 0x100000000 + i1 * 0x10000
def Fld.CORE_DIE_ID_tower : Fld := ⟨0, 7⟩
def Fld.CORE_DIE_ID_spares_free : Fld := ⟨8, 8⟩
def Fld.CORE_DIE_ID_degraded : Fld := ⟨16, 1⟩
def Reg.CORE_ROW_MAP (i0 i1 i2 : Nat) : Nat := 0x100400100 + i0 * 0x100000000 + i1 * 0x10000 + i2 * 0x8
def Fld.CORE_ROW_MAP_in_service : Fld := ⟨0, 17⟩
def Fld.CORE_ROW_MAP_fenced : Fld := ⟨32, 17⟩
def Reg.CORE_STATE (i0 i1 i2 : Nat) : Nat := 0x100400200 + i0 * 0x100000000 + i1 * 0x10000 + i2 * 0x4
def Fld.CORE_STATE_state : Fld := ⟨0, 3⟩
def Fld.CORE_STATE_col : Fld := ⟨8, 4⟩
def Fld.CORE_STATE_done : Fld := ⟨12, 1⟩
def Fld.CORE_STATE_sb_stall : Fld := ⟨13, 1⟩
def Reg.CORE_FAULT (i0 i1 : Nat) : Nat := 0x100400600 + i0 * 0x100000000 + i1 * 0x10000
def Fld.CORE_FAULT_phys : Fld := ⟨0, 8⟩
def Fld.CORE_FAULT_cause : Fld := ⟨8, 4⟩
def Fld.CORE_FAULT_valid : Fld := ⟨12, 1⟩
def Fld.CORE_FAULT_more : Fld := ⟨13, 1⟩
def Reg.CORE_XFIFO (i0 i1 i2 : Nat) : Nat := 0x100400700 + i0 * 0x100000000 + i1 * 0x10000 + i2 * 0x4
def Fld.CORE_XFIFO_hw_events : Fld := ⟨0, 16⟩
def Reg.CORE_ECC_CORR (i0 i1 : Nat) : Nat := 0x100400800 + i0 * 0x100000000 + i1 * 0x10000
def Fld.CORE_ECC_CORR_count : Fld := ⟨0, 32⟩
def Reg.STD_GATE_LEVEL (i0 : Nat) : Nat := 0x1000 + i0 * 0x20
def Fld.STD_GATE_LEVEL_level : Fld := ⟨0, 3⟩
def Fld.STD_GATE_LEVEL_next_level : Fld := ⟨3, 3⟩
def Fld.STD_GATE_LEVEL_throttled : Fld := ⟨6, 1⟩
def Reg.STD_HOLD_LAST (i0 : Nat) : Nat := 0x1004 + i0 * 0x20
def Fld.STD_HOLD_LAST_core_late : Fld := ⟨0, 1⟩
def Fld.STD_HOLD_LAST_bo_late : Fld := ⟨1, 1⟩
def Fld.STD_HOLD_LAST_seq_late : Fld := ⟨2, 1⟩
def Fld.STD_HOLD_LAST_clear_late : Fld := ⟨3, 1⟩
def Fld.STD_HOLD_LAST_gcore : Fld := ⟨4, 14⟩
def Fld.STD_HOLD_LAST_seq_tile : Fld := ⟨18, 4⟩
def Reg.STD_HOLD_RUN (i0 : Nat) : Nat := 0x1008 + i0 * 0x20
def Fld.STD_HOLD_RUN_streak : Fld := ⟨0, 16⟩
def Fld.STD_HOLD_RUN_longest : Fld := ⟨16, 16⟩
def Reg.STD_CLEARINGS (i0 : Nat) : Nat := 0x100C + i0 * 0x20
def Fld.STD_CLEARINGS_count : Fld := ⟨0, 32⟩
def Reg.STD_NEXT_CLEAR (i0 : Nat) : Nat := 0x1010 + i0 * 0x20
def Fld.STD_NEXT_CLEAR_beat : Fld := ⟨0, 64⟩
def Reg.STD_CLEAR_ABANDON (i0 : Nat) : Nat := 0x1018 + i0 * 0x20
def Fld.STD_CLEAR_ABANDON_count : Fld := ⟨0, 16⟩
def Reg.FAB_CTX_STATUS (i0 i1 : Nat) : Nat := 0x100100000 + i0 * 0x100000000 + i1 * 0x20
def Fld.FAB_CTX_STATUS_stand : Fld := ⟨0, 4⟩
def Fld.FAB_CTX_STATUS_state : Fld := ⟨4, 3⟩
def Fld.FAB_CTX_STATUS_pc : Fld := ⟨8, 12⟩
def Reg.FAB_CTX_WAIT (i0 i1 : Nat) : Nat := 0x100100008 + i0 * 0x100000000 + i1 * 0x20
def Fld.FAB_CTX_WAIT_beat : Fld := ⟨0, 64⟩
def Reg.FAB_CTX_ERR (i0 i1 : Nat) : Nat := 0x100100010 + i0 * 0x100000000 + i1 * 0x20
def Fld.FAB_CTX_ERR_cause : Fld := ⟨0, 8⟩
def Fld.FAB_CTX_ERR_pc : Fld := ⟨8, 12⟩
def Fld.FAB_CTX_ERR_valid : Fld := ⟨20, 1⟩
def Reg.FAB_CTX_REPEAT (i0 i1 : Nat) : Nat := 0x100100014 + i0 * 0x100000000 + i1 * 0x20
def Fld.FAB_CTX_REPEAT_count : Fld := ⟨0, 32⟩
def Reg.FAB_CTX_LISTEN (i0 i1 : Nat) : Nat := 0x100100018 + i0 * 0x100000000 + i1 * 0x20
def Fld.FAB_CTX_LISTEN_active : Fld := ⟨0, 9⟩
def Fld.FAB_CTX_LISTEN_quota : Fld := ⟨16, 9⟩
def Reg.FAB_CIRC (i0 i1 i2 : Nat) : Nat := 0x100101000 + i0 * 0x100000000 + i1 * 0x800 + i2 * 0x8
def Fld.FAB_CIRC_open : Fld := ⟨0, 1⟩
def Fld.FAB_CIRC_ready : Fld := ⟨1, 1⟩
def Fld.FAB_CIRC_pd : Fld := ⟨2, 1⟩
def Fld.FAB_CIRC_bound : Fld := ⟨3, 1⟩
def Fld.FAB_CIRC_src_tile : Fld := ⟨4, 4⟩
def Fld.FAB_CIRC_trunk : Fld := ⟨8, 3⟩
def Fld.FAB_CIRC_slot : Fld := ⟨11, 5⟩
def Fld.FAB_CIRC_listener : Fld := ⟨16, 11⟩
def Fld.FAB_CIRC_carriage : Fld := ⟨27, 1⟩
def Fld.FAB_CIRC_flagged : Fld := ⟨32, 32⟩
def Reg.OPT_SLOT_MAP (i0 i1 i2 : Nat) : Nat := 0x100200000 + i0 * 0x100000000 + i1 * 0x40 + i2 * 0x4
def Fld.OPT_SLOT_MAP_channel : Fld := ⟨0, 6⟩
def Fld.OPT_SLOT_MAP_carriage : Fld := ⟨6, 1⟩
def Reg.OPT_TRUNK_STATE (i0 i1 : Nat) : Nat := 0x100200020 + i0 * 0x100000000 + i1 * 0x40
def Fld.OPT_TRUNK_STATE_spare : Fld := ⟨0, 6⟩
def Fld.OPT_TRUNK_STATE_cal_ch : Fld := ⟨6, 6⟩
def Fld.OPT_TRUNK_STATE_swap_slot : Fld := ⟨12, 5⟩
def Fld.OPT_TRUNK_STATE_swap_pending : Fld := ⟨17, 1⟩
def Reg.OPT_CH_FENCED (i0 i1 : Nat) : Nat := 0x100200028 + i0 * 0x100000000 + i1 * 0x40
def Fld.OPT_CH_FENCED_ch : Fld := ⟨0, 33⟩
def Reg.OPT_CH_HALF (i0 i1 : Nat) : Nat := 0x100200030 + i0 * 0x100000000 + i1 * 0x40
def Fld.OPT_CH_HALF_ch : Fld := ⟨0, 33⟩
def Reg.OPT_CH_PARKED (i0 i1 : Nat) : Nat := 0x100200038 + i0 * 0x100000000 + i1 * 0x40
def Fld.OPT_CH_PARKED_ch : Fld := ⟨0, 33⟩
def Reg.OPT_RX_STATUS (i0 : Nat) : Nat := 0x100200400 + i0 * 0x100000000
def Fld.OPT_RX_STATUS_active : Fld := ⟨0, 9⟩
def Fld.OPT_RX_STATUS_fenced : Fld := ⟨16, 11⟩
def Reg.OPT_SPARE_LISTEN (i0 i1 : Nat) : Nat := 0x100200410 + i0 * 0x100000000 + i1 * 0x4
def Fld.OPT_SPARE_LISTEN_free : Fld := ⟨0, 32⟩
def Reg.OPT_ROT_CFG (i0 : Nat) : Nat := 0x100210000 + i0 * 0x100000000
def Fld.OPT_ROT_CFG_interval : Fld := ⟨0, 16⟩
def Fld.OPT_ROT_CFG_enable : Fld := ⟨16, 1⟩
def Reg.OPT_LOCK_EVENTS (i0 : Nat) : Nat := 0x100210004 + i0 * 0x100000000
def Fld.OPT_LOCK_EVENTS_lock_lost : Fld := ⟨0, 8⟩
def Fld.OPT_LOCK_EVENTS_mislock : Fld := ⟨8, 8⟩
def Fld.OPT_LOCK_EVENTS_mod_park : Fld := ⟨16, 8⟩
def Fld.OPT_LOCK_EVENTS_lst_fence : Fld := ⟨24, 8⟩
def Reg.OPT_MOD_PARK_LAST (i0 : Nat) : Nat := 0x100210008 + i0 * 0x100000000
def Fld.OPT_MOD_PARK_LAST_trunk : Fld := ⟨0, 8⟩
def Fld.OPT_MOD_PARK_LAST_channel : Fld := ⟨8, 6⟩
def Fld.OPT_MOD_PARK_LAST_fenced : Fld := ⟨14, 1⟩
def Fld.OPT_MOD_PARK_LAST_valid : Fld := ⟨15, 1⟩
def Reg.OPT_HOLD_STATE (i0 : Nat) : Nat := 0x10021000C + i0 * 0x100000000
def Fld.OPT_HOLD_STATE_held : Fld := ⟨0, 1⟩
def Fld.OPT_HOLD_STATE_parked : Fld := ⟨1, 1⟩
def Fld.OPT_HOLD_STATE_unknown : Fld := ⟨2, 1⟩
def Fld.OPT_HOLD_STATE_drift_seen : Fld := ⟨3, 1⟩
def Reg.OPT_MON_SEL (i0 : Nat) : Nat := 0x100210010 + i0 * 0x100000000
def Fld.OPT_MON_SEL_kind : Fld := ⟨0, 2⟩
def Fld.OPT_MON_SEL_index : Fld := ⟨2, 11⟩
def Fld.OPT_MON_SEL_integ : Fld := ⟨13, 2⟩
def Fld.OPT_MON_SEL_start : Fld := ⟨15, 1⟩
def Reg.OPT_MON_DATA (i0 : Nat) : Nat := 0x100210014 + i0 * 0x100000000
def Fld.OPT_MON_DATA_value : Fld := ⟨0, 16⟩
def Fld.OPT_MON_DATA_done : Fld := ⟨16, 1⟩
def Fld.OPT_MON_DATA_stale : Fld := ⟨17, 1⟩
def Reg.OPT_FIBRE (i0 i1 : Nat) : Nat := 0x100210020 + i0 * 0x100000000 + i1 * 0x4
def Fld.OPT_FIBRE_tap : Fld := ⟨0, 10⟩
def Fld.OPT_FIBRE_active : Fld := ⟨10, 1⟩
def Fld.OPT_FIBRE_armed : Fld := ⟨11, 1⟩
def Fld.OPT_FIBRE_pilot : Fld := ⟨12, 1⟩
def Fld.OPT_FIBRE_loss_seen : Fld := ⟨13, 1⟩
def Fld.OPT_FIBRE_fenced : Fld := ⟨14, 1⟩
def Fld.OPT_FIBRE_switching : Fld := ⟨15, 1⟩
def Reg.OPT_CH_CAL_COUNT (i0 i1 i2 : Nat) : Nat := 0x100211000 + i0 * 0x100000000 + i1 * 0x400 + i2 * 0x10
def Fld.OPT_CH_CAL_COUNT_count : Fld := ⟨0, 32⟩
def Reg.OPT_CH_CAL_GTC (i0 i1 i2 : Nat) : Nat := 0x100211008 + i0 * 0x100000000 + i1 * 0x400 + i2 * 0x10
def Fld.OPT_CH_CAL_GTC_gtc : Fld := ⟨0, 64⟩
def Reg.MGT_TRIM_SEL (i0 : Nat) : Nat := 0x100214000 + i0 * 0x100000000
def Fld.MGT_TRIM_SEL_index : Fld := ⟨0, 12⟩
def Reg.MGT_TRIM_DATA (i0 : Nat) : Nat := 0x100214004 + i0 * 0x100000000
def Fld.MGT_TRIM_DATA_value : Fld := ⟨0, 12⟩
def Fld.MGT_TRIM_DATA_stale : Fld := ⟨12, 1⟩
def Reg.MGT_TRIM_COUNT (i0 : Nat) : Nat := 0x100214008 + i0 * 0x100000000
def Fld.MGT_TRIM_COUNT_count : Fld := ⟨0, 32⟩
def Reg.MGT_TRIM_GTC (i0 : Nat) : Nat := 0x100214010 + i0 * 0x100000000
def Fld.MGT_TRIM_GTC_gtc : Fld := ⟨0, 64⟩
def Reg.OPT_ILK_CTL : Nat := 0x210
def Fld.OPT_ILK_CTL_open : Fld := ⟨0, 1⟩
def Fld.OPT_ILK_CTL_close_req : Fld := ⟨1, 1⟩
def Fld.OPT_ILK_CTL_conn_retired : Fld := ⟨2, 3⟩
def Reg.OPT_ILK_STATUS : Nat := 0x214
def Fld.OPT_ILK_STATUS_phase : Fld := ⟨0, 3⟩
def Fld.OPT_ILK_STATUS_ready : Fld := ⟨3, 1⟩
def Fld.OPT_ILK_STATUS_cause : Fld := ⟨4, 4⟩
def Fld.OPT_ILK_STATUS_tile : Fld := ⟨8, 4⟩
def Fld.OPT_ILK_STATUS_conn : Fld := ⟨12, 2⟩
def Fld.OPT_ILK_STATUS_refused : Fld := ⟨14, 1⟩
def Reg.PKT_CFG (i0 : Nat) : Nat := 0x100300000 + i0 * 0x100000000
def Fld.PKT_CFG_comb_hold : Fld := ⟨0, 6⟩
def Fld.PKT_CFG_comb_en : Fld := ⟨6, 1⟩
def Reg.PKT_EJECT (i0 : Nat) : Nat := 0x100300008 + i0 * 0x100000000
def Fld.PKT_EJECT_normal : Fld := ⟨0, 10⟩
def Fld.PKT_EJECT_reserve : Fld := ⟨10, 12⟩
def Fld.PKT_EJECT_waiting : Fld := ⟨22, 13⟩
def Fld.PKT_EJECT_hw : Fld := ⟨35, 13⟩
def Reg.PKT_POOL (i0 : Nat) : Nat := 0x100300010 + i0 * 0x100000000
def Fld.PKT_POOL_used : Fld := ⟨0, 16⟩
def Fld.PKT_POOL_hw : Fld := ⟨16, 16⟩
def Reg.PKT_COMB (i0 : Nat) : Nat := 0x100300014 + i0 * 0x100000000
def Fld.PKT_COMB_groups : Fld := ⟨0, 11⟩
def Fld.PKT_COMB_constituents : Fld := ⟨11, 14⟩
def Reg.PKT_REPLY_CACHE (i0 : Nat) : Nat := 0x100300018 + i0 * 0x100000000
def Fld.PKT_REPLY_CACHE_used : Fld := ⟨0, 13⟩
def Reg.PKT_WINDOW (i0 i1 : Nat) : Nat := 0x100300100 + i0 * 0x100000000 + i1 * 0x4
def Fld.PKT_WINDOW_held : Fld := ⟨0, 9⟩
def Reg.PKT_BO (i0 i1 : Nat) : Nat := 0x100300200 + i0 * 0x100000000 + i1 * 0x4
def Fld.PKT_BO_fill : Fld := ⟨0, 13⟩
def Fld.PKT_BO_overflow : Fld := ⟨13, 1⟩
def Reg.PKT_DIGEST (i0 i1 i2 : Nat) : Nat := 0x100300400 + i0 * 0x100000000 + i1 * 0x40 + i2 * 0x4
def Fld.PKT_DIGEST_digest : Fld := ⟨0, 32⟩
def Reg.PKT_DG_COUNT (i0 i1 : Nat) : Nat := 0x100300420 + i0 * 0x100000000 + i1 * 0x40
def Fld.PKT_DG_COUNT_records : Fld := ⟨0, 13⟩
def Reg.PKT_LANE_MAP (i0 i1 i2 : Nat) : Nat := 0x100300800 + i0 * 0x100000000 + i1 * 0x40 + i2 * 0x4
def Fld.PKT_LANE_MAP_channel : Fld := ⟨0, 6⟩
def Fld.PKT_LANE_MAP_retired : Fld := ⟨6, 1⟩
def Fld.PKT_LANE_MAP_out : Fld := ⟨7, 1⟩
def Reg.PKT_LANE_GROUP (i0 i1 : Nat) : Nat := 0x100300820 + i0 * 0x100000000 + i1 * 0x40
def Fld.PKT_LANE_GROUP_spare_used : Fld := ⟨0, 3⟩
def Fld.PKT_LANE_GROUP_remap_pending : Fld := ⟨3, 3⟩
def Reg.PKT_LANE_FENCED (i0 i1 : Nat) : Nat := 0x100300828 + i0 * 0x100000000 + i1 * 0x40
def Fld.PKT_LANE_FENCED_ch : Fld := ⟨0, 33⟩
def Reg.PKT_REFUSE (i0 : Nat) : Nat := 0x100300C00 + i0 * 0x100000000
def Fld.PKT_REFUSE_status : Fld := ⟨0, 4⟩
def Fld.PKT_REFUSE_stand : Fld := ⟨4, 4⟩
def Fld.PKT_REFUSE_src : Fld := ⟨8, 14⟩
def Fld.PKT_REFUSE_seq : Fld := ⟨22, 16⟩
def Fld.PKT_REFUSE_valid : Fld := ⟨38, 1⟩
def Fld.PKT_REFUSE_more : Fld := ⟨39, 1⟩
def Reg.SITE_LINK_STATE (i0 i1 : Nat) : Nat := 0x100500000 + i0 * 0x100000000 + i1 * 0x100
def Fld.SITE_LINK_STATE_state : Fld := ⟨0, 3⟩
def Fld.SITE_LINK_STATE_rate : Fld := ⟨3, 3⟩
def Fld.SITE_LINK_STATE_circuits : Fld := ⟨6, 1⟩
def Fld.SITE_LINK_STATE_agent : Fld := ⟨7, 1⟩
def Fld.SITE_LINK_STATE_lead : Fld := ⟨8, 5⟩
def Fld.SITE_LINK_STATE_streams : Fld := ⟨13, 8⟩
def Reg.SITE_MODULES (i0 i1 : Nat) : Nat := 0x100500004 + i0 * 0x100000000 + i1 * 0x100
def Fld.SITE_MODULES_mask : Fld := ⟨0, 17⟩
def Reg.SITE_HALF (i0 i1 : Nat) : Nat := 0x100500008 + i0 * 0x100000000 + i1 * 0x100
def Fld.SITE_HALF_mask : Fld := ⟨0, 17⟩
def Reg.SITE_REPAIR (i0 i1 : Nat) : Nat := 0x10050000C + i0 * 0x100000000 + i1 * 0x100
def Fld.SITE_REPAIR_used : Fld := ⟨0, 51⟩
def Fld.SITE_REPAIR_spare_used : Fld := ⟨51, 1⟩
def Fld.SITE_REPAIR_limited : Fld := ⟨52, 1⟩
def Reg.SITE_EQUIV (i0 i1 : Nat) : Nat := 0x100500014 + i0 * 0x100000000 + i1 * 0x100
def Fld.SITE_EQUIV_equiv : Fld := ⟨0, 10⟩
def Reg.SITE_EVENTS (i0 i1 : Nat) : Nat := 0x100500018 + i0 * 0x100000000 + i1 * 0x100
def Fld.SITE_EVENTS_link_event : Fld := ⟨0, 1⟩
def Fld.SITE_EVENTS_time_slip : Fld := ⟨1, 1⟩
def Fld.SITE_EVENTS_downs : Fld := ⟨2, 14⟩
def Fld.SITE_EVENTS_replays : Fld := ⟨16, 16⟩
def Reg.SITE_CENSUS0 (i0 : Nat) : Nat := 0x2000 + i0 * 0x10
def Fld.SITE_CENSUS0_state : Fld := ⟨0, 3⟩
def Fld.SITE_CENSUS0_agent : Fld := ⟨3, 1⟩
def Fld.SITE_CENSUS0_ver_major : Fld := ⟨4, 4⟩
def Fld.SITE_CENSUS0_ver_minor : Fld := ⟨8, 8⟩
def Fld.SITE_CENSUS0_vendor : Fld := ⟨16, 16⟩
def Reg.SITE_CENSUS1 (i0 : Nat) : Nat := 0x2004 + i0 * 0x10
def Fld.SITE_CENSUS1_die_id : Fld := ⟨0, 32⟩
def Reg.SITE_CENSUS2 (i0 : Nat) : Nat := 0x2008 + i0 * 0x10
def Fld.SITE_CENSUS2_bl : Fld := ⟨0, 32⟩
def Reg.SITE_CENSUS3 (i0 : Nat) : Nat := 0x200C + i0 * 0x10
def Fld.SITE_CENSUS3_sources : Fld := ⟨0, 8⟩
def Fld.SITE_CENSUS3_tmax : Fld := ⟨8, 8⟩
def Fld.SITE_CENSUS3_power : Fld := ⟨16, 16⟩
def Reg.SITE_CENSUS_GEN : Nat := 0x2600
def Fld.SITE_CENSUS_GEN_gen : Fld := ⟨0, 32⟩
def Reg.HBM_STATE (i0 i1 : Nat) : Nat := 0x100600000 + i0 * 0x100000000 + i1 * 0x1000
def Fld.HBM_STATE_state : Fld := ⟨0, 3⟩
def Fld.HBM_STATE_migrating : Fld := ⟨3, 1⟩
def Fld.HBM_STATE_throttled : Fld := ⟨4, 1⟩
def Fld.HBM_STATE_refresh_2x : Fld := ⟨5, 1⟩
def Fld.HBM_STATE_temp : Fld := ⟨8, 8⟩
def Fld.HBM_STATE_temp_stale : Fld := ⟨16, 1⟩
def Reg.HBM_CFG (i0 i1 : Nat) : Nat := 0x100600004 + i0 * 0x100000000 + i1 * 0x1000
def Fld.HBM_CFG_throttle_c : Fld := ⟨0, 8⟩
def Reg.HBM_LAYER_MAP (i0 i1 : Nat) : Nat := 0x100600008 + i0 * 0x100000000 + i1 * 0x1000
def Fld.HBM_LAYER_MAP_phys : Fld := ⟨0, 4⟩
def Fld.HBM_LAYER_MAP_spare : Fld := ⟨60, 4⟩
def Reg.HBM_SPARE (i0 i1 : Nat) : Nat := 0x100600010 + i0 * 0x100000000 + i1 * 0x1000
def Fld.HBM_SPARE_bank_remaps : Fld := ⟨0, 6⟩
def Fld.HBM_SPARE_layer_used : Fld := ⟨6, 1⟩
def Fld.HBM_SPARE_soft_ppr : Fld := ⟨8, 8⟩
def Fld.HBM_SPARE_hard_ppr : Fld := ⟨16, 8⟩
def Reg.HBM_ECC (i0 i1 : Nat) : Nat := 0x100600020 + i0 * 0x100000000 + i1 * 0x1000
def Fld.HBM_ECC_ondie : Fld := ⟨0, 16⟩
def Fld.HBM_ECC_ctrl : Fld := ⟨16, 16⟩
def Reg.HBM_UNCORR (i0 i1 : Nat) : Nat := 0x100600024 + i0 * 0x100000000 + i1 * 0x1000
def Fld.HBM_UNCORR_count : Fld := ⟨0, 32⟩
def Reg.HBM_ERR_ADDR (i0 i1 : Nat) : Nat := 0x100600028 + i0 * 0x100000000 + i1 * 0x1000
def Fld.HBM_ERR_ADDR_offset : Fld := ⟨0, 39⟩
def Fld.HBM_ERR_ADDR_valid : Fld := ⟨39, 1⟩
def Fld.HBM_ERR_ADDR_more : Fld := ⟨40, 1⟩
def Reg.HBM_MIGRATE (i0 i1 : Nat) : Nat := 0x100600030 + i0 * 0x100000000 + i1 * 0x1000
def Fld.HBM_MIGRATE_remaining : Fld := ⟨0, 27⟩
def Fld.HBM_MIGRATE_kind : Fld := ⟨27, 1⟩
def Reg.HBM_REMAP (i0 i1 i2 : Nat) : Nat := 0x100600100 + i0 * 0x100000000 + i1 * 0x1000 + i2 * 0x4
def Fld.HBM_REMAP_valid : Fld := ⟨0, 1⟩
def Fld.HBM_REMAP_layer : Fld := ⟨1, 4⟩
def Fld.HBM_REMAP_pc : Fld := ⟨5, 5⟩
def Fld.HBM_REMAP_bank : Fld := ⟨10, 4⟩
def Reg.CORE_TS_MAP (i0 i1 : Nat) : Nat := 0x100700000 + i0 * 0x100000000 + i1 * 0x100
def Fld.CORE_TS_MAP_used2 : Fld := ⟨0, 8⟩
def Fld.CORE_TS_MAP_used3 : Fld := ⟨8, 8⟩
def Fld.CORE_TS_MAP_degraded : Fld := ⟨16, 1⟩
def Reg.CORE_TS_ECC (i0 i1 : Nat) : Nat := 0x100700004 + i0 * 0x100000000 + i1 * 0x100
def Fld.CORE_TS_ECC_count : Fld := ⟨0, 32⟩
def Reg.CORE_TS_UNCORR (i0 i1 : Nat) : Nat := 0x100700008 + i0 * 0x100000000 + i1 * 0x100
def Fld.CORE_TS_UNCORR_count : Fld := ⟨0, 32⟩
def Reg.CORE_TS_ERR_ADDR (i0 i1 : Nat) : Nat := 0x100700010 + i0 * 0x100000000 + i1 * 0x100
def Fld.CORE_TS_ERR_ADDR_offset : Fld := ⟨0, 27⟩
def Fld.CORE_TS_ERR_ADDR_valid : Fld := ⟨27, 1⟩
def Fld.CORE_TS_ERR_ADDR_more : Fld := ⟨28, 1⟩
def Reg.CORE_TS_MIGRATE (i0 i1 : Nat) : Nat := 0x100700018 + i0 * 0x100000000 + i1 * 0x100
def Fld.CORE_TS_MIGRATE_remaining : Fld := ⟨0, 13⟩
def Fld.CORE_TS_MIGRATE_layer : Fld := ⟨13, 1⟩
def Fld.CORE_TS_MIGRATE_bank : Fld := ⟨14, 7⟩
def Reg.CORE_TS_REMAP (i0 i1 i2 : Nat) : Nat := 0x100700040 + i0 * 0x100000000 + i1 * 0x100 + i2 * 0x4
def Fld.CORE_TS_REMAP_valid : Fld := ⟨0, 1⟩
def Fld.CORE_TS_REMAP_bank : Fld := ⟨1, 7⟩
def Reg.HIF_LINK (i0 : Nat) : Nat := 0x8000 + i0 * 0x400
def Fld.HIF_LINK_state : Fld := ⟨0, 4⟩
def Fld.HIF_LINK_speed : Fld := ⟨4, 3⟩
def Fld.HIF_LINK_width : Fld := ⟨7, 5⟩
def Fld.HIF_LINK_l0p_width : Fld := ⟨12, 5⟩
def Fld.HIF_LINK_ref_present : Fld := ⟨17, 1⟩
def Fld.HIF_LINK_ref_selected : Fld := ⟨18, 1⟩
def Fld.HIF_LINK_clkreq : Fld := ⟨19, 1⟩
def Reg.HIF_PM_CFG (i0 : Nat) : Nat := 0x8004 + i0 * 0x400
def Fld.HIF_PM_CFG_l0p_en : Fld := ⟨0, 1⟩
def Fld.HIF_PM_CFG_l0p_min : Fld := ⟨1, 2⟩
def Fld.HIF_PM_CFG_release_standby : Fld := ⟨3, 1⟩
def Reg.HIF_BAR2_BASE (i0 : Nat) : Nat := 0x8008 + i0 * 0x400
def Fld.HIF_BAR2_BASE_base : Fld := ⟨0, 48⟩
def Fld.HIF_BAR2_BASE_il_stand : Fld := ⟨48, 4⟩
def Reg.HIF_TILE_WIN (i0 : Nat) : Nat := 0x8010 + i0 * 0x400
def Fld.HIF_TILE_WIN_tile_a : Fld := ⟨0, 4⟩
def Fld.HIF_TILE_WIN_tile_b : Fld := ⟨8, 4⟩
def Reg.HIF_MOD_INT (i0 : Nat) : Nat := 0x8020 + i0 * 0x400
def Fld.HIF_MOD_INT_cause : Fld := ⟨0, 19⟩
def Reg.HIF_MOD_INT_EN (i0 : Nat) : Nat := 0x8024 + i0 * 0x400
def Fld.HIF_MOD_INT_EN_en : Fld := ⟨0, 19⟩
def Reg.HIF_XFER_BYTES (i0 : Nat) : Nat := 0x8028 + i0 * 0x400
def Fld.HIF_XFER_BYTES_bytes : Fld := ⟨0, 64⟩
def Reg.HIF_PERST_COUNT (i0 : Nat) : Nat := 0x8030 + i0 * 0x400
def Fld.HIF_PERST_COUNT_count : Fld := ⟨0, 32⟩
def Reg.HIF_XFER_ERR (i0 : Nat) : Nat := 0x8034 + i0 * 0x400
def Fld.HIF_XFER_ERR_stand : Fld := ⟨0, 4⟩
def Fld.HIF_XFER_ERR_kind : Fld := ⟨4, 4⟩
def Fld.HIF_XFER_ERR_valid : Fld := ⟨8, 1⟩
def Fld.HIF_XFER_ERR_more : Fld := ⟨9, 1⟩
def Reg.HIF_STD_HX_BASE (i0 : Nat) : Nat := 0x9000 + i0 * 0x40
def Fld.HIF_STD_HX_BASE_addr : Fld := ⟨0, 64⟩
def Reg.HIF_STD_HX_SIZE (i0 : Nat) : Nat := 0x9008 + i0 * 0x40
def Fld.HIF_STD_HX_SIZE_size : Fld := ⟨0, 64⟩
def Reg.HIF_STD_INT (i0 : Nat) : Nat := 0x9010 + i0 * 0x40
def Fld.HIF_STD_INT_cause : Fld := ⟨0, 7⟩
def Reg.HIF_STD_INT_EN (i0 : Nat) : Nat := 0x9014 + i0 * 0x40
def Fld.HIF_STD_INT_EN_en : Fld := ⟨0, 7⟩
def Reg.CLK_REF_STATUS : Nat := 0x600
def Fld.CLK_REF_STATUS_ref0_present : Fld := ⟨0, 1⟩
def Fld.CLK_REF_STATUS_ref1_present : Fld := ⟨1, 1⟩
def Fld.CLK_REF_STATUS_ref0_qual : Fld := ⟨2, 1⟩
def Fld.CLK_REF_STATUS_ref1_qual : Fld := ⟨3, 1⟩
def Fld.CLK_REF_STATUS_selected : Fld := ⟨4, 1⟩
def Fld.CLK_REF_STATUS_mode : Fld := ⟨5, 2⟩
def Reg.CLK_REF_CTL : Nat := 0x604
def Fld.CLK_REF_CTL_prefer : Fld := ⟨0, 1⟩
def Fld.CLK_REF_CTL_switch : Fld := ⟨1, 1⟩
def Reg.CLK_SWITCH_STATUS : Nat := 0x608
def Fld.CLK_SWITCH_STATUS_ref_forced : Fld := ⟨0, 1⟩
def Fld.CLK_SWITCH_STATUS_obs_forced : Fld := ⟨1, 1⟩
def Fld.CLK_SWITCH_STATUS_region_forced : Fld := ⟨2, 1⟩
def Fld.CLK_SWITCH_STATUS_refused : Fld := ⟨3, 1⟩
def Fld.CLK_SWITCH_STATUS_switches : Fld := ⟨16, 16⟩
def Reg.CLK_SWITCH_GTC : Nat := 0x610
def Fld.CLK_SWITCH_GTC_gtc : Fld := ⟨0, 64⟩
def Reg.CLK_GTC : Nat := 0x618
def Fld.CLK_GTC_gtc : Fld := ⟨0, 64⟩
def Reg.CLK_GAP_STOP : Nat := 0x630
def Fld.CLK_GAP_STOP_stop : Fld := ⟨0, 64⟩
def Reg.CLK_STANDBY_PPM : Nat := 0x620
def Fld.CLK_STANDBY_PPM_ppm : Fld := ⟨0, 16⟩
def Reg.CLK_GAP : Nat := 0x628
def Fld.CLK_GAP_gap : Fld := ⟨0, 1⟩
def Fld.CLK_GAP_count : Fld := ⟨8, 8⟩
def Reg.CLK_GAP_LO : Nat := 0x638
def Fld.CLK_GAP_LO_ms : Fld := ⟨0, 32⟩
def Reg.CLK_GAP_HI : Nat := 0x63C
def Fld.CLK_GAP_HI_ms : Fld := ⟨0, 32⟩
def Reg.CLK_TREE : Nat := 0x640
def Fld.CLK_TREE_spare_tiles : Fld := ⟨0, 16⟩
def Fld.CLK_TREE_feed_fault : Fld := ⟨16, 1⟩
def Reg.CLK_OBS_SEL : Nat := 0x648
def Fld.CLK_OBS_SEL_source : Fld := ⟨0, 3⟩
def Fld.CLK_OBS_SEL_tile : Fld := ⟨3, 4⟩
def Fld.CLK_OBS_SEL_site : Fld := ⟨7, 3⟩
def Fld.CLK_OBS_SEL_region : Fld := ⟨10, 4⟩
def Fld.CLK_OBS_SEL_n : Fld := ⟨14, 5⟩
def Reg.CLK_TILE_STATUS (i0 : Nat) : Nat := 0x100800000 + i0 * 0x100000000
def Fld.CLK_TILE_STATUS_gtc_lock : Fld := ⟨0, 1⟩
def Fld.CLK_TILE_STATUS_fabric_lock : Fld := ⟨1, 1⟩
def Fld.CLK_TILE_STATUS_hbm_lock : Fld := ⟨2, 2⟩
def Fld.CLK_TILE_STATUS_site_lock : Fld := ⟨4, 6⟩
def Fld.CLK_TILE_STATUS_holdover : Fld := ⟨10, 1⟩
def Fld.CLK_TILE_STATUS_on_spare : Fld := ⟨11, 1⟩
def Reg.CLK_TILE_DESKEW (i0 : Nat) : Nat := 0x100800004 + i0 * 0x100000000
def Fld.CLK_TILE_DESKEW_delay : Fld := ⟨0, 10⟩
def Fld.CLK_TILE_DESKEW_residual : Fld := ⟨10, 6⟩
def Reg.CLK_SITE_EN_RUN (i0 i1 : Nat) : Nat := 0x100800100 + i0 * 0x100000000 + i1 * 0x20
def Fld.CLK_SITE_EN_RUN_mask : Fld := ⟨0, 15⟩
def Reg.CLK_SITE_EN_SLEEP (i0 i1 : Nat) : Nat := 0x100800104 + i0 * 0x100000000 + i1 * 0x20
def Fld.CLK_SITE_EN_SLEEP_mask : Fld := ⟨0, 15⟩
def Reg.CLK_SITE_EN_DEEP (i0 i1 : Nat) : Nat := 0x100800108 + i0 * 0x100000000 + i1 * 0x20
def Fld.CLK_SITE_EN_DEEP_mask : Fld := ⟨0, 15⟩
def Reg.CLK_SITE_ACTIVE (i0 i1 : Nat) : Nat := 0x10080010C + i0 * 0x100000000 + i1 * 0x20
def Fld.CLK_SITE_ACTIVE_mask : Fld := ⟨0, 15⟩
def Reg.CLK_SITE_DIV (i0 i1 : Nat) : Nat := 0x100800110 + i0 * 0x100000000 + i1 * 0x20
def Fld.CLK_SITE_DIV_div : Fld := ⟨0, 6⟩
def Fld.CLK_SITE_DIV_gated : Fld := ⟨6, 1⟩
def Reg.PWR_MODULE : Nat := 0xA00
def Fld.PWR_MODULE_draw : Fld := ⟨0, 16⟩
def Fld.PWR_MODULE_limiting : Fld := ⟨16, 1⟩
def Reg.PWR_FLOOR : Nat := 0xA04
def Fld.PWR_FLOOR_floor : Fld := ⟨0, 16⟩
def Reg.PWR_LIMIT_EVENTS : Nat := 0xA08
def Fld.PWR_LIMIT_EVENTS_count : Fld := ⟨0, 32⟩
def Reg.PWR_STD_CTL (i0 : Nat) : Nat := 0xC00 + i0 * 0x20
def Fld.PWR_STD_CTL_target : Fld := ⟨0, 2⟩
def Fld.PWR_STD_CTL_ramp : Fld := ⟨2, 7⟩
def Fld.PWR_STD_CTL_idle_delay : Fld := ⟨16, 16⟩
def Reg.PWR_STD_STATE (i0 : Nat) : Nat := 0xC04 + i0 * 0x20
def Fld.PWR_STD_STATE_state : Fld := ⟨0, 2⟩
def Fld.PWR_STD_STATE_step : Fld := ⟨2, 3⟩
def Fld.PWR_STD_STATE_ramping : Fld := ⟨5, 1⟩
def Fld.PWR_STD_STATE_aborts : Fld := ⟨16, 16⟩
def Reg.PWR_STD_DRAW (i0 : Nat) : Nat := 0xC08 + i0 * 0x20
def Fld.PWR_STD_DRAW_draw : Fld := ⟨0, 16⟩
def Fld.PWR_STD_DRAW_budget : Fld := ⟨16, 16⟩
def Reg.PWR_STD_THR (i0 : Nat) : Nat := 0xC0C + i0 * 0x20
def Fld.PWR_STD_THR_thermal : Fld := ⟨0, 1⟩
def Fld.PWR_STD_THR_budget : Fld := ⟨1, 1⟩
def Fld.PWR_STD_THR_module : Fld := ⟨2, 1⟩
def Fld.PWR_STD_THR_halves : Fld := ⟨8, 8⟩
def Fld.PWR_STD_THR_episodes : Fld := ⟨16, 16⟩
def Reg.PWR_STD_WAKE (i0 : Nat) : Nat := 0xC10 + i0 * 0x20
def Fld.PWR_STD_WAKE_ticks : Fld := ⟨0, 32⟩
def Reg.THM_CFG : Nat := 0xE00
def Fld.THM_CFG_throttle_c : Fld := ⟨0, 8⟩
def Fld.THM_CFG_hyst : Fld := ⟨8, 4⟩
def Reg.THM_TRIP : Nat := 0xE04
def Fld.THM_TRIP_tripped : Fld := ⟨0, 1⟩
def Fld.THM_TRIP_tower : Fld := ⟨1, 7⟩
def Fld.THM_TRIP_layer : Fld := ⟨8, 2⟩
def Fld.THM_TRIP_tile : Fld := ⟨10, 4⟩
def Fld.THM_TRIP_hbm : Fld := ⟨14, 1⟩
def Reg.THM_NV_WINDOW : Nat := 0xE08
def Fld.THM_NV_WINDOW_tmax : Fld := ⟨0, 12⟩
def Fld.THM_NV_WINDOW_tmin : Fld := ⟨12, 12⟩
def Fld.THM_NV_WINDOW_ok : Fld := ⟨24, 1⟩
def Reg.THM_CH (i0 i1 : Nat) : Nat := 0x100900000 + i0 * 0x100000000 + i1 * 0x4
def Fld.THM_CH_value : Fld := ⟨0, 12⟩
def Fld.THM_CH_stale : Fld := ⟨12, 1⟩
def Fld.THM_CH_suspect : Fld := ⟨13, 1⟩
def Fld.THM_CH_retired : Fld := ⟨14, 1⟩
def Reg.THM_TOWER (i0 i1 : Nat) : Nat := 0x100900100 + i0 * 0x100000000 + i1 * 0x8
def Fld.THM_TOWER_est : Fld := ⟨0, 12⟩
def Fld.THM_TOWER_model : Fld := ⟨12, 12⟩
def Fld.THM_TOWER_model_gov : Fld := ⟨24, 1⟩
def Fld.THM_TOWER_hot_half : Fld := ⟨25, 1⟩
def Fld.THM_TOWER_action : Fld := ⟨26, 2⟩
def Fld.THM_TOWER_p_north : Fld := ⟨32, 12⟩
def Fld.THM_TOWER_p_south : Fld := ⟨44, 12⟩
def Reg.THM_BASE (i0 : Nat) : Nat := 0x100900140 + i0 * 0x100000000
def Fld.THM_BASE_est : Fld := ⟨0, 12⟩
def Reg.THM_ROUND (i0 : Nat) : Nat := 0x100900144 + i0 * 0x100000000
def Fld.THM_ROUND_rounds : Fld := ⟨0, 32⟩
def Reg.PWR_HALF (i0 i1 : Nat) : Nat := 0x100900200 + i0 * 0x100000000 + i1 * 0x4
def Fld.PWR_HALF_n_mode : Fld := ⟨0, 2⟩
def Fld.PWR_HALF_n_k : Fld := ⟨2, 4⟩
def Fld.PWR_HALF_s_mode : Fld := ⟨6, 2⟩
def Fld.PWR_HALF_s_k : Fld := ⟨8, 4⟩
def Fld.PWR_HALF_n_cause : Fld := ⟨12, 3⟩
def Fld.PWR_HALF_s_cause : Fld := ⟨15, 3⟩
def Reg.PWR_DROOP (i0 i1 i2 : Nat) : Nat := 0x100900300 + i0 * 0x100000000 + i1 * 0x40 + i2 * 0x4
def Fld.PWR_DROOP_mild : Fld := ⟨0, 16⟩
def Fld.PWR_DROOP_severe : Fld := ⟨16, 16⟩
def Reg.PWR_PAD_HOLD (i0 : Nat) : Nat := 0x100900500 + i0 * 0x100000000
def Fld.PWR_PAD_HOLD_site : Fld := ⟨0, 6⟩
def Fld.PWR_PAD_HOLD_hbm : Fld := ⟨6, 2⟩
def Reg.MGT_START_CTL : Nat := 0x700
def Fld.MGT_START_CTL_cold : Fld := ⟨0, 1⟩
def Fld.MGT_START_CTL_warm : Fld := ⟨1, 1⟩
def Fld.MGT_START_CTL_bist : Fld := ⟨2, 1⟩
def Reg.MGT_START_STATUS : Nat := 0x704
def Fld.MGT_START_STATUS_phase : Fld := ⟨0, 2⟩
def Fld.MGT_START_STATUS_step : Fld := ⟨2, 4⟩
def Fld.MGT_START_STATUS_kind : Fld := ⟨6, 1⟩
def Fld.MGT_START_STATUS_forced_cold : Fld := ⟨7, 1⟩
def Fld.MGT_START_STATUS_refused : Fld := ⟨8, 1⟩
def Fld.MGT_START_STATUS_attempts : Fld := ⟨12, 4⟩
def Fld.MGT_START_STATUS_starts : Fld := ⟨16, 16⟩
def Reg.MGT_START_FAIL : Nat := 0x708
def Fld.MGT_START_FAIL_step : Fld := ⟨0, 4⟩
def Fld.MGT_START_FAIL_cause : Fld := ⟨4, 4⟩
def Fld.MGT_START_FAIL_tile : Fld := ⟨8, 4⟩
def Fld.MGT_START_FAIL_kind : Fld := ⟨12, 1⟩
def Fld.MGT_START_FAIL_valid : Fld := ⟨13, 1⟩
def Fld.MGT_START_FAIL_ms : Fld := ⟨32, 32⟩
def Reg.MGT_TILE_CTL : Nat := 0x710
def Fld.MGT_TILE_CTL_tile : Fld := ⟨0, 4⟩
def Fld.MGT_TILE_CTL_start : Fld := ⟨4, 1⟩
def Fld.MGT_TILE_CTL_busy : Fld := ⟨5, 1⟩
def Fld.MGT_TILE_CTL_refused : Fld := ⟨6, 1⟩
def Fld.MGT_TILE_CTL_count : Fld := ⟨16, 16⟩
def Reg.MGT_DWM_COUNT : Nat := 0x718
def Fld.MGT_DWM_COUNT_entries : Fld := ⟨0, 16⟩
def Fld.MGT_DWM_COUNT_pending : Fld := ⟨16, 8⟩
def Reg.MGT_DWM_SEL : Nat := 0x71C
def Fld.MGT_DWM_SEL_index : Fld := ⟨0, 16⟩
def Reg.MGT_DWM_DATA (i0 : Nat) : Nat := 0x720 + i0 * 0x4
def Fld.MGT_DWM_DATA_data : Fld := ⟨0, 32⟩
def Reg.MGT_ERR_HEAD (i0 : Nat) : Nat := 0x3000 + i0 * 0x8
def Fld.MGT_ERR_HEAD_entry : Fld := ⟨0, 64⟩
def Reg.MGT_ERR_POP : Nat := 0x3020
def Fld.MGT_ERR_POP_pop : Fld := ⟨0, 1⟩
def Reg.MGT_ERR_STATUS : Nat := 0x3028
def Fld.MGT_ERR_STATUS_entries : Fld := ⟨0, 7⟩
def Fld.MGT_ERR_STATUS_lost_corr : Fld := ⟨8, 8⟩
def Fld.MGT_ERR_STATUS_lost_cont : Fld := ⟨16, 8⟩
def Fld.MGT_ERR_STATUS_lost_fatal : Fld := ⟨24, 8⟩
def Fld.MGT_ERR_STATUS_suppressed : Fld := ⟨32, 32⟩
def Reg.MGT_ERR_CFG : Nat := 0x3030
def Fld.MGT_ERR_CFG_corr_log : Fld := ⟨0, 1⟩
def Fld.MGT_ERR_CFG_corr_gap : Fld := ⟨1, 5⟩
def Reg.MGT_ERR_FIRST (i0 i1 : Nat) : Nat := 0x3040 + i0 * 0x30 + i1 * 0x8
def Fld.MGT_ERR_FIRST_entry : Fld := ⟨0, 64⟩
def Reg.MGT_ERR_FIRST_CTL (i0 : Nat) : Nat := 0x3060 + i0 * 0x30
def Fld.MGT_ERR_FIRST_CTL_valid : Fld := ⟨0, 1⟩
def Fld.MGT_ERR_FIRST_CTL_more : Fld := ⟨1, 1⟩
def Reg.STD_ERR (i0 : Nat) : Nat := 0x1000060 + i0 * 0x100000
def Fld.STD_ERR_code : Fld := ⟨0, 8⟩
def Fld.STD_ERR_valid : Fld := ⟨8, 1⟩
def Fld.STD_ERR_more : Fld := ⟨9, 1⟩
def Fld.STD_ERR_gcore : Fld := ⟨16, 14⟩
def Fld.STD_ERR_count : Fld := ⟨32, 16⟩
def Reg.PMC_MAP_CFG : Nat := 0x3100
def Fld.PMC_MAP_CFG_enable : Fld := ⟨0, 1⟩
def Fld.PMC_MAP_CFG_period : Fld := ⟨1, 5⟩
def Fld.PMC_MAP_CFG_last : Fld := ⟨6, 1⟩
def Reg.PMC_ARM (i0 i1 i2 : Nat) : Nat := 0x100A68000 + i0 * 0x100000000 + i1 * 0x40 + i2 * 0x8
def Fld.PMC_ARM_enable : Fld := ⟨0, 1⟩
def Fld.PMC_ARM_pos : Fld := ⟨1, 8⟩
def Fld.PMC_ARM_event : Fld := ⟨9, 6⟩
def Fld.PMC_ARM_n : Fld := ⟨15, 6⟩
def Reg.PMC_SAMPLE_STATUS (i0 : Nat) : Nat := 0x100A69400 + i0 * 0x100000000
def Fld.PMC_SAMPLE_STATUS_count : Fld := ⟨0, 7⟩
def Fld.PMC_SAMPLE_STATUS_pop : Fld := ⟨7, 7⟩
def Fld.PMC_SAMPLE_STATUS_lost : Fld := ⟨16, 16⟩
def Reg.PMC_CORE (i0 i1 i2 i3 : Nat) : Nat := 0x100A00000 + i0 * 0x100000000 + i1 * 0x10000 + i2 * 0x140 + i3 * 0x8
def Reg.PMC_ROUTER (i0 i1 : Nat) : Nat := 0x100A60000 + i0 * 0x100000000 + i1 * 0x8
def Reg.PMC_ENGINE (i0 i1 : Nat) : Nat := 0x100A60100 + i0 * 0x100000000 + i1 * 0x8
def Reg.PMC_FRONT (i0 i1 i2 : Nat) : Nat := 0x100A70000 + i0 * 0x100000000 + i1 * 0x40 + i2 * 0x8
def Reg.PMC_INBOX (i0 i1 i2 : Nat) : Nat := 0x100A74000 + i0 * 0x100000000 + i1 * 0x40 + i2 * 0x8
def Reg.STD_FENCES (i0 : Nat) : Nat := 0x1400 + i0 * 0x20
def Fld.STD_FENCES_count : Fld := ⟨0, 8⟩
def Fld.STD_FENCES_gcore : Fld := ⟨8, 14⟩
def Reg.STD_REJOIN_BEAT (i0 : Nat) : Nat := 0x1408 + i0 * 0x20
def Fld.STD_REJOIN_BEAT_beat : Fld := ⟨0, 64⟩
def Reg.FAB_NOTE_VALUE (i0 i1 : Nat) : Nat := 0x100104000 + i0 * 0x100000000 + i1 * 0x10
def Fld.FAB_NOTE_VALUE_value : Fld := ⟨0, 48⟩
def Reg.FAB_NOTE_BEAT (i0 i1 : Nat) : Nat := 0x100104008 + i0 * 0x100000000 + i1 * 0x10
def Fld.FAB_NOTE_BEAT_beat : Fld := ⟨0, 64⟩
def Reg.PMC_SAMPLE (i0 i1 i2 : Nat) : Nat := 0x100A69000 + i0 * 0x100000000 + i1 * 0x10 + i2 * 0x4
def Fld.PMC_SAMPLE_record : Fld := ⟨0, 32⟩
def Reg.MAP_BUFFER (i0 i1 : Nat) : Nat := 0x20000 + i0 * 0x2000 + i1 * 0x4
def Fld.MAP_BUFFER_word : Fld := ⟨0, 32⟩
def Reg.SITE_DESC (i0 i1 : Nat) : Nat := 0x4000 + i0 * 0x40 + i1 * 0x4
def Fld.SITE_DESC_word : Fld := ⟨0, 32⟩
def Reg.SEC_BOOT_ADDR : Nat := 0x6000
def Fld.SEC_BOOT_ADDR_addr : Fld := ⟨0, 64⟩
def Reg.SEC_BOOT_LEN : Nat := 0x6008
def Fld.SEC_BOOT_LEN_len : Fld := ⟨0, 23⟩
def Reg.SEC_BOOT_CTL : Nat := 0x600C
def Fld.SEC_BOOT_CTL_go : Fld := ⟨0, 1⟩
def Fld.SEC_BOOT_CTL_raise_svn : Fld := ⟨1, 1⟩
def Reg.SEC_BOOT_STATUS : Nat := 0x6010
def Fld.SEC_BOOT_STATUS_state : Fld := ⟨0, 3⟩
def Fld.SEC_BOOT_STATUS_code : Fld := ⟨3, 4⟩
def Fld.SEC_BOOT_STATUS_port : Fld := ⟨7, 1⟩
def Fld.SEC_BOOT_STATUS_svn : Fld := ⟨8, 16⟩
def Reg.SEC_FW_DIGEST (i0 : Nat) : Nat := 0x6020 + i0 * 0x4
def Fld.SEC_FW_DIGEST_digest : Fld := ⟨0, 32⟩
def Reg.SEC_STATE : Nat := 0x6040
def Fld.SEC_STATE_opened : Fld := ⟨0, 1⟩
def Fld.SEC_STATE_id_key : Fld := ⟨1, 1⟩
def Fld.SEC_STATE_tap_enabled : Fld := ⟨2, 1⟩
def Fld.SEC_STATE_min_svn : Fld := ⟨16, 16⟩
def Reg.SEC_TAP_ARM : Nat := 0x6048
def Fld.SEC_TAP_ARM_arm : Fld := ⟨0, 32⟩
def Reg.SEC_TAP_CTL : Nat := 0x604C
def Fld.SEC_TAP_CTL_open : Fld := ⟨0, 1⟩
def Fld.SEC_TAP_CTL_refused : Fld := ⟨1, 1⟩
def Fld.SEC_TAP_CTL_busy : Fld := ⟨2, 1⟩
def Reg.MGT_CTRL : Nat := 0x6080
def Fld.MGT_CTRL_primary : Fld := ⟨0, 4⟩
def Fld.MGT_CTRL_standby_ok : Fld := ⟨4, 1⟩
def Fld.MGT_CTRL_takeover : Fld := ⟨5, 1⟩
def Reg.NVS_STATUS : Nat := 0x6100
def Fld.NVS_STATUS_copy0_ok : Fld := ⟨0, 1⟩
def Fld.NVS_STATUS_copy1_ok : Fld := ⟨1, 1⟩
def Fld.NVS_STATUS_busy : Fld := ⟨2, 1⟩
def Fld.NVS_STATUS_queue : Fld := ⟨3, 6⟩
def Fld.NVS_STATUS_bank : Fld := ⟨9, 1⟩
def Fld.NVS_STATUS_resync : Fld := ⟨10, 1⟩
def Reg.NVS_REFUSE : Nat := 0x6104
def Fld.NVS_REFUSE_code : Fld := ⟨0, 3⟩
def Fld.NVS_REFUSE_kind : Fld := ⟨3, 8⟩
def Fld.NVS_REFUSE_valid : Fld := ⟨11, 1⟩
def Fld.NVS_REFUSE_more : Fld := ⟨12, 1⟩
def Fld.NVS_REFUSE_count : Fld := ⟨16, 16⟩
def Reg.NVS_LAST_SEQ : Nat := 0x6108
def Fld.NVS_LAST_SEQ_seq : Fld := ⟨0, 32⟩
def Reg.NVS_FREE : Nat := 0x610C
def Fld.NVS_FREE_free : Fld := ⟨0, 22⟩

end Sys2Proof.Machine
end

