-- ==== Sys2Proof/Machine/Sparse.lean ====
section
/-! DEFINITION. Sparse maps: a list of key and value pairs with keys strictly rising and no entry equal to what an
unlisted key reads as, so that equal maps are equal lists. -/

namespace Sys2Proof.Machine

/-- A sparse map from natural numbers. -/
abbrev SMap (α : Type) := List (Nat × α)

/-- The value at `k`; `d` where `k` is not listed. -/
def sget {α : Type} (d : α) : SMap α → Nat → α
  | [], _ => d
  | (k', v) :: rest, k => if k = k' then v else sget d rest k

/-- Remove the entry at `k`. -/
def sdel {α : Type} : SMap α → Nat → SMap α
  | [], _ => []
  | (k', v) :: rest, k => if k = k' then sdel rest k else (k', v) :: sdel rest k

/-- Insert or replace the entry at `k`, keeping the keys rising. -/
def sput {α : Type} : SMap α → Nat → α → SMap α
  | [], k, v => [(k, v)]
  | (k', v') :: rest, k, v =>
    if k < k' then (k, v) :: (k', v') :: rest
    else if k = k' then (k, v) :: rest
    else (k', v') :: sput rest k v

/-- Write `v` at `k`: the value an unlisted key reads as removes the entry. -/
def sset {α : Type} [DecidableEq α] (d : α) (m : SMap α) (k : Nat) (v : α) : SMap α :=
  if v = d then sdel m k else sput m k v

/-- The keys rise strictly from `lo`, and no listed value is the default. -/
def swfFrom {α : Type} [DecidableEq α] (d : α) : Nat → SMap α → Bool
  | _, [] => true
  | lo, (k, v) :: rest => decide (lo ≤ k) && decide (v ≠ d) && swfFrom d (k + 1) rest

/-- The canonical form of a sparse map. -/
def swf {α : Type} [DecidableEq α] (d : α) (m : SMap α) : Bool := swfFrom d 0 m

end Sys2Proof.Machine
end

