-- ==== Sys2Proof/Machine/FabricState.lean ====
section
/-! DEFINITION. The state of the photonic transport on one tile: fabric-sequencer contexts, circuits, listeners,
modulators, calibration and monitors (R252 to R319). Where a register of R288, R289 or R319 holds a value that only
that register shows, the register is its home. -/

namespace Sys2Proof.Machine

/-- A binding (R273): `beat` is the schedule beat in which the bind executed. -/
structure Binding where
  beat : Word
  mask : BitVec 6
  off : Nat
  lines : Nat
  ring : Nat
  deriving DecidableEq, Repr

/-- A line of a frame of the present beat (R274): where it comes from and goes to, its contents once read, and where it has
still to be written. It is read at a moment before the verdict, and written at each place at one before the edge (R3). [DESIGN CHOICE, assumption 124, safe] -/
structure FrameLine where
  src : Nat
  dsts : List Nat
  data : Option (BitVec 512)
  left : List Nat
  deriving DecidableEq, Repr

/-- A handle of a context (R270). -/
structure Circ where
  isOpen : Bool
  src : Nat                 -- source tile
  trunk : Nat               -- home trunk h
  slot : Nat
  pd : Bool
  listener : Nat
  openBeat : Word
  openGrid : Nat            -- the stand's next grid edge when it opened (R260, R271)
  carriage : Bool
  flagged : Nat             -- frames flagged since the handle opened
  flagNow : Bool            -- the frame after the last grid edge was flagged
  flagPrev : Bool           -- so was the frame before it, of the same schedule beat
  judged : Bool             -- the verdict on the present frame is in
  bind : Option Binding
  frame : List FrameLine    -- the frame that arrives, or is taken, since the last edge
  deriving DecidableEq, Repr

/-- A closed handle. -/
def Circ.zero : Circ := ⟨false, 0, 0, 0, false, 0, 0, 0, false, 0, false, false, false, none, []⟩

/-- What a sequencer instruction leaves for the admitted edge (R272). -/
inductive EdgeAct where
  | bindSend (e : Nat) (b : Binding)
  | bindRecv (c : Nat) (b : Binding)
  | unbindSend (e : Nat)
  | unbindRecv (c : Nat)
  | shut (c : Nat)
  | mcast (h slot mask : Nat)
  deriving DecidableEq, Repr

/-- A fabric-sequencer context (R282). `state` is that of FAB_CTX_STATUS. -/
structure CtxSt where
  state : Nat
  stand : Nat
  prog : List (BitVec 64)
  pc : Nat
  cnt : SMap Nat
  wait : Option Word
  circs : SMap Circ
  sends : SMap (Option Binding)
  acts : List EdgeAct
  deriving DecidableEq, Repr

/-- A free context. -/
def CtxSt.zero : CtxSt := ⟨0, 0, [], 0, [], none, [], [], []⟩

/-- What a listener does (R259 to R261, R297). -/
inductive LMode where
  | parked        -- a spare listener in this mode monitors the trunk's spare channel (R261)
  | moving        -- on the way to `ch`
  | drop          -- locked, dropping `ch`
  | fenced
  deriving DecidableEq, Repr

/-- A listener of a tile: its target channel and the context and handle it serves. -/
structure Listener where
  mode : LMode
  ch : Nat
  user : Option (Nat × Nat)
  mislockAt : Option Word       -- GTC of the first mislocked codeword (R295)
  relockAt : Option Word        -- GTC of the last completed relock (R296)
  lost : Bool                   -- lost lock and not yet locked again (R294)
  deriving DecidableEq, Repr

/-- A parked listener that serves nothing. -/
def Listener.zero : Listener := ⟨.parked, 0, none, none, none, false⟩

/-- A modulator that has intruded (R299): when it was last parked, and its updates since without an intruder. [DEDUCED, assumption 41, unsafe] -/
structure ModPark where
  parked : Bool
  since : Word
  clean : Nat
  deriving DecidableEq, Repr

/-- A trim converter (R303): the code applied, its recalibrations and the last one's GTC. -/
structure Trim where
  code : BitVec 12
  count : BitVec 32
  gtc : Word
  recd : BitVec 12              -- its code in the record in use or written last (R304)
  cal : BitVec 12               -- its code at its last calibration, or in the record in use (R299)
  deriving DecidableEq, Repr

/-- A trim converter at its calibrated code. -/
def Trim.zero : Trim := ⟨0, 0, 0, 0, 0⟩

/-- A ring's lock loop (R291, R293, R294): the bias tuner's offset in MHz and its sum over the updates since it was last handed
to the heater, the updates in a row within 4 GHz, at most 8, and those below the detection floor, at most 3; and the feed-forward
and open-loop terms that its heater's code takes into account, in codes. -/
structure LoopSt where
  bias : Int
  sum : Int
  n : Nat
  good : Nat
  dim : Nat
  terms : Option (Int × Int)
  deriving DecidableEq, Repr

/-- A loop that has made no update. -/
def LoopSt.zero : LoopSt := ⟨0, 0, 0, 0, 0, none⟩

/-- The photonic state of one tile. Lists keyed by a home trunk use its number h. [DEDUCED, assumption 40, safe] -/
structure FabTile where
  ctxs : SMap CtxSt
  lst : SMap Listener
  spareJ : SMap Nat             -- per foreign trunk, 8 minus the place j of its spare listener
  mcast : SMap Nat              -- target mask by 32·h + slot; 0 at full rate
  calDone : SMap Nat            -- per home trunk, 1 + channel calibrated and waiting to become the spare (R257)
  calWas : SMap Nat             -- per home trunk, 1 + channel whose calibration was abandoned
  swapOld : SMap Nat            -- per home trunk, 1 + vacated channel + 64·slot of a swap in its clearing (R278)
  mods : SMap (Option ModPark)  -- intruding modulators by 64·trunk number + channel
  msgs : List (Nat × Nat)       -- intruder messages that have reached this tile's fabric manager: trunk number, channel (R298)
  blocked : List (Nat × Nat)    -- (trunk number, channel) blocked by this tile's heaters (R309)
  lostRings : List Nat          -- converters of rings that lost lock
  trims : SMap Trim
  loops : SMap LoopSt           -- lock loops by heater converter
  power : SMap (BitVec 16)      -- launch powers by 33·h + channel (R300)
  lstTab : SMap (Option (BitVec 12 × BitVec 12))  -- listener code tables by 64·foreign trunk + channel (R300)
  fronts : SMap Nat             -- per receiver front end, 1 + the listener that it serves or served last (R262, R495)
  tia : Nat                     -- the front end whose TIA offset is recalibrated next (R301)
  tiaNow : Option Nat           -- the front end whose TIA offset is being recalibrated (R305)
  holdCodes : List (Nat × BitVec 12)   -- heater codes that park codes replace in a hold (R308)
  reading : Option (BitVec 15)  -- the monitor selection of a reading under way (R306)
  holdTemp : Option Nat         -- base temperature at the entry of a hold (R308)
  heaterFail : Bool
  switchOut : Option Nat        -- fibre input being ramped out (R311)
  deriving DecidableEq, Repr

/-- A tile with no context loaded and every listener at rest. [DESIGN CHOICE, assumption 13, unsafe] -/
def FabTile.zero : FabTile :=
  { ctxs := [], lst := [], spareJ := [], mcast := [], calDone := [], calWas := [], swapOld := [], mods := [], msgs := [],
    blocked := [], lostRings := [], trims := [],
    loops := [], power := [], lstTab := [], fronts := [], tia := 0, tiaNow := none, holdCodes := [], reading := none, holdTemp := none, heaterFail := false,
    switchOut := none }

end Sys2Proof.Machine
end

