-- ==== Sys2Proof/Machine/PlaneState.lean ====
section
/-! DEFINITION. The state of the packet plane: cells, flows, the tile router, the memory engine, combining, the
beat-ordered partitions and the digests (R320 to R350). -/

namespace Sys2Proof.Machine

/-- A cell: the packet header of R322 and its 64-byte payload (R321). -/
structure Pkt where
  kind : BitVec 3
  op : BitVec 8
  stand : BitVec 4
  dst : BitVec 4
  srcTile : BitVec 4
  src : BitVec 14
  seq : BitVec 16
  epoch : BitVec 3
  age : BitVec 4
  af : Bool
  dg : Bool
  bo : Bool
  width : BitVec 3
  comb : Bool
  count : BitVec 10
  beat : BitVec 6
  addr : BitVec 42
  payload : BitVec 512
  deriving DecidableEq, Repr

/-- A cell of zeros. -/
def Pkt.zero : Pkt := ⟨0, 0, 0, 0, 0, 0, 0, 0, 0, false, false, false, 0, false, 0, 0, 0, 0⟩

/-- What a flow context records of one number: whether applied, with which status (R334). -/
structure FlowEnt where
  seq : BitVec 16
  status : BitVec 4
  buffered : Bool       -- a beat-ordered request acknowledged and waiting for its edge
  deriving DecidableEq, Repr

/-- A flow context of a tile (R331, R334). `started` is false until the first packet after a reset (R335). -/
structure FlowCtx where
  started : Bool
  epoch : BitVec 3
  newest : BitVec 16
  seen : List FlowEnt
  store : Option (BitVec 16)   -- the last plain store or multicast copy applied (R332)
  deriving DecidableEq, Repr

/-- A context that has met no packet. -/
def FlowCtx.empty : FlowCtx := ⟨false, 0, 0, [], none⟩

/-- A reply-cache entry: the data reply kept until confirmed (R334). -/
structure CacheEnt where
  src : BitVec 14
  seq : BitVec 16
  epoch : BitVec 3
  reply : Pkt
  deriving DecidableEq, Repr

/-- A digest record of the current beat (R343): its sort key and its 96 bytes. -/
structure DgRec where
  beat : BitVec 64
  gcore : BitVec 14
  seq : BitVec 16
  bytes : BitVec 768
  deriving DecidableEq, Repr

/-- A packet waiting at injection; `age` counts router cycles held for combining (R339). -/
structure InjEnt where
  pkt : Pkt
  held : Nat
  comb : Bool
  deriving DecidableEq, Repr

/-- A combined packet held by a combining unit until its acknowledgement or reply (R337, R338); `acked` when a
beat-ordered one has been acknowledged and its data reply is outstanding (R334). -/
structure CombGroup where
  pkt : Pkt
  sentAt : BitVec 64
  acked : Bool
  parts : List Pkt
  deriving DecidableEq, Repr

/-- A request of the memory engine that carries line `line` of the hmov on tag `mt` of core `g` (R208, R331). -/
structure MemOp where
  pkt : Pkt
  g : Nat
  mt : BitVec 3
  line : Nat
  sentAt : BitVec 64
  sent : Bool
  deriving DecidableEq, Repr

/-- A confirm awaiting its acknowledgement (R334). -/
structure ConfEnt where
  dst : BitVec 4
  seq : BitVec 16
  epoch : BitVec 3
  sentAt : BitVec 64
  sent : Bool
  names : List (BitVec 14 × BitVec 16)
  deriving DecidableEq, Repr

/-- A window unit held: toward which tile and for which request (R328); `open_` until the request has been acknowledged or
answered, as far as .af waits for it (R333). -/
structure WinUnit where
  dst : BitVec 4
  src : BitVec 14
  seq : BitVec 16
  open_ : Bool
  deriving DecidableEq, Repr

/-- The beat-ordered partition of one stand on one tile (R340). -/
structure BoPart where
  stand : Nat
  ents : List Pkt
  overflow : Bool
  deriving DecidableEq, Repr

/-- The records of one stand's current beat on one tile (R344); the digest itself stands in PKT_DIGEST. -/
structure DgUnit where
  stand : Nat
  recs : List DgRec
  deriving DecidableEq, Repr

/-- A request that has gone down the link of tower `w` to its agent, which answers it once (R371). A beat-ordered one goes at its edge,
as constituent `k` of its cell, and waits for the others' answers: status and data. -/
structure DownReq where
  w : Nat
  pkt : Pkt
  cell : Option Pkt
  k : Nat
  got : Option (Nat × Nat)
  deriving DecidableEq, Repr

/-- The packet-plane state of one tile. -/
structure PlaneTile where
  rx : List Pkt                 -- cells that have arrived at the router
  inject : List InjEnt          -- local packets waiting at injection
  ejNormal : List Pkt           -- ejection buffer, normal entries (R327)
  ejReserve : List Pkt          -- ejection buffer, urgent reserve
  ejHigh : Nat                  -- most ejection entries in use at once
  pool : List Pkt               -- the urgent pool (R326)
  poolHigh : Nat
  flows : SMap FlowCtx          -- flow contexts by src
  cache : List CacheEnt         -- the reply cache
  windows : List WinUnit        -- window units held by this tile's requests
  groups : List CombGroup       -- the combining unit
  combSeq : SMap (BitVec 16)    -- next number of the combining unit's flows by destination
  confirms : List ConfEnt       -- confirms not yet acknowledged
  confSeq : SMap (BitVec 16)
  bo : List BoPart
  dg : List DgUnit
  mem : List MemOp              -- the memory engine's own requests that are outstanding
  memSeq : SMap (BitVec 16)     -- next number of the memory engine's flows by destination
  memLast : SMap (BitVec 16)    -- number after their last store (0: none)
  epoch : BitVec 3              -- of the flows of the tile's own units (R335)
  idle : SMap Nat               -- cells sent since the last idle one, by 4·tile + lane (R321)
  laneRemap : List (Nat × Nat × Nat × Nat)  -- remaps awaiting a clearing (0), or in one of a stand (1 + its number): trunk, group, position (R347)
  early : List (Pkt × Nat × Nat × BitVec 64)  -- granules that 64-byte loads waiting for the engine have read (R3, R213): line, granule
  tags : SMap (BitVec 12)       -- the wavelength tag of the last idle cell on its lanes, by 32·trunk + lane (R321)
  down : List DownReq           -- requests at the tile's agents (R371)
  deriving DecidableEq, Repr

/-- A tile's packet plane with nothing in it. [DESIGN CHOICE, assumption 13, unsafe] -/
def PlaneTile.empty : PlaneTile :=
  { rx := [], inject := [], ejNormal := [], ejReserve := [], ejHigh := 0, pool := [], poolHigh := 0, flows := [],
    cache := [], windows := [], groups := [], combSeq := [], confirms := [], confSeq := [], bo := [], dg := [],
    mem := [], memSeq := [], memLast := [], epoch := 0, idle := [], laneRemap := [], early := [], tags := [], down := [] }

end Sys2Proof.Machine
end

