-- ==== Sys2Proof/Machine/CoreState.lean ====
section
/-! DEFINITION. The state of one logical core (R81), with its pipeline, scoreboard, network interface, tensor and
similarity units and beat signals. -/

namespace Sys2Proof.Machine

/-- A register a later cycle writes (R88). -/
inductive Dest where
  | s (r : R5)
  | v (r : R5)
  | k (r : BitVec 3)
  | acc (r : BitVec 3)
  deriving DecidableEq, Repr

/-- A result on its way to a register; the value of a narrower register stands in the low bits. -/
structure Pend where
  due : Nat
  dest : Dest
  val : BitVec 65536
  deriving DecidableEq, Repr

/-- An active loop (R142). -/
structure LoopEnt where
  start : Nat
  last : Nat
  left : Nat
  deriving DecidableEq, Repr

/-- What a scoreboard entry waits for (R90). -/
inductive SbWait where
  | remote (tile : BitVec 4) (seq : BitVec 16)
  | tower (data : BitVec 512) (bad : Bool) (bundle : Nat)
  | topk
  deriving DecidableEq, Repr

/-- A scoreboard entry: the register, what it waits for, and the issue beat of a beat-ordered atomic (R221). -/
structure SbEnt where
  dest : Dest
  wait : SbWait
  boBeat : Option Word
  deriving DecidableEq, Repr

/-- What a core's bundle waits in: a fence or a flag wait, which hold one scoreboard entry (R224, R225). -/
inductive WaitKind where
  | fence
  | wflag
  deriving DecidableEq, Repr

/-- A remote operation outstanding at the network interface (R210, R211): its packet, the bundle it came from, its number among the
core's operations. -/
structure NiOp where
  pkt : Pkt
  issueBeat : Word
  dest : Option Dest
  sentAt : Word          -- GTC of the last transmission, or of the edge that restarts the timeout (R334)
  sent : Bool            -- has left the source tile router
  acked : Bool           -- a beat-ordered atomic acknowledged, its data reply outstanding
  grouped : Bool         -- carried by a combined packet
  bundle : Nat
  num : Nat
  deriving DecidableEq, Repr

/-- A move tag (R90, R208): pending, and the status of its last completion (R229). -/
structure TagSt where
  pending : Bool
  status : BitVec 4
  deriving DecidableEq, Repr

/-- A block move or host transfer in flight on a tag. `late` lists the lines not yet read, `held` those read and not yet
written, with their data, `out` those that a memory engine's request carries (R208). -/
structure MoveSt where
  tag : BitVec 3
  host : Bool
  toFar : Bool
  far : Word
  loc : Word
  lines : Nat
  late : List Nat
  held : List (Nat × BitVec 512)
  out : List Nat
  bad : Nat           -- the first status of a line that is not ok (R208)
  beat : Word         -- its issue beat
  asked : Nat         -- a host transfer's 4 KiB pieces that the engine has requested (R409)
  own : Bool          -- the status `bad` comes from the core's own data memory (R229)
  bundle : Nat        -- the bundle it came from (R231)
  deriving DecidableEq, Repr

/-- A copy into an A buffer or its scale buffer that has not completed (R181): `late` lists its 64-byte lines still to
be read, `issued` is the cycle of its issue, and `later` says that another copy into the buffer has been issued since. -/
structure ACopy where
  buf : BitVec 1
  scale : Bool
  src : Nat
  late : List Nat
  issued : Nat
  later : Bool
  deriving DecidableEq, Repr

/-- A chunk of the B stream (R182): its address and the halves already in the stream buffer. -/
structure BChunk where
  addr : Nat
  lo : Option (BitVec 512)
  hi : Option (BitVec 512)
  deriving DecidableEq, Repr

/-- An entry of a top-k list: a signed 48-bit score and a document number (R121, R197). -/
structure TopEnt where
  score : BitVec 48
  doc : BitVec 32
  deriving DecidableEq, Repr

/-- A top-k list in rank order (R196). -/
structure TopList where
  k : Nat
  ents : List TopEnt
  deriving DecidableEq, Repr

/-- A memory line that the similarity unit has read for an instruction: its address, what it held, and whether it was poisoned (R200,
R381). -/
structure SimLine where
  addr : Nat
  val : BitVec 512
  bad : Bool
  deriving DecidableEq, Repr

/-- A queued similarity instruction with the operands read at issue (R180, R190), the bundle it came from, the memory lines
read for it, each for one access and in the order of its accesses to that line, and for a tkrd the earlier copies that complete before it returns (R181), by cycle of issue. -/
structure SimEnt where
  op : QOp
  f : TF
  va : BitVec 512
  ss : Word
  bundle : Nat
  got : List SimLine
  waits : List Nat
  deriving DecidableEq, Repr

/-- The current segment entry (R193). -/
structure SegEnt where
  doc : BitVec 32
  isOpen : Bool
  deriving DecidableEq, Repr

/-- A clock region of a compute die (R78, R447): a row's outgoing crossing FIFO, oldest entry first, and the FIFO into the row, each
with its high-water stall; the high-water stalls of the region's outgoing FIFOs, and its stretched cycles by kind. An entry names its
core, and an outgoing one the packet that it is, if it is one of the core's own; 12288 names none, where the entry is another's. -/
structure Region where
  out : List (Nat × Nat)
  outHigh : Bool
  inn : List Nat
  inHigh : Bool
  events : Nat
  mild : Nat
  severe : Nat
  seen : Nat              -- 1 + the last cycle whose stretch was counted, by grid edge and nominal number
  deriving DecidableEq, Repr

def Region.zero : Region := ⟨[], false, [], false, 0, 0, 0, 0⟩

/-- One logical core. -/
structure CoreSt where
  running : Bool            -- in a run and issuing
  halted : Bool             -- its bundle met a run-time error: it issues nothing more (R146)
  ended : Bool              -- has executed end (R166)
  fenced : Bool             -- fenced and not yet replaced (R96)
  cause : Nat               -- the cause of its fence (R93)
  physical : Bool           -- a fenced core still powered to drain its network interface
  pc : Nat
  progLen : Nat
  led : Bool                     -- a branch, a loop or jr led to `pc` (R145)
  delay : Option (Nat × Nat)     -- delay bundles left and the branch target (R139)
  loops : List LoopEnt           -- innermost first
  cycle : Nat
  staged : List SlotOp           -- operations of the bundle being assembled
  s : SMap Word
  v : SMap Vec
  k : SMap Word
  acc : SMap (BitVec 65536)      -- value forwarded in the array (R187)
  accVis : SMap (BitVec 65536)   -- value its other readers see
  statSum : BitVec 512
  statSq : BitVec 512
  pend : List Pend               -- results on their way, by due cycle
  sb : List SbEnt
  waiting : Option WaitKind
  waitHolds : Nat                -- consecutive holds in one wflag (R225)
  tags : SMap TagSt
  moves : List MoveSt
  abuf : SMap (BitVec 16384)
  ascale : SMap (BitVec 1024)
  acopies : List ACopy
  bstream : List BChunk
  arrayFree : Nat                -- first cycle in which the array is free
  arrayBuf : Nat                 -- the A buffer that the array reads until then
  query : BitVec 32768
  weights : BitVec 256
  maxima : BitVec 1024
  tops : SMap TopList
  curTop : BitVec 3
  segAddr : Nat
  segLeft : Nat                  -- entries remaining, the current one included
  seg : Option SegEnt
  segRem : Nat                   -- tokens remaining in the current entry
  centroid : Option (Nat × BitVec 32)
  simQueue : List SimEnt
  simStopped : Bool
  docsClosed : BitVec 32
  ni : List NiOp
  seqs : SMap (BitVec 16)        -- next number of each flow, by destination tile
  lastStore : SMap (BitVec 16)   -- number after the last plain store of each flow (0: none)
  epoch : BitVec 3
  niNext : Nat                   -- operations that have taken a slot of the network interface
  boFrom : List (BitVec 4 × BitVec 16 × Word × Nat) -- beat-ordered operations of late beats: tile, number, issue beat and bundle
  niBad : Nat
  niFirst : Word
  niRetrans : Nat
  link : List (Nat × Nat)        -- requests in the core's own row-bus link: the cycle that writes each to the crossing FIFO, its packet
  turn : Nat                     -- the reader that the stream port tries first (R183)
  nom : Nat                      -- the half's nominal cycle, from the stand's last grid edge (R80)
  pat : Nat                      -- the suppression pattern in force: 0 none, 1 to 15 skip-k, 16 divide
  done : Bool
  bwait : Option Word
  gated : Bool                   -- its clock is gated in a bwait (R444)
  active : Bool                  -- issued, freed an entry or was stalled by a crossing FIFO since the last gate (R95)
  sbStall : Bool
  evtReq : Bool
  deriving DecidableEq, Repr

/-- A core with every register zero (R149). [DESIGN CHOICE, assumption 13, unsafe] -/
def CoreSt.zero : CoreSt :=
  { running := false, halted := false, ended := false, fenced := false, cause := 0, physical := false, pc := 0,
    progLen := 0, led := false, delay := none,
    loops := [], cycle := 0, staged := [], s := [], v := [], k := [], acc := [], accVis := [], statSum := 0,
    statSq := 0, pend := [], sb := [], waiting := none, waitHolds := 0, tags := [], moves := [], abuf := [],
    ascale := [], acopies := [], bstream := [], arrayFree := 0, arrayBuf := 0, query := 0, weights := 0, maxima := 0, tops := [],
    curTop := 0, segAddr := 0, segLeft := 0, seg := none, segRem := 0, centroid := none, simQueue := [],
    simStopped := false, docsClosed := 0, ni := [], seqs := [], lastStore := [], epoch := 0, niNext := 0, boFrom := [], niBad := 0,
    niFirst := 0, niRetrans := 0, link := [], turn := 0, nom := 0, pat := 0, done := false, bwait := none, gated := false, active := false, sbStall := false, evtReq := false }

end Sys2Proof.Machine
end

