-- ==== Sys2Proof/Machine/StandState.lean ====
section
/-! DEFINITION. The state of one stand's run: the launch copy, the descriptor's tables, the beat grid, the gate, host
words, handling, clearings and the spares being loaded. -/

namespace Sys2Proof.Machine

/-- A program-table entry (R151). -/
structure ProgEnt where
  addr : Word
  len : Nat
  digest : BitVec 256
  deriving DecidableEq, Repr

/-- A core-table entry (R152). -/
structure CoreEnt where
  g : Nat
  prog : Nat
  start : Nat
  rejoin : Nat
  deriving DecidableEq, Repr

/-- A sequencer-table entry (R153). -/
structure SeqEnt where
  tile : Nat
  addr : Word
  len : Nat
  digest : BitVec 256
  deriving DecidableEq, Repr

/-- What a run uses from its launch to its end (R60, R150). -/
structure RunCopy where
  desc : Word
  param : Word
  start : Word
  bl : BitVec 8
  beatLen : Nat              -- ticks
  tag : BitVec 16
  level : Nat                -- operating level compiled for
  hxCore : Nat
  hxBase : Word              -- the host-transfer window copied at launch (R408)
  hxSize : Word
  progs : List ProgEnt
  cores : List CoreEnt
  seqs : List SeqEnt
  deriving DecidableEq, Repr

def RunCopy.zero : RunCopy := ⟨0, 0, 0, 0, 0, 0, 0, 0xFFFF, 0, 0, [], [], []⟩

/-- Why a stand is being stopped (R64, R489). -/
inductive Handling where
  | fatal
  | abort
  deriving DecidableEq, Repr

/-- A spare being loaded for a logical place (R76, R155). -/
structure SpareLoad where
  g : Nat
  fenceBeat : Word
  loaded : Bool
  failed : Bool             -- the reload's digest differed: the place stays empty until the run ends (R155)
  later : Bool              -- its takeover was given up in the present clearing (R247)
  deriving DecidableEq, Repr

/-- An action that a clearing applies (R245). -/
inductive ClearAct where
  | level (dest : Nat)
  | spare (g : Nat)
  | swap (trunk slot : Nat)
  deriving DecidableEq, Repr

/-- Where a level change stands (R246). -/
inductive LevelPhase where
  | none
  | lowering      -- clocks gated, frequency changing
  | lowered       -- on the new divider, the voltage falling
  | raising       -- the voltage rising
  | raiseGated    -- dividers changing
  deriving DecidableEq, Repr

/-- One stand's run state. -/
structure StandSt where
  copy : RunCopy
  loaded : Bool                 -- programs loaded and checked (R146)
  grid : Nat                    -- index of the next grid edge (R232)
  beat : Word                   -- schedule beats completed
  lastEdge : Word               -- GTC of the most recent admitted edge
  gate : Option Bool            -- the verdict for the coming edge
  lateReg : Word                -- the causes of a hold at that edge, as STD_HOLD_LAST holds them
  streak : Nat                  -- consecutive holds
  longBefore : Nat              -- STD_HOLD_RUN.longest before the last gate
  handling : Option Handling
  stopped : Bool                -- cores and sequencers stopped, waiting for packets
  hostWords : SMap Word         -- adopted values (R69)
  hostPending : List (Nat × Word × Word)   -- word, value, GTC at which it was complete
  budgetNext : Option Nat       -- a budget change awaiting a clearing (R49)
  spares : List SpareLoad
  emptied : List Nat            -- logical places left empty, error due at the next clearing (R77)
  clearing : List ClearAct      -- clearing actions not yet complete
  clearHolds : Nat              -- consecutive clear_late holds (R247)
  levelPhase : LevelPhase
  levelFrom : Nat               -- the level before the change under way
  railFrom : Option Nat         -- the level whose voltage the core rails have kept, where they are late reaching a lower one (R446)
  retire : List (Nat × Nat)     -- suspect sensors that retire at the next clearing: tile, channel (R454)
  batchFailed : Bool            -- a core was fenced in the run (R68)
  deriving DecidableEq, Repr

def StandSt.zero : StandSt :=
  { copy := RunCopy.zero, loaded := false, grid := 0, beat := 0, lastEdge := 0, gate := none, lateReg := 0,
    streak := 0, longBefore := 0, handling := none, stopped := false, hostWords := [], hostPending := [], budgetNext := none,
    spares := [], emptied := [], clearing := [], clearHolds := 0, levelPhase := .none, levelFrom := 0, railFrom := none,
    retire := [], batchFailed := false }

end Sys2Proof.Machine
end

