-- ==== Sys2Proof/Machine/UnitState.lean ====
section
/-! DEFINITION. The state of site links, HBM stacks, tower SRAM, power, clocks, start, management controllers, store
and identity (R351 to R393, R416 to R479, R504 to R531), beside the registers that are its home. -/

namespace Sys2Proof.Machine

/-! ### Site links -/

/-- A stream of a site link (R364): `ends` is the endpoint or handle whose binding it carries, `beat` the beat of effect, and `going`
says that the die has been told that it ends. -/
structure Stream where
  recv : Bool
  ends : Nat
  off : Nat
  lines : Nat
  ring : Nat
  beat : Word
  going : Bool
  deriving DecidableEq, Repr

/-- A flit that the base sent: what it carries beside its module's acknowledgement (R356). -/
structure TxFlit where
  fseq : BitVec 8
  kind : BitVec 4
  cells : BitVec 3
  stream : BitVec 8
  offset : BitVec 24
  body : BitVec 1920
  deriving DecidableEq, Repr

/-- One module's link layer at the base (R356, R358). -/
structure SiteMod where
  rxNext : BitVec 8             -- next fseq to accept
  wantReplay : Bool             -- nak sent; nothing accepted until the replay
  txNext : BitVec 8
  unacked : List TxFlit         -- the last 64 flits sent and not acknowledged
  retraining : Bool
  deriving DecidableEq, Repr

/-- A module after training. -/
def SiteMod.zero : SiteMod := ⟨0, false, 0, [], false⟩

/-- What a die was told of its stand's run (R360): stand, behaviour level, beat length, GTC of beat 0. -/
structure DieRun where
  stand : Nat
  bl : BitVec 8
  beatLen : Nat
  start : Word
  deriving DecidableEq, Repr

/-- What a die sampled for a gate (R361, R362): the edge number, done, beat-ordered done, how many members were late and the lowest of
them; `cores` names those of a compute die. -/
structure SiteSample where
  grid : BitVec 32
  done : Bool
  bo : Bool
  late : Nat
  lowest : Nat
  cores : List Nat
  deriving DecidableEq, Repr

/-- One compute site's link, die side included. -/
structure SiteSt where
  mods : SMap SiteMod
  streams : SMap (Option Stream)
  frame : SMap (Option (BitVec 1920))  -- stream bytes placed, by 2^24·stream + offset
  images : SMap Nat             -- by logical source, 1 + length of the program image received
  dieGtc : Word                 -- the die's copy of GTC as last known, and the base's GTC then
  dieAt : Word
  slipAt : Option Word          -- GTC of the last time slip (R363)
  run : Option DieRun
  ended : Option (BitVec 8)     -- run code of the last stand end
  events : List (Nat × Nat)     -- link events reported: module, cause
  sample : Option SiteSample    -- the last upward beat flit
  tempSpare : Bool              -- module 16 in the map until the failing module returns (R366)
  lost : Bool                   -- its link went down, and its streams are unbound at the next grid edge (R368)
  deriving DecidableEq, Repr

def SiteSt.zero : SiteSt :=
  { mods := [], streams := [], frame := [], images := [], dieGtc := 0, dieAt := 0, slipAt := none, run := none, ended := none,
    events := [], sample := none, tempSpare := false, lost := false }

/-! ### HBM and tower SRAM -/

/-- A stack's repair state (R384 to R387). A row key is an offset's bits [35:15] with bank and pseudo-channel, a bank key
16 times the pseudo-channel plus the bank. -/
structure HbmSt where
  rowCorr : List (Nat × Word)   -- corrected errors of the last 24 hours: row key, GTC
  soft : List Nat               -- rows repaired soft, not yet hard
  hard : SMap Nat               -- hard-repair rows used, by 2^9·layer + bank key
  hardNow : Option Nat          -- the row under hard repair
  migr : Option (Bool × Nat)    -- migration: layer?, and the layer or 2^9·layer + bank key
  waits : List Nat              -- banks whose repair waits for the migration under way
  deriving DecidableEq, Repr

def HbmSt.zero : HbmSt := ⟨[], [], [], none, none, []⟩

/-- A tower SRAM's repair state (R391); banks 0 to 127 are layer 2, 128 to 255 layer 3. -/
structure TsSt where
  bankCorr : List (Nat × Word)
  migr : Option (Nat × Nat)     -- bank under replacement, spare taking it
  waits : List Nat              -- banks whose replacement waits for the one under way
  deriving DecidableEq, Repr

def TsSt.zero : TsSt := ⟨[], none, []⟩

/-! ### Power -/

/-- A stand's power sequencing and throttling (R437 to R457). -/
structure PwrSt where
  goal : Option Nat             -- entry under way: the state it leads to
  wake : Bool                   -- a wake waits for the next abort point or the end of entry (R440)
  after : Option Nat            -- state to enter after the wake (R437)
  undo : Bool                   -- completed entry steps are being undone
  toStart : List Nat            -- towers a ramp has still to start (R448)
  exiting : List Nat            -- towers started and not yet in RUN
  wakeAt : Option Word          -- the wake that its ramp's place counts from (R448)
  wakeLast : Option Word        -- the last accepted wake (R460)
  idle : Bool                   -- a run ended and idle_delay runs
  parked : Bool                 -- parked under R443
  ret : Bool                    -- the cause of the park has cleared while its steps go on (R428)
  budK : Nat                    -- skip count of the budget throttle (R450)
  thrSince : Bool               -- a throttle acted since the last opening edge or beat 0 (R457)
  thrRun : Bool                 -- a throttle acted in this run
  deriving DecidableEq, Repr

def PwrSt.zero : PwrSt :=
  { goal := none, wake := false, after := none, undo := false, toStart := [], exiting := [], wakeAt := none, wakeLast := none,
    idle := false, parked := false, ret := false, budK := 0, thrSince := false, thrRun := false }

/-! ### Clocks and start -/

/-- The references and clocks beyond their registers (R416 to R431). -/
structure ClkSt where
  switching : Bool              -- a reference switch waits for a falling edge of the old clock
  holdFrom : Option Word        -- GTC at which holdover began (R426)
  stopped : Bool                -- every PLL and GTC stopped (R427)
  obsWait : Option Nat          -- the selection whose stopped clock's edge clk_obs waits for before it changes its source (R424, R425)
  bed : Bool                    -- the bedrock clock comes from tile 0's GTC clock (R421)
  bedWait : Bool                -- its switch there waits for an edge of a stopped reference (R425)
  obsLow : Bool                 -- clk_obs is low until the clock newly selected gives an edge (R424)
  deskew : List Nat             -- tiles whose GTC PLL is in holdover until their deskew over the spare branch (R431)
  deriving DecidableEq, Repr

/-- The start under way (R462 to R468). -/
structure StartSt where
  bist : Bool
  from_ : Word                  -- GTC of the request, or of the last time at which GTC was set since
  spent : Nat                   -- ticks since the request that GTC does not hold (R464, R479)
  stepAt : Nat                  -- ticks from the request to the beginning of the step in progress
  warmFails : Nat               -- how many of the last failures, at most 3, were warm starts in a row
  failRec : Bool                -- a start-failure record waits to be written (R468)
  bootServed : Bool             -- a go has been served in this start (R506)
  tripRec : Bool                -- the trip record waits to be written (R458)
  deriving DecidableEq, Repr

/-! ### Store, identity and management -/

/-- A deadwood-map entry (R475). -/
structure DwEnt where
  gtc : Word
  kind : Byte
  tile : Byte
  site : Byte
  sub : Byte
  index : BitVec 16
  cause : Byte
  stored : Bool
  deriving DecidableEq, Repr

/-- A store record (R515). -/
structure NvRec where
  kind : Nat
  key : Nat
  seq : Nat
  payload : List Byte
  deriving DecidableEq, Repr

/-- The little-endian bytes of a number. -/
def bytesOf : Nat → Nat → List Byte
  | 0, _ => []
  | n + 1, v => BitVec.ofNat 8 v :: bytesOf n (v / 256)

/-- The number that little-endian bytes spell. -/
def ofBytes : List Byte → Nat
  | [] => 0
  | b :: rest => b.toNat + 256 * ofBytes rest

/-- A record's size in a bank (R515). -/
def NvRec.size (r : NvRec) : Nat := 32 + 8 * ((r.payload.length + 7) / 8)

/-- The 8-byte words that bytes fill, the last one padded with zeros. -/
def wordsOf : Nat → List Byte → List Word
  | n + 1, b :: rest => BitVec.ofNat 64 (ofBytes ((b :: rest).take 8)) :: wordsOf n ((b :: rest).drop 8)
  | _, _ => []

/-- A record's header and padded payload, word by word (R515). -/
def NvRec.front (r : NvRec) : List Word :=
  [BitVec.ofNat 64 (r.kind % 2 ^ 8 + 2 ^ 16 * (r.key % 2 ^ 16) + 2 ^ 32 * (r.seq % 2 ^ 32)), BitVec.ofNat 64 r.payload.length] ++
    wordsOf r.payload.length r.payload

/-- A record as it stands in a bank, in the order in which its words are written: header, payload, check word, cairn word (R515, R516). -/
def NvRec.words (r : NvRec) : List Word :=
  let crc := crc32c (r.front.flatMap fun w => leBytes 8 w.toNat)
  r.front ++ [BitVec.ofNat 64 crc, BitVec.ofNat 64 (r.seq % 2 ^ 32 + 2 ^ 32 * (2 ^ 32 - 1 - crc))]

/-- The record that begins a row of words, where it is valid (R516) and the scan of R519 takes it: a kind other than 0, at most 65,536
payload bytes, a number above the one before, and every word as the record's own check and cairn words want it. -/
def NvRec.parse (prev : Nat) : List Word → Option NvRec
  | h :: n :: rest =>
    let r : NvRec := ⟨natBits h.toNat 0 8, natBits h.toNat 16 16, natBits h.toNat 32 32,
      (rest.flatMap fun w => bytesOf 8 w.toNat).take n.toNat⟩
    if r.kind ≠ 0 ∧ n.toNat ≤ 65536 ∧ prev < r.seq ∧ r.words = (h :: n :: rest).take r.words.length then some r else none
  | _ => none

/-- What takes effect when a record's write completes (R518). -/
inductive NvAct where
  | none
  | plan (staged : SMap Byte) (gen : Nat)
  | deadwood (i : Nat)
  | service (tile : Nat) (codes : List (Nat × BitVec 12))
  | settings
  | svn (v : Nat)
  | tapOpened     -- of an opening (R524)
  | tapFound      -- of a start that found no key (R525)
  | startFail
  | trip
  | prov
  deriving DecidableEq, Repr

/-- A store write waiting or in progress (R518). -/
structure NvReq where
  kind : Nat
  key : Nat
  payload : List Byte
  act : NvAct
  deriving DecidableEq, Repr

/-- One log bank of a store copy (R514): the open record of its first 64 bytes, the valid records from byte 64 in order, and the words
that a write broken off has left behind them; every word further on is zero. -/
structure NvBank where
  slot : Option NvRec
  recs : List NvRec
  torn : List Word
  deriving DecidableEq, Repr

/-- A bank of zeros. -/
def NvBank.zero : NvBank := ⟨none, [], []⟩

/-- A bank's generation, of its open record; 0 where it has none. -/
def NvBank.gen (b : NvBank) : Nat := match b.slot with
  | some r => ofBytes r.payload
  | none => 0

/-- The number of a bank's last record. -/
def NvBank.seq (b : NvBank) : Nat :=
  max ((b.slot.map NvRec.seq).getD 0) ((b.recs.getLast?.map NvRec.seq).getD 0)

/-- One store copy (R514): its two log banks, and the key of its secret region, where its check and cairn words hold. -/
structure NvCopy where
  ok : Bool
  a : NvBank
  b : NvBank
  secret : Option (BitVec 256)
  deriving DecidableEq, Repr

/-- The active bank, 0 for A and 1 for B: the one whose open slot holds the higher generation (R519). -/
def NvCopy.bank (c : NvCopy) : Nat := if c.b.gen > c.a.gen then 1 else 0

/-- The contents of the active bank. -/
def NvCopy.cur (c : NvCopy) : NvBank := if c.bank = 0 then c.a else c.b

/-- A copy with other contents of its active bank. -/
def NvCopy.setCur (c : NvCopy) (x : NvBank) : NvCopy := if c.bank = 0 then { c with a := x } else { c with b := x }

/-- The records of a copy, in order, and the number of the last. -/
def NvCopy.recs (c : NvCopy) : List NvRec := c.cur.recs
def NvCopy.seq (c : NvCopy) : Nat := c.cur.seq

/-- The lane channels of manufacture (R320): the deadwood map's remaps move them from there. -/
def laneValue (o : Nat) : Nat :=
  (((List.range 4)).map fun j =>
    let l := 4 * (o % 0x40 / 4) + j
    if l < 30 then (11 * (l / 10) + l % 10) * 2 ^ (8 * j) else 0).sum

/-- The factory calibration record of a tile: what manufacture wrote, its lanes on the channels of R320. [DESIGN CHOICE, assumption 72, safe] -/
def factoryRecord (t : Nat) : List Byte :=
  Config.factoryCal t ++ ((List.range 2).flatMap fun q => (List.range 8).flatMap fun i =>
    bytesOf 4 (0x30_0800 + 0x40 * q + 4 * i) ++ bytesOf 8 (laneValue (4 * i)))

/-- The part number that the device certificate names (R510). -/
def partNumber : List Byte := [0x49, 0x58, 0x2D, 0x47, 0x4D, 0x39, 0x36, 0x2D, 0x32, 0x54]

/-- A certificate over a body (R510): the body and the issuer's SM2 signature over its SM3 digest. The issuer of the root certificate and
of the device CA's is the root (0), of the device certificate the device CA (1). -/
def certOf (issuer : Nat) (body : List Byte) : List Byte :=
  Config.der body (Config.sign (Config.issuerKey issuer) (sm3 (body.map (·.toNat))))

/-- The device certificate (R510): it names the part number and the serial number, and carries the identity public key. -/
def deviceCert (serial : BitVec 64) (key : BitVec 256) : List Byte :=
  certOf 1 (Config.deviceBody partNumber serial (Config.publicKey key))

/-- The certificate of slot 0 that manufacture wrote, root first: the self-signed root's, the device CA's, the device's. -/
def factoryCert (k : Nat) : List Byte :=
  if k = 2 then deviceCert Config.serial Config.identityKey else certOf 0 (Config.caBody k)

/-- The payload of a cold-resonance map: trunk number and channel of each entry. [DEDUCED, assumption 72, unsafe] -/
def coldBytes (m : List (Nat × Nat)) : List Byte := m.flatMap fun q => [BitVec.ofNat 8 q.1, BitVec.ofNat 8 q.2]

/-- The entries of such a payload. -/
def coldPairs : List Byte → List (Nat × Nat)
  | a :: b :: rest => (a.toNat, b.toNat) :: coldPairs rest
  | _ => []

/-- The records that manufacture writes, kind, key and payload (R517). -/
def factoryLog : List (Nat × Nat × List Byte) :=
  (List.range 16).map (fun t => (2, t, factoryRecord t)) ++ (List.range 4).map (fun k => (0xA, k, Config.vendorKey k)) ++
    (List.range 3).map (fun k => (0xB, k, factoryCert k)) ++ (List.range 16).map (fun t => (0xC, t, coldBytes (Config.coldMap t))) ++
    [(9, 0, bytesOf 8 0 ++ bytesOf 8 Config.serial.toNat)]

/-- A store copy as manufactured: bank A open with generation 1, the records of manufacture, the identity key present, and nothing
appended in service. [DESIGN CHOICE, assumption 14, unsafe] -/
def NvCopy.factory : NvCopy :=
  { ok := true, a := ⟨some ⟨1, 0, 1, bytesOf 8 1⟩, factoryLog.zipIdx.map (fun q => ⟨q.1.1, q.1.2.1, q.2 + 2, q.1.2.2⟩), []⟩,
    b := NvBank.zero, secret := some Config.identityKey }

/-- The security and management state (R504 to R528). -/
structure SecSt where
  image : Option (BitVec 256 × Nat)       -- running image: digest over header and body, svn
  bedDigest : BitVec 256                  -- firmware digest in the bedrock domain
  fetch : Option (Nat × Word × Nat)       -- fetch under way: port, address, length
  session : Option (BitVec 256)
  tapArm : SMap (Option Word)             -- by port, the GTC at which it was armed (R523)
  tapKeys : Bool                          -- an opening has zeroed the keys and waits for its record
  missed : Nat                            -- consecutive heartbeats missing
  failed0 : Bool
  failed15 : Bool
  standbyOut : Bool                       -- the standby did not answer the last heartbeat (R508)
  settingsWait : Bool                     -- a settings record was refused and waits (R521)
  provRest : List NvReq                   -- re-provisioning's records still to be requested (R527)
  deriving DecidableEq, Repr

/-- A sample record (R498). -/
structure Sample where
  gtc : Word
  gcore : BitVec 16
  index : BitVec 16
  beat : BitVec 24
  site : BitVec 3
  arm : BitVec 3
  deriving DecidableEq, Repr

/-- A tile's map accumulators (R499, R500): the tile entry's eight counts, and per pair index 16·s + d its counts. -/
structure MapAcc where
  ejHigh : Nat
  resHigh : Nat
  poolHigh : Nat
  refusals : Nat
  urgent : Nat
  applied : Nat
  busy : Nat
  dups : Nat
  combs : Nat
  sent : SMap Nat               -- cells sent on direct lanes, by destination
  detours : SMap Nat            -- detours, by 16·source + destination
  waits : SMap Nat              -- request-cycles waiting for a window unit, by destination
  winHigh : SMap Nat
  partialRep : Bool             -- warm-started in the period
  deriving DecidableEq, Repr

def MapAcc.zero : MapAcc := ⟨0, 0, 0, 0, 0, 0, 0, 0, 0, [], [], [], [], false⟩

end Sys2Proof.Machine
end

