-- ==== Sys2Proof/Machine/State.lean ====
section
/-! DEFINITION. The state of the module as plain data, its faults and refusals, and the state right after reset. Every
register of the register maps stands in `regs`, by its BAR0 offset or, for tile `t`, by 2^32·(t + 1) plus its tile
offset; an unlisted register holds its Cold value. -/

namespace Sys2Proof.Machine

/-- A log entry of R484. -/
structure LogEnt where
  gtc : Word
  cls : BitVec 2
  source : BitVec 8
  code : BitVec 8
  stand : BitVec 8
  tile : BitVec 8
  site : BitVec 8
  gcore : BitVec 16
  index : BitVec 16
  detail : BitVec 16
  beat : BitVec 32
  addr : Word
  deriving DecidableEq, Repr

/-- A PCIe port (R394 to R415). -/
structure PortSt where
  inReset : Bool
  cfgReady : Bool              -- serves configuration requests
  busMaster : Bool
  mps : BitVec 3               -- Max_Payload_Size and Max_Read_Request_Size, 128 bytes shifted left by the code (R401, R409)
  mrrs : BitVec 3
  msixEnable : Bool
  funcMask : Bool
  d3 : Bool
  eid : Byte
  bar2Size : Nat
  latch : SMap (Option (BitVec 32))   -- high words latched by a low-word read, by register (R8)
  held : SMap (Option (BitVec 32))    -- low words held for a high-word write, by register (R9)
  table : SMap (BitVec 32)     -- the MSI-X table, by word offset
  pba : SMap Bool              -- pending bits by vector
  deriving DecidableEq, Repr

/-- What the module sends out. [DESIGN CHOICE, assumption 111, safe] -/
inductive Out where
  | msix (port vector : Nat)
  | data (port : Nat) (value : Word)              -- a register or BAR2 read's data
  | bytes (port : Nat) (n : Nat) (value : Nat)    -- a BAR2 read's data, n bytes
  | poisoned (port : Nat)                         -- a poisoned completion
  | unsupported (port : Nat)                      -- Unsupported Request
  | hostWrite (port : Nat) (addr : Word) (n : Nat) (value : Nat)    -- a write of n bytes to host memory
  | hostRead (port : Nat) (addr : Word) (n : Nat)   -- a read of host memory; of length 0 it flushes the writes before it (R409)
  | reply (port : Nat) (protocol units : Nat) (fields : List Nat)   -- a response: MCTP packets, or one DOE object (units 0)
  | flit (tower module : Nat) (bits : BitVec 2048)            -- a site flit to a die
  | tap (bits : Nat) (value : Nat)
  deriving DecidableEq, Repr

/-- A request that needs a management controller (R508): the command that made it, with what it found when it came (R53, R513, R523). -/
inductive MgmtReq where
  | commit (p : Nat) (staged : SMap Byte)
  | startCold (p : Nat)
  | startWarm (p : Nat) (bist : Bool)
  | tileWarmStart (p : Nat) (v : BitVec 32)
  | raiseSvn (p : Nat)
  | store (r : NvReq)
  | tapOpen (p : Nat) (armed : Bool)
  | setEndpointId (p : Nat) (eid : Byte)
  | mctpUnsupportedType (p : Nat) (ty : Byte)
  | getVersion (v : Via)
  | getCapabilities (v : Via)
  | negotiateAlgorithms (v : Via) (sm2 sm3 : Bool)
  | getCertificate (v : Via) (slot off n : Nat)
  | challenge (v : Via) (slot : Nat) (nonce : BitVec 256)
  | getMeasurements (v : Via) (index : Nat) (signed : Bool) (nonce : BitVec 256) (blocks : List (List Nat))
  deriving DecidableEq, Repr

/-- The whole module. [DESIGN CHOICE, assumption 1, safe] -/
structure State where
  pending : List Instr         -- the commands that wait, first in, first out
  freeCtr : Nat                -- the model's own: how many free values have been used
  gtc : Word
  power : Bool                 -- the input is enabled (R27)
  inputOut : Bool              -- a disconnect or lockout of the input waits for its re-enabling (R27)
  storeTemp : SMap (BitVec 12) -- temperature of the store dies on tiles 0 and 15, by tile, in eighths of a degree (R459)
  regs : SMap Word
  pmc : SMap (BitVec 48)
  mem : List Host.Cell
  poison : SMap Bool
  cores : SMap CoreSt
  regions : SMap Region        -- clock regions of compute dies, by 9·tower + region (rows 0 to 7, crossbar 8)
  tileGtc : SMap Word          -- the time a tile's cores last read (R160, R161)
  stands : SMap StandSt
  tiles : SMap PlaneTile
  fab : SMap FabTile
  sites : SMap SiteSt
  hbm : SMap HbmSt
  ts : SMap TsSt
  pwr : SMap PwrSt
  modK : Nat                   -- skip count of the module throttle (R451)
  supplyLow : Bool             -- the input is in the excursion band of R26
  supplyPark : Bool            -- every stand is parked for a supply excursion (R26)
  thmOff : SMap Bool           -- layer-1 channels far from their model in the last round, by 64·tile + channel (R454)
  clk : ClkSt
  start : StartSt
  sec : SecSt
  nvq : List NvReq             -- store writes, the one in progress first
  copy0 : NvCopy
  copy15 : NvCopy
  dwm : List DwEnt
  log : List LogEnt
  errWait : List (Nat × LogEnt)  -- errors that wait for a controller takeover, with their classes (R508)
  mgmtWait : List MgmtReq        -- requests that wait for it, in arrival order (R508)
  corrLast : SMap Word         -- per source and code, 1 + GTC of the last corrected entry logged (R487)
  planStaged : SMap Byte       -- the staging area (R45)
  planForce : SMap Byte        -- the plan in force
  commits : List (Nat × SMap Byte)   -- commits that wait for the one in progress, in arrival order: port, staging area then (R53)
  samples : SMap (List Sample)
  mapAcc : SMap MapAcc
  arms : SMap Nat              -- per sampling arm's register, the wraps of its counter when it was set or took its last sample (R496)
  mapFrom : Option (Word × Nat)  -- first boundary and n of the period whose map is being formed
  mapSnap : SMap MapAcc        -- what the tiles sent at the last boundary
  mapBuf : SMap Byte           -- map buffers A and B, by module offset
  ports : SMap PortSt
  out : List Out
  deriving DecidableEq, Repr

/-- Why a command faults. [DEDUCED, assumption 17, safe] -/
inductive Fault where
  /-- Raised by every command whose operand names a port, stand, tile, core, tower, stack, trunk, listener, context,
  register window, sensor channel or bundle slot that the module does not have (a second operation for a slot among them).
  Safe: the model stops where no hardware exists. -/
  | noSuchUnit
  /-- Raised by a bundle command whose fields break R144 under `code`: loading refuses such a program, so no core
  issues it. Safe. -/
  | illegalEncoding (code : Nat)
  deriving DecidableEq, Repr

/-- Why a command is refused. -/
inductive Refusal where
  /-- Raised by the arm of a command that has no meaning yet. Safe. -/
  | notModelled (mnemonic : String)
  deriving DecidableEq, Repr

/-- A port at power-up: PERST# seen asserted (R29), the link down, its sizes at 128 and 512 bytes. [PRESUMED, assumption 145, unsafe,
DEDUCED, assumption 11, unsafe, DEDUCED, assumption 16, safe] -/
def PortSt.zero : PortSt :=
  { inReset := true, cfgReady := false, busMaster := false, mps := 0, mrrs := 2, msixEnable := false, funcMask := false, d3 := false,
    eid := 0, bar2Size := 2 ^ 36, latch := [], held := [], table := [], pba := [] }

/-- The clocks before a reference is selected. -/
def ClkSt.zero : ClkSt := ⟨false, none, false, none, false, false, false, []⟩

/-- The state right after power-up: a cold start in its step 1 (R462, R464), every register at its Cold value, every
queue empty. [DESIGN CHOICE, assumption 9, unsafe, DEDUCED, assumption 11, unsafe] -/
def State.reset : State :=
  { pending := [], freeCtr := 0, gtc := 0, power := true, inputOut := false, storeTemp := [],
    -- MGT_START_STATUS: phase 0, step 1; SEC_STATE: the identity key present, as the store holds it
    regs := [(0x704, 4), (0x6040, 2)],
    pmc := [], mem := [], poison := [], cores := [], regions := [], tileGtc := [], stands := [], tiles := [], fab := [], sites := [], hbm := [],
    ts := [], pwr := [], modK := 0, supplyLow := false, supplyPark := false, thmOff := [], clk := ClkSt.zero,
    start := { bist := false, from_ := 0, spent := 0, stepAt := 0, warmFails := 0, failRec := false, bootServed := false, tripRec := false },
    sec := { image := none, bedDigest := 0, fetch := none, session := none, tapArm := [], tapKeys := false,
             missed := 0, failed0 := false, failed15 := false, standbyOut := false, settingsWait := false, provRest := [] },
    nvq := [], copy0 := NvCopy.factory, copy15 := NvCopy.factory, dwm := [], log := [], errWait := [], mgmtWait := [], corrLast := [],
    planStaged := [], planForce := [], commits := [], samples := [], arms := [], mapAcc := [], mapFrom := none, mapSnap := [], mapBuf := [],
    ports := [], out := [] }

end Sys2Proof.Machine
end

