-- ==== Sys2Proof/Machine/Ops.lean ====
section
/-! DEFINITION. The named operations over memory, registers, cores, stands and tiles that every meaning shares. -/

namespace Sys2Proof.Machine

/-! ### Free values -/

/-- A free bit for this use (R3), and the state with the counter advanced. [DESIGN CHOICE, assumption 7, safe] -/
def State.takeBit (s : State) : Bool × State := (Config.freeBit s.freeCtr, { s with freeCtr := s.freeCtr + 1 })

/-- A free word for this use. -/
def State.takeWord (s : State) : Word × State := (Config.freeWord s.freeCtr, { s with freeCtr := s.freeCtr + 1 })

/-- A free number below `n` for this use (0 where `n` is 0). [DESIGN CHOICE, assumption 7, safe] -/
def State.takeBelow (s : State) (n : Nat) : Nat × State :=
  (Config.freeNat s.freeCtr % n, { s with freeCtr := s.freeCtr + 1 })

/-- A free line for this use. -/
def State.takeLine (s : State) : BitVec 512 × State := (Config.freeLine s.freeCtr, { s with freeCtr := s.freeCtr + 1 })

/-- A free 256-bit value for this use. -/
def State.takeKey (s : State) : BitVec 256 × State := (Config.freeKey s.freeCtr, { s with freeCtr := s.freeCtr + 1 })

/-- The numbers of a list that a free bit each chooses, and the others. [DESIGN CHOICE, assumption 22, safe] -/
def State.takeSplit (s : State) : List Nat → (List Nat × List Nat) × State
  | [] => (([], []), s)
  | x :: rest =>
    let (b, s1) := s.takeBit
    let r := State.takeSplit s1 rest
    (if b then (x :: r.1.1, r.1.2) else (r.1.1, x :: r.1.2), r.2)

/-! ### Memory (R56, R388): one list of bytes keyed by device global address -/

/-- The byte at `a`; an unlisted byte reads zero. [DESIGN CHOICE, assumption 9, unsafe] -/
def memGet (m : List Host.Cell) (a : Nat) : Byte := sget 0 m a

/-- Write one byte, keeping the canonical form. -/
def memSet (m : List Host.Cell) (a : Nat) (b : Byte) : List Host.Cell := sset 0 m a b

/-- The canonical form of memory. -/
def memWf (m : List Host.Cell) : Bool := swf 0 m

/-- `n` bytes from `a`, little-endian (R6). -/
def memRead (m : List Host.Cell) (a : Nat) : Nat → Nat
  | 0 => 0
  | n + 1 => (memGet m a).toNat + 256 * memRead m (a + 1) n

/-- Write the low `n` bytes of `v` from `a`, little-endian. -/
def memWrite (m : List Host.Cell) (a : Nat) : Nat → Nat → List Host.Cell
  | 0, _ => m
  | n + 1, v => memWrite (memSet m a (BitVec.ofNat 8 v)) (a + 1) n (v / 256)

/-- Remove every byte whose address satisfies `p`: those bytes read zero. -/
def memClear (m : List Host.Cell) (p : Nat → Bool) : List Host.Cell := m.filter fun c => !p c.1

/-- `n` bytes of the device at global address `a`. -/
def State.rd (s : State) (a n : Nat) : Nat := memRead s.mem a n

/-- Write the low `n` bytes of `v` at global address `a`. -/
def State.wr (s : State) (a n v : Nat) : State := { s with mem := memWrite s.mem a n v }

/-! ### Registers -/

/-- The value every unlisted register reads as: its Cold value of the spec's tables. -/
def fieldsCold : List FieldSpec → Nat
  | [] => 0
  | f :: rest => f.cold * 2 ^ f.lo + fieldsCold rest

/-- Take `a` apart along the dimensions of a family: the remainder left, or none where an index is out of range. -/
def dimRest : List (Nat × Nat) → Nat → Option Nat
  | [], r => some r
  | (n, st) :: rest, r => if r / st < n then dimRest rest (r % st) else
      -- the last index's stride may be smaller than the register's own width
      none

/-- Does the family hold a register at `a`? -/
def RegSpec.has (r : RegSpec) (a : Nat) : Bool :=
  decide (r.base ≤ a) && (dimRest r.dims (a - r.base) == some 0)

/-- The family of the register at `a`. -/
def regSpecOf (a : Nat) : Option RegSpec := regTable.find? fun r => r.has a

/-- Values of an undamaged module that the tables give by words (deadwood map, calibration, census): row maps with
positions 0 to 15 in service (R73), die numbers, the manufacture mapping of slots (R255) and lanes (R320), the spare
listeners (R261), the stripe maps (R351), the identity layer map (R376) and the clock enables of R432. [DESIGN CHOICE, assumption 12, unsafe] -/
def regFactory (a : Nat) : Option Nat :=
  if a < 0x1_0000_0000 then none
  else
    let t := a / 0x1_0000_0000 - 1
    let o := a % 0x1_0000_0000
    if 0x40_0000 ≤ o ∧ o < 0x46_0000 then
      let c := (o - 0x40_0000) / 0x1_0000
      let q := o % 0x1_0000
      if q = 0 then some (6 * t + c + 0xFF * 2 ^ 8)
      else if 0x100 ≤ q ∧ q < 0x140 ∧ q % 8 = 0 then some 0xFFFF
      else if 0x200 ≤ q ∧ q < 0x420 ∧ q % 4 = 0 then
        let p := (q - 0x200) / 4 % 17
        some (if p = 16 then 5 else 0)
      else none
    else if 0x20_0000 ≤ o ∧ o < 0x20_0200 then
      let q := o % 0x40
      if q < 0x20 ∧ q % 4 = 0 then some (q + (q + 1) * 2 ^ 8 + (q + 2) * 2 ^ 16 + (q + 3) * 2 ^ 24)
      else if q = 0x20 then some (32 + 0x3F * 2 ^ 6)
      else none
    else if 0x20_0410 ≤ o ∧ o < 0x20_0420 ∧ o % 4 = 0 then some (if o = 0x20_041C then 0xFF_FFFF else 0xFFFF_FFFF)
    else if 0x50_0000 ≤ o ∧ o < 0x50_0600 ∧ o % 0x100 = 4 then some 0xFFFF
    else if o = 0x60_0008 ∨ o = 0x60_1008 then some 0xFEDC_BA98_7654_3210
    else if 0x80_0100 ≤ o ∧ o < 0x80_01C0 ∧ o % 0x20 < 12 then
      some (if o % 0x20 = 0 then 0x7FFF else if o % 0x20 = 4 then 0x7800 else 0x2000)
    else if 0x30_0800 ≤ o ∧ o < 0x30_0880 then
      let q := o % 0x40
      if q < 0x20 ∧ q % 4 = 0 then
        let ch := fun l : Nat => if l < 30 then 11 * (l / 10) + l % 10 else 0
        some (ch q + ch (q + 1) * 2 ^ 8 + ch (q + 2) * 2 ^ 16 + ch (q + 3) * 2 ^ 24)
      else none
    else none

/-- What the register at `a` holds when nothing is listed there. [DESIGN CHOICE, assumption 12, unsafe] -/
def regDefault (a : Nat) : Word :=
  match regFactory a with
  | some v => BitVec.ofNat 64 v
  | none =>
    match regSpecOf a with
    | some r => BitVec.ofNat 64 (fieldsCold r.fields)
    | none => 0

/-- The register at `a`. -/
def State.reg (s : State) (a : Nat) : Word := sget (regDefault a) s.regs a

/-- Write the register at `a`. -/
def State.setReg (s : State) (a : Nat) (v : Word) : State := { s with regs := sset (regDefault a) s.regs a v }

/-- A field of the register at `a`. -/
def State.gf (s : State) (a : Nat) (f : Fld) : Nat := natBits (s.reg a).toNat f.lo f.w

/-- Write a field of the register at `a`. -/
def State.sf (s : State) (a : Nat) (f : Fld) (v : Nat) : State :=
  s.setReg a (BitVec.ofNat 64 (natPut (s.reg a).toNat f.lo f.w v))

/-- Add to a field that saturates at all ones. -/
def State.sfSat (s : State) (a : Nat) (f : Fld) (n : Nat) : State :=
  s.sf a f (min (s.gf a f + n) (2 ^ f.w - 1))

/-- Set bit `b` of a field. -/
def State.sfBit (s : State) (a : Nat) (f : Fld) (b : Nat) : State :=
  s.sf a f (natPut (s.gf a f) b 1 1)

/-- An always-running counter (R493). -/
def State.ctr (s : State) (a : Nat) : BitVec 48 := sget 0 s.pmc a

/-- Add to an always-running counter, modulo 2^48. -/
def State.bump (s : State) (a n : Nat) : State :=
  { s with pmc := sset 0 s.pmc a (sget 0 s.pmc a + BitVec.ofNat 48 n) }

/-- Is this the register of a sampling arm (R503)? -/
def isArm (a : Nat) : Bool :=
  let o := a % 0x1_0000_0000
  decide (0x1_0000_0000 ≤ a) && decide (0xA6_8000 ≤ o) && decide (o < 0xA6_8180)

/-- How often the low n bits of the counter that the arm at `a` names have wrapped (R496). -/
def State.armWraps (s : State) (a : Nat) : Nat :=
  let o := a % 0x1_0000_0000
  let k := a - o + 0xA0_0000 + 0x1_0000 * ((o - 0xA6_8000) / 0x40) + 0x140 * s.gf a Fld.PMC_ARM_pos + 8 * s.gf a Fld.PMC_ARM_event
  (s.ctr k).toNat / 2 ^ s.gf a Fld.PMC_ARM_n

/-- The arm at `a` counts its period from now on. -/
def State.armed (s : State) (a : Nat) : State := { s with arms := sset 0 s.arms a (s.armWraps a) }

/-! ### Cores, stands, tiles and ports -/

def State.core (s : State) (g : Nat) : CoreSt := sget CoreSt.zero s.cores g
def State.setCore (s : State) (g : Nat) (c : CoreSt) : State := { s with cores := sset CoreSt.zero s.cores g c }
def State.region (s : State) (k : Nat) : Region := sget Region.zero s.regions k
def State.setRegion (s : State) (k : Nat) (x : Region) : State := { s with regions := sset Region.zero s.regions k x }
def State.stand (s : State) (i : Nat) : StandSt := sget StandSt.zero s.stands i
def State.setStand (s : State) (i : Nat) (x : StandSt) : State := { s with stands := sset StandSt.zero s.stands i x }
def State.tile (s : State) (t : Nat) : PlaneTile := sget PlaneTile.empty s.tiles t
def State.setTile (s : State) (t : Nat) (x : PlaneTile) : State := { s with tiles := sset PlaneTile.empty s.tiles t x }

def State.port (s : State) (p : Nat) : PortSt := sget PortSt.zero s.ports p
def State.fabT (s : State) (t : Nat) : FabTile := sget FabTile.zero s.fab t
def State.setFab (s : State) (t : Nat) (x : FabTile) : State := { s with fab := sset FabTile.zero s.fab t x }
def State.site (s : State) (w : Nat) : SiteSt := sget SiteSt.zero s.sites w
def State.setSite (s : State) (w : Nat) (x : SiteSt) : State := { s with sites := sset SiteSt.zero s.sites w x }
def State.hbmS (s : State) (j : Nat) : HbmSt := sget HbmSt.zero s.hbm j
def State.setHbm (s : State) (j : Nat) (x : HbmSt) : State := { s with hbm := sset HbmSt.zero s.hbm j x }
def State.tsS (s : State) (w : Nat) : TsSt := sget TsSt.zero s.ts w
def State.setTs (s : State) (w : Nat) (x : TsSt) : State := { s with ts := sset TsSt.zero s.ts w x }
def State.pwrS (s : State) (i : Nat) : PwrSt := sget PwrSt.zero s.pwr i
def State.setPwr (s : State) (i : Nat) (x : PwrSt) : State := { s with pwr := sset PwrSt.zero s.pwr i x }
def State.acc (s : State) (t : Nat) : MapAcc := sget MapAcc.zero s.mapAcc t
def State.setAcc (s : State) (t : Nat) (x : MapAcc) : State := { s with mapAcc := sset MapAcc.zero s.mapAcc t x }
def State.setPort (s : State) (p : Nat) (x : PortSt) : State := { s with ports := sset PortSt.zero s.ports p x }

/-- The tower of a global core (tower numbers 0 to 95). -/
def towerOf (g : Nat) : Nat := g / 128
/-- The tile of a global core. -/
def tileOf (g : Nat) : Nat := g / 768
/-- The site of a global core on its tile. -/
def siteOf (g : Nat) : Nat := g / 128 % 6
/-- The row of a global core. -/
def rowOf (g : Nat) : Nat := g / 16 % 8
/-- The logical column of a global core. -/
def colOf (g : Nat) : Nat := g % 16

/-- The device global address of offset `o` of a core's data memory (space 0x3, R56). -/
def dmAddr (g o : Nat) : Nat :=
  0x3000_0000_0000 + towerOf g * 2 ^ 37 + rowOf g * 2 ^ 34 + colOf g * 2 ^ 30 + o

/-- The device global address of offset `o` of a core's program memory (space 0x4). -/
def pmAddr (g o : Nat) : Nat :=
  0x4000_0000_0000 + towerOf g * 2 ^ 37 + rowOf g * 2 ^ 34 + colOf g * 2 ^ 30 + o

/-- The device global address of offset `o` of a tower's SRAM (space 0x2). -/
def tsAddr (tower o : Nat) : Nat := 0x2000_0000_0000 + tower * 2 ^ 37 + o

/-- The size of a tower's SRAM. -/
def towerBytes : Nat := 96 * 2 ^ 20
/-- The usable bytes of an HBM stack (R5). -/
def stackBytes : Nat := 60 * 2 ^ 30
/-- The size of a core's data memory. -/
def dmBytes : Nat := 256 * 2 ^ 10

/-! ### The stand plan in force (R45 to R47) -/

/-- What an unlisted byte of a plan reads as: an entry byte 0 but for the default clearing period of 256 beats in byte 18 (R46), a
channel-table byte 0xFF (free). -/
def planByte (o : Nat) : Byte := if o < 0x400 then (if o % 64 = 18 then 0x08 else 0) else 0xFF

/-- Byte `o` of the plan in force. -/
def State.plan (s : State) (o : Nat) : Byte := sget (planByte o) s.planForce o

/-- `n` bytes of a plan, little-endian. -/
def planRead (m : SMap Byte) (o : Nat) : Nat → Nat
  | 0 => 0
  | n + 1 => (sget (planByte o) m o).toNat + 256 * planRead m (o + 1) n

/-- The mask of stand `i`'s towers. -/
def planTowers (m : SMap Byte) (i : Nat) : Nat := planRead m (i * 64) 12
/-- The mask of stand `i`'s stacks. -/
def planStacks (m : SMap Byte) (i : Nat) : Nat := planRead m (i * 64 + 12) 4
/-- Stand `i`'s budget in watts. -/
def planBudget (m : SMap Byte) (i : Nat) : Nat := planRead m (i * 64 + 16) 2
/-- Is stand `i`'s entry valid? -/
def planValid (m : SMap Byte) (i : Nat) : Bool := planRead m (i * 64 + 18) 1 % 2 == 1
/-- The port that masters stand `i`. -/
def planPort (m : SMap Byte) (i : Nat) : Nat := planRead m (i * 64 + 18) 1 / 2 % 2
/-- Stand `i`'s clearing period in beats. -/
def planPeriod (m : SMap Byte) (i : Nat) : Nat := 64 * 2 ^ (planRead m (i * 64 + 18) 1 / 4 % 8)
/-- The owner byte of slot `k` of home trunk `tr` (0 to 127). -/
def planSlot (m : SMap Byte) (tr k : Nat) : Nat := planRead m (0x400 + tr * 32 + k) 1

/-- The valid stand that owns tower `w`. -/
def State.standOfTower (s : State) (w : Nat) : Option Nat :=
  (upto 16).find? fun i => planValid s.planForce i && natBit (planTowers s.planForce i) w

/-- The stand that owns a core's tower; 16 where none does. -/
def State.standOf (s : State) (g : Nat) : Nat := (s.standOfTower (towerOf g)).getD 16

/-- The valid stand that owns stack `j`. -/
def State.standOfStack (s : State) (j : Nat) : Option Nat :=
  (upto 16).find? fun i => planValid s.planForce i && natBit (planStacks s.planForce i) j

/-- The stacks of a stand, ascending; an entry that is not valid has none (R50). -/
def State.stacksOf (s : State) (i : Nat) : List Nat :=
  (upto 32).filter fun j => planValid s.planForce i && natBit (planStacks s.planForce i) j

/-- The towers of a stand, ascending; an entry that is not valid has none (R50). -/
def State.towersOf (s : State) (i : Nat) : List Nat :=
  (upto 96).filter fun w => planValid s.planForce i && natBit (planTowers s.planForce i) w

/-- The tiles on which a stand owns towers, ascending. -/
def State.tilesOf (s : State) (i : Nat) : List Nat :=
  (upto 16).filter fun t => planValid s.planForce i && (upto 6).any fun c => natBit (planTowers s.planForce i) (6 * t + c)

/-- The cores of a stand, ascending. -/
def State.coresOf (s : State) (i : Nat) : List Nat :=
  (s.towersOf i).flatMap fun w => (upto 128).map fun k => 128 * w + k

/-- Is the tower in the stand's valid entry? -/
def State.ownsTower (s : State) (i w : Nat) : Bool :=
  planValid s.planForce i && decide (w < 96) && natBit (planTowers s.planForce i) w

/-- Is the stack in the stand's valid entry? -/
def State.ownsStack (s : State) (i j : Nat) : Bool :=
  planValid s.planForce i && natBit (planStacks s.planForce i) j

/-- The state of a stand in STD_STATUS: 0 IDLE, 1 STARTING, 2 RUNNING, 3 DONE, 4 FAILED (R67). -/
def State.stdState (s : State) (i : Nat) : Nat := s.gf (Reg.STD_STATUS i) Fld.STD_STATUS_state

/-- Is tile `t` in a tile warm start: its base logic in reset, and its hold latches driving its foreign rings (R469 to R471)? [DEDUCED, assumption 78, safe] -/
def State.tileHeld (s : State) (t : Nat) : Bool := s.gf (Reg.OPT_HOLD_STATE t) Fld.OPT_HOLD_STATE_held == 1

/-- Has tile `t` no GTC feed, so that it is out of service (R430)? -/
def State.feedless (s : State) (t : Nat) : Bool := s.dwm.any fun e => e.kind.toNat == 0x13 && e.tile.toNat == t

/-- Does tile `t` do nothing now: in its own warm start (R471), without a feed (R430), or with every clock stopped (R427)? -/
def State.tileOut (s : State) (t : Nat) : Bool := s.tileHeld t || s.feedless t || s.clk.stopped

/-- Has the thermal trip latched (R36)? -/
def State.tripped (s : State) : Bool := s.gf Reg.THM_TRIP Fld.THM_TRIP_tripped == 1

/-- Are both management controllers out? [DEDUCED, assumption 83, unsafe] -/
def State.unmanaged (s : State) : Bool := s.sec.failed0 && s.sec.failed15

/-- Is the stand in STARTING or RUNNING? -/
def State.inRun (s : State) (i : Nat) : Bool := s.stdState i == 1 || s.stdState i == 2

/-! ### Device global addresses (R56, R57) -/

/-- Where an address leads. -/
inductive Place where
  | hbm (stack off : Nat)
  | inter (off : Nat)
  | tower (tower off : Nat)
  | data (g off : Nat)
  | prog (g off : Nat)
  | tileReg (tile off : Nat)
  | modReg (off : Nat)
  deriving DecidableEq, Repr

/-- The place a 48-bit device global address names, where its zero bits are zero and its offset lies below the limit
(R56); the limit of space 0x1 depends on the stand. [DEDUCED, assumption 10, safe] -/
def placeOf (a : Nat) : Option Place :=
  let sp := natBits a 44 4
  if a ≥ 2 ^ 48 then none
  else if sp = 0 then
    let o := natBits a 0 39
    if o < stackBytes then some (.hbm (natBits a 39 5) o) else none
  else if sp = 1 then some (.inter (natBits a 0 44))
  else if sp = 2 then
    let o := natBits a 0 27
    if natBits a 27 10 = 0 ∧ o < towerBytes ∧ natBits a 37 7 ≤ 95 then some (.tower (natBits a 37 7) o) else none
  else if sp = 3 then
    if natBits a 18 12 = 0 ∧ natBits a 37 7 ≤ 95 then
      some (.data (128 * natBits a 37 7 + 16 * natBits a 34 3 + natBits a 30 4) (natBits a 0 18)) else none
  else if sp = 4 then
    if natBits a 16 14 = 0 ∧ natBits a 37 7 ≤ 95 then
      some (.prog (128 * natBits a 37 7 + 16 * natBits a 34 3 + natBits a 30 4) (natBits a 0 16)) else none
  else if sp = 8 then
    if natBits a 24 16 = 0 then some (.tileReg (natBits a 40 4) (natBits a 0 24)) else none
  else if sp = 9 then
    if natBits a 24 20 = 0 then some (.modReg (natBits a 0 24)) else none
  else none

/-- Offset `o` of space 0x1 resolved against a stand's stacks (R57); none beyond the limit. [DEDUCED, assumption 10, safe] -/
def interleave (stk : List Nat) (o : Nat) : Option Place :=
  let n := stk.length
  if n = 0 ∨ o ≥ n * stackBytes then none
  else
    match stk[(o / 4096) % n]? with
    | some j => some (.hbm j (o / 4096 / n * 4096 + o % 4096))
    | none => none

/-- The canonical address of a place in memory spaces 0, 2, 3 and 4. -/
def placeAddr : Place → Option Nat
  | .hbm j o => some (j * 2 ^ 39 + o)
  | .tower w o => some (tsAddr w o)
  | .data g o => some (dmAddr g o)
  | .prog g o => some (pmAddr g o)
  | _ => none

/-- The bytes left in the place's memory from its offset on. -/
def placeRoom : Place → Nat
  | .hbm _ o => stackBytes - o
  | .tower _ o => towerBytes - o
  | .data _ o => dmBytes - o
  | .prog _ o => 2 ^ 16 - o
  | _ => 0

/-- The place that a stand's access to address `a` reaches: R56, R57, and R58's ownership. -/
def State.standPlace (s : State) (i a : Nat) : Option Place :=
  match placeOf a with
  | some (.hbm j o) => if s.ownsStack i j then some (.hbm j o) else none
  | some (.inter o) => interleave (s.stacksOf i) o
  | some (.tower w o) => if s.ownsTower i w then some (.tower w o) else none
  | some (.data g o) => if s.ownsTower i (towerOf g) then some (.data g o) else none
  | some (.prog g o) => if s.ownsTower i (towerOf g) then some (.prog g o) else none
  | _ => none

/-- Advance the global time counter to an event's time, if that lies ahead. -/
def State.gtcTo (s : State) (t : Nat) : State :=
  if s.gtc.toNat < t ∧ s.clk.stopped = false then { s with gtc := BitVec.ofNat 64 t } else s

/-- Is the site of tower `w` an open site? -/
def State.openSite (s : State) (w : Nat) : Bool := s.gf (Reg.SITE_CENSUS0 w) Fld.SITE_CENSUS0_agent == 1

/-- Add an output. -/
def State.emit (s : State) (o : Out) : State := { s with out := s.out ++ [o] }

end Sys2Proof.Machine
end

