-- ==== Sys2Proof/Machine/Errors.lean ====
section
/-! DEFINITION. Interrupts (R403 to R407) and errors: the log, first-error capture, stand errors and the beginning of
handling (R480 to R492). -/

namespace Sys2Proof.Machine

/-! ### Interrupts -/

/-- A word of a port's MSI-X table: a vector's control word is masked after a reset. -/
def msixWord (t : SMap (BitVec 32)) (o : Nat) : BitVec 32 := sget (if o % 16 = 12 then 1 else 0) t o

/-- May vector `v` send its message now (R406)? -/
def PortSt.canSend (p : PortSt) (v : Nat) : Bool :=
  p.msixEnable && !p.funcMask && !p.d3 && (msixWord p.table (16 * v + 12)).toNat % 2 == 0

/-- A vector's request rose: send its message, or leave it pending (R406). -/
def State.request (s : State) (p v : Nat) : State :=
  if (s.port p).canSend v then s.emit (.msix p v)
  else s.setPort p { s.port p with pba := sset false (s.port p).pba v true }

/-- Set module cause `b` on one port (R406, R407). A port held in reset keeps its registers at their Warm values. -/
def State.modCauseOn (s : State) (p b : Nat) : State :=
  if (s.port p).inReset then s
  else
    let was := natBit (s.gf (Reg.HIF_MOD_INT p) Fld.HIF_MOD_INT_cause) b
    let s1 := s.sfBit (Reg.HIF_MOD_INT p) Fld.HIF_MOD_INT_cause b
    if !was && natBit (s.gf (Reg.HIF_MOD_INT_EN p) Fld.HIF_MOD_INT_EN_en) b then s1.request p b else s1

/-- Set module cause `b` on both ports (R405). -/
def State.modCause (s : State) (b : Nat) : State := (s.modCauseOn 0 b).modCauseOn 1 b

/-- Raise stand event `e` on the stand's master port (R404, R405). -/
def State.stdEvent (s : State) (i e : Nat) : State :=
  let p := planPort s.planForce i
  if (s.port p).inReset then s
  else
    let was := natBit (s.gf (Reg.HIF_STD_INT i) Fld.HIF_STD_INT_cause) e
    let s1 := s.sfBit (Reg.HIF_STD_INT i) Fld.HIF_STD_INT_cause e
    if !was && natBit (s.gf (Reg.HIF_STD_INT_EN i) Fld.HIF_STD_INT_EN_en) e then s1.request p (32 + 8 * i + e) else s1

/-! ### What a host reaches (R396, R411, R468) -/

/-- The phase of the last start: 0 starting, 1 ready, 2 safe state. -/
def State.phase (s : State) : Nat := s.gf Reg.MGT_START_STATUS Fld.MGT_START_STATUS_phase

/-- The registers that are served before the firmware image is verified: HIF_ and boot registers. [DEDUCED, assumption 64, unsafe] -/
def earlyOff (off : Nat) : Bool := (decide (0x8000 ≤ off) && decide (off < 0xA000)) || (decide (0x6000 ≤ off) && decide (off < 0x6044))

/-- The further registers that the safe state serves. [DEDUCED, assumption 63, unsafe] -/
def safeOff (off : Nat) : Bool :=
  decide (off = Reg.MGT_BOUNDARY) || (decide (0x700 ≤ off) && decide (off < 0x710)) ||
    (decide (0x600 ≤ off) && decide (off < 0x650)) || (decide (0x3000 ≤ off) && decide (off < 0x3100)) ||
    -- the tile clock registers, in the two tile windows (R435)
    (decide (0x200_0000 ≤ off) && decide (off < 0x400_0000) && decide (0x80_0000 ≤ off % 0x100_0000) && decide (off % 0x100_0000 < 0x80_0200))

/-- Does the port serve an access to the register at `off`? [DEDUCED, assumption 63, unsafe, 64] -/
def State.serves (s : State) (p off : Nat) : Bool :=
  let x := s.port p
  s.power && !x.inReset && x.cfgReady && !x.d3 &&
    (earlyOff off || (if s.phase = 2 ∨ (s.sec.failed0 && s.sec.failed15) = true then safeOff off else s.sec.image.isSome))

/-- A write from port `p` to the register at `off`: discarded where the port does not serve it. -/
def State.hostWrite (s : State) (p off : Nat) (k : State → State) : Host.Outcome State Fault Refusal :=
  if p ≥ 2 then .fault .noSuchUnit else if s.serves p off then .next (k s) else .next s

/-! ### The error log -/

/-- What an error names; a field left at `none` does not apply and holds all ones (R484). [DEDUCED, assumption 110, unsafe] -/
structure ErrInfo where
  source : Nat
  code : Nat
  stand : Option Nat
  tile : Option Nat
  site : Option Nat
  gcore : Option Nat
  index : Option Nat
  detail : Option Nat
  addr : Option Nat
  deriving DecidableEq, Repr

/-- An error of a source and code that names nothing further. -/
def ErrInfo.plain (source code : Nat) : ErrInfo := ⟨source, code, none, none, none, none, none, none, none⟩

/-- A number where it applies, else all ones. -/
def optBits (w : Nat) (o : Option Nat) : BitVec w :=
  match o with
  | some n => BitVec.ofNat w n
  | none => BitVec.allOnes w

/-- GTC at the tile that detects an error: tile 0's own where no other is named, else within a tick of it (R161, R429, R484).
[DEDUCED, assumption 157, safe] -/
def State.gtcAt (s : State) (tile : Option Nat) : Word :=
  match tile with
  | none | some 0 => s.gtc
  | some t => if s.gtc = 0 ∨ Config.tileApart t s.gtc.toNat = false then s.gtc else if Config.tileAhead t then s.gtc + 1 else s.gtc - 1

/-- The log entry of an error detected now (R484). -/
def State.logEnt (s : State) (cls : Nat) (e : ErrInfo) : LogEnt :=
  { gtc := s.gtcAt e.tile, cls := BitVec.ofNat 2 cls, source := BitVec.ofNat 8 e.source, code := BitVec.ofNat 8 e.code,
    stand := optBits 8 e.stand, tile := optBits 8 e.tile, site := optBits 8 e.site, gcore := optBits 16 e.gcore,
    index := optBits 16 e.index, detail := optBits 16 e.detail,
    beat := match e.stand with
      | some i => BitVec.ofNat 32 (s.stand i).beat.toNat
      | none => BitVec.allOnes 32,
    addr := optBits 64 e.addr }

/-- Word `w` (0 to 3) of an entry's 32 bytes (R484). -/
def LogEnt.word (l : LogEnt) (w : Nat) : Word :=
  match w with
  | 0 => l.gtc
  | 1 => BitVec.ofNat 64 (l.cls.toNat + l.source.toNat * 2 ^ 8 + l.code.toNat * 2 ^ 16 + l.stand.toNat * 2 ^ 24 +
      l.tile.toNat * 2 ^ 32 + l.site.toNat * 2 ^ 40 + l.gcore.toNat * 2 ^ 48)
  | 2 => BitVec.ofNat 64 (l.index.toNat + l.detail.toNat * 2 ^ 16 + l.beat.toNat * 2 ^ 32)
  | _ => l.addr

/-- First-error capture of a class (R488). -/
def State.capture (s : State) (cls : Nat) (l : LogEnt) : State :=
  if s.gf (Reg.MGT_ERR_FIRST_CTL cls) Fld.MGT_ERR_FIRST_CTL_valid = 1 then
    s.sf (Reg.MGT_ERR_FIRST_CTL cls) Fld.MGT_ERR_FIRST_CTL_more 1
  else
    let s1 := (upto 4).foldl (fun a w => a.setReg (Reg.MGT_ERR_FIRST cls w) (l.word w)) s
    s1.sf (Reg.MGT_ERR_FIRST_CTL cls) Fld.MGT_ERR_FIRST_CTL_valid 1

/-- The field of MGT_ERR_STATUS that counts a class's lost entries. -/
def lostFld (cls : Nat) : Fld :=
  if cls = 0 then Fld.MGT_ERR_STATUS_lost_corr else if cls = 1 then Fld.MGT_ERR_STATUS_lost_cont
  else Fld.MGT_ERR_STATUS_lost_fatal

/-- Append an entry where a place is open to its class (R485), with its interrupt (R492); otherwise count the loss. [DEDUCED, assumption 118, safe] -/
def State.append (s : State) (cls : Nat) (l : LogEnt) : State :=
  let room := if cls ≤ 1 then decide (s.log.length < 56) else decide (s.log.length < 64)
  if room then
    let s1 := { s with log := s.log ++ [l] }
    if cls = 0 then s1.modCause 2 else if cls = 1 then s1.modCause 1 else s1
  else (s.sfSat Reg.MGT_ERR_STATUS (lostFld cls) 1).modCause 3

/-- Is a takeover of the management controller under way: 50 heartbeats missing, and not both controllers out (R508)? [DEDUCED, assumption 136, safe] -/
def State.takingOver (s : State) : Bool := decide (s.sec.missed ≥ 50) && !(s.sec.failed0 && s.sec.failed15)

/-- A request that needs a controller waits while one takes over (R508); else `k` serves it. -/
def State.managed (s : State) (i : MgmtReq) (k : State → State) : State :=
  if s.takingOver then { s with mgmtWait := s.mgmtWait ++ [i] } else k s

/-- Log an error of a class: captured and appended, or held by its tile during a takeover (R485, R488, R508). -/
def State.logErr (s : State) (cls : Nat) (l : LogEnt) : State :=
  if s.takingOver then { s with errWait := s.errWait ++ [(cls, l)] } else (s.capture cls l).append cls l

/-- Does the rate limit withhold a corrected entry of this source and code (R487)? -/
def State.corrHeld (s : State) (l : LogEnt) : Bool :=
  let last := (sget 0 s.corrLast (l.source.toNat * 256 + l.code.toNat)).toNat
  s.gf Reg.MGT_ERR_CFG Fld.MGT_ERR_CFG_corr_log == 0 ||
    (decide (last ≠ 0) && decide (l.gtc.toNat < last - 1 + 2 ^ s.gf Reg.MGT_ERR_CFG Fld.MGT_ERR_CFG_corr_gap))

/-- A corrected error's entry: captured, and logged or suppressed (R487, R488). -/
def State.corrEnt (s : State) (l : LogEnt) : State :=
  let s1 := s.capture 0 l
  if s.corrHeld l then s1.sfSat Reg.MGT_ERR_STATUS Fld.MGT_ERR_STATUS_suppressed 1
  else
    let s2 := s1.append 0 l
    -- only an entry that was logged holds back the next (R487)
    if s1.log.length < 56 then
      { s2 with corrLast := sset 0 s2.corrLast (l.source.toNat * 256 + l.code.toNat) (BitVec.ofNat 64 (l.gtc.toNat + 1)) }
    else s2

/-- A corrected error (R480, R487). -/
def State.corrected (s : State) (e : ErrInfo) : State :=
  if s.takingOver then { s with errWait := s.errWait ++ [(0, s.logEnt 0 e)] } else s.corrEnt (s.logEnt 0 e)

/-- The order of R486: by class, module-fatal first, then by stand, tile and global core. -/
def errKey (q : Nat × LogEnt) : Nat :=
  (3 - q.1) * 2 ^ 32 + q.2.stand.toNat * 2 ^ 24 + q.2.tile.toNat * 2 ^ 16 + q.2.gcore.toNat

/-- Insert in that order, after equals. -/
def errInsert (q : Nat × LogEnt) : List (Nat × LogEnt) → List (Nat × LogEnt)
  | [] => [q]
  | x :: rest => if errKey q < errKey x then q :: x :: rest else x :: errInsert q rest

/-- A takeover is complete: the errors that waited reach the log in the order of R486 (R508). -/
def State.errsRelease (s : State) : State :=
  (s.errWait.foldl (fun l q => errInsert q l) []).foldl
    (fun y q => if q.1 = 0 then y.corrEnt q.2 else (y.capture q.1 q.2).append q.1 q.2) { s with errWait := [] }

/-- A contained error. [DEDUCED, assumption 110, unsafe] -/
def State.contained (s : State) (e : ErrInfo) : State :=
  s.logErr 1 (s.logEnt 1 e)

/-- A module-fatal error (R480, R491, R492): logged, with module cause 0. What it does to the runs is its rule's. -/
def State.moduleFatal (s : State) (e : ErrInfo) : State :=
  (s.logErr 3 (s.logEnt 3 e)).modCause 0

/-- A stand-fatal condition naming stand `i` (R481, R489, R490): logged, recorded in STD_ERR, the stand event raised,
and stand handling begun; in a stand that a module-fatal error has parked it is logged alone, since that handling goes before (R491). In a
stand that is not in a run it is a contained error of code 0x10. [DEDUCED, assumption 59, unsafe, 62] -/
def State.standFatal (s : State) (i : Nat) (e : ErrInfo) : State :=
  if s.inRun i then
    let s1 := s.logErr 2 (s.logEnt 2 { e with stand := some i })
    if (s.pwrS i).parked then s1 else
    let a := Reg.STD_ERR i
    let s2 :=
      if s.gf a Fld.STD_ERR_valid = 1 then s1.sf a Fld.STD_ERR_more 1
      else ((s1.sf a Fld.STD_ERR_code e.code).sf a Fld.STD_ERR_valid 1).sf a Fld.STD_ERR_gcore (e.gcore.getD 0x3FFF)
    let s3 := (s2.sfSat a Fld.STD_ERR_count 1).stdEvent i 2
    let x := s3.stand i
    -- an abort that is already under way keeps its own ending
    if x.handling.isSome then s3 else s3.setStand i { x with handling := some .fatal }
  else
    let d := match e.detail with
      | some n => n
      | none => 0xFFFF
    s.contained { e with stand := some i, code := 0x10, detail := some (e.code + d % 256 * 256) }

end Sys2Proof.Machine
end

