-- ==== Sys2Proof/Machine/Store.lean ====
section
/-! DEFINITION. The non-volatile store's write queue (R459, R514 to R522) and the deadwood map (R475, R476). -/

namespace Sys2Proof.Machine

/-! ### Records and copies (R514 to R522) -/

/-- The latest record of a kind and key. -/
def lastRec (rs : List NvRec) (kind key : Nat) : Option NvRec :=
  (rs.filter fun (r : NvRec) => r.kind == kind && r.key == key).getLast?

/-- The bytes free in a copy's active bank (R514). -/
def NvCopy.free (c : NvCopy) : Nat := 4064 * 1024 - 64 - (c.recs.map NvRec.size).sum

/-- Is the record in force (R517)? -/
def NvCopy.inForce (c : NvCopy) (r : NvRec) : Bool :=
  if 5 ≤ r.kind ∧ r.kind ≤ 9 then true
  else match lastRec c.recs r.kind r.key with
    | some l => l.seq == r.seq
    | none => false

/-- The records of a bank up to the first that the scan of R519 does not take: one that `bad` names by its number, of kind 0, of more than
65,536 bytes, or whose number does not rise. -/
def scanRecs (bad : List Nat) : Nat → List NvRec → List NvRec
  | _, [] => []
  | prev, r :: rest =>
    if bad.contains r.seq ∨ r.kind = 0 ∨ r.payload.length > 65536 ∨ r.seq ≤ prev then [] else r :: scanRecs bad r.seq rest

/-- The scan of a bank: what follows the last record that it takes is zeroed. The words of a write that was broken off are a record
where all of them stand there. -/
def NvBank.scan (bad : List Nat) (b : NvBank) : NvBank :=
  let rs := scanRecs bad ((b.slot.map NvRec.seq).getD 0) b.recs
  let x : NvBank := { b with recs := rs, torn := [] }
  if rs = b.recs then match NvRec.parse x.seq b.torn with
    | some r => { x with recs := rs ++ [r] }
    | none => x
  else x

/-- The scan of a copy's active bank. -/
def NvCopy.scan (bad : List Nat) (c : NvCopy) : NvCopy := if c.cur.torn = [] ∧ bad = [] then c else c.setCur (c.cur.scan bad)

/-- Compact a copy into its other bank (R520): the records in force, then the open record of the next generation; the old bank is
zeroed. -/
def NvCopy.compact (c : NvCopy) : NvCopy :=
  let new : NvBank := ⟨some ⟨1, 0, c.seq + 1, bytesOf 8 (c.cur.gen + 1)⟩, c.recs.filter c.inForce, []⟩
  if c.bank = 0 then { c with a := NvBank.zero, b := new } else { c with a := new, b := NvBank.zero }

/-- Append a record to a copy, and compact it when less than 128 KiB is left. -/
def NvCopy.append (c0 : NvCopy) (r : NvReq) : NvCopy :=
  let c := c0.scan []
  let c1 := c.setCur { c.cur with recs := c.recs ++ [⟨r.kind, r.key, c.seq + 1, r.payload⟩] }
  if c1.free < 128 * 1024 then c1.compact else c1

/-- The first `k` words of a record are written when its write is broken off. -/
def NvCopy.tear (c0 : NvCopy) (r : NvReq) (k : Nat) : NvCopy :=
  let c := c0.scan []
  c.setCur { c.cur with torn := (NvRec.words ⟨r.kind, r.key, c.seq + 1, r.payload⟩).take k }

/-- The words of a request's record. -/
def NvReq.len (r : NvReq) : Nat := 4 + (r.payload.length + 7) / 8

/-- A copy fails (R522). -/
def State.copyFailed (s : State) (tile : Nat) : State :=
  let e : ErrInfo := { ErrInfo.plain 11 0x0C with tile := some tile }
  (if tile = 0 then { s with copy0 := { s.copy0 with ok := false } }
    else { s with copy15 := { s.copy15 with ok := false } }).contained e

/-- Loading finds copies that cannot be read (R522). -/
def State.copiesRead (s : State) (bad : List Nat) : State :=
  let s1 := if bad.contains 0 && s.copy0.ok then s.copyFailed 0 else s
  if bad.contains 15 && s1.copy15.ok then s1.copyFailed 15 else s1

/-- The write in progress is broken off, and the queue lost: some of its record's words stand on the copy that was being written, in
ascending order, and all of them on the tile 0 copy where the second was (R516, R518). [DESIGN CHOICE, assumption 66, safe] -/
def State.writeTorn (s : State) : State :=
  match s.nvq with
  | [] => s
  | r :: _ =>
    let s0 := { s with nvq := [] }
    let (k, s1) := s0.takeBelow r.len
    if !s.copy0.ok then (if s.copy15.ok then { s1 with copy15 := s1.copy15.tear r k } else s0)
    else if s.copy15.ok then
      let (second, s2) := s1.takeBit
      if second then { s2 with copy0 := s2.copy0.tear r r.len, copy15 := s2.copy15.tear r k }
      else { s2 with copy0 := s2.copy0.tear r k }
    else { s1 with copy0 := s1.copy0.tear r k }

/-! ### The temperature window (R459) -/

/-- A 12-bit reading as a signed number. -/
def signed12 (n : Nat) : Int := if n % 4096 < 2048 then (n % 4096 : Int) else (n % 4096 : Int) - 4096

/-- Is the die under temperature channel `ch` of tile `t` powered: the base tile, which holds layer 0 of every site, or a site whose tower
is not off? -/
def State.chPowered (s : State) (t ch : Nat) : Bool :=
  decide (36 ≤ ch) || decide (ch % 6 = 0) || s.gf (Reg.CLK_SITE_ACTIVE t (ch / 6)) Fld.CLK_SITE_ACTIVE_mask != 0

/-- The junction readings in eighths of a degree: the channels 0 to 39 that are not retired, of every powered die, and the stack
temperatures. A register that has taken no reading is not among them. [DEDUCED, assumption 106, unsafe] -/
def State.junctions (s : State) : List Int :=
  s.regs.filterMap fun e =>
    let o := e.1 % 0x1_0000_0000
    let v := e.2.toNat
    if e.1 < 0x1_0000_0000 then none
    else if 0x90_0000 ≤ o ∧ o < 0x90_00A0 then
      (if natBit v 14 || !s.chPowered (e.1 / 0x1_0000_0000 - 1) ((o - 0x90_0000) / 4) then none else some (signed12 v))
    -- a stack that a trip has powered off is not among them
    else if o = 0x60_0000 ∨ o = 0x60_1000 then (if v % 8 = 0 then none else some (8 * (natBits v 8 8 : Int)))
    else none

/-- The readings that the check of R459 uses: the junctions and the two store dies. -/
def State.nvReadings (s : State) : List Int :=
  s.junctions ++ [0, 15].map fun t => signed12 (sget 0 s.storeTemp t).toNat

/-- Would a store write pass the check of R459 now? -/
def State.nvTempOk (s : State) : Bool := s.nvReadings.all fun x => decide (0 ≤ x) && decide (x ≤ 720)

/-- THM_NV_WINDOW as the last check used it. [DEDUCED, assumption 99, unsafe] -/
def State.nvWindow (s : State) : State :=
  let xs := s.nvReadings
  let hi := xs.foldl max (xs.headD 0)
  let lo := xs.foldl min (xs.headD 0)
  let put := fun (x : Int) => (x % 4096).toNat
  s.setReg Reg.THM_NV_WINDOW (BitVec.ofNat 64 (put hi + put lo * 2 ^ 12 + boolNat s.nvTempOk * 2 ^ 24))

/-- Record a refused write (R521): NVS_REFUSE, module cause 14 and contained error 0x0D. -/
def State.nvRefused (s : State) (code kind : Nat) : State :=
  let a := Reg.NVS_REFUSE
  let s1 :=
    if s.gf a Fld.NVS_REFUSE_valid = 1 then s.sf a Fld.NVS_REFUSE_more 1
    else ((s.sf a Fld.NVS_REFUSE_code code).sf a Fld.NVS_REFUSE_kind kind).sf a Fld.NVS_REFUSE_valid 1
  ((s1.sfSat a Fld.NVS_REFUSE_count 1).modCause 14).contained (ErrInfo.plain 11 0x0D)

/-- Was the write's check made before its sequence began (R523, R527)? -/
def NvReq.checked (r : NvReq) : Bool := r.act == .tapOpened || r.act == .prov

/-- The refusal that a store write meets when it is requested (R459, R521): 1 temperature, 2 queue_full, 3 no_copy. A write that
waits behind others is checked when its turn comes. -/
def State.nvRefusal (s : State) (r : NvReq) : Option Nat :=
  if !s.copy0.ok && !s.copy15.ok then some 3
  else if s.nvq.length ≥ 32 then some 2
  else if s.nvq == [] && !r.checked && !s.nvTempOk then some 1
  else none

/-- A store write comes to its queue: it is queued, or refused with the refusal recorded. The flag says whether it was queued. -/
def State.nvPut (s : State) (r : NvReq) : Bool × State :=
  let s0 := if s.nvq = [] ∧ r.checked = false then s.nvWindow else s
  match s0.nvRefusal r with
  | some code => (false, s0.nvRefused code r.kind)
  | none => (true, { s0 with nvq := s0.nvq ++ [r] })

/-- Request a store write. During a controller takeover it waits among the requests that need a controller (R508). -/
def State.nvWrite (s : State) (r : NvReq) : Bool × State :=
  if s.takingOver then (true, { s with mgmtWait := s.mgmtWait ++ [.store r] }) else s.nvPut r

/-- Does a store write that `p` names wait, in the queue or for a controller? -/
def State.nvWaits (s : State) (p : NvReq → Bool) : Bool :=
  s.nvq.any p || s.mgmtWait.any fun q => match q with
    | .store r => p r
    | _ => false

/-- The records in force as the working copy holds them: tile 0's, or the mirror's. -/
def State.records (s : State) : List NvRec := ((if s.copy0.ok then s.copy0 else s.copy15).scan []).recs

/-- The payload of the latest record of a kind and key. -/
def State.payload (s : State) (kind key : Nat) : List Byte := ((lastRec s.records kind key).map NvRec.payload).getD []

/-- Is an opened record in force: one that follows the last provisioned record (R525, R526)? -/
def openedIn (rs : List NvRec) : Bool :=
  match (rs.filter fun (r : NvRec) => r.kind == 8 || r.kind == 9).getLast? with
  | some r => r.kind == 8
  | none => false

/-! ### Settings (R517, R521) -/

/-- The minimum svn, with the raises that wait to be written. -/
def State.svnAhead (s : State) : Nat :=
  s.nvq.foldl (fun m r => match r.act with
    | .svn v => max m v
    | _ => m) (s.gf Reg.SEC_STATE Fld.SEC_STATE_min_svn)

/-- The settings record's payload with a minimum svn. [DEDUCED, assumption 72, unsafe] -/
def State.settings (s : State) (svn : Nat) : List Byte :=
  bytesOf 2 svn ++ bytesOf 1 (s.gf Reg.OPT_ILK_CTL Fld.OPT_ILK_CTL_conn_retired) ++
    bytesOf 1 (s.gf Reg.CLK_REF_CTL Fld.CLK_REF_CTL_prefer)

/-- Write the settings after a register that they hold has changed; a refused write waits for its retry. -/
def State.settingsSave (s : State) : State :=
  let (ok, s1) := s.nvWrite ⟨0xD, 0, s.settings s.svnAhead, .settings⟩
  { s1 with sec := { s1.sec with settingsWait := !ok } }

/-- The registers that the store gives at every cold start from its beginning (R11, R418, R505, R525): the settings, and what SEC_STATE
shows of the port and of the identity key. -/
def State.stored (s : State) : State :=
  let rs := s.records
  let a := Reg.SEC_STATE
  let opened := openedIn rs
  let key := (!s.copy0.ok || s.copy0.secret.isSome) && (!s.copy15.ok || s.copy15.secret.isSome)
  let s1 := ((s.sf a Fld.SEC_STATE_opened (boolNat opened)).sf a Fld.SEC_STATE_tap_enabled (boolNat opened)).sf a
    Fld.SEC_STATE_id_key (boolNat (key && !opened))
  match lastRec rs 0xD 0 with
  | some r =>
    let v := ofBytes r.payload
    ((s1.sf a Fld.SEC_STATE_min_svn (natBits v 0 16)).sf Reg.OPT_ILK_CTL Fld.OPT_ILK_CTL_conn_retired (natBits v 16 3)).sf
      Reg.CLK_REF_CTL Fld.CLK_REF_CTL_prefer (natBits v 24 1)
  | none => s1

/-! ### The deadwood map (R475, R476) -/

/-- A deadwood entry's 16 bytes (R475). -/
def DwEnt.bytes (e : DwEnt) : List Byte :=
  bytesOf 8 e.gtc.toNat ++ [e.kind, e.tile, e.site, e.sub] ++ bytesOf 2 e.index.toNat ++ [e.cause, 0]

/-- Record a unit in the deadwood map (R475, R476): in effect at once, module cause 13 (R407), and appended to the store
where that accepts it. -/
def State.dead (s : State) (kind tile site sub index cause : Nat) : State :=
  let e : DwEnt := ⟨s.gtc, BitVec.ofNat 8 kind, BitVec.ofNat 8 tile, BitVec.ofNat 8 site, BitVec.ofNat 8 sub,
    BitVec.ofNat 16 index, BitVec.ofNat 8 cause, false⟩
  let n := s.dwm.length
  let s1 := State.modCause { s with dwm := s.dwm ++ [e] } 13
  (s1.nvWrite ⟨5, 0, e.bytes, .deadwood n⟩).2

/-- The deadwood entry that records tower `w` as degraded for a cause. -/
def isDegraded (w cause : Nat) (e : DwEnt) : Bool :=
  e.kind.toNat == 3 && e.tile.toNat == w / 6 && e.site.toNat == w % 6 && e.cause.toNat == cause

/-- Is the tower degraded: is a logical place of it empty, was a ninth SRAM spare needed, or does the deadwood map name it (R77, R391,
R430)? -/
def State.towerDegraded (s : State) (w : Nat) : Bool :=
  s.gf (Reg.CORE_DIE_ID (w / 6) (w % 6)) Fld.CORE_DIE_ID_degraded == 1 ||
    s.gf (Reg.CORE_TS_MAP (w / 6) (w % 6)) Fld.CORE_TS_MAP_degraded == 1 ||
    s.dwm.any fun e => e.kind.toNat == 3 && e.tile.toNat == w / 6 && e.site.toNat == w % 6

/-- The register that shows why a tower is degraded (R99, R393): an empty logical place (cause 0x21), or a ninth SRAM spare (cause 9). -/
def State.showDegraded (s : State) (w cause : Nat) : State :=
  if cause = 0x21 then s.sf (Reg.CORE_DIE_ID (w / 6) (w % 6)) Fld.CORE_DIE_ID_degraded 1
  else if cause = 9 then s.sf (Reg.CORE_TS_MAP (w / 6) (w % 6)) Fld.CORE_TS_MAP_degraded 1
  else s

/-- Mark a tower degraded for a cause (R77, R391, R430): the register that shows it and the deadwood map, once for each cause; the
error is logged when the tower becomes degraded. -/
def State.degradeTower (s : State) (w cause : Nat) : State :=
  let s1 := s.showDegraded w cause
  if s.dwm.any (isDegraded w cause) then s1
  else
    let s2 := if s.towerDegraded w then s1
      else s1.contained { ErrInfo.plain 1 0x0C with tile := some (w / 6), site := some (w % 6) }
    s2.dead 3 (w / 6) (w % 6) 0 0 cause

/-- Mark a stack degraded (R387). -/
def State.degradeStack (s : State) (j cause : Nat) : State :=
  let a := Reg.HBM_STATE (j / 2) (j % 2)
  if s.gf a Fld.HBM_STATE_state = 5 then s
  else ((s.sf a Fld.HBM_STATE_state 5).contained
    { ErrInfo.plain 3 0x0C with tile := some (j / 2), site := some (6 + j % 2) }).dead 0x0F (j / 2) (6 + j % 2) 0 0 cause

end Sys2Proof.Machine
end

