-- ==== Sys2Proof/Machine/Fence.lean ====
section
/-! DEFINITION. Fencing a core (R73, R93 to R97, R472): the record, the stop, the batch that fails, and the row's spare
that loads. -/

namespace Sys2Proof.Machine

/-- The positions of a row in service (R73), of core `g`'s row. -/
def State.rowMap (s : State) (g : Nat) : Nat :=
  s.gf (Reg.CORE_ROW_MAP (tileOf g) (siteOf g) (rowOf g)) Fld.CORE_ROW_MAP_in_service

/-- The physical position that carries logical column `c` of a row map: the `c`-th position in service. -/
def posOf (map c : Nat) : Nat := ((upto 17).filter fun p => natBit map p).getD c 17

/-- The physical index 17·r + p of a core (R99). -/
def State.physOf (s : State) (g : Nat) : Nat := 17 * rowOf g + posOf (s.rowMap g) (colOf g)

/-- The register of a core's counter `e` (R494, R503). -/
def State.coreCtr (s : State) (g e : Nat) : Nat :=
  0x1_0000_0000 * (tileOf g + 1) + 0xA0_0000 + 0x1_0000 * siteOf g + 0x140 * s.physOf g + 8 * e

/-- Count `n` events `e` of core `g`, whose counters stop at its fence (R494). -/
def State.coreCount (s : State) (g e n : Nat) : State := if n = 0 ∨ (s.core g).fenced then s else s.bump (s.coreCtr g e) n

/-- Set CORE_STATE.state of physical position `p` of row `r`. -/
def State.posState (s : State) (tile site r p v : Nat) : State :=
  s.sf (Reg.CORE_STATE tile site (17 * r + p)) Fld.CORE_STATE_state v

/-- Latch a fence in CORE_FAULT (R97, R99). -/
def State.coreFault (s : State) (tile site phys cause : Nat) : State :=
  let a := Reg.CORE_FAULT tile site
  if s.gf a Fld.CORE_FAULT_valid = 1 then s.sf a Fld.CORE_FAULT_more 1
  else ((s.sf a Fld.CORE_FAULT_phys phys).sf a Fld.CORE_FAULT_cause cause).sf a Fld.CORE_FAULT_valid 1

/-- From `s` to `u` cores of die (`tile`, `site`) were fenced in one cycle: where CORE_FAULT was free, it holds the one of the lowest
physical index (R97). -/
def State.faultLowest (s u : State) (tile site : Nat) : State :=
  let a := Reg.CORE_FAULT tile site
  let w := 6 * tile + site
  let new := ((upto 128).map fun k => 128 * w + k).filter fun g => (u.core g).fenced && !(s.core g).fenced
  if s.gf a Fld.CORE_FAULT_valid = 1 then u
  else match new with
    | [] => u
    | g :: rest =>
      let low := rest.foldl (fun x y => if s.physOf y < s.physOf x then y else x) g
      (u.sf a Fld.CORE_FAULT_phys (s.physOf low)).sf a Fld.CORE_FAULT_cause (u.core low).cause

/-- The unused spare position of a row, if any: powered by no logical place and not fenced. An open site has no spare core (R373). -/
def State.sparePos (s : State) (tile site r : Nat) : Option Nat :=
  let a := Reg.CORE_ROW_MAP tile site r
  if s.openSite (6 * tile + site) then none
  else (upto 17).find? fun p => !natBit (s.gf a Fld.CORE_ROW_MAP_in_service) p && !natBit (s.gf a Fld.CORE_ROW_MAP_fenced) p

/-- Is a spare of this row already loading for another place? -/
def State.spareTaken (s : State) (i g : Nat) : Bool :=
  (s.stand i).spares.any fun x => x.g / 16 == g / 16

/-- Place the spare in core `g`'s logical place (R73, R76): the row map, the die's spares, the deadwood map. -/
def State.placeSpare (s : State) (g : Nat) : State :=
  let t := tileOf g
  let st := siteOf g
  let r := rowOf g
  let a := Reg.CORE_ROW_MAP t st r
  match s.sparePos t st r with
  | none => s
  | some q =>
    let old := posOf (s.gf a Fld.CORE_ROW_MAP_in_service) (colOf g)
    let m := natPut (natPut (s.gf a Fld.CORE_ROW_MAP_in_service) old 1 0) q 1 1
    let s1 := s.sf a Fld.CORE_ROW_MAP_in_service m
    let d := Reg.CORE_DIE_ID t st
    let s2 := s1.sf d Fld.CORE_DIE_ID_spares_free (natPut (s1.gf d Fld.CORE_DIE_ID_spares_free) r 1 0)
    (s2.posState t st r q 1).dead 2 t st r q 0

/-- What a fence in a run leaves with the stand (R68, R472): STD_FAIL_BEAT, STD_FENCES, the failed batch and the stand event. -/
def State.failBatch (s : State) (i g : Nat) : State :=
  let x := s.stand i
  let s1 := if s.reg (Reg.STD_FAIL_BEAT i) = BitVec.allOnes 64 then s.setReg (Reg.STD_FAIL_BEAT i) x.beat else s
  let fa := Reg.STD_FENCES i
  let s2 := if s1.gf fa Fld.STD_FENCES_count = 0 then s1.sf fa Fld.STD_FENCES_gcore g else s1
  let s3 := ((s2.sfSat fa Fld.STD_FENCES_count 1).sf (Reg.STD_STATUS i) Fld.STD_STATUS_run_code 0x10).stdEvent i 2
  s3.setStand i { s3.stand i with batchFailed := true }

/-- The row's spare is powered and loads for core `g`'s place (R76), or the place stays empty (R77): in a run its error comes at the
next clearing, outside one its tower is degraded at once. A spare of a tower in no stand has nothing to load and takes
the place. -/
def State.fillPlace (s : State) (g : Nat) : State :=
  let t := tileOf g
  let st := siteOf g
  let r := rowOf g
  match s.sparePos t st r, s.standOfTower (towerOf g) with
  | some q, some i =>
    if s.spareTaken i g then
      if s.inRun i then s.setStand i { s.stand i with emptied := (s.stand i).emptied ++ [g] } else s.degradeTower (towerOf g) 0x21
    else
      (s.posState t st r q 6).setStand i
        { s.stand i with spares := (s.stand i).spares ++ [⟨g, (s.stand i).beat, false, false, false⟩] }
  | some _, none => (s.placeSpare g).setCore g CoreSt.zero
  | none, some i =>
    if s.inRun i then s.setStand i { s.stand i with emptied := (s.stand i).emptied ++ [g] } else s.degradeTower (towerOf g) 0x21
  | none, none => s.degradeTower (towerOf g) 0x21

/-- Fence core `g` for a cause of CORE_FAULT (R93, R96, R97, R472). A core already fenced records nothing further, and an open site has
no core to fence (R373). A launched stand that has not begun counts as in its run. [DESIGN CHOICE, assumption 143, unsafe] -/
def fenceCore (s : State) (g cause : Nat) : State :=
  let c := s.core g
  if c.fenced || s.openSite (towerOf g) then s
  else
    let t := tileOf g
    let st := siteOf g
    let r := rowOf g
    let phys := s.physOf g
    let p := phys % 17
    -- stop at once; results of the faulting bundle are discarded (R96)
    let s1 := s.setCore g { c with fenced := true, cause := cause, running := false, physical := true, staged := [],
                                   waiting := none, sb := [], pend := [], link := [], bwait := none, gated := false }
    let s2 := (s1.coreFault t st phys cause).posState t st r p 4
    let a := Reg.CORE_ROW_MAP t st r
    let s3 := s2.sf a Fld.CORE_ROW_MAP_fenced (natPut (s2.gf a Fld.CORE_ROW_MAP_fenced) p 1 1)
    let s4 := s3.contained { ErrInfo.plain 1 1 with stand := s.standOfTower (towerOf g), tile := some t, site := some st,
                                                    gcore := some g, detail := some cause }
    let s5 := s4.dead 1 t st r p cause
    match s.standOfTower (towerOf g) with
    | some i => (if s.inRun i then s5.failBatch i g else s5).fillPlace g
    | none => s5.fillPlace g

end Sys2Proof.Machine
end

