-- ==== Sys2Proof/Machine/Encoding.lean ====
section
/-! DEFINITION. The bundle encoding and its static rules: the slots' words (R124 to R138) and the checks that R144
makes of every bundle. -/

namespace Sys2Proof

open Machine

/-! ### Opcodes (R134 to R137) -/

def SAlu.code : SAlu → Nat
  | .add => 0x01 | .sub => 0x02 | .and => 0x03 | .or => 0x04 | .xor => 0x05 | .shl => 0x06 | .shr => 0x07
  | .sra => 0x08 | .mul => 0x09 | .mulh => 0x0A | .mulhu => 0x0B | .slt => 0x0C | .sltu => 0x0D | .seq => 0x0E
  | .min => 0x0F | .max => 0x10 | .minu => 0x11 | .maxu => 0x12 | .clz => 0x13 | .popc => 0x14

def SAluI.code : SAluI → Nat
  | .addi => 0x20 | .andi => 0x21 | .ori => 0x22 | .xori => 0x23 | .shli => 0x24 | .shri => 0x25 | .srai => 0x26
  | .slti => 0x27 | .sltui => 0x28 | .muli => 0x29

def Cond.code : Cond → Nat
  | .eq => 0x31 | .ne => 0x32 | .lt => 0x33 | .ge => 0x34 | .ltu => 0x35 | .geu => 0x36

def VOp.code : VOp → Nat
  | .vadd => 0x01 | .vsub => 0x02 | .vmul => 0x03 | .vfma => 0x04 | .vmin => 0x05 | .vmax => 0x06 | .vabs => 0x07
  | .vneg => 0x08 | .vand => 0x09 | .vor => 0x0A | .vxor => 0x0B | .vshl => 0x0C | .vshr => 0x0D | .vsra => 0x0E
  | .vsel => 0x0F | .vcmpeq => 0x10 | .vcmpne => 0x11 | .vcmplt => 0x12 | .vcmple => 0x13 | .kand => 0x14
  | .kor => 0x15 | .kxor => 0x16 | .knot => 0x17 | .vbcast => 0x20 | .vperm => 0x21 | .vshuf => 0x22 | .vrot => 0x23
  | .vins => 0x24 | .vext => 0x25 | .vrsum => 0x28 | .vrmax => 0x29 | .vrmin => 0x2A | .vexp => 0x30 | .vrcp => 0x31
  | .vrsqrt => 0x32 | .vtanh => 0x33 | .vgelu => 0x34 | .vstat => 0x38 | .vstrd => 0x39 | .vstclr => 0x3A
  | .vcvt => 0x40 | .vpackmx => 0x41 | .vmov => 0x42 | .vsplat => 0x43

def TOp.code : TOp → Nat
  | .tlda => 0x01 | .tldb => 0x02 | .tldsc => 0x03 | .tmac => 0x08 | .tmacz => 0x09 | .tmov => 0x10 | .tclr => 0x11

def QOp.code : QOp → Nat
  | .qld => 0x20 | .qwt => 0x21 | .cbind => 0x22 | .msim => 0x28 | .dseg => 0x29 | .dclose => 0x2A | .tkins => 0x30
  | .tkrd => 0x31 | .tkclr => 0x32 | .tkcfg => 0x33

def MOp.code : MOp → Nat
  | .ld => 0x01 | .st => 0x02 | .vld => 0x03 | .vst => 0x04 | .tsld => 0x08 | .tsst => 0x09 | .bmov => 0x0A
  | .hmov => 0x0B | .mwait => 0x0C | .rld => 0x10 | .rst => 0x11 | .radd => 0x18 | .rmax => 0x19 | .rmin => 0x1A
  | .rxchg => 0x1B | .rcas => 0x1C | .rfadd => 0x1D | .rredAdd => 0x20 | .rredMax => 0x21 | .rredMin => 0x22
  | .rredFadd => 0x23 | .rredTopk => 0x24 | .mcst => 0x28 | .fence => 0x30 | .wflag => 0x31 | .hxfer => 0x38
  | .nistat => 0x39

def allSAlu : List SAlu := [.add, .sub, .and, .or, .xor, .shl, .shr, .sra, .mul, .mulh, .mulhu, .slt, .sltu, .seq,
  .min, .max, .minu, .maxu, .clz, .popc]
def allSAluI : List SAluI := [.addi, .andi, .ori, .xori, .shli, .shri, .srai, .slti, .sltui, .muli]
def allCond : List Cond := [.eq, .ne, .lt, .ge, .ltu, .geu]
def allVOp : List VOp := [.vadd, .vsub, .vmul, .vfma, .vmin, .vmax, .vabs, .vneg, .vand, .vor, .vxor, .vshl, .vshr,
  .vsra, .vsel, .vcmpeq, .vcmpne, .vcmplt, .vcmple, .kand, .kor, .kxor, .knot, .vbcast, .vperm, .vshuf, .vrot, .vins,
  .vext, .vrsum, .vrmax, .vrmin, .vexp, .vrcp, .vrsqrt, .vtanh, .vgelu, .vstat, .vstrd, .vstclr, .vcvt, .vpackmx,
  .vmov, .vsplat]
def allTOp : List TOp := [.tlda, .tldb, .tldsc, .tmac, .tmacz, .tmov, .tclr]
def allQOp : List QOp := [.qld, .qwt, .cbind, .msim, .dseg, .dclose, .tkins, .tkrd, .tkclr, .tkcfg]
def allMOp : List MOp := [.ld, .st, .vld, .vst, .tsld, .tsst, .bmov, .hmov, .mwait, .rld, .rst, .radd, .rmax, .rmin,
  .rxchg, .rcas, .rfadd, .rredAdd, .rredMax, .rredMin, .rredFadd, .rredTopk, .mcst, .fence, .wflag, .hxfer, .nistat]

/-- Is the immediate form a shift (R130)? -/
def SAluI.isShift : SAluI → Bool
  | .shli | .shri | .srai => true
  | _ => false

/-! ### Slot words (R130 to R133) -/

/-- The 48-bit S-slot word of an operation. -/
def SOp.word : SOp → Nat
  | .alu o d a b => o.code + d.toNat * 2 ^ 8 + a.toNat * 2 ^ 13 + b.toNat * 2 ^ 18
  | .alui o d a imm => o.code + d.toNat * 2 ^ 8 + a.toNat * 2 ^ 13 + imm.toNat * 2 ^ 18
  | .sliw d imm => 0x2A + d.toNat * 2 ^ 8 + imm.toNat * 2 ^ 16
  | .slih d imm => 0x2B + d.toNat * 2 ^ 8 + imm.toNat * 2 ^ 16
  | .jmp t => 0x30 + t.toNat * 2 ^ 23
  | .br c a b t => c.code + a.toNat * 2 ^ 13 + b.toNat * 2 ^ 18 + t.toNat * 2 ^ 23
  | .jal d t => 0x37 + d.toNat * 2 ^ 8 + t.toNat * 2 ^ 23
  | .jr a => 0x38 + a.toNat * 2 ^ 13
  | .lp a e => 0x40 + a.toNat * 2 ^ 13 + e.toNat * 2 ^ 34
  | .lpi n e => 0x41 + n.toNat * 2 ^ 18 + e.toNat * 2 ^ 34
  | .lcnt d => 0x42 + d.toNat * 2 ^ 8
  | .rdcr d sel => 0x50 + d.toNat * 2 ^ 8 + sel.toNat * 2 ^ 18
  | .rdgtc d sel => 0x51 + d.toNat * 2 ^ 8 + sel.toNat * 2 ^ 18
  | .rdhw d sel => 0x52 + d.toNat * 2 ^ 8 + sel.toNat * 2 ^ 18
  | .evt sel => 0x53 + sel.toNat * 2 ^ 18
  | .bwait a => 0x54 + a.toNat * 2 ^ 13
  | .bdone => 0x55
  | .stop => 0x56

/-- The 64-bit V-slot word (R131). -/
def vWord (o : VOp) (f : VF) : Nat :=
  o.code + f.ty.toNat * 2 ^ 8 + f.d.toNat * 2 ^ 12 + f.a.toNat * 2 ^ 17 + f.b.toNat * 2 ^ 22 + f.c.toNat * 2 ^ 27 +
    f.mask.toNat * 2 ^ 32 + boolNat f.z * 2 ^ 36 + boolNat f.sat * 2 ^ 37 + f.s.toNat * 2 ^ 38 +
    f.imm6.toNat * 2 ^ 43 + f.imm8.toNat * 2 ^ 49

/-- The 64-bit T-slot word of opcode `op` (R132). -/
def tWord (op : Nat) (f : TF) : Nat :=
  op + f.ta.toNat * 2 ^ 8 + f.tb.toNat * 2 ^ 12 + f.acc.toNat * 2 ^ 16 + f.a.toNat * 2 ^ 19 + f.b.toNat * 2 ^ 24 +
    f.c.toNat * 2 ^ 29 + f.s.toNat * 2 ^ 34 + f.imm6.toNat * 2 ^ 39 + f.imm5.toNat * 2 ^ 45

/-- The 64-bit M-slot word (R133). -/
def mWord (o : MOp) (f : MF) : Nat :=
  o.code + f.d.toNat * 2 ^ 8 + f.a.toNat * 2 ^ 13 + f.b.toNat * 2 ^ 18 + f.v.toNat * 2 ^ 23 + f.mt.toNat * 2 ^ 28 +
    boolNat f.af * 2 ^ 31 + boolNat f.dg * 2 ^ 32 + boolNat f.bo * 2 ^ 33 + f.w.toNat * 2 ^ 34 + f.imm.toNat * 2 ^ 37

/-- The S-slot operation of a word: none where the opcode is not assigned. Bits outside the format are dropped here and
found by encoding again. -/
def sDecode (w : Nat) : Option SOp :=
  let op := natBits w 0 8
  let d := BitVec.ofNat 5 (natBits w 8 5)
  let a := BitVec.ofNat 5 (natBits w 13 5)
  let b := BitVec.ofNat 5 (natBits w 18 5)
  let t := BitVec.ofNat 11 (natBits w 23 11)
  let e := BitVec.ofNat 11 (natBits w 34 11)
  let sel := BitVec.ofNat 8 (natBits w 18 8)
  match allSAlu.find? fun o => o.code == op with
  | some o => some (.alu o d a b)
  | none =>
    match allSAluI.find? fun o => o.code == op with
    | some o => some (.alui o d a (BitVec.ofNat 30 (natBits w 18 30)))
    | none =>
      match allCond.find? fun o => o.code == op with
      | some c => some (.br c a b t)
      | none =>
        match op with
        | 0x2A => some (.sliw d (BitVec.ofNat 32 (natBits w 16 32)))
        | 0x2B => some (.slih d (BitVec.ofNat 32 (natBits w 16 32)))
        | 0x30 => some (.jmp t)
        | 0x37 => some (.jal d t)
        | 0x38 => some (.jr a)
        | 0x40 => some (.lp a e)
        | 0x41 => some (.lpi (BitVec.ofNat 16 (natBits w 18 16)) e)
        | 0x42 => some (.lcnt d)
        | 0x50 => some (.rdcr d sel)
        | 0x51 => some (.rdgtc d sel)
        | 0x52 => some (.rdhw d sel)
        | 0x53 => some (.evt sel)
        | 0x54 => some (.bwait a)
        | 0x55 => some .bdone
        | 0x56 => some .stop
        | _ => none

/-- The fields of a V-slot word (R131). -/
def vFields (w : Nat) : VF :=
  { ty := BitVec.ofNat 4 (natBits w 8 4), d := BitVec.ofNat 5 (natBits w 12 5), a := BitVec.ofNat 5 (natBits w 17 5),
    b := BitVec.ofNat 5 (natBits w 22 5), c := BitVec.ofNat 5 (natBits w 27 5),
    mask := BitVec.ofNat 4 (natBits w 32 4), z := natBit w 36, sat := natBit w 37,
    s := BitVec.ofNat 5 (natBits w 38 5), imm6 := BitVec.ofNat 6 (natBits w 43 6),
    imm8 := BitVec.ofNat 8 (natBits w 49 8) }

/-- The fields of a T-slot word (R132). -/
def tFields (w : Nat) : TF :=
  { ta := BitVec.ofNat 4 (natBits w 8 4), tb := BitVec.ofNat 4 (natBits w 12 4),
    acc := BitVec.ofNat 3 (natBits w 16 3), a := BitVec.ofNat 5 (natBits w 19 5), b := BitVec.ofNat 5 (natBits w 24 5),
    c := BitVec.ofNat 5 (natBits w 29 5), s := BitVec.ofNat 5 (natBits w 34 5),
    imm6 := BitVec.ofNat 6 (natBits w 39 6), imm5 := BitVec.ofNat 5 (natBits w 45 5) }

/-- The fields of an M-slot word (R133). -/
def mFields (w : Nat) : MF :=
  { d := BitVec.ofNat 5 (natBits w 8 5), a := BitVec.ofNat 5 (natBits w 13 5), b := BitVec.ofNat 5 (natBits w 18 5),
    v := BitVec.ofNat 5 (natBits w 23 5), mt := BitVec.ofNat 3 (natBits w 28 3), af := natBit w 31, dg := natBit w 32,
    bo := natBit w 33, w := BitVec.ofNat 3 (natBits w 34 3), imm := BitVec.ofNat 24 (natBits w 37 24) }

def vDecode (w : Nat) : Option SlotOp := (allVOp.find? fun o => o.code == natBits w 0 8).map fun o => .v o (vFields w)

def tDecode (w : Nat) : Option SlotOp :=
  match allTOp.find? fun o => o.code == natBits w 0 8 with
  | some o => some (.t o (tFields w))
  | none => (allQOp.find? fun o => o.code == natBits w 0 8).map fun o => .q o (tFields w)

def mDecode (w : Nat) : Option SlotOp := (allMOp.find? fun o => o.code == natBits w 0 8).map fun o => .m o (mFields w)

/-- The word of a slot operation in its slot. -/
def SlotOp.word : SlotOp → Nat
  | .s x => x.word
  | .v o f => vWord o f
  | .t o f => tWord o.code f
  | .q o f => tWord o.code f
  | .m o f => mWord o f

/-! ### What each instruction's entry accepts (codes 0x02 and 0x03 of R144) -/

def isInt (ty : BitVec 4) : Bool := ty == 1 || ty == 2 || ty == 3
def isFlt (ty : BitVec 4) : Bool := ty == 6 || ty == 7
def isLane (ty : BitVec 4) : Bool := decide (1 ≤ ty.toNat) && decide (ty.toNat ≤ 7)

/-- Which fields of format VF an entry uses. -/
structure VUse where
  ty : Bool
  d : Bool
  a : Bool
  b : Bool
  c : Bool
  m : Bool
  z : Bool
  s : Bool
  i6 : Bool
  i8 : Bool

def VOp.use : VOp → VUse
  | .vadd | .vsub | .vmul | .vmin | .vmax | .vand | .vor | .vxor | .vshl | .vshr | .vsra
  | .vcmpeq | .vcmpne | .vcmplt | .vcmple | .vperm => ⟨true, true, true, true, false, true, true, false, false, false⟩
  | .vsel => ⟨true, true, true, true, false, true, true, false, false, false⟩
  | .vfma | .vshuf => ⟨true, true, true, true, true, true, true, false, false, false⟩
  | .vabs | .vneg | .vexp | .vrcp | .vrsqrt | .vtanh | .vgelu | .vmov
  | .vrsum | .vrmax | .vrmin => ⟨true, true, true, false, false, true, true, false, false, false⟩
  | .kand | .kor | .kxor => ⟨false, true, true, true, false, false, false, false, false, false⟩
  | .knot => ⟨false, true, true, false, false, false, false, false, false, false⟩
  | .vbcast => ⟨true, true, true, false, false, true, true, false, true, false⟩
  | .vrot => ⟨true, true, true, false, false, true, true, true, true, false⟩
  | .vins => ⟨true, true, false, false, false, true, true, true, true, false⟩
  | .vext => ⟨true, true, true, false, false, false, false, false, true, false⟩
  | .vstat => ⟨true, false, true, false, false, true, false, false, false, false⟩
  | .vstrd => ⟨false, true, false, false, false, false, false, false, true, false⟩
  | .vstclr => ⟨false, false, false, false, false, false, false, false, false, false⟩
  | .vcvt => ⟨true, true, true, false, false, true, true, false, true, true⟩
  | .vpackmx => ⟨true, true, true, true, false, false, false, true, true, false⟩
  | .vsplat => ⟨true, true, false, false, false, true, true, true, false, false⟩

/-- Are the fields the entry does not use zero (code 0x02)? -/
def vUnused (o : VOp) (f : VF) : Bool :=
  let u := o.use
  (u.ty || f.ty == 0) && (u.d || f.d == 0) && (u.a || f.a == 0) && (u.b || f.b == 0) && (u.c || f.c == 0) &&
    (u.m || f.mask == 0) && (u.z || !f.z) && (u.s || f.s == 0) && (u.i6 || f.imm6 == 0) && (u.i8 || f.imm8 == 0)

/-- The lane width in bits of type codes 0x1 to 0x7 (R100). -/
def laneWidth (ty : Nat) : Nat :=
  match ty with
  | 2 => 16 | 6 => 16 | 3 => 32 | 7 => 32 | _ => 8

/-- The lane count of a lane type. -/
def lanesOf (ty : Nat) : Nat := 512 / laneWidth ty

/-- Does the type field hold a type the entry lists? -/
def vTypeOk (o : VOp) (f : VF) : Bool :=
  match o with
  | .vadd | .vsub | .vmul | .vmin | .vmax | .vabs | .vneg | .vsel
  | .vcmpeq | .vcmpne | .vcmplt | .vcmple | .vrsum | .vrmax | .vrmin => isInt f.ty || isFlt f.ty
  | .vfma | .vexp | .vrcp | .vrsqrt | .vtanh | .vgelu | .vstat => isFlt f.ty
  | .vshl | .vshr | .vsra => isInt f.ty
  | .vand | .vor | .vxor | .vbcast | .vperm | .vshuf | .vrot | .vins | .vext | .vmov | .vsplat => isLane f.ty
  | .vcvt => isLane f.ty && isLane (f.imm8.setWidth 4)
  | .vpackmx => decide (8 ≤ f.ty.toNat) && decide (f.ty.toNat ≤ 13)
  | .kand | .kor | .kxor | .knot | .vstrd | .vstclr => true

/-- May the sat bit be 1 (R138)? -/
def vSatOk (o : VOp) (f : VF) : Bool :=
  match o with
  | .vadd | .vsub | .vmul | .vabs | .vneg | .vshl => isInt f.ty
  | .vcvt => isInt f.ty && isInt (f.imm8.setWidth 4) && decide (f.ty.toNat < (f.imm8.setWidth 4).toNat)
  | _ => false

/-- The other value rules of the V entries (code 0x03). -/
def vValueOk (o : VOp) (f : VF) : Bool :=
  let maskOk := f.mask.getLsbD 3 || f.mask == 0
  maskOk && (!f.sat || vSatOk o f) && vTypeOk o f &&
    match o with
    | .vsel => f.mask.getLsbD 3 && !f.z
    | .vcmpeq | .vcmpne | .vcmplt | .vcmple => decide (f.d.toNat < 8)
    | .kand | .kor | .kxor => decide (f.d.toNat < 8) && decide (f.a.toNat < 8) && decide (f.b.toNat < 8)
    | .knot => decide (f.d.toNat < 8) && decide (f.a.toNat < 8)
    | .vrsum | .vrmax | .vrmin => !f.z
    | .vstrd | .vpackmx => decide (f.imm6.toNat < 2)
    | .vcvt =>
      let ns := lanesOf (f.imm8.toNat % 16)
      let nd := lanesOf f.ty.toNat
      let lim := if nd > ns then nd / ns else if nd < ns then ns / nd else 1
      decide (f.imm8.toNat < 16) && decide (f.imm6.toNat < lim)
    | _ => true

/-- Does the type pair belong to a group of R184? -/
def tPairOk (ta tb : BitVec 4) : Bool :=
  let a := ta.toNat
  let b := tb.toNat
  (a == b && (a == 0 || a == 1 || a == 6 || a == 8 || a == 13)) ||
    ((a == 4 || a == 5) && (b == 4 || b == 5)) || (decide (9 ≤ a) && decide (a ≤ 12) && decide (9 ≤ b) && decide (b ≤ 12))

/-- Is the type one of the microscaling formats? -/
def isMx (ty : BitVec 4) : Bool := decide (8 ≤ ty.toNat) && decide (ty.toNat ≤ 13)

/-- The parts of a tmov (R188): how many parts the pair of types has, 0 where the pair is not accepted. -/
def tmovParts (ta tb : BitVec 4) : Nat :=
  match ta.toNat, tb.toNat with
  | 3, 1 => 1 | 3, 2 => 2 | 3, 3 => 4
  | 7, 1 => 1 | 7, 4 => 1 | 7, 5 => 1 | 7, 2 => 2 | 7, 6 => 2 | 7, 7 => 4
  | _, _ => 0

def tUnused (o : TOp) (f : TF) : Bool :=
  match o with
  | .tlda | .tldsc =>
    f.ta == 0 && f.tb == 0 && f.acc == 0 && f.a == 0 && f.b == 0 && f.c == 0 && f.imm6 == 0
  | .tldb => f.ta == 0 && f.tb == 0 && f.acc == 0 && f.a == 0 && f.b == 0 && f.c == 0 && f.imm5 == 0
  | .tmac | .tmacz => f.s == 0
  | .tmov => f.b == 0 && f.c == 0
  | .tclr => f.ta == 0 && f.tb == 0 && f.a == 0 && f.b == 0 && f.c == 0 && f.s == 0 && f.imm6 == 0

def tValueOk (o : TOp) (f : TF) : Bool :=
  match o with
  | .tlda | .tldsc => decide (f.imm5.toNat < 2)
  | .tldb => true
  | .tmac | .tmacz =>
    tPairOk f.ta f.tb && decide (f.imm6.toNat < 32) && decide (f.imm5.toNat < 4) &&
      (isMx f.ta || f.c == 0) && (!f.imm5.getLsbD 1 || (f.a == 0 && f.b == 0))
  | .tmov => decide (f.imm6.toNat < tmovParts f.ta f.tb)
  | .tclr => decide (f.imm5.toNat < 2) && (!f.imm5.getLsbD 0 || f.acc == 0)

def qUnused (o : QOp) (f : TF) : Bool :=
  let z := f.tb == 0 && f.acc == 0 && f.b == 0 && f.c == 0
  match o with
  | .qld | .cbind | .dseg | .dclose => z && f.ta == 0 && f.a == 0 && f.imm6 == 0 && f.imm5 == 0
  | .qwt | .tkins => z && f.ta == 0 && f.s == 0 && f.imm6 == 0
  | .msim => z && f.a == 0 && f.imm6 == 0 && f.imm5 == 0
  | .tkrd => z && f.ta == 0
  | .tkclr => z && f.ta == 0 && f.a == 0 && f.s == 0 && f.imm6 == 0
  | .tkcfg => z && f.ta == 0 && f.a == 0 && f.imm6 == 0

def qValueOk (o : QOp) (f : TF) : Bool :=
  match o with
  | .qwt => decide (f.imm5.toNat < 3)
  | .msim => f.ta == 14 || f.ta == 15
  | .tkins => decide (f.imm5.toNat < 8)
  | .tkrd => decide (f.imm6.toNat < 4) && decide (f.imm5.toNat < 8) && (f.imm6 == 0 || f.s == 0)
  | .tkclr => decide (f.imm5.toNat < 16)
  | .tkcfg => !f.imm5.getLsbD 3 && (!f.imm5.getLsbD 4 || f.s == 0)
  | _ => true

/-- Does a store-like operation of this width take its data from a vector register? -/
def MF.vecData (f : MF) : Bool := f.w == 4

def mUnused (o : MOp) (f : MF) : Bool :=
  match o with
  | .ld | .vld | .tsld | .rld => f.b == 0 && f.v == 0 && f.mt == 0
  | .st => f.d == 0 && f.v == 0 && f.mt == 0
  | .vst | .rredTopk => f.d == 0 && f.b == 0 && f.mt == 0
  | .tsst => f.d == 0 && f.b == 0
  | .bmov | .hmov | .hxfer => f.v == 0
  | .mwait => f.d == 0 && f.a == 0 && f.b == 0 && f.v == 0 && f.mt == 0
  | .rst | .rredAdd | .rredMax | .rredMin | .rredFadd =>
    f.d == 0 && f.mt == 0 && (if f.vecData then f.b == 0 else f.v == 0)
  | .radd | .rmax | .rmin | .rxchg | .rcas | .rfadd => f.v == 0 && f.mt == 0
  | .mcst => f.d == 0 && f.mt == 0
  | .fence => f.d == 0 && f.a == 0 && f.v == 0 && f.mt == 0 && f.imm == 0
  | .wflag => f.d == 0 && f.v == 0 && f.mt == 0
  | .nistat => f.a == 0 && f.b == 0 && f.v == 0 && f.mt == 0

def mValueOk (o : MOp) (f : MF) : Bool :=
  let w := f.w.toNat
  let widthOk := match o with
    | .ld | .st => decide (w ≤ 3)
    | .vld | .vst | .tsld | .tsst | .rredTopk => decide (w = 4)
    | .bmov | .hmov | .mwait | .fence | .hxfer | .nistat => decide (w = 0)
    | .rld | .rst | .mcst => decide (w ≤ 4)
    | .radd | .rmax | .rmin | .rxchg | .rcas | .wflag => decide (w = 2 ∨ w = 3)
    | .rfadd => decide (w = 2)
    | .rredAdd | .rredMax | .rredMin => decide (w = 2 ∨ w = 3 ∨ w = 4)
    | .rredFadd => decide (w = 2 ∨ w = 4)
  let flagOk := match o with
    | .rld => !f.dg && !f.bo
    | .rst | .radd | .rmax | .rmin | .rxchg | .rcas | .rfadd => true
    | .rredAdd | .rredMax | .rredMin | .rredFadd | .rredTopk | .mcst => !f.bo
    | _ => !f.af && !f.dg && !f.bo
  widthOk && flagOk &&
    match o with
    | .mwait => decide (f.imm.toNat < 256)
    | .nistat => decide (f.imm.toNat < 5)
    | _ => true

def sUnused (x : SOp) : Bool :=
  match x with
  | .alu .clz _ _ b | .alu .popc _ _ b => b == 0
  | _ => true

def sValueOk (x : SOp) : Bool :=
  match x with
  | .alui o _ _ imm => !o.isShift || decide (imm.toNat < 64)
  | .rdcr _ sel | .rdhw _ sel => decide (sel.toNat < 16)
  | .rdgtc _ sel | .evt sel => decide (sel.toNat < 2)
  | _ => true

/-- The lowest code of R144 that one slot's operation breaks by its own fields; none where it keeps them all. -/
def SlotOp.breach : SlotOp → Option Nat
  | .s x => if !sUnused x then some 2 else if !sValueOk x then some 3 else none
  | .v o f => if !vUnused o f then some 2 else if !vValueOk o f then some 3 else none
  | .t o f => if !tUnused o f then some 2 else if !tValueOk o f then some 3 else none
  | .q o f => if !qUnused o f then some 2 else if !qValueOk o f then some 3 else none
  | .m o f => if !mUnused o f then some 2 else if !mValueOk o f then some 3 else none

/-! ### Destinations and bundles (codes 0x04 and 0x05) -/

def destS (d : R5) : List Dest := if d == 0 then [] else [.s d]

/-- The registers a scalar operation writes; s0 is never a destination (R81). -/
def SOp.dests : SOp → List Dest
  | .alu _ d _ _ | .alui _ d _ _ | .sliw d _ | .slih d _ | .jal d _ | .lcnt d | .rdcr d _ | .rdgtc d _
  | .rdhw d _ => destS d
  | _ => []

/-- The registers a vector operation writes. -/
def vDests (o : VOp) (f : VF) : List Dest :=
  match o with
  | .vcmpeq | .vcmpne | .vcmplt | .vcmple | .kand | .kor | .kxor | .knot => [.k (f.d.setWidth 3)]
  | .vext => destS f.d
  | .vpackmx => .v f.d :: destS f.s
  | .vstat | .vstclr => []
  | _ => [.v f.d]

/-- The registers and accumulators a tensor operation writes. -/
def tDests (o : TOp) (f : TF) : List Dest :=
  match o with
  | .tmac | .tmacz => [.acc f.acc]
  | .tmov => [.v f.a]
  | .tclr => if f.imm5.getLsbD 0 then (upto 8).map fun i => .acc (BitVec.ofNat 3 i) else [.acc f.acc]
  | _ => []

/-- The register an M-slot operation writes. -/
def mDests (o : MOp) (f : MF) : List Dest :=
  match o with
  | .ld | .nistat | .radd | .rmax | .rmin | .rxchg | .rcas | .rfadd => destS f.d
  | .vld | .tsld => [.v f.d]
  | .rld => if f.w == 4 then [.v f.d] else destS f.d
  | _ => []

/-- The destinations that R144 code 0x04 compares. -/
def SlotOp.dests : SlotOp → List Dest
  | .s x => x.dests
  | .v o f => vDests o f
  | .t o f => tDests o f
  | .q o f => if o = .tkrd then [.v f.a] else []
  | .m o f => mDests o f

/-- The slot of an operation: 0 S, 1 V, 2 T, 3 M. -/
def SlotOp.slot : SlotOp → Nat
  | .s _ => 0
  | .v .. => 1
  | .t .. => 2
  | .q .. => 2
  | .m .. => 3

/-- Is the operation bwait or end? -/
def SlotOp.alone : SlotOp → Bool
  | .s (.bwait _) => true
  | .s .stop => true
  | _ => false

/-- The lowest code among 0x02 to 0x05 that a bundle of these operations breaks. -/
def bundleBreach (ops : List SlotOp) (idle : Nat) : Option Nat :=
  if ops.any fun o => o.breach == some 2 then some 2
  else if ops.any fun o => o.breach == some 3 then some 3
  else if !decide (ops.flatMap SlotOp.dests).Nodup then some 4
  else if (ops.any SlotOp.alone) && (decide (ops.length ≠ 1) || decide (idle ≠ 0)) then some 5
  else none

/-! ### The checks made at loading (R144) -/

/-- A bundle as loading reads it: its operations and idle count, or the lowest code that its bits break. -/
def decodeBundle (b : Nat) : Nat ⊕ (List SlotOp × Nat) :=
  let hdr := natBits b 0 16
  let raw := [natBits b 16 48, natBits b 64 64, natBits b 128 64, natBits b 192 64]
  let valid := [natBit hdr 0, natBit hdr 1, natBit hdr 2, natBit hdr 3]
  let dec : Nat → Nat → Option SlotOp := fun slot w =>
    match slot with
    | 0 => (sDecode w).map SlotOp.s
    | 1 => vDecode w
    | 2 => tDecode w
    | _ => mDecode w
  let slots := (upto 4).filterMap fun i =>
    if valid.getD i false then some (i, raw.getD i 0) else none
  if slots.any fun p => (dec p.1 p.2).isNone then .inl 1
  else
    let ops := slots.filterMap fun p => dec p.1 p.2
    let clean := slots.all fun p => (dec p.1 p.2).any fun o => o.word == p.2
    let empty := (upto 4).all fun i => valid.getD i false || raw.getD i 0 == 0
    if natBits hdr 4 4 ≠ 0 ∨ natBits hdr 12 4 ≠ 0 ∨ !clean ∨ !empty then
      .inl 2
    else
      match bundleBreach ops (natBits hdr 8 4) with
      | some c => .inl c
      | none => .inr (ops, natBits hdr 8 4)

/-- The scalar operation of a bundle, if any. -/
def sOf (ops : List SlotOp) : Option SOp :=
  ops.findSome? fun o => match o with
    | .s x => some x
    | _ => none

/-- Is it an SB instruction or jr? -/
def SOp.isBranch : SOp → Bool
  | .jmp _ | .br .. | .jal .. | .jr _ => true
  | _ => false

/-- The end bundle of a loop instruction. -/
def SOp.loopEnd : SOp → Option Nat
  | .lp _ e | .lpi _ e => some e.toNat
  | _ => none

/-- The static target of an SB instruction. -/
def SOp.target : SOp → Option Nat
  | .jmp t | .br _ _ _ t | .jal _ t => some t.toNat
  | _ => none

/-- The scalar operation in a bundle's S slot, whatever else the bundle breaks. -/
def bundleScalar (b : Nat) : Option SOp := if natBit b 0 then sDecode (natBits b 16 48) else none

/-- The program's scalar operations by bundle index. -/
def scalarsOf (prog : List Nat) : List (Option SOp) := prog.map bundleScalar

/-- The loops of a program: start and end of each body with the loop instruction's index one below the start. -/
def loopsOf (ss : List (Option SOp)) : List (Nat × Nat) :=
  (upto ss.length).filterMap fun i => ((ss.getD i none).bind SOp.loopEnd).map fun e => (i + 1, e)

/-- Code 0x06: the bundle holds a branch, loop or end and stands in a delay bundle of an earlier branch; the breach named is
the branch whose delay bundle it is, where the rule names neither. [DESIGN CHOICE, assumption 30, unsafe] -/
def delayBreach (ss : List (Option SOp)) (i : Nat) : Bool :=
  match ss.getD i none with
  | some x =>
    x.isBranch && ([i + 1, i + 2].any fun j =>
      match ss.getD j none with
      | some y => y.isBranch || y.loopEnd.isSome || y == .stop
      | none => false)
  | none => false

/-- Code 0x07 for the loop instruction at `i` (R144). The spec does not say which bundle a breach names that lies between several:
the model names the loop whose body lies deepest, where nesting passes four, and the loop instruction, where a branch
stands in the last three bundles of its body. [DEDUCED, assumption 30, unsafe] -/
def loopBreach (ss : List (Option SOp)) (i : Nat) : Bool :=
  match (ss.getD i none).bind SOp.loopEnd with
  | none => false
  | some e =>
    let st := i + 1
    let ls := loopsOf ss
    decide (e < st) || decide (e ≥ ss.length) ||
      -- bodies nest or are disjoint, with different end bundles
      (ls.any fun (st', e') => decide (st' ≠ st) &&
        (decide (e' = e) || (decide (st < st') && decide (st' ≤ e) && decide (e < e')))) ||
      -- nesting depth
      decide ((ls.filter fun (st', e') => decide (st' ≤ st) && decide (e ≤ e')).length > 4) ||
      -- the last three bundles hold no SB or jr
      ((upto 3).any fun k => decide (st + k ≤ e) && (match ss.getD (e - k) none with
        | some y => y.isBranch
        | none => false))

/-- The lowest code that bundle `i` of a program breaks (R144). -/
def bundleCode (prog : List Nat) (i : Nat) : Option Nat :=
  match decodeBundle (prog.getD i 0) with
  | .inl c => some c
  | .inr (ops, _) =>
    let ss := scalarsOf prog
    if delayBreach ss i then some 6
    else if loopBreach ss i then some 7
    else match (sOf ops).bind SOp.target with
      | some t => if t < prog.length then none else some 8
      | none => none

/-- The first breach of R144 in a program of these 256-bit bundles: its bundle index and code. [DEDUCED, assumption 30, unsafe] -/
def progBreach (prog : List Nat) : Option (Nat × Nat) :=
  (upto prog.length).findSome? fun i => (bundleCode prog i).map fun c => (i, c)

end Sys2Proof
end

