-- ==== Sys2Proof/Machine/Num.lean ====
section
/-! DEFINITION. The number formats and their arithmetic (R100 to R123). -/

namespace Sys2Proof.Machine

/-- A floating value as its bits read: a NaN, an infinity, or sign times `m` times 2 to the `e`. -/
inductive FV where
  | nan
  | inf (neg : Bool)
  | fin (neg : Bool) (m : Nat) (e : Int)
  deriving DecidableEq, Repr

/-- How a format uses its largest exponent field (R104). -/
inductive Special where
  | ieee      -- infinity and NaN
  | e4m3      -- NaN only, with every other pattern a number
  | none      -- every pattern a number
  deriving DecidableEq, Repr

/-- A floating format of R104. -/
structure Fmt where
  eb : Nat
  mb : Nat
  bias : Nat
  special : Special
  flush : Bool
  deriving DecidableEq, Repr

def fmtF32 : Fmt := ⟨8, 23, 127, .ieee, true⟩
def fmtBf16 : Fmt := ⟨8, 7, 127, .ieee, true⟩
def fmtE4M3 : Fmt := ⟨4, 3, 7, .e4m3, false⟩
def fmtE5M2 : Fmt := ⟨5, 2, 15, .ieee, false⟩
def fmtE2M3 : Fmt := ⟨2, 3, 1, .none, false⟩
def fmtE3M2 : Fmt := ⟨3, 2, 3, .none, false⟩
def fmtE2M1 : Fmt := ⟨2, 1, 1, .none, false⟩

/-- The sign bit's position. -/
def Fmt.signPos (f : Fmt) : Nat := f.eb + f.mb

/-- The value a bit pattern holds (R104), subnormal fp32 and bf16 patterns read as zero of their sign (R106). -/
def fdec (f : Fmt) (bits : Nat) : FV :=
  let frac := natBits bits 0 f.mb
  let ex := natBits bits f.mb f.eb
  let neg := natBit bits f.signPos
  let top := 2 ^ f.eb - 1
  let num : FV :=
    if ex = 0 then
      (if f.flush then .fin neg 0 0 else .fin neg frac (1 - (f.bias : Int) - f.mb))
    else .fin neg (2 ^ f.mb + frac) ((ex : Int) - f.bias - f.mb)
  match f.special with
  | .ieee => if ex = top then (if frac = 0 then .inf neg else .nan) else num
  | .e4m3 => if ex = top ∧ frac = 2 ^ f.mb - 1 then .nan else num
  | .none => num

/-- The positive canonical NaN of the format (R105). -/
def fnan (f : Fmt) : Nat :=
  match f.special with
  | .ieee => (2 ^ f.eb - 1) * 2 ^ f.mb + 2 ^ (f.mb - 1)
  | .e4m3 => 2 ^ (f.eb + f.mb) - 1
  | .none => 0

/-- Infinity of the sign. -/
def finf (f : Fmt) (neg : Bool) : Nat :=
  boolNat neg * 2 ^ f.signPos + (2 ^ f.eb - 1) * 2 ^ f.mb

/-- The largest finite magnitude's bits, without the sign (R104). -/
def fmaxBits (f : Fmt) : Nat :=
  match f.special with
  | .ieee => (2 ^ f.eb - 2) * 2 ^ f.mb + (2 ^ f.mb - 1)
  | .e4m3 => 2 ^ (f.eb + f.mb) - 2
  | .none => 2 ^ (f.eb + f.mb) - 1

/-- The exponent of the largest binary power not above `num / den`. -/
def ilog (num den : Nat) : Int :=
  let k : Int := (Nat.log2 num : Int) - Nat.log2 den
  let le : Bool :=
    if k ≥ 0 then decide (den * 2 ^ k.toNat ≤ num) else decide (den ≤ num * 2 ^ (-k).toNat)
  if le then k else k - 1

/-- `num / den` rounded to the nearest integer, ties to even. -/
def rneDiv (num den : Nat) : Nat :=
  let q := num / den
  let r := num % den
  if 2 * r < den then q else if 2 * r > den then q + 1 else if q % 2 = 0 then q else q + 1

/-- `num / den` over 2 to the `q`, rounded to the nearest integer, ties to even. -/
def rneScaled (num den : Nat) (q : Int) : Nat :=
  if q ≥ 0 then rneDiv num (den * 2 ^ q.toNat) else rneDiv (num * 2 ^ (-q).toNat) den

/-- What an overflowing finite result becomes (R107, R111, R112). -/
inductive Over where
  | toInf
  | saturate
  deriving DecidableEq, Repr

/-- The exact value `± num / den` rounded once to the format, nearest with ties to even (R107). A magnitude rounded
below the smallest normal is flushed in fp32 and bf16 (R106) and kept as a subnormal elsewhere. [DEDUCED, assumption 27, unsafe] -/
def fround (f : Fmt) (ov : Over) (neg : Bool) (num den : Nat) : Nat :=
  let sgn := boolNat neg * 2 ^ f.signPos
  if num = 0 then sgn
  else
    let k := ilog num den
    let emin : Int := 1 - f.bias
    let q : Int := if f.flush then k - f.mb else max (k - f.mb) (emin - f.mb)
    let n := rneScaled num den q
    -- the rounded magnitude is n * 2^q, with n at most 2^(mb+1)
    let n' := if n = 2 ^ (f.mb + 1) then 2 ^ f.mb else n
    let q' := if n = 2 ^ (f.mb + 1) then q + 1 else q
    if n' < 2 ^ f.mb then sgn + n'   -- a subnormal of a format that keeps them
    else
      let ex : Int := q' + f.mb + f.bias
      if ex < 1 then sgn
      else
        let mag := ex.toNat * 2 ^ f.mb + (n' - 2 ^ f.mb)
        if mag > fmaxBits f then
          match ov with
          | .toInf => if f.special = .ieee then finf f neg else sgn + fmaxBits f
          | .saturate => sgn + fmaxBits f
        else sgn + mag

/-- A dyadic value `± m 2^e` rounded once. -/
def froundDy (f : Fmt) (ov : Over) (neg : Bool) (m : Nat) (e : Int) : Nat :=
  if e ≥ 0 then fround f ov neg (m * 2 ^ e.toNat) 1 else fround f ov neg m (2 ^ (-e).toNat)

/-- An exact floating value written in the format, overflow to infinity (R107). -/
def fenc (f : Fmt) (v : FV) : Nat :=
  match v with
  | .nan => fnan f
  | .inf neg => finf f neg
  | .fin neg m e => froundDy f .toInf neg m e

/-- The signed integer numerator of a finite value over 2 to the `e0`, for `e0` at most its exponent. -/
def dyInt (neg : Bool) (m : Nat) (e e0 : Int) : Int :=
  let v : Int := (m * 2 ^ (e - e0).toNat : Nat)
  if neg then -v else v

/-- The exact sum (R107): zero from operands of opposite sign is +0. -/
def fadd (a b : FV) : FV :=
  match a, b with
  | .nan, _ => .nan
  | _, .nan => .nan
  | .inf x, .inf y => if x = y then .inf x else .nan
  | .inf x, .fin .. => .inf x
  | .fin .., .inf y => .inf y
  | .fin n1 m1 e1, .fin n2 m2 e2 =>
    let e0 := min e1 e2
    let t := dyInt n1 m1 e1 e0 + dyInt n2 m2 e2 e0
    if t = 0 then .fin (n1 && n2) 0 0 else .fin (decide (t < 0)) t.natAbs e0

/-- Sign flip. -/
def fneg : FV → FV
  | .nan => .nan
  | .inf n => .inf (!n)
  | .fin n m e => .fin (!n) m e

/-- The exact product. -/
def fmul (a b : FV) : FV :=
  match a, b with
  | .nan, _ => .nan
  | _, .nan => .nan
  | .inf x, .inf y => .inf (x != y)
  | .inf x, .fin y m _ => if m = 0 then .nan else .inf (x != y)
  | .fin x m _, .inf y => if m = 0 then .nan else .inf (x != y)
  | .fin x m1 e1, .fin y m2 e2 => .fin (x != y) (m1 * m2) (e1 + e2)

/-- Is the value zero of either sign? -/
def fzero : FV → Bool
  | .fin _ m _ => m == 0
  | _ => false

/-- Less-than of numbers, a NaN never less; +0 equals -0 (R170). -/
def flt (a b : FV) : Bool :=
  match a, b with
  | .nan, _ => false
  | _, .nan => false
  | .inf x, .inf y => x && !y
  | .inf x, .fin .. => x
  | .fin .., .inf y => !y
  | .fin n1 m1 e1, .fin n2 m2 e2 =>
    let e0 := min e1 e2
    decide (dyInt n1 m1 e1 e0 < dyInt n2 m2 e2 e0)

/-- Equality of numbers, a NaN never equal (R170). -/
def feq (a b : FV) : Bool :=
  match a, b with
  | .nan, _ => false
  | _, .nan => false
  | _, _ => !flt a b && !flt b a

/-- The sign of a value. -/
def fsign : FV → Bool
  | .nan => false
  | .inf n => n
  | .fin n _ _ => n

/-- The order of minimum and maximum, -0 below +0 (R107). -/
def fbelow (a b : FV) : Bool :=
  flt a b || (fzero a && fzero b && fsign a && !fsign b)

/-- Minimum, ignoring one NaN operand (R107). -/
def fmin (a b : FV) : FV :=
  match a, b with
  | .nan, _ => b
  | _, .nan => a
  | _, _ => if fbelow b a then b else a

/-- Maximum, ignoring one NaN operand (R107). -/
def fmax (a b : FV) : FV :=
  match a, b with
  | .nan, _ => b
  | _, .nan => a
  | _, _ => if fbelow a b then b else a

/-- One fp32 addition of stored values (R106, R107). -/
def f32add (a b : Nat) : Nat := fenc fmtF32 (fadd (fdec fmtF32 a) (fdec fmtF32 b))

/-! ### Integers -/

/-- The low `w` bits of `n` as a two's-complement integer (R101). -/
def sInt (w n : Nat) : Int :=
  let x := n % 2 ^ w
  if x < 2 ^ (w - 1) then x else (x : Int) - 2 ^ w

/-- An integer wrapped to `w` bits (R102). -/
def wrapN (w : Nat) (x : Int) : Nat := (x % (2 ^ w : Nat)).toNat

/-- An integer saturated to a signed `w`-bit range and stored (R102). -/
def satN (w : Nat) (x : Int) : Nat :=
  let hi : Int := 2 ^ (w - 1) - 1
  let lo : Int := -(2 ^ (w - 1))
  wrapN w (if x > hi then hi else if x < lo then lo else x)

/-- The nearest integer to `± num / den`, ties to even. -/
def rneInt (neg : Bool) (num den : Nat) : Int :=
  let q : Int := rneDiv num den
  if neg then -q else q

/-- Rounding right shift (R103). -/
def rsh (x : Int) (n : Nat) : Int := rneInt (decide (x < 0)) x.natAbs (2 ^ n)

/-- A floating value rounded to the nearest integer and saturated; NaN gives 0 (R112). -/
def fToInt (w : Nat) (v : FV) : Nat :=
  match v with
  | .nan => 0
  | .inf neg => satN w (if neg then -(2 ^ 64 : Int) else 2 ^ 64)
  | .fin neg m e =>
    if e ≥ 0 then satN w (if neg then -((m * 2 ^ e.toNat : Nat) : Int) else (m * 2 ^ e.toNat : Nat))
    else satN w (rneInt neg m (2 ^ (-e).toNat))

/-- A floating value written as E4M3 or E5M2 by the saturating rules of R112. -/
def fToFp8 (f : Fmt) (v : FV) : Nat :=
  match v with
  | .nan => fnan f
  | .inf neg => if f.special = .ieee then finf f neg else boolNat neg * 2 ^ f.signPos + fmaxBits f
  | .fin neg m e => froundDy f .saturate neg m e

/-- A stored integer as an exact floating value; zero is +0. -/
def intToF (x : Int) : FV := .fin (decide (x < 0)) x.natAbs 0

/-! ### Microscaling blocks (R108 to R111) -/

/-- The element format of an MX type code (R127): its format, or none for MXINT8. -/
def mxFmt (ty : Nat) : Option Fmt :=
  match ty with
  | 8 => some fmtE2M1
  | 9 => some fmtE2M3
  | 10 => some fmtE3M2
  | 11 => some fmtE4M3
  | 12 => some fmtE5M2
  | _ => none

/-- The element width of a type code in bits (R100, R109). -/
def tyWidth (ty : Nat) : Nat :=
  match ty with
  | 0 => 4 | 1 => 8 | 2 => 16 | 3 => 32 | 4 => 8 | 5 => 8 | 6 => 16 | 7 => 32
  | 8 => 4 | 9 => 6 | 10 => 6 | 11 => 8 | 12 => 8 | 13 => 8 | _ => 8

/-- The value of an element of a floating or MX type, without its block scale; an MXINT8 element is read with the
factor 2 to the -6 (R108). -/
def elemVal (ty bits : Nat) : FV :=
  match ty with
  | 4 => fdec fmtE4M3 bits
  | 5 => fdec fmtE5M2 bits
  | 6 => fdec fmtBf16 bits
  | 7 => fdec fmtF32 bits
  | 13 => let x := sInt 8 bits; .fin (decide (x < 0)) x.natAbs (-6)
  | _ => match mxFmt ty with
    | some f => fdec f bits
    | none => .nan

/-- The exponent of the element type's largest normal (R111). -/
def mxEmax (ty : Nat) : Int :=
  match ty with
  | 8 => 2 | 9 => 2 | 10 => 4 | 11 => 8 | 12 => 15 | _ => 0

/-- Elements packed little-endian at `w` bits each (R109). -/
def packBits (w : Nat) : List Nat → Nat
  | [] => 0
  | x :: rest => x % 2 ^ w + 2 ^ w * packBits w rest

/-- One fp32 lane scaled by 2 to the `-e` and written as an element (R111). -/
def mxElem (ty : Nat) (e : Int) (v : FV) : Nat :=
  match v with
  | .fin neg m ex =>
    match mxFmt ty with
    | some f => froundDy f .saturate neg m (ex - e)
    | none =>
      let k : Int := ex - e + 6
      let r : Int := if k ≥ 0 then (if neg then -((m * 2 ^ k.toNat : Nat) : Int) else (m * 2 ^ k.toNat : Nat))
                     else rneInt neg m (2 ^ (-k).toNat)
      wrapN 8 (if r > 127 then 127 else if r < -127 then -127 else r)
  | _ => 0

/-- The larger magnitude of two finite values given as mantissa and exponent. -/
def magMax (a b : Nat × Int) : Nat × Int :=
  let e0 := min a.2 b.2
  if a.1 * 2 ^ (a.2 - e0).toNat < b.1 * 2 ^ (b.2 - e0).toNat then b else a

/-- Is the value a NaN or an infinity? -/
def fspecial : FV → Bool
  | .fin .. => false
  | _ => true

/-- 32 fp32 lanes converted into one MX block: the packed elements and the scale byte (R111). -/
def mxPack (ty : Nat) (xs : List FV) : Nat × Nat :=
  if xs.any fspecial then (0, 0xFF)
  else
    let amax := xs.foldl (fun acc v => match v with | .fin _ m e => magMax acc (m, e) | _ => acc) (0, 0)
    if amax.1 = 0 then (0, 0)
    else
      let lg : Int := (Nat.log2 amax.1 : Int) + amax.2
      let e0 := lg - mxEmax ty
      let e := if e0 < -127 then -127 else if e0 > 127 then 127 else e0
      (packBits (tyWidth ty) (xs.map (mxElem ty e)), (e + 127).toNat)

/-! ### Special functions (R174)

A result is computed as an exact rational bracketed far more finely than any rounding boundary of fp32 (fixed point of
`sfBits` fraction bits), then rounded once. -/

/-- Fraction bits of the evaluation. -/
def sfBits : Nat := 640

/-- The Taylor sum of e^y in fixed point: `acc` the sum so far, `term` the last term, `k` the next index. -/
def expTaylor (y : Int) : Nat → Int → Int → Nat → Int
  | 0, acc, _, _ => acc
  | fuel + 1, acc, term, k =>
    let t := term * y / (2 ^ sfBits : Nat) / (k : Int)
    expTaylor y fuel (acc + t) t (k + 1)

/-- Repeated squaring in fixed point. -/
def sqrTimes : Nat → Int → Int
  | 0, v => v
  | n + 1, v => sqrTimes n (v * v / (2 ^ sfBits : Nat))

/-- e to the `num / den` in fixed point with `sfBits` fraction bits. -/
def expFix (num : Int) (den : Nat) : Int :=
  let y : Int := num * (2 ^ sfBits : Nat) / ((den * 2 ^ 10 : Nat) : Int)
  sqrTimes 10 (expTaylor y 100 (2 ^ sfBits : Nat) (2 ^ sfBits : Nat) 1)

/-- A finite value as a signed numerator over a power of two. -/
def fRat (neg : Bool) (m : Nat) (e : Int) : Int × Nat :=
  let v : Int := if e ≥ 0 then (m * 2 ^ e.toNat : Nat) else m
  (if neg then -v else v, if e ≥ 0 then 1 else 2 ^ (-e).toNat)

/-- The integer square root by bisection on bits: `r` the root of the bits done. -/
def isqrtGo : Nat → Nat → Nat → Nat
  | 0, _, r => r
  | b + 1, n, r =>
    let c := r + 2 ^ b
    isqrtGo b n (if c * c ≤ n then c else r)

/-- The integer square root. -/
def isqrt (n : Nat) : Nat := isqrtGo (Nat.log2 n / 2 + 1) n 0

/-- vexp of one value (R174). [UNVERIFIED, assumption 26, unsafe] -/
def sfExp (f : Fmt) (v : FV) : Nat :=
  match v with
  | .nan => fnan f
  | .inf neg => if neg then 0 else finf f false
  | .fin neg m e =>
    let (n, d) := fRat neg m e
    if n * 100 > 8872 * (d : Int) then finf f false
    else if n * 100 < -8734 * (d : Int) then 0
    else fround f .toInf false (expFix n d).toNat (2 ^ sfBits)

/-- vrcp of one value. -/
def sfRcp (f : Fmt) (v : FV) : Nat :=
  match v with
  | .nan => fnan f
  | .inf neg => boolNat neg * 2 ^ f.signPos
  | .fin neg m e =>
    if m = 0 then finf f neg
    else if e ≥ 0 then fround f .toInf neg 1 (m * 2 ^ e.toNat) else fround f .toInf neg (2 ^ (-e).toNat) m

/-- vrsqrt of one value: the root is taken with 200 extra bits, which settle every rounding, since the reciprocal root
of a 24-bit value is never that close to a rounding boundary without meeting it. -/
def sfRsqrt (f : Fmt) (v : FV) : Nat :=
  match v with
  | .nan => fnan f
  | .inf neg => if neg then fnan f else 0
  | .fin neg m e =>
    if m = 0 then finf f false
    else if neg then fnan f
    else
      -- 1/sqrt(m 2^e) = sqrt(2^(2p-e') / m) / 2^p, with e = 2h + b
      let b := (e % 2).toNat
      let h : Int := (e - b) / 2
      let r := isqrt (2 ^ 800 / (m * 2 ^ b))     -- about 2^400 / sqrt(m 2^b)
      let x := r * 2 + boolNat (decide (r * r * (m * 2 ^ b) ≠ 2 ^ 800))
      -- value = x 2^-401 2^-h
      if h ≥ 0 then fround f .toInf false x (2 ^ 401 * 2 ^ h.toNat)
      else fround f .toInf false (x * 2 ^ (-h).toNat) (2 ^ 401)

/-- vtanh of one value. [UNVERIFIED, assumption 26, unsafe] -/
def sfTanh (f : Fmt) (v : FV) : Nat :=
  match v with
  | .nan => fnan f
  | .inf neg => fenc f (.fin neg 1 0)
  | .fin neg m e =>
    if m = 0 then boolNat neg * 2 ^ f.signPos
    else
      let (n, d) := fRat false m e
      if n ≥ 9 * (d : Int) then fenc f (.fin neg 1 0)
      else
        let t := (expFix (2 * n) d).toNat
        let den := t + 2 ^ sfBits
        -- for a magnitude below 2^-100 the rounded result is the input itself
        if n * (2 ^ 100 : Nat) < d then fenc f (.fin neg m e)
        else fround f .toInf neg (t - 2 ^ sfBits) den

/-- vgelu of one value: 0.5 x (1 + tanh u) is x / (1 + e^(-2u)), with u = 0.797885 (x + 0.044715 x^3);
a zero keeps its sign. [UNVERIFIED, assumption 26, unsafe] -/
def sfGelu (f : Fmt) (v : FV) : Nat :=
  match v with
  | .nan => fnan f
  | .inf neg => if neg then 2 ^ f.signPos else finf f false
  | .fin neg m e =>
    let (n, d) := fRat neg m e
    if n ≥ 10 * (d : Int) then fenc f v
    else if n ≤ -10 * (d : Int) then 2 ^ f.signPos
    else if m = 0 then boolNat neg * 2 ^ f.signPos
    else
      -- 2u = 2 * 797885/10^6 * (n/d + 44715/10^6 * n^3/d^3)
      let un : Int := 2 * 797885 * (n * (d : Int) ^ 2 * 1000000 + 44715 * n ^ 3)
      let ud : Nat := 1000000 * 1000000 * d ^ 3
      let t := (expFix (-un) ud).toNat
      fround f .toInf neg (n.natAbs * 2 ^ sfBits) (d * (2 ^ sfBits + t))

end Sys2Proof.Machine
end

