-- ==== Sys2Proof/Machine/Operands.lean ====
section
/-! DEFINITION. Operands of the core: register reads and the writes that later cycles make (R81, R88), lanes, masks
(R128) and effective addresses (R203). -/

namespace Sys2Proof.Machine

/-- A scalar register; s0 reads zero (R81). -/
def CoreSt.sr (c : CoreSt) (r : R5) : Word := if r = 0 then 0 else sget 0 c.s r.toNat
/-- A vector register. -/
def CoreSt.vr (c : CoreSt) (r : R5) : Vec := sget 0 c.v r.toNat
/-- A predicate register. -/
def CoreSt.kr (c : CoreSt) (r : BitVec 3) : Word := sget 0 c.k r.toNat

/-- Write a register now; a write to s0 is discarded (R81). -/
def CoreSt.put (c : CoreSt) (d : Dest) (v : BitVec 65536) : CoreSt :=
  match d with
  | .s r => if r = 0 then c else { c with s := sset 0 c.s r.toNat (v.setWidth 64) }
  | .v r => { c with v := sset 0 c.v r.toNat (v.setWidth 512) }
  | .k r => { c with k := sset 0 c.k r.toNat (v.setWidth 64) }
  | .acc r => { c with accVis := sset 0 c.accVis r.toNat v }

/-- Insert a result among those on their way, after every result due no later (R88: of two writes in one cycle the
later-issued bundle's remains). [DEDUCED, assumption 18, unsafe] -/
def pendInsert (p : Pend) : List Pend → List Pend
  | [] => [p]
  | q :: rest => if p.due < q.due then p :: q :: rest else q :: pendInsert p rest

/-- A result of latency `l` from the bundle now issuing. [DEDUCED, assumption 18, unsafe] -/
def CoreSt.push (c : CoreSt) (l : Nat) (d : Dest) (v : BitVec 65536) : CoreSt :=
  { c with pend := pendInsert ⟨c.cycle + l, d, v⟩ c.pend }

/-- Write the results of a list, in its order. -/
def CoreSt.putAll (c : CoreSt) (ps : List Pend) : CoreSt := ps.foldl (fun d p => d.put p.dest p.val) c

/-- The core with the results due by the present cycle written, earliest first. [DEDUCED, assumption 18, unsafe] -/
def CoreSt.settle (c : CoreSt) : CoreSt :=
  { c.putAll (c.pend.filter fun p => decide (p.due ≤ c.cycle)) with
    pend := c.pend.filter fun p => decide (c.cycle < p.due) }

/-- A scalar result. -/
def CoreSt.pushS (c : CoreSt) (l : Nat) (d : R5) (v : Word) : CoreSt :=
  if d = 0 then c else c.push l (.s d) (v.setWidth 65536)
/-- A vector result. -/
def CoreSt.pushV (c : CoreSt) (l : Nat) (d : R5) (v : Vec) : CoreSt := c.push l (.v d) (v.setWidth 65536)
/-- A predicate result. -/
def CoreSt.pushK (c : CoreSt) (l : Nat) (d : BitVec 3) (v : Word) : CoreSt := c.push l (.k d) (v.setWidth 65536)

/-! ### Lanes -/

/-- Lane `i` of width `w` bits. -/
def lane (w : Nat) (v : Vec) (i : Nat) : Nat := natBits v.toNat (w * i) w

/-- The vector of these lanes. -/
def ofLanes (w : Nat) (xs : List Nat) : Vec := BitVec.ofNat 512 (packBits w xs)

/-- The vector whose lane `i` is `f i`. -/
def mkLanes (w : Nat) (f : Nat → Nat) : Vec := ofLanes w ((upto (512 / w)).map f)

/-- Does the mask admit lane `i` of width `w` (R81, R128)? Wider lanes use the lowest bit of their group. -/
def admits (c : CoreSt) (mask : BitVec 4) (w i : Nat) : Bool :=
  if mask.getLsbD 3 then (c.kr (mask.setWidth 3)).getLsbD (w / 8 * i) else true

/-- The written vector under mask and zero bit (R128): a lane masked off keeps the value the register held at issue. [DEDUCED, assumption 19, safe] -/
def masked (c : CoreSt) (f : VF) (w : Nat) (r : Vec) : Vec :=
  mkLanes w fun i => if admits c f.mask w i then lane w r i else if f.z then 0 else lane w (c.vr f.d) i

/-! ### Addresses -/

/-- The effective address: `sa` plus the sign-extended immediate, modulo 2^64 (R203). -/
def ea (c : CoreSt) (f : MF) : Word := c.sr f.a + f.imm.signExtend 64

/-- The bytes a width code moves (R204). -/
def wBytes (w : BitVec 3) : Nat := if w = 4 then 64 else 2 ^ w.toNat

end Sys2Proof.Machine
end

