-- ==== Sys2Proof/Machine/Crossing.lean ====
section
/-! DEFINITION. A core's way to the crossbar and the clock of its region: the row-bus link and the crossing FIFOs (R74, R78,
R79), the suppression patterns of a throttled half (R80), and droop (R447). -/

namespace Sys2Proof.Machine

/-- Occupancy `n` of a crossing FIFO against its marks: at 12 entries the sending side stalls, until 8 are left (R78). -/
def highAfter (high : Bool) (n : Nat) : Bool := if high then decide (8 < n) else decide (12 ≤ n)

/-- The entries `es` a core's link brings enter the FIFO one by one, as long as it has not signalled high water; those left
behind are counted, and so is a high-water stall. -/
def Region.enter (f : Region) : List (Nat × Nat) → Nat × Region
  | [] => (0, f)
  | g :: es =>
    if f.outHigh then (es.length + 1, f)
    else
      let h := highAfter false (f.out.length + 1)
      Region.enter { f with out := f.out ++ [g], outHigh := h, events := if h then min (f.events + 1) 0xFFFF else f.events } es

/-- The crossbar has taken `n` entries of the FIFO. -/
def Region.drain (f : Region) (n : Nat) : Region :=
  { f with out := f.out.drop n, outHigh := highAfter f.outHigh (f.out.drop n).length }

/-- The key of the region of core `g`'s row, and of its die's crossbar. -/
def rowRegion (g : Nat) : Nat := 9 * towerOf g + rowOf g
def barRegion (g : Nat) : Nat := 9 * towerOf g + 8

/-- The key of an entry that is no request of a core's own: data that another's request takes from its memories. -/
def otherKey : Nat := 2 ^ 32

/-- An entry comes into the FIFO into the row, for core `who` or, with 12288, for no core's own request. Where one event brings more
entries than the FIFO holds, the row has taken the first of them meanwhile. -/
def Region.receive (f : Region) (who : Nat) : Region :=
  let inn := f.inn.drop (f.inn.length - 15) ++ [who]
  { f with inn := inn, inHigh := highAfter f.inHigh inn.length }

/-- An entry comes into core `g`'s row from the crossbar, its own or another's, and a high-water stall that it brings counts (R78). An open
site has no rows. -/
def State.enterRow (s : State) (g : Nat) (own : Bool) : State :=
  if s.openSite (towerOf g) then s
  else
    let f := s.region (rowRegion g)
    let r := f.receive (if own then g else 12288)
    let s1 := s.setRegion (rowRegion g) r
    let b := s1.region (barRegion g)
    if r.inHigh && !f.inHigh then s1.setRegion (barRegion g) { b with events := min (b.events + 1) 0xFFFF } else s1

/-- An entry enters core `g`'s row-bus link on its way out, its own or another's: six cycles on it stands before the crossing FIFO (R74,
R75). -/
def State.leaveRow (s : State) (g : Nat) (own : Bool) : State :=
  let c := s.core g
  if s.openSite (towerOf g) then s else s.setCore g { c with link := c.link ++ [(c.cycle + 7, if own then 0 else otherKey)] }

/-- The crossing FIFOs in a cycle of core `g` (R78): the crossbar has taken entries from the outgoing FIFO and the row from the incoming one,
and what is due in the core's link enters the outgoing FIFO. A core that is not running has no cycles of its own: all that its link holds
is due. -/
def State.cross (s : State) (g : Nat) (x : Around) : State :=
  let c := s.core g
  let f := (s.region (rowRegion g)).drain x.taken
  let isDue := fun (d : Nat × Nat) => !c.running || decide (d.1 ≤ c.cycle)
  let due := c.link.filter isDue
  let r := f.enter (due.map fun d => (g, d.2))
  let inn := f.inn.drop x.inTaken
  (s.setRegion (rowRegion g) { r.2 with inn := inn, inHigh := highAfter f.inHigh inn.length }).setCore g
    { c with link := due.drop (due.length - r.1) ++ c.link.filter fun d => !isDue d }

/-- Does the core's row-bus link hold a request of its own, or a crossing FIFO an entry of its own (R79, R163)? -/
def State.undrained (s : State) (g : Nat) : Bool :=
  let f := s.region (rowRegion g)
  ((s.core g).link.any fun d => d.2 != otherKey) || (f.out.any fun e => e.1 == g && e.2 != otherKey) || f.inn.contains g

/-- The name of one of a core's own packets in its link: 1 and its number and destination; 0 for any other request. -/
def pktKey (dst : BitVec 4) (seq : BitVec 16) : Nat := 1 + dst.toNat + 16 * seq.toNat

/-- Is a core's packet still on its way to the crossbar: in its core's link or its row's crossing FIFO (R78)? -/
def State.crossing (s : State) (p : Pkt) : Bool :=
  let g := p.src.toNat
  let k := pktKey p.dst p.seq
  decide (g < 12288) && (((s.core g).link.any fun d => d.2 == k) || (s.region (rowRegion g)).out.contains (g, k))

/-- Does the crossbar of tower `w`'s die hold what comes from the site link and the tower bus: its 8 cycles of re-centring after the gate are
not over (R79)? A cycle of the crossbar lasts a twelfth of its divider, in ticks. An open site has no crossbar. -/
def State.recentring (s : State) (w : Nat) : Bool :=
  !s.openSite w && (match s.standOfTower w with
    | some i =>
      let x := s.stand i
      let gate := x.copy.start.toNat + x.grid * x.copy.beatLen - 256
      x.gate.isSome && decide (12 * (s.gtc.toNat - gate) < 8 * s.gf (Reg.CLK_SITE_DIV (w / 6) (w % 6)) Fld.CLK_SITE_DIV_div)
    | none => false)

/-- Is traffic into core `g`'s row held: its incoming FIFO at high water (R78), or the crossbar in its re-centring (R79)? An open site has no
rows. -/
def State.inwardHeld (s : State) (g : Nat) : Bool :=
  !s.openSite (towerOf g) && (s.region (rowRegion g)).inHigh || s.recentring (towerOf g)

/-- Is an access from outside to a place held at its die (R78, R79): at the crossbar, at its row's incoming FIFO, or, where it takes data
`back`, by the outgoing one? -/
def State.placeHeld (s : State) (x : Place) (back : Bool) : Bool :=
  match x with
  | .data g _ | .prog g _ => s.inwardHeld g || (back && (s.region (rowRegion g)).outHigh && !s.openSite (towerOf g))
  | .tower w _ => s.recentring w
  | _ => false

/-- An access of a host takes core `g`'s row for many cycles, in which the row and the crossbar go on taking entries: its own enter a FIFO
that keeps below its mark. -/
def State.passRow (s : State) (g : Nat) (back : Bool) : State :=
  if s.openSite (towerOf g) then s
  else
    let f := s.region (rowRegion g)
    let out := f.out.drop (f.out.length - 10)
    s.setRegion (rowRegion g) { f with inn := f.inn.drop (f.inn.length - 10) ++ [12288],
                                       out := if back then out ++ [(12288, otherKey)] else f.out }

/-! ### Nominal cycles (R80, R456) -/

/-- The pattern that PWR_HALF gives a core's half: 0 none, `k` skip-k, 16 divide. -/
def State.halfPattern (s : State) (g : Nat) : Nat :=
  let a := Reg.PWR_HALF (towerOf g / 6) (towerOf g % 6)
  let m := if rowOf g < 4 then s.gf a Fld.PWR_HALF_n_mode else s.gf a Fld.PWR_HALF_s_mode
  let k := if rowOf g < 4 then s.gf a Fld.PWR_HALF_n_k else s.gf a Fld.PWR_HALF_s_k
  if m = 1 then 16 else if m = 2 then k else 0

/-- Is nominal cycle `n` suppressed (R80)? -/
def suppressed (p n : Nat) : Bool :=
  if p = 0 then false else if p = 16 then decide (n % 2 = 1) else decide (n % 16 * p % 16 < p)

/-- The next nominal cycle from `n` that runs, with the pattern in force there: a new pattern `q` takes over at a multiple of 16.
No pattern suppresses 16 cycles in a row. -/
def nextNominal (q : Nat) : Nat → Nat → Nat → Nat × Nat
  | 0, p, n => (p, n)
  | fuel + 1, p, n =>
    let p1 := if n % 16 = 0 then q else p
    if suppressed p1 n then nextNominal q fuel p1 (n + 1) else (p1, n)

/-- The core goes on by `n` of the cycles that its half runs. -/
def CoreSt.clockOn (q : Nat) : Nat → CoreSt → CoreSt
  | 0, c => c
  | n + 1, c =>
    let r := nextNominal q 32 c.pat c.nom
    CoreSt.clockOn q n { c with pat := r.1, nom := r.2 + 1 }

/-! ### Droop (R447) -/

/-- The core-rail voltage of a level in mV (R531). -/
def levelMv (l : Nat) : Nat := [720, 640, 580, 540, 500].getD l 500

/-- The level whose divider the regions of tower `w` are on (R422, R445). -/
def State.divLevel (s : State) (w : Nat) : Nat :=
  let d := s.gf (Reg.CLK_SITE_DIV (w / 6) (w % 6)) Fld.CLK_SITE_DIV_div
  if d = 10 then 0 else if d = 12 then 1 else if d = 15 then 2 else if d = 20 then 3 else 4

/-- How far below the voltage of its level a region's rail of tower `w` lies that stands `mv` millivolts below L0's: the thresholds follow
the divider (R445). -/
def State.sag (s : State) (w mv : Nat) : Nat := mv - (720 - levelMv (s.divLevel w))

/-- A stretched cycle of a region: at its begin the rail lies `mv` millivolts below the level voltage. Each cycle of the region
counts once, whichever of its cores' commands brings it. -/
def Region.stretch (f : Region) (cyc mv : Nat) : Region :=
  if mv ≤ 25 ∨ f.seen = cyc + 1 then f
  else if mv ≤ 45 then { f with mild := min (f.mild + 1) 0xFFFF, seen := cyc + 1 }
  else { f with severe := min (f.severe + 1) 0xFFFF, seen := cyc + 1 }

/-- The droop detectors in a cycle of core `g`: PWR_DROOP of its row's region and of the crossbar's, and the core's counters
38 and 39 (R447, R494). -/
def State.droop (s : State) (g : Nat) (x : Around) : State :=
  let mv := s.sag (towerOf g) x.droop
  let cyc := 2 ^ 20 * (s.stand ((s.standOfTower (towerOf g)).getD 16)).grid + (s.core g).nom
  let s1 := s.setRegion (rowRegion g) ((s.region (rowRegion g)).stretch cyc mv)
  let s2 := s1.setRegion (barRegion g) ((s1.region (barRegion g)).stretch cyc (s.sag (towerOf g) x.xdroop))
  (s2.coreCount g 38 (boolNat (decide (25 < mv ∧ mv ≤ 45)))).coreCount g 39 (boolNat (decide (45 < mv)))

/-- Cycles of a region that were stretched with no bundle of a core to bring them: its cores are idle or have ended, or it is the crossbar's. -/
def State.stretched (s : State) (k mild severe : Nat) : State :=
  let f := s.region k
  s.setRegion k { f with mild := min (f.mild + mild) 0xFFFF, severe := min (f.severe + severe) 0xFFFF }

end Sys2Proof.Machine
end

