-- ==== Sys2Proof/Machine/Ecc.lean ====
section
/-! DEFINITION. Corrected and uncorrectable errors in HBM and tower SRAM, and the repair that they call for (R380, R381,
R384 to R387, R389 to R391). -/

namespace Sys2Proof.Machine

/-- Ticks in 24 hours. -/
def dayTicks : Nat := 86400000000000

/-- Is the 64-byte line of address `a` poisoned (R381)? -/
def State.poisoned (s : State) (a : Nat) : Bool := sget false s.poison (a / 64)

/-- Mark or clear a line's poison. -/
def State.setPoison (s : State) (a : Nat) (b : Bool) : State := { s with poison := sset false s.poison (a / 64) b }

/-! ### HBM -/

/-- The bank key of a stack offset: layer, bank and pseudo-channel (R377), as 2^9·layer + 2^5·bank + pseudo-channel. -/
def hbmBank (o : Nat) : Nat := natBits o 32 4 * 2 ^ 9 + natBits o 11 4 * 2 ^ 5 + natBits o 6 5

/-- The row key of a stack offset: of the bits that R377 gives to row and column together the upper 13 are the row, so that a row holds 16
lines of its bank. [DESIGN CHOICE, assumption 154, unsafe] -/
def hbmRow (o : Nat) : Nat := hbmBank o * 2 ^ 13 + natBits o 19 13

/-- The bank key of a row key. -/
def rowBank (r : Nat) : Nat := r / 2 ^ 13

/-- The bank remaps in force, as (layer, bank key). -/
def State.remaps (s : State) (j : Nat) : List Nat :=
  (upto 32).filterMap fun k =>
    let a := Reg.HBM_REMAP (j / 2) (j % 2) k
    if s.gf a Fld.HBM_REMAP_valid = 1 then
      some (s.gf a Fld.HBM_REMAP_layer * 2 ^ 9 + s.gf a Fld.HBM_REMAP_bank * 2 ^ 5 + s.gf a Fld.HBM_REMAP_pc)
    else none

/-- Begin a background migration (R386). The register shows every line until its end. [DESIGN CHOICE, assumption 138, unsafe] -/
def State.hbmMigrate (s : State) (j : Nat) (layer : Bool) (key : Nat) : State :=
  let x := s.hbmS j
  let m := Reg.HBM_MIGRATE (j / 2) (j % 2)
  (((s.setHbm j { x with migr := some (layer, key) }).sf (Reg.HBM_STATE (j / 2) (j % 2)) Fld.HBM_STATE_migrating 1).sf
    m Fld.HBM_MIGRATE_remaining (if layer then 2 ^ 26 else 2 ^ 17)).sf m Fld.HBM_MIGRATE_kind (boolNat layer)

/-- A bank whose row resources are spent (R385, R387): remapped, mapped out with its layer, or the stack degraded. One migration runs
at a time; a bank that needs one meanwhile waits for its end. A bank that is remapped already gets nothing more, and one that needs its
first remaps while the spare is a whole layer degrades the stack. [DESIGN CHOICE, assumption 155, unsafe] -/
def State.hbmBankRepair (s : State) (j b : Nat) : State :=
  let x := s.hbmS j
  let rs := s.remaps j
  let layer := b / 2 ^ 9
  let sameLayer := rs.filter fun r => r / 2 ^ 9 = layer
  if rs.contains b ∨ x.migr = some (false, b) ∨ x.migr = some (true, layer) then s
  else if x.migr.isSome then (if x.waits.contains b then s else s.setHbm j { x with waits := x.waits ++ [b] })
  else if s.gf (Reg.HBM_SPARE (j / 2) (j % 2)) Fld.HBM_SPARE_layer_used = 1 then s.degradeStack j 3
  else if sameLayer.length ≥ 3 then
    if sameLayer.length = rs.length then s.hbmMigrate j true layer else s.degradeStack j 1
  else if rs.length ≥ 32 then s.degradeStack j 2
  else s.hbmMigrate j false b

/-- Soft post-package repair of a row, one repaired before among them, while its bank has a row left, or the next dearer step (R384,
R385). -/
def State.hbmRowRepair (s : State) (j r : Nat) : State :=
  let x := s.hbmS j
  let b := rowBank r
  let used := (x.soft.filter fun q => rowBank q = b).length + sget 0 x.hard b
  if used < 2 then
    (s.setHbm j { x with soft := x.soft ++ [r], rowCorr := x.rowCorr.filter fun p => p.1 ≠ r }).sfSat
      (Reg.HBM_SPARE (j / 2) (j % 2)) Fld.HBM_SPARE_soft_ppr 1
  else s.hbmBankRepair j b

/-- A corrected error in a stack's line (R380, R384). -/
def State.hbmCorrected (s : State) (j o : Nat) : State :=
  let s1 := (s.sfSat (Reg.HBM_ECC (j / 2) (j % 2)) Fld.HBM_ECC_ctrl 1).corrected
    { ErrInfo.plain 3 3 with tile := some (j / 2), site := some (6 + j % 2), addr := some (j * 2 ^ 39 + o) }
  let x := s1.hbmS j
  let r := hbmRow o
  let recent := x.rowCorr.filter fun p => decide (s.gtc.toNat < p.2.toNat + dayTicks)
  let all := recent ++ [(r, s.gtc)]
  let s2 := s1.setHbm j { x with rowCorr := all }
  if (all.filter fun p => p.1 = r).length ≥ 4 then s2.hbmRowRepair j r else s2

/-- Nibble `k` of a stack's layer map. -/
def State.layerNibble (s : State) (j k : Nat) : Nat := natBits (s.reg (Reg.HBM_LAYER_MAP (j / 2) (j % 2))).toNat (4 * k) 4

/-- Does the spare already stand for a whole logical layer other than `l` (R387)? At manufacture each logical layer lies on the physical
one of its number (R376). -/
def State.secondLayer (s : State) (j l : Nat) : Bool :=
  s.gf (Reg.HBM_SPARE (j / 2) (j % 2)) Fld.HBM_SPARE_layer_used == 1 && s.layerNibble j l == l

/-- An uncorrectable line of a stack is poisoned and counted, and the first one recorded (R381, R392). -/
def State.hbmPoison (s : State) (j o : Nat) : State :=
  let a := Reg.HBM_ERR_ADDR (j / 2) (j % 2)
  let s1 := (s.setPoison (j * 2 ^ 39 + o) true).sfSat (Reg.HBM_UNCORR (j / 2) (j % 2)) Fld.HBM_UNCORR_count 1
  if s1.gf a Fld.HBM_ERR_ADDR_valid = 1 then s1.sf a Fld.HBM_ERR_ADDR_more 1
  else (s1.sf a Fld.HBM_ERR_ADDR_offset (o / 64 * 64)).sf a Fld.HBM_ERR_ADDR_valid 1

/-- An uncorrectable error in a stack's line: the line is poisoned, and the row repaired (R381, R384); in a second logical layer, with
the spare spent on the first, the stack is degraded (R387). -/
def State.hbmBad (s : State) (j o : Nat) : State :=
  let s3 := (s.hbmPoison j o).hbmRowRepair j (hbmRow o)
  if s3.secondLayer j (natBits o 32 4) then s3.degradeStack j 3 else s3

/-! ### Tower SRAM -/

/-- The bank of a tower SRAM offset (R389): 0 to 127 in layer 2, 128 to 255 in layer 3. -/
def tsBank (o : Nat) : Nat := (o / 64) % 2 * 128 + (o / 128) % 128

/-- Replace a bank by a spare of its die, or degrade the tower (R391). One bank migrates at a time. -/
def State.tsReplace (s : State) (w b : Nat) : State :=
  let x := s.tsS w
  let a := Reg.CORE_TS_MAP (w / 6) (w % 6)
  let f := if b < 128 then Fld.CORE_TS_MAP_used2 else Fld.CORE_TS_MAP_used3
  if x.migr.isSome then
    (if x.waits.contains b || x.migr.any fun q => q.1 == b then s else s.setTs w { x with waits := x.waits ++ [b] })
  else
    match (upto 8).find? fun k => !natBit (s.gf a f) k with
    | none => s.degradeTower w 9
    | some k =>
      let m := Reg.CORE_TS_MIGRATE (w / 6) (w % 6)
      (((s.setTs w { x with migr := some (b, k), bankCorr := x.bankCorr.filter fun p => p.1 ≠ b }).sf
        m Fld.CORE_TS_MIGRATE_remaining 6144).sf m Fld.CORE_TS_MIGRATE_layer (b / 128)).sf
        m Fld.CORE_TS_MIGRATE_bank (b % 128)

/-- A corrected word of tower SRAM (R390, R391). -/
def State.tsCorrected (s : State) (w o : Nat) : State :=
  let s1 := (s.sfSat (Reg.CORE_TS_ECC (w / 6) (w % 6)) Fld.CORE_TS_ECC_count 1).corrected
    { ErrInfo.plain 2 2 with tile := some (w / 6), site := some (w % 6), addr := some (tsAddr w o) }
  let x := s1.tsS w
  let b := tsBank o
  let recent := x.bankCorr.filter fun p => decide (s.gtc.toNat < p.2.toNat + dayTicks)
  let all := recent ++ [(b, s.gtc)]
  let s2 := s1.setTs w { x with bankCorr := all }
  if (all.filter fun p => p.1 = b).length ≥ 64 then s2.tsReplace w b else s2

/-- An uncorrectable line of tower SRAM is poisoned and counted, and the first one recorded (R381, R393). -/
def State.tsPoison (s : State) (w o : Nat) : State :=
  let a := Reg.CORE_TS_ERR_ADDR (w / 6) (w % 6)
  let s1 := (s.setPoison (tsAddr w o) true).sfSat (Reg.CORE_TS_UNCORR (w / 6) (w % 6)) Fld.CORE_TS_UNCORR_count 1
  if s1.gf a Fld.CORE_TS_ERR_ADDR_valid = 1 then s1.sf a Fld.CORE_TS_ERR_ADDR_more 1
  else (s1.sf a Fld.CORE_TS_ERR_ADDR_offset (o / 64 * 64)).sf a Fld.CORE_TS_ERR_ADDR_valid 1

/-- An uncorrectable word of tower SRAM: its line is poisoned, and its bank replaced (R381, R391). -/
def State.tsBad (s : State) (w o : Nat) : State := (s.tsPoison w o).tsReplace w (tsBank o)

/-- A parity error of the crossbar or of a crossing FIFO of a die (R93): stand-fatal, and the tower suspect. -/
def State.crossbarParity (s : State) (g : Nat) : State :=
  let t := tileOf g
  (s.dead 4 t (siteOf g) 0 0 0x24).standFatal (s.standOf g) { ErrInfo.plain 1 0x24 with tile := some t, site := some (siteOf g) }

/-- What a corrected error in program or data memory leaves (R83, R87, R93). -/
def eccNote (s : State) (g e : Nat) : State :=
  ((s.coreCount g e 1).sfSat (Reg.CORE_ECC_CORR (tileOf g) (siteOf g)) Fld.CORE_ECC_CORR_count 1).corrected
    { ErrInfo.plain 0 1 with tile := some (tileOf g), site := some (siteOf g), gcore := some g,
                             stand := some (s.standOf g) }

/-- What error correction and parity find at a place (R87, R93, R380, R390). -/
def State.eccAt (s : State) (p : Place) (e : Ecc) : State :=
  match e, p with
  | .clean, _ => s
  | .corrected, .hbm j o => s.hbmCorrected j o
  | .bad, .hbm j o => s.hbmBad j o
  | .corrected, .tower w o => s.tsCorrected w o
  | .bad, .tower w o => s.tsBad w o
  | .corrected, .data g _ => eccNote s g 37
  | .bad, .data g _ => fenceCore s g 1
  | .corrected, .prog g _ => eccNote s g 36
  | .bad, .prog g _ => fenceCore s g 2
  | .rowBus, .data g _ | .rowBus, .prog g _ => fenceCore s g 5
  | .crossbar, .data g _ | .crossbar, .prog g _ => s.crossbarParity g
  | _, _ => s

/-! ### Stores -/

/-- Write `n` bytes within one line: a whole line clears its poison, and a narrower write to a poisoned line is
discarded (R381). -/
def State.store (s : State) (a n v : Nat) : State :=
  if n ≥ 64 then (s.setPoison a false).wr a 64 v
  else if s.poisoned a then s else s.wr a n v

end Sys2Proof.Machine
end

