-- ==== Sys2Proof/Machine/MemInstr.lean ====
section
/-! DEFINITION. The memory and fabric instructions at issue: address checks (R203 to R206), stores, block moves, the
network interface's packets (R210 to R225, R322, R332), host transfers (R227, R410) and status (R229, R230). -/

namespace Sys2Proof.Machine

/-! ### The stand of a core and its clearing beats -/

/-- Is the stand's present schedule beat one of a clearing (R243)? -/
def State.inClearing (s : State) (i : Nat) : Bool :=
  let p := planPeriod s.planForce i
  decide ((s.stand i).beat.toNat % p + 2 ≥ p)

/-! ### Addresses of the far side of a move -/

/-- The canonical address of byte `a` of a stand's memory spaces; none where it faults. -/
def State.far (s : State) (i a : Nat) : Option Nat := (s.standPlace i a).bind placeAddr

/-- Do `n` bytes from `a` lie within one memory of the stand (spaces 0x0 and 0x2 to 0x4), or within its interleaved
view (space 0x1)? -/
def State.regionOk (s : State) (i a n : Nat) : Bool :=
  match placeOf a with
  | some (.inter o) => decide (o + n ≤ (s.stacksOf i).length * stackBytes)
  | _ => match s.standPlace i a with
    | some p => decide (n ≤ placeRoom p)
    | none => false

/-- The tile that serves a place (R322). -/
def placeTile : Place → Nat
  | .hbm j _ => j / 2
  | .tower w _ => w / 6
  | .data g _ => tileOf g
  | .prog g _ => tileOf g
  | _ => 0

/-- The tile-local address of a place in a packet header (R322). -/
def pktAddr : Place → Nat
  | .hbm j o => j % 2 + o * 8
  | .tower w o => 2 + (w % 6) * 8 + o * 2 ^ 6
  | .data g o => 3 + siteOf g * 8 + rowOf g * 2 ^ 6 + colOf g * 2 ^ 9 + o * 2 ^ 13
  | .prog g o => 4 + siteOf g * 8 + rowOf g * 2 ^ 6 + colOf g * 2 ^ 9 + o * 2 ^ 13
  | _ => 5

/-- The place a tile-local address names on tile `t` (R322); none for a reserved encoding or a non-zero reserved bit. -/
def pktPlace (t a : Nat) : Option Place :=
  match a % 8 with
  | 0 => if natBits a 39 3 = 0 then some (.hbm (2 * t) (natBits a 3 36)) else none
  | 1 => if natBits a 39 3 = 0 then some (.hbm (2 * t + 1) (natBits a 3 36)) else none
  | 2 => if natBits a 33 9 = 0 ∧ natBits a 3 3 < 6 then some (.tower (6 * t + natBits a 3 3) (natBits a 6 27)) else none
  | 3 => if natBits a 31 11 = 0 ∧ natBits a 3 3 < 6 then
      some (.data (768 * t + 128 * natBits a 3 3 + 16 * natBits a 6 3 + natBits a 9 4) (natBits a 13 18)) else none
  | 4 => if natBits a 31 11 = 0 ∧ natBits a 3 3 < 6 then
      some (.prog (768 * t + 128 * natBits a 3 3 + 16 * natBits a 6 3 + natBits a 9 4) (natBits a 13 18)) else none
  | _ => none

/-! ### Checks at issue -/

/-- Is it an atomic (R214)? -/
def mAtomic : MOp → Bool
  | .radd | .rmax | .rmin | .rxchg | .rcas | .rfadd => true
  | _ => false

/-- Is it a reduction (R216, R217)? -/
def mReduction : MOp → Bool
  | .rredAdd | .rredMax | .rredMin | .rredFadd | .rredTopk => true
  | _ => false

/-- Is the operation beat-ordered (R218)? -/
def mBo (o : MOp) (f : MF) : Bool := o == .rredFadd || f.bo

/-- May the instruction issue in a clearing beat (R244)? hmov only where every line lies on a stack of the core's own
tile. -/
def mClearOk (s : State) (i g : Nat) (c : CoreSt) (o : MOp) (f : MF) : Bool :=
  match o with
  | .ld | .st | .vld | .vst | .tsld | .tsst | .bmov | .mwait | .wflag | .nistat => true
  | .hmov =>
    let n := (c.sr f.b).toNat % 2 ^ 32
    (upto (n / 64)).all fun l =>
      match s.standPlace i ((ea c f).toNat + 64 * l) with
      | some (.hbm j _) => decide (j / 2 = tileOf g)
      | _ => false
  | _ => false

/-- The address an mcst copy to tile `t` reaches (R222): none for a space it does not accept. -/
def mcstAddr (a t : Nat) : Option Nat :=
  match natBits a 44 4 with
  | 0 => some (natPut a 39 5 (2 * t + natBits a 39 5 % 2))
  | 2 => some (natPut a 37 7 (6 * t + natBits a 37 7 % 6))
  | 3 => some (natPut a 37 7 (6 * t + natBits a 37 7 % 6))
  | _ => none

/-- The tiles of an mcst mask, ascending. -/
def maskTiles (m : Nat) : List Nat := (upto 16).filter fun t => natBit m t

/-- The length, direction and alignment rules that block moves and host transfers share (R204, R208, R227). -/
def moveLenOk (sb : Nat) (maxLen : Nat) : Bool :=
  let n := sb % 2 ^ 32
  decide (sb / 2 ^ 33 = 0) && decide (n % 64 = 0) && decide (64 ≤ n) && decide (n ≤ maxLen)

/-- The address fault of an M-slot instruction (R203 to R205, R222, R227): true where it breaks a rule. -/
def mFault (s : State) (i : Nat) (c : CoreSt) (o : MOp) (f : MF) : Bool :=
  let a := (ea c f).toNat
  let size := wBytes f.w
  let sb := (c.sr f.b).toNat
  let sd := (c.sr f.d).toNat
  let remote := fun (write : Bool) =>
    decide (a ≥ 2 ^ 48) || decide (a % size ≠ 0) ||
      (match s.standPlace i a with
        | some p => decide (placeRoom p < size) || (write && (match p with
            | .prog .. => true
            | _ => false))
        | none => true)
  match o with
  | .ld | .st | .vld | .vst | .wflag => decide (a ≥ dmBytes) || decide (a % size ≠ 0)
  | .tsld | .tsst => decide (a ≥ towerBytes) || decide (a % 64 ≠ 0)
  | .bmov =>
    !moveLenOk sb 262144 || decide (sd ≥ dmBytes) || decide (sd % 64 ≠ 0) || decide (a % 64 ≠ 0) ||
      decide (a + sb % 2 ^ 32 > towerBytes) || decide (sd + sb % 2 ^ 32 > dmBytes)
  | .hmov =>
    !moveLenOk sb 262144 || decide (sd ≥ dmBytes) || decide (sd % 64 ≠ 0) || decide (a % 64 ≠ 0) ||
      decide (a ≥ 2 ^ 48) || decide (natBits a 44 4 > 1) || !s.regionOk i a (sb % 2 ^ 32) ||
      decide (sd + sb % 2 ^ 32 > dmBytes)
  | .rld => remote false
  | .rst | .radd | .rmax | .rmin | .rxchg | .rcas | .rfadd | .rredAdd | .rredMax | .rredMin | .rredFadd
  | .rredTopk => remote true
  | .mcst =>
    remote true || decide (sb % 2 ^ 16 = 0) ||
      (maskTiles sb).any fun t => match mcstAddr a t with
        | some a' => (match s.standPlace i a' with
          | some p => decide (placeRoom p < size)
          | none => true)
        | none => true
  | .hxfer =>
    !moveLenOk sb 16777216 || decide (sd % 64 ≠ 0) || decide (a % 64 ≠ 0) || decide (a ≥ 2 ^ 48) ||
      decide (natBits a 44 4 > 3) || !s.regionOk i a (sb % 2 ^ 32)
  | .mwait | .fence | .nistat => false

/-! ### Building and issuing packets -/

/-- The payload of an operation: the low bytes of sb or the vector; for rcas the compare value in bytes 0 to 7 and the
new value in bytes 8 to 15. -/
def mPayload (c : CoreSt) (o : MOp) (f : MF) : Nat :=
  let sb := (c.sr f.b).toNat
  let lowB := sb % 2 ^ (8 * wBytes f.w)
  match o with
  | .rld => 0
  | .rcas => lowB + ((c.sr f.d).toNat % 2 ^ (8 * wBytes f.w)) * 2 ^ 64
  | .mcst => (c.vr f.v).toNat % 2 ^ (8 * wBytes f.w)
  | .radd | .rmax | .rmin | .rxchg | .rfadd => lowB
  | _ => if f.vecData then (c.vr f.v).toNat else lowB

/-- Is the packet of an operation a plain store or multicast copy, which the flow orders (R332)? -/
def plainStore (op : BitVec 8) (bo : Bool) : Bool := (op == 0x11 && !bo) || op == 0x28

/-- The register a reply writes. -/
def mReplyDest (o : MOp) (f : MF) : Option Dest :=
  match o with
  | .rld => if f.w == 4 then some (.v f.d) else if f.d = 0 then none else some (.s f.d)
  | _ => if mAtomic o && !(f.d == 0) then some (.s f.d) else none

/-- Issue one remote operation of core `g` to place `p` (R210, R332): the packet waits at the source tile's injection. A store's distance back
is below 64 in every run, since an operation waits for the slot of the one 64 before it. [DEDUCED, assumption 159, unsafe] -/
def niIssue (s : State) (i g : Nat) (o : MOp) (f : MF) (p : Place) (payload : Nat) : State :=
  let c := s.core g
  let dst := placeTile p
  let seq := sget 0 c.seqs dst
  let bo := mBo o f
  let plain := plainStore (BitVec.ofNat 8 o.code) bo
  let last := sget 0 c.lastStore dst
  let outst := c.ni.any fun n => n.pkt.dst.toNat == dst && n.pkt.seq + 1 == last &&
    plainStore n.pkt.op n.pkt.bo
  let count : BitVec 10 := if plain && outst then (seq - (last - 1)).setWidth 10 else 0
  let pkt : Pkt :=
    { kind := 0, op := BitVec.ofNat 8 o.code, stand := BitVec.ofNat 4 i, dst := BitVec.ofNat 4 dst,
      srcTile := BitVec.ofNat 4 (tileOf g), src := BitVec.ofNat 14 g, seq := seq, epoch := c.epoch, age := 0,
      af := f.af, dg := f.dg, bo := f.bo, width := f.w, comb := false, count := count,
      beat := (s.stand i).beat.setWidth 6, addr := BitVec.ofNat 42 (pktAddr p), payload := BitVec.ofNat 512 payload }
  let dest := mReplyDest o f
  let n : NiOp := ⟨pkt, (s.stand i).beat, dest, s.gtc, false, false, false, c.pc, c.niNext⟩
  let sbe := match dest with
    | some d => [SbEnt.mk d (.remote pkt.dst seq) (if bo then some (s.stand i).beat else none)]
    | none => []
  let late := c.boFrom.filter fun b => decide ((s.stand i).beat.toNat ≤ b.2.2.1.toNat + 1)
  let c1 := { c with ni := c.ni ++ [n], niNext := c.niNext + 1, sb := c.sb ++ sbe,
                     boFrom := if bo then late ++ [(pkt.dst, seq, (s.stand i).beat, c.pc)] else c.boFrom, seqs := sset 0 c.seqs dst (seq + 1),
                     lastStore := if plain then sset 0 c.lastStore dst (seq + 1) else c.lastStore }
  let t := tileOf g
  let x := s.tile t
  (s.setCore g c1).setTile t { x with inject := x.inject ++ [⟨pkt, 0, false⟩] }

/-- An mcst: one copy per tile of the mask, ascending (R222, R341). -/
def mcstIssue (s : State) (i g : Nat) (f : MF) : State :=
  let c := s.core g
  let payload := mPayload c .mcst f
  (maskTiles (c.sr f.b).toNat).foldl (fun a t =>
    match (mcstAddr (ea c f).toNat t).bind (s.standPlace i) with
    | some p => niIssue a i g .mcst f p payload
    | none => a) s

/-! ### Moves -/

/-- An access at place `x` counts where it takes a core's row bus to its data memory (R494). -/
def State.busCount (s : State) (x : Place) : State :=
  match x with
  | .data g _ => s.coreCount g 34 1
  | _ => s

/-- An access of a host to a place, which takes data `back` or brings it: it passes the core's row (R78). -/
def State.busHost (s : State) (x : Place) (back : Bool) : State :=
  match x with
  | .data g _ | .prog g _ => (s.busCount x).passRow g back
  | _ => s

/-- The same for an address of stand `i`'s memories. -/
def State.busHostAt (s : State) (i a : Nat) (back : Bool) : State :=
  match s.standPlace i a with
  | some x => s.busHost x back
  | none => s

/-- Is the far line at `a` of a stand's memory poisoned? -/
def State.farPoisoned (s : State) (i a : Nat) : Bool :=
  match s.far i a with
  | some x => s.poisoned x
  | none => false

/-- Read line `l` of a block move (R208, R209): held until it is written; a poisoned far line is a data error of that line. -/
def lineTake (s : State) (i g : Nat) (m : MoveSt) (l : Nat) : MoveSt :=
  let late := m.late.filter fun x => decide (x ≠ l)
  if m.toFar then { m with late := late, held := m.held ++ [(l, BitVec.ofNat 512 (s.rd (dmAddr g (m.loc.toNat + 64 * l)) 64))] }
  else match s.far i (m.far.toNat + 64 * l) with
    | none => { m with late := late }
    | some a =>
      if s.poisoned a then { m with late := late, bad := if m.bad = 0 then 3 else m.bad }
      else { m with late := late, held := m.held ++ [(l, BitVec.ofNat 512 (s.rd a 64))] }

/-- The line at `a` is about to be written whole (R209, R217, R274): a load that has read some of its granules reads the others first, so
that it finds none of the new ones. -/
def State.lineWhole (s : State) (a : Nat) : State :=
  (upto 16).foldl (fun y t =>
    let x := y.tile t
    let here := x.early.filter fun e => e.2.1 == a
    if here = [] then y
    else
      let more := (here.map (·.1)).eraseDups.flatMap fun p =>
        ((upto 8).filter fun k => !(here.any fun e => e.1 == p && e.2.2.1 == k)).map fun k => (p, a, k, BitVec.ofNat 64 (s.rd (a + 8 * k) 8))
      y.setTile t { x with early := x.early ++ more }) s

/-- Write a line `v` of a block move at its place `l`. -/
def linePut (s : State) (i g : Nat) (m : MoveSt) (l : Nat) (v : BitVec 512) : State :=
  if m.toFar then
    match s.far i (m.far.toNat + 64 * l) with
    | some a => (s.lineWhole a).store a 64 v.toNat
    | none => s
  else
    let a := dmAddr g (m.loc.toNat + 64 * l)
    (s.lineWhole a).wr a 64 v.toNat

/-- Replace the move on a tag. -/
def CoreSt.setMove (c : CoreSt) (m : MoveSt) : CoreSt :=
  { c with moves := c.moves.map fun x => if x.tag == m.tag then m else x }

/-- The block move in flight on a tag. -/
def CoreSt.moveOn (c : CoreSt) (mt : BitVec 3) : Option MoveSt := c.moves.find? fun m => m.tag == mt && !m.host

/-- Does line `l` of the block move on a tag wait to leave the core's data memory? -/
def CoreSt.movesOut (c : CoreSt) (mt : BitVec 3) (l : Nat) : Bool := (c.moveOn mt).any fun m => m.toFar && m.late.contains l

/-- Does the block move on a tag bring lines into the core's data memory? -/
def CoreSt.movesIn (c : CoreSt) (mt : BitVec 3) : Bool := (c.moveOn mt).any fun m => !m.toFar

/-- The tile whose memory engine carries line `l` of a move over the packet plane: that of a stack of another tile (R208). -/
def State.carrier (s : State) (g : Nat) (m : MoveSt) (l : Nat) : Option Nat :=
  match s.standPlace (s.standOf g) (m.far.toNat + 64 * l) with
  | some (.hbm j _) => if j / 2 = tileOf g then none else some (j / 2)
  | _ => none

/-- The memory engine of tile `u` carries line `l` of a move of core `g`: a store of `v` into its data memory, or a load from it
(R208, R331, R332, R342). [DEDUCED, assumption 29, safe] -/
def engineSend (s : State) (u g : Nat) (m : MoveSt) (l : Nat) (st : Bool) (v : BitVec 512) : State :=
  let x := s.tile u
  let d := tileOf g
  let i := s.standOf g
  let seq := sget 0 x.memSeq d
  let last := sget 0 x.memLast d
  let out := x.mem.any fun q => q.pkt.dst.toNat == d && q.pkt.op == 0x11 && q.pkt.seq + 1 == last
  let p : Pkt :=
    { Pkt.zero with op := if st then 0x11 else 0x10, stand := BitVec.ofNat 4 i, dst := BitVec.ofNat 4 d,
                    srcTile := BitVec.ofNat 4 u, src := BitVec.ofNat 14 (12288 + u), seq := seq, epoch := x.epoch, width := 4,
                    count := if st && out then (seq - (last - 1)).setWidth 10 else 0, beat := (s.stand i).beat.setWidth 6,
                    addr := BitVec.ofNat 42 (pktAddr (.data g (m.loc.toNat + 64 * l))), payload := v }
  (s.setTile u { x with mem := x.mem ++ [⟨p, g, m.tag, l, s.gtc, false⟩], memSeq := sset 0 x.memSeq d (seq + 1),
                        memLast := if st then sset 0 x.memLast d (seq + 1) else x.memLast,
                        inject := x.inject ++ [⟨p, 0, true⟩] }).bump (Reg.PMC_ENGINE u 7) 1

/-- Has the memory engine of tile `u` an operation toward tile `d` outstanding whose number is 64 back? The next one waits for it. [DEDUCED, assumption 159, unsafe] -/
def State.engineFull (s : State) (u d : Nat) : Bool :=
  (s.tile u).mem.any fun q => q.pkt.dst.toNat == d && decide (64 ≤ (sget 0 (s.tile u).memSeq d - q.pkt.seq).toNat)

/-- The block move on a tag reads line `l` now; the engine of another tile's stack asks for a line of data memory. -/
def moveTake (s : State) (g : Nat) (mt : BitVec 3) (l : Nat) : State :=
  match (s.core g).moveOn mt with
  | some m =>
    if !m.late.contains l then s
    else match if m.toFar then s.carrier g m l else none with
      | some u =>
        if s.engineFull u (tileOf g) then s
        else
        (engineSend s u g m l false 0).setCore g
          ((s.core g).setMove { m with late := m.late.filter fun x => decide (x ≠ l), out := m.out ++ [l] })
      | none => (s.setCore g ((s.core g).setMove (lineTake s (s.standOf g) g m l))).coreCount g 34 (boolNat m.toFar)
  | none => s

/-- The block move on a tag writes line `l` now; the engine of another tile's stack sends it. -/
def movePut (s : State) (g : Nat) (mt : BitVec 3) (l : Nat) : State :=
  match (s.core g).moveOn mt with
  | some m =>
    match m.held.find? fun q => q.1 == l with
    | some q =>
      let held := m.held.filter fun x => !(x.1 == l)
      match if m.toFar then none else s.carrier g m l with
      | some u => if s.engineFull u (tileOf g) then s else (engineSend s u g m l true q.2).setCore g ((s.core g).setMove { m with held := held, out := m.out ++ [l] })
      | none =>
        let s1 := linePut s (s.standOf g) g m l q.2
        (s1.setCore g ((s1.core g).setMove { m with held := held })).coreCount g 34 (boolNat (!m.toFar))
    | none => s
  | none => s

/-- The reply to a memory engine's request: a loaded line is held for its stack, a stored one has moved; a line without ok has
failed (R208, R229). -/
def engineReply (s : State) (o : MemOp) (status : Nat) (data : BitVec 512) : State :=
  match (s.core o.g).moveOn o.mt with
  | some m =>
    if !m.out.contains o.line then s
    else
      let m1 := { m with out := m.out.filter fun x => decide (x ≠ o.line) }
      s.setCore o.g ((s.core o.g).setMove
        (if status ≠ 0 then { m1 with bad := if m.bad = 0 then status else m.bad, own := if m.bad = 0 then true else m.own } else if m.toFar then { m1 with held := m1.held ++ [(o.line, data)] } else m1))
  | none => s

/-- The far address of a bmov, whose offset lies in the core's own tower SRAM. -/
def bmovFar (g : Nat) (a : Nat) : Nat := tsAddr (towerOf g) a

/-- Tower SRAM accesses of one core keep issue order for the bytes they share (R207): before one to the `n` lines from
address `a`, its earlier block moves have read those lines, and written there those that they bring out of the core. -/
def towerInOrder (s : State) (g a n : Nat) : State :=
  (s.core g).moves.foldl (fun y m =>
    if m.host then y
    else (upto m.lines).foldl (fun z l =>
      let x := m.far.toNat + 64 * l
      if ¬(a ≤ x ∧ x < a + 64 * n) then z
      else if (z.core g).movesOut m.tag l then movePut ((moveTake z g m.tag l).leaveRow g true) g m.tag l
      else if m.toFar then movePut z g m.tag l
      else moveTake z g m.tag l) y) s

/-- Start a block move (R208): none of its lines moved yet. -/
def moveIssue (s : State) (i g : Nat) (o : MOp) (f : MF) : State :=
  let c := s.core g
  let sb := (c.sr f.b).toNat
  let n := sb % 2 ^ 32 / 64
  let a := (ea c f).toNat
  let far := if o = .bmov then bmovFar g a else a
  let s1 := if o = .bmov then towerInOrder s g far n else s
  let m : MoveSt :=
    { tag := f.mt, host := false, toFar := natBit sb 32, far := BitVec.ofNat 64 far, loc := c.sr f.d, lines := n, late := upto n,
      held := [], out := [], bad := 0, beat := (s.stand i).beat, asked := 0, own := false, bundle := c.pc }
  let c1 := s1.core g
  s1.setCore g { c1 with tags := sset ⟨false, 0⟩ c1.tags f.mt.toNat ⟨true, (sget ⟨false, 0⟩ c1.tags f.mt.toNat).status⟩,
                         moves := c1.moves ++ [m] }

/-- tsst: the store reaches tower SRAM in issue order (R207); its tag completes later. [DEDUCED, assumption 28, safe] -/
def tsstIssue (s : State) (i g : Nat) (f : MF) : State :=
  let a := tsAddr (towerOf g) (ea (s.core g) f).toNat
  let v := ((s.core g).vr f.v).toNat
  let s1 := (towerInOrder s g a 1).store a 64 v
  let c1 := s1.core g
  let m : MoveSt := ⟨f.mt, false, true, BitVec.ofNat 64 a, 0, 0, [], [], [], 0, (s.stand i).beat, 0, false, c1.pc⟩
  s1.setCore g { c1 with tags := sset ⟨false, 0⟩ c1.tags f.mt.toNat ⟨true, (sget ⟨false, 0⟩ c1.tags f.mt.toNat).status⟩,
                         moves := c1.moves ++ [m] }

/-- tsld: tower SRAM is read in issue order (R207); the data returns later through the scoreboard (R92). [DEDUCED, assumption 28, safe] -/
def tsldIssue (s : State) (g : Nat) (f : MF) : State :=
  let a := tsAddr (towerOf g) (ea (s.core g) f).toNat
  let s1 := towerInOrder s g a 1
  let c := s1.core g
  let bad := s1.poisoned a
  let d := if bad then 0 else BitVec.ofNat 512 (s1.rd a 64)
  s1.setCore g { c with sb := c.sb ++ [⟨.v f.d, .tower d bad c.pc, none⟩] }

/-! ### Host transfers -/

/-- The tile of the device's side of a host transfer of core `g`, at stand `i`'s address `a` (R230). [DEDUCED, assumption 114, unsafe] -/
def State.hxTile (s : State) (i g a : Nat) : Nat :=
  match s.standPlace i a with
  | some p => placeTile p
  | none => tileOf g

/-- Record a refused or failed transfer (R410): HIF_XFER_ERR, contained error 0x05 and stand event 4. -/
def hxError (s : State) (i g kind status : Nat) : State :=
  let p := planPort s.planForce i
  let a := Reg.HIF_XFER_ERR p
  let s1 :=
    if s.gf a Fld.HIF_XFER_ERR_valid = 1 then s.sf a Fld.HIF_XFER_ERR_more 1
    else ((s.sf a Fld.HIF_XFER_ERR_stand i).sf a Fld.HIF_XFER_ERR_kind kind).sf a Fld.HIF_XFER_ERR_valid 1
  let s2 := s1.contained { ErrInfo.plain 8 5 with stand := some i, gcore := some g, tile := some (tileOf g),
                                                  site := some (siteOf g), detail := some status }
  s2.stdEvent i 4

/-- Note a completion with a status other than ok (R230, modes 1 and 2). [DEDUCED, assumption 114, unsafe] -/
def niNote (s : State) (g status op tile beat : Nat) : State :=
  let c := s.core g
  let first := if c.niBad = 0 then
      BitVec.ofNat 64 (status + op * 2 ^ 4 + tile * 2 ^ 12 + beat % 2 ^ 32 * 2 ^ 16) else c.niFirst
  s.setCore g { c with niBad := min (c.niBad + 1) (2 ^ 32 - 1), niFirst := first }

/-- Complete a tag with a status. -/
def tagComplete (s : State) (g : Nat) (mt : BitVec 3) (status : Nat) : State :=
  let c := s.core g
  s.setCore g { c with tags := sset ⟨false, 0⟩ c.tags mt.toNat ⟨false, BitVec.ofNat 4 status⟩,
                       moves := c.moves.filter fun m => !(m.tag == mt), active := true }

/-- Why the engine refuses a transfer (R410): the kind of HIF_XFER_ERR, or none. -/
def hxRefusal (s : State) (i : Nat) (host n : Nat) : Option Nat :=
  let p := planPort s.planForce i
  let x := (s.stand i).copy
  let base := x.hxBase.toNat
  let st := s.gf (Reg.HIF_LINK p) Fld.HIF_LINK_state
  if host < base ∨ host + n > base + x.hxSize.toNat then some 1
  else if !(s.port p).busMaster then some 2
  else if (s.port p).d3 then some 3
  else if st ≠ 2 ∧ st ≠ 3 ∧ st ≠ 4 then some 4
  else none

/-- hxfer at issue (R227): refused at once, or a transfer in flight on the tag. -/
def hxferIssue (s : State) (i g : Nat) (f : MF) : State :=
  let c := s.core g
  let sb := (c.sr f.b).toNat
  let n := sb % 2 ^ 32
  let host := (c.sr f.d).toNat
  match hxRefusal s i host n with
  | some k =>
    hxError (niNote ((tagComplete s g f.mt 7).coreCount g 33 1) g 7 0x38 (s.hxTile i g (ea c f).toNat) (s.stand i).beat.toNat) i g k 7
  | none =>
    let m : MoveSt := ⟨f.mt, true, !natBit sb 32, ea c f, c.sr f.d, n / 64, [], [], [], 0, (s.stand i).beat, 0, false, c.pc⟩
    s.setCore g { c with tags := sset ⟨false, 0⟩ c.tags f.mt.toNat ⟨true, (sget ⟨false, 0⟩ c.tags f.mt.toNat).status⟩,
                         moves := c.moves ++ [m] }

/-- nistat (R230). -/
def nistatVal (c : CoreSt) (mode : Nat) : Word :=
  match mode with
  | 0 => BitVec.ofNat 64 (64 - c.ni.length)
  | 1 => BitVec.ofNat 64 c.niBad
  | 2 => c.niFirst
  | 3 => BitVec.ofNat 64 (packBits 4 ((upto 8).map fun t => (sget ⟨false, 0⟩ c.tags t).status.toNat) +
      2 ^ 32 * packBits 1 ((upto 8).map fun t => boolNat (sget ⟨false, 0⟩ c.tags t).pending))
  | _ => BitVec.ofNat 64 c.niRetrans

/-- The effect of an M-slot operation at issue. -/
def mApply (s : State) (g : Nat) (o : MOp) (f : MF) : State :=
  let i := s.standOf g
  let c := s.core g
  let a := (ea c f).toNat
  let size := wBytes f.w
  match o with
  | .ld => s.setCore g (c.pushS 3 f.d (BitVec.ofNat 64 (s.rd (dmAddr g a) size)))
  | .st => s.wr (dmAddr g a) size (c.sr f.b).toNat
  | .vld => s.setCore g (c.pushV 3 f.d (BitVec.ofNat 512 (s.rd (dmAddr g a) 64)))
  | .vst => s.wr (dmAddr g a) 64 (c.vr f.v).toNat
  | .tsld => tsldIssue s g f
  | .tsst => tsstIssue s i g f
  | .bmov => moveIssue s i g .bmov f
  | .hmov => moveIssue s i g .hmov f
  | .mwait => s
  | .mcst => mcstIssue s i g f
  | .fence => s
  | .wflag => s
  | .hxfer => hxferIssue s i g f
  | .nistat => s.setCore g (c.pushS 1 f.d (nistatVal c f.imm.toNat))
  | _ =>
    match s.standPlace i a with
    | some p => niIssue s i g o f p (mPayload c o f)
    | none => s

end Sys2Proof.Machine
end

