-- ==== Sys2Proof/Machine/Reads.lean ====
section
/-! DEFINITION. The registers that a slot operation reads, which the scoreboard of R90 compares with its pending
entries. -/

namespace Sys2Proof
open Machine

/-- The scalar registers an S-slot operation reads (R134, R158). -/
def SOp.reads : SOp → List Dest
  | .alu _ _ a b => [.s a, .s b]
  | .alui _ _ a _ => [.s a]
  | .slih d _ => [.s d]
  | .br _ a b _ => [.s a, .s b]
  | .jr a | .lp a _ | .bwait a => [.s a]
  | _ => []

/-- The predicate an operation's mask names (R128). -/
def maskReads (m : BitVec 4) : List Dest := if m.getLsbD 3 then [.k (m.setWidth 3)] else []

/-- The registers a V-slot operation reads. -/
def vReads (o : VOp) (f : VF) : List Dest :=
  let u := o.use
  let isK := match o with
    | .kand | .kor | .kxor | .knot => true
    | _ => false
  if isK then .k (f.a.setWidth 3) :: (if u.b then [.k (f.b.setWidth 3)] else [])
  else
    (if u.a then [Dest.v f.a] else []) ++ (if u.b then [.v f.b] else []) ++ (if u.c then [.v f.c] else []) ++
      (if u.s && o != .vpackmx then [.s f.s] else []) ++ maskReads f.mask ++
      (match o with
        | .vcmpeq | .vcmpne | .vcmplt | .vcmple => if f.mask.getLsbD 3 then [.k (f.d.setWidth 3)] else []
        | .vins => [.v f.d]
        | _ => if u.m && f.mask.getLsbD 3 && !f.z && u.d then [.v f.d] else [])

/-- The registers a T-slot operation outside the similarity queue reads (R180). -/
def tReads (o : TOp) (f : TF) : List Dest :=
  match o with
  | .tlda | .tldb | .tldsc => [.s f.s]
  | .tmac | .tmacz => (if f.imm5.getLsbD 1 then [] else [.v f.a, .v f.b]) ++ (if isMx f.ta then [.v f.c] else [])
  | .tmov => [.s f.s]
  | .tclr => []

/-- The registers a queued similarity instruction reads at issue. -/
def qReads (o : QOp) (f : TF) : List Dest :=
  match o with
  | .qwt | .tkins => [.v f.a]
  | .tkclr => []
  | _ => [.s f.s]

/-- The registers an M-slot operation reads (R206). -/
def mReads (o : MOp) (f : MF) : List Dest :=
  let data : List Dest := if f.vecData then [.v f.v] else [.s f.b]
  match o with
  | .ld | .vld | .tsld | .rld => [.s f.a]
  | .st => [.s f.a, .s f.b]
  | .vst | .tsst | .rredTopk => [.s f.a, .v f.v]
  | .bmov | .hmov | .hxfer => [.s f.a, .s f.b, .s f.d]
  | .mwait | .nistat => []
  | .rst | .rredAdd | .rredMax | .rredMin | .rredFadd => .s f.a :: data
  | .radd | .rmax | .rmin | .rxchg | .rfadd => [.s f.a, .s f.b]
  | .rcas => [.s f.a, .s f.b, .s f.d]
  | .mcst => [.s f.a, .s f.b, .v f.v]
  | .fence => [.s f.b]
  | .wflag => [.s f.a, .s f.b]

/-- The registers a slot operation reads. -/
def SlotOp.reads : SlotOp → List Dest
  | .s x => x.reads
  | .v o f => vReads o f
  | .t o f => tReads o f
  | .q o f => qReads o f
  | .m o f => mReads o f

end Sys2Proof
end

