-- ==== Sys2Proof/Machine/Similarity.lean ====
section
/-! DEFINITION. The similarity unit: query tile, scoring, segment streams, document closes and the top-k lists
(R117 to R122, R190 to R199). -/

namespace Sys2Proof.Machine

/-! ### Ranking and insertion (R122, R197) -/

/-- Does `a` rank above `b`? -/
def ranksAbove (a b : TopEnt) : Bool :=
  decide (b.score.toInt < a.score.toInt) || (a.score == b.score && decide (a.doc.toNat < b.doc.toNat))

/-- Insert in rank order. -/
def rankInsert (e : TopEnt) : List TopEnt → List TopEnt
  | [] => [e]
  | x :: rest => if ranksAbove e x then e :: x :: rest else x :: rankInsert e rest

/-- The insertion rule on a list of capacity `k` (R197): equal documents keep the higher score, and the lowest entry
gives way. -/
def topInsert (k : Nat) (ents : List TopEnt) (e : TopEnt) : List TopEnt :=
  match ents.find? fun x => x.doc == e.doc with
  | some old =>
    if old.score.toInt < e.score.toInt then rankInsert e (ents.filter fun x => !(x.doc == e.doc)) else ents
  | none => (rankInsert e ents).take k

/-- An empty entry's score and document number (R197). -/
def emptyEntry : Nat := 0x8000_0000_0000_0000 + 0xFFFF_FFFF * 2 ^ 64

/-- The 128 bits of an entry in a register (R197). -/
def TopEnt.bits (e : TopEnt) : Nat := (e.score.signExtend 64).toNat + e.doc.toNat * 2 ^ 64

/-- Entry `i` of the four in a register; none for an empty entry. -/
def regEntry (v i : Nat) : Option TopEnt :=
  let b := natBits v (128 * i) 96
  if b = emptyEntry then none else some ⟨BitVec.ofNat 48 b, BitVec.ofNat 32 (b / 2 ^ 64)⟩

/-- The four entries of a register, entry 0 first, without the empty ones. -/
def regEntries (v : Nat) : List TopEnt := (upto 4).filterMap (regEntry v)

/-! ### The unit -/

/-- List `i`. A list after a launch has capacity 0 (R196). -/
def CoreSt.top (c : CoreSt) (i : Nat) : TopList := sget ⟨0, []⟩ c.tops i
def CoreSt.setTop (c : CoreSt) (i : Nat) (l : TopList) : CoreSt := { c with tops := sset ⟨0, []⟩ c.tops i l }

/-- What the unit has done: the core, an error code that stops it, and counts of tokens scored, documents closed, and
insertions made and kept. -/
structure SimRes where
  c : CoreSt
  err : Option Nat
  tokens : Nat
  closes : Nat
  inserts : Nat
  changes : Nat
  bad : Bool                -- a centroid fetch or the table's trailer met a poisoned line (R381)
  got : List SimLine        -- lines read, each for one access to come (R200)
  miss : Option (Nat × Nat) -- the first access whose line has not been read: its reader, as R183 lists them (5: tower SRAM), and the line

/-- Nothing done yet. -/
def SimRes.start (c : CoreSt) : SimRes := ⟨c, none, 0, 0, 0, 0, false, [], none⟩

/-- Nothing done yet of a queued instruction, for which lines have been read. -/
def SimRes.begin (e : SimEnt) (c : CoreSt) : SimRes := { SimRes.start c with got := e.got }

/-- One access of reader `k` to the line at `a`: memory as it finds it, which is as the line was read for it (R200). An access whose
line has not been read is missed. -/
def SimRes.see1 (k : Nat) (y : State × SimRes) (a : Nat) : State × SimRes :=
  match y.2.got.find? fun q => q.addr == a with
  | some q => ((y.1.wr a 64 q.val.toNat).setPoison a q.bad, { y.2 with got := y.2.got.erase q })
  | none => (y.1, { y.2 with miss := y.2.miss.or (some (k, a)) })

/-- Accesses of reader `k` to lines. -/
def SimRes.see (k : Nat) (s : State) (ls : List Nat) (r : SimRes) : State × SimRes := ls.foldl (SimRes.see1 k) (s, r)

/-- The lines that hold `n` bytes from data-memory offset `o` of core `g`. -/
def dmLines (g o n : Nat) : List Nat := (upto ((o % 64 + n + 63) / 64)).map fun k => dmAddr g (o / 64 * 64 + 64 * k)

/-- Insert one entry into list `i` (R197); an insertion into a list of capacity 0 is error 0x10. -/
def SimRes.insert (r : SimRes) (i : Nat) (e : TopEnt) : SimRes :=
  if r.err.isSome then r
  else
    let l := r.c.top i
    if l.k = 0 then { r with err := some 0x10 }
    else
      let l' := topInsert l.k l.ents e
      { r with c := r.c.setTop i ⟨l.k, l'⟩, inserts := r.inserts + 1,
               changes := r.changes + (if l' = l.ents then 0 else 1) }

/-- Every maximum at -2^31 (R121). -/
def maximaReset : BitVec 1024 := BitVec.ofNat 1024 (packBits 32 ((upto 32).map fun _ => 0x8000_0000))

/-- The weighted score (R121). -/
def docScore (c : CoreSt) : Int :=
  ((upto 32).map fun t => (natBits c.weights.toNat (8 * t) 8 : Int) * sInt 32 (natBits c.maxima.toNat (32 * t) 32)).sum

/-- close(doc) (R195). -/
def SimRes.close (r : SimRes) (doc : BitVec 32) : SimRes :=
  if r.err.isSome then r
  else if doc = 0xFFFF_FFFF then { r with err := some 0x10 }
  else
    let r1 := r.insert r.c.curTop.toNat ⟨BitVec.ofInt 48 (docScore r.c), doc⟩
    if r1.err.isSome then r1
    else { r1 with c := { r1.c with maxima := maximaReset, docsClosed := r1.c.docsClosed + 1 }, closes := r1.closes + 1 }

/-- The segment entry at data-memory offset `a` of core `g` (R193): document, count and open bit. -/
def segRead (s : State) (g a : Nat) : BitVec 32 × Nat × Bool :=
  (BitVec.ofNat 32 (s.rd (dmAddr g a) 4), s.rd (dmAddr g (a + 4)) 2, natBit (s.rd (dmAddr g (a + 6)) 1) 0)

/-- Make the next entry of the stream current, or none (R193). -/
def segNext (s : State) (g : Nat) (c : CoreSt) : CoreSt :=
  if c.segLeft ≤ 1 then { c with segLeft := 0, seg := none, segRem := 0 }
  else
    let a := c.segAddr + 8
    let (doc, n, op) := segRead s g a
    { c with segAddr := a, segLeft := c.segLeft - 1, seg := some ⟨doc, op⟩, segRem := n }

/-- advance() (R193), over at most `fuel` entries. -/
def SimRes.advance (s : State) (g : Nat) : Nat → SimRes → SimRes
  | 0, r => r
  | fuel + 1, r =>
    match r.c.seg with
    | none => r
    | some e =>
      if r.c.segRem ≠ 0 ∨ r.err.isSome then r
      else
        let r1 := if e.isOpen then r else r.close e.doc
        if r1.err.isSome then r1
        else
          let q := if r1.c.segLeft ≤ 1 then (s, r1) else r1.see 3 s (dmLines g (r1.c.segAddr + 8) 8)
          SimRes.advance s g fuel { q.2 with c := segNext q.1 g q.2.c }

/-- The decoded components of a CRV2 token (R117, R119): centroid row plus residual, saturated. -/
def crv2Decode (row codes rtab : Nat) : List Int :=
  (upto 128).map fun d => sInt 8 (satN 8 (sInt 8 (natBits row (8 * d) 8) +
    sInt 8 (natBits rtab (8 * natBits codes (2 * d) 2) 8)))

/-- The similarities of the 32 query tokens with a decoded token (R119). -/
def crv2Scores (query : Nat) (e : List Int) : List Int :=
  (upto 32).map fun t =>
    let qt := natBits query (1024 * t) 1024
    ((e.zipIdx).map fun p => sInt 8 (natBits qt (8 * p.2) 8) * p.1).sum

/-- The similarities of the 32 query tokens with a BIN1 code (R120). -/
def bin1Scores (query x : Nat) : List Int :=
  (upto 32).map fun t =>
    let qt := natBits query (1024 * t) 1024
    128 - 2 * (((upto 128).map fun d =>
      let b := if natBit qt (8 * d + 7) then 0 else 1
      if b = natBits x d 1 then 0 else 1).sum : Nat)

/-- The maxima raised by one token's similarities (R121). -/
def raiseMaxima (m : BitVec 1024) (xs : List Int) : BitVec 1024 :=
  BitVec.ofNat 1024 (packBits 32 ((xs.zipIdx).map fun p =>
    wrapN 32 (max (sInt 32 (natBits m.toNat (32 * p.2) 32)) p.1)))

/-- Half `h` of a centroid row at tower SRAM address `a`: a poisoned line reads zero (R381). [DEDUCED, assumption 34, unsafe] -/
def centHalf (s : State) (a : Nat) : Nat := if s.poisoned a then 0 else s.rd a 64

/-- The centroid row of index `idx` in the table at `base`: where it lies in core `g`'s tower SRAM (R192). -/
def centAddr (g base idx : Nat) : Nat := tsAddr (towerOf g) (base + 128 * idx)

/-- The similarities of a CRV2 token at data-memory offset `a` (R119), its record, then the two lines of its centroid row (R192). The flag says
that one of these is poisoned. -/
def SimRes.crv2 (s : State) (g base : Nat) (rtab : BitVec 32) (a : Nat) (r : SimRes) : List Int × SimRes :=
  let q := r.see 4 s (dmLines g a 34)
  let ra := centAddr g base (q.1.rd (dmAddr g a) 2)
  let p := q.2.see 5 q.1 [ra, ra + 64]
  let row := centHalf p.1 ra + centHalf p.1 (ra + 64) * 2 ^ 512
  (crv2Scores r.c.query.toNat (crv2Decode row (p.1.rd (dmAddr g (a + 2)) 32) rtab.toNat),
    { p.2 with bad := p.2.bad || p.1.poisoned ra || p.1.poisoned (ra + 64) })

/-- The similarities of a BIN1 token at data-memory offset `a` (R120). -/
def SimRes.bin1 (s : State) (g a : Nat) (r : SimRes) : List Int × SimRes :=
  let q := r.see 4 s (dmLines g a 16)
  (bin1Scores r.c.query.toNat (q.1.rd (dmAddr g a) 16), q.2)

/-- Score one document token (R194). -/
def SimRes.token (s : State) (g : Nat) (crv2 : Bool) (a : Nat) (r : SimRes) : SimRes :=
  if r.err.isSome then r
  else
    let x := if crv2 then (match r.c.centroid with
        | none => ([], r)
        | some (base, rtab) => SimRes.crv2 s g base rtab a r)
      else SimRes.bin1 s g a r
    let r1 := { x.2 with c := { x.2.c with maxima := raiseMaxima x.2.c.maxima x.1 }, tokens := x.2.tokens + 1 }
    match r1.c.seg with
    | none => r1
    | some _ =>
      let r2 := { r1 with c := { r1.c with segRem := r1.c.segRem - 1 } }
      SimRes.advance s g (r2.c.segLeft + 1) r2

/-- Score `n` tokens of `size` bytes from `a` (R194). -/
def SimRes.tokens_from (s : State) (g : Nat) (crv2 : Bool) (size : Nat) : Nat → Nat → SimRes → SimRes
  | 0, _, r => r
  | n + 1, a, r => SimRes.tokens_from s g crv2 size n (a + size) (SimRes.token s g crv2 a r)

/-- qld (R191). -/
def simQld (s : State) (g : Nat) (e : SimEnt) (c : CoreSt) : SimRes :=
  let q := (SimRes.begin e c).see 2 s (dmLines g e.ss.toNat 4096)
  { q.2 with c := { c with query := BitVec.ofNat 32768 (q.1.rd (dmAddr g e.ss.toNat) 4096), maxima := maximaReset } }

/-- qwt (R191). -/
def simQwt (e : SimEnt) (c : CoreSt) : SimRes :=
  .start (match e.f.imm5.toNat with
    | 0 => { c with weights := e.va.setWidth 256 }
    | 1 => { c with maxima := BitVec.ofNat 1024 (natPut c.maxima.toNat 0 512 e.va.toNat) }
    | _ => { c with maxima := BitVec.ofNat 1024 (natPut c.maxima.toNat 512 512 e.va.toNat) })

/-- cbind (R192): the trailer is read once, as zero where its line is poisoned (R381). [DEDUCED, assumption 34, unsafe] -/
def simCbind (s : State) (g : Nat) (e : SimEnt) (c : CoreSt) : SimRes :=
  let o := e.ss.toNat
  let a := tsAddr (towerOf g) (o + 0x80_0000)
  let q := (SimRes.begin e c).see 5 s [a]
  { q.2 with c := { c with centroid := some (o, BitVec.ofNat 32 (centHalf q.1 a)) }, bad := q.1.poisoned a }

/-- msim (R194); msim.crv2 with no table bound is error 0x0E. -/
def simMsim (s : State) (g : Nat) (e : SimEnt) (c : CoreSt) : SimRes :=
  let crv2 := e.f.ta == 14
  if crv2 && c.centroid.isNone then { SimRes.start c with err := some 0x0E }
  else SimRes.tokens_from s g crv2 (if crv2 then 34 else 16) (natBits e.ss.toNat 32 16) (natBits e.ss.toNat 0 18) (.begin e c)

/-- dseg (R193). -/
def simDseg (s : State) (g : Nat) (e : SimEnt) (c : CoreSt) : SimRes :=
  let a := natBits e.ss.toNat 0 18
  let q := (SimRes.begin e c).see 3 s (dmLines g a 8)
  let (doc, n, op) := segRead q.1 g a
  let left := natBits e.ss.toNat 32 16
  SimRes.advance s g (left + 1) { q.2 with c := { c with segAddr := a, segLeft := left, seg := some ⟨doc, op⟩, segRem := n } }

/-- dclose (R195). -/
def simDclose (s : State) (g : Nat) (e : SimEnt) (c : CoreSt) : SimRes :=
  match c.seg with
  | some x =>
    let r := (SimRes.begin e c).close x.doc
    if r.err.isSome then r
    else
      let q := if r.c.segLeft ≤ 1 then (s, r) else r.see 3 s (dmLines g (r.c.segAddr + 8) 8)
      SimRes.advance s g (q.2.c.segLeft + 1) { q.2 with c := segNext q.1 g q.2.c }
  | none =>
    if natBits e.ss.toNat 32 32 ≠ 0 then { SimRes.start c with err := some 0x10 }
    else (SimRes.start c).close (e.ss.setWidth 32)

/-- tkins (R197). -/
def simTkins (e : SimEnt) (c : CoreSt) : SimRes :=
  (regEntries e.va.toNat).foldl (fun r x => r.insert (e.f.imm5.toNat % 8) x) (.start c)

/-- The value tkrd reads (R198). -/
def tkrdVal (c : CoreSt) (e : SimEnt) : Vec :=
  let l := c.top (e.f.imm5.toNat % 8)
  match e.f.imm6.toNat % 4 with
  | 0 =>
    let r := e.ss.toNat % 1024
    BitVec.ofNat 512 (packBits 128 ((upto 4).map fun i =>
      match l.ents[r + i]? with
      | some x => x.bits
      | none => emptyEntry))
  | 1 => c.maxima.setWidth 512
  | 2 => (c.maxima >>> 512).setWidth 512
  | _ => ofLanes 32 [l.ents.length, l.k, c.curTop.toNat, c.docsClosed.toNat, c.segLeft, c.segRem]

/-- tkrd: the register is written and its scoreboard entry freed (R198, R90). -/
def simTkrd (e : SimEnt) (c : CoreSt) : SimRes :=
  let c1 := c.put (.v e.f.a) ((tkrdVal c e).setWidth 65536)
  .start { c1 with sb := c1.sb.filter fun x => !(x.dest == .v e.f.a && x.wait == .topk), active := true }

/-- tkclr (R196). -/
def simTkclr (e : SimEnt) (c : CoreSt) : SimRes :=
  let clr := fun (a : CoreSt) (i : Nat) => a.setTop i ⟨(a.top i).k, []⟩
  .start (if e.f.imm5.getLsbD 3 then (upto 8).foldl clr c else clr c (e.f.imm5.toNat % 8))

/-- tkcfg (R196): a capacity that would bring the sum above 1,024 is error 0x10. -/
def simTkcfg (e : SimEnt) (c : CoreSt) : SimRes :=
  let i := e.f.imm5.toNat % 8
  if e.f.imm5.getLsbD 4 then .start { c with curTop := BitVec.ofNat 3 i }
  else
    let k := e.ss.toNat % 2 ^ 11
    let others := ((upto 8).map fun j => if j = i then 0 else (c.top j).k).sum
    if k + others > 1024 then { SimRes.start c with err := some 0x10 }
    else .start (c.setTop i ⟨k, (c.top i).ents.take k⟩)

/-- Execute a queued instruction (R190). [DEDUCED, assumption 23, unsafe] -/
def simRun (s : State) (g : Nat) (e : SimEnt) (c : CoreSt) : SimRes :=
  match e.op with
  | .qld => simQld s g e c
  | .qwt => simQwt e c
  | .cbind => simCbind s g e c
  | .msim => simMsim s g e c
  | .dseg => simDseg s g e c
  | .dclose => simDclose s g e c
  | .tkins => simTkins e c
  | .tkrd => simTkrd e c
  | .tkclr => simTkclr e c
  | .tkcfg => simTkcfg e c

end Sys2Proof.Machine
end

