-- ==== Sys2Proof/Machine/Tensor.lean ====
section
/-! DEFINITION. The tensor instructions: operand buffers and the B stream, the tmac family, moves out of accumulators
(R180 to R189). -/

namespace Sys2Proof.Machine

/-- The depth of a group by its types (R184). -/
def tDepth (ta : Nat) : Nat := if ta = 0 ∨ ta = 8 then 4 else if ta = 6 then 1 else 2

/-- The array cycles of a group (R184). -/
def tArray (ta : Nat) : Nat := if ta = 6 then 4 else 2

/-- Element `k` of row `i` of an A buffer (R185). -/
def aElem (buf : Nat) (w i k : Nat) : Nat := natBits buf (512 * i + w * k) w

/-- Element `j` of B row `r` in the 128 bytes of B (R185). -/
def bElem (b : Nat) (w r j : Nat) : Nat :=
  let row := if w = 4 then 256 * r else if w = 16 then 0 else 512 * r
  natBits b (row + w * j) w

/-- A block scale's value: 2 to the (x - 127), or NaN (R108, R110). -/
def scaleVal (x : Nat) : FV := if x = 255 then .nan else .fin false 1 ((x : Int) - 127)

/-- The exact sum of floating products (R114). Zeros of one sign keep it. [DEDUCED, assumption 161, unsafe] -/
def sumFV : List FV → FV
  | [] => .fin false 0 0
  | x :: rest => rest.foldl fadd x

/-- The new value of accumulator element (i, j) (R113 to R115, R186): `old` its 32 bits, `abuf`, `asc` the buffers,
`b` the 128 bytes of B, `csc` the scale register, `imm6` the depth index. -/
def macElem (ta tb : Nat) (imm6 : Nat) (abuf asc b csc : Nat) (old i j : Nat) : Nat :=
  let d := tDepth ta
  let k0 := d * imm6
  let wa := tyWidth ta
  let wb := tyWidth tb
  if ta ≤ 1 then
    let p : Int := ((upto d).map fun r => sInt wa (aElem abuf wa i (k0 + r)) * sInt wb (bElem b wb r j)).sum
    wrapN 32 ((old : Int) + p)
  else
    let prods := (upto d).map fun r => fmul (elemVal ta (aElem abuf wa i (k0 + r))) (elemVal tb (bElem b wb r j))
    let p0 := sumFV prods
    let p := if ta ≥ 8 then
        fmul (fmul p0 (scaleVal (natBits asc (32 * i + 8 * (k0 / 32)) 8))) (scaleVal (natBits csc (8 * j) 8))
      else p0
    fenc fmtF32 (fadd (fdec fmtF32 old) p)

/-- The whole accumulator after one tmac or tmacz (R186). -/
def macAll (ta tb imm6 : Nat) (zero : Bool) (abuf asc b csc acc : Nat) : BitVec 65536 :=
  BitVec.ofNat 65536 (packBits 32 ((upto 2048).map fun e =>
    macElem ta tb imm6 abuf asc b csc (if zero then 0 else natBits acc (32 * e) 32) (e / 64) (e % 64)))

/-- tlda and tldsc (R181): a copy begins, none of its lines read yet. -/
def startCopy (c : CoreSt) (scale : Bool) (buf : BitVec 1) (src : Nat) : CoreSt :=
  { c with acopies := (c.acopies.map fun q => if q.buf == buf then { q with later := true } else q) ++
      [⟨buf, scale, src, upto (if scale then 2 else 32), c.cycle, false⟩] }

/-- May the stream port read for the copy `q`, before which the copies `pre` stand, in cycle `now`? Not before an earlier copy into the
same buffer is complete, nor while the array still reads the buffer (R181, R187). -/
def copyMayRead (c : CoreSt) (now : Nat) (pre : List ACopy) (q : ACopy) : Bool :=
  !(pre.any fun x => x.buf == q.buf && x.scale == q.scale) && !(decide (now < c.arrayFree) && decide (c.arrayBuf = q.buf.toNat))

/-- In cycle `now` the stream port reads line `l` of the `n`-th pending copy into its buffer; the copy is complete with its last line. -/
def copyRead (s : State) (g now n l : Nat) : State :=
  let c := s.core g
  let pre := c.acopies.take n
  match c.acopies.drop n with
  | [] => s
  | q :: post =>
    if !q.late.contains l || !copyMayRead c now pre q then s
    else
      let v := s.rd (dmAddr g (q.src + 64 * l)) 64
      let late := q.late.filter fun x => decide (x ≠ l)
      let c1 := { c with acopies := pre ++ (if late = [] then [] else [{ q with late := late }]) ++ post }
      s.setCore g (if q.scale then
          { c1 with ascale := sset 0 c.ascale q.buf.toNat (BitVec.ofNat 1024 (natPut (sget 0 c.ascale q.buf.toNat).toNat (512 * l) 512 v)) }
        else
          { c1 with abuf := sset 0 c.abuf q.buf.toNat (BitVec.ofNat 16384 (natPut (sget 0 c.abuf q.buf.toNat).toNat (512 * l) 512 v)) })

/-- The 64-byte lines of the B stream in the stream buffer, which holds four (R85). -/
def bLines (bs : List BChunk) : Nat := (bs.map fun x => boolNat x.lo.isSome + boolNat x.hi.isSome).sum

/-- Is a chunk wholly in the stream buffer? -/
def BChunk.ready (x : BChunk) : Bool := x.lo.isSome && x.hi.isSome

/-- The chunks with the line `v` at the place of the first line not yet read. -/
def bFill (read : Nat → BitVec 512) : List BChunk → List BChunk
  | [] => []
  | x :: rest =>
    if x.lo.isNone then { x with lo := some (read x.addr) } :: rest
    else if x.hi.isNone then { x with hi := some (read (x.addr + 64)) } :: rest
    else x :: bFill read rest

/-- The stream port reads the next line of the B stream, where the stream buffer has room (R182, R183). -/
def streamRead (s : State) (g : Nat) : State :=
  let c := s.core g
  if bLines c.bstream ≥ 4 then s
  else s.setCore g { c with bstream := bFill (fun a => BitVec.ofNat 512 (s.rd (dmAddr g a) 64)) c.bstream }

/-- tldb (R182): the stream's chunks follow the earlier stream's. -/
def startStream (c : CoreSt) (addr n : Nat) : CoreSt :=
  { c with bstream := c.bstream ++ (upto n).map fun i => ⟨addr + 128 * i, none, none⟩ }

/-- Take the next chunk of the B stream: its 128 bytes, and the core without it. -/
def takeChunk (c : CoreSt) : Nat × CoreSt :=
  match c.bstream with
  | [] => (0, c)
  | x :: rest => ((x.lo.getD 0).toNat + (x.hi.getD 0).toNat * 2 ^ 512, { c with bstream := rest })

/-- tmac and tmacz (R186, R187). [DEDUCED, assumption 33, unsafe] -/
def tmacApply (c0 : CoreSt) (zero : Bool) (f : TF) : CoreSt :=
  let buf := f.imm5.toNat % 2
  let (b, c) :=
    if f.imm5.getLsbD 1 then takeChunk c0 else ((c0.vr f.a).toNat + (c0.vr f.b).toNat * 2 ^ 512, c0)
  let v := macAll f.ta.toNat f.tb.toNat f.imm6.toNat zero (sget 0 c.abuf buf).toNat (sget 0 c.ascale buf).toNat b
    (c.vr f.c).toNat (sget 0 c.acc f.acc.toNat).toNat
  { (c.push 6 (.acc f.acc) v) with
    acc := sset 0 c.acc f.acc.toNat v, arrayFree := c.cycle + tArray f.ta.toNat, arrayBuf := buf }

/-- One accumulator element moved out (R188). -/
def tmovElem (ta tb x ss : Nat) : Nat :=
  if ta = 3 then satN (laneWidth tb) (rsh (sInt 32 x) (ss % 32))
  else
    let e := sInt 8 ss
    let v := match fdec fmtF32 x with
      | .fin n m k => FV.fin n m (k + e)
      | y => y
    match tb with
    | 1 => fToInt 8 v
    | 2 => fToInt 16 v
    | 4 => fToFp8 fmtE4M3 v
    | 5 => fToFp8 fmtE5M2 v
    | 6 => fenc fmtBf16 v
    | _ => fenc fmtF32 v

/-- tmov's register (R188). -/
def tmovVal (c : CoreSt) (f : TF) : Vec :=
  let tb := f.tb.toNat
  let w := laneWidth tb
  let n := 512 / w
  let p := f.imm6.toNat % 4
  let acc := (sget 0 c.accVis f.acc.toNat).toNat
  mkLanes w fun l => tmovElem f.ta.toNat tb (natBits acc (32 * (64 * f.imm5.toNat + n * p + l)) 32) (c.sr f.s).toNat

/-- Clear one accumulator: the array forwards the zero at once and other readers see it 2 cycles later (R187, R189);
an earlier tmac's value due after that is no longer the accumulator's. [DEDUCED, assumption 33, unsafe] -/
def clearAcc (c : CoreSt) (r : BitVec 3) : CoreSt :=
  let keep := c.pend.filter fun p => !(p.dest == .acc r && decide (p.due > c.cycle + 2))
  ({ c with pend := keep, acc := sset 0 c.acc r.toNat 0 }).push 2 (.acc r) 0

/-- tclr (R189). -/
def tclrApply (c : CoreSt) (f : TF) : CoreSt :=
  if f.imm5.getLsbD 0 then (upto 8).foldl (fun a i => clearAcc a (BitVec.ofNat 3 i)) c else clearAcc c f.acc

/-- The effect of a T-slot operation outside the similarity queue. -/
def tApply (c : CoreSt) (o : TOp) (f : TF) : CoreSt :=
  match o with
  | .tlda => startCopy c false (f.imm5.setWidth 1) (c.sr f.s).toNat
  | .tldsc => startCopy c true (f.imm5.setWidth 1) (c.sr f.s).toNat
  | .tldb => startStream c (c.sr f.s).toNat (f.imm6.toNat + 1)
  | .tmac => tmacApply c false f
  | .tmacz => tmacApply c true f
  | .tmov => c.pushV 4 f.a (tmovVal c f)
  | .tclr => tclrApply c f

end Sys2Proof.Machine
end

