-- ==== Sys2Proof/Machine/Scalar.lean ====
section
/-! DEFINITION. The scalar integer and logic results (R158), branch conditions (R139), and the values of the control
instructions (R160, R82). -/

namespace Sys2Proof.Machine

/-- `true` is the word 1. -/
def boolWord (b : Bool) : Word := if b then 1 else 0

/-- Leading zeros of a word, counted from bit `n - 1` down. -/
def clzGo (x : Word) : Nat → Nat
  | 0 => 0
  | n + 1 => if x.getLsbD n then 0 else 1 + clzGo x n

/-- Ones in the low `n` bits. -/
def popGo (x : Nat) : Nat → Nat
  | 0 => 0
  | n + 1 => x / 2 ^ n % 2 + popGo x n

/-- The result of a format SR operation on `sa` and `sb` (R158). -/
def aluVal (o : SAlu) (a b : Word) : Word :=
  match o with
  | .add => a + b
  | .sub => a - b
  | .and => a &&& b
  | .or => a ||| b
  | .xor => a ^^^ b
  | .shl => a <<< (b.toNat % 64)
  | .shr => a >>> (b.toNat % 64)
  | .sra => a.sshiftRight (b.toNat % 64)
  | .mul => a * b
  | .mulh => ((a.signExtend 128 * b.signExtend 128) >>> 64).setWidth 64
  | .mulhu => ((a.setWidth 128 * b.setWidth 128) >>> 64).setWidth 64
  | .slt => boolWord (a.slt b)
  | .sltu => boolWord (a.ult b)
  | .seq => boolWord (a == b)
  | .min => if a.slt b then a else b
  | .max => if a.slt b then b else a
  | .minu => if a.ult b then a else b
  | .maxu => if a.ult b then b else a
  | .clz => BitVec.ofNat 64 (clzGo a 64)
  | .popc => BitVec.ofNat 64 (popGo a.toNat 64)

/-- The latency of a format SR operation (R158). -/
def aluLat (o : SAlu) : Nat :=
  match o with
  | .mul | .mulh | .mulhu => 3
  | _ => 1

/-- The result of a format SI operation (R158): imm30 sign-extended, a shift count in its low 6 bits. -/
def aluiVal (o : SAluI) (a : Word) (imm : BitVec 30) : Word :=
  let x : Word := imm.signExtend 64
  let n := imm.toNat % 64
  match o with
  | .addi => a + x
  | .andi => a &&& x
  | .ori => a ||| x
  | .xori => a ^^^ x
  | .shli => a <<< n
  | .shri => a >>> n
  | .srai => a.sshiftRight n
  | .slti => boolWord (a.slt x)
  | .sltui => boolWord (a.ult x)
  | .muli => a * x

/-- The latency of a format SI operation. -/
def aluiLat (o : SAluI) : Nat := if o = .muli then 3 else 1

/-- Is the branch taken (R139)? -/
def condVal (c : Cond) (a b : Word) : Bool :=
  match c with
  | .eq => a == b
  | .ne => a != b
  | .lt => a.slt b
  | .ge => !a.slt b
  | .ltu => a.ult b
  | .geu => !a.ult b

/-- The control register of R82 numbered `n` of core `g` in stand `i`; 9 to 15 read zero. -/
def crVal (s : State) (i g n : Nat) : Word :=
  let x := s.stand i
  match n with
  | 0 => BitVec.ofNat 64 g
  | 1 => BitVec.ofNat 64 i
  | 2 => BitVec.ofNat 64 (towerOf g)
  | 3 => BitVec.ofNat 64 (rowOf g)
  | 4 => BitVec.ofNat 64 (colOf g)
  | 5 => x.beat
  | 6 => BitVec.ofNat 64 x.copy.beatLen
  | 7 => x.copy.param
  | 8 => x.copy.bl.setWidth 64
  | _ => 0

end Sys2Proof.Machine
end

