-- ==== Sys2Proof/Machine/Vector.lean ====
section
/-! DEFINITION. The vector results (R167 to R179). -/

namespace Sys2Proof.Machine

/-- The floating format of a lane type. -/
def laneFmt (ty : Nat) : Fmt := if ty = 6 then fmtBf16 else fmtF32

/-- One lane of an element-wise integer operation (R168). -/
def vIntLane (o : VOp) (sat : Bool) (w a b : Nat) : Nat :=
  let x := sInt w a
  let y := sInt w b
  let fin := fun v : Int => if sat then satN w v else wrapN w v
  let n := b % w
  match o with
  | .vadd => fin (x + y)
  | .vsub => fin (x - y)
  | .vmul => fin (x * y)
  | .vmin => if x < y then a else b
  | .vmax => if x < y then b else a
  | .vabs => fin (if x < 0 then -x else x)
  | .vneg => fin (-x)
  | .vshl => fin (x * 2 ^ n)
  | .vshr => a % 2 ^ w / 2 ^ n
  | .vsra => wrapN w (x / 2 ^ n)
  | _ => 0

/-- One lane of an element-wise floating operation (R105 to R107, R168, R169). -/
def vFltLane (o : VOp) (f : Fmt) (a b c : Nat) : Nat :=
  let x := fdec f a
  let y := fdec f b
  match o with
  | .vadd => fenc f (fadd x y)
  | .vsub => fenc f (fadd x (fneg y))
  | .vmul => fenc f (fmul x y)
  | .vfma => fenc f (fadd (fmul x y) (fdec f c))
  | .vmin => fenc f (fmin x y)
  | .vmax => fenc f (fmax x y)
  | .vabs => match x with
    | .nan => fnan f
    | .inf _ => finf f false
    | .fin _ m e => fenc f (.fin false m e)
  | .vneg => match x with
    | .nan => fnan f
    | _ => fenc f (fneg x)
  | .vexp => sfExp f x
  | .vrcp => sfRcp f x
  | .vrsqrt => sfRsqrt f x
  | .vtanh => sfTanh f x
  | .vgelu => sfGelu f x
  | _ => 0

/-- An element-wise result over all lanes. -/
def vElem (c : CoreSt) (o : VOp) (f : VF) : Vec :=
  let ty := f.ty.toNat
  let w := laneWidth ty
  let va := c.vr f.a
  let vb := c.vr f.b
  let vc := c.vr f.c
  match o with
  | .vand => va &&& vb
  | .vor => va ||| vb
  | .vxor => va ^^^ vb
  | _ => mkLanes w fun i =>
    if isFlt f.ty then vFltLane o (laneFmt ty) (lane w va i) (lane w vb i) (lane w vc i)
    else vIntLane o f.sat w (lane w va i) (lane w vb i)

/-- The latency of an element-wise operation on its type (R168, R174). -/
def vElemLat (o : VOp) (f : VF) : Nat :=
  match o with
  | .vadd | .vsub => if isFlt f.ty then 4 else 2
  | .vmul | .vfma => 4
  | .vexp | .vrcp | .vrsqrt | .vtanh | .vgelu => 8
  | _ => 2

/-- Does a compare hold of a lane (R170)? -/
def vCmpLane (o : VOp) (ty : BitVec 4) (a b : Nat) : Bool :=
  if isFlt ty then
    let x := fdec (laneFmt ty.toNat) a
    let y := fdec (laneFmt ty.toNat) b
    match o with
    | .vcmpeq => feq x y
    | .vcmpne => !feq x y
    | .vcmplt => flt x y
    | _ => flt x y || feq x y
  else
    let w := laneWidth ty.toNat
    let x := sInt w a
    let y := sInt w b
    match o with
    | .vcmpeq => decide (x = y)
    | .vcmpne => decide (x ≠ y)
    | .vcmplt => decide (x < y)
    | _ => decide (x ≤ y)

/-- A compare's predicate: every bit of a lane takes its result, and a masked-off lane's bits are kept or cleared. -/
def vCmp (c : CoreSt) (o : VOp) (f : VF) : Word :=
  let w := laneWidth f.ty.toNat
  let old := c.kr (f.d.setWidth 3)
  let n := w / 8
  BitVec.ofNat 64 (packBits n ((upto (512 / w)).map fun i =>
    let r := if vCmpLane o f.ty (lane w (c.vr f.a) i) (lane w (c.vr f.b) i) then 2 ^ n - 1 else 0
    if admits c f.mask w i then r else if f.z then 0 else natBits old.toNat (n * i) n))

/-- A predicate operation (R171). -/
def kVal (c : CoreSt) (o : VOp) (f : VF) : Word :=
  let x := c.kr (f.a.setWidth 3)
  let y := c.kr (f.b.setWidth 3)
  match o with
  | .kand => x &&& y
  | .kor => x ||| y
  | .kxor => x ^^^ y
  | _ => ~~~x

/-- A lane-movement result before the mask (R172, R179). -/
def vMove (c : CoreSt) (o : VOp) (f : VF) : Vec :=
  let w := laneWidth f.ty.toNat
  let n := 512 / w
  let va := c.vr f.a
  let vb := c.vr f.b
  let i6 := f.imm6.toNat
  match o with
  | .vbcast => mkLanes w fun _ => lane w va (i6 % n)
  | .vperm => mkLanes w fun i => lane w va (lane w vb i % n)
  | .vshuf => mkLanes w fun i =>
    let j := lane w (c.vr f.c) i % (2 * n)
    if j < n then lane w va j else lane w vb (j - n)
  | .vrot => mkLanes w fun i => lane w va ((i + (c.sr f.s).toNat + i6) % n)
  | .vins => mkLanes w fun i => if i = i6 % n then (c.sr f.s).toNat % 2 ^ w else lane w (c.vr f.d) i
  | .vmov => va
  | _ => mkLanes w fun _ => (c.sr f.s).toNat % 2 ^ w

/-- vext: a lane as a scalar, integer types sign-extended (R172). -/
def vExt (c : CoreSt) (f : VF) : Word :=
  let w := laneWidth f.ty.toNat
  let x := lane w (c.vr f.a) (f.imm6.toNat % (512 / w))
  if isInt f.ty then BitVec.ofInt 64 (sInt w x) else BitVec.ofNat 64 x

/-- One level of the fixed binary tree: lanes 2i and 2i + 1 combined, a single admitted child passed on (R116, R173). -/
def treeLevel : List (Option Nat) → List (Option Nat)
  | a :: b :: rest =>
    (match a, b with
      | some x, some y => some (f32add x y)
      | some x, none => some x
      | none, y => y) :: treeLevel rest
  | l => l

/-- The root of the tree over `2^n` lanes. -/
def treeRoot : Nat → List (Option Nat) → Option Nat
  | 0, l => l.headD none
  | n + 1, l => treeRoot n (treeLevel l)

/-- A bf16 or fp32 pattern widened exactly to fp32 (R112). -/
def widenF32 (ty x : Nat) : Nat := if ty = 6 then fenc fmtF32 (fdec fmtBf16 x) else fenc fmtF32 (fdec fmtF32 x)

/-- A horizontal reduction's lane 0 (R173). -/
def vReduce (c : CoreSt) (o : VOp) (f : VF) : Nat :=
  let ty := f.ty.toNat
  let w := laneWidth ty
  let n := 512 / w
  let xs := (upto n).map fun i => if admits c f.mask w i then some (lane w (c.vr f.a) i) else none
  let ys := xs.filterMap id
  match o with
  | .vrsum =>
    if isFlt f.ty then (treeRoot (Nat.log2 n) (xs.map fun o => o.map (widenF32 ty))).getD 0
    else wrapN 32 ((ys.map (sInt w)).sum)
  | _ =>
    let isMax := o == .vrmax
    if isFlt f.ty then
      let fm := laneFmt ty
      match ys.map (fdec fm) with
      | [] => finf fm isMax
      | y :: rest => fenc fm (rest.foldl (if isMax then fmax else fmin) y)
    else
      let lo : Int := -(2 ^ (w - 1))
      let hi : Int := 2 ^ (w - 1) - 1
      wrapN w ((ys.map (sInt w)).foldl (if isMax then max else min) (if isMax then lo else hi))

/-- vstat over the 16 groups (R175): the new sums and sums of squares. -/
def vStat (c : CoreSt) (f : VF) : Vec × Vec :=
  let ty := f.ty.toNat
  let w := laneWidth ty
  let per := 32 / w
  let grp := fun g : Nat =>
    (upto per).foldl (fun (p : Nat × Nat) j =>
      let i := per * g + j
      if admits c f.mask w i then
        let x := fdec fmtF32 (widenF32 ty (lane w (c.vr f.a) i))
        (fenc fmtF32 (fadd (fdec fmtF32 p.1) x), fenc fmtF32 (fadd (fdec fmtF32 p.2) (fmul x x)))
      else p) (lane 32 c.statSum g, lane 32 c.statSq g)
  (mkLanes 32 fun g => (grp g).1, mkLanes 32 fun g => (grp g).2)

/-- One lane converted from one lane type to another (R112, R177). -/
def cvtLane (src dst x : Nat) : Nat :=
  let ws := laneWidth src
  let wd := laneWidth dst
  let srcInt := src ≤ 3
  let dstInt := dst ≤ 3
  if srcInt && dstInt then (if wd ≥ ws then wrapN wd (sInt ws x) else satN wd (sInt ws x))
  else
    -- through fp32 where the pair is not in R112's table
    let v32 : Nat :=
      if srcInt then fenc fmtF32 (intToF (sInt ws x))
      else match src with
        | 7 => x
        | 6 => fenc fmtF32 (fdec fmtBf16 x)
        | 4 => fenc fmtF32 (fdec fmtE4M3 x)
        | _ => fenc fmtF32 (fdec fmtE5M2 x)
    let v := fdec fmtF32 v32
    if dstInt then fToInt wd v
    else match dst with
      | 7 => fenc fmtF32 v
      | 6 => fenc fmtBf16 v
      | 4 => fToFp8 fmtE4M3 v
      | _ => fToFp8 fmtE5M2 v

/-- vcvt: the register written (R177). -/
def vCvt (c : CoreSt) (f : VF) : Vec :=
  let src := f.imm8.toNat % 16
  let dst := f.ty.toNat
  let ws := laneWidth src
  let wd := laneWidth dst
  let ns := 512 / ws
  let nd := 512 / wd
  let p := f.imm6.toNat
  let va := c.vr f.a
  mkLanes wd fun i =>
    let conv : Option Nat :=
      if nd > ns then (if p * ns ≤ i ∧ i < p * ns + ns then some (cvtLane src dst (lane ws va (i - p * ns))) else none)
      else if nd < ns then some (cvtLane src dst (lane ws va (p * nd + i)))
      else some (cvtLane src dst (lane ws va i))
    match conv with
    | none => lane wd (c.vr f.d) i
    | some r => if admits c f.mask wd i then r else if f.z then 0 else lane wd (c.vr f.d) i

/-- vpackmx: the register and the scale byte (R178). -/
def vPackMx (c : CoreSt) (f : VF) : Vec × Word :=
  let xs := (upto 32).map fun i =>
    fdec fmtF32 (if i < 16 then lane 32 (c.vr f.a) i else lane 32 (c.vr f.b) (i - 16))
  let ty := f.ty.toNat
  let (bits, sc) := mxPack ty xs
  let n := 32 * tyWidth ty
  (BitVec.ofNat 512 (natPut (c.vr f.d).toNat (256 * (f.imm6.toNat % 2)) n bits), BitVec.ofNat 64 sc)

/-- The effect of a V-slot operation on the core (R167 to R179). A vsel copies the lanes it selects as they stand, NaN and subnormal
inputs too. [DEDUCED, assumption 132, unsafe] -/
def vApply (c : CoreSt) (o : VOp) (f : VF) : CoreSt :=
  let w := laneWidth f.ty.toNat
  match o with
  | .vadd | .vsub | .vmul | .vfma | .vmin | .vmax | .vabs | .vneg | .vand | .vor | .vxor | .vshl | .vshr | .vsra
  | .vexp | .vrcp | .vrsqrt | .vtanh | .vgelu => c.pushV (vElemLat o f) f.d (masked c f w (vElem c o f))
  | .vsel => c.pushV 2 f.d (mkLanes w fun i => if admits c f.mask w i then lane w (c.vr f.a) i else lane w (c.vr f.b) i)
  | .vcmpeq | .vcmpne | .vcmplt | .vcmple => c.pushK 2 (f.d.setWidth 3) (vCmp c o f)
  | .kand | .kor | .kxor | .knot => c.pushK 2 (f.d.setWidth 3) (kVal c o f)
  | .vbcast | .vperm | .vshuf | .vrot | .vins => c.pushV 3 f.d (masked c f w (vMove c o f))
  | .vext => c.pushS 3 f.d (vExt c f)
  | .vrsum | .vrmax | .vrmin => c.pushV 5 f.d (BitVec.ofNat 512 (vReduce c o f))
  | .vstat => let r := vStat c f; { c with statSum := r.1, statSq := r.2 }
  | .vstrd => c.pushV 2 f.d (if f.imm6.getLsbD 0 then c.statSq else c.statSum)
  | .vstclr => { c with statSum := 0, statSq := 0 }
  | .vcvt => c.pushV 3 f.d (vCvt c f)
  | .vpackmx => let r := vPackMx c f; (c.pushV 3 f.d r.1).pushS 3 f.s r.2
  | .vmov => c.pushV 2 f.d (masked c f w (vMove c o f))
  | .vsplat => c.pushV 3 f.d (masked c f w (vMove c o f))

end Sys2Proof.Machine
end

