-- ==== Sys2Proof/Machine/Issue.lean ====
section
/-! DEFINITION. Issue of a bundle (R88 to R91, R125, R126, R139 to R146, R159 to R166): what stalls it, what run-time
error it meets, what its operations do, and how the bundle sequence advances. -/

namespace Sys2Proof.Machine

/-! ### What stalls a bundle -/

/-- Does the operation use the core's row-bus path (R75, R78)? -/
def usesPath : SlotOp → Bool
  | .m .ld _ | .m .st _ | .m .vld _ | .m .vst _ | .m .mwait _ | .m .nistat _ | .m .wflag _ | .m .fence _ => false
  | .m _ _ => true
  | _ => false

/-- The requests that an operation puts into the core's row-bus link (R75). -/
def linkNeed (c : CoreSt) : SlotOp → Nat
  | .m .mcst f => (maskTiles (c.sr f.b).toNat).length
  | o => boolNat (usesPath o)

/-- Does the operation signal beat done, which waits until the core's link and crossing FIFO hold nothing of its own (R163,
R165, R166)? -/
def signals (s : State) (g : Nat) : SlotOp → Bool
  | .s .bdone | .s .stop => true
  | .s (.bwait a) => (s.core g).sr a = 0 || decide ((s.stand (s.standOf g)).beat.toNat < ((s.core g).sr a).toNat)
  | _ => false

/-- Tags that an operation tests or takes (R90, R208, R227). -/
def tagMask : SlotOp → Nat
  | .m .mwait f => f.imm.toNat % 256
  | .m .tsst f | .m .bmov f | .m .hmov f | .m .hxfer f => 2 ^ f.mt.toNat
  | _ => 0

/-- Scoreboard entries that an operation takes (R90, R210). -/
def sbNeed : SlotOp → Nat
  | .m .tsld _ => 1
  | .m o f => if o = .fence ∨ o = .wflag then 1 else if (mReplyDest o f).isSome then 1 else 0
  | .q .tkrd _ => 1
  | _ => 0

/-- Network-interface slots that an operation takes (R210). -/
def niNeed (c : CoreSt) : SlotOp → Nat
  | .m .mcst f => (maskTiles (c.sr f.b).toNat).length
  | .m o _ => if o = .rld ∨ o = .rst ∨ mAtomic o ∨ mReduction o then 1 else 0
  | _ => 0

/-- Do `n` operations wait for slots of the network interface (R210)? The slots are taken in turn: an operation waits for that of the one 64
before it (R231's example). [DEDUCED, assumption 159, unsafe] -/
def niWaits (c : CoreSt) (n : Nat) : Bool :=
  decide (0 < n) && (decide (64 < c.ni.length + n) || c.ni.any fun x => decide (x.num + 64 < c.niNext + n))

/-- Is every earlier remote operation to these tiles acknowledged or answered (R224)? -/
def fenceClear (c : CoreSt) (f : MF) : Bool :=
  let m := if f.b = 0 then 0xFFFF else (c.sr f.b).toNat % 2 ^ 16
  c.ni.all fun n => n.acked || !natBit m n.pkt.dst.toNat

/-- Has the awaited word reached `sb` (R225)? -/
def wflagMet (s : State) (g : Nat) (c : CoreSt) (f : MF) : Bool :=
  decide ((c.sr f.b).toNat % 2 ^ (8 * wBytes f.w) ≤ s.rd (dmAddr g (ea c f).toNat) (wBytes f.w)) &&
    decide ((c.sr f.b).toNat < 2 ^ (8 * wBytes f.w))

/-- Does a fence or flag wait of the bundle hold it back? An address fault does not wait. -/
def waitHeld (s : State) (g : Nat) (c : CoreSt) : SlotOp → Option WaitKind
  | .m .fence f => if fenceClear c f then none else some .fence
  | .m .wflag f => if mFault s (s.standOf g) c .wflag f || wflagMet s g c f then none else some .wflag
  | _ => none

/-- Is the core in a beat wait that is not met (R164)? Its next bundle is not yet at issue. [DEDUCED, assumption 20, unsafe] -/
def State.inBwait (s : State) (g : Nat) : Bool :=
  match (s.core g).bwait with
  | some t => decide ((s.stand (s.standOf g)).beat.toNat < t.toNat)
  | none => false

/-- Does a T-slot operation find the stream buffer without its operand (R85, R181, R182): a copy into its A buffer pending, its
chunk not wholly in the buffer, or an earlier stream not yet read to its end? -/
def streamHeld (c : CoreSt) : SlotOp → Bool
  | .t .tldb _ => c.bstream.any fun x => !x.ready
  | .t .tmac f | .t .tmacz f =>
    (c.acopies.any fun q => decide (q.buf.toNat = f.imm5.toNat % 2)) ||
      (f.imm5.getLsbD 1 && (match c.bstream with
        | x :: _ => !x.ready
        | [] => false))
  | _ => false

/-- The reasons that hold a bundle back now, as the counters of R494 number them; 40, which has no counter, is a beat-done
signal that waits for its drain. [DEDUCED, assumption 20, unsafe] -/
def stallReasons (s : State) (g : Nat) (ops : List SlotOp) : List Nat :=
  let c := s.core g
  let regs := ops.flatMap fun o => o.reads ++ o.dests
  let inUse := c.sb.length + boolNat c.waiting.isSome
  let need := (ops.map sbNeed).sum - boolNat c.waiting.isSome
  let tags := (ops.map tagMask).sum
  let isM := ops.any fun o => o.slot == 3
  let sbHeld := (c.sb.any fun e => regs.any fun d => d == e.dest) || decide (need > 0 ∧ inUse + need > 16) ||
    ((upto 8).any fun t => natBit tags t && (sget ⟨false, 0⟩ c.tags t).pending)
  if s.inBwait g then [14]
  else
  (if sbHeld then [7] else []) ++
  (if ops.any (streamHeld c) then [8] else []) ++
  (if (ops.any fun o => match o with
      | .q .. => true
      | _ => false) && decide (c.simQueue.length ≥ 8) then [9] else []) ++
  (if ops.any fun o => match o with
      | .t .tmac _ | .t .tmacz _ => decide (c.cycle < c.arrayFree) || c.simQueue.any fun e => e.op == .msim
      | _ => false then [10] else []) ++
  (if (s.region (rowRegion g)).outHigh ∧ ops.any usesPath then [11] else []) ++
  (if niWaits c (ops.map (niNeed c)).sum then [12] else []) ++
  (if (ops.any fun o => o == .s .stop) && !c.ni.isEmpty then [12] else []) ++
  (if !c.done && s.undrained g && ops.any (signals s g) then [40] else []) ++
  (if c.done && isM then [13] else []) ++
  (if ops.any fun o => (waitHeld s g c o).isSome then [31] else [])

/-! ### Run-time errors at issue -/

/-- The address check of the stream operands (R181, R182, R191, R193, R194): true where code 0x0D applies. -/
def streamFault (c : CoreSt) : SlotOp → Bool
  | .t .tlda f => let a := (c.sr f.s).toNat; decide (a % 64 ≠ 0) || decide (a + 2048 > dmBytes)
  | .t .tldsc f => let a := (c.sr f.s).toNat; decide (a % 64 ≠ 0) || decide (a + 128 > dmBytes)
  | .t .tldb f => let a := (c.sr f.s).toNat; decide (a % 64 ≠ 0) || decide (a + 128 * (f.imm6.toNat + 1) > dmBytes)
  | .q .qld f => let a := (c.sr f.s).toNat; decide (a % 64 ≠ 0) || decide (a + 4096 > dmBytes)
  | .q .dseg f =>
    let v := (c.sr f.s).toNat
    let a := natBits v 0 18
    let n := natBits v 32 16
    decide (natBits v 18 14 ≠ 0) || decide (v ≥ 2 ^ 48) || decide (a % 8 ≠ 0) || decide (n = 0) ||
      decide (a + 8 * n > dmBytes)
  | .q .msim f =>
    let v := (c.sr f.s).toNat
    let a := natBits v 0 18
    let n := natBits v 32 16
    let size := if f.ta = 14 then 34 else 16
    decide (natBits v 18 14 ≠ 0) || decide (v ≥ 2 ^ 48) || decide (n = 0) || (f.ta == 15 && decide (a % 16 ≠ 0)) ||
      decide (a + size * n > dmBytes)
  | _ => false

/-- The bytes of a centroid table with its trailer (R118, R192). -/
def tableBytes : Nat := 0x80_0040

/-- The run-time error codes that one operation meets at issue (R145, R201, R205, R227, R244). -/
def opErrors (s : State) (g : Nat) (c : CoreSt) (o : SlotOp) : List Nat :=
  let i := s.standOf g
  (match o with
    | .s (.jr a) => if (c.sr a).toNat ≥ c.progLen then [0x0A] else []
    | .s (.lp a _) => if (c.sr a).toNat % 2 ^ 32 ≥ 1 ∧ c.loops.length ≥ 4 then [0x0B] else []
    | .s (.lpi n _) => if n.toNat ≥ 1 ∧ c.loops.length ≥ 4 then [0x0B] else []
    | .q .cbind f =>
      let a := (c.sr f.s).toNat
      if a % 64 ≠ 0 ∨ a ≥ 2 ^ 27 ∨ a + tableBytes > towerBytes then [0x0E] else []
    | .t .tmac f | .t .tmacz f => if f.imm5.getLsbD 1 ∧ c.bstream = [] then [0x0F] else []
    | .m m f =>
      (if mFault s i c m f then [0x11] else []) ++
        (if m = .hxfer ∧ (s.stand i).copy.hxCore ≠ g then [0x12] else []) ++
        (if s.inClearing i ∧ !mClearOk s i g c m f then [0x17] else [])
    | _ => []) ++ (if streamFault c o then [0x0D] else [])

/-- Does the bundle touch the reply register of a beat-ordered atomic of this beat (R221)? -/
def earlyAccess (s : State) (g : Nat) (ops : List SlotOp) : Bool :=
  let c := s.core g
  let beat := (s.stand (s.standOf g)).beat
  let regs := ops.flatMap fun o => o.reads ++ o.dests
  c.sb.any fun e => e.boBeat == some beat && regs.any fun d => d == e.dest

/-- Every run-time error code the bundle meets. Code 0x09 leaves out a bundle to which a branch, a loop or jr led, which is
zero beyond the program (R145, R147); there is none beyond program memory. [DEDUCED, assumption 31, safe] -/
def issueErrors (s : State) (g : Nat) (ops : List SlotOp) : List Nat :=
  let c := s.core g
  (if c.pc ≥ c.progLen ∧ (!c.led ∨ c.pc ≥ 2048) then [0x09] else []) ++ ops.flatMap (opErrors s g c) ++
    (if earlyAccess s g ops then [0x15] else [])

/-! ### What the operations do -/

/-- Signal beat done (R163). -/
def CoreSt.signal (c : CoreSt) : CoreSt := { c with done := true }

/-- The loop iterations that remain after the current one (R142). -/
def CoreSt.lcnt (c : CoreSt) : Nat :=
  match c.loops with
  | [] => 0
  | l :: _ => l.left - 1

/-- GTC at the tile of core `g`: tile 0's own; another tile's runs before it or behind it by less than half a tick (R161, R429), so
that a read there may find the next or the last value, as a free bit says, but never one below an earlier read of that
tile, nor, for the stand's own edges, outside the time between two of them, nor at an edge of a run that has not come; and within one tick of tile 0 no read finds the next value
where another found the last. Places 16 and 17 of `tileGtc` keep the tick in which one found the next, or the last. [DEDUCED, assumption 32, unsafe] -/
def State.tileTime (s : State) (g : Nat) : Word × State :=
  let t := tileOf g
  if t = 0 then (s.gtc, s)
  else
    let (b, s1) := s.takeBit
    let x := s.stand (s.standOf g)
    let edge := x.copy.start.toNat + x.grid * x.copy.beatLen
    let ahead := Config.tileAhead t
    let off := b && sget 0 s.tileGtc (if ahead then 17 else 16) != s.gtc + 1
    let raw := if !off then s.gtc.toNat else if ahead then s.gtc.toNat + 1 else s.gtc.toNat - 1
    let edges := ((upto 16).filter s.inRun).map fun i =>
      (s.stand i).copy.start.toNat + (s.stand i).grid * (s.stand i).copy.beatLen
    let now := max (max (if edges.any fun e => decide (s.gtc.toNat < e) && decide (e ≤ raw) then s.gtc.toNat else raw)
      (edge - x.copy.beatLen)) (sget 0 s.tileGtc t).toNat
    let m := sset 0 s1.tileGtc t (BitVec.ofNat 64 now)
    (BitVec.ofNat 64 now, { s1 with tileGtc := if off then sset 0 m (if ahead then 16 else 17) (s.gtc + 1) else m })

/-- The effect of an S-slot operation, the bundle sequence apart (R158 to R166). [DEDUCED, assumption 32, unsafe] -/
def sApply (s : State) (g : Nat) (x : SOp) : State :=
  let c := s.core g
  let i := s.standOf g
  let st := s.stand i
  match x with
  | .alu o d a b => s.setCore g (c.pushS (aluLat o) d (aluVal o (c.sr a) (c.sr b)))
  | .alui o d a imm => s.setCore g (c.pushS (aluiLat o) d (aluiVal o (c.sr a) imm))
  | .sliw d imm => s.setCore g (c.pushS 1 d (imm.signExtend 64))
  | .slih d imm => s.setCore g (c.pushS 1 d (imm ++ (c.sr d).setWidth 32))
  | .jmp _ | .br .. | .jr _ | .lp .. | .lpi .. => s
  | .jal d _ => s.setCore g (c.pushS 1 d (BitVec.ofNat 64 (c.pc + 3)))
  | .lcnt d => s.setCore g (c.pushS 1 d (BitVec.ofNat 64 c.lcnt))
  | .rdcr d sel => s.setCore g (c.pushS 1 d (crVal s i g (sel.toNat % 16)))
  | .rdgtc d sel =>
    let (now, s1) := s.tileTime g
    s1.setCore g (c.pushS 1 d (if sel.getLsbD 0 then now - st.lastEdge else now))
  | .rdhw d sel => s.setCore g (c.pushS 1 d (sget 0 st.hostWords (sel.toNat % 16)))
  | .evt sel => (s.coreCount g 35 1).setCore g { c with evtReq := c.evtReq || sel.getLsbD 0 }
  | .bwait a =>
    let target := if c.sr a = 0 then st.beat + 1 else c.sr a
    if target.toNat ≤ st.beat.toNat then s
    else (s.coreCount g 15 (boolNat !c.done)).setCore g { c.signal with bwait := some target }
  | .bdone => (s.coreCount g 15 (boolNat !c.done)).setCore g c.signal
  | .stop => (s.coreCount g 15 (boolNat !c.done)).setCore g { c.signal with ended := true, running := false }

/-- Queue a similarity instruction with its operands (R180, R190). [DEDUCED, assumption 23, unsafe] -/
def qApply (s : State) (g : Nat) (o : QOp) (f : TF) : State :=
  let c := s.core g
  -- a copy that a later copy into its buffer follows is complete when a tkrd issued after it returns (R181)
  let waits := if o = .tkrd then (c.acopies.filter fun q => q.later).map (·.issued) else []
  let e : SimEnt := ⟨o, f, c.vr f.a, c.sr f.s, c.pc, [], waits⟩
  let sb := if o = .tkrd then [SbEnt.mk (.v f.a) .topk none] else []
  s.setCore g { c with simQueue := c.simQueue ++ [e], sb := c.sb ++ sb }

/-- The counters of R494 that an operation's issue counts. -/
def issueCounts (c : CoreSt) : SlotOp → List (Nat × Nat)
  | .s _ => [(3, 1)]
  | .v _ _ => [(4, 1)]
  | .t o _ => (5, 1) :: (match o with
    | .tmac | .tmacz => [(16, 1)]
    | .tmov => [(17, 1)]
    | _ => [])
  | .q _ _ => [(5, 1)]
  | .m o f => (6, 1) :: (match o with
    | .tsld => [(22, 1)]
    | .tsst => [(23, 1)]
    | .bmov => [(if natBit (c.sr f.b).toNat 32 then 23 else 22, (c.sr f.b).toNat % 2 ^ 32 / 64)]
    | .rld => [(25, 1)]
    | .rst => [(26, 1)]
    | .mcst => [(29, (maskTiles (c.sr f.b).toNat).length)]
    | .fence => [(30, 1)]
    | _ => if mAtomic o then [(27, 1)] else if mReduction o then [(28, 1)] else [])

/-- The effect of one operation of an issuing bundle. -/
def opApply (s : State) (g : Nat) (o : SlotOp) : State :=
  match o with
  | .s x => sApply s g x
  | .v v f => s.setCore g (vApply (s.core g) v f)
  | .t t f => s.setCore g (tApply (s.core g) t f)
  | .q q f => qApply s g q f
  | .m m f => mApply s g m f

/-! ### The bundle sequence -/

/-- Where a branch of the bundle leads when taken (R139, R140). -/
def branchOf (c : CoreSt) : SOp → Option Nat
  | .jmp t | .jal _ t => some t.toNat
  | .br k a b t => if condVal k (c.sr a) (c.sr b) then some t.toNat else none
  | .jr a => some ((c.sr a).toNat % 2048)
  | _ => none

/-- The loop a bundle opens (R141): its end and count. -/
def loopOf (c : CoreSt) : SOp → Option (Nat × Nat)
  | .lp a e => some (e.toNat, (c.sr a).toNat % 2 ^ 32)
  | .lpi n e => some (e.toNat, n.toNat)
  | _ => none

/-- Loops whose body does not hold bundle `t` are popped (R143). -/
def popFor (t : Nat) (ls : List LoopEnt) : List LoopEnt := ls.filter fun l => decide (l.start ≤ t) && decide (t ≤ l.last)

/-- After bundle `pc` the innermost loop, if that is its end, counts down, and pops when no iteration remains (R142). -/
def countDown (pc : Nat) (ls : List LoopEnt) : List LoopEnt :=
  match ls with
  | [] => []
  | l :: rest => if l.last = pc then (if l.left ≤ 1 then rest else { l with left := l.left - 1 } :: rest) else ls

/-- The next bundle after the present one, with the loops that remain (R141, R142). -/
def seqNext (pc : Nat) (ls : List LoopEnt) : Nat × List LoopEnt :=
  match ls with
  | [] => (pc + 1, [])
  | l :: rest =>
    if l.last = pc then
      if l.left ≤ 1 then (pc + 1, rest) else (l.start, { l with left := l.left - 1 } :: rest)
    else (pc + 1, ls)

/-- Advance the bundle sequence past a bundle with scalar operation `x` (R139 to R143). The loops that a taken branch leaves are
popped as its target comes up for issue, so that a loop instruction there finds them gone (code 0x0B). A loop of count 0
in the end bundle of the innermost loop lets that loop count down and leads on past its own end; one of a greater count there opens its
loop, and the outer one does not count down. [DEDUCED, assumption 31, safe] -/
def advance (c : CoreSt) (x : Option SOp) : CoreSt :=
  match c.delay with
  | some (n, t) =>
    if n ≤ 1 then { c with delay := none, pc := t, led := true, loops := popFor t c.loops }
    else { c with delay := some (n - 1, t), pc := c.pc + 1, led := false }
  | none =>
    match x.bind (loopOf c) with
    | some (e, n) =>
      if n = 0 then { c with pc := e + 1, led := true, loops := countDown c.pc c.loops }
      else { c with pc := c.pc + 1, led := false, loops := ⟨c.pc + 1, e, n⟩ :: c.loops }
    | none =>
      match x.bind (branchOf c) with
      | some t => { c with delay := some (2, t), pc := c.pc + 1, led := false }
      | none =>
        let r := seqNext c.pc c.loops
        { c with pc := r.1, led := decide (r.1 ≠ c.pc + 1), loops := r.2 }

/-! ### Issue -/

/-- The bank of data memory that a bundle's M-slot access takes, which is served before the stream port's (R84). -/
def mBank (c : CoreSt) (ops : List SlotOp) : Option Nat :=
  ops.findSome? fun o => match o with
    | .m m f => if m = .ld ∨ m = .st ∨ m = .vld ∨ m = .vst ∨ m = .wflag then some ((ea c f).toNat / 64 % 32) else none
    | _ => none

/-- The bundle issues: its operations act on the state it found, lowest slot first (R88), and the sequence advances. A beat-done signal and an
M-slot request of one bundle go together: the request enters the link in the cycle of the signal. [DESIGN CHOICE, assumption 162, unsafe] -/
def issueGo (s : State) (e : Iss) (ops : List SlotOp) : State :=
  let c0 := s.core e.g
  let counts := ops.flatMap (issueCounts c0)
  let idle := e.idle.toNat
  let s1 := ((s.coreCount e.g 0 (1 + idle)).coreCount e.g 1 1).coreCount e.g 2 idle
  let s2 := counts.foldl (fun a p => a.coreCount e.g p.1 p.2) s1
  let s3 := s2.setCore e.g { s2.core e.g with waiting := none, waitHolds := 0 }
  let s4 := ops.foldl (fun a o => opApply a e.g o) s3
  let c1 := s4.core e.g
  -- branch conditions and loop counts are read in the issue cycle
  let seqd := advance c0 (sOf ops)
  -- what enters the core's link: its packets by name, any other request without one (R75)
  let new := c1.ni.drop c0.ni.length
  let names := if new.isEmpty then List.replicate (ops.map (linkNeed c0)).sum 0 else new.map fun n => pktKey n.pkt.dst n.pkt.seq
  let sent := names.map fun k => (c0.cycle + 7, k)
  let c2 := { c1 with pc := seqd.pc, led := seqd.led, loops := seqd.loops, delay := seqd.delay, staged := [],
                      cycle := c1.cycle + 1 + idle, active := true, sbStall := false, link := c1.link ++ sent }
  s4.setCore e.g (c2.clockOn (s.halfPattern e.g) (1 + idle)).settle

/-- The bundle stalls for one cycle (R90, R91). -/
def issueStall (s : State) (e : Iss) (ops : List SlotOp) (why : List Nat) : State :=
  -- a gated core is not in its run state (R99, R444)
  let s1 := (why.filter fun n => decide (n < 40)).foldl (fun a n => a.coreCount e.g n 1)
    (s.coreCount e.g 0 (boolNat (!(s.core e.g).gated)))
  let c := s1.core e.g
  -- a fence or flag wait takes its scoreboard entry once nothing else holds the bundle (R224, R225)
  let w := if why = [31] then ops.findSome? (waitHeld s e.g c) else c.waiting
  let c1 := { c with cycle := c.cycle + 1, staged := [], waiting := w, sbStall := why.contains 7,
                     active := c.active || why.contains 11 || why.contains 40 }
  s1.setCore e.g (c1.clockOn (s.halfPattern e.g) 1).settle

/-! ### The units beside the pipeline -/

/-- The similarity unit reads the line at `a` for the `n`-th instruction of its queue, the reading after `k` that it has; what it reads is
what the instruction finds there when it executes, poison included (R200, R381). -/
def simFetch (s : State) (g n a k : Nat) : State :=
  let c := s.core g
  s.setCore g { c with simQueue := (c.simQueue.take n) ++ (match c.simQueue.drop n with
    | [] => []
    | x :: rest => { x with got := x.got.take k ++ ⟨a, BitVec.ofNat 512 (s.rd a 64), s.poisoned a⟩ :: x.got.drop k } :: rest) }

/-- An access of a unit beside the pipeline in cycle `now`. A tower SRAM read of the similarity unit goes through the core's link and is
counted, and none does after its beat done (R199, R494). What comes into the row waits while the crossbar holds it, a line of a block move
leaves the row through its link, and each takes a place of a crossing FIFO (R78, R79). A line that a memory engine carries goes its own way. -/
def nearDo (s : State) (g now : Nat) (x : Near) : State :=
  match x with
  | .copy n l => copyRead s g now n l
  | .stream => streamRead s g
  | .sim n l k => if 64 * l < dmBytes then simFetch s g n (dmAddr g (64 * l)) k else s
  | .row n l k ecc =>
    if 64 * l < towerBytes ∧ !(s.core g).done ∧ !s.inwardHeld g ∧ n < (s.core g).simQueue.length then
      let s1 := (s.eccAt (.tower (towerOf g) (64 * l)) ecc).coreCount g 22 1
      let s2 := simFetch s1 g n (tsAddr (towerOf g) (64 * l)) k
      let c := s2.core g
      (s2.setCore g { c with link := c.link ++ [(c.cycle + 7, 0)] }).enterRow g true
    else s
  | .take mt l =>
    if ((s.core g).moveOn mt).any fun m => m.toFar && m.late.contains l && (s.carrier g m l).isNone then
      if (s.region (rowRegion g)).outHigh then s else (moveTake s g mt l).leaveRow g true
    else moveTake s g mt l
  | .put mt l =>
    if ((s.core g).moveOn mt).any fun m => !m.toFar && (m.held.any fun q => q.1 == l) && (s.carrier g m l).isNone then
      if s.inwardHeld g then s else (movePut s g mt l).enterRow g true
    else movePut s g mt l

/-- The readers of the stream port, in their order: the copies, the B stream, the query-tile load, segment entries, corpus records. -/
def portReader (c : CoreSt) : Near → Nat
  | .copy .. => 0
  | .stream => 1
  | .sim n _ _ => match c.simQueue[n]? with
    | some e => if e.op = .qld then 2 else if e.op = .msim then 4 else 3
    | none => 4
  | _ => 5

/-- Has a reader something to fetch in cycle `now`, and room for it? The unit's readers fetch what the head of its queue reads and has not
got. -/
def portWork (s : State) (g now : Nat) : Nat → Bool
  | 0 => let c := s.core g; c.acopies.zipIdx.any fun q => copyMayRead c now (c.acopies.take q.2) q.1
  | 1 => let c := s.core g; (c.bstream.any fun x => !x.ready) && decide (bLines c.bstream < 4)
  | r => match (s.core g).simQueue with
    | e :: _ => !(s.core g).simStopped && (match (simRun s g e (s.core g)).miss with
      | some m => m.1 == r
      | none => false)
    | [] => false

/-- Is it the turn of reader `r`: has none that comes before it, from the one after the last that was served, anything to fetch? -/
def portTurn (s : State) (g now r : Nat) : Bool :=
  let turn := (s.core g).turn
  (upto 5).all fun q => decide ((r + 5 - turn) % 5 ≤ (q + 5 - turn) % 5) || !portWork s g now q

/-- Does an access of the stream port find something to read: an unread line of a copy that may be read, room in the stream buffer, a line
for an instruction of the queue? -/
def portFinds (s : State) (g now : Nat) : Near → Bool
  | .copy n l => let c := s.core g; (c.acopies[n]?).any fun q => q.late.contains l && copyMayRead c now (c.acopies.take n) q
  | .stream => portWork s g now 1
  | .sim n l _ => decide (n < (s.core g).simQueue.length) && decide (64 * l < dmBytes)
  | _ => true

/-- The port of data memory that an access needs: 1 the stream port, 2 the row-bus port; 0 and 3 neither, a far line being read before and
written after the others. -/
def nearPort (c : CoreSt) : Near → Nat
  | .copy .. | .stream | .sim .. => 1
  | .row .. => 0
  | .take mt l => if c.movesOut mt l then 2 else 0
  | .put mt _ => if c.movesIn mt then 2 else 3

/-- The bank of data memory that an access needs. -/
def nearBank (c : CoreSt) : Near → Option Nat
  | .copy n l => (c.acopies[n]?).map fun q => (q.src / 64 + l) % 32
  | .stream => (c.bstream.find? fun x => !x.ready).map fun x => (x.addr / 64 + boolNat x.lo.isSome) % 32
  | .sim _ l _ => some (l % 32)
  | .row .. => none
  | .take mt l | .put mt l => (c.moveOn mt).map fun m => (m.loc.toNat / 64 + l) % 32

/-- Cycle `now` of the ports after the M slot's, which takes bank `bank` (R84, R85, R183): the stream port serves one line of the reader in
turn, then the row-bus port one line; each waits where its bank is taken. The state, the bank that the stream port took, and what is left. -/
def portCycle (s : State) (g now : Nat) (bank : Option Nat) (ss rs : List Near) : State × List Near × List Near :=
  let c := s.core g
  let clash := fun (b x : Option Nat) => b.isSome && b == x
  let (s1, used, ss1) := match ss.find? fun x => portFinds s g now x && portTurn s g now (portReader c x) with
    | some x =>
      if clash (nearBank c x) bank then (s, none, ss)
      else
        let y := nearDo s g now x
        (y.setCore g { y.core g with turn := (portReader c x + 1) % 5 }, nearBank c x, ss.erase x)
    | none => (s, none, ss)
  match rs with
  | [] => (s1, ss1, [])
  | x :: rest =>
    if clash (nearBank c x) bank || clash (nearBank c x) used then (s1, ss1, rs) else (nearDo s1 g now x, ss1, rest)

/-- The cycles of a command from `now` on, in the first of which the M slot takes bank `bank`. -/
def portCycles (g : Nat) : Nat → Nat → Option Nat → List Near → List Near → State → State
  | 0, _, _, _, _, s => s
  | n + 1, now, bank, ss, rs, s =>
    let r := portCycle s g now bank ss rs
    portCycles g n (now + 1) none r.2.1 r.2.2 r.1

/-- The accesses of the units beside the pipeline in a command's `cycles` cycles, of which `now` is the first. They come after the bundle's own
accesses; one that finds no cycle is not made. [DEDUCED, assumption 119, safe] -/
def nearAll (s : State) (g now cycles : Nat) (bank : Option Nat) (near : List Near) : State :=
  if near = [] then s
  else
    let of := fun k => near.filter fun x => nearPort (s.core g) x == k
    let s1 := (of 0).foldl (fun y x => nearDo y g now x) s
    (of 3).foldl (fun y x => nearDo y g now x) (portCycles g cycles now bank (of 1) (of 2) s1)

/-- The run-time error of the lowest code (R146): the bundle does not issue, nor does one after it, and the stand takes the
error. [DEDUCED, assumption 21, safe] -/
def issueError (s : State) (g code : Nat) : State :=
  let c := s.core g
  let s1 := s.setCore g { c with staged := [], halted := true }
  s1.standFatal (s.standOf g)
    { ErrInfo.plain 0 code with tile := some (tileOf g), site := some (siteOf g), gcore := some g, index := some c.pc }

/-- A bundle at issue: a run-time error 0x15 before any wait but a beat wait, then what stalls it, then its other run-time errors
(R146, R221). [DEDUCED, assumption 20, unsafe] -/
def issueTry (s : State) (e : Iss) (ops : List SlotOp) : State :=
  let errs := if s.inBwait e.g then [] else issueErrors s e.g ops
  let why := stallReasons s e.g ops
  if errs.contains 0x15 ∨ (why = [] ∧ errs ≠ []) then issueError s e.g (errs.foldl min 0xFF)
  else if why ≠ [] then nearAll (issueStall s e ops why) e.g (s.core e.g).cycle 1 none e.env.near
  else nearAll (issueGo s e ops) e.g (s.core e.g).cycle (1 + e.idle.toNat) (mBank (s.core e.g) ops) e.env.near

/-- What the detectors report with the bundle (R83, R87, R93), then the bundle, in its cycle of the row's region. [DESIGN CHOICE, assumption 5, unsafe] -/
def issueBundle (s0 : State) (e : Iss) (ops : List SlotOp) : State :=
  let s := (s0.droop e.g e.env).cross e.g e.env
  match e.det with
  | .none => issueTry s e ops
  | .pmCorrected => issueTry (eccNote s e.g 36) e ops
  | .dmCorrected => issueTry (eccNote s e.g 37) e ops
  | .pmBad => fenceCore s e.g 2
  | .dmBad => fenceCore s e.g 1
  | .parity => fenceCore s e.g 3
  | .residue => fenceCore s e.g 4
  | .rowBus => fenceCore s e.g 5
  | .crossbar => (s.setCore e.g { s.core e.g with staged := [] }).crossbarParity e.g

/-- What the detectors find at a core that issues nothing: in its data memory, its registers, its row-bus link and the crossbar, as
traffic of others and replies pass (R93). -/
def idleDetect (s : State) (g : Nat) (d : Detect) : State :=
  match d with
  | .dmCorrected => eccNote s g 37
  | .dmBad => fenceCore s g 1
  | .parity => fenceCore s g 3
  | .rowBus => fenceCore s g 5
  | .crossbar => s.crossbarParity g
  | .none | .pmCorrected | .pmBad | .residue => s

/-- Is the clock of the core's die gated for a level change (R246)? -/
def State.clockStopped (s : State) (g : Nat) : Bool :=
  s.gf (Reg.CLK_SITE_DIV (towerOf g / 6) (towerOf g % 6)) Fld.CLK_SITE_DIV_gated == 1

/-- Do the operations name slots in ascending order, each at most once (R124)? [DESIGN CHOICE, assumption 6, safe] -/
def slotsRise : List SlotOp → Bool
  | [] => true
  | o :: rest => (rest.all fun p => decide (o.slot < p.slot)) && slotsRise rest

/-- A core command: the operation joins the bundle being assembled, and the bundle's last operation issues it. A bundle
holds at most one operation per slot, given in slot order (R124). A core whose die's clock is gated does nothing; one that is not running,
or has met a run-time error, issues nothing, but its detectors and the units beside its pipeline act all the same. [DESIGN CHOICE, assumption 5, unsafe, DESIGN CHOICE, assumption 6, safe] -/
def issueOps (s : State) (e : Iss) (ops : List SlotOp) : Host.Outcome State Fault Refusal :=
  if e.g ≥ 12288 then .fault .noSuchUnit
  else
    let c := s.core e.g
    let all := c.staged ++ ops
    if !slotsRise all then .fault .noSuchUnit
    else
      match bundleBreach all e.idle.toNat with
      | some code => .fault (.illegalEncoding code)
      | none =>
        if s.clockStopped e.g then .next s
        else if !c.running || c.halted then
          -- its array has come to the end of what it was doing
          .next (if e.last then nearAll (idleDetect (s.cross e.g e.env) e.g e.det) e.g c.arrayFree 1 none e.env.near else s)
        else if !e.last then .next (s.setCore e.g { c with staged := all })
        else .next (issueBundle s e all)

end Sys2Proof.Machine
end

