-- ==== Sys2Proof/Machine/MemOps.lean ====
section
/-! DEFINITION. The M-slot instructions, the returns of tower SRAM data and the completion of moves (R203 to R231). -/

namespace Sys2Proof.Machine

/-- `ld` (R206). -/
def execLd (e : Iss) (f : MF) (s : State) : Host.Outcome State Fault Refusal := issueOps s e [.m .ld f]

/-- `st` (R206). -/
def execSt (e : Iss) (f : MF) (s : State) : Host.Outcome State Fault Refusal := issueOps s e [.m .st f]

/-- `vld` (R206). -/
def execVld (e : Iss) (f : MF) (s : State) : Host.Outcome State Fault Refusal := issueOps s e [.m .vld f]

/-- `vst` (R206). -/
def execVst (e : Iss) (f : MF) (s : State) : Host.Outcome State Fault Refusal := issueOps s e [.m .vst f]

/-- `tsst` (R207). -/
def execTsst (e : Iss) (f : MF) (s : State) : Host.Outcome State Fault Refusal := issueOps s e [.m .tsst f]

/-- `mwait` (R206). -/
def execMwait (e : Iss) (f : MF) (s : State) : Host.Outcome State Fault Refusal := issueOps s e [.m .mwait f]

/-- `rld` (R212). -/
def execRld (e : Iss) (f : MF) (s : State) : Host.Outcome State Fault Refusal := issueOps s e [.m .rld f]

/-- `rst` (R213). -/
def execRst (e : Iss) (f : MF) (s : State) : Host.Outcome State Fault Refusal := issueOps s e [.m .rst f]

/-- `radd` (R214). -/
def execRadd (e : Iss) (f : MF) (s : State) : Host.Outcome State Fault Refusal := issueOps s e [.m .radd f]

/-- `rmax` (R214). -/
def execRmax (e : Iss) (f : MF) (s : State) : Host.Outcome State Fault Refusal := issueOps s e [.m .rmax f]

/-- `rmin` (R214). -/
def execRmin (e : Iss) (f : MF) (s : State) : Host.Outcome State Fault Refusal := issueOps s e [.m .rmin f]

/-- `rxchg` (R214). -/
def execRxchg (e : Iss) (f : MF) (s : State) : Host.Outcome State Fault Refusal := issueOps s e [.m .rxchg f]

/-- `rcas` (R214). -/
def execRcas (e : Iss) (f : MF) (s : State) : Host.Outcome State Fault Refusal := issueOps s e [.m .rcas f]

/-- `rfadd` (R214). -/
def execRfadd (e : Iss) (f : MF) (s : State) : Host.Outcome State Fault Refusal := issueOps s e [.m .rfadd f]

/-- `rredAdd` (R216). -/
def execRredAdd (e : Iss) (f : MF) (s : State) : Host.Outcome State Fault Refusal := issueOps s e [.m .rredAdd f]

/-- `rredMax` (R216). -/
def execRredMax (e : Iss) (f : MF) (s : State) : Host.Outcome State Fault Refusal := issueOps s e [.m .rredMax f]

/-- `rredMin` (R216). -/
def execRredMin (e : Iss) (f : MF) (s : State) : Host.Outcome State Fault Refusal := issueOps s e [.m .rredMin f]

/-- `rredFadd` (R216). -/
def execRredFadd (e : Iss) (f : MF) (s : State) : Host.Outcome State Fault Refusal := issueOps s e [.m .rredFadd f]

/-- `rredTopk` (R217). -/
def execRredTopk (e : Iss) (f : MF) (s : State) : Host.Outcome State Fault Refusal := issueOps s e [.m .rredTopk f]

/-- `mcst` (R222). -/
def execMcst (e : Iss) (f : MF) (s : State) : Host.Outcome State Fault Refusal := issueOps s e [.m .mcst f]

/-- `fence` (R224). -/
def execFence (e : Iss) (f : MF) (s : State) : Host.Outcome State Fault Refusal := issueOps s e [.m .fence f]

/-- `wflag` (R225). -/
def execWflag (e : Iss) (f : MF) (s : State) : Host.Outcome State Fault Refusal := issueOps s e [.m .wflag f]

/-- `hxfer` (R227). -/
def execHxfer (e : Iss) (f : MF) (s : State) : Host.Outcome State Fault Refusal := issueOps s e [.m .hxfer f]

/-- `nistat` (R230). -/
def execNistat (e : Iss) (f : MF) (s : State) : Host.Outcome State Fault Refusal := issueOps s e [.m .nistat f]

/-- What error correction finds at the far address of a load or block move of a running core (R380, R381, R390). -/
def farEcc (s : State) (e : Iss) (a : Nat) (x : Ecc) : State :=
  if (s.core e.g).running then
    match s.standPlace (s.standOf e.g) a with
    | some p => s.eccAt p x
    | none => s
  else s

/-- What error correction finds in lines of a block move, each named by its place in the move. -/
def moveEcc (s : State) (e : Iss) (a : Nat) (xs : List (Nat × Ecc)) : State :=
  xs.foldl (fun y (q : Nat × Ecc) => farEcc y e (a + 64 * q.1) q.2) s

/-- The tower SRAM address that an instruction's effective address names. -/
def ownTower (s : State) (e : Iss) (f : MF) : Nat := tsAddr (towerOf e.g) (ea (s.core e.g) f).toNat

/-- `tsld` (R92, R207). -/
def execTsld (e : Iss) (f : MF) (ecc : Ecc) (s : State) : Host.Outcome State Fault Refusal :=
  issueOps (farEcc s e (ownTower s e f) ecc) e [.m .tsld f]

/-- `bmov` (R208, R209). -/
def execBmov (e : Iss) (f : MF) (ecc : List (Nat × Ecc)) (s : State) : Host.Outcome State Fault Refusal :=
  issueOps (moveEcc s e (ownTower s e f) ecc) e [.m .bmov f]

/-- `hmov` (R208, R209). -/
def execHmov (e : Iss) (f : MF) (ecc : List (Nat × Ecc)) (s : State) : Host.Outcome State Fault Refusal :=
  issueOps (moveEcc s e (ea (s.core e.g) f).toNat ecc) e [.m .hmov f]

/-- A run-time error 0x14 of core `g`, whose bundle `bundle` issued the operation, with a status of R229 (R146, R231). -/
def statusFatal (s : State) (g bundle status : Nat) : State :=
  s.standFatal (s.standOf g) { ErrInfo.plain 0 0x14 with tile := some (tileOf g), site := some (siteOf g),
                                                         gcore := some g, index := some bundle, detail := some status }

/-- Tower SRAM data arrives (R90, R92, R381): the oldest such entry's register is written and the entry freed. Data that the
crossbar holds does not arrive (R78, R79). -/
def execTsldDataReturn (g : Nat) (s : State) : Host.Outcome State Fault Refusal :=
  if g ≥ 12288 then .fault .noSuchUnit
  else
    let c := s.core g
    let isT := fun (x : SbEnt) => match x.wait with
      | .tower .. => true
      | _ => false
    match if s.inwardHeld g then none else c.sb.find? isT with
    | some x =>
      (match x.wait with
        | .tower d bad bundle =>
          let s1 := (s.setCore g { (c.put x.dest (d.setWidth 65536)) with sb := c.sb.erase x, active := true }).enterRow g true
          .next (if bad then statusFatal s1 g bundle 3 else s1)
        | _ => .next s)
    | none => .next s

/-- What error correction finds where a block move reads the core's data memory, at the row-bus port (R87). -/
def moveDmEcc (s : State) (g : Nat) (m : MoveSt) (x : Ecc) : State := if m.toFar then s.eccAt (.data g 0) x else s

/-- A block move or tower store completes once each of its lines has moved, a line that the packet plane carries with its reply (R208, R209,
R229): the tag completes with the first status that is not ok. An uncorrectable word of the core's own data memory fences the core and is
no error of the stand (R87). [DEDUCED, assumption 114, unsafe] -/
def execMoveTagComplete (g : Nat) (x : TagEnd) (s : State) : Host.Outcome State Fault Refusal :=
  if g ≥ 12288 then .fault .noSuchUnit
  else
    match (s.core g).moveOn x.mt with
    | none => .next s
    | some m =>
      if !(m.late.isEmpty && m.held.isEmpty && m.out.isEmpty) then .next s
      else
      let i := s.standOf g
      let far := m.bad
      let isHbm := decide (natBits m.far.toNat 44 4 ≤ 1)
      let s1 := if isHbm then s.coreCount g 24 m.lines else s
      let local_ := m.toFar && x.ecc == .bad
      let status := if far ≠ 0 then far else if local_ then 3 else 0
      -- a fenced core's status and an error of the core's own data memory have no further effect on the stand
      let fatal := decide (far ≠ 0) && far != 2 && !(far == 3 && m.own)
      let s2 := tagComplete s1 g x.mt status
      let dst := match s.standPlace i m.far.toNat with
        | some p => placeTile p
        | none => tileOf g
      let s3 := if status ≠ 0 then niNote (s2.coreCount g 33 1) g status (if isHbm then 0x0B else 0x0A) dst m.beat.toNat else s2
      let s4 := moveDmEcc s3 g m x.ecc
      .next (if fatal then statusFatal s4 g m.bundle far else s4)

end Sys2Proof.Machine
end

