-- ==== Sys2Proof/Machine/SiteLink.lean ====
section
/-! DEFINITION. The link layer of a site link: the stripe map, the packet cell and the site flit as bits, and sending (R322,
R356 to R361, R367). -/

namespace Sys2Proof.Machine

/-! ### The stripe map (R361, R366, R367) -/

def State.siteMask (s : State) (w : Nat) : Nat := s.gf (Reg.SITE_MODULES (w / 6) (w % 6)) Fld.SITE_MODULES_mask
def State.siteHalf (s : State) (w : Nat) : Nat := s.gf (Reg.SITE_HALF (w / 6) (w % 6)) Fld.SITE_HALF_mask
def State.setSiteMask (s : State) (w v : Nat) : State := s.sf (Reg.SITE_MODULES (w / 6) (w % 6)) Fld.SITE_MODULES_mask v
def State.linkState (s : State) (w : Nat) : Nat := s.gf (Reg.SITE_LINK_STATE (w / 6) (w % 6)) Fld.SITE_LINK_STATE_state
def State.siteRepair (s : State) (w : Nat) (f : Fld) : Nat := s.gf (Reg.SITE_REPAIR (w / 6) (w % 6)) f
def State.setSiteRepair (s : State) (w : Nat) (f : Fld) (v : Nat) : State := s.sf (Reg.SITE_REPAIR (w / 6) (w % 6)) f v

/-- Word `i` of the descriptor last read of tower `w` (R353, R374). -/
def State.descWord (s : State) (w i : Nat) : Nat := (s.reg (Reg.SITE_DESC w i)).toNat

/-- The full-width modules of the stripe map, ascending. -/
def State.fullModules (s : State) (w : Nat) : List Nat :=
  (upto 17).filter fun m => natBit (s.siteMask w) m && !natBit (s.siteHalf w) m

/-- The lead module. -/
def State.leadModule (s : State) (w : Nat) : Nat := (s.fullModules w).headD 0

/-- The rate of a code of SITE_LINK_STATE.rate in GT/s. -/
def rateOf (code : Nat) : Nat := [4, 8, 12, 16, 24, 32].getD code 32

/-- An error that names a site. -/
def siteErr (source code w : Nat) : ErrInfo := { ErrInfo.plain source code with tile := some (w / 6), site := some (w % 6) }

/-- A site's module equivalents in units of 1/32 (R367, R374). -/
def State.equivs (s : State) (w : Nat) : Nat :=
  (s.fullModules w).length * rateOf (s.gf (Reg.SITE_LINK_STATE (w / 6) (w % 6)) Fld.SITE_LINK_STATE_rate)

/-- Show what follows from the map: the lead module, and the module equivalents (R374). -/
def State.showMap (s : State) (w : Nat) : State :=
  (s.sf (Reg.SITE_LINK_STATE (w / 6) (w % 6)) Fld.SITE_LINK_STATE_lead (s.leadModule w)).sf (Reg.SITE_EQUIV (w / 6) (w % 6))
    Fld.SITE_EQUIV_equiv (s.equivs w)

/-- The map has changed: a site that falls below 15 equivalents is link-limited, and its stand takes error 0x1C (R367). A slower link,
which has never had 15, does not fall below it. [DEDUCED, assumption 134, unsafe] -/
def State.remapSite (s : State) (w : Nat) : State :=
  let was := s.gf (Reg.SITE_EQUIV (w / 6) (w % 6)) Fld.SITE_EQUIV_equiv
  let s1 := s.showMap w
  if s.linkState w ≠ 3 ∨ was < 480 ∨ 480 ≤ s.equivs w then s1
  else
    let s2 := if s1.siteRepair w Fld.SITE_REPAIR_limited = 1 then s1
      else (s1.setSiteRepair w Fld.SITE_REPAIR_limited 1).dead 0x0B (w / 6) (w % 6) 0 0 0x1C
    match s2.standOfTower w with
    | some i => s2.standFatal i (siteErr 7 0x1C w)
    | none => s2

/-- What an entry of kind 0x0A says of the stripe map (R366, R475): module `x` is out of it, at half width where the cause is 0, and the
spare in for good where it was unused. A module that left for a while, and the spare that stood in for it, leave nothing. -/
def State.moduleEnt (s : State) (w sub_ x cause : Nat) : State :=
  if (x = 16 ∧ sub_ ≠ 16) ∨ cause = 2 then s
  else
    let join := x ≠ 16 ∧ s.siteRepair w Fld.SITE_REPAIR_spare_used = 0
    let s1 := s.setSiteRepair w Fld.SITE_REPAIR_spare_used 1
    let mask := natPut (s1.siteMask w) x 1 0
    let s2 := s1.setSiteMask w (if join then natPut mask 16 1 1 else mask)
    s2.sf (Reg.SITE_HALF (w / 6) (w % 6)) Fld.SITE_HALF_mask (natPut (s2.siteHalf w) x 1 (if cause = 0 then 1 else 0))

/-- The stripe map is formed (R352): every module but what the deadwood map has out of it. -/
def State.formMap (s : State) (w : Nat) : State :=
  let s1 := ((s.setSiteMask w 0xFFFF).sf (Reg.SITE_HALF (w / 6) (w % 6)) Fld.SITE_HALF_mask 0).setSiteRepair w Fld.SITE_REPAIR_spare_used 0
  (s.dwm.filter fun e => e.kind == 0x0A && e.tile.toNat == w / 6 && e.site.toNat == w % 6).foldl
    (fun y e => y.moduleEnt w e.sub.toNat e.index.toNat e.cause.toNat) s1

/-- A die that offers no ×64 has its modules at half width (R354). [DEDUCED, assumption 123, safe] -/
def State.narrow (s : State) (w : Nat) : State :=
  if natBit (s.descWord w 5) 8 then s
  else (s.sf (Reg.SITE_HALF (w / 6) (w % 6)) Fld.SITE_HALF_mask (s.siteHalf w ||| s.siteMask w)).setSiteMask w 0

/-- Every module of a site whose link is up retrains from retained values (R352, R370): the map is formed anew, and a spare that stood in
for a module leaves it. -/
def State.siteRetrain (s : State) (w : Nat) : State :=
  if s.linkState w ≠ 3 then s
  else (((s.setSite w { s.site w with mods := [], tempSpare := false }).formMap w).narrow w).remapSite w

/-- Count a change of the census (R374, R407). [DEDUCED, assumption 81, unsafe] -/
def State.censusGen (s : State) : State :=
  (s.sf Reg.SITE_CENSUS_GEN Fld.SITE_CENSUS_GEN_gen (s.gf Reg.SITE_CENSUS_GEN Fld.SITE_CENSUS_GEN_gen + 1)).modCause 12

/-- A site held powered off: its branches are off and its pads held. -/
def State.siteOff (s : State) (w : Nat) : State :=
  let a := Reg.PWR_PAD_HOLD (w / 6)
  (s.sf (Reg.CLK_SITE_ACTIVE (w / 6) (w % 6)) Fld.CLK_SITE_ACTIVE_mask 0).sf a Fld.PWR_PAD_HOLD_site
    (natPut (s.gf a Fld.PWR_PAD_HOLD_site) (w % 6) 1 1)

/-- A site fails its bring-up: recorded failed in the census, and held powered off (R352). -/
def State.siteFailed (s : State) (w : Nat) : State :=
  ((s.sf (Reg.SITE_LINK_STATE (w / 6) (w % 6)) Fld.SITE_LINK_STATE_state 4).sf (Reg.SITE_CENSUS0 w) Fld.SITE_CENSUS0_state 4).siteOff w

/-- Module `m` of a site is out of service: it leaves the stripe map, and the spare joins for good while it is unused (R352, R366). -/
def State.moduleOut (s : State) (w m : Nat) : State :=
  let t := w / 6
  let c := w % 6
  if !natBit (s.siteMask w) m ∧ !natBit (s.siteHalf w) m ∧ (m ≠ 16 ∨ s.siteRepair w Fld.SITE_REPAIR_spare_used = 1) then s
  else
    let join := decide (m ≠ 16) && !natBit (s.siteMask w) 16 && s.siteRepair w Fld.SITE_REPAIR_spare_used == 0
    let mask := natPut (s.siteMask w) m 1 0
    let s1 := s.setSiteMask w (if join then natPut mask 16 1 1 else mask)
    let s2 := s1.sf (Reg.SITE_HALF t c) Fld.SITE_HALF_mask (natPut (s1.siteHalf w) m 1 0)
    ((if join || m == 16 then s2.setSiteRepair w Fld.SITE_REPAIR_spare_used 1 else s2).dead 0x0A t c m m 1)

/-- Steps 5 to 7 of R352 at a site whose descriptor stands: its modules retrain from retained values, those in `out` do not, the die takes
GTC anew and the stripe map is formed. A site that fails, or none of whose modules trains, is entered as failed. -/
def State.siteTrain (s : State) (w : Nat) (out : List Nat) (fails : Bool) : State :=
  if s.linkState w ≠ 3 then s
  else
    let s1 := ((upto 17).filter out.contains).foldl (fun y m => y.moduleOut w m) s
    if fails ∨ (s1.siteMask w = 0 ∧ s1.siteHalf w = 0) then (s1.siteFailed w).censusGen
    else (s1.setSite w { s1.site w with dieGtc := s.gtc, dieAt := s.gtc }).siteRetrain w

/-! ### Cells and flits as bits (R321, R322, R356, R357) -/

/-- The 80 bytes of a cell: the header of R322, then the payload. -/
def pktBits (p : Pkt) : Nat :=
  p.kind.toNat + p.op.toNat * 2 ^ 3 + p.stand.toNat * 2 ^ 11 + p.dst.toNat * 2 ^ 15 + p.srcTile.toNat * 2 ^ 19 +
    p.src.toNat * 2 ^ 23 + p.seq.toNat * 2 ^ 37 + p.epoch.toNat * 2 ^ 53 + p.age.toNat * 2 ^ 56 + boolNat p.af * 2 ^ 60 +
    boolNat p.dg * 2 ^ 61 + boolNat p.bo * 2 ^ 62 + p.width.toNat * 2 ^ 63 + boolNat p.comb * 2 ^ 66 +
    p.count.toNat * 2 ^ 67 + p.beat.toNat * 2 ^ 77 + p.addr.toNat * 2 ^ 83 + p.payload.toNat * 2 ^ 128

/-- The packet cell in body bytes 80·i to 80·i + 79 (R321, R322, R357). -/
def cellOf (body : BitVec 1920) (i : Nat) : Pkt :=
  let n := natBits body.toNat (640 * i) 640
  let f := fun (lo w : Nat) => natBits n lo w
  { kind := BitVec.ofNat 3 n, op := BitVec.ofNat 8 (f 3 8), stand := BitVec.ofNat 4 (f 11 4), dst := BitVec.ofNat 4 (f 15 4),
    srcTile := BitVec.ofNat 4 (f 19 4), src := BitVec.ofNat 14 (f 23 14), seq := BitVec.ofNat 16 (f 37 16),
    epoch := BitVec.ofNat 3 (f 53 3), age := BitVec.ofNat 4 (f 56 4), af := natBit n 60, dg := natBit n 61,
    bo := natBit n 62, width := BitVec.ofNat 3 (f 63 3), comb := natBit n 66, count := BitVec.ofNat 10 (f 67 10),
    beat := BitVec.ofNat 6 (f 77 6), addr := BitVec.ofNat 42 (f 83 42), payload := BitVec.ofNat 512 (f 128 512) }

/-- The 256 bytes of a flit that carries the acknowledgement `ack` and asks for a replay where `nak` (R356). -/
def TxFlit.bits (f : TxFlit) (ack : BitVec 8) (nak : Bool) : BitVec 2048 :=
  let low := f.kind.toNat + f.fseq.toNat * 2 ^ 4 + ack.toNat * 2 ^ 12 + boolNat nak * 2 ^ 20 + f.cells.toNat * 2 ^ 21 +
    f.stream.toNat * 2 ^ 24 + f.offset.toNat * 2 ^ 32 + f.body.toNat * 2 ^ 64
  BitVec.ofNat 2048 (low + crc32c (leBytes 248 low) * 2 ^ 1984)

/-- A flit that carries nothing. -/
def TxFlit.idle : TxFlit := ⟨0, 0, 0, 0, 0, 0⟩

/-- A flit as it arrives (R356). `ok`: the CRC-32C agrees, and what the layout says is zero is zero. [DESIGN CHOICE, assumption 122, safe] -/
structure Flit where
  kind : BitVec 4
  fseq : BitVec 8
  ack : BitVec 8
  nak : Bool
  cells : BitVec 3
  stream : BitVec 8
  offset : BitVec 24
  body : BitVec 1920
  ok : Bool
  deriving DecidableEq, Repr

/-- The fields of a flit's 256 bytes. -/
def Flit.ofBits (b : BitVec 2048) : Flit :=
  let n := b.toNat
  let kind := natBits n 0 4
  { kind := BitVec.ofNat 4 n, fseq := BitVec.ofNat 8 (natBits n 4 8), ack := BitVec.ofNat 8 (natBits n 12 8), nak := natBit n 20,
    cells := BitVec.ofNat 3 (natBits n 21 3), stream := BitVec.ofNat 8 (natBits n 24 8),
    offset := BitVec.ofNat 24 (natBits n 32 24), body := BitVec.ofNat 1920 (natBits n 64 1920),
    ok := decide (crc32c (leBytes 248 n) = natBits n 1984 32) && natBits n 56 8 == 0 && natBits n 2016 32 == 0 &&
      (kind == 1 || natBits n 21 3 == 0) }

/-! ### The link layer (R358) -/

/-- Module `m` of a site. -/
def SiteSt.mod (x : SiteSt) (m : Nat) : SiteMod := sget SiteMod.zero x.mods m
def SiteSt.setMod (x : SiteSt) (m : Nat) (v : SiteMod) : SiteSt := { x with mods := sset SiteMod.zero x.mods m v }

/-- Send a flit on module `m` of a site: numbered, with the module's acknowledgement, and kept until it is acknowledged. -/
def State.sendFlit (s : State) (w m : Nat) (f : TxFlit) : State :=
  let x := s.site w
  let d := x.mod m
  let g := { f with fseq := d.txNext }
  let q := d.unacked ++ [g]
  (s.setSite w (x.setMod m { d with txNext := d.txNext + 1, unacked := q.drop (q.length - 64) })).emit
    (.flit w m (g.bits (d.rxNext - 1) d.wantReplay))

/-- The module that carries the `k`-th of flits sent together: the full-width modules of the map in turn. [DESIGN CHOICE, assumption 122, safe] -/
def State.stripe (s : State) (w k : Nat) : Nat := (s.fullModules w).getD (k % (s.fullModules w).length) 0

/-- Send a control message of a type on the lead module (R360): its fields in the table's order, 8 bytes each. [DESIGN CHOICE, assumption 122, safe] -/
def State.sendCtl (s : State) (w type : Nat) (fields : List Nat) : State :=
  s.sendFlit w (s.leadModule w) ⟨0, 4, 0, BitVec.ofNat 8 type, 0, BitVec.ofNat 1920 (packBits 64 fields)⟩

/-- Send a packet flit with one cell (R357). -/
def State.sendCell (s : State) (w : Nat) (p : Pkt) : State :=
  s.sendFlit w (s.leadModule w) ⟨0, 1, 1, 0, 0, BitVec.ofNat 1920 (pktBits p)⟩

/-- Send the `len` bytes `v` of a frame of a stream: 240 bytes to a flit, the last filled with zero (R357). -/
def State.sendStream (s : State) (w n len v : Nat) : State :=
  (upto ((len + 239) / 240)).foldl (fun y k =>
    y.sendFlit w (y.stripe w k) ⟨0, 2, 0, BitVec.ofNat 8 n, BitVec.ofNat 24 (240 * k), BitVec.ofNat 1920 (natBits v (1920 * k) 1920)⟩) s

/-- Send flits again (R358): the beat flits first, on the lead module (R361), the others on the modules of the map in turn. -/
def State.sendAgain (s : State) (w : Nat) (q : List TxFlit) : State :=
  let beat := fun (f : TxFlit) => f.kind == 3
  let s1 := (q.filter beat).foldl (fun y f => y.sendFlit w (y.leadModule w) f) s
  (q.filter fun f => !beat f).zipIdx.foldl (fun y f => y.sendFlit w (y.stripe w f.2) f.1) s1

/-! ### Streams (R364) -/

/-- Set stream `n` of a site; what was pushed on that number before is past. -/
def State.setStream (s : State) (w n : Nat) (v : Option Stream) : State :=
  let x := s.site w
  let m := sset none x.streams n v
  (s.setSite w { x with streams := m, frame := x.frame.filter fun e => !(e.1 / 2 ^ 24 == n) }).sf
    (Reg.SITE_LINK_STATE (w / 6) (w % 6)) Fld.SITE_LINK_STATE_streams m.length

/-- The lowest stream number of a site that is free. -/
def State.streamNo (s : State) (w : Nat) : Option Nat := (upto 255).find? fun k => (sget none (s.site w).streams k).isNone

/-- Has the site that stream? -/
def SiteSt.hasStream (x : SiteSt) (v : Stream) : Bool := x.streams.any fun e => match e.2 with
  | some y => { y with going := false } == v
  | none => false

/-- Does the site's link carry streams now (R365)? -/
def State.streamsUp (s : State) (w : Nat) : Bool :=
  s.linkState w == 3 && s.gf (Reg.SITE_LINK_STATE (w / 6) (w % 6)) Fld.SITE_LINK_STATE_circuits == 1

/-- Assign a stream number and tell the die (R360, R364). -/
def State.newStream (s : State) (w n : Nat) (v : Stream) : State :=
  (s.setStream w n (some v)).sendCtl w 1 [n, boolNat v.recv, v.off, v.lines, v.ring, v.beat.toNat]

/-- A stream at the edge at which its bind takes effect: assigned and announced, unless it has been (R364). -/
def State.bindStream (s : State) (w : Nat) (v : Stream) : State :=
  if !s.streamsUp w || (s.site w).hasStream v then s
  else match s.streamNo w with
    | some n => s.newStream w n v
    | none => s

/-- Stream `n` of a site is freed (R364): its die is told, where its link has stayed up and it has not been. -/
def State.freeStream (s : State) (w n : Nat) : State :=
  match sget none (s.site w).streams n with
  | none => s
  | some v =>
    let s1 := s.setStream w n none
    if s.linkState w = 3 ∧ !v.going ∧ !(s.site w).lost then s1.sendCtl w 2 [n] else s1

/-- The streams that `p` names of stand `i`'s sites on tile `t` are freed. -/
def State.freeStreams (s : State) (t i : Nat) (p : Stream → Bool) : State :=
  (upto 6).foldl (fun y c =>
    let w := 6 * t + c
    if (y.site w).streams = [] ∨ y.standOfTower w ≠ some i then y
    else (((y.site w).streams.filter fun e => e.2.any p).map (·.1)).foldl (fun z n => z.freeStream w n) y) s

/-- Count a replay (R358): a corrected error. -/
def State.replay (s : State) (w m : Nat) : State :=
  (s.sfSat (Reg.SITE_EVENTS (w / 6) (w % 6)) Fld.SITE_EVENTS_replays 1).corrected
    { siteErr 7 4 w with index := some m }

/-- Flits after the acknowledged one, modulo 256. -/
def unackedAfter (q : List TxFlit) (ack : BitVec 8) : List TxFlit := q.filter fun f => decide ((f.fseq - ack).toNat - 1 < 128) && f.fseq != ack

end Sys2Proof.Machine
end

