-- ==== Sys2Proof/Machine/Plane.lean ====
section
/-! DEFINITION. The packet plane's shared operations: lanes, flow contexts, the application of a request at its target,
replies, the beat-ordered partitions and the digests (R210 to R226, R320 to R345). -/

namespace Sys2Proof.Machine

/-- Count `n` events `e` of tile `t`'s router (R495). -/
def State.rcount (s : State) (t e n : Nat) : State := if n = 0 then s else s.bump (Reg.PMC_ROUTER t e) n
/-- Count `n` events `e` of tile `t`'s memory engine (R495). -/
def State.ecount (s : State) (t e n : Nat) : State := if n = 0 then s else s.bump (Reg.PMC_ENGINE t e) n

/-! ### Lanes (R320, R346 to R348) -/

/-- The rank of tile `u` among the tiles other than `t`. -/
def laneRank (t u : Nat) : Nat := if u < t then u else u - 1

/-- The byte of lane `l` of inbox trunk `q` of tile `t`: channel, retired, out. -/
def State.laneByte (s : State) (t q l : Nat) : Nat := natBits (s.reg (Reg.PKT_LANE_MAP t q (l / 4))).toNat (8 * (l % 4)) 8

/-- Write that byte. -/
def State.setLaneByte (s : State) (t q l v : Nat) : State :=
  let a := Reg.PKT_LANE_MAP t q (l / 4)
  s.setReg a (BitVec.ofNat 64 (natPut (s.reg a).toNat (8 * (l % 4)) 8 v))

/-- Does the lane carry traffic: neither retired, nor out of service, nor on a fenced channel? -/
def State.laneUp (s : State) (t q l : Nat) : Bool :=
  let b := s.laneByte t q l
  decide (b < 64) && !natBit (s.gf (Reg.PKT_LANE_FENCED t q) Fld.PKT_LANE_FENCED_ch) b

/-- The lanes that tile `u` has into tile `t`, 0 to 4: those not retired, though a remap may have them out of service (R347, R348). -/
def State.pairHas (s : State) (u t : Nat) : Nat :=
  ([0, 1].map fun q => boolNat (!natBit (s.laneByte t q (2 * laneRank t u)) 6) + boolNat (!natBit (s.laneByte t q (2 * laneRank t u + 1)) 6)).sum

/-- The lanes in service from tile `u` into tile `t`, 0 to 4. -/
def State.pairLanes (s : State) (u t : Nat) : Nat :=
  ([0, 1].map fun q => boolNat (s.laneUp t q (2 * laneRank t u)) + boolNat (s.laneUp t q (2 * laneRank t u + 1))).sum

/-- The serpentine order of the tiles (R253). -/
def serpentine : List Nat := [0, 1, 2, 3, 7, 6, 5, 4, 8, 9, 10, 11, 15, 14, 13, 12]

/-- The other tiles in serpentine order after `t`. -/
def downstream (t : Nat) : List Nat :=
  let k := serpentine.findIdx (· == t)
  (serpentine.drop (k + 1)) ++ serpentine.take k

/-- The tile that relays from `u` to `d` where the pair has no lane (R348). -/
def State.relayOf (s : State) (u d : Nat) : Option Nat :=
  (downstream u).find? fun r => r != d && decide (s.pairHas u r > 0) && decide (s.pairHas r d > 0)

/-! ### Sites (R336, R371) -/

/-- Is the tower's site link down, or the site absent? -/
def State.siteAbsent (s : State) (w : Nat) : Bool :=
  [0, 4, 5, 6].contains (s.gf (Reg.SITE_LINK_STATE (w / 6) (w % 6)) Fld.SITE_LINK_STATE_state)

/-- The tower that a place belongs to, if any. -/
def placeTower : Place → Option Nat
  | .tower w _ => some w
  | .data g _ | .prog g _ => some (towerOf g)
  | _ => none

/-- Does the agent of an open site refuse the place (R371)? -/
def State.agentRefuses (s : State) (p : Place) : Bool :=
  match placeTower p with
  | some w =>
    s.openSite w && (match p with
      | .tower _ o => decide (o ≥ s.descWord w 8)
      | .data g o => decide (o ≥ s.descWord w 9) || decide (g % 128 ≥ s.gf (Reg.SITE_CENSUS3 w) Fld.SITE_CENSUS3_sources)
      | _ => true)
  | none => false

/-- The tower whose agent serves a place, if one does (R371). -/
def State.agentAt (s : State) (p : Place) : Option Nat :=
  match placeTower p with
  | some w => if s.openSite w then some w else none
  | none => none

/-! ### Flow contexts (R331, R334, R335) -/

/-- What a flow context makes of a request: its epoch is old, its number has been seen, or it is new. -/
inductive FlowSee where
  | old
  | again (e : FlowEnt)
  | fresh
  deriving DecidableEq, Repr

/-- The context of a flow after the epoch of `p` is considered: of two epochs modulo 8 the one 1 to 3 steps on is the newer (R335). [DESIGN CHOICE, assumption 146, unsafe] -/
def FlowCtx.turn (x : FlowCtx) (p : Pkt) : FlowCtx :=
  if !x.started then ⟨true, p.epoch, p.seq - 1, [], none⟩
  else if p.epoch ≠ x.epoch ∧ (p.epoch - x.epoch).toNat < 4 then ⟨true, p.epoch, p.seq - 1, [], none⟩
  else x

/-- How a context that has considered `p`'s epoch meets it. -/
def FlowCtx.see (x : FlowCtx) (p : Pkt) : FlowSee :=
  if p.epoch ≠ x.epoch then .old
  else match x.seen.find? fun e => e.seq == p.seq with
    | some e => .again e
    | none => .fresh

/-- Record a number with its status. -/
def FlowCtx.note (x : FlowCtx) (seq : BitVec 16) (status : BitVec 4) (buffered : Bool) : FlowCtx :=
  let newest := if (seq - x.newest).toNat < 2 ^ 15 then seq else x.newest
  { x with newest := newest,
           seen := (⟨seq, status, buffered⟩ :: x.seen.filter fun e => !(e.seq == seq)).filter fun e =>
             decide ((newest - e.seq).toNat ≤ 64) }

/-- Tile `t`'s context of source `src`. -/
def State.flow (s : State) (t src : Nat) : FlowCtx := sget FlowCtx.empty (s.tile t).flows src
def State.setFlow (s : State) (t src : Nat) (x : FlowCtx) : State :=
  s.setTile t { s.tile t with flows := sset FlowCtx.empty (s.tile t).flows src x }

/-- Record the status of a request at its destination; a plain store or multicast copy that the engine has served is the last of its flow
(R332). One that met an absent site has not been. -/
def State.flowNote (s : State) (t : Nat) (p : Pkt) (status : Nat) (buffered : Bool) : State :=
  let x := (s.flow t p.src.toNat).note p.seq (BitVec.ofNat 4 status) buffered
  s.setFlow t p.src.toNat (if plainStore p.op p.bo && status != 1 then { x with store := some p.seq } else x)

/-- Has the ordering unit let a request go: has the one that `count` numbers back names been applied (R332)? It is the last one of its
flow that was, or one of the numbers on record. -/
def State.ordered (s : State) (t : Nat) (p : Pkt) : Bool :=
  if p.comb || p.count == 0 then true
  else
    let x := s.flow t p.src.toNat
    let q := p.seq - p.count.setWidth 16
    x.store == some q || x.seen.any fun e => e.seq == q && e.status != 1

/-- Is the operation of a packet beat-ordered? A floating reduction is, without the flag (R216). -/
def Pkt.isBo (p : Pkt) : Bool := p.bo || p.op == 0x23

/-! ### Replies -/

/-- Append a cell to those that have arrived at tile `t`. -/
def State.arrive (s : State) (t : Nat) (p : Pkt) : State := s.setTile t { s.tile t with rx := (s.tile t).rx ++ [p] }

/-- Does the operation return data (R334)? -/
def returnsData (op : BitVec 8) : Bool := op == 0x10 || (decide (0x18 ≤ op.toNat) && decide (op.toNat ≤ 0x1D))

/-- The reply to a request with a status, and data where it carries any: bit 4 of the count field says so. -/
def Pkt.replyTo (p : Pkt) (status : Nat) (data : Option Nat) : Pkt :=
  { p with kind := 1, dst := p.srcTile, srcTile := p.dst, age := 0,
           count := BitVec.ofNat 10 (status + 16 * boolNat data.isSome), payload := BitVec.ofNat 512 (data.getD 0) }

/-- Does the packet belong to stand `i`? Confirms, their acknowledgements and control messages are of no stand (R331, R335). -/
def Pkt.ofStand (p : Pkt) (i : Nat) : Bool := decide (p.src.toNat < 12320) && p.stand.toNat == i

/-- Send a reply from tile `t`: to its own sites at once, else through injection. -/
def State.sendReply (s : State) (t : Nat) (r : Pkt) : State :=
  if r.dst.toNat = t then s.arrive t r
  else s.setTile t { s.tile t with inject := (s.tile t).inject ++ [⟨r, 0, true⟩] }

/-- Keep a data reply in the reply cache (R334). -/
def State.cacheReply (s : State) (t : Nat) (p r : Pkt) : State :=
  s.setTile t { s.tile t with cache := (s.tile t).cache ++ [⟨p.src, p.seq, p.epoch, r⟩] }

/-- Record a refused request (R350). -/
def State.refused (s : State) (t : Nat) (p : Pkt) (status : Nat) : State :=
  let a := Reg.PKT_REFUSE t
  if s.gf a Fld.PKT_REFUSE_valid = 1 then s.sf a Fld.PKT_REFUSE_more 1
  else ((((s.sf a Fld.PKT_REFUSE_status status).sf a Fld.PKT_REFUSE_stand p.stand.toNat).sf a Fld.PKT_REFUSE_src
    p.src.toNat).sf a Fld.PKT_REFUSE_seq p.seq.toNat).sf a Fld.PKT_REFUSE_valid 1

/-- Answer a request: its flow context notes the status, and the reply leaves. A load or atomic always receives data,
zero where the status is not ok. -/
def State.answer (s : State) (t : Nat) (p : Pkt) (status : Nat) (data : Nat) : State :=
  let s1 := s.flowNote t p status false
  let s2 := if status = 0 then s1 else s1.refused t p status
  if returnsData p.op then
    let r := p.replyTo status (some (if status = 0 then data else 0))
    (s2.cacheReply t p r).sendReply t r
  else s2.sendReply t (p.replyTo status none)

/-- Answer a duplicate from the flow context or the reply cache (R334). -/
def State.answerAgain (s : State) (t : Nat) (p : Pkt) (e : FlowEnt) : State :=
  let acc := s.acc t
  let s1 := s.setAcc t { acc with dups := acc.dups + 1 }
  if e.buffered then (s1.rcount t 12 1).sendReply t (p.replyTo 0 none)
  else match (s.tile t).cache.find? fun c => c.src == p.src && c.seq == p.seq && c.epoch == p.epoch with
    | some c => (s1.ecount t 5 1).sendReply t c.reply
    | none => (s1.rcount t 12 1).sendReply t (p.replyTo e.status.toNat none)

/-! ### Applying a request (R213 to R217) -/

/-- An atomic's new value of `bits` bits from the old one (R214). -/
def atomicNew (op : BitVec 8) (bits old opnd newv : Nat) : Nat :=
  match op.toNat with
  | 0x18 => (old + opnd) % 2 ^ bits
  | 0x19 => if sInt bits old < sInt bits opnd then opnd else old
  | 0x1A => if sInt bits opnd < sInt bits old then opnd else old
  | 0x1B => opnd
  | 0x1C => if old = opnd then newv else old
  | _ => f32add old opnd

/-- A reduction's new lane of `bits` bits (R216). -/
def reduceNew (op : BitVec 8) (bits old x : Nat) : Nat :=
  match op.toNat with
  | 0x20 => (old + x) % 2 ^ bits
  | 0x21 => if sInt bits old < sInt bits x then x else old
  | 0x22 => if sInt bits x < sInt bits old then x else old
  | _ => f32add old x

/-- Every lane of a reduction: lanes of 4 bytes for width 4, else one lane. -/
def reduceLanes (op : BitVec 8) (w : BitVec 3) (old x : Nat) : Nat :=
  if w = 4 then packBits 32 ((upto 16).map fun l => reduceNew op 32 (natBits old (32 * l) 32) (natBits x (32 * l) 32))
  else
    let b := 8 * wBytes w
    reduceNew op b (old % 2 ^ b) (x % 2 ^ b)

/-- The entries of a memory top-k list: `n` of them from address `a`. -/
def topRead (s : State) (a : Nat) : Nat → List TopEnt
  | 0 => []
  | n + 1 =>
    let b := s.rd a 12
    ⟨BitVec.ofNat 48 b, BitVec.ofNat 32 (b / 2 ^ 64)⟩ :: topRead s (a + 16) n

/-- Write entries from address `a` on. -/
def topWrite (s : State) (a : Nat) : List TopEnt → State
  | [] => s
  | e :: rest => topWrite (s.wr a 16 e.bits) (a + 16) rest

/-- The header of a memory top-k list of a memory with `room` bytes left keeps R217: its k and count. A list named through the
interleaved space lies whole in the stack that its first address names. [DEDUCED, assumption 131, unsafe] -/
def topHeader (s : State) (a room : Nat) : Option (Nat × Nat) :=
  let h := s.rd a 64
  let k := h % 2 ^ 16
  let n := natBits h 16 16
  if 1 ≤ k ∧ k ≤ 1024 ∧ n ≤ k ∧ h / 2 ^ 32 = 0 ∧ 64 + 16 * k ≤ room then some (k, n) else none

/-- Does any of `n` lines from address `a` hold poison? -/
def State.anyPoison (s : State) (a : Nat) : Nat → Bool
  | 0 => false
  | n + 1 => s.poisoned a || s.anyPoison (a + 64) n

/-- Apply a request at address `a` with `room` bytes of its memory left: status, returned data and the state. -/
def applyOp (s : State) (p : Pkt) (a room : Nat) : Nat × Nat × State :=
  let size := wBytes p.width
  let bits := 8 * size
  let pl := p.payload.toNat
  match p.op.toNat with
  | 0x10 => if s.poisoned a then (3, 0, s) else (0, s.rd a size, s)
  | 0x11 | 0x28 =>
    if s.poisoned a && decide (size < 64) then (3, 0, s)
    -- a line of a block move that a memory engine carries is written whole (R209)
    else (0, 0, (if 12288 ≤ p.src.toNat ∧ p.src.toNat < 12304 then s.lineWhole a else s).store a size pl)
  | 0x24 =>
    if s.poisoned a then (3, 0, s)
    else match topHeader s a room with
      | none => (5, 0, s)
      | some (k, n) =>
        if s.anyPoison a ((64 + 16 * k + 63) / 64) then (3, 0, s)
        else
          let es := (regEntries pl).foldl (topInsert k) (topRead s (a + 64) n)
          let s1 := (upto ((64 + 16 * k + 63) / 64)).foldl (fun y l => y.lineWhole (a + 64 * l)) s
          (0, 0, topWrite (s1.wr (a + 2) 2 es.length) (a + 64) es)
  | _ =>
    if s.poisoned a then (3, 0, s)
    else
      let old := s.rd a size
      if decide (0x20 ≤ p.op.toNat) then (0, 0, s.wr a size (reduceLanes p.op p.width old pl))
      else (0, old, s.wr a size (atomicNew p.op bits old (pl % 2 ^ bits) (natBits pl 64 bits)))

/-- How tile `t` meets a request: by its flow's context, or, where that no longer knows the number, by the reply that the cache still keeps
for it (R334, R349). -/
def State.known (s : State) (t : Nat) (p : Pkt) : FlowSee :=
  match (s.flow t p.src.toNat).see p with
  | .fresh => match (s.tile t).cache.find? fun c => c.src == p.src && c.seq == p.seq && c.epoch == p.epoch with
    | some c => .again ⟨p.seq, c.reply.count.setWidth 4, false⟩
    | none => .fresh
  | x => x

/-- Is the link of the site that a request at tile `t` addresses down? -/
def State.absentFor (s : State) (t : Nat) (p : Pkt) : Bool :=
  match (pktPlace t p.addr.toNat).bind placeTower with
  | some w => s.siteAbsent w
  | none => false

/-- The target of a request at tile `t` that its stand may reach (R342), or the status that refuses it: site_absent where its
link is down, outside_stand, or core_fenced for a fenced core's memories (R96, R336). -/
def State.target (s : State) (t : Nat) (p : Pkt) : Except Nat Place :=
  match pktPlace t p.addr.toNat with
  | none => .error 4
  | some pl =>
    let i := p.stand.toNat
    let owns := match pl with
      | .hbm j _ => s.ownsStack i j
      | _ => match placeTower pl with
        | some w => s.ownsTower i w
        | none => false
    let prog := match pl with
      | .prog .. => p.op != 0x10
      | _ => false
    if s.absentFor t p then .error 1
    else if !owns || prog || decide (placeRoom pl < wBytes p.width) || s.agentRefuses pl then .error 4
    else match pl with
      | .data g _ | .prog g _ => if (s.core g).fenced then .error 2 else .ok pl
      | _ => .ok pl

/-! ### Digests (R343 to R345) -/

/-- The stand error 0x1A on tile `t` (R344). -/
def digestLate (s : State) (i t : Nat) : State := s.standFatal i { ErrInfo.plain 5 0x1A with tile := some t }

/-- The schedule beat of issue that a packet's six bits name, counted back from the stand's present beat. -/
def State.issueBeat (s : State) (i : Nat) (p : Pkt) : Nat :=
  let now := (s.stand i).beat.toNat
  now - (now + 64 - p.beat.toNat) % 64

/-- The 96 bytes of a record. [DEDUCED, assumption 115, unsafe] -/
def digestBytes (beat : Nat) (p : Pkt) (a : Nat) : Nat :=
  beat + p.src.toNat * 2 ^ 64 + p.seq.toNat * 2 ^ 80 + p.op.toNat * 2 ^ 96 + p.width.toNat * 2 ^ 104 +
    (boolNat p.bo + 2 * boolNat p.af) * 2 ^ 112 + a * 2 ^ 128 + p.payload.toNat * 2 ^ 256

/-- The records of stand `i` on a tile. -/
def PlaneTile.recs (x : PlaneTile) (i : Nat) : List DgRec :=
  match x.dg.find? fun u => u.stand = i with
  | some u => u.recs
  | none => []

/-- Replace the records of stand `i`. -/
def PlaneTile.setRecs (x : PlaneTile) (i : Nat) (rs : List DgRec) : PlaneTile :=
  { x with dg := if rs = [] then x.dg.filter fun u => !(u.stand == i)
                 else ⟨i, rs⟩ :: x.dg.filter fun u => !(u.stand == i) }

/-- Add the record of an applied request with .dg (R343); `edge` when it is applied at the edge ending its beat. -/
def State.digest (s : State) (t : Nat) (p : Pkt) (a : Nat) (edge : Bool) : State :=
  if !p.dg then s
  else
    let i := p.stand.toNat
    let b := s.issueBeat i p
    if (b < (s.stand i).beat.toNat ∧ edge = false) ∨ ((s.tile t).recs i).length ≥ 4096 then digestLate s i t
    else
      let r : DgRec := ⟨BitVec.ofNat 64 b, p.src, p.seq, BitVec.ofNat 768 (digestBytes b p a)⟩
      (s.setTile t ((s.tile t).setRecs i ((s.tile t).recs i ++ [r]))).ecount t 4 1

/-- Is record `a` before record `b`: by source core, then by issue order within it? -/
def recBefore (a b : DgRec) : Bool :=
  decide (a.gcore.toNat < b.gcore.toNat) || (a.gcore == b.gcore && (a.seq - b.seq).getLsbD 15)

/-- Insert in order. -/
def recInsert (r : DgRec) : List DgRec → List DgRec
  | [] => [r]
  | x :: rest => if recBefore r x then r :: x :: rest else x :: recInsert r rest

/-- A 256-bit register family from its eight words, word 0 least significant. -/
def State.digestReg (s : State) (a : Nat → Nat) : Nat :=
  packBits 32 ((upto 8).map fun w => (s.reg (a w)).toNat)

/-- Write a 256-bit value into its eight words. -/
def State.setDigestReg (s : State) (a : Nat → Nat) (v : Nat) : State :=
  (upto 8).foldl (fun x w => x.setReg (a w) (BitVec.ofNat 64 (natBits v (32 * w) 32))) s

/-- At the admitted edge ending a beat: fold the beat's records of stand `i` into tile `t`'s digest (R344). -/
def State.foldDigest (s : State) (i t : Nat) : State :=
  let rs := (s.tile t).recs i
  if rs = [] then s
  else
    let sorted := rs.foldr recInsert []
    let msg := leBytes 32 (s.digestReg (Reg.PKT_DIGEST t i)) ++ sorted.flatMap fun r => leBytes 96 r.bytes.toNat
    (s.setDigestReg (Reg.PKT_DIGEST t i) (sm3 msg).toNat).setTile t ((s.tile t).setRecs i [])

/-- The stand digest from the sixteen tile digests (R345). -/
def State.standDigest (s : State) (i : Nat) : State :=
  let msg := (upto 16).flatMap fun t => leBytes 32 (s.digestReg (Reg.PKT_DIGEST t i))
  s.setDigestReg (Reg.STD_DIGEST i) (sm3 msg).toNat

/-! ### The memory engine (R329, R340) -/

/-- The engine's counts of one applied request. -/
def State.countApplied (s : State) (t : Nat) (pl : Place) : State :=
  let acc := s.acc t
  ((s.setAcc t { acc with applied := acc.applied + 1 }).ecount t 1 1).busCount pl

/-- The place `l` lines on. -/
def Place.line (l : Nat) : Place → Place
  | .hbm j o => .hbm j (o + 64 * l)
  | .tower w o => .tower w (o + 64 * l)
  | .data g o => .data g (o + 64 * l)
  | .prog g o => .prog g (o + 64 * l)
  | x => x

/-- The lines that a request at address `a` meets: those of its list for rred.topk. -/
def State.linesMet (s : State) (p : Pkt) (a : Nat) : Nat := if p.op = 0x24 then (127 + 16 * min (s.rd a 2) 1024) / 64 else 1

/-- Apply one request at place `pl`, address `a`, with what error correction finds in the lines that it meets: a correctable word is returned
corrected; an uncorrectable one gives data_error (R87, R381). Status, data and the state. -/
def State.applyMet (s : State) (t : Nat) (p : Pkt) (pl : Place) (a : Nat) (ecc : List (Nat × Ecc)) (bo : Bool) : Nat × Nat × State :=
  let met := ecc.filter fun q => decide (q.1 < s.linesMet p a)
  let s1 := met.foldl (fun y q => y.eccAt (pl.line q.1) q.2) s
  let full := decide (wBytes p.width = 64) && (p.op == 0x11 || p.op == 0x28)
  let core := match pl with
    | .data .. | .prog .. => true
    | _ => false
  if (met.any fun q => q.2 == .bad) ∧ (core || !full) = true then (3, 0, s1)
  else
    let r := applyOp s1 p a (placeRoom pl)
    (r.1, r.2.1, if r.1 = 0 then r.2.2.digest t p a bo else r.2.2)

/-- Apply one request at tile `t`, with what error correction finds in the lines of its target. -/
def State.applyAt (s : State) (t : Nat) (p : Pkt) (e : List (Nat × Ecc)) : Nat × Nat × State :=
  match s.target t p with
  | .error st => (st, 0, s)
  | .ok pl =>
    match placeAddr pl with
    | none => (4, 0, s)
    | some a => (s.countApplied t pl).applyMet t p pl a e false

/-- The constituents' source, number and operand of a packed beat-ordered cell (R337): entry `k`. -/
def Pkt.part (p : Pkt) (k : Nat) : Pkt :=
  let size := wBytes p.width
  let v := natBits p.payload.toNat (8 * (4 + size) * k) (8 * (4 + size))
  { p with src := BitVec.ofNat 14 v, seq := BitVec.ofNat 16 (v / 2 ^ 16), comb := false, count := 0,
           payload := BitVec.ofNat 512 (v / 2 ^ 32) }

/-- The entries that a beat-ordered request counts as in its partition (R221, R338). -/
def Pkt.parts (p : Pkt) : List Pkt := if p.comb then (upto p.count.toNat).map p.part else [p]

/-- The partition of stand `i` on a tile. -/
def PlaneTile.part (x : PlaneTile) (i : Nat) : BoPart := (x.bo.find? fun b => b.stand = i).getD ⟨i, [], false⟩

/-- Replace the partition of stand `i`. -/
def PlaneTile.setPart (x : PlaneTile) (b : BoPart) : PlaneTile :=
  { x with bo := if b.ents = [] ∧ !b.overflow then x.bo.filter fun y => !(y.stand == b.stand)
                 else b :: x.bo.filter fun y => !(y.stand == b.stand) }

/-- The entries of a partition. -/
def BoPart.fill (b : BoPart) : Nat := (b.ents.map fun p => p.parts.length).sum

/-- A beat-ordered request enters its stand's partition and is acknowledged, or overflows it (R218, R221, R340). Of a packed cell
that crosses the limit the constituents within it enter, and the reply's data says how many. -/
def State.enterBo (s : State) (t : Nat) (p : Pkt) : State :=
  match s.target t p with
  | .error st => (s.ecount t 6 (boolNat (decide (st = 4)))).answer t p st 0
  | .ok _ =>
    let i := p.stand.toNat
    let b := (s.tile t).part i
    let room := 4096 - b.fill
    if room < p.parts.length then
      let ents := if p.comb && decide (0 < room) then b.ents ++ [{ p with count := BitVec.ofNat 10 room }] else b.ents
      let r := p.replyTo 6 (if returnsData p.op then some (if p.comb then room else 0) else none)
      let s1 := (s.setTile t ((s.tile t).setPart { b with ents := ents, overflow := true })).sf (Reg.PKT_BO t i)
        Fld.PKT_BO_overflow 1
      let s2 := (s1.flowNote t p 6 false).refused t p 6
      (if returnsData p.op then s2.cacheReply t p r else s2).sendReply t r
    else
      let s1 := s.setTile t ((s.tile t).setPart { b with ents := b.ents ++ [p] })
      (s1.flowNote t p 0 true).sendReply t (p.replyTo 0 none)

/-- The data of a 64-byte load whose line now holds `v`: granules that it has read already stay as they were then (R213). -/
def PlaneTile.seen (x : PlaneTile) (p : Pkt) (v : Nat) : Nat :=
  if p.op = 0x10 ∧ wBytes p.width = 64 then
    x.early.foldl (fun v e => if e.1 = p ∧ e.2.2.1 < 8 then natPut v (64 * e.2.2.1) 64 e.2.2.2.toNat else v) v
  else v

/-- A load that waits for the engine at tile `t` reads granule `k` of its line, where a free bit says so and it has not. -/
def State.readGranule (s : State) (t : Nat) (p : Pkt) (a k : Nat) : State :=
  if (s.tile t).early.any fun e => e.1 == p && e.2.2.1 == k then s
  else
    let (now, s1) := s.takeBit
    if now then s1.setTile t { s1.tile t with early := (s1.tile t).early ++ [(p, a, k, BitVec.ofNat 64 (s1.rd (a + 8 * k) 8))] } else s1

/-- A 64-byte load that waits for the engine may read granules before its turn (R3, R213). [DEDUCED, assumption 137, safe] -/
def State.readEarly (s : State) (t : Nat) (p : Pkt) : State :=
  match s.target t p with
  | .error _ => s
  | .ok pl =>
    match placeAddr pl with
    | none => s
    | some a => if s.poisoned a || (s.agentAt pl).isSome then s else (upto 8).foldl (fun y k => y.readGranule t p a k) s

/-- Are two packets one request: the same source, epoch and number (R334)? -/
def Pkt.same (p q : Pkt) : Bool := p.src == q.src && p.epoch == q.epoch && p.seq == q.seq

/-- A request goes down the link to the agent of its target (R359, R371). -/
def State.goDown (s : State) (t : Nat) (d : DownReq) : State :=
  (s.setTile t { s.tile t with down := (s.tile t).down ++ [d] }).sendCell d.w d.pkt

/-- The agent that a request at tile `t` is for, where its stand may reach it. -/
def State.agentOf (s : State) (t : Nat) (p : Pkt) : Option Nat :=
  match s.target t p with
  | .ok pl => s.agentAt pl
  | .error _ => none

/-- The memory engine serves one request (R329); one for an agent goes down its site's link, once, and is answered with what comes up
(R371). -/
def State.serve (s : State) (t : Nat) (p : Pkt) (e : List (Nat × Ecc)) : State :=
  match s.known t p with
  | .old => s.rcount t 13 1
  | .again en => s.answerAgain t p en
  | .fresh =>
    if s.absentFor t p then (s.rcount t 14 1).answer t p 1 0
    else if p.isBo then s.enterBo t p
    else match s.agentOf t p with
    | some w => if (s.tile t).down.any fun d => d.pkt.same p then s else s.goDown t ⟨w, p, none, 0, none⟩
    | none =>
      let r := s.applyAt t p e
      let s1 := if r.1 = 4 then r.2.2.ecount t 6 1 else r.2.2
      s1.answer t p r.1 ((s.tile t).seen p r.2.1)

/-! ### Beat-ordered application at the edge (R219) -/

/-- A beat-ordered entry: its cell's place in the partition, its place in the cell, and the constituent. -/
abbrev BoEnt := Nat × Nat × Pkt

/-- Does entry `a` come before entry `b`: by source core, then by issue order within it? -/
def boBefore (a b : BoEnt) : Bool :=
  decide (a.2.2.src.toNat < b.2.2.src.toNat) || (a.2.2.src == b.2.2.src && (a.2.2.seq - b.2.2.seq).getLsbD 15)

/-- Insert in order, after equals. -/
def boInsert (e : BoEnt) : List BoEnt → List BoEnt
  | [] => [e]
  | x :: rest => if boBefore e x then e :: x :: rest else x :: boInsert e rest

/-- The entries of a partition in the order of R219. -/
def BoPart.order (b : BoPart) : List BoEnt :=
  ((b.ents.zipIdx.flatMap fun c => c.1.parts.zipIdx.map fun q => (c.2, q.2, q.1)).foldl (fun l e => boInsert e l) [])

/-- Apply the entries in order, `met` naming what error correction finds by an entry's number, gathering (cell, place in
cell, status, returned value). One for an agent goes down its site's link, `ents` being the partition's cells. -/
def boGo (t : Nat) (ents : List Pkt) (met : List (Nat × Ecc)) :
    List (BoEnt × Nat) → State → List (Nat × Nat × Nat × Nat) → State × List (Nat × Nat × Nat × Nat)
  | [], s, acc => (s, acc)
  | ((c, k, p), n) :: rest, s, acc =>
    match s.target t p with
    | .error st => boGo t ents met rest s ((c, k, st, 0) :: acc)
    | .ok pl =>
      match s.agentAt pl with
      | some w => boGo t ents met rest (s.goDown t ⟨w, p, some (ents.getD c p), k, none⟩) acc
      | none =>
      match placeAddr pl with
      | none => boGo t ents met rest s ((c, k, 4, 0) :: acc)
      | some a =>
        let e := ((met.find? fun q => q.1 = n).map fun q => (0, q.2)).toList
        let r := ((s.countApplied t pl).ecount t 3 1).applyMet t p pl a e true
        boGo t ents met rest r.2.2 ((c, k, r.1, r.2.1) :: acc)

/-- The data reply of cell `c` of a partition, from the gathered values. -/
def boReply (p : Pkt) (c : Nat) (vals : List (Nat × Nat × Nat × Nat)) : Pkt :=
  let mine := vals.filter fun v => v.1 = c
  let bits := 8 * wBytes p.width
  let st := (mine.map fun v => v.2.2.1).foldl max 0
  let data := (mine.map fun v => (if v.2.2.1 = 0 then v.2.2.2 % 2 ^ bits else 0) * 2 ^ (bits * v.2.1)).sum
  p.replyTo st (some data)

/-- Does the status of an applied store or reduction that was acknowledged before end the run (R229)? Not where it met a fenced core, or
an error of a core's own memory, whose fence is all. -/
def boFatal (p : Pkt) (status : Nat) : Bool :=
  !returnsData p.op && status != 0 && status != 2 && !(status == 3 && (p.addr.toNat % 8 == 3 || p.addr.toNat % 8 == 4))

/-- The stand error of such a status, in the name of the core and the bundle that issued the operation (R146, R231); an agent's names the
tile that met it. -/
def State.boError (s : State) (i t : Nat) (p : Pkt) (status : Nat) : State :=
  let g := p.src.toNat
  if 12288 ≤ g ∨ s.openSite (towerOf g) then s.standFatal i { ErrInfo.plain 5 0x14 with tile := some t, detail := some status }
  else
    let from_ := (s.core g).boFrom.filter fun b => b.1 == p.dst && b.2.1 == p.seq
    s.standFatal i { ErrInfo.plain 0 0x14 with tile := some (tileOf g), site := some (siteOf g), gcore := some g,
                                               index := (from_.getLast?).map fun b => b.2.2.2, detail := some status }

/-- A request that an agent has answered ok counts as applied, to the model's own copy of the agent's memory too. [DESIGN CHOICE, assumption 141, unsafe] -/
def State.agentDid (s : State) (t : Nat) (p : Pkt) (bo : Bool) : State :=
  match s.target t p with
  | .error _ => s
  | .ok pl => match placeAddr pl with
    | some a => ((s.countApplied t pl).applyMet t p pl a [] bo).2.2
    | none => s

/-- An agent's answer has come up from tower `w` (R371): to a request of its own it is the reply; a beat-ordered cell's reply leaves when
every constituent has been answered. An answer to nothing is ignored. -/
def State.agentAnswer (s : State) (t w : Nat) (r : Pkt) : State :=
  let x := s.tile t
  match x.down.find? fun d => d.w == w && d.got.isNone && d.pkt.same r with
  | none => s
  | some d =>
    let st := r.count.toNat % 16
    let did := fun (y : State) (bo : Bool) => if st = 0 then y.agentDid t d.pkt bo else y
    match d.cell with
    | none => (did (s.setTile t { x with down := x.down.erase d }) false).answer t d.pkt st r.payload.toNat
    | some c =>
      let ds := x.down.map fun e => if e == d then { e with got := some (st, r.payload.toNat) } else e
      let mine := ds.filter fun e => e.cell == some c
      let s1 := did (if boFatal d.pkt st then s.boError c.stand.toNat t d.pkt st else s) true
      if mine.any fun e => e.got.isNone then s1.setTile t { s1.tile t with down := ds }
      else
        let s2 := s1.setTile t { s1.tile t with down := ds.filter fun e => e.cell != some c }
        let a := boReply c 0 (mine.map fun e => (0, e.k, (e.got.getD (0, 0)).1, (e.got.getD (0, 0)).2))
        if returnsData c.op then (s2.cacheReply t c a).sendReply t a else s2

/-- At the admitted edge ending a beat of stand `i`, tile `t` applies the beat's entries and sends the data replies; a
partition that overflowed applies none (R219, R221). -/
def State.boApply (s : State) (i t : Nat) (met : List (Nat × Ecc)) : State :=
  let b := (s.tile t).part i
  let clear := fun (x : State) => x.setTile t ((x.tile t).setPart ⟨i, [], false⟩)
  if b.overflow then clear s
  else if b.ents = [] then s
  else
    let (s1, vals) := boGo t b.ents met b.order.zipIdx s []
    let s2 := clear s1
    -- each constituent's status in the order in which they have been applied
    let s3 := vals.reverse.foldl (fun y v =>
      match b.ents[v.1]? with
      | some c => if boFatal c v.2.2.1 then y.boError i t (c.parts.getD v.2.1 c) v.2.2.1 else y
      | none => y) s2
    b.ents.zipIdx.foldl (fun x c =>
      let x1 := x.flowNote t c.1 0 false
      if returnsData c.1.op && vals.any fun v => v.1 == c.2 then
        let r := boReply c.1 c.2 vals
        (x1.cacheReply t c.1 r).sendReply t r
      else x1) s3

end Sys2Proof.Machine
end

