-- ==== Sys2Proof/Machine/Router.lean ====
section
/-! DEFINITION. The tile router: arrivals and ejection, replies and confirms, combining, injection, and one router cycle
(R323 to R328, R333, R334, R336 to R339). -/

namespace Sys2Proof.Machine

/-! ### Requests at their destination (R327, R334, R336) -/

/-- Note the high-water marks of tile `t`'s ejection buffer and urgent pool. -/
def State.ejMark (s : State) (t : Nat) : State :=
  let x := s.tile t
  let a := s.acc t
  let n := x.ejNormal.length + x.ejReserve.length
  (s.setTile t { x with ejHigh := max x.ejHigh n, poolHigh := max x.poolHigh x.pool.length }).setAcc t
    { a with ejHigh := max a.ejHigh n, resHigh := max a.resHigh x.ejReserve.length,
             poolHigh := max a.poolHigh x.pool.length }

/-- A request meets its destination before ejection: a site whose link is down answers site_absent, an old epoch is
discarded and a duplicate answered; `none` means that the request goes on to ejection. -/
def State.meet (s : State) (t : Nat) (p : Pkt) : Option State × State :=
  let s1 := s.setFlow t p.src.toNat ((s.flow t p.src.toNat).turn p)
  match s1.known t p with
  | .old => (some (s1.rcount t 13 1), s1)
  | .again e => (some (s1.answerAgain t p e), s1)
  | .fresh => if s1.absentFor t p then (some ((s1.rcount t 14 1).answer t p 1 0), s1) else (none, s1)

/-- A request arrives at its destination tile (R327): it enters a normal entry, or the urgent reserve at age 7 or where
no output lane is free; otherwise it is refused and returned, to detour. -/
def State.eject (s : State) (t : Nat) (p : Pkt) (laneFree : Bool) : State × Option Pkt :=
  match s.meet t p with
  | (some s1, _) => (s1, none)
  | (none, s1) =>
    let x := s1.tile t
    if x.ejNormal.length < 512 then ((s1.setTile t { x with ejNormal := x.ejNormal ++ [p] }).ejMark t, none)
    else if p.age.toNat ≥ 7 || !laneFree then
      let a := s1.acc t
      ((((s1.setTile t { x with ejReserve := x.ejReserve ++ [{ p with age := 8 }] }).rcount t 6 1).setAcc t
        { a with urgent := a.urgent + 1 }).ejMark t, none)
    else
      let a := s1.acc t
      ((s1.rcount t 5 1).setAcc t { a with refusals := a.refusals + 1 }, some p)

/-! ### Replies at their requester (R229, R334, R338) -/

/-- Free a window unit. -/
def State.freeWindow (s : State) (t : Nat) (dst : BitVec 4) (src : BitVec 14) (seq : BitVec 16) : State :=
  s.setTile t { s.tile t with windows := (s.tile t).windows.filter fun w =>
    !(w.dst == dst && w.src == src && w.seq == seq) }

/-- Name a data reply in a confirm toward its destination (R334). -/
def State.confirm (s : State) (t : Nat) (dst : BitVec 4) (src : BitVec 14) (seq : BitVec 16) : State :=
  let x := s.tile t
  match x.confirms.find? fun c => c.dst == dst && !c.sent && decide (c.names.length < 8) with
  | some c =>
    s.setTile t { x with confirms := x.confirms.map fun y =>
      if y.dst == dst && y.seq == c.seq then { y with names := y.names ++ [(src, seq)] } else y }
  | none =>
    let n := sget 0 x.confSeq dst.toNat
    s.setTile t { x with confirms := x.confirms ++ [⟨dst, n, x.epoch, s.gtc, false, [(src, seq)]⟩],
                         confSeq := sset 0 x.confSeq dst.toNat (n + 1) }

/-- Complete one of core `g`'s remote operations with a status and a returned value (R90, R91, R229): the register is
written and its entry freed, unless the core is fenced (R96). [DEDUCED, assumption 113, unsafe] -/
def State.niComplete (s : State) (g : Nat) (n : NiOp) (status value : Nat) : State :=
  let c := s.core g
  let left := c.ni.erase n
  if c.fenced then s.setCore g { c with ni := left }
  else
    let v := if status = 0 then value % 2 ^ (8 * wBytes n.pkt.width) else 0
    let c1 := match n.dest with
      | some d => c.put d (BitVec.ofNat 65536 v)
      | none => c
    let isMine := fun (e : SbEnt) => match e.wait with
      | .remote tl q => tl == n.pkt.dst && q == n.pkt.seq
      | _ => false
    let s1 := s.setCore g { c1 with ni := left, sb := (c1.sb.filter fun e => !isMine e),
                                    active := c1.active || c1.sb.any isMine }
    if status = 0 then s1
    else
      let s2 := niNote (s1.coreCount g 33 1) g status n.pkt.op.toNat n.pkt.dst.toNat n.issueBeat.toNat
      let inCore := n.pkt.addr.toNat % 8 = 3 ∨ n.pkt.addr.toNat % 8 = 4
      if status = 2 ∨ (status = 3 ∧ inCore) then s2 else statusFatal s2 g n.bundle status

/-- The operation of core `g` that a reply answers. -/
def CoreSt.niFind (c : CoreSt) (dst : BitVec 4) (seq : BitVec 16) (epoch : BitVec 3) : Option NiOp :=
  c.ni.find? fun n => n.pkt.dst == dst && n.pkt.seq == seq && n.pkt.epoch == epoch

/-- An acknowledgement of a beat-ordered atomic: its data reply is still to come (R334). -/
def State.niAck (s : State) (g : Nat) (n : NiOp) : State :=
  let c := s.core g
  s.setCore g { c with ni := c.ni.map fun m => if m == n then { m with acked := true } else m }

/-- One constituent's or a plain operation's reply at core `g`; that of an agent's request goes down its site's link. -/
def State.niReply (s : State) (p : Pkt) (hasData : Bool) (status value : Nat) : State :=
  let g := p.src.toNat
  let c := s.core g
  if s.siteAbsent (towerOf g) then s
  else if s.openSite (towerOf g) then
    s.sendCell (towerOf g) (p.replyTo status (if hasData then some (if status = 0 then value % 2 ^ (8 * wBytes p.width) else 0) else none))
  else match c.niFind p.dst p.seq p.epoch with
  | none => s
  | some n =>
    let s1 := s.enterRow g true
    if returnsData n.pkt.op && !hasData && status == 0 then s1.niAck g n
    else s1.niComplete g n status value

/-- The running value that an unordered combined atomic gives its constituents (R338). [DEDUCED, assumption 38, safe] -/
def serialGo (s : State) (op : BitVec 8) (bits status : Nat) : Nat → List Pkt → State
  | _, [] => s
  | v, p :: rest =>
    serialGo (s.niReply p true status v) op bits status (atomicNew op bits v (p.payload.toNat % 2 ^ bits) 0) rest

/-- The constituents of a packed cell that overflowed its partition: the first `room` wait for an edge, the others end with
bo_overflow (R221, R338). -/
def State.overReply (s : State) (room : Nat) (parts : List Pkt) : State :=
  parts.zipIdx.foldl (fun x q => if q.2 < room then x.niReply q.1 false 0 0 else x.niReply q.1 true 6 0) s

/-- The reply to a combined packet reaches its constituents (R337, R338), but for cores of a site whose link is down (R336). -/
def State.groupReply (s : State) (grp : CombGroup) (hasData : Bool) (status data : Nat) : State :=
  let op := grp.pkt.op
  let bits := 8 * wBytes grp.pkt.width
  if op == 0x10 then
    grp.parts.foldl (fun x p =>
      let o := match pktPlace p.dst.toNat p.addr.toNat with
        | some (.hbm _ o) | some (.tower _ o) | some (.data _ o) | some (.prog _ o) => o % 64
        | _ => 0
      x.niReply p true status (data / 2 ^ (8 * o))) s
  else if returnsData op then
    if grp.pkt.bo then
      if status = 6 then s.overReply data grp.parts
      else if hasData then
        grp.parts.zipIdx.foldl (fun x q => x.niReply q.1 true status (natBits data (bits * q.2) bits)) s
      else grp.parts.foldl (fun x p => x.niReply p false status 0) s
    else serialGo s op bits status data grp.parts
  else grp.parts.foldl (fun x p => x.niReply p false status 0) s

/-- A request's window unit is no longer waited for by .af (R333): it has been acknowledged or answered. -/
def State.windowMet (s : State) (t : Nat) (dst : BitVec 4) (src : BitVec 14) (seq : BitVec 16) : State :=
  s.setTile t { s.tile t with windows := (s.tile t).windows.map fun w =>
    if w.dst == dst && w.src == src && w.seq == seq then { w with open_ := false } else w }

/-- A reply or acknowledgement at its requester's tile `t` (R334, R336): slots, entries and window units are freed, and
a data reply is named in a confirm. A reply to an agent goes down its site's link. A reply that matches nothing is ignored. [DEDUCED, assumption 35, safe] -/
def State.takeReply (s : State) (t : Nat) (r : Pkt) : State :=
  let src := r.src.toNat
  let hasData := natBit r.count.toNat 4
  let status := r.count.toNat % 16
  let from_ := r.srcTile
  -- a beat-ordered atomic's acknowledgement leaves its unit held
  let final := hasData || !returnsData r.op || status != 0
  let release := fun (x : State) =>
    if !final then x
    else if hasData then x.confirm t from_ r.src r.seq
    else x.freeWindow t from_ r.src r.seq
  if src < 12288 then
    if s.siteAbsent (towerOf src) then release s
    else if s.openSite (towerOf src) then release ((s.windowMet t from_ r.src r.seq).sendCell (towerOf src) r)
    else
      match (s.core src).niFind from_ r.seq r.epoch with
      | none => s
      | some n => release (s.niReply n.pkt hasData status r.payload.toNat)
  else if src = 12288 + t then
    match (s.tile t).mem.find? fun q => q.pkt.dst == from_ && q.pkt.seq == r.seq && q.pkt.epoch == r.epoch with
    | none => s
    | some o =>
      release ((engineReply s o status r.payload).setTile t
        { (engineReply s o status r.payload).tile t with mem := (s.tile t).mem.erase o })
  else if src = 12304 + t then
    match (s.tile t).groups.find? fun q => q.pkt.dst == from_ && q.pkt.seq == r.seq && q.pkt.epoch == r.epoch with
    | none => s
    | some grp =>
      let s1 := s.groupReply grp hasData status r.payload.toNat
      let x := s1.tile t
      let s2 := s1.setTile t
        (if final then { x with groups := x.groups.erase grp }
         else { x with groups := x.groups.map fun g => if g == grp then { g with acked := true } else g })
      release s2
  else if src = 12320 + t then
    -- a confirm's acknowledgement
    match (s.tile t).confirms.find? fun c => c.dst == from_ && c.seq == r.seq && c.epoch == r.epoch with
    | none => s
    | some c =>
      let s1 := s.setTile t { s.tile t with confirms := (s.tile t).confirms.erase c }
      c.names.foldl (fun x n => x.freeWindow t c.dst n.1 n.2) s1
  else s

/-- Is a reply held on its way into its core's row, or a combined packet's into a row of its constituents (R78, R79)? -/
def State.replyHeld (s : State) (p : Pkt) : Bool :=
  p.kind == 1 &&
    if p.src.toNat < 12288 then s.inwardHeld p.src.toNat
    else (s.tile p.dst.toNat).groups.any fun g => g.pkt.src == p.src && g.pkt.seq == p.seq && g.parts.any fun q => s.inwardHeld q.src.toNat

/-- A confirm at the tile whose reply cache it frees, and its acknowledgement (R334). [DEDUCED, assumption 35, safe] -/
def State.takeConfirm (s : State) (t : Nat) (p : Pkt) : State :=
  let names := (upto p.count.toNat).map fun k => natBits p.payload.toNat (32 * k) 32
  let named := fun (c : CacheEnt) => names.any fun n => n % 2 ^ 14 == c.src.toNat && n / 2 ^ 16 == c.seq.toNat
  let x := s.tile t
  (s.setTile t { x with cache := x.cache.filter fun c => !named c }).sendReply t (p.replyTo 0 none)

/-- The cell of a confirm, and so of its acknowledgement: from the tile's fabric manager, with numbers of its own by destination, in the
epoch of the tile's units, the count that of the names. [DESIGN CHOICE, assumption 35, safe] -/
def confirmPkt (t : Nat) (c : ConfEnt) : Pkt :=
  { Pkt.zero with kind := 2, dst := c.dst, srcTile := BitVec.ofNat 4 t, src := BitVec.ofNat 14 (12320 + t), seq := c.seq,
                  epoch := c.epoch, count := BitVec.ofNat 10 c.names.length,
                  payload := BitVec.ofNat 512 (packBits 32 (c.names.map fun n => n.1.toNat + 2 ^ 16 * n.2.toNat)) }

/-! ### Combining (R337 to R339) -/

/-- May this request combine? -/
def combinable (p : Pkt) : Bool :=
  p.kind == 0 && !p.comb && !p.af && !p.dg && decide (p.src.toNat < 12288) &&
    (if p.bo then [0x18, 0x19, 0x1A].contains p.op.toNat
     else [0x10, 0x18, 0x19, 0x1A, 0x20, 0x21, 0x22, 0x24].contains p.op.toNat)

/-- The lowest bit of the offset in a tile-local address (R322). -/
def offsetBit (a : Nat) : Nat := if a % 8 ≤ 1 then 3 else if a % 8 = 2 then 6 else 13

/-- The 64-byte line of a tile-local address. -/
def lineAddr (a : Nat) : Nat := natPut a (offsetBit a) 6 0

/-- May two combinable requests share a packet? -/
def combinesWith (p q : Pkt) : Bool :=
  p.op == q.op && p.stand == q.stand && p.dst == q.dst && p.bo == q.bo && (!p.bo || p.beat == q.beat) &&
    (if p.op == 0x10 then lineAddr p.addr.toNat == lineAddr q.addr.toNat else p.addr == q.addr && p.width == q.width)

/-- The union of top-k entries with equal document numbers merged (R197). -/
def topUnion (es : List TopEnt) : List TopEnt := es.foldl (topInsert 1024) []

/-- The constituents that one packet may take from those waiting, in order. [DEDUCED, assumption 38, safe] -/
def combTake (p : Pkt) : List Pkt → List Pkt → List Pkt
  | [], acc => acc
  | q :: rest, acc =>
    let fits :=
      if p.op == 0x24 then decide ((topUnion ((acc ++ [q]).flatMap fun x => regEntries x.payload.toNat)).length ≤ 4)
      else if p.bo then decide (acc.length < if p.width = 3 then 5 else 8)
      else decide (acc.length < 1023)
    combTake p rest (if fits then acc ++ [q] else acc)

/-- Is request `a` before request `b` by source and then number? -/
def pktBefore (a b : Pkt) : Bool :=
  decide (a.src.toNat < b.src.toNat) || (a.src == b.src && (a.seq - b.seq).getLsbD 15)

def pktInsert (p : Pkt) : List Pkt → List Pkt
  | [] => [p]
  | x :: rest => if pktBefore p x then p :: x :: rest else x :: pktInsert p rest

/-- The payload of a combined packet of constituents in source order. -/
def combPayload (p : Pkt) (parts : List Pkt) : Nat :=
  let bits := 8 * wBytes p.width
  match p.op.toNat with
  | 0x10 => 0
  | 0x24 =>
    let es := topUnion (parts.flatMap fun x => regEntries x.payload.toNat)
    packBits 128 ((upto 4).map fun i => match es[i]? with
      | some e => e.bits
      | none => emptyEntry)
  | _ =>
    if p.bo then
      packBits (bits + 32) (parts.map fun x => x.src.toNat + x.seq.toNat * 2 ^ 16 + x.payload.toNat % 2 ^ bits * 2 ^ 32)
    else match parts with
      | [] => 0
      | h :: rest =>
        if p.op.toNat ≥ 0x20 then rest.foldl (fun v x => reduceLanes p.op p.width v x.payload.toNat) h.payload.toNat
        else rest.foldl (fun v x => atomicNew p.op bits v (x.payload.toNat % 2 ^ bits) 0) (h.payload.toNat % 2 ^ bits)

/-- Release the waiting combinable request `p` of tile `t`: with the requests that can join it as one combined packet, or
alone (R337, R339). [DEDUCED, assumption 38, safe] -/
def State.release (s : State) (t : Nat) (p : Pkt) : State :=
  let x := s.tile t
  let waiting := (x.inject.filter fun e => !e.comb && combinable e.pkt && combinesWith p e.pkt && !s.crossing e.pkt).map (·.pkt)
  let parts := (combTake p (waiting.filter fun q => q != p) [p]).foldr pktInsert []
  let held := (x.groups.map fun g => g.parts.length).sum
  let alone := s.setTile t { x with inject := x.inject.map fun e => if e.pkt == p then { e with comb := true } else e }
  if parts.length < 2 then alone
  -- a combined packet waits neither for the slot of one 64 before it: its constituents go alone
  else if x.groups.any fun g => g.pkt.dst == p.dst && decide (64 ≤ (sget 0 x.combSeq p.dst.toNat - g.pkt.seq).toNat) then alone
  else if x.groups.length ≥ 1024 ∨ held + parts.length > 8192 then alone.rcount t 11 1
  else
    let seq := sget 0 x.combSeq p.dst.toNat
    let c : Pkt :=
      { p with src := BitVec.ofNat 14 (12304 + t), seq := seq, epoch := x.epoch, comb := true,
               count := BitVec.ofNat 10 parts.length, width := if p.op == 0x10 then 4 else p.width,
               addr := if p.op == 0x10 then BitVec.ofNat 42 (lineAddr p.addr.toNat) else p.addr,
               payload := BitVec.ofNat 512 (combPayload p parts) }
    let inj := (x.inject.filter fun e => e.pkt == p || !(parts.contains e.pkt)).map fun e =>
      if e.pkt == p then ⟨c, 0, true⟩ else e
    let a := s.acc t
    let s1 := ((s.setTile t { x with inject := inj, groups := x.groups ++ [⟨c, s.gtc, false, parts⟩],
                                     combSeq := sset 0 x.combSeq p.dst.toNat (seq + 1) }).rcount t 9 1).rcount t 10
      parts.length
    (parts.foldl (fun y q =>
      let k := y.core q.src.toNat
      y.setCore q.src.toNat { k with ni := k.ni.map fun n => if n.pkt == q then { n with grouped := true } else n })
      s1).setAcc t { a with combs := a.combs + 1 }

/-- A router cycle's share of combining: every waiting combinable request ages by one cycle, and each held for
`comb_hold` cycles is released. -/
def State.combineCycle (s : State) (t : Nat) : State :=
  let hold := s.gf (Reg.PKT_CFG t) Fld.PKT_CFG_comb_hold
  if s.gf (Reg.PKT_CFG t) Fld.PKT_CFG_comb_en = 0 then
    s.setTile t { s.tile t with inject := (s.tile t).inject.map fun e => { e with comb := true } }
  else
    let x := s.tile t
    let inj := x.inject.map fun e =>
      if s.crossing e.pkt then e else if combinable e.pkt then { e with held := min (e.held + 1) 64 } else { e with comb := true }
    let ripe := (inj.filter fun e => !e.comb && decide (e.held > hold)).map (·.pkt)
    ripe.foldl (fun y p =>
      if (y.tile t).inject.any fun e => e.pkt == p && !e.comb then y.release t p else y) (s.setTile t { x with inject := inj })

/-! ### Sending -/

/-- The lanes from tile `u` into tile `t` that carry cells, 0 to 3: bit 1 the inbox trunk. None while either tile is in its own warm
start (R470). -/
def State.lanesUp (s : State) (u t : Nat) : List Nat :=
  if s.tileOut u || s.tileOut t then [] else (upto 4).filter fun k => s.laneUp t (k / 2) (2 * laneRank t u + k % 2)

/-- The router's work in one cycle: the state, the lanes that it began with toward each tile, how many of them are still free, and the
cells sent so far. -/
structure Rc where
  s : State
  lanes : List (List Nat)
  free : List Nat
  sent : Nat
  deriving DecidableEq, Repr

/-- Does lane `k` from tile `t` to tile `d` carry light: the optics ready (R313), and the lane's modulator not parked (R299)? -/
def State.laneLit (s : State) (t d k : Nat) : Bool :=
  let tr := 128 + 2 * d + k / 2
  s.gf Reg.OPT_ILK_STATUS Fld.OPT_ILK_STATUS_ready == 1 &&
    match sget none (s.fabT t).mods (64 * tr + s.laneByte d (k / 2) (2 * laneRank d t + k % 2) % 64) with
    | some m => !m.parked
    | none => true

/-- A router cycle's work before it has sent anything. -/
def State.lanesRc (s : State) (lanes : List (List Nat)) : Rc := ⟨s, lanes, lanes.map (·.length), 0⟩

/-! ### Idle cells (R321) -/

/-- The cell that a lane with wavelength tag `tag` sends when it has nothing to send. -/
def idleCell (tag : BitVec 12) : Pkt := { Pkt.zero with kind := 7, payload := tag.setWidth 512 }

/-- The wavelength tag of channel `ch` on trunk number `tr` (R265). -/
def waveTag (tr ch : Nat) : Nat := 16 * tr + ch % 16

/-- The lanes from tile `t` to tile `d` that may carry a packet in this cycle: those that have not sent 4,095 cells since their
last idle one. -/
def State.lanesFree (s : State) (t d : Nat) : List Nat :=
  (s.lanesUp t d).filter fun k => decide (sget 0 (s.tile t).idle (4 * d + k) < 4095)

/-- The lanes of tile `t` that may carry a packet, by destination. -/
def State.allLanes (s : State) (t : Nat) : List (List Nat) := (upto 16).map fun d => if d = t then [] else s.lanesFree t d

/-- The lanes toward tile `d` that have carried a cell: the first of those that were free. -/
def lanesUsed (lanes : List (List Nat)) (left : List Nat) (d : Nat) : List Nat :=
  let ls := lanes.getD d []
  ls.take (ls.length - left.getD d 0)

/-- Count the cells that lanes have carried since the last idle one. -/
def PlaneTile.carried (x : PlaneTile) (lanes : List (List Nat)) (left : List Nat) : PlaneTile :=
  (upto 16).foldl (fun y d => (lanesUsed lanes left d).foldl (fun z k =>
    { z with idle := sset 0 z.idle (4 * d + k) (sget 0 x.idle (4 * d + k) + 1) }) y) x

/-- Lane `k` from tile `t` to tile `d` sends an idle cell: its count begins again, and the tag arrives where the lane carries light. -/
def State.idleSend (s : State) (t d k : Nat) : State :=
  let q := k / 2
  let l := 2 * laneRank d t + k % 2
  let cell := idleCell (BitVec.ofNat 12 (waveTag (128 + 2 * d + q) (s.laneByte d q l % 64)))
  let s1 := if sget 0 (s.tile t).idle (4 * d + k) = 0 then s else s.setTile t { s.tile t with idle := sset 0 (s.tile t).idle (4 * d + k) 0 }
  if s1.laneLit t d k then s1.setTile d { s1.tile d with tags := sset 0 (s1.tile d).tags (32 * q + l) (cell.payload.setWidth 12) } else s1

/-- At the end of a router cycle of tile `t` every lane in service that carried no packet has sent an idle cell. -/
def State.idleLanes (s : State) (t : Nat) (lanes : List (List Nat)) (left : List Nat) : State :=
  let s1 := s.setTile t ((s.tile t).carried lanes left)
  (upto 16).foldl (fun y d => if d = t then y
    else ((s.lanesUp t d).filter fun k => !((lanesUsed lanes left d).contains k)).foldl (fun z k => z.idleSend t d k) y) s1

/-- What a tile has sent outside a router cycle counts for its lanes (R321). -/
def Rc.finish (r : Rc) (t : Nat) : State := r.s.setTile t ((r.s.tile t).carried r.lanes r.free)

/-- The lane that the next cell toward tile `d` takes: the lanes in order. -/
def Rc.lane (r : Rc) (d : Nat) : Nat := (r.lanes.getD d []).getD ((r.lanes.getD d []).length - r.free.getD d 0) 0

/-- Send a cell from tile `t` toward tile `d` on a free lane; the cells whose place in the cycle's order `lost` lists are lost, and
those on a lane without light. -/
def Rc.send (r : Rc) (t d : Nat) (p : Pkt) (lost : List Nat) : Rc :=
  { r with s := if lost.contains r.sent || !r.s.laneLit t d (r.lane d) then r.s else r.s.arrive d p,
           free := r.free.modify d (· - 1), sent := r.sent + 1 }

/-- The tile that a cell for `d` takes a direct lane to from `t`: `d`, or the relay of a pair without lanes. -/
def State.hop (s : State) (t d : Nat) : Nat := if s.pairHas t d > 0 then d else (s.relayOf t d).getD d

/-- Try a direct lane (R324, R348). -/
def Rc.direct (r : Rc) (t : Nat) (p : Pkt) (lost : List Nat) : Option Rc :=
  let d := r.s.hop t p.dst.toNat
  if r.free.getD d 0 = 0 then none
  else
    let a := r.s.acc t
    let relayed := p.srcTile.toNat ≠ t ∧ r.s.pairHas p.srcTile.toNat p.dst.toNat = 0
    let s1 := ((r.s.rcount t 3 1).rcount t 15 (boolNat (decide relayed))).setAcc t
      { a with sent := sset 0 a.sent d (sget 0 a.sent d + 1) }
    some (Rc.send { r with s := s1 } t d p lost)

/-- A cell that cannot detour any more enters the urgent reserve at its destination or the urgent pool (R326). -/
def State.urgent (s : State) (t : Nat) (p : Pkt) : State :=
  let x := s.tile t
  let q := { p with age := 8 }
  let a := s.acc t
  let s1 := (s.rcount t 6 1).setAcc t { a with urgent := a.urgent + 1 }
  if p.kind == 0 && p.dst.toNat == t then (s1.setTile t { x with ejReserve := x.ejReserve ++ [q] }).ejMark t
  else ((s1.setTile t { x with pool := x.pool ++ [q] }).rcount t 7 (boolNat (p.kind != 0))).ejMark t

/-- A detour on any free output lane, its tile a free choice (R325); the eighth, or one that finds no lane, is none. [DESIGN CHOICE, assumption 36, safe] -/
def Rc.detour (r : Rc) (t : Nat) (p : Pkt) (lost : List Nat) : Rc :=
  let open_ := (upto 16).filter fun d => decide (r.free.getD d 0 > 0) && !(d == p.dst.toNat)
  let a := r.s.acc t
  let key := 16 * p.srcTile.toNat + p.dst.toNat
  if open_ = [] then { r with s := r.s.urgent t p }
  else if p.age.toNat ≥ 7 then
    let s2 := (r.s.rcount t 4 1).setAcc t { a with detours := sset 0 a.detours key (sget 0 a.detours key + 1) }
    { r with s := s2.urgent t p }
  else
    let (k, s1) := r.s.takeBelow open_.length
    let s2 := (s1.rcount t 4 1).setAcc t { a with detours := sset 0 a.detours key (sget 0 a.detours key + 1) }
    Rc.send { r with s := s2 } t (open_.getD k 0) { p with age := p.age + 1 } lost

/-- Is cell `a` served before cell `b`: the greater age, then the lower src, then the lower seq (R324)? [DEDUCED, assumption 37, safe] -/
def transitBefore (a b : Pkt) : Bool :=
  decide (a.age.toNat > b.age.toNat) || (a.age == b.age && (decide (a.src.toNat < b.src.toNat) ||
    (a.src == b.src && decide (a.seq.toNat < b.seq.toNat))))

def transitInsert (p : Pkt) : List Pkt → List Pkt
  | [] => [p]
  | x :: rest => if transitBefore p x then p :: x :: rest else x :: transitInsert p rest

/-! ### Injection (R328, R333) -/

/-- Does an earlier operation of the flow that is not beat-ordered hold back a request with .af (R333)? An agent's operations are
known by their cells at injection, their window units and the combined packets that they have joined. -/
def State.afHeld (s : State) (t : Nat) (p : Pkt) : Bool :=
  p.af && decide (p.src.toNat < 12288) &&
    if s.openSite (towerOf p.src.toNat) then
      ((s.tile t).windows.any fun w => w.dst == p.dst && w.src == p.src && (w.seq - p.seq).getLsbD 15 && w.open_) ||
        ((s.tile t).inject.any fun e => e.pkt.kind == 0 && e.pkt.dst == p.dst && e.pkt.src == p.src &&
          (e.pkt.seq - p.seq).getLsbD 15 && !e.pkt.isBo) ||
        (s.tile t).groups.any fun g => !g.pkt.isBo && g.parts.any fun q => q.dst == p.dst && q.src == p.src && (q.seq - p.seq).getLsbD 15
    else (s.core p.src.toNat).ni.any fun n => n.pkt.dst == p.dst && (n.pkt.seq - p.seq).getLsbD 15 && !n.pkt.isBo && !n.acked

/-- Note that a request or confirm has left tile `t` now. -/
def State.markSent (s : State) (t : Nat) (p : Pkt) : State :=
  if p.kind == 2 then
    s.setTile t { s.tile t with confirms := (s.tile t).confirms.map fun c =>
      if c.dst == p.dst && c.seq == p.seq then { c with sent := true, sentAt := s.gtc } else c }
  else if p.kind != 0 then s
  else if p.comb then
    s.setTile t { s.tile t with groups := (s.tile t).groups.map fun g => if g.pkt == p then { g with sentAt := s.gtc } else g }
  else if p.src.toNat < 12288 then
    let c := s.core p.src.toNat
    s.setCore p.src.toNat { c with ni := c.ni.map fun n =>
      if n.pkt == p then { n with sent := true, sentAt := s.gtc } else n }
  else if p.src.toNat = 12288 + t then
    s.setTile t { s.tile t with mem := (s.tile t).mem.map fun o =>
      if o.pkt == p then { o with sent := true, sentAt := s.gtc } else o }
  else s

/-- Try to inject one entry of tile `t`: true where it left. -/
def Rc.inject (r : Rc) (t : Nat) (e : InjEnt) (lost : List Nat) : Bool × Rc :=
  let p := e.pkt
  let d := p.dst.toNat
  let go := fun (r : Rc) =>
    match r.direct t p lost with
    | some r1 => (true, { r1 with s := (r1.s.markSent t p).rcount t 1 1 })
    | none => (false, r)
  if p.kind ≠ 0 then
    if d = t then (true, { r with s := ((r.s.arrive t p).markSent t p).rcount t 1 1 }) else go r
  else if !e.comb || r.s.crossing p || r.s.afHeld t p then (false, r)
  else
    let x := r.s.tile t
    let held := x.windows.any fun w => w.dst == p.dst && w.src == p.src && w.seq == p.seq
    let used := (x.windows.filter fun w => w.dst == p.dst).length
    let a := r.s.acc t
    if !held && decide (used ≥ 256) then
      (false, { r with s := (r.s.rcount t 8 1).setAcc t { a with waits := sset 0 a.waits d (sget 0 a.waits d + 1) } })
    else
      let take := fun (y : State) =>
        if held then y
        else
          let b := y.acc t
          (y.setTile t { y.tile t with windows := (y.tile t).windows ++ [⟨p.dst, p.src, p.seq, !p.isBo⟩] }).setAcc t
            { b with winHigh := sset 0 b.winHigh d (max (sget 0 b.winHigh d) (used + 1)) }
      if d = t then
        -- a request of the same tile enters a normal entry or waits (R327)
        if x.ejNormal.length ≥ 512 then (false, r)
        else (true, { r with s := (((take r.s).markSent t p).eject t p false).1.rcount t 1 1 })
      else match go r with
        | (true, r1) => (true, { r1 with s := take r1.s })
        | (false, r1) => (false, r1)

/-- Inject what the lanes still take, in order; the entries that did not leave stay. -/
def Rc.injectAll (t : Nat) (lost : List Nat) : List InjEnt → List InjEnt → Rc → Rc
  | [], kept, r => { r with s := r.s.setTile t { r.s.tile t with inject := kept ++ (r.s.tile t).inject } }
  | e :: rest, kept, r =>
    match r.inject t e lost with
    | (true, r1) => Rc.injectAll t lost rest kept r1
    | (false, r1) => Rc.injectAll t lost rest (kept ++ [e]) r1

/-! ### One router cycle (R324) -/

/-- A control message reaches the fabric manager of tile `t`: an intruder message (R298, R331), or a tile's report for a congestion map,
whose counts stand in `mapSnap` (R499). -/
def State.takeControl (s : State) (t : Nat) (p : Pkt) : State :=
  if natBit p.payload.toNat 32 then s
  else s.setFab t { s.fabT t with msgs := (s.fabT t).msgs ++ [(natBits p.payload.toNat 0 16, natBits p.payload.toNat 16 16)] }

/-- Step 1: deliver the cells that have arrived for tile `t`; the refused requests are returned. -/
def deliverAll (t : Nat) (laneFree : Bool) : List Pkt → State → List Pkt → State × List Pkt
  | [], s, ref => (s, ref)
  | p :: rest, s, ref =>
    let s1 := s.rcount t 2 1
    if p.kind == 0 then
      -- a refused cell is not delivered
      match s.eject t p laneFree with
      | (s2, some q) => deliverAll t laneFree rest s2 (ref ++ [q])
      | (s2, none) => deliverAll t laneFree rest (s2.rcount t 2 1) ref
    else if p.kind == 1 then deliverAll t laneFree rest (s1.takeReply t p) ref
    else if p.kind == 2 then deliverAll t laneFree rest (s1.takeConfirm t p) ref
    else if p.kind == 3 then deliverAll t laneFree rest (s1.takeControl t p) ref
    else deliverAll t laneFree rest s1 ref

/-- Cells that take direct lanes, and those that find none. -/
def directAll (t : Nat) (lost : List Nat) : List Pkt → Rc → List Pkt → Rc × List Pkt
  | [], r, left => (r, left)
  | p :: rest, r, left =>
    match r.direct t p lost with
    | some r1 => directAll t lost rest r1 left
    | none => directAll t lost rest r (left ++ [p])

/-- The router cycle of tile `t` (R324). A reply held on its way into its core's row waits at the router (R78). [DEDUCED, assumption 37, safe] -/
def State.routerCycle (s : State) (t : Nat) (lost : List Nat) : State :=
  let x := s.tile t
  let cells := x.rx.filter fun p => !(p.dst.toNat = t && s.replyHeld p)
  let here := cells.filter fun p => p.dst.toNat = t
  let away := (cells.filter fun p => p.dst.toNat ≠ t).foldr transitInsert []
  let lanes := s.allLanes t
  let free := lanes.map (·.length)
  let (s1, ref) := deliverAll t (free.any (· > 0)) here
    ((s.rcount t 0 1).setTile t { x with rx := x.rx.filter fun p => p.dst.toNat = t && s.replyHeld p }) []
  -- step 2: the urgent pool, oldest first
  let pool := (s1.tile t).pool
  let (r2, kept) := directAll t lost pool ⟨s1.setTile t { s1.tile t with pool := [] }, lanes, free, 0⟩ []
  let r2' := { r2 with s := r2.s.setTile t { r2.s.tile t with pool := kept ++ (r2.s.tile t).pool } }
  -- steps 3 and 4: transit, then detours
  let (r3, left) := directAll t lost away r2' []
  let r4 := (left ++ ref).foldl (fun r p => r.detour t p lost) r3
  -- step 5: injection; unsent confirms join the local sources
  let s5 := r4.s.combineCycle t
  let y := s5.tile t
  let confs := (y.confirms.filter fun c => !c.sent).map fun c => (⟨confirmPkt t c, 0, true⟩ : InjEnt)
  let rest := y.inject.filter fun e => !(e.pkt.kind == 2 && y.confirms.any fun c =>
    !c.sent && c.seq == e.pkt.seq && c.dst == e.pkt.dst)
  let entries := rest ++ confs
  let r5 := Rc.injectAll t lost entries [] { r4 with s := s5.setTile t { y with inject := [] } }
  r5.s.idleLanes t lanes r5.free

/-- Take the first cell of a kind that has arrived for tile `t` and is not held. -/
def State.takeRx (s : State) (t : Nat) (kind : BitVec 3) : Option (Pkt × State) :=
  let x := s.tile t
  match x.rx.find? fun p => p.kind == kind && decide (p.dst.toNat = t) && !s.replyHeld p with
  | some p => some (p, s.setTile t { x with rx := x.rx.erase p })
  | none => none

/-! ### One engine cycle (R329) -/

/-- May the memory engine of a tile that combines serve request `q` together with `p` (R337)? A combined packet of another tile
counts as its operation does. -/
def servesWith (en : Bool) (p q : Pkt) : Bool :=
  let plain := fun (x : Pkt) => { x with comb := false, src := if x.comb then 0 else x.src, count := 0, width := if x.op == 0x10 then 4 else x.width }
  en && combinable (plain p) && combinable (plain q) && !p.bo && combinesWith (plain p) (plain q)

/-- The core whose memories a request at tile `t` addresses, if it is a core's. -/
def pktCore (t : Nat) (p : Pkt) : Option Nat :=
  match pktPlace t p.addr.toNat with
  | some (.data g _) | some (.prog g _) => some g
  | _ => none

/-- Does a die hold a request on its way to its core or tower SRAM, `got` going before it in this cycle (R78, R79)? The FIFO into a row takes
no entry past its high-water mark. -/
def State.requestHeld (s : State) (t : Nat) (got : List Pkt) (p : Pkt) : Bool :=
  match pktPlace t p.addr.toNat with
  | none => false
  | some x => s.placeHeld x (returnsData p.op) || (match pktCore t p with
    | some g =>
      let here := (got.filter fun q => (pktCore t q).any fun h => rowRegion h == rowRegion g).length
      decide (12 ≤ (s.region (rowRegion g)).inn.length + here) && !s.openSite (towerOf g)
    | none => false)

/-- A served request has come into its core's row, and what it returns leaves the row; no entry of the core's own. -/
def State.dataLeaves (s : State) (t : Nat) (p : Pkt) : State :=
  match pktCore t p with
  | some g => if returnsData p.op then (s.enterRow g false).leaveRow g false else s.enterRow g false
  | none => s

/-- The requests of one engine cycle: up to 8 distinct lines, one request to a line or those that combine with it. -/
def enginePick (s : State) (t : Nat) (en : Bool) : List Pkt → List Pkt → List Pkt → List Pkt
  | [], _, got => got
  | p :: rest, heads, got =>
    if !s.ordered t p || s.requestHeld t got p then enginePick s t en rest heads got
    else
      match heads.find? fun h => lineAddr h.addr.toNat == lineAddr p.addr.toNat with
      | some h => enginePick s t en rest heads (if servesWith en h p then got ++ [p] else got)
      | none => if heads.length < 8 then enginePick s t en rest (heads ++ [p]) (got ++ [p]) else enginePick s t en rest heads got

/-- The requests `got` of tile `t` leave the ejection buffer and are served, `ecc` naming what error correction finds by their
place and the line of their target; of the cores of a die fenced in it CORE_FAULT names the lowest (R97). -/
def State.serveAll (s : State) (t : Nat) (got : List Pkt) (ecc : List (Nat × Nat × Ecc)) : State :=
  let x := s.tile t
  let a := s.acc t
  let ej := x.ejReserve ++ x.ejNormal
  let s1 := (s.ecount t 0 1).setTile t { x with ejReserve := x.ejReserve.filter fun p => !(got.contains p),
                                                ejNormal := x.ejNormal.filter fun p => !(got.contains p),
                                                early := x.early.filter fun e => ej.contains e.1 }
  if got = [] then s1
  else
    let s2 := got.zipIdx.foldl (fun y q => (y.serve t q.1 ((ecc.filter fun e => e.1 = q.2).map (·.2))).dataLeaves t q.1) s1
    -- a cycle counts in which a request has been applied (R495, R500)
    let b := s2.acc t
    let s3 := if b.applied = a.applied then s2 else (s2.ecount t 2 1).setAcc t { b with busy := b.busy + 1 }
    if ecc.all fun e => e.2.2 == .clean then s3 else (upto 6).foldl (fun y c => s1.faultLowest y t c) s3

/-- An engine cycle of tile `t` (R329): reserve entries before normal ones. A 64-byte load that waits on may read meanwhile. -/
def State.engineCycle (s : State) (t : Nat) (ecc : List (Nat × Nat × Ecc)) : State :=
  let x := s.tile t
  let ej := x.ejReserve ++ x.ejNormal
  let got := enginePick s t (s.gf (Reg.PKT_CFG t) Fld.PKT_CFG_comb_en == 1) ej [] []
  -- a line of a block move that a memory engine carries is read whole (R209)
  let on := ej.filter fun p => !(got.contains p) && !(decide (12288 ≤ p.src.toNat) && decide (p.src.toNat < 12304)) && p.op == 0x10 && wBytes p.width == 64 && s.ordered t p && !s.requestHeld t [] p
  on.foldl (fun y p => y.readEarly t p) (s.serveAll t got ecc)

end Sys2Proof.Machine
end

