-- ==== Sys2Proof/Machine/PlaneOps.lean ====
section
/-! DEFINITION. The commands of the packet plane: arrivals, router and engine cycles, retransmission, combining holds and
lane fences (R324 to R348). The logic of a tile in its own warm start stands still (R469). -/

namespace Sys2Proof.Machine

/-- A request cell that has arrived at its destination enters ejection or is refused and detours (R327). -/
def execRequestArrival (t : Nat) (s : State) : Host.Outcome State Fault Refusal :=
  if t ≥ 16 then .fault .noSuchUnit
  else if s.tileOut t then .next s
  else match s.takeRx t 0 with
    | none => .next s
    | some (p, s1) =>
      let lanes := s1.allLanes t
      match s1.eject t p (lanes.any (· ≠ [])) with
      | (s2, none) => .next (s2.rcount t 2 1)
      | (s2, some q) => .next (((s2.lanesRc lanes).detour t q []).finish t)

/-- The memory engine of a tile works one engine cycle (R329). -/
def execEngineCycle (t : Nat) (ecc : List (Nat × Nat × Ecc)) (s : State) : Host.Outcome State Fault Refusal :=
  if t ≥ 16 then .fault .noSuchUnit else .next (if s.tileOut t then s else s.engineCycle t ecc)

/-- A reply or acknowledgement that has arrived reaches its requester (R334), or parity discards it on its way into the
core's row (R93). [DESIGN CHOICE, assumption 8, safe] -/
def execReplyArrival (x : ReplyAt) (s : State) : Host.Outcome State Fault Refusal :=
  if x.t ≥ 16 then .fault .noSuchUnit
  else if s.tileOut x.t then .next s
  else match s.takeRx x.t 1 with
    | none => .next s
    | some (p, s1) =>
      let s2 := s1.rcount x.t 2 1
      let g := p.src.toNat
      let core := decide (g < 12288) && !s1.openSite (towerOf g)
      if core && x.find == .rowBus then .next (fenceCore s2 g 5)
      else if core && x.find == .crossbar then .next (s2.crossbarParity g)
      else .next (s2.takeReply x.t p)

/-- A confirm that has arrived frees its entries of the reply cache (R334). -/
def execConfirmArrival (t : Nat) (s : State) : Host.Outcome State Fault Refusal :=
  if t ≥ 16 then .fault .noSuchUnit
  else if s.tileOut t then .next s
  else match s.takeRx t 2 with
    | none => .next s
    | some (p, s1) => .next ((s1.rcount t 2 1).takeConfirm t p)

/-- The ticks after which an unanswered packet is sent again (R334). -/
def retransTicks : Nat := 32768

/-- Put a packet back at injection; it keeps its number and its window unit. -/
def State.resend (s : State) (t : Nat) (p : Pkt) : State :=
  s.setTile t { s.tile t with inject := (s.tile t).inject ++ [⟨p, 0, true⟩] }

/-- Is a packet already waiting at injection? -/
def State.queued (s : State) (t : Nat) (p : Pkt) : Bool := (s.tile t).inject.any fun e => e.pkt == p

/-- The packet of source `src` on tile `t` toward `dst` numbered `number` is retransmitted (R211, R334). -/
def execRetransmissionTimeout (t : Nat) (src : BitVec 14) (dst : BitVec 4) (number : BitVec 16) (s : State) :
    Host.Outcome State Fault Refusal :=
  if t ≥ 16 then .fault .noSuchUnit
  else if s.tileOut t then .next s
  else if src.toNat < 12288 then
    let g := src.toNat
    let c := s.core g
    match c.ni.find? fun n => n.pkt.dst == dst && n.pkt.seq == number with
    | none => .next s
    | some n =>
      let waits := n.acked && decide ((s.stand (s.standOf g)).beat = n.issueBeat)
      if tileOf g ≠ t ∨ !n.sent ∨ n.grouped ∨ waits ∨ s.queued t n.pkt then .next s
      else
        let at_ := n.sentAt.toNat + retransTicks
        let s1 := s.gtcTo at_
        let c1 := { c with niRetrans := min (c.niRetrans + 1) (2 ^ 32 - 1),
                           ni := c.ni.map fun m => if m == n then { m with sentAt := s1.gtc, sent := false } else m }
        .next (((s1.setCore g c1).coreCount g 32 1).resend t n.pkt)
  else if src.toNat = 12288 + t then
    match (s.tile t).mem.find? fun q => q.pkt.dst == dst && q.pkt.seq == number with
    | none => .next s
    | some q =>
      if !q.sent ∨ s.queued t q.pkt then .next s
      else .next ((s.gtcTo (q.sentAt.toNat + retransTicks)).resend t q.pkt)
  else if src.toNat = 12304 + t then
    match (s.tile t).groups.find? fun q => q.pkt.dst == dst && q.pkt.seq == number with
    | none => .next s
    | some q =>
      let i := q.pkt.stand.toNat
      if s.queued t q.pkt ∨ (q.acked ∧ s.issueBeat i q.pkt = (s.stand i).beat.toNat) then .next s
      else .next ((s.gtcTo (q.sentAt.toNat + retransTicks)).resend t q.pkt)
  else if src.toNat = 12320 + t then
    match (s.tile t).confirms.find? fun q => q.dst == dst && q.seq == number with
    | none => .next s
    | some q =>
      if !q.sent then .next s
      else .next ((s.gtcTo (q.sentAt.toNat + retransTicks)).resend t (confirmPkt t q))
  else .next s

/-- One router cycle of a tile (R324). `lost` names cells lost on their way, by their place among the cycle's sends. [DESIGN CHOICE, assumption 36, safe] -/
def execRouterCycle (t : Nat) (lost : List Nat) (s : State) : Host.Outcome State Fault Refusal :=
  if t ≥ 16 then .fault .noSuchUnit else .next (if s.tileOut t then s else s.routerCycle t lost)

/-- The oldest combinable packet held at a tile's injection has been held for comb_hold cycles: it is injected, with
those that joined it (R339). -/
def execCombHoldExpiry (t : Nat) (s : State) : Host.Outcome State Fault Refusal :=
  if t ≥ 16 then .fault .noSuchUnit
  else if s.tileOut t then .next s
  else match (s.tile t).inject.find? fun e => !e.comb && combinable e.pkt && !s.crossing e.pkt with
    | none => .next s
    | some e =>
      if s.gf (Reg.PKT_CFG t) Fld.PKT_CFG_comb_en = 0 then .next (s.combineCycle t)
      else
      let was := (s.tile t).inject
      let s1 := s.release t e.pkt
      let lanes := s1.allLanes t
      match (s1.tile t).inject.find? fun y => y.comb && !(was.contains y) with
      | none => .next s1
      | some y =>
        let s2 := s1.setTile t { s1.tile t with inject := (s1.tile t).inject.erase y }
        match (s2.lanesRc lanes).inject t y [] with
        | (true, r) => .next (r.finish t)
        | (false, _) => .next s1

/-! ### Lane fences and remaps (R346 to R348) -/

/-- The lowest-numbered stand in a run that owns a tower or a stack on tile `t`. -/
def State.tileStand (s : State) (t : Nat) : Option Nat :=
  (upto 16).find? fun i => s.stdState i == 2 && ((s.tilesOf i).contains t || (s.stacksOf i).any fun j => j / 2 = t)

/-- The lanes of group `g` of trunk `q` at positions `i` to 9 move up by one channel (R347). -/
def State.remapLanes (s : State) (t q g i : Nat) : State :=
  let s1 := ((upto 10).filter (i ≤ ·)).foldl (fun x k =>
    let l := 10 * g + k
    let b := x.laneByte t q l
    x.setLaneByte t q l (natPut b 0 6 (b % 64 + 1))) s
  let a := Reg.PKT_LANE_GROUP t q
  let s2 := s1.sf a Fld.PKT_LANE_GROUP_spare_used (natPut (s1.gf a Fld.PKT_LANE_GROUP_spare_used) g 1 1)
  s2.sf a Fld.PKT_LANE_GROUP_remap_pending (natPut (s2.gf a Fld.PKT_LANE_GROUP_remap_pending) g 1 0)

/-- A remap that a clearing gives up (R247): the lanes lie on their channels of before, and the group's spare is free again. -/
def State.unmapLanes (s : State) (t q g i : Nat) : State :=
  let s1 := ((upto 10).filter (i ≤ ·)).foldl (fun x k =>
    let l := 10 * g + k
    let b := x.laneByte t q l
    x.setLaneByte t q l (natPut b 0 6 (b % 64 - 1))) s
  let a := Reg.PKT_LANE_GROUP t q
  let s2 := s1.sf a Fld.PKT_LANE_GROUP_spare_used (natPut (s1.gf a Fld.PKT_LANE_GROUP_spare_used) g 1 0)
  s2.sf a Fld.PKT_LANE_GROUP_remap_pending (natPut (s2.gf a Fld.PKT_LANE_GROUP_remap_pending) g 1 1)

/-- Set or clear the out-of-service bits of a group's lanes. -/
def State.groupOut (s : State) (t q g v : Nat) : State :=
  (upto 10).foldl (fun x k => x.setLaneByte t q (10 * g + k) (natPut (x.laneByte t q (10 * g + k)) 7 1 v)) s

/-- Retire lane `l` of inbox trunk `q` (R346). -/
def State.retireLane (s : State) (t q l : Nat) : State := s.setLaneByte t q l (natPut (s.laneByte t q l) 6 1 1)

/-- Ask for the remap of group `g` from position `i` (R347): at once where no running stand is exposed to the tile, else at the next
clearing of the stand that is. -/
def State.remapAsk (s : State) (t q g i : Nat) : State :=
  let a := Reg.PKT_LANE_GROUP t q
  match s.tileStand t with
  | none => s.remapLanes t q g i
  | some _ =>
    (s.sf a Fld.PKT_LANE_GROUP_remap_pending (natPut (s.gf a Fld.PKT_LANE_GROUP_remap_pending) g 1 1)).setTile t
      { s.tile t with laneRemap := (s.tile t).laneRemap ++ [(q, g, i, 0)] }

/-- Fence lane `l` of inbox trunk `q` of tile `t` (R346): its channel carries nothing from now on, and its group is
remapped, or the lane retired. A lane whose own modulator cannot lock is retired (`own`), which no other channel mends, and its channel
stays sound for the lane that a remap may move there; its entry says so by cause 1. A second lane of a group whose remap still waits is
retired at once. [DESIGN CHOICE, assumption 126, unsafe, DESIGN CHOICE, assumption 152, unsafe] -/
def State.fenceLaneAs (s : State) (t q l : Nat) (own : Bool) : State :=
  let f := Reg.PKT_LANE_FENCED t q
  let ch := s.laneByte t q l % 64
  if natBit (s.gf f Fld.PKT_LANE_FENCED_ch) ch || natBit (s.laneByte t q l) 6 then s
  else
    let u := if l / 2 < t then l / 2 else l / 2 + 1
    let s0 := if own then s else s.sf f Fld.PKT_LANE_FENCED_ch (natPut (s.gf f Fld.PKT_LANE_FENCED_ch) ch 1 1)
    let s1 := ((s0.contained
      { ErrInfo.plain 5 0x0C with tile := some t, addr := some (l + ch * 2 ^ 8 + q * 2 ^ 16) }).dead 7 t 0xFF q l (boolNat own))
    let g := l / 10
    let a := Reg.PKT_LANE_GROUP t q
    let used := own || natBit (s1.gf a Fld.PKT_LANE_GROUP_spare_used) g || natBit (s1.gf a Fld.PKT_LANE_GROUP_remap_pending) g
    let s2 := if used then s1.retireLane t q l else s1.remapAsk t q g (l % 10)
    -- a pair left without a lane is relayed (R348)
    if s.pairHas u t > 0 ∧ s2.pairHas u t = 0 then
      s2.contained { ErrInfo.plain 5 0x0A with tile := some t, detail := some (16 * u + t) }
    else s2

def State.fenceLane (s : State) (t q l : Nat) : State := s.fenceLaneAs t q l false

/-- A lane of an inbox trunk is fenced (R346). -/
def execLaneFence (t q l : Nat) (s : State) : Host.Outcome State Fault Refusal :=
  if t ≥ 16 ∨ q ≥ 2 ∨ l ≥ 30 then .fault .noSuchUnit else .next (s.fenceLane t q l)

end Sys2Proof.Machine
end

