-- ==== Sys2Proof/Machine/Fabric.lean ====
section
/-! DEFINITION. Circuits and the fabric sequencer's contexts: slots, listeners, handles, the checks of R287, edges and
frames (R252 to R289). -/

namespace Sys2Proof.Machine

/-! ### Slots and channels (R255 to R258) -/

/-- Byte of slot `k` of home trunk `h` of tile `t` in OPT_SLOT_MAP: channel, carriage. -/
def State.slotByte (s : State) (t h k : Nat) : Nat := natBits (s.reg (Reg.OPT_SLOT_MAP t h (k / 4))).toNat (8 * (k % 4)) 8

/-- Write that byte. -/
def State.setSlotByte (s : State) (t h k v : Nat) : State :=
  let a := Reg.OPT_SLOT_MAP t h (k / 4)
  s.setReg a (BitVec.ofNat 64 (natPut (s.reg a).toNat (8 * (k % 4)) 8 v))

/-- The physical channel of a slot. -/
def State.slotCh (s : State) (t h k : Nat) : Nat := s.slotByte t h k % 64

/-- The stand that owns a slot in the plan in force. -/
def State.slotOwner (s : State) (t h k : Nat) : Option Nat :=
  let b := planSlot s.planForce (8 * t + h) k
  if b < 16 ∧ planValid s.planForce b then some b else none

/-- The spare channel of a home trunk; 0x3F where there is none. -/
def State.spareCh (s : State) (t h : Nat) : Nat := s.gf (Reg.OPT_TRUNK_STATE t h) Fld.OPT_TRUNK_STATE_spare

/-- The target mask that an mcast in force gives a slot of tile `t`; 0 at full rate (R280). -/
def State.slotMask (s : State) (t h k : Nat) : Nat := sget 0 (s.fabT t).mcast (32 * h + k)

/-! ### Listeners (R259 to R263, R289) -/

/-- The index of foreign home trunk `h` of tile `u` at tile `t`. -/
def foreignTrunk (t u h : Nat) : Nat := 8 * laneRank t u + h

/-- The tile and home trunk of a foreign trunk index at tile `t`. -/
def foreignOf (t f : Nat) : Nat × Nat := ((if f / 8 < t then f / 8 else f / 8 + 1), f % 8)

/-- The place of the spare listener on foreign trunk `f` of tile `t`. -/
def State.spareJ (s : State) (t f : Nat) : Nat := 8 - sget 0 (s.fabT t).spareJ f

/-- Is that spare listener available (OPT_SPARE_LISTEN)? -/
def State.spareFree (s : State) (t f : Nat) : Bool :=
  natBit (s.gf (Reg.OPT_SPARE_LISTEN t (f / 32)) Fld.OPT_SPARE_LISTEN_free) (f % 32)

/-- Listener `l` of tile `t`. -/
def State.listener (s : State) (t l : Nat) : Listener := sget Listener.zero (s.fabT t).lst l
/-- Set a listener; one that has not lost lock has no ring that has. -/
def State.setListener (s : State) (t l : Nat) (x : Listener) : State :=
  let f := s.fabT t
  s.setFab t { f with lst := sset Listener.zero f.lst l x,
                      lostRings := if x.lost then f.lostRings else f.lostRings.filter fun c => c != 588 + 2 * l && c != 589 + 2 * l }

/-- Park a listener; what it met before stays recorded. -/
def State.parkListener (s : State) (t l : Nat) : State :=
  let x := s.listener t l
  if x.mode = .fenced then s.setListener t l { x with user := none }
  else s.setListener t l { x with mode := .parked, user := none, lost := false }

/-- The listeners of foreign trunk `f` that could take a circuit now (R261, R297). -/
def State.freeListeners (s : State) (t f : Nat) : List Nat :=
  ((upto 9).filter fun j => (decide (j ≠ s.spareJ t f) || !s.spareFree t f) &&
    (let x := s.listener t (9 * f + j); x.mode == .parked && x.user.isNone)).map fun j => 9 * f + j

/-- Context `x` of tile `t`. -/
def State.ctx (s : State) (t x : Nat) : CtxSt := sget CtxSt.zero (s.fabT t).ctxs x

/-- Does listener `l` drop the spare channel for a circuit in carriage (R277): its trunk's spare listener, switched from monitor mode? -/
def State.carries (s : State) (t l : Nat) : Bool :=
  decide (l = 9 * (l / 9) + s.spareJ t (l / 9)) && s.spareFree t (l / 9) &&
    (upto 6).any fun x => (s.ctx t x).circs.any fun (e : Nat × Circ) => e.2.carriage && foreignTrunk t e.2.src e.2.trunk == l / 9

/-- Does front end `f` of tile `t` serve no listener that drops a channel or moves to one? -/
def State.frontIdle (s : State) (t f : Nat) : Bool :=
  match sget 0 (s.fabT t).fronts f with
  | 0 => true
  | l + 1 => (s.listener t l).mode == .fenced || ((s.listener t l).mode == .parked && !s.carries t l)

/-- The front end that serves listener `l`: its own, else the lowest idle one. [DESIGN CHOICE, assumption 135, unsafe] -/
def State.frontOf (s : State) (t l : Nat) : Nat :=
  match (s.fabT t).fronts.find? fun e => e.2 == l + 1 with
  | some e => e.1
  | none => ((upto 256).find? (s.frontIdle t)).getD 255

/-- Count `n` events `e` of the front end that serves listener `l` (R495). -/
def State.frontCount (s : State) (t l e n : Nat) : State :=
  if n = 0 then s
  else (s.setFab t { s.fabT t with fronts := sset 0 (s.fabT t).fronts (s.frontOf t l) (l + 1) }).bump (Reg.PMC_FRONT t (s.frontOf t l) e) n

/-- Count `n` events `e` of inbox receiver `i` (R495). -/
def State.inboxCount (s : State) (t i e n : Nat) : State := if n = 0 then s else s.bump (Reg.PMC_INBOX t i e) n

/-- The listener that carries no circuit's number: a circuit whose trunk gave none. -/
def noListener : Nat := 0x7FF

/-! ### Contexts (R282, R283) -/

/-- Set context `x` of tile `t`. -/
def State.setCtx (s : State) (t x : Nat) (k : CtxSt) : State :=
  s.setFab t { s.fabT t with ctxs := sset CtxSt.zero (s.fabT t).ctxs x k }

/-- The context that serves stand `i` on tile `t`. -/
def State.ctxOf (s : State) (t i : Nat) : Option Nat :=
  (upto 6).find? fun x => decide ((s.ctx t x).state ≠ 0) && decide ((s.ctx t x).stand = i)

/-- A handle of a context. -/
def CtxSt.circ (k : CtxSt) (c : Nat) : Circ := sget Circ.zero k.circs c
def CtxSt.setCirc (k : CtxSt) (c : Nat) (x : Circ) : CtxSt := { k with circs := sset Circ.zero k.circs c x }

/-- The listeners that a context holds open. -/
def CtxSt.active (k : CtxSt) : Nat := k.circs.length

/-- q(w) of R262 for a stand's towers on a tile. -/
def State.quota (s : State) (t i : Nat) : Nat :=
  256 * ((upto 6).filter fun c => natBit (planTowers s.planForce i) (6 * t + c)).length / 6

/-- Is a circuit of slot `k` of home trunk `h` of tile `u` in spare carriage? -/
def State.slotCarried (s : State) (u h k : Nat) : Bool :=
  (upto 16).any fun t => (upto 6).any fun x => (s.ctx t x).circs.any fun (e : Nat × Circ) =>
    e.2.carriage && decide (e.2.src = u) && decide (e.2.trunk = h) && decide (e.2.slot = k)

/-- OPT_SLOT_MAP's carriage bit of a slot that no circuit in carriage uses any more falls. -/
def State.carriageBit (s : State) (u h k : Nat) : State :=
  if s.slotCarried u h k then s else s.setSlotByte u h k (natPut (s.slotByte u h k) 6 1 0)

/-- A circuit leaves spare carriage. -/
def State.uncarry (s : State) (t x c : Nat) : State :=
  let q := (s.ctx t x).circ c
  (s.setCtx t x ((s.ctx t x).setCirc c { q with carriage := false })).carriageBit q.src q.trunk q.slot

/-- A fenced listener that serves no circuit is replaced at once: the trunk's spare listener takes its place (R297). -/
def State.replaceListener (s : State) (t l : Nat) : State :=
  let f := l / 9
  let a := Reg.OPT_SPARE_LISTEN t (f / 32)
  if s.spareFree t f then s.sf a Fld.OPT_SPARE_LISTEN_free (natPut (s.gf a Fld.OPT_SPARE_LISTEN_free) (f % 32) 1 0) else s

/-- A listener serves handle `c` of context `x` no more. -/
def Listener.leave (l : Listener) (x c : Nat) : Listener := if l.user == some (x, c) then { l with user := none } else l

/-! ### Frames (R265, R268, R273, R274, R364) -/

/-- The region of a binding for the frame of beat `n`: its first line. -/
def Binding.first (b : Binding) (n : Nat) : Nat := b.off + b.lines * ((n - b.beat.toNat - 1) % 2 ^ b.ring)

/-- The line that a frame carries from `src`; one that cannot be read gives a free line (R381). [DEDUCED, assumption 34, unsafe] -/
def State.frameLine (s : State) (src : Nat) : BitVec 512 × State :=
  if s.poisoned src then s.takeLine else (BitVec.ofNat 512 (s.rd src 64), s)

/-- The send binding in force on a slot of tile `u` for stand `i`. -/
def State.sendOf (s : State) (u i h k : Nat) : Option Binding :=
  match s.ctxOf u i with
  | some x => sget none (s.ctx u x).sends (32 * h + k)
  | none => none

/-- The site of a send binding's mask. -/
def Binding.site (b : Binding) : Nat := ((upto 6).find? fun c => b.mask.getLsbD c).getD 0

/-- The stream of a binding of endpoint or handle `e` (R272, R360): its effect begins with the beat after the one that bound it. -/
def Binding.stream (b : Binding) (recv : Bool) (e : Nat) : Stream := ⟨recv, e, b.off, b.lines, b.ring, b.beat + 1, false⟩

/-- The number of the stream of tower `w`'s link that carries a binding of `e` (R364). -/
def State.streamOf (s : State) (w : Nat) (recv : Bool) (e : Nat) (b : Binding) : Option Nat :=
  ((s.site w).streams.find? fun q => match q.2 with
    | some v => { v with going := false } == b.stream recv e
    | none => false).map (·.1)

/-- At the edge a binding of `e` gets its streams, one for each site of its mask, and frees those of the one before it (R364). -/
def State.bindStreams (s : State) (t i : Nat) (recv : Bool) (e : Nat) (b : Binding) : State :=
  let v := b.stream recv e
  ((upto 6).filter fun c => b.mask.getLsbD c).foldl (fun y c => y.bindStream (6 * t + c) v)
    (s.freeStreams t i fun y => y.recv == recv && y.ends == e && { y with going := false } != v)

/-- The streams of `e`'s binding are freed (R364). -/
def State.unbindStreams (s : State) (t i : Nat) (recv : Bool) (e : Nat) : State :=
  s.freeStreams t i fun y => y.recv == recv && y.ends == e

/-- Line `l` of the frame that tower `w` has pushed on stream `n`, where its flits have arrived (R357). -/
def SiteSt.streamLine (x : SiteSt) (n l : Nat) : Option (BitVec 512) :=
  let at_ := fun k => sget none x.frame (2 ^ 24 * n + 240 * k)
  let a := 64 * l / 240
  let b := (64 * l + 63) / 240
  match at_ a, at_ b with
  | some u, some v => some (BitVec.ofNat 512
      (natBits (u.toNat + (if a = b then 0 else v.toNat * 2 ^ 1920)) (8 * (64 * l % 240)) 512))
  | _, _ => none

/-- Put a line of a frame at those places. -/
def linePlaces (ds : List Nat) (v : BitVec 512) (s : State) : State := ds.foldl (fun y d => (y.lineWhole d).store d 64 v.toNat) s

/-- What is left of a line at the edge: read and written now. Its contents are the answer's. -/
def FrameLine.flush (l : FrameLine) (s : State) : BitVec 512 × State :=
  match l.data with
  | some v => (v, linePlaces l.left v s)
  | none => let r := s.frameLine l.src; (r.1, linePlaces l.left r.1 r.2)

/-- The lines of a frame in order, and the state in which all are written. -/
def flushLines : List FrameLine → State → List Nat × State
  | [], s => ([], s)
  | l :: rest, s =>
    let r := l.flush s
    let q := flushLines rest r.2
    (r.1.toNat :: q.1, q.2)

/-- Finish the frame that handle `c` has taken (R274), and push it down every receiving site's stream (R364); what has arrived of a frame
that was not accepted is dropped. -/
def State.finishFrame (s : State) (t x c : Nat) : State :=
  let k := s.ctx t x
  let q := k.circ c
  if q.frame = [] then s
  else if !q.judged || q.flagNow then s.setCtx t x (k.setCirc c { q with frame := [] })
  else
    let r := flushLines q.frame (s.setCtx t x (k.setCirc c { q with frame := [] }))
    match q.bind with
    | none => r.2
    | some b => ((upto 6).filter fun d => b.mask.getLsbD d).foldl (fun y d =>
      match y.streamOf (6 * t + d) true c b with
      | some n => y.sendStream (6 * t + d) n (64 * q.frame.length) (packBits 512 r.1)
      | none => y) r.2

/-- Close a handle: its frame is finished, its streams are freed (R364), its listener parks (R272), its carriage ends (R277), and a fenced
listener that it leaves without a circuit is replaced (R297). -/
def State.closeCirc (s0 : State) (t x c : Nat) : State :=
  let s := (s0.finishFrame t x c).unbindStreams t (s0.ctx t x).stand true c
  let k := s.ctx t x
  let q := k.circ c
  if !q.isOpen then s
  else
    let s1 :=
      if q.listener = noListener then s
      else
        let gone := decide ((s.listener t q.listener).mode = .fenced)
        let y := s.parkListener t q.listener
        if gone then y.replaceListener t q.listener else y
    let lst := (s1.fabT t).lst.map fun (e : Nat × Listener) => (e.1, e.2.leave x c)
    let s2 := (s1.setFab t { s1.fabT t with lst := lst }).setCtx t x (k.setCirc c Circ.zero)
    if q.carriage then s2.carriageBit q.src q.trunk q.slot else s2

/-- Close every circuit of a context. -/
def State.closeAll (s : State) (t x : Nat) : State :=
  ((s.ctx t x).circs.map (·.1)).foldl (fun y c => y.closeCirc t x c) s

/-- Release a stand's context on tile `t` and its slots' multicasts, when the run's state leaves STARTING or RUNNING. -/
def State.freeCtx (s : State) (t i : Nat) : State :=
  let s0 := s.setFab t { s.fabT t with mcast := (s.fabT t).mcast.filter fun e =>
    !(s.slotOwner t (e.1 / 32) (e.1 % 32) == some i) }
  match s0.ctxOf t i with
  | none => s0
  | some x => ((s0.closeAll t x).setCtx t x CtxSt.zero).freeStreams t i fun _ => true

/-! ### Program words (R285, R287) -/

/-- The checks of loading on one instruction word of a program of `len` instructions. -/
def seqWordOk (w len : Nat) : Bool :=
  match w % 256 with
  | 0x01 => decide (w < 2 ^ 29)
  | 0x02 => decide (w < 2 ^ 16)
  | 0x03 => natBits w 17 15 == 0 && natBits w 48 16 == 0 && (natBit w 16 || natBits w 32 16 == 0)
  | 0x06 => natBits w 62 2 == 0 && natBits w 44 16 != 0
  | 0x07 => decide (w < 2 ^ 17)
  | 0x08 => natBits w 9 7 == 0
  | 0x09 => decide (w < 2 ^ 42) && natBits w 10 16 != 0 && decide (natBits w 26 16 < len)
  | 0x0A => natBits w 8 8 == 0 && decide (w < 2 ^ 28) && decide (natBits w 16 12 < len)
  | 0x0B => natBits w 8 8 == 0
  | _ => false

/-- The same checks on a word of the management context, which alone takes `swap` and `park`: a channel and a listener that exist, and
every bit that the form does not use zero. -/
def seqManageOk (w : Nat) : Bool :=
  match w % 256 with
  | 0x04 => decide (w < 2 ^ 22)
  | 0x05 => if natBit w 8 then natBits w 9 9 == 0 && decide (natBits w 18 46 < 1080) else decide (w < 2 ^ 18) && decide (natBits w 12 6 < 33)
  | _ => false

/-- The index of the first instruction that fails. -/
def seqBreach (prog : List (BitVec 64)) : Option Nat :=
  let n := prog.findIdx fun w => !seqWordOk w.toNat prog.length
  if n < prog.length then some n else none

/-! ### Executing an instruction -/

/-- Move a context on to instruction `pc`; past its last it has ended (R283). -/
def CtxSt.goto (k : CtxSt) (pc : Nat) : CtxSt :=
  { k with pc := pc, state := if pc ≥ k.prog.length then 4 else 2 }

/-- Refuse the instruction at a context's pc (R287, R244): the context stops, and its stand takes the error. -/
def State.seqRefuse (s : State) (t x code cause : Nat) : State :=
  let k := s.ctx t x
  let a := Reg.FAB_CTX_ERR t x
  let s1 := (((s.setCtx t x { k with state := 5 }).sf a Fld.FAB_CTX_ERR_cause cause).sf a Fld.FAB_CTX_ERR_pc k.pc).sf a
    Fld.FAB_CTX_ERR_valid 1
  s1.standFatal k.stand { ErrInfo.plain 6 code with tile := some t, index := some k.pc, detail := some cause }

/-- The 64-bit words of the sequencer's instructions (R285). -/
def seqOpenWord (c st h slot pd : Nat) : Nat := 0x01 + c * 2 ^ 8 + st * 2 ^ 16 + h * 2 ^ 20 + slot * 2 ^ 23 + pd * 2 ^ 28
def seqCloseWord (c : Nat) : Nat := 0x02 + c * 2 ^ 8
def seqMcastWord (h slot on mask : Nat) : Nat := 0x03 + h * 2 ^ 8 + slot * 2 ^ 11 + on * 2 ^ 16 + mask * 2 ^ 32
def seqBindWord (dir endpoint mask off lines ring : Nat) : Nat :=
  0x06 + dir * 2 ^ 8 + endpoint * 2 ^ 9 + mask * 2 ^ 17 + off * 2 ^ 23 + lines * 2 ^ 44 + ring * 2 ^ 60
def seqUnbindWord (dir endpoint : Nat) : Nat := 0x07 + dir * 2 ^ 8 + endpoint * 2 ^ 9
def seqWaitWord (rel beat : Nat) : Nat := 0x08 + rel * 2 ^ 8 + beat * 2 ^ 16
def seqLoopWord (i count target : Nat) : Nat := 0x09 + i * 2 ^ 8 + count * 2 ^ 10 + target * 2 ^ 26
def seqJumpWord (target : Nat) : Nat := 0x0A + target * 2 ^ 16
def seqSwapWord (h slot ch : Nat) : Nat := 0x04 + h * 2 ^ 8 + slot * 2 ^ 11 + ch * 2 ^ 16
def seqParkWord (lst h ch index : Nat) : Nat := 0x05 + lst * 2 ^ 8 + h * 2 ^ 9 + ch * 2 ^ 12 + index * 2 ^ 18
def seqNoteWord (v : Nat) : Nat := 0x0B + v * 2 ^ 16

/-- Is the context running its program, with the instruction word `w` the next (R283, R285)? -/
def State.ctxRuns (s : State) (t x w : Nat) : Bool :=
  let k := s.ctx t x
  k.state == 2 && s.stdState k.stand == 2 && !(s.stand k.stand).stopped && (k.prog[k.pc]?).map (·.toNat) == some w

/-- Execute the instruction `w` of a stand's context: refused under code 0x17 in a clearing beat where `ctl` is false,
refused for its lowest cause, or carried out, the context going on to the next instruction. -/
def seqExec (s : State) (t x w : Nat) (ctl : Bool) (causes : CtxSt → List Nat) (go : CtxSt → State) : State :=
  let k := s.ctx t x
  if !s.ctxRuns t x w then s
  else if !ctl && s.inClearing k.stand then s.seqRefuse t x 0x17 0x17
  else match causes k with
    | c :: rest => s.seqRefuse t x 0x18 (rest.foldl min c)
    | [] =>
      let s1 := go k
      s1.setCtx t x ((s1.ctx t x).goto (k.pc + 1))

/-- A cause where a condition holds. -/
def cause (b : Bool) (n : Nat) : List Nat := if b then [n] else []

/-- The beat count after which a circuit is ready (R271). [DEDUCED, assumption 45, safe] -/
def readyBeats (l : Nat) : Nat := 1 + (24576 + l - 1) / l

/-- Is a circuit of stand `i` ready by the time since it opened (R271)? [DEDUCED, assumption 45, safe] -/
def State.circAged (s : State) (i : Nat) (q : Circ) : Bool :=
  decide (q.openGrid + readyBeats (s.stand i).copy.beatLen ≤ (s.stand i).grid)

/-- The listener that drops a circuit's frames: the trunk's spare listener in carriage (R277), else its own. -/
def State.dropper (s : State) (t : Nat) (q : Circ) : Nat :=
  let f := foreignTrunk t q.src q.trunk
  if q.carriage then 9 * f + s.spareJ t f else q.listener

/-- Is a circuit ready for the frame of the present beat, its listener dropping the channel with lock (R268, R277, R294, R295)? The
spare listener drops the spare channel for a circuit in carriage from the place that it has in monitor mode. -/
def State.circReady (s : State) (t i : Nat) (q : Circ) : Bool :=
  let l := s.listener t (s.dropper t q)
  s.circAged i q && !l.lost &&
    (if q.carriage then s.spareFree t (foreignTrunk t q.src q.trunk) && l.mode == .parked
     else decide (q.listener ≠ noListener) && l.mode == .drop)

/-- The capacity of a frame in lines (R267). -/
def frameCap (l : Nat) (half : Bool) : Nat := if half then (l - 384) * 25 / 64 else (l - 384) * 50 / 64

/-- Add an act for the admitted edge (R272). -/
def State.later (s : State) (t x : Nat) (a : EdgeAct) : State :=
  let k := s.ctx t x
  s.setCtx t x { k with acts := k.acts ++ [a] }

/-- Carry out one act at the admitted edge. -/
def State.edgeAct (s : State) (t x : Nat) (a : EdgeAct) : State :=
  let k := s.ctx t x
  match a with
  | .bindSend e b => (s.setCtx t x { k with sends := sset none k.sends e (some b) }).bindStreams t k.stand false e b
  | .unbindSend e => (s.setCtx t x { k with sends := sset none k.sends e none }).unbindStreams t k.stand false e
  | .bindRecv c b => if (k.circ c).isOpen then (s.setCtx t x (k.setCirc c { k.circ c with bind := some b })).bindStreams t k.stand true c b else s
  | .unbindRecv c => if (k.circ c).isOpen then (s.setCtx t x (k.setCirc c { k.circ c with bind := none })).unbindStreams t k.stand true c else s
  | .shut c => s.closeCirc t x c
  | .mcast h k m => s.setFab t { s.fabT t with mcast := sset 0 (s.fabT t).mcast (32 * h + k) m }

/-- Change every open handle. -/
def CtxSt.mapCircs (k : CtxSt) (f : Circ → Circ) : CtxSt := { k with circs := k.circs.map fun (e : Nat × Circ) => (e.1, f e.2) }

/-- A handle at an admitted edge: no frame of the new beat is judged. -/
def Circ.turn (q : Circ) : Circ := { q with flagNow := false, flagPrev := false, judged := false }

/-- A handle at a suppressed edge: its frame comes again. -/
def Circ.again (q : Circ) : Circ := { q with flagPrev := q.flagNow, flagNow := false, judged := false }

/-- A context at an admitted edge that begins beat `n`: its acts take effect, and a wait for `n` or before is over. -/
def State.ctxEdge (s : State) (t x n : Nat) : State :=
  let s1 := (s.ctx t x).acts.foldl (fun y a => y.edgeAct t x a) s
  let k := s1.ctx t x
  let k1 := { k.mapCircs Circ.turn with acts := [] }
  match k1.wait with
  | some w => if w.toNat ≤ n ∧ k1.state = 3 then s1.setCtx t x ({ k1 with wait := none }.goto k1.pc) else s1.setCtx t x k1
  | none => s1.setCtx t x k1

/-- The frames that a context has in force at a grid edge: its send bindings and its receiving circuits. The empty frames of slots to
which nothing is bound (R266) are not counted. [DESIGN CHOICE, assumption 125, unsafe] -/
def CtxSt.frames (k : CtxSt) : Nat := k.sends.length + (k.circs.filter fun e => e.2.bind.isSome).length

/-- A context at a suppressed edge of its stand: every frame of the beat is sent and received again (R276). -/
def State.ctxRepeat (s : State) (t x : Nat) : State :=
  let k := s.ctx t x
  let s1 := s.sfSat (Reg.FAB_CTX_REPEAT t x) Fld.FAB_CTX_REPEAT_count k.frames
  s1.setCtx t x (k.mapCircs Circ.again)

/-- Does a circuit hold its stand's gate: bound, and its frame flagged or not yet judged (R234, R268)? -/
def Circ.late (q : Circ) : Bool := q.bind.isSome && (q.flagNow || !q.judged)

/-! ### Taking a frame (R264 to R268, R273, R274) -/

/-- A framing word (R265). -/
def framingWord (tag kind stand slot half lines beat : Nat) : Nat :=
  tag % 2 ^ 12 + kind % 4 * 2 ^ 12 + stand % 16 * 2 ^ 14 + slot % 32 * 2 ^ 18 + half % 2 * 2 ^ 23 + lines % 2 ^ 16 * 2 ^ 24 +
    beat % 2 ^ 24 * 2 ^ 40

/-- The framing block that at least three of a codeword's five copies agree on. -/
def framingBlock (blocks : BitVec 2560) : Option (BitVec 512) :=
  let bs := (upto 5).map fun k => BitVec.ofNat 512 (natBits blocks.toNat (512 * k) 512)
  bs.find? fun b => decide (((bs.filter fun c => c == b).length) ≥ 3)

/-- The physical channel on which a circuit's frames travel: the trunk's spare in carriage. -/
def State.circCh (s : State) (q : Circ) : Nat := if q.carriage then s.spareCh q.src q.trunk else s.slotCh q.src q.trunk q.slot

/-- Is every circuit and lane dark (R313)? -/
def State.dark (s : State) : Bool := s.gf Reg.OPT_ILK_STATUS Fld.OPT_ILK_STATUS_ready == 0

/-- Does the source tile modulate the circuit's frames: neither itself in a warm start (R307, R470), nor with the modulator of
their channel parked (R299)? -/
def State.circLit (s : State) (q : Circ) : Bool :=
  !s.dark && s.gf (Reg.OPT_HOLD_STATE q.src) Fld.OPT_HOLD_STATE_held == 0 &&
    !natBit (s.gf (Reg.OPT_CH_PARKED q.src q.trunk) Fld.OPT_CH_PARKED_ch) (s.circCh q)

/-- The slot that a channel of a home trunk carries. -/
def State.chSlot (s : State) (t h ch : Nat) : Option Nat := (upto 32).find? fun k => decide (s.slotCh t h k = ch)

/-- A framing block: its word, and in a trailer the CRC-32C of the data lines in bytes 8 to 11 (R265). -/
def framingBytes (word crc : Nat) : BitVec 512 := BitVec.ofNat 512 (word + crc % 2 ^ 32 * 2 ^ 64)

/-- The framing block of the idle codewords of a channel (R265, R266): its slot and the stand that owns it; stand 0 and slot 0 on a
spare and on a channel under calibration, for as long as that lasts (R300). -/
def State.idleBlock (s : State) (t h ch : Nat) : BitVec 512 :=
  let tag := waveTag (8 * t + h) ch
  match s.chSlot t h ch with
  | some k => framingBytes (framingWord tag 0 ((s.slotOwner t h k).getD 0) k (boolNat (s.slotMask t h k != 0)) 0 0) 0
  | none => framingBytes (framingWord tag 0 0 0 0 0 0) 0

/-- The framing block of a head (kind 1) or a trailer (kind 2) of a circuit's frame in the present beat (R265), on the channel that
carries it; a channel under calibration carries idle codewords alone (R300). -/
def State.frameBlock (s : State) (i : Nat) (q : Circ) (kind lines crc : Nat) : BitVec 512 :=
  let ch := s.circCh q
  if s.gf (Reg.OPT_TRUNK_STATE q.src q.trunk) Fld.OPT_TRUNK_STATE_cal_ch = ch then s.idleBlock q.src q.trunk ch
  else framingBytes (framingWord (waveTag (8 * q.src + q.trunk) ch) kind i q.slot (boolNat (s.slotMask q.src q.trunk q.slot != 0))
    lines (s.stand i).beat.toNat) crc

/-- Does a framing block, of the kind asked for, say what the circuit expects (R268)? -/
def State.blockIs (s : State) (i : Nat) (q : Circ) (kind lines crc : Nat) (b : BitVec 512) : Bool :=
  natBits b.toNat 12 2 == kind && b == s.frameBlock i q kind lines crc

/-- Is a frame's head what the circuit expects: its tag, stand, slot and beat, and what every head of it holds beside them? -/
def State.headOk (s : State) (i : Nat) (q : Circ) (seen : FrameSeen) : Bool :=
  match seen.head with
  | some b => s.blockIs i q 1 (natBits b.toNat 24 16) 0 b
  | none => false

/-- The CRC-32C of a frame's data lines. -/
def frameCrc (ls : List FrameLine) : Nat :=
  crc32c (ls.flatMap fun y => (bytesOf 64 ((y.data.getD 0).toNat)).map (·.toNat))

/-- Does a frame's trailer agree with its data lines, in their number and their CRC-32C? -/
def State.trailerOk (s : State) (i : Nat) (q : Circ) (seen : FrameSeen) : Bool :=
  match seen.trailer with
  | some b => s.blockIs i q 2 q.frame.length (frameCrc q.frame) b
  | none => false

/-- Does a frame arrive on the handle's circuit so that its lines can be taken (R268, R271)? -/
def State.frameComes (s : State) (t i : Nat) (q : Circ) (seen : FrameSeen) : Bool :=
  seen.codewords && seen.lock && s.circLit q && s.circReady t i q && s.headOk i q seen

/-- Is a frame that has arrived on the handle's circuit whole? -/
def State.frameWhole (s : State) (t i : Nat) (q : Circ) (seen : FrameSeen) : Bool :=
  s.frameComes t i q seen && s.trailerOk i q seen

/-- Where line `l` of a frame of binding `f` on tower `w` to binding `b` on tile `t` in beat `n` comes from and goes to. -/
def frameLineAt (w t n : Nat) (f b : Binding) (l : Nat) : FrameLine :=
  let ds := ((upto 6).filter fun d => b.mask.getLsbD d).map fun d => tsAddr (6 * t + d) (64 * (b.first n + l))
  ⟨tsAddr w (64 * (f.first n + l)), ds, none, ds⟩

/-- The lines of the frame that comes on a circuit of stand `i` (R273): those of the sender's binding, and none where nothing is bound.
A frame that is longer than the receiver's binding goes nowhere. -/
def State.frameOf (s : State) (t i : Nat) (q : Circ) : List FrameLine :=
  match q.bind, s.sendOf q.src i q.trunk q.slot with
  | some b, some f => (upto f.lines).map fun l =>
      let y := frameLineAt (6 * q.src + f.site) t (s.stand i).beat.toNat f b l
      if f.lines > b.lines then { y with dsts := [], left := [] } else y
  | _, _ => []

/-- The frame is longer than the receiver's binding. -/
def Circ.tooLong (q : Circ) : Bool :=
  match q.bind with
  | some b => decide (q.frame.length > b.lines)
  | none => false

/-- Line `l` as the sending site has pushed it, where it is an open one (R364). -/
def State.pushedLine (s : State) (i : Nat) (q : Circ) (l : Nat) : Option (BitVec 512) :=
  match s.sendOf q.src i q.trunk q.slot with
  | some f => (s.streamOf (6 * q.src + f.site) false (32 * q.trunk + q.slot) f).bind fun m => (s.site (6 * q.src + f.site)).streamLine m l
  | none => none

/-- A line is read at its source, or comes from its site; once. -/
def FrameLine.read (x : FrameLine) (pushed : Option (BitVec 512)) (s : State) : FrameLine × State :=
  match x.data, pushed with
  | some _, _ => (x, s)
  | none, some v => ({ x with data := some v }, s)
  | none, none => ({ x with data := some (s.frameLine x.src).1 }, (s.frameLine x.src).2)

/-- A line that has been read is written at those of its places that `ks` names by their numbers; once at each. -/
def FrameLine.write (x : FrameLine) (ks : List Nat) (s : State) : FrameLine × State :=
  match x.data with
  | some v =>
    let now := ks.filterMap fun k => x.dsts[k]?
    ({ x with left := x.left.filter fun d => !(now.contains d) }, linePlaces (x.left.filter now.contains) v s)
  | none => (x, s)

/-- Read and write lines in order: those that `rd` names, and at place `k` the line `l` where `wr` names `8 l + k`. -/
def takeLines (pushed : Nat → Option (BitVec 512)) (rd wr : List Nat) : List (Nat × FrameLine) → State → List FrameLine × State
  | [], s => ([], s)
  | (l, x) :: rest, s =>
    let r := if rd.contains l then x.read (pushed l) s else (x, s)
    let w := r.1.write ((upto 6).filter fun k => wr.contains (8 * l + k)) r.2
    let q := takeLines pushed rd wr rest w.2
    (w.1 :: q.1, q.2)

/-- Read and write the lines of handle `c`'s frame that `rd` and `wr` name. -/
def State.frameTake (s : State) (t x c : Nat) (rd wr : List Nat) : State :=
  let i := (s.ctx t x).stand
  let q := (s.ctx t x).circ c
  let r := takeLines (s.pushedLine i q) rd wr ((upto q.frame.length).zip q.frame) s
  let k := r.2.ctx t x
  r.2.setCtx t x (k.setCirc c { k.circ c with frame := r.1 })

/-- Some of a frame's lines are read and some written now, at each place by a free choice of its own (R3, R274). [DESIGN CHOICE, assumption 124, safe] -/
def State.frameMoves (s : State) (t x c : Nat) : State :=
  let all := upto ((s.ctx t x).circ c).frame.length
  let (rd, s1) := s.takeSplit all
  let (wr, s2) := s1.takeSplit (all.flatMap fun l => (upto 6).map fun k => 8 * l + k)
  s2.frameTake t x c rd.1 wr.1

/-- At a grid edge of stand `i` every frame taken is finished (R274), and what its sites pushed for it is past. -/
def State.framesEdge (s : State) (i : Nat) : State :=
  let s1 := (s.tilesOf i).foldl (fun y t =>
    match y.ctxOf t i with
    | some x => ((y.ctx t x).circs.map (·.1)).foldl (fun z c => z.finishFrame t x c) y
    | none => y) s
  (s1.towersOf i).foldl (fun y w => if (y.site w).frame = [] then y else y.setSite w { y.site w with frame := [] }) s1

end Sys2Proof.Machine
end

