-- ==== Sys2Proof/Machine/FabricOps.lean ====
section
/-! DEFINITION. The fabric sequencer's instructions and the verdict on a frame (R268 to R287). -/

namespace Sys2Proof.Machine

/-- Does a tile and context exist, and does loading accept the instruction (R287)? -/
def seqGuard (t x : Nat) (legal : Bool) (s : State) : Host.Outcome State Fault Refusal :=
  if t ≥ 16 ∨ x ≥ 7 then .fault .noSuchUnit else if legal then .next s else .fault (.illegalEncoding 0x08)

/-- `open` (R270): the handle opens, and a listener of the trunk, a free choice, starts toward the slot's channel. -/
def openGo (t x c u h slot : Nat) (pd : Bool) (s : State) : State :=
  let ls := s.freeListeners t (foreignTrunk t u h)
  let (j, s1) := s.takeBelow ls.length
  let l := ls.getD j noListener
  let s2 := s1.setListener t l { s1.listener t l with mode := .moving, ch := s1.slotCh u h slot, user := some (x, c), lost := false }
  let k := s2.ctx t x
  let beat := (s2.stand k.stand).beat
  s2.setCtx t x (k.setCirc c { Circ.zero with isOpen := true, src := u, trunk := h, slot := slot, pd := pd, listener := l,
                                              openBeat := beat, openGrid := (s2.stand k.stand).grid })

def execSeqOpen (t x : Nat) (c : BitVec 8) (st : BitVec 4) (h : BitVec 3) (slot : BitVec 5) (pd : Bool) (s : State) :
    Host.Outcome State Fault Refusal :=
  let u := st.toNat
  seqGuard t x true (seqExec s t x (seqOpenWord c.toNat u h.toNat slot.toNat (boolNat pd)) false
    (fun k =>
      cause (s.slotOwner u h.toNat slot.toNat != some k.stand) 1 ++
      cause (decide (k.active ≥ s.quota t k.stand) ||
        (decide (u ≠ t) && decide (s.freeListeners t (foreignTrunk t u h.toNat) = []))) 2 ++
      cause (k.circ c.toNat).isOpen 3 ++
      cause (if pd then !natBit (s.slotMask u h.toNat slot.toNat) t else decide (s.slotMask u h.toNat slot.toNat ≠ 0)) 5 ++
      cause (decide (u = t)) 7)
    (fun _ => openGo t x c.toNat u h.toNat slot.toNat pd s))

/-- `close` (R272): the handle closes at the admitted edge. -/
def execSeqClose (t x : Nat) (c : BitVec 8) (s : State) : Host.Outcome State Fault Refusal :=
  seqGuard t x true (seqExec s t x (seqCloseWord c.toNat) false (fun k => cause (!(k.circ c.toNat).isOpen) 3)
    (fun _ => s.later t x (.shut c.toNat)))

/-- The tiles on which a partial-drop listener has held the slot open since before the present beat (R284). -/
def pdHeld (s : State) (t i h slot : Nat) : Bool :=
  (upto 16).any fun u => match s.ctxOf u i with
    | some x => (s.ctx u x).circs.any fun (e : Nat × Circ) => e.2.pd && decide (e.2.src = t) && decide (e.2.trunk = h) &&
        decide (e.2.slot = slot) && decide (e.2.openBeat.toNat < (s.stand i).beat.toNat)
    | none => false

/-- `mcast` (R280): the slot's rate and targets change at the admitted edge. -/
def execSeqMcast (t x : Nat) (h : BitVec 3) (slot : BitVec 5) (on : Bool) (mask : BitVec 16) (s : State) :
    Host.Outcome State Fault Refusal :=
  let m := mask.toNat
  let tiles := maskTiles m
  seqGuard t x (on || mask == 0) (seqExec s t x (seqMcastWord h.toNat slot.toNat (boolNat on) m) false
    (fun k =>
      cause (s.slotOwner t h.toNat slot.toNat != some k.stand) 1 ++
      cause (if on then decide (tiles.length = 0) || decide (tiles.length > 4) || natBit m t ||
          tiles.any fun u => !((s.tilesOf k.stand).contains u)
        else pdHeld s t k.stand h.toNat slot.toNat) 6)
    (fun _ => s.later t x (.mcast h.toNat slot.toNat m)))

/-- The conditions of a bind's region and sites (cause 0x04): a site that carries no streams takes none (R365). -/
def bindBad (s : State) (t i : Nat) (half recv : Bool) (mask : BitVec 6) (off lines ring : Nat) : Bool :=
  decide (lines > frameCap (s.stand i).copy.beatLen half) || decide (64 * (off + lines * 2 ^ ring) > towerBytes) ||
    (!recv && decide (((upto 6).filter fun c => mask.getLsbD c).length ≠ 1)) ||
    (upto 6).any fun c => mask.getLsbD c && (!s.ownsTower i (6 * t + c) ||
      s.gf (Reg.SITE_LINK_STATE t c) Fld.SITE_LINK_STATE_circuits == 0)

/-- `bind` (R273): the binding governs the frames after the admitted edge. -/
def execSeqBind (t x : Nat) (recv : Bool) (endpoint : BitVec 8) (mask : BitVec 6) (off : BitVec 21) (lines : BitVec 16)
    (ring : BitVec 2) (s : State) : Host.Outcome State Fault Refusal :=
  let e := endpoint.toNat
  let bnd := fun (k : CtxSt) => Binding.mk (s.stand k.stand).beat mask off.toNat lines.toNat ring.toNat
  seqGuard t x (lines != 0) (seqExec s t x (seqBindWord (boolNat recv) e mask.toNat off.toNat lines.toNat ring.toNat) false
    (fun k =>
      let q := k.circ e
      let half := decide ((if recv then s.slotMask q.src q.trunk q.slot else s.slotMask t (e / 32) (e % 32)) ≠ 0)
      cause (!recv && s.slotOwner t (e / 32) (e % 32) != some k.stand) 1 ++
      cause (recv && !(k.circ e).isOpen) 3 ++
      cause (bindBad s t k.stand half recv mask off.toNat lines.toNat ring.toNat) 4)
    (fun k => s.later t x (if recv then .bindRecv e (bnd k) else .bindSend e (bnd k))))

/-- `unbind` (R272). -/
def execSeqUnbind (t x : Nat) (recv : Bool) (endpoint : BitVec 8) (s : State) : Host.Outcome State Fault Refusal :=
  let e := endpoint.toNat
  seqGuard t x true (seqExec s t x (seqUnbindWord (boolNat recv) e) false
    (fun k => cause (if recv then (k.circ e).bind.isNone else (sget none k.sends e).isNone) 3)
    (fun _ => s.later t x (if recv then .unbindRecv e else .unbindSend e)))

/-- `wait` (R286): for a later beat the context stalls, done in every beat it passes. -/
def execSeqWait (t x : Nat) (rel : Bool) (v : BitVec 48) (s : State) : Host.Outcome State Fault Refusal :=
  let k := s.ctx t x
  let beat := (s.stand k.stand).beat
  let target := if rel then beat + v.setWidth 64 else v.setWidth 64
  seqGuard t x true
    (if !s.ctxRuns t x (seqWaitWord (boolNat rel) v.toNat) then s
     else if beat.toNat < target.toNat then s.setCtx t x { k with state := 3, wait := some target, pc := k.pc + 1 }
     else s.setCtx t x (k.goto (k.pc + 1)))

/-- `loop` (R286). -/
def execSeqLoop (t x : Nat) (n : BitVec 2) (count target : BitVec 16) (s : State) : Host.Outcome State Fault Refusal :=
  let k := s.ctx t x
  let was := sget 0 k.cnt n.toNat
  let left := (if was = 0 then count.toNat else was) - 1
  let k1 := { k with cnt := sset 0 k.cnt n.toNat left }
  seqGuard t x (count != 0)
    (if s.ctxRuns t x (seqLoopWord n.toNat count.toNat target.toNat) then s.setCtx t x (if left > 0 then k1.goto target.toNat else k1.goto (k.pc + 1)) else s)

/-- `jump` (R285). -/
def execSeqJump (t x : Nat) (target : BitVec 12) (s : State) : Host.Outcome State Fault Refusal :=
  seqGuard t x true (if s.ctxRuns t x (seqJumpWord target.toNat) then s.setCtx t x ((s.ctx t x).goto target.toNat) else s)

/-- `note` (R286, R288). -/
def execSeqNote (t x : Nat) (v : BitVec 48) (s : State) : Host.Outcome State Fault Refusal :=
  seqGuard t x true (seqExec s t x (seqNoteWord v.toNat) true (fun _ => [])
    (fun k => (s.setReg (Reg.FAB_NOTE_VALUE t x) (v.setWidth 64)).setReg (Reg.FAB_NOTE_BEAT t x) (s.stand k.stand).beat))

/-! ### Swaps (R278) -/

/-- Point the circuits of a slot at their tiles' spare listeners (R278), each in lock on the trunk's spare; a tile whose
spare listener serves a failed ring retunes the circuit's own listener instead. Two handles of a tile on the slot share the
one spare listener. [DESIGN CHOICE, assumption 45, safe] -/
def swapListeners (s : State) (t h k ch : Nat) : State :=
  (upto 16).foldl (fun y u =>
    if u = t then y
    else
      let f := foreignTrunk u t h
      (upto 6).foldl (fun z x =>
        (z.ctx u x).circs.foldl (fun w (e : Nat × Circ) =>
          if e.2.src = t ∧ e.2.trunk = h ∧ e.2.slot = k ∧ e.2.listener ≠ noListener then
            if w.spareFree u f then
              let l := 9 * f + w.spareJ u f
              let w1 := w.setListener u l { w.listener u l with mode := .drop, ch := ch, user := some (x, e.1), lost := false }
              w1.setCtx u x ((w1.ctx u x).setCirc e.1 { e.2 with listener := l, carriage := false })
            else
              let w1 := w.setListener u e.2.listener { w.listener u e.2.listener with mode := .moving, ch := ch }
              w1.setCtx u x ((w1.ctx u x).setCirc e.1 { e.2 with carriage := false })
          else w) z) y) s

/-- Make the trunk's spare channel slot `k`'s channel (R245, R278): the old channel still points to the circuit. -/
def State.swapBegin (s : State) (t h k : Nat) : State :=
  let ch := s.spareCh t h
  if ch = 0x3F then s
  else
    let old := s.slotCh t h k
    let s1 := swapListeners (s.setSlotByte t h k ch) t h k ch
    let a := Reg.OPT_TRUNK_STATE t h
    let s2 := ((s1.sf a Fld.OPT_TRUNK_STATE_spare 0x3F).sf a Fld.OPT_TRUNK_STATE_swap_pending 0).sf a
      Fld.OPT_TRUNK_STATE_swap_slot 0
    s2.setFab t { s2.fabT t with swapOld := sset 0 (s2.fabT t).swapOld h (old + 64 * k + 1) }

/-- The listeners still moving after a swap of slot `k`. -/
def State.swapMoving (s : State) (t h k : Nat) : Bool :=
  (upto 16).any fun u => (upto 6).any fun x => (s.ctx u x).circs.any fun (e : Nat × Circ) =>
    decide (e.2.src = t) && decide (e.2.trunk = h) && decide (e.2.slot = k) && decide (e.2.listener ≠ noListener) &&
      (s.listener u e.2.listener).mode == .moving

/-- A tile after a swap on foreign trunk `f` in which no old listener came free (R278): a spare listener that serves a circuit is none any
more, and a fenced listener that it took over from serves no circuit. -/
def State.listenTaken (s : State) (u f : Nat) : State :=
  let x := s.listener u (9 * f + s.spareJ u f)
  match x.user with
  | none => s
  | some w =>
    let a := Reg.OPT_SPARE_LISTEN u (f / 32)
    let s1 := s.sf a Fld.OPT_SPARE_LISTEN_free (natPut (s.gf a Fld.OPT_SPARE_LISTEN_free) (f % 32) 1 0)
    (upto 9).foldl (fun y j =>
      let z := y.listener u (9 * f + j)
      if z.mode = .fenced ∧ z.user = some w then y.setListener u (9 * f + j) { z with user := none } else y) s1

/-- End a swap at the latest at the closing edge (R245, R278): listeners left on the old channel park and become their
tiles' spare listeners, and the old channel is under calibration, unless it is fenced (R256, R257). -/
def State.swapEnd (s : State) (t h : Nat) : State :=
  match sget 0 (s.fabT t).swapOld h with
  | 0 => s
  | m + 1 =>
    let n := m % 64
    let s1 := (upto 16).foldl (fun y u =>
      if u = t then y
      else
        let f := foreignTrunk u t h
        (upto 9).foldl (fun z j =>
          let l := 9 * f + j
          let x := z.listener u l
          if (x.mode = .drop ∨ x.mode = .moving) ∧ x.ch = n then
            let z1 := z.parkListener u l
            z1.setFab u { z1.fabT u with spareJ := sset 0 (z1.fabT u).spareJ f (8 - j) }
          else z) y |>.listenTaken u f) s
    let a := Reg.OPT_TRUNK_STATE t h
    let s2 := s1.setFab t { s1.fabT t with swapOld := sset 0 (s1.fabT t).swapOld h 0 }
    if natBit (s2.gf (Reg.OPT_CH_FENCED t h) Fld.OPT_CH_FENCED_ch) n then s2 else s2.sf a Fld.OPT_TRUNK_STATE_cal_ch n

/-- Point the circuits of slot `k` back at the listeners that are still on its old channel `n`. -/
def unswapListeners (s : State) (t h k n : Nat) : State :=
  (upto 16).foldl (fun y u =>
    if u = t then y
    else
      let f := foreignTrunk u t h
      (upto 6).foldl (fun z x =>
        (z.ctx u x).circs.foldl (fun w (e : Nat × Circ) =>
          if e.2.src = t ∧ e.2.trunk = h ∧ e.2.slot = k ∧ e.2.listener ≠ noListener then
            match ((upto 9).map (9 * f + ·)).find? fun l =>
                l != e.2.listener && (w.listener u l).user == some (x, e.1) && decide ((w.listener u l).ch = n) with
            | some l =>
              let w1 := w.parkListener u e.2.listener
              w1.setCtx u x ((w1.ctx u x).setCirc e.1 { e.2 with listener := l })
            | none => w.setListener u e.2.listener { w.listener u e.2.listener with mode := .moving, ch := n }
          else w) z) y) s

/-- Give up a swap (R247): the slot keeps its old channel, the spare stays the spare. -/
def State.swapUndo (s : State) (t h : Nat) : State :=
  match sget 0 (s.fabT t).swapOld h with
  | 0 => s
  | m + 1 =>
    let n := m % 64
    let k := m / 64
    let ch := s.slotCh t h k
    let s1 := unswapListeners (s.setSlotByte t h k n) t h k n
    let a := Reg.OPT_TRUNK_STATE t h
    let s2 := ((s1.sf a Fld.OPT_TRUNK_STATE_spare ch).sf a Fld.OPT_TRUNK_STATE_swap_pending 1).sf a
      Fld.OPT_TRUNK_STATE_swap_slot k
    s2.setFab t { s2.fabT t with swapOld := sset 0 (s2.fabT t).swapOld h 0 }

/-- Ask for slot `k`'s move to the spare: at once where no running stand owns it (R245, R258), else at its stand's
clearing. -/
def State.swapAsk (s : State) (t h k : Nat) : State :=
  let a := Reg.OPT_TRUNK_STATE t h
  match s.slotOwner t h k with
  | some i => if s.inRun i then (s.sf a Fld.OPT_TRUNK_STATE_swap_pending 1).sf a Fld.OPT_TRUNK_STATE_swap_slot k
    else (s.swapBegin t h k).swapEnd t h
  | none => (s.swapBegin t h k).swapEnd t h

/-- Abandon the calibration on home trunk `h` of tile `t`: the channel is the trunk's spare again, its values, count and
time unchanged, and the next step takes it (R302). One that is complete already is the spare with its new values. -/
def State.calAbandon (s : State) (t h : Nat) : State :=
  let a := Reg.OPT_TRUNK_STATE t h
  let n := s.gf a Fld.OPT_TRUNK_STATE_cal_ch
  if n = 0x3F then s
  else
    ((s.sf a Fld.OPT_TRUNK_STATE_spare n).sf a Fld.OPT_TRUNK_STATE_cal_ch 0x3F).setFab t
      { s.fabT t with calDone := sset 0 (s.fabT t).calDone h 0, calWas := if sget 0 (s.fabT t).calDone h = 0 then sset 0 (s.fabT t).calWas h (n + 1) else (s.fabT t).calWas }

/-- Does the trunk's spare wait for a swap of another slot whose own channel is fenced, or whose circuit rides it? -/
def State.spareClaimed (s : State) (t h k : Nat) : Bool :=
  let a := Reg.OPT_TRUNK_STATE t h
  let j := s.gf a Fld.OPT_TRUNK_STATE_swap_slot
  s.gf a Fld.OPT_TRUNK_STATE_swap_pending == 1 && j != k &&
    (natBit (s.gf (Reg.OPT_CH_FENCED t h) Fld.OPT_CH_FENCED_ch) (s.slotCh t h j) || natBit (s.slotByte t h j) 6 ||
      (upto 16).any fun u => (s.fabT u).blocked.contains (8 * t + h, s.slotCh t h j))

/-- Has the slot no working channel (R279)? -/
def State.slotLost (s : State) (t h k : Nat) : Bool :=
  natBit (s.gf (Reg.OPT_CH_FENCED t h) Fld.OPT_CH_FENCED_ch) (s.slotCh t h k)

/-- Will a slot that has no working channel get none (R279)? A trunk's 33 channels leave every slot one until two are fenced; and then no
spare, calibration or swap of the trunk has one for it. -/
def State.slotGone (s : State) (t h k : Nat) : Bool :=
  let a := Reg.OPT_TRUNK_STATE t h
  let fences := s.gf (Reg.OPT_CH_FENCED t h) Fld.OPT_CH_FENCED_ch
  let j := s.gf a Fld.OPT_TRUNK_STATE_swap_slot
  s.slotLost t h k && decide (((upto 33).filter fun c => natBit fences c).length ≥ 2) &&
    (s.gf a Fld.OPT_TRUNK_STATE_swap_pending == 1 && j != k && s.slotLost t h j ||
      s.gf a Fld.OPT_TRUNK_STATE_spare == 0x3F && s.gf a Fld.OPT_TRUNK_STATE_cal_ch == 0x3F && sget 0 (s.fabT t).swapOld h == 0)

/-- A slot whose channel is fenced asks for the trunk's spare, given up from a calibration if need be, once no other slot needs it
(R279). [DEDUCED, assumption 43, safe] -/
def State.swapNext (s : State) (t h : Nat) : State :=
  match (upto 32).find? fun k => s.slotLost t h k with
  | none => s
  | some k =>
    if s.gf (Reg.OPT_TRUNK_STATE t h) Fld.OPT_TRUNK_STATE_swap_pending = 1 ∨ sget 0 (s.fabT t).swapOld h ≠ 0 then s
    else
      let y := s.calAbandon t h
      if y.spareCh t h = 0x3F ∨ y.spareClaimed t h k then y else y.swapAsk t h k

/-- `swap`, of the management context alone (R285): the slot goes to `ch`, which must be the trunk's spare. -/
def execSeqSwap (t x : Nat) (h : BitVec 3) (slot : BitVec 5) (ch : BitVec 6) (s : State) :
    Host.Outcome State Fault Refusal :=
  let pend := s.gf (Reg.OPT_TRUNK_STATE t h.toNat) Fld.OPT_TRUNK_STATE_swap_pending = 1
  seqGuard t x (x == 6 && seqManageOk (seqSwapWord h.toNat slot.toNat ch.toNat))
    (if s.spareCh t h.toNat = ch.toNat ∧ ch ≠ 0x3F ∧ !pend then s.swapAsk t h.toNat slot.toNat else s)

/-- `park`, of the management context alone (R285): a modulator or a listener is parked. -/
def execSeqPark (t x : Nat) (lst : Bool) (h : BitVec 3) (ch : BitVec 6) (index : BitVec 11) (s : State) :
    Host.Outcome State Fault Refusal :=
  let a := Reg.OPT_CH_PARKED t h.toNat
  let word := if lst then seqParkWord 1 0 0 index.toNat else seqParkWord 0 h.toNat ch.toNat 0
  if !seqManageOk word then .fault .noSuchUnit
  else
    seqGuard t x (x == 6)
      (if lst then s.parkListener t index.toNat
       else s.sf a Fld.OPT_CH_PARKED_ch (natPut (s.gf a Fld.OPT_CH_PARKED_ch) ch.toNat 1 1))

/-- The lines of handle `c`'s frame that are not read yet are read. -/
def State.frameRead (s : State) (t x c : Nat) : State := s.frameTake t x c (upto ((s.ctx t x).circ c).frame.length) []

/-- Set handle `c` of a context. -/
def State.setHandle (s : State) (t x c : Nat) (q : Circ) : State := s.setCtx t x ((s.ctx t x).setCirc c q)

/-- The frame of handle `c` while it arrives and once it has (R268, R271, R273, R274): its lines move, at first from their sources and to
their places as they come; when it is over every line has been read and it is judged, once: whole, its lines go on to
their places; longer than the binding, error 0x19; else the step is flagged and the frame dropped. One of a circuit without a
receive binding is not judged, and a clearing beat carries none (R275). [DEDUCED, assumption 46, safe, DESIGN CHOICE, 124] -/
def execFrameVerdict (t x c : Nat) (seen : FrameSeen) (s : State) : Host.Outcome State Fault Refusal :=
  if t ≥ 16 ∨ x ≥ 6 ∨ c ≥ 256 then .fault .noSuchUnit
  else
    let k := s.ctx t x
    let q := k.circ c
    let i := k.stand
    if k.state = 0 ∨ !q.isOpen ∨ q.bind.isNone ∨ s.stdState i ≠ 2 ∨ s.inClearing i then .next s
    else if q.judged then .next (if q.flagNow then s else s.frameMoves t x c)
    else
      let s1 := if q.frame = [] then s.setHandle t x c { q with frame := s.frameOf t i q } else s
      if !seen.ended then .next (if s.frameComes t i q seen then s1.frameMoves t x c else s)
      else
        let s2 := s1.frameRead t x c
        let q2 := (s2.ctx t x).circ c
        let done := { q2 with judged := true }
        if s2.frameWhole t i q2 seen then
          if q2.tooLong then
            .next ((s2.setHandle t x c { done with frame := [] }).standFatal i { ErrInfo.plain 6 0x19 with tile := some t, detail := some c })
          else .next ((s2.setHandle t x c done).frameMoves t x c)
        else
          let s3 := if q.listener = noListener then s2 else s2.frontCount t (s2.dropper t q) 3 1
          .next (s3.setHandle t x c { done with frame := [], flagNow := true, flagged := min (q.flagged + 1) (2 ^ 32 - 1) })

end Sys2Proof.Machine
end

