-- ==== Sys2Proof/Machine/PowerBase.lean ====
section
/-! DEFINITION. A stand's power states: entry, abort, wake and ramp (R432, R436 to R443, R448). -/

namespace Sys2Proof.Machine

/-- The power state of a stand: 0 RUN, 1 SLEEP, 2 DEEP, 3 OFF. -/
def State.pState (s : State) (i : Nat) : Nat := s.gf (Reg.PWR_STD_STATE i) Fld.PWR_STD_STATE_state
def State.pStep (s : State) (i : Nat) : Nat := s.gf (Reg.PWR_STD_STATE i) Fld.PWR_STD_STATE_step
def State.setPState (s : State) (i v : Nat) : State := s.sf (Reg.PWR_STD_STATE i) Fld.PWR_STD_STATE_state v
def State.setPStep (s : State) (i v : Nat) : State := s.sf (Reg.PWR_STD_STATE i) Fld.PWR_STD_STATE_step v

/-- Is every tower of the stand in RUN, with no entry or exit under way? -/
def State.awake (s : State) (i : Nat) : Bool :=
  s.pState i == 0 && s.pStep i == 0 && (s.pwrS i).goal.isNone

/-- The clock enables of a site's branches by power state (R432). -/
def branchMask (st : Nat) : Nat :=
  if st = 0 then 0x7FFF else if st = 1 then 0x7800 else if st = 2 then 0x2000 else 0

/-- The lock bit of tower `w`'s site synthesiser (R435). -/
def State.setSiteLock (s : State) (w v : Nat) : State :=
  let a := Reg.CLK_TILE_STATUS (w / 6)
  s.sf a Fld.CLK_TILE_STATUS_site_lock (natPut (s.gf a Fld.CLK_TILE_STATUS_site_lock) (w % 6) 1 v)

/-- Does tower `w`'s synthesiser run (R432)? -/
def State.synthOn (s : State) (w : Nat) : Bool := natBit (s.gf (Reg.CLK_SITE_ACTIVE (w / 6) (w % 6)) Fld.CLK_SITE_ACTIVE_mask) 14

/-- Apply a power state's clock enables to a tower: the region clocks run in RUN alone, the synthesiser in RUN and SLEEP, locked
where the tile's GTC clock is (R420, R432). -/
def State.setBranches (s : State) (w st : Nat) : State :=
  ((s.sf (Reg.CLK_SITE_ACTIVE (w / 6) (w % 6)) Fld.CLK_SITE_ACTIVE_mask (branchMask st)).sf (Reg.CLK_SITE_DIV (w / 6) (w % 6))
    Fld.CLK_SITE_DIV_gated (if st = 0 then 0 else 1)).setSiteLock w
    (if st ≤ 1 then s.gf (Reg.CLK_TILE_STATUS (w / 6)) Fld.CLK_TILE_STATUS_gtc_lock else 0)

/-- The PLLs of tile `t` lock, and the synthesisers of its sites that run; or none of them is locked (R420, R427, R430). -/
def State.setLocks (s : State) (t : Nat) (on : Bool) : State :=
  let a := Reg.CLK_TILE_STATUS t
  let s1 := ((s.sf a Fld.CLK_TILE_STATUS_gtc_lock (boolNat on)).sf a Fld.CLK_TILE_STATUS_fabric_lock (boolNat on)).sf a
    Fld.CLK_TILE_STATUS_hbm_lock (if on then 3 else 0)
  (upto 6).foldl (fun y c => y.setSiteLock (6 * t + c) (boolNat (on && y.synthOn (6 * t + c)))) s1

/-- Set or clear bit `c` of a tile's held site pads (R441). [DEDUCED, assumption 107, safe] -/
def State.padSite (s : State) (w v : Nat) : State :=
  let a := Reg.PWR_PAD_HOLD (w / 6)
  s.sf a Fld.PWR_PAD_HOLD_site (natPut (s.gf a Fld.PWR_PAD_HOLD_site) (w % 6) 1 v)

/-- May the pads of tower `w`'s site be released: do both sides' clocks run, and has the die reported ready (R441)? -/
def State.padFree (s : State) (w : Nat) : Bool :=
  s.gf (Reg.CLK_TILE_STATUS (w / 6)) Fld.CLK_TILE_STATUS_gtc_lock == 1 && s.linkState w == 3

/-- The pads of a site are released as the last step of an exit, where they may be (R441). -/
def State.padRelease (s : State) (w : Nat) : State := if s.padFree w then s.padSite w 0 else s

/-- Set or clear bit `m` of a tile's held stack pads (R441). -/
def State.padHbm (s : State) (j v : Nat) : State :=
  let p := Reg.PWR_PAD_HOLD (j / 2)
  s.sf p Fld.PWR_PAD_HOLD_hbm (natPut (s.gf p Fld.PWR_PAD_HOLD_hbm) (j % 2) 1 v)

/-- A stack enters self-refresh, its pads held, unless it is off or has failed (R383, R441). -/
def State.stackSleep (s : State) (j : Nat) : State :=
  let a := Reg.HBM_STATE (j / 2) (j % 2)
  let st := s.gf a Fld.HBM_STATE_state
  if st = 2 ∨ st = 5 then (if st = 2 then s.sf a Fld.HBM_STATE_state 3 else s).padHbm j 1 else s

/-- A stack leaves self-refresh, its pads held until its exit is over; one of a tile in its own warm start stays (R383). -/
def State.stackLeave (s : State) (j : Nat) : State :=
  let a := Reg.HBM_STATE (j / 2) (j % 2)
  if s.gf a Fld.HBM_STATE_state = 3 ∧ s.tileOut (j / 2) = false then s.sf a Fld.HBM_STATE_state 2 else s

/-- A stack is in use again: out of self-refresh, and its pads released (R441). -/
def State.stackWake (s : State) (j : Nat) : State :=
  let s1 := s.stackLeave j
  let st := s1.gf (Reg.HBM_STATE (j / 2) (j % 2)) Fld.HBM_STATE_state
  if (st = 2 ∨ st = 5) ∧ s1.tileOut (j / 2) = false then s1.padHbm j 0 else s1

/-- What one entry step leaves (R439): step `n` of stand `i` on its way to state `g`. In SLEEP the site links stand in L1, so that their
pads are held (R436, R441). [DEDUCED, assumption 107, safe] -/
def State.entryStep (s : State) (i g n : Nat) : State :=
  let ws := s.towersOf i
  match n with
  -- no step turns a tower on
  | 1 => (ws.filter s.synthOn).foldl (fun x w => (x.setBranches w 1).padSite w 1) s
  | 2 => (s.stacksOf i).foldl (fun x j => x.stackSleep j) s
  | 4 => ws.foldl (fun x w =>
      let a := Reg.CLK_SITE_ACTIVE (w / 6) (w % 6)
      (x.setSiteLock w 0).sf a Fld.CLK_SITE_ACTIVE_mask (natPut (x.gf a Fld.CLK_SITE_ACTIVE_mask) 14 1 0)) s
  | 5 => (ws.filter fun w => s.gf (Reg.CLK_SITE_ACTIVE (w / 6) (w % 6)) Fld.CLK_SITE_ACTIVE_mask != 0).foldl (fun x w =>
      let y := x.setBranches w g
      let a := Reg.SITE_LINK_STATE (w / 6) (w % 6)
      if g = 3 ∧ y.gf a Fld.SITE_LINK_STATE_state = 3 then y.sf a Fld.SITE_LINK_STATE_state 0 else y) s
  | _ => s

/-! ### Supplies (R436) -/

/-- A domain of R436. -/
inductive Domain where
  | logic (w : Nat)       -- core logic of tower `w`
  | arrays (w : Nat)      -- its program and data memories
  | crossbar (w : Nat)    -- its crossbar and tower bus
  | sram (w : Nat)        -- its SRAM
  | link (w : Nat)        -- its site link
  | stack (j : Nat)
  | base (t : Nat)        -- base logic of tile `t`
  | optics (t : Nat)      -- its optical drivers and heaters
  | bedrock
  deriving DecidableEq, Repr

/-- What supplies a domain: a level's voltage, that of a level on its way to another's, a rail in mV, retention at a voltage in mV, its
retention flip-flops, a supply that the spec gives no voltage, or nothing. -/
inductive Supply where
  | level (l : Nat)
  | moving (l next : Nat)
  | rail (mv : Nat)
  | retention (mv : Nat)
  | flops
  | on
  | off
  deriving DecidableEq, Repr

/-- The state of tower `w` for R436: 0 RUN, 1 SLEEP, 2 DEEP, 3 OFF; and whether step 3 of an entry or a park has put its memories at
retention (R439). -/
def State.towerPower (s : State) (w : Nat) : Nat × Bool :=
  let m := s.gf (Reg.CLK_SITE_ACTIVE (w / 6) (w % 6)) Fld.CLK_SITE_ACTIVE_mask
  let kept := match s.standOfTower w with
    | some i => (s.pwrS i).goal.isSome && decide (3 ≤ s.pStep i) && (decide ((s.pwrS i).goal ≠ some 3) || (s.pwrS i).parked)
    | none => false
  if m = 0 then (3, false) else if m = branchMask 2 then (2, true) else if natBit m 10 then (0, kept) else (1, kept)

/-- The supply of tower `w`'s core rails in RUN and SLEEP: its stand's level, or an earlier one where they are late; in a level change they
go from the one to the other, before the dividers change where it is raised, and after them where it is lowered (R445, R446). A stand that has
not run since the cold start is on L1, the level of the dividers' Cold value. -/
def State.coreRail (s : State) (w : Nat) : Supply :=
  match s.standOfTower w with
  | none => .level (s.divLevel w)
  | some i =>
    let x := s.stand i
    let a := Reg.STD_GATE_LEVEL i
    let l := s.gf a Fld.STD_GATE_LEVEL_level
    let n := s.gf a Fld.STD_GATE_LEVEL_next_level
    match x.levelPhase with
    | .none => .level (x.railFrom.getD (if l < 5 then l else s.divLevel w))
    | .lowering => .level (x.railFrom.getD x.levelFrom)
    | .lowered | .raising => .moving (x.railFrom.getD x.levelFrom) n
    | .raiseGated => .level n

/-- What a domain's supply is. [DEDUCED, assumption 107, safe] -/
def State.supply (s : State) : Domain → Supply
  | .logic w =>
    match s.towerPower w with
    | (3, _) => .off
    | (2, _) | (_, true) => .flops
    | _ => s.coreRail w
  | .arrays w =>
    match s.towerPower w with
    | (3, _) => .off
    | (2, _) | (_, true) => .retention 420
    | _ => s.coreRail w
  | .crossbar w => if (s.towerPower w).1 ≥ 2 then .off else .rail 750
  | .sram w => match s.towerPower w with
    | (3, _) => .off
    | (2, _) | (_, true) => .retention 450
    | _ => .rail 750
  | .link w => if (s.towerPower w).1 = 3 then .off else .rail 800
  -- a stack's dies are upper dies (R20, R36)
  | .stack _ => if s.power && !s.tripped then .rail 1100 else .off
  | .base _ => if s.power then .rail 750 else .off
  | .optics _ => if s.power && !s.tripped then .rail 1200 else .off
  | .bedrock => if s.power then .on else .off

/-- The readings in mV that a supply in regulation gives: lowest and highest (R445, R531). -/
def Supply.band (x : Supply) : Nat × Nat :=
  let three := fun (mv : Nat) => ((97 * mv + 99) / 100, 103 * mv / 100)
  match x with
  | .level l => (levelMv l - 8, levelMv l + 8)
  | .moving l n => (min (levelMv l) (levelMv n) - 8, max (levelMv l) (levelMv n) + 8)
  | .rail mv => three mv
  | .retention mv => if mv = 420 then (412, 428) else three mv
  | .off => (0, 49)
  | .flops | .on => (0, 4095)

/-- The supply that channel `ch` of tile `t`'s converter measures (R452). -/
def supplyOf (t ch : Nat) : Option Domain :=
  if ch < 40 then none
  else if ch < 52 then some (.arrays (6 * t + (ch - 40) / 2))
  else if ch < 58 then some (.sram (6 * t + (ch - 52)))
  else if ch = 58 then some (.base t)
  else if ch = 59 then some (.optics t)
  else if ch < 62 then some (.stack (2 * t + (ch - 60)))
  else none

/-- Are the supplies of tower `w` on their way: does its stand enter or leave a power state (R439, R442)? -/
def State.railsMove (s : State) (w : Nat) : Bool :=
  match s.standOfTower w with
  | some i => (s.pwrS i).goal.isSome || s.pStep i == 6
  | none => false

/-- May supply channel `ch` of tile `t` read `v` mV? A supply is in regulation, but on its way between two states it has any voltage up to
the higher one's (R531). [DESIGN CHOICE, assumption 151, unsafe] -/
def State.supplyReads (s : State) (t ch v : Nat) : Bool :=
  match supplyOf t ch with
  | none => true
  | some d =>
    let b := (s.supply d).band
    let w := if ch < 52 then 6 * t + (ch - 40) / 2 else 6 * t + (ch - 52)
    if ch < 58 && s.railsMove w then decide (v ≤ if ch < 52 then 728 else 772) else decide (b.1 ≤ v) && decide (v ≤ b.2)

/-- Begin entry toward state `g` (R437). -/
def State.enter (s : State) (i g : Nat) : State :=
  if g ≤ s.pState i then s
  else
    -- the steps of the present state are complete
    let done := if s.pState i = 0 then 0 else if s.pState i = 1 then 1 else 4
    (s.setPStep i (if done = 4 then 5 else done)).setPwr i { s.pwrS i with goal := some g, idle := false }

/-- The towers of a stand that a wake starts: a site that failed, is incompatible or empty stays off (R352, R354), and so does every
upper die after a thermal trip (R36). -/
def State.startable (s : State) (i : Nat) : List Nat :=
  if s.tripped then [] else (s.towersOf i).filter fun w => decide (s.linkState w < 4)

/-- Is stack `j` of stand `i` out of self-refresh? In RUN and SLEEP it is, and up to step 2 of an entry; in an exit from a deeper state it
leaves with the first tower that starts on its tile (R383, R439, R448). -/
def State.stackUp (s : State) (i j : Nat) : Bool :=
  let x := s.pwrS i
  let here := fun (w : Nat) => decide (w / 6 = j / 2)
  if s.pStep i = 6 then
    x.undo || decide (s.pState i < 2) || !((s.startable i).any here) || (s.startable i).any fun w => here w && !x.toStart.contains w
  else if x.parked || x.goal.isSome then decide (s.pState i < 2) && x.goal.isSome && decide (s.pStep i < 2)
  else decide (s.pState i < 2)

/-- A stack of stand `i` is brought to where its stand's power state has it. -/
def State.stackFollow (s : State) (i j : Nat) : State :=
  if !s.stackUp i j then s.stackSleep j else if s.pStep i = 6 then s.stackLeave j else s.stackWake j

/-- Start the next tower of a stand's ramp; each stack leaves self-refresh with the first tower of its tile (R448). -/
def State.startTower (s : State) (i : Nat) : State :=
  let x := s.pwrS i
  match x.toStart with
  | [] => s
  | w :: rest =>
    let s1 := (s.setPwr i { x with toStart := rest, exiting := x.exiting ++ [w] }).sf (Reg.PWR_STD_STATE i)
      Fld.PWR_STD_STATE_ramping (boolNat (decide (rest ≠ [])))
    ((s.stacksOf i).filter fun j => j / 2 = w / 6).foldl (fun y j => y.stackLeave j) s1

/-- Start every tower that has still to start. -/
def startAll (i : Nat) : Nat → State → State
  | 0, s => s
  | n + 1, s => startAll i n (s.startTower i)

/-- Does the ramp of another stand go before stand `i`'s (R448)? -/
def State.rampBefore (s : State) (i : Nat) : Bool :=
  let at_ := fun (k : Nat) => match (s.pwrS k).wakeAt with
    | some t => t.toNat
    | none => 0
  (upto 16).any fun k => k != i && decide ((s.pwrS k).toStart ≠ []) &&
    (decide (at_ k < at_ i) || (decide (at_ k = at_ i) && decide (k < i)))

/-- Every tower of the stand has exited: it is in RUN, and then enters the state that a write named in the meantime (R437). An entry given
up leaves no register but its count other than it was (R440). [DEDUCED, assumption 148, unsafe] -/
def State.exitOver (s : State) (i : Nat) : State :=
  let x := s.pwrS i
  let ticks := match x.wakeLast with
    | some t => (s.gtc - t).toNat
    | none => 0
  let s0 := (s.stacksOf i).foldl (fun y j => y.stackWake j) s
  let s1 := (s0.setPState i 0).setPStep i 0
  let s2 := if x.undo then s1 else s1.sf (Reg.PWR_STD_WAKE i) Fld.PWR_STD_WAKE_ticks (min ticks (2 ^ 32 - 1))
  let s3 := s2.setPwr i { x with exiting := [], undo := false, wake := false, after := none, wakeAt := none, wakeLast := none }
  match x.after with
  | some g => if s.inRun i then s3 else s3.enter i g
  | none => s3

/-- Begin exit from a power state: the ramp starts its first tower, or all of them with r = 0 (R448). A stand with no tower to start
has exited at once. -/
def State.exitStart (s : State) (i : Nat) : State :=
  let x := s.pwrS i
  let ws := s.startable i
  let at_ := match x.wakeAt with
    | some t => t
    | none => s.gtc
  let s1 := (s.setPStep i 6).setPwr i { x with goal := none, wake := false, toStart := ws, exiting := [], wakeAt := some at_ }
  let s2 := (s1.stacksOf i).foldl (fun y j => if ws.any fun w => w / 6 = j / 2 then y else y.stackLeave j) s1
  if ws = [] then s2.exitOver i
  else if s2.rampBefore i then s2.sf (Reg.PWR_STD_STATE i) Fld.PWR_STD_STATE_ramping 1
  else if s.gf (Reg.PWR_STD_CTL i) Fld.PWR_STD_CTL_ramp = 0 then startAll i ws.length s2
  else s2.startTower i

/-- An accepted wake (R437, R440): nothing for a stand in RUN, the abort of an entry under way, or an exit; a state to be entered after it
is named anew. A parked stand wakes no earlier than its park ends (R443), and after a thermal trip nothing wakes (R36). -/
def State.wake (s : State) (i : Nat) : State :=
  let x := { s.pwrS i with idle := false, after := none }
  if x.parked then s.setPwr i x
  else if x.goal.isSome then s.setPwr i { x with wake := true, wakeAt := some s.gtc, wakeLast := some s.gtc }
  else if s.pStep i = 6 then s.setPwr i { x with wakeLast := some s.gtc }
  else if s.pState i = 0 ∨ s.tripped = true then s.setPwr i x
  else (s.setPwr i { x with wakeAt := some s.gtc, wakeLast := some s.gtc }).exitStart i

/-- Give up an entry at an abort point: the completed steps are undone, and the towers come back together (R440). -/
def State.entryAbort (s : State) (i : Nat) : State :=
  let x := s.pwrS i
  let s1 := (s.sfSat (Reg.PWR_STD_STATE i) Fld.PWR_STD_STATE_aborts 1).setPStep i 6
  let s2 := (s.stacksOf i).foldl (fun y j => y.stackLeave j) s1
  let s3 := s2.setPwr i { x with goal := none, wake := false, undo := true, toStart := [], exiting := s.startable i }
  if s.startable i = [] then s3.exitOver i else s3

/-- A parked stand exits to RUN and then follows R437 (R443). -/
def State.parkExit (s : State) (i : Nat) : State :=
  let s1 := s.setPwr i { s.pwrS i with parked := false, ret := false, goal := none, idle := true }
  if s.pState i = 0 ∧ s.pStep i = 0 then s1
  else (s1.setPwr i { s1.pwrS i with wakeAt := some s.gtc, wakeLast := some s.gtc }).exitStart i

/-- An entry step under way ends (R439, R440, R443). A park runs steps 1 to 3 whatever state the entry led to, and ends after them
where its cause has cleared (R428). [DEDUCED, assumption 109, safe] -/
def State.entryStepDone (s : State) (i : Nat) : State :=
  let x := s.pwrS i
  match x.goal with
  | none => s
  | some g =>
    let n := s.pStep i
    if n = 5 then
      let s1 := ((s.entryStep i g 5).setPState i g).setPStep i 0
      let s2 := s1.setPwr i { x with goal := none }
      if x.parked then (if x.ret then s2.parkExit i else s2)
      else if x.wake then s2.exitStart i else s2
    else if x.parked ∧ n ≥ 3 then s
    else
      -- OFF skips step 3
      let k := if n = 2 ∧ g = 3 ∧ !x.parked then 4 else n + 1
      let s1 := s.entryStep i g k
      if x.wake && !x.parked then (s1.setPStep i k).entryAbort i
      else if x.parked then
        let s2 := s1.setPStep i k
        if x.ret ∧ k = 3 then s2.parkExit i else s2
      else if k = 1 ∧ g = 1 then ((s1.setPState i 1).setPStep i 0).setPwr i { x with goal := none }
      else s1.setPStep i (if k = 4 then 5 else k)

/-- Park a stand (R443): steps 1 to 3 of entry run whatever its target, from the beginning where an exit was under way; a stand in
DEEP or OFF has them behind it. -/
def State.park (s0 : State) (i : Nat) : State :=
  let s := s0.sf (Reg.PWR_STD_STATE i) Fld.PWR_STD_STATE_ramping 0
  let x := s.pwrS i
  let x1 := { x with parked := true, ret := false, wake := false, toStart := [], exiting := [], undo := false, idle := false, after := none }
  let exits := decide (s.pStep i = 6)
  if x.goal.isSome ∨ (s.pState i ≥ 2 ∧ !exits) then s.setPwr i x1
  else (s.setPStep i (if s.pState i = 1 ∧ !exits then 1 else 0)).setPwr i { x1 with goal := some 2 }

/-- The cause of a park has cleared: its steps complete, and then the stand exits to RUN and follows R437 (R428, R443). -/
def State.unpark (s : State) (i : Nat) : State :=
  let x := s.pwrS i
  if !x.parked then s
  else if x.goal.isSome ∧ (s.pStep i < 3 ∨ s.pStep i = 5) then s.setPwr i { x with ret := true }
  else s.parkExit i

/-- Every byte of a tower's SRAM is zero, and no line of it poisoned (R388). -/
def State.sramZero (s : State) (w : Nat) : State :=
  let lo := tsAddr w 0
  { s with mem := memClear s.mem fun a => decide (lo ≤ a) && decide (a < lo + towerBytes),
           poison := s.poison.filter fun e => !(decide (lo ≤ 64 * e.1) && decide (64 * e.1 < lo + towerBytes)) }

/-- A tower is back in RUN from SLEEP or DEEP (R441, R442): from DEEP the die takes GTC anew. [DEDUCED, assumption 108, unsafe] -/
def State.towerUp (s : State) (w : Nat) : State :=
  let deep := decide (s.gf (Reg.CLK_SITE_ACTIVE (w / 6) (w % 6)) Fld.CLK_SITE_ACTIVE_mask ≤ branchMask 2)
  let s1 := (s.setBranches w 0).padRelease w
  if deep then s1.setSite w { s1.site w with dieGtc := s.gtc, dieAt := s.gtc } else s1

/-- A tower is back in RUN from OFF (R438): its link is brought up again, where it is not down for another cause, without the modules
`out` that do not train; its SRAM, its cores' memories and counters are zero (R388, R493). A site that fails is held off. -/
def State.towerBringUp (s : State) (w : Nat) (out : List Nat) (fails : Bool) : State :=
  let t := Reg.PMC_CORE (w / 6) (w % 6) 0 0
  let a := Reg.SITE_LINK_STATE (w / 6) (w % 6)
  let down := s.gf (Reg.SITE_EVENTS (w / 6) (w % 6)) Fld.SITE_EVENTS_link_event
  let s1 := s.setBranches w 0
  let s2 := if s1.gf a Fld.SITE_LINK_STATE_state = 0 ∧ down = 0 then s1.sf a Fld.SITE_LINK_STATE_state 3 else s1
  let s3 := (((s2.setSite w { SiteSt.zero with dieGtc := s.gtc, dieAt := s.gtc }).siteTrain w out fails).padRelease w).sramZero w
  { s3 with mem := memClear s3.mem fun a => (decide (dmAddr (128 * w) 0 ≤ a) && decide (a < dmAddr (128 * w) 0 + 2 ^ 37)) ||
              (decide (pmAddr (128 * w) 0 ≤ a) && decide (a < pmAddr (128 * w) 0 + 2 ^ 37)),
            pmc := s3.pmc.filter fun e => !(decide (t ≤ e.1) && decide (e.1 < t + 0x1_0000)) }

/-- A tower comes into RUN from whatever power state it is in. -/
def State.towerRun (s : State) (w : Nat) (out : List Nat) (fails : Bool) : State :=
  if s.gf (Reg.CLK_SITE_ACTIVE (w / 6) (w % 6)) Fld.CLK_SITE_ACTIVE_mask = 0 then s.towerBringUp w out fails else s.towerUp w

/-- A tower's exit completes, with what the bring-up of its site found (R438, R441); the stand is in RUN when the last one's has. A tower
that a commit has taken from the stand stays as it is (R50), and one whose site has failed stays off (R352). -/
def State.exitDone (s : State) (i w : Nat) (out : List Nat) (fails : Bool) : State :=
  let x := s.pwrS i
  if !x.exiting.contains w then s
  else
    let s1 := if (s.towersOf i).contains w && decide (s.linkState w < 4) then s.towerRun w out fails else s
    let s2 := ((s.stacksOf i).filter fun j => j / 2 = w / 6).foldl (fun y j => y.stackWake j) s1
    let rest := x.exiting.filter (· ≠ w)
    let s3 := s2.setPwr i { x with exiting := rest }
    if rest ≠ [] ∨ x.toStart ≠ [] then s3 else s3.exitOver i

end Sys2Proof.Machine
end

