-- ==== Sys2Proof/Machine/Run.lean ====
section
/-! DEFINITION. A run's beginning and end: the descriptor (R150 to R154), the launch (R60 to R63), loading (R146, R147,
R287), and what every ending leaves (R64 to R66, R489, R529). -/

namespace Sys2Proof.Machine

/-! ### Reading a stand's memory -/

/-- The 64 bytes at address `a` of stand `i`'s memories; a poisoned line reads zero (R229, R381). -/
def State.lineOf (s : State) (i a : Nat) : List Nat :=
  match s.far i a with
  | some x => leBytes 64 (if s.poisoned x then 0 else s.rd x 64)
  | none => []

/-- `n` bytes from the 64-byte-aligned address `a`. -/
def State.bytesAt (s : State) (i a n : Nat) : List Nat :=
  ((upto ((n + 63) / 64)).flatMap fun l => s.lineOf i (a + 64 * l)).take n

/-- Do `n` bytes from `a` keep the address rules of an image: 64-byte aligned (R151), in space 0x0, 0x1 or 0x2 of the stand (R154)? R154
names no refusal of an address that is not aligned, and the model refuses it as the others. [DESIGN CHOICE, assumption 144, unsafe] -/
def State.imageOk (s : State) (i a n : Nat) : Bool :=
  decide (a < 2 ^ 48) && decide (a % 64 = 0) && decide (natBits a 44 4 ≤ 2) && s.regionOk i a n


/-- A field of `n` bytes at byte `o` of a byte list, little-endian. -/
def bytesFld (b : List Nat) (o n : Nat) : Nat := leNat ((b.drop o).take n)

/-! ### The descriptor -/

/-- What a descriptor's header says. -/
structure DescHead where
  bl : Nat
  level : Nat
  minBeat : Nat
  budget : Nat
  hxCore : Nat
  shape : Nat
  deriving DecidableEq, Repr

/-- The stand-shape digest of a stand's entry in force (R62). -/
def State.shape (s : State) (i : Nat) : Nat :=
  let head := (upto 16).map fun o => (s.plan (64 * i + o)).toNat
  let rows := (upto 4096).map fun o => if (s.plan (0x400 + o)).toNat = i then 1 else 0
  (sm3 (head ++ rows)).toNat

/-- A program-table entry of a descriptor. -/
def progEnt (b : List Nat) (o : Nat) : ProgEnt :=
  ⟨BitVec.ofNat 64 (bytesFld b o 8), bytesFld b (o + 8) 2, BitVec.ofNat 256 (bytesFld b (o + 32) 32)⟩

def coreEnt (b : List Nat) (o : Nat) : CoreEnt := ⟨bytesFld b o 2, bytesFld b (o + 2) 2, bytesFld b (o + 4) 2, bytesFld b (o + 6) 2⟩

def seqEnt (b : List Nat) (o : Nat) : SeqEnt :=
  ⟨bytesFld b (o + 8) 1, BitVec.ofNat 64 (bytesFld b o 8), bytesFld b (o + 10) 2, BitVec.ofNat 256 (bytesFld b (o + 16) 32)⟩

/-- The whole length of a descriptor with that header. -/
def descLen (h : List Nat) : Nat := 96 + 64 * bytesFld h 10 2 + 8 * bytesFld h 12 2 + 48 * bytesFld h 14 2

/-- The descriptor at `a`: its header and tables, or none where it must be refused with bad_descriptor (R154). -/
def State.descriptor (s : State) (i a bl : Nat) : Option (DescHead × List ProgEnt × List CoreEnt × List SeqEnt) :=
  if !s.imageOk i a 64 then none
  else
    let h := s.lineOf i a
    let len := descLen h
    if !s.imageOk i a len then none
    else
      let b := s.bytesAt i a len
      let np := bytesFld b 10 2
      let nc := bytesFld b 12 2
      let ns := bytesFld b 14 2
      let ps := (upto np).map fun k => progEnt b (64 + 64 * k)
      let cs := (upto nc).map fun k => coreEnt b (64 + 64 * np + 8 * k)
      let qs := (upto ns).map fun k => seqEnt b (64 + 64 * np + 8 * nc + 48 * k)
      let hx := bytesFld b 16 2
      let plen := fun (k : Nat) => (ps.getD k ⟨0, 0, 0⟩).len
      let ok :=
        decide ((sm3 (b.take (len - 32))).toNat = bytesFld b (len - 32) 32) &&
        decide (bytesFld b 0 4 = 0x3158444D) && decide (bytesFld b 4 1 = bl) && decide (bytesFld b 5 1 ≤ 4) &&
        decide (bytesFld b 18 14 = 0) && decide (np ≥ 1) &&
        ((upto np).all fun k => bytesFld b (64 + 64 * k + 10) 22 == 0) &&
        ((upto ns).all fun k =>
          let o := 64 + 64 * np + 8 * nc + 48 * k
          bytesFld b (o + 9) 1 == 0 && bytesFld b (o + 12) 4 == 0) &&
        decide (cs.map (·.g) = s.coresOf i) && decide (qs.map (·.tile) = s.tilesOf i) &&
        (cs.all fun c => decide (c.prog < np) && decide (c.start < plen c.prog) && decide (c.rejoin < plen c.prog)) &&
        (hx == 0xFFFF || (s.coresOf i).contains hx) &&
        (ps.all fun p => decide (1 ≤ p.len) && decide (p.len ≤ 2048) && s.imageOk i p.addr.toNat (32 * p.len)) &&
        (qs.all fun q => decide (q.len ≤ 4096) && (q.len == 0 || s.imageOk i q.addr.toNat (8 * q.len)))
      if ok then some (⟨bytesFld b 4 1, bytesFld b 5 1, bytesFld b 6 2, bytesFld b 8 2, hx, bytesFld b 32 32⟩, ps, cs, qs)
      else none

/-! ### Actions of a clearing that the end of a run also takes (R245, R256 to R258, R347, R454) -/

/-- The home trunks of a stand's tiles, as (tile, trunk). -/
def State.homeTrunks (s : State) (i : Nat) : List (Nat × Nat) :=
  (s.tilesOf i).flatMap fun t => (upto 8).map fun h => (t, h)

/-- A calibrated channel that waits becomes the trunk's spare (R257), which a slot on a fenced channel asks for (R279). -/
def State.calHandover (s : State) (t h : Nat) : State :=
  match sget 0 (s.fabT t).calDone h with
  | 0 => s
  | n + 1 =>
    let a := Reg.OPT_TRUNK_STATE t h
    (((s.setFab t { s.fabT t with calDone := sset 0 (s.fabT t).calDone h 0 }).sf a Fld.OPT_TRUNK_STATE_spare n).sf a
      Fld.OPT_TRUNK_STATE_cal_ch 0x3F).swapNext t h

/-- Does a running stand own a slot on the trunk? -/
def State.trunkRuns (s : State) (t h : Nat) : Bool :=
  (upto 32).any fun k => match s.slotOwner t h k with
    | some i => s.stdState i == 2
    | none => false

/-- The slots of home trunks that a stand owns, as (tile, trunk, slot). -/
def State.slotsOf (s : State) (i : Nat) : List (Nat × Nat × Nat) :=
  (s.tilesOf i).flatMap fun t => (upto 8).flatMap fun h => ((upto 32).filter fun k =>
    planSlot s.planForce (8 * t + h) k == i).map fun k => (t, h, k)

/-- Retire a suspect sensor channel (R454). -/
def State.retireChannel (s : State) (t ch : Nat) : State :=
  let a := Reg.THM_CH t ch
  let e := { ErrInfo.plain 10 0x0C with tile := some t, index := some ch }
  (((s.sf a Fld.THM_CH_retired 1).sf a Fld.THM_CH_suspect 0).contained e).dead 0x11 t 0xFF 0 ch 0

/-- Does stand `i` own a slot of home trunk `h` of tile `t`? -/
def State.ownsOn (s : State) (t h i : Nat) : Bool := (upto 32).any fun k => planSlot s.planForce (8 * t + h) k == i

/-- The swaps of stand `i`'s slots that stand between their opening and closing edges end (R245, R256). -/
def State.swapsEnd (s : State) (i : Nat) : State :=
  (s.homeTrunks i).foldl (fun y q =>
    match sget 0 (y.fabT q.1).swapOld q.2 with
    | 0 => y
    | m + 1 => if y.slotOwner q.1 q.2 (m / 64) = some i then (y.swapEnd q.1 q.2).swapNext q.1 q.2 else y) s

/-- The groups whose remap waits for stand `i`'s clearing are remapped, out of service until the closing edge (R347). -/
def State.remapsDue (s : State) (i : Nat) : State :=
  (upto 16).foldl (fun y t =>
    let rs := (y.tile t).laneRemap
    if y.tileStand t = some i ∧ (rs.any fun r => r.2.2.2 == 0) then
      let z := (rs.filter fun r => r.2.2.2 == 0).foldl (fun z (r : Nat × Nat × Nat × Nat) =>
        (z.remapLanes t r.1 r.2.1 r.2.2.1).groupOut t r.1 r.2.1 1) y
      z.setTile t { z.tile t with laneRemap := rs.map fun r => if r.2.2.2 = 0 then (r.1, r.2.1, r.2.2.1, i + 1) else r }
    else y) s

/-- The remaps of stand `i`'s clearing that are not finished, by tile: a packet modulator that moved is out of lock (R239, R247).
[DEDUCED, assumption 153, unsafe] -/
def State.remapsLate (s : State) (i : Nat) : List (Nat × (Nat × Nat × Nat × Nat)) :=
  (upto 16).flatMap fun t => ((s.tile t).laneRemap.filter fun r => r.2.2.2 == i + 1 &&
    ((upto 10).filter (r.2.2.1 ≤ ·)).any fun k =>
      let l := 10 * r.2.1 + k
      let u := if l / 2 < t then l / 2 else l / 2 + 1
      (s.fabT u).lostRings.contains (528 + 4 * (if t < u then t else t - 1) + 2 * r.1 + l % 2)).map fun r => (t, r)

/-- A remap is given up: its group is as it was before, and waits for the next clearing (R247). -/
def State.remapBack (s : State) (t : Nat) (r : Nat × Nat × Nat × Nat) : State :=
  let y := (s.unmapLanes t r.1 r.2.1 r.2.2.1).groupOut t r.1 r.2.1 0
  y.setTile t { y.tile t with laneRemap := (y.tile t).laneRemap.map fun e => if e = r then (r.1, r.2.1, r.2.2.1, 0) else e }

/-- The lanes of tile `t` that a clearing of stand `i` remapped carry traffic (R347); a remap that waits goes on waiting, whichever
stand's clearing it is then. -/
def State.remapsOver (s : State) (t i : Nat) : State :=
  let rs := (s.tile t).laneRemap
  let y := (rs.filter fun r => r.2.2.2 == i + 1).foldl (fun z (r : Nat × Nat × Nat × Nat) => z.groupOut t r.1 r.2.1 0) s
  y.setTile t { y.tile t with laneRemap := rs.filter fun r => r.2.2.2 != i + 1 }

/-- At the closing edge the remapped lanes carry traffic. -/
def State.remapsEnd (s : State) (i : Nat) : State :=
  (upto 16).foldl (fun y t => if (y.tile t).laneRemap.any fun r => r.2.2.2 == i + 1 then y.remapsOver t i else y) s

/-- The remaps of tile `t` that wait are done at once where no running stand is exposed to the tile any more (R347). -/
def State.remapsNow (s : State) (t : Nat) : State :=
  match s.tileStand t with
  | some _ => s
  | none =>
    let rs := (s.tile t).laneRemap
    let y := (rs.filter fun r => r.2.2.2 == 0).foldl (fun z (r : Nat × Nat × Nat × Nat) => z.remapLanes t r.1 r.2.1 r.2.2.1) s
    y.setTile t { y.tile t with laneRemap := rs.filter fun r => r.2.2.2 != 0 }

/-- Swaps of stand `i`'s slots that waited for a clearing that does not come are done at once (R258). -/
def State.swapsNow (s : State) (i : Nat) : State :=
  (s.homeTrunks i).foldl (fun y q =>
    let a := Reg.OPT_TRUNK_STATE q.1 q.2
    let k := y.gf a Fld.OPT_TRUNK_STATE_swap_slot
    if y.gf a Fld.OPT_TRUNK_STATE_swap_pending = 1 ∧ y.slotOwner q.1 q.2 k = some i then
      ((y.swapBegin q.1 q.2 k).swapEnd q.1 q.2).swapNext q.1 q.2
    else y) s

/-- Calibrated channels of the trunks on which stand `i` owns a slot become their spares, where no running stand owns one (R257). -/
def State.handoversNow (s : State) (i : Nat) : State :=
  (s.homeTrunks i).foldl (fun y q => if y.ownsOn q.1 q.2 i && !y.trunkRuns q.1 q.2 then y.calHandover q.1 q.2 else y) s

/-- What the end of stand `i`'s run does to the actions of its clearings: those begun are completed, those that waited are
taken at once, and a level fixed for a clearing that does not come is given up (R246, R256 to R258, R347, R454). A level
change under way goes on to its end. [DESIGN CHOICE, assumption 120, unsafe] -/
def State.clearingOver (s : State) (i : Nat) : State :=
  let s1 := (s.swapsEnd i).remapsEnd i
  let a := Reg.STD_GATE_LEVEL i
  let s2 := if (s.stand i).levelPhase = .none then s1.sf a Fld.STD_GATE_LEVEL_next_level (s1.gf a Fld.STD_GATE_LEVEL_level) else s1
  (s.stand i).retire.foldl (fun y c => y.retireChannel c.1 c.2) s2

/-- Has no router, pool, ejection buffer, combining unit or memory engine a packet of stand `i` (R335)? -/
def PlaneTile.quiet (x : PlaneTile) (i : Nat) : Bool :=
  let none_ := fun (p : Pkt) => !p.ofStand i
  x.rx.all none_ && (x.inject.all fun e => none_ e.pkt) && x.ejNormal.all none_ && x.ejReserve.all none_ && x.pool.all none_ &&
    (x.groups.all fun g => none_ g.pkt) && (x.mem.all fun o => none_ o.pkt) && x.down.all fun d => none_ d.pkt

/-- Is nothing of stand `i` left in the packet plane, and nothing of its cores outstanding (R335)? [DEDUCED, assumption 121, safe] -/
def State.planeQuiet (s : State) (i : Nat) : Bool :=
  ((upto 16).all fun t => (s.tile t).quiet i) && (s.coresOf i).all fun g => (s.core g).ni.isEmpty

/-! ### Ending a run (R529) -/

/-- Has a remote operation been applied at its target, by itself or within a combined packet? -/
def State.wasApplied (s : State) (n : NiOp) : Bool :=
  let t := n.pkt.dst.toNat
  let seen := fun (p : Pkt) => match (s.flow t p.src.toNat).see p with
    | .again _ => true
    | _ => false
  seen n.pkt || (n.grouped && (s.tile n.pkt.srcTile.toNat).groups.any fun g => g.parts.contains n.pkt && seen g.pkt)

/-- The end of a remote operation in flight: where it has not been applied, a free bit says whether it is (R529). [DEDUCED, assumption 60, safe] -/
def State.endOp (s : State) (n : NiOp) : State :=
  if n.acked || n.pkt.isBo || s.wasApplied n then s
  else
    let (b, s1) := s.takeBit
    if b then (s1.applyAt n.pkt.dst.toNat { n.pkt with dg := false } []).2.2 else s1

/-- Line `l` of a block move moves wholly and at once: as it was read, where it has been, with the data of its memory engine's
store, where that has not been applied, else as it now stands. -/
def State.endLine (s : State) (i g : Nat) (m : MoveSt) (l : Nat) : State :=
  let held := (m.held.find? fun q => q.1 == l).map (·.2)
  let sent := (upto 16).findSome? fun u => (s.tile u).mem.find? fun o => o.g == g && o.mt == m.tag && o.line == l && o.pkt.op == 0x11
  match held, sent with
  | some v, _ => linePut s i g m l v
  | none, some o => match (s.flow o.pkt.dst.toNat o.pkt.src.toNat).see o.pkt with
    | .again _ => s
    | _ => linePut s i g m l o.pkt.payload
  | none, none => match (lineTake s i g { m with held := [] } l).held with
    | q :: _ => linePut s i g m l q.2
    | [] => s

/-- The lines of a move that had not moved: each moves or does not, as a free bit says; a line that a host transfer brings in or takes
out holds free data (R228, R412, R529). [DEDUCED, assumption 60, safe] -/
def State.endMove (s : State) (i g : Nat) (m : MoveSt) : State :=
  let ls := if m.host then upto m.lines else m.late ++ m.held.map (·.1) ++ m.out
  let (sp, s1) := s.takeSplit ls
  sp.1.foldl (fun x l =>
    if m.host then
      let (v, y) := x.takeLine
      if !m.toFar then y.emit (.hostWrite (planPort s.planForce i) (m.loc + BitVec.ofNat 64 (64 * l)) 64 v.toNat)
      else match y.far i (m.far.toNat + 64 * l) with
      | some a => y.store a 64 v.toNat
      | none => y
    else x.endLine i g m l) s1

/-- A core when its stand's run has ended: only its fence and its flows' epoch remain. -/
def State.endCore (s : State) (g : Nat) : State :=
  let c := s.core g
  s.setCore g { CoreSt.zero with fenced := c.fenced, epoch := c.epoch }

/-- Has a confirm that is not acknowledged yet been made for number `seq` of source `src` at tile `t` (R334)? -/
def State.confirming (s : State) (t : Nat) (src : BitVec 14) (seq : BitVec 16) : Bool :=
  (upto 16).any fun u => (s.tile u).confirms.any fun c => c.dst.toNat == t && c.names.contains (src, seq)

/-- Discard what a tile holds for stand `i`; `own` says which sources are the stand's. A window unit and a reply kept for an operation
that is complete go with its confirm, `named` here or at the tiles it comes from (R328, R349). -/
def PlaneTile.purge (x : PlaneTile) (i : Nat) (own : Nat → Bool) (named : CacheEnt → Bool) : PlaneTile :=
  let keep := fun (p : Pkt) => !p.ofStand i
  let mine := (x.groups.filter fun g => !(keep g.pkt)).map (·.pkt) ++ (x.mem.filter fun o => !(keep o.pkt)).map (·.pkt)
  { x with rx := x.rx.filter keep, inject := x.inject.filter fun e => keep e.pkt,
           ejNormal := x.ejNormal.filter keep, ejReserve := x.ejReserve.filter keep, pool := x.pool.filter keep,
           cache := x.cache.filter fun c => keep c.reply || named c, groups := x.groups.filter fun g => keep g.pkt,
           mem := x.mem.filter fun o => keep o.pkt, down := x.down.filter fun d => keep d.pkt,
           windows := x.windows.filter fun w => (x.confirms.any fun c => c.dst == w.dst && c.names.contains (w.src, w.seq)) ||
             !(own w.src.toNat) && !(mine.any fun g => g.src == w.src && g.seq == w.seq && g.dst == w.dst),
           bo := x.bo.filter fun b => !(b.stand == i), dg := x.dg.filter fun u => !(u.stand == i) }

/-- A changed budget of stand `i` takes effect; the last one that waited lets MGT_PLAN_STATUS.pending fall, which is
module cause 5 (R49, R407). -/
def State.budgetApply (s : State) (i : Nat) : State :=
  match (s.stand i).budgetNext with
  | none => s
  | some w =>
    let put := fun (m : SMap Byte) (o v : Nat) => sset (planByte o) m o (BitVec.ofNat 8 v)
    let s1 := { s with planForce := put (put s.planForce (64 * i + 16) w) (64 * i + 17) (w / 256) }
    let s2 := s1.setStand i { s1.stand i with budgetNext := none }
    if (upto 16).any fun k => (s2.stand k).budgetNext.isSome then s2
    else (s2.sf Reg.MGT_PLAN_STATUS Fld.MGT_PLAN_STATUS_pending 0).modCause 5

/-- End the run of stand `i` in a state with a run code (R64 to R66, R283, R345, R437, R489, R529). [DEDUCED, assumption 60, safe] -/
def State.endRun (s : State) (i state code : Nat) : State :=
  let cores := s.coresOf i
  -- remote work and moves in flight end
  let s1 := cores.foldl (fun x g => (x.core g).ni.foldl (fun y n => y.endOp n) x) s
  let s2 := cores.foldl (fun x g => (x.core g).moves.foldl (fun y m => y.endMove i g m) x) s1
  let own := fun (src : Nat) => decide (src < 12288) && decide (s.standOf src = i)
  let s3 := (upto 16).foldl (fun x t => x.setTile t ((x.tile t).purge i own fun c => s2.confirming t c.src c.seq)) s2
  let s4 := ((upto 16).foldl (fun x t => x.freeCtx t i) (cores.foldl (fun x g => x.endCore g) s3)).clearingOver i
  let s5 := (s4.standDigest i).setReg (Reg.STD_NEXT_CLEAR i) (BitVec.allOnes 64)
  let a := Reg.STD_STATUS i
  let s6 := (s5.sf a Fld.STD_STATUS_run_code code).sf a Fld.STD_STATUS_state state
  let x := s6.stand i
  -- a logical place left empty degrades its tower (R77)
  let s7 := x.emptied.foldl (fun y g => y.degradeTower (towerOf g) 0x21) s6
  let y := StandSt.zero
  let s7a := s7.setStand i
    { y with copy := { RunCopy.zero with bl := x.copy.bl }, budgetNext := x.budgetNext, spares := x.spares.map fun sp => { sp with failed := false, later := false },
             hostWords := x.hostWords, hostPending := x.hostPending, lastEdge := x.lastEdge, levelPhase := x.levelPhase,
             levelFrom := x.levelFrom, railFrom := x.railFrom }
  let s8 := (upto 16).foldl (fun z t => if (z.tile t).laneRemap = [] then z else z.remapsNow t) ((s7a.swapsNow i).handoversNow i)
  let s9 := (s8.budgetApply i).setPwr i { s8.pwrS i with idle := !(s8.pwrS i).parked, thrSince := false, thrRun := false }
  if state = 3 ∨ state = 4 then s9.stdEvent i 0 else s9

/-! ### Launch (R60 to R63) -/

/-- A write that reaches the register at `a` of a stand's page or power control from a port that does not master it (R51). [DEDUCED, assumption 88, safe] -/
def State.notMaster (s : State) (p i a : Nat) : State :=
  s.contained { ErrInfo.plain 8 4 with stand := some i, detail := some p, addr := some a }

/-- The cmd_code of a launch of stand `i` arriving now, or what the accepted launch runs (R61). -/
def State.launchCheck (s : State) (i tag : Nat) : Nat ⊕ RunCopy :=
  let cfg := Reg.STD_LAUNCH_CFG i
  let bl := s.gf cfg Fld.STD_LAUNCH_CFG_bl
  let len := s.gf cfg Fld.STD_LAUNCH_CFG_beat_len
  let start := (s.reg (Reg.STD_START i)).toNat
  if s.inRun i then .inl 0x02
  else if !planValid s.planForce i ∨ s.towersOf i = [] then .inl 0x0A
  else if bl = 0 ∨ bl > 32 ∨ !natBit (s.gf Reg.MGT_BL_SUPPORT Fld.MGT_BL_SUPPORT_bl) (bl - 1) then .inl 0x03
  else if len < 4 ∨ len > 256 then .inl 0x04
  else if start % 1024 ≠ 0 ∨ start < s.gtc.toNat + 100000 then .inl 0x05
  else
    match s.descriptor i (s.reg (Reg.STD_PROG_DESC i)).toNat bl with
    | none => .inl 0x07
    | some (h, ps, cs, qs) =>
      if len < h.minBeat then .inl 0x04
      else if h.shape ≠ s.shape i then .inl 0x08
      else if planBudget s.planForce i < h.budget then .inl 0x09
      else
        .inr { desc := s.reg (Reg.STD_PROG_DESC i), param := s.reg (Reg.STD_PARAM i), start := s.reg (Reg.STD_START i),
               bl := BitVec.ofNat 8 bl, beatLen := 256 * len, tag := BitVec.ofNat 16 tag, level := h.level,
               hxCore := h.hxCore, hxBase := s.reg (Reg.HIF_STD_HX_BASE i), hxSize := s.reg (Reg.HIF_STD_HX_SIZE i),
               progs := ps, cores := cs, seqs := qs }

/-- The registers of the last run are reset (R251, R344, R479). STD_GATE_LEVEL stays as the last run left it until beat 0: its 7
says that the stand has not run since cold start. [DEDUCED, assumption 120, unsafe] -/
def State.runRegs (s : State) (i : Nat) : State :=
  let ones : Word := BitVec.allOnes 64
  let s1 := [Reg.STD_BEATS i, Reg.STD_HOLDS i, Reg.STD_HOLD_RUN i, Reg.STD_CLEARINGS i, Reg.STD_CLEAR_ABANDON i].foldl
    (fun x a => x.setReg a 0) s
  let s2 := [Reg.STD_FAIL_BEAT i, Reg.STD_REJOIN_BEAT i, Reg.STD_NEXT_CLEAR i].foldl (fun x a => x.setReg a ones) s1
  let s3 := [Reg.STD_HOLD_LAST i, Reg.STD_FENCES i, Reg.STD_ERR i].foldl (fun x a => x.setReg a (regDefault a)) s2
  (upto 16).foldl (fun x t => x.setDigestReg (Reg.PKT_DIGEST t i) 0) s3

/-- The error that ends a launch whose stand has a unit out of service, or an agent without its behaviour level (R77,
R279, R367, R372, R387). -/
def State.launchFault (s : State) (i bl : Nat) : Option ErrInfo :=
  let at_ := fun (src code w : Nat) => { ErrInfo.plain src code with tile := some (w / 6), site := some (w % 6) }
  match (s.towersOf i).find? fun w => s.openSite w && !natBit (s.gf (Reg.SITE_CENSUS2 w) Fld.SITE_CENSUS2_bl) (bl - 1) with
  | some w => some (at_ 7 0x1D w)
  | none =>
    match (s.towersOf i).find? fun w => s.towerDegraded w ||
        s.gf (Reg.SITE_REPAIR (w / 6) (w % 6)) Fld.SITE_REPAIR_limited == 1 with
    | some w => some (at_ (if s.towerDegraded w then 1 else 7) 0x25 w)
    | none =>
      match (s.towersOf i).find? fun w => decide (s.linkState w ≥ 4) with
      | some w => some (at_ 7 0x25 w)
      | none => match (s.stacksOf i).find? fun j => s.gf (Reg.HBM_STATE (j / 2) (j % 2)) Fld.HBM_STATE_state ≥ 4 with
      | some j => some { ErrInfo.plain 3 0x25 with tile := some (j / 2), site := some (6 + j % 2) }
      | none =>
        match (s.slotsOf i).find? fun q => s.slotGone q.1 q.2.1 q.2.2 with
        | some q => some { ErrInfo.plain 4 0x25 with tile := some q.1, index := some q.2.2 }
        | none => none

/-- A launch that fails before any core executes. -/
def State.failLaunch (s : State) (i : Nat) (e : ErrInfo) : State := (s.standFatal i e).endRun i 4 0x0C

/-- An accepted launch: STARTING, the copies, a new epoch for every flow, cores and data memory zero, a context on each
tile, and the wake (R60, R63, R149, R282, R335). -/
def State.launchGo (s : State) (i : Nat) (c : RunCopy) : State :=
  let a := Reg.STD_STATUS i
  let s1 := ((((s.sf a Fld.STD_STATUS_state 1).sf a Fld.STD_STATUS_run_code 1).sf a Fld.STD_STATUS_cmd_code 1).sf
    (Reg.STD_TAG_RUN i) Fld.STD_TAG_RUN_tag c.tag.toNat).runRegs i
  let s2 := (s1.coresOf i).foldl (fun x g =>
    let k := x.core g
    x.setCore g { CoreSt.zero with fenced := k.fenced, epoch := k.epoch + 1 }) s1
  let ws := s2.towersOf i
  let cleared := memClear s2.mem fun b => decide (natBits b 44 4 = 3) && ws.contains (natBits b 37 7)
  -- the counts of the crossing FIFOs and droop detectors begin again (R99, R447)
  let s3 := { s2 with mem := cleared, regions := s2.regions.filter fun e => !(ws.contains (e.1 / 9)) }
  let s4 := (s3.tilesOf i).foldl (fun x t =>
    match (upto 6).find? fun k => (x.ctx t k).state = 0 with
    | some k =>
      let k1 := { CtxSt.zero with state := 1, stand := i }
      (x.setCtx t k k1).setReg (Reg.FAB_CTX_REPEAT t k) 0
    | none => x) s3
  -- no program has been sent to an agent yet (R372)
  let s5 := (s4.towersOf i).foldl (fun y w => if (y.site w).images = [] then y else y.setSite w { y.site w with images := [] })
    (s4.setStand i { s4.stand i with copy := c, loaded := false })
  match s5.launchFault i c.bl.toNat with
  | some e => (s5.wake i).failLaunch i e
  | none => s5.wake i

/-! ### Loading (R146, R147, R287) -/

/-- The 256-bit bundles of a program entry. -/
def State.progWords (s : State) (i : Nat) (p : ProgEnt) : List Nat :=
  (upto p.len).map fun b => leNat (((s.lineOf i (p.addr.toNat + 64 * (b / 2))).drop (32 * (b % 2))).take 32)

/-- The first failure of the core programs: its code, global core and bundle (R146). -/
def coreFailure (s : State) (i : Nat) (c : RunCopy) : Option ErrInfo :=
  c.cores.findSome? fun e =>
    match c.progs[e.prog]? with
    | none => none
    | some p =>
      let who := fun (code : Nat) (index : Option Nat) =>
        { ErrInfo.plain 0 code with tile := some (tileOf e.g), site := some (siteOf e.g), gcore := some e.g, index := index }
      if sm3 (s.bytesAt i p.addr.toNat (32 * p.len)) ≠ p.digest then some (who 0x0C none)
      else if s.openSite (towerOf e.g) then none
      else match progBreach (s.progWords i p) with
        | some (b, code) => some (who code (some b))
        | none => none

/-- The instruction words of a sequencer program. -/
def State.seqWords (s : State) (i : Nat) (q : SeqEnt) : List (BitVec 64) :=
  (upto q.len).map fun k => BitVec.ofNat 64 (leNat (((s.lineOf i (q.addr.toNat + 64 * (k / 8))).drop (8 * (k % 8))).take 8))

/-- The first failure of the sequencer programs (R287). -/
def seqFailure (s : State) (i : Nat) (c : RunCopy) : Option ErrInfo :=
  c.seqs.findSome? fun q =>
    if q.len = 0 then none
    else if sm3 (s.bytesAt i q.addr.toNat (8 * q.len)) ≠ q.digest then some { ErrInfo.plain 6 0x0C with tile := some q.tile }
    else (seqBreach (s.seqWords i q)).map fun k =>
      { ErrInfo.plain 6 0x18 with tile := some q.tile, index := some k, detail := some 0x08 }

/-- Write a program into a core's program memory, zero beyond its length (R147), and point the core at its start. -/
def State.loadCore (s : State) (i : Nat) (e : CoreEnt) (p : ProgEnt) (at_ : Nat) : State :=
  let base := pmAddr e.g 0
  let m := memClear s.mem fun a => decide (base ≤ a) && decide (a < base + 2 ^ 16)
  let s1 := { s with mem := ((s.progWords i p).zipIdx).foldl (fun x (w : Nat × Nat) => memWrite x (base + 32 * w.2) 32 w.1) m }
  let c := s1.core e.g
  s1.setCore e.g { c with pc := at_, progLen := p.len }

/-- Load every program of a run; the contexts take theirs. -/
def State.loadAll (s : State) (i : Nat) (c : RunCopy) : State :=
  let s1 := c.cores.foldl (fun x e =>
    match c.progs[e.prog]? with
    | some p => if x.openSite (towerOf e.g) then x else x.loadCore i e p e.start
    | none => x) s
  c.seqs.foldl (fun x q =>
    match x.ctxOf q.tile i with
    | some k => x.setCtx q.tile k { x.ctx q.tile k with prog := x.seqWords i q }
    | none => x) s1

end Sys2Proof.Machine
end

