-- ==== Sys2Proof/Machine/RunOps.lean ====
section
/-! DEFINITION. The commands of the plan, the launch block and stand handling (R45 to R66, R489). -/

namespace Sys2Proof.Machine

/-! ### Committing a plan (R45 to R49) -/

/-- The bytes of a plan. -/
def planBytes (m : SMap Byte) : List Byte := (upto 0x1400).map fun o => sget (planByte o) m o

/-- Does any set bit appear in two valid entries' masks of `n` bits? -/
def overlap (m : SMap Byte) (mask : Nat → Nat) (n : Nat) : Bool :=
  (upto n).any fun k => decide (((upto 16).filter fun i => planValid m i && natBit (mask i) k).length > 1)

/-- Is a slot on a trunk of tile `t` owned by a stand that is not valid or has no tower there (code 0x3)? -/
def offTile (m : SMap Byte) : Bool :=
  (upto 128).any fun tr => (upto 32).any fun k =>
    let b := planSlot m tr k
    decide (b < 16) && (!planValid m b || !((upto 6).any fun c => natBit (planTowers m b) (6 * (tr / 8) + c)))

/-- Does a plan change a running stand's entry beyond its budget, or its slots (code 0x5)? -/
def State.planDisturbs (s : State) (m : SMap Byte) : Bool :=
  (upto 16).any fun i => s.inRun i &&
    (((upto 64).any fun o => o != 16 && o != 17 && sget (planByte (64 * i + o)) m (64 * i + o) != s.plan (64 * i + o)) ||
      (upto 4096).any fun o => (decide ((sget 0xFF m (0x400 + o)).toNat = i)) != decide ((s.plan (0x400 + o)).toNat = i))

/-- Does a plan hold a reserved value or a non-zero reserved field (code 0x7)? -/
def planBad (m : SMap Byte) : Bool :=
  ((upto 16).any fun i =>
    decide (planRead m (64 * i + 19) 45 ≠ 0) || decide (planRead m (64 * i + 18) 1 / 32 ≠ 0) ||
      decide (planRead m (64 * i + 18) 1 / 4 % 8 > 4) || decide (planBudget m i > 11500)) ||
    (upto 4096).any fun o => (let b := (sget 0xFF m (0x400 + o)).toNat; decide (16 ≤ b) && decide (b ≠ 0xFF))

/-- The first check of R48 that a plan fails; 0 where it passes them all. -/
def State.planCheck (s : State) (m : SMap Byte) : Nat :=
  if overlap m (planTowers m) 96 then 1
  else if overlap m (planStacks m) 32 then 2
  else if offTile m then 3
  else if (((upto 16).filter (planValid m)).map (planBudget m)).sum > 11500 then 4
  else if s.planDisturbs m then 5
  else if planBad m then 7
  else if s.gf Reg.MGT_PLAN_STATUS Fld.MGT_PLAN_STATUS_pending = 1 then 8
  else 0

/-- A commit of staging area `m` (R48, R53): the plan is checked, and its record written; it takes effect when the write completes. -/
def State.commitPlan (s : State) (p : Nat) (m : SMap Byte) : State :=
  let a := Reg.MGT_PLAN_STATUS
  let s1 := s.sf a Fld.MGT_PLAN_STATUS_commit_port p
  let code := s.planCheck m
  if code ≠ 0 then (s1.sf a Fld.MGT_PLAN_STATUS_code code).modCause 4
  else
    let gen := (s.gf Reg.MGT_PLAN_GEN Fld.MGT_PLAN_GEN_gen + 1) % 2 ^ 32
    match s1.nvWrite ⟨4, 0, bytesOf 4 gen ++ bytesOf 4 0 ++ planBytes m, .plan m gen⟩ with
    | (true, s2) => (s2.sf a Fld.MGT_PLAN_STATUS_code 0).sf a Fld.MGT_PLAN_STATUS_busy 1
    | (false, s2) => (s2.sf a Fld.MGT_PLAN_STATUS_code 6).modCause 4

/-- A commit of the staging area as it stood when the write arrived: the device accepts commits from the moment a start completes
(R464), and handles them in arrival order (R53): one that meets a commit in progress waits for its end. [DEDUCED, assumption 100, safe] -/
def State.commitAsk (s : State) (p : Nat) (m : SMap Byte) : State :=
  if s.phase ≠ 1 then s
  else if s.gf Reg.MGT_PLAN_STATUS Fld.MGT_PLAN_STATUS_busy = 1 then { s with commits := s.commits ++ [(p, m)] }
  else s.commitPlan p m

/-- A write of 1 to MGT_PLAN_CTL.commit. -/
def execCommit (p : Nat) (s : State) : Host.Outcome State Fault Refusal :=
  s.hostWrite p Reg.MGT_PLAN_CTL fun s => s.managed (.commit p s.planStaged) fun s => s.commitAsk p s.planStaged

/-- A write of 1 to MGT_PLAN_CTL.restage (R54, R55). -/
def execRestage (p : Nat) (s : State) : Host.Outcome State Fault Refusal :=
  s.hostWrite p Reg.MGT_PLAN_CTL fun s =>
    if s.gf Reg.MGT_PLAN_STATUS Fld.MGT_PLAN_STATUS_busy = 1 then s else { s with planStaged := s.planForce }

/-! ### The launch word (R51, R60 to R64) -/

/-- What a launch word with op 1 does: it starts a run or is refused with a code; one that arrives in a run changes nothing but its
code (R60). -/
def State.launchWord (s : State) (i tag : Nat) : State :=
  if s.inRun i then s.sf (Reg.STD_STATUS i) Fld.STD_STATUS_cmd_code 2
  else
  -- a launch word gives up a hard repair under way (R384)
  let s0 := (s.stacksOf i).foldl (fun x j => x.setHbm j { x.hbmS j with hardNow := none }) s
  match s0.launchCheck i tag with
  | .inl code => s0.sf (Reg.STD_STATUS i) Fld.STD_STATUS_cmd_code code
  | .inr c => s0.launchGo i c

/-- What a launch word with op 2 does: a stand in a run is aborted at its next grid edge; a handling already under way
keeps its own ending. An abort of a parked run may end it before the park's return does. [DEDUCED, assumption 59, unsafe, DESIGN CHOICE, assumption 62, unsafe] -/
def State.abortWord (s : State) (i : Nat) : State :=
  let s1 := s.sf (Reg.STD_STATUS i) Fld.STD_STATUS_cmd_code 1
  let x := s1.stand i
  if s.inRun i ∧ x.handling = none then s1.setStand i { x with handling := some .abort } else s1

/-- A write to a stand's page or power control: by its master, or discarded with a contained error (R51). -/
def State.asMaster (s : State) (p i a : Nat) (k : State → State) : State :=
  if planPort s.planForce i ≠ p then s.notMaster p i a else k s

/-- What error correction finds where stand `i`'s images are read, by device address (R380, R381, R390). -/
def State.imageEcc (s : State) (i : Nat) (ecc : List (Nat × Ecc)) : State :=
  ecc.foldl (fun y (q : Nat × Ecc) =>
    match y.standPlace i q.1 with
    | some x => y.eccAt x q.2
    | none => y) s

/-- A launch word with op 1, accepted from the moment a start completes (R464); `ecc` is what error correction finds in the
descriptor and the images that it checks. [DEDUCED, assumption 116, safe] -/
def execLaunch (p i : Nat) (v : BitVec 32) (ecc : List (Nat × Ecc)) (s : State) : Host.Outcome State Fault Refusal :=
  if i ≥ 16 then .fault .noSuchUnit
  else s.hostWrite p (Reg.STD_LAUNCH i) fun s => s.asMaster p i (Reg.STD_LAUNCH i) fun s =>
    -- a stand in a run refuses the word before it reads an image (R60)
    if v.toNat % 16 = 1 ∧ s.phase = 1 then (if s.inRun i then s else s.imageEcc i ecc).launchWord i (v.toNat / 2 ^ 16) else s

/-- A launch word with op 2. -/
def execAbort (p i : Nat) (v : BitVec 32) (s : State) : Host.Outcome State Fault Refusal :=
  if i ≥ 16 then .fault .noSuchUnit
  else s.hostWrite p (Reg.STD_LAUNCH i) fun s => s.asMaster p i (Reg.STD_LAUNCH i) fun s =>
    if v.toNat % 16 = 2 ∧ s.phase = 1 then s.abortWord i else s

/-! ### Loading, a missed start, and the end of handling -/

/-- The programs of a launched stand have been fetched (R146, R147, R287): all are written, or the first failure ends
the launch. -/
def execProgramLoadComplete (i : Nat) (s : State) : Host.Outcome State Fault Refusal :=
  if i ≥ 16 then .fault .noSuchUnit
  else
    let x := s.stand i
    if s.stdState i ≠ 1 ∨ x.loaded then .next s
    else match coreFailure s i x.copy with
      | some e => .next (s.failLaunch i e)
      | none => match seqFailure s i x.copy with
        | some e => .next (s.failLaunch i e)
        | none =>
          let s1 := s.loadAll i x.copy
          .next (s1.setStand i { s1.stand i with loaded := true })

/-- Has every agent of a stand the programs of its logical sources (R372)? -/
def State.imagesSent (s : State) (i : Nat) : Bool :=
  (s.stand i).copy.cores.all fun e =>
    let w := towerOf e.g
    !s.openSite w || decide (s.gf (Reg.SITE_CENSUS3 w) Fld.SITE_CENSUS3_sources ≤ e.g % 128) || sget 0 (s.site w).images (e.g % 128) != 0

/-- Are loading, the wake of every tower and the takeover of every spare on them done (R63, R473)? A spare may have been asked for by a stand
that owned the tower before. -/
def State.startReady (s : State) (i : Nat) : Bool :=
  let ws := s.towersOf i
  (s.stand i).loaded && s.awake i && (ws.all fun w => decide (s.linkState w < 4)) &&
    ((upto 16).all fun k => (s.stand k).spares.all fun sp => !ws.contains (towerOf sp.g)) && s.imagesSent i

/-- The last moment for a start, four beats before it (R63). -/
def execStartMissed (i : Nat) (s : State) : Host.Outcome State Fault Refusal :=
  if i ≥ 16 then .fault .noSuchUnit
  else
    let x := s.stand i
    if s.stdState i ≠ 1 ∨ x.stopped ∨ s.startReady i then .next s
    else .next ((s.gtcTo (x.copy.start.toNat - 4 * x.copy.beatLen)).endRun i 4 0x06)

/-- Every packet of a stopped stand has been acknowledged or discarded (R64, R489): the run ends. -/
def execStandHandlingSettled (i : Nat) (s : State) : Host.Outcome State Fault Refusal :=
  if i ≥ 16 then .fault .noSuchUnit
  else
    let x := s.stand i
    match x.handling with
    | none => .next s
    | some h => if x.stopped then .next (s.endRun i 4 (if h = .fatal then 0x0C else 0x0D)) else .next s

end Sys2Proof.Machine
end

