-- ==== Sys2Proof/Machine/Beat.lean ====
section
/-! DEFINITION. Gates, grid edges, holds and clearings (R232 to R247, R457). -/

namespace Sys2Proof.Machine

/-! ### The gate (R234 to R241) -/

/-- The time of the stand's next grid edge (R232). -/
def StandSt.edgeAt (x : StandSt) : Nat := x.copy.start.toNat + x.grid * x.copy.beatLen

/-- The sample that the die of tower `w` has sent for the coming edge of stand `i` (R362). -/
def State.sampleOf (s : State) (i w : Nat) : Option SiteSample :=
  match (s.site w).sample with
  | some v => if v.grid.toNat = (s.stand i).grid % 2 ^ 32 then some v else none
  | none => none

/-- Does the done tree count the members of tower `w` as done: the stand has stopped and the link is down (R368)? -/
def State.countsDone (s : State) (i w : Nat) : Bool := (s.stand i).stopped && s.siteAbsent w

/-- A core's own done bit, negated. [DEDUCED, assumption 21, safe, DEDUCED, assumption 54, unsafe] -/
def State.notDone (s : State) (g : Nat) : Bool := !(s.core g).done && !(s.core g).fenced

/-- Is a member late at the gate: by its die's sample (R362), and where a compute die's has not been sent yet by its own bit, which is
what the die samples at that moment? [DEDUCED, assumption 142, safe] -/
def State.coreLate (s : State) (i g : Nat) : Bool :=
  let w := towerOf g
  !s.countsDone i w && match s.sampleOf i w with
    | some v => if s.openSite w then !v.done else v.cores.contains g && !(s.core g).fenced
    | none => s.openSite w || s.notDone g

/-- Has the core issued no bundle, held no scoreboard entry, a move tag or a wait among them (R90), and been stalled by no
crossing FIFO since the last gate (R95)? [DEDUCED, assumption 54, unsafe] -/
def CoreSt.idle (c : CoreSt) : Bool :=
  !c.active && c.sb.isEmpty && c.waiting.isNone && c.tags.all fun (x : Nat × TagSt) => !x.2.pending

/-- Is a beat-ordered operation of the core unacknowledged (R218)? -/
def State.boOpen (s : State) (g : Nat) : Bool := (s.core g).ni.any fun n => n.pkt.isBo && !n.acked

/-- The same at the gate, by the die's sample where it has come. -/
def State.boLate (s : State) (i g : Nat) : Bool :=
  let w := towerOf g
  !s.countsDone i w && match s.sampleOf i w with
    | some v => !v.bo
    | none => s.openSite w || s.boOpen g

/-- Is the sequencer of tile `t` late: running its program, or with a flagged step? -/
def State.seqLate (s : State) (i t : Nat) : Bool :=
  match s.ctxOf t i with
  | none => false
  | some x =>
    let k := s.ctx t x
    !(k.state == 3 || k.state == 4) || (!s.inClearing i && k.circs.any fun (e : Nat × Circ) => e.2.late)

/-- Is a clearing action due by this gate incomplete (R245, R247)? -/
def State.clearLate (s : State) (i : Nat) : Bool :=
  let x := s.stand i
  let p := planPeriod s.planForce i
  let second := decide (x.beat.toNat % p = p - 1)
  s.inClearing i && (decide (x.clearing ≠ []) || decide (s.remapsLate i ≠ [])) && (second || decide ((x.streak + 1) * x.copy.beatLen ≥ 2048))

/-- The level that the power manager fixes at the gate before an opening edge (R457): the one in force while a controller takes over
(R508). -/
def State.pickLevel (s : State) (i : Nat) : Nat :=
  let lvl := s.gf (Reg.STD_GATE_LEVEL i) Fld.STD_GATE_LEVEL_level
  let draw := s.gf (Reg.PWR_STD_DRAW i) Fld.PWR_STD_DRAW_draw
  let lim := 8 * ((s.gf Reg.THM_CFG Fld.THM_CFG_throttle_c : Int) - s.gf Reg.THM_CFG Fld.THM_CFG_hyst)
  let cool := (s.towersOf i).all fun w => decide (signed12 (s.gf (Reg.THM_TOWER (w / 6) (w % 6)) Fld.THM_TOWER_est) ≤ lim)
  if s.takingOver then lvl
  else if (s.pwrS i).thrSince then min (lvl + 1) 4
  else if cool ∧ 10 * draw ≤ 9 * planBudget s.planForce i ∧ lvl > (s.stand i).copy.level then lvl - 1
  else lvl

/-- The core that a late site names: a core itself, or the lowest that its agent's sample says (R361). -/
def State.lateName (s : State) (i g : Nat) : Nat :=
  match s.sampleOf i (towerOf g) with
  | some v => if s.openSite (towerOf g) then v.lowest else g
  | none => g

/-- At E − 256 the done tree samples every member of the stand (R234, R235, R239, R240, R246). A core late without cause is
fenced at this gate (R95). [DEDUCED, assumption 54, unsafe] -/
def State.gateEval (s : State) (i : Nat) : State :=
  let x := s.stand i
  let s0 := s.gtcTo (x.edgeAt - 256)
  let cores := x.copy.cores.map (·.g)
  let lateC := cores.filter (s0.coreLate i)
  let bo := cores.any (s0.boLate i)
  let lateT := (s0.tilesOf i).filter (s0.seqLate i)
  let clr := s0.clearLate i
  let ok := lateC.isEmpty && !bo && lateT.isEmpty && !clr
  let reg := boolNat (!lateC.isEmpty) + 2 * boolNat bo + 4 * boolNat (!lateT.isEmpty) + 8 * boolNat clr +
    16 * (lateC.map (s0.lateName i)).foldl min 0x3FFF + 2 ^ 18 * lateT.headD 0
  let streak := if ok then 0 else min (x.streak + 1) 0xFFFF
  let hr := Reg.STD_HOLD_RUN i
  let s1 := s0.setStand i { x with gate := some ok, lateReg := BitVec.ofNat 64 reg, streak := streak,
                                   longBefore := s0.gf hr Fld.STD_HOLD_RUN_longest,
                                   clearHolds := if clr then x.clearHolds + 1 else 0 }
  let s2 := (s1.sf hr Fld.STD_HOLD_RUN_streak streak).sf hr Fld.STD_HOLD_RUN_longest
    (max (s1.gf hr Fld.STD_HOLD_RUN_longest) streak)
  let s3 := if streak = 256 ∧ x.streak < 256 then s2.stdEvent i 5 else s2
  -- watchdog: the late cores without cause; a run-time error never fences a core (R146)
  let dead := lateC.filter fun g => !s.openSite (towerOf g) && (s.core g).idle && !(s.core g).halted
  let s4 := cores.foldl (fun y g =>
    let c : CoreSt := { y.core g with active := false, gated := (y.core g).gated && (y.core g).bwait != some (x.beat + 1) }
    y.setCore g c) s3
  let s5 := dead.foldl (fun y g => fenceCore y g 6) s4
  let p := planPeriod s.planForce i
  if (x.beat.toNat + 1) % p = p - 2 then s5.sf (Reg.STD_GATE_LEVEL i) Fld.STD_GATE_LEVEL_next_level (s5.pickLevel i) else s5

/-! ### Host words (R69) -/

/-- At an admitted edge at time `e`, the host words complete for 256 ticks are adopted, in order. -/
def StandSt.adopt (x : StandSt) (e : Nat) : StandSt :=
  let ripe := x.hostPending.filter fun h => decide (h.2.2.toNat + 256 ≤ e)
  { x with hostWords := ripe.foldl (fun m h => sset 0 m h.1 h.2.1) x.hostWords,
           hostPending := x.hostPending.filter fun h => !(decide (h.2.2.toNat + 256 ≤ e)) }

/-! ### Level changes (R246, R422, R423) -/

/-- The divider of a level. -/
def levelDiv (l : Nat) : Nat := if l = 0 then 10 else if l = 1 then 12 else if l = 2 then 15 else if l = 3 then 20 else 40

/-- Gate or release every clock region of a stand whose towers are in RUN: branches 0 to 8 of CLK_SITE_ACTIVE follow (R435). -/
def State.gateClocks (s : State) (i v : Nat) : State :=
  (s.towersOf i).foldl (fun x w =>
    let a := Reg.CLK_SITE_ACTIVE (w / 6) (w % 6)
    let m := x.gf a Fld.CLK_SITE_ACTIVE_mask
    if natBit m 10 then
      (x.sf (Reg.CLK_SITE_DIV (w / 6) (w % 6)) Fld.CLK_SITE_DIV_gated v).sf a Fld.CLK_SITE_ACTIVE_mask
        (natPut m 0 9 (if v = 0 then 0x1FF else 0))
    else x) s

/-- Put every region of a stand on a level's divider. -/
def State.setDiv (s : State) (i l : Nat) : State :=
  (s.towersOf i).foldl (fun x w => x.sf (Reg.CLK_SITE_DIV (w / 6) (w % 6)) Fld.CLK_SITE_DIV_div (levelDiv l)) s

/-- A clearing action is complete. -/
def State.clearDone (s : State) (i : Nat) (a : ClearAct) : State :=
  s.setStand i { s.stand i with clearing := (s.stand i).clearing.filter (· ≠ a) }

/-- Add a clearing action that is not complete at the opening edge. -/
def State.clearAdd (s : State) (i : Nat) (a : ClearAct) : State :=
  s.setStand i { s.stand i with clearing := (s.stand i).clearing ++ [a] }

/-- A level change begins at the opening edge. -/
def State.levelBegin (s : State) (i : Nat) : State :=
  let a := Reg.STD_GATE_LEVEL i
  let l := s.gf a Fld.STD_GATE_LEVEL_level
  let n := s.gf a Fld.STD_GATE_LEVEL_next_level
  if l = n then s
  else
    let s1 := (s.clearAdd i (.level n))
    if n > l then
      ((s1.setDiv i n).gateClocks i 1).setStand i { s1.stand i with levelPhase := .lowering, levelFrom := l }
    else s1.setStand i { s1.stand i with levelPhase := .raising, levelFrom := l }

/-- A level change under way does not complete (R431): the stand stays on the level in force. [DEDUCED, assumption 120, unsafe] -/
def State.levelStop (s : State) (i : Nat) : State :=
  if (s.stand i).levelPhase = .none then s
  else
    let a := Reg.STD_GATE_LEVEL i
    let l := s.gf a Fld.STD_GATE_LEVEL_level
    let s1 := (s.clearDone i (.level (s.gf a Fld.STD_GATE_LEVEL_next_level))).sf a Fld.STD_GATE_LEVEL_next_level l
    ((s1.setDiv i l).gateClocks i 0).setStand i { s1.stand i with levelPhase := .none }

/-! ### Throttles -/

/-- The modes of every half of stand `i` as they stand, as (mode, causes). -/
def State.halvesOf (s : State) (i : Nat) : List (Nat × Nat) :=
  (s.towersOf i).flatMap fun w =>
    let v := (s.reg (Reg.PWR_HALF (w / 6) (w % 6))).toNat
    [(natBits v 0 2, natBits v 12 3), (natBits v 6 2, natBits v 15 3)]

/-- Local throttling ends at the opening edge (R245, R457): the halves run free, the marks are cleared. -/
def State.throttleEnd (s : State) (i : Nat) : State :=
  let s1 := (s.towersOf i).foldl (fun x w => x.setReg (Reg.PWR_HALF (w / 6) (w % 6)) 0) s
  let s2 := ((s1.setPwr i { s1.pwrS i with thrSince := false, budK := 0 }).sf (Reg.STD_GATE_LEVEL i)
    Fld.STD_GATE_LEVEL_throttled 0).sf (Reg.PWR_STD_THR i) Fld.PWR_STD_THR_halves 0
  ((s2.sf (Reg.PWR_STD_THR i) Fld.PWR_STD_THR_thermal 0).sf (Reg.PWR_STD_THR i) Fld.PWR_STD_THR_budget 0).sf
    (Reg.PWR_STD_THR i) Fld.PWR_STD_THR_module 0

/-- A throttle acts on a half of stand `i` in its run: the mark that the next choice of a level uses, and cause 6 for the first of the
run (R407, R457). -/
def State.throttleMark (s : State) (i : Nat) : State :=
  let x := s.pwrS i
  let s1 := s.setPwr i { x with thrSince := true, thrRun := true }
  if x.thrRun then s1 else s1.modCause 6

/-! ### Clearings (R243 to R247) -/

/-- The circuits of stand `i` whose listener is fenced: at a clearing the spare listener retunes to the circuit's own
channel, and the circuit leaves carriage when it arrives (R297). [DEDUCED, assumption 44, unsafe] -/
def State.takeListeners (s : State) (i : Nat) : State :=
  (s.tilesOf i).foldl (fun y t =>
    match y.ctxOf t i with
    | none => y
    | some x =>
      (y.ctx t x).circs.foldl (fun z (e : Nat × Circ) =>
        let f := foreignTrunk t e.2.src e.2.trunk
        if e.2.listener ≠ noListener ∧ (z.listener t e.2.listener).mode = .fenced ∧ z.spareFree t f then
          let l := 9 * f + z.spareJ t f
          let b := Reg.OPT_SPARE_LISTEN t (f / 32)
          let q : Listener := { z.listener t l with mode := .moving, ch := z.slotCh e.2.src e.2.trunk e.2.slot, user := some (x, e.1), lost := false }
          let z3 := (z.setListener t l q).setCtx t x ((z.ctx t x).setCirc e.1 { e.2 with listener := l })
          (z3.sf b Fld.OPT_SPARE_LISTEN_free (natPut (z3.gf b Fld.OPT_SPARE_LISTEN_free) (f % 32) 1 0)).clearAdd i
            (.swap (8 * e.2.src + e.2.trunk) e.2.slot)
        else z) y) s

/-- Swaps of stand `i` that wait for its clearing (R245, R278). -/
def State.swapsDue (s : State) (i : Nat) : State :=
  (s.homeTrunks i).foldl (fun y q =>
    let a := Reg.OPT_TRUNK_STATE q.1 q.2
    let k := y.gf a Fld.OPT_TRUNK_STATE_swap_slot
    if y.gf a Fld.OPT_TRUNK_STATE_swap_pending = 1 ∧ y.slotOwner q.1 q.2 k = some i then
      let y1 := y.setSlotByte q.1 q.2 k (natPut (y.slotByte q.1 q.2 k) 6 1 0)
      let y2 := y1.swapBegin q.1 q.2 k
      if y2.swapMoving q.1 q.2 k then y2.clearAdd i (.swap (8 * q.1 + q.2) k) else y2
    else y) s

/-- Insert by key, after equals. -/
def edgeInsert {α : Type} (k : Nat) (v : α) : List (Nat × α) → List (Nat × α)
  | [] => [(k, v)]
  | x :: rest => if k < x.1 then (k, v) :: x :: rest else x :: edgeInsert k v rest

/-- In ascending order of their keys. -/
def edgeSort {α : Type} (l : List (Nat × α)) : List (Nat × α) := l.foldl (fun m q => edgeInsert q.1 q.2 m) []

/-- The errors of an opening edge reach the log in the order of R486, the stand-fatal ones before the contained: the logical places `gone`
without a spare and the slots without a channel, which end the run (R77, R279), then the towers and sensors that are out. -/
def State.openingErrs (s : State) (i : Nat) (gone : List Nat) : State :=
  let places := gone.map fun g => (tileOf g * 2 ^ 16 + g,
    { ErrInfo.plain 1 0x21 with tile := some (tileOf g), site := some (siteOf g), gcore := some g })
  let slots := ((s.slotsOf i).filter fun q => s.slotGone q.1 q.2.1 q.2.2).map fun q => (q.1 * 2 ^ 16 + 0xFFFF,
    { ErrInfo.plain 4 0x22 with tile := some q.1, index := some q.2.2 })
  let s1 := (edgeSort (places ++ slots)).foldl (fun y q => y.standFatal i q.2) s
  let towers := gone.map fun g => (tileOf g, fun (y : State) => y.degradeTower (towerOf g) 0x21)
  let sensors := (s.stand i).retire.map fun c => (c.1, fun (y : State) => y.retireChannel c.1 c.2)
  (edgeSort (towers ++ sensors)).foldl (fun y q => q.2 y) s1

/-- The opening edge of a clearing that begins beat `n` (R245). -/
def State.opening (s : State) (i n : Nat) : State :=
  let x := s.stand i
  let s2 := s.setStand i { x with emptied := [] }
  let s3 := ((s2.throttleEnd i).budgetApply i).levelBegin i
  let s4 := (s3.homeTrunks i).foldl (fun y q => if y.ownsOn q.1 q.2 i then y.calHandover q.1 q.2 else y) s3
  let s5 := ((s4.swapsDue i).takeListeners i).remapsDue i
  let s7 := s5.openingErrs i x.emptied
  let s8 := s7.setStand i { s7.stand i with retire := [], clearHolds := 0 }
  -- a takeover that an earlier clearing gave up is due again (R247)
  let s9 := s8.setStand i { s8.stand i with spares := (s8.stand i).spares.map fun sp => { sp with later := false } }
  (s9.stand i).spares.foldl (fun y sp =>
    if sp.fenceBeat.toNat + 64 ≤ n ∧ !sp.loaded ∧ !sp.failed then y.clearAdd i (.spare sp.g) else y) s9

/-- The spare takes core `g`'s place (R73, R76): every register and data memory zero, at its rejoin bundle; the network
interface goes on with what is outstanding, whose replies write nothing. [DEDUCED, assumption 56, unsafe] -/
def State.takeover (s : State) (g pc : Nat) (run : Bool) : State :=
  let c := s.core g
  let base := dmAddr g 0
  let m := memClear s.mem fun a => decide (base ≤ a) && decide (a < base + dmBytes)
  ({ s with mem := m }.placeSpare g).setCore g
    { CoreSt.zero with running := run, pc := pc, progLen := c.progLen, epoch := c.epoch, seqs := c.seqs,
                       lastStore := c.lastStore, niNext := c.niNext, boFrom := c.boFrom,
                       ni := c.ni.map fun (n : NiOp) => { n with dest := none } }

/-- The closing edge of a clearing, which begins beat `n`. [DEDUCED, assumption 56, unsafe] -/
def State.closing (s : State) (i n : Nat) : State :=
  let s2 := (s.swapsEnd i).remapsEnd i
  let x := s2.stand i
  let ready := x.spares.filter fun sp => decide (sp.fenceBeat.toNat + 66 ≤ n) && sp.loaded && !sp.later
  let s3 := ready.foldl (fun y sp =>
    let pc := ((x.copy.cores.find? fun e => e.g = sp.g).map (·.rejoin)).getD 0
    let y1 := y.takeover sp.g pc (!x.stopped)
    if y1.gf (Reg.STD_FENCES i) Fld.STD_FENCES_gcore = sp.g then y1.setReg (Reg.STD_REJOIN_BEAT i) (BitVec.ofNat 64 n) else y1) s2
  let s4 := s3.setStand i { s3.stand i with spares := x.spares.filter (fun sp => !(ready.contains sp)), clearing := [],
                                            clearHolds := 0 }
  let a := Reg.STD_CLEARINGS i
  s4.setReg a (s4.reg a + 1)

/-- The first beat of the next clearing after beat `n`. -/
def nextClear (p n : Nat) : Nat := if n % p < p - 2 then n - n % p + p - 2 else n - n % p + 2 * p - 2

/-! ### Edges -/

/-- A core at the edge that begins beat `n`: a beat wait that is met ends, and the timeout of a beat-ordered atomic's data
reply starts again (R163 to R165, R334). -/
def CoreSt.edge (c : CoreSt) (n : Nat) (gtc : Word) : CoreSt :=
  let met := match c.bwait with
    | some t => decide (t.toNat ≤ n)
    | none => true
  { c with done := c.ended || !met, bwait := if met then none else c.bwait, gated := !met, evtReq := false,
           ni := c.ni.map fun m => if m.acked && m.pkt.bo && m.issueBeat.toNat + 1 == n then { m with sentAt := gtc } else m }

/-- At the admitted edge of stand `i` that begins beat `n` the timeouts of its combined beat-ordered packets of the beat before it that
wait for data start again (R334). -/
def State.groupsEdge (s : State) (i n : Nat) (gtc : Word) : State :=
  let starts := fun (g : CombGroup) => g.acked && g.pkt.stand.toNat == i && (g.pkt.beat.toNat + 1) % 64 == n % 64
  (upto 16).foldl (fun y t =>
    if (y.tile t).groups.any starts then
      y.setTile t { y.tile t with groups := (y.tile t).groups.map fun g => if starts g then { g with sentAt := gtc } else g }
    else y) s

/-- Has every core and sequencer of the stand reached its end (R65)? -/
def State.allEnded (s : State) (i : Nat) : Bool :=
  (s.stand i).copy.cores.all (fun e =>
    let c := s.core e.g
    c.ended || c.fenced || s.openSite (towerOf e.g)) &&
    (s.tilesOf i).all fun t => match s.ctxOf t i with
      | some x => (s.ctx t x).state == 4
      | none => true

/-- Stop a stand's cores and sequencers, close its circuits and discard its beat-ordered entries (R489, R242). -/
def State.stopStand (s : State) (i : Nat) : State :=
  let s1 := (s.coresOf i).foldl (fun y g => y.setCore g { y.core g with running := false, staged := [] }) s
  let s2 := (upto 16).foldl (fun y t =>
    let y1 := y.setTile t ((y.tile t).setPart ⟨i, [], false⟩)
    match y1.ctxOf t i with
    | some x => y1.closeAll t x
    | none => y1) s1
  s2.setStand i { s2.stand i with stopped := true }

/-- Spare carriage of a circuit flagged at two edges in a row (R277): its frames ride the trunk's spare channel, where one
exists and no other slot's do; an unfinished calibration is given up for it. [DEDUCED, assumption 43, safe] -/
def State.carry (s : State) (t x c : Nat) (q : Circ) : State :=
  let a := Reg.OPT_TRUNK_STATE q.src q.trunk
  let f := foreignTrunk t q.src q.trunk
  let other := (upto 32).any fun k => k != q.slot && natBit (s.slotByte q.src q.trunk k) 6
  let cal := s.gf a Fld.OPT_TRUNK_STATE_cal_ch
  if other || q.carriage || !s.spareFree t f then s
  else
    let s1 :=
      if s.spareCh q.src q.trunk = 0x3F ∧ cal ≠ 0x3F then s.calAbandon q.src q.trunk else s
    if s1.spareCh q.src q.trunk = 0x3F then s
    else
      let s2 := (s1.setSlotByte q.src q.trunk q.slot (natPut (s1.slotByte q.src q.trunk q.slot) 6 1 1)).setCtx t x
        ((s1.ctx t x).setCirc c { q with carriage := true })
      -- a fenced listener is replaced on the circuit's own channel, which keeps its slot (R297)
      if q.listener ≠ noListener ∧ (s.listener t q.listener).mode = .fenced then s2
      else (s2.sf a Fld.OPT_TRUNK_STATE_swap_pending 1).sf a Fld.OPT_TRUNK_STATE_swap_slot q.slot

/-- A suppressed edge (R238, R276, R277). -/
def State.holdEdge (s : State) (i : Nat) : State :=
  let x := s.stand i
  let s1 := (s.sfSat (Reg.STD_HOLDS i) Fld.STD_HOLDS_holds 1).setReg (Reg.STD_HOLD_LAST i) x.lateReg
  let s2 := x.copy.cores.foldl (fun y e =>
    let c := y.core e.g
    if c.waiting = some .wflag then y.setCore e.g { c with waitHolds := c.waitHolds + 1 } else y) s1
  if s.inClearing i then s2
  else (s2.tilesOf i).foldl (fun y t =>
    match y.ctxOf t i with
    | none => y
    | some k =>
      let y1 := (y.ctx t k).circs.foldl (fun z (e : Nat × Circ) =>
        if e.2.bind.isSome ∧ e.2.flagNow ∧ e.2.flagPrev then z.carry t k e.1 e.2 else z) y
      y1.ctxRepeat t k) s2

/-- What error correction finds at an edge: by tile and by the entry's place in the order of R219. -/
abbrev EdgeEcc := List (Nat × Nat × Ecc)

/-- An admitted edge that ends the present beat (R219, R233, R243, R344). The run ends at the first one at which every member has
ended and no packet of the stand remains (R65, R335); a clearing whose closing edge it is counts. -/
def State.admitEdge (s : State) (i : Nat) (ecc : EdgeEcc) : State :=
  let n := (s.stand i).beat.toNat + 1
  let p := planPeriod s.planForce i
  let s1 := (upto 16).foldl (fun y t => (y.boApply i t (ecc.filterMap fun q => if q.1 = t then some q.2 else none)).foldDigest i t) s
  let x := s1.stand i
  let at_ := BitVec.ofNat 64 x.edgeAt
  let s2 := (s1.setStand i ({ x with beat := BitVec.ofNat 64 n, lastEdge := at_, streak := 0 }.adopt x.edgeAt)).setReg
    (Reg.STD_BEATS i) (BitVec.ofNat 64 n)
  let s3 := s2.sf (Reg.STD_HOLD_RUN i) Fld.STD_HOLD_RUN_streak 0
  let evt := x.copy.cores.any fun e => (s3.core e.g).evtReq
  let s4 := if evt then s3.stdEvent i 3 else s3
  if s4.allEnded i ∧ x.handling = none ∧ s4.planeQuiet i then
    let s5 := if n % p = 0 then s4.closing i n else s4
    if x.batchFailed then s5.endRun i 4 0x10 else s5.endRun i 3 0x0B
  else
    let s5 := (x.copy.cores.foldl (fun y e => y.setCore e.g ((y.core e.g).edge n at_)) s4).groupsEdge i n at_
    let s6 := (s5.tilesOf i).foldl (fun y t =>
      match y.ctxOf t i with
      | some k => y.ctxEdge t k n
      | none => y) s5
    let s7 := if n % p = p - 2 then s6.opening i n else if n % p = 0 then s6.closing i n else s6
    s7.setReg (Reg.STD_NEXT_CLEAR i) (BitVec.ofNat 64 (nextClear p n))

/-- The beat 0 edge (R63): the stand is RUNNING, and its cores and contexts begin. -/
def State.beatZero (s : State) (i : Nat) : State :=
  let x := s.stand i
  let a := Reg.STD_GATE_LEVEL i
  let l := x.copy.level
  let s1 := (((s.sf (Reg.STD_STATUS i) Fld.STD_STATUS_state 2).sf a Fld.STD_GATE_LEVEL_level l).sf a
    Fld.STD_GATE_LEVEL_next_level l).setDiv i l
  let s2 := (s1.gateClocks i 0).setReg (Reg.STD_NEXT_CLEAR i) (BitVec.ofNat 64 (nextClear (planPeriod s.planForce i) 0))
  let s3 := x.copy.cores.foldl (fun y e =>
    let c := y.core e.g
    if c.fenced || y.openSite (towerOf e.g) then y else y.setCore e.g { c with running := true, active := true, nom := 0 }) s2
  let s4 := (s3.tilesOf i).foldl (fun y t =>
    match y.ctxOf t i with
    | some k => y.setCtx t k ((y.ctx t k).goto 0)
    | none => y) s3
  let y := s4.stand i
  let s5 := (s4.setStand i ({ y with grid := 1, beat := 0, lastEdge := x.copy.start, gate := none, levelPhase := .none, railFrom := none }.adopt x.copy.start.toNat)).stdEvent i 1
  -- a throttle that is in force acts from beat 0 on (R457)
  if (s5.halvesOf i).any fun q => q.1 != 0 then s5.throttleMark i else s5

/-- At each grid edge, admitted or suppressed, the halves number their nominal cycles from 0 (R80). -/
def State.nominalZero (s : State) (i : Nat) : State :=
  (s.stand i).copy.cores.foldl (fun y e => y.setCore e.g { y.core e.g with nom := 0 }) s

/-- At a grid edge of stand `i` the fabric sequencer unbinds every stream of a site whose link went down before it: it closes the circuits
bound to that site alone, and drops the site from the other masks (R368). -/
def State.siteUnbound (s : State) (i w : Nat) : State :=
  let t := w / 6
  let c := w % 6
  let names := fun (b : Option Binding) => b.any fun v => v.mask.getLsbD c
  let s1 := match s.ctxOf t i with
    | none => s
    | some x =>
      let k := s.ctx t x
      (k.circs.filter fun (e : Nat × Circ) => names e.2.bind).foldl (fun y (e : Nat × Circ) =>
        match e.2.bind with
        | some b =>
          if b.mask = BitVec.ofNat 6 (2 ^ c) then y.closeCirc t x e.1
          else
            let q := (y.ctx t x).circ e.1
            y.setCtx t x ((y.ctx t x).setCirc e.1 { q with bind := some { b with mask := b.mask &&& ~~~(BitVec.ofNat 6 (2 ^ c)) } })
        | none => y) (s.setCtx t x { k with sends := k.sends.filter fun e => !(names e.2) })
  let s2 := ((s1.site w).streams.map (·.1)).foldl (fun y n => y.freeStream w n) s1
  s2.setSite w { s2.site w with lost := false }

/-- The same for every site of the stand whose link went down. -/
def State.sitesEdge (s : State) (i : Nat) : State :=
  (s.towersOf i).foldl (fun y w => if (y.site w).lost then y.siteUnbound i w else y) s

/-- A grid edge of stand `i` (R232, R233, R238, R489). -/
def State.gridStep (s : State) (i : Nat) (ecc : EdgeEcc) : State :=
  let x := s.stand i
  let s0 := (((s.gtcTo x.edgeAt).nominalZero i).framesEdge i).sitesEdge i
  let on := fun (y : State) => y.setStand i { y.stand i with grid := x.grid + 1, gate := none }
  if x.stopped then on s0
  else
    match x.gate with
    | none => s
    | some ok =>
      if x.handling.isSome then
        -- stand handling begins at this edge, admitted or suppressed; the beat's entries are discarded
        let s1 := s0.stopStand i
        on (if ok then s1.admitEdge i ecc else s1.holdEdge i)
      else if ok then
        let s1 := s0.admitEdge i ecc
        if s1.stdState i = 2 then on s1 else s1
      else on (s0.holdEdge i)

end Sys2Proof.Machine
end

