-- ==== Sys2Proof/Machine/BeatOps.lean ====
section
/-! DEFINITION. The commands of the beat: gates, grid edges, limits on holds, spares and level changes (R63, R96, R155,
R225, R232 to R247, R423, R446). -/

namespace Sys2Proof.Machine

/-- The gate of a running stand's coming edge (R234). -/
def execBeatGate (i : Nat) (s : State) : Host.Outcome State Fault Refusal :=
  if i ≥ 16 then .fault .noSuchUnit
  else
    let x := s.stand i
    if s.stdState i = 2 ∧ x.gate = none ∧ !x.stopped ∧ !s.clk.stopped then .next (s.gateEval i) else .next s

/-- A grid edge (R232): beat 0 for a stand that starts and is ready, the end of a start under handling, or an edge of a
run. A start that is not ready waits for `startMissed`. -/
def execGridEdge (i : Nat) (ecc : EdgeEcc) (s : State) : Host.Outcome State Fault Refusal :=
  if i ≥ 16 then .fault .noSuchUnit
  else
    let x := s.stand i
    -- no edge comes while GTC stands still (R427)
    if s.clk.stopped then .next s
    else if s.stdState i = 1 then
      if x.handling.isSome then
        if x.stopped then .next s else .next (s.stopStand i)
      else if s.startReady i then .next ((s.gtcTo x.copy.start.toNat).beatZero i)
      else .next s
    else if s.stdState i = 2 then .next (s.gridStep i ecc)
    else .next s

/-- The gate of the 4,096th consecutive hold (R241): the error names the lowest late core, or the lowest late tile. [DEDUCED, assumption 57, unsafe] -/
def execHoldLimit (i : Nat) (s : State) : Host.Outcome State Fault Refusal :=
  if i ≥ 16 then .fault .noSuchUnit
  else
    let x := s.stand i
    if s.stdState i = 2 ∧ x.streak ≥ 4096 ∧ x.handling = none ∧ x.gate = some false then
      let r := x.lateReg.toNat
      let g := natBits r 4 14
      let e : ErrInfo := { ErrInfo.plain (if natBit r 0 then 0 else 6) 0x16 with detail := some (r % 16) }
      let e1 : ErrInfo :=
        if natBit r 0 then { e with gcore := some g, tile := some (tileOf g), site := some (siteOf g) }
        else if natBit r 2 then { e with tile := some (natBits r 18 4) }
        else e
      .next (s.standFatal i e1)
    else .next s

/-- The consecutive holds already taken with clear_late. [DEDUCED, assumption 55, safe] -/
def StandSt.clearHeld (x : StandSt) : Nat := if x.gate.isSome then x.clearHolds - 1 else x.clearHolds

/-- Give up the replacement of fenced listeners on slot (`u`, `h`, `k`) of stand `i` (R247, R297): the circuit goes back to its
fenced listener, in carriage as before, and the trunk's spare listener is free again. -/
def State.listenersBack (s : State) (i u h k : Nat) : State :=
  (s.tilesOf i).foldl (fun y t =>
    match y.ctxOf t i with
    | none => y
    | some x =>
      (y.ctx t x).circs.foldl (fun z (e : Nat × Circ) =>
        let f := foreignTrunk t u h
        let b := Reg.OPT_SPARE_LISTEN t (f / 32)
        let old := ((upto 9).map fun j => 9 * f + j).find? fun l =>
          (z.listener t l).mode == .fenced && (z.listener t l).user == some (x, e.1)
        match old with
        | some l =>
          if e.2.src = u ∧ e.2.trunk = h ∧ e.2.slot = k ∧ e.2.listener ≠ l then
            let z1 := z.parkListener t e.2.listener
            (z1.sf b Fld.OPT_SPARE_LISTEN_free (natPut (z1.gf b Fld.OPT_SPARE_LISTEN_free) (f % 32) 1 1)).setCtx t x
              ((z1.ctx t x).setCirc e.1 { e.2 with listener := l })
          else z
        | none => z) y) s

/-- Give up one clearing action: what it replaced is restored. A spare stays listed for the next clearing, and the place empty until
then. -/
def State.clearUndo (s : State) (i : Nat) (a : ClearAct) : State :=
  match a with
  | .level _ =>
    let from_ := (s.stand i).levelFrom
    let s1 := ((s.setDiv i from_).gateClocks i 0).setStand i { s.stand i with levelPhase := .none }
    (s1.sf (Reg.STD_GATE_LEVEL i) Fld.STD_GATE_LEVEL_level from_).sf (Reg.STD_GATE_LEVEL i) Fld.STD_GATE_LEVEL_next_level from_
  | .swap tr k =>
    match sget 0 (s.fabT (tr / 8)).swapOld (tr % 8) with
    | 0 => s.listenersBack i (tr / 8) (tr % 8) k
    | m + 1 => if m / 64 = k then s.swapUndo (tr / 8) (tr % 8) else s.listenersBack i (tr / 8) (tr % 8) k
  | .spare g => s.setStand i { s.stand i with spares := (s.stand i).spares.map fun sp =>
      if sp.g = g then { sp with later := true } else sp }

/-- After 64 consecutive holds with clear_late (R247): the actions not complete are given up and the edge is admitted, so
far as the clearing alone held it. [DEDUCED, assumption 55, safe] -/
def execClearAbandon (i : Nat) (s : State) : Host.Outcome State Fault Refusal :=
  if i ≥ 16 then .fault .noSuchUnit
  else
    let x := s.stand i
    let late := s.remapsLate i
    if s.stdState i = 2 ∧ x.clearHeld ≥ 64 ∧ (x.clearing ≠ [] ∨ late ≠ []) then
      let s1 := late.foldl (fun y q => y.remapBack q.1 q.2) (x.clearing.foldl (fun y a => y.clearUndo i a) s)
      let s2 := (s1.sfSat (Reg.STD_CLEAR_ABANDON i) Fld.STD_CLEAR_ABANDON_count (x.clearing.length + late.length)).stdEvent i 6
      let alone := x.lateReg.toNat % 16 = 8
      let y := s2.stand i
      let hr := Reg.STD_HOLD_RUN i
      -- an edge admitted now ends the streak before this gate
      let s3 := s2.setStand i { y with clearing := [], clearHolds := 0 }
      .next (if x.gate = some false ∧ alone then
        ((s3.setStand i { s3.stand i with gate := some true, streak := 0 }).sf hr Fld.STD_HOLD_RUN_streak 0).sf hr
          Fld.STD_HOLD_RUN_longest x.longBefore
        else s3)
    else .next s

/-- A core in one `wflag` through 64 consecutive holds (R225): run-time error 0x13. -/
def execWflagHoldLimit (g : Nat) (s : State) : Host.Outcome State Fault Refusal :=
  if g ≥ 12288 then .fault .noSuchUnit
  else
    let c := s.core g
    let i := s.standOf g
    if c.waiting = some .wflag ∧ c.waitHolds ≥ 64 ∧ s.stdState i = 2 ∧ (s.stand i).handling = none then
      let e : ErrInfo := { ErrInfo.plain 0 0x13 with tile := some (tileOf g), site := some (siteOf g), gcore := some g,
                                                     index := some c.pc }
      .next (s.standFatal i e)
    else .next s

/-- A spare's load for core `g`'s place ends (R76, R155, R473): in a run the program is written and its digest checked, a
mismatch leaving the place empty; a stand that is not running takes the spare at once. [DEDUCED, assumption 56, unsafe] -/
def execSpareLoadComplete (g : Nat) (s : State) : Host.Outcome State Fault Refusal :=
  if g ≥ 12288 then .fault .noSuchUnit
  else
    match (upto 16).find? fun i => (s.stand i).spares.any fun sp => sp.g == g && !sp.failed && (s.stdState i != 2 || !sp.loaded) with
    | none => .next s
    | some i =>
      let x := s.stand i
      let mark := fun (y : State) (f : SpareLoad → SpareLoad) =>
        y.setStand i { y.stand i with spares := (y.stand i).spares.map fun sp => if sp.g = g then f sp else sp }
      let drop := fun (y : State) =>
        y.setStand i { y.stand i with spares := (y.stand i).spares.filter fun sp => !(sp.g == g) }
      if !s.inRun i then .next (drop (s.takeover g 0 false))
      else match x.copy.cores.find? fun e => e.g = g with
        | none => .next (drop (s.takeover g 0 false))
        | some e => match x.copy.progs[e.prog]? with
          | none => .next s
          | some p =>
            if sm3 (s.bytesAt i p.addr.toNat (32 * p.len)) ≠ p.digest then
              let er : ErrInfo := { ErrInfo.plain 0 0x0C with tile := some (tileOf g), site := some (siteOf g), gcore := some g }
              .next (mark (s.standFatal i er) fun sp => { sp with failed := true })
            else
              let s1 := s.loadCore i e p e.start
              if s.stdState i = 1 then .next (drop (s1.takeover g e.start false))
              else .next ((mark s1 fun sp => { sp with loaded := true }).clearDone i (.spare g))

/-- A fenced core whose network interface holds nothing is powered off (R96). -/
def execFencedCorePowerOff (g : Nat) (s : State) : Host.Outcome State Fault Refusal :=
  if g ≥ 12288 then .fault .noSuchUnit
  else
    let c := s.core g
    if c.fenced ∧ c.physical ∧ c.ni = [] then .next (s.setCore g { c with physical := false }) else .next s

/-! ### Level changes (R246, R423, R446) -/

/-- At the opening edge + 128 ticks of a lowering every region restarts on the new divider. [DEDUCED, assumption 58, unsafe] -/
def execLevelChangeClockRestart (i : Nat) (s : State) : Host.Outcome State Fault Refusal :=
  if i ≥ 16 then .fault .noSuchUnit
  else
    let x := s.stand i
    -- a park keeps the regions gated (R426)
    if x.levelPhase = .lowering ∧ (s.pwrS i).parked = false ∧ s.clk.stopped = false then
      let s1 := (s.gtcTo (x.lastEdge.toNat + 128)).gateClocks i 0
      let a := Reg.STD_GATE_LEVEL i
      let s2 := s1.sf a Fld.STD_GATE_LEVEL_level (s.gf a Fld.STD_GATE_LEVEL_next_level)
      .next (s2.setStand i { s2.stand i with levelPhase := .lowered })
    else .next s

/-- Does every core rail of stand `i` lie within 8 mV of level `l`'s voltage (R445)? `rails` names rails, twice the tower and 1 for the
south half, with what they read in mV; one that it does not name stands at its target. -/
def State.railsWell (s : State) (i l : Nat) (rails : List (Nat × Nat)) : Bool :=
  rails.all fun r => !(s.towersOf i).contains (r.1 / 2) || (decide (r.2 ≤ levelMv l + 8) && decide (levelMv l ≤ r.2 + 8))

/-- At the opening edge + 640 ticks of a raise the dividers change if every core rail is in regulation; otherwise nothing
changes, and the clearing holds (R446). [DEDUCED, assumption 58, unsafe] -/
def execLevelRaiseDividerChange (i : Nat) (rails : List (Nat × Nat)) (s : State) : Host.Outcome State Fault Refusal :=
  if i ≥ 16 then .fault .noSuchUnit
  else
    let x := s.stand i
    -- no divider changes in a park, nor while every clock stands (R426, R427)
    if x.levelPhase = .raising ∧ (s.pwrS i).parked = false ∧ s.clk.stopped = false then
      let s1 := s.gtcTo (x.lastEdge.toNat + 640)
      if s.railsWell i (s.gf (Reg.STD_GATE_LEVEL i) Fld.STD_GATE_LEVEL_next_level) rails then
        let s2 := (s1.gateClocks i 1).setDiv i (s.gf (Reg.STD_GATE_LEVEL i) Fld.STD_GATE_LEVEL_next_level)
        .next (s2.setStand i { s2.stand i with levelPhase := .raiseGated })
      else .next s1
    else .next s

/-- Do the stand's rails stand at the voltage of its level? Where they do not, they keep an earlier level's: the device logs it, and the
sequencer tries again at the next clearing (R446). -/
def State.railsAt (s : State) (i : Nat) (inReg : Bool) (old : Nat) : State :=
  let s1 := s.setStand i { s.stand i with railFrom := if inReg then none else some ((s.stand i).railFrom.getD old) }
  if inReg then s1 else s1.corrected { ErrInfo.plain 10 7 with stand := some i }

/-- At the opening edge + 768 ticks: a raise restarts every region on the new divider; a lowering is complete, its rail
late where it has not reached the lower voltage; and a clearing without a level change tries a late rail again. [DEDUCED, assumption 58, unsafe] -/
def execLevelChangeComplete (i : Nat) (rails : List (Nat × Nat)) (s : State) : Host.Outcome State Fault Refusal :=
  if i ≥ 16 then .fault .noSuchUnit
  else
    let x := s.stand i
    let a := Reg.STD_GATE_LEVEL i
    let n := s.gf a Fld.STD_GATE_LEVEL_next_level
    let over_ := fun (y : State) => (y.clearDone i (.level n)).setStand i
      { (y.clearDone i (.level n)).stand i with levelPhase := .none }
    let s1 := s.gtcTo (x.lastEdge.toNat + 768)
    let inReg := s.railsWell i n rails
    if (s.pwrS i).parked ∨ s.clk.stopped then .next s
    else if x.levelPhase = .raiseGated then .next (over_ (((s1.gateClocks i 0).sf a Fld.STD_GATE_LEVEL_level n).railsAt i true n))
    else if x.levelPhase = .lowered then .next (over_ (s1.railsAt i inReg x.levelFrom))
    else if x.levelPhase = .none ∧ x.railFrom.isSome ∧ s.inClearing i then .next (s1.railsAt i inReg n)
    else .next s

end Sys2Proof.Machine
end

