-- ==== Sys2Proof/Machine/Optics.lean ====
section
/-! DEFINITION. Wavelength control: fences of listeners and channels, calibrations, heaters, fibre inputs and the laser_ilk
loop (R290 to R319). -/

namespace Sys2Proof.Machine

/-- The greatest of a list, with a first element to stand in for an empty list. -/
def maxInt (d : Int) (xs : List Int) : Int := xs.foldl max d

/-- The ticks of one second (R416). -/
def second : Nat := 1000000000

/-- Has no more than a second passed since a recorded time? -/
def State.recent (s : State) (at_ : Option Word) : Bool :=
  match at_ with
  | some t => decide (s.gtc.toNat - t.toNat < second)
  | none => false

/-! ### Trim converters (R303) -/

/-- A converter's trim. -/
def State.trim (s : State) (t conv : Nat) : Trim := sget Trim.zero (s.fabT t).trims conv
def State.setTrim (s : State) (t conv : Nat) (x : Trim) : State :=
  s.setFab t { s.fabT t with trims := sset Trim.zero (s.fabT t).trims conv x }

/-- A converter takes the code that its calibration found. -/
def State.calCode (s : State) (t conv : Nat) (code : BitVec 12) : State :=
  let x := s.trim t conv
  s.setTrim t conv { x with code := code, cal := code, count := x.count + 1, gtc := s.gtc }

/-- The recalibration of a converter of `w` bits ends, with a code that is the module's own (R301, R305). -/
def State.recalibrated (s : State) (t conv w : Nat) : State :=
  let (v, s1) := s.takeBelow (2 ^ w)
  s1.calCode t conv (BitVec.ofNat 12 v)

/-! ### Listeners (R294 to R297) -/

/-- The foreign trunk of listener `l` of a tile. -/
def listenerTrunk (l : Nat) : Nat := l / 9

/-- Fence listener `l` of tile `t` (R296, R297): one that served no circuit is replaced at once by the trunk's spare
listener, one that served a circuit at its stand's next clearing. The log entry names the listener in its index field. [DESIGN CHOICE, assumption 126, unsafe] -/
def State.fenceListener (s : State) (t l : Nat) : State :=
  let x := s.listener t l
  if x.mode = .fenced then s
  else
    let f := listenerTrunk l
    let a := Reg.OPT_SPARE_LISTEN t (f / 32)
    let s1 := s.setListener t l { x with mode := .fenced, mislockAt := none, lost := false }
    let s2 := (s1.sfSat (Reg.OPT_LOCK_EVENTS t) Fld.OPT_LOCK_EVENTS_lst_fence 1).sfSat (Reg.OPT_RX_STATUS t)
      Fld.OPT_RX_STATUS_fenced 1
    let s3 := (s2.contained { ErrInfo.plain 4 0x0C with tile := some t, index := some l }).dead 6 t 0xFF 0 l 0
    let spareGone := decide (l % 9 = s.spareJ t f) || x.user.isNone
    let s4 := if spareGone then s3.sf a Fld.OPT_SPARE_LISTEN_free (natPut (s3.gf a Fld.OPT_SPARE_LISTEN_free) (f % 32) 1 0) else s3
    -- a circuit that keeps its channel is not swapped for its listener's sake
    match x.user with
    | none => s4
    | some (k, c) =>
      let q := (s4.ctx t k).circ c
      let b := Reg.OPT_TRUNK_STATE q.src q.trunk
      if q.carriage ∧ s4.gf b Fld.OPT_TRUNK_STATE_swap_slot = q.slot then s4.sf b Fld.OPT_TRUNK_STATE_swap_pending 0 else s4

/-- How many channels above its target a listener is that meets channel `got` modulo 16, -8 to 7 (R265, R295). -/
def tagOffset (got want : Nat) : Int :=
  let d := (got + 16 - want % 16) % 16
  if d < 8 then (d : Int) else (d : Int) - 16

/-- The codes by which the heaters of ring A and of ring B take a listener `d` channels down (R259, R290): a channel further is
6.25 GHz less than ring A's free spectral range, and 5.88 GHz more than ring B's; a warmer ring resonates lower, as a later
channel lies lower (R255). [PRESUMED, assumption 127, unsafe] -/
def retuneA (d : Int) : Int := d * 250 / 13
def retuneB (d : Int) : Int := -(d * 4000 / 221)

/-- The base temperature of tile `t` in eighths of a degree: the largest of its four quadrants, those that are retired left out while
another is not. It stands for the temperature local to each of the tile's rings. [DESIGN CHOICE, assumption 127, unsafe] -/
def State.baseTemp (s : State) (t : Nat) : Int :=
  let at_ := fun (k : Nat) => signed12 (s.gf (Reg.THM_CH t k) Fld.THM_CH_value)
  match [36, 37, 38, 39].filter fun k => s.gf (Reg.THM_CH t k) Fld.THM_CH_retired == 0 with
  | [] => maxInt (-2048) ([36, 37, 38, 39].map at_)
  | ks => maxInt (-2048) (ks.map at_)

/-- The heater codes that keep a ring in the set-point window of 105 °C ± 8.6 K (R290), within the converter's 12 bits: 95 K above
the base temperature at full scale. -/
def State.codeWindow (s : State) (t : Nat) : Int × Int :=
  let b := s.baseTemp t
  (max 0 (min 4095 (((7712 - 10 * b) * 4096 + 7599) / 7600)), max 0 (min 4095 ((9088 - 10 * b) * 4096 / 7600)))

/-- `x` within `lo` to `hi`. -/
def clampInt (lo hi x : Int) : Int := max lo (min hi x)

/-- Move a converter's code by `d` within a window. -/
def State.tuneCode (s : State) (t conv : Nat) (w : Int × Int) (d : Int) : State :=
  let x := s.trim t conv
  s.setTrim t conv { x with code := BitVec.ofInt 12 (clampInt w.1 w.2 ((x.code.toNat : Int) + d)) }

/-- A code of a ring's heater brought within its window (R290). -/
def windowCode (w : Int × Int) (c : BitVec 12) : BitVec 12 := BitVec.ofInt 12 (clampInt w.1 w.2 c.toNat)

/-- The channel that a listener is tuned to: its circuit's, or the trunk's spare in monitor mode (R261, R295). -/
def State.listenerCh (s : State) (t l : Nat) : Nat :=
  let x := s.listener t l
  if x.mode = .parked then s.spareCh (foreignOf t (l / 9)).1 (foreignOf t (l / 9)).2 else x.ch

/-- A listener meets channel `got` modulo 16 in place of its own (R295, R296): parked and retuned by the resolved offset, or fenced
the second time within a second of a relock. -/
def State.mislock (s : State) (t l got : Nat) : State :=
  let x := s.listener t l
  if s.recent x.relockAt then s.fenceListener t l
  else
    let first := match x.mislockAt with
      | some m => m
      | none => s.gtc
    let d := tagOffset got (s.listenerCh t l)
    let s1 := s.setListener t l { x with mode := .moving, ch := s.listenerCh t l, mislockAt := some first }
    let w := s.codeWindow t
    ((s1.tuneCode t (588 + 2 * l) w (retuneA d)).tuneCode t (589 + 2 * l) w (retuneB d)).sfSat (Reg.OPT_LOCK_EVENTS t)
      Fld.OPT_LOCK_EVENTS_mislock 1

/-- The stand that a listener's circuit belongs to. -/
def State.listenerStand (s : State) (t l : Nat) : Option Nat :=
  (s.listener t l).user.map fun u => (s.ctx t u.1).stand

/-- A listener arrives at its channel with its tag verified: the clearing of its stand waits for it no longer. -/
def State.listenerArrive (s : State) (t l : Nat) : State :=
  let x := s.listener t l
  let at_ := if x.mislockAt.isSome then some s.gtc else x.relockAt
  -- a spare listener that serves nothing goes on in monitor mode
  let s1 := s.setListener t l { x with mode := if x.user.isSome then .drop else .parked, mislockAt := none, relockAt := at_, lost := false }
  match x.user with
  | none => s1
  | some (k, c) =>
    let q := (s1.ctx t k).circ c
    let i := (s1.ctx t k).stand
    let s1 := if q.carriage ∧ q.listener = l then s1.uncarry t k c else s1
    -- a fenced listener that this one replaces serves the circuit no longer
    let s1 := ((upto 9).map fun j => 9 * listenerTrunk l + j).foldl (fun y m =>
      if (y.listener t m).mode = .fenced ∧ (y.listener t m).user = some (k, c) then y.setListener t m { y.listener t m with user := none } else y) s1
    if s1.swapMoving q.src q.trunk q.slot then s1 else s1.clearDone i (.swap (8 * q.src + q.trunk) q.slot)

/-! ### Calibrations (R300 to R302) -/

/-- Abandon every calibration on a tile's trunks that is not complete (R302). -/
def State.calAbandonAll (s : State) (t : Nat) : State :=
  (upto 8).foldl (fun y h => if sget 0 (y.fabT t).calDone h = 0 then y.calAbandon t h else y) s

/-! ### Modulators and channels (R279, R299) -/

/-- A modulator's record on its tile. -/
def State.modPark (s : State) (u tr ch : Nat) : Option ModPark := sget none (s.fabT u).mods (64 * tr + ch)
def State.setModPark (s : State) (u tr ch : Nat) (m : Option ModPark) : State :=
  s.setFab u { s.fabT u with mods := sset none (s.fabT u).mods (64 * tr + ch) m }

/-- Fence a home-trunk channel (R279): its modulator is parked, and its slot moves to the spare, given up from a calibration if
need be; a fenced spare is no longer one. The addr field of the log entry holds the channel from bit 8 and the trunk number from bit
16. [DESIGN CHOICE, assumption 126, unsafe] -/
def State.fenceChannel (s : State) (t h ch : Nat) : State :=
  let f := Reg.OPT_CH_FENCED t h
  let pk := Reg.OPT_CH_PARKED t h
  if natBit (s.gf f Fld.OPT_CH_FENCED_ch) ch then s
  else
    let s1 := (s.sf f Fld.OPT_CH_FENCED_ch (natPut (s.gf f Fld.OPT_CH_FENCED_ch) ch 1 1)).sf pk Fld.OPT_CH_PARKED_ch
      (natPut (s.gf pk Fld.OPT_CH_PARKED_ch) ch 1 1)
    let e : ErrInfo := { ErrInfo.plain 4 0x0C with tile := some t, addr := some (ch * 2 ^ 8 + (8 * t + h) * 2 ^ 16) }
    let s2 := ((s1.contained e).dead 5 t 0xFF h ch 0).setModPark t (8 * t + h) ch none
    let a := Reg.OPT_TRUNK_STATE t h
    if s2.spareCh t h = ch then s2.sf a Fld.OPT_TRUNK_STATE_spare 0x3F
    else if s2.gf a Fld.OPT_TRUNK_STATE_cal_ch = ch then
      (s2.sf a Fld.OPT_TRUNK_STATE_cal_ch 0x3F).setFab t { s2.fabT t with calDone := sset 0 (s2.fabT t).calDone h 0 }
    else match s2.chSlot t h ch with
      | none => s2
      | some _ => s2.swapNext t h

/-- The lane of an inbox trunk that lies on a channel. -/
def State.chLane (s : State) (t q ch : Nat) : Option Nat := (upto 30).find? fun l => decide (s.laneByte t q l % 64 = ch)

/-- The tile that modulates channel `ch` of a trunk (R252, R320). -/
def State.modTile (s : State) (tr ch : Nat) : Option Nat :=
  if tr < 128 then some (tr / 8)
  else
    let t := (tr - 128) / 2
    (s.chLane t ((tr - 128) % 2) ch).map fun l => if l / 2 < t then l / 2 else l / 2 + 1

/-- Show a home-trunk modulator as parked, or not. -/
def State.setParked (s : State) (tr ch v : Nat) : State :=
  let a := Reg.OPT_CH_PARKED (tr / 8) (tr % 8)
  if tr < 128 then s.sf a Fld.OPT_CH_PARKED_ch (natPut (s.gf a Fld.OPT_CH_PARKED_ch) ch 1 v) else s

/-- Fence the channel of a modulator that intrudes again or fails to relock (R299): it stays parked. The lane of a packet modulator that
cannot lock is retired (R346). -/
def State.fenceMod (s : State) (u tr ch : Nat) (locks : Bool) : State :=
  let a := Reg.OPT_MOD_PARK_LAST u
  let named := s.gf a Fld.OPT_MOD_PARK_LAST_trunk = tr ∧ s.gf a Fld.OPT_MOD_PARK_LAST_channel = ch
  let s1 := (s.setModPark u tr ch none).setParked tr ch 1
  let s2 := if named then s1.sf a Fld.OPT_MOD_PARK_LAST_fenced 1 else s1
  if tr < 128 then s2.fenceChannel u (tr % 8) ch
  else
    let t := (tr - 128) / 2
    match s2.chLane t ((tr - 128) % 2) ch with
    | some l => s2.fenceLaneAs t ((tr - 128) % 2) l (!locks)
    | none => s2

/-- The heater converter of the modulator of channel `ch` of trunk `tr` on tile `u`. -/
def State.modConv (s : State) (u tr ch : Nat) : Nat :=
  if tr < 128 then 33 * (tr % 8) + ch
  else
    let d := (tr - 128) / 2
    528 + 4 * (if d < u then d else d - 1) + 2 * (tr % 2) + ((s.chLane d (tr % 2) ch).getD 0) % 2

/-- Is channel `ch` of a trunk fenced, or the lane of an inbox trunk on it retired (R279, R346)? -/
def State.chFenced (s : State) (tr ch : Nat) : Bool :=
  if tr < 128 then natBit (s.gf (Reg.OPT_CH_FENCED (tr / 8) (tr % 8)) Fld.OPT_CH_FENCED_ch) ch
  else
    let t := (tr - 128) / 2
    natBit (s.gf (Reg.PKT_LANE_FENCED t (tr % 2)) Fld.PKT_LANE_FENCED_ch) ch ||
      ((s.chLane t (tr % 2) ch).any fun l => natBit (s.laneByte t (tr % 2) l) 6)

/-- Park an intruding modulator (R299): it relocks from its calibration values, within its window, and is out of lock until then, so that
its calibration is given up (R302). -/
def State.parkMod (s : State) (u tr ch : Nat) : State :=
  let a := Reg.OPT_MOD_PARK_LAST u
  let c := s.modConv u tr ch
  let sc := if tr < 128 ∧ s.gf (Reg.OPT_TRUNK_STATE u (tr % 8)) Fld.OPT_TRUNK_STATE_cal_ch = ch ∧ sget 0 (s.fabT u).calDone (tr % 8) = 0
    then s.calAbandon u (tr % 8) else s
  let sl := sc.setFab u { sc.fabT u with loops := sset LoopSt.zero (sc.fabT u).loops c LoopSt.zero,
                                         lostRings := (sc.fabT u).lostRings.filter (· ≠ c) ++ [c] }
  let s0 := sl.setTrim u c { sl.trim u c with code := windowCode (sl.codeWindow u) (sl.trim u c).cal }
  let s1 := (s0.setModPark u tr ch (some ⟨true, s.gtc, 0⟩)).setParked tr ch 1
  let s2 := (((s1.sf a Fld.OPT_MOD_PARK_LAST_trunk tr).sf a Fld.OPT_MOD_PARK_LAST_channel ch).sf a
    Fld.OPT_MOD_PARK_LAST_fenced 0).sf a Fld.OPT_MOD_PARK_LAST_valid 1
  s2.sfSat (Reg.OPT_LOCK_EVENTS u) Fld.OPT_LOCK_EVENTS_mod_park 1

/-! ### Rings and their converters (R293, R294, R303) -/

/-- The ring that a heater converter belongs to. -/
inductive Ring where
  | homeMod (h ch : Nat)
  | packetMod (n : Nat)
  | listener (l : Nat)
  | inboxRx (n : Nat)
  | none
  deriving DecidableEq, Repr

/-- The converter table of the lock loops. -/
def ringOf (conv : Nat) : Ring :=
  if conv < 264 then .homeMod (conv / 33) (conv % 33)
  else if conv < 528 then .none
  else if conv < 588 then .packetMod (conv - 528)
  else if conv < 2748 then .listener ((conv - 588) / 2)
  else if conv < 2814 then .inboxRx (conv - 2748)
  else .none

/-- Is a ring in service? A parked listener is not, but for a spare listener in monitor mode. -/
def State.inService (s : State) (t : Nat) (r : Ring) : Bool :=
  match r with
  | .none => false
  | .listener l =>
    let x := s.listener t l
    let f := listenerTrunk l
    let o := foreignOf t f
    x.mode == .drop || x.mode == .moving ||
      (x.mode == .parked && decide (l % 9 = s.spareJ t f) && s.spareFree t f && decide (s.spareCh o.1 o.2 ≠ 0x3F))
  | _ => true

/-- The listeners of tile `t` whose rings are tuned to a channel. -/
def State.tuned (s : State) (t : Nat) : List Nat := (upto 1080).filter fun l => s.inService t (.listener l)

/-- Is a converter being recalibrated (R305): the heater or the bias of a modulator whose channel is under calibration, the TIA offset
that its tile recalibrates, or the offset of a sensor channel that is stale? -/
def State.trimStale (s : State) (t conv : Nat) : Bool :=
  let m := if conv < 264 then conv else conv - 264
  if conv < 528 then s.gf (Reg.OPT_TRUNK_STATE t (m / 33)) Fld.OPT_TRUNK_STATE_cal_ch == m % 33 && sget 0 (s.fabT t).calDone (m / 33) == 0
  else if 2814 ≤ conv ∧ conv < 3070 then (s.fabT t).tiaNow == some (conv - 2814)
  else decide (3136 ≤ conv) && decide (conv < 3200) && s.gf (Reg.THM_CH t (conv - 3136)) Fld.THM_CH_stale == 1

/-- The feed-forward term of a ring from the powers of the upper dies, and the open-loop term of a parked listener from its tile's
housekeeping temperatures (R293). -/
def State.loopTerms (s : State) (t conv : Nat) : Int × Int :=
  (Config.feedForward t conv ((upto 96).map fun w =>
      s.gf (Reg.THM_TOWER (w / 6) (w % 6)) Fld.THM_TOWER_p_north + s.gf (Reg.THM_TOWER (w / 6) (w % 6)) Fld.THM_TOWER_p_south),
    Config.openLoop t conv ((upto 40).map fun k => s.gf (Reg.THM_CH t k) Fld.THM_CH_value))

/-- The codes by which a ring's heater moves for what its terms have become; a first update takes them as they are. -/
def LoopSt.moved (l : LoopSt) (now : Int × Int) (parked : Bool) : Int :=
  match l.terms with
  | some was => now.1 - was.1 + (if parked then now.2 - was.2 else 0)
  | none => 0

/-- One update of a loop (R291, R293, R294): the heater takes the feed-forward term, the bias tuner corrects at most 0.9 GHz within
its ±10 GHz, and after 64 updates its mean goes back to the heater, 325 MHz to a code. The loop, the codes that the heater moves
by, and whether the ring meets the conditions of losing lock and of having it. -/
def LoopSt.turn (l : LoopSt) (now : Int × Int) (seen : LoopSeen) (dim : Bool) : LoopSt × Int × Bool × Bool :=
  let bias := clampInt (-10000) 10000 (l.bias + clampInt (-900) 900 (-seen.err))
  let good := if -4000 ≤ seen.err ∧ seen.err ≤ 4000 ∧ !dim then min 8 (l.good + 1) else 0
  let dims := if dim then min 3 (l.dim + 1) else 0
  let lose := decide (seen.err < -8000) || decide (seen.err > 8000) || decide (dims ≥ 3)
  let back := if l.n + 1 ≥ 64 then (l.sum + bias) / 64 / 325 else 0
  let l1 : LoopSt :=
    if l.n + 1 ≥ 64 then ⟨bias - 325 * back, 0, 0, good, dims, some now⟩ else ⟨bias, l.sum + bias, l.n + 1, good, dims, some now⟩
  (l1, l.moved now false - back, lose, decide (good ≥ 8))

/-- A spare listener in monitor mode records its heater codes for its trunk's spare channel (R300). -/
def State.recordCodes (s : State) (t l : Nat) : State :=
  let f := listenerTrunk l
  let key := 64 * f + s.listenerCh t l
  let codes := ((s.trim t (588 + 2 * l)).code, (s.trim t (589 + 2 * l)).code)
  s.setFab t { s.fabT t with lstTab := sset none (s.fabT t).lstTab key (some codes) }

/-- Has some converter moved by more than 8 codes since the last service record (R304)? -/
def State.trimsMoved (s : State) : Bool :=
  (upto 16).any fun t => (s.fabT t).trims.any fun e =>
    decide (e.2.recd.toNat + 8 < e.2.code.toNat) || decide (e.2.code.toNat + 8 < e.2.recd.toNat)

/-- Lock of a ring changes (R294): a listener that lost it flags its frames until both its rings have it again. -/
def State.setLost (s : State) (t conv : Nat) (lost : Bool) : State :=
  let rs := (s.fabT t).lostRings
  if lost = rs.contains conv then s
  else
    let s1 := s.setFab t { s.fabT t with lostRings := if lost then rs ++ [conv] else rs.filter (· ≠ conv) }
    let s2 := if lost then s1.sfSat (Reg.OPT_LOCK_EVENTS t) Fld.OPT_LOCK_EVENTS_lock_lost 1 else s1
    match ringOf conv with
    | .listener l =>
      let both := (s2.fabT t).lostRings
      let now := both.contains (588 + 2 * l) || both.contains (589 + 2 * l)
      (s2.setListener t l { s2.listener t l with lost := now }).frontCount t l 4 (boolNat (now && !(s2.listener t l).lost))
    | .inboxRx i => s2.inboxCount t i 4 (boolNat lost)
    | .homeMod h ch =>
      -- a modulator that loses lock during its calibration ends it (R302)
      if lost ∧ s2.gf (Reg.OPT_TRUNK_STATE t h) Fld.OPT_TRUNK_STATE_cal_ch = ch ∧ sget 0 (s2.fabT t).calDone h = 0 then
        s2.calAbandon t h
      else s2
    | _ => s2

/-- Are all the rings that tile `t` carries on foreign trunks locked again? -/
def State.foreignLocked (s : State) (t : Nat) : Bool := (s.fabT t).lostRings.all fun c => decide (c < 528) || decide (2748 ≤ c)

/-- The end of R309 for a tile: its heaters are locked again. -/
def State.heatersBack (s : State) (t : Nat) : State :=
  (s.setFab t { s.fabT t with blocked := [], heaterFail := false }).sf (Reg.OPT_HOLD_STATE t) Fld.OPT_HOLD_STATE_unknown 0

/-- The modulator whose heater converter this is, as (trunk number, channel), where it has a record. -/
def State.modOf (s : State) (t : Nat) (r : Ring) : Option (Nat × Nat) :=
  match r with
  | .homeMod h ch => some (8 * t + h, ch)
  | .packetMod n =>
    -- converter n of a tile's 60 packet modulators: the inbox trunks of the other tiles in ascending order, two lanes each
    let d := if n / 4 < t then n / 4 else n / 4 + 1
    let l := 2 * (if t < d then t else t - 1) + n % 2
    some (128 + 2 * d + n / 2 % 2, s.laneByte d (n / 2 % 2) l % 64)
  | _ => none

/-- A further update of a parked modulator that finds it locked: after 8 without an intruder it is unparked. -/
def State.modUpdate (s : State) (t tr ch : Nat) : State :=
  match s.modPark t tr ch with
  | some m =>
    if !m.parked then s
    else if s.chFenced tr ch then s.setModPark t tr ch none
    else if m.clean + 1 ≥ 8 then (s.setModPark t tr ch (some { m with parked := false, clean := 0 })).setParked tr ch 0
    else s.setModPark t tr ch (some { m with clean := m.clean + 1 })
  | none => s

/-! ### A tile's heaters fail, or its rings are in an unknown state (R309) -/

/-- Is a channel of a trunk blocked by some tile's heaters? -/
def State.chBlocked (s : State) (tr ch : Nat) : Bool := (upto 16).any fun u => (s.fabT u).blocked.contains (tr, ch)

/-- The lane of an inbox trunk on a blocked channel: its group moves up to the spare where that is free and no channel of the move is
blocked, else the lane is fenced (R309, R347). [DESIGN CHOICE, assumption 128, unsafe] -/
def State.blockLane (s : State) (t q l ch : Nat) : State :=
  let g := l / 10
  let a := Reg.PKT_LANE_GROUP t q
  let used := natBit (s.gf a Fld.PKT_LANE_GROUP_spare_used) g || natBit (s.gf a Fld.PKT_LANE_GROUP_remap_pending) g
  let bad := (upto 33).any fun c => decide (ch < c) && decide (c ≤ 11 * g + 10) && s.chBlocked (128 + 2 * t + q) c
  if used || bad || natBit (s.laneByte t q l) 6 then s.fenceLane t q l else s.remapAsk t q g (l % 10)

/-- One mapped channel: its slot moves to the spare, riding it until then, or the channel is fenced. -/
def State.blockOne (s : State) (tr ch : Nat) : State :=
  let t := tr / 8
  let h := tr % 8
  if tr ≥ 128 then
    match s.chLane ((tr - 128) / 2) ((tr - 128) % 2) ch with
    | some l => s.blockLane ((tr - 128) / 2) ((tr - 128) % 2) l ch
    | none => s
  else match s.chSlot t h ch with
  | none => s
  | some k =>
    -- a channel under calibration becomes the spare for the carriage (R277)
    let s := if s.spareCh t h = 0x3F then s.calAbandon t h else s
    let sp := s.spareCh t h
    let bad := s.chBlocked tr sp
    if sp = 0x3F ∨ bad ∨ s.spareClaimed t h k ∨ sget 0 (s.fabT t).swapOld h ≠ 0 then s.fenceChannel t h ch
    else
      let s1 := (upto 16).foldl (fun y u => (upto 6).foldl (fun z x =>
        (z.ctx u x).circs.foldl (fun w (e : Nat × Circ) =>
          if e.2.src = t ∧ e.2.trunk = h ∧ e.2.slot = k then w.carry u x e.1 e.2 else w) z) y) s
      s1.swapAsk t h k

/-- R309 for tile `t`: the channels that its part of the cold-resonance map names are blocked. -/
def State.block (s : State) (t : Nat) : State :=
  let m := (coldPairs (s.payload 0xC t)).filter fun q => decide (q.1 < 160) && decide (q.2 < 33) &&
    decide ((if q.1 < 128 then q.1 / 8 else (q.1 - 128) / 2) ≠ t)
  let s1 := (s.setFab t { s.fabT t with blocked := m, heaterFail := true }).sf (Reg.OPT_HOLD_STATE t) Fld.OPT_HOLD_STATE_unknown 1
  let held := (upto 60).map (528 + ·) ++ (s1.tuned t).map fun l => 588 + 2 * l
  let s2 := held.foldl (fun y c => y.setLost t c true) s1
  m.foldl (fun y q => y.blockOne q.1 q.2) s2

/-! ### The laser_ilk loop (R310 to R316) -/

/-- The fibre inputs that the closing conditions name: on connectors not retired, with their tap monitor not fenced. -/
def State.inputs (s : State) : List (Nat × Nat) :=
  (upto 16).flatMap fun t => ((upto 3).filter fun k =>
    !natBit (s.gf Reg.OPT_ILK_CTL Fld.OPT_ILK_CTL_conn_retired) k &&
      s.gf (Reg.OPT_FIBRE t k) Fld.OPT_FIBRE_fenced == 0).map fun k => (t, k)

def State.ilkPhase (s : State) : Nat := s.gf Reg.OPT_ILK_STATUS Fld.OPT_ILK_STATUS_phase
def State.setIlkPhase (s : State) (v : Nat) : State := s.sf Reg.OPT_ILK_STATUS Fld.OPT_ILK_STATUS_phase v

/-- Every fibre input is disarmed (R310). -/
def State.disarm (s : State) : State :=
  ((upto 16).flatMap fun t => (upto 3).map fun k => (t, k)).foldl
    (fun y q => y.sf (Reg.OPT_FIBRE q.1 q.2) Fld.OPT_FIBRE_armed 0) s

/-- The loop opens with a cause (R313, R314, R316): dark until ready is reported, disarmed, and every stand in a run loses its light unless the
host asked. After a sudden loss or a ramp timeout the pilot wait begins again. [DEDUCED, assumption 47, unsafe] -/
def State.ilkOpen (s : State) (cause : Nat) (tile conn : Option Nat) : State :=
  let a := Reg.OPT_ILK_STATUS
  let next := if cause = 1 ∨ cause = 5 then 2 else 1
  let ph := s.ilkPhase
  if ph = 1 ∨ ph = 2 then s.setIlkPhase next
  else
    let s1 := (((s.setIlkPhase next).sf a Fld.OPT_ILK_STATUS_ready 0).sf a Fld.OPT_ILK_STATUS_cause cause)
    let s2 := (s1.sf Reg.MGT_BOUNDARY Fld.MGT_BOUNDARY_ilk_closed 0).sf Reg.MGT_BOUNDARY Fld.MGT_BOUNDARY_ilk_open_seen 1
    let s3 := match tile, conn with
      | some t, some k => (s2.sf a Fld.OPT_ILK_STATUS_tile t).sf a Fld.OPT_ILK_STATUS_conn k
      | _, _ => s2
    let s5 := s3.disarm.modCause 8
    if cause = 3 then s5
    else ((upto 16).filter s5.inRun).foldl (fun y i => y.standFatal i { ErrInfo.plain 4 0x23 with tile := tile, detail := conn }) s5

/-- The reading of input (t, k) in a list of 48 by 3·t + k. -/
def tapOf (taps : List Reading) (q : Nat × Nat) : Nat := ((taps[3 * q.1 + q.2]?).getD 0).toNat

/-- How many of tile `t`'s inputs read above 500 mW? -/
def State.strong (s : State) (t : Nat) : Nat :=
  ((upto 3).filter fun k => decide (s.gf (Reg.OPT_FIBRE t k) Fld.OPT_FIBRE_tap > 500)).length

/-- Contained error 0x09 of a tile that has come to have fewer than two inputs above 500 mW (R312). -/
def State.weakCheck (was : State) (t : Nat) (conn : Option Nat) (s : State) : State :=
  if was.strong t ≥ 2 ∧ s.strong t < 2 then s.contained { ErrInfo.plain 4 9 with tile := some t, detail := conn } else s

/-- Take tap readings in milliwatts: an input above 500 mW is armed. -/
def State.setTaps (s : State) (taps : List Reading) : State :=
  ((upto 16).flatMap fun t => (upto 3).map fun k => (t, k)).foldl (fun y q =>
    let a := Reg.OPT_FIBRE q.1 q.2
    let v := tapOf taps q
    let y1 := y.sf a Fld.OPT_FIBRE_tap (min v 1023)
    if v > 500 then y1.sf a Fld.OPT_FIBRE_armed 1 else y1) s

/-- The inputs a tile may feed its trunks from (R311). -/
def State.usable (s : State) (t : Nat) : List Nat :=
  (upto 3).filter fun k => !natBit (s.gf Reg.OPT_ILK_CTL Fld.OPT_ILK_CTL_conn_retired) k &&
    s.gf (Reg.OPT_FIBRE t k) Fld.OPT_FIBRE_fenced == 0

/-- A tile makes active the two lowest-numbered usable inputs. -/
def State.chooseInputs (s : State) (t : Nat) : State :=
  let act := (s.usable t).take 2
  (upto 3).foldl (fun y k => y.sf (Reg.OPT_FIBRE t k) Fld.OPT_FIBRE_active (boolNat (act.contains k))) s

end Sys2Proof.Machine
end

