-- ==== Sys2Proof/Machine/Sites.lean ====
section
/-! DEFINITION. Site links and open sites: the link layer, control messages, beat signals, streams, repair, loss and return
(R351 to R374). -/

namespace Sys2Proof.Machine

/-! ### The link layer (R356 to R358) -/

/-- Take an upward cell of an agent's site: its answer to a request, or a packet of its own logical places (R371) at injection, stamped
with its stand (R342), and discarded where it is already held (R358). A compute die's cells are at injection from their issue. [DEDUCED, assumption 51, safe] -/
def State.takeCell (s : State) (w : Nat) (p : Pkt) : State :=
  let t := w / 6
  let held := ((s.tile t).inject.any fun e => e.pkt.same p && e.pkt.kind == p.kind) || (s.tile t).groups.any fun g => g.parts.any fun q => q.same p
  if !s.openSite w then s
  else if p.kind = 1 then s.agentAnswer t w p
  else if held || decide (p.src.toNat / 128 ≠ w) || decide (s.gf (Reg.SITE_CENSUS3 w) Fld.SITE_CENSUS3_sources ≤ p.src.toNat % 128) ||
      decide (p.kind.toNat > 2) then s
  else
    let q := { p with stand := BitVec.ofNat 4 ((s.standOfTower w).getD 0), srcTile := BitVec.ofNat 4 t, age := 0 }
    s.setTile t { s.tile t with inject := (s.tile t).inject ++ [⟨q, 0, false⟩] }

/-- A flit arrives whole and in order: its cells, or its part of a frame. -/
def State.placeFlit (s : State) (w : Nat) (f : Flit) : State :=
  if f.kind = 1 then ((upto 3).filter fun i => f.cells.getLsbD i).foldl (fun y i => y.takeCell w (cellOf f.body i)) s
  else if f.kind = 2 then
    let x := s.site w
    match sget none x.streams f.stream.toNat with
    | some _ => s.setSite w { x with frame := sset none x.frame (2 ^ 24 * f.stream.toNat + f.offset.toNat) (some f.body) }
    | none => s
  else s

/-- Does a compute site's module exist and carry flits? -/
def siteGuard (t c m : Nat) : Bool := decide (t < 16) && decide (c < 6) && decide (m < 17)

/-- A site flit arrives at the base (R358): acknowledgements and replays, then the flit, placed or discarded with a nak. While a replay
is awaited nothing but it is accepted; one that arrives damaged is asked for again. -/
def execSiteFlitReceive (t c m : Nat) (flit : SiteFlit) (s : State) : Host.Outcome State Fault Refusal :=
  if !siteGuard t c m then .fault .noSuchUnit
  else
    let w := 6 * t + c
    let f := Flit.ofBits flit
    let x := s.site w
    let d := x.mod m
    if s.linkState w ≠ 3 ∨ !natBit (s.siteMask w) m ∨ s.tileOut t then .next s
    else if !f.ok ∨ f.fseq ≠ d.rxNext then
      if d.wantReplay && f.ok then .next s
      else .next (((s.setSite w (x.setMod m { d with wantReplay := true })).sendFlit w m TxFlit.idle).replay w m)
    else
      let rest := unackedAfter d.unacked f.ack
      let s1 := s.setSite w (x.setMod m { d with rxNext := d.rxNext + 1, wantReplay := false, unacked := rest })
      let s2 := if f.nak then (rest.foldl (fun y q => y.emit (.flit w m (q.bits f.fseq false))) s1).replay w m else s1
      .next (s2.placeFlit w f)

/-! ### Control messages (R360) -/

/-- The endpoint or handle whose bind of the coming edge a stream announces: an act of the site's stand's context on its tile, of that
region and beat of effect, whose stream has no number yet. -/
def State.bindFor (s : State) (t c : Nat) (recv : Bool) (off lines ring : Nat) (beat : Word) : Option Stream :=
  let w := 6 * t + c
  let fits := fun (e : Nat) (b : Binding) =>
    let v := b.stream recv e
    if b.mask.getLsbD c && v == ⟨recv, e, off, lines, ring, beat, false⟩ && !(s.site w).hasStream v then some v else none
  match (s.standOfTower w).bind (s.ctxOf t) with
  | none => none
  | some x => (s.ctx t x).acts.findSome? fun a => match a with
    | .bindSend e b => if recv then none else fits e b
    | .bindRecv h b => if recv then fits h b else none
    | _ => none

/-- A stream is announced before the edge at which its bind takes effect (R364, R365): the lowest free number of a site that carries
circuits. [DEDUCED, assumption 52, safe] -/
def execStreamBind (t c : Nat) (n : BitVec 8) (recv : Bool) (off lines ring : Nat) (beat : BitVec 64) (s : State) :
    Host.Outcome State Fault Refusal :=
  if t ≥ 16 ∨ c ≥ 6 then .fault .noSuchUnit
  else
    let w := 6 * t + c
    match s.bindFor t c recv off lines ring beat with
    | none => .next s
    | some v => .next (if s.streamsUp w ∧ s.streamNo w = some n.toNat then s.newStream w n.toNat v else s)

/-- Does an act of the coming edge end stream `v`: its unbind, its circuit's close, or another bind of its endpoint (R272)? -/
def EdgeAct.frees (a : EdgeAct) (v : Stream) : Bool :=
  match a with
  | .unbindSend e => !v.recv && v.ends == e
  | .unbindRecv c | .shut c => v.recv && v.ends == c
  | .bindSend e b => !v.recv && v.ends == e && v.beat != b.beat + 1
  | .bindRecv c b => v.recv && v.ends == c && v.beat != b.beat + 1
  | .mcast .. => false

/-- A die is told that a stream ends with the coming edge, which frees its number (R364). -/
def execStreamUnbind (t c : Nat) (n : BitVec 8) (s : State) : Host.Outcome State Fault Refusal :=
  if t ≥ 16 ∨ c ≥ 6 then .fault .noSuchUnit
  else
    let w := 6 * t + c
    match sget none (s.site w).streams n.toNat, (s.standOfTower w).bind (s.ctxOf t) with
    | some v, some x =>
      if s.linkState w = 3 ∧ !v.going ∧ ((s.ctx t x).acts.any fun a => a.frees v) then
        .next ((s.setStream w n.toNat (some { v with going := true })).sendCtl w 2 [n.toNat])
      else .next s
    | _, _ => .next s

/-- The program of logical source `src` is sent to an agent as an opaque image, its bytes on stream 255 (R360, R372). -/
def execProgramImage (t c src len : Nat) (s : State) : Host.Outcome State Fault Refusal :=
  if t ≥ 16 ∨ c ≥ 6 then .fault .noSuchUnit
  else
    let w := 6 * t + c
    let g := 128 * w + src
    match s.standOfTower w with
    | none => .next s
    | some i =>
      let x := s.stand i
      match (x.copy.cores.find? fun e => e.g = g).bind fun e => x.copy.progs[e.prog]? with
      | none => .next s
      | some p =>
        if s.openSite w ∧ s.linkState w = 3 ∧ s.stdState i = 1 ∧ src < s.gf (Reg.SITE_CENSUS3 w) Fld.SITE_CENSUS3_sources ∧
            len = 32 * p.len then
          let y := s.site w
          let d := p.digest.toNat
          .next (((s.setSite w { y with images := sset 0 y.images src (len + 1) }).sendCtl w 3
            [w, src, len, d % 2 ^ 64, natBits d 64 64, natBits d 128 64, d / 2 ^ 192]).sendStream w 255 len
            (leNat (s.bytesAt i p.addr.toNat len)))
        else .next s

/-- The die is told of its stand's start. -/
def execStandStart (t c i : Nat) (s : State) : Host.Outcome State Fault Refusal :=
  if t ≥ 16 ∨ c ≥ 6 ∨ i ≥ 16 then .fault .noSuchUnit
  else
    let w := 6 * t + c
    let r := (s.stand i).copy
    if s.linkState w = 3 ∧ s.standOfTower w = some i ∧ s.inRun i then
      .next ((s.setSite w { s.site w with run := some ⟨i, r.bl, r.beatLen, r.start⟩, ended := none }).sendCtl w 4
        [i, r.bl.toNat, r.beatLen, r.start.toNat])
    else .next s

/-- The die is told of its run's end. -/
def execStandEnd (t c : Nat) (code : BitVec 8) (s : State) : Host.Outcome State Fault Refusal :=
  if t ≥ 16 ∨ c ≥ 6 then .fault .noSuchUnit
  else
    let w := 6 * t + c
    let x := s.site w
    let x1 : SiteSt := { x with run := none, ended := some code, images := [], sample := none }
    if s.linkState w = 3 ∧ x.run.isSome then .next ((s.setSite w x1).sendCtl w 5 [code.toNat]) else .next s

/-- An agent's fault message (R372): stand-fatal error 0x1E. -/
def execAgentFault (t c : Nat) (code : BitVec 8) (src : BitVec 8) (s : State) : Host.Outcome State Fault Refusal :=
  if t ≥ 16 ∨ c ≥ 6 then .fault .noSuchUnit
  else
    let w := 6 * t + c
    match s.standOfTower w with
    | some i =>
      if s.openSite w ∧ s.linkState w = 3 then
        .next (s.standFatal i { siteErr 7 0x1E w with gcore := some (128 * w + src.toNat), detail := some code.toNat })
      else .next s
    | none => .next s

/-- Keep a link event of a module: cause 1 a time slip, 2 its failure, 3 its return from retraining. [DESIGN CHOICE, assumption 122, safe] -/
def State.linkEvent (s : State) (w m cause : Nat) : State :=
  s.setSite w { s.site w with events := (s.site w).events ++ [(m, cause)] }

/-- A link event reported by a die. -/
def execLinkEvent (t c m cause : Nat) (s : State) : Host.Outcome State Fault Refusal :=
  if !siteGuard t c m then .fault .noSuchUnit
  else if s.linkState (6 * t + c) = 3 then .next (s.linkEvent (6 * t + c) m cause) else .next s

/-! ### Link loss and return (R368, R369) -/

/-- A site link goes down: the stand's error at once, and every flit of the link gone; the streams of a run are unbound at its next
grid edge. -/
def State.siteDown (s : State) (w : Nat) : State :=
  let a := Reg.SITE_LINK_STATE (w / 6) (w % 6)
  let e := Reg.SITE_EVENTS (w / 6) (w % 6)
  let st := s.linkState w
  if st = 0 ∨ st ≥ 4 then s
  else
    let x := s.site w
    let runs := (s.standOfTower w).any s.inRun
    let s1 := ((s.sf a Fld.SITE_LINK_STATE_state 0).sf a Fld.SITE_LINK_STATE_streams (if runs then x.streams.length else 0)).sf e
      Fld.SITE_EVENTS_link_event 1
    let s1 := s1.setTile (w / 6) { s1.tile (w / 6) with down := (s1.tile (w / 6)).down.filter fun d => d.w != w }
    let s2 := (s1.sfSat e Fld.SITE_EVENTS_downs 1).setSite w
      { SiteSt.zero with streams := if runs then x.streams else [], lost := runs, dieGtc := x.dieGtc, dieAt := x.dieAt,
                         events := x.events, run := x.run, ended := x.ended }
    match s2.standOfTower w with
    | some i => s2.standFatal i (siteErr 7 0x1B w)
    | none => s2

/-- The base detects a down link. -/
def execSiteLinkDown (t c : Nat) (s : State) : Host.Outcome State Fault Refusal :=
  if t ≥ 16 ∨ c ≥ 6 then .fault .noSuchUnit else .next (s.siteDown (6 * t + c))

/-- Byte range of a descriptor. -/
def descField (d : BitVec 512) (o n : Nat) : Nat := natBits d.toNat (8 * o) (8 * n)

/-- Is the die incompatible (R354), or offers it no rate, width or module that the site link uses (R351)? [DEDUCED, assumption 123, safe] -/
def descBad (d : BitVec 512) : Bool :=
  decide (descField d 1 1 ≠ 1) || decide (descField d 23 1 ≠ 0) || decide (descField d 24 2 > 1200) ||
    decide (descField d 26 1 > 95) || decide (descField d 30 2 ≠ 0) || decide (descField d 40 20 ≠ 0) ||
    decide (crc32c (leBytes 60 d.toNat) ≠ descField d 60 4) || decide (descField d 22 1 % 64 = 0) ||
    decide (descField d 21 1 % 4 = 0) || decide (descField d 20 1 = 0)

/-- The highest rate that a descriptor offers. -/
def bestRate (d : BitVec 512) : Nat := ((upto 6).filter fun k => natBit (descField d 22 1) k).getLastD 0

/-- Enter a descriptor in the census of tower `w` with a link state (R353, R354, R374). The version negotiated is the highest of both
sides: the base's is 1.0, so its minor version is 0. [DEDUCED, assumption 123, safe] -/
def State.census (s : State) (w : Nat) (d : BitVec 512) (st : Nat) : State :=
  let agent := boolNat (!natBit (descField d 27 1) 1)
  let s1 := s.setReg (Reg.SITE_CENSUS0 w) (BitVec.ofNat 64 (st + 8 * agent + 16 * (descField d 1 1 % 16) +
    2 ^ 16 * descField d 2 2))
  let s2 := (s1.setReg (Reg.SITE_CENSUS1 w) (BitVec.ofNat 64 (descField d 4 4))).setReg (Reg.SITE_CENSUS2 w)
    (BitVec.ofNat 64 (descField d 16 4))
  let s3 := s2.setReg (Reg.SITE_CENSUS3 w) (BitVec.ofNat 64 (descField d 28 2 % 256 + 2 ^ 8 * descField d 26 1 +
    2 ^ 16 * descField d 24 2))
  (upto 16).foldl (fun y i => y.setReg (Reg.SITE_DESC w i) (BitVec.ofNat 64 (descField d (4 * i) 4))) s3

/-- The bytes of the descriptor last read of a tower. -/
def State.descOf (s : State) (w : Nat) : Nat := ((upto 16).map fun i => s.descWord w i * 2 ^ (32 * i)).sum

/-- The full bring-up of a site (R352 to R355): incompatible and held off, or up with its link negotiated and its stripe map formed.
`out` are the modules that did not train; a die has the modules that it names. What is still to be unbound of a lost link stays so. [DEDUCED, assumption 123, safe] -/
def State.bringUp (s : State) (w : Nat) (d : BitVec 512) (out : List Nat) : State :=
  let a := Reg.SITE_LINK_STATE (w / 6) (w % 6)
  let e := Reg.SITE_EVENTS (w / 6) (w % 6)
  if descBad d then ((s.census w d 5).sf a Fld.SITE_LINK_STATE_state 5).siteOff w
  else
    let agent := !natBit (descField d 27 1) 1
    let s1 := ((((s.census w d 3).sf a Fld.SITE_LINK_STATE_state 3).sf a Fld.SITE_LINK_STATE_rate (bestRate d)).sf a
      Fld.SITE_LINK_STATE_circuits (descField d 27 1 % 2)).sf a Fld.SITE_LINK_STATE_agent (boolNat agent)
    let x := s.site w
    let s2 := (s1.sf e Fld.SITE_EVENTS_link_event 0).setSite w
      { SiteSt.zero with dieGtc := s.gtc, dieAt := s.gtc, streams := x.streams, lost := x.lost }
    let s3 := ((upto 17).filter fun m => out.contains m || decide (descField d 20 1 ≤ m)).foldl (fun y m => y.moduleOut w m)
      ((s2.formMap w).showMap w)
    -- the identity that the base writes to the die (R355); an agent has no spare core (R373)
    let i := Reg.CORE_DIE_ID (w / 6) (w % 6)
    let s4 :=
      if agent then s3.sf i Fld.CORE_DIE_ID_spares_free 0
      else (if s.openSite w then s3.sf i Fld.CORE_DIE_ID_spares_free 0xFF else s3).sf i Fld.CORE_DIE_ID_tower w
    -- a site none of whose modules trains fails
    if s4.siteMask w = 0 ∧ s4.siteHalf w = 0 then s4.siteFailed w else (s4.narrow w).remapSite w

/-- A die whose link was down is brought up in full again (R369); one whose descriptor differs from the census entry is a new die. -/
def State.siteBack (s : State) (w : Nat) (d : BitVec 512) (out : List Nat) : State :=
  let new := s.descOf w % 2 ^ 480 ≠ d.toNat % 2 ^ 480
  let s1 := s.bringUp w d out
  (if new then s1.contained (siteErr 7 8 w) else s1).censusGen

/-- A physical core fails its self-test (R465): fenced in the deadwood map, once. -/
def State.bistMark (s : State) (w r p : Nat) : State :=
  let t := w / 6
  let st := w % 6
  let a := Reg.CORE_ROW_MAP t st r
  let d := Reg.CORE_DIE_ID t st
  if s.dwm.any fun e => e.kind == 1 && e.tile.toNat == t && e.site.toNat == st && e.sub.toNat == r && e.index.toNat == p then s
  else
    let s1 := (((s.sf a Fld.CORE_ROW_MAP_fenced (natPut (s.gf a Fld.CORE_ROW_MAP_fenced) p 1 1)).posState t st r p 4).coreFault t st (17 * r + p) 7)
    let s2 := (s1.contained { siteErr 1 1 w with detail := some 7 }).dead 1 t st r p 7
    if natBit (s.gf a Fld.CORE_ROW_MAP_in_service) p then s2
    else s2.sf d Fld.CORE_DIE_ID_spares_free (natPut (s2.gf d Fld.CORE_DIE_ID_spares_free) r 1 0)

/-- The same on a die that returns (R369): its logical place is taken by the row's spare at once, or the tower is degraded. -/
def State.bistFence (s : State) (w r p : Nat) : State :=
  let t := w / 6
  let st := w % 6
  let map := s.gf (Reg.CORE_ROW_MAP t st r) Fld.CORE_ROW_MAP_in_service
  let fenced := natBit (s.gf (Reg.CORE_ROW_MAP t st r) Fld.CORE_ROW_MAP_fenced) p
  let s1 := s.bistMark w r p
  if fenced || !natBit map p then s1
  else
    let g := 128 * w + 16 * r + ((upto p).filter fun q => natBit map q).length
    match s1.sparePos t st r with
    | some _ => s1.placeSpare g
    | none => (s1.setCore g { s1.core g with fenced := true }).degradeTower w 7

/-- The cores of a tower lose every register and their data memory, and their flows take a new epoch (R335, R369). [DEDUCED, assumption 53, unsafe] -/
def State.dieReset (s : State) (w : Nat) : State :=
  let m := memClear s.mem fun a => decide (dmAddr (128 * w) 0 ≤ a) && decide (a < dmAddr (128 * w) 0 + 2 ^ 37)
  (upto 128).foldl (fun y k =>
    let c := y.core (128 * w + k)
    y.setCore (128 * w + k) { CoreSt.zero with fenced := c.fenced, epoch := c.epoch + 1 }) { s with mem := m }

/-- Zero a tower's SRAM where its rail was lost while the die was away, which nothing here shows: a free choice (R388, the section on a
compute die that resets alone). [DESIGN CHOICE, assumption 53, unsafe] -/
def State.railLost (s : State) (w : Nat) : State :=
  let (lost, s1) := s.takeBit
  if lost then s1.sramZero w else s1

/-- A die whose link was down returns (R369): the bring-up again, its self-test, a new epoch for its flows. A site that fails a step of it
is failed and held off (R352). After a thermal trip no die has power (R36). [DEDUCED, assumption 53, unsafe] -/
def execSiteLinkReturn (t c : Nat) (desc : SiteFound) (badCores : List Nat) (s : State) :
    Host.Outcome State Fault Refusal :=
  if t ≥ 16 ∨ c ≥ 6 then .fault .noSuchUnit
  else
    let w := 6 * t + c
    if s.linkState w ≠ 0 ∨ s.gf (Reg.SITE_EVENTS t c) Fld.SITE_EVENTS_link_event = 0 ∨ s.tripped ∨ s.clk.stopped = true then .next s
    else if desc.fails || (upto 17).all fun m => desc.out.contains m then .next (s.siteFailed w).censusGen
    else
      let s1 := ((s.dieReset w).railLost w).siteBack w desc.desc desc.out
      if s1.openSite w ∨ s1.linkState w ≠ 3 then .next s1
      else
        .next ((badCores.filter fun b => b / 136 = w).foldl (fun y b => y.bistFence w (b % 136 / 17) (b % 17)) s1)

/-! ### Beat signals (R361 to R363) -/

/-- What the downward beat flit of stand `i`'s coming edge says (R361): its GTC, its number, the verdict, whether a clearing beat
begins, the level from it on and the beat that begins. Beat 0's verdict says whether the stand is ready. -/
def State.beatBody (s : State) (i : Nat) : Nat :=
  let x := s.stand i
  let edge := if s.inRun i then x.edgeAt else s.gtc.toNat
  let first := s.stdState i == 1
  let goes := if first then s.startReady i else x.gate == some true
  let n := x.beat.toNat + (if goes && !first then 1 else 0)
  let p := planPeriod s.planForce i
  let a := Reg.STD_GATE_LEVEL i
  let lvl := if first then x.copy.level
    else if goes && decide (n % p = p - 2) then s.gf a Fld.STD_GATE_LEVEL_next_level else s.gf a Fld.STD_GATE_LEVEL_level
  edge % 2 ^ 64 + x.grid % 2 ^ 32 * 2 ^ 64 + (boolNat goes + 2 * boolNat (decide (n % p ≥ p - 2))) * 2 ^ 96 +
    lvl % 2 ^ 8 * 2 ^ 104 + n % 2 ^ 64 * 2 ^ 128

/-- The downward beat flit of the stand's coming edge: a die whose copy of GTC differs by more than one tick takes the
carried value and reports a time slip; two within a second take the site down. -/
def execBeatFlitDown (t c : Nat) (dieGtc : BitVec 64) (s : State) : Host.Outcome State Fault Refusal :=
  if t ≥ 16 ∨ c ≥ 6 then .fault .noSuchUnit
  else
    let w := 6 * t + c
    if s.linkState w ≠ 3 ∨ s.tileOut t then .next s
    else
      let body := s.beatBody ((s.standOfTower w).getD 16)
      let edge := body % 2 ^ 64
      let s1 := s.sendFlit w (s.leadModule w) ⟨0, 3, 0, 0, 0, BitVec.ofNat 1920 body⟩
      let y := s1.site w
      let slip := decide (dieGtc.toNat + 1 < edge) || decide (edge + 1 < dieGtc.toNat)
      let at_ := BitVec.ofNat 64 edge
      if !slip then .next (s1.setSite w { y with dieGtc := dieGtc, dieAt := at_ })
      else
        let again := s.recent y.slipAt
        let s2 := ((s1.setSite w { y with dieGtc := at_, dieAt := at_, slipAt := some s.gtc }).linkEvent w (s.leadModule w) 1).sf
          (Reg.SITE_EVENTS t c) Fld.SITE_EVENTS_time_slip 1
        .next (if again then s2.siteDown w else s2)

/-- The time at which the die of tower `w` samples for the coming gate of stand `i`: its own copy of GTC, which runs with the base's since it
was last known, reads E − 256 (R362). -/
def State.sampleAt (s : State) (i w : Nat) : Nat :=
  (s.stand i).edgeAt - 256 + (s.site w).dieAt.toNat - (s.site w).dieGtc.toNat

/-- The upward beat flit: the die's sample for the gate of its stand's coming edge, the cores' own or the agent's. -/
def execBeatFlitUp (t c : Nat) (agentDone : Bool) (agent : AgentSample) (s : State) : Host.Outcome State Fault Refusal :=
  if t ≥ 16 ∨ c ≥ 6 then .fault .noSuchUnit
  else
    let w := 6 * t + c
    match s.standOfTower w with
    | none => .next s
    | some i =>
      if s.linkState w ≠ 3 ∨ !s.inRun i ∨ s.tileOut t then .next s
      else
        let s1 := s.gtcTo (s.sampleAt i w)
        let cores := (upto 128).map (128 * w + ·)
        let late := cores.filter s1.notDone
        let grid := BitVec.ofNat 32 (s1.stand i).grid
        let v : SiteSample :=
          if s1.openSite w then ⟨grid, agentDone, agent.bo, agent.late, if agentDone then 0x3FFF else 128 * w + agent.lowest % 128, []⟩
          else ⟨grid, late.isEmpty, !(cores.any s1.boOpen), late.length, late.headD 0x3FFF, late⟩
        .next (s1.setSite w { s1.site w with sample := some v })

/-! ### Repair (R366) -/

/-- Is another full-width module of a site out of the map to retrain? -/
def SiteSt.othersOut (x : SiteSt) (m : Nat) : Bool := (upto 16).any fun k => k != m && (x.mod k).retraining

/-- A module at half width fails: it is out of service (R366). -/
def State.halfFails (s : State) (w m : Nat) : State :=
  let s1 := s.sf (Reg.SITE_HALF (w / 6) (w % 6)) Fld.SITE_HALF_mask (natPut (s.siteHalf w) m 1 0)
  ((s1.setSite w ((s1.site w).setMod m SiteMod.zero)).dead 0x0A (w / 6) (w % 6) m m 1).corrected { siteErr 7 8 w with index := some m }

/-- A module leaves the stripe map: the spare joins while it is unused, and what was not acknowledged is sent again. -/
def execSiteModuleFailure (t c m : Nat) (s : State) : Host.Outcome State Fault Refusal :=
  if !siteGuard t c m then .fault .noSuchUnit
  else
    let w := 6 * t + c
    let x := s.site w
    if s.linkState w ≠ 3 then .next s
    else if natBit (s.siteHalf w) m then .next ((s.halfFails w m).sendCtl w 7 [m, 2])
    else if !natBit (s.siteMask w) m then .next s
    else
      let mask := natPut (s.siteMask w) m 1 0
      let join := m ≠ 16 ∧ !natBit mask 16 ∧ !x.tempSpare ∧ !(x.mod 16).retraining ∧ s.siteRepair w Fld.SITE_REPAIR_spare_used = 0
      let d := x.mod m
      let x1 := x.setMod m { SiteMod.zero with retraining := true }
      let s1 := s.setSite w { x1 with tempSpare := (x.tempSpare && m != 16) || decide join }
      let s2 := (s1.setSiteMask w (if join then natPut mask 16 1 1 else mask)).dead 0x0A t c m (if join then 16 else m) (if join then 0 else 2)
      let s3 := (s2.corrected { siteErr 7 8 w with index := some m }).remapSite w
      .next (if s3.fullModules w = [] then s3.siteDown w else (s3.sendAgain w d.unacked).sendCtl w 7 [m, 2])

/-- The spare leaves the stripe map: what was not acknowledged on it is sent again (R358, R366). -/
def State.spareLeaves (s : State) (w : Nat) : State :=
  let x := s.site w
  ((s.setSite w { x.setMod 16 SiteMod.zero with tempSpare := false }).setSiteMask w (natPut (s.siteMask w) 16 1 0)).sendAgain w (x.mod 16).unacked

/-- The spare is in the stripe map for good (R366): at once, or when it has itself retrained. -/
def State.spareStays (s : State) (w : Nat) : State :=
  let x := s.site w
  let s1 := (s.setSite w { x with tempSpare := false }).setSiteRepair w Fld.SITE_REPAIR_spare_used 1
  if (x.mod 16).retraining then s1 else s1.setSiteMask w (natPut (s1.siteMask w) 16 1 1)

/-- A module comes back onto a redundant lane (R366): it rejoins the map, and a spare that stood in leaves it, unless another module is
still out. The spare itself rejoins only where it is needed. -/
def State.moduleBack (s : State) (w m : Nat) : State :=
  let x := s.site w
  let used := s.siteRepair w Fld.SITE_REPAIR_spare_used == 1
  if m = 16 then
    if used || x.othersOut m then
      (s.setSite w { x with tempSpare := !used }).setSiteMask w (natPut (s.siteMask w) 16 1 1)
    else s
  else
    let s1 := s.setSiteMask w (natPut (s.siteMask w) m 1 1)
    if x.tempSpare && !x.othersOut m then s1.spareLeaves w else s1

/-- A module that failed has retrained: repaired onto a redundant lane, or at half width, or out of service where that fails too; the spare
then takes its place for good while it is unused. -/
def execModuleRetrainComplete (t c m : Nat) (how : Repair) (s : State) : Host.Outcome State Fault Refusal :=
  if !siteGuard t c m then .fault .noSuchUnit
  else
    let w := 6 * t + c
    let x := s.site w
    let a := Reg.SITE_REPAIR t c
    let used := s.gf a Fld.SITE_REPAIR_used
    let n := natBits used (3 * m) 3
    if s.linkState w ≠ 3 ∨ !(x.mod m).retraining ∨ s.clk.stopped = true then .next s
    else
      let s0 := s.setSite w (x.setMod m SiteMod.zero)
      let told := fun (y : State) => ((y.corrected { siteErr 7 8 w with index := some m }).remapSite w).sendCtl w 7 [m, 3]
      if how = .lane ∧ n < 4 then
        .next (told (((s0.sf a Fld.SITE_REPAIR_used (natPut used (3 * m) 3 (n + 1))).moduleBack w m).dead 9 t c m n 0))
      else
        let v := if how = .dead then 0 else 1
        let s1 := if m = 16 then s0.setSiteRepair w Fld.SITE_REPAIR_spare_used 1
          else if s.siteRepair w Fld.SITE_REPAIR_spare_used = 0 then s0.spareStays w else s0
        let s2 := s1.sf (Reg.SITE_HALF t c) Fld.SITE_HALF_mask (natPut (s1.siteHalf w) m 1 v)
        .next (told (s2.dead 0x0A t c m m (1 - v)))

end Sys2Proof.Machine
end

