-- ==== Sys2Proof/Machine/OpticsOps.lean ====
section
/-! DEFINITION. The commands of wavelength control, the fibre inputs, the laser_ilk loop and the monitors (R293 to R319). -/

namespace Sys2Proof.Machine

/-! ### Listeners (R295, R296) -/

/-- A framing codeword's five blocks reach listener `l`, corrected where `fixed` (R265, R295): where three agree it compares the tag
of their framing word with its target channel modulo 16. -/
def execFramingCodeword (t l : Nat) (blocks : BitVec 2560) (fixed : Bool) (s : State) : Host.Outcome State Fault Refusal :=
  if t ≥ 16 ∨ l ≥ 1080 then .fault .noSuchUnit
  else
    let drops := (s.listener t l).mode = .drop ∨ ((s.listener t l).mode = .parked ∧ s.inService t (.listener l))
    match if s.tileOut t then none else framingBlock blocks with
    | some b =>
      if drops ∧ fixed ∧ b.toNat % 16 ≠ s.listenerCh t l % 16 then .next (s.mislock t l (b.toNat % 16)) else .next s
    | none => .next s

/-- A mislocked listener has not verified its tag within 40,000 ticks: fenced. -/
def execRelockTimeout (t l : Nat) (s : State) : Host.Outcome State Fault Refusal :=
  if t ≥ 16 ∨ l ≥ 1080 then .fault .noSuchUnit
  else
    let x := s.listener t l
    match x.mislockAt with
    | some m => if x.mode = .moving ∧ !s.tileOut t then .next ((s.gtcTo (m.toNat + 40000)).fenceListener t l) else .next s
    | none => .next s

/-- A listener's move ends on light that carries `tag`: verified, or foreign (R260, R271, R295). In the dark no tag is verified. -/
def execListenerMoveComplete (t l : Nat) (tag : BitVec 12) (s : State) : Host.Outcome State Fault Refusal :=
  if t ≥ 16 ∨ l ≥ 1080 then .fault .noSuchUnit
  else if (s.listener t l).mode ≠ .moving ∨ s.dark ∨ s.tileOut t then .next s
  else .next (if tag.toNat % 16 = (s.listener t l).ch % 16 then s.listenerArrive t l else s.mislock t l (tag.toNat % 16))

/-! ### Lock loops, intruders and modulators (R293, R294, R298, R299) -/

/-- The message that a receiver of tile `t` that finds a tone of channel `ch` on trunk `tr` sends to the tile that modulates it
(R298, R331): a control message of its fabric manager. [DEDUCED, assumption 40, safe] -/
def State.tellIntruder (s : State) (t tr ch : Nat) : State :=
  match s.modTile tr ch with
  | none => s
  | some u =>
    let p : Pkt := { Pkt.zero with kind := 3, dst := BitVec.ofNat 4 u, srcTile := BitVec.ofNat 4 t, src := BitVec.ofNat 14 (12320 + t),
                                   epoch := (s.tile t).epoch, payload := BitVec.ofNat 512 (tr + ch * 2 ^ 16) }
    s.setTile t { s.tile t with inject := (s.tile t).inject ++ [⟨p, 0, true⟩] }

/-- The trunk and channel to which a receiver is locked, a spare listener in monitor mode among them (R261). -/
def State.lockedTo (s : State) (t conv : Nat) (r : Ring) : Option (Nat × Nat) :=
  match r with
  | .listener l =>
    let o := foreignOf t (listenerTrunk l)
    let x := s.listener t l
    if (x.mode = .drop ∨ (x.mode = .parked ∧ s.inService t r)) ∧ !x.lost then some (8 * o.1 + o.2, s.listenerCh t l) else none
  | .inboxRx n => if (s.fabT t).lostRings.contains conv then none else some (128 + 2 * t + n / 33, n % 33)
  | _ => none

/-- What an update changes of a ring's lock: lost at once where the loop says so, and back after eight good updates (R294). -/
def State.lockTurn (s : State) (t conv : Nat) (lose have_ : Bool) : State :=
  s.setLost t conv (lose || ((s.fabT t).lostRings.contains conv && !have_))

/-- A lock loop's own state. -/
def State.setLoop (s : State) (t conv : Nat) (l : LoopSt) : State :=
  s.setFab t { s.fabT t with loops := sset LoopSt.zero (s.fabT t).loops conv l }

/-- One update of a ring in service (R291 to R294). A converter that is being recalibrated holds its code (R305), and its loop counts
the updates alone. -/
def State.loopTurn (s : State) (t conv : Nat) (seen : LoopSeen) (dim : Bool) : State :=
  let l := sget LoopSt.zero (s.fabT t).loops conv
  let r := l.turn (s.loopTerms t conv) seen dim
  if s.trimStale t conv then
    (s.setLoop t conv { l with good := r.1.good, dim := r.1.dim, terms := r.1.terms }).lockTurn t conv r.2.2.1 r.2.2.2
  else
    let s1 := s.setLoop t conv r.1
    (s1.tuneCode t conv (s.codeWindow t) r.2.1).lockTurn t conv r.2.2.1 r.2.2.2

/-- What a receiver's decoder has counted reaches its counters (R495). A listener's count comes with its first ring. -/
def State.decoded (s : State) (t conv : Nat) (r : Ring) (f : FecSeen) : State :=
  match r with
  | .listener l =>
    if conv % 2 = 1 then s
    else ((s.frontCount t l 0 f.words).frontCount t l 1 f.fixed).frontCount t l 2 f.bad
  | .inboxRx i => (((s.inboxCount t i 0 f.words).inboxCount t i 1 f.fixed).inboxCount t i 2 f.bad).inboxCount t i 3 f.cells
  | _ => s

/-- An update of a parked listener, open loop: its feed-forward and temperature terms alone (R293). -/
def State.parkedTurn (s : State) (t conv : Nat) : State :=
  let l := sget LoopSt.zero (s.fabT t).loops conv
  let now := s.loopTerms t conv
  (s.setLoop t conv { l with terms := some now }).tuneCode t conv (s.codeWindow t) (l.moved now true)

/-- One update of the lock loop of converter `conv` (R293): a ring in service is corrected; a parked listener runs open loop; the
loops of a tile in its warm start pause (R307), and none runs after a thermal trip has removed the optical supplies (R36). A receiver
may report an intruder on (trunk number, channel). [DEDUCED, assumption 39, unsafe, 41] -/
def execLockLoopUpdate (t conv : Nat) (seen : LoopSeen) (dim : Bool) (intruder : Option (Nat × Nat)) (s : State) :
    Host.Outcome State Fault Refusal :=
  if t ≥ 16 ∨ conv ≥ 3264 then .fault .noSuchUnit
  else
    let r := ringOf conv
    if s.tileOut t ∨ s.tripped then .next s
    else if !s.inService t r then
      .next (match r with
        | .listener l => if (s.listener t l).mode = .parked then s.parkedTurn t conv else s
        | _ => s)
    else
      let s1 := (s.decoded t conv r seen.fec).loopTurn t conv seen dim
      let s2 := match s.modOf t r with
        | some q => if (s1.fabT t).lostRings.contains conv then s1 else s1.modUpdate t q.1 q.2
        | none => s1
      let s3 := match r with
        | .listener l => if (s.listener t l).mode = LMode.parked then s2.recordCodes t l else s2
        | _ => s2
      let s4 := if (s3.fabT t).heaterFail ∧ s3.foreignLocked t then s3.heatersBack t else s3
      match intruder, s4.lockedTo t conv r with
      | some (tr, ch), some (own, k) => if tr = own ∧ ch ≠ k ∧ ch < 33 then .next (s4.tellIntruder t tr ch) else .next s4
      | _, _ => .next s4

/-- The fabric manager of the tile that modulates the channel takes up an intruder message: the modulator is parked, or fenced when it
intrudes again within a second, which is counted from its park. A channel that is fenced has nothing more to park, and a tile in its
warm start takes the message up afterwards. [DEDUCED, assumption 40, safe, DESIGN CHOICE, assumption 41, unsafe] -/
def execIntruderMessage (tr ch : Nat) (s : State) : Host.Outcome State Fault Refusal :=
  if tr ≥ 160 ∨ ch ≥ 33 then .fault .noSuchUnit
  else match (upto 16).find? fun u => (s.fabT u).msgs.contains (tr, ch) && !s.tileOut u with
    | none => .next s
    | some u =>
      let s1 := s.setFab u { s.fabT u with msgs := (s.fabT u).msgs.erase (tr, ch) }
      if s1.chFenced tr ch then .next s1
      else match s1.modPark u tr ch with
      | some m =>
        -- still parked: the count of updates without an intruder begins again
        if m.parked then .next (s1.setModPark u tr ch (some { m with clean := 0 }))
        else if s1.recent (some m.since) then .next (s1.fenceMod u tr ch true)
        else .next (s1.parkMod u tr ch)
      | none => .next (s1.parkMod u tr ch)

/-- A parked modulator has not relocked within 40,000 ticks: its channel is fenced. One that has goes on waiting for its updates without an
intruder (R299). -/
def execModulatorRelockTimeout (tr ch : Nat) (s : State) : Host.Outcome State Fault Refusal :=
  if tr ≥ 160 ∨ ch ≥ 33 then .fault .noSuchUnit
  else match s.modTile tr ch with
    | none => .next s
    | some u => match s.modPark u tr ch with
      | some m => if m.parked ∧ (s.fabT u).lostRings.contains (s.modConv u tr ch) then .next ((s.gtcTo (m.since.toNat + 40000)).fenceMod u tr ch false) else .next s
      | none => .next s

/-! ### The calibration rotation (R257, R300 to R302) -/

/-- Does the cold-resonance map name a channel of home trunk `h` of tile `t` for some tile (R309)? -/
def State.coldNamed (s : State) (t h ch : Nat) : Bool := (upto 16).any fun u => (coldPairs (s.payload 0xC u)).contains (8 * t + h, ch)

/-- The slot of a trunk whose channel's calibration is oldest; of equals one whose channel the cold-resonance map names, which
becomes the spare (R309), then the lowest-numbered. [DEDUCED, assumption 42, unsafe] -/
def State.oldestSlot (s : State) (t h : Nat) : Nat :=
  let at_ := fun k => (s.reg (Reg.OPT_CH_CAL_GTC t h (s.slotCh t h k))).toNat
  let named := fun k => s.coldNamed t h (s.slotCh t h k)
  (upto 32).foldl (fun b k => if at_ k < at_ b || (at_ k == at_ b && named k && !named b) then k else b) 0

/-- Receiver front ends recalibrate their TIA offsets while idle, one per tile at the interval of the rotation (R301): with home trunk
0's steps, the next idle one in ascending order. It ends with the tile's housekeeping round. [DESIGN CHOICE, assumption 42, unsafe] -/
def State.tiaStep (s : State) (t : Nat) : State :=
  match (s.fabT t).tiaNow, ((upto 256).map fun k => ((s.fabT t).tia + k) % 256).find? (s.frontIdle t) with
  | none, some f => s.setFab t { s.fabT t with tia := (f + 1) % 256, tiaNow := some f }
  | _, _ => s

/-- One step of the rotation on home trunk `h`: the slot with the oldest calibration moves to the spare; a channel whose
calibration was abandoned goes first. A trunk with no spare, a calibration or a swap takes no step. [DEDUCED, assumption 42, unsafe, DEDUCED, assumption 43, safe] -/
def execRotationStep (t h : Nat) (s0 : State) : Host.Outcome State Fault Refusal :=
  if t ≥ 16 ∨ h ≥ 8 then .fault .noSuchUnit
  else if s0.tripped ∨ s0.clk.stopped = true then .next s0
  else
    let s := if h = 0 ∧ s0.gf (Reg.OPT_ROT_CFG t) Fld.OPT_ROT_CFG_enable = 1 then s0.tiaStep t else s0
    let a := Reg.OPT_TRUNK_STATE t h
    let sp := s.spareCh t h
    if s.gf (Reg.OPT_ROT_CFG t) Fld.OPT_ROT_CFG_enable = 0 ∨ sp = 0x3F ∨ s.gf a Fld.OPT_TRUNK_STATE_cal_ch ≠ 0x3F ∨
        s.gf a Fld.OPT_TRUNK_STATE_swap_pending = 1 ∨ sget 0 (s.fabT t).swapOld h ≠ 0 then .next s
    else if sget 0 (s.fabT t).calWas h = sp + 1 then
      .next (((s.sf a Fld.OPT_TRUNK_STATE_spare 0x3F).sf a Fld.OPT_TRUNK_STATE_cal_ch sp).setFab t
        { s.fabT t with calWas := sset 0 (s.fabT t).calWas h 0 })
    else
      -- the abandoned channel is the spare no more: it goes by the age of its calibration
      let s1 := s.setFab t { s.fabT t with calWas := sset 0 (s.fabT t).calWas h 0 }
      .next (s1.swapAsk t h (s1.oldestSlot t h))

/-- A calibration ends (R300, R302): the modulator's heater and bias take their codes, the heater within its window, its launch power
is recorded, and the channel becomes the spare at once or at the next clearing of a running stand that owns a slot on the trunk. -/
def execCalibrationComplete (t h : Nat) (found : CalFound) (s : State) : Host.Outcome State Fault Refusal :=
  if t ≥ 16 ∨ h ≥ 8 then .fault .noSuchUnit
  else
    let n := s.gf (Reg.OPT_TRUNK_STATE t h) Fld.OPT_TRUNK_STATE_cal_ch
    if n = 0x3F ∨ sget 0 (s.fabT t).calDone h ≠ 0 ∨ s.tripped ∨ s.clk.stopped = true then .next s
    else
      let cc := Reg.OPT_CH_CAL_COUNT t h n
      let w := s.codeWindow t
      let s1 := (s.setReg cc (s.reg cc + 1)).setReg (Reg.OPT_CH_CAL_GTC t h n) s.gtc
      let s2 := (s1.calCode t (33 * h + n) (windowCode w found.heater)).calCode t (264 + 33 * h + n)
        (found.bias.setWidth 12)
      let was := (s2.fabT t).calWas
      let s3 := s2.setFab t { s2.fabT t with calDone := sset 0 (s2.fabT t).calDone h (n + 1),
                                             calWas := if sget 0 was h = n + 1 then sset 0 was h 0 else was,
                                             power := sset 0 (s2.fabT t).power (33 * h + n) found.power }
      .next (if s3.trunkRuns t h then s3 else s3.calHandover t h)

/-! ### Heaters (R309) -/

/-- A tile's heater supply fails. -/
def execHeaterSupplyFail (t : Nat) (s : State) : Host.Outcome State Fault Refusal :=
  if t ≥ 16 then .fault .noSuchUnit else .next (s.block t)

/-! ### Fibre inputs (R310 to R312, R318) -/

/-- An armed input falls below 0.20 W: laser_ilk opens. [DEDUCED, assumption 49, unsafe, DEDUCED, assumption 50, safe] -/
def execFibreSuddenLoss (t k : Nat) (s : State) : Host.Outcome State Fault Refusal :=
  if t ≥ 16 ∨ k ≥ 3 then .fault .noSuchUnit
  else
    let a := Reg.OPT_FIBRE t k
    if s.gf a Fld.OPT_FIBRE_armed = 0 then .next s
    else
      let (v, s1) := s.takeBelow 200
      .next ((s.weakCheck t (some k) ((s1.sf a Fld.OPT_FIBRE_tap v).sf a Fld.OPT_FIBRE_loss_seen 1)).ilkOpen 1 (some t) (some k))

/-- An active input is weak: the third input comes in and the weak one is ramped out, every calibration on the tile's
trunks given up; with no third input the tile goes on with what it has (R312). -/
def execFibreSwitch (t k : Nat) (s : State) : Host.Outcome State Fault Refusal :=
  if t ≥ 16 ∨ k ≥ 3 then .fault .noSuchUnit
  else
    let a := Reg.OPT_FIBRE t k
    if s.gf a Fld.OPT_FIBRE_active = 0 ∨ (s.fabT t).switchOut.isSome ∨ s.ilkPhase ≠ 0 then .next s
    else match (s.usable t).find? fun j => j != k && s.gf (Reg.OPT_FIBRE t j) Fld.OPT_FIBRE_active == 0 with
      | none => .next (s.contained { ErrInfo.plain 4 9 with tile := some t, detail := some k })
      | some j =>
        -- the weak input reads below 0.50 W
        let (v, s0) := s.takeBelow 500
        let s1 := (((s0.sf a Fld.OPT_FIBRE_tap v).sf (Reg.OPT_FIBRE t j) Fld.OPT_FIBRE_active 1).sf a Fld.OPT_FIBRE_switching 1).calAbandonAll t
        .next (s.weakCheck t (some k) (s1.setFab t { s1.fabT t with switchOut := some k }))

/-- The weak input is ramped out: it stands by. -/
def execFibreSwitchComplete (t : Nat) (s : State) : Host.Outcome State Fault Refusal :=
  if t ≥ 16 then .fault .noSuchUnit
  else match (s.fabT t).switchOut with
    | none => .next s
    | some k =>
      let a := Reg.OPT_FIBRE t k
      .next (((s.sf a Fld.OPT_FIBRE_active 0).sf a Fld.OPT_FIBRE_switching 0).setFab t { s.fabT t with switchOut := none })

/-- In the pilot wait an input shows no pilot while its tile's others do: its tap monitor is fenced (R318), and the tile
feeds from the others. -/
def execPilotMissing (t k : Nat) (s : State) : Host.Outcome State Fault Refusal :=
  if t ≥ 16 ∨ k ≥ 3 then .fault .noSuchUnit
  else
    let a := Reg.OPT_FIBRE t k
    if s.ilkPhase ≠ 2 ∨ s.gf a Fld.OPT_FIBRE_fenced = 1 then .next s
    else
      let s1 := ((s.sf a Fld.OPT_FIBRE_fenced 1).sf a Fld.OPT_FIBRE_loss_seen 1).sf a Fld.OPT_FIBRE_pilot 0
      .next (((s1.contained { ErrInfo.plain 4 9 with tile := some t, detail := some k }).dead 8 t 0xFF k 0 0).chooseInputs t)

/-! ### The loop (R313 to R316) -/

/-- The pilot wait ends: bit k of `conn` says whether connector Fk is mated, and bit 3·t + k of `pilot` which inputs have
shown pilot for 100 ms. The loop closes when every condition of R314 holds; what was sensed shows in the registers in any
phase. [DEDUCED, assumption 47, unsafe, 48] -/
def execIlkClose (conn : BitVec 3) (pilot : BitVec 48) (s : State) : Host.Outcome State Fault Refusal :=
  let s0 := s.sf Reg.MGT_BOUNDARY Fld.MGT_BOUNDARY_fibre_conn conn.toNat
  let s1 := ((upto 16).flatMap fun t => (upto 3).map fun k => (t, k)).foldl
    (fun y q => y.sf (Reg.OPT_FIBRE q.1 q.2) Fld.OPT_FIBRE_pilot (boolNat (pilot.getLsbD (3 * q.1 + q.2)))) s0
  let mated := (upto 3).all fun k => natBit (s.gf Reg.OPT_ILK_CTL Fld.OPT_ILK_CTL_conn_retired) k ||
    conn.getLsbD k
  let lit := s.inputs.all fun q => pilot.getLsbD (3 * q.1 + q.2)
  if s.ilkPhase = 2 ∧ mated ∧ lit ∧ s.gf Reg.MGT_BOUNDARY Fld.MGT_BOUNDARY_therm_trip = 0 then
    .next ((s1.setIlkPhase 3).sf Reg.MGT_BOUNDARY Fld.MGT_BOUNDARY_ilk_closed 1)
  else .next s1

/-- 50 ms after closing: an input still at or below 0.55 W opens the loop again. -/
def execRampTimeout (taps : List Reading) (s : State) : Host.Outcome State Fault Refusal :=
  if s.ilkPhase ≠ 3 then .next s
  else
    let s1 := s.setTaps taps
    if s.inputs.all fun q => decide (tapOf taps q > 550) then .next s1 else .next (s1.ilkOpen 5 none none)

/-- Every required input exceeds 0.55 W: the rings relock. A tile that closes with fewer than two inputs above 0.50 W is named (R312). -/
def execFullPowerReached (taps : List Reading) (s : State) : Host.Outcome State Fault Refusal :=
  if s.ilkPhase ≠ 3 then .next s
  else
    let s1 := s.setTaps taps
    if s.inputs.all fun q => decide (tapOf taps q > 550) then
      .next (((upto 16).filter fun t => decide (s1.strong t < 2)).foldl
        (fun y t => y.contained { ErrInfo.plain 4 9 with tile := some t }) (s1.setIlkPhase 4))
    else .next s1

/-- The tags of every channel are verified: the optics are ready. -/
def execOpticalReady (s : State) : Host.Outcome State Fault Refusal :=
  if s.ilkPhase ≠ 4 then .next s
  else .next (((s.setIlkPhase 0).sf Reg.OPT_ILK_STATUS Fld.OPT_ILK_STATUS_ready 1).modCause 9)

/-- A write of 1 to OPT_ILK_CTL.open: refused while a stand is in a run. -/
def execIlkOpenRequest (p : Nat) (s : State) : Host.Outcome State Fault Refusal :=
  s.hostWrite p Reg.OPT_ILK_CTL fun s =>
    if (upto 16).any s.inRun then s.sf Reg.OPT_ILK_STATUS Fld.OPT_ILK_STATUS_refused 1 else s.ilkOpen 3 none none

/-- A write of 1 to OPT_ILK_CTL.close_req: the closing sequence begins. -/
def execCloseReq (p : Nat) (s : State) : Host.Outcome State Fault Refusal :=
  s.hostWrite p Reg.OPT_ILK_CTL fun s => if s.ilkPhase = 1 then s.setIlkPhase 2 else s

/-! ### Monitors (R306, R319) -/

/-- A write of 1 to OPT_MON_SEL.start. -/
def execMonitorReading (p t : Nat) (s : State) : Host.Outcome State Fault Refusal :=
  if t ≥ 16 then .fault .noSuchUnit
  else
    s.hostWrite p (tileBase t) fun s =>
      let sel := (s.reg (Reg.OPT_MON_SEL t)).toNat % 2 ^ 15
      (s.sf (Reg.OPT_MON_DATA t) Fld.OPT_MON_DATA_done 0).setFab t { s.fabT t with reading := some (BitVec.ofNat 15 sel) }

/-- The converter under which a monitor's reading may be stale. [DEDUCED, assumption 39, unsafe] -/
def monConv (sel : Nat) : Option Nat :=
  if sel % 4 = 0 then some (natBits sel 2 11)
  else if sel % 4 = 2 then some (3070 + natBits sel 2 11)
  else none

/-- The reading started last is done. -/
def execMonitorReadingDone (t : Nat) (v : Reading) (s : State) : Host.Outcome State Fault Refusal :=
  if t ≥ 16 then .fault .noSuchUnit
  else match (s.fabT t).reading with
    | none => .next s
    | some sel =>
      let a := Reg.OPT_MON_DATA t
      let stale := match monConv sel.toNat with
        | some c => s.trimStale t c
        | none => false
      .next ((((s.sf a Fld.OPT_MON_DATA_value v.toNat).sf a Fld.OPT_MON_DATA_done 1).sf a Fld.OPT_MON_DATA_stale
        (boolNat stale)).setFab t { s.fabT t with reading := none })

end Sys2Proof.Machine
end

