-- ==== Sys2Proof/Machine/Hbm.lean ====
section
/-! DEFINITION. The commands of HBM stacks and tower SRAM: temperature, hard repair and migrations (R382, R384 to R387,
R391). -/

namespace Sys2Proof.Machine

/-- The stack's temperature and its error reports are read (R375, R380, R382): from 85 °C refresh runs at double rate, from the threshold
of HBM_CFG requests are throttled, and each ends 3 °C below its threshold. A stale reading holds its last value (R305). -/
def execHbmRefresh (j : Nat) (x : HbmSeen) (s : State) : Host.Outcome State Fault Refusal :=
  if j ≥ 32 then .fault .noSuchUnit
  else
    let a := Reg.HBM_STATE (j / 2) (j % 2)
    let st := s.gf a Fld.HBM_STATE_state
    let v := if x.stale then s.gf a Fld.HBM_STATE_temp else x.temp.toNat
    let lim := s.gf (Reg.HBM_CFG (j / 2) (j % 2)) Fld.HBM_CFG_throttle_c
    let act := fun (on : Nat) (was : Nat) => if v ≥ on then 1 else if v + 3 ≤ on then 0 else was
    if st = 0 ∨ st = 1 ∨ st = 4 ∨ s.clk.stopped = true then .next s
    else
      let s1 := (s.sf a Fld.HBM_STATE_temp v).sf a Fld.HBM_STATE_temp_stale (boolNat x.stale)
      let s2 := s1.sf a Fld.HBM_STATE_refresh_2x (act 85 (s.gf a Fld.HBM_STATE_refresh_2x))
      .next ((s2.sf a Fld.HBM_STATE_throttled (act lim (s.gf a Fld.HBM_STATE_throttled))).sfSat
        (Reg.HBM_ECC (j / 2) (j % 2)) Fld.HBM_ECC_ondie x.ondie)

/-- Does a stand in a run own the stack? -/
def State.stackRuns (s : State) (j : Nat) : Bool :=
  match s.standOfStack j with
  | some i => s.inRun i
  | none => false

/-- The hard repair of a softly repaired row begins while the stack's stand is not in a run (R384). -/
def execHardRepair (j row : Nat) (s : State) : Host.Outcome State Fault Refusal :=
  if j ≥ 32 then .fault .noSuchUnit
  else
    let x := s.hbmS j
    if x.soft.contains row ∧ x.hardNow = none ∧ !s.stackRuns j ∧ !s.clk.stopped then .next (s.setHbm j { x with hardNow := some row })
    else .next s

/-- The hard repair ends: the row is hard. Its deadwood entry has the low 16 bits of the row key as index. [DESIGN CHOICE, assumption 156,
unsafe] -/
def execHardRepairComplete (j : Nat) (s : State) : Host.Outcome State Fault Refusal :=
  if j ≥ 32 then .fault .noSuchUnit
  else
    let x := s.hbmS j
    match if s.clk.stopped then none else x.hardNow with
    | none => .next s
    | some r =>
      let b := rowBank r
      let soft := x.soft.erase r
      let s1 := s.setHbm j { x with hardNow := none, soft := soft, hard := sset 0 x.hard b (sget 0 x.hard b + 1) }
      let a := Reg.HBM_SPARE (j / 2) (j % 2)
      let s2 := (s1.sf a Fld.HBM_SPARE_soft_ppr (min soft.length 255)).sfSat a Fld.HBM_SPARE_hard_ppr 1
      .next (s2.dead 0x0C (j / 2) (6 + j % 2) (b / 2 ^ 9) (r % 2 ^ 16) 0)

/-- The banks that `p` names lie in the spare layer from now on, whose row resources are unused; a hard repair of a row of theirs is given
up, and HBM_SPARE shows the soft repairs that are left. -/
def State.freshRows (s : State) (j : Nat) (p : Nat → Bool) : State :=
  let x := s.hbmS j
  let soft := x.soft.filter fun r => !p (rowBank r)
  let s1 := s.setHbm j { x with soft := soft, hard := x.hard.filter fun e => !p e.1,
                                rowCorr := x.rowCorr.filter fun e => !p (rowBank e.1),
                                hardNow := x.hardNow.filter fun r => !p (rowBank r) }
  s1.sf (Reg.HBM_SPARE (j / 2) (j % 2)) Fld.HBM_SPARE_soft_ppr (min soft.length 255)

/-- Is the stack in self-refresh? A degraded one shows it by its pads alone (R383, R441). -/
def State.stackAsleep (s : State) (j : Nat) : Bool :=
  s.gf (Reg.HBM_STATE (j / 2) (j % 2)) Fld.HBM_STATE_state == 3 || natBit (s.gf (Reg.PWR_PAD_HOLD (j / 2)) Fld.PWR_PAD_HOLD_hbm) (j % 2)

/-- Map logical layer `l` out: it takes the spare layer, and the layer it leaves is out of service (R385, R386). A bank of it that was
remapped before lies where it lay, its row resources as they are, and one that waits for a remap has got its place. -/
def State.layerOut (s : State) (j l : Nat) : State :=
  let a := Reg.HBM_LAYER_MAP (j / 2) (j % 2)
  let m := (s.reg a).toNat
  let p := s.layerNibble j l
  let sp := s.layerNibble j 15
  let s1 := s.setReg a (BitVec.ofNat 64 (natPut (natPut m (4 * l) 4 sp) 60 4 p))
  let s2 := (upto 32).foldl (fun y k => y.setReg (Reg.HBM_REMAP (j / 2) (j % 2) k) 0) s1
  let b := Reg.HBM_SPARE (j / 2) (j % 2)
  let was := s.remaps j
  let s2 := s2.freshRows j fun k => decide (k / 2 ^ 9 = l) && !was.contains k
  let s2 := s2.setHbm j { s2.hbmS j with waits := (s2.hbmS j).waits.filter fun k => k / 2 ^ 9 ≠ l }
  ((s2.sf b Fld.HBM_SPARE_layer_used 1).sf b Fld.HBM_SPARE_bank_remaps 0).dead 0x0E (j / 2) (6 + j % 2) l l 0

/-- Remap a bank to the spare layer. -/
def State.bankOut (s : State) (j key : Nat) : State :=
  let reg := fun k => Reg.HBM_REMAP (j / 2) (j % 2) k
  match (upto 32).find? fun k => s.gf (reg k) Fld.HBM_REMAP_valid == 0 with
  | none => s
  | some k =>
    let v := 1 + 2 * (key / 2 ^ 9) + 2 ^ 5 * (key % 2 ^ 5) + 2 ^ 10 * (key / 2 ^ 5 % 2 ^ 4)
    let s1 := (s.freshRows j (· == key)).setReg (reg k) (BitVec.ofNat 64 v)
    let b := Reg.HBM_SPARE (j / 2) (j % 2)
    (s1.sfSat b Fld.HBM_SPARE_bank_remaps 1).dead 0x0D (j / 2) (6 + j % 2) (key / 2 ^ 9) (key % 2 ^ 9) 0

/-- A migration ends (R386): the lines of `bad`, whose copy found an uncorrectable error, are poisoned, and the map
changes. A stack in self-refresh pauses its migration. -/
def execMigrationComplete (j : Nat) (bad : List Nat) (s : State) : Host.Outcome State Fault Refusal :=
  if j ≥ 32 then .fault .noSuchUnit
  else
    let x := s.hbmS j
    let a := Reg.HBM_STATE (j / 2) (j % 2)
    match x.migr with
    | none => .next s
    | some (layer, key) =>
      if s.stackAsleep j || s.clk.stopped then .next s
      else
        let here := bad.filter fun o => decide (o < stackBytes) && (if layer then decide (natBits o 32 4 = key) else decide (hbmBank o = key))
        let s1 := here.foldl (fun y o =>
          (y.hbmPoison j o).contained
            { ErrInfo.plain 3 0x0B with tile := some (j / 2), site := some (6 + j % 2), addr := some (j * 2 ^ 39 + o / 64 * 64) }) s
        let s2 := ((s1.setHbm j { s1.hbmS j with migr := none }).sf a Fld.HBM_STATE_migrating 0).sf
          (Reg.HBM_MIGRATE (j / 2) (j % 2)) Fld.HBM_MIGRATE_remaining 0
        let s3 := if layer then s2.layerOut j key else s2.bankOut j key
        -- the banks that wait are repaired, each where no migration has begun before it
        .next ((s3.hbmS j).waits.foldl (fun y b => y.hbmBankRepair j b) (s3.setHbm j { s3.hbmS j with waits := [] }))

/-- A tower SRAM bank has migrated to its spare (R391), the lines that were lost poisoned (R386); it pauses while the tower's stand is
in DEEP. -/
def execTowerSramMigrationComplete (z : TsEnd) (s : State) : Host.Outcome State Fault Refusal :=
  let w := z.w
  if w ≥ 96 then .fault .noSuchUnit
  else
    let x := s.tsS w
    let asleep := match s.standOfTower w with
      | some i => decide (s.pState i ≥ 2)
      | none => false
    match x.migr with
    | none => .next s
    | some (b, k) =>
      if asleep || s.clk.stopped then .next s
      else
        let t := w / 6
        let c := w % 6
        let lay := b / 128
        let reg := fun q => Reg.CORE_TS_REMAP t c (8 * lay + q)
        let f := if lay = 0 then Fld.CORE_TS_MAP_used2 else Fld.CORE_TS_MAP_used3
        let s0 := (z.bad.filter fun o => decide (o < towerBytes) && decide (tsBank o = b)).foldl (fun y o =>
          (y.tsPoison w o).contained
            { ErrInfo.plain 2 0x0B with tile := some t, site := some c, addr := some (tsAddr w (o / 64 * 64)) }) s
        -- a spare that served the bank before no longer does
        let s1 := (upto 8).foldl (fun y q =>
          if y.gf (reg q) Fld.CORE_TS_REMAP_valid = 1 ∧ y.gf (reg q) Fld.CORE_TS_REMAP_bank = b % 128 then
            y.sf (reg q) Fld.CORE_TS_REMAP_valid 0 else y) s0
        let s2 := ((s1.sf (reg k) Fld.CORE_TS_REMAP_valid 1).sf (reg k) Fld.CORE_TS_REMAP_bank (b % 128)).sfBit
          (Reg.CORE_TS_MAP t c) f k
        let s3 := (s2.setTs w { s2.tsS w with migr := none }).sf (Reg.CORE_TS_MIGRATE t c) Fld.CORE_TS_MIGRATE_remaining 0
        let s4 := s3.dead 0x10 t c (2 + lay) (b % 128) 0
        .next ((s4.tsS w).waits.foldl (fun y q => y.tsReplace w q) (s4.setTs w { s4.tsS w with waits := [] }))

end Sys2Proof.Machine
end

