-- ==== Sys2Proof/Machine/Power.lean ====
section
/-! DEFINITION. Temperature, draws and throttles (R449 to R457), stand targets and wakes (R437 to R448), the supply input
(R26, R27, R443), housekeeping (R452 to R454), the thermal trip (R36, R458) and the device's own retries (R304, R476,
R521). -/

namespace Sys2Proof.Machine

/-- A reserved encoding was written to the register at `off`: its field keeps its value (R15). [DEDUCED, assumption 96, safe] -/
def State.reservedEnc (s : State) (off : Nat) : State :=
  s.contained { ErrInfo.plain 8 2 with addr := some off }

/-! ### Estimates (R453) -/

/-- A temperature in eighths of a degree as a register's 12 bits, held at the largest or smallest that they show. [DEDUCED, assumption 67, unsafe] -/
def put12 (x : Int) : Nat := ((max (-2048) (min 2047 x)) % 4096).toNat

/-- The value of sensor channel `ch` of tile `t`, none where the channel is retired. -/
def State.chTemp (s : State) (t ch : Nat) : Option Int :=
  if s.gf (Reg.THM_CH t ch) Fld.THM_CH_retired = 1 then none
  else some (signed12 (s.gf (Reg.THM_CH t ch) Fld.THM_CH_value))

/-- t_model of tower `w`, in eighths of a degree, with a power of `p` tenths of a watt on its two core rails. [DEDUCED, assumption 67, unsafe] -/
def State.towerModel (s : State) (w p : Nat) : Int :=
  let t := w / 6
  let c := 6 * (w % 6)
  let top := match s.chTemp t c, s.chTemp t (c + 4) with
    | some a, some b => max a b
    | some a, none => a + 32
    | none, some b => b + 32
    | none, none => signed12 (s.gf (Reg.THM_CH t (c + 5)) Fld.THM_CH_value) + 96
  top + (((420 + Config.theta w % 161) * p * 8 / 10000 : Nat) : Int)

/-- The row of the table of R455 for an estimate in eighths of a degree and a threshold in degrees. -/
def throttleRow (e : Int) (t : Nat) : Nat :=
  let x := 8 * (t : Int)
  if e < x then 0 else if e < x + 24 then 1 else if e < x + 48 then 2 else 3

/-- THM_TOWER of tower `w` with rail powers `pn` and `ps` in tenths of a watt. [DEDUCED, assumption 67, unsafe, 68] -/
def State.towerUpdate (s : State) (w pn ps : Nat) : State :=
  let t := w / 6
  let c := w % 6
  let m := s.towerModel w (pn + ps)
  let hot := maxInt m ((upto 6).filterMap fun k => s.chTemp t (6 * c + k))
  let row := throttleRow hot (s.gf Reg.THM_CFG Fld.THM_CFG_throttle_c)
  s.setReg (Reg.THM_TOWER t c) (BitVec.ofNat 64 (put12 hot + 2 ^ 12 * put12 m + 2 ^ 24 * boolNat (decide (hot = m)) +
    2 ^ 25 * boolNat (decide (ps > pn)) + 2 ^ 26 * row + 2 ^ 32 * min pn 4095 + 2 ^ 44 * min ps 4095))

/-- THM_BASE of tile `t`. -/
def State.baseUpdate (s : State) (t : Nat) : State :=
  let xs := ([36, 37, 38, 39] ++ (upto 6).map (6 * ·)).filterMap fun k => s.chTemp t k
  match xs with
  | [] => s
  | x :: rest => s.sf (Reg.THM_BASE t) Fld.THM_BASE_est (put12 (maxInt x rest))

/-! ### Throttles (R450, R451, R455, R456) -/

/-- A throttle mode: none, divide, or skip-k. -/
inductive Throttle where
  | none
  | divide
  | skip (k : Nat)
  deriving DecidableEq, Repr

/-- How many of every 16 nominal cycles a mode suppresses, doubled, with one more where divide wins a tie. -/
def Throttle.rank : Throttle → Nat
  | .none => 0
  | .divide => 17
  | .skip k => 2 * k

/-- The stronger of two modes. -/
def Throttle.pick (a b : Throttle) : Throttle := if a.rank ≥ b.rank then a else b

def skipOf (k : Nat) : Throttle := if k = 0 then .none else .skip k

/-- The mode that the base estimate asks of a tile's halves. -/
def baseMode (e : Int) : Throttle := if e ≥ 752 then .divide else if e ≥ 736 then .skip 4 else .none

/-- The thermal mode of a half. -/
def thermalMode (row : Nat) (hot : Bool) (e : Int) : Throttle :=
  let a : Throttle :=
    if row = 0 then .none
    else if row = 1 then (if hot then .skip 4 else .none)
    else if row = 2 then (if hot then .divide else .skip 4)
    else .divide
  a.pick (baseMode e)

/-- A half's mode, its k and the causes that ask for it, from the three throttles. [DEDUCED, assumption 70, unsafe] -/
def halfOf (th bu mo : Throttle) : Nat × Nat × Nat :=
  let m := (th.pick bu).pick mo
  let cause := boolNat (decide (th = m)) + 2 * boolNat (decide (bu = m)) + 4 * boolNat (decide (mo = m))
  match m with
  | .none => (0, 0, 0)
  | .divide => (1, 0, cause)
  | .skip k => (2, k, cause)

/-- A stand's draw in watts. -/
def State.draw (s : State) (i : Nat) : Nat := s.gf (Reg.PWR_STD_DRAW i) Fld.PWR_STD_DRAW_draw

/-- Is the stand's draw above its budget in force? -/
def State.overBudget (s : State) (i : Nat) : Bool := decide (s.draw i > planBudget s.planForce i)

/-- The module throttle's skip count for stand `i` (R451). -/
def State.modFor (s : State) (i : Nat) : Nat :=
  if s.stdState i ≠ 2 then 0
  else if s.overBudget i || !((upto 16).any fun k => s.stdState k == 2 && s.overBudget k) then s.modK
  else 0

/-- PWR_HALF of tower `w` of stand `i`. -/
def State.halfUpdate (s : State) (i w : Nat) : State :=
  let t := w / 6
  let a := Reg.THM_TOWER t (w % 6)
  let row := s.gf a Fld.THM_TOWER_action
  let south := s.gf a Fld.THM_TOWER_hot_half = 1
  let e := signed12 (s.gf (Reg.THM_BASE t) Fld.THM_BASE_est)
  let bu := skipOf (s.pwrS i).budK
  let mo := skipOf (s.modFor i)
  let n := halfOf (thermalMode row (!south) e) bu mo
  let h := halfOf (thermalMode row south e) bu mo
  s.setReg (Reg.PWR_HALF t (w % 6)) (BitVec.ofNat 64 (n.1 + 2 ^ 2 * n.2.1 + 2 ^ 6 * h.1 + 2 ^ 8 * h.2.1 +
    2 ^ 12 * n.2.2 + 2 ^ 15 * h.2.2))

/-- The throttles of stand `i` take effect: its halves, PWR_STD_THR, and the marks that R457 uses. Only halves of a stand
whose towers are in RUN are active. [DEDUCED, assumption 70, unsafe] -/
def State.standThrottle (s : State) (i : Nat) : State :=
  if !s.awake i then s.throttleEnd i
  else
    let a := Reg.PWR_STD_THR i
    let s1 := (s.towersOf i).foldl (fun y w => y.halfUpdate i w) s
    let on := (s1.halvesOf i).filter fun q => q.1 != 0
    let cause := fun (b : Nat) => boolNat (on.any fun q => natBit q.2 b)
    let s2 := (((s1.sf a Fld.PWR_STD_THR_thermal (cause 0)).sf a Fld.PWR_STD_THR_budget (cause 1)).sf a
      Fld.PWR_STD_THR_module (cause 2)).sf a Fld.PWR_STD_THR_halves on.length
    let s3 := s2.sf (Reg.STD_GATE_LEVEL i) Fld.STD_GATE_LEVEL_throttled (boolNat (decide (on ≠ [])))
    if on = [] then s3
    else
      let s4 := if s.gf a Fld.PWR_STD_THR_halves = 0 then s3.sfSat a Fld.PWR_STD_THR_episodes 1 else s3
      if s.stdState i ≠ 2 then s4 else s4.throttleMark i

/-- Every stand's throttles take effect. -/
def State.throttles (s : State) : State :=
  ((upto 16).filter fun i => planValid s.planForce i).foldl (fun y i => y.standThrottle i) s

/-- The budget throttle of stand `i` at an update (R450). -/
def State.budgetThrottle (s : State) (i : Nat) : State :=
  let x := s.pwrS i
  let b := planBudget s.planForce i
  let k :=
    if s.draw i > b then min (x.budK + 2) 12
    else if 100 * s.draw i < 95 * b then x.budK - 2
    else x.budK
  s.setPwr i { x with budK := k }

/-- What a list names for unit `k`; 0 where it names nothing. -/
def lookUp (l : List (Nat × Nat)) (k : Nat) : Nat := ((l.find? fun e => e.1 = k).map (·.2)).getD 0

/-- The core rails' power of tower `w`, north and south together. -/
def railPower (rails : List (Nat × Nat × Nat)) (w : Nat) : Nat := ((rails.find? fun r => r.1 = w).map fun r => r.2.1 + r.2.2).getD 0

/-- The draw of stand `i` in watts (R449, R530): the five rails of its towers, the supplies of its stacks, and for each of its towers a
sixth of its tile's base-logic and optical draw. [DEDUCED, assumption 117, unsafe] -/
def State.drawOf (s : State) (rails : List (Nat × Nat × Nat)) (x : Telemetry) (i : Nat) : Nat :=
  min ((((s.towersOf i).map fun w => 6 * (railPower rails w + lookUp x.towers w) + lookUp x.tiles (w / 6)).sum +
    6 * ((s.stacksOf i).map (lookUp x.hbms)).sum) / 60) 65535

/-- The 64 µs update (R449, R453 to R456), which a controller takeover leaves out (R508): `rails` gives the powers of the towers' core
rails in tenths of a watt, `draws` what else the regulators measure; a tower that `rails` leaves out draws nothing there. [DEDUCED, assumption 117, unsafe] -/
def execPowerManagerUpdate (rails : List (Nat × Nat × Nat)) (draws : Telemetry) (input : Nat) (s : State) :
    Host.Outcome State Fault Refusal :=
  if rails.any (fun r => decide (r.1 ≥ 96)) || draws.towers.any (fun d => decide (d.1 ≥ 96)) ||
      draws.hbms.any (fun d => decide (d.1 ≥ 32)) || draws.tiles.any (fun d => decide (d.1 ≥ 16)) ||
      draws.droops.any (fun d => decide (d.1 ≥ 864)) then .fault .noSuchUnit
  else if !s.power || s.clk.stopped then .next s
  else
    let s := draws.droops.foldl (fun y d => y.stretched d.1 d.2.1 d.2.2) s
    if s.unmanaged || s.takingOver || s.phase ≠ 1 then .next s
    else
    let s1 := (upto 96).foldl (fun y w =>
      match rails.find? fun r => r.1 = w with
      | some r => y.towerUpdate w r.2.1 r.2.2
      | none => y.towerUpdate w 0 0) s
    let s2 := (upto 16).foldl (fun y t => y.baseUpdate t) s1
    let s3 := (upto 16).foldl (fun y i => y.sf (Reg.PWR_STD_DRAW i) Fld.PWR_STD_DRAW_draw (s.drawOf rails draws i)) s2
    let s4 := (s3.sf Reg.PWR_MODULE Fld.PWR_MODULE_draw (min input 65535)).sf Reg.PWR_FLOOR Fld.PWR_FLOOR_floor
      (min (input - ((upto 16).map (s.drawOf rails draws)).sum) 65535)
    let s5 := ((upto 16).filter fun i => planValid s.planForce i).foldl (fun y i => y.budgetThrottle i) s4
    .next s5.throttles

/-- Input power over 11,500 W through 8 µs (R451). -/
def execModuleThrottle (input : Nat) (s : State) : Host.Outcome State Fault Refusal :=
  if s.power ∧ input > 11500 ∧ s.modK = 0 ∧ s.clk.stopped = false then
    let s1 := ({ s with modK := 4 }.sf Reg.PWR_MODULE Fld.PWR_MODULE_limiting 1).sfSat Reg.PWR_LIMIT_EVENTS
      Fld.PWR_LIMIT_EVENTS_count 1
    .next s1.throttles
  else .next s

/-- A further 8 µs of the throttle, which rises until its end: input power of 11,000 W or more keeps it from there. [DEDUCED, assumption 70, unsafe] -/
def execModuleThrottleEscalate (input : Nat) (s : State) : Host.Outcome State Fault Refusal :=
  if s.modK ≠ 0 ∧ input ≥ 11000 ∧ s.clk.stopped = false then .next (State.throttles { s with modK := min (s.modK + 4) 12 }) else .next s

/-- Input power below 11,000 W for 64 µs. -/
def execModuleThrottleEnd (input : Nat) (s : State) : Host.Outcome State Fault Refusal :=
  if s.modK ≠ 0 ∧ input < 11000 ∧ s.clk.stopped = false then
    .next (State.throttles ({ s with modK := 0 }.sf Reg.PWR_MODULE Fld.PWR_MODULE_limiting 0))
  else .next s

/-! ### Targets, entry and wakes (R437 to R448) -/

/-- What a write of `tgt` to a stand's target does beyond the field (R437, R440, R443). [DEDUCED, assumption 71, unsafe] -/
def State.targetActs (s : State) (i tgt : Nat) : State :=
  let x := s.pwrS i
  let later := fun (y : State) => y.setPwr i { y.pwrS i with after := some tgt }
  if s.inRun i || x.parked then s
  else if tgt = 0 then (s.setPwr i { x with after := none }).wake i
  else match x.goal with
    | some g =>
      if x.wake then later s
      else if tgt > g then s.setPwr i { x with goal := some tgt }
      else if tgt < g then later (s.wake i)
      else s
    | none =>
      if s.pStep i = 6 then later s
      else if tgt > s.pState i then s.enter i tgt
      else if tgt < s.pState i then later (s.wake i)
      else s

/-- The write of PWR_STD_CTL of stand `i`: a reserved ramp keeps the field. [DEDUCED, assumption 98, unsafe] -/
def State.ctlWrite (s : State) (i v : Nat) : State :=
  let a := Reg.PWR_STD_CTL i
  let r := natBits v 2 7
  let s1 := (s.sf a Fld.PWR_STD_CTL_target (v % 4)).sf a Fld.PWR_STD_CTL_idle_delay (natBits v 16 16)
  let s2 := if r ≤ 64 then s1.sf a Fld.PWR_STD_CTL_ramp r else s1.reservedEnc a
  s2.targetActs i (v % 4)

/-- A host write of PWR_STD_CTL, by the stand's master only (R437, R51). -/
def execStandTargetWrite (p i : Nat) (v : BitVec 32) (s : State) : Host.Outcome State Fault Refusal :=
  if i ≥ 16 then .fault .noSuchUnit
  else s.hostWrite p (Reg.PWR_STD_CTL i) fun s => s.asMaster p i (Reg.PWR_STD_CTL i) fun s => s.ctlWrite i v.toNat

/-- idle_delay has passed since the run ended: the stand enters the state that its target names. -/
def execIdleDelayExpiry (i : Nat) (s : State) : Host.Outcome State Fault Refusal :=
  if i ≥ 16 then .fault .noSuchUnit
  else
    let x := s.pwrS i
    let tgt := s.gf (Reg.PWR_STD_CTL i) Fld.PWR_STD_CTL_target
    let s1 := s.setPwr i { x with idle := false }
    if !x.idle ∨ x.parked = true ∨ s.clk.stopped = true ∨ s.inRun i then .next s
    -- an exit under way comes to its end first
    else if s.pStep i = 6 ∨ x.wake then .next (if tgt = 0 then s1 else s1.setPwr i { s1.pwrS i with after := some tgt })
    else .next (s1.enter i tgt)

/-- The entry step under way ends (R439). -/
def execPowerEntryStepComplete (i : Nat) (s : State) : Host.Outcome State Fault Refusal :=
  if i ≥ 16 then .fault .noSuchUnit else .next (if s.clk.stopped then s else s.entryStepDone i)

/-- The ramp's next tower starts (R448). -/
def execTowerWakeStart (i : Nat) (s : State) : Host.Outcome State Fault Refusal :=
  if i ≥ 16 then .fault .noSuchUnit
  else
    let x := s.pwrS i
    if x.toStart = [] ∨ s.rampBefore i ∨ s.clk.stopped = true then .next s
    else if s.gf (Reg.PWR_STD_CTL i) Fld.PWR_STD_CTL_ramp = 0 then .next (startAll i x.toStart.length s)
    else .next (s.startTower i)

/-- A tower's exit completes (R438, R442). -/
def execWakeComplete (x : Woken) (s : State) : Host.Outcome State Fault Refusal :=
  if x.w ≥ 96 then .fault .noSuchUnit
  else if s.tripped ∨ s.clk.stopped = true then .next s
  else match (upto 16).find? fun i => (s.pwrS i).exiting.contains x.w with
    | some i => .next (s.exitDone i x.w x.out x.fails)
    | none => .next s

/-! ### Parks (R443, R491) -/

/-- Every stand is parked: the cores and sequencers of a run stop at once, and a handling under way gives way. The runs
themselves end when the cause has cleared (R66). [DEDUCED, assumption 62, unsafe] -/
def State.parkAll (s : State) : State :=
  let s1 := ((upto 16).filter s.inRun).foldl (fun y i =>
    let z := y.stopStand i
    z.setStand i { z.stand i with handling := none }) s
  ((upto 16).filter fun i => planValid s.planForce i).foldl (fun y i => y.park i) s1

/-- End every run in STARTING or RUNNING. -/
def State.endRuns (s : State) (state code : Nat) : State :=
  ((upto 16).filter s.inRun).foldl (fun y i => y.endRun i state code) s

/-- A module-fatal error ends every run FAILED with stand_fatal; a run that an earlier one has parked keeps the end that the park gives it,
into which the later error merges (R491). -/
def State.fatalRuns (s : State) : State :=
  ((upto 16).filter fun i => s.inRun i && !(s.pwrS i).parked).foldl (fun y i => y.endRun i 4 0x0C) s

/-- Is some cause of a park still there: an excursion of the supply, or no reference? -/
def State.parkHeld (s : State) : Bool := s.supplyPark || s.clk.holdFrom.isSome || s.clk.stopped

/-- The cause of a park has cleared: the runs end FAILED, parked (R66), one still STARTING
too, and every parked stand wakes. [DEDUCED, assumption 62, unsafe] -/
def State.parkReturn (s : State) : State :=
  if s.parkHeld then s else (upto 16).foldl (fun y i => y.unpark i) (s.endRuns 4 0x0F)

/-! ### The supply input (R26, R27, R44) -/

/-- What a stack keeps without power: the hard-repair rows that its banks have used (R384). [DEDUCED, assumption 139, safe] -/
def State.hbmFuses (s : State) : SMap HbmSt := s.hbm.filterMap fun e =>
  if e.2.hard = [] then none else some (e.1, { HbmSt.zero with hard := e.2.hard })

/-- The module without power: what is stored is left (the store's copies, the census count), and a write in progress is broken off. [DEDUCED, assumption 66, unsafe] -/
def State.powerOff (s0 : State) : State :=
  let s := s0.writeTorn
  { State.reset with power := false, inputOut := s.inputOut, storeTemp := s.storeTemp, pending := s.pending,
                     freeCtr := s.freeCtr, copy0 := s.copy0, copy15 := s.copy15, hbm := s.hbmFuses,
                     out := s.out }.setReg Reg.SITE_CENSUS_GEN
    (s.reg Reg.SITE_CENSUS_GEN)

/-- Module power applied: a cold start in its first step. -/
def State.powerOn (s : State) (vin : Nat) : State :=
  (({ s.powerOff with power := true, inputOut := false }).sf Reg.MGT_BOUNDARY Fld.MGT_BOUNDARY_vin vin).stored

/-- Module power is applied. Below 48.0 V or above 62.0 V the input stays off, and after a disconnect or a lockout above 60.0 V
too (R27). [DEDUCED, assumption 65, unsafe] -/
def execPowerUp (vin : BitVec 12) (s : State) : Host.Outcome State Fault Refusal :=
  if s.power ∨ vin.toNat < 1920 ∨ vin.toNat > (if s.inputOut then 2400 else 2480) then .next s else .next (s.powerOn vin.toNat)

/-- Module power is removed. -/
def execPowerRemoval (s : State) : Host.Outcome State Fault Refusal := .next (if s.power then s.powerOff else s)

/-- The input rises above 62.0 V: the disconnect opens. -/
def execInputOvervoltage (vin : BitVec 12) (s : State) : Host.Outcome State Fault Refusal :=
  if s.power ∧ vin.toNat > 2480 then .next { s.powerOff with inputOut := true } else .next s

/-- The input rises above 60.0 V. -/
def execSupplyHigh (vin : BitVec 12) (s : State) : Host.Outcome State Fault Refusal :=
  if s.power ∧ vin.toNat > 2400 ∧ vin.toNat ≤ 2480 then
    .next ((s.sf Reg.MGT_BOUNDARY Fld.MGT_BOUNDARY_supply_high_seen 1).modCause 7)
  else .next s

/-- The input falls into the excursion band. -/
def execSupplyLowExcursion (vin : BitVec 12) (s : State) : Host.Outcome State Fault Refusal :=
  if s.power ∧ !s.supplyLow ∧ vin.toNat ≥ 1760 ∧ vin.toNat < 1920 then
    .next (((({ s with supplyLow := true }).sf Reg.MGT_BOUNDARY Fld.MGT_BOUNDARY_supply_low_seen 1).modCause 7).corrected
      (ErrInfo.plain 10 6))
  else .next s

/-- The excursion has lasted more than 10 ms: module-fatal error 0x01, and every stand is parked. -/
def execSupplyLowTimeout (s : State) : Host.Outcome State Fault Refusal :=
  if s.power ∧ s.supplyLow ∧ !s.supplyPark then
    .next (({ s with supplyPark := true }.moduleFatal (ErrInfo.plain 10 1)).parkAll)
  else .next s

/-- The input is back at 48.0 V or above. -/
def execSupplyReturn (vin : BitVec 12) (s : State) : Host.Outcome State Fault Refusal :=
  if s.power ∧ s.supplyLow ∧ vin.toNat ≥ 1920 ∧ vin.toNat ≤ 2480 then
    let s1 := { s with supplyLow := false, supplyPark := false }
    .next (if s.supplyPark then s1.parkReturn else s1)
  else .next s

/-- The input falls below 44.0 V. -/
def execInputLockout (vin : BitVec 12) (s : State) : Host.Outcome State Fault Refusal :=
  if s.power ∧ vin.toNat < 1760 then .next { s.powerOff with inputOut := true } else .next s

/-- The input has stayed from 48.0 V to 60.0 V for 100 ms after a disconnect or lockout. [DEDUCED, assumption 65, unsafe] -/
def execInputReenable (vin : BitVec 12) (s : State) : Host.Outcome State Fault Refusal :=
  if !s.power ∧ vin.toNat ≥ 1920 ∧ vin.toNat ≤ 2400 then .next (s.powerOn vin.toNat) else .next s

/-! ### Housekeeping (R308, R452, R454) -/

/-- Does a suspect channel whose recalibration has ended wait to retire (R454)? -/
def State.retiring (s : State) (t ch : Nat) : Bool := (upto 16).any fun i => (s.stand i).retire.contains (t, ch)

/-- The converter's channels of tile `t` become stale, or fresh again; a suspect channel stays stale while its own
recalibration runs. -/
def State.setStale (s : State) (t v : Nat) : State :=
  let s1 := (upto 64).foldl (fun y ch =>
    let a := Reg.THM_CH t ch
    y.sf a Fld.THM_CH_stale (if y.gf a Fld.THM_CH_suspect = 1 ∧ !s.retiring t ch then 1 else v)) s
  if t = 0 then s1.sf Reg.MGT_BOUNDARY Fld.MGT_BOUNDARY_vin_stale v else s1

/-- A channel becomes suspect, and its offset is recalibrated (R454). -/
def State.suspect (s : State) (t ch : Nat) : State :=
  let a := Reg.THM_CH t ch
  (s.sf a Fld.THM_CH_suspect 1).sf a Fld.THM_CH_stale 1

/-- Does the channel read more than 8 °C from its tower's model? Only layer 1 is judged. -/
def State.farFromModel (s : State) (t ch : Nat) (x : Int) : Bool :=
  let m := signed12 (s.gf (Reg.THM_TOWER t (ch / 6)) Fld.THM_TOWER_model)
  decide (ch < 36) && decide (1 ≤ ch % 6) && decide (ch % 6 ≤ 3) && (decide (x - m > 64) || decide (m - x > 64))

/-- Switch every held listener of a tile, one in monitor mode among them, to its park codes (R308). -/
def State.holdPark (s : State) (t : Nat) : State :=
  let h := Reg.OPT_HOLD_STATE t
  if s.gf h Fld.OPT_HOLD_STATE_parked = 1 then s
  else
    let s1 := (s.sf h Fld.OPT_HOLD_STATE_parked 1).sf h Fld.OPT_HOLD_STATE_drift_seen 1
    let ls := s1.tuned t
    let held := ls.flatMap fun l => [588 + 2 * l, 589 + 2 * l]
    let s2 := ls.foldl (fun y l => y.setListener t l { y.listener t l with lost := true })
      (s1.setFab t { s1.fabT t with holdCodes := held.map fun c => (c, (s1.trim t c).code) })
    let w := s2.codeWindow t
    held.foldl (fun y c => y.setTrim t c { y.trim t c with code := windowCode w (Config.parkCode t c) }) s2

/-- During a hold, the base temperature is compared with its value at the entry (R308, R309). -/
def State.holdCheck (s : State) (t : Nat) : State :=
  match (s.fabT t).holdTemp with
  | none => s
  | some h =>
    let d := s.baseTemp t - signed12 h
    let far := fun (k : Int) => decide (d > k) || decide (-d > k)
    let s1 := if far 32 then s.holdPark t else s
    if far 80 ∧ s1.gf (Reg.OPT_HOLD_STATE t) Fld.OPT_HOLD_STATE_unknown = 0 then s1.block t else s1

/-- The converter of tile `t` measures channel `ch` (R452): a stale channel holds its value. A reference that is off by
more than 0.5 % makes every channel stale until it reads well again. -/
def execHousekeepingMeasure (t ch : Nat) (v : BitVec 12) (s : State) : Host.Outcome State Fault Refusal :=
  if t ≥ 16 ∨ ch ≥ 64 then .fault .noSuchUnit
  else if !s.power ∨ s.clk.stopped then .next s
  else
    let a := Reg.THM_CH t ch
    if ch = 63 then
      let off := decide (v.toNat < 1244) || decide (v.toNat > 1256)
      -- a TIA offset under recalibration is done within the round (R305)
      let s0 := match (s.fabT t).tiaNow with
        | some f => (s.setFab t { s.fabT t with tiaNow := none }).recalibrated t (2814 + f) 8
        | none => s
      let s1 := (s0.sf a Fld.THM_CH_value v.toNat).setStale t (boolNat off)
      .next (s1.sf (Reg.THM_ROUND t) Fld.THM_ROUND_rounds (s.gf (Reg.THM_ROUND t) Fld.THM_ROUND_rounds + 1))
    else if s.gf a Fld.THM_CH_stale = 1 then .next s
    else if !s.supplyReads t ch v.toNat then .next s
    else if ch = 62 then
      if t = 0 then .next ((s.sf a Fld.THM_CH_value v.toNat).sf Reg.MGT_BOUNDARY Fld.MGT_BOUNDARY_vin v.toNat)
      else .next (s.sf a Fld.THM_CH_value 0)
    else
      let s1 := s.sf a Fld.THM_CH_value v.toNat
      if ch ≥ 40 ∨ s.gf a Fld.THM_CH_retired = 1 then .next s1
      else
        let x := signed12 v.toNat
        let far := s.farFromModel t ch x
        let twice := far && sget false s.thmOff (64 * t + ch)
        let s2 := { s1 with thmOff := sset false s1.thmOff (64 * t + ch) (far && !twice) }
        let s3 := if twice || decide (x < -320) || decide (x > 1200) then s2.suspect t ch else s2
        .next (if ch ≥ 36 then s3.holdCheck t else s3)

/-- The recalibration of a suspect channel ends (R454) with reading `v`: within 4 °C of the tower's model it is suspect no
longer; otherwise it retires, at the owning run's next clearing or at once. A base quadrant has no model: it is cleared by
a reading from -40 °C to 150 °C. [DEDUCED, assumption 69, unsafe] -/
def execSuspectRecalibrationEnd (t ch : Nat) (v : BitVec 12) (s : State) : Host.Outcome State Fault Refusal :=
  if t ≥ 16 ∨ ch ≥ 40 then .fault .noSuchUnit
  else
    let a := Reg.THM_CH t ch
    if s.gf a Fld.THM_CH_suspect = 0 then .next s
    else
      let x := signed12 v.toNat
      let m := signed12 (s.gf (Reg.THM_TOWER t (ch / 6)) Fld.THM_TOWER_model)
      let well := if ch < 36 then decide (x - m ≤ 32) && decide (m - x ≤ 32) else decide (-320 ≤ x) && decide (x ≤ 1200)
      let s1 := ((s.sf a Fld.THM_CH_value v.toNat).sf a Fld.THM_CH_stale 0).recalibrated t (3136 + ch) 10
      if well then .next (s1.sf a Fld.THM_CH_suspect 0)
      else
        match (if ch < 36 then s.standOfTower (6 * t + ch / 6) else none) with
        | some i =>
          if s.stdState i = 2 then
            let y := s1.stand i
            .next (if y.retire.contains (t, ch) then s1 else s1.setStand i { y with retire := y.retire ++ [(t, ch)] })
          else .next (s1.retireChannel t ch)
        | none => .next (s1.retireChannel t ch)

/-! ### The thermal trip (R36, R458) -/

/-- Power every tower of the module off; the stacks that were ready stand in self-refresh. -/
def State.towersOff (s : State) : State :=
  let s1 := (upto 96).foldl (fun y w =>
    let a := Reg.SITE_LINK_STATE (w / 6) (w % 6)
    let z := (y.setBranches w 3).padSite w 1
    if z.gf a Fld.SITE_LINK_STATE_state = 3 then z.sf a Fld.SITE_LINK_STATE_state 0 else z) s
  let s2 := (upto 32).foldl (fun y j => y.stackSleep j) s1
  (upto 16).foldl (fun y i => ((y.setPState i 3).setPStep i 0).setPwr i PwrSt.zero) s2

/-! ### Periodic work of the device -/

/-- The registers of a tile that a calibration record holds beside the converters, by tile offset: slot channels, spares,
calibration counts and lane channels. [DEDUCED, assumption 72, unsafe] -/
def isCalReg (o : Nat) : Bool :=
  (decide (0x20_0000 ≤ o) && decide (o < 0x20_0200) && decide (o % 0x40 ≤ 0x20) && decide (o % 4 = 0)) ||
    (decide (0x21_1000 ≤ o) && decide (o < 0x21_3000) && decide (o % 0x10 = 0)) ||
    (decide (0x30_0800 ≤ o) && decide (o < 0x30_0880) && decide (o % 0x40 < 0x20) && decide (o % 4 = 0))

/-- The bits of such a register that are marked cal (R289, R319, R351). -/
def calMask (o : Nat) : Nat :=
  if o ≥ 0x30_0000 then (if o % 0x40 = 0x1C then 0x3F3F else 0x3F3F_3F3F) else if o ≥ 0x21_1000 then 0xFFFF_FFFF else if o % 0x40 < 0x20 then 0x3F3F_3F3F else 0x3F

/-- The value that a record holds of such a register of tile `t`: the channels of a slot map; of a trunk the channel that is its spare,
or becomes it when its calibration or swap is given up; a count as it is. -/
def State.calValue (s : State) (t o : Nat) : Nat :=
  let v := (s.reg (tileBase t + o)).toNat
  if o ≥ 0x30_0000 then laneValue o
  else if o ≥ 0x21_1000 ∨ o % 0x40 < 0x20 then v &&& calMask o
  else
    let h := (o - 0x20_0000) / 0x40
    let old := sget 0 (s.fabT t).swapOld h
    let cal := s.gf (Reg.OPT_TRUNK_STATE t h) Fld.OPT_TRUNK_STATE_cal_ch
    let ch := if v % 64 ≠ 0x3F then v % 64 else if cal ≠ 0x3F then cal else if old ≠ 0 then (old - 1) % 64 else 0x3F
    if natBit (s.gf (Reg.OPT_CH_FENCED t h) Fld.OPT_CH_FENCED_ch) ch then 0x3F else ch

/-- A tile's service calibration: every trim converter's code and count, in converter order, then the registers. [DEDUCED, assumption 72, unsafe] -/
def State.calPayload (s : State) (t : Nat) : List Byte :=
  let ts := (s.fabT t).trims
  let rs := (s.regs.map (·.1)).filter fun a => decide (tileBase t ≤ a) && decide (a < tileBase t + 0x1_0000_0000) && isCalReg (a - tileBase t)
  bytesOf 2 ts.length ++ (ts.flatMap fun (e : Nat × Trim) => bytesOf 2 e.1 ++ bytesOf 2 e.2.code.toNat ++ bytesOf 4 e.2.count.toNat) ++
    rs.flatMap fun a => bytesOf 4 (a - tileBase t) ++ bytesOf 8 (s.calValue t (a - tileBase t))

/-- The 60 s service interval (R304): a tile whose converters moved by more than 8 codes since its last record takes a new
one, unless one of it is on its way to the store. -/
def execServiceRecordInterval (s : State) : Host.Outcome State Fault Refusal :=
  if s.phase ≠ 1 ∨ s.unmanaged ∨ s.clk.stopped = true ∨ !s.trimsMoved then .next s
  else
    .next ((upto 16).foldl (fun y t =>
      if (s.fabT t).trims = [] ∨ (y.nvWaits fun r => r.kind == 3 && r.key == t) then y
      else (y.nvWrite ⟨3, t, s.calPayload t, .service t ((s.fabT t).trims.map fun (e : Nat × Trim) => (e.1, e.2.code))⟩).2) s)

/-- The deadwood entries that the store has refused are written again (R476). -/
def execDeadwoodRetry (s : State) : Host.Outcome State Fault Refusal :=
  if s.unmanaged ∨ s.clk.stopped = true then .next s
  else
    let waits := (s.dwm.zipIdx).filter fun (q : DwEnt × Nat) => !q.1.stored && !(s.nvWaits fun r => r.act == .deadwood q.2)
    .next (waits.foldl (fun y (q : DwEnt × Nat) => (y.nvWrite ⟨5, 0, q.1.bytes, .deadwood q.2⟩).2) s)

end Sys2Proof.Machine
end

