-- ==== Sys2Proof/Machine/Start.lean ====
section
/-! DEFINITION. What starts share (R462 to R477): the registers' Warm values, the store's load, the deadwood map's
application, the beginning of a start, its failure and its completion, and the reset of one tile. -/

namespace Sys2Proof.Machine

/-! ### Warm values (R11) -/

/-- A register's value with every field that does not keep its own set to its Warm value. -/
def warmFields : List FieldSpec → Nat → Nat
  | [], v => v
  | f :: rest, v =>
    warmFields rest (match f.warm with
      | .val n => natPut v f.lo f.w n
      | .keep => v)

/-- The register at `a` at its Warm value. -/
def State.warmReg (s : State) (a : Nat) : State :=
  match regSpecOf a with
  | some r => s.setReg a (BitVec.ofNat 64 (warmFields r.fields (s.reg a).toNat))
  | none => s

/-- Every listed register that `p` names takes its Warm value. -/
def State.warmRegs (s : State) (p : Nat → Bool) : State :=
  ((s.regs.map (·.1)).filter p).foldl (fun y a => y.warmReg a) s

/-- The HIF_ registers, which only a port reset changes (R411). -/
def isHif (a : Nat) : Bool := decide (0x8000 ≤ a) && decide (a < 0xA000)

/-! ### The store's records (R514 to R525) -/

/-- Append what a copy lacks of the leading copy's records. -/
def NvCopy.follow (c lead : NvCopy) : NvCopy :=
  c.setCur { c.cur with recs := c.recs ++ lead.recs.filter (fun (r : NvRec) => decide (r.seq > c.seq)) }

/-- Bring the two copies level (R519). -/
def State.resync (s : State) : State :=
  if !s.copy0.ok || !s.copy15.ok then s
  else
    let done := fun (y : State) => y.sf Reg.NVS_STATUS Fld.NVS_STATUS_resync 1
    if s.copy0.seq > s.copy15.seq then done { s with copy15 := s.copy15.follow s.copy0 }
    else if s.copy15.seq > s.copy0.seq then done { s with copy0 := s.copy0.follow s.copy15 }
    else if s.copy0.recs ≠ s.copy15.recs then
      done { s with copy15 := (s.copy15.setCur { s.copy15.cur with recs := s.copy0.recs }).compact }
    else s

/-- The identity key at a start (R525): present only where every working copy holds one; otherwise zeroed everywhere, and
an opened record appended unless one is in force. -/
def State.identity (s : State) : State :=
  let has := fun (c : NvCopy) => !c.ok || c.secret.isSome
  let all := has s.copy0 && has s.copy15
  let opened := openedIn s.records
  let a := Reg.SEC_STATE
  let s1 := ((s.sf a Fld.SEC_STATE_opened (boolNat opened)).sf a Fld.SEC_STATE_tap_enabled (boolNat opened)).sf a
    Fld.SEC_STATE_id_key (boolNat (all && !opened))
  if all then s1
  else
    let s2 := { s1 with copy0 := { s1.copy0 with secret := none }, copy15 := { s1.copy15 with secret := none } }
    if opened then s2 else (s2.nvWrite ⟨8, 0, bytesOf 8 s.gtc.toNat ++ bytesOf 8 0xFF, .tapFound⟩).2

/-- A plan from the bytes of its record. -/
def planOf (bs : List Byte) : SMap Byte :=
  bs.zipIdx.foldl (fun m (q : Byte × Nat) => sset (planByte q.2) m q.2 q.1) []

/-- A deadwood entry from its 16 bytes. -/
def dwOf (b : List Byte) : DwEnt :=
  let at_ := fun (k n : Nat) => ofBytes ((b.drop k).take n)
  ⟨BitVec.ofNat 64 (at_ 0 8), BitVec.ofNat 8 (at_ 8 1), BitVec.ofNat 8 (at_ 9 1), BitVec.ofNat 8 (at_ 10 1),
    BitVec.ofNat 8 (at_ 11 1), BitVec.ofNat 16 (at_ 12 2), BitVec.ofNat 8 (at_ 14 1), true⟩

/-- The trim converters of a calibration record: `n` entries of converter, code and count (2, 2 and 4 bytes). [DEDUCED, assumption 72, unsafe] -/
def trimsOf : Nat → List Byte → SMap Trim
  | n + 1, a :: b :: c :: d :: e :: f :: g :: h :: rest =>
    let v := BitVec.ofNat 12 (ofBytes [c, d])
    sset Trim.zero (trimsOf n rest) (ofBytes [a, b]) ⟨v, BitVec.ofNat 32 (ofBytes [e, f, g, h]), 0, v, v⟩
  | _, _ => []

/-- The trim converters that a record's payload gives. -/
def recordTrims (p : List Byte) : SMap Trim := trimsOf (ofBytes (p.take 2)) (p.drop 2)

/-- The registers that a service record gives a tile after its converters: entries of tile offset and value (4 and 8 bytes). -/
def recordRegs : Nat → List Byte → List (Nat × Nat)
  | n + 1, p => (ofBytes (p.take 4), ofBytes ((p.drop 4).take 8)) :: recordRegs n (p.drop 12)
  | 0, _ => []

/-- A tile takes the values marked cal from its calibration record (R303). -/
def State.loadCal (s : State) (t : Nat) (p : List Byte) : State :=
  let n := 2 + 8 * ofBytes (p.take 2)
  let s1 := s.setFab t { s.fabT t with trims := recordTrims p }
  (recordRegs ((p.length - n) / 12) (p.drop n)).foldl (fun y q =>
    let m := calMask q.1
    let v := (y.reg (tileBase t + q.1)).toNat
    if isCalReg q.1 then y.setReg (tileBase t + q.1) (BitVec.ofNat 64 (v - (v &&& m) + (q.2 &&& m))) else y) s1

/-- Step 4 of a cold start: the store, the calibration record, the plan and the deadwood map (R303, R464, R519). Each copy is scanned;
`bad` names the records whose check words fail, by the copy's tile and their numbers. [DEDUCED, assumption 75, unsafe] -/
def State.loadStore (s : State) (bad : List (Nat × Nat)) : State :=
  let named := fun (t : Nat) => (bad.filter fun q => q.1 = t).map (·.2)
  let s0 := State.resync { s with copy0 := s.copy0.scan (named 0), copy15 := s.copy15.scan (named 15) }
  let rs := s0.records
  let none_ := !(rs.any fun (r : NvRec) => r.kind == 3)
  -- a tile with no service record takes the values of its factory record
  let s00 := (upto 16).foldl (fun y t => match lastRec rs 3 t with
    | some r => y.loadCal t r.payload
    | none => y.loadCal t (((lastRec rs 2 t).map NvRec.payload).getD [])) s0
  let s1 := if none_ then s00.contained (ErrInfo.plain 4 7) else s00
  let s2 := match lastRec rs 4 0 with
    | some r =>
      let m := planOf (r.payload.drop 8)
      ({ s1 with planForce := m, planStaged := m }).sf Reg.MGT_PLAN_GEN Fld.MGT_PLAN_GEN_gen (ofBytes (r.payload.take 4))
    | none => s1
  -- entries made in this start that the store does not hold yet follow those that it holds (R476)
  let held := (rs.filter fun (r : NvRec) => r.kind == 5).map fun (r : NvRec) => dwOf r.payload
  let new : List (DwEnt × Nat) := (s2.dwm.zipIdx).filter fun (q : DwEnt × Nat) => !q.1.stored
  let s3 := { s2 with dwm := held ++ new.map Prod.fst, nvq := s2.nvq.map fun (r : NvReq) => match r.act with
    | .deadwood k => { r with act := .deadwood (held.length + new.findIdx fun (q : DwEnt × Nat) => q.2 == k) }
    | _ => r }
  s3.stored.identity

/-- The start-failure record of the last failure. [DEDUCED, assumption 75, unsafe] -/
def State.failRecord (s : State) : NvReq := ⟨6, 0, bytesOf 8 (s.reg Reg.MGT_START_FAIL).toNat, .startFail⟩

/-- Write the start-failure record where the store takes it; otherwise it waits (R468). -/
def State.failWrite (s : State) : State :=
  let (ok, s1) := s.nvWrite s.failRecord
  { s1 with start := { s1.start with failRec := !ok } }

/-! ### The deadwood map (R475, R476): what each entry sets -/

/-- The unit that an entry names goes out of service, or its spare into service, with nothing logged or recorded anew. -/
def State.applyEnt (s : State) (e : DwEnt) : State :=
  let t := e.tile.toNat % 16
  let c := e.site.toNat
  let b := e.sub.toNat
  let x := e.index.toNat
  let w := 6 * t + c
  let j := 2 * t + (c - 6)
  match e.kind.toNat with
  | 1 =>
    let a := Reg.CORE_ROW_MAP t c b
    let d := Reg.CORE_DIE_ID t c
    let s1 := (s.sf a Fld.CORE_ROW_MAP_fenced (natPut (s.gf a Fld.CORE_ROW_MAP_fenced) x 1 1)).posState t c b x 4
    -- a spare that is fenced is free no longer
    if natBit (s.gf a Fld.CORE_ROW_MAP_in_service) x then s1
    else s1.sf d Fld.CORE_DIE_ID_spares_free (natPut (s.gf d Fld.CORE_DIE_ID_spares_free) b 1 0)
  | 2 =>
    let a := Reg.CORE_ROW_MAP t c b
    let d := Reg.CORE_DIE_ID t c
    let m := s.gf a Fld.CORE_ROW_MAP_in_service
    -- the spare has the place of the row's position that was fenced first (R76, R77)
    if natBit m x then s
    else match (s.dwm.filter fun f => f.kind == 1 && f.tile == e.tile && f.site == e.site && f.sub == e.sub).findSome? fun f =>
        if natBit m f.index.toNat then some f.index.toNat else none with
    | some p => ((s.sf a Fld.CORE_ROW_MAP_in_service (natPut (natPut m p 1 0) x 1 1)).sf d Fld.CORE_DIE_ID_spares_free
        (natPut (s.gf d Fld.CORE_DIE_ID_spares_free) b 1 0)).posState t c b x 1
    | none => s
  | 3 => s.showDegraded w e.cause.toNat
  | 5 =>
    let f := Reg.OPT_CH_FENCED t b
    let tr := Reg.OPT_TRUNK_STATE t b
    let pk := Reg.OPT_CH_PARKED t b
    let s1 := (s.sf f Fld.OPT_CH_FENCED_ch (natPut (s.gf f Fld.OPT_CH_FENCED_ch) x 1 1)).sf pk Fld.OPT_CH_PARKED_ch
      (natPut (s.gf pk Fld.OPT_CH_PARKED_ch) x 1 1)
    let sp := s1.spareCh t b
    if sp = x then s1.sf tr Fld.OPT_TRUNK_STATE_spare 0x3F
    else match s1.chSlot t b x with
      | some k => if sp = 0x3F then s1
          else (s1.setSlotByte t b k (natPut (s1.slotByte t b k) 0 6 sp)).sf tr Fld.OPT_TRUNK_STATE_spare 0x3F
      | none => s1
  | 6 =>
    let f := x / 9
    let a := Reg.OPT_SPARE_LISTEN t (f / 32)
    let s1 := if (s.listener t x).mode = .fenced then s
      else (s.setListener t x { s.listener t x with mode := .fenced }).sfSat (Reg.OPT_RX_STATUS t) Fld.OPT_RX_STATUS_fenced 1
    s1.sf a Fld.OPT_SPARE_LISTEN_free (natPut (s1.gf a Fld.OPT_SPARE_LISTEN_free) (f % 32) 1 0)
  | 7 =>
    let f := Reg.PKT_LANE_FENCED t b
    let ch := s.laneByte t b x % 64
    let s1 := if e.cause = 1 then s else s.sf f Fld.PKT_LANE_FENCED_ch (natPut (s.gf f Fld.PKT_LANE_FENCED_ch) ch 1 1)
    if e.cause = 1 ∨ natBit (s1.gf (Reg.PKT_LANE_GROUP t b) Fld.PKT_LANE_GROUP_spare_used) (x / 10) = true then s1.retireLane t b x
    else s1.remapLanes t b (x / 10) (x % 10)
  | 8 => s.sf (Reg.OPT_FIBRE t b) Fld.OPT_FIBRE_fenced 1
  | 9 =>
    let a := Reg.SITE_REPAIR t c
    s.sf a Fld.SITE_REPAIR_used (natPut (s.gf a Fld.SITE_REPAIR_used) (3 * b) 3 (x + 1))
  | 0x0A => s.moduleEnt w b x e.cause.toNat
  | 0x0B => s.sf (Reg.SITE_REPAIR t c) Fld.SITE_REPAIR_limited 1
  | 0x0C => s.sfSat (Reg.HBM_SPARE t (c - 6)) Fld.HBM_SPARE_hard_ppr 1
  | 0x0D =>
    let reg := fun k => Reg.HBM_REMAP t (c - 6) k
    match (upto 32).find? fun k => s.gf (reg k) Fld.HBM_REMAP_valid == 0 with
    | some k => (s.setReg (reg k) (BitVec.ofNat 64 (1 + 2 * b + 2 ^ 5 * (x % 2 ^ 5) + 2 ^ 10 * (x / 2 ^ 5 % 2 ^ 4)))).sfSat
        (Reg.HBM_SPARE t (c - 6)) Fld.HBM_SPARE_bank_remaps 1
    | none => s
  | 0x0E =>
    let a := Reg.HBM_LAYER_MAP t (c - 6)
    let d := Reg.HBM_SPARE t (c - 6)
    let p := s.layerNibble j x
    let s1 := s.setReg a (BitVec.ofNat 64 (natPut (natPut (s.reg a).toNat (4 * x) 4 (s.layerNibble j 15)) 60 4 p))
    let s2 := (upto 32).foldl (fun y k => y.setReg (Reg.HBM_REMAP t (c - 6) k) 0) s1
    (s2.sf d Fld.HBM_SPARE_layer_used 1).sf d Fld.HBM_SPARE_bank_remaps 0
  | 0x0F => if s.gf (Reg.HBM_STATE t (c - 6)) Fld.HBM_STATE_state = 4 then s else s.sf (Reg.HBM_STATE t (c - 6)) Fld.HBM_STATE_state 5
  | 0x10 =>
    let lay := b - 2
    let f := if lay = 0 then Fld.CORE_TS_MAP_used2 else Fld.CORE_TS_MAP_used3
    let reg := fun q => Reg.CORE_TS_REMAP t c (8 * lay + q)
    -- a later spare of the same bank takes the place of the one before it
    let s0 := (upto 8).foldl (fun y q => if y.gf (reg q) Fld.CORE_TS_REMAP_valid = 1 ∧ y.gf (reg q) Fld.CORE_TS_REMAP_bank = x
      then y.sf (reg q) Fld.CORE_TS_REMAP_valid 0 else y) s
    match (upto 8).find? fun q => !natBit (s.gf (Reg.CORE_TS_MAP t c) f) q with
    | some k => ((s0.sf (reg k) Fld.CORE_TS_REMAP_valid 1).sf (reg k) Fld.CORE_TS_REMAP_bank x).sfBit (Reg.CORE_TS_MAP t c) f k
    | none => s
  | 0x11 => s.sf (Reg.THM_CH t x) Fld.THM_CH_retired 1
  | 0x12 => (s.sfBit Reg.CLK_TREE Fld.CLK_TREE_spare_tiles t).sf (Reg.CLK_TILE_STATUS t) Fld.CLK_TILE_STATUS_on_spare 1
  | 0x13 => s.setLocks t false
  | _ => s

/-- A logical place on a fenced position takes its row's spare, or stays empty, in the order of the fences (R465, R473). -/
def State.fillPlaces (s : State) : State :=
  (s.dwm.filter fun e => e.kind == 1).foldl (fun y e =>
    let t := e.tile.toNat % 16
    let c := e.site.toNat
    let r := e.sub.toNat
    let p := e.index.toNat
    let m := y.gf (Reg.CORE_ROW_MAP t c r) Fld.CORE_ROW_MAP_in_service
    if !natBit m p then y
    else
      let g := 128 * (6 * t + c) + 16 * r + ((upto p).filter fun q => natBit m q).length
      match y.sparePos t c r with
      | some _ => y.placeSpare g
      | none => (y.setCore g { y.core g with fenced := true }).degradeTower (towerOf g) 0x21) s

/-- The kinds of entry whose fields count or allocate: lanes, site-link modules, HBM and SRAM spares. A change of theirs is in effect
from the moment of its entry (R476), so that at a warm start they hold the map's values. -/
def dwAllocates (kind : Nat) : Bool := [7, 9, 0x0A, 0x0C, 0x0D, 0x0E, 0x10].contains kind

/-- Step 9 of every start: every field marked dwm is set from the map (R476), and what a site shows of its stripe map follows.
[DEDUCED, assumption 129, safe] -/
def State.applyMap (s : State) (kind : Nat) : State :=
  let s1 := ((s.dwm.filter fun e => kind == 0 || !dwAllocates e.kind.toNat).foldl (fun y e => y.applyEnt e) s).fillPlaces
  (upto 96).foldl (fun y w => if y.linkState w = 3 then y.remapSite w else y) s1

/-! ### A start's beginning -/

/-- End the runs for a start (R463): state IDLE, run_code reset. -/
def State.startEnds (s : State) : List Nat := (upto 16).filter s.inRun

/-- A cold start that is not a power-up begins (R462, R463): what survives is the bedrock domain, the store, the ports and
what the hardware senses; a stand whose run it ends reads run_code reset. [DEDUCED, assumption 74, unsafe] -/
def State.coldBegin (s : State) : State :=
  let ended := s.startEnds
  let s0 := (s.endRuns 0 0x0E).writeTorn
  let r := State.reset
  let keepReg := s0.regs.filter fun e => isHif e.1 || decide (e.1 = Reg.MGT_START_FAIL) ||
    decide (e.1 = Reg.SITE_CENSUS_GEN) || ((upto 16).any fun t => decide (e.1 = Reg.PWR_PAD_HOLD t))
  let a := Reg.MGT_START_STATUS
  let b := Reg.MGT_BOUNDARY
  let c := Reg.CLK_REF_STATUS
  let s1 : State :=
    { r with pending := s0.pending, freeCtr := s0.freeCtr, gtc := s0.gtc, regs := keepReg, mem := s0.mem, poison := s0.poison,
             supplyLow := s0.supplyLow, supplyPark := s0.supplyPark, clk := { ClkSt.zero with bed := s0.clk.bed, bedWait := s0.clk.bedWait }, ports := s0.ports, out := s0.out,
             copy0 := s0.copy0, copy15 := s0.copy15, storeTemp := s0.storeTemp, hbm := s0.hbmFuses,
             start := { s0.start with bist := false, from_ := s0.gtc, spent := 0, stepAt := 0, bootServed := false } }
  let s2 := ((s1.sf a Fld.MGT_START_STATUS_step 1).sf a Fld.MGT_START_STATUS_forced_cold
    (s0.gf a Fld.MGT_START_STATUS_forced_cold)).sf a Fld.MGT_START_STATUS_attempts (s0.gf a Fld.MGT_START_STATUS_attempts)
  let s3 := [Fld.MGT_BOUNDARY_port0_cable, Fld.MGT_BOUNDARY_port1_cable, Fld.MGT_BOUNDARY_fibre_conn,
    Fld.MGT_BOUNDARY_vin].foldl (fun y f => y.sf b f (s0.gf b f)) s2
  let s4 := [Fld.CLK_REF_STATUS_ref0_present, Fld.CLK_REF_STATUS_ref1_present, Fld.CLK_REF_STATUS_selected].foldl
    (fun y f => y.sf c f (s0.gf c f)) s3
  (ended.foldl (fun y i => y.sf (Reg.STD_STATUS i) Fld.STD_STATUS_run_code 0x0E) s4).stored

/-- The channel actions of tile `t`'s home trunks come to their ends before its reset: an unfinished swap is over, one that waits is
made, and a channel under calibration is its trunk's spare again (R256, R302). [DESIGN CHOICE, assumption 128, unsafe] -/
def State.trunksSettle (s : State) (t : Nat) : State :=
  (upto 8).foldl (fun y h =>
    let a := Reg.OPT_TRUNK_STATE t h
    let y1 := (y.swapEnd t h).calAbandon t h
    if y1.gf a Fld.OPT_TRUNK_STATE_swap_pending = 1 then
      ((y1.swapBegin t h (y1.gf a Fld.OPT_TRUNK_STATE_swap_slot)).swapEnd t h).calAbandon t h
    else y1) s

/-- A tile's modulators leave a park that no fence has made lasting (R289, R299). -/
def State.parksEnd (s : State) (t : Nat) : State :=
  (upto 8).foldl (fun y h => y.sf (Reg.OPT_CH_PARKED t h) Fld.OPT_CH_PARKED_ch
    (y.gf (Reg.OPT_CH_FENCED t h) Fld.OPT_CH_FENCED_ch)) s

/-- The rings of a tile whose own warm start resets them relock from their calibrated codes: its home modulators and inbox receivers
(R307). -/
def State.homeRings (s : State) (t : Nat) : State :=
  let home := fun (c : Nat) => decide (c < 264) || (decide (2748 ≤ c) && decide (c < 2814))
  let w := s.codeWindow t
  s.setFab t { s.fabT t with
    trims := (s.fabT t).trims.map fun (e : Nat × Trim) => if home e.1 then (e.1, { e.2 with code := windowCode w e.2.cal }) else e,
    loops := (s.fabT t).loops.filter fun e => !home e.1,
    lostRings := (s.fabT t).lostRings.filter fun c => !home c }

/-- Every ring of a tile is brought up within its set-point window (R290). -/
def State.windowRings (s : State) (t : Nat) : State :=
  let w := s.codeWindow t
  s.setFab t { s.fabT t with
    trims := (s.fabT t).trims.map fun (e : Nat × Trim) =>
      if ringOf e.1 = .none then e else (e.1, { e.2 with code := windowCode w e.2.code }) }

/-- The network interfaces of a tower go on without their tile (R370): what they have not had acknowledged is theirs to send again. -/
def State.niKeep (s : State) (w : Nat) : State :=
  (upto 128).foldl (fun y k =>
    let g := 128 * w + k
    let c := y.core g
    if c.ni = [] then y
    else y.setCore g { c with ni := c.ni.map fun n => { n with sent := true, grouped := false, sentAt := if n.sent then n.sentAt else y.gtc } }) s

/-- The packet-plane and sequencer state of a tile in reset, all but the remaps that its lanes still wait for: contexts gone, listeners at their held codes (R307, R469); the flows of
its own units take a new epoch (R335), and its sites' links hold nothing in flight (R370). -/
def State.tileLogic (s0 : State) (t : Nat) : State :=
  let s := (s0.trunksSettle t).parksEnd t
  let s1 := (upto 6).foldl (fun y x => y.setCtx t x CtxSt.zero) s
  let s2 := s1.setTile t { PlaneTile.empty with epoch := (s.tile t).epoch + 1, laneRemap := (s.tile t).laneRemap }
  let f := s2.fabT t
  let s3 := s2.setFab t { f with mcast := [], calDone := [], mods := [], msgs := [], reading := none,
                                 lst := f.lst.map fun (e : Nat × Listener) => (e.1, { e.2 with user := none }) }
  (upto 6).foldl (fun y c => (y.setSite (6 * t + c)
    { y.site (6 * t + c) with mods := [], frame := [], sample := none, streams := [], lost := false }).niKeep (6 * t + c)) s3

/-- A warm start begins (R463, R466): the runs end, every register that does not keep its value takes its Warm value, and
every tile's logic is reset. -/
def State.warmBegin (s : State) (bist : Bool) : State :=
  let a := Reg.MGT_START_STATUS
  -- channel actions come to their ends before a register of theirs changes (R256)
  let s0 := (upto 16).foldl (fun y t => (y.trunksSettle t).setAcc t { y.acc t with partialRep := true }) (s.endRuns 0 0x0E)
  let s1 := s0.warmRegs fun a => !isHif a && decide (a ≠ Reg.MGT_START_FAIL) && decide (a ≠ Reg.MGT_START_STATUS)
  let s2 := (((s1.sf a Fld.MGT_START_STATUS_phase 0).sf a Fld.MGT_START_STATUS_step 1).sf a Fld.MGT_START_STATUS_kind 1).sf a
    Fld.MGT_START_STATUS_refused 0
  let s3 := (upto 16).foldl (fun y t => y.tileLogic t) s2
  let s4 := (upto 32).foldl (fun y j => y.stackSleep j) s3
  -- a level change under way is over: the dividers begin again
  let s5 := (upto 16).foldl (fun y i =>
    let b := Reg.STD_GATE_LEVEL i
    (y.setStand i { y.stand i with hostWords := [], hostPending := [], levelPhase := .none }).sf b Fld.STD_GATE_LEVEL_next_level
      (y.gf b Fld.STD_GATE_LEVEL_level)) s4
  -- a stand's power state is per its target (R460)
  let s6 := (upto 16).foldl (fun y i => y.setPState i (y.gf (Reg.PWR_STD_CTL i) Fld.PWR_STD_CTL_target)) s5
  { s6 with regions := [], pwr := [], modK := 0,
            start := { s5.start with bist := bist, from_ := s5.gtc, spent := 0, stepAt := 0, bootServed := false },
            sec := { s5.sec with session := none } }

/-- A request of a cold start (R463): refused after a trip; ignored while one is under way, unless both controllers have failed in it (R509). -/
def State.askCold (s : State) : State :=
  if s.gf Reg.THM_TRIP Fld.THM_TRIP_tripped = 1 then s.sf Reg.MGT_START_STATUS Fld.MGT_START_STATUS_refused 1
  else if s.phase = 0 ∧ s.gf Reg.MGT_START_STATUS Fld.MGT_START_STATUS_kind = 0 ∧ s.unmanaged = false then s
  else s.coldBegin

/-- A request of a warm start: it runs cold where R467 forces it, and is ignored while any start is under way. -/
def State.askWarm (s : State) (bist : Bool) : State :=
  if s.gf Reg.THM_TRIP Fld.THM_TRIP_tripped = 1 then s.sf Reg.MGT_START_STATUS Fld.MGT_START_STATUS_refused 1
  else if s.phase = 0 ∨ s.unmanaged then s
  else if s.gf Reg.MGT_START_STATUS Fld.MGT_START_STATUS_forced_cold = 1 then s.coldBegin
  else s.warmBegin bist

/-! ### Failure and completion (R467, R468) -/

/-- The ticks since the request of the start (R479): those that GTC holds, and those in which it did not run. -/
def State.elapsed (s : State) : Nat := s.start.spent + (s.gtc - s.start.from_).toNat

/-- At least `n` ticks have passed since the step in progress began. -/
def State.atLeast (s : State) (n : Nat) : State :=
  { s with start := { s.start with spent := s.start.spent + (s.start.stepAt + n - s.elapsed) } }

/-- The start fails with a cause and the tile that it names: the record, the counter, and the safe state. -/
def State.startFail (s : State) (cause tile : Nat) : State :=
  let a := Reg.MGT_START_STATUS
  let f := Reg.MGT_START_FAIL
  let kind := s.gf a Fld.MGT_START_STATUS_kind
  let step := s.gf a Fld.MGT_START_STATUS_step
  let ms := s.elapsed / 1000000
  let s1 := s.setReg f (BitVec.ofNat 64 (step + 2 ^ 4 * cause + 2 ^ 8 * (tile % 16) + 2 ^ 12 * kind + 2 ^ 13 +
    2 ^ 32 * (ms % 2 ^ 32)))
  let n := if kind = 1 then min (s.start.warmFails + 1) 3 else 0
  let s2 := ((s1.sfSat a Fld.MGT_START_STATUS_attempts 1).sf a Fld.MGT_START_STATUS_phase 2).sf a Fld.MGT_START_STATUS_step 0
  let s3 := if n ≥ 3 then s2.sf a Fld.MGT_START_STATUS_forced_cold 1 else s2
  let s4 := { s3 with start := { s3.start with warmFails := n } }
  -- a stack whose training the failure cuts short is off (R468)
  let s5 : State := (upto 32).foldl (fun y j =>
    let h := Reg.HBM_STATE (j / 2) (j % 2)
    if y.gf h Fld.HBM_STATE_state = 1 then y.sf h Fld.HBM_STATE_state 0 else y) s4.towersOff
  let b := Reg.OPT_ILK_STATUS
  let s6 :=
    if s5.gf Reg.MGT_BOUNDARY Fld.MGT_BOUNDARY_ilk_closed = 1 then
      (((s5.setIlkPhase 1).sf b Fld.OPT_ILK_STATUS_ready 0).sf Reg.MGT_BOUNDARY Fld.MGT_BOUNDARY_ilk_closed 0).sf
        Reg.MGT_BOUNDARY Fld.MGT_BOUNDARY_ilk_open_seen 1 |>.disarm |>.modCause 8
    else s5.setIlkPhase 1
  if kind = 0 then s6.failWrite else s6

/-- A tower joins stand `i` while an entry or an exit of it is under way (R50, R63): it comes up with the ramp, or follows the entry from
the step under way; on the way to OFF one without power stays off. -/
def State.joinMid (s : State) (i w : Nat) : State :=
  let x := s.pwrS i
  let mask := s.gf (Reg.CLK_SITE_ACTIVE (w / 6) (w % 6)) Fld.CLK_SITE_ACTIVE_mask
  if s.pStep i = 6 then
    -- in the exit it is started unless it is in RUN
    if natBit mask 10 ∨ x.toStart.contains w ∨ x.exiting.contains w then s else s.setPwr i { x with toStart := x.toStart ++ [w] }
  else if branchMask 2 < mask ∨ (mask = 0 ∧ x.goal = some 3) then s
  else ((s.towerRun w [] false).setBranches w 1).padSite w 1

/-- A tower of a stand that no entry or exit moves is brought to the stand's power state `st`; one without power is powered first (R50, R63). -/
def State.towerTo (s : State) (w st : Nat) : State :=
  let mask := s.gf (Reg.CLK_SITE_ACTIVE (w / 6) (w % 6)) Fld.CLK_SITE_ACTIVE_mask
  if mask = branchMask st then s
  else
    let s1 := if mask = 0 ∧ st < 3 ∨ mask ≤ branchMask 2 ∧ st < 2 then s.towerRun w [] false else s
    if st = 0 then (s1.setBranches w 0).padRelease w
    else
      let s2 := (s1.setBranches w st).padSite w 1
      if st = 3 ∧ s2.linkState w = 3 then s2.sf (Reg.SITE_LINK_STATE (w / 6) (w % 6)) Fld.SITE_LINK_STATE_state 0 else s2

/-- Apply the power states to the towers and stacks of stands that are not in a run (R50, R432, R437). After a thermal trip no tower has
power (R36). -/
def State.applyPower (s : State) : State :=
  let s1 := if s.tripped then s else (upto 96).foldl (fun y w =>
    match if y.linkState w ≥ 4 then none else y.standOfTower w with
    | some i => if y.inRun i then y else if y.pStep i ≠ 0 then y.joinMid i w else y.towerTo w (y.pState i)
    | none => y.towerTo w 3) s
  (upto 32).foldl (fun y j =>
    match y.standOfStack j with
    | some i => if y.inRun i then y else y.stackFollow i j
    | none => y.stackSleep j) s1

/-- Step 11 ends: the device is ready. After a cold start every stand takes its target state. [DEDUCED, assumption 83, unsafe] -/
def State.startDone (s : State) : State :=
  let a := Reg.MGT_START_STATUS
  let kind := s.gf a Fld.MGT_START_STATUS_kind
  let s1 := ((((s.sf a Fld.MGT_START_STATUS_phase 1).sf a Fld.MGT_START_STATUS_step 0).sf a Fld.MGT_START_STATUS_attempts 0).sf a
    Fld.MGT_START_STATUS_forced_cold 0).sf Reg.MGT_START_FAIL Fld.MGT_START_FAIL_valid 0
  let s2 := { s1 with start := { s1.start with warmFails := 0 } }
  let s3 :=
    if s2.ilkPhase = 4 then
      ((s2.setIlkPhase 0).sf Reg.OPT_ILK_STATUS Fld.OPT_ILK_STATUS_ready 1).modCause 9
    else s2
  if kind = 1 then (s3.sfSat a Fld.MGT_START_STATUS_starts 1).applyPower
  else
    let s4 := (upto 16).foldl (fun y i => y.setPState i (y.gf (Reg.PWR_STD_CTL i) Fld.PWR_STD_CTL_target)) s3
    let s5 := (s4.sf a Fld.MGT_START_STATUS_starts 0).applyPower
    (upto 16).foldl (fun y t => y.chooseInputs t) s5

/-! ### One tile (R469 to R471) -/

/-- The stands that own a tower or a stack on tile `t`. -/
def State.standsOn (s : State) (t : Nat) : List Nat :=
  (upto 16).filter fun i => planValid s.planForce i &&
    ((s.tilesOf i).contains t || (s.stacksOf i).any fun j => j / 2 == t)

/-- A tile warm start begins (R470, R471). [DEDUCED, assumption 78, safe] -/
def State.tileReset (s : State) (t : Nat) : State :=
  let s1 := ((s.standsOn t).filter s.inRun).foldl (fun y i => y.standFatal i { ErrInfo.plain 12 0x20 with tile := some t }) s
  let s2 := ((s1.tileLogic t).homeRings t).warmRegs fun a => decide (a / 0x1_0000_0000 = t + 1)
  let s3 := [2 * t, 2 * t + 1].foldl (fun y j => y.stackSleep j) s2
  let h := Reg.OPT_HOLD_STATE t
  let s4 := (s3.sf h Fld.OPT_HOLD_STATE_held 1).setFab t
    { s3.fabT t with holdTemp := some ((s.baseTemp t % 4096).toNat) }
  let s5 := s4.setAcc t { s4.acc t with partialRep := true }
  (s5.sf Reg.MGT_TILE_CTL Fld.MGT_TILE_CTL_busy 1).sfSat Reg.MGT_TILE_CTL Fld.MGT_TILE_CTL_count 1

/-- A tile's deskew: what it measures is the module's own. -/
def State.deskew (s : State) (t : Nat) : State :=
  let (d, s1) := s.takeBelow 1024
  let (r, s2) := s1.takeBelow 33
  s2.setReg (Reg.CLK_TILE_DESKEW t) (BitVec.ofNat 64 (d + 2 ^ 10 * ((r + 48) % 64)))

/-- A tile that took the spare branch in service is deskewed over it, and its GTC PLL leaves holdover, unless every PLL is in holdover
(R431). -/
def State.deskewed (s : State) (t : Nat) : State :=
  if !s.clk.deskew.contains t then s
  else
    let s1 := { s.deskew t with clk := { s.clk with deskew := s.clk.deskew.filter (· ≠ t) } }
    if s1.clk.holdFrom.isSome then s1 else s1.sf (Reg.CLK_TILE_STATUS t) Fld.CLK_TILE_STATUS_holdover 0

/-- A tile warm start ends: the rings are locked, blocks end, the stacks of awake stands leave self-refresh, the lane remaps that waited are
made where no run is exposed to the tile any more, and the site links retrain, each die taking GTC anew (R370, R471). -/
def State.tileResume (s : State) (t : Nat) : State :=
  let h := Reg.OPT_HOLD_STATE t
  let s0 := ((s.sf h Fld.OPT_HOLD_STATE_held 0).sf h Fld.OPT_HOLD_STATE_parked 0).heatersBack t
  -- every held ring relocks from its latched code; a listener that serves no circuit any more parks
  let s1 := (s0.fabT t).holdCodes.foldl (fun y (c : Nat × BitVec 12) => y.setTrim t c.1 { y.trim t c.1 with code := c.2 }) s0
  let f := s1.fabT t
  let rest := fun (l : Listener) => { l with lost := false, mode := if l.mode = .fenced ∨ l.user.isSome then l.mode else .parked }
  let s2 := s1.setFab t { f with holdTemp := none, lostRings := [], holdCodes := [],
                                 lst := f.lst.map fun (e : Nat × Listener) => (e.1, rest e.2) }
  let s3 := [2 * t, 2 * t + 1].foldl (fun y j =>
    match y.standOfStack j with
    | some i => y.stackFollow i j
    | none => y) (s2.deskewed t)
  let s4 := (upto 6).foldl (fun y c => (y.siteTrain (6 * t + c) [] false)) (s3.remapsNow t)
  s4.sf Reg.MGT_TILE_CTL Fld.MGT_TILE_CTL_busy (boolNat ((upto 16).any s4.tileHeld))

end Sys2Proof.Machine
end

