-- ==== Sys2Proof/Machine/StartOps.lean ====
section
/-! DEFINITION. The commands of starts and of tile warm starts (R462 to R471). -/

namespace Sys2Proof.Machine

/-- A write of 1 to MGT_START_CTL.cold. -/
def execStartCold (p : Nat) (s : State) : Host.Outcome State Fault Refusal :=
  s.hostWrite p Reg.MGT_START_CTL fun s => s.managed (.startCold p) State.askCold

/-- A write of 1 to MGT_START_CTL.warm, with the bist bit of the same write. -/
def execStartWarm (p : Nat) (bist : Bool) (s : State) : Host.Outcome State Fault Refusal :=
  s.hostWrite p Reg.MGT_START_CTL fun s => s.managed (.startWarm p bist) fun s => s.askWarm bist

/-! ### The references (R417, R418) -/

def presentFld (r : Nat) : Fld := if r = 0 then Fld.CLK_REF_STATUS_ref0_present else Fld.CLK_REF_STATUS_ref1_present
def qualFld (r : Nat) : Fld := if r = 0 then Fld.CLK_REF_STATUS_ref0_qual else Fld.CLK_REF_STATUS_ref1_qual

/-- A field of CLK_REF_STATUS. -/
def State.refs (s : State) (f : Fld) : Nat := s.gf Reg.CLK_REF_STATUS f
def State.setRefs (s : State) (f : Fld) (v : Nat) : State := s.sf Reg.CLK_REF_STATUS f v
def State.refSel (s : State) : Nat := s.refs Fld.CLK_REF_STATUS_selected
def State.refMode (s : State) : Nat := s.refs Fld.CLK_REF_STATUS_mode

/-- CLK_STANDBY_PPM: the offset of the unselected reference, 0x8000 while it is absent (R417). -/
def State.standby (s : State) (off : BitVec 16) : State :=
  s.sf Reg.CLK_STANDBY_PPM Fld.CLK_STANDBY_PPM_ppm (if s.refs (presentFld (1 - s.refSel)) = 0 then 0x8000 else off.toNat)

/-- The offset of the unselected reference as it is measured now: the surroundings' own, and never the code for an absent one (R417). -/
def State.standbyMeasure (s : State) : State :=
  if s.refs (presentFld (1 - s.refSel)) = 0 then s.standby 0
  else
    let (n, s1) := s.takeBelow 0xFFFF
    s1.standby (BitVec.ofNat 16 (if n < 0x8000 then n else n + 1))

/-! ### The steps (R464, R466) -/

/-- Step 1: a reference is in use and every tile's PLLs are locked; when tile 0's first lock after power-up the bedrock clock moves to
its GTC clock, a switch that waits where the reference has stopped (R421, R425). -/
def State.step1 (s : State) (r : Nat) : State :=
  let c := Reg.CLK_REF_STATUS
  let s1 :=
    if s.gf c Fld.CLK_REF_STATUS_mode = 0 then
      let pres := if r = 0 then Fld.CLK_REF_STATUS_ref0_present else Fld.CLK_REF_STATUS_ref1_present
      let qual := if r = 0 then Fld.CLK_REF_STATUS_ref0_qual else Fld.CLK_REF_STATUS_ref1_qual
      (((s.sf c Fld.CLK_REF_STATUS_selected r).sf c pres 1).sf c qual 1).sf c Fld.CLK_REF_STATUS_mode 1
    else s
  let s2 := (upto 16).foldl (fun y t => if y.feedless t then y else y.setLocks t true) s1
  let s2 := if s.gf c Fld.CLK_REF_STATUS_mode = 0 then s2.standbyMeasure else s2
  if s2.clk.bed then s2
  else { s2 with clk := { s2.clk with bed := !s2.clk.switching, bedWait := s2.clk.switching } }

/-- A tile's normal feed is out: the spare branch's tap takes it, or the tile goes out of service with its towers and
stacks (R430), as one does whose feed over the spare branch fails: it keeps its bit of the branch. The flag says whether the spare branch
took it. [DESIGN CHOICE, assumption 164, unsafe] -/
def State.feedOut (s : State) (t : Nat) : Bool × State :=
  let a := Reg.CLK_TILE_STATUS t
  let m := s.gf Reg.CLK_TREE Fld.CLK_TREE_spare_tiles
  let used := ((upto 16).filter fun k => natBit m k).length
  if natBit m t || decide (used ≥ 4) then
    let s1 := (s.setLocks t false).dead 0x13 t 0xFF 0 0 0
    let s2 := (upto 6).foldl (fun y c => y.degradeTower (6 * t + c) 0x1F) s1
    (false, [2 * t, 2 * t + 1].foldl (fun y j => y.degradeStack j 0x1F) s2)
  else
    (true, ((s.sfBit Reg.CLK_TREE Fld.CLK_TREE_spare_tiles t).sf a Fld.CLK_TILE_STATUS_on_spare 1).dead 0x12 t 0xFF 0 0 0)

/-- Step 2 of a cold start: the tree test, deskew, and every counter at 0. -/
def State.step2 (s : State) (feeds : List Nat) : State :=
  let s1 := (feeds.filter (· < 16)).foldl (fun y t => (y.feedOut t).2) s
  -- the ticks so far are counted apart from GTC
  (upto 16).foldl (fun y t => y.deskew t) { s1 with gtc := 0, start := { s1.start with spent := s1.elapsed, from_ := 0 } }

/-- Step 2 of a warm start: the tiles that R431 has left undeskewed (R466). -/
def State.step2Warm (s : State) : State := s.clk.deskew.foldl (fun y t => y.deskewed t) s

/-- A site's descriptor is read in step 5: incompatible, or in training. A site that gave none is empty. -/
def State.discover (s : State) (w : Nat) (d : Option (BitVec 512)) : State :=
  let a := Reg.SITE_LINK_STATE (w / 6) (w % 6)
  match d with
  | none => ((s.sf a Fld.SITE_LINK_STATE_state 6).sf (Reg.SITE_CENSUS0 w) Fld.SITE_CENSUS0_state 6).siteOff w
  | some d =>
    if descBad d then ((s.census w d 5).sf a Fld.SITE_LINK_STATE_state 5).siteOff w
    else (s.census w d 2).sf a Fld.SITE_LINK_STATE_state 2

/-- Does a warm start bring the site up in full? -/
def State.linkWasDown (s : State) (w : Nat) : Bool := s.gf (Reg.SITE_EVENTS (w / 6) (w % 6)) Fld.SITE_EVENTS_link_event == 1

/-- The descriptor that a finding holds of a tower. -/
def StepFinding_site (f : StepFinding) (w : Nat) : Option (BitVec 512) := (f.sites.find? fun q => q.1 = w).map (·.2)

/-- The modules of a tower that do not train; with none left its site fails. -/
def StepFinding_out (f : StepFinding) (w : Nat) : List Nat := (f.badModules.filter fun q => q.1 = w).map (·.2)

/-- Does the bring-up of a tower's site fail? -/
def StepFinding_bad (f : StepFinding) (w : Nat) : Bool :=
  f.badSites.contains w || (upto 17).all fun m => (StepFinding_out f w).contains m

/-- Step 6: main-band training. A warm start brings a site up in full where its link was down, whatever it was before. [DEDUCED, assumption 81, unsafe] -/
def State.step6 (s : State) (kind : Nat) (f : StepFinding) : State :=
  if kind = 0 then
    let s1 := (upto 96).foldl (fun y w =>
      if y.linkState w ≠ 2 then y
      else if StepFinding_bad f w then y.siteFailed w
      else y.bringUp w (BitVec.ofNat 512 (y.descOf w)) (StepFinding_out f w)) s
    s1.censusGen
  else
    (upto 96).foldl (fun y w =>
      if y.linkWasDown w then
        match StepFinding_site f w with
        | some d => if StepFinding_bad f w then (y.siteFailed w).censusGen else (y.dieReset w).siteBack w d (StepFinding_out f w)
        | none => (y.siteFailed w).censusGen
      else y.siteTrain w (StepFinding_out f w) (StepFinding_bad f w)) s

/-- Step 7: HBM training and zeroing, or the stacks' return from self-refresh. [DEDUCED, assumption 82, unsafe] -/
def State.step7 (s : State) (kind : Nat) (bad : List Nat) : State :=
  if kind = 0 then
    (upto 32).foldl (fun y j =>
      let a := Reg.HBM_STATE (j / 2) (j % 2)
      if bad.contains j then
        let z := (y.sf a Fld.HBM_STATE_state 4).contained { ErrInfo.plain 3 0x0C with tile := some (j / 2), site := some (6 + j % 2) }
        -- the map records the stack once (R387)
        if z.dwm.any fun e => e.kind.toNat == 0x0F && e.tile.toNat == j / 2 && e.site.toNat == 6 + j % 2 then z
        else z.dead 0x0F (j / 2) (6 + j % 2) 0 0 4
      else y.sf a Fld.HBM_STATE_state 2) { s with mem := [], poison := [] }
  else (upto 32).foldl (fun y j =>
    match y.standOfStack j with
    | some i => y.stackFollow i j
    | none => y) s

/-- Step 8: the self-test of every physical core of the compute dies in the census; step 9 fills the places (R465). -/
def State.step8 (s : State) (bad : List Nat) : State :=
  (bad.filter fun b => decide (b / 136 < 96)).foldl (fun y b =>
    let w := b / 136
    if y.linkState w = 3 ∧ !y.openSite w then y.bistMark w (b % 136 / 17) (b % 17) else y) s

/-- Does every base sensor of every tile that is not retired read at least 25 °C (R292)? Until then every heater stands at full scale. [DEDUCED, assumption 130, safe] -/
def State.baseWarm (s : State) : Bool :=
  (upto 16).all fun t => [36, 37, 38, 39].all fun k =>
    s.gf (Reg.THM_CH t k) Fld.THM_CH_retired == 1 || decide (200 ≤ signed12 (s.gf (Reg.THM_CH t k) Fld.THM_CH_value))

/-- Does a cold start warm the base with every heater at full scale? -/
def State.heatersFull (s : State) : Bool :=
  s.phase == 0 && s.gf Reg.MGT_START_STATUS Fld.MGT_START_STATUS_kind == 0 &&
    s.gf Reg.MGT_START_STATUS Fld.MGT_START_STATUS_step == 10 && !s.baseWarm

/-- Is this the converter of a ring's heater? -/
def heaterConv (c : Nat) : Bool := decide (c < 264) || (decide (528 ≤ c) && decide (c < 2814))

/-- A ring that fails the sweep: its channel is fenced, or its inbox lane, which is retired where it is the packet modulator that cannot
lock (R279, R346), or the listener (R464). -/
def State.ringOut (s : State) (tr ch : Nat) (mod : Bool) : State :=
  if tr < 128 then s.fenceChannel (tr / 8) (tr % 8) ch
  else if 160 ≤ tr then s.fenceListener (tr - 160) ch
  else
    let t := (tr - 128) / 2
    match s.chLane t (tr % 2) ch with
    | some l => s.fenceLaneAs t (tr % 2) l mod
    | none => s

/-- Does a failure of R467 belong to the step of that kind of start? -/
def failFits (step kind cause : Nat) : Bool :=
  match cause with
  | 1 | 2 => step == 1
  | 3 => step == 3
  | 4 | 5 => step == 4 && kind == 0
  | 6 => step != 3
  | 7 => step == 10
  | 8 => step == 11 && kind == 1
  | _ => false

/-- At a warm start's step 3: an image in memory whose digest is not the bedrock domain's is none, and the step goes on as at a cold
start (R466). -/
def State.imageStale (s : State) : Bool :=
  match s.sec.image with
  | some (d, _) => d != s.sec.bedDigest
  | none => false

/-- What the end of step `n` leaves; none where the step cannot have ended yet. -/
def State.stepEnd (s : State) (n kind : Nat) (f : StepFinding) : Option State :=
  match n with
  | 1 => if s.clk.stopped || s.clk.holdFrom.isSome then none else some (s.step1 f.ref.toNat)
  | 2 => some (if kind = 0 then s.step2 f.feeds else s.step2Warm)
  | 3 =>
    if s.sec.image.isNone then none
    else
      let (k, s1) := s.takeKey
      some { s1 with sec := { s1.sec with session := some k } }
  | 4 =>
    let s1 := if kind = 0 then s.loadStore f.badRecs else s.identity
    some (if s1.start.failRec then s1.failWrite else s1)
  | 5 => some (if kind = 0 then (upto 96).foldl (fun y w =>
      if StepFinding_bad f w then y.siteFailed w else y.discover w (StepFinding_site f w)) s else s)
  | 6 =>
    -- step 7 begins: every stack is in training
    let s1 := s.step6 kind f
    some (if kind = 0 then (upto 32).foldl (fun y j => y.sf (Reg.HBM_STATE (j / 2) (j % 2)) Fld.HBM_STATE_state 1) s1 else s1)
  | 7 => some (s.step7 kind f.badStacks)
  | 8 => some (if kind = 0 ∨ s.start.bist then s.step8 f.badCores else s)
  | 9 =>
    let s1 := s.applyMap kind
    some (if s1.ilkPhase = 1 then s1.setIlkPhase 2 else s1)
  | 10 =>
    -- a cold start's ring sweep waits until every base sensor reads 25 °C (R292)
    if s.gf Reg.MGT_BOUNDARY Fld.MGT_BOUNDARY_ilk_closed = 1 ∧ (kind ≠ 0 ∨ s.baseWarm) then some s else none
  | 11 =>
    if s.ilkPhase = 0 ∨ s.ilkPhase = 4 then
      let s := (upto 16).foldl (fun y t => y.windowRings t) s
      let ok := fun (q : Nat × Nat) => if q.1 < 160 then decide (q.2 < 33) else decide (q.1 < 176) && decide (q.2 < 1080)
      some ((f.badMods.filter ok).foldl (fun y q => y.ringOut q.1 q.2 true)
        ((f.badRings.filter ok).foldl (fun y q => y.ringOut q.1 q.2 false) s))
    else none
  | _ => none

/-- The step in progress ends (R464, R466): with a failure of R467, or with the next step begun; after step 11 the start is
complete. A cold start none of whose store copies can be read cannot load (R522), and after a thermal trip no step gets its power back (R36). -/
def execStartStepComplete (f : StepFinding) (s : State) : Host.Outcome State Fault Refusal :=
  let a := Reg.MGT_START_STATUS
  let n := s.gf a Fld.MGT_START_STATUS_step
  let kind := s.gf a Fld.MGT_START_STATUS_kind
  if !s.power ∨ s.phase ≠ 0 ∨ s.tripped = true ∨ s.unmanaged = true ∨ s.clk.stopped = true then .next s
  else match f.fail with
    | some (c, t) => if failFits n kind c.toNat then .next (s.startFail c.toNat t.toNat) else .next s
    | none =>
      if n = 3 ∧ kind = 1 ∧ s.imageStale then .next { s with sec := { s.sec with image := none } }
      else
      let s0 := if n = 4 ∧ kind = 0 then s.copiesRead f.badCopies else s
      if n = 4 ∧ kind = 0 ∧ !s0.copy0.ok ∧ !s0.copy15.ok then .next (s0.startFail 4 0)
      else match s0.stepEnd n kind f with
        | none => .next s
        | some s1 =>
          if n = 11 then
            let s2 := s1.startDone
            .next (if s2.parkHeld then s2.parkAll else s2)
          else .next ({ s1 with start := { s1.start with stepAt := s1.elapsed } }.sf a Fld.MGT_START_STATUS_step (n + 1))

/-- Twice the limit of step `n` in ticks; of step 10 the 10 s after which an open loop fails it (R464, R467). -/
def stepLimit (n : Nat) : Nat :=
  [0, 4000000, 10000000, 600000000, 400000000, 6400000, 20200000, 600000000, 300000000, 2000000, 10000000000, 16000000000].getD n 0

/-- The step in progress runs past its limit (R467); the wait for a firmware image has none. -/
def execStartStepTimeout (tile : BitVec 4) (s : State) : Host.Outcome State Fault Refusal :=
  let n := s.gf Reg.MGT_START_STATUS Fld.MGT_START_STATUS_step
  if !s.power ∨ s.phase ≠ 0 ∨ s.unmanaged = true ∨ s.clk.stopped = true ∨ (n = 3 ∧ s.sec.image.isNone) then .next s
  else
    let noRef := decide (n = 1) && s.gf Reg.CLK_REF_STATUS Fld.CLK_REF_STATUS_mode == 0
    let open_ := decide (n = 10) && s.gf Reg.MGT_BOUNDARY Fld.MGT_BOUNDARY_ilk_closed == 0
    -- a start's failure is not earlier than the limit that it has run past
    .next ((s.atLeast (if noRef then 1000000000 else stepLimit n)).startFail (if noRef then 1 else if open_ then 7 else 6) tile.toNat)

/-! ### Tile warm starts (R469 to R471) -/

/-- A write of MGT_TILE_CTL: the tile field, the refused bit's clear, and with start the request. A tile in its own warm
start is left alone; one with a run on it is refused. [DEDUCED, assumption 98, unsafe] -/
def State.tileCtl (s : State) (v : Nat) : State :=
  let a := Reg.MGT_TILE_CTL
  let t := v % 16
  let s1 := s.sf a Fld.MGT_TILE_CTL_tile t
  let s2 := if natBit v 6 then s1.sf a Fld.MGT_TILE_CTL_refused 0 else s1
  if !natBit v 4 || s.phase ≠ 1 || s.tileOut t then s2
  else if (s.standsOn t).any s.inRun then s2.sf a Fld.MGT_TILE_CTL_refused 1
  else s2.tileReset t

def execTileWarmStartRequest (p : Nat) (v : BitVec 32) (s : State) : Host.Outcome State Fault Refusal :=
  s.hostWrite p Reg.MGT_TILE_CTL fun s => s.managed (.tileWarmStart p v) fun s => s.tileCtl v.toNat

/-- The tile has relocked its rings and verified its tags. -/
def execTileWarmStartComplete (t : Nat) (s : State) : Host.Outcome State Fault Refusal :=
  if t ≥ 16 then .fault .noSuchUnit else if s.tileHeld t then .next (s.tileResume t) else .next s

end Sys2Proof.Machine
end

