-- ==== Sys2Proof/Machine/Clocks.lean ====
section
/-! DEFINITION. The clock references, holdover and the tile feeds (R416 to R431), and the tick. -/

namespace Sys2Proof.Machine

/-- A tick of 1 ns: GTC counts while a reference is in use or held over (R419, R427); the ticks of a start in which it does not are counted
too (R479). [DESIGN CHOICE, assumption 2, safe] -/
def State.tick (s : State) : State :=
  if s.power && s.gf Reg.CLK_REF_STATUS Fld.CLK_REF_STATUS_mode != 0 && !s.clk.stopped then { s with gtc := s.gtc + 1 }
  else if s.power && s.phase == 0 then { s with start := { s.start with spent := s.start.spent + 1 } }
  else s

/-! ### Clock observation (R38, R424, R433) -/

/-- Does the clock that a value of CLK_OBS_SEL selects run (R433)? A PLL's gives edges where it is locked, the bedrock clock where its source
does. -/
def State.obsRuns (s : State) (w : Nat) : Bool :=
  let t := natBits w 3 4
  let c := natBits w 7 3
  let mask := s.gf (Reg.CLK_SITE_ACTIVE t c) Fld.CLK_SITE_ACTIVE_mask
  match natBits w 0 3 with
  | 1 => s.refs Fld.CLK_REF_STATUS_ref0_present == 1
  | 2 => s.refs Fld.CLK_REF_STATUS_ref1_present == 1
  | n => !s.clk.stopped && match n with
    | 3 => !s.clk.bedWait || s.refs (presentFld s.refSel) == 1
    | 4 => s.gf (Reg.CLK_TILE_STATUS t) Fld.CLK_TILE_STATUS_gtc_lock == 1
    | 5 => s.gf (Reg.CLK_TILE_STATUS t) Fld.CLK_TILE_STATUS_fabric_lock == 1
    | 6 => natBit mask 14
    | _ => natBit mask (natBits w 10 4) && s.gf (Reg.CLK_SITE_DIV t c) Fld.CLK_SITE_DIV_gated == 0

/-- What clk_obs shows: a level at which it is held, or a clock by its source code and by how many halvings it is divided. -/
inductive ObsOut where
  | held (level : Bool)
  | clock (source n : Nat)
  deriving DecidableEq, Repr

/-- The output of clk_obs: low while no clock is selected (R38); the level of the old clock while a switch waits for its edge, then low until
the new clock gives one (R424); the last level of a clock that is gated or stopped (R433). [DEDUCED, assumption 133, safe] -/
def State.clkObs (s : State) : ObsOut :=
  let w := (s.reg Reg.CLK_OBS_SEL).toNat
  let old := s.clk.obsWait.filter fun o => !s.obsRuns o
  if natBits w 0 3 = 0 then .held false
  else match old with
    | some o => .held (Config.clockLevel o)
    | none =>
      if s.obsRuns w then .clock (natBits w 0 3) (natBits w 14 5)
      else if s.clk.obsLow then .held false else .held (Config.clockLevel w)

/-- CLK_OBS_SEL has changed from `old`: a change of the clock waits where the one shown has stopped, and leaves the output low until the new
one runs. [DEDUCED, assumption 133, safe] -/
def State.obsSwitch (s : State) (old : Nat) : State :=
  let new := (s.reg Reg.CLK_OBS_SEL).toNat
  let shown := s.clk.obsWait.filter fun o => !s.obsRuns o
  if natBits old 0 14 = natBits new 0 14 then s
  else if natBits new 0 3 = 0 then { s with clk := { s.clk with obsWait := none, obsLow := true } }
  else if shown.isSome then s
  else if natBits old 0 3 = 0 ∨ s.obsRuns old ∨ s.clk.obsLow then { s with clk := { s.clk with obsWait := none, obsLow := !s.obsRuns new } }
  else { s with clk := { s.clk with obsWait := some old, obsLow := !s.obsRuns new } }

/-! ### The references -/

/-- Every tile's GTC PLL enters or leaves holdover; that of a tile without a feed, or not yet deskewed, stays where it is (R430, R431). -/
def State.setHoldover (s : State) (v : Nat) : State :=
  (upto 16).foldl (fun y t => if y.feedless t || y.clk.deskew.contains t then y else y.sf (Reg.CLK_TILE_STATUS t) Fld.CLK_TILE_STATUS_holdover v) s

/-- Is an offset in tenths of a ppm outside the window of ±700 ppm (R417)? -/
def offOut (off : BitVec 16) : Bool := decide (off.toInt > 7000) || decide (off.toInt < -7000)

/-- The bedrock clock's switch to tile 0's GTC clock, where it waits for an edge of its old clock that has come (R421, R425). -/
def State.bedTurn (s : State) : State :=
  if s.clk.bedWait then { s with clk := { s.clk with bedWait := false, bed := true } } else s

/-- A reference switch completes (R418, R419): no jump in GTC, and the offset of the reference left behind reads `off`. -/
def State.switchDone (s : State) (forced : Bool) (off : BitVec 16) : State :=
  let a := Reg.CLK_SWITCH_STATUS
  let s1 := (s.setRefs Fld.CLK_REF_STATUS_selected (1 - s.refSel)).setReg Reg.CLK_SWITCH_GTC s.gtc
  let s2 := s1.sfSat a Fld.CLK_SWITCH_STATUS_switches 1
  let s3 := if forced then s2.sf a Fld.CLK_SWITCH_STATUS_ref_forced 1 else s2
  let s4 := s3.standby off
  ((State.bedTurn { s4 with clk := { s4.clk with switching := false } }).corrected (ErrInfo.plain 9 5)).modCause 10

/-- Holdover begins (R426): module-fatal error 0x03, and every stand is parked. -/
def State.holdover (s : State) : State :=
  let s1 := (s.setRefs Fld.CLK_REF_STATUS_mode 2).setHoldover 1
  let s2 := { s1 with clk := { s1.clk with switching := false, holdFrom := some s1.gtc } }
  (s2.moduleFatal (ErrInfo.plain 9 3)).parkAll

/-- 40 ticks without a rising edge: the reference is lost. A selected one gives way to the other where that is qualified
(the switch ends by R425, since the old clock gives no falling edge), or the clocks enter holdover. [DEDUCED, assumption 76, unsafe] -/
def execReferenceLost (r : Nat) (s : State) : Host.Outcome State Fault Refusal :=
  if r ≥ 2 then .fault .noSuchUnit
  else if !s.power then .next s
  else
    let gone := (s.setRefs (presentFld r) 0).setRefs (qualFld r) 0
    -- no offset is measured of an unselected reference that is absent (R417)
    let s1 := if r = s.refSel ∧ s.refMode ≠ 0 then gone else gone.sf Reg.CLK_STANDBY_PPM Fld.CLK_STANDBY_PPM_ppm 0x8000
    let other := s1.refs (qualFld (1 - r)) = 1
    if s.refMode ≠ 1 then .next s1
    else if r = s.refSel then
      if s.clk.switching then .next s1
      else if other then .next { s1 with clk := { s1.clk with switching := true } }
      else .next s1.holdover
    -- the reference that the selector was moving to is gone
    else .next (if s.clk.switching then s1.holdover else s1)

/-- The reference at `r` is present and qualified. -/
def State.refWell (s : State) (r : Nat) : State := (s.setRefs (presentFld r) 1).setRefs (qualFld r) 1

/-- A reference qualifies (R417), at an offset of `ppm` tenths of a ppm from the selected one; the first one of a cold start
is taken, and on a tie that of port 0 (R418). In holdover its return is REFERENCE_ACCEPTED. -/
def execReferenceQualified (x : RefSeen) (ppm : BitVec 16) (s : State) : Host.Outcome State Fault Refusal :=
  if x.r ≥ 2 then .fault .noSuchUnit
  else if !s.power ∨ s.refMode = 2 then .next s
  else
    -- an edge of the selected reference ends what waits for one
    let s1 := if x.r = s.refSel ∧ s.refMode = 1 then (s.refWell x.r).bedTurn else s.refWell x.r
    if s.refMode = 0 then
      let s2 := if x.tie then s1.refWell (1 - x.r) else s1
      .next (((s2.setRefs Fld.CLK_REF_STATUS_selected (if x.tie then 0 else x.r)).setRefs Fld.CLK_REF_STATUS_mode 1).standby x.off)
    else if x.r = s.refSel then .next s1
    else if offOut ppm then .next s
    else .next (s1.standby ppm)

/-- The unselected reference has been out of the window for 10,000 ticks, at the offset measured now. -/
def execReferenceDisqualified (x : RefOff) (s : State) : Host.Outcome State Fault Refusal :=
  if x.r ≥ 2 then .fault .noSuchUnit
  else if s.refMode = 1 ∧ x.r ≠ s.refSel ∧ !s.clk.switching ∧ offOut x.off then
    .next ((s.setRefs (qualFld x.r) 0).standby x.off)
  else .next s

/-- A write of CLK_REF_CTL with switch set: its prefer bit is written, and a switch is made, unless one is under way, or refused.
[DEDUCED, assumption 76, unsafe, DEDUCED, assumption 98, unsafe] -/
def execSwitchRef (x : RefSwitch) (s : State) : Host.Outcome State Fault Refusal :=
  s.hostWrite x.p Reg.CLK_REF_CTL fun s =>
    let s1 := (s.sf Reg.CLK_REF_CTL Fld.CLK_REF_CTL_prefer (boolNat x.prefer)).settingsSave
    if s1.refMode = 1 ∧ s1.refs (qualFld (1 - s1.refSel)) = 1 then (if s1.clk.switching then s1 else s1.switchDone false x.off)
    else s1.sf Reg.CLK_SWITCH_STATUS Fld.CLK_SWITCH_STATUS_refused 1

/-- The 64th edge of the new clock passes with no falling edge of the old one (R425): of the references, of the bedrock clock's sources,
else of the clocks that clk_obs shows. The flag rises only where the old clock stands. A region's divider runs whenever it is gated or
released, so that no region switch is forced. [DEDUCED, assumption 133, safe] -/
def execSwitchForcedComplete (s : State) : Host.Outcome State Fault Refusal :=
  let a := Reg.CLK_SWITCH_STATUS
  let gone := s.refs (presentFld s.refSel) == 0
  if s.clk.switching then
    let (n, s1) := s.takeBelow 0xFFFF
    .next (s1.switchDone gone (BitVec.ofNat 16 (if n < 0x8000 then n else n + 1)))
  else if s.clk.bedWait ∧ s.clk.stopped = false ∧ s.gf (Reg.CLK_TILE_STATUS 0) Fld.CLK_TILE_STATUS_gtc_lock = 1 then
    .next (if gone then s.bedTurn.sf a Fld.CLK_SWITCH_STATUS_region_forced 1 else s.bedTurn)
  else match s.clk.obsWait with
    | some old =>
      if !s.obsRuns (s.reg Reg.CLK_OBS_SEL).toNat then .next s
      else
        let s1 : State := { s with clk := { s.clk with obsWait := none, obsLow := false } }
        .next (if s.obsRuns old then s1 else s1.sf a Fld.CLK_SWITCH_STATUS_obs_forced 1)
    | none => .next s

/-! ### Holdover and time gaps (R426 to R428) -/

/-- Holdover reaches 1,000,000 ticks: every PLL and GTC stop, and no PLL is locked any more. -/
def execHoldoverExpiry (s : State) : Host.Outcome State Fault Refusal :=
  match s.clk.holdFrom with
  | none => .next s
  | some t =>
    let s1 := s.gtcTo (t.toNat + 1000000)
    let s2 := (upto 16).foldl (fun y k => y.setLocks k false) (s1.setReg Reg.CLK_GAP_STOP s1.gtc)
    .next { s2 with clk := { s2.clk with holdFrom := none, stopped := true } }

/-- A reference is in use again after a holdover: the port named, or on a tie the preferred one (R418); the PLLs that had stopped lock.
[DEDUCED, assumption 76, unsafe] -/
def State.refBack (s : State) (x : RefSeen) : State :=
  let w := if x.tie then s.gf Reg.CLK_REF_CTL Fld.CLK_REF_CTL_prefer else x.r
  let s0 := if x.tie then (s.refWell x.r).refWell (1 - x.r) else s.refWell x.r
  let s1 := ((s0.setRefs Fld.CLK_REF_STATUS_selected w).standby x.off).setRefs Fld.CLK_REF_STATUS_mode 1
  let s2 := s1.setHoldover 0
  let s3 := if s.clk.stopped then (upto 16).foldl (fun y t => if y.feedless t then y else y.setLocks t true) s2 else s2
  State.bedTurn { s3 with clk := { s3.clk with switching := false, holdFrom := none, stopped := false } }

/-- A returning reference is accepted: within holdover GTC goes on; after a stop it resumes from G_stop + 1, a gap is
recorded and every tile warm-starts. The parked runs end either way. -/
def execReferenceAccepted (x : RefSeen) (lo hi : BitVec 32) (s : State) : Host.Outcome State Fault Refusal :=
  if x.r ≥ 2 then .fault .noSuchUnit
  else if s.clk.stopped then
    let g := Reg.CLK_GAP
    let s1 : State := { s.refBack x with gtc := s.reg Reg.CLK_GAP_STOP + 1 }
    let s2 := ((s1.sf g Fld.CLK_GAP_gap 1).sfSat g Fld.CLK_GAP_count 1).sf Reg.CLK_GAP_LO Fld.CLK_GAP_LO_ms lo.toNat
    let s3 := ((s2.sf Reg.CLK_GAP_HI Fld.CLK_GAP_HI_ms hi.toNat).parkReturn).modCause 11
    if (decide (s3.phase = 1) && !s3.unmanaged && decide (s3.gf Reg.THM_TRIP Fld.THM_TRIP_tripped = 0)) = true then
      .next (s3.warmBegin false)
    else .next s3
  else if s.clk.holdFrom.isSome then .next (s.refBack x).parkReturn
  else .next s

/-! ### A tile's feed (R430, R431) -/

/-- A tile's feed fails in service: every stand with towers on the tile takes 0x1F (contained code 0x10 for one that is in no run,
R481), its level change given up, and the tile warm-starts on the spare branch, or goes out of service. [DEDUCED, assumption 77, unsafe] -/
def execTileFeedFault (t : Nat) (s : State) : Host.Outcome State Fault Refusal :=
  if t ≥ 16 then .fault .noSuchUnit
  else if s.phase ≠ 1 ∨ s.gf (Reg.CLK_TILE_STATUS t) Fld.CLK_TILE_STATUS_gtc_lock = 0 then .next s
  else
    let s1 := s.sf Reg.CLK_TREE Fld.CLK_TREE_feed_fault 1
    let s2 := ((upto 16).filter fun i => planValid s.planForce i && (s.tilesOf i).contains t).foldl
      (fun y i => (y.levelStop i).standFatal i { ErrInfo.plain 9 0x1F with tile := some t }) s1
    -- its PLL is in holdover until it is deskewed over the spare branch, if it ever is
    let k := s2.clk.deskew.filter (· ≠ t)
    match (s2.sf (Reg.CLK_TILE_STATUS t) Fld.CLK_TILE_STATUS_holdover 1).feedOut t with
    | (true, s3) => .next (State.tileReset { s3 with clk := { s3.clk with deskew := k ++ [t] } } t)
    | (false, s3) => .next (State.tileLogic { s3 with clk := { s3.clk with deskew := k } } t)

end Sys2Proof.Machine
end

