-- ==== Sys2Proof/Machine/ErrorOps.lean ====
section
/-! DEFINITION. The error log's reader, sampling and congestion maps (R485, R496 to R501). -/

namespace Sys2Proof.Machine

/-- A BAR0 offset in tile window A, for what serves a tile register (R398). -/
def tileWindow : Nat := 0x200_0000

/-- A write of 1 to MGT_ERR_POP: the oldest entry leaves the log. -/
def execErrPop (p : Nat) (s : State) : Host.Outcome State Fault Refusal :=
  s.hostWrite p Reg.MGT_ERR_POP fun s => { s with log := s.log.drop 1 }

/-! ### Sampling (R496 to R498) -/

/-- The sample records of a tile, oldest first. -/
def State.samplesOf (s : State) (t : Nat) : List Sample := sget [] s.samples t

/-- Arm `arm` of site `c` takes a sample where its counter's low bits have wrapped to zero since its last one, or since it was set. An arm
that is off, or on a position that carries no logical place, a fenced one among them, takes none; a full buffer loses it. [DEDUCED,
assumption 80, safe] -/
def execSampleCapture (t c arm : Nat) (s : State) : Host.Outcome State Fault Refusal :=
  if t ≥ 16 ∨ c ≥ 6 ∨ arm ≥ 8 then .fault .noSuchUnit
  else
    let a := Reg.PMC_ARM t c arm
    let pos := s.gf a Fld.PMC_ARM_pos
    let map := s.gf (Reg.CORE_ROW_MAP t c (pos / 17)) Fld.CORE_ROW_MAP_in_service
    let gone := natBit (s.gf (Reg.CORE_ROW_MAP t c (pos / 17)) Fld.CORE_ROW_MAP_fenced) (pos % 17)
    if s.gf a Fld.PMC_ARM_enable = 0 ∨ pos ≥ 136 ∨ !natBit map (pos % 17) ∨ gone ∨ s.armWraps a = sget 0 s.arms a then .next s
    else
      let g := 128 * (6 * t + c) + 16 * (pos / 17) + ((upto (pos % 17)).filter fun q => natBit map q).length
      let q := s.samplesOf t
      let i := (s.standOfTower (6 * t + c)).getD 16
      let r : Sample := ⟨s.gtc, BitVec.ofNat 16 g, BitVec.ofNat 16 (s.core g).pc, BitVec.ofNat 24 (s.stand i).beat.toNat,
        BitVec.ofNat 3 c, BitVec.ofNat 3 arm⟩
      let s1 :=
        if q.length ≥ 64 then s.sfSat (Reg.PMC_SAMPLE_STATUS t) Fld.PMC_SAMPLE_STATUS_lost 1
        else { s with samples := sset [] s.samples t (q ++ [r]) }
      .next ((s1.armed a).modCause 15)

/-- A write of `k` to PMC_SAMPLE_STATUS.pop. -/
def execSamplePop (p t : Nat) (k : BitVec 7) (s : State) : Host.Outcome State Fault Refusal :=
  if t ≥ 16 then .fault .noSuchUnit
  else s.hostWrite p tileWindow fun s => { s with samples := sset [] s.samples t ((s.samplesOf t).drop k.toNat) }

/-- Word `w` (0 to 3) of a sample record. -/
def Sample.word (r : Sample) (w : Nat) : Nat :=
  match w with
  | 0 => r.gtc.toNat % 2 ^ 32
  | 1 => r.gtc.toNat / 2 ^ 32
  | 2 => r.gcore.toNat + 2 ^ 16 * r.index.toNat
  | _ => r.beat.toNat + 2 ^ 24 * (r.site.toNat + 8 * r.arm.toNat)

/-! ### Congestion maps (R499 to R501) -/

/-- What tile `t`'s accumulators begin a period with: what is in use now is its first high water (R500). -/
def State.mapStart (s : State) (t : Nat) : MapAcc :=
  let x := s.tile t
  { MapAcc.zero with
    ejHigh := x.ejNormal.length + x.ejReserve.length, resHigh := x.ejReserve.length, poolHigh := x.pool.length,
    winHigh := (upto 16).foldl (fun m d => sset 0 m d (x.windows.filter fun w => w.dst.toNat == d).length) [],
    partialRep := s.tileHeld t }

/-- Tile `t` sends its snapshot to the fabric manager on tile 0 (R499): one control message, whose counts stand in `mapSnap`. A tile whose
logic stands still sends none. [DESIGN CHOICE, assumption 158, safe] -/
def State.reportMap (s : State) (t : Nat) : State :=
  if s.tileOut t then s
  else
    let p : Pkt := { Pkt.zero with kind := 3, dst := 0, srcTile := BitVec.ofNat 4 t, src := BitVec.ofNat 14 (12320 + t),
                                   epoch := (s.tile t).epoch, payload := BitVec.ofNat 512 (2 ^ 32) }
    s.setTile t { s.tile t with inject := (s.tile t).inject ++ [⟨p, 0, true⟩] }

/-- A period's boundary: every tile's accumulators are taken and begin again. -/
def execCongestionPeriodBoundary (s : State) : Host.Outcome State Fault Refusal :=
  let acc := (upto 16).foldl (fun m t => sset MapAcc.zero m t (s.mapStart t)) []
  if s.clk.stopped then .next s
  -- while no maps are built, the counts of the period go with it
  else if s.gf Reg.PMC_MAP_CFG Fld.PMC_MAP_CFG_enable = 0 then .next { s with mapAcc := acc }
  else
    let e := s.gf Reg.PMC_MAP_CFG Fld.PMC_MAP_CFG_period
    let b := (s.gtc.toNat + 2 ^ e - 1) / 2 ^ e * 2 ^ e
    .next ((upto 16).foldl (fun y t => y.reportMap t)
      { s.gtcTo b with mapSnap := s.mapAcc, mapAcc := acc, mapFrom := some (BitVec.ofNat 64 (b - 2 ^ e), e) })

/-- A count of `n` bytes that saturates. -/
def satBytes (n v : Nat) : List Byte := bytesOf n (min v (2 ^ (8 * n) - 1))

/-- A tile's 32 bytes of a map. -/
def MapAcc.bytes (a : MapAcc) : List Byte :=
  satBytes 2 a.ejHigh ++ satBytes 2 a.resHigh ++ satBytes 2 a.poolHigh ++ bytesOf 2 0 ++ satBytes 4 a.refusals ++
    satBytes 4 a.urgent ++ satBytes 4 a.applied ++ satBytes 4 a.busy ++ satBytes 4 a.dups ++ satBytes 4 a.combs

/-- What tile `t` reported for the period; nothing where it was late. -/
def State.snap (s : State) (late t : Nat) : MapAcc := if natBit late t then MapAcc.zero else sget MapAcc.zero s.mapSnap t

/-- The 16 bytes of the pair from `x` to `d`: zero where tile `x` was late (R501). -/
def State.pairBytes (s : State) (late x d : Nat) : List Byte :=
  let a := s.snap late x
  let det := ((upto 16).map fun t => sget 0 (s.snap late t).detours (16 * x + d)).sum
  let lanes := s.pairLanes x d
  let own := satBytes 4 (sget 0 a.waits d) ++ satBytes 2 (sget 0 a.winHigh d)
  if natBit late x then bytesOf 16 0
  else if x = d then bytesOf 8 0 ++ own ++ bytesOf 2 0
  else satBytes 4 (sget 0 a.sent d) ++ satBytes 4 det ++ own ++ bytesOf 1 lanes ++ bytesOf 1 (boolNat (decide (lanes = 0)))

/-- The whole map of a period of 2^n ticks from `first`. -/
def State.mapBytes (s : State) (seq first n late : Nat) : List Byte :=
  let part := (upto 16).foldl (fun m t =>
    if natBit late t || (sget MapAcc.zero s.mapSnap t).partialRep then natPut m t 1 1 else m) 0
  let head := bytesOf 8 seq ++ bytesOf 8 first ++ bytesOf 8 (first + 2 ^ n) ++ bytesOf 1 n ++
    bytesOf 1 (boolNat (decide (late = 0))) ++ bytesOf 2 part ++ bytesOf 36 0
  head ++ (upto 16).flatMap (fun t => (s.snap late t).bytes) ++
    (upto 256).flatMap fun k => s.pairBytes late (k / 16) (k % 16)

/-- The first address of map buffer `b`. -/
def mapBase (b : Nat) : Nat := 0x2_0000 + 0x2000 * b

/-- Bytes from an address as a sparse map. -/
def sparseBytes (at_ : Nat) (bs : List Byte) : SMap Byte :=
  bs.zipIdx.filterMap fun (q : Byte × Nat) => if q.1 = 0 then none else some (at_ + q.2, q.1)

/-- The map is complete in the buffer that does not hold the last one; `late` names the tiles that have not reported. [DEDUCED, assumption 79, unsafe] -/
def execCongestionMapComplete (late : BitVec 16) (s : State) : Host.Outcome State Fault Refusal :=
  match s.mapFrom with
  | none => .next s
  | some (first, n) =>
    let last := s.gf Reg.PMC_MAP_CFG Fld.PMC_MAP_CFG_last
    let seqAt := fun (b : Nat) => ofBytes ((upto 8).map fun o => sget 0 s.mapBuf (mapBase b + o))
    let bs := s.mapBytes (max (seqAt 0) (seqAt 1) + 1) first.toNat n late.toNat
    let new := sparseBytes (mapBase (1 - last)) bs
    let old := s.mapBuf.filter fun e => decide (mapBase last ≤ e.1) && decide (e.1 < mapBase last + 0x2000)
    let buf := if last = 1 then new ++ old else old ++ new
    .next (({ s with mapBuf := buf, mapFrom := none, mapSnap := [] }.sf Reg.PMC_MAP_CFG Fld.PMC_MAP_CFG_last (1 - last)).modCause 16)

end Sys2Proof.Machine
end

