-- ==== Sys2Proof/Machine/Security.lean ====
section
/-! DEFINITION. The store's writes, the firmware image, the management controllers, the test access port and
re-provisioning (R34, R35, R49, R504 to R528). -/

namespace Sys2Proof.Machine

/-- The 60 s retry of a refused settings record. -/
def execSettingsRetry (s : State) : Host.Outcome State Fault Refusal :=
  if s.sec.settingsWait ∧ !s.unmanaged ∧ !s.clk.stopped then .next s.settingsSave else .next s

/-! ### A store write ends (R49, R515 to R522) -/

/-- The committed plan takes effect (R49): at once for every stand that is not in a run; a changed budget of a stand in a
run waits for its clearing. A run that was launched between the commit's checks and this keeps its entry alone. [DESIGN CHOICE, assumption 73, unsafe] -/
def State.planApply (s : State) (m : SMap Byte) (gen : Nat) : State :=
  let runs := (upto 16).filter s.inRun
  let keep := fun (f : SMap Byte) (i : Nat) => (upto 64).foldl (fun g o => sset (planByte (64 * i + o)) g (64 * i + o)
    (s.plan (64 * i + o))) f
  let s1 := { s with planForce := runs.foldl keep m }
  let s2 := runs.foldl (fun y i =>
    let w := planBudget m i
    if w = planBudget s.planForce i then y else y.setStand i { y.stand i with budgetNext := some w }) s1
  let a := Reg.MGT_PLAN_STATUS
  let wait := (upto 16).any fun i => (s2.stand i).budgetNext.isSome
  let s3 := ((s2.sf Reg.MGT_PLAN_GEN Fld.MGT_PLAN_GEN_gen gen).sf a Fld.MGT_PLAN_STATUS_code 0).sf a
    Fld.MGT_PLAN_STATUS_pending (boolNat wait)
  s3.applyPower

/-- Take the commits that waited, until one is in progress. [DEDUCED, assumption 100, safe] -/
def takeCommits : List (Nat × SMap Byte) → State → State
  | [], s => { s with commits := [] }
  | (p, m) :: rest, s =>
    let s1 := s.commitPlan p m
    if s1.gf Reg.MGT_PLAN_STATUS Fld.MGT_PLAN_STATUS_busy = 1 then { s1 with commits := rest } else takeCommits rest s1

/-- A commit ends: busy falls, module cause 4 is set, and a commit that waited is taken (R53). -/
def State.commitEnd (s : State) : State :=
  let s1 := (s.sf Reg.MGT_PLAN_STATUS Fld.MGT_PLAN_STATUS_busy 0).modCause 4
  takeCommits s1.commits s1

/-- Re-provisioning requests its next record, each when the one before it is written; a refused one ends it there (R527). -/
def State.provNext (s : State) : State :=
  match s.sec.provRest with
  | [] => s
  | r :: rest =>
    let (ok, s1) := s.nvWrite r
    { s1 with sec := { s1.sec with provRest := if ok then rest else [] } }

/-- The change that a written record carries takes effect. -/
def State.nvAct (s : State) (a : NvAct) : State :=
  match a with
  | .plan m gen => (s.planApply m gen).commitEnd
  | .deadwood i => { s with dwm := s.dwm.modify i fun (e : DwEnt) => { e with stored := true } }
  | .svn v => s.sf Reg.SEC_STATE Fld.SEC_STATE_min_svn (max v (s.gf Reg.SEC_STATE Fld.SEC_STATE_min_svn))
  | .tapOpened | .tapFound =>
    let b := Reg.SEC_STATE
    let s1 := ((s.sf b Fld.SEC_STATE_opened 1).sf b Fld.SEC_STATE_tap_enabled 1).sf b Fld.SEC_STATE_id_key 0
    { s1.sf Reg.SEC_TAP_CTL Fld.SEC_TAP_CTL_busy 0 with sec := { s1.sec with tapKeys := false } }
  -- re-provisioning goes on with its next record (R527)
  | .prov => s.provNext
  -- from a record written on, the converters' moves are counted from its codes (R304)
  | .service t codes => s.setFab t { s.fabT t with trims := codes.foldl (fun m (e : Nat × BitVec 12) =>
      sset Trim.zero m e.1 { sget Trim.zero m e.1 with recd := e.2 }) (s.fabT t).trims }
  | .none | .settings | .startFail | .trip => s

/-- A queued write is refused, with temperature (1) when its turn comes or with no_copy (3), and what retries it knows that it
waits (R521). -/
def State.nvLost (s : State) (code : Nat) (r : NvReq) : State :=
  let s1 := s.nvRefused code r.kind
  match r.act with
  | .plan _ _ => (s1.sf Reg.MGT_PLAN_STATUS Fld.MGT_PLAN_STATUS_code 6).commitEnd
  | .settings => { s1 with sec := { s1.sec with settingsWait := true } }
  | .startFail => { s1 with start := { s1.start with failRec := true } }
  | .trip => { s1 with start := { s1.start with tripRec := true } }
  -- the opening ends there, its keys gone, and the next start goes on with it (R525) [DESIGN CHOICE, assumption 149, safe]
  | .tapOpened => { s1.sf Reg.SEC_TAP_CTL Fld.SEC_TAP_CTL_busy 0 with sec := { s1.sec with tapKeys := false } }
  | .prov => { s1 with sec := { s1.sec with provRest := [] } }
  | _ => s1

/-- A store write whose turn in the queue has not come is requested: one that the queue does not take is lost to what asked for it. -/
def State.nvAsk (s : State) (r : NvReq) : State :=
  match s.nvRefusal r with
  | some code => (if s.nvq = [] ∧ r.checked = false then s.nvWindow else s).nvLost code r
  | none => (s.nvWrite r).2

/-- The next write's turn has come: it is checked, and refused where a reading lies outside the window (R459). -/
def nvTurn : Nat → State → State
  | 0, s => s
  | n + 1, s =>
    match s.nvq with
    | [] => s
    | r :: rest =>
      if r.checked then s
      else
        let s1 := s.nvWindow
        if s1.nvTempOk then s1 else nvTurn n ({ s1 with nvq := rest }.nvLost 1 r)

/-- The write in progress ends: its record is on every copy that works, and its change takes effect; then the next has its turn.
`c0` and `c15` say how it ended on each copy; with no copy left, module-fatal error 0x05 ends every run and every waiting
write is lost. -/
def execNvsWriteComplete (c0 c15 : CopyEnd) (s : State) : Host.Outcome State Fault Refusal :=
  if !s.power ∨ s.takingOver ∨ s.clk.stopped then .next s
  else match s.nvq with
  | [] => .next s
  | r :: rest =>
    let s0 := { s with nvq := rest, storeTemp := sset 0 (sset 0 s.storeTemp 0 c0.temp) 15 c15.temp }
    let s1 := if !s0.copy0.ok then s0 else if c0.ok then { s0 with copy0 := s0.copy0.append r } else s0.copyFailed 0
    let s2 := if !s1.copy15.ok then s1 else if c15.ok then { s1 with copy15 := s1.copy15.append r } else s1.copyFailed 15
    if s2.copy0.ok || s2.copy15.ok then .next (nvTurn 64 (s2.nvAct r.act))
    else
      let s3 := (s2.moduleFatal (ErrInfo.plain 11 5)).fatalRuns
      .next ((r :: rest).foldl (fun y q => y.nvLost 3 q) { s3 with nvq := [] })

/-! ### The firmware image (R504 to R507) -/

/-- Set SEC_BOOT_STATUS.state and code. -/
def State.bootStatus (s : State) (st code : Nat) : State :=
  (s.sf Reg.SEC_BOOT_STATUS Fld.SEC_BOOT_STATUS_state st).sf Reg.SEC_BOOT_STATUS Fld.SEC_BOOT_STATUS_code code

/-- A fetch fails: the start keeps waiting for a new go. -/
def State.fetchError (s : State) : State :=
  let s1 := s.bootStatus 0 6
  { s1 with sec := { s1.sec with fetch := none }, start := { s1.start with bootServed := false } }

/-- The parts of `n` bytes of host memory from `a` that cross no 4 KiB boundary (R409): start and length. -/
def hostPieces (a : Nat) : Nat → Nat → List (Nat × Nat)
  | 0, _ => []
  | _, 0 => []
  | fuel + 1, n =>
    let k := min n (4096 - a % 4096)
    (a, k) :: hostPieces (a + k) fuel (n - k)

/-- A write of 1 to SEC_BOOT_CTL.go: the first of a start is served; any other is answered busy. The device reads the image from host
memory (R505). -/
def State.go (s : State) (p : Nat) : State :=
  if s.start.bootServed || s.phase ≠ 0 then s.sf Reg.SEC_BOOT_STATUS Fld.SEC_BOOT_STATUS_code 1
  else
    let s1 := (s.bootStatus 1 0).sf Reg.SEC_BOOT_STATUS Fld.SEC_BOOT_STATUS_port p
    let f := (p, s.reg Reg.SEC_BOOT_ADDR, s.gf Reg.SEC_BOOT_LEN Fld.SEC_BOOT_LEN_len)
    let s2 := { s1 with sec := { s1.sec with fetch := some f }, start := { s1.start with bootServed := true } }
    if (s.port p).busMaster then
      (hostPieces f.2.1.toNat (f.2.2 / 4096 + 2) f.2.2).foldl (fun y q => y.emit (.hostRead p (BitVec.ofNat 64 q.1) q.2)) s2
    else s2.fetchError

def execBootGo (p : Nat) (s : State) : Host.Outcome State Fault Refusal :=
  s.hostWrite p Reg.SEC_BOOT_CTL fun s => s.go p

/-- The digest that an SM2 signature covers: SM3 over the signer's identity hash and the message, with the default
identifier. [PRESUMED, assumption 25, safe] -/
def sm2Digest (x y : Nat) (m : List Nat) : Nat :=
  let idBytes := [0x31, 0x32, 0x33, 0x34, 0x35, 0x36, 0x37, 0x38, 0x31, 0x32, 0x33, 0x34, 0x35, 0x36, 0x37, 0x38]
  let za := sm3Bytes ([0x00, 0x80] ++ idBytes ++ beBytes 32 sm2a ++ beBytes 32 sm2b ++ beBytes 32 sm2gx ++ beBytes 32 sm2gy ++
    beBytes 32 x ++ beBytes 32 y)
  (sm3Bytes (za ++ m)).foldl (fun a b => 256 * a + b) 0

/-- The number that big-endian bytes spell. -/
def beNat (b : List Nat) : Nat := b.foldl (fun a x => 256 * a + x) 0

/-- The vendor key under a slot, of its latest record; none where that holds none. -/
def State.vendorKey (s : State) (slot : Nat) : Option (Nat × Nat) :=
  match lastRec s.records 0xA slot with
  | some r =>
    let b := r.payload.map (·.toNat)
    if b = [] then none else some (beNat (b.take 32), beNat ((b.drop 32).take 32))
  | none => none

/-- The code with which an image of `len` bytes is refused, or its svn (R504, R505). -/
def State.imageCheck (s : State) (b : List Nat) (len : Nat) : Nat ⊕ Nat :=
  let f := fun (o n : Nat) => leNat ((b.drop o).take n)
  let body := f 8 4
  let slot := f 6 1
  let zero := fun (o n : Nat) => ((b.drop o).take n).all (· == 0)
  if b.take 4 ≠ [0x49, 0x58, 0x46, 0x57] ∨ f 4 2 ≠ 1 ∨ slot > 3 ∨ f 7 1 ≠ 0 ∨ body % 64 ≠ 0 ∨ body < 64 ∨ body > 4194304 ∨
      len ≠ 256 + body ∨ b.length ≠ len ∨ !zero 14 18 ∨ !zero 128 128 then .inl 2
  else if sm3Bytes (b.drop 256) ≠ (b.drop 32).take 32 then .inl 3
  else match s.vendorKey slot with
    | none => .inl 7
    | some (x, y) =>
      if !sm2Verify (sm2Digest x y (b.take 64)) (beNat ((b.drop 64).take 32)) (beNat ((b.drop 96).take 32)) x y then .inl 4
      else if f 12 2 < s.gf Reg.SEC_STATE Fld.SEC_STATE_min_svn then .inl 5
      else .inr (f 12 2)

/-- The fetch ends: its bytes are verified, and the image runs, or the start fails with cause 0x03. Bus Master Enable at 0,
a completion error or a timeout is a fetch error. -/
def execImageFetchComplete (ok : Bool) (bytes : List Byte) (s : State) : Host.Outcome State Fault Refusal :=
  match s.sec.fetch with
  | none => .next s
  | some (p, _, len) =>
    if !ok ∨ !(s.port p).busMaster then .next s.fetchError
    else
      let b := bytes.map (·.toNat)
      let s0 := { s with sec := { s.sec with fetch := none } }
      match s.imageCheck b len with
      | .inl code =>
        let s1 := s0.bootStatus 4 code
        .next (if s1.phase = 0 then s1.startFail 3 0 else s1)
      | .inr svn =>
        let d := sm3 b
        let s1 := (s0.bootStatus 3 0).sf Reg.SEC_BOOT_STATUS Fld.SEC_BOOT_STATUS_svn svn
        let s2 := (upto 8).foldl (fun y w => y.setReg (Reg.SEC_FW_DIGEST w) (BitVec.ofNat 64 (natBits d.toNat (32 * w) 32))) s1
        .next { s2 with sec := { s2.sec with image := some (d, svn), bedDigest := d } }

/-- The settings with a minimum svn that no earlier one exceeds go to the store (R507). -/
def State.raiseSvn (s : State) : State :=
  match s.sec.image with
  | some (_, svn) =>
    let v := max svn s.svnAhead
    (s.nvWrite ⟨0xD, 0, s.settings v, .svn v⟩).2
  | none => s

/-- A write of 1 to SEC_BOOT_CTL.raise_svn while an image runs. -/
def execRaiseSvn (p : Nat) (s : State) : Host.Outcome State Fault Refusal :=
  s.hostWrite p Reg.SEC_BOOT_CTL fun s => s.managed (.raiseSvn p) State.raiseSvn

/-! ### The management controllers (R508, R509) -/

/-- A heartbeat of the primary is heard, or missing, and the standby answers it or does not. -/
def execControllerHeartbeat (x : Heartbeat) (s : State) : Host.Outcome State Fault Refusal :=
  if !s.power ∨ s.takingOver ∨ s.clk.stopped then .next s
  else .next { s with sec := { s.sec with
    missed := if x.primary then 0 else min (s.sec.missed + 1) 50, standbyOut := !x.standby } }

/-! ### The test access port (R35, R523 to R527) -/

/-- A write of the arming value to SEC_TAP_ARM arms the port that wrote it. -/
def execTapArm (p : Nat) (v : BitVec 32) (s : State) : Host.Outcome State Fault Refusal :=
  s.hostWrite p Reg.SEC_TAP_ARM fun s =>
    if v = 0x7A900E5D then { s with sec := { s.sec with tapArm := sset none s.sec.tapArm p (some s.gtc) } } else s

/-- Did port `p` arm within the last millisecond? -/
def State.tapArmed (s : State) (p : Nat) : Bool :=
  match sget none s.sec.tapArm p with
  | some t => decide ((s.gtc - t).toNat ≤ 1000000)
  | none => false

/-- May the test access port be opened now, by a port that armed in time when it asked? -/
def State.tapOk (s : State) (armed : Bool) : Bool :=
  armed && !((upto 16).any s.inRun) && s.nvTempOk && s.gf Reg.SEC_STATE Fld.SEC_STATE_tap_enabled == 0 && !s.sec.tapKeys

/-- A request of port `p` to open the test access port: refused, or the keys are zeroed and the opened record goes to the store; the port
is enabled when that record is written. -/
def State.tapOpen (s : State) (p : Nat) (armed : Bool) : State :=
  let a := Reg.SEC_TAP_CTL
  if !s.tapOk armed then s.sf a Fld.SEC_TAP_CTL_refused 1
  else
    let wipe := fun (c : NvCopy) => if c.ok then { c with secret := none } else c
    let s1 := (s.nvWindow.sf a Fld.SEC_TAP_CTL_busy 1).sf Reg.SEC_STATE Fld.SEC_STATE_id_key 0
    let k := s1.sec
    State.nvAsk { s1 with copy0 := wipe s1.copy0, copy15 := wipe s1.copy15,
                          sec := { k with session := none, tapKeys := true, tapArm := sset none k.tapArm p none } }
      ⟨8, 0, bytesOf 8 s1.gtc.toNat ++ bytesOf 8 p, .tapOpened⟩

/-- A write of 1 to SEC_TAP_CTL.open. -/
def execTapOpen (p : Nat) (s : State) : Host.Outcome State Fault Refusal :=
  s.hostWrite p Reg.SEC_TAP_CTL fun s => s.managed (.tapOpen p (s.tapArmed p)) fun s => s.tapOpen p (s.tapArmed p)

/-- The IDCODE instruction. -/
def execIdcode (s : State) : Host.Outcome State Fault Refusal :=
  .next (if s.power then s.emit (.tap 32 0x1A960F3D) else s)

/-- The BYPASS instruction: a bit shifted in comes out of the one-bit register. [DEDUCED, assumption 104, safe] -/
def execBypass (bit : Bool) (s : State) : Host.Outcome State Fault Refusal :=
  .next (if s.power then s.emit (.tap 1 (boolNat bit)) else s)

/-- Re-provisioning through the opened port (R527): a new identity key in every working copy, then one after another the records of the
vendor keys that change, of the root's and the device CA's certificate, of the device certificate that carries the new key, and the
provisioned record. A record holds at most 65,536 bytes (R515). -/
def execReprovisioning (keys : List (Nat × List Byte)) (certs : List (List Byte)) (serial : BitVec 64) (s : State) :
    Host.Outcome State Fault Refusal :=
  let fits := fun (b : List Byte) => decide (b.length ≤ 65536)
  if keys.any (fun k => decide (k.1 ≥ 4)) || decide (certs.length ≠ 2) then .fault .noSuchUnit
  else if s.gf Reg.SEC_STATE Fld.SEC_STATE_tap_enabled = 0 ∨ (upto 16).any s.inRun ∨ !s.nvTempOk ∨
      !(keys.all fun k => fits k.2) ∨ !(certs.all fits) then .next s
  else
    let (k, s1) := s.nvWindow.takeKey
    let put := fun (c : NvCopy) => if c.ok then { c with secret := some k } else c
    let reqs : List NvReq := keys.map (fun q => ⟨0xA, q.1, q.2, .prov⟩) ++
      (certs ++ [deviceCert serial k]).zipIdx.map (fun q => ⟨0xB, q.2, q.1, .prov⟩) ++
      [⟨9, 0, bytesOf 8 s1.gtc.toNat ++ bytesOf 8 serial.toNat, .prov⟩]
    .next (State.provNext { s1 with copy0 := put s1.copy0, copy15 := put s1.copy15, sec := { s1.sec with provRest := reqs } })

end Sys2Proof.Machine
end

