-- ==== Sys2Proof/Machine/HostRegs.lean ====
section
/-! DEFINITION. What a host reads and writes behind BAR0 (R7 to R16, R45, R51, R398, R399, R403, R406, R414): where an offset
leads, what every register reads as, and what a write does by access code. -/

namespace Sys2Proof.Machine

/-! ### Where a BAR0 offset leads (R398, R403) -/

/-- What a port's BAR0 holds at an offset. -/
inductive HostPlace where
  | reg (a : Nat) (r : RegSpec) (high : Bool)   -- a word of the register at `a`
  | table (o : Nat)                             -- the port's MSI-X table
  | pba (o : Nat)
  | stage (o : Nat)                             -- the staging area of the plan
  | force (o : Nat)                             -- the plan in force
  | unassigned
  deriving DecidableEq, Repr

/-- The flat address behind a BAR0 offset: a module register, a stand page, or a tile register in a window. -/
def State.flat (s : State) (p off : Nat) : Nat :=
  if off < 0x200_0000 then off
  else if off < 0x300_0000 then tileBase (s.gf (Reg.HIF_TILE_WIN p) Fld.HIF_TILE_WIN_tile_a) + (off - 0x200_0000)
  else if off < 0x400_0000 then tileBase (s.gf (Reg.HIF_TILE_WIN p) Fld.HIF_TILE_WIN_tile_b) + (off - 0x300_0000)
  else 2 ^ 60

/-- Where the word at an offset of port `p`'s BAR0 lies. -/
def State.hostPlace (s : State) (p off : Nat) : HostPlace :=
  if 0xC000 ≤ off ∧ off < 0xCA00 then .table (off - 0xC000)
  else if 0xD000 ≤ off ∧ off < 0xD018 then .pba (off - 0xD000)
  else if 0x1_0000 ≤ off ∧ off < 0x1_1400 then .stage (off - 0x1_0000)
  else if 0x1_2000 ≤ off ∧ off < 0x1_3400 then .force (off - 0x1_2000)
  else
    let a := s.flat p off
    match regSpecOf a with
    | some r => .reg a r false
    | none =>
      match regSpecOf (a - 4) with
      | some r => if r.wide && decide (4 ≤ a) then .reg (a - 4) r true else .unassigned
      | none => .unassigned

/-! ### What a register reads as -/

/-- `n` is put at bits `lo` up of `v`. -/
def putAt (f : Fld) (n v : Nat) : Nat := natPut v f.lo f.w n

/-- What CORE_STATE of physical core `k` of a site reads (R99, R444): the stored states 4 to 6 take precedence. [DEDUCED, assumption 105, unsafe] -/
def State.coreStateView (s : State) (t c k stored : Nat) : Nat :=
  let map := s.gf (Reg.CORE_ROW_MAP t c (k / 17)) Fld.CORE_ROW_MAP_in_service
  let p := k % 17
  if stored % 8 ≥ 4 ∨ !natBit map p then stored % 8
  else
    let w := 6 * t + c
    let col := ((upto p).filter fun q => natBit map q).length
    let x := s.core (128 * w + 16 * (k / 17) + col)
    match s.standOfTower w with
    | none => 0
    | some i =>
      let st :=
        if s.pState i = 3 then 0 else if s.pState i = 2 then 7 else if s.pState i = 1 then 3
        else if !s.inRun i then 1
        else if x.ended || x.gated then 3 else if x.running then 2 else 1
      putAt Fld.CORE_STATE_sb_stall (boolNat x.sbStall) (putAt Fld.CORE_STATE_done (boolNat (s.inRun i && x.done))
        (putAt Fld.CORE_STATE_col (if 1 ≤ st ∧ st ≤ 3 then col else 0) st))

/-- What FAB_CIRC of a handle reads (R288). -/
def State.circView (s : State) (t x c : Nat) : Nat :=
  let k := s.ctx t x
  let q := k.circ c
  if !q.isOpen then 0
  else packBits 1 [1, boolNat (s.circAged k.stand q), boolNat q.pd, boolNat q.bind.isSome] + q.src % 16 * 2 ^ 4 +
    q.trunk % 8 * 2 ^ 8 + q.slot % 32 * 2 ^ 11 + q.listener % 2 ^ 11 * 2 ^ 16 + boolNat q.carriage * 2 ^ 27 +
    min q.flagged (2 ^ 32 - 1) * 2 ^ 32

/-- A register of context `x` of a tile (R288); none where the register is its own home. -/
def State.ctxView (s : State) (t x q : Nat) : Option Nat :=
  let k := s.ctx t x
  if q = 0 then some (k.stand + k.state * 2 ^ 4 + k.pc % 2 ^ 12 * 2 ^ 8)
  else if q = 8 then some (match k.wait with
    | some b => b.toNat
    | none => 2 ^ 64 - 1)
  else if q = 0x18 then some (k.active + (if k.state = 0 then 0 else s.quota t k.stand) * 2 ^ 16)
  else none

/-- A mask of the numbers below `n` that satisfy `f`. -/
def maskOf (n : Nat) (f : Nat → Bool) : Nat := packBits 1 ((upto n).map fun k => boolNat (f k))

/-- Channels of home trunk `h` in half rate: those of the slots under an mcast (R280). -/
def State.halfView (s : State) (t h : Nat) : Nat :=
  let ms := (s.fabT t).mcast.filter fun e => decide (e.1 / 32 = h) && decide (e.2 ≠ 0)
  maskOf 33 fun ch => ms.any fun e => decide (s.slotCh t h (e.1 % 32) = ch)

/-- A packet-plane register of a tile (R350); none where the register is its own home. -/
def State.pktView (s : State) (t o stored : Nat) : Option Nat :=
  let x := s.tile t
  if o = 0x30_0008 then
    let waiting := ((x.ejNormal ++ x.ejReserve).filter fun e => !s.ordered t e).length
    some (x.ejNormal.length + x.ejReserve.length * 2 ^ 10 + waiting * 2 ^ 22 + x.ejHigh * 2 ^ 35)
  else if o = 0x30_0010 then some (x.pool.length + x.poolHigh * 2 ^ 16)
  else if o = 0x30_0014 then some (x.groups.length + (x.groups.map fun g => g.parts.length).sum * 2 ^ 11)
  else if o = 0x30_0018 then some x.cache.length
  else if 0x30_0100 ≤ o ∧ o < 0x30_0140 then some (x.windows.filter fun w => w.dst.toNat == (o - 0x30_0100) / 4).length
  else if 0x30_0200 ≤ o ∧ o < 0x30_0240 then some (putAt Fld.PKT_BO_fill (x.part ((o - 0x30_0200) / 4)).fill stored)
  else if 0x30_0400 ≤ o ∧ o < 0x30_0800 ∧ (o - 0x30_0400) % 0x40 = 0x20 then some (x.recs ((o - 0x30_0400) / 0x40)).length
  else none

/-- What offset `o` of tile `t`'s registers reads, where the register itself holds `stored`. -/
def State.tileView (s : State) (t o stored : Nat) : Nat :=
  let tr := sget Trim.zero (s.fabT t).trims (s.gf (Reg.MGT_TRIM_SEL t) Fld.MGT_TRIM_SEL_index)
  if 0x10_0000 ≤ o ∧ o < 0x10_00E0 then (s.ctxView t ((o - 0x10_0000) / 0x20) (o % 0x20)).getD stored
  else if 0x10_1000 ≤ o ∧ o < 0x10_4000 then s.circView t ((o - 0x10_1000) / 0x800) (o % 0x800 / 8)
  else if 0x20_0000 ≤ o ∧ o < 0x20_0200 ∧ o % 0x40 = 0x30 then s.halfView t ((o - 0x20_0000) / 0x40)
  else if o = 0x20_0400 then putAt Fld.OPT_RX_STATUS_active ((upto 7).map fun x => (s.ctx t x).active).sum stored
  else if o = 0x21_4004 then (if s.heatersFull ∧ heaterConv (s.gf (Reg.MGT_TRIM_SEL t) Fld.MGT_TRIM_SEL_index) then 0xFFF else tr.code.toNat) + boolNat (s.trimStale t (s.gf (Reg.MGT_TRIM_SEL t) Fld.MGT_TRIM_SEL_index)) * 2 ^ 12
  else if o = 0x21_4008 then tr.count.toNat
  else if o = 0x21_4010 then tr.gtc.toNat
  else if 0x30_0000 ≤ o ∧ o < 0x30_0800 then (s.pktView t o stored).getD stored
  else if 0x40_0000 ≤ o ∧ o < 0x46_0000 ∧ 0x200 ≤ o % 0x1_0000 ∧ o % 0x1_0000 < 0x420 then
    s.coreStateView t ((o - 0x40_0000) / 0x1_0000) ((o % 0x1_0000 - 0x200) / 4) stored
  else if 0x40_0000 ≤ o ∧ o < 0x46_0000 ∧ 0x700 ≤ o % 0x1_0000 ∧ o % 0x1_0000 < 0x724 then
    (s.region (9 * (6 * t + (o - 0x40_0000) / 0x1_0000) + (o % 0x1_0000 - 0x700) / 4)).events
  -- while every clock stands no branch runs (R427)
  else if 0x80_0100 ≤ o ∧ o < 0x80_01C0 ∧ o % 0x20 = 0xC ∧ s.clk.stopped then 0
  else if 0x90_0300 ≤ o ∧ o < 0x90_0480 ∧ (o - 0x90_0300) % 0x40 < 0x24 then
    let f := s.region (9 * (6 * t + (o - 0x90_0300) / 0x40) + (o - 0x90_0300) % 0x40 / 4)
    f.mild + f.severe * 2 ^ 16
  else if 0xA6_9000 ≤ o ∧ o < 0xA6_9400 then
    match (s.samplesOf t)[(o - 0xA6_9000) / 16]? with
    | some r => r.word (o % 16 / 4)
    | none => 2 ^ 32 - 1
  else if o = 0xA6_9400 then putAt Fld.PMC_SAMPLE_STATUS_count (s.samplesOf t).length stored
  else if 0xA0_0000 ≤ o ∧ (o < 0xA6_8000 ∨ 0xA7_0000 ≤ o) then (s.ctr (tileBase t + o)).toNat
  else stored

/-- Four bytes of a sparse byte map as a word. -/
def byteWord (d : Nat → Byte) (m : SMap Byte) (a : Nat) : Nat := packBits 8 ((upto 4).map fun k => (sget (d (a + k)) m (a + k)).toNat)

/-- Is CLKREQ# of port `p` asserted (R397)? -/
def State.clkreq (s : State) (p : Nat) : Bool :=
  (decide (s.refMode ≠ 0) && decide (s.refSel = p)) || s.gf (Reg.HIF_PM_CFG p) Fld.HIF_PM_CFG_release_standby == 0 ||
    s.gf (Reg.HIF_LINK p) Fld.HIF_LINK_state != 4

/-- What HIF_LINK of port `p` reads (R415). -/
def State.linkView (s : State) (p stored : Nat) : Nat :=
  let v := if (s.port p).d3 then putAt Fld.HIF_LINK_state 7 stored else stored
  putAt Fld.HIF_LINK_clkreq (boolNat (s.clkreq p)) (putAt Fld.HIF_LINK_ref_selected
    (boolNat (decide (s.refMode ≠ 0) && decide (s.refSel = p))) (putAt Fld.HIF_LINK_ref_present (s.refs (presentFld p)) v))

/-- What the module register at offset `o` reads, where the register itself holds `stored`. [DEDUCED, assumption 99, unsafe] -/
def State.modView (s : State) (o stored : Nat) : Nat :=
  if o = 0x618 then s.gtc.toNat
  else if 0xC00 ≤ o ∧ o < 0xE00 ∧ o % 0x20 = 8 then putAt Fld.PWR_STD_DRAW_budget (planBudget s.planForce ((o - 0xC00) / 0x20)) stored
  else if o = 0xE08 then putAt Fld.THM_NV_WINDOW_ok (boolNat s.nvTempOk) stored
  else if o = 0x718 then s.dwm.length % 2 ^ 16 + min (s.dwm.filter fun e => !e.stored).length 255 * 2 ^ 16
  else if 0x720 ≤ o ∧ o < 0x730 then
    match s.dwm[s.gf Reg.MGT_DWM_SEL Fld.MGT_DWM_SEL_index]? with
    | some e => ofBytes ((e.bytes.drop (o - 0x720)).take 4)
    | none => 2 ^ 32 - 1
  else if 0x3000 ≤ o ∧ o < 0x3020 then
    match s.log with
    | e :: _ => (e.word ((o - 0x3000) / 8)).toNat
    | [] => 2 ^ 64 - 1
  else if o = 0x3028 then putAt Fld.MGT_ERR_STATUS_entries s.log.length stored
  else if o = 0x6080 then putAt Fld.MGT_CTRL_standby_ok
    (boolNat (!s.sec.failed0 && !s.sec.failed15 && !s.sec.standbyOut && !s.takingOver)) stored
  else if o = 0x6100 then
    putAt Fld.NVS_STATUS_copy0_ok (boolNat s.copy0.ok) (putAt Fld.NVS_STATUS_copy1_ok (boolNat s.copy15.ok)
      (putAt Fld.NVS_STATUS_busy (boolNat (s.nvq ≠ [])) (putAt Fld.NVS_STATUS_queue (min s.nvq.length 32)
        (putAt Fld.NVS_STATUS_bank s.copy0.bank stored))))
  else if o = 0x6108 then s.copy0.seq % 2 ^ 32
  else if o = 0x610C then s.copy0.free % 2 ^ 22
  else if o = 0x8000 then s.linkView 0 stored
  else if o = 0x8400 then s.linkView 1 stored
  else if 0x2_0000 ≤ o ∧ o < 0x2_4000 then byteWord (fun _ => 0) s.mapBuf o
  else stored

/-- What the register at flat address `a` reads. -/
def State.regView (s : State) (a : Nat) : Word :=
  let v := (s.reg a).toNat
  BitVec.ofNat 64 (if a < 0x1_0000_0000 then s.modView a v else s.tileView (a / 0x1_0000_0000 - 1) (a % 0x1_0000_0000) v)

/-! ### Host reads (R8, R16, R396, R399) -/

/-- A refused access (R16, R399): a contained error naming the port and the offset. [DEDUCED, assumption 88, safe] -/
def State.refuseAccess (s : State) (p off : Nat) : State :=
  s.contained { ErrInfo.plain 8 3 with detail := some p, addr := some off }

/-- The 32-bit word at an offset of port `p`'s BAR0, and the state after an access to it. -/
def State.readWord (s : State) (p off : Nat) : BitVec 32 × State :=
  match s.hostPlace p off with
  | .reg a _ false => (BitVec.ofNat 32 (s.regView a).toNat, s)
  | .reg a _ true => (BitVec.ofNat 32 ((s.regView a).toNat / 2 ^ 32), s)
  | .table o => (msixWord (s.port p).table o, s)
  | .pba o => (BitVec.ofNat 32 (packBits 1 ((upto 32).map fun b => boolNat (sget false (s.port p).pba (8 * o + b)))), s)
  | .stage o => (BitVec.ofNat 32 (byteWord planByte s.planStaged o), s)
  | .force o => (BitVec.ofNat 32 (byteWord planByte s.planForce o), s)
  | .unassigned => (BitVec.allOnes 32, s.refuseAccess p off)

/-- Read one word: a 64-bit register's low word latches its high word for the port, whose next read of the high word takes it (R8). -/
def State.readHalf (s : State) (p off : Nat) : BitVec 32 × State :=
  let x := s.port p
  match s.hostPlace p off with
  | .reg a r false =>
    let v := s.regView a
    (BitVec.ofNat 32 v.toNat,
      if r.wide then s.setPort p { x with latch := sset none x.latch a (some (BitVec.ofNat 32 (v.toNat / 2 ^ 32))) } else s)
  | .reg a _ true =>
    match sget none x.latch a with
    | some h => (h, s.setPort p { x with latch := sset none x.latch a none })
    | none => (BitVec.ofNat 32 ((s.regView a).toNat / 2 ^ 32), s)
  | _ => s.readWord p off

/-- Read `n` bytes (R8): an 8-byte read of a 64-bit register returns one state of it, and a high word that the port has latched stays
latched; one that takes two registers reads each half as its own access does. [DESIGN CHOICE, assumption 89, safe] -/
def State.readHost (s : State) (p off n : Nat) : Word × State :=
  if n = 8 then
    -- one access: refused whole where either half is unassigned (R16)
    if s.hostPlace p off = .unassigned ∨ s.hostPlace p (off + 4) = .unassigned then (BitVec.allOnes 64, s.refuseAccess p off)
    else
      let whole := match s.hostPlace p off with
        | .reg _ r false => r.wide
        | _ => false
      let (lo, s1) := if whole then s.readWord p off else s.readHalf p off
      let (hi, s2) := if whole then s1.readWord p (off + 4) else s1.readHalf p (off + 4)
      (hi ++ lo, s2)
  else
    let (v, s1) := s.readHalf p off
    (v.setWidth 64, s1)

/-- Is the port's link up, its function configured? -/
def State.portUp (s : State) (p : Nat) : Bool := s.power && !(s.port p).inReset && (s.port p).cfgReady

/-- All ones of `n` bytes. -/
def allOnes (n : Nat) : Nat := 2 ^ (8 * n) - 1

/-- All ones of a read of 4 or 8 bytes. -/
def onesOf (n : Nat) : Word := if n = 8 then BitVec.allOnes 64 else BitVec.ofNat 64 (2 ^ 32 - 1)

/-- A host read of BAR0: answered where the port is up; all ones where the offset is not served (R396, R468) or the access
is refused. [PRESUMED, assumption 87, unsafe] -/
def State.hostRead (s : State) (p off n : Nat) : Host.Outcome State Fault Refusal :=
  if p ≥ 2 then .fault .noSuchUnit
  else if !s.portUp p then .next s
  else if (s.port p).d3 then .next (s.emit (.unsupported p))
  else if n ≠ 4 ∧ n ≠ 8 then .next ((s.refuseAccess p off).emit (.bytes p n (allOnes n)))
  else if off % n ≠ 0 then .next ((s.refuseAccess p off).emit (.data p (onesOf n)))
  else if !s.serves p off then .next (s.emit (.data p (onesOf n)))
  else
    let (v, s1) := s.readHost p off n
    .next (s1.emit (.data p v))

/-- A read of a register, or of the low word of a 64-bit one (R8). -/
def execRegisterLowWordRead (p off n : Nat) (s : State) : Host.Outcome State Fault Refusal := s.hostRead p off n

/-- A read of the high word of a 64-bit register (R8). -/
def execRegisterHighWordRead (p off : Nat) (s : State) : Host.Outcome State Fault Refusal := s.hostRead p off 4

/-! ### Reserved encodings (R15) -/

/-- The smallest division of an observation source (R433). [DEDUCED, assumption 97, unsafe] -/
def obsLeast (src : Nat) : Nat := if src = 6 then 5 else 1

/-- Is `v` a reserved encoding of the field that begins at bit `lo` of the register at `a`, when the whole register is
written with `w`? [DEDUCED, assumption 97, unsafe] -/
def State.reservedValue (s : State) (a lo v w : Nat) : Bool :=
  let o := a % 0x1_0000_0000
  let tile := decide (0x1_0000_0000 ≤ a)
  if tile then
    if o = 0x21_0000 then lo == 0 && (decide (v < 100) || decide (60000 < v))
    else if o = 0x21_0010 then lo == 13 && v == 3
    else if o = 0x60_0004 ∨ o = 0x60_1004 then lo == 0 && (decide (v < 85) || decide (100 < v))
    else if 0xA6_8000 ≤ o ∧ o < 0xA6_8180 then
      (lo == 1 && decide (135 < v)) || (lo == 9 && decide (39 < v)) || (lo == 15 && (decide (v < 10) || decide (40 < v)))
    else false
  else if o = Reg.HIF_BAR2_BASE 0 ∨ o = Reg.HIF_BAR2_BASE 1 then
    lo == 0 && decide (v % (s.port (boolNat (decide (o = Reg.HIF_BAR2_BASE 1)))).bar2Size ≠ 0)
  else if 0x9000 ≤ o ∧ o < 0x9400 ∧ o % 0x40 < 0x10 then decide (v % 4096 ≠ 0)
  else if o = Reg.CLK_OBS_SEL then
    let src := natBits w 0 3
    -- a reserved division leaves the one in force, which the source must allow too
    let n := if natBits w 14 5 = 0 ∨ natBits w 14 5 ≥ 17 then natBits (s.reg a).toNat 14 5 else natBits w 14 5
    (lo == 7 && decide (v ≥ 6)) || (lo == 10 && decide (v ≥ 9)) || (lo == 14 && (decide (v = 0) || decide (v ≥ 17))) ||
      ((lo == 0 || lo == 14) && decide (n < obsLeast src))
  else if o = Reg.THM_CFG then
    (lo == 0 && (decide (v < 70) || decide (95 < v))) || (lo == 8 && (decide (v < 2) || decide (10 < v)))
  else if o = Reg.MGT_ERR_CFG then lo == 1 && (decide (v < 10) || decide (30 < v))
  else if o = Reg.PMC_MAP_CFG then lo == 1 && (decide (v < 18) || decide (30 < v))
  else false

/-! ### Host writes (R9, R10, R13 to R16) -/

/-- What a write of `v` leaves in the register at `a` that holds `cur`, in the bits from `from_` up; and whether some field
kept its value at a reserved encoding. A trigger acts in its own command. -/
def State.writeFields (s : State) (a from_ v : Nat) : List FieldSpec → Nat → Bool → Nat × Bool
  | [], cur, bad => (cur, bad)
  | f :: rest, cur, bad =>
    let whole := v / 2 ^ from_ * 2 ^ from_ + cur % 2 ^ from_
    let nv := natBits whole f.lo f.w
    let old := natBits cur f.lo f.w
    let ones := if f.lo < from_ then 0 else natBits v f.lo f.w
    match f.acc with
    | .ro | .wo => s.writeFields a from_ v rest cur bad
    | .rw =>
      if decide (f.lo + f.w ≤ from_) then s.writeFields a from_ v rest cur bad
      else if s.reservedValue a f.lo nv whole then s.writeFields a from_ v rest cur true
      else s.writeFields a from_ v rest (natPut cur f.lo f.w nv) bad
    | .w1c => s.writeFields a from_ v rest (natPut cur f.lo f.w (old &&& ((2 ^ f.w - 1) ^^^ ones))) bad
    | .w1s | .rws => s.writeFields a from_ v rest (natPut cur f.lo f.w (old ||| ones)) bad

/-- The request of vector `v` on port `p`: its cause bit and its enable (R406). -/
def State.requested (s : State) (p v : Nat) : Bool :=
  if v < 32 then
    natBit (s.gf (Reg.HIF_MOD_INT p) Fld.HIF_MOD_INT_cause) v && natBit (s.gf (Reg.HIF_MOD_INT_EN p) Fld.HIF_MOD_INT_EN_en) v
  else
    let i := (v - 32) / 8
    let e := (v - 32) % 8
    decide (planPort s.planForce i = p) && natBit (s.gf (Reg.HIF_STD_INT i) Fld.HIF_STD_INT_cause) e &&
      natBit (s.gf (Reg.HIF_STD_INT_EN i) Fld.HIF_STD_INT_EN_en) e

/-- A vector whose request has fallen is pending no longer (R406). [DEDUCED, assumption 90, unsafe] -/
def State.dropPending (s : State) (p : Nat) : State :=
  s.setPort p { s.port p with pba := (s.port p).pba.filter fun e => s.requested p e.1 }

/-- Vectors `vs` of port `p` whose request rises from `was` to `s` send their messages (R406). -/
def State.raiseNew (s was : State) (p : Nat) (vs : List Nat) : State :=
  vs.foldl (fun y v => if y.requested p v && !was.requested p v then y.request p v else y) s

/-- The interrupt vectors that a register's write may raise or drop: those of a module block, or of a stand. -/
def intVectors (a : Nat) : List Nat :=
  if a = Reg.HIF_MOD_INT_EN 0 ∨ a = Reg.HIF_MOD_INT_EN 1 ∨ a = Reg.HIF_MOD_INT 0 ∨ a = Reg.HIF_MOD_INT 1 then upto 19
  else if 0x9000 ≤ a ∧ a < 0x9400 ∧ (a % 0x40 = 0x10 ∨ a % 0x40 = 0x14) then
    (upto 7).map fun e => 32 + 8 * ((a - 0x9000) / 0x40) + e
  else []

/-- Write the register at `a` from bit `from_` up, by its access codes, with what follows from the write at once: messages
(R406), a host word to adopt (R69), settings to store (R517), a power target (R437), a reserved encoding's error (R15). [DEDUCED, assumption 96, safe, DEDUCED, assumption 98, unsafe] -/
def State.regWrite (s : State) (p a : Nat) (r : RegSpec) (from_ v : Nat) : State :=
  let cur := (s.reg a).toNat
  if 0xC00 ≤ a ∧ a < 0xE00 ∧ a % 0x20 = 0 then s.ctlWrite ((a - 0xC00) / 0x20) v
  else if a = Reg.MGT_TILE_CTL then s.tileCtl (natPut v 4 1 0)
  else
    let (nv, bad) := s.writeFields a from_ v r.fields cur false
    let s1 := s.setReg a (BitVec.ofNat 64 nv)
    let s2 := if bad then s1.reservedEnc a else s1
    let vs := intVectors a
    let s3 := if vs = [] then s2 else (s2.raiseNew s p vs).dropPending p
    if 0x100_0000 ≤ a ∧ a < 0x200_0000 ∧ 0x100 ≤ a % 0x10_0000 ∧ a % 0x10_0000 < 0x180 then
      let i := (a - 0x100_0000) / 0x10_0000
      let x := s3.stand i
      s3.setStand i { x with hostPending := x.hostPending ++ [(a % 0x10_0000 / 8 - 32, BitVec.ofNat 64 nv, s3.gtc)] }
    else if a = Reg.OPT_ILK_CTL ∨ a = Reg.CLK_REF_CTL then s3.settingsSave
    else if a = Reg.CLK_OBS_SEL then s3.obsSwitch cur
    else if isArm a then s3.armed a
    else s3

/-- Who may write the register at `a`: the error of a write by another port (R51, R414, R437), or none. [DEDUCED, assumption 88, safe] -/
def State.wrongPort (s : State) (p a : Nat) : Option State :=
  let stand := fun (i : Nat) => if planPort s.planForce i = p then none else some (s.notMaster p i a)
  if 0x100_0000 ≤ a ∧ a < 0x200_0000 then stand ((a - 0x100_0000) / 0x10_0000)
  else if 0xC00 ≤ a ∧ a < 0xE00 then stand ((a - 0xC00) / 0x20)
  else if 0x9000 ≤ a ∧ a < 0x9400 then stand ((a - 0x9000) / 0x40)
  else if 0x8000 ≤ a ∧ a < 0x8800 ∧ (a - 0x8000) / 0x400 ≠ p then
    some (s.contained { ErrInfo.plain 8 4 with detail := some p, addr := some a })
  else none

/-- The bytes of a word into a byte map of a plan. -/
def planPut (m : SMap Byte) (o v : Nat) : SMap Byte :=
  (upto 4).foldl (fun y k => sset (planByte (o + k)) y (o + k) (BitVec.ofNat 8 (v / 2 ^ (8 * k)))) m

/-- Write the 32-bit word at an offset: a 64-bit register's low word is held, its high word applies both (R9). A
write of the other port to an unassigned offset of a stand page is refused as R16 says, not as R51 does. [DEDUCED, assumption 88, safe] -/
def State.writeWord (s : State) (p off v : Nat) : State :=
  match s.hostPlace p off with
  | .reg a r high =>
    match s.wrongPort p a with
    | some s1 => s1
    | none =>
      let x := s.port p
      if !r.wide then s.regWrite p a r 0 v
      else if !high then s.setPort p { x with held := sset none x.held a (some (BitVec.ofNat 32 v)) }
      else
        match sget none x.held a with
        | some lo => (s.setPort p { x with held := sset none x.held a none }).regWrite p a r 0 (lo.toNat + v * 2 ^ 32)
        | none => s.regWrite p a r 32 (v * 2 ^ 32)
  | .table o =>
    -- only the mask bit of a vector's control word is not reserved
    let w := if o % 16 = 12 then v % 2 else if o % 16 = 0 then v / 4 * 4 else v
    s.setPort p { s.port p with table := sset (if o % 16 = 12 then 1 else 0) (s.port p).table o (BitVec.ofNat 32 w) }
  | .pba _ => s
  | .stage o =>
    if s.gf Reg.MGT_PLAN_STATUS Fld.MGT_PLAN_STATUS_busy = 1 then s else { s with planStaged := planPut s.planStaged o v }
  | .force _ => s
  | .unassigned => s.refuseAccess p off

/-- An aligned 8-byte write: a 64-bit register takes it whole, and a held low word is discarded (R9); two 32-bit places are
written low first, and an access with an unassigned half is refused whole (R16). [DEDUCED, assumption 89, safe] -/
def State.writeWide (s : State) (p off v : Nat) : State :=
  if s.hostPlace p off = .unassigned ∨ s.hostPlace p (off + 4) = .unassigned then s.refuseAccess p off
  else match s.hostPlace p off with
  | .reg a r false =>
    if r.wide then
      match s.wrongPort p a with
      | some s1 => s1
      | none => (s.setPort p { s.port p with held := sset none (s.port p).held a none }).regWrite p a r 0 v
    else (s.writeWord p off (v % 2 ^ 32)).writeWord p (off + 4) (v / 2 ^ 32)
  | _ => (s.writeWord p off (v % 2 ^ 32)).writeWord p (off + 4) (v / 2 ^ 32)

/-- A host write of BAR0 of `n` bytes: discarded where the port does not serve the offset; refused at any other size or
alignment (R399). -/
def State.hostStore (s : State) (p off n v : Nat) : Host.Outcome State Fault Refusal :=
  if p ≥ 2 then .fault .noSuchUnit
  else if !s.portUp p || (s.port p).d3 then .next s
  else if (n ≠ 4 ∧ n ≠ 8) ∨ off % n ≠ 0 then .next (s.refuseAccess p off)
  else if !s.serves p off then .next s
  else if n = 8 then .next (s.writeWide p off v)
  else .next (s.writeWord p off (v % 2 ^ 32))

/-- A host write to register fields that have no command of their own (R10). -/
def execRegisterWrite (p off n : Nat) (v : BitVec 64) (s : State) : Host.Outcome State Fault Refusal := s.hostStore p off n v.toNat

/-- A 4-byte write of the low word of a 64-bit register (R9). -/
def execRegisterLowWordWrite (p off : Nat) (v : BitVec 32) (s : State) : Host.Outcome State Fault Refusal :=
  s.hostStore p off 4 v.toNat

/-- A 4-byte write of the high word of a 64-bit register (R9). -/
def execRegisterHighWordWrite (p off : Nat) (v : BitVec 32) (s : State) : Host.Outcome State Fault Refusal :=
  s.hostStore p off 4 v.toNat

end Sys2Proof.Machine
end

