-- ==== Sys2Proof/Machine/Pcie.lean ====
section
/-! DEFINITION. The PCIe functions (R29, R394 to R413): BAR2, resets and power states of a port, messages, the end of a host
transfer, and what the DOE mailbox and the MCTP endpoint answer (R510 to R513). -/

namespace Sys2Proof.Machine

/-! ### What a function is (R394) -/

/-- What a function's configuration space says of the device: Device ID, class code, revision, No_Soft_Reset, and how many MSI-X
vectors it has. -/
structure PciIdentity where
  device : BitVec 16
  classCode : BitVec 24
  revision : BitVec 8
  noSoftReset : Bool
  vectors : Nat
  deriving DecidableEq, Repr

/-- Both functions': a processing accelerator. The vendor and subsystem IDs, which the spec does not give, are left out. -/
def pciIdentity : PciIdentity := ⟨0x9602, 0x120000, 0x01, true, 160⟩

/-- The longest payload of a write, at most 512 bytes (R401), and of a read request, at most 4,096. -/
def PortSt.maxPayload (x : PortSt) : Nat := min (128 * 2 ^ x.mps.toNat) 512
def PortSt.maxRead (x : PortSt) : Nat := min (128 * 2 ^ x.mrrs.toNat) 4096

/-! ### BAR2 (R56, R57, R59, R400, R401) -/

/-- Does stand `i` answer BAR2 of port `p`? -/
def State.barStand (s : State) (p i : Nat) : Bool := planValid s.planForce i && planPort s.planForce i == p

/-- The place a device global address names through BAR2 of port `p`; none where the access is refused (R59). -/
def State.barPlace (s : State) (p a : Nat) : Option Place :=
  let mine := fun (o : Option Nat) => match o with
    | some i => s.barStand p i
    | none => false
  match placeOf a with
  | some (.hbm j o) => if mine (s.standOfStack j) then some (.hbm j o) else none
  | some (.tower w o) => if mine (s.standOfTower w) then some (.tower w o) else none
  | some (.data g o) => if mine (s.standOfTower (towerOf g)) then some (.data g o) else none
  | some (.prog g o) => if mine (s.standOfTower (towerOf g)) then some (.prog g o) else none
  | some (.inter o) =>
    let i := s.gf (Reg.HIF_BAR2_BASE p) Fld.HIF_BAR2_BASE_il_stand
    if s.barStand p i then interleave (s.stacksOf i) o else none
  | _ => none

/-- Is BAR2 served at all (R396, R468)? [DEDUCED, assumption 63, unsafe, 91] -/
def State.barOpen (s : State) : Bool := s.phase != 2 && s.sec.image.isSome && !s.unmanaged

/-- Does a stack hold its contents: trained, in self-refresh or degraded (R383)? -/
def State.stackHolds (s : State) (j : Nat) : Bool :=
  let st := s.gf (Reg.HBM_STATE (j / 2) (j % 2)) Fld.HBM_STATE_state
  st == 2 || st == 3 || st == 5

/-- Is the tower powered and its link up? -/
def State.towerOn (s : State) (w : Nat) : Bool :=
  s.gf (Reg.CLK_SITE_ACTIVE (w / 6) (w % 6)) Fld.CLK_SITE_ACTIVE_mask != 0 && s.linkState w == 3

/-- Can a read reach the memory of a place within 1 ms: its tile not in a warm start, its stack holding its contents, its
tower powered (R401)? [DEDUCED, assumption 94, unsafe] -/
def State.reachable (s : State) (p : Place) : Bool :=
  match p with
  | .hbm j _ => !s.tileOut (j / 2) && s.stackHolds j
  | .tower w _ => !s.tileOut (w / 6) && s.towerOn w
  | .data g _ | .prog g _ => !s.tileOut (tileOf g) && s.towerOn (towerOf g)
  | _ => false

/-- Does a write to the place land: a stack that holds its contents and a tower whose memories keep theirs, in DEEP too (R436), take it
whatever their tile and link do, so that a later run sees it (R402)? [DEDUCED, assumption 93, safe] -/
def State.landing (s : State) (p : Place) : Bool :=
  match p with
  | .hbm j _ => s.stackHolds j
  | .tower w _ => decide ((s.towerPower w).1 < 3)
  | .data g _ | .prog g _ => decide ((s.towerPower (towerOf g)).1 < 3)
  | _ => s.reachable p

/-- The parts of `n` bytes from `a` that lie within one 64-byte line each: start and length. -/
def linePieces (a : Nat) : Nat → Nat → List (Nat × Nat)
  | 0, _ => []
  | _, 0 => []
  | fuel + 1, n =>
    let k := min n (64 - a % 64)
    (a, k) :: linePieces (a + k) fuel (n - k)

/-- The device global address of offset `off` of BAR2 of port `p`. -/
def State.barAddr (s : State) (p off : Nat) : Nat := s.gf (Reg.HIF_BAR2_BASE p) Fld.HIF_BAR2_BASE_base + off

/-- The places of a BAR2 access, each with its length; none where any part of it is refused. [DEDUCED, assumption 91, unsafe] -/
def State.barPieces (s : State) (p off n : Nat) : Option (List (Place × Nat)) :=
  if !s.barOpen || decide (off + n > (s.port p).bar2Size) || decide (4096 < n) then none
  else (linePieces (s.barAddr p off) (n / 64 + 2) n).mapM fun (q : Nat × Nat) =>
    match s.barPlace p q.1 with
    | some x => if q.2 ≤ placeRoom x then some (x, q.2) else none
    | none => none

/-- A BAR2 access refused (R16): a contained error. -/
def State.refuseBar (s : State) (p off : Nat) : State :=
  s.contained { ErrInfo.plain 8 3 with detail := some p, addr := some (s.barAddr p off) }

/-- A BAR2 read that cannot be served in 1 ms: all ones, contained error 0x06. [DEDUCED, assumption 94, unsafe] -/
def State.barTimeout (s : State) (p off n : Nat) : State :=
  (s.contained { ErrInfo.plain 8 6 with detail := some p, addr := some (s.barAddr p off) }).emit (.bytes p n (allOnes n))

/-- The bytes of one piece of a read, all ones in a poisoned line, and whether it is spoilt. [DEDUCED, assumption 92, unsafe] -/
def State.barData (s : State) (x : Place) (n : Nat) : Nat × Bool :=
  let a := (placeAddr x).getD 0
  if s.poisoned a then (allOnes n, true) else (s.rd a n, false)

/-- The bytes of all the pieces in order. -/
def State.barJoin (s : State) : List (Place × Nat) → Nat × Bool
  | [] => (0, false)
  | (x, n) :: rest =>
    let d := s.barData x n
    let r := s.barJoin rest
    (d.1 + r.1 * 2 ^ (8 * n), d.2 || r.2)

/-- The place of the `k`-th aligned 8-byte granule of a read at device address `a`. -/
def State.granule (s : State) (p a k : Nat) : Option Place := s.barPlace p (8 * (a / 8 + k))

/-- The bits of that granule in the read's `n` bytes, all one. -/
def granuleBits (a n k : Nat) : Nat :=
  let lo := max a (8 * (a / 8 + k))
  let hi := min (a + n) (8 * (a / 8 + k) + 8)
  allOnes (hi - lo) * 2 ^ (8 * (lo - a))

/-- Is the place in a core's memory? -/
def Place.isCore : Place → Bool
  | .data .. | .prog .. => true
  | _ => false

/-- A host read of BAR2, of 1 to 4,096 bytes; `ecc` is what error correction finds in its granules, each named by its number
in the read (R380, R390, R87). A poisoned line spoils all that the read takes of it, an uncorrectable word of a core's
memory its own granule (R401). A read that its die holds waits at the port (R78, R79). [PRESUMED, assumption 87, unsafe,
DEDUCED, assumption 92, unsafe, DESIGN CHOICE, assumption 160, unsafe] -/
def execBar2Read (p off n : Nat) (ecc : List (Nat × Ecc)) (s : State) : Host.Outcome State Fault Refusal :=
  if p ≥ 2 then .fault .noSuchUnit
  else if !s.portUp p then .next s
  else if (s.port p).d3 then .next (s.emit (.unsupported p))
  else
    match s.barPieces p off n with
    | none => .next ((s.refuseBar p off).emit (.bytes p n (allOnes n)))
    | some [] => .next (s.emit (.bytes p 0 0))
    | some (q :: rest) =>
      if !((q :: rest).all fun (x : Place × Nat) => s.reachable x.1) then .next (s.barTimeout p off n)
      else if (q :: rest).any fun (x : Place × Nat) => s.placeHeld x.1 true then .next s
      else
        let a := s.barAddr p off
        let met := ecc.filterMap fun (g : Nat × Ecc) =>
          if 8 * (a / 8 + g.1) < a + n then (s.granule p a g.1).map fun x => (g.1, x, g.2) else none
        let s1 := met.foldl (fun y (g : Nat × Place × Ecc) => y.eccAt g.2.1 g.2.2) ((q :: rest).foldl (fun y x => y.busHost x.1 true) s)
        let lost := met.filter fun (g : Nat × Place × Ecc) => g.2.2 == .bad && g.2.1.isCore
        let (v0, spoilt) := s1.barJoin (q :: rest)
        let v := lost.foldl (fun x g => x ||| granuleBits a n g.1) v0
        let bad := spoilt || lost != []
        let s2 := s1.emit (.bytes p n v)
        if !bad then .next s2
        else
          .next ((s2.contained { ErrInfo.plain 8 0xF with detail := some p, addr := some (s.barAddr p off) }).emit (.poisoned p))

/-- A BAR2 read that its memory does not serve within 1 ms. -/
def execBar2ReadTimeout (p off n : Nat) (s : State) : Host.Outcome State Fault Refusal :=
  if p ≥ 2 then .fault .noSuchUnit
  else if !s.portUp p || (s.port p).d3 then .next s
  else .next (s.barTimeout p off n)

/-- Is the place in the program memory of a stand in a run (R148)? -/
def State.progHeld (s : State) (x : Place) : Bool :=
  match x with
  | .prog g _ => match s.standOfTower (towerOf g) with
    | some i => s.inRun i
    | none => false
  | _ => false

/-- Write one piece. A narrow write to a poisoned line is discarded with contained error 0x0F. Whether a write to a memory
that cannot be reached lands is free. [DEDUCED, assumption 93, safe] -/
def State.barPut (s : State) (p : Nat) (x : Place) (n v : Nat) : State :=
  let a := (placeAddr x).getD 0
  let put := fun (y : State) =>
    if n < 64 ∧ y.poisoned a then y.contained { ErrInfo.plain 8 0xF with detail := some p, addr := some a }
    else (y.store a n v).busHost x false
  if s.landing x then put s
  else
    let (b, s1) := s.takeBit
    if b then put s1 else s1

/-- Write the pieces in order from the low bytes of `v`. -/
def barPuts (p : Nat) : List (Place × Nat) → Nat → State → State
  | [], _, s => s
  | (x, n) :: rest, v, s => barPuts p rest (v / 2 ^ (8 * n)) (s.barPut p x n (v % 2 ^ (8 * n)))

/-- Does a write of `n` bytes at `a` read granule `k`, which lies in `x`: one that it covers in part or, in HBM, any of a 64-byte line
that it does not fill (R87, R380, R390)? -/
def granuleRead (a n k : Nat) (x : Place) : Bool :=
  let lo := 8 * (a / 8 + k)
  let part := !(decide (a ≤ lo) && decide (lo + 8 ≤ a + n))
  decide (max a lo < min (a + n) (lo + 8)) &&
    (match x with
      | .hbm _ _ => !(decide (a ≤ lo / 64 * 64) && decide (lo / 64 * 64 + 64 ≤ a + n))
      | _ => part)

/-- A host write of the low `n` bytes of `v`, which a Max_Payload_Size bounds: a longer one is refused whole (R401). A word of a core's
memory that is written in part and found uncorrectable fences the core and keeps what it holds (R87). A write that its die holds waits at the
port (R78, R79). [DEDUCED, assumption 91, unsafe, DESIGN CHOICE, assumption 160, unsafe] -/
def execBar2Write (p off n : Nat) (v : BarStore) (s : State) : Host.Outcome State Fault Refusal :=
  if p ≥ 2 then .fault .noSuchUnit
  else if !s.portUp p || (s.port p).d3 then .next s
  else
    match if n ≤ (s.port p).maxPayload then s.barPieces p off n else none with
    | none => .next (s.refuseBar p off)
    | some qs =>
      if qs.any fun (x : Place × Nat) => s.progHeld x.1 then .next (s.refuseBar p off)
      else if qs.any fun (x : Place × Nat) => s.placeHeld x.1 false then .next s
      else
        let a := s.barAddr p off
        let met := v.ecc.filterMap fun (g : Nat × Ecc) =>
          match s.granule p a g.1 with
          | some x => if granuleRead a n g.1 x then some (g.1, x, g.2) else none
          | none => none
        let s1 := met.foldl (fun y (g : Nat × Place × Ecc) => y.eccAt g.2.1 g.2.2) s
        let keep := (met.filter fun (g : Nat × Place × Ecc) => g.2.2 == .bad && g.2.1.isCore).foldl
          (fun x g => x ||| granuleBits a n g.1) 0
        let old := (s1.barJoin qs).1
        .next (barPuts p qs ((v.bits.toNat &&& (allOnes n ^^^ keep)) ||| (old &&& keep)) s1)

/-- An AtomicOp request to either BAR (R395). -/
def execAtomicopRequest (p : Nat) (s : State) : Host.Outcome State Fault Refusal :=
  if p ≥ 2 then .fault .noSuchUnit else .next (if s.portUp p then s.emit (.unsupported p) else s)

/-- The BAR2 size changes: a base that is no longer a multiple of it becomes 0 (R400). A size that the capability does not
offer changes nothing. -/
def execBar2Resize (p size : Nat) (s : State) : Host.Outcome State Fault Refusal :=
  if p ≥ 2 then .fault .noSuchUnit
  else if !s.portUp p || !([2 ^ 36, 2 ^ 37, 2 ^ 38, 2 ^ 39, 2 ^ 40, 2 ^ 41].contains size) then .next s
  else
    let s1 := s.setPort p { s.port p with bar2Size := size }
    let a := Reg.HIF_BAR2_BASE p
    .next (if s1.gf a Fld.HIF_BAR2_BASE_base % size = 0 then s1 else s1.sf a Fld.HIF_BAR2_BASE_base 0)

/-! ### Port resets (R29, R66, R411) -/

/-- A stand's page registers at their Warm values, its host words gone (R67). [DEDUCED, assumption 84, unsafe] -/
def State.warmPage (s : State) (i : Nat) : State :=
  let lo := 0x100_0000 + 0x10_0000 * i
  let s1 := s.warmRegs fun a => decide (lo ≤ a) && decide (a < lo + 0x10_0000)
  s1.setStand i { s1.stand i with hostWords := [], hostPending := [] }

/-- The link goes down under stand `i`'s host transfers: the first is recorded as failed (R410), and its tag dies with the run. -/
def State.hxLost (s : State) (i : Nat) : State :=
  let g := (s.stand i).copy.hxCore
  if (s.core g).moves.any (·.host) then hxError s i g 4 8 else s

/-- A port reset: the runs of the port's stands end, its function and its HIF_ registers start afresh, its held and latched
words are gone, and the other port sees cause 17. `held` says that the port stays in reset. The messages of what it fails go out before it.
[DEDUCED, assumption 16, safe, DEDUCED, assumption 84, unsafe, DESIGN CHOICE, assumption 163, unsafe] -/
def State.portReset (s : State) (p : Nat) (held : Bool) : State :=
  let mine := (upto 16).filter fun i => planPort s.planForce i == p
  let s0 := (mine.filter s.inRun).foldl (fun y i => y.hxLost i) s
  let s1 := (mine.filter s.inRun).foldl (fun y i => y.endRun i 0 0x0E) s0
  let s2 := mine.foldl (fun y i => y.warmPage i) s1
  let s3 := s2.warmRegs fun a => (decide (0x8000 + 0x400 * p ≤ a) && decide (a < 0x8400 + 0x400 * p)) ||
    mine.any fun i => decide (0x9000 + 0x40 * i ≤ a) && decide (a < 0x9040 + 0x40 * i)
  let s4 := s3.sfSat (Reg.HIF_PERST_COUNT p) Fld.HIF_PERST_COUNT_count 1
  let l := Reg.HIF_LINK p
  let s5 := if held then (((s4.sf l Fld.HIF_LINK_state 0).sf l Fld.HIF_LINK_speed 0).sf l Fld.HIF_LINK_width 0).sf l
      Fld.HIF_LINK_l0p_width 0
    else (s4.sf l Fld.HIF_LINK_state 2).sf l Fld.HIF_LINK_l0p_width (s4.gf l Fld.HIF_LINK_width)
  let s6 := s5.setPort p { PortSt.zero with inReset := held, cfgReady := !held && (s.port p).cfgReady }
  s6.modCauseOn (1 - p) 17

/-- PERST# of port `p` is asserted. -/
def State.assertPerst (s : State) (p : Nat) : State := if (s.port p).inReset then s else s.portReset p true

def cableFld (p : Nat) : Fld := if p = 0 then Fld.MGT_BOUNDARY_port0_cable else Fld.MGT_BOUNDARY_port1_cable

/-- PERST# is asserted. [DEDUCED, assumption 85, unsafe] -/
def execPerstAssert (p : Nat) (s : State) : Host.Outcome State Fault Refusal :=
  if p ≥ 2 then .fault .noSuchUnit else .next (if s.power then s.assertPerst p else s)

/-- PERST# is released with the cable present, or stands released, `ref` saying whether the reference arrives on the cable:
100 ms later the port with its reference present serves configuration requests, its link trained and its function configured
as `cfg` says. A partner without Flit mode leaves the link in Detect (R395). [DEDUCED, assumption 86, safe, PRESUMED, assumption 87, unsafe] -/
def execPerstDeassert (p : Nat) (ref : Bool) (cfg : PortCfg) (s0 : State) : Host.Outcome State Fault Refusal :=
  if p ≥ 2 then .fault .noSuchUnit
  else if !s0.power || s0.portUp p || s0.gf Reg.MGT_BOUNDARY (cableFld p) = 0 then .next s0
  else
    let s1 := if ref then s0.setRefs (presentFld p) 1 else s0
    -- the offset of an unselected reference that has come is measured (R417)
    let s := if ref ∧ p ≠ s0.refSel ∧ s0.refs (presentFld p) = 0 then s1.standbyMeasure else s1
    let l := Reg.HIF_LINK p
    let x := { s.port p with inReset := false }
    if s.refs (presentFld p) = 0 then .next (s.setPort p x)
    else if !cfg.flit then .next ((s.setPort p x).sf l Fld.HIF_LINK_state 6)
    else
      let s1 := s.setPort p { x with cfgReady := true, busMaster := cfg.bme, mps := cfg.mps, mrrs := cfg.mrrs, msixEnable := cfg.msix, funcMask := cfg.fmask }
      .next ((((s1.sf l Fld.HIF_LINK_state 2).sf l Fld.HIF_LINK_speed (min cfg.speed.toNat 5)).sf l Fld.HIF_LINK_width
        cfg.width.toNat).sf l Fld.HIF_LINK_l0p_width cfg.width.toNat)

/-- A Hot Reset: a port reset, after which the port trains again at once. [DEDUCED, assumption 85, unsafe] -/
def execHotReset (p : Nat) (s : State) : Host.Outcome State Fault Refusal :=
  if p ≥ 2 then .fault .noSuchUnit else .next (if s.portUp p then s.portReset p false else s)

/-- The link goes down: a port reset, after which the port trains again at once. [DEDUCED, assumption 85, unsafe] -/
def execPcieLinkDown (p : Nat) (s : State) : Host.Outcome State Fault Refusal :=
  if p ≥ 2 then .fault .noSuchUnit else .next (if s.portUp p then s.portReset p false else s)

/-- A cable comes or goes: MGT_BOUNDARY follows, the other port sees cause 18, and without a cable PERST# is seen asserted
(R29, R44). The loss of its reference is a command of its own. -/
def execCablePresenceChange (p : Nat) (present : Bool) (s : State) : Host.Outcome State Fault Refusal :=
  if p ≥ 2 then .fault .noSuchUnit
  else if !s.power || s.gf Reg.MGT_BOUNDARY (cableFld p) = boolNat present then .next s
  else
    let s1 := s.sf Reg.MGT_BOUNDARY (cableFld p) (boolNat present)
    .next ((if present then s1 else s1.assertPerst p).modCauseOn (1 - p) 18)

/-! ### Power states, CLKREQ# and messages (R397, R406, R412) -/

/-- The function enters D3hot. -/
def execD3hotEntry (p : Nat) (s : State) : Host.Outcome State Fault Refusal :=
  if p ≥ 2 then .fault .noSuchUnit
  else .next (if s.portUp p then s.setPort p { s.port p with d3 := true } else s)

/-- Send a pending message that may go now. -/
def State.sendPending (s : State) (p v : Nat) : State :=
  let x := s.port p
  if sget false x.pba v && s.requested p v && x.canSend v then
    (s.setPort p { x with pba := sset false x.pba v false }).emit (.msix p v)
  else s

/-- The function returns to D0 with its configuration, and its pending messages go. [DEDUCED, assumption 90, unsafe] -/
def execD0Return (p : Nat) (s : State) : Host.Outcome State Fault Refusal :=
  if p ≥ 2 then .fault .noSuchUnit
  else if !s.portUp p then .next s
  else .next ((upto 160).foldl (fun y v => y.sendPending p v) (s.setPort p { s.port p with d3 := false }))

/-- A mask ends, by a write of the function's configuration or of the table: vector `v`'s pending message goes. `cfg` is the
configuration from then on. [DEDUCED, assumption 90, unsafe] -/
def execMsixPendingSend (p v : Nat) (cfg : PortCfg) (s : State) : Host.Outcome State Fault Refusal :=
  if p ≥ 2 ∨ v ≥ 160 then .fault .noSuchUnit
  else if !s.portUp p then .next s
  else
    let s1 := s.setPort p { s.port p with busMaster := cfg.bme, mps := cfg.mps, mrrs := cfg.mrrs, msixEnable := cfg.msix, funcMask := cfg.fmask }
    .next (s1.sendPending p v)

/-- May the link of port `p` run at an active width of `w` in L0p (R394, R415): enabled, narrower than the link, and no narrower than
l0p_min allows? -/
def State.l0pMay (s : State) (p w : Nat) : Bool :=
  let a := Reg.HIF_PM_CFG p
  s.gf a Fld.HIF_PM_CFG_l0p_en == 1 && [1, 2, 4, 8].contains w && decide (w < s.gf (Reg.HIF_LINK p) Fld.HIF_LINK_width) &&
    decide (8 ≤ w * 2 ^ s.gf a Fld.HIF_PM_CFG_l0p_min)

/-- The link enters or leaves L1, so that CLKREQ# of a released standby reference follows (R397); or L0p, training or recovery
(R394, R415). A move that the link's state does not allow changes nothing. [DESIGN CHOICE, assumption 140, safe] -/
def execAspmL1Transition (p : Nat) (x : LinkMove) (s : State) : Host.Outcome State Fault Refusal :=
  if p ≥ 2 then .fault .noSuchUnit
  else
    let l := Reg.HIF_LINK p
    let st := s.gf l Fld.HIF_LINK_state
    let go := fun (n w : Nat) => (s.sf l Fld.HIF_LINK_state n).sf l Fld.HIF_LINK_l0p_width w
    let full := s.gf l Fld.HIF_LINK_width
    if !s.portUp p then .next s
    else match x with
      | .l1 => .next (if st = 2 ∨ st = 3 then go 4 full else s)
      | .l0 => .next (if st = 1 ∨ st = 3 ∨ st = 4 ∨ st = 5 then go 2 full else s)
      | .l0p w => .next (if (st = 2 ∨ st = 3) ∧ s.l0pMay p w = true then go 3 w else s)
      | .training => .next (if st = 5 then go 1 full else s)
      | .recovery => .next (if st = 2 ∨ st = 3 ∨ st = 4 then go 5 full else s)

/-! ### The end of a host transfer (R227 to R229, R408 to R410) -/

/-- The 64-byte line at stand `i`'s address `a`. -/
def State.farLine (s : State) (i a : Nat) : BitVec 512 :=
  match s.far i a with
  | some x => BitVec.ofNat 512 (s.rd x 64)
  | none => 0

/-- Lines that a host transfer brings in reach the device's memory. -/
def hxLines (i : Nat) (m : MoveSt) (data : List (BitVec 512)) (ls : List Nat) (s : State) : State :=
  ls.foldl (fun y l =>
    match y.far i (m.far.toNat + 64 * l) with
    | some a => (y.store a 64 (data.getD l 0).toNat).busHostAt i (m.far.toNat + 64 * l) false
    | none => y) s

/-- Complete the tag of transfer `m` and count its status; nistat names its issue beat and the tile of the device's side
(R230). [DEDUCED, assumption 114, unsafe] -/
def hxEnd (s : State) (i g : Nat) (m : MoveSt) (status : Nat) : State :=
  let s1 := tagComplete s g m.tag status
  if status = 0 then s1 else niNote (s1.coreCount g 33 1) g status 0x38 (s.hxTile i g m.far.toNat) m.beat.toNat

/-- The 4 KiB pieces of a host transfer (R409): host address and length. -/
def hxPieces (m : MoveSt) : List (Nat × Nat) := hostPieces m.loc.toNat (64 * m.lines / 4096 + 2) (64 * m.lines)

/-- `n` bytes from `a` in parts of at most `k` bytes: start and length. -/
def partsOf (k : Nat) : Nat → Nat → Nat → List (Nat × Nat)
  | 0, _, _ => []
  | _, _, 0 => []
  | fuel + 1, a, n => (a, min n k) :: partsOf k fuel (a + min n k) (n - min n k)

/-- A port's payload count grows (HIF_XFER_BYTES). -/
def State.hxCarry (s : State) (p n : Nat) : State :=
  s.setReg (Reg.HIF_XFER_BYTES p) (s.reg (Reg.HIF_XFER_BYTES p) + BitVec.ofNat 64 n)

/-- One write of lines `ls`, which follow each other, to host memory. -/
def hxWrite (p i : Nat) (m : MoveSt) (ls : List Nat) (s : State) : State :=
  match ls with
  | [] => s
  | l :: _ =>
    (ls.foldl (fun y k => y.busHostAt i (m.far.toNat + 64 * k) true) (s.hxCarry p (64 * ls.length))).emit (.hostWrite p (m.loc + BitVec.ofNat 64 (64 * l)) (64 * ls.length)
      (ls.foldr (fun k v => (s.farLine i (m.far.toNat + 64 * k)).toNat + 2 ^ 512 * v) 0))

/-- The numbers of the lines from host address `a`, `n` bytes of them. -/
def hxNums (m : MoveSt) (a n : Nat) : List Nat := (upto (n / 64)).map fun k => (a - m.loc.toNat) / 64 + k

/-- The engine serves piece `q` of an outward transfer in writes of at most Max_Payload_Size; a poisoned line of the device's memory is
not sent (R381, R409). `gone` lists lines that error correction has lost. -/
def hxOut (p i : Nat) (m : MoveSt) (gone : List Nat) (q : Nat × Nat) (s : State) : State :=
  (partsOf (s.port p).maxPayload (q.2 / 64 + 1) q.1 q.2).foldl (fun y c =>
    let ls := hxNums m c.1 c.2
    let good := ls.filter fun l => !(gone.contains l) && !(y.farPoisoned i (m.far.toNat + 64 * l))
    if good = ls then hxWrite p i m ls y else good.foldl (fun z l => hxWrite p i m [l] z) y) s

/-- The read requests of piece `q` of an inward transfer, of at most Max_Read_Request_Size (R409). -/
def hxAsks (s : State) (p : Nat) (q : Nat × Nat) : List (Nat × Nat) := partsOf (s.port p).maxRead (q.2 / 64 + 1) q.1 q.2

/-- Does a die hold one of the lines `ls` of a host transfer on its way (R78, R79)? -/
def State.hxHeld (s : State) (i : Nat) (m : MoveSt) (ls : List Nat) : Bool :=
  ls.any fun l => (s.standPlace i (m.far.toNat + 64 * l)).any fun x => s.placeHeld x (!m.toFar)

/-- The engine serves the next piece of transfer `m` of core `g`, unless a die holds what it would read there. -/
def hxServe (p i g : Nat) (m : MoveSt) (gone : List Nat) (s : State) : State :=
  match (hxPieces m)[m.asked]? with
  | none => s
  | some q =>
    if !m.toFar && s.hxHeld i m (hxNums m q.1 q.2) then s else
    let lost := !m.toFar && (hxNums m q.1 q.2).any fun l => gone.contains l || s.farPoisoned i (m.far.toNat + 64 * l)
    let s1 := if m.toFar then (hxAsks s p q).foldl (fun y c => y.emit (.hostRead p (BitVec.ofNat 64 c.1) c.2)) s
      else hxOut p i m gone q s
    let c := s1.core g
    s1.setCore g { c with moves := c.moves.map fun x =>
      if x.host ∧ x.tag = m.tag then { x with asked := m.asked + 1, bad := if x.bad = 0 ∧ lost then 3 else x.bad } else x }

/-- The transfer that the engine serves for stand `i`: the first of its hx_core (R409). -/
def State.hxHead (s : State) (i : Nat) : Option (Nat × MoveSt) :=
  if s.inRun i then ((s.core (s.stand i).copy.hxCore).moves.find? (·.host)).map fun m => ((s.stand i).copy.hxCore, m) else none

/-- The read requests of stand `k`'s transfer that are outstanding. -/
def State.hxReads (s : State) (p k : Nat) : Nat :=
  match s.hxHead k with
  | some (_, m) => if m.toFar then (((hxPieces m).take m.asked).map fun q => (hxAsks s p q).length).sum else 0
  | none => 0

/-- One round of the engine of port `p` (R409): a piece of stand `i`'s transfer, then one of every other stand's, no read beyond 512
outstanding. [DESIGN CHOICE, assumption 95, unsafe] -/
def hxRound (p i : Nat) (gone : List Nat) (s : State) : State :=
  let own := match s.hxHead i with
    | some (g, m) => hxServe p i g m gone s
    | none => s
  let asks := match s.hxHead i with
    | some (_, m) => match (hxPieces m)[m.asked]? with
      | some q => if m.toFar then (hxAsks s p q).length else 0
      | none => 0
    | none => 0
  ((upto 15).map fun k => (i + 1 + k) % 16).foldl (fun y k =>
    if planPort y.planForce k ≠ p then y
    else match y.hxHead k with
      | none => y
      | some (g, m) =>
        let others := (((upto 16).filter fun j => j ≠ i && planPort y.planForce j == p).map fun j => y.hxReads p j).sum
        let next := match (hxPieces m)[m.asked]? with
          | some q => (hxAsks y p q).length
          | none => 0
        if m.toFar ∧ 512 < asks + others + next then y else hxServe p k g m [] y) own

/-- The engine finishes the transfer on tag `mt` of core `g`: whole, its tag completing ok; or with host_error, for which
`kind` says why as HIF_XFER_ERR does, Bus Master Enable fallen before its last request among them (R410), and which lines have moved is
free (R228). A line of the device's memory that is poisoned or lost is not sent, and the tag completes with data_error (R229, R381),
which a core's own memory answers by its fence alone. `data` is what the host's memory held, `ecc` what error correction finds in the
device's lines that it has still to read. [DEDUCED, assumption 95, unsafe] -/
def execHxferComplete (g : Nat) (mt : BitVec 3) (kind : Nat) (data : List (BitVec 512)) (ecc : List (Nat × Ecc))
    (s0 : State) : Host.Outcome State Fault Refusal :=
  if g ≥ 12288 then .fault .noSuchUnit
  else
    -- the engine serves a stand's transfers in issue order (R409)
    match ((s0.core g).moves.filter (·.host)).head? with
    | none => .next s0
    | some m =>
      if m.tag ≠ mt ∨ (kind = 0 ∧ s0.hxHeld (s0.standOf g) m (upto m.lines)) then .next s0
      else
      let i := s0.standOf g
      let p := planPort s0.planForce i
      let sent := (((hxPieces m).take m.asked).map (·.2)).sum / 64
      let place := fun (l : Nat) => s0.standPlace i (m.far.toNat + 64 * l)
      let met := if m.toFar then [] else ecc.filter fun (q : Nat × Ecc) => decide (sent ≤ q.1) && decide (q.1 < m.lines)
      let s := met.foldl (fun y (q : Nat × Ecc) =>
        match place q.1 with
        | some x => y.eccAt x q.2
        | none => y) s0
      -- a core's memory has no poison: the words lost there are named
      let gone := (met.filter fun (q : Nat × Ecc) => q.2 == .bad && (match place q.1 with
        | some x => x.isCore
        | none => false)).map (·.1)
      let why := if kind = 0 ∧ (s.port p).busMaster = false ∧ m.asked < (hxPieces m).length then 2 else kind
      if why = 0 then
        let s1 := (upto ((hxPieces m).length - m.asked)).foldl (fun y _ => hxRound p i gone y) s
        let bad := (s1.core g).moves.any fun x => x.host && x.tag == mt && x.bad != 0
        let s2 := if m.toFar then (hxLines i m data (upto m.lines) s1).hxCarry p (64 * m.lines)
          else s1.emit (.hostRead p (m.loc + BitVec.ofNat 64 (64 * (m.lines - 1))) 0)
        if !bad then .next (hxEnd s2 i g m 0)
        else
          let s3 := hxEnd s2 i g m 3
          .next (if gone = [] then statusFatal s3 g m.bundle 3 else s3)
      else
        let (sp, s1) := s.takeSplit ((upto m.lines).filter fun l =>
          m.toFar || (decide (sent ≤ l) && !(gone.contains l) && !(s.farPoisoned i (m.far.toNat + 64 * l))))
        let s2 := if m.toFar then (hxLines i m data sp.1 s1).hxCarry p (64 * sp.1.length)
          else sp.1.foldl (fun y l => hxWrite p i m [l] y) s1
        .next (hxError (hxEnd s2 i g m 8) i g why 8)

/-! ### MCTP control and DOE discovery (R413) -/

/-- Do the controllers answer for the device on port `p`: firmware runs, a controller works, the link is up? [PRESUMED, assumption 101, unsafe] -/
def State.answers (s : State) (p : Nat) : Bool := s.portUp p && s.sec.image.isSome && !s.unmanaged

/-- A response on port `p`, where the device answers; `units` packets of MCTP, or none for one data object of DOE. -/
def State.respond (s : State) (p protocol units : Nat) (fields : List Nat) : State :=
  if s.answers p then s.emit (.reply p protocol units fields) else s

/-- The packets of an MCTP message of `n` bytes beside its type, at the baseline transmission unit of 64 bytes (R413). -/
def mctpUnits (n : Nat) : Nat := (n + 1 + 63) / 64

/-- The largest DOE data object, in bytes, and what its own header takes of it (R413). [PRESUMED, assumption 101, unsafe] -/
def doeMost : Nat := 16384 - 8

/-- Set Endpoint ID: the identifier is taken and confirmed; the reserved ones 0 and 0xFF are not. [DEDUCED, assumption 103, safe] -/
def execSetEndpointId (p : Nat) (eid : Byte) (s : State) : Host.Outcome State Fault Refusal :=
  if p ≥ 2 then .fault .noSuchUnit
  else .next (s.managed (.setEndpointId p eid) fun s =>
    if !s.answers p then s
    else if eid = 0 ∨ eid = 0xFF then s.respond p 0 1 [2]
    else (s.setPort p { s.port p with eid := eid }).respond p 0 1 [0, 0, eid.toNat, 0])

/-- DOE discovery: PCI-SIG's vendor ID, the protocol at the index, and the next index. [PRESUMED, assumption 101, unsafe] -/
def execDoeDiscovery (p : Nat) (index : Byte) (s : State) : Host.Outcome State Fault Refusal :=
  if p ≥ 2 then .fault .noSuchUnit
  else .next (s.respond p 1 0 (if index = 0 then [1, 0, 1] else if index = 1 then [1, 1, 0] else [0xFFFF, 0xFF, 0]))

/-- An MCTP message of a type other than control and SPDM: the error response. -/
def execMctpUnsupportedType (p : Nat) (ty : Byte) (s : State) : Host.Outcome State Fault Refusal :=
  if p ≥ 2 then .fault .noSuchUnit
  else .next (s.managed (.mctpUnsupportedType p ty) fun s => if ty = 0 ∨ ty = 5 then s else s.respond p 0 1 [ty.toNat, 5])

/-! ### SPDM (R413, R510 to R513, R526) -/

/-- An SPDM response of `n` bytes: its code, then its fields, as the requester came. [PRESUMED, assumption 101, unsafe] -/
def State.spdm (s : State) (v : Via) (n : Nat) (fields : List Nat) : State :=
  s.respond v.p 5 (if v.mctp then mctpUnits n else 0) fields

/-- An SPDM error response. -/
def State.spdmError (s : State) (v : Via) (code : Nat) : State := s.spdm v 4 [0x7F, code]

/-- GET_VERSION: 1.2 and 1.3. [PRESUMED, assumption 101, unsafe] -/
def execGetVersion (v : Via) (s : State) : Host.Outcome State Fault Refusal :=
  if v.p ≥ 2 then .fault .noSuchUnit else .next (s.managed (.getVersion v) fun s => s.spdm v 10 [0x04, 0x12, 0x13])

/-- GET_CAPABILITIES: the flags CERT, CHAL and MEAS with signature, and no other. -/
def execGetCapabilities (v : Via) (s : State) : Host.Outcome State Fault Refusal :=
  if v.p ≥ 2 then .fault .noSuchUnit else .next (s.managed (.getCapabilities v) fun s => s.spdm v 20 [0x61, 0x16])

/-- NEGOTIATE_ALGORITHMS: SM2 P256 and SM3-256 are selected where the requester offers them, and nothing else. -/
def execNegotiateAlgorithms (v : Via) (sm2 sm3 : Bool) (s : State) : Host.Outcome State Fault Refusal :=
  if v.p ≥ 2 then .fault .noSuchUnit
  else .next (s.managed (.negotiateAlgorithms v sm2 sm3) fun s => s.spdm v 36 [0x63, boolNat sm2, boolNat sm3])

/-- A certificate of the chain. -/
def State.cert (s : State) (k : Nat) : List Nat := (s.payload 0xB k).map (·.toNat)

/-- The certificate chain of slot 0, root first. -/
def State.chain (s : State) : List Nat := (upto 3).flatMap s.cert

/-- GET_CERTIFICATE: up to `n` bytes of slot 0's chain from `off`, as many as one data object holds (R413), and how many remain. -/
def execGetCertificate (v : Via) (slot off n : Nat) (s : State) : Host.Outcome State Fault Refusal :=
  if v.p ≥ 2 then .fault .noSuchUnit
  else .next (s.managed (.getCertificate v slot off n) fun s =>
    if slot ≠ 0 ∨ off > s.chain.length then s.spdmError v 1
    else
      let part := (s.chain.drop off).take (if v.mctp then n else min n (doeMost - 8))
      s.spdm v (8 + part.length) ([0x02, 0, part.length, s.chain.length - off - part.length] ++ part))

/-- The identity key, where the device is not opened and holds one (R525, R526). -/
def State.idKey (s : State) : Option (BitVec 256) :=
  if s.gf Reg.SEC_STATE Fld.SEC_STATE_opened = 1 ∨ s.gf Reg.SEC_STATE Fld.SEC_STATE_id_key = 0 then none
  else if s.copy0.ok then s.copy0.secret else s.copy15.secret

/-- A signature by the identity key over the digest of a message's numbers. -/
def signed (k : BitVec 256) (m : List Nat) : Nat :=
  (Config.sign k (sm3 (m.flatMap fun x => leBytes 64 x))).toNat

/-- CHALLENGE: the chain's digest, a nonce and a signature over both nonces; UnsupportedRequest from an opened device. [DEDUCED, assumption 102, unsafe] -/
def execChallenge (v : Via) (slot : Nat) (nonce : BitVec 256) (s : State) : Host.Outcome State Fault Refusal :=
  if v.p ≥ 2 then .fault .noSuchUnit
  else .next (s.managed (.challenge v slot nonce) fun s =>
    match s.idKey with
    | none => s.spdmError v 7
    | some k =>
      if slot ≠ 0 then s.spdmError v 1
      else
        let (own, s1) := s.takeKey
        let body := [(sm3 s.chain).toNat, own.toNat]
        s1.spdm v 134 ([0x03, 0] ++ body ++ [signed k (nonce.toNat :: body)]))

/-! ### Measurements (R304, R477, R512) -/

/-- Insert by a key, after entries of the same key. -/
def keyInsert (key : List Byte → Nat) (e : List Byte) : List (List Byte) → List (List Byte)
  | [] => [e]
  | x :: rest => if key e < key x then e :: x :: rest else x :: keyInsert key e rest

/-- The deadwood digest (R477). [DEDUCED, assumption 102, unsafe] -/
def State.deadwoodDigest (s : State) : BitVec 256 :=
  let es := s.dwm.map fun e => bytesOf 8 0 ++ e.bytes.drop 8
  let key := fun (b : List Byte) => beNat (((b.drop 8).take 6).map (·.toNat))
  sm3 (((es.foldl (fun l e => keyInsert key e l) []).flatMap id).map (·.toNat))

/-- The calibration digest: over the payloads of the records in use, in tile order (R304). [DEDUCED, assumption 102, unsafe] -/
def State.calDigest (s : State) : BitVec 256 :=
  sm3 ((upto 16).flatMap fun t =>
    (match lastRec s.records 3 t with
      | some r => r.payload
      | none => s.payload 2 t).map fun (b : Byte) => b.toNat)

/-- Measurement block `k`: its type, whether it is raw, its length and its value, little-endian (R512). -/
def State.measure (s : State) (k : Nat) : List Nat :=
  let dig := fun (ty : Nat) (d : BitVec 256) => [k, ty, 0, 32, d.toNat]
  let raw := fun (ty : Nat) (b : List Byte) => [k, ty, 1, b.length, ofBytes b]
  let b := Reg.SEC_STATE
  match k with
  | 1 => dig 1 (BitVec.ofNat 256 (s.digestReg Reg.SEC_FW_DIGEST))
  | 2 => dig 3 (sm3 ((planBytes s.planForce).map (·.toNat)))
  | 3 => dig 2 s.deadwoodDigest
  | 4 => raw 3 (bytesOf 4 (s.gf Reg.MGT_BL_SUPPORT Fld.MGT_BL_SUPPORT_bl) ++ (upto 16).map fun i => (s.stand i).copy.bl)
  | 5 => dig 2 s.calDigest
  | _ =>
    let svn := match s.sec.image with
      | some (_, v) => v
      | none => 0
    raw 5 (bytesOf 1 (s.gf b Fld.SEC_STATE_opened + 2 * s.gf b Fld.SEC_STATE_id_key + 4 * boolNat s.copy0.ok +
        8 * boolNat s.copy15.ok) ++ bytesOf 1 (s.gf Reg.MGT_CTRL Fld.MGT_CTRL_primary) ++ bytesOf 2 0 ++ bytesOf 2 svn ++
      bytesOf 2 (s.gf b Fld.SEC_STATE_min_svn))

/-- The answer to GET_MEASUREMENTS from a snapshot `blocks` of the six blocks: their number (index 0), one block, or all (index 0xFF);
signed on request unless the device is opened (R526). [DEDUCED, assumption 102, unsafe] -/
def State.measured (s : State) (v : Via) (index : Nat) (sig : Bool) (nonce : BitVec 256) (blocks : List (List Nat)) : State :=
  if index > 6 ∧ index ≠ 0xFF then s.spdmError v 1
  else
    let bs := if index = 0 then [] else if index = 0xFF then blocks else (blocks.drop (index - 1)).take 1
    let body := [if index = 0 then 6 else bs.length] ++ bs.flatMap id
    let (own, s1) := s.takeKey
    let whole := [0x60] ++ body ++ [own.toNat]
    let n := 42 + (bs.map fun b => 7 + b.getD 3 0).sum
    match s.idKey with
    | some k => s1.spdm v (if sig then n + 64 else n) (if sig then whole ++ [signed k (nonce.toNat :: whole)] else whole)
    | none => s1.spdm v n whole

/-- GET_MEASUREMENTS: the blocks are those of the moment at which the request arrives, a controller takeover or not (R513). -/
def execGetMeasurements (v : Via) (index : Nat) (sig : Bool) (nonce : BitVec 256) (s : State) : Host.Outcome State Fault Refusal :=
  if v.p ≥ 2 then .fault .noSuchUnit
  else
    let bs := [1, 2, 3, 4, 5, 6].map s.measure
    .next (s.managed (.getMeasurements v index sig nonce bs) fun s => s.measured v index sig nonce bs)

end Sys2Proof.Machine
end

