-- ==== Sys2Proof/Machine/ScalarOps.lean ====
section
/-! DEFINITION. The S-slot instructions and the empty bundle: each joins its bundle, which issues as a whole (R125, R158 to R166). -/

namespace Sys2Proof.Machine

/-- Scalar add of sa and sb (R158). -/
def execAdd (e : Iss) (d a b : R5) (s : State) : Host.Outcome State Fault Refusal := issueOps s e [.s (.alu .add d a b)]

/-- Scalar subtract of sb from sa (R158). -/
def execSub (e : Iss) (d a b : R5) (s : State) : Host.Outcome State Fault Refusal := issueOps s e [.s (.alu .sub d a b)]

/-- Bitwise and (R158). -/
def execAnd (e : Iss) (d a b : R5) (s : State) : Host.Outcome State Fault Refusal := issueOps s e [.s (.alu .and d a b)]

/-- Bitwise or (R158). -/
def execOr (e : Iss) (d a b : R5) (s : State) : Host.Outcome State Fault Refusal := issueOps s e [.s (.alu .or d a b)]

/-- Bitwise exclusive or (R158). -/
def execXor (e : Iss) (d a b : R5) (s : State) : Host.Outcome State Fault Refusal := issueOps s e [.s (.alu .xor d a b)]

/-- Left shift by sb[5:0] (R158). -/
def execShl (e : Iss) (d a b : R5) (s : State) : Host.Outcome State Fault Refusal := issueOps s e [.s (.alu .shl d a b)]

/-- Logical right shift by sb[5:0] (R158). -/
def execShr (e : Iss) (d a b : R5) (s : State) : Host.Outcome State Fault Refusal := issueOps s e [.s (.alu .shr d a b)]

/-- Arithmetic right shift by sb[5:0] (R158). -/
def execSra (e : Iss) (d a b : R5) (s : State) : Host.Outcome State Fault Refusal := issueOps s e [.s (.alu .sra d a b)]

/-- Low word of the product (R158). -/
def execMul (e : Iss) (d a b : R5) (s : State) : Host.Outcome State Fault Refusal := issueOps s e [.s (.alu .mul d a b)]

/-- High word of the signed product (R158). -/
def execMulh (e : Iss) (d a b : R5) (s : State) : Host.Outcome State Fault Refusal := issueOps s e [.s (.alu .mulh d a b)]

/-- High word of the unsigned product (R158). -/
def execMulhu (e : Iss) (d a b : R5) (s : State) : Host.Outcome State Fault Refusal := issueOps s e [.s (.alu .mulhu d a b)]

/-- Signed less-than (R158). -/
def execSlt (e : Iss) (d a b : R5) (s : State) : Host.Outcome State Fault Refusal := issueOps s e [.s (.alu .slt d a b)]

/-- Unsigned less-than (R158). -/
def execSltu (e : Iss) (d a b : R5) (s : State) : Host.Outcome State Fault Refusal := issueOps s e [.s (.alu .sltu d a b)]

/-- Equality (R158). -/
def execSeq (e : Iss) (d a b : R5) (s : State) : Host.Outcome State Fault Refusal := issueOps s e [.s (.alu .seq d a b)]

/-- Signed minimum (R158). -/
def execMin (e : Iss) (d a b : R5) (s : State) : Host.Outcome State Fault Refusal := issueOps s e [.s (.alu .min d a b)]

/-- Signed maximum (R158). -/
def execMax (e : Iss) (d a b : R5) (s : State) : Host.Outcome State Fault Refusal := issueOps s e [.s (.alu .max d a b)]

/-- Unsigned minimum (R158). -/
def execMinu (e : Iss) (d a b : R5) (s : State) : Host.Outcome State Fault Refusal := issueOps s e [.s (.alu .minu d a b)]

/-- Unsigned maximum (R158). -/
def execMaxu (e : Iss) (d a b : R5) (s : State) : Host.Outcome State Fault Refusal := issueOps s e [.s (.alu .maxu d a b)]

/-- Count of leading zeros (R158). -/
def execClz (e : Iss) (d a : R5) (s : State) : Host.Outcome State Fault Refusal := issueOps s e [.s (.alu .clz d a 0)]

/-- Count of ones (R158). -/
def execPopc (e : Iss) (d a : R5) (s : State) : Host.Outcome State Fault Refusal := issueOps s e [.s (.alu .popc d a 0)]

/-- `addi` with the immediate of format SI (R158). -/
def execAddi (e : Iss) (d a : R5) (imm : BitVec 30) (s : State) : Host.Outcome State Fault Refusal :=
  issueOps s e [.s (.alui .addi d a imm)]

/-- `andi` with the immediate of format SI (R158). -/
def execAndi (e : Iss) (d a : R5) (imm : BitVec 30) (s : State) : Host.Outcome State Fault Refusal :=
  issueOps s e [.s (.alui .andi d a imm)]

/-- `ori` with the immediate of format SI (R158). -/
def execOri (e : Iss) (d a : R5) (imm : BitVec 30) (s : State) : Host.Outcome State Fault Refusal :=
  issueOps s e [.s (.alui .ori d a imm)]

/-- `xori` with the immediate of format SI (R158). -/
def execXori (e : Iss) (d a : R5) (imm : BitVec 30) (s : State) : Host.Outcome State Fault Refusal :=
  issueOps s e [.s (.alui .xori d a imm)]

/-- `shli` with the immediate of format SI (R158). -/
def execShli (e : Iss) (d a : R5) (imm : BitVec 30) (s : State) : Host.Outcome State Fault Refusal :=
  issueOps s e [.s (.alui .shli d a imm)]

/-- `shri` with the immediate of format SI (R158). -/
def execShri (e : Iss) (d a : R5) (imm : BitVec 30) (s : State) : Host.Outcome State Fault Refusal :=
  issueOps s e [.s (.alui .shri d a imm)]

/-- `srai` with the immediate of format SI (R158). -/
def execSrai (e : Iss) (d a : R5) (imm : BitVec 30) (s : State) : Host.Outcome State Fault Refusal :=
  issueOps s e [.s (.alui .srai d a imm)]

/-- `slti` with the immediate of format SI (R158). -/
def execSlti (e : Iss) (d a : R5) (imm : BitVec 30) (s : State) : Host.Outcome State Fault Refusal :=
  issueOps s e [.s (.alui .slti d a imm)]

/-- `sltui` with the immediate of format SI (R158). -/
def execSltui (e : Iss) (d a : R5) (imm : BitVec 30) (s : State) : Host.Outcome State Fault Refusal :=
  issueOps s e [.s (.alui .sltui d a imm)]

/-- `muli` with the immediate of format SI (R158). -/
def execMuli (e : Iss) (d a : R5) (imm : BitVec 30) (s : State) : Host.Outcome State Fault Refusal :=
  issueOps s e [.s (.alui .muli d a imm)]

/-- Load a sign-extended 32-bit immediate (R158). -/
def execSliw (e : Iss) (d : R5) (imm : BitVec 32) (s : State) : Host.Outcome State Fault Refusal := issueOps s e [.s (.sliw d imm)]

/-- Replace the high word (R158). -/
def execSlih (e : Iss) (d : R5) (imm : BitVec 32) (s : State) : Host.Outcome State Fault Refusal := issueOps s e [.s (.slih d imm)]

/-- Branch after two delay bundles (R139). -/
def execJmp (e : Iss) (target : BitVec 11) (s : State) : Host.Outcome State Fault Refusal := issueOps s e [.s (.jmp target)]

/-- Conditional branch `beq` (R139). -/
def execBeq (e : Iss) (a b : R5) (target : BitVec 11) (s : State) : Host.Outcome State Fault Refusal := issueOps s e [.s (.br .eq a b target)]

/-- Conditional branch `bne` (R139). -/
def execBne (e : Iss) (a b : R5) (target : BitVec 11) (s : State) : Host.Outcome State Fault Refusal := issueOps s e [.s (.br .ne a b target)]

/-- Conditional branch `blt` (R139). -/
def execBlt (e : Iss) (a b : R5) (target : BitVec 11) (s : State) : Host.Outcome State Fault Refusal := issueOps s e [.s (.br .lt a b target)]

/-- Conditional branch `bge` (R139). -/
def execBge (e : Iss) (a b : R5) (target : BitVec 11) (s : State) : Host.Outcome State Fault Refusal := issueOps s e [.s (.br .ge a b target)]

/-- Conditional branch `bltu` (R139). -/
def execBltu (e : Iss) (a b : R5) (target : BitVec 11) (s : State) : Host.Outcome State Fault Refusal := issueOps s e [.s (.br .ltu a b target)]

/-- Conditional branch `bgeu` (R139). -/
def execBgeu (e : Iss) (a b : R5) (target : BitVec 11) (s : State) : Host.Outcome State Fault Refusal := issueOps s e [.s (.br .geu a b target)]

/-- Write the return index and branch (R140). -/
def execJal (e : Iss) (d : R5) (target : BitVec 11) (s : State) : Host.Outcome State Fault Refusal := issueOps s e [.s (.jal d target)]

/-- Branch to the bundle that sa names (R140). -/
def execJr (e : Iss) (a : R5) (s : State) : Host.Outcome State Fault Refusal := issueOps s e [.s (.jr a)]

/-- Open a loop with the count in sa (R141). -/
def execLp (e : Iss) (a : R5) (last : BitVec 11) (s : State) : Host.Outcome State Fault Refusal := issueOps s e [.s (.lp a last)]

/-- Open a loop with an immediate count (R141). -/
def execLpi (e : Iss) (n : BitVec 16) (last : BitVec 11) (s : State) : Host.Outcome State Fault Refusal := issueOps s e [.s (.lpi n last)]

/-- Iterations remaining in the innermost loop (R142). -/
def execLcnt (e : Iss) (d : R5) (s : State) : Host.Outcome State Fault Refusal := issueOps s e [.s (.lcnt d)]

/-- Read a control register of R82 (R160). -/
def execRdcr (e : Iss) (d : R5) (sel : BitVec 8) (s : State) : Host.Outcome State Fault Refusal := issueOps s e [.s (.rdcr d sel)]

/-- Read GTC, or the ticks since the last beat edge (R160, R161). -/
def execRdgtc (e : Iss) (d : R5) (sel : BitVec 8) (s : State) : Host.Outcome State Fault Refusal := issueOps s e [.s (.rdgtc d sel)]

/-- Read a host word as adopted (R69, R160). -/
def execRdhw (e : Iss) (d : R5) (sel : BitVec 8) (s : State) : Host.Outcome State Fault Refusal := issueOps s e [.s (.rdhw d sel)]

/-- Count a program event and perhaps request the interrupt (R160, R162). -/
def execEvt (e : Iss) (sel : BitVec 8) (s : State) : Host.Outcome State Fault Refusal := issueOps s e [.s (.evt sel)]

/-- Signal done if needed and wait for a target beat (R165). -/
def execBwait (e : Iss) (a : R5) (s : State) : Host.Outcome State Fault Refusal := issueOps s e [.s (.bwait a)]

/-- Signal beat done (R163). -/
def execBdone (e : Iss) (s : State) : Host.Outcome State Fault Refusal := issueOps s e [.s .bdone]

/-- `end`: signal done and stop for the run (R166). -/
def execCoreEnd (e : Iss) (s : State) : Host.Outcome State Fault Refusal := issueOps s e [.s .stop]

/-- A bundle with no valid slot (R125): it takes its issue cycle and the sequence advances. -/
def execEmptyBundle (e : Iss) (s : State) : Host.Outcome State Fault Refusal :=
  issueOps (s.setCore e.g { s.core e.g with staged := [] }) { e with last := true } []

end Sys2Proof.Machine
end

