-- ==== Sys2Proof/Machine/Takeover.lean ====
section
/-! DEFINITION. The takeover of the management controllers (R508, R509). -/

namespace Sys2Proof.Machine

/-- The state that an outcome leaves; a stop leaves `s`. -/
def leftOf (s : State) (o : Host.Outcome State Fault Refusal) : State :=
  match o with
  | .next t => t
  | _ => s

/-- Serve a request that waited for a controller: a plan commit, a start, a store write, an MCTP or SPDM message (R508). -/
def State.serveHeld (s : State) (i : MgmtReq) : State :=
  match i with
  | .commit p m => s.commitAsk p m
  | .startCold _ => s.askCold
  | .startWarm _ bist => s.askWarm bist
  | .tileWarmStart _ v => s.tileCtl v.toNat
  | .raiseSvn _ => s.raiseSvn
  -- the settings as they are when their turn comes
  | .store r => s.nvAsk (if r.act = .settings then { r with payload := s.settings s.svnAhead } else r)
  | .tapOpen p armed => s.tapOpen p armed
  | .setEndpointId p eid => leftOf s (execSetEndpointId p eid s)
  | .mctpUnsupportedType p ty => leftOf s (execMctpUnsupportedType p ty s)
  | .getVersion v => leftOf s (execGetVersion v s)
  | .getCapabilities v => leftOf s (execGetCapabilities v s)
  | .negotiateAlgorithms p sm2 sm3 => leftOf s (execNegotiateAlgorithms p sm2 sm3 s)
  | .getCertificate p slot off n => leftOf s (execGetCertificate p slot off n s)
  | .challenge p slot nonce => leftOf s (execChallenge p slot nonce s)
  | .getMeasurements v index sig nonce blocks => s.measured v index sig nonce blocks

/-- 50 heartbeats in a row are missing: the primary has failed. The standby takes over; with no standby left both have
failed. [DEDUCED, assumption 83, unsafe] -/
def execControllerTakeover (s : State) : Host.Outcome State Fault Refusal :=
  if s.sec.missed < 50 ∨ s.unmanaged ∨ s.clk.stopped then .next s
  else
    let a := Reg.MGT_CTRL
    let pr := s.gf a Fld.MGT_CTRL_primary
    let other := if pr = 0 then 15 else 0
    let k := s.sec
    -- a standby that does not answer cannot take over
    let k1 : SecSt := { k with missed := 0, failed0 := k.failed0 || decide (pr = 0) || k.standbyOut,
                               failed15 := k.failed15 || decide (pr ≠ 0) || k.standbyOut }
    let s1 := State.errsRelease { s with sec := k1, mgmtWait := [] }
    if s1.unmanaged then .next (((s1.moduleFatal (ErrInfo.plain 12 4)).fatalRuns).towersOff)
    else
      let s2 := ((s1.sf a Fld.MGT_CTRL_primary other).sf a Fld.MGT_CTRL_takeover 1).contained
        { ErrInfo.plain 12 0x0E with tile := some pr }
      .next (s.mgmtWait.foldl State.serveHeld (nvTurn 64 s2))

end Sys2Proof.Machine
end

