-- ==== Sys2Proof/Machine/TensorOps.lean ====
section
/-! DEFINITION. The T-slot instructions and the similarity unit's execution of its queue (R180 to R201). -/

namespace Sys2Proof.Machine

/-- `tlda` (R181). -/
def execTlda (e : Iss) (f : TF) (s : State) : Host.Outcome State Fault Refusal := issueOps s e [.t .tlda f]

/-- `tldb` (R182). -/
def execTldb (e : Iss) (f : TF) (s : State) : Host.Outcome State Fault Refusal := issueOps s e [.t .tldb f]

/-- `tldsc` (R181). -/
def execTldsc (e : Iss) (f : TF) (s : State) : Host.Outcome State Fault Refusal := issueOps s e [.t .tldsc f]

/-- `tmac` (R186). -/
def execTmac (e : Iss) (f : TF) (s : State) : Host.Outcome State Fault Refusal := issueOps s e [.t .tmac f]

/-- `tmacz` (R186). -/
def execTmacz (e : Iss) (f : TF) (s : State) : Host.Outcome State Fault Refusal := issueOps s e [.t .tmacz f]

/-- `tmov` (R188). -/
def execTmov (e : Iss) (f : TF) (s : State) : Host.Outcome State Fault Refusal := issueOps s e [.t .tmov f]

/-- `tclr` (R189). -/
def execTclr (e : Iss) (f : TF) (s : State) : Host.Outcome State Fault Refusal := issueOps s e [.t .tclr f]

/-- A T-slot instruction that enters the similarity queue (R190). -/
def execSimilarityQueueEntry (e : Iss) (o : QOp) (f : TF) (s : State) : Host.Outcome State Fault Refusal := issueOps s e [.q o f]

/-- May the unit execute this entry now? Between beat done and the next admitted edge it reads no tower SRAM (R199). A core in a
beat wait over several beats, or after end, counts as done in each of them (R165, R166): the model holds such work back
in every one, up to the edge that ends the wait. [DEDUCED, assumption 23, unsafe] -/
def simMayRun (c : CoreSt) (e : SimEnt) : Bool := !(c.done && (e.op == .cbind || (e.op == .msim && e.f.ta == 14)))

/-- The similarity unit executes the head of a core's queue where that is instruction `o` (R190, R201), once every line that it reads has
come (R183, R199). A tkrd waits for the copies that its return completes (R181). [DEDUCED, assumption 23, unsafe] -/
def simDo (o : QOp) (g : Nat) (s : State) : State :=
  let c := s.core g
  match c.simQueue with
  | [] => s
  | e :: rest =>
    if e.op ≠ o ∨ c.simStopped ∨ c.fenced ∨ !simMayRun c e ∨ c.acopies.any (fun q => e.waits.contains q.issued) then s
    else
      let r := simRun s g e c
      if r.miss.isSome then s
      else
      let c1 := if r.err.isSome then { r.c with simStopped := true } else { r.c with simQueue := rest }
      let s1 := ((((s.setCore g c1).coreCount g 18 r.tokens).coreCount g 19 r.closes).coreCount g 20 r.inserts).coreCount
        g 21 r.changes
      let info : ErrInfo := { ErrInfo.plain 0 0x14 with tile := some (tileOf g), site := some (siteOf g),
                                                        gcore := some g, index := some e.bundle, detail := some 3 }
      let s2 := if r.bad then s1.standFatal (s.standOf g) info else s1
      match r.err with
      | some code => s2.standFatal (s.standOf g) { info with code := code, detail := none }
      | none => s2

/-- What the detectors find as the unit executes, then the instruction (R87, R93, R94). A fenced core executes nothing. -/
def simExec (o : QOp) (x : SimAt) (s : State) : Host.Outcome State Fault Refusal :=
  if x.g ≥ 12288 then .fault .noSuchUnit
  else match x.find with
    | .clean => .next (simDo o x.g s)
    | .corrected => .next (simDo o x.g (eccNote s x.g 37))
    | .bad => .next (fenceCore s x.g 1)
    | .parity => .next (fenceCore s x.g 3)
    | .residue => .next (fenceCore s x.g 4)

/-- `qld` executes in the similarity unit (R191). -/
def execQld (x : SimAt) (s : State) : Host.Outcome State Fault Refusal := simExec .qld x s

/-- `qwt` executes in the similarity unit (R191). -/
def execQwt (x : SimAt) (s : State) : Host.Outcome State Fault Refusal := simExec .qwt x s

/-- `cbind` executes in the similarity unit (R192). -/
def execCbind (x : SimAt) (s : State) : Host.Outcome State Fault Refusal := simExec .cbind x s

/-- `msim` executes in the similarity unit (R194). -/
def execMsim (x : SimAt) (s : State) : Host.Outcome State Fault Refusal := simExec .msim x s

/-- `dseg` executes in the similarity unit (R193). -/
def execDseg (x : SimAt) (s : State) : Host.Outcome State Fault Refusal := simExec .dseg x s

/-- `dclose` executes in the similarity unit (R195). -/
def execDclose (x : SimAt) (s : State) : Host.Outcome State Fault Refusal := simExec .dclose x s

/-- `tkins` executes in the similarity unit (R197). -/
def execTkins (x : SimAt) (s : State) : Host.Outcome State Fault Refusal := simExec .tkins x s

/-- `tkrd` executes in the similarity unit (R198). -/
def execTkrd (x : SimAt) (s : State) : Host.Outcome State Fault Refusal := simExec .tkrd x s

/-- `tkclr` executes in the similarity unit (R196). -/
def execTkclr (x : SimAt) (s : State) : Host.Outcome State Fault Refusal := simExec .tkclr x s

/-- `tkcfg` executes in the similarity unit (R196). -/
def execTkcfg (x : SimAt) (s : State) : Host.Outcome State Fault Refusal := simExec .tkcfg x s

end Sys2Proof.Machine
end

