-- ==== Sys2Proof/Machine/Trip.lean ====
section
/-! DEFINITION. The thermal trip and its record (R36, R37, R458). -/

namespace Sys2Proof.Machine

/-- The record that is being written at a trip lacks its cairn word on the copy that was being written, and is on no other (R37). What
asked for it hears nothing more of it: a plan's commit stays busy. [DESIGN CHOICE, assumption 150, unsafe] -/
def State.tripTorn (s : State) : State :=
  match s.nvq with
  | [] => s
  | r :: rest =>
    let (k, s1) := State.takeBelow { s with nvq := rest } r.len
    if s.copy0.ok then { s1 with copy0 := s1.copy0.tear r k } else { s1 with copy15 := s1.copy15.tear r k }

/-- A junction reaches 115 °C: the first input to cross is latched, every run ends FAILED with stand_fatal, laser_ilk
opens, and power leaves every upper die. A tower of 96 or more stands for a base or stack input. [DEDUCED, assumption 61, unsafe] -/
def execThermalTrip (tower layer tile : Nat) (hbm : Bool) (s : State) : Host.Outcome State Fault Refusal :=
  if tile ≥ 16 ∨ layer ≥ 4 then .fault .noSuchUnit
  else if !s.power ∨ s.gf Reg.THM_TRIP Fld.THM_TRIP_tripped = 1 then .next s
  else
    let w := if tower < 96 then tower else 0x7F
    let s1 := s.setReg Reg.THM_TRIP (BitVec.ofNat 64 (1 + 2 * w + 2 ^ 8 * layer + 2 ^ 10 * tile + 2 ^ 14 * boolNat hbm))
    let s2 := (s1.sf Reg.MGT_BOUNDARY Fld.MGT_BOUNDARY_therm_trip 1).moduleFatal
      { ErrInfo.plain 10 2 with tile := some tile, site := (if w < 96 then some (w % 6) else if hbm then some (6 + layer % 2) else none) }
    -- the module-fatal error goes before every handling: no run takes 0x23 of the open loop (R458, R491)
    let s3 := (s2.fatalRuns.ilkOpen 2 none none).towersOff
    let s4 := (upto 32).foldl (fun y j => y.sf (Reg.HBM_STATE (j / 2) (j % 2)) Fld.HBM_STATE_state 0) s3
    .next (nvTurn 64 { s4.tripTorn with start := { s4.start with tripRec := true } })

/-- Every powered junction reads 90 °C or less: the trip record goes to the store (R458, R521). -/
def execTripRecordWrite (s : State) : Host.Outcome State Fault Refusal :=
  if !s.start.tripRec ∨ !(s.junctions.all fun x => decide (x ≤ 720)) then .next s
  else
    let r := (s.reg Reg.THM_TRIP).toNat
    let (ok, s1) := s.nvWrite ⟨7, 0, bytesOf 8 s.gtc.toNat ++ bytesOf 4 r, .trip⟩
    .next (if ok then { s1 with start := { s1.start with tripRec := false } } else s1)

end Sys2Proof.Machine
end

