-- ==== Sys2Proof/Machine/VectorOps.lean ====
section
/-! DEFINITION. The V-slot instructions (R167 to R179). -/

namespace Sys2Proof.Machine

/-- `vadd` (R168). -/
def execVadd (e : Iss) (f : VF) (s : State) : Host.Outcome State Fault Refusal := issueOps s e [.v .vadd f]

/-- `vsub` (R168). -/
def execVsub (e : Iss) (f : VF) (s : State) : Host.Outcome State Fault Refusal := issueOps s e [.v .vsub f]

/-- `vmul` (R168). -/
def execVmul (e : Iss) (f : VF) (s : State) : Host.Outcome State Fault Refusal := issueOps s e [.v .vmul f]

/-- `vfma` (R168). -/
def execVfma (e : Iss) (f : VF) (s : State) : Host.Outcome State Fault Refusal := issueOps s e [.v .vfma f]

/-- `vmin` (R168). -/
def execVmin (e : Iss) (f : VF) (s : State) : Host.Outcome State Fault Refusal := issueOps s e [.v .vmin f]

/-- `vmax` (R168). -/
def execVmax (e : Iss) (f : VF) (s : State) : Host.Outcome State Fault Refusal := issueOps s e [.v .vmax f]

/-- `vabs` (R168). -/
def execVabs (e : Iss) (f : VF) (s : State) : Host.Outcome State Fault Refusal := issueOps s e [.v .vabs f]

/-- `vneg` (R168). -/
def execVneg (e : Iss) (f : VF) (s : State) : Host.Outcome State Fault Refusal := issueOps s e [.v .vneg f]

/-- `vand` (R168). -/
def execVand (e : Iss) (f : VF) (s : State) : Host.Outcome State Fault Refusal := issueOps s e [.v .vand f]

/-- `vor` (R168). -/
def execVor (e : Iss) (f : VF) (s : State) : Host.Outcome State Fault Refusal := issueOps s e [.v .vor f]

/-- `vxor` (R168). -/
def execVxor (e : Iss) (f : VF) (s : State) : Host.Outcome State Fault Refusal := issueOps s e [.v .vxor f]

/-- `vshl` (R168). -/
def execVshl (e : Iss) (f : VF) (s : State) : Host.Outcome State Fault Refusal := issueOps s e [.v .vshl f]

/-- `vshr` (R168). -/
def execVshr (e : Iss) (f : VF) (s : State) : Host.Outcome State Fault Refusal := issueOps s e [.v .vshr f]

/-- `vsra` (R168). -/
def execVsra (e : Iss) (f : VF) (s : State) : Host.Outcome State Fault Refusal := issueOps s e [.v .vsra f]

/-- `vsel` (R169). -/
def execVsel (e : Iss) (f : VF) (s : State) : Host.Outcome State Fault Refusal := issueOps s e [.v .vsel f]

/-- `vcmpeq` (R170). -/
def execVcmpeq (e : Iss) (f : VF) (s : State) : Host.Outcome State Fault Refusal := issueOps s e [.v .vcmpeq f]

/-- `vcmpne` (R170). -/
def execVcmpne (e : Iss) (f : VF) (s : State) : Host.Outcome State Fault Refusal := issueOps s e [.v .vcmpne f]

/-- `vcmplt` (R170). -/
def execVcmplt (e : Iss) (f : VF) (s : State) : Host.Outcome State Fault Refusal := issueOps s e [.v .vcmplt f]

/-- `vcmple` (R170). -/
def execVcmple (e : Iss) (f : VF) (s : State) : Host.Outcome State Fault Refusal := issueOps s e [.v .vcmple f]

/-- `kand` (R171). -/
def execKand (e : Iss) (f : VF) (s : State) : Host.Outcome State Fault Refusal := issueOps s e [.v .kand f]

/-- `kor` (R171). -/
def execKor (e : Iss) (f : VF) (s : State) : Host.Outcome State Fault Refusal := issueOps s e [.v .kor f]

/-- `kxor` (R171). -/
def execKxor (e : Iss) (f : VF) (s : State) : Host.Outcome State Fault Refusal := issueOps s e [.v .kxor f]

/-- `knot` (R171). -/
def execKnot (e : Iss) (f : VF) (s : State) : Host.Outcome State Fault Refusal := issueOps s e [.v .knot f]

/-- `vbcast` (R172). -/
def execVbcast (e : Iss) (f : VF) (s : State) : Host.Outcome State Fault Refusal := issueOps s e [.v .vbcast f]

/-- `vperm` (R172). -/
def execVperm (e : Iss) (f : VF) (s : State) : Host.Outcome State Fault Refusal := issueOps s e [.v .vperm f]

/-- `vshuf` (R172). -/
def execVshuf (e : Iss) (f : VF) (s : State) : Host.Outcome State Fault Refusal := issueOps s e [.v .vshuf f]

/-- `vrot` (R172). -/
def execVrot (e : Iss) (f : VF) (s : State) : Host.Outcome State Fault Refusal := issueOps s e [.v .vrot f]

/-- `vins` (R172). -/
def execVins (e : Iss) (f : VF) (s : State) : Host.Outcome State Fault Refusal := issueOps s e [.v .vins f]

/-- `vext` (R172). -/
def execVext (e : Iss) (f : VF) (s : State) : Host.Outcome State Fault Refusal := issueOps s e [.v .vext f]

/-- `vrsum` (R173). -/
def execVrsum (e : Iss) (f : VF) (s : State) : Host.Outcome State Fault Refusal := issueOps s e [.v .vrsum f]

/-- `vrmax` (R173). -/
def execVrmax (e : Iss) (f : VF) (s : State) : Host.Outcome State Fault Refusal := issueOps s e [.v .vrmax f]

/-- `vrmin` (R173). -/
def execVrmin (e : Iss) (f : VF) (s : State) : Host.Outcome State Fault Refusal := issueOps s e [.v .vrmin f]

/-- `vexp` (R174). -/
def execVexp (e : Iss) (f : VF) (s : State) : Host.Outcome State Fault Refusal := issueOps s e [.v .vexp f]

/-- `vrcp` (R174). -/
def execVrcp (e : Iss) (f : VF) (s : State) : Host.Outcome State Fault Refusal := issueOps s e [.v .vrcp f]

/-- `vrsqrt` (R174). -/
def execVrsqrt (e : Iss) (f : VF) (s : State) : Host.Outcome State Fault Refusal := issueOps s e [.v .vrsqrt f]

/-- `vtanh` (R174). -/
def execVtanh (e : Iss) (f : VF) (s : State) : Host.Outcome State Fault Refusal := issueOps s e [.v .vtanh f]

/-- `vgelu` (R174). -/
def execVgelu (e : Iss) (f : VF) (s : State) : Host.Outcome State Fault Refusal := issueOps s e [.v .vgelu f]

/-- `vstat` (R175). -/
def execVstat (e : Iss) (f : VF) (s : State) : Host.Outcome State Fault Refusal := issueOps s e [.v .vstat f]

/-- `vstrd` (R176). -/
def execVstrd (e : Iss) (f : VF) (s : State) : Host.Outcome State Fault Refusal := issueOps s e [.v .vstrd f]

/-- `vstclr` (R176). -/
def execVstclr (e : Iss) (f : VF) (s : State) : Host.Outcome State Fault Refusal := issueOps s e [.v .vstclr f]

/-- `vcvt` (R177). -/
def execVcvt (e : Iss) (f : VF) (s : State) : Host.Outcome State Fault Refusal := issueOps s e [.v .vcvt f]

/-- `vpackmx` (R178). -/
def execVpackmx (e : Iss) (f : VF) (s : State) : Host.Outcome State Fault Refusal := issueOps s e [.v .vpackmx f]

/-- `vmov` (R179). -/
def execVmov (e : Iss) (f : VF) (s : State) : Host.Outcome State Fault Refusal := issueOps s e [.v .vmov f]

/-- `vsplat` (R179). -/
def execVsplat (e : Iss) (f : VF) (s : State) : Host.Outcome State Fault Refusal := issueOps s e [.v .vsplat f]

end Sys2Proof.Machine
end

