-- ==== Sys2Proof/Machine/Dispatch.lean ====
section
/-! DEFINITION. One arm per command: a direct call of its meaning. -/

namespace Sys2Proof.Machine

/-- What a command does to everything but the queue. -/
def exec (i : Instr) (s : State) : Host.Outcome State Fault Refusal :=
  match i with
  | .registerWrite p off n v => Sys2Proof.Machine.execRegisterWrite p off n v s
  | .registerLowWordRead p off n => Sys2Proof.Machine.execRegisterLowWordRead p off n s
  | .registerHighWordRead p off => Sys2Proof.Machine.execRegisterHighWordRead p off s
  | .registerLowWordWrite p off v => Sys2Proof.Machine.execRegisterLowWordWrite p off v s
  | .registerHighWordWrite p off v => Sys2Proof.Machine.execRegisterHighWordWrite p off v s
  | .commit p => Sys2Proof.Machine.execCommit p s
  | .restage p => Sys2Proof.Machine.execRestage p s
  | .launch p k v ecc => Sys2Proof.Machine.execLaunch p k v ecc s
  | .abort p k v => Sys2Proof.Machine.execAbort p k v s
  | .programLoadComplete k => Sys2Proof.Machine.execProgramLoadComplete k s
  | .startMissed k => Sys2Proof.Machine.execStartMissed k s
  | .beatGate k => Sys2Proof.Machine.execBeatGate k s
  | .gridEdge k ecc => Sys2Proof.Machine.execGridEdge k ecc s
  | .holdLimit k => Sys2Proof.Machine.execHoldLimit k s
  | .clearAbandon k => Sys2Proof.Machine.execClearAbandon k s
  | .wflagHoldLimit g => Sys2Proof.Machine.execWflagHoldLimit g s
  | .spareLoadComplete g => Sys2Proof.Machine.execSpareLoadComplete g s
  | .fencedCorePowerOff g => Sys2Proof.Machine.execFencedCorePowerOff g s
  | .levelChangeClockRestart k => Sys2Proof.Machine.execLevelChangeClockRestart k s
  | .levelRaiseDividerChange k rails => Sys2Proof.Machine.execLevelRaiseDividerChange k rails s
  | .standHandlingSettled k => Sys2Proof.Machine.execStandHandlingSettled k s
  | .add e d a b => Sys2Proof.Machine.execAdd e d a b s
  | .sub e d a b => Sys2Proof.Machine.execSub e d a b s
  | .and e d a b => Sys2Proof.Machine.execAnd e d a b s
  | .or e d a b => Sys2Proof.Machine.execOr e d a b s
  | .xor e d a b => Sys2Proof.Machine.execXor e d a b s
  | .shl e d a b => Sys2Proof.Machine.execShl e d a b s
  | .shr e d a b => Sys2Proof.Machine.execShr e d a b s
  | .sra e d a b => Sys2Proof.Machine.execSra e d a b s
  | .mul e d a b => Sys2Proof.Machine.execMul e d a b s
  | .mulh e d a b => Sys2Proof.Machine.execMulh e d a b s
  | .mulhu e d a b => Sys2Proof.Machine.execMulhu e d a b s
  | .slt e d a b => Sys2Proof.Machine.execSlt e d a b s
  | .sltu e d a b => Sys2Proof.Machine.execSltu e d a b s
  | .seq e d a b => Sys2Proof.Machine.execSeq e d a b s
  | .min e d a b => Sys2Proof.Machine.execMin e d a b s
  | .max e d a b => Sys2Proof.Machine.execMax e d a b s
  | .minu e d a b => Sys2Proof.Machine.execMinu e d a b s
  | .maxu e d a b => Sys2Proof.Machine.execMaxu e d a b s
  | .clz e d a => Sys2Proof.Machine.execClz e d a s
  | .popc e d a => Sys2Proof.Machine.execPopc e d a s
  | .addi e d a imm => Sys2Proof.Machine.execAddi e d a imm s
  | .andi e d a imm => Sys2Proof.Machine.execAndi e d a imm s
  | .ori e d a imm => Sys2Proof.Machine.execOri e d a imm s
  | .xori e d a imm => Sys2Proof.Machine.execXori e d a imm s
  | .shli e d a imm => Sys2Proof.Machine.execShli e d a imm s
  | .shri e d a imm => Sys2Proof.Machine.execShri e d a imm s
  | .srai e d a imm => Sys2Proof.Machine.execSrai e d a imm s
  | .slti e d a imm => Sys2Proof.Machine.execSlti e d a imm s
  | .sltui e d a imm => Sys2Proof.Machine.execSltui e d a imm s
  | .muli e d a imm => Sys2Proof.Machine.execMuli e d a imm s
  | .sliw e d imm => Sys2Proof.Machine.execSliw e d imm s
  | .slih e d imm => Sys2Proof.Machine.execSlih e d imm s
  | .jmp e target => Sys2Proof.Machine.execJmp e target s
  | .beq e a b target => Sys2Proof.Machine.execBeq e a b target s
  | .bne e a b target => Sys2Proof.Machine.execBne e a b target s
  | .blt e a b target => Sys2Proof.Machine.execBlt e a b target s
  | .bge e a b target => Sys2Proof.Machine.execBge e a b target s
  | .bltu e a b target => Sys2Proof.Machine.execBltu e a b target s
  | .bgeu e a b target => Sys2Proof.Machine.execBgeu e a b target s
  | .jal e d target => Sys2Proof.Machine.execJal e d target s
  | .jr e a => Sys2Proof.Machine.execJr e a s
  | .lp e a last => Sys2Proof.Machine.execLp e a last s
  | .lpi e n last => Sys2Proof.Machine.execLpi e n last s
  | .lcnt e d => Sys2Proof.Machine.execLcnt e d s
  | .rdcr e d sel => Sys2Proof.Machine.execRdcr e d sel s
  | .rdgtc e d sel => Sys2Proof.Machine.execRdgtc e d sel s
  | .rdhw e d sel => Sys2Proof.Machine.execRdhw e d sel s
  | .evt e sel => Sys2Proof.Machine.execEvt e sel s
  | .bwait e a => Sys2Proof.Machine.execBwait e a s
  | .bdone e => Sys2Proof.Machine.execBdone e s
  | .coreEnd e => Sys2Proof.Machine.execCoreEnd e s
  | .vadd e f => Sys2Proof.Machine.execVadd e f s
  | .vsub e f => Sys2Proof.Machine.execVsub e f s
  | .vmul e f => Sys2Proof.Machine.execVmul e f s
  | .vfma e f => Sys2Proof.Machine.execVfma e f s
  | .vmin e f => Sys2Proof.Machine.execVmin e f s
  | .vmax e f => Sys2Proof.Machine.execVmax e f s
  | .vabs e f => Sys2Proof.Machine.execVabs e f s
  | .vneg e f => Sys2Proof.Machine.execVneg e f s
  | .vand e f => Sys2Proof.Machine.execVand e f s
  | .vor e f => Sys2Proof.Machine.execVor e f s
  | .vxor e f => Sys2Proof.Machine.execVxor e f s
  | .vshl e f => Sys2Proof.Machine.execVshl e f s
  | .vshr e f => Sys2Proof.Machine.execVshr e f s
  | .vsra e f => Sys2Proof.Machine.execVsra e f s
  | .vsel e f => Sys2Proof.Machine.execVsel e f s
  | .vcmpeq e f => Sys2Proof.Machine.execVcmpeq e f s
  | .vcmpne e f => Sys2Proof.Machine.execVcmpne e f s
  | .vcmplt e f => Sys2Proof.Machine.execVcmplt e f s
  | .vcmple e f => Sys2Proof.Machine.execVcmple e f s
  | .kand e f => Sys2Proof.Machine.execKand e f s
  | .kor e f => Sys2Proof.Machine.execKor e f s
  | .kxor e f => Sys2Proof.Machine.execKxor e f s
  | .knot e f => Sys2Proof.Machine.execKnot e f s
  | .vbcast e f => Sys2Proof.Machine.execVbcast e f s
  | .vperm e f => Sys2Proof.Machine.execVperm e f s
  | .vshuf e f => Sys2Proof.Machine.execVshuf e f s
  | .vrot e f => Sys2Proof.Machine.execVrot e f s
  | .vins e f => Sys2Proof.Machine.execVins e f s
  | .vext e f => Sys2Proof.Machine.execVext e f s
  | .vrsum e f => Sys2Proof.Machine.execVrsum e f s
  | .vrmax e f => Sys2Proof.Machine.execVrmax e f s
  | .vrmin e f => Sys2Proof.Machine.execVrmin e f s
  | .vexp e f => Sys2Proof.Machine.execVexp e f s
  | .vrcp e f => Sys2Proof.Machine.execVrcp e f s
  | .vrsqrt e f => Sys2Proof.Machine.execVrsqrt e f s
  | .vtanh e f => Sys2Proof.Machine.execVtanh e f s
  | .vgelu e f => Sys2Proof.Machine.execVgelu e f s
  | .vstat e f => Sys2Proof.Machine.execVstat e f s
  | .vstrd e f => Sys2Proof.Machine.execVstrd e f s
  | .vstclr e f => Sys2Proof.Machine.execVstclr e f s
  | .vcvt e f => Sys2Proof.Machine.execVcvt e f s
  | .vpackmx e f => Sys2Proof.Machine.execVpackmx e f s
  | .vmov e f => Sys2Proof.Machine.execVmov e f s
  | .vsplat e f => Sys2Proof.Machine.execVsplat e f s
  | .tlda e f => Sys2Proof.Machine.execTlda e f s
  | .tldb e f => Sys2Proof.Machine.execTldb e f s
  | .tldsc e f => Sys2Proof.Machine.execTldsc e f s
  | .tmac e f => Sys2Proof.Machine.execTmac e f s
  | .tmacz e f => Sys2Proof.Machine.execTmacz e f s
  | .tmov e f => Sys2Proof.Machine.execTmov e f s
  | .tclr e f => Sys2Proof.Machine.execTclr e f s
  | .similarityQueueEntry e o f => Sys2Proof.Machine.execSimilarityQueueEntry e o f s
  | .qld x => Sys2Proof.Machine.execQld x s
  | .qwt x => Sys2Proof.Machine.execQwt x s
  | .cbind x => Sys2Proof.Machine.execCbind x s
  | .msim x => Sys2Proof.Machine.execMsim x s
  | .dseg x => Sys2Proof.Machine.execDseg x s
  | .dclose x => Sys2Proof.Machine.execDclose x s
  | .tkins x => Sys2Proof.Machine.execTkins x s
  | .tkrd x => Sys2Proof.Machine.execTkrd x s
  | .tkclr x => Sys2Proof.Machine.execTkclr x s
  | .tkcfg x => Sys2Proof.Machine.execTkcfg x s
  | .ld e f => Sys2Proof.Machine.execLd e f s
  | .st e f => Sys2Proof.Machine.execSt e f s
  | .vld e f => Sys2Proof.Machine.execVld e f s
  | .vst e f => Sys2Proof.Machine.execVst e f s
  | .tsld e f ecc => Sys2Proof.Machine.execTsld e f ecc s
  | .tsldDataReturn g => Sys2Proof.Machine.execTsldDataReturn g s
  | .tsst e f => Sys2Proof.Machine.execTsst e f s
  | .bmov e f ecc => Sys2Proof.Machine.execBmov e f ecc s
  | .hmov e f ecc => Sys2Proof.Machine.execHmov e f ecc s
  | .moveTagComplete g x => Sys2Proof.Machine.execMoveTagComplete g x s
  | .mwait e f => Sys2Proof.Machine.execMwait e f s
  | .rld e f => Sys2Proof.Machine.execRld e f s
  | .rst e f => Sys2Proof.Machine.execRst e f s
  | .radd e f => Sys2Proof.Machine.execRadd e f s
  | .rmax e f => Sys2Proof.Machine.execRmax e f s
  | .rmin e f => Sys2Proof.Machine.execRmin e f s
  | .rxchg e f => Sys2Proof.Machine.execRxchg e f s
  | .rcas e f => Sys2Proof.Machine.execRcas e f s
  | .rfadd e f => Sys2Proof.Machine.execRfadd e f s
  | .rredAdd e f => Sys2Proof.Machine.execRredAdd e f s
  | .rredMax e f => Sys2Proof.Machine.execRredMax e f s
  | .rredMin e f => Sys2Proof.Machine.execRredMin e f s
  | .rredFadd e f => Sys2Proof.Machine.execRredFadd e f s
  | .rredTopk e f => Sys2Proof.Machine.execRredTopk e f s
  | .mcst e f => Sys2Proof.Machine.execMcst e f s
  | .fence e f => Sys2Proof.Machine.execFence e f s
  | .wflag e f => Sys2Proof.Machine.execWflag e f s
  | .hxfer e f => Sys2Proof.Machine.execHxfer e f s
  | .nistat e f => Sys2Proof.Machine.execNistat e f s
  | .requestArrival t => Sys2Proof.Machine.execRequestArrival t s
  | .engineCycle t ecc => Sys2Proof.Machine.execEngineCycle t ecc s
  | .replyArrival x => Sys2Proof.Machine.execReplyArrival x s
  | .confirmArrival t => Sys2Proof.Machine.execConfirmArrival t s
  | .retransmissionTimeout t src dst number => Sys2Proof.Machine.execRetransmissionTimeout t src dst number s
  | .routerCycle t lost => Sys2Proof.Machine.execRouterCycle t lost s
  | .combHoldExpiry t => Sys2Proof.Machine.execCombHoldExpiry t s
  | .laneFence t q l => Sys2Proof.Machine.execLaneFence t q l s
  | .seqOpen t x c st h slot pd => Sys2Proof.Machine.execSeqOpen t x c st h slot pd s
  | .seqClose t x c => Sys2Proof.Machine.execSeqClose t x c s
  | .seqMcast t x h slot on mask => Sys2Proof.Machine.execSeqMcast t x h slot on mask s
  | .seqSwap t x h slot ch => Sys2Proof.Machine.execSeqSwap t x h slot ch s
  | .seqPark t x lst h ch index => Sys2Proof.Machine.execSeqPark t x lst h ch index s
  | .seqBind t x recv endpoint mask off lines ring => Sys2Proof.Machine.execSeqBind t x recv endpoint mask off lines ring s
  | .seqUnbind t x recv endpoint => Sys2Proof.Machine.execSeqUnbind t x recv endpoint s
  | .seqWait t x rel v => Sys2Proof.Machine.execSeqWait t x rel v s
  | .seqLoop t x n count target => Sys2Proof.Machine.execSeqLoop t x n count target s
  | .seqJump t x target => Sys2Proof.Machine.execSeqJump t x target s
  | .seqNote t x v => Sys2Proof.Machine.execSeqNote t x v s
  | .frameVerdict t x c seen => Sys2Proof.Machine.execFrameVerdict t x c seen s
  | .framingCodeword t l blocks fixed => Sys2Proof.Machine.execFramingCodeword t l blocks fixed s
  | .relockTimeout t l => Sys2Proof.Machine.execRelockTimeout t l s
  | .listenerMoveComplete t l tag => Sys2Proof.Machine.execListenerMoveComplete t l tag s
  | .lockLoopUpdate t conv seen dim intruder => Sys2Proof.Machine.execLockLoopUpdate t conv seen dim intruder s
  | .intruderMessage tr ch => Sys2Proof.Machine.execIntruderMessage tr ch s
  | .rotationStep t h => Sys2Proof.Machine.execRotationStep t h s
  | .calibrationComplete t h found => Sys2Proof.Machine.execCalibrationComplete t h found s
  | .heaterSupplyFail t => Sys2Proof.Machine.execHeaterSupplyFail t s
  | .fibreSuddenLoss t k => Sys2Proof.Machine.execFibreSuddenLoss t k s
  | .fibreSwitch t k => Sys2Proof.Machine.execFibreSwitch t k s
  | .fibreSwitchComplete t => Sys2Proof.Machine.execFibreSwitchComplete t s
  | .pilotMissing t k => Sys2Proof.Machine.execPilotMissing t k s
  | .ilkClose conn pilot => Sys2Proof.Machine.execIlkClose conn pilot s
  | .rampTimeout taps => Sys2Proof.Machine.execRampTimeout taps s
  | .opticalReady => Sys2Proof.Machine.execOpticalReady s
  | .ilkOpenRequest p => Sys2Proof.Machine.execIlkOpenRequest p s
  | .closeReq p => Sys2Proof.Machine.execCloseReq p s
  | .monitorReading p t => Sys2Proof.Machine.execMonitorReading p t s
  | .monitorReadingDone t v => Sys2Proof.Machine.execMonitorReadingDone t v s
  | .siteFlitReceive t c m flit => Sys2Proof.Machine.execSiteFlitReceive t c m flit s
  | .streamBind t c n recv off lines ring beat => Sys2Proof.Machine.execStreamBind t c n recv off lines ring beat s
  | .streamUnbind t c n => Sys2Proof.Machine.execStreamUnbind t c n s
  | .programImage t c src len => Sys2Proof.Machine.execProgramImage t c src len s
  | .standStart t c k => Sys2Proof.Machine.execStandStart t c k s
  | .standEnd t c code => Sys2Proof.Machine.execStandEnd t c code s
  | .agentFault t c code src => Sys2Proof.Machine.execAgentFault t c code src s
  | .linkEvent t c m cause => Sys2Proof.Machine.execLinkEvent t c m cause s
  | .beatFlitDown t c dieGtc => Sys2Proof.Machine.execBeatFlitDown t c dieGtc s
  | .beatFlitUp t c agentDone agent => Sys2Proof.Machine.execBeatFlitUp t c agentDone agent s
  | .siteModuleFailure t c m => Sys2Proof.Machine.execSiteModuleFailure t c m s
  | .moduleRetrainComplete t c m how => Sys2Proof.Machine.execModuleRetrainComplete t c m how s
  | .siteLinkDown t c => Sys2Proof.Machine.execSiteLinkDown t c s
  | .siteLinkReturn t c desc badCores => Sys2Proof.Machine.execSiteLinkReturn t c desc badCores s
  | .hbmRefresh j temp => Sys2Proof.Machine.execHbmRefresh j temp s
  | .hardRepair j row => Sys2Proof.Machine.execHardRepair j row s
  | .migrationComplete j bad => Sys2Proof.Machine.execMigrationComplete j bad s
  | .towerSramMigrationComplete w => Sys2Proof.Machine.execTowerSramMigrationComplete w s
  | .bar2Read p off n ecc => Sys2Proof.Machine.execBar2Read p off n ecc s
  | .bar2ReadTimeout p off n => Sys2Proof.Machine.execBar2ReadTimeout p off n s
  | .bar2Write p off n v => Sys2Proof.Machine.execBar2Write p off n v s
  | .atomicopRequest p => Sys2Proof.Machine.execAtomicopRequest p s
  | .perstAssert p => Sys2Proof.Machine.execPerstAssert p s
  | .perstDeassert p ref cfg => Sys2Proof.Machine.execPerstDeassert p ref cfg s
  | .hotReset p => Sys2Proof.Machine.execHotReset p s
  | .pcieLinkDown p => Sys2Proof.Machine.execPcieLinkDown p s
  | .cablePresenceChange p present => Sys2Proof.Machine.execCablePresenceChange p present s
  | .d3hotEntry p => Sys2Proof.Machine.execD3hotEntry p s
  | .d0Return p => Sys2Proof.Machine.execD0Return p s
  | .msixPendingSend p v cfg => Sys2Proof.Machine.execMsixPendingSend p v cfg s
  | .hxferComplete g mt kind data ecc => Sys2Proof.Machine.execHxferComplete g mt kind data ecc s
  | .setEndpointId p eid => Sys2Proof.Machine.execSetEndpointId p eid s
  | .doeDiscovery p index => Sys2Proof.Machine.execDoeDiscovery p index s
  | .negotiateAlgorithms p sm2 sm3 => Sys2Proof.Machine.execNegotiateAlgorithms p sm2 sm3 s
  | .getCertificate p slot off n => Sys2Proof.Machine.execGetCertificate p slot off n s
  | .challenge p slot nonce => Sys2Proof.Machine.execChallenge p slot nonce s
  | .getMeasurements p index signed nonce => Sys2Proof.Machine.execGetMeasurements p index signed nonce s
  | .mctpUnsupportedType p ty => Sys2Proof.Machine.execMctpUnsupportedType p ty s
  | .referenceLost r => Sys2Proof.Machine.execReferenceLost r s
  | .referenceQualified r ppm => Sys2Proof.Machine.execReferenceQualified r ppm s
  | .switchRef p => Sys2Proof.Machine.execSwitchRef p s
  | .switchForcedComplete => Sys2Proof.Machine.execSwitchForcedComplete s
  | .holdoverExpiry => Sys2Proof.Machine.execHoldoverExpiry s
  | .referenceAccepted r lo hi => Sys2Proof.Machine.execReferenceAccepted r lo hi s
  | .tileFeedFault t => Sys2Proof.Machine.execTileFeedFault t s
  | .powerUp vin => Sys2Proof.Machine.execPowerUp vin s
  | .powerRemoval => Sys2Proof.Machine.execPowerRemoval s
  | .inputOvervoltage vin => Sys2Proof.Machine.execInputOvervoltage vin s
  | .supplyHigh vin => Sys2Proof.Machine.execSupplyHigh vin s
  | .supplyLowExcursion vin => Sys2Proof.Machine.execSupplyLowExcursion vin s
  | .supplyLowTimeout => Sys2Proof.Machine.execSupplyLowTimeout s
  | .supplyReturn vin => Sys2Proof.Machine.execSupplyReturn vin s
  | .inputLockout vin => Sys2Proof.Machine.execInputLockout vin s
  | .inputReenable vin => Sys2Proof.Machine.execInputReenable vin s
  | .thermalTrip tower layer tile hbm => Sys2Proof.Machine.execThermalTrip tower layer tile hbm s
  | .tripRecordWrite => Sys2Proof.Machine.execTripRecordWrite s
  | .housekeepingMeasure t ch v => Sys2Proof.Machine.execHousekeepingMeasure t ch v s
  | .suspectRecalibrationEnd t ch v => Sys2Proof.Machine.execSuspectRecalibrationEnd t ch v s
  | .powerManagerUpdate rails draws input => Sys2Proof.Machine.execPowerManagerUpdate rails draws input s
  | .moduleThrottle input => Sys2Proof.Machine.execModuleThrottle input s
  | .moduleThrottleEscalate input => Sys2Proof.Machine.execModuleThrottleEscalate input s
  | .moduleThrottleEnd input => Sys2Proof.Machine.execModuleThrottleEnd input s
  | .standTargetWrite p k v => Sys2Proof.Machine.execStandTargetWrite p k v s
  | .idleDelayExpiry k => Sys2Proof.Machine.execIdleDelayExpiry k s
  | .powerEntryStepComplete k => Sys2Proof.Machine.execPowerEntryStepComplete k s
  | .towerWakeStart k => Sys2Proof.Machine.execTowerWakeStart k s
  | .wakeComplete x => Sys2Proof.Machine.execWakeComplete x s
  | .serviceRecordInterval => Sys2Proof.Machine.execServiceRecordInterval s
  | .deadwoodRetry => Sys2Proof.Machine.execDeadwoodRetry s
  | .startCold p => Sys2Proof.Machine.execStartCold p s
  | .startWarm p bist => Sys2Proof.Machine.execStartWarm p bist s
  | .startStepComplete f => Sys2Proof.Machine.execStartStepComplete f s
  | .tileWarmStartRequest p v => Sys2Proof.Machine.execTileWarmStartRequest p v s
  | .tileWarmStartComplete t => Sys2Proof.Machine.execTileWarmStartComplete t s
  | .errPop p => Sys2Proof.Machine.execErrPop p s
  | .sampleCapture t c arm => Sys2Proof.Machine.execSampleCapture t c arm s
  | .samplePop p t k => Sys2Proof.Machine.execSamplePop p t k s
  | .congestionPeriodBoundary => Sys2Proof.Machine.execCongestionPeriodBoundary s
  | .congestionMapComplete late => Sys2Proof.Machine.execCongestionMapComplete late s
  | .nvsWriteComplete c0 c15 => Sys2Proof.Machine.execNvsWriteComplete c0 c15 s
  | .bootGo p => Sys2Proof.Machine.execBootGo p s
  | .imageFetchComplete ok bytes => Sys2Proof.Machine.execImageFetchComplete ok bytes s
  | .raiseSvn p => Sys2Proof.Machine.execRaiseSvn p s
  | .controllerHeartbeat x => Sys2Proof.Machine.execControllerHeartbeat x s
  | .controllerTakeover => Sys2Proof.Machine.execControllerTakeover s
  | .tapArm p v => Sys2Proof.Machine.execTapArm p v s
  | .tapOpen p => Sys2Proof.Machine.execTapOpen p s
  | .idcode => Sys2Proof.Machine.execIdcode s
  | .bypass bit => Sys2Proof.Machine.execBypass bit s
  | .reprovisioning keys certs serial => Sys2Proof.Machine.execReprovisioning keys certs serial s
  | .emptyBundle e => Sys2Proof.Machine.execEmptyBundle e s
  | .levelChangeComplete k rails => Sys2Proof.Machine.execLevelChangeComplete k rails s
  | .referenceDisqualified r => Sys2Proof.Machine.execReferenceDisqualified r s
  | .fullPowerReached taps => Sys2Proof.Machine.execFullPowerReached taps s
  | .modulatorRelockTimeout tr ch => Sys2Proof.Machine.execModulatorRelockTimeout tr ch s
  | .settingsRetry => Sys2Proof.Machine.execSettingsRetry s
  | .hardRepairComplete j => Sys2Proof.Machine.execHardRepairComplete j s
  | .startStepTimeout tile => Sys2Proof.Machine.execStartStepTimeout tile s
  | .bar2Resize p size => Sys2Proof.Machine.execBar2Resize p size s
  | .aspmL1Transition p enter => Sys2Proof.Machine.execAspmL1Transition p enter s
  | .getVersion p => Sys2Proof.Machine.execGetVersion p s
  | .getCapabilities p => Sys2Proof.Machine.execGetCapabilities p s

end Sys2Proof.Machine
end

