-- ==== Sys2Proof/Machine/Step.lean ====
section
/-! DEFINITION. One step of the block: the command at the front of the queue, or a tick on an empty queue. -/

namespace Sys2Proof.Machine

/-- One step: run the command at the front of the queue with the queue's rest; on an empty queue GTC advances by one
tick while the clocks run (DESIGN CHOICE, assumption 2). -/
def step (s : State) : Host.Outcome State Fault Refusal :=
  match s.pending with
  | [] => .next s.tick
  | i :: rest => exec i { s with pending := rest }

/-- The state with the command that a table word spells at the front of its queue; no row of the table has bits, so no
word spells one. [DESIGN CHOICE, assumption 4, safe] -/
def State.withFetchWord (s : State) (nbits w : Nat) : State :=
  match Sys2Proof.decodeTableWord nbits w with
  | some i => { s with pending := i :: s.pending }
  | none => s

end Sys2Proof.Machine
end

