-- ==== Sys2Proof/WellFormed.lean ====
section
/-! DEFINITION. Well-formed commands: every operand names a unit that the module has, and a core's operation keeps the
encoding rules of R144 that concern one operation. -/

namespace Sys2Proof

/-- The slot operation that a core command brings, with where it issues; none for every other command. -/
def Instr.slotOp : Instr → Option (Iss × SlotOp)
  | .add e d a b => some (e, .s (.alu .add d a b))
  | .sub e d a b => some (e, .s (.alu .sub d a b))
  | .and e d a b => some (e, .s (.alu .and d a b))
  | .or e d a b => some (e, .s (.alu .or d a b))
  | .xor e d a b => some (e, .s (.alu .xor d a b))
  | .shl e d a b => some (e, .s (.alu .shl d a b))
  | .shr e d a b => some (e, .s (.alu .shr d a b))
  | .sra e d a b => some (e, .s (.alu .sra d a b))
  | .mul e d a b => some (e, .s (.alu .mul d a b))
  | .mulh e d a b => some (e, .s (.alu .mulh d a b))
  | .mulhu e d a b => some (e, .s (.alu .mulhu d a b))
  | .slt e d a b => some (e, .s (.alu .slt d a b))
  | .sltu e d a b => some (e, .s (.alu .sltu d a b))
  | .seq e d a b => some (e, .s (.alu .seq d a b))
  | .min e d a b => some (e, .s (.alu .min d a b))
  | .max e d a b => some (e, .s (.alu .max d a b))
  | .minu e d a b => some (e, .s (.alu .minu d a b))
  | .maxu e d a b => some (e, .s (.alu .maxu d a b))
  | .clz e d a => some (e, .s (.alu .clz d a 0))
  | .popc e d a => some (e, .s (.alu .popc d a 0))
  | .addi e d a imm => some (e, .s (.alui .addi d a imm))
  | .andi e d a imm => some (e, .s (.alui .andi d a imm))
  | .ori e d a imm => some (e, .s (.alui .ori d a imm))
  | .xori e d a imm => some (e, .s (.alui .xori d a imm))
  | .shli e d a imm => some (e, .s (.alui .shli d a imm))
  | .shri e d a imm => some (e, .s (.alui .shri d a imm))
  | .srai e d a imm => some (e, .s (.alui .srai d a imm))
  | .slti e d a imm => some (e, .s (.alui .slti d a imm))
  | .sltui e d a imm => some (e, .s (.alui .sltui d a imm))
  | .muli e d a imm => some (e, .s (.alui .muli d a imm))
  | .sliw e d imm => some (e, .s (.sliw d imm))
  | .slih e d imm => some (e, .s (.slih d imm))
  | .jmp e t => some (e, .s (.jmp t))
  | .beq e a b t => some (e, .s (.br .eq a b t))
  | .bne e a b t => some (e, .s (.br .ne a b t))
  | .blt e a b t => some (e, .s (.br .lt a b t))
  | .bge e a b t => some (e, .s (.br .ge a b t))
  | .bltu e a b t => some (e, .s (.br .ltu a b t))
  | .bgeu e a b t => some (e, .s (.br .geu a b t))
  | .jal e d t => some (e, .s (.jal d t))
  | .jr e a => some (e, .s (.jr a))
  | .lp e a l => some (e, .s (.lp a l))
  | .lpi e n l => some (e, .s (.lpi n l))
  | .lcnt e d => some (e, .s (.lcnt d))
  | .rdcr e d n => some (e, .s (.rdcr d n))
  | .rdgtc e d n => some (e, .s (.rdgtc d n))
  | .rdhw e d n => some (e, .s (.rdhw d n))
  | .evt e n => some (e, .s (.evt n))
  | .bwait e a => some (e, .s (.bwait a))
  | .bdone e => some (e, .s .bdone)
  | .coreEnd e => some (e, .s .stop)
  | .vadd e f => some (e, .v .vadd f)
  | .vsub e f => some (e, .v .vsub f)
  | .vmul e f => some (e, .v .vmul f)
  | .vfma e f => some (e, .v .vfma f)
  | .vmin e f => some (e, .v .vmin f)
  | .vmax e f => some (e, .v .vmax f)
  | .vabs e f => some (e, .v .vabs f)
  | .vneg e f => some (e, .v .vneg f)
  | .vand e f => some (e, .v .vand f)
  | .vor e f => some (e, .v .vor f)
  | .vxor e f => some (e, .v .vxor f)
  | .vshl e f => some (e, .v .vshl f)
  | .vshr e f => some (e, .v .vshr f)
  | .vsra e f => some (e, .v .vsra f)
  | .vsel e f => some (e, .v .vsel f)
  | .vcmpeq e f => some (e, .v .vcmpeq f)
  | .vcmpne e f => some (e, .v .vcmpne f)
  | .vcmplt e f => some (e, .v .vcmplt f)
  | .vcmple e f => some (e, .v .vcmple f)
  | .kand e f => some (e, .v .kand f)
  | .kor e f => some (e, .v .kor f)
  | .kxor e f => some (e, .v .kxor f)
  | .knot e f => some (e, .v .knot f)
  | .vbcast e f => some (e, .v .vbcast f)
  | .vperm e f => some (e, .v .vperm f)
  | .vshuf e f => some (e, .v .vshuf f)
  | .vrot e f => some (e, .v .vrot f)
  | .vins e f => some (e, .v .vins f)
  | .vext e f => some (e, .v .vext f)
  | .vrsum e f => some (e, .v .vrsum f)
  | .vrmax e f => some (e, .v .vrmax f)
  | .vrmin e f => some (e, .v .vrmin f)
  | .vexp e f => some (e, .v .vexp f)
  | .vrcp e f => some (e, .v .vrcp f)
  | .vrsqrt e f => some (e, .v .vrsqrt f)
  | .vtanh e f => some (e, .v .vtanh f)
  | .vgelu e f => some (e, .v .vgelu f)
  | .vstat e f => some (e, .v .vstat f)
  | .vstrd e f => some (e, .v .vstrd f)
  | .vstclr e f => some (e, .v .vstclr f)
  | .vcvt e f => some (e, .v .vcvt f)
  | .vpackmx e f => some (e, .v .vpackmx f)
  | .vmov e f => some (e, .v .vmov f)
  | .vsplat e f => some (e, .v .vsplat f)
  | .tlda e f => some (e, .t .tlda f)
  | .tldb e f => some (e, .t .tldb f)
  | .tldsc e f => some (e, .t .tldsc f)
  | .tmac e f => some (e, .t .tmac f)
  | .tmacz e f => some (e, .t .tmacz f)
  | .tmov e f => some (e, .t .tmov f)
  | .tclr e f => some (e, .t .tclr f)
  | .similarityQueueEntry e o f => some (e, .q o f)
  | .ld e f => some (e, .m .ld f)
  | .st e f => some (e, .m .st f)
  | .vld e f => some (e, .m .vld f)
  | .vst e f => some (e, .m .vst f)
  | .tsld e f _ => some (e, .m .tsld f)
  | .tsst e f => some (e, .m .tsst f)
  | .bmov e f _ => some (e, .m .bmov f)
  | .hmov e f _ => some (e, .m .hmov f)
  | .mwait e f => some (e, .m .mwait f)
  | .rld e f => some (e, .m .rld f)
  | .rst e f => some (e, .m .rst f)
  | .radd e f => some (e, .m .radd f)
  | .rmax e f => some (e, .m .rmax f)
  | .rmin e f => some (e, .m .rmin f)
  | .rxchg e f => some (e, .m .rxchg f)
  | .rcas e f => some (e, .m .rcas f)
  | .rfadd e f => some (e, .m .rfadd f)
  | .rredAdd e f => some (e, .m .rredAdd f)
  | .rredMax e f => some (e, .m .rredMax f)
  | .rredMin e f => some (e, .m .rredMin f)
  | .rredFadd e f => some (e, .m .rredFadd f)
  | .rredTopk e f => some (e, .m .rredTopk f)
  | .mcst e f => some (e, .m .mcst f)
  | .fence e f => some (e, .m .fence f)
  | .wflag e f => some (e, .m .wflag f)
  | .hxfer e f => some (e, .m .hxfer f)
  | .nistat e f => some (e, .m .nistat f)
  | _ => none

/-- A core operation by itself: its core exists and its fields keep R144. -/
def slotOpOk (e : Iss) (o : SlotOp) : Bool := decide (e.g < 12288) && bundleBreach [o] e.idle.toNat == none

/-- Is a descriptor that calls its die an Itaux compute die one that such a die of this module returns (R353)? -/
def itauxOk (d : BitVec 512) : Bool :=
  let b := fun (o n : Nat) => natBits d.toNat (8 * o) (8 * n)
  !natBit (b 27 1) 1 ||
    (b 0 2 == 0x100 && b 2 2 == 1 && natBit (b 22 1) 5 && natBit (b 21 1) 0 && b 27 1 == 3 && b 28 2 == 128)

/-- The units that the operands of a command other than a slot operation name. -/
def Instr.unitsOk : Instr → Bool
  | .registerWrite p .. | .registerLowWordRead p .. | .registerHighWordRead p _ | .registerLowWordWrite p ..
  | .registerHighWordWrite p .. | .commit p | .restage p | .ilkOpenRequest p | .closeReq p | .bar2Read p .. | .bar2ReadTimeout p ..
  | .bar2Write p .. | .atomicopRequest p | .perstAssert p | .perstDeassert p .. | .hotReset p | .pcieLinkDown p
  | .cablePresenceChange p _ | .d3hotEntry p | .d0Return p | .setEndpointId p _ | .doeDiscovery p _
  | .negotiateAlgorithms ⟨p, _⟩ .. | .getCertificate ⟨p, _⟩ .. | .challenge ⟨p, _⟩ .. | .getMeasurements ⟨p, _⟩ ..
  | .mctpUnsupportedType p _
  | .switchRef ⟨p, _, _⟩ | .startCold p | .startWarm p _ | .tileWarmStartRequest p _ | .errPop p | .bootGo p | .raiseSvn p | .tapArm p _
  | .tapOpen p | .bar2Resize p _ | .aspmL1Transition p _ | .getVersion ⟨p, _⟩ | .getCapabilities ⟨p, _⟩ => decide (p < 2)
  | .msixPendingSend p v _ => decide (p < 2) && decide (v < 160)
  | .launch p i .. | .abort p i _ | .standTargetWrite p i _ => decide (p < 2) && decide (i < 16)
  | .monitorReading p t | .samplePop p t _ => decide (p < 2) && decide (t < 16)
  | .programLoadComplete i | .startMissed i | .beatGate i | .gridEdge i _ | .holdLimit i | .clearAbandon i
  | .levelChangeClockRestart i | .levelRaiseDividerChange i _ | .standHandlingSettled i | .idleDelayExpiry i
  | .powerEntryStepComplete i | .towerWakeStart i | .levelChangeComplete i _ => decide (i < 16)
  | .qld ⟨g, _⟩ | .qwt ⟨g, _⟩ | .cbind ⟨g, _⟩ | .msim ⟨g, _⟩ | .dseg ⟨g, _⟩ | .dclose ⟨g, _⟩ | .tkins ⟨g, _⟩ | .tkrd ⟨g, _⟩
  | .tkclr ⟨g, _⟩ | .tkcfg ⟨g, _⟩ | .wflagHoldLimit g | .spareLoadComplete g | .fencedCorePowerOff g | .tsldDataReturn g | .moveTagComplete g _
  | .hxferComplete g .. => decide (g < 12288)
  | .requestArrival t | .engineCycle t _ | .replyArrival ⟨t, _⟩ | .confirmArrival t | .retransmissionTimeout t ..
  | .routerCycle t _ | .combHoldExpiry t | .heaterSupplyFail t | .fibreSwitchComplete t | .monitorReadingDone t _
  | .tileFeedFault t | .tileWarmStartComplete t => decide (t < 16)
  | .laneFence t q l => decide (t < 16) && decide (q < 2) && decide (l < 30)
  | .seqOpen t x .. | .seqClose t x _ | .seqMcast t x .. | .seqBind t x .. | .seqUnbind t x .. | .seqWait t x ..
  | .seqLoop t x .. | .seqJump t x _ | .seqNote t x _ => decide (t < 16) && decide (x < 7)
  | .seqSwap t x _ _ ch => decide (t < 16) && decide (x < 7) && decide (ch.toNat < 33)
  | .seqPark t x lst _ ch index =>
    decide (t < 16) && decide (x < 7) && (if lst then decide (index.toNat < 1080) else decide (ch.toNat < 33))
  | .frameVerdict t x c _ => decide (t < 16) && decide (x < 6) && decide (c < 256)
  | .framingCodeword t l .. | .relockTimeout t l | .listenerMoveComplete t l _ => decide (t < 16) && decide (l < 1080)
  | .lockLoopUpdate t conv .. => decide (t < 16) && decide (conv < 3264)
  | .intruderMessage tr ch | .modulatorRelockTimeout tr ch => decide (tr < 160) && decide (ch < 33)
  | .rotationStep t h | .calibrationComplete t h _ => decide (t < 16) && decide (h < 8)
  | .fibreSuddenLoss t k | .fibreSwitch t k | .pilotMissing t k => decide (t < 16) && decide (k < 3)
  | .siteFlitReceive t c m _ | .linkEvent t c m _ | .siteModuleFailure t c m | .moduleRetrainComplete t c m _ =>
    decide (t < 16) && decide (c < 6) && decide (m < 17)
  | .streamBind t c .. | .streamUnbind t c _ | .programImage t c .. | .standEnd t c _ | .agentFault t c ..
  | .beatFlitDown t c _ | .beatFlitUp t c .. | .siteLinkDown t c => decide (t < 16) && decide (c < 6)
  | .siteLinkReturn t c d _ => decide (t < 16) && decide (c < 6) && itauxOk d.desc
  | .startStepComplete f => f.sites.all fun q => decide (q.1 < 96) && itauxOk q.2
  | .standStart t c i => decide (t < 16) && decide (c < 6) && decide (i < 16)
  | .hbmRefresh j _ | .hardRepair j _ | .migrationComplete j _ | .hardRepairComplete j => decide (j < 32)
  | .towerSramMigrationComplete ⟨w, _⟩ | .wakeComplete ⟨w, _, _⟩ => decide (w < 96)
  | .referenceLost r | .referenceQualified ⟨r, _, _⟩ _ | .referenceAccepted ⟨r, _, _⟩ .. | .referenceDisqualified ⟨r, _⟩ => decide (r < 2)
  | .thermalTrip _ layer tile _ => decide (tile < 16) && decide (layer < 4)
  | .housekeepingMeasure t ch _ => decide (t < 16) && decide (ch < 64)
  | .suspectRecalibrationEnd t ch _ => decide (t < 16) && decide (ch < 40)
  | .powerManagerUpdate rails draws _ =>
    (rails.all fun (r : Nat × Nat × Nat) => decide (r.1 < 96)) && (draws.towers.all fun (d : Nat × Nat) => decide (d.1 < 96)) &&
      (draws.hbms.all fun (d : Nat × Nat) => decide (d.1 < 32)) && (draws.droops.all fun (d : Nat × Nat × Nat) => decide (d.1 < 864)) && draws.tiles.all fun (d : Nat × Nat) => decide (d.1 < 16)
  | .sampleCapture t c arm => decide (t < 16) && decide (c < 6) && decide (arm < 8)
  | .reprovisioning keys certs _ => (keys.all fun (k : Nat × List Byte) => decide (k.1 < 4)) && decide (certs.length = 2)
  | _ => true

/-- The well-formed commands. -/
def Instr.wf (i : Instr) : Bool :=
  match i.slotOp with
  | some (e, o) => slotOpOk e o
  | none => i.unitsOk

end Sys2Proof
end

