-- ==== Sys2Proof/Safety.lean ====
section
/-! DEFINITION. The words that the statements speak in: what it is for a bundle to be ready, what an issued bundle
leaves, and the invariants that every step keeps. -/

namespace Sys2Proof.Machine

/-- Does the outcome go on? -/
def Completes (o : Host.Outcome State Fault Refusal) : Prop := ∃ t, o = .next t

/-! ### Registers of a core over time -/

/-- The core as it stands in cycle `n` when nothing further issues: every result due by then is written (R88). -/
def CoreSt.atCycle (c : CoreSt) (n : Nat) : CoreSt := ({ c with cycle := n } : CoreSt).settle

/-- What a register holds, in the low bits of the widest register. -/
def CoreSt.get (c : CoreSt) : Dest → BitVec 65536
  | .s r => (c.sr r).setWidth 65536
  | .v r => (c.vr r).setWidth 65536
  | .k r => (c.kr r).setWidth 65536
  | .acc r => sget 0 c.accVis r.toNat

/-- What a register holds after `x` is written to it; s0 stays zero (R81). -/
def Dest.after (d : Dest) (x : BitVec 65536) : BitVec 65536 :=
  match d with
  | .s r => if r = 0 then 0 else (x.setWidth 64).setWidth 65536
  | .v _ => (x.setWidth 512).setWidth 65536
  | .k _ => (x.setWidth 64).setWidth 65536
  | .acc _ => x

/-- Is the result the register's value in cycle `n`: due by then, and no result on its way to the register falls due
later and by then (R88: of two writes in one cycle the later-issued one remains)? -/
def Pend.holds (c : CoreSt) (n : Nat) (d : Dest) (w : Pend) : Bool :=
  decide (w.dest = d) && decide (w.due ≤ n) && c.pend.all fun p => !decide (p.dest = d ∧ w.due < p.due ∧ p.due ≤ n)

/-- From core `c` to core `c'` exactly the results `ws` join those on their way: in every later cycle each register holds
the result of `ws` that has reached it, else what it would have held without the bundle. -/
def Delivers (c c' : CoreSt) (ws : List Pend) : Prop :=
  ∀ n, c'.cycle ≤ n → ∀ d : Dest, (c'.atCycle n).get d =
    match ws.find? fun w => w.holds c n d with
    | some w => d.after w.val
    | none => (c.atCycle n).get d

/-- The results on their way stand in the order of their due cycles. -/
abbrev CoreSt.Ordered (c : CoreSt) : Prop := c.pend.Pairwise fun p q => p.due ≤ q.due

/-! ### A bundle of one operation -/

/-- The state in which the bundle of command `e` is judged: the cycle's droop and crossing-FIFO traffic have been taken (R78, R447). -/
abbrev State.met (s : State) (e : Iss) : State := (s.droop e.g e.env).cross e.g e.env

/-- Nothing stands in the way of a bundle that holds the one operation `o`: its core exists, is clocked (R246) and runs (R146), no other
operation is staged, no detector reports, no unit beside the pipeline reads or writes memory in the bundle's cycles, the fields are
legal (R144), the core is in no beat wait (R164), its program counter lies in the program (R145), and no scoreboard entry
holds a register that the operation reads or writes (R90). -/
abbrev Ready (s : State) (e : Iss) (o : SlotOp) : Prop :=
  let c := s.core e.g
  e.g < 12288 ∧ e.last = true ∧ e.det = .none ∧ e.env.near = [] ∧ s.clockStopped e.g = false ∧ c.running = true ∧ c.halted = false ∧
    c.staged = [] ∧ bundleBreach [o] e.idle.toNat = none ∧ s.inBwait e.g = false ∧ c.pc < c.progLen ∧
    (∀ x ∈ c.sb, x.dest ∉ o.reads ++ o.dests) ∧ c.Ordered

/-- A bundle that signals beat done finds the core's link and crossing FIFOs with nothing of its own, or the signal already
given (R163, R165, R166). -/
abbrev Drained (s : State) (e : Iss) : Prop := (s.core e.g).done = true ∨ (s.met e).undrained e.g = false

/-- Between `s` and `t` only core `g`, its event counters and the crossing FIFOs of its row and its die's crossbar differ. -/
def OnlyCore (s t : State) (g : Nat) : Prop :=
  t = { s with cores := t.cores, pmc := t.pmc, regions := t.regions } ∧ (∀ h, h ≠ g → t.core h = s.core h) ∧
    (∀ a, (∀ n, n < 40 → a ≠ s.coreCtr g n) → t.ctr a = s.ctr a) ∧
    ∀ k, k ≠ rowRegion g → k ≠ barRegion g → t.region k = s.region k

/-- Core `c'` is core `c` one bundle on: cycles have passed, results due have been written, the bundle sequence has
moved (R126, R139 to R143), its row-bus link and its half's nominal cycle have gone on (R78, R80), and nothing else differs. -/
def OneOn (c c' : CoreSt) (e : Iss) (x : Option SOp) : Prop :=
  c' = { c with s := c'.s, v := c'.v, k := c'.k, accVis := c'.accVis, pend := c'.pend, link := c'.link, nom := c'.nom,
                pat := c'.pat, pc := (advance c x).pc, led := (advance c x).led,
                loops := (advance c x).loops, delay := (advance c x).delay, cycle := c.cycle + 1 + e.idle.toNat,
                staged := [], active := true, sbStall := false, waiting := none, waitHolds := 0 }

/-- A bundle issued at core `e.g`, from the state `s` in which what it does outside its core has been done: `c` is the core with what the bundle changes at
once, `x` its scalar operation, `ws` the results that later cycles write. -/
def IssuedAs (s t : State) (e : Iss) (x : Option SOp) (c : CoreSt) (ws : List Pend) : Prop :=
  OnlyCore s t e.g ∧ OneOn c (t.core e.g) e x ∧ Delivers c (t.core e.g) ws ∧ (t.core e.g).Ordered

/-! ### Invariants -/

/-- Memory keeps its canonical form. -/
abbrev State.MemoryOk (s : State) : Prop := memWf s.mem = true

/-- Every core's results on their way stand in the order of their due cycles. -/
def State.ResultsOrdered (s : State) : Prop := ∀ g, (s.core g).Ordered

/-! ### What an issued bundle gives -/

/-- A scalar result of latency `l` of a bundle that issues at core `c`: nothing for s0, which discards writes (R81, R88). -/
def CoreSt.resS (c : CoreSt) (l : Nat) (d : R5) (v : Word) : List Pend :=
  if d = 0 then [] else [⟨c.cycle + l, .s d, v.setWidth 65536⟩]

/-- A vector result of latency `l`. -/
def CoreSt.resV (c : CoreSt) (l : Nat) (d : R5) (v : Vec) : List Pend := [⟨c.cycle + l, .v d, v.setWidth 65536⟩]

/-- A predicate result of latency `l`. -/
def CoreSt.resK (c : CoreSt) (l : Nat) (d : BitVec 3) (v : Word) : List Pend := [⟨c.cycle + l, .k d, v.setWidth 65536⟩]

/-- Command `i` issues the bundle of the one operation `o`: it completes in the state `u`, but that core `e.g` is `c` with the
results `ws` on their way, one bundle on, and that its event counters count. -/
def IssuesIn (s u : State) (i : Instr) (e : Iss) (o : SlotOp) (c : CoreSt) (ws : List Pend) : Prop :=
  ∃ t, exec i s = .next t ∧ IssuedAs u t e (sOf [o]) c ws

/-- The bundle changes nothing outside its core. -/
def Issues (s : State) (i : Instr) (e : Iss) (o : SlotOp) (c : CoreSt) (ws : List Pend) : Prop := IssuesIn s s i e o c ws

/-- A ready bundle of the scalar operation `x` does nothing but write `v` to `d` with latency `l`. -/
def GivesS (s : State) (i : Instr) (e : Iss) (x : SOp) (l : Nat) (d : R5) (v : Word) : Prop :=
  Ready s e (.s x) → Issues s i e (.s x) (s.core e.g) ((s.core e.g).resS l d v)

/-- A ready bundle of the scalar operation `x` leaves core `c`, writes nothing, and the bundle sequence goes on at `pc` with
these loops and with this branch in its delay bundles. -/
def Steers (s : State) (i : Instr) (e : Iss) (x : SOp) (c : CoreSt) (ws : List Pend) (pc : Nat) (ls : List LoopEnt)
    (dl : Option (Nat × Nat)) : Prop :=
  ∃ t, exec i s = .next t ∧ IssuedAs s t e (some x) c ws ∧ (t.core e.g).pc = pc ∧ (t.core e.g).loops = ls ∧
    (t.core e.g).delay = dl

/-- A ready bundle of the vector operation `o` does nothing but write, with latency `l`, a vector of which `p` holds. -/
def GivesV (s : State) (i : Instr) (e : Iss) (o : VOp) (f : VF) (l : Nat) (p : Vec → Prop) : Prop :=
  Ready s e (.v o f) → ∃ v, p v ∧ Issues s i e (.v o f) (s.core e.g) ((s.core e.g).resV l f.d v)

/-- The lanes of a result under mask and zero bit (R128): lane `i` is `g i` where the mask admits it. -/
def MaskedLanes (c : CoreSt) (f : VF) (g : Nat → Nat) (v : Vec) : Prop :=
  let w := laneWidth f.ty.toNat
  ∀ i, i < 512 / w → lane w v i = if admits c f.mask w i then g i else if f.z then 0 else lane w (c.vr f.d) i

/-- Lane `i` of register `r` as a signed integer (R101). -/
def CoreSt.int (c : CoreSt) (f : VF) (r : R5) (i : Nat) : Int :=
  (BitVec.ofNat (laneWidth f.ty.toNat) (lane (laneWidth f.ty.toNat) (c.vr r) i)).toInt

/-- Lane `i` of register `r` as a floating value (R104, R106). -/
def CoreSt.flt (c : CoreSt) (f : VF) (r : R5) (i : Nat) : FV :=
  fdec (laneFmt f.ty.toNat) (lane (laneWidth f.ty.toNat) (c.vr r) i)

/-- An integer result in a lane: wrapped, or saturated in the `.s` form (R102). -/
def vIntRes (f : VF) (x : Int) : Nat :=
  let w := laneWidth f.ty.toNat
  let y := if f.sat then max (-2 ^ (w - 1)) (min (2 ^ (w - 1) - 1) x) else x
  (BitVec.ofInt w y).toNat

/-- An exact floating result rounded once to the lane's format (R105 to R107). -/
def vFltRes (f : VF) (x : FV) : Nat := fenc (laneFmt f.ty.toNat) x

/-- The 256-bit word of a bundle of these operations (R124, R125). -/
def bundleWord (ops : List SlotOp) (idle : BitVec 4) : Nat :=
  let at' := fun k : Nat => match ops.find? fun o => o.slot == k with
    | some o => (1, o.word)
    | none => (0, 0)
  (at' 0).1 + 2 * (at' 1).1 + 4 * (at' 2).1 + 8 * (at' 3).1 + 2 ^ 8 * idle.toNat + 2 ^ 16 * (at' 0).2 +
    2 ^ 64 * (at' 1).2 + 2 ^ 128 * (at' 2).2 + 2 ^ 192 * (at' 3).2

/-- A core command whose far data, if it reads any, is found clean by error correction (R380, R390). -/
def eccClean : Instr → Bool
  | .tsld _ _ x => x == .clean
  | .bmov _ _ xs | .hmov _ _ xs => xs == []
  | _ => true

/-! ### Tensor and similarity instructions -/

/-- Map `m'` is map `m` but for the value `v` at `k`. -/
def Replaces {α : Type} (z : α) (m m' : SMap α) (k : Nat) (v : α) : Prop :=
  sget z m' k = v ∧ ∀ j, j ≠ k → sget z m' j = sget z m j

/-- What tmac (`zero` false) or tmacz (`zero` true) does with the 128 bytes `b` of B and the remaining chunks `bs` (R186, R187). -/
def MacDoes (s : State) (i : Instr) (e : Iss) (o : TOp) (f : TF) (zero : Bool) (b : Nat) (bs : List BChunk) : Prop :=
  let c := s.core e.g
  let buf := f.imm5.toNat % 2
  ∃ r : BitVec 65536,
    (∀ row < 32, ∀ col < 64, natBits r.toNat (32 * (64 * row + col)) 32 =
      macElem f.ta.toNat f.tb.toNat f.imm6.toNat (sget 0 c.abuf buf).toNat (sget 0 c.ascale buf).toNat b (c.vr f.c).toNat
        (if zero then 0 else natBits (sget 0 c.acc f.acc.toNat).toNat (32 * (64 * row + col)) 32) row col) ∧
    Issues s i e (.t o f)
      { c with bstream := bs, acc := sset 0 c.acc f.acc.toNat r, arrayFree := c.cycle + tArray f.ta.toNat, arrayBuf := buf }
      [⟨c.cycle + 6, .acc f.acc, r⟩]

/-- The operand that a queued similarity instruction reads keeps the rules of its entry (R191 to R194, R201). -/
def QueueOperandOk (c : CoreSt) (o : QOp) (f : TF) : Prop :=
  let v := (c.sr f.s).toNat
  let a := v % 2 ^ 18
  let n := v / 2 ^ 32
  match o with
  | .qld => v % 64 = 0 ∧ v + 4096 ≤ 2 ^ 18
  | .cbind => v % 64 = 0 ∧ v + 0x80_0040 ≤ 96 * 2 ^ 20
  | .dseg => v / 2 ^ 18 % 2 ^ 14 = 0 ∧ a % 8 = 0 ∧ 1 ≤ n ∧ n < 2 ^ 16 ∧ a + 8 * n ≤ 2 ^ 18
  | .msim => v / 2 ^ 18 % 2 ^ 14 = 0 ∧ 1 ≤ n ∧ n < 2 ^ 16 ∧
      (if f.ta = 14 then a + 34 * n ≤ 2 ^ 18 else a % 16 = 0 ∧ a + 16 * n ≤ 2 ^ 18)
  | _ => True

/-- Instruction `x` is the head of the core's similarity queue, and the unit may execute it (R181, R190, R199, R201). -/
abbrev AtHead (s : State) (g : Nat) (x : SimEnt) (rest : List SimEnt) : Prop :=
  g < 12288 ∧ (s.core g).simQueue = x :: rest ∧ (s.core g).simStopped = false ∧ (s.core g).fenced = false ∧
    ((s.core g).done = false ∨ (x.op ≠ .cbind ∧ (x.op ≠ .msim ∨ x.f.ta ≠ 14))) ∧ ∀ q ∈ (s.core g).acopies, q.issued ∉ x.waits

/-- The unit has read every line that the instruction reads (R200): it lacks none. -/
abbrev Fetched (s : State) (g : Nat) (x : SimEnt) : Prop := (simRun s g x (s.core g)).miss = none

/-- Each of these lines of memory stands in `u` as the unit has read it (R200). -/
def Sees (u : State) (got : List SimLine) (lines : List Nat) : Prop :=
  ∀ a ∈ lines, ∃ q ∈ got, q.addr = a ∧ u.rd a 64 = q.val.toNat

/-- The edge of the stand's grid before the next one. -/
def StandSt.gridBefore (x : StandSt) : Nat := x.copy.start.toNat + x.grid * x.copy.beatLen - x.copy.beatLen

/-- Running maximum `t` of the query tile (R121). -/
def CoreSt.maxOf (c : CoreSt) (t : Nat) : Int := (BitVec.ofNat 32 (natBits c.maxima.toNat (32 * t) 32)).toInt

/-- The score of a document that closes now (R121). -/
def CoreSt.scoreNow (c : CoreSt) : Int :=
  ((List.range 32).map fun t => (natBits c.weights.toNat (8 * t) 8 : Int) * c.maxOf t).sum

/-- The similarity of query token `t` with the BIN1 code `x` (R120). -/
def bin1Similarity (query x t : Nat) : Int :=
  128 - 2 * (((List.range 128).filter fun d => (!natBit query (1024 * t + 8 * d + 7)) != natBit x d).length : Int)

/-- The similarity of query token `t` with the CRV2 record of 34 bytes `x` under a centroid row and residual table (R117, R119). -/
def crv2Similarity (query row rtab x t : Nat) : Int :=
  ((List.range 128).map fun d =>
    let r := natBits x (16 + 2 * d) 2
    let v := (BitVec.ofNat 8 (natBits row (8 * d) 8)).toInt + (BitVec.ofNat 8 (natBits rtab (8 * r) 8)).toInt
    (BitVec.ofNat 8 (natBits query (1024 * t + 8 * d) 8)).toInt * max (-128) (min 127 v)).sum

/-! ### Memory and fabric instructions -/

/-- `v` is stored in the `n` bytes from `a`, and no other byte of memory differs. -/
def Stores (m m' : List Host.Cell) (a n v : Nat) : Prop :=
  memRead m' a n = v % 256 ^ n ∧ ∀ x, x < a ∨ a + n ≤ x → memGet m' x = memGet m x

/-- The core has not signalled done (R164), no fence or flag wait holds it, a scoreboard entry and 16 network-interface slots are free
(R90, R91, R210), those whose turn it is (assumption 159), and for an instruction that uses it the row's crossing FIFO is not at high water
(R78). -/
abbrev MFree (s : State) (e : Iss) (o : MOp) (f : MF) : Prop :=
  (s.core e.g).done = false ∧ (s.core e.g).waiting = none ∧ (s.core e.g).sb.length < 16 ∧ (s.core e.g).ni.length ≤ 48 ∧
    (∀ n ∈ (s.core e.g).ni, (s.core e.g).niNext ≤ n.num + 48) ∧
    (usesPath (.m o f) = true → ((s.met e).region (rowRegion e.g)).outHigh = false)

/-- An M-slot instruction may issue now: its bundle is ready, its core free, and the addresses keep their rules (R203 to R205). -/
abbrev MReady (s : State) (e : Iss) (o : MOp) (f : MF) : Prop :=
  Ready s e (.m o f) ∧ MFree s e o f ∧ mFault s (s.standOf e.g) (s.core e.g) o f = false

/-- No block move of the core that is still in flight shares a byte with the `n` lines of tower SRAM from address `a` (R207). -/
abbrev CoreSt.Apart (c : CoreSt) (a n : Nat) : Prop :=
  ∀ m ∈ c.moves, m.host = true ∨ ∀ l < m.lines, m.far.toNat + 64 * l < a ∨ a + 64 * n ≤ m.far.toNat + 64 * l

/-- A tag that an instruction takes is not pending (R90, R208). -/
abbrev TagFree (c : CoreSt) (t : BitVec 3) : Prop := (sget ⟨false, 0⟩ c.tags t.toNat).pending = false

/-- The core with tag `t` pending for the move `m`. -/
def CoreSt.taking (c : CoreSt) (t : BitVec 3) (m : MoveSt) : CoreSt :=
  { c with tags := sset ⟨false, 0⟩ c.tags t.toNat ⟨true, (sget ⟨false, 0⟩ c.tags t.toNat).status⟩, moves := c.moves ++ [m] }

/-- The packet of a remote operation of core `g` to place `p` (R210, R322, R332): the next number of its flow, its opcode, flags
and width, the operation's data, and its beat. -/
def RemotePacket (s : State) (g : Nat) (o : MOp) (f : MF) (p : Place) (data : Nat) (x : Pkt) : Prop :=
  let c := s.core g
  let i := s.standOf g
  x.kind = 0 ∧ x.op.toNat = o.code ∧ x.stand = BitVec.ofNat 4 i ∧ x.dst = BitVec.ofNat 4 (placeTile p) ∧
    x.srcTile = BitVec.ofNat 4 (tileOf g) ∧ x.src = BitVec.ofNat 14 g ∧ x.seq = sget 0 c.seqs (placeTile p) ∧
    x.epoch = c.epoch ∧ x.age = 0 ∧ x.af = f.af ∧ x.dg = f.dg ∧ x.bo = f.bo ∧ x.width = f.w ∧
    x.comb = false ∧ x.beat = (s.stand i).beat.setWidth 6 ∧ x.addr = BitVec.ofNat 42 (pktAddr p) ∧
    x.payload = BitVec.ofNat 512 data

/-- A remote operation goes out (R210): its packet waits at the tile's injection and in a network-interface slot, its flow's
number counts, and a reply's register `d`, if any, takes a scoreboard entry. -/
def Sends (s : State) (i : Instr) (e : Iss) (o : MOp) (f : MF) (data : Nat) (d : Option Dest) : Prop :=
  let c := s.core e.g
  let st := s.standOf e.g
  MReady s e o f → s.inClearing st = false →
    ∃ p x n b last late, s.standPlace st (ea c f).toNat = some p ∧ RemotePacket s e.g o f p data x ∧
      n = (⟨x, (s.stand st).beat, d, s.gtc, false, false, false, c.pc, c.niNext⟩ : NiOp) ∧
      b = (match d with
        | some r => [⟨r, .remote x.dst x.seq, if x.isBo then some (s.stand st).beat else none⟩]
        | none => ([] : List SbEnt)) ∧
      (x.isBo = true → late.getLast? = some (x.dst, x.seq, (s.stand st).beat, c.pc)) ∧ (x.isBo = false → late = c.boFrom) ∧
      IssuesIn s (s.setTile (tileOf e.g) { s.tile (tileOf e.g) with inject := (s.tile (tileOf e.g)).inject ++ [⟨x, 0, false⟩] })
        i e (.m o f)
        { c with ni := c.ni ++ [n], niNext := c.niNext + 1, boFrom := late, sb := c.sb ++ b,
                 seqs := sset 0 c.seqs (placeTile p) (x.seq + 1), lastStore := last } []

/-! ### Host accesses, plans and runs -/

/-- A register whose write has no effect beyond its own fields: no power target, tile request, interrupt, host word, stored setting or
sampling arm (R13). -/
abbrev PlainReg (a : Nat) : Prop :=
  ¬(0xC00 ≤ a ∧ a < 0xE00 ∧ a % 0x20 = 0) ∧ a ≠ Reg.MGT_TILE_CTL ∧ intVectors a = [] ∧
    ¬(0x100_0000 ≤ a ∧ a < 0x200_0000 ∧ 0x100 ≤ a % 0x10_0000 ∧ a % 0x10_0000 < 0x180) ∧ a ≠ Reg.OPT_ILK_CTL ∧
    a ≠ Reg.CLK_REF_CTL ∧ a ≠ Reg.CLK_OBS_SEL ∧ isArm a = false

/-- A field after a write of `new` where it held `old` (R13, R14). -/
def fieldAfter (f : FieldSpec) (old new : Nat) : Nat :=
  match f.acc with
  | .ro | .wo => old
  | .rw => new
  | .w1c => old &&& ((2 ^ f.w - 1) ^^^ new)
  | .w1s | .rws => old ||| new

/-- Port `p` serves an access to the register at `off` (R396, R411). -/
abbrev Served (s : State) (p off : Nat) : Prop := p < 2 ∧ s.serves p off = true

/-- The stacks of stand `i` with no hard repair under way (R384). -/
def State.repairsUp (s : State) (i : Nat) : State :=
  (s.stacksOf i).foldl (fun x j => x.setHbm j { x.hbmS j with hardNow := none }) s

/-- A stand in its run, not stopped and not being handled. -/
abbrev RunsOn (s : State) (i : Nat) : Prop :=
  i < 16 ∧ s.stdState i = 2 ∧ (s.stand i).stopped = false ∧ (s.stand i).handling = none

/-! ### Packets and circuits -/

/-- Cell `p` is the first of its kind that has arrived for tile `t`, which is in service: in no warm start of its own (R470) and with its clock (R427, R430); `pre`
and `post` stand around it. -/
abbrev Arrived (s : State) (t : Nat) (p : Pkt) (pre post : List Pkt) : Prop :=
  t < 16 ∧ s.tileOut t = false ∧ (s.tile t).rx = pre ++ p :: post ∧ p.dst.toNat = t ∧ ∀ y ∈ pre, y.kind = p.kind → y.dst.toNat ≠ t

/-- Tile `t` has sent the reply `r`: to its own sites, or to injection (R323). -/
def Replied (s u : State) (t : Nat) (r : Pkt) : Prop :=
  if r.dst.toNat = t then (u.tile t).rx = (s.tile t).rx ++ [r]
  else (u.tile t).inject = (s.tile t).inject ++ [⟨r, 0, true⟩]

/-- Request `p`, alone in tile `t`'s ejection buffer, is new, ordered and in reach at address `a` (R329, R332, R334, R342), which no open
site's agent serves (R371); the tile
is in service (R427, R430, R470), and nothing on its die holds the request back (R78, R79). -/
def Serves (s : State) (t : Nat) (p : Pkt) (a : Nat) : Prop :=
  t < 16 ∧ s.tileOut t = false ∧ s.requestHeld t [] p = false ∧ (s.tile t).ejNormal = [p] ∧ (s.tile t).ejReserve = [] ∧
    s.ordered t p = true ∧ p.isBo = false ∧ p.dg = false ∧ s.known t p = .fresh ∧ s.poisoned a = false ∧
    ∃ pl, s.target t p = .ok pl ∧ placeAddr pl = some a ∧ s.agentAt pl = none

/-- From `s` to `u` only context `x` of tile `t` differs. -/
def CtxOnly (s u : State) (t x : Nat) : Prop :=
  u = { s with fab := u.fab } ∧ (∀ y, y ≠ t → u.fabT y = s.fabT y) ∧
    u.fabT t = { s.fabT t with ctxs := (u.fabT t).ctxs } ∧ ∀ y, y ≠ x → u.ctx t y = s.ctx t y

/-- Context `x` of tile `t` executes the instruction word `w` at its pc in a beat that is not a clearing's (R244, R282). -/
abbrev SeqRuns (s : State) (t x w : Nat) : Prop :=
  t < 16 ∧ x < 6 ∧ s.ctxRuns t x w = true ∧ s.inClearing (s.ctx t x).stand = false

/-- The instruction leaves the context `k`, its pc at `pc`, and nothing else differs. -/
def SeqDoes (s : State) (i : Instr) (t x : Nat) (k : CtxSt) (pc : Nat) : Prop :=
  ∃ u, exec i s = .next u ∧ CtxOnly s u t x ∧ u.ctx t x = k.goto pc

/-- The context with an act for the admitted edge (R272). -/
def CtxSt.will (k : CtxSt) (a : EdgeAct) : CtxSt := { k with acts := k.acts ++ [a] }

/-! ### Registers, the host and the surroundings -/

/-- The state with these register fields written, the first first; nothing else differs. -/
def State.writes (s : State) (l : List (Nat × Fld × Nat)) : State := l.foldl (fun y q => y.sf q.1 q.2.1 q.2.2) s

/-- Set or clear bit `b` of a register field. -/
def State.putBit (s : State) (a : Nat) (f : Fld) (b v : Nat) : State := s.sf a f (natPut (s.gf a f) b 1 v)

/-! ### Where a command completes -/

/-- The fields of a context instruction keep the rules of the program encoding (R280); those of every other command are free. -/
def Instr.programOk : Sys2Proof.Instr → Bool
  | .seqMcast _ _ _ _ on mask => on || mask == 0
  | .seqBind _ _ _ _ _ _ lines _ => lines != 0
  | .seqLoop _ _ _ count _ => count != 0
  | .seqSwap _ x _ _ _ | .seqPark _ x _ _ _ _ => x == 6
  | _ => true

/-- A command of a whole device: none of a core's bundle operations. -/
def Instr.whole (i : Sys2Proof.Instr) : Bool := i.slotOp.isNone && (match i with | .emptyBundle _ => false | _ => true)

end Sys2Proof.Machine
end

