-- ==== Sys2Proof/Certificates/Slice0/Obligations.lean ====
section
/-! DEFINITION. The statements for the provers: the rules of the spec as claims about the model. A statement about a core's
instruction takes a bundle of that one operation, at a core where nothing stands in its way. -/

open Sys2Proof Sys2Proof.Machine


/-- A step with a command at the front of the queue is that command's effect on the state with the queue's rest. Rests on
the model's assumption 1. -/
def Obligations.StepRunsFrontCommand : Prop :=
  ∀ (s : State) (i : Instr) (rest : List Instr), s.pending = i :: rest → step s = exec i { s with pending := rest }


/-- R124 to R133: the slot words of an operation and of a whole bundle are read back as they were encoded, with every
field at every value that R144 admits. Rests on the model's assumption 6. -/
def Obligations.BundleEncodingRoundTrip : Prop :=
  (∀ x : SOp, sDecode x.word = some x) ∧ (∀ o f, vDecode (vWord o f) = some (.v o f)) ∧
  (∀ o f, tDecode (tWord o.code f) = some (.t o f)) ∧ (∀ (o : QOp) (f : TF), tDecode (tWord o.code f) = some (.q o f)) ∧
  (∀ o f, mDecode (mWord o f) = some (.m o f)) ∧
  ∀ (ops : List SlotOp) (idle : BitVec 4), slotsRise ops = true → bundleBreach ops idle.toNat = none →
    decodeBundle (bundleWord ops idle) = .inr (ops, idle.toNat)


/-- R88, R124: the operations of one bundle read the registers as they stood when it issued, a scalar and a vector
operation here, and both results are written at their own latencies. Rests on the model's assumptions 6, 18, 19. -/
def Obligations.BundleReadsBeforeWrites : Prop :=
  ∀ (s : State) (e : Iss) (d a b : R5) (f : VF),
    let c := s.core e.g
    let x : SlotOp := .s (.alu .add d a b)
    let y : SlotOp := .v .vsplat f
    Ready (s.setCore e.g { c with staged := [] }) e y → c.staged = [x] →
    bundleBreach [x, y] e.idle.toNat = none → (∀ z ∈ c.sb, z.dest ∉ x.reads ++ x.dests) →
    ∃ t v, exec (.vsplat e f) s = .next t ∧ MaskedLanes c f (fun _ => (c.sr f.s).toNat % 2 ^ laneWidth f.ty.toNat) v ∧
      IssuedAs s t e (some (.alu .add d a b)) c (c.resS 1 d (c.sr a + c.sr b) ++ c.resV 3 f.d v)


/-- R125, R126, R139, R142, R143: an empty bundle takes its issue cycle and its idle cycles, and the bundle sequence goes
on: through the delay bundles of a taken branch, whose target pops the loops that do not hold it, around the innermost
loop while iterations remain, and to the next bundle otherwise. Rests on the model's assumptions 6, 18, 31. -/
def Obligations.BundleSequence : Prop :=
  ∀ (s : State) (e : Iss), let c := s.core e.g
    e.g < 12288 → e.det = .none → e.env.near = [] → s.clockStopped e.g = false → c.running = true → c.halted = false →
    s.inBwait e.g = false → c.pc < c.progLen → c.Ordered →
    ∃ t, exec (.emptyBundle e) s = .next t ∧ IssuedAs s t e none c [] ∧
      (match c.delay with
        | some (n, target) =>
          if 1 < n then (t.core e.g).pc = c.pc + 1 ∧ (t.core e.g).delay = some (n - 1, target) ∧ (t.core e.g).loops = c.loops
          else (t.core e.g).pc = target ∧ (t.core e.g).delay = none ∧
            (t.core e.g).loops = c.loops.filter fun l => decide (l.start ≤ target ∧ target ≤ l.last)
        | none => (t.core e.g).delay = none ∧
          match c.loops with
          | [] => (t.core e.g).pc = c.pc + 1 ∧ (t.core e.g).loops = []
          | l :: rest =>
            if l.last ≠ c.pc then (t.core e.g).pc = c.pc + 1 ∧ (t.core e.g).loops = l :: rest
            else if 1 < l.left then
              (t.core e.g).pc = l.start ∧ (t.core e.g).loops = { l with left := l.left - 1 } :: rest
            else (t.core e.g).pc = c.pc + 1 ∧ (t.core e.g).loops = rest)


/-- R139, R140, R159: a branch acts on the bundle sequence only. Taken, it leads to its target after two delay bundles;
jal writes the index of the bundle after them. R141, R142: a loop of at least one iteration is pushed, its body
following; a count of 0 skips the body, and where the loop instruction ends the innermost loop's body that loop counts
down; lcnt reads the iterations still to run after the current one. Rests on the
model's assumptions 6, 18, 31. -/
def Obligations.BranchesAndLoops : Prop :=
  (∀ (s : State) (e : Iss),
    let c := s.core e.g
    c.delay = none →
    let taken := fun (i : Instr) (x : SOp) (ws : List Pend) (target : Nat) =>
      Steers s i e x c ws (c.pc + 1) c.loops (some (2, target))
    let cond := fun (i : Instr) (k : Cond) (a b : R5) (t : BitVec 11) (p : Prop) => Ready s e (.s (.br k a b t)) →
      (p → taken i (.br k a b t) [] t.toNat) ∧
      (¬p → Steers s i e (.br k a b t) c [] (seqNext c.pc c.loops).1 (seqNext c.pc c.loops).2 none)
    (∀ t, Ready s e (.s (.jmp t)) → taken (.jmp e t) (.jmp t) [] t.toNat) ∧
    (∀ d t, Ready s e (.s (.jal d t)) →
      taken (.jal e d t) (.jal d t) (c.resS 1 d (BitVec.ofNat 64 (c.pc + 3))) t.toNat) ∧
    (∀ a, Ready s e (.s (.jr a)) → (c.sr a).toNat < c.progLen → (c.sr a).toNat < 2048 →
      taken (.jr e a) (.jr a) [] (c.sr a).toNat) ∧
    ∀ a b t,
      cond (.beq e a b t) .eq a b t (c.sr a = c.sr b) ∧
      cond (.bne e a b t) .ne a b t (c.sr a ≠ c.sr b) ∧
      cond (.blt e a b t) .lt a b t ((c.sr a).toInt < (c.sr b).toInt) ∧
      cond (.bge e a b t) .ge a b t ((c.sr b).toInt ≤ (c.sr a).toInt) ∧
      cond (.bltu e a b t) .ltu a b t ((c.sr a).toNat < (c.sr b).toNat) ∧
      cond (.bgeu e a b t) .geu a b t ((c.sr b).toNat ≤ (c.sr a).toNat)) ∧
  (∀ (s : State) (e : Iss),
    let c := s.core e.g
    c.delay = none →
    let opens := fun (i : Instr) (x : SOp) (n last : Nat) => Ready s e (.s x) →
      (n = 0 → Steers s i e x c [] (last + 1) (match c.loops with
        | [] => []
        | l :: rest => if l.last ≠ c.pc then l :: rest else if 1 < l.left then { l with left := l.left - 1 } :: rest else rest) none) ∧
      (1 ≤ n → c.loops.length < 4 → Steers s i e x c [] (c.pc + 1) (⟨c.pc + 1, last, n⟩ :: c.loops) none)
    (∀ a last, opens (.lp e a last) (.lp a last) ((c.sr a).toNat % 2 ^ 32) last.toNat) ∧
    (∀ n last, opens (.lpi e n last) (.lpi n last) n.toNat last.toNat) ∧
    (∀ d, GivesS s (.lcnt e d) e (.lcnt d) 1 d (match c.loops with
      | [] => 0
      | l :: _ => BitVec.ofNat 64 (l.left - 1))))


/-- R90: a bundle that touches a register of a scoreboard entry stalls for one cycle and does not issue: its operation
takes no effect, and the results due are written. R145, R146: a bundle that meets a condition of R145 does not issue:
jr past the program, a fifth loop, a program counter past the program. The core stops, and its stand takes the
stand-fatal error of that code with the core and the bundle index. Rests on the model's assumptions 6, 20, 21, 31. -/
def Obligations.StallsAndRunTimeErrors : Prop :=
  (∀ (s : State) (i : Instr) (e : Iss) (o : SlotOp), i.slotOp = some (e, o) → eccClean i = true →
    let c := s.core e.g
    e.g < 12288 → e.last = true → e.det = .none → e.env.near = [] → s.clockStopped e.g = false → c.running = true →
    c.halted = false → c.staged = [] → bundleBreach [o] e.idle.toNat = none → s.inBwait e.g = false → (∃ x ∈ c.sb, x.dest ∈ o.reads ++ o.dests) →
    earlyAccess s e.g [o] = false → c.Ordered →
    ∃ t, exec i s = .next t ∧ (t.core e.g).pc = c.pc ∧ (t.core e.g).cycle = c.cycle + 1 ∧ (t.core e.g).sb = c.sb ∧
      (t.core e.g).loops = c.loops ∧ (t.core e.g).sbStall = true ∧ t.mem = s.mem ∧ t.tiles = s.tiles ∧
      Delivers { c with cycle := c.cycle + 1 } (t.core e.g) []) ∧
  (∀ (s : State) (e : Iss),
    let c := s.core e.g
    let info := fun code => { ErrInfo.plain 0 code with
      tile := some (tileOf e.g), site := some (siteOf e.g), gcore := some e.g, index := some c.pc }
    let stops := fun (i : Instr) (code : Nat) => exec i s =
      .next (((s.met e).setCore e.g { (s.met e).core e.g with staged := [], halted := true }).standFatal (s.standOf e.g) (info code))
    (∀ a, Ready s e (.s (.jr a)) → c.progLen ≤ (c.sr a).toNat → stops (.jr e a) 0x0A) ∧
    (∀ a l, Ready s e (.s (.lp a l)) → 1 ≤ (c.sr a).toNat % 2 ^ 32 → 4 ≤ c.loops.length → stops (.lp e a l) 0x0B) ∧
    (∀ n l, Ready s e (.s (.lpi n l)) → 1 ≤ n.toNat → 4 ≤ c.loops.length → stops (.lpi e n l) 0x0B) ∧
    (e.g < 12288 → e.det = .none → e.env.near = [] → s.clockStopped e.g = false → c.running = true → c.halted = false →
      c.staged = [] → s.inBwait e.g = false → c.progLen ≤ c.pc → (c.led = false ∨ 2048 ≤ c.pc) → stops (.emptyBundle e) 0x09))


/-- R158: the register forms. A result goes to d at the latency of the table; a write to s0 is discarded. R158: the
leading zeros of sa, 0 to 64, and its ones. R158: the immediate forms. imm30 is sign-extended; a shift count is the
immediate itself, below 64. Rests on the model's assumptions 6, 18. -/
def Obligations.ScalarResults : Prop :=
  (∀ (s : State) (e : Iss) (d a b : R5),
    let x := (s.core e.g).sr a
    let y := (s.core e.g).sr b
    let gives := fun (i : Instr) (o : SAlu) (l : Nat) (v : Word) => GivesS s i e (.alu o d a b) l d v
    gives (.add e d a b) .add 1 (x + y) ∧
    gives (.sub e d a b) .sub 1 (x - y) ∧
    gives (.and e d a b) .and 1 (x &&& y) ∧
    gives (.or e d a b) .or 1 (x ||| y) ∧
    gives (.xor e d a b) .xor 1 (x ^^^ y) ∧
    gives (.shl e d a b) .shl 1 (x <<< (y.toNat % 64)) ∧
    gives (.shr e d a b) .shr 1 (x >>> (y.toNat % 64)) ∧
    gives (.sra e d a b) .sra 1 (BitVec.ofInt 64 (x.toInt / 2 ^ (y.toNat % 64))) ∧
    gives (.mul e d a b) .mul 3 (BitVec.ofNat 64 (x.toNat * y.toNat)) ∧
    gives (.mulh e d a b) .mulh 3 (BitVec.ofInt 64 (x.toInt * y.toInt / 2 ^ 64)) ∧
    gives (.mulhu e d a b) .mulhu 3 (BitVec.ofNat 64 (x.toNat * y.toNat / 2 ^ 64)) ∧
    gives (.slt e d a b) .slt 1 (if x.toInt < y.toInt then 1 else 0) ∧
    gives (.sltu e d a b) .sltu 1 (if x.toNat < y.toNat then 1 else 0) ∧
    gives (.seq e d a b) .seq 1 (if x = y then 1 else 0) ∧
    gives (.min e d a b) .min 1 (if x.toInt ≤ y.toInt then x else y) ∧
    gives (.max e d a b) .max 1 (if x.toInt ≤ y.toInt then y else x) ∧
    gives (.minu e d a b) .minu 1 (if x.toNat ≤ y.toNat then x else y) ∧
    gives (.maxu e d a b) .maxu 1 (if x.toNat ≤ y.toNat then y else x)) ∧
  (∀ (s : State) (e : Iss) (d a : R5),
    let x := (s.core e.g).sr a
    (∀ n, n ≤ 64 → (∀ k < n, x.getMsbD k = false) → (n < 64 → x.getMsbD n = true) →
      GivesS s (.clz e d a) e (.alu .clz d a 0) 1 d (BitVec.ofNat 64 n)) ∧
    GivesS s (.popc e d a) e (.alu .popc d a 0) 1 d
      (BitVec.ofNat 64 ((List.range 64).filter fun k => x.getLsbD k).length)) ∧
  (∀ (s : State) (e : Iss) (d a : R5),
    let x := (s.core e.g).sr a
    (∀ imm : BitVec 30,
      let y : Word := BitVec.ofInt 64 imm.toInt
      let gives := fun (i : Instr) (o : SAluI) (l : Nat) (v : Word) => GivesS s i e (.alui o d a imm) l d v
      gives (.addi e d a imm) .addi 1 (x + y) ∧
      gives (.andi e d a imm) .andi 1 (x &&& y) ∧
      gives (.ori e d a imm) .ori 1 (x ||| y) ∧
      gives (.xori e d a imm) .xori 1 (x ^^^ y) ∧
      gives (.shli e d a imm) .shli 1 (x <<< imm.toNat) ∧
      gives (.shri e d a imm) .shri 1 (x >>> imm.toNat) ∧
      gives (.srai e d a imm) .srai 1 (BitVec.ofInt 64 (x.toInt / 2 ^ imm.toNat)) ∧
      gives (.slti e d a imm) .slti 1 (if x.toInt < imm.toInt then 1 else 0) ∧
      gives (.sltui e d a imm) .sltui 1 (if x.toNat < y.toNat then 1 else 0) ∧
      gives (.muli e d a imm) .muli 3 (x * y)) ∧
    (∀ imm : BitVec 32,
      GivesS s (.sliw e d imm) e (.sliw d imm) 1 d (BitVec.ofInt 64 imm.toInt) ∧
      GivesS s (.slih e d imm) e (.slih d imm) 1 d
        (BitVec.ofNat 64 (imm.toNat * 2 ^ 32 + ((s.core e.g).sr d).toNat % 2 ^ 32))))


/-- R69, R82, R160, R161: the control-register, time and host-word reads, at latency 1. The time read is GTC, which on a
tile other than tile 0 may be one tick on or back (a free bit), never below an earlier read of that tile nor below the last edge of
its stand's grid, nor at or past a run's coming edge that no earlier read has passed, less the last admitted edge's where sel[0] is 1; two tiles read values that differ by at most 1. R160, R163, R165, R166: evt counts a program event and may request the interrupt; bdone signals done;
bwait signals done and waits for its target beat, or goes on where the target has been reached; end signals done and stops
the core, once its network interface holds nothing; each signals once its core has drained. Rests on the model's
assumptions 6, 7, 18, 32. -/
def Obligations.ControlReadsAndBeats : Prop :=
  (∀ (s : State) (e : Iss) (d : R5),
    let c := s.core e.g
    let x := s.stand (s.standOf e.g)
    let cr := fun (n : BitVec 8) (v : Word) => GivesS s (.rdcr e d n) e (.rdcr d n) 1 d v
    cr 0 (BitVec.ofNat 64 e.g) ∧ cr 1 (BitVec.ofNat 64 (s.standOf e.g)) ∧ cr 2 (BitVec.ofNat 64 (e.g / 128)) ∧
    cr 3 (BitVec.ofNat 64 (e.g / 16 % 8)) ∧ cr 4 (BitVec.ofNat 64 (e.g % 16)) ∧ cr 5 x.beat ∧
    cr 6 (BitVec.ofNat 64 x.copy.beatLen) ∧ cr 7 x.copy.param ∧ cr 8 (BitVec.ofNat 64 x.copy.bl.toNat) ∧
    (∀ n : BitVec 8, 9 ≤ n.toNat → cr n 0) ∧
    (∀ sel : BitVec 8, Ready s e (.s (.rdgtc d sel)) →
      let reads := fun (u : State) (now : Word) => IssuesIn s u (.rdgtc e d sel) e (.s (.rdgtc d sel)) c
        (c.resS 1 d (if sel.getLsbD 0 then now - x.lastEdge else now))
      (tileOf e.g = 0 → reads s s.gtc) ∧
      (tileOf e.g ≠ 0 → s.gtc.toNat < 2 ^ 64 - 1 → x.gridBefore ≤ s.gtc.toNat + 1 → (sget 0 s.tileGtc (tileOf e.g)).toNat ≤ s.gtc.toNat + 1 →
        ∃ (now : Word) (m : SMap Word), s.gtc.toNat ≤ now.toNat + 1 ∧ now.toNat ≤ s.gtc.toNat + 1 ∧ x.gridBefore ≤ now.toNat ∧
          (sget 0 s.tileGtc (tileOf e.g)).toNat ≤ now.toNat ∧
          (x.gridBefore ≤ s.gtc.toNat → ∀ i < 16, s.inRun i = true → s.gtc.toNat < (s.stand i).edgeAt →
            (sget 0 s.tileGtc (tileOf e.g)).toNat < (s.stand i).edgeAt → now.toNat < (s.stand i).edgeAt) ∧
          (∀ t < 16, sget 0 m t = if t = tileOf e.g then now else sget 0 s.tileGtc t) ∧
          reads { s with freeCtr := s.freeCtr + 1, tileGtc := m } now)) ∧
    (∀ sel : BitVec 8, GivesS s (.rdhw e d sel) e (.rdhw d sel) 1 d (sget 0 x.hostWords sel.toNat))) ∧
  (∀ (s : State) (g h : Nat), g < 12288 → h < 12288 → tileOf g ≠ tileOf h → s.gtc.toNat < 2 ^ 64 - 1 →
    (∀ k ∈ [g, h], (s.stand (s.standOf k)).gridBefore ≤ s.gtc.toNat ∧ (sget 0 s.tileGtc (tileOf k)).toNat ≤ s.gtc.toNat) →
    let p := s.tileTime g
    let q := p.2.tileTime h
    p.1.toNat ≤ q.1.toNat + 1 ∧ q.1.toNat ≤ p.1.toNat + 1) ∧
  (∀ (s : State) (e : Iss),
    let c := s.core e.g
    let beat := (s.stand (s.standOf e.g)).beat
    (∀ sel : BitVec 8, Ready s e (.s (.evt sel)) → ∃ t, exec (.evt e sel) s = .next t ∧
      IssuedAs s t e (some (.evt sel)) { c with evtReq := c.evtReq || sel.getLsbD 0 } [] ∧
      (c.fenced = false → t.ctr (s.coreCtr e.g 35) = s.ctr (s.coreCtr e.g 35) + 1)) ∧
    (Ready s e (.s .bdone) → Drained s e → Issues s (.bdone e) e (.s .bdone) { c with done := true } []) ∧
    (Ready s e (.s .stop) → Drained s e → c.ni = [] →
      Issues s (.coreEnd e) e (.s .stop) { c with done := true, ended := true, running := false } []) ∧
    ∀ a, Ready s e (.s (.bwait a)) →
      let target := if c.sr a = 0 then beat + 1 else c.sr a
      (target.toNat ≤ beat.toNat → Issues s (.bwait e a) e (.s (.bwait a)) c []) ∧
      (beat.toNat < target.toNat → Drained s e →
        Issues s (.bwait e a) e (.s (.bwait a)) { c with done := true, bwait := some target } []))


/-- R168, R102: the element-wise integer forms, wrapped or saturated. Rests on the model's assumptions 6, 18, 19. -/
def Obligations.VectorIntegerLanes : Prop :=
  ∀ (s : State) (e : Iss) (f : VF), isInt f.ty = true →
    let c := s.core e.g
    let w := laneWidth f.ty.toNat
    let x := c.int f f.a
    let y := c.int f f.b
    let n := fun k => lane w (c.vr f.b) k % w
    let gives := fun (i : Instr) (o : VOp) (l : Nat) (g : Nat → Nat) => GivesV s i e o f l (MaskedLanes c f g)
    gives (.vadd e f) .vadd 2 (fun k => vIntRes f (x k + y k)) ∧
    gives (.vsub e f) .vsub 2 (fun k => vIntRes f (x k - y k)) ∧
    gives (.vmul e f) .vmul 4 (fun k => vIntRes f (x k * y k)) ∧
    gives (.vmin e f) .vmin 2 (fun k => vIntRes f (min (x k) (y k))) ∧
    gives (.vmax e f) .vmax 2 (fun k => vIntRes f (max (x k) (y k))) ∧
    gives (.vabs e f) .vabs 2 (fun k => vIntRes f |x k|) ∧
    gives (.vneg e f) .vneg 2 (fun k => vIntRes f (-x k)) ∧
    gives (.vshl e f) .vshl 2 (fun k => vIntRes f (x k * 2 ^ n k)) ∧
    gives (.vshr e f) .vshr 2 (fun k => lane w (c.vr f.a) k / 2 ^ n k) ∧
    gives (.vsra e f) .vsra 2 (fun k => vIntRes f (x k / 2 ^ n k))


/-- R105 to R107, R168, R169, R174: the element-wise floating forms. Each result is the exact one rounded once to the
lane's format; NaN, infinities and flushing follow the arithmetic of the formats. R174: special values of the special
functions, in both formats: reciprocals of zero and infinity, the reciprocal root of zero, infinity and negative
numbers, tanh at 9 and beyond, exp and GELU at infinities, and the canonical NaN of a NaN. Rests on the model's
assumptions 6, 18, 19, 26, 27. -/
def Obligations.VectorFloatLanes : Prop :=
  (∀ (s : State) (e : Iss) (f : VF), isFlt f.ty = true →
    let c := s.core e.g
    let fm := laneFmt f.ty.toNat
    let x := c.flt f f.a
    let y := c.flt f f.b
    let z := c.flt f f.c
    let gives := fun (i : Instr) (o : VOp) (l : Nat) (g : Nat → Nat) => GivesV s i e o f l (MaskedLanes c f g)
    gives (.vadd e f) .vadd 4 (fun k => vFltRes f (fadd (x k) (y k))) ∧
    gives (.vsub e f) .vsub 4 (fun k => vFltRes f (fadd (x k) (fneg (y k)))) ∧
    gives (.vmul e f) .vmul 4 (fun k => vFltRes f (fmul (x k) (y k))) ∧
    gives (.vfma e f) .vfma 4 (fun k => vFltRes f (fadd (fmul (x k) (y k)) (z k))) ∧
    gives (.vmin e f) .vmin 2 (fun k => vFltRes f (fmin (x k) (y k))) ∧
    gives (.vmax e f) .vmax 2 (fun k => vFltRes f (fmax (x k) (y k))) ∧
    gives (.vabs e f) .vabs 2 (fun k => vFltRes f (match x k with
      | .fin _ m q => .fin false m q
      | .inf _ => .inf false
      | .nan => .nan)) ∧
    gives (.vneg e f) .vneg 2 (fun k => vFltRes f (fneg (x k))) ∧
    gives (.vexp e f) .vexp 8 (fun k => sfExp fm (x k)) ∧
    gives (.vrcp e f) .vrcp 8 (fun k => sfRcp fm (x k)) ∧
    gives (.vrsqrt e f) .vrsqrt 8 (fun k => sfRsqrt fm (x k)) ∧
    gives (.vtanh e f) .vtanh 8 (fun k => sfTanh fm (x k)) ∧
    gives (.vgelu e f) .vgelu 8 (fun k => sfGelu fm (x k))) ∧
  (∀ f : Fmt, f = fmtF32 ∨ f = fmtBf16 →
    (sfExp f .nan = fnan f ∧ sfRcp f .nan = fnan f ∧ sfRsqrt f .nan = fnan f ∧ sfTanh f .nan = fnan f ∧ sfGelu f .nan = fnan f) ∧
    (sfExp f (.inf true) = 0 ∧ sfExp f (.inf false) = finf f false ∧
      ∀ m q : Nat, (89 ≤ m * 2 ^ q → sfExp f (.fin false m q) = finf f false) ∧
        (88 ≤ m * 2 ^ q → sfExp f (.fin true m q) = 0)) ∧
    (∀ n q, sfRcp f (.fin n 0 q) = finf f n ∧ sfRcp f (.inf n) = boolNat n * 2 ^ f.signPos) ∧
    (∀ n q, sfRsqrt f (.fin n 0 q) = finf f false ∧ sfRsqrt f (.inf false) = 0 ∧
      ∀ m, m ≠ 0 → sfRsqrt f (.fin true m q) = fnan f) ∧
    (∀ n m, 9 ≤ m → ∀ q : Nat, sfTanh f (.fin n m q) = boolNat n * 2 ^ f.signPos + (f.bias * 2 ^ f.mb)) ∧
    (sfGelu f (.inf true) = 2 ^ f.signPos ∧ sfGelu f (.inf false) = finf f false))


/-- R168, R169: the bitwise forms act on the lanes' bits, and vsel takes each lane by its predicate bit. R170: a compare
writes its predicate: every bit of a lane takes the lane's result, and the bits of a masked-off lane are kept or
cleared by the zero bit. R171: the predicate operations, bit by bit. Rests on the model's assumptions 6, 18, 19, 132. -/
def Obligations.VectorBitsComparesPredicates : Prop :=
  (∀ (s : State) (e : Iss) (f : VF),
    let c := s.core e.g
    let w := laneWidth f.ty.toNat
    let a := c.vr f.a
    let b := c.vr f.b
    GivesV s (.vand e f) e .vand f 2 (MaskedLanes c f fun k => lane w (a &&& b) k) ∧
    GivesV s (.vor e f) e .vor f 2 (MaskedLanes c f fun k => lane w (a ||| b) k) ∧
    GivesV s (.vxor e f) e .vxor f 2 (MaskedLanes c f fun k => lane w (a ^^^ b) k) ∧
    GivesV s (.vsel e f) e .vsel f 2 (fun v => ∀ k, k < 512 / w →
      lane w v k = if (c.kr (f.mask.setWidth 3)).getLsbD (w / 8 * k) then lane w a k else lane w b k)) ∧
  (∀ (s : State) (e : Iss) (f : VF),
    let c := s.core e.g
    let w := laneWidth f.ty.toNat
    let gives := fun (i : Instr) (o : VOp) (p : Nat → Bool) => Ready s e (.v o f) → ∃ r : Word,
      (∀ k, k < 512 / w → ∀ j, j < w / 8 → r.getLsbD (w / 8 * k + j) =
        if admits c f.mask w k then p k else if f.z then false else (c.kr (f.d.setWidth 3)).getLsbD (w / 8 * k + j)) ∧
      Issues s i e (.v o f) c (c.resK 2 (f.d.setWidth 3) r)
    let x := c.int f f.a
    let y := c.int f f.b
    let u := c.flt f f.a
    let v := c.flt f f.b
    (isInt f.ty = true →
      gives (.vcmpeq e f) .vcmpeq (fun k => decide (x k = y k)) ∧ gives (.vcmpne e f) .vcmpne (fun k => decide (x k ≠ y k)) ∧
      gives (.vcmplt e f) .vcmplt (fun k => decide (x k < y k)) ∧ gives (.vcmple e f) .vcmple (fun k => decide (x k ≤ y k))) ∧
    (isFlt f.ty = true →
      gives (.vcmpeq e f) .vcmpeq (fun k => feq (u k) (v k)) ∧ gives (.vcmpne e f) .vcmpne (fun k => !feq (u k) (v k)) ∧
      gives (.vcmplt e f) .vcmplt (fun k => flt (u k) (v k)) ∧
      gives (.vcmple e f) .vcmple (fun k => flt (u k) (v k) || feq (u k) (v k)))) ∧
  (∀ (s : State) (e : Iss) (f : VF),
    let c := s.core e.g
    let x := c.kr (f.a.setWidth 3)
    let y := c.kr (f.b.setWidth 3)
    let gives := fun (i : Instr) (o : VOp) (r : Word) => Ready s e (.v o f) →
      Issues s i e (.v o f) c (c.resK 2 (f.d.setWidth 3) r)
    gives (.kand e f) .kand (x &&& y) ∧ gives (.kor e f) .kor (x ||| y) ∧ gives (.kxor e f) .kxor (x ^^^ y) ∧
    gives (.knot e f) .knot (~~~x))


/-- R172, R179: the lane movements; every index is reduced modulo its range, and vext ignores the mask. R111, R112, R177,
R178: conversions. A narrowing vcvt writes its group of lanes and keeps the others; a widening one reads its group;
integers wrap up exactly and saturate down; vpackmx writes the packed half of vd and the scale byte. Rests on the
model's assumptions 6, 18, 19. -/
def Obligations.LaneMovementAndConversions : Prop :=
  (∀ (s : State) (e : Iss) (f : VF),
    let c := s.core e.g
    let w := laneWidth f.ty.toNat
    let n := 512 / w
    let a := fun k => lane w (c.vr f.a) k
    let b := fun k => lane w (c.vr f.b) k
    let j := f.imm6.toNat
    let gives := fun (i : Instr) (o : VOp) (l : Nat) (g : Nat → Nat) => GivesV s i e o f l (MaskedLanes c f g)
    gives (.vbcast e f) .vbcast 3 (fun _ => a (j % n)) ∧
    gives (.vperm e f) .vperm 3 (fun k => a (b k % n)) ∧
    gives (.vshuf e f) .vshuf 3 (fun k =>
      let q := lane w (c.vr f.c) k % (2 * n)
      if q < n then a q else b (q - n)) ∧
    gives (.vrot e f) .vrot 3 (fun k => a ((k + (c.sr f.s).toNat + j) % n)) ∧
    gives (.vins e f) .vins 3 (fun k => if k = j % n then (c.sr f.s).toNat % 2 ^ w else lane w (c.vr f.d) k) ∧
    gives (.vmov e f) .vmov 2 a ∧
    gives (.vsplat e f) .vsplat 3 (fun _ => (c.sr f.s).toNat % 2 ^ w) ∧
    (Ready s e (.v .vext f) → Issues s (.vext e f) e (.v .vext f) c (c.resS 3 f.d
      (if isInt f.ty then BitVec.ofInt 64 (c.int f f.a (j % n)) else BitVec.ofNat 64 (a (j % n)))))) ∧
  (∀ (s : State) (e : Iss) (f : VF),
    let c := s.core e.g
    let src := f.imm8.toNat
    let dst := f.ty.toNat
    let ws := laneWidth src
    let wd := laneWidth dst
    let ns := 512 / ws
    let nd := 512 / wd
    let p := f.imm6.toNat
    let write := fun (k x : Nat) => if admits c f.mask wd k then cvtLane src dst x else if f.z then 0 else lane wd (c.vr f.d) k
    GivesV s (.vcvt e f) e .vcvt f 3 (fun v => ∀ k, k < nd → lane wd v k =
      if ns < nd then
        (if p * ns ≤ k ∧ k < p * ns + ns then write k (lane ws (c.vr f.a) (k - p * ns)) else lane wd (c.vr f.d) k)
      else if nd < ns then write k (lane ws (c.vr f.a) (p * nd + k))
      else write k (lane ws (c.vr f.a) k)) ∧
    (∀ x, 1 ≤ src → src ≤ 3 → 1 ≤ dst → dst ≤ 3 → cvtLane src dst x =
      let v := (BitVec.ofNat ws x).toInt
      (BitVec.ofInt wd (max (-2 ^ (wd - 1)) (min (2 ^ (wd - 1) - 1) v))).toNat) ∧
    (Ready s e (.v .vpackmx f) →
      let xs := (List.range 32).map fun k => fdec fmtF32 (if k < 16 then lane 32 (c.vr f.a) k else lane 32 (c.vr f.b) (k - 16))
      let n := 32 * tyWidth dst
      Issues s (.vpackmx e f) e (.v .vpackmx f) c
        (c.resV 3 f.d (BitVec.ofNat 512 (natPut (c.vr f.d).toNat (256 * p) n (mxPack dst xs).1)) ++
          c.resS 3 f.s (BitVec.ofNat 64 (mxPack dst xs).2))))


/-- R116, R173: the horizontal reductions. The result stands in lane 0 with every other bit zero: the wrapped sum, the
largest or the smallest admitted lane, and the empty reduction's value; a floating sum follows the fixed tree. R175,
R176: the statistics accumulator. vstat adds each lane of a group, one of fp32 or two of bf16 in order, and its
square, each rounded once; vstrd reads the sums or the sums of squares; vstclr clears both. Rests on the model's
assumptions 6, 18. -/
def Obligations.ReductionsAndStatistics : Prop :=
  (∀ (s : State) (e : Iss) (f : VF),
    let c := s.core e.g
    let w := laneWidth f.ty.toNat
    let admitted := (List.range (512 / w)).filter fun k => admits c f.mask w k
    let x := c.int f f.a
    (isInt f.ty = true →
      GivesV s (.vrsum e f) e .vrsum f 5 (fun v => v.toNat = (BitVec.ofInt 32 ((admitted.map x).sum)).toNat) ∧
      GivesV s (.vrmax e f) e .vrmax f 5 (fun v => ∃ m : Int, v.toNat = (BitVec.ofInt w m).toNat ∧
        (∀ k ∈ admitted, x k ≤ m) ∧ (admitted = [] → m = -2 ^ (w - 1)) ∧ (admitted ≠ [] → ∃ k ∈ admitted, m = x k)) ∧
      GivesV s (.vrmin e f) e .vrmin f 5 (fun v => ∃ m : Int, v.toNat = (BitVec.ofInt w m).toNat ∧
        (∀ k ∈ admitted, m ≤ x k) ∧ (admitted = [] → m = 2 ^ (w - 1) - 1) ∧ (admitted ≠ [] → ∃ k ∈ admitted, m = x k))) ∧
    (isFlt f.ty = true →
      GivesV s (.vrsum e f) e .vrsum f 5 (fun v => v.toNat < 2 ^ 32 ∧ (admitted = [] → v = 0) ∧
        (∀ k, admitted = [k] → v.toNat = widenF32 f.ty.toNat (lane w (c.vr f.a) k)) ∧
        v.toNat = (treeRoot (Nat.log2 (512 / w)) ((List.range (512 / w)).map fun k =>
          if admits c f.mask w k then some (widenF32 f.ty.toNat (lane w (c.vr f.a) k)) else none)).getD 0) ∧
      GivesV s (.vrmax e f) e .vrmax f 5 (fun v => (admitted = [] → v.toNat = finf (laneFmt f.ty.toNat) true) ∧
        ∀ y ys, admitted.map (c.flt f f.a) = y :: ys → v.toNat = fenc (laneFmt f.ty.toNat) (ys.foldl fmax y)) ∧
      GivesV s (.vrmin e f) e .vrmin f 5 (fun v => (admitted = [] → v.toNat = finf (laneFmt f.ty.toNat) false) ∧
        ∀ y ys, admitted.map (c.flt f f.a) = y :: ys → v.toNat = fenc (laneFmt f.ty.toNat) (ys.foldl fmin y)))) ∧
  (∀ (s : State) (e : Iss) (f : VF),
    let c := s.core e.g
    let w := laneWidth f.ty.toNat
    let step := fun (p : Nat × Nat) (k : Nat) =>
      let x := fdec fmtF32 (widenF32 f.ty.toNat (lane w (c.vr f.a) k))
      if admits c f.mask w k then
        (fenc fmtF32 (fadd (fdec fmtF32 p.1) x), fenc fmtF32 (fadd (fdec fmtF32 p.2) (fmul x x)))
      else p
    (Ready s e (.v .vstat f) → ∃ p q : Vec,
      (∀ g, g < 16 →
        let old := (lane 32 c.statSum g, lane 32 c.statSq g)
        (f.ty = 7 → (lane 32 p g, lane 32 q g) = step old g) ∧
        (f.ty = 6 → (lane 32 p g, lane 32 q g) = step (step old (2 * g)) (2 * g + 1))) ∧
      Issues s (.vstat e f) e (.v .vstat f) { c with statSum := p, statSq := q } []) ∧
    GivesV s (.vstrd e f) e .vstrd f 2 (fun v => v = if f.imm6 = 0 then c.statSum else c.statSq) ∧
    (Ready s e (.v .vstclr f) → Issues s (.vstclr e f) e (.v .vstclr f) { c with statSum := 0, statSq := 0 } []))


/-- R181: tlda and tldsc begin a copy of 2,048 and of 128 bytes into the buffer that imm5[0] names, and tldb, R182, appends imm6 + 1
chunks of 128 bytes to the B stream once every earlier chunk is in the stream buffer. R84, R85, R183: the units' memory
accesses follow the bundle's, in its cycles; one reads a line of a copy, after the earlier copies into its buffer and in no cycle in which the
array reads it (R187), or the next line of the stream while the stream buffer has room; the stream port serves the reader whose turn it is,
and an access whose bank the M-slot port takes waits. Rests on the model's assumptions 6, 22, 119. -/
def Obligations.BufferCopiesAndStreams : Prop :=
  (∀ (s : State) (e : Iss) (f : TF),
    let c := s.core e.g
    let a := (c.sr f.s).toNat
    let buf : BitVec 1 := f.imm5.setWidth 1
    (Ready s e (.t .tlda f) → a % 64 = 0 → a + 2048 ≤ 2 ^ 18 →
      Issues s (.tlda e f) e (.t .tlda f) { c with acopies := (c.acopies.map fun q => { q with later := q.later || q.buf == buf }) ++ [⟨buf, false, a, List.range 32, c.cycle, false⟩] } []) ∧
    (Ready s e (.t .tldsc f) → a % 64 = 0 → a + 128 ≤ 2 ^ 18 →
      Issues s (.tldsc e f) e (.t .tldsc f) { c with acopies := (c.acopies.map fun q => { q with later := q.later || q.buf == buf }) ++ [⟨buf, true, a, List.range 2, c.cycle, false⟩] } []) ∧
    (Ready s e (.t .tldb f) → a % 64 = 0 → a + 128 * (f.imm6.toNat + 1) ≤ 2 ^ 18 → (∀ x ∈ c.bstream, x.ready = true) →
      Issues s (.tldb e f) e (.t .tldb f)
        { c with bstream := c.bstream ++ (List.range (f.imm6.toNat + 1)).map fun k => ⟨a + 128 * k, none, none⟩ } [])) ∧
  (∀ (s : State) (e : Iss), let c := s.core e.g
    e.g < 12288 → e.det = .none → s.clockStopped e.g = false → c.running = true → c.halted = false → c.staged = [] →
    s.inBwait e.g = false → c.pc < c.progLen →
    ∃ t, exec (.emptyBundle { e with env := { e.env with near := [] } }) s = .next t ∧
      exec (.emptyBundle e) s = .next (nearAll t e.g c.cycle (1 + e.idle.toNat) none e.env.near)) ∧
  (∀ (s : State) (g now : Nat), let c := s.core g
    (∀ pre q post l, c.acopies = pre ++ q :: post → l ∈ q.late → l < (if q.scale then 2 else 32) →
      (∀ x ∈ pre, x.buf = q.buf → x.scale ≠ q.scale) → (c.arrayFree ≤ now ∨ c.arrayBuf ≠ q.buf.toNat) →
      let t := nearDo s g now (.copy pre.length l)
      let late := q.late.filter fun x => decide (x ≠ l)
      let bits := fun (k : CoreSt) => if q.scale then (sget 0 k.ascale q.buf.toNat).toNat else (sget 0 k.abuf q.buf.toNat).toNat
      OnlyCore s t g ∧ (t.core g).acopies = pre ++ (if late = [] then [] else [{ q with late := late }]) ++ post ∧
        natBits (bits (t.core g)) (512 * l) 512 = s.rd (dmAddr g (q.src + 64 * l)) 64 ∧
        ∀ k < 32, k ≠ l → natBits (bits (t.core g)) (512 * k) 512 = natBits (bits c) (512 * k) 512) ∧
    (∀ pre x post, c.bstream = pre ++ x :: post → (∀ y ∈ pre, y.ready = true) →
      (c.bstream.map fun y => boolNat y.lo.isSome + boolNat y.hi.isSome).sum < 4 →
      let with' := fun (y : BChunk) => nearDo s g now .stream = s.setCore g { c with bstream := pre ++ y :: post }
      (x.lo = none → with' { x with lo := some (BitVec.ofNat 512 (s.rd (dmAddr g x.addr) 64)) }) ∧
      (x.lo ≠ none → x.hi = none → with' { x with hi := some (BitVec.ofNat 512 (s.rd (dmAddr g (x.addr + 64)) 64)) })) ∧
    (∀ x, nearPort c x = 1 → portFinds s g now x = true → portTurn s g now (portReader c x) = true →
      let t := nearDo s g now x
      nearAll s g now 1 none [x] = t.setCore g { t.core g with turn := (portReader c x + 1) % 5 } ∧
      ∀ b, nearBank c x = some b → nearAll s g now 1 (some b) [x] = s))


/-- R181, R184, R186, R187: tmac and tmacz update every element of the accumulator, with B from two registers or from the
next chunk of the stream once it is in the stream buffer, with no copy pending on their buffer; the array is occupied, and
readers see the result after 6 cycles. R113, R115, R184 to R186: one element of a tmac. Integer groups add the exact sum of
products modulo 2^32; the bf16 group adds the exact product and rounds once. Rests on the model's assumptions 6, 18, 33. -/
def Obligations.TensorMultiply : Prop :=
  (∀ (s : State) (e : Iss) (f : TF),
    let c := s.core e.g
    let b := (c.vr f.a).toNat + (c.vr f.b).toNat * 2 ^ 512
    let does := fun (i : Instr) (o : TOp) (zero : Bool) => Ready s e (.t o f) → c.arrayFree ≤ c.cycle →
      (∀ x ∈ c.simQueue, x.op ≠ .msim) → (∀ q ∈ c.acopies, q.buf.toNat ≠ f.imm5.toNat % 2) →
      (f.imm5.getLsbD 1 = false → MacDoes s i e o f zero b c.bstream) ∧
      (f.imm5.getLsbD 1 = true → ∀ a lo hi bs, c.bstream = ⟨a, some lo, some hi⟩ :: bs →
        MacDoes s i e o f zero (lo.toNat + hi.toNat * 2 ^ 512) bs)
    does (.tmac e f) .tmac false ∧ does (.tmacz e f) .tmacz true) ∧
  (∀ (k x y b csc old row col : Nat), row < 32 → col < 64 →
    let a := fun (w j : Nat) => natBits x (512 * row + w * j) w
    let int := fun (w v : Nat) => (BitVec.ofNat w v).toInt
    BitVec.ofNat 32 (macElem 1 1 k x y b csc old row col) = BitVec.ofNat 32 old + BitVec.ofInt 32
      (int 8 (a 8 (2 * k)) * int 8 (natBits b (8 * col) 8) + int 8 (a 8 (2 * k + 1)) * int 8 (natBits b (512 + 8 * col) 8)) ∧
    BitVec.ofNat 32 (macElem 0 0 k x y b csc old row col) = BitVec.ofNat 32 old + BitVec.ofInt 32
      (((List.range 4).map fun r => int 4 (a 4 (4 * k + r)) * int 4 (natBits b (256 * r + 4 * col) 4)).sum) ∧
    macElem 6 6 k x y b csc old row col = fenc fmtF32 (fadd (fdec fmtF32 old)
      (fmul (fdec fmtBf16 (a 16 k)) (fdec fmtBf16 (natBits b (16 * col) 16)))))


/-- R103, R188, R189: tmov converts part of an accumulator row, with latency 4; tclr clears one accumulator or all eight,
at once for the array and after 2 cycles for other readers. Rests on the model's assumptions 6, 18, 33. -/
def Obligations.AccumulatorMoves : Prop :=
  ∀ (s : State) (e : Iss) (f : TF),
    let c := s.core e.g
    let w := laneWidth f.tb.toNat
    let n := 512 / w
    let x := fun k => natBits (sget 0 c.accVis f.acc.toNat).toNat (32 * (64 * f.imm5.toNat + n * f.imm6.toNat + k)) 32
    let ss := c.sr f.s
    (Ready s e (.t .tmov f) → ∃ v : Vec,
      (∀ k, k < n →
        (f.ta = 3 → lane w v k = (BitVec.ofInt w (max (-2 ^ (w - 1)) (min (2 ^ (w - 1) - 1)
          (rsh (BitVec.ofNat 32 (x k)).toInt (ss.toNat % 32))))).toNat) ∧
        (f.ta = 7 → lane w v k = tmovElem 7 f.tb.toNat (x k) ss.toNat)) ∧
      Issues s (.tmov e f) e (.t .tmov f) c (c.resV 4 f.a v)) ∧
    (Ready s e (.t .tclr f) →
      let named := fun r : BitVec 3 => f.imm5.getLsbD 0 = true ∨ r = f.acc
      ∃ (m : SMap (BitVec 65536)) (ps ws : List Pend),
        (∀ r : BitVec 3, sget 0 m r.toNat = if f.imm5.getLsbD 0 = true ∨ r = f.acc then 0 else sget 0 c.acc r.toNat) ∧
        (∀ p, p ∈ ps ↔ p ∈ c.pend ∧ ¬∃ r, named r ∧ p.dest = .acc r ∧ c.cycle + 2 < p.due) ∧
        (∀ p, p ∈ ws ↔ ∃ r, named r ∧ p = ⟨c.cycle + 2, .acc r, 0⟩) ∧
        Issues s (.tclr e f) e (.t .tclr f) { c with acc := m, pend := ps } ws)


/-- R180, R190, R201: a similarity instruction enters the queue with its operands as they stand, where the queue has room
and the operand keeps its rules; tkrd takes a scoreboard entry for its register. R191, R192, R196: the unit loads the
query tile, the weights, one half of the maxima and the centroid table's binding, sets capacities and the current
list, and empties lists. Each leaves the queue, and nothing else changes; what it reads is what the unit has read for it, and it waits
for a line that the unit has not (R183, R200). R381: a trailer that was poisoned when it was read reads zero, and the stand takes error
0x14. Rests on the model's assumptions 6, 23, 34. -/
def Obligations.SimilarityQueueAndLoads : Prop :=
  (∀ (s : State) (e : Iss) (o : QOp) (f : TF),
    let c := s.core e.g
    Ready s e (.q o f) → c.simQueue.length < 8 → c.waiting = none → c.sb.length < 16 → QueueOperandOk c o f →
    Issues s (.similarityQueueEntry e o f) e (.q o f)
      { c with simQueue := c.simQueue ++ [⟨o, f, c.vr f.a, c.sr f.s, c.pc, [], if o = .tkrd then (c.acopies.filter fun q => q.later).map ACopy.issued else []⟩],
               sb := if o = .tkrd then c.sb ++ [⟨.v f.a, .topk, none⟩] else c.sb } []) ∧
  (∀ (s : State) (g : Nat) (x : SimEnt) (rest : List SimEnt), AtHead s g x rest →
    let c := s.core g
    let table := tsAddr (towerOf g) (x.ss.toNat + 0x80_0000)
    let trailer := x.got.find? fun q => q.addr == table
    let leaves := fun (i : Instr) (d : CoreSt) => exec i s = .next (s.setCore g { d with simQueue := rest })
    let k := x.f.imm5.toNat
    (∀ q ∈ [(QOp.qld, Instr.qld ⟨g, .clean⟩), (.cbind, .cbind ⟨g, .clean⟩), (.msim, .msim ⟨g, .clean⟩), (.dseg, .dseg ⟨g, .clean⟩),
      (.dclose, .dclose ⟨g, .clean⟩)], x.op = q.1 → ¬Fetched s g x → exec q.2 s = .next s) ∧
    (x.op = .qld → Fetched s g x → x.ss.toNat % 64 = 0 → x.ss.toNat + 4096 ≤ 2 ^ 18 → ∃ (v : BitVec 32768) (m : BitVec 1024),
      (∀ l < 64, ∃ q ∈ x.got, q.addr = dmAddr g (x.ss.toNat + 64 * l) ∧ natBits v.toNat (512 * l) 512 = q.val.toNat) ∧
      (∀ t < 32, natBits m.toNat (32 * t) 32 = 0x8000_0000) ∧ leaves (.qld ⟨g, .clean⟩) { c with query := v, maxima := m }) ∧
    (x.op = .qwt →
      (k = 0 → leaves (.qwt ⟨g, .clean⟩) { c with weights := x.va.setWidth 256 }) ∧
      (k = 1 → ∃ m : BitVec 1024, (∀ b < 1024, m.getLsbD b = if b < 512 then x.va.getLsbD b else c.maxima.getLsbD b) ∧
        leaves (.qwt ⟨g, .clean⟩) { c with maxima := m }) ∧
      (k = 2 → ∃ m : BitVec 1024, (∀ b < 1024, m.getLsbD b = if b < 512 then c.maxima.getLsbD b else x.va.getLsbD (b - 512)) ∧
        leaves (.qwt ⟨g, .clean⟩) { c with maxima := m })) ∧
    (x.op = .cbind → ∀ q, trailer = some q → q.bad = false → leaves (.cbind ⟨g, .clean⟩)
      { c with centroid := some (x.ss.toNat, q.val.setWidth 32) }) ∧
    (x.op = .cbind → ∀ q, trailer = some q → q.bad = true → exec (.cbind ⟨g, .clean⟩) s = .next ((s.setCore g
      { c with centroid := some (x.ss.toNat, 0), simQueue := rest }).standFatal (s.standOf g) { ErrInfo.plain 0 0x14 with
        tile := some (tileOf g), site := some (siteOf g), gcore := some g, index := some x.bundle, detail := some 3 })) ∧
    (x.op = .tkclr → k < 16 → ∃ m : SMap TopList,
      (∀ i < 8, sget ⟨0, []⟩ m i = if 8 ≤ k ∨ i = k then ⟨(c.top i).k, []⟩ else c.top i) ∧ leaves (.tkclr ⟨g, .clean⟩) { c with tops := m }) ∧
    (x.op = .tkcfg → 16 ≤ k → k < 24 → leaves (.tkcfg ⟨g, .clean⟩) { c with curTop := BitVec.ofNat 3 (k - 16) }) ∧
    (x.op = .tkcfg → k < 8 →
      x.ss.toNat % 2 ^ 11 + (((List.range 8).filter fun j => decide (j ≠ k)).map fun j => (c.top j).k).sum ≤ 1024 →
      leaves (.tkcfg ⟨g, .clean⟩) (c.setTop k ⟨x.ss.toNat % 2 ^ 11, (c.top k).ents.take (x.ss.toNat % 2 ^ 11)⟩)))


/-- R117 to R121, R194: msim outside a segment stream raises each maximum to the largest similarity of its query token
with the records, for CRV2 under the bound table (no line poisoned as it was read) and for BIN1, and counts the tokens; nothing
else changes; each token finds the lines of its record and of its centroid row as the unit has read them (R200). R121, R193, R195: dseg makes the first entry of its stream current; dclose with no entry current closes
the document that its operand names: its score enters the current list, every maximum is reset, and the count of
documents rises. Rests on the model's assumptions 23, 34. -/
def Obligations.SimilarityScoresAndCloses : Prop :=
  (∀ (s : State) (g : Nat) (x : SimEnt) (rest : List SimEnt), AtHead s g x rest → x.op = .msim → (s.core g).seg = none →
    let c := s.core g
    let a := x.ss.toNat % 2 ^ 18
    let n := x.ss.toNat / 2 ^ 32 % 2 ^ 16
    let scores := fun (lines : State → Nat → List Nat) (sim : State → Nat → Nat → Int) => ∃ (t : State) (m : Nat → State),
      exec (.msim ⟨g, .clean⟩) s = .next t ∧ (∀ r < n, Sees (m r) x.got (lines (m r) r)) ∧
      (∀ q < 32, (t.core g).maxOf q = ((List.range n).map fun r => sim (m r) r q).foldl max (c.maxOf q)) ∧
      t.core g = { c with maxima := (t.core g).maxima, simQueue := rest } ∧ OnlyCore s t g ∧
      (c.fenced = false → t.ctr (s.coreCtr g 18) = s.ctr (s.coreCtr g 18) + BitVec.ofNat 48 n)
    Fetched s g x →
    (x.f.ta = 15 → scores (fun _ r => dmLines g (a + 16 * r) 16)
      fun u r q => bin1Similarity c.query.toNat (u.rd (dmAddr g (a + 16 * r)) 16) q) ∧
    (x.f.ta = 14 → ∀ base rtab, c.centroid = some (base, rtab) → base % 64 = 0 → base + 0x80_0040 ≤ 96 * 2 ^ 20 →
      a + 34 * n ≤ 2 ^ 18 → (∀ q ∈ x.got, q.bad = false) →
      let record := fun (u : State) (r : Nat) => u.rd (dmAddr g (a + 34 * r)) 34
      let row := fun u r => tsAddr (towerOf g) (base + 128 * (record u r % 2 ^ 16))
      scores (fun u r => dmLines g (a + 34 * r) 34 ++ [row u r, row u r + 64])
        fun u r q => crv2Similarity c.query.toNat (u.rd (row u r) 128) rtab.toNat (record u r) q)) ∧
  (∀ (s : State) (g : Nat) (x : SimEnt) (rest : List SimEnt), AtHead s g x rest →
    let c := s.core g
    let a := x.ss.toNat % 2 ^ 18
    (x.op = .dseg → a % 8 = 0 → ∀ q, x.got.find? (fun y => y.addr == dmAddr g (a / 64 * 64)) = some q →
      let dm := fun o n => natBits q.val.toNat (8 * (a % 64 + o)) (8 * n)
      dm 4 2 ≠ 0 → exec (.dseg ⟨g, .clean⟩) s = .next (s.setCore g
        { c with segAddr := a, segLeft := x.ss.toNat / 2 ^ 32 % 2 ^ 16, seg := some ⟨BitVec.ofNat 32 (dm 0 4), decide (dm 6 1 % 2 = 1)⟩,
                 segRem := dm 4 2, simQueue := rest })) ∧
    (x.op = .dclose → c.seg = none → x.ss.toNat < 2 ^ 32 → x.ss.toNat ≠ 0xFFFF_FFFF → (c.top c.curTop.toNat).k ≠ 0 →
      ∃ t ents, exec (.dclose ⟨g, .clean⟩) s = .next t ∧ OnlyCore s t g ∧
        ents = topInsert (c.top c.curTop.toNat).k (c.top c.curTop.toNat).ents ⟨BitVec.ofInt 48 c.scoreNow, x.ss.setWidth 32⟩ ∧
        (∀ q < 32, (t.core g).maxOf q = -2 ^ 31) ∧
        t.core g = { c.setTop c.curTop.toNat ⟨(c.top c.curTop.toNat).k, ents⟩ with
          maxima := (t.core g).maxima, docsClosed := c.docsClosed + 1, simQueue := rest } ∧
        (c.fenced = false → t.ctr (s.coreCtr g 19) = s.ctr (s.coreCtr g 19) + 1)))


/-- R122, R197: the insertion rule. On a list of distinct documents in rank order and within its capacity, an insertion
keeps all three, and an entry is in the result exactly where it is the document's best of the old list and the new
entry and fewer than k others of these rank above it. R197, R198: tkins inserts the four entries of its register that
are not empty, in order, by the insertion rule; tkrd writes its register with four ranks of a list, a half of the
maxima or the unit's counts, and frees its scoreboard entry. Rests on the model's assumption 23. -/
def Obligations.TopLists : Prop :=
  (∀ (k : Nat) (l : List TopEnt) (x : TopEnt), 1 ≤ k → l.length ≤ k → (l.map TopEnt.doc).Nodup →
    l.Pairwise (fun a b => ranksAbove a b = true) →
    let l' := topInsert k l x
    let best := fun y => (y ∈ l ∨ y = x) ∧ ∀ z, z ∈ l ∨ z = x → z.doc = y.doc → z.score.toInt ≤ y.score.toInt
    l'.length ≤ k ∧ (l'.map TopEnt.doc).Nodup ∧ l'.Pairwise (fun a b => ranksAbove a b = true) ∧
    (∀ y ∈ l', best y) ∧
    ∀ y, best y → y ∈ l' ∨ (l'.length = k ∧ ∀ z ∈ l', ranksAbove z y = true)) ∧
  (∀ (s : State) (g : Nat) (x : SimEnt) (rest : List SimEnt), AtHead s g x rest →
    let c := s.core g
    let k := x.f.imm5.toNat
    let l := c.top k
    let entry := fun i => natBits x.va.toNat (128 * i) 96
    let new := ((List.range 4).filter fun i => decide (entry i ≠ 0x8000_0000_0000_0000 + 0xFFFF_FFFF * 2 ^ 64)).map fun i =>
      (⟨BitVec.ofNat 48 (entry i), BitVec.ofNat 32 (entry i / 2 ^ 64)⟩ : TopEnt)
    (x.op = .tkins → k < 8 → l.k ≠ 0 → ∃ t, exec (.tkins ⟨g, .clean⟩) s = .next t ∧ OnlyCore s t g ∧
      (t.core g).top k = ⟨l.k, new.foldl (topInsert l.k) l.ents⟩ ∧ (∀ j, j ≠ k → (t.core g).top j = c.top j) ∧
      t.core g = { c with tops := (t.core g).tops, simQueue := rest }) ∧
    (x.op = .tkrd → k < 8 → x.f.imm6.toNat < 4 → ∃ t v, exec (.tkrd ⟨g, .clean⟩) s = .next t ∧ OnlyCore s t g ∧
      t.core g = { c with v := sset 0 c.v x.f.a.toNat v, active := true, simQueue := rest,
                          sb := c.sb.filter fun b => !(b.dest == .v x.f.a && b.wait == .topk) } ∧
      (x.f.imm6 = 0 → ∀ i < 4, natBits v.toNat (128 * i) 128 = match l.ents[x.ss.toNat % 1024 + i]? with
        | some y => (BitVec.ofInt 64 y.score.toInt).toNat + y.doc.toNat * 2 ^ 64
        | none => 0x8000_0000_0000_0000 + 0xFFFF_FFFF * 2 ^ 64) ∧
      (x.f.imm6 = 1 → ∀ i < 16, natBits v.toNat (32 * i) 32 = natBits c.maxima.toNat (32 * i) 32) ∧
      (x.f.imm6 = 2 → ∀ i < 16, natBits v.toNat (32 * i) 32 = natBits c.maxima.toNat (512 + 32 * i) 32) ∧
      (x.f.imm6 = 3 → lane 32 v 0 = l.ents.length % 2 ^ 32 ∧ lane 32 v 1 = l.k % 2 ^ 32 ∧ lane 32 v 2 = c.curTop.toNat ∧
        lane 32 v 3 = c.docsClosed.toNat ∧ lane 32 v 4 = c.segLeft % 2 ^ 32 ∧ lane 32 v 5 = c.segRem % 2 ^ 32 ∧
        ∀ i, 6 ≤ i → i < 16 → lane 32 v i = 0)))


/-- R196, R197, R201: an insertion into a list of capacity 0, a close of document 0xFFFF_FFFF and a capacity that would
bring the sum above 1,024 stop the unit at the instruction, which stays at the head of the queue, and the stand takes
error 0x10. R205, R227, R244: an address that breaks its rules raises run-time error 0x11, an hxfer of a core other
than hx_core 0x12, and a remote operation in a clearing beat 0x17, where it is the bundle's only error; the bundle
does not issue. R203, R204, R208: the address rules of the instructions that reach their own tower: the limits and the
alignment. Rests on the model's assumptions 20, 21, 23. -/
def Obligations.CoreErrors : Prop :=
  (∀ (s : State) (g : Nat) (x : SimEnt) (rest : List SimEnt), AtHead s g x rest →
    let c := s.core g
    let k := x.f.imm5.toNat
    let stops := fun (i : Instr) => exec i s = .next ((s.setCore g { c with simStopped := true }).standFatal (s.standOf g)
      { ErrInfo.plain 0 0x10 with tile := some (tileOf g), site := some (siteOf g), gcore := some g, index := some x.bundle })
    (x.op = .tkins → k < 8 → (c.top k).k = 0 → natBits x.va.toNat 0 96 ≠ 0x8000_0000_0000_0000 + 0xFFFF_FFFF * 2 ^ 64 →
      stops (.tkins ⟨g, .clean⟩)) ∧
    (x.op = .dclose → c.seg = none → x.ss.toNat = 0xFFFF_FFFF → stops (.dclose ⟨g, .clean⟩)) ∧
    (x.op = .dclose → c.seg = none → 2 ^ 32 ≤ x.ss.toNat → stops (.dclose ⟨g, .clean⟩)) ∧
    (x.op = .tkcfg → k < 8 →
      1024 < x.ss.toNat % 2 ^ 11 + (((List.range 8).filter fun j => decide (j ≠ k)).map fun j => (c.top j).k).sum →
      stops (.tkcfg ⟨g, .clean⟩))) ∧
  (∀ (s : State) (i : Instr) (e : Iss) (o : MOp) (f : MF), i.slotOp = some (e, .m o f) → eccClean i = true →
    let c := s.core e.g
    let st := s.standOf e.g
    let bad := mFault s st c o f
    let core := decide (o = .hxfer ∧ (s.stand st).copy.hxCore ≠ e.g)
    let clear := s.inClearing st && !mClearOk s st e.g c o f
    Ready s e (.m o f) → MFree s e o f → (∀ t : BitVec 3, TagFree c t) → (o = .fence → fenceClear c f = true) → (o = .wflag → wflagMet s e.g c f = true) →
    (bad = true ∨ core = true ∨ clear = true) →
    exec i s = .next (((s.met e).setCore e.g { (s.met e).core e.g with staged := [], halted := true }).standFatal st
      { ErrInfo.plain 0 (if bad then 0x11 else if core then 0x12 else 0x17) with
        tile := some (tileOf e.g), site := some (siteOf e.g), gcore := some e.g, index := some c.pc })) ∧
  (∀ (s : State) (st : Nat) (c : CoreSt) (f : MF),
    let a := (c.sr f.a + BitVec.ofInt 64 f.imm.toInt).toNat
    let b := (c.sr f.b).toNat
    let d := (c.sr f.d).toNat
    let n := b % 2 ^ 32
    (∀ o ∈ [MOp.ld, .st, .wflag], f.w.toNat ≤ 3 → (mFault s st c o f = false ↔ a < 2 ^ 18 ∧ a % 2 ^ f.w.toNat = 0)) ∧
    (∀ o ∈ [MOp.vld, .vst], f.w = 4 → (mFault s st c o f = false ↔ a < 2 ^ 18 ∧ a % 64 = 0)) ∧
    (∀ o ∈ [MOp.tsld, .tsst], (mFault s st c o f = false ↔ a < 96 * 2 ^ 20 ∧ a % 64 = 0)) ∧
    (mFault s st c .bmov f = false ↔ b < 2 ^ 33 ∧ n % 64 = 0 ∧ 64 ≤ n ∧ n ≤ 262144 ∧ d % 64 = 0 ∧ d + n ≤ 2 ^ 18 ∧
      a % 64 = 0 ∧ a + n ≤ 96 * 2 ^ 20))


/-- R203 to R206: loads read the bytes of the core's own data memory, zero-extended, with latency 3; stores write exactly
their bytes there. Rests on the model's assumptions 6, 9, 18. -/
def Obligations.DataMemoryAccesses : Prop :=
  ∀ (s : State) (e : Iss) (f : MF),
    let c := s.core e.g
    let a := (c.sr f.a + BitVec.ofInt 64 f.imm.toInt).toNat
    let n := 2 ^ f.w.toNat
    let ok := fun (o : MOp) => Ready s e (.m o f) ∧ c.done = false ∧ a < 2 ^ 18
    (ok .ld → a % n = 0 → Issues s (.ld e f) e (.m .ld f) c (c.resS 3 f.d (BitVec.ofNat 64 (s.rd (dmAddr e.g a) n)))) ∧
    (ok .vld → a % 64 = 0 → Issues s (.vld e f) e (.m .vld f) c (c.resV 3 f.d (BitVec.ofNat 512 (s.rd (dmAddr e.g a) 64)))) ∧
    (ok .st → a % n = 0 → ∃ m, Stores s.mem m (dmAddr e.g a) n (c.sr f.b).toNat ∧
      IssuesIn s { s with mem := m } (.st e f) e (.m .st f) c []) ∧
    (ok .vst → a % 64 = 0 → ∃ m, Stores s.mem m (dmAddr e.g a) 64 (c.vr f.v).toNat ∧
      IssuesIn s { s with mem := m } (.vst e f) e (.m .vst f) c [])


/-- R203 to R206, R381: tsld takes a scoreboard entry that holds the line read, a poisoned line as such; tsst writes the
line of the core's own tower SRAM, clearing its poison, and its tag is pending. R207: a tsld of a line that an earlier bmov of the
core has still to store reads what the bmov stores. R78, R79, R90, R92: the data of the oldest tower load reaches its
register and frees its entry, through the FIFO into the row, and waits while the crossbar holds it; poisoned data is run-time error 0x14
of the load's bundle, with detail 3. R208, R209, R229, R231: a move's tag completes once every line of it has moved, not before, with status
ok, or with the first line's status that is not: that is error 0x14 of the move's bundle, but for core_fenced, and for data_error of the
core's own data memory. Rests on the model's assumptions 6, 22, 28, 114. -/
def Obligations.TowerMemoryAccesses : Prop :=
  (∀ (s : State) (e : Iss) (f : MF),
    let c := s.core e.g
    let o := (c.sr f.a + BitVec.ofInt 64 f.imm.toInt).toNat
    let a := tsAddr (e.g / 128) o
    (MReady s e .tsld f → c.Apart a 1 → Issues s (.tsld e f .clean) e (.m .tsld f) { c with sb := c.sb ++ [⟨.v f.d,
      .tower (if s.poisoned a then 0 else BitVec.ofNat 512 (s.rd a 64)) (s.poisoned a) c.pc, none⟩] } []) ∧
    (MReady s e .tsst f → TagFree c f.mt → c.Apart a 1 → ∃ m p, Stores s.mem m a 64 (c.vr f.v).toNat ∧
      Replaces false s.poison p (a / 64) false ∧
      IssuesIn s { s with mem := m, poison := p } (.tsst e f) e (.m .tsst f)
        (c.taking f.mt ⟨f.mt, false, true, BitVec.ofNat 64 a, 0, 0, [], [], [], 0, (s.stand (s.standOf e.g)).beat, 0, false, c.pc⟩) []) ∧
    (MReady s e .tsld f → ∀ (m : MoveSt) (l : Nat), c.moves = [m] → m.host = false → m.toFar = true → m.held = [] → l < m.lines →
      l ∈ m.late → m.far.toNat + 64 * l = a → m.loc.toNat + 64 * l + 64 ≤ 2 ^ 18 → s.far (s.standOf e.g) a = some a →
      let v := s.rd (dmAddr e.g (m.loc.toNat + 64 * l)) 64
      ∃ t, exec (.tsld e f .clean) s = .next t ∧ memRead t.mem a 64 = v ∧
        (t.core e.g).sb = c.sb ++ [⟨.v f.d, .tower (BitVec.ofNat 512 v) false c.pc, none⟩])) ∧
  (∀ (s : State) (g : Nat), g < 12288 →
    let c := s.core g
    (∀ (pre : List SbEnt) (x : SbEnt) (post : List SbEnt) d bad n, c.sb = pre ++ x :: post →
      (∀ y ∈ pre, ∀ v b k, y.wait ≠ .tower v b k) → x.wait = .tower d bad n →
      let u := (s.setCore g { c.put x.dest (d.setWidth 65536) with sb := c.sb.erase x, active := true }).enterRow g true
      exec (.tsldDataReturn g) s = .next (if s.inwardHeld g then s else if bad then statusFatal u g n 3 else u)) ∧
    (∀ (m : MoveSt) (pre post : List MoveSt), c.moves = pre ++ m :: post → (∀ y ∈ pre ++ post, y.tag ≠ m.tag) → m.host = false →
      (m.late ≠ [] ∨ m.held ≠ [] ∨ m.out ≠ [] → ∀ x, exec (.moveTagComplete g ⟨m.tag, x⟩) s = .next s) ∧
      (m.late = [] → m.held = [] → m.out = [] →
        let ended := fun (y : State) (status : BitVec 4) => y.setCore g
          { y.core g with tags := sset ⟨false, 0⟩ (y.core g).tags m.tag.toNat ⟨false, status⟩, active := true, moves := pre ++ post }
        (m.bad = 0 → exec (.moveTagComplete g ⟨m.tag, .clean⟩) s =
          .next (ended (if natBits m.far.toNat 44 4 ≤ 1 then s.coreCount g 24 m.lines else s) 0)) ∧
        (m.bad ≠ 0 → ∃ u, u.mem = s.mem ∧ u.stands = s.stands ∧ u.log = s.log ∧ (u.core g).moves = pre ++ post ∧
          sget ⟨false, 0⟩ (u.core g).tags m.tag.toNat = ⟨false, BitVec.ofNat 4 m.bad⟩ ∧ (u.core g).niBad = min (c.niBad + 1) (2 ^ 32 - 1) ∧
          exec (.moveTagComplete g ⟨m.tag, .clean⟩) s =
            .next (if m.bad = 2 ∨ (m.bad = 3 ∧ m.own = true) then u else statusFatal u g m.bundle m.bad)))))


/-- R208, R209: bmov and hmov leave a move in flight on their tag, none of its lines read. R3, R208: the move's engine reads a
line, in whichever order, a poisoned one of another memory as status data_error (R229), and later writes the line it read at its place, no
other byte of memory changed; a line out of the row waits for room in its crossing FIFO and one into it while the crossbar holds it, and each
takes a place there (R78, R79); it takes the row bus and is counted (R494). A load that waits for its tile's memory engine and has read
some of the written line's eight granules reads the others first, with their bytes before the write (R209). R206, R224, R225,
R230: mwait issues once no tag of its mask is pending, fence once every earlier operation to its tiles is acknowledged,
wflag once its word has reached sb; nistat reads the free slots, the first bad completion and the counts. Rests on the
model's assumptions 6, 22, 114, 119, 137. -/
def Obligations.BlockMovesAndWaits : Prop :=
  (∀ (s : State) (e : Iss) (f : MF),
    let c := s.core e.g
    let st := s.standOf e.g
    let b := (c.sr f.b).toNat
    let n := b % 2 ^ 32 / 64
    let o := (c.sr f.a + BitVec.ofInt 64 f.imm.toInt).toNat
    let does := fun (i : Instr) (op : MOp) (far : Nat) => MReady s e op f → TagFree c f.mt →
      Issues s i e (.m op f) (c.taking f.mt ⟨f.mt, false, decide (b / 2 ^ 32 % 2 = 1), BitVec.ofNat 64 far, c.sr f.d, n,
        List.range n, [], [], 0, (s.stand st).beat, 0, false, c.pc⟩) []
    (c.Apart (tsAddr (e.g / 128) o) n → does (.bmov e f []) .bmov (tsAddr (e.g / 128) o)) ∧
    (s.inClearing st = false → does (.hmov e f []) .hmov o)) ∧
  (∀ (s : State) (g n l : Nat) (m : MoveSt) (pre post : List MoveSt),
    let c := s.core g
    let i := s.standOf g
    let d := dmAddr g (m.loc.toNat + 64 * l)
    let now := fun (y : MoveSt) => { c with moves := pre ++ y :: post }
    c.moves = pre ++ m :: post → (∀ y ∈ pre ++ post, y.tag ≠ m.tag) → m.host = false → s.carrier g m l = none →
    ∀ a, s.far i (m.far.toNat + 64 * l) = some a → a % 64 = 0 →
    (l ∈ m.late → (m.toFar = true ∨ s.poisoned a = false) →
      let read := s.setCore g (now { m with
        late := m.late.filter fun x => decide (x ≠ l),
        held := m.held ++ [(l, BitVec.ofNat 512 (s.rd (if m.toFar then d else a) 64))] })
      nearDo s g n (.take m.tag l) = if m.toFar = false then read else if (s.region (rowRegion g)).outHigh then s
        else (read.coreCount g 34 1).leaveRow g true) ∧
    (l ∈ m.late → m.toFar = false → s.poisoned a = true → nearDo s g n (.take m.tag l) = s.setCore g (now { m with
      late := m.late.filter fun x => decide (x ≠ l), bad := if m.bad = 0 then 3 else m.bad })) ∧
    ∀ v hs, m.held = (l, v) :: hs → (∀ q ∈ hs, q.1 ≠ l) →
      let at' := if m.toFar then a else d
      (m.toFar = false → s.inwardHeld g = true → nearDo s g n (.put m.tag l) = s) ∧
      (m.toFar = true ∨ s.inwardHeld g = false → ∃ mem p ts,
        Stores s.mem mem at' 64 v.toNat ∧
        (if m.toFar then Replaces false s.poison p (a / 64) false else p = s.poison) ∧
        (∀ t, ∃ es, sget PlaneTile.empty ts t = { s.tile t with early := (s.tile t).early ++ es } ∧
          (16 ≤ t → es = []) ∧ (t < 16 → ∀ (q : Pkt) (b k : Nat) (w : BitVec 64), (q, b, k, w) ∈ es ↔
            b = at' ∧ k < 8 ∧ w = BitVec.ofNat 64 (s.rd (at' + 8 * k) 8) ∧ (∃ y ∈ (s.tile t).early, y.1 = q ∧ y.2.1 = at') ∧
              ∀ y ∈ (s.tile t).early, y.1 = q → y.2.1 = at' → y.2.2.1 ≠ k)) ∧
        let put := ({ s with mem := mem, poison := p, tiles := ts } : State).setCore g (now { m with held := hs })
        nearDo s g n (.put m.tag l) = if m.toFar then put else (put.coreCount g 34 1).enterRow g true)) ∧
  (∀ (s : State) (e : Iss) (f : MF),
    let c := s.core e.g
    let a := (c.sr f.a + BitVec.ofInt 64 f.imm.toInt).toNat
    let goes := fun (i : Instr) (o : MOp) => Issues s i e (.m o f) c []
    let tiles := if f.b = 0 then 0xFFFF else (c.sr f.b).toNat % 2 ^ 16
    let nistat := fun (k : BitVec 24) (v : Word) => f.imm = k → MReady s e .nistat f →
      Issues s (.nistat e f) e (.m .nistat f) c (c.resS 1 f.d v)
    (MReady s e .mwait f → (∀ t : BitVec 3, f.imm.getLsbD t.toNat = true → TagFree c t) → goes (.mwait e f) .mwait) ∧
    (MReady s e .fence f → s.inClearing (s.standOf e.g) = false →
      (∀ n ∈ c.ni, n.acked = true ∨ tiles / 2 ^ n.pkt.dst.toNat % 2 = 0) → goes (.fence e f) .fence) ∧
    (MReady s e .wflag f → (c.sr f.b).toNat ≤ s.rd (dmAddr e.g a) (2 ^ f.w.toNat) → goes (.wflag e f) .wflag) ∧
    nistat 0 (BitVec.ofNat 64 (64 - c.ni.length)) ∧ nistat 1 (BitVec.ofNat 64 c.niBad) ∧ nistat 2 c.niFirst ∧
    nistat 4 (BitVec.ofNat 64 c.niRetrans) ∧
    (f.imm = 3 → MReady s e .nistat f → ∃ v : Word,
      (∀ t : BitVec 3, natBits v.toNat (4 * t.toNat) 4 = (sget ⟨false, 0⟩ c.tags t.toNat).status.toNat ∧
        v.getLsbD (32 + t.toNat) = (sget ⟨false, 0⟩ c.tags t.toNat).pending) ∧
      Issues s (.nistat e f) e (.m .nistat f) c (c.resS 1 f.d v)))


/-- R206, R210, R214, R216, R217, R322: the remote operations issue one packet each, with their data: the low bytes of sb
or of vv, for rcas the compare value with the new value beside it; a register that awaits the reply takes a scoreboard
entry. R222: mcst sends one copy to each tile of its mask, in ascending order, each the low bytes of vv with the next
number of its flow; nothing else outside the core changes. An operation with the bo flag, and rred.fadd without it (R216), notes its beat
and bundle (R231). Rests on the model's assumptions 6, 159. -/
def Obligations.RemoteOperationsSend : Prop :=
  (∀ (s : State) (e : Iss) (f : MF),
    let c := s.core e.g
    let low := (c.sr f.b).toNat % 2 ^ (8 * wBytes f.w)
    let data := if f.w = 4 then (c.vr f.v).toNat else low
    let sd : Option Dest := if f.d = 0 then none else some (.s f.d)
    Sends s (.rld e f) e .rld f 0 (if f.w = 4 then some (.v f.d) else sd) ∧
    Sends s (.rst e f) e .rst f data none ∧
    Sends s (.radd e f) e .radd f low sd ∧ Sends s (.rmax e f) e .rmax f low sd ∧ Sends s (.rmin e f) e .rmin f low sd ∧
    Sends s (.rxchg e f) e .rxchg f low sd ∧ Sends s (.rfadd e f) e .rfadd f low sd ∧
    Sends s (.rcas e f) e .rcas f (low + ((c.sr f.d).toNat % 2 ^ (8 * wBytes f.w)) * 2 ^ 64) sd ∧
    Sends s (.rredAdd e f) e .rredAdd f data none ∧ Sends s (.rredMax e f) e .rredMax f data none ∧
    Sends s (.rredMin e f) e .rredMin f data none ∧ Sends s (.rredFadd e f) e .rredFadd f data none ∧
    Sends s (.rredTopk e f) e .rredTopk f data none) ∧
  (∀ (s : State) (e : Iss) (f : MF),
    let c := s.core e.g
    let x := s.tile (tileOf e.g)
    MReady s e .mcst f → s.inClearing (s.standOf e.g) = false →
    ∃ (t : State) (ns : List NiOp), exec (.mcst e f) s = .next t ∧
      ns.map (fun n => n.pkt.dst.toNat) = (List.range 16).filter (fun k => (c.sr f.b).getLsbD k) ∧
      (∀ n ∈ ns, n.pkt.op = 0x28 ∧ n.pkt.payload = BitVec.ofNat 512 ((c.vr f.v).toNat % 2 ^ (8 * wBytes f.w)) ∧
        n.pkt.src = BitVec.ofNat 14 e.g ∧ n.pkt.seq = sget 0 c.seqs n.pkt.dst.toNat ∧ n.dest = none ∧ n.bundle = c.pc) ∧
      (∀ k n, ns[k]? = some n → n.num = c.niNext + k) ∧
      IssuedAs (s.setTile (tileOf e.g) { x with inject := x.inject ++ ns.map fun n => ⟨n.pkt, 0, false⟩ }) t e none
        { c with ni := c.ni ++ ns, niNext := c.niNext + ns.length, boFrom := (t.core e.g).boFrom, seqs := (t.core e.g).seqs, lastStore := (t.core e.g).lastStore } [])


/-- R227, R410: hxfer of the stand's hx_core, inside its window and on a live link with bus mastering, leaves a transfer
in flight on its tag; one that leaves the window completes at once as host_refused and is recorded. R227 to R229,
R408, R409: the engine ends the oldest transfer of a stand that alone has one on its port. Whole, its lines have moved out to the
host in writes of at most the payload size, a read flushing them, or in from it, read in pieces of a page and requests of at most the
read size, the port's byte count has grown, and its tag completes with ok; it waits while a die holds what it would read or write
(R78, R79). R410: one that meets an error, or bus mastering off before its
last request, completes with host_error and is recorded. Rests on the model's
assumptions 6, 8, 95, 114. -/
def Obligations.HostTransfers : Prop :=
  (∀ (s : State) (e : Iss) (f : MF),
    let c := s.core e.g
    let st := s.standOf e.g
    let p := planPort s.planForce st
    let x := (s.stand st).copy
    let n := (c.sr f.b).toNat % 2 ^ 32
    let host := (c.sr f.d).toNat
    MReady s e .hxfer f → TagFree c f.mt → s.inClearing st = false → x.hxCore = e.g →
    (x.hxBase.toNat ≤ host → host + n ≤ x.hxBase.toNat + x.hxSize.toNat → (s.port p).busMaster = true →
      (s.port p).d3 = false → s.gf (Reg.HIF_LINK p) Fld.HIF_LINK_state ∈ [2, 3, 4] →
      Issues s (.hxfer e f) e (.m .hxfer f) (c.taking f.mt
        ⟨f.mt, true, !natBit (c.sr f.b).toNat 32, c.sr f.a + BitVec.ofInt 64 f.imm.toInt, c.sr f.d, n / 64, [], [], [], 0,
          (s.stand st).beat, 0, false, c.pc⟩) []) ∧
    (host < x.hxBase.toNat ∨ x.hxBase.toNat + x.hxSize.toNat < host + n →
      ∃ t, exec (.hxfer e f) s = .next t ∧ t.mem = s.mem ∧ t.tiles = s.tiles ∧
        sget ⟨false, 0⟩ (t.core e.g).tags f.mt.toNat = ⟨false, 7⟩ ∧ t.gf (Reg.HIF_XFER_ERR p) Fld.HIF_XFER_ERR_valid = 1)) ∧
  (∀ (s : State) (g : Nat) (mt : BitVec 3) (m : MoveSt) (data : List (BitVec 512)), g < 12288 →
    ((s.core g).moves.filter (·.host)).head? = some m → m.tag = mt →
    let i := s.standOf g
    let p := planPort s.planForce i
    let held := s.hxHeld i m (upto m.lines)
    (held = true → exec (.hxferComplete g mt 0 data []) s = .next s) ∧
    let b := Reg.HIF_XFER_BYTES p
    let late := (hxPieces m).drop m.asked
    (held = false → g = (s.stand i).copy.hxCore → s.inRun i = true → (∀ k, k ≠ i → planPort s.planForce k = p → s.hxHead k = none) →
    (∀ y ∈ (s.core g).moves, y.tag = mt → y = m) → m.bad = 0 → (s.port p).busMaster = true → m.loc.toNat % 64 = 0 →
    m.loc.toNat + 64 * m.lines < 2 ^ 64 → (m.toFar = true ∨ ∀ l, s.farPoisoned i (m.far.toNat + 64 * l) = false) →
    ∃ u, exec (.hxferComplete g mt 0 data []) s = .next u ∧
      sget ⟨false, 0⟩ (u.core g).tags mt.toNat = ⟨false, 0⟩ ∧ (∀ y ∈ (u.core g).moves, y.tag ≠ mt) ∧
      (m.toFar = false → u.mem = s.mem ∧ u.reg b = s.reg b + BitVec.ofNat 64 (late.map Prod.snd).sum ∧
        u.out = s.out ++ (late.flatMap fun q => (partsOf (s.port p).maxPayload (q.2 / 64 + 1) q.1 q.2).map fun c =>
          .hostWrite p (BitVec.ofNat 64 c.1) c.2
            ((hxNums m c.1 c.2).foldr (fun l v => (s.farLine i (m.far.toNat + 64 * l)).toNat + 2 ^ 512 * v) 0)) ++
          [.hostRead p (m.loc + BitVec.ofNat 64 (64 * (m.lines - 1))) 0]) ∧
      (m.toFar = true → u.reg b = s.reg b + BitVec.ofNat 64 (64 * m.lines) ∧
        u.out = s.out ++ (late.flatMap fun q => (partsOf (s.port p).maxRead (q.2 / 64 + 1) q.1 q.2).map fun c =>
          .hostRead p (BitVec.ofNat 64 c.1) c.2) ∧
        (m.lines = 1 → ∀ a, s.far i m.far.toNat = some a → Stores s.mem u.mem a 64 (data.getD 0 0).toNat)))) ∧
  (∀ (s : State) (g : Nat) (mt : BitVec 3) (kind : Nat) (m : MoveSt) (data : List (BitVec 512)) (ecc : List (Nat × Ecc)), g < 12288 →
    ((s.core g).moves.filter (·.host)).head? = some m → m.tag = mt →
    let p := planPort s.planForce (s.standOf g)
    (kind ≠ 0 ∧ ecc = []) ∨ (kind = 0 ∧ ecc = [] ∧ (s.port p).busMaster = false ∧ m.asked < (hxPieces m).length ∧
      s.hxHeld (s.standOf g) m (upto m.lines) = false) →
    ∃ u, exec (.hxferComplete g mt kind data ecc) s = .next u ∧ sget ⟨false, 0⟩ (u.core g).tags mt.toNat = ⟨false, 8⟩ ∧
      (∀ y ∈ (u.core g).moves, y.tag ≠ mt) ∧ u.gf (Reg.HIF_XFER_ERR p) Fld.HIF_XFER_ERR_valid = 1)


/-- R8, R9, R16: the accesses of a port that is up to offsets that it serves. A low-word read of a 64-bit register latches
the high word, which the next high-word read takes; a low-word write is held, and the high-word write applies both; an
8-byte access takes the whole register; an access that reaches an unassigned offset reads all ones, writes nothing and is
recorded once. R13 to
R15: a write of a register that has no further effect, with no reserved encoding, changes that register alone, and
each of its fields by its access code: kept, taken, cleared by ones or set by ones. Rests on the model's assumptions
88, 89, 96. -/
def Obligations.HostRegisterAccesses : Prop :=
  (∀ (s : State) (p off a : Nat) (r : RegSpec), p < 2 → s.portUp p = true → (s.port p).d3 = false → s.serves p off = true →
    off % 4 = 0 →
    let x := s.port p
    let v := (s.regView a).toNat
    let low := s.hostPlace p off = .reg a r false
    let high := s.hostPlace p off = .reg a r true
    let unheld := s.setPort p { x with held := sset none x.held a none }
    (low → r.wide = false →
      exec (.registerLowWordRead p off 4) s = .next (s.emit (.data p (BitVec.ofNat 64 (v % 2 ^ 32))))) ∧
    (low → r.wide = true → exec (.registerLowWordRead p off 4) s = .next
      ((s.setPort p { x with latch := sset none x.latch a (some (BitVec.ofNat 32 (v / 2 ^ 32))) }).emit
        (.data p (BitVec.ofNat 64 (v % 2 ^ 32))))) ∧
    (low → off % 8 = 0 → s.hostPlace p (off + 4) = .reg a r true →
      exec (.registerLowWordRead p off 8) s = .next (s.emit (.data p (s.regView a)))) ∧
    (high → ∀ h, sget none x.latch a = some h → exec (.registerHighWordRead p off) s = .next
      ((s.setPort p { x with latch := sset none x.latch a none }).emit (.data p (h.setWidth 64)))) ∧
    (high → sget none x.latch a = none →
      exec (.registerHighWordRead p off) s = .next (s.emit (.data p (BitVec.ofNat 64 (v / 2 ^ 32))))) ∧
    (s.wrongPort p a = none →
      (low → r.wide = false → ∀ w : Word,
        exec (.registerWrite p off 4 w) s = .next (s.regWrite p a r 0 (w.toNat % 2 ^ 32))) ∧
      (low → r.wide = true → off % 8 = 0 → s.hostPlace p (off + 4) = .reg a r true → ∀ w : Word,
        exec (.registerWrite p off 8 w) s = .next (unheld.regWrite p a r 0 w.toNat)) ∧
      (low → r.wide = true → ∀ w : BitVec 32, exec (.registerLowWordWrite p off w) s = .next
        (s.setPort p { x with held := sset none x.held a (some w) })) ∧
      (high → r.wide = true → ∀ l, sget none x.held a = some l → ∀ w : BitVec 32,
        exec (.registerHighWordWrite p off w) s = .next (unheld.regWrite p a r 0 (l.toNat + w.toNat * 2 ^ 32))) ∧
      (high → r.wide = true → sget none x.held a = none → ∀ w : BitVec 32,
        exec (.registerHighWordWrite p off w) s = .next (s.regWrite p a r 32 (w.toNat * 2 ^ 32)))) ∧
    (let bad := s.contained { ErrInfo.plain 8 3 with detail := some p, addr := some off };
      (s.hostPlace p off = .unassigned → exec (.registerLowWordRead p off 4) s = .next (bad.emit (.data p 0xFFFF_FFFF)) ∧
        ∀ w, exec (.registerWrite p off 4 w) s = .next bad) ∧
      (off % 8 = 0 → s.hostPlace p off = .unassigned ∨ s.hostPlace p (off + 4) = .unassigned →
        exec (.registerLowWordRead p off 8) s = .next (bad.emit (.data p (BitVec.allOnes 64))) ∧
        ∀ w, exec (.registerWrite p off 8 w) s = .next bad))) ∧
  (∀ (s : State) (p a v : Nat) (r : RegSpec), PlainReg a → regSpecOf a = some r → v < 2 ^ 64 →
    (∀ f ∈ r.fields, f.acc = .rw → s.reservedValue a f.lo (natBits v f.lo f.w) v = false) →
    ∃ x : Word, s.regWrite p a r 0 v = s.setReg a x ∧ ∀ f ∈ r.fields,
      natBits x.toNat f.lo f.w = fieldAfter f (natBits (s.reg a).toNat f.lo f.w) (natBits v f.lo f.w))


/-- R48, R53, R54: a commit on a ready device checks the staged plan: refused under its code with module cause 4, or its
record queued with the next generation and the commit busy, the plans unchanged; one that meets a commit in progress
waits with the staging area as it stands, and so does one that meets a takeover of the controllers (R508). restage copies the plan in force. Rests on the
model's assumptions 72, 73, 100, 136. -/
def Obligations.PlanCommits : Prop :=
  ∀ (s : State) (p : Nat), Served s p Reg.MGT_PLAN_CTL →
    let a := Reg.MGT_PLAN_STATUS
    let busy := s.gf a Fld.MGT_PLAN_STATUS_busy
    let gen := (s.gf Reg.MGT_PLAN_GEN Fld.MGT_PLAN_GEN_gen + 1) % 2 ^ 32
    let from_ := s.sf a Fld.MGT_PLAN_STATUS_commit_port p
    let record : NvReq := ⟨4, 0, bytesOf 4 gen ++ bytesOf 4 0 ++ planBytes s.planStaged, .plan s.planStaged gen⟩
    (s.takingOver = true → exec (.commit p) s = .next { s with mgmtWait := s.mgmtWait ++ [.commit p s.planStaged] }) ∧
    (s.takingOver = false → s.phase = 1 → busy ≠ 1 → s.planCheck s.planStaged ≠ 0 → exec (.commit p) s =
      .next ((from_.sf a Fld.MGT_PLAN_STATUS_code (s.planCheck s.planStaged)).modCause 4)) ∧
    (s.takingOver = false → s.phase = 1 → busy ≠ 1 → s.planCheck s.planStaged = 0 → s.nvRefusal record = none →
      ∃ t, exec (.commit p) s = .next t ∧ t.gf a Fld.MGT_PLAN_STATUS_busy = 1 ∧ t.gf a Fld.MGT_PLAN_STATUS_code = 0 ∧
        t.gf a Fld.MGT_PLAN_STATUS_commit_port = p ∧ t.planForce = s.planForce ∧ t.planStaged = s.planStaged ∧
        t.nvq = s.nvq ++ [record] ∧
        t = { s with regs := t.regs, nvq := t.nvq }) ∧
    (s.takingOver = false → s.phase = 1 → busy = 1 → exec (.commit p) s = .next { s with commits := s.commits ++ [(p, s.planStaged)] }) ∧
    (busy ≠ 1 → exec (.restage p) s = .next { s with planStaged := s.planForce })


/-- R60, R61, R63 to R66, R146: a launch word of the stand's master is refused under the first code that holds, or it
completes: the stand is STARTING with its copies, its cores and data memory zero, or a unit out of service has failed it at
once. An abort of a run is taken at once and handled at the stand's next edge; the programs load; a start that is
not ready four beats before its time ends with code 0x06; the end of handling ends the run FAILED. R64 to R66, R529:
whatever ends a run, the stand reads its state and run code, and of every core only its fence and its flows' epoch
remain. Rests on the model's assumptions 59, 116. -/
def Obligations.LaunchesAndRunEnds : Prop :=
  (∀ (s : State) (p i : Nat) (v : BitVec 32), i < 16 →
    let a := Reg.STD_STATUS i
    let x := s.stand i
    let r := s.repairsUp i
    let ended := fun (t : State) (code : Nat) => t.stdState i = 4 ∧ t.gf a Fld.STD_STATUS_run_code = code ∧
      (t.stand i).handling = none ∧ ∀ g ∈ s.coresOf i, (t.core g).running = false
    (Served s p (Reg.STD_LAUNCH i) → planPort s.planForce i = p → s.phase = 1 →
      (v.toNat % 16 = 1 → s.inRun i = true → exec (.launch p i v []) s = .next (s.sf a Fld.STD_STATUS_cmd_code 2)) ∧
      (v.toNat % 16 = 1 → s.inRun i = false →
        (∀ code, r.launchCheck i (v.toNat / 2 ^ 16) = .inl code →
          exec (.launch p i v []) s = .next (r.sf a Fld.STD_STATUS_cmd_code code)) ∧
        (∀ c, r.launchCheck i (v.toNat / 2 ^ 16) = .inr c → ∃ t, exec (.launch p i v []) s = .next t ∧
          t = r.launchGo i c ∧ t.gf a Fld.STD_STATUS_cmd_code = 1 ∧
          t.gf (Reg.STD_TAG_RUN i) Fld.STD_TAG_RUN_tag = v.toNat / 2 ^ 16 ∧
          (∀ g ∈ s.coresOf i, t.core g =
            { CoreSt.zero with fenced := (s.core g).fenced, epoch := (s.core g).epoch + 1 }) ∧
          (r.launchFault i c.bl.toNat = none → t.stdState i = 1 ∧ t.gf a Fld.STD_STATUS_run_code = 1 ∧
            (t.stand i).copy = c ∧ (t.stand i).loaded = false ∧
            ∀ g ∈ s.coresOf i, ∀ o, o < dmBytes → memGet t.mem (dmAddr g o) = 0) ∧
          (∀ e, r.launchFault i c.bl.toNat = some e → ended t 0x0C))) ∧
      (v.toNat % 16 = 2 → s.inRun i = true → x.handling = none → ∃ t, exec (.abort p i v) s = .next t ∧
        (t.stand i).handling = some .abort ∧ t.gf a Fld.STD_STATUS_cmd_code = 1 ∧ t.stdState i = s.stdState i ∧
        t = { s with regs := t.regs, stands := t.stands } ∧ ∀ k, k ≠ i → t.stand k = s.stand k)) ∧
    (Served s p (Reg.STD_LAUNCH i) → planPort s.planForce i ≠ p →
      exec (.launch p i v []) s = .next (s.contained
        { ErrInfo.plain 8 4 with stand := some i, detail := some p, addr := some (Reg.STD_LAUNCH i) })) ∧
    (s.stdState i = 1 → x.loaded = false → coreFailure s i x.copy = none → seqFailure s i x.copy = none →
      let s1 := s.loadAll i x.copy
      ∃ t, exec (.programLoadComplete i) s = .next t ∧ t = s1.setStand i { s1.stand i with loaded := true } ∧
        (t.stand i).loaded = true ∧ t.stdState i = 1 ∧
        ((x.copy.cores.map (·.g)).Nodup → ∀ e ∈ x.copy.cores, ∀ q, x.copy.progs[e.prog]? = some q →
          s.openSite (towerOf e.g) = false →
          t.core e.g = { s.core e.g with pc := e.start, progLen := q.len })) ∧
    (s.stdState i = 1 → x.loaded = false → ∀ e, coreFailure s i x.copy = some e →
      ∃ t, exec (.programLoadComplete i) s = .next t ∧ t = (s.standFatal i e).endRun i 4 0x0C ∧ ended t 0x0C) ∧
    (s.stdState i = 1 → x.stopped = false → s.startReady i = false →
      ∃ t, exec (.startMissed i) s = .next t ∧ t = (s.gtcTo (x.copy.start.toNat - 4 * x.copy.beatLen)).endRun i 4 0x06 ∧
        ended t 0x06) ∧
    (x.stopped = true →
      (x.handling = some .fatal → ∃ t, exec (.standHandlingSettled i) s = .next t ∧ t = s.endRun i 4 0x0C ∧ ended t 0x0C) ∧
      (x.handling = some .abort → ∃ t, exec (.standHandlingSettled i) s = .next t ∧ t = s.endRun i 4 0x0D ∧ ended t 0x0D))) ∧
  (∀ (s : State) (i state code : Nat), i < 16 → state < 8 → code < 256 →
    (s.endRun i state code).stdState i = state ∧
    (s.endRun i state code).gf (Reg.STD_STATUS i) Fld.STD_STATUS_run_code = code ∧
    (∀ g ∈ s.coresOf i, (s.endRun i state code).core g =
      { CoreSt.zero with fenced := (s.core g).fenced, epoch := (s.core g).epoch }) ∧
    ((s.endRun i state code).stand i).handling = none ∧ ((s.endRun i state code).stand i).loaded = false)


/-- R234 to R240: the gate of the coming edge. The verdict is that no active core is late, no beat-ordered operation is
open, no sequencer is late and no clearing action due is incomplete; a verdict against counts into the streak of
holds. R63, R232, R238, R489: beat 0 makes a stand that is ready RUNNING; an edge whose gate held it repeats the beat
and counts the hold; an admitted edge ends the beat, or the run; under handling the edge stops the stand; a stopped stand
only counts its edges. R80, R274: at every edge of a run the halves number their nominal cycles from 0, and the frames
taken are finished; R368: the streams of a site whose link went down are unbound. R427: no gate and no edge comes while GTC
stands still. Rests on the model's assumptions 57, 59, 124. -/
def Obligations.GatesAndEdges : Prop :=
  (∀ (s : State) (i : Nat), i < 16 → s.clk.stopped = true → exec (.beatGate i) s = .next s ∧ ∀ ecc, exec (.gridEdge i ecc) s = .next s) ∧
  (∀ (s : State) (i : Nat), i < 16 → s.clk.stopped = false → s.stdState i = 2 → (s.stand i).gate = none → (s.stand i).stopped = false →
    ∃ t ok, exec (.beatGate i) s = .next t ∧ (t.stand i).gate = some ok ∧
      (ok = true ↔ (∀ e ∈ (s.stand i).copy.cores, s.coreLate i e.g = false ∧ s.boLate i e.g = false) ∧
        (∀ k ∈ s.tilesOf i, s.seqLate i k = false) ∧ s.clearLate i = false) ∧
      (t.stand i).streak = (if ok then 0 else min ((s.stand i).streak + 1) 0xFFFF) ∧
      (t.stand i).beat = (s.stand i).beat ∧ (t.stand i).grid = (s.stand i).grid) ∧
  (∀ (s : State) (i : Nat) (ecc : EdgeEcc), i < 16 → s.clk.stopped = false →
    let x := s.stand i
    let s0 := (((s.gtcTo x.edgeAt).nominalZero i).framesEdge i).sitesEdge i
    let on := fun (y : State) => y.setStand i { y.stand i with grid := x.grid + 1, gate := none }
    (s.stdState i = 1 → x.handling = none → s.startReady i = true → (∀ e ∈ x.copy.cores, e.g < 12288) →
      ∃ t, exec (.gridEdge i ecc) s = .next t ∧ t.stdState i = 2 ∧ (t.stand i).beat = 0 ∧ (t.stand i).grid = 1 ∧
        (t.stand i).gate = none ∧ t.gf (Reg.STD_GATE_LEVEL i) Fld.STD_GATE_LEVEL_level = x.copy.level % 8 ∧
        ∀ e ∈ x.copy.cores, (t.core e.g).running =
          ((s.core e.g).running || !((s.core e.g).fenced || s.openSite (towerOf e.g)))) ∧
    (RunsOn s i → x.gate = some false → ∃ t, exec (.gridEdge i ecc) s = .next t ∧ (t.stand i).beat = x.beat ∧
      (t.stand i).grid = x.grid + 1 ∧ (t.stand i).gate = none ∧ t.stdState i = 2 ∧
      t.gf (Reg.STD_HOLDS i) Fld.STD_HOLDS_holds =
        min (s.gf (Reg.STD_HOLDS i) Fld.STD_HOLDS_holds + 1) (2 ^ Fld.STD_HOLDS_holds.w - 1) ∧
      (∀ e ∈ x.copy.cores, (t.core e.g).nom = 0) ∧
      ((∀ k < 16, ∀ c < 6, ∀ q ∈ (s.ctx k c).circs, q.2.frame = []) → t.mem = s.mem)) ∧
    (RunsOn s i → x.gate = some true → ∃ t, exec (.gridEdge i ecc) s = .next t ∧
      t = (if (s0.admitEdge i ecc).stdState i = 2 then on (s0.admitEdge i ecc) else s0.admitEdge i ecc) ∧
      (t.stdState i = 2 ∨ t.stdState i = 3 ∨ t.stdState i = 4) ∧
      (t.stdState i = 2 → (t.stand i).beat = x.beat + 1 ∧ (t.stand i).grid = x.grid + 1 ∧ (t.stand i).gate = none ∧
        (t.stand i).streak = 0 ∧ (t.stand i).lastEdge = BitVec.ofNat 64 x.edgeAt)) ∧
    (s.stdState i = 2 → x.stopped = false → x.handling.isSome = true → ∀ ok, x.gate = some ok →
      ∃ t, exec (.gridEdge i ecc) s = .next t ∧
        t = on (if ok then (s0.stopStand i).admitEdge i ecc else (s0.stopStand i).holdEdge i) ∧
        (t.stand i).stopped = true ∧ (t.stand i).grid = x.grid + 1 ∧ ∀ g ∈ s.coresOf i, (t.core g).running = false) ∧
    (s.stdState i = 2 → x.stopped = true → ∃ t, exec (.gridEdge i ecc) s = .next t ∧ t = on s0 ∧
      (t.stand i).grid = x.grid + 1 ∧ (t.stand i).beat = x.beat))


/-- R225, R241, R247: the limits on holds. The 4,096th consecutive hold and a core in one wflag through 64 holds are
stand-fatal; after 64 holds with clear_late the clearing's actions that are not complete are given up and counted, a lane remap among
them, which waits for the next clearing, and the edge is admitted where the clearing alone held it. R76, R96, R155, R473: a spare's load. In a run its program is written and it waits for its clearing;
with no run it takes the place at once; a program whose digest differs leaves the place empty. A fenced core whose
interface holds nothing is powered off. R246, R422, R423, R446: the stages of a level change. Clocks restart 128 ticks
after the opening edge of a lowering; a raise changes its dividers 640 ticks after it where every core rail lies within 8 mV of the
level's voltage (R445); at 768 ticks the level holds, and the clearing waits for it no longer; nothing of it happens in a parked stand, or
while every clock stands (R426, R427). Rests on the model's assumptions 55, 56, 57, 58, 153. -/
def Obligations.HoldsSparesLevels : Prop :=
  (∀ (s : State) (i : Nat), RunsOn s i →
    let x := s.stand i
    (4096 ≤ x.streak → x.gate = some false → ∃ t, exec (.holdLimit i) s = .next t ∧
      (t.stand i).handling = some .fatal ∧ ∃ e : ErrInfo, t = s.standFatal i e ∧ e.code = 0x16 ∧
        e.detail = some (x.lateReg.toNat % 16) ∧ e.source = (if x.lateReg.getLsbD 0 then 0 else 6) ∧
        (x.lateReg.getLsbD 0 = true → e.gcore = some (natBits x.lateReg.toNat 4 14))) ∧
    (64 ≤ x.clearHeld → x.clearing ≠ [] ∨ s.remapsLate i ≠ [] → ∃ t, exec (.clearAbandon i) s = .next t ∧ (t.stand i).clearing = [] ∧
      (t.stand i).clearHolds = 0 ∧
      t.gf (Reg.STD_CLEAR_ABANDON i) Fld.STD_CLEAR_ABANDON_count =
        min (s.gf (Reg.STD_CLEAR_ABANDON i) Fld.STD_CLEAR_ABANDON_count + (x.clearing.length + (s.remapsLate i).length))
          (2 ^ Fld.STD_CLEAR_ABANDON_count.w - 1) ∧
      (∀ q ∈ s.remapsLate i, (q.2.1, q.2.2.1, q.2.2.2.1, 0) ∈ (t.tile q.1).laneRemap) ∧
      (t.stand i).gate = (if x.gate = some false ∧ x.lateReg.toNat % 16 = 8 then some true else x.gate)) ∧
    (∀ g, g < 12288 → s.standOf g = i → (s.core g).waiting = some .wflag → 64 ≤ (s.core g).waitHolds →
      ∃ t, exec (.wflagHoldLimit g) s = .next t ∧ (t.stand i).handling = some .fatal ∧
        t = s.standFatal i { ErrInfo.plain 0 0x13 with
          tile := some (tileOf g), site := some (siteOf g), gcore := some g, index := some (s.core g).pc })) ∧
  (∀ (s : State) (g i : Nat), g < 12288 →
    (i < 16 → (∀ k, k < i → ∀ y ∈ (s.stand k).spares, y.g ≠ g) →
      (∃ y ∈ (s.stand i).spares, y.g = g ∧ y.loaded = false ∧ y.failed = false) →
      (s.inRun i = false → ∃ t, exec (.spareLoadComplete g) s = .next t ∧
        (t.stand i).spares = (s.stand i).spares.filter (fun y => !(y.g == g)) ∧ (t.core g).fenced = false ∧
        (t.core g).running = false ∧ (t.core g).pc = 0 ∧ (∀ r, (t.core g).sr r = 0) ∧
        ∀ o, o < dmBytes → memGet t.mem (dmAddr g o) = 0) ∧
      (∀ pre e post, s.stdState i = 2 → (s.stand i).copy.cores = pre ++ e :: post → (∀ y ∈ pre, y.g ≠ g) → e.g = g →
        ∀ q, (s.stand i).copy.progs[e.prog]? = some q → sm3 (s.bytesAt i q.addr.toNat (32 * q.len)) = q.digest →
        ∃ t, exec (.spareLoadComplete g) s = .next t ∧ (t.core g).pc = e.start ∧ (t.core g).progLen = q.len ∧
          (t.core g).running = (s.core g).running ∧
          (∀ y ∈ (t.stand i).spares, y.g = g → y.loaded = true) ∧
          (t.stand i).clearing = (s.stand i).clearing.filter (fun c => decide (c ≠ .spare g)))) ∧
    ((s.core g).fenced = true → (s.core g).physical = true → (s.core g).ni = [] →
      ∃ t, exec (.fencedCorePowerOff g) s = .next t ∧ (t.core g).physical = false ∧
        t = s.setCore g { s.core g with physical := false })) ∧
  (∀ (s : State) (i : Nat), i < 16 →
    let x := s.stand i
    let a := Reg.STD_GATE_LEVEL i
    let next := s.gf a Fld.STD_GATE_LEVEL_next_level
    let div := fun (t : State) (w : Nat) => t.gf (Reg.CLK_SITE_DIV (w / 6) (w % 6))
    let active := fun (t : State) (w : Nat) => t.gf (Reg.CLK_SITE_ACTIVE (w / 6) (w % 6)) Fld.CLK_SITE_ACTIVE_mask
    let gated := fun (t : State) (v : Nat) => ∀ w ∈ s.towersOf i, natBit (active s w) 10 = true →
      div t w Fld.CLK_SITE_DIV_gated = v ∧ natBits (active t w) 0 9 = if v = 0 then 0x1FF else 0
    let well := fun (rails : List (Nat × Nat)) =>
      ∀ r ∈ rails, r.1 / 2 ∈ s.towersOf i → r.2 ≤ levelMv next + 8 ∧ levelMv next ≤ r.2 + 8
    ((s.pwrS i).parked = true ∨ s.clk.stopped = true → exec (.levelChangeClockRestart i) s = .next s ∧
      ∀ rails, exec (.levelRaiseDividerChange i rails) s = .next s ∧ exec (.levelChangeComplete i rails) s = .next s) ∧
    ((s.pwrS i).parked = false → s.clk.stopped = false →
      (x.levelPhase = .lowering → ∃ t, exec (.levelChangeClockRestart i) s = .next t ∧
        (t.stand i).levelPhase = .lowered ∧ t.gf a Fld.STD_GATE_LEVEL_level = next ∧ t.gtc = (s.gtcTo (x.lastEdge.toNat + 128)).gtc ∧
        gated t 0) ∧
      (x.levelPhase = .raising → ∀ rails,
        (well rails → ∃ t, exec (.levelRaiseDividerChange i rails) s = .next t ∧ (t.stand i).levelPhase = .raiseGated ∧ gated t 1 ∧
          ∀ w ∈ s.towersOf i, div t w Fld.CLK_SITE_DIV_div = levelDiv next) ∧
        (¬well rails → exec (.levelRaiseDividerChange i rails) s = .next (s.gtcTo (x.lastEdge.toNat + 640)))) ∧
      (x.levelPhase = .raiseGated → ∀ rails, ∃ t, exec (.levelChangeComplete i rails) s = .next t ∧ (t.stand i).levelPhase = .none ∧
        t.gf a Fld.STD_GATE_LEVEL_level = next ∧ (t.stand i).clearing = x.clearing.filter (fun c => decide (c ≠ .level next)) ∧
        gated t 0) ∧
      (x.levelPhase = .lowered → ∀ rails, ∃ t, exec (.levelChangeComplete i rails) s = .next t ∧ (t.stand i).levelPhase = .none ∧
        (t.stand i).clearing = x.clearing.filter (fun c => decide (c ≠ .level next)) ∧
        (well rails → t.regs = s.regs ∧ (t.stand i).railFrom = none) ∧
        (¬well rails → (t.stand i).railFrom = some (x.railFrom.getD x.levelFrom))) ∧
      (x.levelPhase = .none → x.railFrom ≠ none → s.inClearing i = true → ∀ rails, well rails →
        exec (.levelChangeComplete i rails) s =
          .next ((s.gtcTo (x.lastEdge.toNat + 768)).setStand i { x with railFrom := none }))))


/-- R327, R334 to R336: a request that is new in its flow and whose site answers leaves the arrivals and takes a normal
entry of its tile's ejection buffer, or, with those full, a place of the urgent reserve at age 7; the flow context
takes its epoch; new is what neither the context nor the reply cache knows (R349). R213, R214, R329, R334: an engine cycle serves the one request that waits. A load returns the bytes
at its address and stores nothing; a store writes exactly its bytes; an atomic add writes the sum and returns the old
value. Each leaves the buffer and sends its reply; a 64-byte load keeps the granules that it read while it waited.
Rests on the model's assumptions 8 and 137. -/
def Obligations.EjectionAndEngine : Prop :=
  (∀ (s : State) (t : Nat) (p : Pkt) (pre post : List Pkt), Arrived s t p pre post → p.kind = 0 →
    (s.setFlow t p.src.toNat ((s.flow t p.src.toNat).turn p)).known t p = .fresh → s.absentFor t p = false →
    ∃ u, exec (.requestArrival t) s = .next u ∧ u.mem = s.mem ∧ u.cores = s.cores ∧
      ((s.tile t).ejNormal.length < 512 → (u.tile t).rx = pre ++ post ∧ (u.tile t).ejNormal = (s.tile t).ejNormal ++ [p] ∧
        (u.tile t).ejReserve = (s.tile t).ejReserve ∧ u.flow t p.src.toNat = (s.flow t p.src.toNat).turn p) ∧
      (512 ≤ (s.tile t).ejNormal.length → 7 ≤ p.age.toNat → (u.tile t).rx = pre ++ post ∧
        (u.tile t).ejNormal = (s.tile t).ejNormal ∧ (u.tile t).ejReserve = (s.tile t).ejReserve ++ [{ p with age := 8 }])) ∧
  (∀ (s : State) (t a : Nat) (p : Pkt), Serves s t p a →
    let n := wBytes p.width
    let v := p.payload.toNat
    let serves := fun (q : State → Prop) (r : Pkt) =>
      ∃ u, exec (.engineCycle t []) s = .next u ∧ (u.tile t).ejNormal = [] ∧ Replied s u t r ∧ q u
    (p.op = 0x10 → serves (fun u => u.mem = s.mem) (p.replyTo 0 (some ((s.tile t).seen p (s.rd a n))))) ∧
    (p.op = 0x11 → serves (fun u => Stores s.mem u.mem a n v) (p.replyTo 0 none)) ∧
    (p.op = 0x18 → p.width.toNat ≤ 3 → serves (fun u => Stores s.mem u.mem a n (s.rd a n + v % 2 ^ (8 * n)))
      (p.replyTo 0 (some (s.rd a n)))))


/-- R90, R91, R334: a reply with data and status ok writes its register, frees the scoreboard entry and the interface
slot, and is named in a confirm; an acknowledgement frees the slot and the window unit. A confirm that arrives frees
the reply-cache entries that it names and is acknowledged. R211, R334: a packet of a core that has been sent and is
not answered waits at injection again, with its number; the core counts the retransmission. Rests on the model's
assumption 35. -/
def Obligations.RepliesAndRetransmission : Prop :=
  (∀ (s : State) (t : Nat) (p : Pkt) (pre post : List Pkt), Arrived s t p pre post →
    let g := p.src.toNat
    let c := s.core g
    let mine := fun n => g < 12288 ∧ p.kind = 1 ∧ s.siteAbsent (towerOf g) = false ∧ s.openSite (towerOf g) = false ∧
      s.inwardHeld g = false ∧ c.fenced = false ∧ c.niFind p.srcTile p.seq p.epoch = some n ∧ n.pkt.src = p.src ∧
      p.count.toNat % 16 = 0
    (∀ n d, mine n → p.count.getLsbD 4 = true → returnsData n.pkt.op = true → n.dest = some d →
      ∃ u, exec (.replyArrival ⟨t, .clean⟩) s = .next u ∧ u.mem = s.mem ∧ (u.core g).ni = c.ni.erase n ∧
        (u.core g).get d = d.after (BitVec.ofNat 65536 (p.payload.toNat % 2 ^ (8 * wBytes n.pkt.width))) ∧
        (∀ e ∈ (u.core g).sb, e.wait ≠ .remote n.pkt.dst n.pkt.seq) ∧
        ∃ q ∈ (u.tile t).confirms, q.dst = p.srcTile ∧ (p.src, p.seq) ∈ q.names) ∧
    (∀ n, mine n → p.count.getLsbD 4 = false → returnsData n.pkt.op = false → returnsData p.op = false →
      n.dest = none → ∃ u, exec (.replyArrival ⟨t, .clean⟩) s = .next u ∧ (u.core g).ni = c.ni.erase n ∧ (u.core g).s = c.s ∧
        (u.core g).v = c.v ∧ ∀ w, w ∈ (u.tile t).windows ↔
          w ∈ (s.tile t).windows ∧ ¬(w.dst = p.srcTile ∧ w.src = p.src ∧ w.seq = p.seq)) ∧
    (p.kind = 2 → ∃ u, exec (.confirmArrival t) s = .next u ∧ u.cores = s.cores ∧ u.mem = s.mem ∧
      (∀ e, e ∈ (u.tile t).cache ↔ e ∈ (s.tile t).cache ∧ ¬∃ k < p.count.toNat,
        natBits p.payload.toNat (32 * k) 14 = e.src.toNat ∧ natBits p.payload.toNat (32 * k + 16) 16 = e.seq.toNat) ∧
      Replied (s.setTile t { s.tile t with rx := pre ++ post }) u t (p.replyTo 0 none))) ∧
  (∀ (s : State) (t : Nat) (n : NiOp) (pre post : List NiOp),
    let g := n.pkt.src.toNat
    let c := s.core g
    t < 16 → s.tileOut t = false → g < 12288 → tileOf g = t → c.ni = pre ++ n :: post →
    (∀ m ∈ pre, ¬(m.pkt.dst = n.pkt.dst ∧ m.pkt.seq = n.pkt.seq)) → n.sent = true → n.grouped = false → n.acked = false →
    (∀ e ∈ (s.tile t).inject, e.pkt ≠ n.pkt) →
    ∃ u, exec (.retransmissionTimeout t n.pkt.src n.pkt.dst n.pkt.seq) s = .next u ∧
      (u.tile t).inject = (s.tile t).inject ++ [⟨n.pkt, 0, true⟩] ∧
      (u.core g).niRetrans = min (c.niRetrans + 1) (2 ^ 32 - 1) ∧
      u.ctr (s.coreCtr g 32) = s.ctr (s.coreCtr g 32) + (if c.fenced then 0 else 1) ∧
      (∃ m ∈ (u.core g).ni, m.pkt = n.pkt ∧ m.sent = false) ∧ u.mem = s.mem ∧ u.regs = s.regs)


/-- R324, R328, R339: a router cycle sends a cell in transit, or a reply at injection, on a free direct lane to its tile
where that lane carries light (R299, R313), unless it is lost on the way; a combinable request that has been held long enough is injected alone where no other
joins it, and takes a window unit; the tile is in service, with its clock (R430, R470). R346, R347: a fenced lane's channel is marked; with no run on the tile and the
group's spare unused, the lanes from its position on move up by one channel, and the others keep theirs. Rests on the
model's assumptions 36, 37, 38. -/
def Obligations.RouterAndLanes : Prop :=
  (∀ (s : State) (t : Nat) (p : Pkt), t < 16 → p.dst.toNat ≠ t → s.tileOut t = false → 0 < s.pairLanes t p.dst.toNat →
    s.lanesFree t p.dst.toNat ≠ [] → (∀ k ∈ s.lanesUp t p.dst.toNat, s.laneLit t p.dst.toNat k = true) →
    s.crossing p = false →
    let d := p.dst.toNat
    let x := s.tile t
    (x.rx = [p] → x.inject = [] → x.pool = [] → x.confirms = [] →
      (∃ u, exec (.routerCycle t []) s = .next u ∧ (u.tile d).rx = (s.tile d).rx ++ [p] ∧ (u.tile t).rx = [] ∧
        u.cores = s.cores ∧ u.mem = s.mem) ∧
      ∃ u, exec (.routerCycle t [0]) s = .next u ∧ (u.tile d).rx = (s.tile d).rx ∧ (u.tile t).rx = []) ∧
    (x.rx = [] → x.inject = [⟨p, 0, true⟩] → x.pool = [] → x.confirms = [] → p.kind = 1 →
      ∃ u, exec (.routerCycle t []) s = .next u ∧ (u.tile d).rx = (s.tile d).rx ++ [p] ∧ (u.tile t).inject = []) ∧
    (∀ k, x.inject = [⟨p, k, false⟩] → combinable p = true → (∀ w ∈ x.windows, w.dst ≠ p.dst) →
      s.gf (Reg.PKT_CFG t) Fld.PKT_CFG_comb_en ≠ 0 →
      ∃ u, exec (.combHoldExpiry t) s = .next u ∧ (u.tile d).rx = (s.tile d).rx ++ [p] ∧ (u.tile t).inject = [] ∧
        (u.tile t).windows = x.windows ++ [⟨p.dst, p.src, p.seq, !p.isBo⟩] ∧ u.mem = s.mem)) ∧
  (∀ (s : State) (t q l : Nat), t < 16 → q < 2 → l < 30 →
    let ch := s.laneByte t q l % 64
    ch < 33 → natBit (s.gf (Reg.PKT_LANE_FENCED t q) Fld.PKT_LANE_FENCED_ch) ch = false → natBit (s.laneByte t q l) 6 = false →
    natBit (s.gf (Reg.PKT_LANE_GROUP t q) Fld.PKT_LANE_GROUP_spare_used) (l / 10) = false →
    natBit (s.gf (Reg.PKT_LANE_GROUP t q) Fld.PKT_LANE_GROUP_remap_pending) (l / 10) = false → s.tileStand t = none →
    ∃ u, exec (.laneFence t q l) s = .next u ∧
      natBit (u.gf (Reg.PKT_LANE_FENCED t q) Fld.PKT_LANE_FENCED_ch) ch = true ∧
      natBit (u.gf (Reg.PKT_LANE_GROUP t q) Fld.PKT_LANE_GROUP_spare_used) (l / 10) = true ∧
      ∀ k < 30, u.laneByte t q k % 64 =
        if k / 10 = l / 10 ∧ l ≤ k then (s.laneByte t q k % 64 + 1) % 64 else s.laneByte t q k % 64)


/-- R270, R287: open takes a listener of the trunk that is free, which starts toward the slot's channel, and the handle is
open from the present beat. R278, R285: the management context's swap makes the trunk's spare channel the slot's, at
once where no running stand owns the slot, at its stand's clearing otherwise; its park parks a listener or a
modulator. Rests on the model's assumption 7. -/
def Obligations.CircuitsAndManagement : Prop :=
  (∀ (s : State) (t x : Nat) (c : BitVec 8) (u : BitVec 4) (h : BitVec 3) (slot : BitVec 5) (pd : Bool),
    SeqRuns s t x (seqOpenWord c.toNat u.toNat h.toNat slot.toNat (boolNat pd)) →
    let k := s.ctx t x
    let f := foreignTrunk t u.toNat h.toNat
    s.slotOwner u.toNat h.toNat slot.toNat = some k.stand → k.active < s.quota t k.stand → u.toNat ≠ t →
    s.freeListeners t f ≠ [] → (k.circ c.toNat).isOpen = false →
    (if pd then natBit (s.slotMask u.toNat h.toNat slot.toNat) t = true else s.slotMask u.toNat h.toNat slot.toNat = 0) →
    ∃ v l, exec (.seqOpen t x c u h slot pd) s = .next v ∧ l ∈ s.freeListeners t f ∧
      (v.ctx t x).circ c.toNat = { Circ.zero with
        isOpen := true, src := u.toNat, trunk := h.toNat, slot := slot.toNat, pd := pd, listener := l,
        openBeat := (s.stand k.stand).beat, openGrid := (s.stand k.stand).grid } ∧
      (∀ e, e ≠ c.toNat → (v.ctx t x).circ e = k.circ e) ∧ (v.ctx t x).pc = k.pc + 1 ∧ v.listener t l =
        { s.listener t l with
          mode := .moving, ch := s.slotCh u.toNat h.toNat slot.toNat, user := some (x, c.toNat), lost := false } ∧
      (∀ j, j ≠ l → v.listener t j = s.listener t j) ∧ v.mem = s.mem ∧ v.regs = s.regs) ∧
  (∀ (s : State) (t : Nat) (h : BitVec 3) (slot : BitVec 5) (ch : BitVec 6), t < 16 →
    let a := Reg.OPT_TRUNK_STATE t h.toNat
    let own := s.slotOwner t h.toNat slot.toNat
    (s.spareCh t h.toNat = ch.toNat → ch ≠ 0x3F → s.gf a Fld.OPT_TRUNK_STATE_swap_pending = 0 →
      ((∀ i, own = some i → s.inRun i = false) → ∃ u, exec (.seqSwap t 6 h slot ch) s = .next u ∧
        u.slotCh t h.toNat slot.toNat = ch.toNat ∧ u.mem = s.mem) ∧
      (∀ i, own = some i → s.inRun i = true → ∃ u, exec (.seqSwap t 6 h slot ch) s = .next u ∧
        u.gf a Fld.OPT_TRUNK_STATE_swap_pending = 1 ∧ u.gf a Fld.OPT_TRUNK_STATE_swap_slot = slot.toNat ∧
        u = { s with regs := u.regs } ∧ ∀ b, b ≠ a → u.reg b = s.reg b)) ∧
    (∀ l : BitVec 11, l.toNat < 1080 → (s.listener t l.toNat).mode ≠ .fenced →
      ∃ u, exec (.seqPark t 6 true h ch l) s = .next u ∧ u.listener t l.toNat =
        { s.listener t l.toNat with mode := .parked, user := none, lost := false } ∧
        (∀ j, j ≠ l.toNat → u.listener t j = s.listener t j) ∧ u = { s with fab := u.fab }) ∧
    (ch.toNat < 33 → ∃ u, exec (.seqPark t 6 false h ch 0) s = .next u ∧
      natBit (u.gf (Reg.OPT_CH_PARKED t h.toNat) Fld.OPT_CH_PARKED_ch) ch.toNat = true ∧ u = { s with regs := u.regs } ∧
      ∀ b, b ≠ Reg.OPT_CH_PARKED t h.toNat → u.reg b = s.reg b))


/-- R244, R272, R273, R280, R284 to R286: the other context instructions, each where its word stands at the context's pc. close,
bind, unbind and mcast take effect at the admitted edge; wait stalls for a later beat; loop, jump and note go on at once, in a
clearing beat too; one that acts is refused in a clearing beat. Rests on the model's assumption 17. -/
def Obligations.SequencerInstructions : Prop :=
  ∀ (s : State) (t x : Nat), t < 16 → x < 6 →
    let k := s.ctx t x
    let i := k.stand
    let beat := (s.stand i).beat
    let runs := fun (w : Nat) => s.ctxRuns t x w = true
    let acts := fun (j : Instr) (w : Nat) (ok : Prop) (a : EdgeAct) => runs w →
      (s.inClearing i = true → exec j s = .next (s.seqRefuse t x 0x17 0x17)) ∧
      (s.inClearing i = false → ok → SeqDoes s j t x (k.will a) (k.pc + 1))
    (∀ c : BitVec 8, acts (.seqClose t x c) (seqCloseWord c.toNat) ((k.circ c.toNat).isOpen = true) (.shut c.toNat)) ∧
    (∀ (h : BitVec 3) (slot : BitVec 5) (mask : BitVec 16),
      acts (.seqMcast t x h slot true mask) (seqMcastWord h.toNat slot.toNat 1 mask.toNat)
        (s.slotOwner t h.toNat slot.toNat = some i ∧ 1 ≤ (maskTiles mask.toNat).length ∧ (maskTiles mask.toNat).length ≤ 4 ∧
          natBit mask.toNat t = false ∧ ∀ y ∈ maskTiles mask.toNat, y ∈ s.tilesOf i) (.mcast h.toNat slot.toNat mask.toNat) ∧
      acts (.seqMcast t x h slot false 0) (seqMcastWord h.toNat slot.toNat 0 0)
        (s.slotOwner t h.toNat slot.toNat = some i ∧ pdHeld s t i h.toNat slot.toNat = false) (.mcast h.toNat slot.toNat 0)) ∧
    (∀ (e : BitVec 8) (mask : BitVec 6) (off : BitVec 21) (lines : BitVec 16) (ring : BitVec 2), lines ≠ 0 →
      let b : Binding := ⟨beat, mask, off.toNat, lines.toNat, ring.toNat⟩
      let q := k.circ e.toNat
      let word := fun (dir : Nat) => seqBindWord dir e.toNat mask.toNat off.toNat lines.toNat ring.toNat
      acts (.seqBind t x false e mask off lines ring) (word 0)
        (s.slotOwner t (e.toNat / 32) (e.toNat % 32) = some i ∧
          bindBad s t i (decide (s.slotMask t (e.toNat / 32) (e.toNat % 32) ≠ 0)) false mask off.toNat lines.toNat ring.toNat = false)
        (.bindSend e.toNat b) ∧
      acts (.seqBind t x true e mask off lines ring) (word 1)
        (q.isOpen = true ∧ bindBad s t i (decide (s.slotMask q.src q.trunk q.slot ≠ 0)) true mask off.toNat lines.toNat ring.toNat =
          false) (.bindRecv e.toNat b)) ∧
    (∀ e : BitVec 8,
      acts (.seqUnbind t x false e) (seqUnbindWord 0 e.toNat) ((sget none k.sends e.toNat).isSome = true) (.unbindSend e.toNat) ∧
      acts (.seqUnbind t x true e) (seqUnbindWord 1 e.toNat) ((k.circ e.toNat).bind.isSome = true) (.unbindRecv e.toNat)) ∧
    (∀ (rel : Bool) (v : BitVec 48), runs (seqWaitWord (boolNat rel) v.toNat) →
      let target := if rel then beat + v.setWidth 64 else v.setWidth 64
      (beat.toNat < target.toNat → ∃ u, exec (.seqWait t x rel v) s = .next u ∧ CtxOnly s u t x ∧
        u.ctx t x = { k with state := 3, wait := some target, pc := k.pc + 1 }) ∧
      (target.toNat ≤ beat.toNat → SeqDoes s (.seqWait t x rel v) t x k (k.pc + 1))) ∧
    (∀ (n : BitVec 2) (count target : BitVec 16), count ≠ 0 → runs (seqLoopWord n.toNat count.toNat target.toNat) →
      let left := (if sget 0 k.cnt n.toNat = 0 then count.toNat else sget 0 k.cnt n.toNat) - 1
      SeqDoes s (.seqLoop t x n count target) t x { k with cnt := sset 0 k.cnt n.toNat left }
        (if 0 < left then target.toNat else k.pc + 1)) ∧
    (∀ target : BitVec 12, runs (seqJumpWord target.toNat) → SeqDoes s (.seqJump t x target) t x k target.toNat) ∧
    (∀ v : BitVec 48, runs (seqNoteWord v.toNat) → ∃ u, exec (.seqNote t x v) s = .next u ∧ u.ctx t x = k.goto (k.pc + 1) ∧
      u.reg (Reg.FAB_NOTE_VALUE t x) = v.setWidth 64 ∧ u.reg (Reg.FAB_NOTE_BEAT t x) = beat ∧
      u = { s with fab := u.fab, regs := u.regs })


/-- R265, R268, R273, R274: the verdict on a bound circuit's frame once it has ended. A frame of a ready, lit circuit whose head and
trailer hold the framing words of the circuit's tag, stand, slot, half, beat and lines, zeros beside them, and the CRC-32C of the
lines is taken, each line from the send region of the beat to the receive regions, and no other memory changes; a frame longer
than the region is error 0x19; any other frame is flagged, counted and dropped. At the edge a frame that was taken has its lines
at every place where one is still to be written, and changes no other memory; one that was not writes nothing. R260, R271, R295, R296: a listener whose codeword
carries a foreign tag, or whose move ends on one, is on its way again and counts a mislock; one that relocked within the last
second is fenced, as is one whose tag is not verified within 40,000 ticks of its mislock; a move that ends with its tag verified
drops the channel; in the dark, and in a tile in its warm start or without its clock, no tag is verified (R307, R313, R430). Rests on the model's assumptions 34,
46, 124, 127. -/
def Obligations.FramesAndListeners : Prop :=
  (∀ (s : State) (t x c : Nat) (b : Binding) (seen : FrameSeen),
    let k := s.ctx t x
    let q := k.circ c
    let i := k.stand
    let n := (s.stand i).beat.toNat
    let s1 := (if q.frame = [] then s.setHandle t x c { q with frame := s.frameOf t i q } else s).frameRead t x c
    let q1 := (s1.ctx t x).circ c
    t < 16 → x < 6 → c < 256 → k.state ≠ 0 → q.isOpen = true → q.bind = some b → q.judged = false → s.stdState i = 2 →
    s.inClearing i = false →
    (seen.ended = true → seen.codewords = false ∨ seen.lock = false ∨ s.circLit q = false ∨ s.circReady t i q = false ∨
      s.headOk i q seen = false ∨ s1.trailerOk i q1 seen = false → ∃ u, exec (.frameVerdict t x c seen) s = .next u ∧
        (u.ctx t x).circ c = { q with frame := [], judged := true, flagNow := true, flagged := min (q.flagged + 1) (2 ^ 32 - 1) } ∧
        (∀ e, e ≠ c → (u.ctx t x).circ e = k.circ e) ∧ u.mem = s.mem ∧ u.cores = s.cores ∧ u.regs = s.regs) ∧
    (seen.ended = false → s.frameComes t i q seen = false → exec (.frameVerdict t x c seen) s = .next s) ∧
    ∀ f, q.frame = [] → q.src < 16 → q.trunk < 8 → q.slot < 32 → i < 16 → s.circLit q = true → s.circReady t i q = true →
      s.gf (Reg.OPT_TRUNK_STATE q.src q.trunk) Fld.OPT_TRUNK_STATE_cal_ch ≠ s.circCh q →
      s.sendOf q.src i q.trunk q.slot = some f → f.lines < 2 ^ 16 →
      let tag := 16 * (8 * q.src + q.trunk) + s.circCh q % 16
      let half := if s.slotMask q.src q.trunk q.slot = 0 then 0 else 1
      let block := fun (kind crc : Nat) => some (framingBytes (framingWord tag kind i q.slot half f.lines n) crc)
      let j : Instr := .frameVerdict t x c ⟨true, block 1 0, block 2 (frameCrc q1.frame), true, true⟩
      (f.lines ≤ b.lines → ∃ u, exec j s = .next u ∧ ((u.ctx t x).circ c).judged = true ∧
        ((u.ctx t x).circ c).flagged = q.flagged ∧ ((u.ctx t x).circ c).frame.length = f.lines ∧
        (∀ l y, ((u.ctx t x).circ c).frame[l]? = some y →
          y.src = tsAddr (6 * q.src + f.site) (64 * (f.first n + l)) ∧
          (y.dsts = ((upto 6).filter fun d => b.mask.getLsbD d).map fun d => tsAddr (6 * t + d) (64 * (b.first n + l))) ∧
          (∀ d ∈ y.left, d ∈ y.dsts) ∧ (y.data = none → y.left = y.dsts) ∧
          (s.poisoned y.src = false → s.pushedLine i q l = none → y.data = some (BitVec.ofNat 512 (s.rd y.src 64)))) ∧
        ∀ a, (∀ y ∈ ((u.ctx t x).circ c).frame, ∀ d ∈ y.dsts, a < d ∨ d + 64 ≤ a) → memGet u.mem a = memGet s.mem a) ∧
      (b.lines < f.lines → exec j s = .next ((s1.setHandle t x c { q1 with frame := [], judged := true }).standFatal i
        { ErrInfo.plain 6 0x19 with tile := some t, detail := some c }))) ∧
  (∀ (s : State) (t x c : Nat),
    let q := (s.ctx t x).circ c
    let ls := q.frame
    let ds := ls.flatMap (·.left)
    (q.judged = false ∨ q.flagNow = true → (s.finishFrame t x c).mem = s.mem) ∧
    (q.judged = true → q.flagNow = false → (∀ y ∈ ls, y.data = none → s.poisoned y.src = false) →
      (ds.Pairwise fun a d => a + 64 ≤ d ∨ d + 64 ≤ a) →
      (∀ y ∈ ls, y.data = none → ∀ d ∈ ds, y.src + 64 ≤ d ∨ d + 64 ≤ y.src) →
      (∀ y ∈ ls, ∀ d ∈ y.left,
        memRead (s.finishFrame t x c).mem d 64 = (y.data.getD (BitVec.ofNat 512 (s.rd y.src 64))).toNat) ∧
      ∀ a, (∀ d ∈ ds, a < d ∨ d + 64 ≤ a) → memGet (s.finishFrame t x c).mem a = memGet s.mem a)) ∧
  (∀ (s : State) (t l : Nat), t < 16 → l < 1080 →
    let x := s.listener t l
    let strays := fun (j : Instr) =>
      (s.recent x.relockAt = true → exec j s = .next (s.fenceListener t l)) ∧
      (s.recent x.relockAt = false → ∃ u, exec j s = .next u ∧
        u.listener t l = { x with mode := .moving, mislockAt := some (x.mislockAt.getD s.gtc) } ∧
        (∀ m, m ≠ l → u.listener t m = s.listener t m) ∧ u.mem = s.mem ∧
        u.gf (Reg.OPT_LOCK_EVENTS t) Fld.OPT_LOCK_EVENTS_mislock =
          min (s.gf (Reg.OPT_LOCK_EVENTS t) Fld.OPT_LOCK_EVENTS_mislock + 1) (2 ^ Fld.OPT_LOCK_EVENTS_mislock.w - 1))
    (s.tileOut t = true → ∀ blocks fixed tag, exec (.framingCodeword t l blocks fixed) s = .next s ∧
      exec (.relockTimeout t l) s = .next s ∧ exec (.listenerMoveComplete t l tag) s = .next s) ∧
    (s.tileOut t = false →
      (∀ blocks b, x.mode = .drop → framingBlock blocks = some b →
        (b.toNat % 16 ≠ x.ch % 16 → strays (.framingCodeword t l blocks true)) ∧
        (b.toNat % 16 = x.ch % 16 → exec (.framingCodeword t l blocks true) s = .next s)) ∧
      (x.mode = .moving →
        (∀ m, x.mislockAt = some m → exec (.relockTimeout t l) s = .next ((s.gtcTo (m.toNat + 40000)).fenceListener t l)) ∧
        ∀ tag : BitVec 12, (s.dark = true → exec (.listenerMoveComplete t l tag) s = .next s) ∧
        (s.dark = false →
          (tag.toNat % 16 ≠ x.ch % 16 → strays (.listenerMoveComplete t l tag)) ∧
          (tag.toNat % 16 = x.ch % 16 → ∃ u, exec (.listenerMoveComplete t l tag) s = .next u ∧
            u = { s with fab := u.fab, stands := u.stands, regs := u.regs } ∧
            (∀ j, j ≠ l → (s.listener t j).mode ≠ .fenced → u.listener t j = s.listener t j) ∧ u.listener t l =
              { x with mode := if x.user.isSome then .drop else .parked, mislockAt := none, lost := false,
                       relockAt := if x.mislockAt.isSome then some s.gtc else x.relockAt })))) ∧
    (x.mode ≠ .fenced → ((s.fenceListener t l).listener t l) = { x with mode := .fenced, mislockAt := none, lost := false }))


/-- R290, R293, R294, R298: a lock-loop update of a ring in service moves its heater by its feed-forward term within its window,
corrects its bias by at most 0.9 GHz, and takes or gives its lock: lost beyond ±8 GHz, had again after eight updates within ±4
GHz; a ring that loses lock is counted, and a listener's frames are flagged; R305: a converter under recalibration keeps its code;
R36, R307, R430: in a tile in its warm start or without its clock and after a thermal trip no loop runs. An intruder that a receiver in lock sees on its own
trunk is told to the tile that modulates the channel. R298, R299: an intruder message parks the modulator, its heater at the
calibrated code within its window, out of lock and its loop begun anew, and names it; one that intrudes again within a second of its
parking, or that has not relocked within 40,000 ticks, has its channel fenced; one that has relocked, or whose channel is fenced
already, changes nothing more. Rests on the model's
assumptions 39, 40, 41. -/
def Obligations.RingsAndModulators : Prop :=
  (∀ (s : State) (t conv : Nat) (seen : LoopSeen) (dim : Bool), t < 16 → conv < 3264 →
    (s.tileOut t = true ∨ s.tripped = true → ∀ o, exec (.lockLoopUpdate t conv seen dim o) s = .next s) ∧
    (s.inService t (ringOf conv) = true → s.tileOut t = false → s.tripped = false → (s.fabT t).heaterFail = false →
    let l0 := sget LoopSt.zero (s.fabT t).loops conv
    let r := l0.turn (s.loopTerms t conv) seen dim
    let was := (s.fabT t).lostRings.contains conv
    let now := r.2.2.1 || (was && !r.2.2.2)
    let w := s.codeWindow t
    ((8000 < seen.err ∨ seen.err < -8000 → now = true) ∧
      (-4000 ≤ seen.err → seen.err ≤ 4000 → dim = false → 7 ≤ l0.good → now = false) ∧
      (l0.n < 63 → r.2.1 = (match l0.terms with | some p => (s.loopTerms t conv).1 - p.1 | none => 0) ∧
        r.1.bias = max (-10000) (min 10000 (l0.bias + max (-900) (min 900 (-seen.err)))))) ∧
    (∃ u, exec (.lockLoopUpdate t conv seen dim none) s = .next u ∧ u.mem = s.mem ∧ u.cores = s.cores ∧
      ((u.trim t conv).code = if s.trimStale t conv then (s.trim t conv).code
        else BitVec.ofInt 12 (max w.1 (min w.2 (((s.trim t conv).code.toNat : Int) + r.2.1)))) ∧
      (s.trimStale t conv = false → sget LoopSt.zero (u.fabT t).loops conv = r.1) ∧ (u.fabT t).lostRings.contains conv = now ∧
      (was = false → now = true → u.gf (Reg.OPT_LOCK_EVENTS t) Fld.OPT_LOCK_EVENTS_lock_lost =
        min (s.gf (Reg.OPT_LOCK_EVENTS t) Fld.OPT_LOCK_EVENTS_lock_lost + 1) (2 ^ Fld.OPT_LOCK_EVENTS_lock_lost.w - 1)) ∧
      (∀ l, ringOf conv = .listener l → was = false → now = true →
        (u.listener t l).lost = true ∧ (u.listener t l).mode = (s.listener t l).mode)) ∧
    ∀ n ch v, ringOf conv = .inboxRx n → now = false → ch < 33 → ch ≠ n % 33 →
      s.modTile (128 + 2 * t + n / 33) ch = some v →
      ∃ u p, exec (.lockLoopUpdate t conv seen dim (some (128 + 2 * t + n / 33, ch))) s = .next u ∧
        (u.tile t).inject = (s.tile t).inject ++ [⟨p, 0, true⟩] ∧ p.kind = 3 ∧ p.dst = BitVec.ofNat 4 v ∧
        p.payload = BitVec.ofNat 512 (128 + 2 * t + n / 33 + ch * 2 ^ 16))) ∧
  (∀ (s : State) (tr ch u : Nat) (rest : List (Nat × Nat)), tr < 160 → ch < 33 → u < 16 → s.tileOut u = false →
    (s.fabT u).msgs = (tr, ch) :: rest → (∀ v, v < u → (tr, ch) ∉ (s.fabT v).msgs) →
    let s1 := s.setFab u { s.fabT u with msgs := rest }
    let a := Reg.OPT_MOD_PARK_LAST u
    (s.chFenced tr ch = true → exec (.intruderMessage tr ch) s = .next s1) ∧
    (s.chFenced tr ch = false →
      (s.modPark u tr ch = none ∨ (∃ m, s.modPark u tr ch = some m ∧ m.parked = false ∧ s.recent (some m.since) = false) →
        ∃ v, exec (.intruderMessage tr ch) s = .next v ∧ v.modPark u tr ch = some ⟨true, s.gtc, 0⟩ ∧
          (v.trim u (s.modConv u tr ch)).code = windowCode (s.codeWindow u) (s.trim u (s.modConv u tr ch)).cal ∧
          (v.fabT u).msgs = rest ∧ (v.fabT u).lostRings.contains (s.modConv u tr ch) = true ∧
          sget LoopSt.zero (v.fabT u).loops (s.modConv u tr ch) = LoopSt.zero ∧
          v.gf a Fld.OPT_MOD_PARK_LAST_trunk = tr ∧ v.gf a Fld.OPT_MOD_PARK_LAST_channel = ch ∧
          v.gf a Fld.OPT_MOD_PARK_LAST_fenced = 0 ∧ v.gf a Fld.OPT_MOD_PARK_LAST_valid = 1 ∧
          (tr < 128 → natBit (v.gf (Reg.OPT_CH_PARKED (tr / 8) (tr % 8)) Fld.OPT_CH_PARKED_ch) ch = true)) ∧
      ∀ m, s.modPark u tr ch = some m →
        (m.parked = false → s.recent (some m.since) = true →
          exec (.intruderMessage tr ch) s = .next (s1.fenceMod u tr ch true)) ∧
        (m.parked = true → exec (.intruderMessage tr ch) s = .next (s1.setModPark u tr ch (some { m with clean := 0 })))) ∧
    ∀ m, s.modPark u tr ch = some m → m.parked = true → s.modTile tr ch = some u →
      exec (.modulatorRelockTimeout tr ch) s = .next (if (s.fabT u).lostRings.contains (s.modConv u tr ch) then
        (s.gtcTo (m.since.toNat + 40000)).fenceMod u tr ch false else s))


/-- R257, R300 to R302: a rotation step gives the slot with the oldest calibration the spare channel, or takes up the
channel whose calibration was abandoned while it is still the spare; home trunk 0's steps also begin to recalibrate an idle front end, whose TIA offset is stale
until that is over (R301, R305). A calibration's end writes
the heater's code, within its window (R290), and the bias, counts and stamps them, records the launch power, and makes
the channel the spare at once where no running stand owns a slot of the trunk, for a slot whose channel is fenced to take (R279). R309 to R312, R318: a heater supply's
failure blocks what its map names; an armed input's sudden loss opens the loop with cause 1; a weak active input is
ramped out for the third; an input without pilot in the pilot wait has its monitor fenced. After a thermal trip, and while every
clock stands, nothing is calibrated (R36, R427). Rests on the model's
assumptions 42, 49, 50. -/
def Obligations.CalibrationsAndInputs : Prop :=
  (∀ (s : State) (t h : Nat) (found : CalFound), t < 16 → h < 8 →
    (s.tripped = true ∨ s.clk.stopped = true →
      exec (.rotationStep t h) s = .next s ∧ exec (.calibrationComplete t h found) s = .next s) ∧
    (s.tripped = false → s.clk.stopped = false →
    let a := Reg.OPT_TRUNK_STATE t h
    let n := s.gf a Fld.OPT_TRUNK_STATE_cal_ch
    let sp := s.spareCh t h
    let s1 := if h = 0 then s.tiaStep t else s
    (s.gf (Reg.OPT_ROT_CFG t) Fld.OPT_ROT_CFG_enable = 1 → sp ≠ 0x3F → n = 0x3F →
      s.gf a Fld.OPT_TRUNK_STATE_swap_pending = 0 → sget 0 (s.fabT t).swapOld h = 0 →
      (sget 0 (s.fabT t).calWas h ≠ sp + 1 → exec (.rotationStep t h) s =
        .next ((s1.setFab t { s1.fabT t with calWas := sset 0 (s.fabT t).calWas h 0 }).swapAsk t h (s.oldestSlot t h))) ∧
      (sget 0 (s.fabT t).calWas h = sp + 1 → exec (.rotationStep t h) s =
        .next ((s1.writes [(a, Fld.OPT_TRUNK_STATE_spare, 0x3F), (a, Fld.OPT_TRUNK_STATE_cal_ch, sp)]).setFab t
          { s1.fabT t with calWas := sset 0 (s.fabT t).calWas h 0 }))) ∧
    ((∃ f, f < 256 ∧ s.frontIdle t f = true) → (s.fabT t).tiaNow = none → ∃ f, f < 256 ∧ s.frontIdle t f = true ∧
      (s.tiaStep t) = s.setFab t { s.fabT t with tia := (f + 1) % 256, tiaNow := some f } ∧
      (s.tiaStep t).trimStale t (2814 + f) = true) ∧
    (∀ k, k < 32 → s.oldestSlot t h < 32 ∧ (s.reg (Reg.OPT_CH_CAL_GTC t h (s.slotCh t h (s.oldestSlot t h)))).toNat ≤
      (s.reg (Reg.OPT_CH_CAL_GTC t h (s.slotCh t h k))).toNat) ∧
    (n < 33 → sget 0 (s.fabT t).calDone h = 0 → ∃ u, exec (.calibrationComplete t h found) s = .next u ∧
      (let w := s.codeWindow t
       let v := BitVec.ofInt 12 (max w.1 (min w.2 (found.heater.toNat : Int)))
       u.trim t (33 * h + n) = { s.trim t (33 * h + n) with
         code := v, cal := v, count := (s.trim t (33 * h + n)).count + 1, gtc := s.gtc }) ∧
      u.trimStale t (33 * h + n) = false ∧
      (u.trim t (264 + 33 * h + n)).code = found.bias.setWidth 12 ∧ sget 0 (u.fabT t).power (33 * h + n) = found.power ∧
      u.mem = s.mem ∧ u.cores = s.cores ∧
      (s.trunkRuns t h = false → ∃ y, y.spareCh t h = n ∧ y.gf a Fld.OPT_TRUNK_STATE_cal_ch = 0x3F ∧ u = y.swapNext t h ∧
        ((∀ k < 32, s.slotLost t h k = false) → u = y)) ∧
      (s.trunkRuns t h = true → u.spareCh t h = sp ∧ u.gf a Fld.OPT_TRUNK_STATE_cal_ch = n)))) ∧
  (∀ (s : State) (t k : Nat), t < 16 → k < 3 →
    let a := Reg.OPT_FIBRE t k
    let err : ErrInfo := { ErrInfo.plain 4 9 with tile := some t, detail := some k }
    exec (.heaterSupplyFail t) s = .next (s.block t) ∧
    (s.gf a Fld.OPT_FIBRE_armed = 1 → ∃ v, v < 200 ∧ exec (.fibreSuddenLoss t k) s =
      .next ((s.weakCheck t (some k) (({ s with freeCtr := s.freeCtr + 1 }).writes
        [(a, Fld.OPT_FIBRE_tap, v), (a, Fld.OPT_FIBRE_loss_seen, 1)])).ilkOpen 1 (some t) (some k))) ∧
    (s.gf a Fld.OPT_FIBRE_active = 1 → (s.fabT t).switchOut = none → s.ilkPhase = 0 →
      let third := (s.usable t).find? fun j => j != k && s.gf (Reg.OPT_FIBRE t j) Fld.OPT_FIBRE_active == 0
      (third = none → exec (.fibreSwitch t k) s = .next (s.contained err)) ∧
      ∀ j, third = some j → ∃ u, exec (.fibreSwitch t k) s = .next u ∧ (u.fabT t).switchOut = some k ∧
        u.gf (Reg.OPT_FIBRE t j) Fld.OPT_FIBRE_active = 1 ∧ u.gf a Fld.OPT_FIBRE_switching = 1 ∧
        u.gf a Fld.OPT_FIBRE_tap < 500 ∧ u.mem = s.mem ∧ u.cores = s.cores ∧
        ∀ h < 8, u.gf (Reg.OPT_TRUNK_STATE t h) Fld.OPT_TRUNK_STATE_cal_ch = 0x3F) ∧
    ((s.fabT t).switchOut = some k → exec (.fibreSwitchComplete t) s =
      .next ((s.writes [(a, Fld.OPT_FIBRE_active, 0), (a, Fld.OPT_FIBRE_switching, 0)]).setFab t
        { s.fabT t with switchOut := none })) ∧
    (s.ilkPhase = 2 → s.gf a Fld.OPT_FIBRE_fenced = 0 → exec (.pilotMissing t k) s =
      .next ((((s.writes [(a, Fld.OPT_FIBRE_fenced, 1), (a, Fld.OPT_FIBRE_loss_seen, 1), (a, Fld.OPT_FIBRE_pilot, 0)]).contained
        err).dead 8 t 0xFF k 0 0).chooseInputs t)))


/-- R313 to R316: the phases of the laser_ilk loop. From open, a close request begins the pilot wait; it ends where every
connector is mated, every input lit and no thermal trip stands; full power at every input begins the relock, and a tile with
fewer than two inputs above 0.50 W is named then (R312); a ramp
that times out opens the loop again with cause 5; the relock's end makes the optics ready. An open request opens it
with cause 3, refused while a stand runs. R306: a monitor reading is started by the host and shows, when done, its
value and whether its loop is stale. Rests on the model's assumptions 47, 48. -/
def Obligations.LaserLoopAndMonitors : Prop :=
  (∀ (s : State) (p : Nat) (conn : BitVec 3) (pilot : BitVec 48) (taps : List Reading),
    let st := Reg.OPT_ILK_STATUS
    let full := s.inputs.all fun q => decide (tapOf taps q > 550)
    (Served s p Reg.OPT_ILK_CTL →
      exec (.ilkOpenRequest p) s = .next (if (upto 16).any s.inRun then s.writes [(st, Fld.OPT_ILK_STATUS_refused, 1)]
        else s.ilkOpen 3 none none) ∧
      (s.ilkPhase = 1 → exec (.closeReq p) s = .next (s.writes [(st, Fld.OPT_ILK_STATUS_phase, 2)]))) ∧
    (s.ilkPhase = 2 → ∃ u, exec (.ilkClose conn pilot) s = .next u ∧ u = { s with regs := u.regs } ∧
      u.gf Reg.MGT_BOUNDARY Fld.MGT_BOUNDARY_fibre_conn = conn.toNat ∧
      (∀ t < 16, ∀ k < 3, u.gf (Reg.OPT_FIBRE t k) Fld.OPT_FIBRE_pilot = boolNat (pilot.getLsbD (3 * t + k))) ∧
      (u.ilkPhase = 3 ↔ s.gf Reg.MGT_BOUNDARY Fld.MGT_BOUNDARY_therm_trip = 0 ∧
        (∀ k < 3, natBit (s.gf Reg.OPT_ILK_CTL Fld.OPT_ILK_CTL_conn_retired) k = true ∨ conn.getLsbD k = true) ∧
        ∀ q ∈ s.inputs, pilot.getLsbD (3 * q.1 + q.2) = true) ∧
      (u.ilkPhase = 3 → u.gf Reg.MGT_BOUNDARY Fld.MGT_BOUNDARY_ilk_closed = 1)) ∧
    (s.ilkPhase = 3 →
      exec (.fullPowerReached taps) s =
        .next (if full then ((upto 16).filter fun t => decide ((s.setTaps taps).strong t < 2)).foldl
            (fun y t => y.contained { ErrInfo.plain 4 9 with tile := some t })
            ((s.setTaps taps).writes [(st, Fld.OPT_ILK_STATUS_phase, 4)])
          else s.setTaps taps) ∧
      exec (.rampTimeout taps) s = .next (if full then s.setTaps taps else (s.setTaps taps).ilkOpen 5 none none) ∧
      ∀ t < 16, ∀ k < 3, (s.setTaps taps).gf (Reg.OPT_FIBRE t k) Fld.OPT_FIBRE_tap = min (tapOf taps (t, k)) 1023 ∧
        (500 < tapOf taps (t, k) → (s.setTaps taps).gf (Reg.OPT_FIBRE t k) Fld.OPT_FIBRE_armed = 1)) ∧
    (s.ilkPhase = 4 → exec .opticalReady s =
      .next ((s.writes [(st, Fld.OPT_ILK_STATUS_phase, 0), (st, Fld.OPT_ILK_STATUS_ready, 1)]).modCause 9))) ∧
  (∀ (s : State) (p t : Nat) (v : Reading), t < 16 →
    let sel := (s.reg (Reg.OPT_MON_SEL t)).toNat % 2 ^ 15
    let a := Reg.OPT_MON_DATA t
    (Served s p (tileBase t) → exec (.monitorReading p t) s =
      .next ((s.writes [(a, Fld.OPT_MON_DATA_done, 0)]).setFab t { s.fabT t with reading := some (BitVec.ofNat 15 sel) })) ∧
    ∀ r, (s.fabT t).reading = some r → ∃ u, exec (.monitorReadingDone t v) s = .next u ∧ (u.fabT t).reading = none ∧
      u.gf a Fld.OPT_MON_DATA_value = v.toNat % 2 ^ Fld.OPT_MON_DATA_value.w ∧ u.gf a Fld.OPT_MON_DATA_done = 1 ∧
      u.gf a Fld.OPT_MON_DATA_stale = boolNat (match monConv r.toNat with
        | some c => s.trimStale t c
        | none => false) ∧ u = { s with regs := u.regs, fab := u.fab } ∧ ∀ b, b ≠ a → u.reg b = s.reg b)


/-- R321, R322, R356, R357: a flit of the base and a packet cell read back as they were sent. R356 to R358, R364: a flit in order on
a module of the map is accepted and acknowledges what the base sent; a stream flit places its bytes; one that is damaged or out of
order asks for a replay, counted once, and nothing else is taken; a replay asked for sends what is not acknowledged again. R360,
R364, R365, R372: the control messages. A bind of the coming edge takes the site's lowest free stream number; an act that ends a stream
with the coming edge is told to the die, and the edge frees the number; a
program image is sent to an open site's agent as it stands; the die is told of its stand's start and end. Each goes
out as one control flit on the lead module. Rests on the model's assumptions 51, 52, 122. -/
def Obligations.SiteFlitsAndMessages : Prop :=
  (∀ (g : TxFlit) (ack : BitVec 8) (nak : Bool), (g.kind = 1 ∨ g.cells = 0) →
    Flit.ofBits (g.bits ack nak) = ⟨g.kind, g.fseq, ack, nak, g.cells, g.stream, g.offset, g.body, true⟩) ∧
  (∀ p : Pkt, cellOf (BitVec.ofNat 1920 (pktBits p)) 0 = p) ∧
  (∀ (s : State) (t c m : Nat) (flit : SiteFlit), siteGuard t c m = true →
    let w := 6 * t + c
    let f := Flit.ofBits flit
    let x := s.site w
    let d := x.mod m
    let rest := unackedAfter d.unacked f.ack
    let s1 := s.setSite w (x.setMod m { d with rxNext := d.rxNext + 1, wantReplay := false, unacked := rest })
    s.linkState w = 3 → natBit (s.siteMask w) m = true → s.tileOut t = false →
    (f.ok = false ∨ f.fseq ≠ d.rxNext → exec (.siteFlitReceive t c m flit) s =
      .next (if d.wantReplay = true ∧ f.ok = true then s
        else ((s.setSite w (x.setMod m { d with wantReplay := true })).sendFlit w m TxFlit.idle).replay w m)) ∧
    (f.ok = true → f.fseq = d.rxNext → f.nak = false →
      (f.kind = 2 → (sget none x.streams f.stream.toNat).isSome = true → exec (.siteFlitReceive t c m flit) s =
        .next (s1.setSite w { s1.site w with
          frame := sset none x.frame (2 ^ 24 * f.stream.toNat + f.offset.toNat) (some f.body) })) ∧
      (f.kind ≠ 1 → f.kind ≠ 2 → exec (.siteFlitReceive t c m flit) s = .next s1) ∧
      (f.kind = 1 → exec (.siteFlitReceive t c m flit) s =
        .next (((upto 3).filter fun i => f.cells.getLsbD i).foldl (fun y i => y.takeCell w (cellOf f.body i)) s1))) ∧
    (f.ok = true → f.fseq = d.rxNext → f.nak = true → f.kind = 0 → exec (.siteFlitReceive t c m flit) s =
      .next (({ s1 with out := s1.out ++ rest.map fun (q : TxFlit) => Out.flit w m (q.bits f.fseq false) }).replay w m))) ∧
  (∀ (s : State) (t c : Nat), t < 16 → c < 6 →
    let w := 6 * t + c
    let x := s.site w
    s.linkState w = 3 →
    (∀ (n : BitVec 8) (recv : Bool) (off lines ring : Nat) (beat : BitVec 64),
      (s.bindFor t c recv off lines ring beat = none → exec (.streamBind t c n recv off lines ring beat) s = .next s) ∧
      (s.gf (Reg.SITE_LINK_STATE t c) Fld.SITE_LINK_STATE_circuits = 1 → n.toNat < 255 →
        sget none x.streams n.toNat = none → (∀ k < n.toNat, (sget none x.streams k).isSome = true) →
        ∀ i k e mask, s.standOfTower w = some i → s.ctxOf t i = some k → mask.getLsbD c = true →
          let b : Binding := ⟨beat - 1, mask, off, lines, ring⟩
          let v : Stream := ⟨recv, e, off, lines, ring, beat, false⟩
          (s.ctx t k).acts = [if recv then .bindRecv e b else .bindSend e b] → x.hasStream v = false →
          exec (.streamBind t c n recv off lines ring beat) s = .next ((s.setStream w n.toNat (some v)).sendCtl w 1
            [n.toNat, boolNat recv, off, lines, ring, beat.toNat]))) ∧
    (∀ (n : BitVec 8) (v : Stream) (i k : Nat), sget none x.streams n.toNat = some v → v.going = false →
      s.standOfTower w = some i → s.ctxOf t i = some k →
      ((∃ a ∈ (s.ctx t k).acts, a.frees v = true) → exec (.streamUnbind t c n) s =
        .next ((s.setStream w n.toNat (some { v with going := true })).sendCtl w 2 [n.toNat])) ∧
      ((∀ a ∈ (s.ctx t k).acts, a.frees v = false) → exec (.streamUnbind t c n) s = .next s) ∧
      (s.freeStream w n.toNat = let y := s.setStream w n.toNat none
        if x.lost then y else y.sendCtl w 2 [n.toNat])) ∧
    (∀ (src i : Nat) (e : CoreEnt) (p : ProgEnt), s.standOfTower w = some i → s.openSite w = true → s.stdState i = 1 →
      src < s.gf (Reg.SITE_CENSUS3 w) Fld.SITE_CENSUS3_sources →
      (s.stand i).copy.cores.find? (fun q => q.g = 128 * w + src) = some e → (s.stand i).copy.progs[e.prog]? = some p →
      let d := p.digest.toNat
      exec (.programImage t c src (32 * p.len)) s =
        .next (((s.setSite w { x with images := sset 0 x.images src (32 * p.len + 1) }).sendCtl w 3
          [w, src, 32 * p.len, d % 2 ^ 64, natBits d 64 64, natBits d 128 64, d / 2 ^ 192]).sendStream w 255 (32 * p.len)
            (leNat (s.bytesAt i p.addr.toNat (32 * p.len))))) ∧
    (∀ i < 16, s.standOfTower w = some i → s.inRun i = true →
      let r := (s.stand i).copy
      exec (.standStart t c i) s =
        .next ((s.setSite w { x with run := some ⟨i, r.bl, r.beatLen, r.start⟩, ended := none }).sendCtl w 4
          [i, r.bl.toNat, r.beatLen, r.start.toNat])) ∧
    (∀ code : BitVec 8, x.run.isSome = true → exec (.standEnd t c code) s =
      .next ((s.setSite w { x with run := none, ended := some code, images := [], sample := none }).sendCtl w 5
        [code.toNat])))


/-- R368, R372, R374: an agent's fault is the stand-fatal error 0x1E of its stand; a die's link event is kept; a down link
shows in its registers, counts, loses what was not acknowledged, and gives its stand the error 0x1B; the streams of a run stay until
its next grid edge. R36, R352 to R354, R369: a die whose link was down returns, unless a thermal trip has taken its power or every clock stands (R427). One that
fails a step of the bring-up, or of which no module trains, is a failed site, which counts as a change of the census. Else every core of the tower loses its registers and
its data memory and takes a new epoch; its SRAM stays whole, or is zero where its rail was lost (R388); a descriptor that this base
cannot serve leaves the site incompatible, any other brings it up, its stripe map formed anew; the census counts. Rests on the model's assumptions 53, 81. -/
def Obligations.SiteFaultsAndReturns : Prop :=
  (∀ (s : State) (t c : Nat), t < 16 → c < 6 →
    let w := 6 * t + c
    let x := s.site w
    s.linkState w = 3 →
    (∀ (code src : BitVec 8) (i : Nat), s.standOfTower w = some i → s.openSite w = true →
      exec (.agentFault t c code src) s =
        .next (s.standFatal i { siteErr 7 0x1E w with gcore := some (128 * w + src.toNat), detail := some code.toNat })) ∧
    (∀ m cause, m < 17 → exec (.linkEvent t c m cause) s =
      .next (s.setSite w { x with events := x.events ++ [(m, cause)] })) ∧
    (let a := Reg.SITE_LINK_STATE t c
     let e := Reg.SITE_EVENTS t c
     let runs := (s.standOfTower w).any s.inRun
     let y := s.writes [(a, Fld.SITE_LINK_STATE_state, 0), (a, Fld.SITE_LINK_STATE_streams, if runs then x.streams.length else 0),
       (e, Fld.SITE_EVENTS_link_event, 1)]
     let s1 := ((y.setTile t { y.tile t with down := (y.tile t).down.filter fun d => d.w != w }).sfSat e
       Fld.SITE_EVENTS_downs 1).setSite w
         { SiteSt.zero with streams := if runs then x.streams else [], lost := runs, dieGtc := x.dieGtc, dieAt := x.dieAt,
                            events := x.events, run := x.run, ended := x.ended }
     exec (.siteLinkDown t c) s = .next (match s.standOfTower w with
       | some i => s1.standFatal i (siteErr 7 0x1B w)
       | none => s1))) ∧
  (∀ (s : State) (t c : Nat) (found : SiteFound), t < 16 → c < 6 →
    let w := 6 * t + c
    let desc := found.desc
    s.linkState w = 0 → s.gf (Reg.SITE_EVENTS t c) Fld.SITE_EVENTS_link_event = 1 →
    (s.tripped = true ∨ s.clk.stopped = true → ∀ bad, exec (.siteLinkReturn t c found bad) s = .next s) ∧
    (s.tripped = false → s.clk.stopped = false → found.fails = true ∨ (∀ m < 17, m ∈ found.out) → ∀ bad,
      exec (.siteLinkReturn t c found bad) s = .next (s.siteFailed w).censusGen ∧ (s.siteFailed w).linkState w = 4) ∧
    (s.tripped = false → s.clk.stopped = false → found.fails = false → (∃ m < 17, m ∉ found.out) →
    ∃ u, exec (.siteLinkReturn t c found []) s = .next u ∧
      (∀ k < 128, u.core (128 * w + k) =
        { CoreSt.zero with fenced := (s.core (128 * w + k)).fenced, epoch := (s.core (128 * w + k)).epoch + 1 }) ∧
      (∀ g o, towerOf g = w → o < dmBytes → memGet u.mem (dmAddr g o) = 0) ∧
      (∀ a, a < 0x3000_0000_0000 → a < tsAddr w 0 ∨ tsAddr w 0 + towerBytes ≤ a → memGet u.mem a = memGet s.mem a) ∧
      ((∀ o, o < towerBytes → memGet u.mem (tsAddr w o) = memGet s.mem (tsAddr w o)) ∨
        ∀ o, o < towerBytes → memGet u.mem (tsAddr w o) = 0) ∧
      u.linkState w = (if descBad desc then 5 else if u.siteMask w = 0 ∧ u.siteHalf w = 0 then 4 else 3) ∧
      (∀ i < 16, (u.reg (Reg.SITE_DESC w i)).toNat = descField desc (4 * i) 4) ∧
      (descBad desc = false → found.out = [] → 16 ≤ descField desc 20 1 → natBit (descField desc 21 1) 0 = true →
        (∀ e ∈ s.dwm, ¬(e.kind = 0x0A ∧ e.tile.toNat = t ∧ e.site.toNat = c)) → u.siteMask w = 0xFFFF)))


/-- R361 to R363: a downward beat flit names its edge's time and number, the verdict, a clearing beat, the level and the beat; it
leaves a die whose clock agrees unmoved; one that differs by more than a tick takes
the edge's time and reports a slip, and a second slip within a second takes the site down. The upward flit is the
sample of the tower's cores at the die's own time of sampling, or of the agent: done, beat-ordered done, how many are late and the
lowest of them. R366: a module that fails leaves the stripe map, and the unused spare module 16 joins it; while full-width modules
remain, what it had not had acknowledged is sent again; one that fails at half width is out of service. It comes back on
a redundant lane, and the spare that stood in for it leaves, or at half width, or not at all, and an unused spare stays; the die is
told. Rests on the model's assumptions 51, 122. -/
def Obligations.BeatFlitsAndModules : Prop :=
  (∀ (s : State) (t c i : Nat) (die : BitVec 64), t < 16 → c < 6 →
    let w := 6 * t + c
    s.linkState w = 3 → s.tileOut t = false → s.standOfTower w = some i →
    let x := s.stand i
    let body := s.beatBody i
    let edge := body % 2 ^ 64
    let s1 := s.sendFlit w (s.leadModule w) ⟨0, 3, 0, 0, 0, BitVec.ofNat 1920 body⟩
    (s.stdState i = 2 →
      let yes := decide (x.gate = some true)
      let n := x.beat.toNat + boolNat yes
      let p := planPeriod s.planForce i
      edge = x.edgeAt % 2 ^ 64 ∧ natBits body 64 32 = x.grid % 2 ^ 32 ∧ natBit body 96 = yes ∧
        natBit body 97 = decide (n % p ≥ p - 2) ∧ natBits body 128 64 = n % 2 ^ 64 ∧
        natBits body 104 8 = (if yes = true ∧ n % p = p - 2 then s.gf (Reg.STD_GATE_LEVEL i) Fld.STD_GATE_LEVEL_next_level
          else s.gf (Reg.STD_GATE_LEVEL i) Fld.STD_GATE_LEVEL_level)) ∧
    (die.toNat ≤ edge + 1 → edge ≤ die.toNat + 1 →
      exec (.beatFlitDown t c die) s = .next (s1.setSite w { s1.site w with dieGtc := die, dieAt := BitVec.ofNat 64 edge })) ∧
    (edge + 1 < die.toNat ∨ die.toNat + 1 < edge →
      let s2 := ((s1.setSite w { s1.site w with dieGtc := BitVec.ofNat 64 edge, dieAt := BitVec.ofNat 64 edge, slipAt := some s.gtc }).linkEvent
        w (s.leadModule w) 1).writes [(Reg.SITE_EVENTS t c, Fld.SITE_EVENTS_time_slip, 1)]
      exec (.beatFlitDown t c die) s = .next (if s.recent (s.site w).slipAt then s2.siteDown w else s2)) ∧
    (s.inRun i = true → ∀ (done : Bool) (agent : AgentSample), ∃ v : SiteSample, exec (.beatFlitUp t c done agent) s =
        .next ((s.gtcTo (s.sampleAt i w)).setSite w { s.site w with sample := some v }) ∧ v.grid = BitVec.ofNat 32 x.grid ∧
      (s.openSite w = true → v.done = done ∧ v.bo = agent.bo ∧ v.late = agent.late) ∧
      (s.openSite w = false → (v.done = true ↔ ∀ k < 128, s.notDone (128 * w + k) = false) ∧
        (v.bo = true ↔ ∀ k < 128, s.boOpen (128 * w + k) = false) ∧
        (∀ g, g ∈ v.cores ↔ towerOf g = w ∧ s.notDone g = true) ∧
        v.late = ((upto 128).filter fun k => s.notDone (128 * w + k)).length ∧
        (v.done = false → ∃ k < 128, v.lowest = 128 * w + k ∧ s.notDone (128 * w + k) = true ∧
          ∀ j < k, s.notDone (128 * w + j) = false)))) ∧
  (∀ (s : State) (t c m : Nat), siteGuard t c m = true →
    let w := 6 * t + c
    let x := s.site w
    let d := x.mod m
    let err : ErrInfo := { siteErr 7 8 w with index := some m }
    let mask := natPut (s.siteMask w) m 1 0
    let used := s.gf (Reg.SITE_REPAIR t c) Fld.SITE_REPAIR_used
    let n := natBits used (3 * m) 3
    s.linkState w = 3 →
    (natBit (s.siteHalf w) m = true → exec (.siteModuleFailure t c m) s = .next ((s.halfFails w m).sendCtl w 7 [m, 2]) ∧
      natBit ((s.halfFails w m).siteHalf w) m = false) ∧
    (m ≠ 16 → natBit (s.siteMask w) m = true → natBit (s.siteHalf w) m = false → x.tempSpare = false → (x.mod 16).retraining = false →
      let y := { x.setMod m { SiteMod.zero with retraining := true } with tempSpare := false }
      let goes := fun (u : State) => u.fullModules w ≠ [] → exec (.siteModuleFailure t c m) s =
        .next ((u.sendAgain w d.unacked).sendCtl w 7 [m, 2])
      (natBit mask 16 = true →
        goes (((((s.setSite w y).setSiteMask w mask).dead 0x0A t c m m 2).corrected err).remapSite w)) ∧
      (natBit mask 16 = false → s.siteRepair w Fld.SITE_REPAIR_spare_used = 0 →
        goes (((((s.setSite w { y with tempSpare := true }).setSiteMask w (natPut mask 16 1 1)).dead 0x0A t c m 16 0).corrected
          err).remapSite w))) ∧
    (d.retraining = true → s.clk.stopped = true → ∀ how, exec (.moduleRetrainComplete t c m how) s = .next s) ∧
    (d.retraining = true → s.clk.stopped = false →
      let s0 := s.setSite w (x.setMod m SiteMod.zero)
      let s1 := if m = 16 then s0.setSiteRepair w Fld.SITE_REPAIR_spare_used 1
        else if s.siteRepair w Fld.SITE_REPAIR_spare_used = 0 then s0.spareStays w else s0
      let told := fun (u : State) => ((u.corrected err).remapSite w).sendCtl w 7 [m, 3]
      let lane := s0.writes [(Reg.SITE_REPAIR t c, Fld.SITE_REPAIR_used, natPut used (3 * m) 3 (n + 1))]
      (n < 4 → exec (.moduleRetrainComplete t c m .lane) s = .next (told ((lane.moduleBack w m).dead 9 t c m n 0))) ∧
      (m ≠ 16 → x.tempSpare = false → lane.moduleBack w m = lane.setSiteMask w (natPut (s.siteMask w) m 1 1)) ∧
      (m ≠ 16 → x.tempSpare = true → (∀ k < 16, k ≠ m → (x.mod k).retraining = false) →
        lane.moduleBack w m = (lane.setSiteMask w (natPut (s.siteMask w) m 1 1)).spareLeaves w) ∧
      exec (.moduleRetrainComplete t c m .half) s =
        .next (told ((s1.putBit (Reg.SITE_HALF t c) Fld.SITE_HALF_mask m 1).dead 0x0A t c m m 0)) ∧
      exec (.moduleRetrainComplete t c m .dead) s =
        .next (told ((s1.putBit (Reg.SITE_HALF t c) Fld.SITE_HALF_mask m 0).dead 0x0A t c m m 1))))


/-- R305, R375, R380, R382: a stack's temperature reading shows at once, a stale one holding its last value; what its on-die error
correction reports is counted; refresh doubles from 85 °C, requests are throttled from the
configured limit, and each ends 3 °C below its threshold. R384 to R387, R391: a softly repaired row goes hard while no
stand runs on the stack; a migration's end poisons the lines that its copy lost and maps the layer or the bank out, and the
banks that waited for it are repaired, but for those of the layer that has been mapped out; the migration of a stack in self-refresh pauses; a tower SRAM bank's migration poisons the
lines that its copy lost and puts its spare in its place. While every clock stands, nothing of this happens (R427). Rests on the model's
assumptions 8, 139, 156. -/
def Obligations.StackAndTowerMemory : Prop :=
  (∀ (s : State) (j : Nat) (found : HbmSeen), j < 32 →
    let a := Reg.HBM_STATE (j / 2) (j % 2)
    let e := Reg.HBM_ECC (j / 2) (j % 2)
    let temp := if found.stale then BitVec.ofNat 8 (s.gf a Fld.HBM_STATE_temp) else found.temp
    let lim := s.gf (Reg.HBM_CFG (j / 2) (j % 2)) Fld.HBM_CFG_throttle_c
    (s.clk.stopped = true → exec (.hbmRefresh j found) s = .next s) ∧
    (s.clk.stopped = false → s.gf a Fld.HBM_STATE_state = 2 ∨ s.gf a Fld.HBM_STATE_state = 3 ∨ s.gf a Fld.HBM_STATE_state = 5 →
    ∃ u, exec (.hbmRefresh j found) s = .next u ∧ u = { s with regs := u.regs } ∧ (∀ b, b ≠ a → b ≠ e → u.reg b = s.reg b) ∧
      (u.gf e Fld.HBM_ECC_ondie = min (s.gf e Fld.HBM_ECC_ondie + found.ondie) (2 ^ Fld.HBM_ECC_ondie.w - 1)) ∧
      u.gf a Fld.HBM_STATE_temp = temp.toNat ∧ (u.gf a Fld.HBM_STATE_temp_stale = if found.stale then 1 else 0) ∧
      (85 ≤ temp.toNat → u.gf a Fld.HBM_STATE_refresh_2x = 1) ∧ (temp.toNat ≤ 82 → u.gf a Fld.HBM_STATE_refresh_2x = 0) ∧
      (82 < temp.toNat → temp.toNat < 85 → u.gf a Fld.HBM_STATE_refresh_2x = s.gf a Fld.HBM_STATE_refresh_2x) ∧
      (lim ≤ temp.toNat → u.gf a Fld.HBM_STATE_throttled = 1) ∧ (temp.toNat + 3 ≤ lim → u.gf a Fld.HBM_STATE_throttled = 0) ∧
      (lim < temp.toNat + 3 → temp.toNat < lim → u.gf a Fld.HBM_STATE_throttled = s.gf a Fld.HBM_STATE_throttled) ∧
      u.gf a Fld.HBM_STATE_state = s.gf a Fld.HBM_STATE_state)) ∧
  (∀ (s : State) (j : Nat), j < 32 →
    let x := s.hbmS j
    let t := j / 2
    let sp := Reg.HBM_SPARE t (j % 2)
    (s.clk.stopped = true → (∀ row, exec (.hardRepair j row) s = .next s) ∧ exec (.hardRepairComplete j) s = .next s ∧
      (∀ bad, exec (.migrationComplete j bad) s = .next s) ∧ ∀ z, z.w < 96 → exec (.towerSramMigrationComplete z) s = .next s) ∧
    (∀ row, row ∈ x.soft → x.hardNow = none → s.stackRuns j = false → s.clk.stopped = false →
      exec (.hardRepair j row) s = .next (s.setHbm j { x with hardNow := some row })) ∧
    (∀ r, x.hardNow = some r → s.clk.stopped = false →
      let soft := x.soft.erase r
      exec (.hardRepairComplete j) s = .next ((((s.setHbm j
        { x with hardNow := none, soft := soft, hard := sset 0 x.hard (rowBank r) (sget 0 x.hard (rowBank r) + 1) }).writes
          [(sp, Fld.HBM_SPARE_soft_ppr, min soft.length 255)]).sfSat sp Fld.HBM_SPARE_hard_ppr 1).dead 0x0C t (6 + j % 2)
            (rowBank r / 2 ^ 9) (r % 2 ^ 16) 0)) ∧
    (x.migr.isSome = true → s.stackAsleep j = true → ∀ bad, exec (.migrationComplete j bad) s = .next s) ∧
    (∀ layer key, x.migr = some (layer, key) → s.stackAsleep j = false → s.clk.stopped = false →
      let s1 := (s.setHbm j { x with migr := none }).writes
        [(Reg.HBM_STATE t (j % 2), Fld.HBM_STATE_migrating, 0), (Reg.HBM_MIGRATE t (j % 2), Fld.HBM_MIGRATE_remaining, 0)]
      let done := if layer then s1.layerOut j key else s1.bankOut j key
      exec (.migrationComplete j []) s =
        .next ((done.hbmS j).waits.foldl (fun y b => y.hbmBankRepair j b) (done.setHbm j { done.hbmS j with waits := [] })) ∧
      (done.hbmS j).waits = x.waits.filter (fun b => !layer || decide (b / 2 ^ 9 ≠ key)) ∧
      (∀ r, (done.hbmS j).hardNow = some r → x.hardNow = some r) ∧
      ∀ o, x.waits = [] → o < stackBytes → (if layer then natBits o 32 4 = key else hbmBank o = key) →
        ∃ u, exec (.migrationComplete j [o]) s = .next u ∧ u.poisoned (j * 2 ^ 39 + o) = true ∧ u.mem = s.mem ∧
          (u.hbmS j).migr = none) ∧
    (∀ w b k, w < 96 → (s.tsS w).migr = some (b, k) → b < 256 → k < 8 → (s.tsS w).waits = [] → s.standOfTower w = none →
      s.clk.stopped = false →
      (∀ o, o < towerBytes → tsBank o = b → ∃ u, exec (.towerSramMigrationComplete ⟨w, [o]⟩) s = .next u ∧
        u.poisoned (tsAddr w o) = true ∧ u.mem = s.mem ∧ (u.tsS w).migr = none) ∧
      ∃ u, exec (.towerSramMigrationComplete ⟨w, []⟩) s = .next u ∧ (u.tsS w).migr = none ∧ u.mem = s.mem ∧
        u.gf (Reg.CORE_TS_REMAP (w / 6) (w % 6) (8 * (b / 128) + k)) Fld.CORE_TS_REMAP_valid = 1 ∧
        u.gf (Reg.CORE_TS_REMAP (w / 6) (w % 6) (8 * (b / 128) + k)) Fld.CORE_TS_REMAP_bank = b % 128 ∧
        natBit (u.gf (Reg.CORE_TS_MAP (w / 6) (w % 6)) (if b < 128 then Fld.CORE_TS_MAP_used2 else Fld.CORE_TS_MAP_used3)) k = true ∧
        ∀ q < 8, q ≠ k → ¬(u.gf (Reg.CORE_TS_REMAP (w / 6) (w % 6) (8 * (b / 128) + q)) Fld.CORE_TS_REMAP_valid = 1 ∧
          u.gf (Reg.CORE_TS_REMAP (w / 6) (w % 6) (8 * (b / 128) + q)) Fld.CORE_TS_REMAP_bank = b % 128)))


/-- R480, R484 to R488, R492: a contained error leaves a log entry that names it, with the time, its source and code, and
module cause 1, where one of the log's first 56 places is open; else the loss is counted. Its first capture is kept. R508:
while a management controller takes over, it waits.
R485, R496 to R501: the host takes the oldest log entry, or the oldest samples, away; an armed counter's wrap leaves a
sample of its place, or counts the loss, and without a wrap there is none; a period's boundary takes every tile's counts, begins
them anew, and has each tile in service report to tile 0, and its map fills the other buffer; with no maps built the counts only
begin anew. Rests on the model's assumptions 79, 80, 110, 118, 136, 157, 158. -/
def Obligations.ErrorsAndTelemetry : Prop :=
  (∀ (s : State) (e : ErrInfo), s.takingOver = true →
    s.contained e = { s with errWait := s.errWait ++ [(1, s.logEnt 1 e)] }) ∧
  (∀ (s : State) (e : ErrInfo), s.takingOver = false →
    let u := s.contained e
    let ctl := Reg.MGT_ERR_FIRST_CTL 1
    (s.log.length < 56 → ∃ l, u.log = s.log ++ [l] ∧ l.gtc = s.gtcAt e.tile ∧ l.cls = 1 ∧ l.source = BitVec.ofNat 8 e.source ∧
      l.code = BitVec.ofNat 8 e.code ∧ (e.tile = none → l.tile = 0xFF) ∧ (e.addr = none → l.addr = BitVec.allOnes 64) ∧
      (e.tile = none → s.gtcAt e.tile = s.gtc) ∧ (∀ t, e.tile = some t → t < 16 → l.tile = BitVec.ofNat 8 t ∧
        (s.gtc ≠ BitVec.allOnes 64 → (s.gtcAt e.tile).toNat ≤ s.gtc.toNat + 1 ∧ s.gtc.toNat ≤ (s.gtcAt e.tile).toNat + 1)) ∧
      (s.gf ctl Fld.MGT_ERR_FIRST_CTL_valid = 0 → u.reg (Reg.MGT_ERR_FIRST 1 0) = s.gtcAt e.tile) ∧
      ∀ p < 2, (s.port p).inReset = false → natBit (u.gf (Reg.HIF_MOD_INT p) Fld.HIF_MOD_INT_cause) 1 = true) ∧
    (56 ≤ s.log.length → u.log = s.log ∧ u.gf Reg.MGT_ERR_STATUS Fld.MGT_ERR_STATUS_lost_cont =
      min (s.gf Reg.MGT_ERR_STATUS Fld.MGT_ERR_STATUS_lost_cont + 1) (2 ^ Fld.MGT_ERR_STATUS_lost_cont.w - 1)) ∧
    (s.gf ctl Fld.MGT_ERR_FIRST_CTL_valid = 1 → u.gf ctl Fld.MGT_ERR_FIRST_CTL_more = 1 ∧
      ∀ w < 4, u.reg (Reg.MGT_ERR_FIRST 1 w) = s.reg (Reg.MGT_ERR_FIRST 1 w)) ∧
    u.mem = s.mem ∧ u.cores = s.cores ∧ u.stands = s.stands ∧ u.pending = s.pending) ∧
  (∀ (s : State) (p t : Nat), t < 16 →
    (Served s p Reg.MGT_ERR_POP → exec (.errPop p) s = .next { s with log := s.log.drop 1 }) ∧
    (∀ k : BitVec 7, Served s p tileWindow → exec (.samplePop p t k) s =
      .next { s with samples := sset [] s.samples t ((s.samplesOf t).drop k.toNat) }) ∧
    (∀ c arm, c < 6 → arm < 8 →
      let pos := s.gf (Reg.PMC_ARM t c arm) Fld.PMC_ARM_pos
      let map := s.gf (Reg.CORE_ROW_MAP t c (pos / 17)) Fld.CORE_ROW_MAP_in_service
      let g := 128 * (6 * t + c) + 16 * (pos / 17) + ((upto (pos % 17)).filter fun q => natBit map q).length
      let a := Reg.PMC_ARM t c arm
      let r : Sample := ⟨s.gtc, BitVec.ofNat 16 g, BitVec.ofNat 16 (s.core g).pc,
        BitVec.ofNat 24 (s.stand ((s.standOfTower (6 * t + c)).getD 16)).beat.toNat, BitVec.ofNat 3 c, BitVec.ofNat 3 arm⟩
      s.gf (Reg.PMC_ARM t c arm) Fld.PMC_ARM_enable = 1 → pos < 136 → natBit map (pos % 17) = true →
      natBit (s.gf (Reg.CORE_ROW_MAP t c (pos / 17)) Fld.CORE_ROW_MAP_fenced) (pos % 17) = false →
      exec (.sampleCapture t c arm) s = .next (if s.armWraps a = sget 0 s.arms a then s else State.modCause
        (State.armed (if (s.samplesOf t).length < 64 then { s with samples := sset [] s.samples t (s.samplesOf t ++ [r]) }
         else s.sfSat (Reg.PMC_SAMPLE_STATUS t) Fld.PMC_SAMPLE_STATUS_lost 1) a) 15)) ∧
    (s.clk.stopped = true → exec .congestionPeriodBoundary s = .next s) ∧
    (s.clk.stopped = false → s.gf Reg.PMC_MAP_CFG Fld.PMC_MAP_CFG_enable = 0 → exec .congestionPeriodBoundary s =
      .next { s with mapAcc := (upto 16).foldl (fun m t => sset MapAcc.zero m t (s.mapStart t)) [] }) ∧
    (s.clk.stopped = false → s.gf Reg.PMC_MAP_CFG Fld.PMC_MAP_CFG_enable = 1 →
      ∃ u b, exec .congestionPeriodBoundary s = .next u ∧ u.mapSnap = s.mapAcc ∧
        u.mapAcc = (upto 16).foldl (fun m t => sset MapAcc.zero m t (s.mapStart t)) [] ∧
        2 ^ s.gf Reg.PMC_MAP_CFG Fld.PMC_MAP_CFG_period ∣ b ∧ s.gtc.toNat ≤ b ∧
        b < s.gtc.toNat + 2 ^ s.gf Reg.PMC_MAP_CFG Fld.PMC_MAP_CFG_period ∧ u.gtc = (s.gtcTo b).gtc ∧
        u.mapFrom = some (BitVec.ofNat 64 (b - 2 ^ s.gf Reg.PMC_MAP_CFG Fld.PMC_MAP_CFG_period),
          s.gf Reg.PMC_MAP_CFG Fld.PMC_MAP_CFG_period) ∧
        (∀ k < 16, s.tileOut k = true → u.tile k = s.tile k) ∧
        (∀ k < 16, s.tileOut k = false → ∃ q : Pkt, q.kind = 3 ∧ q.dst = 0 ∧ q.src.toNat = 12320 + k ∧
          u.tile k = { s.tile k with inject := (s.tile k).inject ++ [⟨q, 0, true⟩] }) ∧
        u = { s with gtc := u.gtc, mapSnap := u.mapSnap, mapAcc := u.mapAcc, mapFrom := u.mapFrom, tiles := u.tiles }) ∧
    (∀ (late : BitVec 16) (first : Word) (n : Nat), s.mapFrom = some (first, n) →
      let last := s.gf Reg.PMC_MAP_CFG Fld.PMC_MAP_CFG_last
      ∃ u, exec (.congestionMapComplete late) s = .next u ∧ u.mapFrom = none ∧
        u.gf Reg.PMC_MAP_CFG Fld.PMC_MAP_CFG_last = 1 - last ∧
        (∀ o < 0x2000, sget 0 u.mapBuf (mapBase last + o) = sget 0 s.mapBuf (mapBase last + o)) ∧
        (∀ o < 8, sget 0 u.mapBuf (mapBase (1 - last) + 8 + o) = BitVec.ofNat 8 (first.toNat / 256 ^ o)) ∧
        sget 0 u.mapBuf (mapBase (1 - last) + 24) = BitVec.ofNat 8 n ∧
        sget 0 u.mapBuf (mapBase (1 - last) + 25) = (if late = 0 then 1 else 0)))


/-- R56, R57, R59, R400, R401: BAR2 within one line. A read returns the memory's bytes, all ones and a poisoned completion
where the line is poisoned; a write lands, but in a poisoned line or the program memory of a run, and one longer than
Max_Payload_Size is refused; either takes the row bus of a core's data memory and is counted there (R494), and waits at the port
while the die holds it (R78, R79); a write to a memory that has lost its contents may be lost; a read that the
memory does not serve within 1 ms, or an access outside the stand's places, returns all ones with its error. R395,
R400: an AtomicOp request is unsupported; a BAR2 size that the capability offers is taken, and a base that is no
multiple of it becomes 0. Rests on the model's assumptions 91, 92, 93, 94, 160. -/
def Obligations.HostMemoryWindow : Prop :=
  (∀ (s : State) (p off n : Nat), p < 2 → s.portUp p = true → (s.port p).d3 = false →
    let at' := s.barAddr p off
    let seen := s.barOpen = true ∧ off + n ≤ (s.port p).bar2Size
    let err : Nat → ErrInfo := fun k => { ErrInfo.plain 8 k with detail := some p, addr := some at' }
    exec (.bar2ReadTimeout p off n) s = .next ((s.contained (err 6)).emit (.bytes p n (2 ^ (8 * n) - 1))) ∧
    (¬seen → exec (.bar2Read p off n []) s = .next ((s.contained (err 3)).emit (.bytes p n (2 ^ (8 * n) - 1)))) ∧
    ((s.port p).maxPayload < n → ∀ v, exec (.bar2Write p off n v) s = .next (s.contained (err 3))) ∧
    ∀ x a, seen → 0 < n → at' % 64 + n ≤ 64 → s.barPlace p at' = some x → placeAddr x = some a → n ≤ placeRoom x →
      (s.reachable x = true →
        (s.placeHeld x true = true → exec (.bar2Read p off n []) s = .next s) ∧
        (s.placeHeld x true = false → s.poisoned a = false →
          exec (.bar2Read p off n []) s = .next ((s.busHost x true).emit (.bytes p n (s.rd a n)))) ∧
        (s.placeHeld x true = false → s.poisoned a = true → exec (.bar2Read p off n []) s =
          .next ((((s.busHost x true).emit (.bytes p n (2 ^ (8 * n) - 1))).contained (err 0xF)).emit (.poisoned p)))) ∧
      (s.reachable x = false →
        exec (.bar2Read p off n []) s = .next ((s.contained (err 6)).emit (.bytes p n (2 ^ (8 * n) - 1)))) ∧
      ∀ v : BitVec 4096, n ≤ (s.port p).maxPayload →
        (s.progHeld x = true → exec (.bar2Write p off n ⟨v, []⟩) s = .next (s.contained (err 3))) ∧
        (s.progHeld x = false → s.placeHeld x false = true → exec (.bar2Write p off n ⟨v, []⟩) s = .next s) ∧
        (s.progHeld x = false → s.placeHeld x false = false → s.poisoned a = false → ∃ u,
          exec (.bar2Write p off n ⟨v, []⟩) s = .next u ∧
          (Stores s.mem u.mem a n v.toNat ∨ (s.landing x = false ∧ u.mem = s.mem)) ∧
          (s.landing x = true → u = { s.busHost x false with mem := u.mem, poison := u.poison })) ∧
        ∀ g o back, x = .data g o → (s.core g).fenced = false →
          (s.busHost x back).ctr (s.coreCtr g 34) = s.ctr (s.coreCtr g 34) + 1) ∧
  (∀ (s : State) (p : Nat), p < 2 → s.portUp p = true →
    exec (.atomicopRequest p) s = .next (s.emit (.unsupported p)) ∧
    ∀ k, k < 6 →
      let a := Reg.HIF_BAR2_BASE p
      let s1 := s.setPort p { s.port p with bar2Size := 2 ^ (36 + k) }
      exec (.bar2Resize p (2 ^ (36 + k))) s =
        .next (if s.gf a Fld.HIF_BAR2_BASE_base % 2 ^ (36 + k) = 0 then s1 else s1.writes [(a, Fld.HIF_BAR2_BASE_base, 0)]))


/-- R29, R66, R411: PERST#, a Hot Reset and a down link reset the port, whose function starts afresh; PERST# released
trains it where its cable, its reference and Flit mode are there, and has the offset of an unselected reference measured that it
brings (R417); a cable's coming and going shows at the boundary.
R397, R406, R412: the function enters D3hot; back in D0, or when a mask ends, a pending vector whose request still
stands sends its message; R394, R415: the link enters and leaves L1, L0p where it is enabled at a width that the configuration
allows, recovery and training. Rests on the model's assumptions 84, 85, 86, 87, 90, 140. -/
def Obligations.PortResetsAndPower : Prop :=
  (∀ (s : State) (p : Nat), p < 2 →
    (∀ held, (s.portReset p held).port p = { PortSt.zero with inReset := held, cfgReady := !held && (s.port p).cfgReady }) ∧
    (s.power = true →
      ((s.port p).inReset = false → exec (.perstAssert p) s = .next (s.portReset p true)) ∧
      (∀ present : Bool, s.gf Reg.MGT_BOUNDARY (cableFld p) ≠ boolNat present →
        let s1 := s.writes [(Reg.MGT_BOUNDARY, cableFld p, boolNat present)]
        exec (.cablePresenceChange p present) s = .next ((if present then s1 else s1.assertPerst p).modCauseOn (1 - p) 18)) ∧
      ∀ cfg : PortCfg, s.portUp p = false → s.gf Reg.MGT_BOUNDARY (cableFld p) = 1 →
        let s0 := s.writes [(Reg.CLK_REF_STATUS, presentFld p, 1)]
        let s1 := if p ≠ s.refSel ∧ s.refs (presentFld p) = 0 then s0.standbyMeasure else s0
        let l := Reg.HIF_LINK p
        let x := { s.port p with inReset := false }
        (s.refs (presentFld p) = 0 → exec (.perstDeassert p false cfg) s = .next (s.setPort p x)) ∧
        (cfg.flit = false → exec (.perstDeassert p true cfg) s =
          .next ((s1.setPort p x).writes [(l, Fld.HIF_LINK_state, 6)])) ∧
        (cfg.flit = true → exec (.perstDeassert p true cfg) s =
          .next ((s1.setPort p
            { x with cfgReady := true, busMaster := cfg.bme, mps := cfg.mps, mrrs := cfg.mrrs, msixEnable := cfg.msix, funcMask := cfg.fmask }).writes
              [(l, Fld.HIF_LINK_state, 2), (l, Fld.HIF_LINK_speed, min cfg.speed.toNat 5),
               (l, Fld.HIF_LINK_width, cfg.width.toNat), (l, Fld.HIF_LINK_l0p_width, cfg.width.toNat)]))) ∧
    (s.portUp p = true → exec (.hotReset p) s = .next (s.portReset p false) ∧
      exec (.pcieLinkDown p) s = .next (s.portReset p false))) ∧
  (∀ (s : State) (p : Nat), p < 2 → s.portUp p = true →
    let x := s.port p
    let l := Reg.HIF_LINK p
    exec (.d3hotEntry p) s = .next (s.setPort p { x with d3 := true }) ∧
    ((∀ v, v < 160 → sget false x.pba v = false) → exec (.d0Return p) s = .next (s.setPort p { x with d3 := false })) ∧
    (∀ v, v < 160 → x.pba = [(v, true)] → s.requested p v = true →
      ({ x with d3 := false }).canSend v = true →
      ∃ u, exec (.d0Return p) s = .next u ∧ u.out = s.out ++ [.msix p v] ∧ u.port p = { x with d3 := false, pba := [] } ∧
        u = { s with ports := u.ports, out := u.out }) ∧
    (∀ v (cfg : PortCfg), v < 160 →
      let y := { x with busMaster := cfg.bme, mps := cfg.mps, mrrs := cfg.mrrs, msixEnable := cfg.msix, funcMask := cfg.fmask }
      (sget false x.pba v = true → s.requested p v = true → y.canSend v = true → ∃ u,
        exec (.msixPendingSend p v cfg) s = .next u ∧ u.out = s.out ++ [.msix p v] ∧
        u.port p = { y with pba := (u.port p).pba } ∧ sget false (u.port p).pba v = false ∧
        (∀ w, w ≠ v → sget false (u.port p).pba w = sget false x.pba w) ∧ u = { s with ports := u.ports, out := u.out }) ∧
      (sget false x.pba v = false ∨ y.canSend v = false →
        exec (.msixPendingSend p v cfg) s = .next (s.setPort p y))) ∧
    let st := s.gf l Fld.HIF_LINK_state
    let full := s.gf l Fld.HIF_LINK_width
    let pm := Reg.HIF_PM_CFG p
    let may := fun (w : Nat) => s.gf pm Fld.HIF_PM_CFG_l0p_en = 1 ∧ w ∈ [1, 2, 4, 8] ∧ w < full ∧ 8 ≤ w * 2 ^ s.gf pm Fld.HIF_PM_CFG_l0p_min
    let moves := fun (m : LinkMove) (from_ : List Nat) (n w : Nat) =>
      (st ∈ from_ → exec (.aspmL1Transition p m) s = .next (s.writes [(l, Fld.HIF_LINK_state, n), (l, Fld.HIF_LINK_l0p_width, w)])) ∧
      (st ∉ from_ → exec (.aspmL1Transition p m) s = .next s)
    moves .l1 [2, 3] 4 full ∧ moves .l0 [1, 3, 4, 5] 2 full ∧ moves .training [5] 1 full ∧ moves .recovery [2, 3, 4] 5 full ∧
    ∀ w, (may w → moves (.l0p w) [2, 3] 3 w) ∧ (¬may w → exec (.aspmL1Transition p (.l0p w)) s = .next s))


/-- R413, R510 to R513: what the device answers over MCTP, DOE and SPDM while it is up; an MCTP message goes in packets of 64 bytes, and
a part of the certificate chain fits one data object. An opened device, or one without
its key, refuses a challenge; a measurement is signed on request. The chain of manufacture is the root's, the device CA's and the
device's certificate, which carries the part number, the serial number and the identity public key. R508, R513: while a management
controller takes over, every MCTP and SPDM request waits, a request for measurements with what it found when it came. Rests on the model's assumptions 101, 102, 103, 136. -/
def Obligations.ProtocolAnswers : Prop :=
  (∀ (s : State) (v : Via), v.p < 2 → s.takingOver = true → ∀ (eid ty : Byte) (sm2 sm3 sig : Bool) (slot off n index : Nat)
      (nonce : BitVec 256),
    ∀ q ∈ [(Instr.setEndpointId v.p eid, MgmtReq.setEndpointId v.p eid),
        (.mctpUnsupportedType v.p ty, .mctpUnsupportedType v.p ty),
        (.getVersion v, .getVersion v), (.getCapabilities v, .getCapabilities v),
        (.negotiateAlgorithms v sm2 sm3, .negotiateAlgorithms v sm2 sm3),
        (.getCertificate v slot off n, .getCertificate v slot off n), (.challenge v slot nonce, .challenge v slot nonce),
        (.getMeasurements v index sig nonce, .getMeasurements v index sig nonce ([1, 2, 3, 4, 5, 6].map s.measure))],
      exec q.1 s = .next { s with mgmtWait := s.mgmtWait ++ [q.2] }) ∧
  (State.reset.chain = (certOf 0 (Config.caBody 0) ++ certOf 0 (Config.caBody 1) ++
    certOf 1 (Config.deviceBody partNumber Config.serial (Config.publicKey Config.identityKey))).map (·.toNat)) ∧
  ∀ (s : State) (v : Via), v.p < 2 → s.takingOver = false → s.answers v.p = true →
    let p := v.p
    let reply := fun (y : State) (n : Nat) (fields : List Nat) => y.emit (.reply p 5 (if v.mctp then (n + 64) / 64 else 0) fields)
    let tells := fun (i : Instr) (n : Nat) (fields : List Nat) => exec i s = .next (reply s n fields)
    (∀ eid : Byte, eid ≠ 0 → eid ≠ 0xFF → exec (.setEndpointId p eid) s =
      .next ((s.setPort p { s.port p with eid := eid }).emit (.reply p 0 1 [0, 0, eid.toNat, 0]))) ∧
    exec (.setEndpointId p 0) s = .next (s.emit (.reply p 0 1 [2])) ∧
    exec (.doeDiscovery p 0) s = .next (s.emit (.reply p 1 0 [1, 0, 1])) ∧
    exec (.doeDiscovery p 1) s = .next (s.emit (.reply p 1 0 [1, 1, 0])) ∧
    (∀ ty : Byte, ty ≠ 0 → ty ≠ 5 → exec (.mctpUnsupportedType p ty) s = .next (s.emit (.reply p 0 1 [ty.toNat, 5]))) ∧
    tells (.getVersion v) 10 [0x04, 0x12, 0x13] ∧ tells (.getCapabilities v) 20 [0x61, 0x16] ∧
    (∀ sm2 sm3, tells (.negotiateAlgorithms v sm2 sm3) 36 [0x63, boolNat sm2, boolNat sm3]) ∧
    (∀ off n, off ≤ s.chain.length →
      let part := (s.chain.drop off).take (if v.mctp then n else min n 16368)
      tells (.getCertificate v 0 off n) (8 + part.length)
        ([0x02, 0, part.length, s.chain.length - off - part.length] ++ part)) ∧
    (∀ slot off n, slot ≠ 0 ∨ s.chain.length < off → tells (.getCertificate v slot off n) 4 [0x7F, 1]) ∧
    (∀ nonce : BitVec 256,
      (s.idKey = none → tells (.challenge v 0 nonce) 4 [0x7F, 7]) ∧
      ∀ k, s.idKey = some k →
        let own := Config.freeKey s.freeCtr
        let s1 := { s with freeCtr := s.freeCtr + 1 }
        let body := [(sm3 s.chain).toNat, own.toNat]
        exec (.challenge v 0 nonce) s = .next (reply s1 134 ([0x03, 0] ++ body ++ [signed k (nonce.toNat :: body)])) ∧
        ∀ index, 1 ≤ index → index ≤ 6 →
          let whole := [0x60, 1] ++ s.measure index ++ [own.toNat]
          let n := 49 + (s.measure index).getD 3 0
          exec (.getMeasurements v index true nonce) s =
            .next (reply s1 (n + 64) (whole ++ [signed k (nonce.toNat :: whole)])) ∧
          exec (.getMeasurements v index false nonce) s = .next (reply s1 n whole))


/-- R417 to R425: references come and go. The first to qualify in a cold start is taken, that of port 0 on a tie; a lost selected one
gives way to a qualified other, else holdover begins; a switch is refused unless the other is qualified; a switch that waits completes,
of the references, of the bedrock clock or of clk_obs, its forced flag rising only where the old clock stands; clk_obs is low while no
clock is selected, and until a new one runs. CLK_STANDBY_PPM reads the unselected reference's offset, 0x8000 while it is
absent. R426 to R428: holdover that lasts 1,000,000 ticks stops every clock and records the time; an accepted reference ends a
holdover without a jump, and after a stop GTC goes on from the recorded time plus one, with the gap recorded. R430,
R431: a tile's feed fails in service: every stand with towers on the tile takes error 0x1F, and the tile, its PLL in holdover,
warm-starts on the spare branch where one of its four taps is free, and goes out of service where none is. Rests on the model's
assumptions 76, 77, 98, 133, 147, 164. -/
def Obligations.ClocksAndFeeds : Prop :=
  (∀ (s : State) (r : Nat) (ppm off : BitVec 16), r < 2 →
    let ref := Reg.CLK_REF_STATUS
    let gone := s.writes [(ref, presentFld r, 0), (ref, qualFld r, 0)]
    let come := s.writes [(ref, presentFld r, 1), (ref, qualFld r, 1)]
    let both := come.writes [(ref, presentFld (1 - r), 1), (ref, qualFld (1 - r), 1)]
    let sets := fun (y : State) (n : Nat) => y.writes [(Reg.CLK_STANDBY_PPM, Fld.CLK_STANDBY_PPM_ppm, n)]
    let takes := fun (y : State) (k : Nat) => y.writes [(ref, Fld.CLK_REF_STATUS_selected, k), (ref, Fld.CLK_REF_STATUS_mode, 1)]
    (s.power = true →
      (s.refMode ≠ 1 → exec (.referenceLost r) s = .next (if r = s.refSel ∧ s.refMode ≠ 0 then gone else sets gone 0x8000)) ∧
      (s.refMode = 1 → s.clk.switching = false →
        (r = s.refSel → s.refs (qualFld (1 - r)) = 1 →
          exec (.referenceLost r) s = .next { gone with clk := { gone.clk with switching := true } }) ∧
        (r = s.refSel → s.refs (qualFld (1 - r)) = 0 → exec (.referenceLost r) s = .next gone.holdover) ∧
        (r ≠ s.refSel → exec (.referenceLost r) s = .next (sets gone 0x8000))) ∧
      (s.refMode = 1 → s.clk.switching = true →
        (r = s.refSel → exec (.referenceLost r) s = .next gone) ∧
        (r ≠ s.refSel → exec (.referenceLost r) s = .next (sets gone 0x8000).holdover)) ∧
      (s.refMode = 0 →
        exec (.referenceQualified ⟨r, false, off⟩ ppm) s = .next (sets (takes come r)
          (if s.refs (presentFld (1 - r)) = 0 then 0x8000 else off.toNat)) ∧
        exec (.referenceQualified ⟨r, true, off⟩ ppm) s = .next (sets (takes both 0) off.toNat)) ∧
      (s.refMode = 1 → r ≠ s.refSel → -7000 ≤ ppm.toInt → ppm.toInt ≤ 7000 → exec (.referenceQualified ⟨r, false, off⟩ ppm) s =
        .next (sets come ppm.toNat)) ∧
      (s.refMode = 1 → r = s.refSel → exec (.referenceQualified ⟨r, false, off⟩ ppm) s =
        .next (if s.clk.bedWait then { come with clk := { s.clk with bedWait := false, bed := true } } else come)) ∧
      (s.refMode = 2 ∨ (s.refMode = 1 ∧ r ≠ s.refSel ∧ (ppm.toInt < -7000 ∨ 7000 < ppm.toInt)) →
        exec (.referenceQualified ⟨r, false, off⟩ ppm) s = .next s)) ∧
    (s.refMode = 1 → r ≠ s.refSel → s.clk.switching = false →
      (off.toInt < -7000 ∨ 7000 < off.toInt → exec (.referenceDisqualified ⟨r, off⟩) s = .next (sets (s.writes [(ref, qualFld r, 0)])
        (if s.refs (presentFld r) = 0 then 0x8000 else off.toNat))) ∧
      (-7000 ≤ off.toInt → off.toInt ≤ 7000 → exec (.referenceDisqualified ⟨r, off⟩) s = .next s)) ∧
    (∀ p prefer, Served s p Reg.CLK_REF_CTL →
      let s1 := (s.writes [(Reg.CLK_REF_CTL, Fld.CLK_REF_CTL_prefer, boolNat prefer)]).settingsSave
      (s.refMode = 1 → s.refs (qualFld (1 - s.refSel)) = 1 → exec (.switchRef ⟨p, prefer, off⟩) s =
        .next (if s.clk.switching then s1 else s1.switchDone false off)) ∧
      (s.refMode ≠ 1 ∨ s.refs (qualFld (1 - s.refSel)) = 0 →
        exec (.switchRef ⟨p, prefer, off⟩) s = .next (s1.writes [(Reg.CLK_SWITCH_STATUS, Fld.CLK_SWITCH_STATUS_refused, 1)]))) ∧
    (let stands := s.refs (presentFld s.refSel) = 0
     let beds := s.clk.bedWait = true ∧ s.clk.stopped = false ∧ s.gf (Reg.CLK_TILE_STATUS 0) Fld.CLK_TILE_STATUS_gtc_lock = 1
     let moved := { s with clk := { s.clk with bedWait := false, bed := true } }
     let shown := { s with clk := { s.clk with obsWait := none, obsLow := false } }
     let flags := fun (y : State) (f : Fld) => y.writes [(Reg.CLK_SWITCH_STATUS, f, 1)]
     (s.clk.switching = true → ∃ v : BitVec 16, v ≠ 0x8000 ∧ exec .switchForcedComplete s =
       .next (({ s with freeCtr := s.freeCtr + 1 }).switchDone (decide stands) v)) ∧
     (s.clk.switching = false → beds → exec .switchForcedComplete s =
       .next (if stands then flags moved Fld.CLK_SWITCH_STATUS_region_forced else moved)) ∧
     (s.clk.switching = false → ¬beds → ∀ old, s.clk.obsWait = some old → exec .switchForcedComplete s =
       .next (if s.obsRuns (s.reg Reg.CLK_OBS_SEL).toNat = false then s
         else if s.obsRuns old then shown else flags shown Fld.CLK_SWITCH_STATUS_obs_forced)) ∧
     (s.clk.switching = false → ¬beds → s.clk.obsWait = none → exec .switchForcedComplete s = .next s)) ∧
    (let w := (s.reg Reg.CLK_OBS_SEL).toNat
     (natBits w 0 3 = 0 → s.clkObs = .held false) ∧
     (natBits w 0 3 ≠ 0 → (∀ o, s.clk.obsWait = some o → s.obsRuns o = true) →
       (s.obsRuns w = true → s.clkObs = .clock (natBits w 0 3) (natBits w 14 5)) ∧
       (s.obsRuns w = false → s.clkObs = .held (!s.clk.obsLow && Config.clockLevel w))) ∧
     (natBits w 0 3 ≠ 0 → ∀ o, s.clk.obsWait = some o → s.obsRuns o = false → s.clkObs = .held (Config.clockLevel o))) ∧
    (∃ v : BitVec 16, v ≠ 0x8000 ∧ s.standbyMeasure.gf Reg.CLK_STANDBY_PPM Fld.CLK_STANDBY_PPM_ppm =
      if s.refs (presentFld (1 - s.refSel)) = 0 then 0x8000 else v.toNat) ∧
    ∀ forced, (s.switchDone forced off).refSel = 1 - s.refSel ∧ (s.switchDone forced off).gtc = s.gtc ∧
      (s.switchDone forced off).reg Reg.CLK_SWITCH_GTC = s.gtc ∧ (s.switchDone forced off).clk.switching = false ∧
      ((s.switchDone forced off).gf Reg.CLK_STANDBY_PPM Fld.CLK_STANDBY_PPM_ppm =
        if s.refs (presentFld s.refSel) = 0 then 0x8000 else off.toNat)) ∧
  (∀ (s : State) (x : RefSeen) (lo hi : BitVec 32), x.r < 2 →
    (∀ t : Word, s.clk.holdFrom = some t →
      let s1 := s.gtcTo (t.toNat + 1000000)
      let s2 := (upto 16).foldl (fun y k => y.setLocks k false) (s1.setReg Reg.CLK_GAP_STOP s1.gtc)
      exec .holdoverExpiry s = .next { s2 with clk := { s1.clk with holdFrom := none, stopped := true } } ∧
      (∀ k < 16, s2.gf (Reg.CLK_TILE_STATUS k) Fld.CLK_TILE_STATUS_gtc_lock = 0) ∧
      (s.clk.stopped = false → exec (.referenceAccepted x lo hi) s = .next (s.refBack x).parkReturn)) ∧
    (s.clk.stopped = true → s.phase ≠ 1 → (∀ i < 16, s.inRun i = false) → (∀ i < 16, (s.pwrS i).parked = false) →
      ∃ u, exec (.referenceAccepted x lo hi) s = .next u ∧ u.gtc = s.reg Reg.CLK_GAP_STOP + 1 ∧
        u.clk = { s.clk with
          switching := false, holdFrom := none, stopped := false, bedWait := false, bed := s.clk.bed || s.clk.bedWait } ∧
        u.gf Reg.CLK_GAP Fld.CLK_GAP_gap = 1 ∧ u.gf Reg.CLK_GAP_LO Fld.CLK_GAP_LO_ms = lo.toNat ∧
        u.gf Reg.CLK_GAP_HI Fld.CLK_GAP_HI_ms = hi.toNat ∧ u.refMode = 1)) ∧
  (∀ (s : State) (t : Nat), t < 16 → s.phase = 1 → s.gf (Reg.CLK_TILE_STATUS t) Fld.CLK_TILE_STATUS_gtc_lock = 1 →
    let s1 := s.writes [(Reg.CLK_TREE, Fld.CLK_TREE_feed_fault, 1)]
    let s2 := ((upto 16).filter fun i => planValid s.planForce i && (s.tilesOf i).contains t).foldl
      (fun y i => (y.levelStop i).standFatal i { ErrInfo.plain 9 0x1F with tile := some t }) s1
    let m := s.gf Reg.CLK_TREE Fld.CLK_TREE_spare_tiles
    let used := ((upto 16).filter fun k => natBit m k).length
    let s3 := s2.writes [(Reg.CLK_TILE_STATUS t, Fld.CLK_TILE_STATUS_holdover, 1)]
    let waits := fun (y : State) (l : List Nat) => { y with clk := { y.clk with deskew := s2.clk.deskew.filter (· ≠ t) ++ l } }
    (natBit m t = false → used < 4 →
      exec (.tileFeedFault t) s = .next ((waits (((s3.putBit Reg.CLK_TREE Fld.CLK_TREE_spare_tiles t 1).writes
        [(Reg.CLK_TILE_STATUS t, Fld.CLK_TILE_STATUS_on_spare, 1)]).dead 0x12 t 0xFF 0 0 0) [t]).tileReset t)) ∧
    (natBit m t = true ∨ 4 ≤ used → exec (.tileFeedFault t) s = .next ((waits (s3.feedOut t).2 []).tileLogic t) ∧
      (s3.feedOut t).2.feedless t = true))


/-- R462, R463, R466: the host asks for a start. After a trip it is refused; a cold start leaves no run, no register of
the cores and an empty error log, in step 1; a warm start ends the runs and begins in step 1 with the stacks in
self-refresh. R464, R467, R468: a start's step ends in the next, the last in the ready phase; a failure of R467 that
belongs to the step, or the step's timeout, ends the start in the safe state, its record naming the milliseconds since the request
(R479); with both management controllers out, after a trip and while every clock stands no step ends (R36, R427, R509). R469 to R471: a tile's warm start is
refused while a stand on the tile is in a run, else it begins, and ends with the tile's listeners released. Rests on
the model's assumptions 74, 75, 78, 128, 130, 136. -/
def Obligations.StartsOfModuleAndTiles : Prop :=
  (∀ (s : State) (p : Nat) (bist : Bool), Served s p Reg.MGT_START_CTL → s.takingOver = false →
    let a := Reg.MGT_START_STATUS
    let trip := s.gf Reg.THM_TRIP Fld.THM_TRIP_tripped
    (trip = 1 → exec (.startCold p) s = .next (s.writes [(a, Fld.MGT_START_STATUS_refused, 1)]) ∧
      exec (.startWarm p bist) s = .next (s.writes [(a, Fld.MGT_START_STATUS_refused, 1)])) ∧
    (trip = 0 → s.phase ≠ 0 ∨ s.gf a Fld.MGT_START_STATUS_kind = 1 ∨ s.unmanaged = true →
      ∃ u, exec (.startCold p) s = .next u ∧ u.phase = 0 ∧ u.gf a Fld.MGT_START_STATUS_step = 1 ∧ u.cores = [] ∧ u.stands = [] ∧
        u.tiles = [] ∧ u.fab = [] ∧ u.log = [] ∧ u.nvq = [] ∧ u.pending = s.pending ∧
        (s.nvq = [] → (∀ i < 16, s.inRun i = false) → u.copy0 = s.copy0 ∧ u.copy15 = s.copy15)) ∧
    (trip = 0 → s.phase ≠ 0 → s.unmanaged = false → s.gf a Fld.MGT_START_STATUS_forced_cold = 0 →
      exec (.startWarm p bist) s = .next (s.warmBegin bist) ∧ (s.warmBegin bist).phase = 0 ∧
        (s.warmBegin bist).gf a Fld.MGT_START_STATUS_step = 1 ∧ (s.warmBegin bist).gf a Fld.MGT_START_STATUS_kind = 1)) ∧
  (∀ (s : State) (f : StepFinding) (t : BitVec 4), s.tripped = true ∨ s.unmanaged = true ∨ s.clk.stopped = true →
    exec (.startStepComplete f) s = .next s ∧
    (s.unmanaged = true ∨ s.clk.stopped = true → exec (.startStepTimeout t) s = .next s)) ∧
  (∀ (s : State) (f : StepFinding), s.power = true → s.phase = 0 → s.tripped = false → s.unmanaged = false → s.clk.stopped = false →
    let a := Reg.MGT_START_STATUS
    let n := s.gf a Fld.MGT_START_STATUS_step
    let kind := s.gf a Fld.MGT_START_STATUS_kind
    (f.fail = none → n = 3 → kind = 1 → s.imageStale = true →
      exec (.startStepComplete f) s = .next { s with sec := { s.sec with image := none } }) ∧
    (f.fail = none → n = 4 → kind = 0 →
      let s0 := s.copiesRead f.badCopies
      s0.copy0.ok = false → s0.copy15.ok = false → exec (.startStepComplete f) s = .next (s0.startFail 4 0)) ∧
    (f.fail = none → (n ≠ 4 ∨ s.copy0.ok = true ∧ f.badCopies = []) → (n = 3 → kind = 1 → s.imageStale = false) → ∀ u, s.stepEnd n kind f = some u →
      (n < 11 → exec (.startStepComplete f) s =
        .next (({ u with start := { u.start with stepAt := u.elapsed } }).writes [(a, Fld.MGT_START_STATUS_step, n + 1)])) ∧
      (n = 11 → exec (.startStepComplete f) s =
        .next (if u.startDone.parkHeld then u.startDone.parkAll else u.startDone))) ∧
    (∀ c t : BitVec 4, f.fail = some (c, t) → failFits n kind c.toNat = true →
      exec (.startStepComplete f) s = .next (s.startFail c.toNat t.toNat)) ∧
    (∀ t : BitVec 4, n ≠ 3 ∨ s.sec.image.isSome = true →
      let noRef := n = 1 ∧ s.gf Reg.CLK_REF_STATUS Fld.CLK_REF_STATUS_mode = 0
      let open_ := n = 10 ∧ s.gf Reg.MGT_BOUNDARY Fld.MGT_BOUNDARY_ilk_closed = 0
      exec (.startStepTimeout t) s = .next ((s.atLeast (if noRef then 1000000000 else stepLimit n)).startFail
        (if noRef then 1 else if open_ then 7 else 6) t.toNat)) ∧
    (∀ c t, (s.startFail c t).phase = 2 ∧ (s.startFail c t).gf a Fld.MGT_START_STATUS_step = 0 ∧
      (c < 16 → (s.startFail c t).gf Reg.MGT_START_FAIL Fld.MGT_START_FAIL_ms = s.elapsed / 1000000 % 2 ^ 32) ∧
      ∀ k, (s.atLeast k).elapsed = max s.elapsed (s.start.stepAt + k)) ∧
    s.startDone.phase = 1 ∧
    (n = 6 → kind = 0 → ∃ u, s.stepEnd n kind f = some u ∧ ∀ j < 32, u.gf (Reg.HBM_STATE (j / 2) (j % 2)) Fld.HBM_STATE_state = 1) ∧
    (n = 7 → kind = 0 → ∃ u, s.stepEnd n kind StepFinding.clean = some u ∧ u.mem = [] ∧ u.poison = [] ∧
      ∀ j < 32, u.gf (Reg.HBM_STATE (j / 2) (j % 2)) Fld.HBM_STATE_state = 2)) ∧
  (∀ (s : State) (p t : Nat), t < 16 →
    let a := Reg.MGT_TILE_CTL
    let s1 := s.writes [(a, Fld.MGT_TILE_CTL_tile, t)]
    (Served s p a → s.takingOver = false → s.phase = 1 → s.tileOut t = false →
      ((∃ i ∈ s.standsOn t, s.inRun i = true) → exec (.tileWarmStartRequest p (BitVec.ofNat 32 (16 + t))) s =
        .next (s1.writes [(a, Fld.MGT_TILE_CTL_refused, 1)])) ∧
      ((∀ i ∈ s.standsOn t, s.inRun i = false) → exec (.tileWarmStartRequest p (BitVec.ofNat 32 (16 + t))) s =
        .next (s1.tileReset t))) ∧
    (s.tileHeld t = true → ∃ u, exec (.tileWarmStartComplete t) s = .next u ∧ u.tileHeld t = false ∧
      (u.fabT t).holdTemp = none ∧ (u.fabT t).lostRings = [] ∧ u.mem = s.mem))


/-- R26, R27, R44: the supply input. Power comes with 48.0 V to 62.0 V, again after a disconnect with 48.0 V to 60.0 V; it
goes with its removal, above 62.0 V and below 44.0 V, and leaves the store's copies and the census count; of a store write in
progress (R516, R518) some of the record's words stand on the tile 0 copy, or all of them there and some on the tile 15 copy, or some on
the only copy that works; a record that lacks a word is none. R26, R443, R491: a
supply excursion shows at once; past 10 ms it is module-fatal error 0x01 and every stand is parked; the supply's
return ends it. R36, R458: a junction at 115 °C latches the trip and what tripped, powers every tower off and every
stack, and leaves the trip record to be written when every junction of a powered die reads 90 °C or less; of a store write in
progress at the trip some of the record's words stand on the copy that was being written (R37). Rests on the model's assumptions 61, 65, 66,
106, 139, 150. -/
def Obligations.SupplyAndTrip : Prop :=
  (∀ (s : State) (vin : BitVec 12),
    let y := s.writeTorn
    let off := fun (out : Bool) => State.setReg { State.reset with
      power := false, inputOut := out, storeTemp := s.storeTemp, pending := s.pending, freeCtr := y.freeCtr,
      copy0 := y.copy0, copy15 := y.copy15, hbm := s.hbmFuses, out := s.out } Reg.SITE_CENSUS_GEN (s.reg Reg.SITE_CENSUS_GEN)
    let on := State.stored (({ off false with power := true }).writes [(Reg.MGT_BOUNDARY, Fld.MGT_BOUNDARY_vin, vin.toNat)])
    (s.nvq = [] → y = s) ∧ (∀ e ∈ s.hbmFuses, ∃ x, (e.1, x) ∈ s.hbm ∧ e.2 = { HbmSt.zero with hard := x.hard }) ∧
    (∀ r rest, s.nvq = r :: rest → ∃ k < r.len,
      (s.copy0.ok = true → (y.copy0 = s.copy0.tear r k ∧ y.copy15 = s.copy15) ∨
        (s.copy15.ok = true ∧ y.copy0 = s.copy0.tear r r.len ∧ y.copy15 = s.copy15.tear r k)) ∧
      (s.copy0.ok = false → s.copy15.ok = true → y.copy0 = s.copy0 ∧ y.copy15 = s.copy15.tear r k)) ∧
    (∀ (c : NvCopy) (r : NvReq) (k : Nat), c.cur.torn = [] → scanRecs [] ((c.cur.slot.map NvRec.seq).getD 0) c.recs = c.recs →
      r.payload.length ≤ 65536 → k < r.len → (c.tear r k).scan [] = c) ∧
    (s.power = false →
      (1920 ≤ vin.toNat → vin.toNat ≤ (if s.inputOut then 2400 else 2480) → exec (.powerUp vin) s = .next on) ∧
      (s.inputOut = true → 2400 < vin.toNat → exec (.powerUp vin) s = .next s) ∧
      (1920 ≤ vin.toNat → vin.toNat ≤ 2400 → exec (.inputReenable vin) s = .next on)) ∧
    (s.power = true →
      exec .powerRemoval s = .next (off s.inputOut) ∧
      (2480 < vin.toNat → exec (.inputOvervoltage vin) s = .next (off true)) ∧
      (vin.toNat < 1760 → exec (.inputLockout vin) s = .next (off true)) ∧
      (2400 < vin.toNat → vin.toNat ≤ 2480 → exec (.supplyHigh vin) s =
        .next ((s.writes [(Reg.MGT_BOUNDARY, Fld.MGT_BOUNDARY_supply_high_seen, 1)]).modCause 7)))) ∧
  (∀ (s : State) (vin : BitVec 12), s.power = true →
    (s.supplyLow = false → 1760 ≤ vin.toNat → vin.toNat < 1920 → exec (.supplyLowExcursion vin) s =
      .next (((({ s with supplyLow := true }).writes [(Reg.MGT_BOUNDARY, Fld.MGT_BOUNDARY_supply_low_seen, 1)]).modCause 7).corrected
        (ErrInfo.plain 10 6))) ∧
    (s.supplyLow = true → s.supplyPark = false →
      exec .supplyLowTimeout s = .next (({ s with supplyPark := true }.moduleFatal (ErrInfo.plain 10 1)).parkAll) ∧
      (1920 ≤ vin.toNat → vin.toNat ≤ 2480 → exec (.supplyReturn vin) s = .next { s with supplyLow := false, supplyPark := false })) ∧
    (s.supplyLow = true → s.supplyPark = true → 1920 ≤ vin.toNat → vin.toNat ≤ 2480 →
      exec (.supplyReturn vin) s = .next ({ s with supplyLow := false, supplyPark := false }.parkReturn))) ∧
  (∀ (s : State) (tower layer tile : Nat) (hbm : Bool), tile < 16 → layer < 4 →
    (s.power = true → s.gf Reg.THM_TRIP Fld.THM_TRIP_tripped = 0 →
      ∃ u, exec (.thermalTrip tower layer tile hbm) s = .next u ∧ u.start.tripRec = true ∧
        ((∀ i < 16, s.inRun i = false) → (s.nvq = [] → u.copy0 = s.copy0 ∧ u.copy15 = s.copy15) ∧ ∀ r, s.nvq = [r] → u.nvq = []) ∧
        (∀ r rest, s.nvq = r :: rest → ∃ k < r.len,
          u.copy0 = (if s.copy0.ok then s.copy0.tear r k else s.copy0) ∧ u.copy15 = (if s.copy0.ok then s.copy15 else s.copy15.tear r k)) ∧
        (∀ j < 32, u.supply (.stack j) = .off) ∧
        u.reg Reg.THM_TRIP = BitVec.ofNat 64 (1 + 2 * (if tower < 96 then tower else 0x7F) + 2 ^ 8 * layer + 2 ^ 10 * tile +
          2 ^ 14 * boolNat hbm) ∧
        u.gf Reg.MGT_BOUNDARY Fld.MGT_BOUNDARY_therm_trip = 1 ∧
        (∀ w < 96, u.gf (Reg.CLK_SITE_ACTIVE (w / 6) (w % 6)) Fld.CLK_SITE_ACTIVE_mask = 0) ∧
        ∀ j < 32, u.gf (Reg.HBM_STATE (j / 2) (j % 2)) Fld.HBM_STATE_state = 0) ∧
    (s.start.tripRec = true → (∀ x ∈ s.junctions, x ≤ 720) →
      let w := s.nvWrite ⟨7, 0, bytesOf 8 s.gtc.toNat ++ bytesOf 4 (s.reg Reg.THM_TRIP).toNat, .trip⟩
      exec .tripRecordWrite s = .next (if w.1 then { w.2 with start := { w.2.start with tripRec := false } } else w.2)))


/-- R452, R454, R531: the converter measures. A channel shows its value, a supply's channel one that its supply can have; a reference
that is off makes the tile's channels
stale; a reading far from its model twice, or outside -40 °C to 150 °C, makes the channel suspect; its recalibration
clears it, or it retires, at the next clearing of its stand's run; a recalibration that ends leaves a code of the converter's own (R305).
R447, R461: cycles that a region stretched are counted by kind. R449, R450, R453, R530: the 64 µs update shows every stand's draw, the sum of what its towers' rails and its stacks draw and of a sixth of its tile's
supplies for each tower, the input's and the floor; a stand above
its budget is throttled by two more of every 16 cycles, at most 12, and by two less when it draws under 95 % of it.
R451: the module throttle begins above 11,500 W with skip 4, counts, takes 4 more each further 8 µs up to 12 while the input stays at
11,000 W or above, and ends
below 11,000 W; with the clocks stopped none of it happens (R427). Rests on the model's assumptions 67, 69, 70, 106, 117, 151. -/
def Obligations.PowerManager : Prop :=
  (∀ (s : State) (t ch : Nat) (v : BitVec 12), t < 16 →
    let a := Reg.THM_CH t ch
    let x := signed12 v.toNat
    let seen := s.writes [(a, Fld.THM_CH_value, v.toNat)]
    let far := s.farFromModel t ch x
    let key := 64 * t + ch
    (s.power = true → s.clk.stopped = false → s.gf a Fld.THM_CH_stale = 0 →
      (40 ≤ ch → ch < 62 → exec (.housekeepingMeasure t ch v) s = .next (if s.supplyReads t ch v.toNat then seen else s)) ∧
      (ch = 62 → exec (.housekeepingMeasure t ch v) s = .next (if t = 0 then
        seen.writes [(Reg.MGT_BOUNDARY, Fld.MGT_BOUNDARY_vin, v.toNat)] else s.writes [(a, Fld.THM_CH_value, 0)])) ∧
      (ch < 40 → s.gf a Fld.THM_CH_retired = 0 →
        let drift := fun (y : State) => if 36 ≤ ch then y.holdCheck t else y
        (-320 ≤ x → x ≤ 1200 → (far && sget false s.thmOff key) = false → exec (.housekeepingMeasure t ch v) s =
          .next (drift { seen with thmOff := sset false s.thmOff key far })) ∧
        ((far && sget false s.thmOff key) = true → exec (.housekeepingMeasure t ch v) s =
          .next (drift (({ seen with thmOff := sset false s.thmOff key false }).writes
            [(a, Fld.THM_CH_suspect, 1), (a, Fld.THM_CH_stale, 1)]))) ∧
        ((x < -320 ∨ 1200 < x) → (far && sget false s.thmOff key) = false → exec (.housekeepingMeasure t ch v) s =
          .next (drift (({ seen with thmOff := sset false s.thmOff key far }).writes
            [(a, Fld.THM_CH_suspect, 1), (a, Fld.THM_CH_stale, 1)]))))) ∧
    (s.power = true → s.clk.stopped = false → ch = 63 → exec (.housekeepingMeasure t ch v) s =
      let y := match (s.fabT t).tiaNow with
        | some f => (s.setFab t { s.fabT t with tiaNow := none }).recalibrated t (2814 + f) 8
        | none => s
      .next (((y.writes [(a, Fld.THM_CH_value, v.toNat)]).setStale t (if 1244 ≤ v.toNat ∧ v.toNat ≤ 1256 then 0 else 1)).writes
        [(Reg.THM_ROUND t, Fld.THM_ROUND_rounds, s.gf (Reg.THM_ROUND t) Fld.THM_ROUND_rounds + 1)])) ∧
    (∀ conv w, conv < 3264 → w ≤ 12 → ∃ n, n < 2 ^ w ∧ (s.recalibrated t conv w).trim t conv =
      { s.trim t conv with code := BitVec.ofNat 12 n, cal := BitVec.ofNat 12 n, count := (s.trim t conv).count + 1, gtc := s.gtc }) ∧
    (ch < 36 → s.gf a Fld.THM_CH_suspect = 1 →
      let m := signed12 (s.gf (Reg.THM_TOWER t (ch / 6)) Fld.THM_TOWER_model)
      let s1 := (s.writes [(a, Fld.THM_CH_value, v.toNat), (a, Fld.THM_CH_stale, 0)]).recalibrated t (3136 + ch) 10
      (x - m ≤ 32 → m - x ≤ 32 → exec (.suspectRecalibrationEnd t ch v) s = .next (s1.writes [(a, Fld.THM_CH_suspect, 0)])) ∧
      (32 < x - m → s.standOfTower (6 * t + ch / 6) = none →
        exec (.suspectRecalibrationEnd t ch v) s = .next (s1.retireChannel t ch)) ∧
      (∀ i, 32 < x - m → s.standOfTower (6 * t + ch / 6) = some i → s.stdState i = 2 →
        let y := s1.stand i
        exec (.suspectRecalibrationEnd t ch v) s =
          .next (if y.retire.contains (t, ch) then s1 else s1.setStand i { y with retire := y.retire ++ [(t, ch)] })))) ∧
  (∀ (s : State) (rails : List (Nat × Nat × Nat)) (x : Telemetry) (input : Nat), s.power = true → s.unmanaged = false →
    s.takingOver = false → s.phase = 1 → (∀ r ∈ rails, r.1 < 96) → (∀ r ∈ x.towers, r.1 < 96) → (∀ r ∈ x.hbms, r.1 < 32) →
    (∀ r ∈ x.tiles, r.1 < 16) → (∀ r ∈ x.droops, r.1 < 864) → s.clk.stopped = false →
    let of := fun (l : List (Nat × Nat)) (k : Nat) => ((l.find? fun e => e.1 = k).map (·.2)).getD 0
    let core := fun (w : Nat) => ((rails.find? fun r => r.1 = w).map fun r => r.2.1 + r.2.2).getD 0
    let draw := fun (i : Nat) => min ((((s.towersOf i).map fun w => 6 * (core w + of x.towers w) + of x.tiles (w / 6)).sum +
      6 * ((s.stacksOf i).map (of x.hbms)).sum) / 60) 65535
    ∃ u, exec (.powerManagerUpdate rails x input) s = .next u ∧
      (∀ i < 16, u.gf (Reg.PWR_STD_DRAW i) Fld.PWR_STD_DRAW_draw = draw i) ∧
      u.gf Reg.PWR_MODULE Fld.PWR_MODULE_draw = min input 65535 ∧
      u.gf Reg.PWR_FLOOR Fld.PWR_FLOOR_floor = min (input - ((upto 16).map draw).sum) 65535 ∧
      (∀ i < 16, s.awake i = true → planValid s.planForce i = true →
        let b := planBudget s.planForce i
        let k := (s.pwrS i).budK
        (u.pwrS i).budK = if b < draw i then min (k + 2) 12 else if 100 * draw i < 95 * b then k - 2 else k) ∧
      (∀ k mild severe, x.droops = [(k, mild, severe)] → (u.region k).mild = min ((s.region k).mild + mild) 0xFFFF ∧
        (u.region k).severe = min ((s.region k).severe + severe) 0xFFFF) ∧
      u.mem = s.mem ∧ u.cores = s.cores) ∧
  (∀ (s : State) (input : Nat), (s.clk.stopped = true → exec (.moduleThrottle input) s = .next s) ∧ (s.clk.stopped = false →
    (s.power = true → s.modK = 0 → 11500 < input → exec (.moduleThrottle input) s =
      .next ((({ s with modK := 4 }.writes [(Reg.PWR_MODULE, Fld.PWR_MODULE_limiting, 1)]).sfSat Reg.PWR_LIMIT_EVENTS
        Fld.PWR_LIMIT_EVENTS_count 1).throttles)) ∧
    (s.modK ≠ 0 → 11000 ≤ input → exec (.moduleThrottleEscalate input) s =
      .next (State.throttles { s with modK := min (s.modK + 4) 12 })) ∧
    (s.modK ≠ 0 → input < 11000 → exec (.moduleThrottleEnd input) s =
      .next (State.throttles ({ s with modK := 0 }.writes [(Reg.PWR_MODULE, Fld.PWR_MODULE_limiting, 0)])))))


/-- R437, R439, R448: a stand's master writes its target, ramp and idle delay, and a target deeper than the present state
begins entry; the delay's end begins it too, an exit under way first coming to its end; the fourth entry step stops the synthesisers and
the last arrives in the state; the
ramp starts tower after tower; and the last tower's exit puts the stand in RUN, a tower whose site fails its bring-up out of OFF staying
off (R352, R438); with the clocks stopped none of it happens (R427). Rests on the model's assumptions 71, 108, 109. -/
def Obligations.PowerStates : Prop :=
  ∀ (s : State) (i : Nat), i < 16 →
    let a := Reg.PWR_STD_CTL i
    let x := s.pwrS i
    (∀ p (v : BitVec 32), Served s p a → planPort s.planForce i = p → natBits v.toNat 2 7 ≤ 64 →
      ∃ u, exec (.standTargetWrite p i v) s = .next u ∧ u.gf a Fld.PWR_STD_CTL_target = v.toNat % 4 ∧
        u.gf a Fld.PWR_STD_CTL_idle_delay = natBits v.toNat 16 16 ∧ u.gf a Fld.PWR_STD_CTL_ramp = natBits v.toNat 2 7 ∧
        (s.inRun i = false → x.parked = false → x.goal = none → s.pStep i ≠ 6 → s.pState i < v.toNat % 4 →
          (u.pwrS i).goal = some (v.toNat % 4))) ∧
    (x.idle = true → s.inRun i = false → x.parked = false → s.clk.stopped = false →
      let tgt := s.gf a Fld.PWR_STD_CTL_target
      let s1 := s.setPwr i { x with idle := false }
      (s.pStep i ≠ 6 → x.wake = false → exec (.idleDelayExpiry i) s = .next (s1.enter i tgt)) ∧
      (s.pStep i = 6 ∨ x.wake = true → exec (.idleDelayExpiry i) s =
        .next (if tgt = 0 then s1 else s1.setPwr i { s1.pwrS i with after := some tgt }))) ∧
    (∀ g, x.goal = some g → x.wake = false → x.parked = false → s.clk.stopped = false → s.pStep i = 3 →
      ∃ u, exec (.powerEntryStepComplete i) s = .next u ∧ u.pState i = s.pState i ∧ u.pStep i = 5 ∧ u.pwrS i = x ∧
        ∀ w ∈ s.towersOf i, u.synthOn w = false) ∧
    (∀ g, g < 4 → x.goal = some g → x.wake = false → x.parked = false → s.clk.stopped = false → s.pStep i = 5 →
      ∃ u, exec (.powerEntryStepComplete i) s = .next u ∧ u.pState i = g ∧ u.pStep i = 0 ∧
        u.pwrS i = { x with goal := none } ∧
        ∀ w ∈ s.towersOf i, s.gf (Reg.CLK_SITE_ACTIVE (w / 6) (w % 6)) Fld.CLK_SITE_ACTIVE_mask ≠ 0 →
          u.gf (Reg.CLK_SITE_ACTIVE (w / 6) (w % 6)) Fld.CLK_SITE_ACTIVE_mask = branchMask g) ∧
    (∀ w rest, x.toStart = w :: rest → s.rampBefore i = false → s.gf a Fld.PWR_STD_CTL_ramp ≠ 0 → s.clk.stopped = false →
      ∃ u, exec (.towerWakeStart i) s = .next u ∧ u.pwrS i = { x with toStart := rest, exiting := x.exiting ++ [w] } ∧
        u.mem = s.mem) ∧
    (s.clk.stopped = true → exec (.powerEntryStepComplete i) s = .next s ∧ exec (.towerWakeStart i) s = .next s ∧
      exec (.idleDelayExpiry i) s = .next s ∧ ∀ e : Woken, e.w < 96 → exec (.wakeComplete e) s = .next s) ∧
    (∀ e : Woken, e.w < 96 → s.linkState e.w < 4 → s.gf Reg.THM_TRIP Fld.THM_TRIP_tripped = 0 → x.exiting = [e.w] → x.toStart = [] →
      x.after = none → s.clk.stopped = false → e.w ∈ s.towersOf i →
      (∀ k < 16, k ≠ i → e.w ∉ (s.pwrS k).exiting) →
      let m := Reg.CLK_SITE_ACTIVE (e.w / 6) (e.w % 6)
      let off := s.gf m Fld.CLK_SITE_ACTIVE_mask = 0
      ∃ u, exec (.wakeComplete e) s = .next u ∧ u.pState i = 0 ∧ u.pStep i = 0 ∧
        u.pwrS i = { x with exiting := [], undo := false, wake := false, wakeAt := none, wakeLast := none } ∧
        (¬ off ∨ (e.out = [] ∧ e.fails = false ∧ (s.siteMask e.w ≠ 0 ∨ s.siteHalf e.w ≠ 0)) →
          u.gf m Fld.CLK_SITE_ACTIVE_mask = 0x7FFF) ∧
        (off → e.fails = true → s.linkState e.w = 0 → s.gf (Reg.SITE_EVENTS (e.w / 6) (e.w % 6)) Fld.SITE_EVENTS_link_event = 0 →
          u.linkState e.w = 4 ∧ u.gf m Fld.CLK_SITE_ACTIVE_mask = 0))


/-- R459, R518, R521: a store write is queued while a copy works, the queue has a place and, where it begins at once and its sequence was
not checked before, every
reading lies from 0 °C to 90 °C; otherwise it is refused with its code, the refusal recorded; one that waited is checked
when its turn comes; while no controller manages the device it waits for one (R508). R304, R476, R515 to R522: the write in progress
ends on every copy that works, and its change takes effect; where it ends on none, module-fatal error 0x05 ends every run and every write
is lost; a record is appended with the next number, and a bank with less than 128 KiB left is compacted into the other; the device's own
service records, deadwood entries and
settings go to the store again as their rules say. Rests on the model's assumptions 72, 75, 136. -/
def Obligations.StoreWrites : Prop :=
  (∀ (s : State) (r : NvReq),
    let u := (s.nvWrite r).2
    (s.takingOver = true → s.nvWrite r = (true, { s with mgmtWait := s.mgmtWait ++ [.store r] })) ∧
    ((s.copy0.ok = true ∨ s.copy15.ok = true) → s.nvq.length < 32 → s.takingOver = false →
      (s.nvq = [] → r.checked = false → ∀ x ∈ s.nvReadings, 0 ≤ x ∧ x ≤ 720) →
      (s.nvWrite r).1 = true ∧ u.nvq = s.nvq ++ [r] ∧ u.log = s.log) ∧
    (∀ code, s.takingOver = false → s.nvRefusal r = some code → (s.nvWrite r).1 = false ∧ u.nvq = s.nvq ∧
      (s.gf Reg.NVS_REFUSE Fld.NVS_REFUSE_valid = 0 → u.gf Reg.NVS_REFUSE Fld.NVS_REFUSE_code = code % 2 ^ Fld.NVS_REFUSE_code.w ∧
        u.gf Reg.NVS_REFUSE Fld.NVS_REFUSE_valid = 1)) ∧
    (s.copy0.ok = false → s.copy15.ok = false → s.nvRefusal r = some 3) ∧
    (s.copy0.ok = true → 32 ≤ s.nvq.length → s.nvRefusal r = some 2) ∧
    (s.copy0.ok = true → s.nvq = [] → r.checked = false → (∃ x ∈ s.nvReadings, x < 0 ∨ 720 < x) → s.nvRefusal r = some 1)) ∧
  (∀ s : State,
    (∀ r rest t0 t15, s.power = true → s.takingOver = false → s.clk.stopped = false → s.nvq = r :: rest → s.copy0.ok = true →
      s.copy15.ok = true →
      let s1 := { s with nvq := rest, copy0 := s.copy0.append r, storeTemp := sset 0 (sset 0 s.storeTemp 0 t0) 15 t15 }
      exec (.nvsWriteComplete ⟨true, t0⟩ ⟨true, t15⟩) s =
        .next (nvTurn 64 ({ s1 with copy15 := s.copy15.append r }.nvAct r.act)) ∧
      exec (.nvsWriteComplete ⟨true, t0⟩ ⟨false, t15⟩) s = .next (nvTurn 64 ((s1.copyFailed 15).nvAct r.act)) ∧
      let s2 := (State.copyFailed { s1 with copy0 := s.copy0 } 0).copyFailed 15
      exec (.nvsWriteComplete ⟨false, t0⟩ ⟨false, t15⟩) s =
        .next ((r :: rest).foldl (fun y q => y.nvLost 3 q) { (s2.moduleFatal (ErrInfo.plain 11 5)).fatalRuns with nvq := [] })) ∧
    (s.nvq = [] → nvTurn 64 s = s) ∧
    (∀ r rest, s.nvq = r :: rest → r.checked = false →
      ((∀ x ∈ s.nvReadings, 0 ≤ x ∧ x ≤ 720) → nvTurn 64 s = s.nvWindow) ∧
      ((∃ x ∈ s.nvReadings, x < 0 ∨ 720 < x) → nvTurn 64 s = nvTurn 63 (({ s.nvWindow with nvq := rest }).nvLost 1 r))) ∧
    (∀ (c : NvCopy) (r : NvReq), c.cur.torn = [] →
      let c1 := c.setCur { c.cur with recs := c.recs ++ [⟨r.kind, r.key, c.seq + 1, r.payload⟩] }
      let c2 := c1.compact
      c.append r = (if 128 * 1024 ≤ c1.free then c1 else c2) ∧ (c.cur.gen + 1 < 2 ^ 64 →
        c2.bank = 1 - c.bank ∧ c2.cur.gen = c.cur.gen + 1 ∧ c2.recs = c1.recs.filter c1.inForce ∧
        (if c.bank = 0 then c2.a else c2.b) = NvBank.zero)) ∧
    (s.unmanaged = false → s.clk.stopped = false →
      (s.sec.settingsWait = true → exec .settingsRetry s = .next s.settingsSave) ∧
      ((s.copy0.ok = true ∨ s.copy15.ok = true) → (∀ x ∈ s.nvReadings, 0 ≤ x ∧ x ≤ 720) → s.takingOver = false → s.mgmtWait = [] →
        (s.phase = 1 → s.trimsMoved = true → s.nvq.length ≤ 16 → (∀ r ∈ s.nvq, r.kind ≠ 3) →
          ∃ u, exec .serviceRecordInterval s = .next u ∧ u.nvq = s.nvq ++ ((upto 16).filter fun t => (s.fabT t).trims ≠ []).map
            fun t => ⟨3, t, s.calPayload t, .service t ((s.fabT t).trims.map fun e => (e.1, e.2.code))⟩) ∧
        let waits := (s.dwm.zipIdx).filter fun q => !q.1.stored && !(s.nvq.any fun r => r.act == .deadwood q.2)
        (s.nvq.length + waits.length ≤ 32 → ∃ u, exec .deadwoodRetry s = .next u ∧
          u.nvq = s.nvq ++ waits.map fun q => ⟨5, 0, q.1.bytes, .deadwood q.2⟩))))


/-- R504 to R507: the first go of a start is served; its fetch's end runs a verified image, or names why it is refused; a
svn is raised while an image runs. R508, R509: heartbeats are counted, and whether the standby answers; 50 in a row missing hand the
device to the
standby controller, which logs the errors that waited and serves the requests that waited; with both out, the standby then not answering
too, it ends every run
with module-fatal error 0x04. R35, R523 to R527: the test
access port. It is armed by its value; an opening is refused unless the port was armed within the last 1,000,000
ticks, no stand runs, the store's temperature check passes and it is still closed; else the keys are zeroed at once
and the record goes to the store, or is refused there with the queue full. IDCODE and BYPASS do as their rules say; re-provisioning writes
a new key to every copy and then one record after another. Rests on the model's
assumptions 25, 83, 104, 136, 149. -/
def Obligations.FirmwareControllersTap : Prop :=
  (∀ (s : State) (p : Nat),
    let b := Reg.SEC_BOOT_STATUS
    (Served s p Reg.SEC_BOOT_CTL →
      (s.start.bootServed = true ∨ s.phase ≠ 0 → exec (.bootGo p) s = .next (s.writes [(b, Fld.SEC_BOOT_STATUS_code, 1)])) ∧
      (s.start.bootServed = false → s.phase = 0 → (s.port p).busMaster = true →
        let s1 := s.writes [(b, Fld.SEC_BOOT_STATUS_state, 1), (b, Fld.SEC_BOOT_STATUS_code, 0), (b, Fld.SEC_BOOT_STATUS_port, p)]
        let from_ := s.reg Reg.SEC_BOOT_ADDR
        let n := s.gf Reg.SEC_BOOT_LEN Fld.SEC_BOOT_LEN_len
        exec (.bootGo p) s = .next ((hostPieces from_.toNat (n / 4096 + 2) n).foldl
          (fun y q => y.emit (.hostRead p (BitVec.ofNat 64 q.1) q.2)) { s1 with
            sec := { s.sec with fetch := some (p, from_, n) }, start := { s.start with bootServed := true } })) ∧
      (s.takingOver = false → ∀ d svn, s.sec.image = some (d, svn) → exec (.raiseSvn p) s =
        .next (s.nvWrite ⟨0xD, 0, s.settings (max svn s.svnAhead), .svn (max svn s.svnAhead)⟩).2)) ∧
    ∀ q (ad : Word) len (bytes : List Byte), s.sec.fetch = some (q, ad, len) →
      let m := bytes.map (·.toNat)
      exec (.imageFetchComplete false bytes) s = .next s.fetchError ∧
      ((s.port q).busMaster = true →
        (∀ svn, s.imageCheck m len = .inr svn → ∃ u, exec (.imageFetchComplete true bytes) s = .next u ∧
          u.sec.image = some (sm3 m, svn) ∧ u.sec.bedDigest = sm3 m ∧ u.sec.fetch = none ∧
          u.gf b Fld.SEC_BOOT_STATUS_state = 3 ∧ u.gf b Fld.SEC_BOOT_STATUS_code = 0 ∧
          ∀ w < 8, (u.reg (Reg.SEC_FW_DIGEST w)).toNat = natBits (sm3 m).toNat (32 * w) 32) ∧
        (∀ code, s.imageCheck m len = .inl code →
          let s1 := ({ s with sec := { s.sec with fetch := none } }).writes
            [(b, Fld.SEC_BOOT_STATUS_state, 4), (b, Fld.SEC_BOOT_STATUS_code, code)]
          exec (.imageFetchComplete true bytes) s = .next (if s.phase = 0 then s1.startFail 3 0 else s1)))) ∧
  (∀ s : State,
    (s.power = true → s.takingOver = false → s.clk.stopped = false → ∀ x : Heartbeat,
      exec (.controllerHeartbeat x) s = .next { s with sec := { s.sec with
        missed := if x.primary then 0 else min (s.sec.missed + 1) 50, standbyOut := !x.standby } }) ∧
    (50 ≤ s.sec.missed → s.clk.stopped = false → s.gf Reg.MGT_CTRL Fld.MGT_CTRL_primary = 0 → s.sec.failed0 = false →
      let y := State.errsRelease { s with sec := { s.sec with missed := 0, failed0 := true }, mgmtWait := [] }
      let z := State.errsRelease { s with sec := { s.sec with missed := 0, failed0 := true, failed15 := true }, mgmtWait := [] }
      (s.sec.failed15 = false → s.sec.standbyOut = false → exec .controllerTakeover s =
        .next (s.mgmtWait.foldl State.serveHeld (nvTurn 64 ((y.writes
          [(Reg.MGT_CTRL, Fld.MGT_CTRL_primary, 15), (Reg.MGT_CTRL, Fld.MGT_CTRL_takeover, 1)]).contained
            { ErrInfo.plain 12 0x0E with tile := some 0 })))) ∧
      (s.sec.failed15 = true ∨ s.sec.standbyOut = true → exec .controllerTakeover s =
        .next (((z.moduleFatal (ErrInfo.plain 12 4)).fatalRuns).towersOff)))) ∧
  (∀ (s : State) (p : Nat) (bit : Bool),
    let ctl := Reg.SEC_TAP_CTL
    (Served s p Reg.SEC_TAP_ARM → exec (.tapArm p 0x7A900E5D) s =
      .next { s with sec := { s.sec with tapArm := sset none s.sec.tapArm p (some s.gtc) } }) ∧
    let ok := s.tapOk (s.tapArmed p)
    (Served s p ctl → s.takingOver = true →
      exec (.tapOpen p) s = .next { s with mgmtWait := s.mgmtWait ++ [.tapOpen p (s.tapArmed p)] }) ∧
    (Served s p ctl → s.takingOver = false →
      (ok = false → exec (.tapOpen p) s = .next (s.writes [(ctl, Fld.SEC_TAP_CTL_refused, 1)])) ∧
      (∀ i < 16, s.inRun i = true → ok = false) ∧ (sget none s.sec.tapArm p = none → ok = false) ∧
      (∀ at_, sget none s.sec.tapArm p = some at_ → 1000000 < (s.gtc - at_).toNat → ok = false) ∧
      (ok = true → s.copy0.ok = true → s.copy15.ok = true → ∃ u, exec (.tapOpen p) s = .next u ∧
        u.copy0 = { s.copy0 with secret := none } ∧ u.copy15 = { s.copy15 with secret := none } ∧ u.sec.session = none ∧
        u.gf Reg.SEC_STATE Fld.SEC_STATE_id_key = 0 ∧
        (s.nvq.length < 32 → u.gf ctl Fld.SEC_TAP_CTL_busy = 1 ∧
          u.nvq = s.nvq ++ [⟨8, 0, bytesOf 8 s.gtc.toNat ++ bytesOf 8 p, .tapOpened⟩]) ∧
        (32 ≤ s.nvq.length → u.gf ctl Fld.SEC_TAP_CTL_busy = 0 ∧ u.nvq = s.nvq))) ∧
    (s.power = true → exec .idcode s = .next (s.emit (.tap 32 0x1A960F3D)) ∧
      exec (.bypass bit) s = .next (s.emit (.tap 1 (boolNat bit)))) ∧
    (∀ r rest, s.sec.provRest = r :: rest →
      let w := s.nvWrite r
      s.nvAct .prov = { w.2 with sec := { w.2.sec with provRest := if w.1 then rest else [] } }) ∧
    ∀ (keys : List (Nat × List Byte)) (c1 c2 : List Byte) (serial : BitVec 64), (∀ k ∈ keys, k.1 < 4 ∧ k.2.length ≤ 65536) →
      c1.length ≤ 65536 → c2.length ≤ 65536 →
      s.gf Reg.SEC_STATE Fld.SEC_STATE_tap_enabled = 1 → (∀ i < 16, s.inRun i = false) → s.nvTempOk = true →
      s.copy0.ok = true → s.copy15.ok = true → s.takingOver = false → s.nvq.length < 32 →
      ∃ u k, exec (.reprovisioning keys [c1, c2] serial) s = .next u ∧ u.copy0 = { s.copy0 with secret := some k } ∧
        u.copy15 = { s.copy15 with secret := some k } ∧
        let reqs : List NvReq := keys.map (fun q => ⟨0xA, q.1, q.2, .prov⟩) ++ [⟨0xB, 0, c1, .prov⟩, ⟨0xB, 1, c2, .prov⟩,
          ⟨0xB, 2, deviceCert serial k, .prov⟩, ⟨9, 0, bytesOf 8 s.gtc.toNat ++ bytesOf 8 serial.toNat, .prov⟩]
        u.nvq = s.nvq ++ reqs.take 1 ∧ u.sec.provRest = reqs.drop 1)


/-- R57: an offset of the interleaved space lies in one of the stand's stacks, in pages of 4,096 bytes that go round them
in ascending order; R56: at and beyond the stacks' end it lies nowhere. -/
def Obligations.InterleavedSpace : Prop :=
  ∀ (s : State) (i o : Nat), o < 2 ^ 44 →
    let l := s.stacksOf i
    (∀ j, j ∈ l ↔ j < 32 ∧ planValid s.planForce i = true ∧ natBit (planStacks s.planForce i) j = true) ∧ l.Pairwise (· < ·) ∧
    (∀ h : o < l.length * stackBytes, s.standPlace i (2 ^ 44 + o) =
      some (.hbm (l[o / 4096 % l.length]'(Nat.mod_lt _ (by rcases Nat.eq_zero_or_pos l.length with z | z; (simp [z] at h); exact z)))
        (o / 4096 / l.length * 4096 + o % 4096))) ∧
    (l.length * stackBytes ≤ o → s.standPlace i (2 ^ 44 + o) = none)


/-- Every step keeps memory in its canonical form. Rests on the model's assumptions 9, 10. -/
def Obligations.StepKeepsMemory : Prop := ∀ s t : State, s.MemoryOk → step s = .next t → t.MemoryOk


/-- Every step keeps each core's results on their way in the order of their due cycles. Rests on the model's assumption
18. -/
def Obligations.StepKeepsOrder : Prop := ∀ s t : State, s.ResultsOrdered → step s = .next t → t.ResultsOrdered


/-- Both invariants hold at reset, where nothing waits. Rests on the model's assumptions 1, 9, 11, 18. -/
def Obligations.ResetInvariant : Prop := State.reset.MemoryOk ∧ State.reset.ResultsOrdered ∧ State.reset.pending = []


/-- No command is refused, and none touches the queue: a step takes exactly the front command off. Rests on the model's
assumptions 1, 17. -/
def Obligations.QueueOnlyPops : Prop :=
  ∀ (s : State) (i : Instr), (∀ r, exec i s ≠ .refused r) ∧ ∀ t, exec i s = .next t → t.pending = s.pending


/-- Every command but a bundle's operation completes in every state, where the units that its operands name exist and its
fields keep the program encoding. Rests on the model's assumptions 3, 17. -/
def Obligations.UnitCommandsComplete : Prop :=
  ∀ (s : State) (i : Instr), Instr.whole i = true → i.wf = true → Instr.programOk i = true → Completes (exec i s)
end

