-- ==== Sys2Proof/Laws/Sparse.lean ====
section
/-! SUPPORT. The laws of sparse maps: a read after a write, and the canonical form kept. They hold of every list, whether
canonical or not, but for those that name the form. -/

namespace Sys2Proof.Machine

variable {α : Type}

theorem sget_sdel_same (d : α) (m : SMap α) (k : Nat) : sget d (sdel m k) k = d := by
  induction m with
  | nil => rfl
  | cons p rest ih =>
    obtain ⟨k', v⟩ := p
    by_cases h : k = k'
    · subst h; simp [sdel, ih]
    · simp [sdel, sget, h, ih]

theorem sget_sdel_ne (d : α) (m : SMap α) {k l : Nat} (h : l ≠ k) : sget d (sdel m k) l = sget d m l := by
  induction m with
  | nil => rfl
  | cons p rest ih =>
    obtain ⟨k', v⟩ := p
    by_cases h1 : k = k'
    · subst h1; simp [sdel, sget, ih, h]
    · simp only [sdel, if_neg h1, sget, ih]

theorem sget_sput_same (d : α) (m : SMap α) (k : Nat) (v : α) : sget d (sput m k v) k = v := by
  induction m with
  | nil => simp [sput, sget]
  | cons p rest ih =>
    obtain ⟨k', v'⟩ := p
    simp only [sput]
    split
    · simp [sget]
    · split
      · simp [sget]
      · rename_i h1; simp [sget, h1, ih]

theorem sget_sput_ne (d : α) (m : SMap α) {k l : Nat} (v : α) (h : l ≠ k) : sget d (sput m k v) l = sget d m l := by
  induction m with
  | nil => simp [sput, sget, h]
  | cons p rest ih =>
    obtain ⟨k', v'⟩ := p
    simp only [sput]
    split
    · simp [sget, h]
    · split
      · rename_i h1; subst h1; simp [sget, h]
      · simp [sget, ih]

variable [DecidableEq α]

theorem sget_sset_same (d : α) (m : SMap α) (k : Nat) (v : α) : sget d (sset d m k v) k = v := by
  by_cases h : v = d
  · simp [sset, h, sget_sdel_same]
  · simp [sset, h, sget_sput_same]

theorem sget_sset_other (d d' : α) (m : SMap α) {k l : Nat} (v : α) (h : l ≠ k) :
    sget d' (sset d m k v) l = sget d' m l := by
  by_cases hv : v = d
  · simp [sset, hv, sget_sdel_ne _ _ h]
  · simp [sset, hv, sget_sput_ne _ _ _ h]

theorem sget_sset_ne (d : α) (m : SMap α) {k l : Nat} (v : α) (h : l ≠ k) : sget d (sset d m k v) l = sget d m l :=
  sget_sset_other d d m v h

theorem sget_sset (d : α) (m : SMap α) (k l : Nat) (v : α) :
    sget d (sset d m k v) l = if l = k then v else sget d m l := by
  by_cases h : l = k
  · subst h; simp [sget_sset_same]
  · simp [h, sget_sset_ne _ _ _ h]

/-! ### The canonical form -/

theorem swfFrom_le {d : α} {lo lo' : Nat} {m : SMap α} (hl : lo ≤ lo') (h : swfFrom d lo' m = true) :
    swfFrom d lo m = true := by
  cases m with
  | nil => rfl
  | cons p rest =>
    obtain ⟨k, v⟩ := p
    simp only [swfFrom, Bool.and_eq_true, decide_eq_true_eq] at h ⊢
    exact ⟨⟨Nat.le_trans hl h.1.1, h.1.2⟩, h.2⟩

theorem swfFrom_sdel {d : α} {lo : Nat} {m : SMap α} (k : Nat) (h : swfFrom d lo m = true) :
    swfFrom d lo (sdel m k) = true := by
  induction m generalizing lo with
  | nil => rfl
  | cons p rest ih =>
    obtain ⟨k', v⟩ := p
    simp only [swfFrom, Bool.and_eq_true, decide_eq_true_eq] at h
    by_cases h1 : k = k'
    · simp only [sdel, if_pos h1]
      exact ih (swfFrom_le (by omega) h.2)
    · simp only [sdel, if_neg h1, swfFrom, Bool.and_eq_true, decide_eq_true_eq]
      exact ⟨h.1, ih h.2⟩

theorem swfFrom_sput {d : α} {lo : Nat} {m : SMap α} {k : Nat} {v : α} (hv : v ≠ d) (hk : lo ≤ k)
    (h : swfFrom d lo m = true) : swfFrom d lo (sput m k v) = true := by
  induction m generalizing lo with
  | nil => simp [sput, swfFrom, hv, hk]
  | cons p rest ih =>
    obtain ⟨k', v'⟩ := p
    simp only [swfFrom, Bool.and_eq_true, decide_eq_true_eq] at h
    simp only [sput]
    split
    · simp only [swfFrom, Bool.and_eq_true, decide_eq_true_eq]
      exact ⟨⟨hk, hv⟩, ⟨⟨by omega, h.1.2⟩, h.2⟩⟩
    · split
      · rename_i h2; subst h2
        simp only [swfFrom, Bool.and_eq_true, decide_eq_true_eq]
        exact ⟨⟨hk, hv⟩, h.2⟩
      · simp only [swfFrom, Bool.and_eq_true, decide_eq_true_eq]
        exact ⟨h.1, ih (by omega) h.2⟩

/-- A write keeps the canonical form. -/
theorem swf_sset {d : α} {m : SMap α} (k : Nat) (v : α) (h : swf d m = true) : swf d (sset d m k v) = true := by
  unfold sset
  split
  · exact swfFrom_sdel k h
  · rename_i hv; exact swfFrom_sput hv (Nat.zero_le k) h

theorem swfFrom_filter {d : α} {lo : Nat} {m : SMap α} (p : Nat × α → Bool) (h : swfFrom d lo m = true) :
    swfFrom d lo (m.filter p) = true := by
  induction m generalizing lo with
  | nil => rfl
  | cons q rest ih =>
    obtain ⟨k, v⟩ := q
    simp only [swfFrom, Bool.and_eq_true, decide_eq_true_eq] at h
    simp only [List.filter]
    split
    · simp only [swfFrom, Bool.and_eq_true, decide_eq_true_eq]
      exact ⟨h.1, ih h.2⟩
    · exact ih (swfFrom_le (by omega) h.2)

end Sys2Proof.Machine
end

