-- ==== Sys2Proof/Laws/Memory.lean ====
section
/-! SUPPORT. The laws of memory: a byte read after a write, the bytes a wide write leaves alone, the value a wide read
returns, and the canonical form, which every memory operation keeps. -/

namespace Sys2Proof.Machine

theorem memGet_memSet (m : List Host.Cell) (a b : Nat) (v : Byte) :
    memGet (memSet m a v) b = if b = a then v else memGet m b := sget_sset 0 m a b v

theorem memWf_memSet {m : List Host.Cell} (a : Nat) (v : Byte) (h : memWf m = true) : memWf (memSet m a v) = true :=
  swf_sset a v h

/-- A wide write keeps the canonical form. -/
theorem memWf_memWrite {m : List Host.Cell} (a n v : Nat) (h : memWf m = true) : memWf (memWrite m a n v) = true := by
  induction n generalizing m a v with
  | zero => exact h
  | succ n ih => exact ih (a + 1) (v / 256) (memWf_memSet a _ h)

/-- Clearing keeps the canonical form. -/
theorem memWf_memClear {m : List Host.Cell} (p : Nat → Bool) (h : memWf m = true) : memWf (memClear m p) = true :=
  swfFrom_filter _ h

/-- A wide write leaves every byte outside it alone. -/
theorem memGet_memWrite_out (m : List Host.Cell) (a n v : Nat) {b : Nat} (h : b < a ∨ a + n ≤ b) :
    memGet (memWrite m a n v) b = memGet m b := by
  induction n generalizing m a v with
  | zero => rfl
  | succ n ih =>
    rw [memWrite, ih _ _ _ (by omega), memGet_memSet, if_neg (by omega)]

/-- Byte `i` of a wide write. -/
theorem memGet_memWrite_in (m : List Host.Cell) (a n v : Nat) {i : Nat} (h : i < n) :
    memGet (memWrite m a n v) (a + i) = BitVec.ofNat 8 (v / 256 ^ i) := by
  induction n generalizing m a v i with
  | zero => omega
  | succ n ih =>
    rw [memWrite]
    cases i with
    | zero => rw [memGet_memWrite_out _ _ _ _ (by omega), memGet_memSet]; simp
    | succ j =>
      have := ih (memSet m a (BitVec.ofNat 8 v)) (a + 1) (v / 256) (i := j) (by omega)
      rw [show a + (j + 1) = a + 1 + j by omega, this, Nat.div_div_eq_div_mul, Nat.pow_succ, Nat.mul_comm 256]

/-- A wide read depends only on the bytes it reads. -/
theorem memRead_congr (m m' : List Host.Cell) (a n : Nat) (h : ∀ b, a ≤ b → b < a + n → memGet m b = memGet m' b) :
    memRead m a n = memRead m' a n := by
  induction n generalizing a with
  | zero => rfl
  | succ n ih =>
    rw [memRead, memRead, h a (by omega) (by omega), ih (a + 1) fun b h1 h2 => h b (by omega) (by omega)]

/-- A wide read after the wide write of the same place returns the written value. -/
theorem memRead_memWrite (m : List Host.Cell) (a n v : Nat) : memRead (memWrite m a n v) a n = v % 256 ^ n := by
  induction n generalizing m a v with
  | zero => simp [memRead, Nat.mod_one]
  | succ n ih =>
    rw [memRead, memWrite, ih, memGet_memWrite_out _ _ _ _ (by omega), memGet_memSet, if_pos rfl, Nat.pow_succ,
      Nat.mul_comm (256 ^ n), Nat.mod_mul]
    simp

/-- A wide read of bytes that a write does not touch. -/
theorem memRead_memWrite_out (m : List Host.Cell) (a n v b k : Nat) (h : b + k ≤ a ∨ a + n ≤ b) :
    memRead (memWrite m a n v) b k = memRead m b k :=
  memRead_congr _ _ _ _ fun _ h1 h2 => memGet_memWrite_out _ _ _ _ (by omega)

/-- A cleared byte reads zero, and every other byte is kept. -/
theorem memGet_memClear (m : List Host.Cell) (p : Nat → Bool) (b : Nat) :
    memGet (memClear m p) b = if p b then 0 else memGet m b := by
  induction m with
  | nil => simp [memClear, memGet, sget]
  | cons c rest ih =>
    obtain ⟨k, v⟩ := c
    simp only [memClear, memGet] at ih ⊢
    by_cases hk : p k
    · simp only [List.filter_cons, hk, Bool.not_true, Bool.false_eq_true, if_false, ih, sget]
      by_cases hb : b = k
      · subst hb; simp [hk]
      · simp [hb]
    · simp only [List.filter_cons, hk, Bool.not_false, if_true, sget, ih]
      by_cases hb : b = k
      · subst hb; simp [hk]
      · simp [hb]

/-- A device read returns at most what its bytes hold. -/
theorem memRead_lt (m : List Host.Cell) (a n : Nat) : memRead m a n < 256 ^ n := by
  induction n generalizing a with
  | zero => simp [memRead]
  | succ n ih =>
    rw [memRead, Nat.pow_succ]
    have h1 := (memGet m a).isLt
    have h2 := ih (a + 1)
    omega

end Sys2Proof.Machine
end

