-- ==== Sys2Proof/Laws/Bytes.lean ====
section
/-! SUPPORT. The laws of numbers as bytes: the bytes of a number cut in two, the number that bytes spell, and a part of a wide
write read back. -/

namespace Sys2Proof.Machine

/-- A wide read is its lower part and, above it, the rest. -/
theorem memRead_add (m : List Host.Cell) (a k j : Nat) : memRead m a (k + j) = memRead m a k + 256 ^ k * memRead m (a + k) j := by
  induction k generalizing a with
  | zero => simp [memRead]
  | succ k ih =>
    rw [show k + 1 + j = k + j + 1 by omega, memRead, memRead, ih, show a + 1 + k = a + (k + 1) by omega, Nat.pow_succ,
      Nat.mul_comm (256 ^ k) 256, Nat.mul_assoc]
    omega

/-- A part of a wide write, read back. -/
theorem memRead_memWrite_part (m : List Host.Cell) (a n v k j : Nat) (h : k + j ≤ n) :
    memRead (memWrite m a n v) (a + k) j = v / 256 ^ k % 256 ^ j := by
  have hk := memRead_lt (memWrite m a n v) a k
  have h1 := memRead_memWrite m a n v
  obtain ⟨r, rfl⟩ : ∃ r, n = k + (j + r) := ⟨n - k - j, by omega⟩
  rw [memRead_add] at h1
  have hj := memRead_lt (memWrite m a (k + (j + r)) v) (a + k) j
  have h2 : memRead (memWrite m a (k + (j + r)) v) (a + k) (j + r) = v / 256 ^ k % 256 ^ (j + r) := by
    have := congrArg (· / 256 ^ k) h1
    simp only [Nat.pow_add _ k (j + r), Nat.mod_mul_right_div_self] at this
    rw [Nat.add_mul_div_left _ _ (Nat.pow_pos (by decide)), Nat.div_eq_of_lt hk, Nat.zero_add] at this
    exact this
  rw [memRead_add] at h2
  have := congrArg (· % 256 ^ j) h2
  simp only [Nat.add_mul_mod_self_left, Nat.mod_eq_of_lt hj] at this
  rw [this, Nat.pow_add, Nat.mod_mul_right_mod]

/-- The bytes of a number, cut in two. -/
theorem leBytes_add (n m v : Nat) : leBytes (n + m) v = leBytes n v ++ leBytes m (v / 256 ^ n) := by
  induction n generalizing v with
  | zero => simp [leBytes]
  | succ n ih => rw [show n + 1 + m = n + m + 1 by omega, leBytes, leBytes, ih, Nat.div_div_eq_div_mul, Nat.pow_succ,
      Nat.mul_comm 256]; rfl

/-- Only a number's low bytes count. -/
theorem leBytes_mod (n v : Nat) : leBytes n (v % 256 ^ n) = leBytes n v := by
  induction n generalizing v with
  | zero => rfl
  | succ n ih =>
    rw [leBytes, leBytes, Nat.pow_succ, Nat.mul_comm, Nat.mod_mul_right_mod, Nat.mod_mul_right_div_self, ih]

/-- The bytes of a number, line by line. -/
theorem leBytes_lines (n v : Nat) : (upto n).flatMap (fun l => leBytes 64 (v / 256 ^ (64 * l))) = leBytes (64 * n) v := by
  induction n with
  | zero => rfl
  | succ n ih => rw [upto, List.range_succ, List.flatMap_append, ← upto, ih, Nat.mul_succ, leBytes_add]; simp

/-- A number has as many bytes as are asked for. -/
theorem leBytes_length (n v : Nat) : (leBytes n v).length = n := by
  induction n generalizing v with
  | zero => rfl
  | succ n ih => simp [leBytes, ih]

/-- The number that a number's low bytes spell. -/
theorem leNat_leBytes (n v : Nat) : leNat (leBytes n v) = v % 256 ^ n := by
  induction n generalizing v with
  | zero => simp [leBytes, leNat, Nat.mod_one]
  | succ n ih => rw [leBytes, leNat, ih, Nat.pow_succ, Nat.mul_comm (256 ^ n), Nat.mod_mul]; simp

/-- The bytes of the number that bytes spell. -/
theorem leBytes_leNat (l : List Nat) (h : ∀ b ∈ l, b < 256) : leBytes l.length (leNat l) = l := by
  induction l with
  | nil => rfl
  | cons b l ih =>
    have hb := h b (List.mem_cons_self ..)
    rw [List.length_cons, leBytes, leNat, Nat.mod_eq_of_lt hb, ← ih fun c hc => h c (List.mem_cons_of_mem _ hc)]
    congr 1
    · omega
    · rw [leBytes_length, show (b + 256 * leNat (leBytes l.length (leNat l))) / 256 = leNat (leBytes l.length (leNat l)) by omega,
        leNat_leBytes, leBytes_mod]

/-- A field within the bytes of a number. -/
theorem leNat_take_drop (n v o k : Nat) (h : o + k ≤ n) : leNat (((leBytes n v).drop o).take k) = v / 256 ^ o % 256 ^ k := by
  obtain ⟨r, rfl⟩ : ∃ r, n = o + (k + r) := ⟨n - o - k, by omega⟩
  rw [leBytes_add, List.drop_left' (leBytes_length _ _), leBytes_add, List.take_left' (leBytes_length _ _), leNat_leBytes]

/-- The bytes of a number are bytes. -/
theorem leBytes_lt (n v : Nat) : ∀ b ∈ leBytes n v, b < 256 := by
  induction n generalizing v with
  | zero => simp [leBytes]
  | succ n ih => intro b hb; rcases List.mem_cons.mp hb with rfl | hb; exacts [Nat.mod_lt _ (by decide), ih _ b hb]

end Sys2Proof.Machine
end

