-- ==== Sys2Proof/Laws/State.lean ====
section
/-! SUPPORT. What each update of the state leaves: one lemma for each field and each accessor, and the reads of what was
written. -/

namespace Sys2Proof.Machine

/-! ### setReg -/

@[simp] theorem State.setReg_pending (s : State) (a : Nat) (v : Word) : (s.setReg a v).pending = s.pending := rfl
@[simp] theorem State.setReg_freeCtr (s : State) (a : Nat) (v : Word) : (s.setReg a v).freeCtr = s.freeCtr := rfl
@[simp] theorem State.setReg_arms (s : State) (a : Nat) (v : Word) : (s.setReg a v).arms = s.arms := rfl
@[simp] theorem State.setReg_gtc (s : State) (a : Nat) (v : Word) : (s.setReg a v).gtc = s.gtc := rfl
@[simp] theorem State.setReg_power (s : State) (a : Nat) (v : Word) : (s.setReg a v).power = s.power := rfl
@[simp] theorem State.setReg_pmc (s : State) (a : Nat) (v : Word) : (s.setReg a v).pmc = s.pmc := rfl
@[simp] theorem State.setReg_mem (s : State) (a : Nat) (v : Word) : (s.setReg a v).mem = s.mem := rfl
@[simp] theorem State.setReg_poison (s : State) (a : Nat) (v : Word) : (s.setReg a v).poison = s.poison := rfl
@[simp] theorem State.setReg_cores (s : State) (a : Nat) (v : Word) : (s.setReg a v).cores = s.cores := rfl
@[simp] theorem State.setReg_stands (s : State) (a : Nat) (v : Word) : (s.setReg a v).stands = s.stands := rfl
@[simp] theorem State.setReg_tiles (s : State) (a : Nat) (v : Word) : (s.setReg a v).tiles = s.tiles := rfl
@[simp] theorem State.setReg_fab (s : State) (a : Nat) (v : Word) : (s.setReg a v).fab = s.fab := rfl
@[simp] theorem State.setReg_sites (s : State) (a : Nat) (v : Word) : (s.setReg a v).sites = s.sites := rfl
@[simp] theorem State.setReg_hbm (s : State) (a : Nat) (v : Word) : (s.setReg a v).hbm = s.hbm := rfl
@[simp] theorem State.setReg_ts (s : State) (a : Nat) (v : Word) : (s.setReg a v).ts = s.ts := rfl
@[simp] theorem State.setReg_pwr (s : State) (a : Nat) (v : Word) : (s.setReg a v).pwr = s.pwr := rfl
@[simp] theorem State.setReg_modK (s : State) (a : Nat) (v : Word) : (s.setReg a v).modK = s.modK := rfl
@[simp] theorem State.setReg_supplyLow (s : State) (a : Nat) (v : Word) : (s.setReg a v).supplyLow = s.supplyLow := rfl
@[simp] theorem State.setReg_supplyPark (s : State) (a : Nat) (v : Word) : (s.setReg a v).supplyPark = s.supplyPark := rfl
@[simp] theorem State.setReg_thmOff (s : State) (a : Nat) (v : Word) : (s.setReg a v).thmOff = s.thmOff := rfl
@[simp] theorem State.setReg_clk (s : State) (a : Nat) (v : Word) : (s.setReg a v).clk = s.clk := rfl
@[simp] theorem State.setReg_start (s : State) (a : Nat) (v : Word) : (s.setReg a v).start = s.start := rfl
@[simp] theorem State.setReg_sec (s : State) (a : Nat) (v : Word) : (s.setReg a v).sec = s.sec := rfl
@[simp] theorem State.setReg_nvq (s : State) (a : Nat) (v : Word) : (s.setReg a v).nvq = s.nvq := rfl
@[simp] theorem State.setReg_copy0 (s : State) (a : Nat) (v : Word) : (s.setReg a v).copy0 = s.copy0 := rfl
@[simp] theorem State.setReg_copy15 (s : State) (a : Nat) (v : Word) : (s.setReg a v).copy15 = s.copy15 := rfl
@[simp] theorem State.setReg_dwm (s : State) (a : Nat) (v : Word) : (s.setReg a v).dwm = s.dwm := rfl
@[simp] theorem State.setReg_log (s : State) (a : Nat) (v : Word) : (s.setReg a v).log = s.log := rfl
@[simp] theorem State.setReg_corrLast (s : State) (a : Nat) (v : Word) : (s.setReg a v).corrLast = s.corrLast := rfl
@[simp] theorem State.setReg_planStaged (s : State) (a : Nat) (v : Word) : (s.setReg a v).planStaged = s.planStaged := rfl
@[simp] theorem State.setReg_planForce (s : State) (a : Nat) (v : Word) : (s.setReg a v).planForce = s.planForce := rfl
@[simp] theorem State.setReg_commits (s : State) (a : Nat) (v : Word) : (s.setReg a v).commits = s.commits := rfl
@[simp] theorem State.setReg_samples (s : State) (a : Nat) (v : Word) : (s.setReg a v).samples = s.samples := rfl
@[simp] theorem State.setReg_mapAcc (s : State) (a : Nat) (v : Word) : (s.setReg a v).mapAcc = s.mapAcc := rfl
@[simp] theorem State.setReg_mapFrom (s : State) (a : Nat) (v : Word) : (s.setReg a v).mapFrom = s.mapFrom := rfl
@[simp] theorem State.setReg_mapSnap (s : State) (a : Nat) (v : Word) : (s.setReg a v).mapSnap = s.mapSnap := rfl
@[simp] theorem State.setReg_mapBuf (s : State) (a : Nat) (v : Word) : (s.setReg a v).mapBuf = s.mapBuf := rfl
@[simp] theorem State.setReg_ports (s : State) (a : Nat) (v : Word) : (s.setReg a v).ports = s.ports := rfl
@[simp] theorem State.setReg_out (s : State) (a : Nat) (v : Word) : (s.setReg a v).out = s.out := rfl
@[simp] theorem State.ctr_setReg (s : State) (a : Nat) (v : Word) (k : Nat) : (s.setReg a v).ctr k = s.ctr k := rfl
@[simp] theorem State.core_setReg (s : State) (a : Nat) (v : Word) (k : Nat) : (s.setReg a v).core k = s.core k := rfl
@[simp] theorem State.stand_setReg (s : State) (a : Nat) (v : Word) (k : Nat) : (s.setReg a v).stand k = s.stand k := rfl
@[simp] theorem State.tile_setReg (s : State) (a : Nat) (v : Word) (k : Nat) : (s.setReg a v).tile k = s.tile k := rfl
@[simp] theorem State.port_setReg (s : State) (a : Nat) (v : Word) (k : Nat) : (s.setReg a v).port k = s.port k := rfl
@[simp] theorem State.fabT_setReg (s : State) (a : Nat) (v : Word) (k : Nat) : (s.setReg a v).fabT k = s.fabT k := rfl
@[simp] theorem State.site_setReg (s : State) (a : Nat) (v : Word) (k : Nat) : (s.setReg a v).site k = s.site k := rfl
@[simp] theorem State.hbmS_setReg (s : State) (a : Nat) (v : Word) (k : Nat) : (s.setReg a v).hbmS k = s.hbmS k := rfl
@[simp] theorem State.tsS_setReg (s : State) (a : Nat) (v : Word) (k : Nat) : (s.setReg a v).tsS k = s.tsS k := rfl
@[simp] theorem State.pwrS_setReg (s : State) (a : Nat) (v : Word) (k : Nat) : (s.setReg a v).pwrS k = s.pwrS k := rfl
@[simp] theorem State.acc_setReg (s : State) (a : Nat) (v : Word) (k : Nat) : (s.setReg a v).acc k = s.acc k := rfl
@[simp] theorem State.rd_setReg (s : State) (a : Nat) (v : Word) (k n : Nat) : (s.setReg a v).rd k n = s.rd k n := rfl
@[simp] theorem State.setReg_inputOut (s : State) (a : Nat) (v : Word) : (s.setReg a v).inputOut = s.inputOut := rfl
@[simp] theorem State.setReg_storeTemp (s : State) (a : Nat) (v : Word) : (s.setReg a v).storeTemp = s.storeTemp := rfl
@[simp] theorem State.setReg_regions (s : State) (a : Nat) (v : Word) : (s.setReg a v).regions = s.regions := rfl
@[simp] theorem State.setReg_tileGtc (s : State) (a : Nat) (v : Word) : (s.setReg a v).tileGtc = s.tileGtc := rfl
@[simp] theorem State.setReg_errWait (s : State) (a : Nat) (v : Word) : (s.setReg a v).errWait = s.errWait := rfl
@[simp] theorem State.setReg_mgmtWait (s : State) (a : Nat) (v : Word) : (s.setReg a v).mgmtWait = s.mgmtWait := rfl
@[simp] theorem State.region_setReg (s : State) (a : Nat) (v : Word) (k : Nat) : (s.setReg a v).region k = s.region k := rfl
@[simp] theorem State.takingOver_setReg (s : State) (a : Nat) (v : Word) : (s.setReg a v).takingOver = s.takingOver := rfl

/-! ### sf -/

@[simp] theorem State.sf_pending (s : State) (a : Nat) (f : Fld) (v : Nat) : (s.sf a f v).pending = s.pending := rfl
@[simp] theorem State.sf_freeCtr (s : State) (a : Nat) (f : Fld) (v : Nat) : (s.sf a f v).freeCtr = s.freeCtr := rfl
@[simp] theorem State.sf_arms (s : State) (a : Nat) (f : Fld) (v : Nat) : (s.sf a f v).arms = s.arms := rfl
@[simp] theorem State.sf_gtc (s : State) (a : Nat) (f : Fld) (v : Nat) : (s.sf a f v).gtc = s.gtc := rfl
@[simp] theorem State.sf_power (s : State) (a : Nat) (f : Fld) (v : Nat) : (s.sf a f v).power = s.power := rfl
@[simp] theorem State.sf_pmc (s : State) (a : Nat) (f : Fld) (v : Nat) : (s.sf a f v).pmc = s.pmc := rfl
@[simp] theorem State.sf_mem (s : State) (a : Nat) (f : Fld) (v : Nat) : (s.sf a f v).mem = s.mem := rfl
@[simp] theorem State.sf_poison (s : State) (a : Nat) (f : Fld) (v : Nat) : (s.sf a f v).poison = s.poison := rfl
@[simp] theorem State.sf_cores (s : State) (a : Nat) (f : Fld) (v : Nat) : (s.sf a f v).cores = s.cores := rfl
@[simp] theorem State.sf_stands (s : State) (a : Nat) (f : Fld) (v : Nat) : (s.sf a f v).stands = s.stands := rfl
@[simp] theorem State.sf_tiles (s : State) (a : Nat) (f : Fld) (v : Nat) : (s.sf a f v).tiles = s.tiles := rfl
@[simp] theorem State.sf_fab (s : State) (a : Nat) (f : Fld) (v : Nat) : (s.sf a f v).fab = s.fab := rfl
@[simp] theorem State.sf_sites (s : State) (a : Nat) (f : Fld) (v : Nat) : (s.sf a f v).sites = s.sites := rfl
@[simp] theorem State.sf_hbm (s : State) (a : Nat) (f : Fld) (v : Nat) : (s.sf a f v).hbm = s.hbm := rfl
@[simp] theorem State.sf_ts (s : State) (a : Nat) (f : Fld) (v : Nat) : (s.sf a f v).ts = s.ts := rfl
@[simp] theorem State.sf_pwr (s : State) (a : Nat) (f : Fld) (v : Nat) : (s.sf a f v).pwr = s.pwr := rfl
@[simp] theorem State.sf_modK (s : State) (a : Nat) (f : Fld) (v : Nat) : (s.sf a f v).modK = s.modK := rfl
@[simp] theorem State.sf_supplyLow (s : State) (a : Nat) (f : Fld) (v : Nat) : (s.sf a f v).supplyLow = s.supplyLow := rfl
@[simp] theorem State.sf_supplyPark (s : State) (a : Nat) (f : Fld) (v : Nat) : (s.sf a f v).supplyPark = s.supplyPark := rfl
@[simp] theorem State.sf_thmOff (s : State) (a : Nat) (f : Fld) (v : Nat) : (s.sf a f v).thmOff = s.thmOff := rfl
@[simp] theorem State.sf_clk (s : State) (a : Nat) (f : Fld) (v : Nat) : (s.sf a f v).clk = s.clk := rfl
@[simp] theorem State.sf_start (s : State) (a : Nat) (f : Fld) (v : Nat) : (s.sf a f v).start = s.start := rfl
@[simp] theorem State.sf_sec (s : State) (a : Nat) (f : Fld) (v : Nat) : (s.sf a f v).sec = s.sec := rfl
@[simp] theorem State.sf_nvq (s : State) (a : Nat) (f : Fld) (v : Nat) : (s.sf a f v).nvq = s.nvq := rfl
@[simp] theorem State.sf_copy0 (s : State) (a : Nat) (f : Fld) (v : Nat) : (s.sf a f v).copy0 = s.copy0 := rfl
@[simp] theorem State.sf_copy15 (s : State) (a : Nat) (f : Fld) (v : Nat) : (s.sf a f v).copy15 = s.copy15 := rfl
@[simp] theorem State.sf_dwm (s : State) (a : Nat) (f : Fld) (v : Nat) : (s.sf a f v).dwm = s.dwm := rfl
@[simp] theorem State.sf_log (s : State) (a : Nat) (f : Fld) (v : Nat) : (s.sf a f v).log = s.log := rfl
@[simp] theorem State.sf_corrLast (s : State) (a : Nat) (f : Fld) (v : Nat) : (s.sf a f v).corrLast = s.corrLast := rfl
@[simp] theorem State.sf_planStaged (s : State) (a : Nat) (f : Fld) (v : Nat) : (s.sf a f v).planStaged = s.planStaged := rfl
@[simp] theorem State.sf_planForce (s : State) (a : Nat) (f : Fld) (v : Nat) : (s.sf a f v).planForce = s.planForce := rfl
@[simp] theorem State.sf_commits (s : State) (a : Nat) (f : Fld) (v : Nat) : (s.sf a f v).commits = s.commits := rfl
@[simp] theorem State.sf_samples (s : State) (a : Nat) (f : Fld) (v : Nat) : (s.sf a f v).samples = s.samples := rfl
@[simp] theorem State.sf_mapAcc (s : State) (a : Nat) (f : Fld) (v : Nat) : (s.sf a f v).mapAcc = s.mapAcc := rfl
@[simp] theorem State.sf_mapFrom (s : State) (a : Nat) (f : Fld) (v : Nat) : (s.sf a f v).mapFrom = s.mapFrom := rfl
@[simp] theorem State.sf_mapSnap (s : State) (a : Nat) (f : Fld) (v : Nat) : (s.sf a f v).mapSnap = s.mapSnap := rfl
@[simp] theorem State.sf_mapBuf (s : State) (a : Nat) (f : Fld) (v : Nat) : (s.sf a f v).mapBuf = s.mapBuf := rfl
@[simp] theorem State.sf_ports (s : State) (a : Nat) (f : Fld) (v : Nat) : (s.sf a f v).ports = s.ports := rfl
@[simp] theorem State.sf_out (s : State) (a : Nat) (f : Fld) (v : Nat) : (s.sf a f v).out = s.out := rfl
@[simp] theorem State.ctr_sf (s : State) (a : Nat) (f : Fld) (v : Nat) (k : Nat) : (s.sf a f v).ctr k = s.ctr k := rfl
@[simp] theorem State.core_sf (s : State) (a : Nat) (f : Fld) (v : Nat) (k : Nat) : (s.sf a f v).core k = s.core k := rfl
@[simp] theorem State.stand_sf (s : State) (a : Nat) (f : Fld) (v : Nat) (k : Nat) : (s.sf a f v).stand k = s.stand k := rfl
@[simp] theorem State.tile_sf (s : State) (a : Nat) (f : Fld) (v : Nat) (k : Nat) : (s.sf a f v).tile k = s.tile k := rfl
@[simp] theorem State.port_sf (s : State) (a : Nat) (f : Fld) (v : Nat) (k : Nat) : (s.sf a f v).port k = s.port k := rfl
@[simp] theorem State.fabT_sf (s : State) (a : Nat) (f : Fld) (v : Nat) (k : Nat) : (s.sf a f v).fabT k = s.fabT k := rfl
@[simp] theorem State.site_sf (s : State) (a : Nat) (f : Fld) (v : Nat) (k : Nat) : (s.sf a f v).site k = s.site k := rfl
@[simp] theorem State.hbmS_sf (s : State) (a : Nat) (f : Fld) (v : Nat) (k : Nat) : (s.sf a f v).hbmS k = s.hbmS k := rfl
@[simp] theorem State.tsS_sf (s : State) (a : Nat) (f : Fld) (v : Nat) (k : Nat) : (s.sf a f v).tsS k = s.tsS k := rfl
@[simp] theorem State.pwrS_sf (s : State) (a : Nat) (f : Fld) (v : Nat) (k : Nat) : (s.sf a f v).pwrS k = s.pwrS k := rfl
@[simp] theorem State.acc_sf (s : State) (a : Nat) (f : Fld) (v : Nat) (k : Nat) : (s.sf a f v).acc k = s.acc k := rfl
@[simp] theorem State.rd_sf (s : State) (a : Nat) (f : Fld) (v : Nat) (k n : Nat) : (s.sf a f v).rd k n = s.rd k n := rfl
@[simp] theorem State.sf_inputOut (s : State) (a : Nat) (f : Fld) (v : Nat) : (s.sf a f v).inputOut = s.inputOut := rfl
@[simp] theorem State.sf_storeTemp (s : State) (a : Nat) (f : Fld) (v : Nat) : (s.sf a f v).storeTemp = s.storeTemp := rfl
@[simp] theorem State.sf_regions (s : State) (a : Nat) (f : Fld) (v : Nat) : (s.sf a f v).regions = s.regions := rfl
@[simp] theorem State.sf_tileGtc (s : State) (a : Nat) (f : Fld) (v : Nat) : (s.sf a f v).tileGtc = s.tileGtc := rfl
@[simp] theorem State.sf_errWait (s : State) (a : Nat) (f : Fld) (v : Nat) : (s.sf a f v).errWait = s.errWait := rfl
@[simp] theorem State.sf_mgmtWait (s : State) (a : Nat) (f : Fld) (v : Nat) : (s.sf a f v).mgmtWait = s.mgmtWait := rfl
@[simp] theorem State.region_sf (s : State) (a : Nat) (f : Fld) (v : Nat) (k : Nat) : (s.sf a f v).region k = s.region k := rfl
@[simp] theorem State.takingOver_sf (s : State) (a : Nat) (f : Fld) (v : Nat) : (s.sf a f v).takingOver = s.takingOver := rfl

/-! ### setCore -/

@[simp] theorem State.setCore_pending (s : State) (g : Nat) (c : CoreSt) : (s.setCore g c).pending = s.pending := rfl
@[simp] theorem State.setCore_freeCtr (s : State) (g : Nat) (c : CoreSt) : (s.setCore g c).freeCtr = s.freeCtr := rfl
@[simp] theorem State.setCore_arms (s : State) (g : Nat) (c : CoreSt) : (s.setCore g c).arms = s.arms := rfl
@[simp] theorem State.setCore_gtc (s : State) (g : Nat) (c : CoreSt) : (s.setCore g c).gtc = s.gtc := rfl
@[simp] theorem State.setCore_power (s : State) (g : Nat) (c : CoreSt) : (s.setCore g c).power = s.power := rfl
@[simp] theorem State.setCore_regs (s : State) (g : Nat) (c : CoreSt) : (s.setCore g c).regs = s.regs := rfl
@[simp] theorem State.setCore_pmc (s : State) (g : Nat) (c : CoreSt) : (s.setCore g c).pmc = s.pmc := rfl
@[simp] theorem State.setCore_mem (s : State) (g : Nat) (c : CoreSt) : (s.setCore g c).mem = s.mem := rfl
@[simp] theorem State.setCore_poison (s : State) (g : Nat) (c : CoreSt) : (s.setCore g c).poison = s.poison := rfl
@[simp] theorem State.setCore_stands (s : State) (g : Nat) (c : CoreSt) : (s.setCore g c).stands = s.stands := rfl
@[simp] theorem State.setCore_tiles (s : State) (g : Nat) (c : CoreSt) : (s.setCore g c).tiles = s.tiles := rfl
@[simp] theorem State.setCore_fab (s : State) (g : Nat) (c : CoreSt) : (s.setCore g c).fab = s.fab := rfl
@[simp] theorem State.setCore_sites (s : State) (g : Nat) (c : CoreSt) : (s.setCore g c).sites = s.sites := rfl
@[simp] theorem State.setCore_hbm (s : State) (g : Nat) (c : CoreSt) : (s.setCore g c).hbm = s.hbm := rfl
@[simp] theorem State.setCore_ts (s : State) (g : Nat) (c : CoreSt) : (s.setCore g c).ts = s.ts := rfl
@[simp] theorem State.setCore_pwr (s : State) (g : Nat) (c : CoreSt) : (s.setCore g c).pwr = s.pwr := rfl
@[simp] theorem State.setCore_modK (s : State) (g : Nat) (c : CoreSt) : (s.setCore g c).modK = s.modK := rfl
@[simp] theorem State.setCore_supplyLow (s : State) (g : Nat) (c : CoreSt) : (s.setCore g c).supplyLow = s.supplyLow := rfl
@[simp] theorem State.setCore_supplyPark (s : State) (g : Nat) (c : CoreSt) : (s.setCore g c).supplyPark = s.supplyPark := rfl
@[simp] theorem State.setCore_thmOff (s : State) (g : Nat) (c : CoreSt) : (s.setCore g c).thmOff = s.thmOff := rfl
@[simp] theorem State.setCore_clk (s : State) (g : Nat) (c : CoreSt) : (s.setCore g c).clk = s.clk := rfl
@[simp] theorem State.setCore_start (s : State) (g : Nat) (c : CoreSt) : (s.setCore g c).start = s.start := rfl
@[simp] theorem State.setCore_sec (s : State) (g : Nat) (c : CoreSt) : (s.setCore g c).sec = s.sec := rfl
@[simp] theorem State.setCore_nvq (s : State) (g : Nat) (c : CoreSt) : (s.setCore g c).nvq = s.nvq := rfl
@[simp] theorem State.setCore_copy0 (s : State) (g : Nat) (c : CoreSt) : (s.setCore g c).copy0 = s.copy0 := rfl
@[simp] theorem State.setCore_copy15 (s : State) (g : Nat) (c : CoreSt) : (s.setCore g c).copy15 = s.copy15 := rfl
@[simp] theorem State.setCore_dwm (s : State) (g : Nat) (c : CoreSt) : (s.setCore g c).dwm = s.dwm := rfl
@[simp] theorem State.setCore_log (s : State) (g : Nat) (c : CoreSt) : (s.setCore g c).log = s.log := rfl
@[simp] theorem State.setCore_corrLast (s : State) (g : Nat) (c : CoreSt) : (s.setCore g c).corrLast = s.corrLast := rfl
@[simp] theorem State.setCore_planStaged (s : State) (g : Nat) (c : CoreSt) : (s.setCore g c).planStaged = s.planStaged := rfl
@[simp] theorem State.setCore_planForce (s : State) (g : Nat) (c : CoreSt) : (s.setCore g c).planForce = s.planForce := rfl
@[simp] theorem State.setCore_commits (s : State) (g : Nat) (c : CoreSt) : (s.setCore g c).commits = s.commits := rfl
@[simp] theorem State.setCore_samples (s : State) (g : Nat) (c : CoreSt) : (s.setCore g c).samples = s.samples := rfl
@[simp] theorem State.setCore_mapAcc (s : State) (g : Nat) (c : CoreSt) : (s.setCore g c).mapAcc = s.mapAcc := rfl
@[simp] theorem State.setCore_mapFrom (s : State) (g : Nat) (c : CoreSt) : (s.setCore g c).mapFrom = s.mapFrom := rfl
@[simp] theorem State.setCore_mapSnap (s : State) (g : Nat) (c : CoreSt) : (s.setCore g c).mapSnap = s.mapSnap := rfl
@[simp] theorem State.setCore_mapBuf (s : State) (g : Nat) (c : CoreSt) : (s.setCore g c).mapBuf = s.mapBuf := rfl
@[simp] theorem State.setCore_ports (s : State) (g : Nat) (c : CoreSt) : (s.setCore g c).ports = s.ports := rfl
@[simp] theorem State.setCore_out (s : State) (g : Nat) (c : CoreSt) : (s.setCore g c).out = s.out := rfl
@[simp] theorem State.reg_setCore (s : State) (g : Nat) (c : CoreSt) (k : Nat) : (s.setCore g c).reg k = s.reg k := rfl
@[simp] theorem State.gf_setCore (s : State) (g : Nat) (c : CoreSt) (k : Nat) (l : Fld) : (s.setCore g c).gf k l = s.gf k l := rfl
@[simp] theorem State.ctr_setCore (s : State) (g : Nat) (c : CoreSt) (k : Nat) : (s.setCore g c).ctr k = s.ctr k := rfl
@[simp] theorem State.stand_setCore (s : State) (g : Nat) (c : CoreSt) (k : Nat) : (s.setCore g c).stand k = s.stand k := rfl
@[simp] theorem State.tile_setCore (s : State) (g : Nat) (c : CoreSt) (k : Nat) : (s.setCore g c).tile k = s.tile k := rfl
@[simp] theorem State.port_setCore (s : State) (g : Nat) (c : CoreSt) (k : Nat) : (s.setCore g c).port k = s.port k := rfl
@[simp] theorem State.fabT_setCore (s : State) (g : Nat) (c : CoreSt) (k : Nat) : (s.setCore g c).fabT k = s.fabT k := rfl
@[simp] theorem State.site_setCore (s : State) (g : Nat) (c : CoreSt) (k : Nat) : (s.setCore g c).site k = s.site k := rfl
@[simp] theorem State.hbmS_setCore (s : State) (g : Nat) (c : CoreSt) (k : Nat) : (s.setCore g c).hbmS k = s.hbmS k := rfl
@[simp] theorem State.tsS_setCore (s : State) (g : Nat) (c : CoreSt) (k : Nat) : (s.setCore g c).tsS k = s.tsS k := rfl
@[simp] theorem State.pwrS_setCore (s : State) (g : Nat) (c : CoreSt) (k : Nat) : (s.setCore g c).pwrS k = s.pwrS k := rfl
@[simp] theorem State.acc_setCore (s : State) (g : Nat) (c : CoreSt) (k : Nat) : (s.setCore g c).acc k = s.acc k := rfl
@[simp] theorem State.rd_setCore (s : State) (g : Nat) (c : CoreSt) (k n : Nat) : (s.setCore g c).rd k n = s.rd k n := rfl
@[simp] theorem State.stdState_setCore (s : State) (g : Nat) (c : CoreSt) (k : Nat) : (s.setCore g c).stdState k = s.stdState k := rfl
@[simp] theorem State.setCore_inputOut (s : State) (g : Nat) (c : CoreSt) : (s.setCore g c).inputOut = s.inputOut := rfl
@[simp] theorem State.setCore_storeTemp (s : State) (g : Nat) (c : CoreSt) : (s.setCore g c).storeTemp = s.storeTemp := rfl
@[simp] theorem State.setCore_regions (s : State) (g : Nat) (c : CoreSt) : (s.setCore g c).regions = s.regions := rfl
@[simp] theorem State.setCore_tileGtc (s : State) (g : Nat) (c : CoreSt) : (s.setCore g c).tileGtc = s.tileGtc := rfl
@[simp] theorem State.setCore_errWait (s : State) (g : Nat) (c : CoreSt) : (s.setCore g c).errWait = s.errWait := rfl
@[simp] theorem State.setCore_mgmtWait (s : State) (g : Nat) (c : CoreSt) : (s.setCore g c).mgmtWait = s.mgmtWait := rfl
@[simp] theorem State.region_setCore (s : State) (g : Nat) (c : CoreSt) (k : Nat) : (s.setCore g c).region k = s.region k := rfl
@[simp] theorem State.takingOver_setCore (s : State) (g : Nat) (c : CoreSt) : (s.setCore g c).takingOver = s.takingOver := rfl

/-! ### setRegion -/

@[simp] theorem State.setRegion_pending (s : State) (g : Nat) (x : Region) : (s.setRegion g x).pending = s.pending := rfl
@[simp] theorem State.setRegion_freeCtr (s : State) (g : Nat) (x : Region) : (s.setRegion g x).freeCtr = s.freeCtr := rfl
@[simp] theorem State.setRegion_arms (s : State) (g : Nat) (x : Region) : (s.setRegion g x).arms = s.arms := rfl
@[simp] theorem State.setRegion_gtc (s : State) (g : Nat) (x : Region) : (s.setRegion g x).gtc = s.gtc := rfl
@[simp] theorem State.setRegion_power (s : State) (g : Nat) (x : Region) : (s.setRegion g x).power = s.power := rfl
@[simp] theorem State.setRegion_regs (s : State) (g : Nat) (x : Region) : (s.setRegion g x).regs = s.regs := rfl
@[simp] theorem State.setRegion_pmc (s : State) (g : Nat) (x : Region) : (s.setRegion g x).pmc = s.pmc := rfl
@[simp] theorem State.setRegion_mem (s : State) (g : Nat) (x : Region) : (s.setRegion g x).mem = s.mem := rfl
@[simp] theorem State.setRegion_poison (s : State) (g : Nat) (x : Region) : (s.setRegion g x).poison = s.poison := rfl
@[simp] theorem State.setRegion_stands (s : State) (g : Nat) (x : Region) : (s.setRegion g x).stands = s.stands := rfl
@[simp] theorem State.setRegion_tiles (s : State) (g : Nat) (x : Region) : (s.setRegion g x).tiles = s.tiles := rfl
@[simp] theorem State.setRegion_fab (s : State) (g : Nat) (x : Region) : (s.setRegion g x).fab = s.fab := rfl
@[simp] theorem State.setRegion_sites (s : State) (g : Nat) (x : Region) : (s.setRegion g x).sites = s.sites := rfl
@[simp] theorem State.setRegion_hbm (s : State) (g : Nat) (x : Region) : (s.setRegion g x).hbm = s.hbm := rfl
@[simp] theorem State.setRegion_ts (s : State) (g : Nat) (x : Region) : (s.setRegion g x).ts = s.ts := rfl
@[simp] theorem State.setRegion_pwr (s : State) (g : Nat) (x : Region) : (s.setRegion g x).pwr = s.pwr := rfl
@[simp] theorem State.setRegion_modK (s : State) (g : Nat) (x : Region) : (s.setRegion g x).modK = s.modK := rfl
@[simp] theorem State.setRegion_supplyLow (s : State) (g : Nat) (x : Region) : (s.setRegion g x).supplyLow = s.supplyLow := rfl
@[simp] theorem State.setRegion_supplyPark (s : State) (g : Nat) (x : Region) : (s.setRegion g x).supplyPark = s.supplyPark := rfl
@[simp] theorem State.setRegion_thmOff (s : State) (g : Nat) (x : Region) : (s.setRegion g x).thmOff = s.thmOff := rfl
@[simp] theorem State.setRegion_clk (s : State) (g : Nat) (x : Region) : (s.setRegion g x).clk = s.clk := rfl
@[simp] theorem State.setRegion_start (s : State) (g : Nat) (x : Region) : (s.setRegion g x).start = s.start := rfl
@[simp] theorem State.setRegion_sec (s : State) (g : Nat) (x : Region) : (s.setRegion g x).sec = s.sec := rfl
@[simp] theorem State.setRegion_nvq (s : State) (g : Nat) (x : Region) : (s.setRegion g x).nvq = s.nvq := rfl
@[simp] theorem State.setRegion_copy0 (s : State) (g : Nat) (x : Region) : (s.setRegion g x).copy0 = s.copy0 := rfl
@[simp] theorem State.setRegion_copy15 (s : State) (g : Nat) (x : Region) : (s.setRegion g x).copy15 = s.copy15 := rfl
@[simp] theorem State.setRegion_dwm (s : State) (g : Nat) (x : Region) : (s.setRegion g x).dwm = s.dwm := rfl
@[simp] theorem State.setRegion_log (s : State) (g : Nat) (x : Region) : (s.setRegion g x).log = s.log := rfl
@[simp] theorem State.setRegion_corrLast (s : State) (g : Nat) (x : Region) : (s.setRegion g x).corrLast = s.corrLast := rfl
@[simp] theorem State.setRegion_planStaged (s : State) (g : Nat) (x : Region) : (s.setRegion g x).planStaged = s.planStaged := rfl
@[simp] theorem State.setRegion_planForce (s : State) (g : Nat) (x : Region) : (s.setRegion g x).planForce = s.planForce := rfl
@[simp] theorem State.setRegion_commits (s : State) (g : Nat) (x : Region) : (s.setRegion g x).commits = s.commits := rfl
@[simp] theorem State.setRegion_samples (s : State) (g : Nat) (x : Region) : (s.setRegion g x).samples = s.samples := rfl
@[simp] theorem State.setRegion_mapAcc (s : State) (g : Nat) (x : Region) : (s.setRegion g x).mapAcc = s.mapAcc := rfl
@[simp] theorem State.setRegion_mapFrom (s : State) (g : Nat) (x : Region) : (s.setRegion g x).mapFrom = s.mapFrom := rfl
@[simp] theorem State.setRegion_mapSnap (s : State) (g : Nat) (x : Region) : (s.setRegion g x).mapSnap = s.mapSnap := rfl
@[simp] theorem State.setRegion_mapBuf (s : State) (g : Nat) (x : Region) : (s.setRegion g x).mapBuf = s.mapBuf := rfl
@[simp] theorem State.setRegion_ports (s : State) (g : Nat) (x : Region) : (s.setRegion g x).ports = s.ports := rfl
@[simp] theorem State.setRegion_out (s : State) (g : Nat) (x : Region) : (s.setRegion g x).out = s.out := rfl
@[simp] theorem State.reg_setRegion (s : State) (g : Nat) (x : Region) (k : Nat) : (s.setRegion g x).reg k = s.reg k := rfl
@[simp] theorem State.gf_setRegion (s : State) (g : Nat) (x : Region) (k : Nat) (l : Fld) : (s.setRegion g x).gf k l = s.gf k l := rfl
@[simp] theorem State.ctr_setRegion (s : State) (g : Nat) (x : Region) (k : Nat) : (s.setRegion g x).ctr k = s.ctr k := rfl
@[simp] theorem State.stand_setRegion (s : State) (g : Nat) (x : Region) (k : Nat) : (s.setRegion g x).stand k = s.stand k := rfl
@[simp] theorem State.tile_setRegion (s : State) (g : Nat) (x : Region) (k : Nat) : (s.setRegion g x).tile k = s.tile k := rfl
@[simp] theorem State.port_setRegion (s : State) (g : Nat) (x : Region) (k : Nat) : (s.setRegion g x).port k = s.port k := rfl
@[simp] theorem State.fabT_setRegion (s : State) (g : Nat) (x : Region) (k : Nat) : (s.setRegion g x).fabT k = s.fabT k := rfl
@[simp] theorem State.site_setRegion (s : State) (g : Nat) (x : Region) (k : Nat) : (s.setRegion g x).site k = s.site k := rfl
@[simp] theorem State.hbmS_setRegion (s : State) (g : Nat) (x : Region) (k : Nat) : (s.setRegion g x).hbmS k = s.hbmS k := rfl
@[simp] theorem State.tsS_setRegion (s : State) (g : Nat) (x : Region) (k : Nat) : (s.setRegion g x).tsS k = s.tsS k := rfl
@[simp] theorem State.pwrS_setRegion (s : State) (g : Nat) (x : Region) (k : Nat) : (s.setRegion g x).pwrS k = s.pwrS k := rfl
@[simp] theorem State.acc_setRegion (s : State) (g : Nat) (x : Region) (k : Nat) : (s.setRegion g x).acc k = s.acc k := rfl
@[simp] theorem State.rd_setRegion (s : State) (g : Nat) (x : Region) (k n : Nat) : (s.setRegion g x).rd k n = s.rd k n := rfl
@[simp] theorem State.stdState_setRegion (s : State) (g : Nat) (x : Region) (k : Nat) : (s.setRegion g x).stdState k = s.stdState k := rfl
@[simp] theorem State.setRegion_inputOut (s : State) (g : Nat) (x : Region) : (s.setRegion g x).inputOut = s.inputOut := rfl
@[simp] theorem State.setRegion_storeTemp (s : State) (g : Nat) (x : Region) : (s.setRegion g x).storeTemp = s.storeTemp := rfl
@[simp] theorem State.setRegion_tileGtc (s : State) (g : Nat) (x : Region) : (s.setRegion g x).tileGtc = s.tileGtc := rfl
@[simp] theorem State.setRegion_errWait (s : State) (g : Nat) (x : Region) : (s.setRegion g x).errWait = s.errWait := rfl
@[simp] theorem State.setRegion_mgmtWait (s : State) (g : Nat) (x : Region) : (s.setRegion g x).mgmtWait = s.mgmtWait := rfl
@[simp] theorem State.takingOver_setRegion (s : State) (g : Nat) (x : Region) : (s.setRegion g x).takingOver = s.takingOver := rfl
@[simp] theorem State.setRegion_cores (s : State) (g : Nat) (x : Region) : (s.setRegion g x).cores = s.cores := rfl
@[simp] theorem State.core_setRegion (s : State) (g : Nat) (x : Region) (k : Nat) : (s.setRegion g x).core k = s.core k := rfl

/-! ### setStand -/

@[simp] theorem State.setStand_pending (s : State) (i : Nat) (x : StandSt) : (s.setStand i x).pending = s.pending := rfl
@[simp] theorem State.setStand_freeCtr (s : State) (i : Nat) (x : StandSt) : (s.setStand i x).freeCtr = s.freeCtr := rfl
@[simp] theorem State.setStand_arms (s : State) (i : Nat) (x : StandSt) : (s.setStand i x).arms = s.arms := rfl
@[simp] theorem State.setStand_gtc (s : State) (i : Nat) (x : StandSt) : (s.setStand i x).gtc = s.gtc := rfl
@[simp] theorem State.setStand_power (s : State) (i : Nat) (x : StandSt) : (s.setStand i x).power = s.power := rfl
@[simp] theorem State.setStand_regs (s : State) (i : Nat) (x : StandSt) : (s.setStand i x).regs = s.regs := rfl
@[simp] theorem State.setStand_pmc (s : State) (i : Nat) (x : StandSt) : (s.setStand i x).pmc = s.pmc := rfl
@[simp] theorem State.setStand_mem (s : State) (i : Nat) (x : StandSt) : (s.setStand i x).mem = s.mem := rfl
@[simp] theorem State.setStand_poison (s : State) (i : Nat) (x : StandSt) : (s.setStand i x).poison = s.poison := rfl
@[simp] theorem State.setStand_cores (s : State) (i : Nat) (x : StandSt) : (s.setStand i x).cores = s.cores := rfl
@[simp] theorem State.setStand_tiles (s : State) (i : Nat) (x : StandSt) : (s.setStand i x).tiles = s.tiles := rfl
@[simp] theorem State.setStand_fab (s : State) (i : Nat) (x : StandSt) : (s.setStand i x).fab = s.fab := rfl
@[simp] theorem State.setStand_sites (s : State) (i : Nat) (x : StandSt) : (s.setStand i x).sites = s.sites := rfl
@[simp] theorem State.setStand_hbm (s : State) (i : Nat) (x : StandSt) : (s.setStand i x).hbm = s.hbm := rfl
@[simp] theorem State.setStand_ts (s : State) (i : Nat) (x : StandSt) : (s.setStand i x).ts = s.ts := rfl
@[simp] theorem State.setStand_pwr (s : State) (i : Nat) (x : StandSt) : (s.setStand i x).pwr = s.pwr := rfl
@[simp] theorem State.setStand_modK (s : State) (i : Nat) (x : StandSt) : (s.setStand i x).modK = s.modK := rfl
@[simp] theorem State.setStand_supplyLow (s : State) (i : Nat) (x : StandSt) : (s.setStand i x).supplyLow = s.supplyLow := rfl
@[simp] theorem State.setStand_supplyPark (s : State) (i : Nat) (x : StandSt) : (s.setStand i x).supplyPark = s.supplyPark := rfl
@[simp] theorem State.setStand_thmOff (s : State) (i : Nat) (x : StandSt) : (s.setStand i x).thmOff = s.thmOff := rfl
@[simp] theorem State.setStand_clk (s : State) (i : Nat) (x : StandSt) : (s.setStand i x).clk = s.clk := rfl
@[simp] theorem State.setStand_start (s : State) (i : Nat) (x : StandSt) : (s.setStand i x).start = s.start := rfl
@[simp] theorem State.setStand_sec (s : State) (i : Nat) (x : StandSt) : (s.setStand i x).sec = s.sec := rfl
@[simp] theorem State.setStand_nvq (s : State) (i : Nat) (x : StandSt) : (s.setStand i x).nvq = s.nvq := rfl
@[simp] theorem State.setStand_copy0 (s : State) (i : Nat) (x : StandSt) : (s.setStand i x).copy0 = s.copy0 := rfl
@[simp] theorem State.setStand_copy15 (s : State) (i : Nat) (x : StandSt) : (s.setStand i x).copy15 = s.copy15 := rfl
@[simp] theorem State.setStand_dwm (s : State) (i : Nat) (x : StandSt) : (s.setStand i x).dwm = s.dwm := rfl
@[simp] theorem State.setStand_log (s : State) (i : Nat) (x : StandSt) : (s.setStand i x).log = s.log := rfl
@[simp] theorem State.setStand_corrLast (s : State) (i : Nat) (x : StandSt) : (s.setStand i x).corrLast = s.corrLast := rfl
@[simp] theorem State.setStand_planStaged (s : State) (i : Nat) (x : StandSt) : (s.setStand i x).planStaged = s.planStaged := rfl
@[simp] theorem State.setStand_planForce (s : State) (i : Nat) (x : StandSt) : (s.setStand i x).planForce = s.planForce := rfl
@[simp] theorem State.setStand_commits (s : State) (i : Nat) (x : StandSt) : (s.setStand i x).commits = s.commits := rfl
@[simp] theorem State.setStand_samples (s : State) (i : Nat) (x : StandSt) : (s.setStand i x).samples = s.samples := rfl
@[simp] theorem State.setStand_mapAcc (s : State) (i : Nat) (x : StandSt) : (s.setStand i x).mapAcc = s.mapAcc := rfl
@[simp] theorem State.setStand_mapFrom (s : State) (i : Nat) (x : StandSt) : (s.setStand i x).mapFrom = s.mapFrom := rfl
@[simp] theorem State.setStand_mapSnap (s : State) (i : Nat) (x : StandSt) : (s.setStand i x).mapSnap = s.mapSnap := rfl
@[simp] theorem State.setStand_mapBuf (s : State) (i : Nat) (x : StandSt) : (s.setStand i x).mapBuf = s.mapBuf := rfl
@[simp] theorem State.setStand_ports (s : State) (i : Nat) (x : StandSt) : (s.setStand i x).ports = s.ports := rfl
@[simp] theorem State.setStand_out (s : State) (i : Nat) (x : StandSt) : (s.setStand i x).out = s.out := rfl
@[simp] theorem State.reg_setStand (s : State) (i : Nat) (x : StandSt) (k : Nat) : (s.setStand i x).reg k = s.reg k := rfl
@[simp] theorem State.gf_setStand (s : State) (i : Nat) (x : StandSt) (k : Nat) (l : Fld) : (s.setStand i x).gf k l = s.gf k l := rfl
@[simp] theorem State.ctr_setStand (s : State) (i : Nat) (x : StandSt) (k : Nat) : (s.setStand i x).ctr k = s.ctr k := rfl
@[simp] theorem State.core_setStand (s : State) (i : Nat) (x : StandSt) (k : Nat) : (s.setStand i x).core k = s.core k := rfl
@[simp] theorem State.tile_setStand (s : State) (i : Nat) (x : StandSt) (k : Nat) : (s.setStand i x).tile k = s.tile k := rfl
@[simp] theorem State.port_setStand (s : State) (i : Nat) (x : StandSt) (k : Nat) : (s.setStand i x).port k = s.port k := rfl
@[simp] theorem State.fabT_setStand (s : State) (i : Nat) (x : StandSt) (k : Nat) : (s.setStand i x).fabT k = s.fabT k := rfl
@[simp] theorem State.site_setStand (s : State) (i : Nat) (x : StandSt) (k : Nat) : (s.setStand i x).site k = s.site k := rfl
@[simp] theorem State.hbmS_setStand (s : State) (i : Nat) (x : StandSt) (k : Nat) : (s.setStand i x).hbmS k = s.hbmS k := rfl
@[simp] theorem State.tsS_setStand (s : State) (i : Nat) (x : StandSt) (k : Nat) : (s.setStand i x).tsS k = s.tsS k := rfl
@[simp] theorem State.pwrS_setStand (s : State) (i : Nat) (x : StandSt) (k : Nat) : (s.setStand i x).pwrS k = s.pwrS k := rfl
@[simp] theorem State.acc_setStand (s : State) (i : Nat) (x : StandSt) (k : Nat) : (s.setStand i x).acc k = s.acc k := rfl
@[simp] theorem State.rd_setStand (s : State) (i : Nat) (x : StandSt) (k n : Nat) : (s.setStand i x).rd k n = s.rd k n := rfl
@[simp] theorem State.stdState_setStand (s : State) (i : Nat) (x : StandSt) (k : Nat) : (s.setStand i x).stdState k = s.stdState k := rfl
@[simp] theorem State.setStand_inputOut (s : State) (i : Nat) (x : StandSt) : (s.setStand i x).inputOut = s.inputOut := rfl
@[simp] theorem State.setStand_storeTemp (s : State) (i : Nat) (x : StandSt) : (s.setStand i x).storeTemp = s.storeTemp := rfl
@[simp] theorem State.setStand_regions (s : State) (i : Nat) (x : StandSt) : (s.setStand i x).regions = s.regions := rfl
@[simp] theorem State.setStand_tileGtc (s : State) (i : Nat) (x : StandSt) : (s.setStand i x).tileGtc = s.tileGtc := rfl
@[simp] theorem State.setStand_errWait (s : State) (i : Nat) (x : StandSt) : (s.setStand i x).errWait = s.errWait := rfl
@[simp] theorem State.setStand_mgmtWait (s : State) (i : Nat) (x : StandSt) : (s.setStand i x).mgmtWait = s.mgmtWait := rfl
@[simp] theorem State.region_setStand (s : State) (i : Nat) (x : StandSt) (k : Nat) : (s.setStand i x).region k = s.region k := rfl
@[simp] theorem State.takingOver_setStand (s : State) (i : Nat) (x : StandSt) : (s.setStand i x).takingOver = s.takingOver := rfl

/-! ### setTile -/

@[simp] theorem State.setTile_pending (s : State) (t : Nat) (x : PlaneTile) : (s.setTile t x).pending = s.pending := rfl
@[simp] theorem State.setTile_freeCtr (s : State) (t : Nat) (x : PlaneTile) : (s.setTile t x).freeCtr = s.freeCtr := rfl
@[simp] theorem State.setTile_arms (s : State) (t : Nat) (x : PlaneTile) : (s.setTile t x).arms = s.arms := rfl
@[simp] theorem State.setTile_gtc (s : State) (t : Nat) (x : PlaneTile) : (s.setTile t x).gtc = s.gtc := rfl
@[simp] theorem State.setTile_power (s : State) (t : Nat) (x : PlaneTile) : (s.setTile t x).power = s.power := rfl
@[simp] theorem State.setTile_regs (s : State) (t : Nat) (x : PlaneTile) : (s.setTile t x).regs = s.regs := rfl
@[simp] theorem State.setTile_pmc (s : State) (t : Nat) (x : PlaneTile) : (s.setTile t x).pmc = s.pmc := rfl
@[simp] theorem State.setTile_mem (s : State) (t : Nat) (x : PlaneTile) : (s.setTile t x).mem = s.mem := rfl
@[simp] theorem State.setTile_poison (s : State) (t : Nat) (x : PlaneTile) : (s.setTile t x).poison = s.poison := rfl
@[simp] theorem State.setTile_cores (s : State) (t : Nat) (x : PlaneTile) : (s.setTile t x).cores = s.cores := rfl
@[simp] theorem State.setTile_stands (s : State) (t : Nat) (x : PlaneTile) : (s.setTile t x).stands = s.stands := rfl
@[simp] theorem State.setTile_fab (s : State) (t : Nat) (x : PlaneTile) : (s.setTile t x).fab = s.fab := rfl
@[simp] theorem State.setTile_sites (s : State) (t : Nat) (x : PlaneTile) : (s.setTile t x).sites = s.sites := rfl
@[simp] theorem State.setTile_hbm (s : State) (t : Nat) (x : PlaneTile) : (s.setTile t x).hbm = s.hbm := rfl
@[simp] theorem State.setTile_ts (s : State) (t : Nat) (x : PlaneTile) : (s.setTile t x).ts = s.ts := rfl
@[simp] theorem State.setTile_pwr (s : State) (t : Nat) (x : PlaneTile) : (s.setTile t x).pwr = s.pwr := rfl
@[simp] theorem State.setTile_modK (s : State) (t : Nat) (x : PlaneTile) : (s.setTile t x).modK = s.modK := rfl
@[simp] theorem State.setTile_supplyLow (s : State) (t : Nat) (x : PlaneTile) : (s.setTile t x).supplyLow = s.supplyLow := rfl
@[simp] theorem State.setTile_supplyPark (s : State) (t : Nat) (x : PlaneTile) : (s.setTile t x).supplyPark = s.supplyPark := rfl
@[simp] theorem State.setTile_thmOff (s : State) (t : Nat) (x : PlaneTile) : (s.setTile t x).thmOff = s.thmOff := rfl
@[simp] theorem State.setTile_clk (s : State) (t : Nat) (x : PlaneTile) : (s.setTile t x).clk = s.clk := rfl
@[simp] theorem State.setTile_start (s : State) (t : Nat) (x : PlaneTile) : (s.setTile t x).start = s.start := rfl
@[simp] theorem State.setTile_sec (s : State) (t : Nat) (x : PlaneTile) : (s.setTile t x).sec = s.sec := rfl
@[simp] theorem State.setTile_nvq (s : State) (t : Nat) (x : PlaneTile) : (s.setTile t x).nvq = s.nvq := rfl
@[simp] theorem State.setTile_copy0 (s : State) (t : Nat) (x : PlaneTile) : (s.setTile t x).copy0 = s.copy0 := rfl
@[simp] theorem State.setTile_copy15 (s : State) (t : Nat) (x : PlaneTile) : (s.setTile t x).copy15 = s.copy15 := rfl
@[simp] theorem State.setTile_dwm (s : State) (t : Nat) (x : PlaneTile) : (s.setTile t x).dwm = s.dwm := rfl
@[simp] theorem State.setTile_log (s : State) (t : Nat) (x : PlaneTile) : (s.setTile t x).log = s.log := rfl
@[simp] theorem State.setTile_corrLast (s : State) (t : Nat) (x : PlaneTile) : (s.setTile t x).corrLast = s.corrLast := rfl
@[simp] theorem State.setTile_planStaged (s : State) (t : Nat) (x : PlaneTile) : (s.setTile t x).planStaged = s.planStaged := rfl
@[simp] theorem State.setTile_planForce (s : State) (t : Nat) (x : PlaneTile) : (s.setTile t x).planForce = s.planForce := rfl
@[simp] theorem State.setTile_commits (s : State) (t : Nat) (x : PlaneTile) : (s.setTile t x).commits = s.commits := rfl
@[simp] theorem State.setTile_samples (s : State) (t : Nat) (x : PlaneTile) : (s.setTile t x).samples = s.samples := rfl
@[simp] theorem State.setTile_mapAcc (s : State) (t : Nat) (x : PlaneTile) : (s.setTile t x).mapAcc = s.mapAcc := rfl
@[simp] theorem State.setTile_mapFrom (s : State) (t : Nat) (x : PlaneTile) : (s.setTile t x).mapFrom = s.mapFrom := rfl
@[simp] theorem State.setTile_mapSnap (s : State) (t : Nat) (x : PlaneTile) : (s.setTile t x).mapSnap = s.mapSnap := rfl
@[simp] theorem State.setTile_mapBuf (s : State) (t : Nat) (x : PlaneTile) : (s.setTile t x).mapBuf = s.mapBuf := rfl
@[simp] theorem State.setTile_ports (s : State) (t : Nat) (x : PlaneTile) : (s.setTile t x).ports = s.ports := rfl
@[simp] theorem State.setTile_out (s : State) (t : Nat) (x : PlaneTile) : (s.setTile t x).out = s.out := rfl
@[simp] theorem State.reg_setTile (s : State) (t : Nat) (x : PlaneTile) (k : Nat) : (s.setTile t x).reg k = s.reg k := rfl
@[simp] theorem State.gf_setTile (s : State) (t : Nat) (x : PlaneTile) (k : Nat) (l : Fld) : (s.setTile t x).gf k l = s.gf k l := rfl
@[simp] theorem State.ctr_setTile (s : State) (t : Nat) (x : PlaneTile) (k : Nat) : (s.setTile t x).ctr k = s.ctr k := rfl
@[simp] theorem State.core_setTile (s : State) (t : Nat) (x : PlaneTile) (k : Nat) : (s.setTile t x).core k = s.core k := rfl
@[simp] theorem State.stand_setTile (s : State) (t : Nat) (x : PlaneTile) (k : Nat) : (s.setTile t x).stand k = s.stand k := rfl
@[simp] theorem State.port_setTile (s : State) (t : Nat) (x : PlaneTile) (k : Nat) : (s.setTile t x).port k = s.port k := rfl
@[simp] theorem State.fabT_setTile (s : State) (t : Nat) (x : PlaneTile) (k : Nat) : (s.setTile t x).fabT k = s.fabT k := rfl
@[simp] theorem State.site_setTile (s : State) (t : Nat) (x : PlaneTile) (k : Nat) : (s.setTile t x).site k = s.site k := rfl
@[simp] theorem State.hbmS_setTile (s : State) (t : Nat) (x : PlaneTile) (k : Nat) : (s.setTile t x).hbmS k = s.hbmS k := rfl
@[simp] theorem State.tsS_setTile (s : State) (t : Nat) (x : PlaneTile) (k : Nat) : (s.setTile t x).tsS k = s.tsS k := rfl
@[simp] theorem State.pwrS_setTile (s : State) (t : Nat) (x : PlaneTile) (k : Nat) : (s.setTile t x).pwrS k = s.pwrS k := rfl
@[simp] theorem State.acc_setTile (s : State) (t : Nat) (x : PlaneTile) (k : Nat) : (s.setTile t x).acc k = s.acc k := rfl
@[simp] theorem State.rd_setTile (s : State) (t : Nat) (x : PlaneTile) (k n : Nat) : (s.setTile t x).rd k n = s.rd k n := rfl
@[simp] theorem State.stdState_setTile (s : State) (t : Nat) (x : PlaneTile) (k : Nat) : (s.setTile t x).stdState k = s.stdState k := rfl
@[simp] theorem State.setTile_inputOut (s : State) (t : Nat) (x : PlaneTile) : (s.setTile t x).inputOut = s.inputOut := rfl
@[simp] theorem State.setTile_storeTemp (s : State) (t : Nat) (x : PlaneTile) : (s.setTile t x).storeTemp = s.storeTemp := rfl
@[simp] theorem State.setTile_regions (s : State) (t : Nat) (x : PlaneTile) : (s.setTile t x).regions = s.regions := rfl
@[simp] theorem State.setTile_tileGtc (s : State) (t : Nat) (x : PlaneTile) : (s.setTile t x).tileGtc = s.tileGtc := rfl
@[simp] theorem State.setTile_errWait (s : State) (t : Nat) (x : PlaneTile) : (s.setTile t x).errWait = s.errWait := rfl
@[simp] theorem State.setTile_mgmtWait (s : State) (t : Nat) (x : PlaneTile) : (s.setTile t x).mgmtWait = s.mgmtWait := rfl
@[simp] theorem State.region_setTile (s : State) (t : Nat) (x : PlaneTile) (k : Nat) : (s.setTile t x).region k = s.region k := rfl
@[simp] theorem State.takingOver_setTile (s : State) (t : Nat) (x : PlaneTile) : (s.setTile t x).takingOver = s.takingOver := rfl

/-! ### setFab -/

@[simp] theorem State.setFab_pending (s : State) (t : Nat) (x : FabTile) : (s.setFab t x).pending = s.pending := rfl
@[simp] theorem State.setFab_freeCtr (s : State) (t : Nat) (x : FabTile) : (s.setFab t x).freeCtr = s.freeCtr := rfl
@[simp] theorem State.setFab_arms (s : State) (t : Nat) (x : FabTile) : (s.setFab t x).arms = s.arms := rfl
@[simp] theorem State.setFab_gtc (s : State) (t : Nat) (x : FabTile) : (s.setFab t x).gtc = s.gtc := rfl
@[simp] theorem State.setFab_power (s : State) (t : Nat) (x : FabTile) : (s.setFab t x).power = s.power := rfl
@[simp] theorem State.setFab_regs (s : State) (t : Nat) (x : FabTile) : (s.setFab t x).regs = s.regs := rfl
@[simp] theorem State.setFab_pmc (s : State) (t : Nat) (x : FabTile) : (s.setFab t x).pmc = s.pmc := rfl
@[simp] theorem State.setFab_mem (s : State) (t : Nat) (x : FabTile) : (s.setFab t x).mem = s.mem := rfl
@[simp] theorem State.setFab_poison (s : State) (t : Nat) (x : FabTile) : (s.setFab t x).poison = s.poison := rfl
@[simp] theorem State.setFab_cores (s : State) (t : Nat) (x : FabTile) : (s.setFab t x).cores = s.cores := rfl
@[simp] theorem State.setFab_stands (s : State) (t : Nat) (x : FabTile) : (s.setFab t x).stands = s.stands := rfl
@[simp] theorem State.setFab_tiles (s : State) (t : Nat) (x : FabTile) : (s.setFab t x).tiles = s.tiles := rfl
@[simp] theorem State.setFab_sites (s : State) (t : Nat) (x : FabTile) : (s.setFab t x).sites = s.sites := rfl
@[simp] theorem State.setFab_hbm (s : State) (t : Nat) (x : FabTile) : (s.setFab t x).hbm = s.hbm := rfl
@[simp] theorem State.setFab_ts (s : State) (t : Nat) (x : FabTile) : (s.setFab t x).ts = s.ts := rfl
@[simp] theorem State.setFab_pwr (s : State) (t : Nat) (x : FabTile) : (s.setFab t x).pwr = s.pwr := rfl
@[simp] theorem State.setFab_modK (s : State) (t : Nat) (x : FabTile) : (s.setFab t x).modK = s.modK := rfl
@[simp] theorem State.setFab_supplyLow (s : State) (t : Nat) (x : FabTile) : (s.setFab t x).supplyLow = s.supplyLow := rfl
@[simp] theorem State.setFab_supplyPark (s : State) (t : Nat) (x : FabTile) : (s.setFab t x).supplyPark = s.supplyPark := rfl
@[simp] theorem State.setFab_thmOff (s : State) (t : Nat) (x : FabTile) : (s.setFab t x).thmOff = s.thmOff := rfl
@[simp] theorem State.setFab_clk (s : State) (t : Nat) (x : FabTile) : (s.setFab t x).clk = s.clk := rfl
@[simp] theorem State.setFab_start (s : State) (t : Nat) (x : FabTile) : (s.setFab t x).start = s.start := rfl
@[simp] theorem State.setFab_sec (s : State) (t : Nat) (x : FabTile) : (s.setFab t x).sec = s.sec := rfl
@[simp] theorem State.setFab_nvq (s : State) (t : Nat) (x : FabTile) : (s.setFab t x).nvq = s.nvq := rfl
@[simp] theorem State.setFab_copy0 (s : State) (t : Nat) (x : FabTile) : (s.setFab t x).copy0 = s.copy0 := rfl
@[simp] theorem State.setFab_copy15 (s : State) (t : Nat) (x : FabTile) : (s.setFab t x).copy15 = s.copy15 := rfl
@[simp] theorem State.setFab_dwm (s : State) (t : Nat) (x : FabTile) : (s.setFab t x).dwm = s.dwm := rfl
@[simp] theorem State.setFab_log (s : State) (t : Nat) (x : FabTile) : (s.setFab t x).log = s.log := rfl
@[simp] theorem State.setFab_corrLast (s : State) (t : Nat) (x : FabTile) : (s.setFab t x).corrLast = s.corrLast := rfl
@[simp] theorem State.setFab_planStaged (s : State) (t : Nat) (x : FabTile) : (s.setFab t x).planStaged = s.planStaged := rfl
@[simp] theorem State.setFab_planForce (s : State) (t : Nat) (x : FabTile) : (s.setFab t x).planForce = s.planForce := rfl
@[simp] theorem State.setFab_commits (s : State) (t : Nat) (x : FabTile) : (s.setFab t x).commits = s.commits := rfl
@[simp] theorem State.setFab_samples (s : State) (t : Nat) (x : FabTile) : (s.setFab t x).samples = s.samples := rfl
@[simp] theorem State.setFab_mapAcc (s : State) (t : Nat) (x : FabTile) : (s.setFab t x).mapAcc = s.mapAcc := rfl
@[simp] theorem State.setFab_mapFrom (s : State) (t : Nat) (x : FabTile) : (s.setFab t x).mapFrom = s.mapFrom := rfl
@[simp] theorem State.setFab_mapSnap (s : State) (t : Nat) (x : FabTile) : (s.setFab t x).mapSnap = s.mapSnap := rfl
@[simp] theorem State.setFab_mapBuf (s : State) (t : Nat) (x : FabTile) : (s.setFab t x).mapBuf = s.mapBuf := rfl
@[simp] theorem State.setFab_ports (s : State) (t : Nat) (x : FabTile) : (s.setFab t x).ports = s.ports := rfl
@[simp] theorem State.setFab_out (s : State) (t : Nat) (x : FabTile) : (s.setFab t x).out = s.out := rfl
@[simp] theorem State.reg_setFab (s : State) (t : Nat) (x : FabTile) (k : Nat) : (s.setFab t x).reg k = s.reg k := rfl
@[simp] theorem State.gf_setFab (s : State) (t : Nat) (x : FabTile) (k : Nat) (l : Fld) : (s.setFab t x).gf k l = s.gf k l := rfl
@[simp] theorem State.ctr_setFab (s : State) (t : Nat) (x : FabTile) (k : Nat) : (s.setFab t x).ctr k = s.ctr k := rfl
@[simp] theorem State.core_setFab (s : State) (t : Nat) (x : FabTile) (k : Nat) : (s.setFab t x).core k = s.core k := rfl
@[simp] theorem State.stand_setFab (s : State) (t : Nat) (x : FabTile) (k : Nat) : (s.setFab t x).stand k = s.stand k := rfl
@[simp] theorem State.tile_setFab (s : State) (t : Nat) (x : FabTile) (k : Nat) : (s.setFab t x).tile k = s.tile k := rfl
@[simp] theorem State.port_setFab (s : State) (t : Nat) (x : FabTile) (k : Nat) : (s.setFab t x).port k = s.port k := rfl
@[simp] theorem State.site_setFab (s : State) (t : Nat) (x : FabTile) (k : Nat) : (s.setFab t x).site k = s.site k := rfl
@[simp] theorem State.hbmS_setFab (s : State) (t : Nat) (x : FabTile) (k : Nat) : (s.setFab t x).hbmS k = s.hbmS k := rfl
@[simp] theorem State.tsS_setFab (s : State) (t : Nat) (x : FabTile) (k : Nat) : (s.setFab t x).tsS k = s.tsS k := rfl
@[simp] theorem State.pwrS_setFab (s : State) (t : Nat) (x : FabTile) (k : Nat) : (s.setFab t x).pwrS k = s.pwrS k := rfl
@[simp] theorem State.acc_setFab (s : State) (t : Nat) (x : FabTile) (k : Nat) : (s.setFab t x).acc k = s.acc k := rfl
@[simp] theorem State.rd_setFab (s : State) (t : Nat) (x : FabTile) (k n : Nat) : (s.setFab t x).rd k n = s.rd k n := rfl
@[simp] theorem State.stdState_setFab (s : State) (t : Nat) (x : FabTile) (k : Nat) : (s.setFab t x).stdState k = s.stdState k := rfl
@[simp] theorem State.setFab_inputOut (s : State) (t : Nat) (x : FabTile) : (s.setFab t x).inputOut = s.inputOut := rfl
@[simp] theorem State.setFab_storeTemp (s : State) (t : Nat) (x : FabTile) : (s.setFab t x).storeTemp = s.storeTemp := rfl
@[simp] theorem State.setFab_regions (s : State) (t : Nat) (x : FabTile) : (s.setFab t x).regions = s.regions := rfl
@[simp] theorem State.setFab_tileGtc (s : State) (t : Nat) (x : FabTile) : (s.setFab t x).tileGtc = s.tileGtc := rfl
@[simp] theorem State.setFab_errWait (s : State) (t : Nat) (x : FabTile) : (s.setFab t x).errWait = s.errWait := rfl
@[simp] theorem State.setFab_mgmtWait (s : State) (t : Nat) (x : FabTile) : (s.setFab t x).mgmtWait = s.mgmtWait := rfl
@[simp] theorem State.region_setFab (s : State) (t : Nat) (x : FabTile) (k : Nat) : (s.setFab t x).region k = s.region k := rfl
@[simp] theorem State.takingOver_setFab (s : State) (t : Nat) (x : FabTile) : (s.setFab t x).takingOver = s.takingOver := rfl

/-! ### setSite -/

@[simp] theorem State.setSite_pending (s : State) (w : Nat) (x : SiteSt) : (s.setSite w x).pending = s.pending := rfl
@[simp] theorem State.setSite_freeCtr (s : State) (w : Nat) (x : SiteSt) : (s.setSite w x).freeCtr = s.freeCtr := rfl
@[simp] theorem State.setSite_arms (s : State) (w : Nat) (x : SiteSt) : (s.setSite w x).arms = s.arms := rfl
@[simp] theorem State.setSite_gtc (s : State) (w : Nat) (x : SiteSt) : (s.setSite w x).gtc = s.gtc := rfl
@[simp] theorem State.setSite_power (s : State) (w : Nat) (x : SiteSt) : (s.setSite w x).power = s.power := rfl
@[simp] theorem State.setSite_regs (s : State) (w : Nat) (x : SiteSt) : (s.setSite w x).regs = s.regs := rfl
@[simp] theorem State.setSite_pmc (s : State) (w : Nat) (x : SiteSt) : (s.setSite w x).pmc = s.pmc := rfl
@[simp] theorem State.setSite_mem (s : State) (w : Nat) (x : SiteSt) : (s.setSite w x).mem = s.mem := rfl
@[simp] theorem State.setSite_poison (s : State) (w : Nat) (x : SiteSt) : (s.setSite w x).poison = s.poison := rfl
@[simp] theorem State.setSite_cores (s : State) (w : Nat) (x : SiteSt) : (s.setSite w x).cores = s.cores := rfl
@[simp] theorem State.setSite_stands (s : State) (w : Nat) (x : SiteSt) : (s.setSite w x).stands = s.stands := rfl
@[simp] theorem State.setSite_tiles (s : State) (w : Nat) (x : SiteSt) : (s.setSite w x).tiles = s.tiles := rfl
@[simp] theorem State.setSite_fab (s : State) (w : Nat) (x : SiteSt) : (s.setSite w x).fab = s.fab := rfl
@[simp] theorem State.setSite_hbm (s : State) (w : Nat) (x : SiteSt) : (s.setSite w x).hbm = s.hbm := rfl
@[simp] theorem State.setSite_ts (s : State) (w : Nat) (x : SiteSt) : (s.setSite w x).ts = s.ts := rfl
@[simp] theorem State.setSite_pwr (s : State) (w : Nat) (x : SiteSt) : (s.setSite w x).pwr = s.pwr := rfl
@[simp] theorem State.setSite_modK (s : State) (w : Nat) (x : SiteSt) : (s.setSite w x).modK = s.modK := rfl
@[simp] theorem State.setSite_supplyLow (s : State) (w : Nat) (x : SiteSt) : (s.setSite w x).supplyLow = s.supplyLow := rfl
@[simp] theorem State.setSite_supplyPark (s : State) (w : Nat) (x : SiteSt) : (s.setSite w x).supplyPark = s.supplyPark := rfl
@[simp] theorem State.setSite_thmOff (s : State) (w : Nat) (x : SiteSt) : (s.setSite w x).thmOff = s.thmOff := rfl
@[simp] theorem State.setSite_clk (s : State) (w : Nat) (x : SiteSt) : (s.setSite w x).clk = s.clk := rfl
@[simp] theorem State.setSite_start (s : State) (w : Nat) (x : SiteSt) : (s.setSite w x).start = s.start := rfl
@[simp] theorem State.setSite_sec (s : State) (w : Nat) (x : SiteSt) : (s.setSite w x).sec = s.sec := rfl
@[simp] theorem State.setSite_nvq (s : State) (w : Nat) (x : SiteSt) : (s.setSite w x).nvq = s.nvq := rfl
@[simp] theorem State.setSite_copy0 (s : State) (w : Nat) (x : SiteSt) : (s.setSite w x).copy0 = s.copy0 := rfl
@[simp] theorem State.setSite_copy15 (s : State) (w : Nat) (x : SiteSt) : (s.setSite w x).copy15 = s.copy15 := rfl
@[simp] theorem State.setSite_dwm (s : State) (w : Nat) (x : SiteSt) : (s.setSite w x).dwm = s.dwm := rfl
@[simp] theorem State.setSite_log (s : State) (w : Nat) (x : SiteSt) : (s.setSite w x).log = s.log := rfl
@[simp] theorem State.setSite_corrLast (s : State) (w : Nat) (x : SiteSt) : (s.setSite w x).corrLast = s.corrLast := rfl
@[simp] theorem State.setSite_planStaged (s : State) (w : Nat) (x : SiteSt) : (s.setSite w x).planStaged = s.planStaged := rfl
@[simp] theorem State.setSite_planForce (s : State) (w : Nat) (x : SiteSt) : (s.setSite w x).planForce = s.planForce := rfl
@[simp] theorem State.setSite_commits (s : State) (w : Nat) (x : SiteSt) : (s.setSite w x).commits = s.commits := rfl
@[simp] theorem State.setSite_samples (s : State) (w : Nat) (x : SiteSt) : (s.setSite w x).samples = s.samples := rfl
@[simp] theorem State.setSite_mapAcc (s : State) (w : Nat) (x : SiteSt) : (s.setSite w x).mapAcc = s.mapAcc := rfl
@[simp] theorem State.setSite_mapFrom (s : State) (w : Nat) (x : SiteSt) : (s.setSite w x).mapFrom = s.mapFrom := rfl
@[simp] theorem State.setSite_mapSnap (s : State) (w : Nat) (x : SiteSt) : (s.setSite w x).mapSnap = s.mapSnap := rfl
@[simp] theorem State.setSite_mapBuf (s : State) (w : Nat) (x : SiteSt) : (s.setSite w x).mapBuf = s.mapBuf := rfl
@[simp] theorem State.setSite_ports (s : State) (w : Nat) (x : SiteSt) : (s.setSite w x).ports = s.ports := rfl
@[simp] theorem State.setSite_out (s : State) (w : Nat) (x : SiteSt) : (s.setSite w x).out = s.out := rfl
@[simp] theorem State.reg_setSite (s : State) (w : Nat) (x : SiteSt) (k : Nat) : (s.setSite w x).reg k = s.reg k := rfl
@[simp] theorem State.gf_setSite (s : State) (w : Nat) (x : SiteSt) (k : Nat) (l : Fld) : (s.setSite w x).gf k l = s.gf k l := rfl
@[simp] theorem State.ctr_setSite (s : State) (w : Nat) (x : SiteSt) (k : Nat) : (s.setSite w x).ctr k = s.ctr k := rfl
@[simp] theorem State.core_setSite (s : State) (w : Nat) (x : SiteSt) (k : Nat) : (s.setSite w x).core k = s.core k := rfl
@[simp] theorem State.stand_setSite (s : State) (w : Nat) (x : SiteSt) (k : Nat) : (s.setSite w x).stand k = s.stand k := rfl
@[simp] theorem State.tile_setSite (s : State) (w : Nat) (x : SiteSt) (k : Nat) : (s.setSite w x).tile k = s.tile k := rfl
@[simp] theorem State.port_setSite (s : State) (w : Nat) (x : SiteSt) (k : Nat) : (s.setSite w x).port k = s.port k := rfl
@[simp] theorem State.fabT_setSite (s : State) (w : Nat) (x : SiteSt) (k : Nat) : (s.setSite w x).fabT k = s.fabT k := rfl
@[simp] theorem State.hbmS_setSite (s : State) (w : Nat) (x : SiteSt) (k : Nat) : (s.setSite w x).hbmS k = s.hbmS k := rfl
@[simp] theorem State.tsS_setSite (s : State) (w : Nat) (x : SiteSt) (k : Nat) : (s.setSite w x).tsS k = s.tsS k := rfl
@[simp] theorem State.pwrS_setSite (s : State) (w : Nat) (x : SiteSt) (k : Nat) : (s.setSite w x).pwrS k = s.pwrS k := rfl
@[simp] theorem State.acc_setSite (s : State) (w : Nat) (x : SiteSt) (k : Nat) : (s.setSite w x).acc k = s.acc k := rfl
@[simp] theorem State.rd_setSite (s : State) (w : Nat) (x : SiteSt) (k n : Nat) : (s.setSite w x).rd k n = s.rd k n := rfl
@[simp] theorem State.stdState_setSite (s : State) (w : Nat) (x : SiteSt) (k : Nat) : (s.setSite w x).stdState k = s.stdState k := rfl
@[simp] theorem State.setSite_inputOut (s : State) (w : Nat) (x : SiteSt) : (s.setSite w x).inputOut = s.inputOut := rfl
@[simp] theorem State.setSite_storeTemp (s : State) (w : Nat) (x : SiteSt) : (s.setSite w x).storeTemp = s.storeTemp := rfl
@[simp] theorem State.setSite_regions (s : State) (w : Nat) (x : SiteSt) : (s.setSite w x).regions = s.regions := rfl
@[simp] theorem State.setSite_tileGtc (s : State) (w : Nat) (x : SiteSt) : (s.setSite w x).tileGtc = s.tileGtc := rfl
@[simp] theorem State.setSite_errWait (s : State) (w : Nat) (x : SiteSt) : (s.setSite w x).errWait = s.errWait := rfl
@[simp] theorem State.setSite_mgmtWait (s : State) (w : Nat) (x : SiteSt) : (s.setSite w x).mgmtWait = s.mgmtWait := rfl
@[simp] theorem State.region_setSite (s : State) (w : Nat) (x : SiteSt) (k : Nat) : (s.setSite w x).region k = s.region k := rfl
@[simp] theorem State.takingOver_setSite (s : State) (w : Nat) (x : SiteSt) : (s.setSite w x).takingOver = s.takingOver := rfl

/-! ### setHbm -/

@[simp] theorem State.setHbm_pending (s : State) (j : Nat) (x : HbmSt) : (s.setHbm j x).pending = s.pending := rfl
@[simp] theorem State.setHbm_freeCtr (s : State) (j : Nat) (x : HbmSt) : (s.setHbm j x).freeCtr = s.freeCtr := rfl
@[simp] theorem State.setHbm_arms (s : State) (j : Nat) (x : HbmSt) : (s.setHbm j x).arms = s.arms := rfl
@[simp] theorem State.setHbm_gtc (s : State) (j : Nat) (x : HbmSt) : (s.setHbm j x).gtc = s.gtc := rfl
@[simp] theorem State.setHbm_power (s : State) (j : Nat) (x : HbmSt) : (s.setHbm j x).power = s.power := rfl
@[simp] theorem State.setHbm_regs (s : State) (j : Nat) (x : HbmSt) : (s.setHbm j x).regs = s.regs := rfl
@[simp] theorem State.setHbm_pmc (s : State) (j : Nat) (x : HbmSt) : (s.setHbm j x).pmc = s.pmc := rfl
@[simp] theorem State.setHbm_mem (s : State) (j : Nat) (x : HbmSt) : (s.setHbm j x).mem = s.mem := rfl
@[simp] theorem State.setHbm_poison (s : State) (j : Nat) (x : HbmSt) : (s.setHbm j x).poison = s.poison := rfl
@[simp] theorem State.setHbm_cores (s : State) (j : Nat) (x : HbmSt) : (s.setHbm j x).cores = s.cores := rfl
@[simp] theorem State.setHbm_stands (s : State) (j : Nat) (x : HbmSt) : (s.setHbm j x).stands = s.stands := rfl
@[simp] theorem State.setHbm_tiles (s : State) (j : Nat) (x : HbmSt) : (s.setHbm j x).tiles = s.tiles := rfl
@[simp] theorem State.setHbm_fab (s : State) (j : Nat) (x : HbmSt) : (s.setHbm j x).fab = s.fab := rfl
@[simp] theorem State.setHbm_sites (s : State) (j : Nat) (x : HbmSt) : (s.setHbm j x).sites = s.sites := rfl
@[simp] theorem State.setHbm_ts (s : State) (j : Nat) (x : HbmSt) : (s.setHbm j x).ts = s.ts := rfl
@[simp] theorem State.setHbm_pwr (s : State) (j : Nat) (x : HbmSt) : (s.setHbm j x).pwr = s.pwr := rfl
@[simp] theorem State.setHbm_modK (s : State) (j : Nat) (x : HbmSt) : (s.setHbm j x).modK = s.modK := rfl
@[simp] theorem State.setHbm_supplyLow (s : State) (j : Nat) (x : HbmSt) : (s.setHbm j x).supplyLow = s.supplyLow := rfl
@[simp] theorem State.setHbm_supplyPark (s : State) (j : Nat) (x : HbmSt) : (s.setHbm j x).supplyPark = s.supplyPark := rfl
@[simp] theorem State.setHbm_thmOff (s : State) (j : Nat) (x : HbmSt) : (s.setHbm j x).thmOff = s.thmOff := rfl
@[simp] theorem State.setHbm_clk (s : State) (j : Nat) (x : HbmSt) : (s.setHbm j x).clk = s.clk := rfl
@[simp] theorem State.setHbm_start (s : State) (j : Nat) (x : HbmSt) : (s.setHbm j x).start = s.start := rfl
@[simp] theorem State.setHbm_sec (s : State) (j : Nat) (x : HbmSt) : (s.setHbm j x).sec = s.sec := rfl
@[simp] theorem State.setHbm_nvq (s : State) (j : Nat) (x : HbmSt) : (s.setHbm j x).nvq = s.nvq := rfl
@[simp] theorem State.setHbm_copy0 (s : State) (j : Nat) (x : HbmSt) : (s.setHbm j x).copy0 = s.copy0 := rfl
@[simp] theorem State.setHbm_copy15 (s : State) (j : Nat) (x : HbmSt) : (s.setHbm j x).copy15 = s.copy15 := rfl
@[simp] theorem State.setHbm_dwm (s : State) (j : Nat) (x : HbmSt) : (s.setHbm j x).dwm = s.dwm := rfl
@[simp] theorem State.setHbm_log (s : State) (j : Nat) (x : HbmSt) : (s.setHbm j x).log = s.log := rfl
@[simp] theorem State.setHbm_corrLast (s : State) (j : Nat) (x : HbmSt) : (s.setHbm j x).corrLast = s.corrLast := rfl
@[simp] theorem State.setHbm_planStaged (s : State) (j : Nat) (x : HbmSt) : (s.setHbm j x).planStaged = s.planStaged := rfl
@[simp] theorem State.setHbm_planForce (s : State) (j : Nat) (x : HbmSt) : (s.setHbm j x).planForce = s.planForce := rfl
@[simp] theorem State.setHbm_commits (s : State) (j : Nat) (x : HbmSt) : (s.setHbm j x).commits = s.commits := rfl
@[simp] theorem State.setHbm_samples (s : State) (j : Nat) (x : HbmSt) : (s.setHbm j x).samples = s.samples := rfl
@[simp] theorem State.setHbm_mapAcc (s : State) (j : Nat) (x : HbmSt) : (s.setHbm j x).mapAcc = s.mapAcc := rfl
@[simp] theorem State.setHbm_mapFrom (s : State) (j : Nat) (x : HbmSt) : (s.setHbm j x).mapFrom = s.mapFrom := rfl
@[simp] theorem State.setHbm_mapSnap (s : State) (j : Nat) (x : HbmSt) : (s.setHbm j x).mapSnap = s.mapSnap := rfl
@[simp] theorem State.setHbm_mapBuf (s : State) (j : Nat) (x : HbmSt) : (s.setHbm j x).mapBuf = s.mapBuf := rfl
@[simp] theorem State.setHbm_ports (s : State) (j : Nat) (x : HbmSt) : (s.setHbm j x).ports = s.ports := rfl
@[simp] theorem State.setHbm_out (s : State) (j : Nat) (x : HbmSt) : (s.setHbm j x).out = s.out := rfl
@[simp] theorem State.reg_setHbm (s : State) (j : Nat) (x : HbmSt) (k : Nat) : (s.setHbm j x).reg k = s.reg k := rfl
@[simp] theorem State.gf_setHbm (s : State) (j : Nat) (x : HbmSt) (k : Nat) (l : Fld) : (s.setHbm j x).gf k l = s.gf k l := rfl
@[simp] theorem State.ctr_setHbm (s : State) (j : Nat) (x : HbmSt) (k : Nat) : (s.setHbm j x).ctr k = s.ctr k := rfl
@[simp] theorem State.core_setHbm (s : State) (j : Nat) (x : HbmSt) (k : Nat) : (s.setHbm j x).core k = s.core k := rfl
@[simp] theorem State.stand_setHbm (s : State) (j : Nat) (x : HbmSt) (k : Nat) : (s.setHbm j x).stand k = s.stand k := rfl
@[simp] theorem State.tile_setHbm (s : State) (j : Nat) (x : HbmSt) (k : Nat) : (s.setHbm j x).tile k = s.tile k := rfl
@[simp] theorem State.port_setHbm (s : State) (j : Nat) (x : HbmSt) (k : Nat) : (s.setHbm j x).port k = s.port k := rfl
@[simp] theorem State.fabT_setHbm (s : State) (j : Nat) (x : HbmSt) (k : Nat) : (s.setHbm j x).fabT k = s.fabT k := rfl
@[simp] theorem State.site_setHbm (s : State) (j : Nat) (x : HbmSt) (k : Nat) : (s.setHbm j x).site k = s.site k := rfl
@[simp] theorem State.tsS_setHbm (s : State) (j : Nat) (x : HbmSt) (k : Nat) : (s.setHbm j x).tsS k = s.tsS k := rfl
@[simp] theorem State.pwrS_setHbm (s : State) (j : Nat) (x : HbmSt) (k : Nat) : (s.setHbm j x).pwrS k = s.pwrS k := rfl
@[simp] theorem State.acc_setHbm (s : State) (j : Nat) (x : HbmSt) (k : Nat) : (s.setHbm j x).acc k = s.acc k := rfl
@[simp] theorem State.rd_setHbm (s : State) (j : Nat) (x : HbmSt) (k n : Nat) : (s.setHbm j x).rd k n = s.rd k n := rfl
@[simp] theorem State.stdState_setHbm (s : State) (j : Nat) (x : HbmSt) (k : Nat) : (s.setHbm j x).stdState k = s.stdState k := rfl
@[simp] theorem State.setHbm_inputOut (s : State) (j : Nat) (x : HbmSt) : (s.setHbm j x).inputOut = s.inputOut := rfl
@[simp] theorem State.setHbm_storeTemp (s : State) (j : Nat) (x : HbmSt) : (s.setHbm j x).storeTemp = s.storeTemp := rfl
@[simp] theorem State.setHbm_regions (s : State) (j : Nat) (x : HbmSt) : (s.setHbm j x).regions = s.regions := rfl
@[simp] theorem State.setHbm_tileGtc (s : State) (j : Nat) (x : HbmSt) : (s.setHbm j x).tileGtc = s.tileGtc := rfl
@[simp] theorem State.setHbm_errWait (s : State) (j : Nat) (x : HbmSt) : (s.setHbm j x).errWait = s.errWait := rfl
@[simp] theorem State.setHbm_mgmtWait (s : State) (j : Nat) (x : HbmSt) : (s.setHbm j x).mgmtWait = s.mgmtWait := rfl
@[simp] theorem State.region_setHbm (s : State) (j : Nat) (x : HbmSt) (k : Nat) : (s.setHbm j x).region k = s.region k := rfl
@[simp] theorem State.takingOver_setHbm (s : State) (j : Nat) (x : HbmSt) : (s.setHbm j x).takingOver = s.takingOver := rfl

/-! ### setTs -/

@[simp] theorem State.setTs_pending (s : State) (w : Nat) (x : TsSt) : (s.setTs w x).pending = s.pending := rfl
@[simp] theorem State.setTs_freeCtr (s : State) (w : Nat) (x : TsSt) : (s.setTs w x).freeCtr = s.freeCtr := rfl
@[simp] theorem State.setTs_arms (s : State) (w : Nat) (x : TsSt) : (s.setTs w x).arms = s.arms := rfl
@[simp] theorem State.setTs_gtc (s : State) (w : Nat) (x : TsSt) : (s.setTs w x).gtc = s.gtc := rfl
@[simp] theorem State.setTs_power (s : State) (w : Nat) (x : TsSt) : (s.setTs w x).power = s.power := rfl
@[simp] theorem State.setTs_regs (s : State) (w : Nat) (x : TsSt) : (s.setTs w x).regs = s.regs := rfl
@[simp] theorem State.setTs_pmc (s : State) (w : Nat) (x : TsSt) : (s.setTs w x).pmc = s.pmc := rfl
@[simp] theorem State.setTs_mem (s : State) (w : Nat) (x : TsSt) : (s.setTs w x).mem = s.mem := rfl
@[simp] theorem State.setTs_poison (s : State) (w : Nat) (x : TsSt) : (s.setTs w x).poison = s.poison := rfl
@[simp] theorem State.setTs_cores (s : State) (w : Nat) (x : TsSt) : (s.setTs w x).cores = s.cores := rfl
@[simp] theorem State.setTs_stands (s : State) (w : Nat) (x : TsSt) : (s.setTs w x).stands = s.stands := rfl
@[simp] theorem State.setTs_tiles (s : State) (w : Nat) (x : TsSt) : (s.setTs w x).tiles = s.tiles := rfl
@[simp] theorem State.setTs_fab (s : State) (w : Nat) (x : TsSt) : (s.setTs w x).fab = s.fab := rfl
@[simp] theorem State.setTs_sites (s : State) (w : Nat) (x : TsSt) : (s.setTs w x).sites = s.sites := rfl
@[simp] theorem State.setTs_hbm (s : State) (w : Nat) (x : TsSt) : (s.setTs w x).hbm = s.hbm := rfl
@[simp] theorem State.setTs_pwr (s : State) (w : Nat) (x : TsSt) : (s.setTs w x).pwr = s.pwr := rfl
@[simp] theorem State.setTs_modK (s : State) (w : Nat) (x : TsSt) : (s.setTs w x).modK = s.modK := rfl
@[simp] theorem State.setTs_supplyLow (s : State) (w : Nat) (x : TsSt) : (s.setTs w x).supplyLow = s.supplyLow := rfl
@[simp] theorem State.setTs_supplyPark (s : State) (w : Nat) (x : TsSt) : (s.setTs w x).supplyPark = s.supplyPark := rfl
@[simp] theorem State.setTs_thmOff (s : State) (w : Nat) (x : TsSt) : (s.setTs w x).thmOff = s.thmOff := rfl
@[simp] theorem State.setTs_clk (s : State) (w : Nat) (x : TsSt) : (s.setTs w x).clk = s.clk := rfl
@[simp] theorem State.setTs_start (s : State) (w : Nat) (x : TsSt) : (s.setTs w x).start = s.start := rfl
@[simp] theorem State.setTs_sec (s : State) (w : Nat) (x : TsSt) : (s.setTs w x).sec = s.sec := rfl
@[simp] theorem State.setTs_nvq (s : State) (w : Nat) (x : TsSt) : (s.setTs w x).nvq = s.nvq := rfl
@[simp] theorem State.setTs_copy0 (s : State) (w : Nat) (x : TsSt) : (s.setTs w x).copy0 = s.copy0 := rfl
@[simp] theorem State.setTs_copy15 (s : State) (w : Nat) (x : TsSt) : (s.setTs w x).copy15 = s.copy15 := rfl
@[simp] theorem State.setTs_dwm (s : State) (w : Nat) (x : TsSt) : (s.setTs w x).dwm = s.dwm := rfl
@[simp] theorem State.setTs_log (s : State) (w : Nat) (x : TsSt) : (s.setTs w x).log = s.log := rfl
@[simp] theorem State.setTs_corrLast (s : State) (w : Nat) (x : TsSt) : (s.setTs w x).corrLast = s.corrLast := rfl
@[simp] theorem State.setTs_planStaged (s : State) (w : Nat) (x : TsSt) : (s.setTs w x).planStaged = s.planStaged := rfl
@[simp] theorem State.setTs_planForce (s : State) (w : Nat) (x : TsSt) : (s.setTs w x).planForce = s.planForce := rfl
@[simp] theorem State.setTs_commits (s : State) (w : Nat) (x : TsSt) : (s.setTs w x).commits = s.commits := rfl
@[simp] theorem State.setTs_samples (s : State) (w : Nat) (x : TsSt) : (s.setTs w x).samples = s.samples := rfl
@[simp] theorem State.setTs_mapAcc (s : State) (w : Nat) (x : TsSt) : (s.setTs w x).mapAcc = s.mapAcc := rfl
@[simp] theorem State.setTs_mapFrom (s : State) (w : Nat) (x : TsSt) : (s.setTs w x).mapFrom = s.mapFrom := rfl
@[simp] theorem State.setTs_mapSnap (s : State) (w : Nat) (x : TsSt) : (s.setTs w x).mapSnap = s.mapSnap := rfl
@[simp] theorem State.setTs_mapBuf (s : State) (w : Nat) (x : TsSt) : (s.setTs w x).mapBuf = s.mapBuf := rfl
@[simp] theorem State.setTs_ports (s : State) (w : Nat) (x : TsSt) : (s.setTs w x).ports = s.ports := rfl
@[simp] theorem State.setTs_out (s : State) (w : Nat) (x : TsSt) : (s.setTs w x).out = s.out := rfl
@[simp] theorem State.reg_setTs (s : State) (w : Nat) (x : TsSt) (k : Nat) : (s.setTs w x).reg k = s.reg k := rfl
@[simp] theorem State.gf_setTs (s : State) (w : Nat) (x : TsSt) (k : Nat) (l : Fld) : (s.setTs w x).gf k l = s.gf k l := rfl
@[simp] theorem State.ctr_setTs (s : State) (w : Nat) (x : TsSt) (k : Nat) : (s.setTs w x).ctr k = s.ctr k := rfl
@[simp] theorem State.core_setTs (s : State) (w : Nat) (x : TsSt) (k : Nat) : (s.setTs w x).core k = s.core k := rfl
@[simp] theorem State.stand_setTs (s : State) (w : Nat) (x : TsSt) (k : Nat) : (s.setTs w x).stand k = s.stand k := rfl
@[simp] theorem State.tile_setTs (s : State) (w : Nat) (x : TsSt) (k : Nat) : (s.setTs w x).tile k = s.tile k := rfl
@[simp] theorem State.port_setTs (s : State) (w : Nat) (x : TsSt) (k : Nat) : (s.setTs w x).port k = s.port k := rfl
@[simp] theorem State.fabT_setTs (s : State) (w : Nat) (x : TsSt) (k : Nat) : (s.setTs w x).fabT k = s.fabT k := rfl
@[simp] theorem State.site_setTs (s : State) (w : Nat) (x : TsSt) (k : Nat) : (s.setTs w x).site k = s.site k := rfl
@[simp] theorem State.hbmS_setTs (s : State) (w : Nat) (x : TsSt) (k : Nat) : (s.setTs w x).hbmS k = s.hbmS k := rfl
@[simp] theorem State.pwrS_setTs (s : State) (w : Nat) (x : TsSt) (k : Nat) : (s.setTs w x).pwrS k = s.pwrS k := rfl
@[simp] theorem State.acc_setTs (s : State) (w : Nat) (x : TsSt) (k : Nat) : (s.setTs w x).acc k = s.acc k := rfl
@[simp] theorem State.rd_setTs (s : State) (w : Nat) (x : TsSt) (k n : Nat) : (s.setTs w x).rd k n = s.rd k n := rfl
@[simp] theorem State.stdState_setTs (s : State) (w : Nat) (x : TsSt) (k : Nat) : (s.setTs w x).stdState k = s.stdState k := rfl
@[simp] theorem State.setTs_inputOut (s : State) (w : Nat) (x : TsSt) : (s.setTs w x).inputOut = s.inputOut := rfl
@[simp] theorem State.setTs_storeTemp (s : State) (w : Nat) (x : TsSt) : (s.setTs w x).storeTemp = s.storeTemp := rfl
@[simp] theorem State.setTs_regions (s : State) (w : Nat) (x : TsSt) : (s.setTs w x).regions = s.regions := rfl
@[simp] theorem State.setTs_tileGtc (s : State) (w : Nat) (x : TsSt) : (s.setTs w x).tileGtc = s.tileGtc := rfl
@[simp] theorem State.setTs_errWait (s : State) (w : Nat) (x : TsSt) : (s.setTs w x).errWait = s.errWait := rfl
@[simp] theorem State.setTs_mgmtWait (s : State) (w : Nat) (x : TsSt) : (s.setTs w x).mgmtWait = s.mgmtWait := rfl
@[simp] theorem State.region_setTs (s : State) (w : Nat) (x : TsSt) (k : Nat) : (s.setTs w x).region k = s.region k := rfl
@[simp] theorem State.takingOver_setTs (s : State) (w : Nat) (x : TsSt) : (s.setTs w x).takingOver = s.takingOver := rfl

/-! ### setPwr -/

@[simp] theorem State.setPwr_pending (s : State) (i : Nat) (x : PwrSt) : (s.setPwr i x).pending = s.pending := rfl
@[simp] theorem State.setPwr_freeCtr (s : State) (i : Nat) (x : PwrSt) : (s.setPwr i x).freeCtr = s.freeCtr := rfl
@[simp] theorem State.setPwr_arms (s : State) (i : Nat) (x : PwrSt) : (s.setPwr i x).arms = s.arms := rfl
@[simp] theorem State.setPwr_gtc (s : State) (i : Nat) (x : PwrSt) : (s.setPwr i x).gtc = s.gtc := rfl
@[simp] theorem State.setPwr_power (s : State) (i : Nat) (x : PwrSt) : (s.setPwr i x).power = s.power := rfl
@[simp] theorem State.setPwr_regs (s : State) (i : Nat) (x : PwrSt) : (s.setPwr i x).regs = s.regs := rfl
@[simp] theorem State.setPwr_pmc (s : State) (i : Nat) (x : PwrSt) : (s.setPwr i x).pmc = s.pmc := rfl
@[simp] theorem State.setPwr_mem (s : State) (i : Nat) (x : PwrSt) : (s.setPwr i x).mem = s.mem := rfl
@[simp] theorem State.setPwr_poison (s : State) (i : Nat) (x : PwrSt) : (s.setPwr i x).poison = s.poison := rfl
@[simp] theorem State.setPwr_cores (s : State) (i : Nat) (x : PwrSt) : (s.setPwr i x).cores = s.cores := rfl
@[simp] theorem State.setPwr_stands (s : State) (i : Nat) (x : PwrSt) : (s.setPwr i x).stands = s.stands := rfl
@[simp] theorem State.setPwr_tiles (s : State) (i : Nat) (x : PwrSt) : (s.setPwr i x).tiles = s.tiles := rfl
@[simp] theorem State.setPwr_fab (s : State) (i : Nat) (x : PwrSt) : (s.setPwr i x).fab = s.fab := rfl
@[simp] theorem State.setPwr_sites (s : State) (i : Nat) (x : PwrSt) : (s.setPwr i x).sites = s.sites := rfl
@[simp] theorem State.setPwr_hbm (s : State) (i : Nat) (x : PwrSt) : (s.setPwr i x).hbm = s.hbm := rfl
@[simp] theorem State.setPwr_ts (s : State) (i : Nat) (x : PwrSt) : (s.setPwr i x).ts = s.ts := rfl
@[simp] theorem State.setPwr_modK (s : State) (i : Nat) (x : PwrSt) : (s.setPwr i x).modK = s.modK := rfl
@[simp] theorem State.setPwr_supplyLow (s : State) (i : Nat) (x : PwrSt) : (s.setPwr i x).supplyLow = s.supplyLow := rfl
@[simp] theorem State.setPwr_supplyPark (s : State) (i : Nat) (x : PwrSt) : (s.setPwr i x).supplyPark = s.supplyPark := rfl
@[simp] theorem State.setPwr_thmOff (s : State) (i : Nat) (x : PwrSt) : (s.setPwr i x).thmOff = s.thmOff := rfl
@[simp] theorem State.setPwr_clk (s : State) (i : Nat) (x : PwrSt) : (s.setPwr i x).clk = s.clk := rfl
@[simp] theorem State.setPwr_start (s : State) (i : Nat) (x : PwrSt) : (s.setPwr i x).start = s.start := rfl
@[simp] theorem State.setPwr_sec (s : State) (i : Nat) (x : PwrSt) : (s.setPwr i x).sec = s.sec := rfl
@[simp] theorem State.setPwr_nvq (s : State) (i : Nat) (x : PwrSt) : (s.setPwr i x).nvq = s.nvq := rfl
@[simp] theorem State.setPwr_copy0 (s : State) (i : Nat) (x : PwrSt) : (s.setPwr i x).copy0 = s.copy0 := rfl
@[simp] theorem State.setPwr_copy15 (s : State) (i : Nat) (x : PwrSt) : (s.setPwr i x).copy15 = s.copy15 := rfl
@[simp] theorem State.setPwr_dwm (s : State) (i : Nat) (x : PwrSt) : (s.setPwr i x).dwm = s.dwm := rfl
@[simp] theorem State.setPwr_log (s : State) (i : Nat) (x : PwrSt) : (s.setPwr i x).log = s.log := rfl
@[simp] theorem State.setPwr_corrLast (s : State) (i : Nat) (x : PwrSt) : (s.setPwr i x).corrLast = s.corrLast := rfl
@[simp] theorem State.setPwr_planStaged (s : State) (i : Nat) (x : PwrSt) : (s.setPwr i x).planStaged = s.planStaged := rfl
@[simp] theorem State.setPwr_planForce (s : State) (i : Nat) (x : PwrSt) : (s.setPwr i x).planForce = s.planForce := rfl
@[simp] theorem State.setPwr_commits (s : State) (i : Nat) (x : PwrSt) : (s.setPwr i x).commits = s.commits := rfl
@[simp] theorem State.setPwr_samples (s : State) (i : Nat) (x : PwrSt) : (s.setPwr i x).samples = s.samples := rfl
@[simp] theorem State.setPwr_mapAcc (s : State) (i : Nat) (x : PwrSt) : (s.setPwr i x).mapAcc = s.mapAcc := rfl
@[simp] theorem State.setPwr_mapFrom (s : State) (i : Nat) (x : PwrSt) : (s.setPwr i x).mapFrom = s.mapFrom := rfl
@[simp] theorem State.setPwr_mapSnap (s : State) (i : Nat) (x : PwrSt) : (s.setPwr i x).mapSnap = s.mapSnap := rfl
@[simp] theorem State.setPwr_mapBuf (s : State) (i : Nat) (x : PwrSt) : (s.setPwr i x).mapBuf = s.mapBuf := rfl
@[simp] theorem State.setPwr_ports (s : State) (i : Nat) (x : PwrSt) : (s.setPwr i x).ports = s.ports := rfl
@[simp] theorem State.setPwr_out (s : State) (i : Nat) (x : PwrSt) : (s.setPwr i x).out = s.out := rfl
@[simp] theorem State.reg_setPwr (s : State) (i : Nat) (x : PwrSt) (k : Nat) : (s.setPwr i x).reg k = s.reg k := rfl
@[simp] theorem State.gf_setPwr (s : State) (i : Nat) (x : PwrSt) (k : Nat) (l : Fld) : (s.setPwr i x).gf k l = s.gf k l := rfl
@[simp] theorem State.ctr_setPwr (s : State) (i : Nat) (x : PwrSt) (k : Nat) : (s.setPwr i x).ctr k = s.ctr k := rfl
@[simp] theorem State.core_setPwr (s : State) (i : Nat) (x : PwrSt) (k : Nat) : (s.setPwr i x).core k = s.core k := rfl
@[simp] theorem State.stand_setPwr (s : State) (i : Nat) (x : PwrSt) (k : Nat) : (s.setPwr i x).stand k = s.stand k := rfl
@[simp] theorem State.tile_setPwr (s : State) (i : Nat) (x : PwrSt) (k : Nat) : (s.setPwr i x).tile k = s.tile k := rfl
@[simp] theorem State.port_setPwr (s : State) (i : Nat) (x : PwrSt) (k : Nat) : (s.setPwr i x).port k = s.port k := rfl
@[simp] theorem State.fabT_setPwr (s : State) (i : Nat) (x : PwrSt) (k : Nat) : (s.setPwr i x).fabT k = s.fabT k := rfl
@[simp] theorem State.site_setPwr (s : State) (i : Nat) (x : PwrSt) (k : Nat) : (s.setPwr i x).site k = s.site k := rfl
@[simp] theorem State.hbmS_setPwr (s : State) (i : Nat) (x : PwrSt) (k : Nat) : (s.setPwr i x).hbmS k = s.hbmS k := rfl
@[simp] theorem State.tsS_setPwr (s : State) (i : Nat) (x : PwrSt) (k : Nat) : (s.setPwr i x).tsS k = s.tsS k := rfl
@[simp] theorem State.acc_setPwr (s : State) (i : Nat) (x : PwrSt) (k : Nat) : (s.setPwr i x).acc k = s.acc k := rfl
@[simp] theorem State.rd_setPwr (s : State) (i : Nat) (x : PwrSt) (k n : Nat) : (s.setPwr i x).rd k n = s.rd k n := rfl
@[simp] theorem State.stdState_setPwr (s : State) (i : Nat) (x : PwrSt) (k : Nat) : (s.setPwr i x).stdState k = s.stdState k := rfl
@[simp] theorem State.setPwr_inputOut (s : State) (i : Nat) (x : PwrSt) : (s.setPwr i x).inputOut = s.inputOut := rfl
@[simp] theorem State.setPwr_storeTemp (s : State) (i : Nat) (x : PwrSt) : (s.setPwr i x).storeTemp = s.storeTemp := rfl
@[simp] theorem State.setPwr_regions (s : State) (i : Nat) (x : PwrSt) : (s.setPwr i x).regions = s.regions := rfl
@[simp] theorem State.setPwr_tileGtc (s : State) (i : Nat) (x : PwrSt) : (s.setPwr i x).tileGtc = s.tileGtc := rfl
@[simp] theorem State.setPwr_errWait (s : State) (i : Nat) (x : PwrSt) : (s.setPwr i x).errWait = s.errWait := rfl
@[simp] theorem State.setPwr_mgmtWait (s : State) (i : Nat) (x : PwrSt) : (s.setPwr i x).mgmtWait = s.mgmtWait := rfl
@[simp] theorem State.region_setPwr (s : State) (i : Nat) (x : PwrSt) (k : Nat) : (s.setPwr i x).region k = s.region k := rfl
@[simp] theorem State.takingOver_setPwr (s : State) (i : Nat) (x : PwrSt) : (s.setPwr i x).takingOver = s.takingOver := rfl

/-! ### setAcc -/

@[simp] theorem State.setAcc_pending (s : State) (t : Nat) (x : MapAcc) : (s.setAcc t x).pending = s.pending := rfl
@[simp] theorem State.setAcc_freeCtr (s : State) (t : Nat) (x : MapAcc) : (s.setAcc t x).freeCtr = s.freeCtr := rfl
@[simp] theorem State.setAcc_arms (s : State) (t : Nat) (x : MapAcc) : (s.setAcc t x).arms = s.arms := rfl
@[simp] theorem State.setAcc_gtc (s : State) (t : Nat) (x : MapAcc) : (s.setAcc t x).gtc = s.gtc := rfl
@[simp] theorem State.setAcc_power (s : State) (t : Nat) (x : MapAcc) : (s.setAcc t x).power = s.power := rfl
@[simp] theorem State.setAcc_regs (s : State) (t : Nat) (x : MapAcc) : (s.setAcc t x).regs = s.regs := rfl
@[simp] theorem State.setAcc_pmc (s : State) (t : Nat) (x : MapAcc) : (s.setAcc t x).pmc = s.pmc := rfl
@[simp] theorem State.setAcc_mem (s : State) (t : Nat) (x : MapAcc) : (s.setAcc t x).mem = s.mem := rfl
@[simp] theorem State.setAcc_poison (s : State) (t : Nat) (x : MapAcc) : (s.setAcc t x).poison = s.poison := rfl
@[simp] theorem State.setAcc_cores (s : State) (t : Nat) (x : MapAcc) : (s.setAcc t x).cores = s.cores := rfl
@[simp] theorem State.setAcc_stands (s : State) (t : Nat) (x : MapAcc) : (s.setAcc t x).stands = s.stands := rfl
@[simp] theorem State.setAcc_tiles (s : State) (t : Nat) (x : MapAcc) : (s.setAcc t x).tiles = s.tiles := rfl
@[simp] theorem State.setAcc_fab (s : State) (t : Nat) (x : MapAcc) : (s.setAcc t x).fab = s.fab := rfl
@[simp] theorem State.setAcc_sites (s : State) (t : Nat) (x : MapAcc) : (s.setAcc t x).sites = s.sites := rfl
@[simp] theorem State.setAcc_hbm (s : State) (t : Nat) (x : MapAcc) : (s.setAcc t x).hbm = s.hbm := rfl
@[simp] theorem State.setAcc_ts (s : State) (t : Nat) (x : MapAcc) : (s.setAcc t x).ts = s.ts := rfl
@[simp] theorem State.setAcc_pwr (s : State) (t : Nat) (x : MapAcc) : (s.setAcc t x).pwr = s.pwr := rfl
@[simp] theorem State.setAcc_modK (s : State) (t : Nat) (x : MapAcc) : (s.setAcc t x).modK = s.modK := rfl
@[simp] theorem State.setAcc_supplyLow (s : State) (t : Nat) (x : MapAcc) : (s.setAcc t x).supplyLow = s.supplyLow := rfl
@[simp] theorem State.setAcc_supplyPark (s : State) (t : Nat) (x : MapAcc) : (s.setAcc t x).supplyPark = s.supplyPark := rfl
@[simp] theorem State.setAcc_thmOff (s : State) (t : Nat) (x : MapAcc) : (s.setAcc t x).thmOff = s.thmOff := rfl
@[simp] theorem State.setAcc_clk (s : State) (t : Nat) (x : MapAcc) : (s.setAcc t x).clk = s.clk := rfl
@[simp] theorem State.setAcc_start (s : State) (t : Nat) (x : MapAcc) : (s.setAcc t x).start = s.start := rfl
@[simp] theorem State.setAcc_sec (s : State) (t : Nat) (x : MapAcc) : (s.setAcc t x).sec = s.sec := rfl
@[simp] theorem State.setAcc_nvq (s : State) (t : Nat) (x : MapAcc) : (s.setAcc t x).nvq = s.nvq := rfl
@[simp] theorem State.setAcc_copy0 (s : State) (t : Nat) (x : MapAcc) : (s.setAcc t x).copy0 = s.copy0 := rfl
@[simp] theorem State.setAcc_copy15 (s : State) (t : Nat) (x : MapAcc) : (s.setAcc t x).copy15 = s.copy15 := rfl
@[simp] theorem State.setAcc_dwm (s : State) (t : Nat) (x : MapAcc) : (s.setAcc t x).dwm = s.dwm := rfl
@[simp] theorem State.setAcc_log (s : State) (t : Nat) (x : MapAcc) : (s.setAcc t x).log = s.log := rfl
@[simp] theorem State.setAcc_corrLast (s : State) (t : Nat) (x : MapAcc) : (s.setAcc t x).corrLast = s.corrLast := rfl
@[simp] theorem State.setAcc_planStaged (s : State) (t : Nat) (x : MapAcc) : (s.setAcc t x).planStaged = s.planStaged := rfl
@[simp] theorem State.setAcc_planForce (s : State) (t : Nat) (x : MapAcc) : (s.setAcc t x).planForce = s.planForce := rfl
@[simp] theorem State.setAcc_commits (s : State) (t : Nat) (x : MapAcc) : (s.setAcc t x).commits = s.commits := rfl
@[simp] theorem State.setAcc_samples (s : State) (t : Nat) (x : MapAcc) : (s.setAcc t x).samples = s.samples := rfl
@[simp] theorem State.setAcc_mapFrom (s : State) (t : Nat) (x : MapAcc) : (s.setAcc t x).mapFrom = s.mapFrom := rfl
@[simp] theorem State.setAcc_mapSnap (s : State) (t : Nat) (x : MapAcc) : (s.setAcc t x).mapSnap = s.mapSnap := rfl
@[simp] theorem State.setAcc_mapBuf (s : State) (t : Nat) (x : MapAcc) : (s.setAcc t x).mapBuf = s.mapBuf := rfl
@[simp] theorem State.setAcc_ports (s : State) (t : Nat) (x : MapAcc) : (s.setAcc t x).ports = s.ports := rfl
@[simp] theorem State.setAcc_out (s : State) (t : Nat) (x : MapAcc) : (s.setAcc t x).out = s.out := rfl
@[simp] theorem State.reg_setAcc (s : State) (t : Nat) (x : MapAcc) (k : Nat) : (s.setAcc t x).reg k = s.reg k := rfl
@[simp] theorem State.gf_setAcc (s : State) (t : Nat) (x : MapAcc) (k : Nat) (l : Fld) : (s.setAcc t x).gf k l = s.gf k l := rfl
@[simp] theorem State.ctr_setAcc (s : State) (t : Nat) (x : MapAcc) (k : Nat) : (s.setAcc t x).ctr k = s.ctr k := rfl
@[simp] theorem State.core_setAcc (s : State) (t : Nat) (x : MapAcc) (k : Nat) : (s.setAcc t x).core k = s.core k := rfl
@[simp] theorem State.stand_setAcc (s : State) (t : Nat) (x : MapAcc) (k : Nat) : (s.setAcc t x).stand k = s.stand k := rfl
@[simp] theorem State.tile_setAcc (s : State) (t : Nat) (x : MapAcc) (k : Nat) : (s.setAcc t x).tile k = s.tile k := rfl
@[simp] theorem State.port_setAcc (s : State) (t : Nat) (x : MapAcc) (k : Nat) : (s.setAcc t x).port k = s.port k := rfl
@[simp] theorem State.fabT_setAcc (s : State) (t : Nat) (x : MapAcc) (k : Nat) : (s.setAcc t x).fabT k = s.fabT k := rfl
@[simp] theorem State.site_setAcc (s : State) (t : Nat) (x : MapAcc) (k : Nat) : (s.setAcc t x).site k = s.site k := rfl
@[simp] theorem State.hbmS_setAcc (s : State) (t : Nat) (x : MapAcc) (k : Nat) : (s.setAcc t x).hbmS k = s.hbmS k := rfl
@[simp] theorem State.tsS_setAcc (s : State) (t : Nat) (x : MapAcc) (k : Nat) : (s.setAcc t x).tsS k = s.tsS k := rfl
@[simp] theorem State.pwrS_setAcc (s : State) (t : Nat) (x : MapAcc) (k : Nat) : (s.setAcc t x).pwrS k = s.pwrS k := rfl
@[simp] theorem State.rd_setAcc (s : State) (t : Nat) (x : MapAcc) (k n : Nat) : (s.setAcc t x).rd k n = s.rd k n := rfl
@[simp] theorem State.stdState_setAcc (s : State) (t : Nat) (x : MapAcc) (k : Nat) : (s.setAcc t x).stdState k = s.stdState k := rfl
@[simp] theorem State.setAcc_inputOut (s : State) (t : Nat) (x : MapAcc) : (s.setAcc t x).inputOut = s.inputOut := rfl
@[simp] theorem State.setAcc_storeTemp (s : State) (t : Nat) (x : MapAcc) : (s.setAcc t x).storeTemp = s.storeTemp := rfl
@[simp] theorem State.setAcc_regions (s : State) (t : Nat) (x : MapAcc) : (s.setAcc t x).regions = s.regions := rfl
@[simp] theorem State.setAcc_tileGtc (s : State) (t : Nat) (x : MapAcc) : (s.setAcc t x).tileGtc = s.tileGtc := rfl
@[simp] theorem State.setAcc_errWait (s : State) (t : Nat) (x : MapAcc) : (s.setAcc t x).errWait = s.errWait := rfl
@[simp] theorem State.setAcc_mgmtWait (s : State) (t : Nat) (x : MapAcc) : (s.setAcc t x).mgmtWait = s.mgmtWait := rfl
@[simp] theorem State.region_setAcc (s : State) (t : Nat) (x : MapAcc) (k : Nat) : (s.setAcc t x).region k = s.region k := rfl
@[simp] theorem State.takingOver_setAcc (s : State) (t : Nat) (x : MapAcc) : (s.setAcc t x).takingOver = s.takingOver := rfl

/-! ### setPort -/

@[simp] theorem State.setPort_pending (s : State) (p : Nat) (x : PortSt) : (s.setPort p x).pending = s.pending := rfl
@[simp] theorem State.setPort_freeCtr (s : State) (p : Nat) (x : PortSt) : (s.setPort p x).freeCtr = s.freeCtr := rfl
@[simp] theorem State.setPort_arms (s : State) (p : Nat) (x : PortSt) : (s.setPort p x).arms = s.arms := rfl
@[simp] theorem State.setPort_gtc (s : State) (p : Nat) (x : PortSt) : (s.setPort p x).gtc = s.gtc := rfl
@[simp] theorem State.setPort_power (s : State) (p : Nat) (x : PortSt) : (s.setPort p x).power = s.power := rfl
@[simp] theorem State.setPort_regs (s : State) (p : Nat) (x : PortSt) : (s.setPort p x).regs = s.regs := rfl
@[simp] theorem State.setPort_pmc (s : State) (p : Nat) (x : PortSt) : (s.setPort p x).pmc = s.pmc := rfl
@[simp] theorem State.setPort_mem (s : State) (p : Nat) (x : PortSt) : (s.setPort p x).mem = s.mem := rfl
@[simp] theorem State.setPort_poison (s : State) (p : Nat) (x : PortSt) : (s.setPort p x).poison = s.poison := rfl
@[simp] theorem State.setPort_cores (s : State) (p : Nat) (x : PortSt) : (s.setPort p x).cores = s.cores := rfl
@[simp] theorem State.setPort_stands (s : State) (p : Nat) (x : PortSt) : (s.setPort p x).stands = s.stands := rfl
@[simp] theorem State.setPort_tiles (s : State) (p : Nat) (x : PortSt) : (s.setPort p x).tiles = s.tiles := rfl
@[simp] theorem State.setPort_fab (s : State) (p : Nat) (x : PortSt) : (s.setPort p x).fab = s.fab := rfl
@[simp] theorem State.setPort_sites (s : State) (p : Nat) (x : PortSt) : (s.setPort p x).sites = s.sites := rfl
@[simp] theorem State.setPort_hbm (s : State) (p : Nat) (x : PortSt) : (s.setPort p x).hbm = s.hbm := rfl
@[simp] theorem State.setPort_ts (s : State) (p : Nat) (x : PortSt) : (s.setPort p x).ts = s.ts := rfl
@[simp] theorem State.setPort_pwr (s : State) (p : Nat) (x : PortSt) : (s.setPort p x).pwr = s.pwr := rfl
@[simp] theorem State.setPort_modK (s : State) (p : Nat) (x : PortSt) : (s.setPort p x).modK = s.modK := rfl
@[simp] theorem State.setPort_supplyLow (s : State) (p : Nat) (x : PortSt) : (s.setPort p x).supplyLow = s.supplyLow := rfl
@[simp] theorem State.setPort_supplyPark (s : State) (p : Nat) (x : PortSt) : (s.setPort p x).supplyPark = s.supplyPark := rfl
@[simp] theorem State.setPort_thmOff (s : State) (p : Nat) (x : PortSt) : (s.setPort p x).thmOff = s.thmOff := rfl
@[simp] theorem State.setPort_clk (s : State) (p : Nat) (x : PortSt) : (s.setPort p x).clk = s.clk := rfl
@[simp] theorem State.setPort_start (s : State) (p : Nat) (x : PortSt) : (s.setPort p x).start = s.start := rfl
@[simp] theorem State.setPort_sec (s : State) (p : Nat) (x : PortSt) : (s.setPort p x).sec = s.sec := rfl
@[simp] theorem State.setPort_nvq (s : State) (p : Nat) (x : PortSt) : (s.setPort p x).nvq = s.nvq := rfl
@[simp] theorem State.setPort_copy0 (s : State) (p : Nat) (x : PortSt) : (s.setPort p x).copy0 = s.copy0 := rfl
@[simp] theorem State.setPort_copy15 (s : State) (p : Nat) (x : PortSt) : (s.setPort p x).copy15 = s.copy15 := rfl
@[simp] theorem State.setPort_dwm (s : State) (p : Nat) (x : PortSt) : (s.setPort p x).dwm = s.dwm := rfl
@[simp] theorem State.setPort_log (s : State) (p : Nat) (x : PortSt) : (s.setPort p x).log = s.log := rfl
@[simp] theorem State.setPort_corrLast (s : State) (p : Nat) (x : PortSt) : (s.setPort p x).corrLast = s.corrLast := rfl
@[simp] theorem State.setPort_planStaged (s : State) (p : Nat) (x : PortSt) : (s.setPort p x).planStaged = s.planStaged := rfl
@[simp] theorem State.setPort_planForce (s : State) (p : Nat) (x : PortSt) : (s.setPort p x).planForce = s.planForce := rfl
@[simp] theorem State.setPort_commits (s : State) (p : Nat) (x : PortSt) : (s.setPort p x).commits = s.commits := rfl
@[simp] theorem State.setPort_samples (s : State) (p : Nat) (x : PortSt) : (s.setPort p x).samples = s.samples := rfl
@[simp] theorem State.setPort_mapAcc (s : State) (p : Nat) (x : PortSt) : (s.setPort p x).mapAcc = s.mapAcc := rfl
@[simp] theorem State.setPort_mapFrom (s : State) (p : Nat) (x : PortSt) : (s.setPort p x).mapFrom = s.mapFrom := rfl
@[simp] theorem State.setPort_mapSnap (s : State) (p : Nat) (x : PortSt) : (s.setPort p x).mapSnap = s.mapSnap := rfl
@[simp] theorem State.setPort_mapBuf (s : State) (p : Nat) (x : PortSt) : (s.setPort p x).mapBuf = s.mapBuf := rfl
@[simp] theorem State.setPort_out (s : State) (p : Nat) (x : PortSt) : (s.setPort p x).out = s.out := rfl
@[simp] theorem State.reg_setPort (s : State) (p : Nat) (x : PortSt) (k : Nat) : (s.setPort p x).reg k = s.reg k := rfl
@[simp] theorem State.gf_setPort (s : State) (p : Nat) (x : PortSt) (k : Nat) (l : Fld) : (s.setPort p x).gf k l = s.gf k l := rfl
@[simp] theorem State.ctr_setPort (s : State) (p : Nat) (x : PortSt) (k : Nat) : (s.setPort p x).ctr k = s.ctr k := rfl
@[simp] theorem State.core_setPort (s : State) (p : Nat) (x : PortSt) (k : Nat) : (s.setPort p x).core k = s.core k := rfl
@[simp] theorem State.stand_setPort (s : State) (p : Nat) (x : PortSt) (k : Nat) : (s.setPort p x).stand k = s.stand k := rfl
@[simp] theorem State.tile_setPort (s : State) (p : Nat) (x : PortSt) (k : Nat) : (s.setPort p x).tile k = s.tile k := rfl
@[simp] theorem State.fabT_setPort (s : State) (p : Nat) (x : PortSt) (k : Nat) : (s.setPort p x).fabT k = s.fabT k := rfl
@[simp] theorem State.site_setPort (s : State) (p : Nat) (x : PortSt) (k : Nat) : (s.setPort p x).site k = s.site k := rfl
@[simp] theorem State.hbmS_setPort (s : State) (p : Nat) (x : PortSt) (k : Nat) : (s.setPort p x).hbmS k = s.hbmS k := rfl
@[simp] theorem State.tsS_setPort (s : State) (p : Nat) (x : PortSt) (k : Nat) : (s.setPort p x).tsS k = s.tsS k := rfl
@[simp] theorem State.pwrS_setPort (s : State) (p : Nat) (x : PortSt) (k : Nat) : (s.setPort p x).pwrS k = s.pwrS k := rfl
@[simp] theorem State.acc_setPort (s : State) (p : Nat) (x : PortSt) (k : Nat) : (s.setPort p x).acc k = s.acc k := rfl
@[simp] theorem State.rd_setPort (s : State) (p : Nat) (x : PortSt) (k n : Nat) : (s.setPort p x).rd k n = s.rd k n := rfl
@[simp] theorem State.stdState_setPort (s : State) (p : Nat) (x : PortSt) (k : Nat) : (s.setPort p x).stdState k = s.stdState k := rfl
@[simp] theorem State.setPort_inputOut (s : State) (p : Nat) (x : PortSt) : (s.setPort p x).inputOut = s.inputOut := rfl
@[simp] theorem State.setPort_storeTemp (s : State) (p : Nat) (x : PortSt) : (s.setPort p x).storeTemp = s.storeTemp := rfl
@[simp] theorem State.setPort_regions (s : State) (p : Nat) (x : PortSt) : (s.setPort p x).regions = s.regions := rfl
@[simp] theorem State.setPort_tileGtc (s : State) (p : Nat) (x : PortSt) : (s.setPort p x).tileGtc = s.tileGtc := rfl
@[simp] theorem State.setPort_errWait (s : State) (p : Nat) (x : PortSt) : (s.setPort p x).errWait = s.errWait := rfl
@[simp] theorem State.setPort_mgmtWait (s : State) (p : Nat) (x : PortSt) : (s.setPort p x).mgmtWait = s.mgmtWait := rfl
@[simp] theorem State.region_setPort (s : State) (p : Nat) (x : PortSt) (k : Nat) : (s.setPort p x).region k = s.region k := rfl
@[simp] theorem State.takingOver_setPort (s : State) (p : Nat) (x : PortSt) : (s.setPort p x).takingOver = s.takingOver := rfl

/-! ### bump -/

@[simp] theorem State.bump_pending (s : State) (a n : Nat) : (s.bump a n).pending = s.pending := rfl
@[simp] theorem State.bump_freeCtr (s : State) (a n : Nat) : (s.bump a n).freeCtr = s.freeCtr := rfl
@[simp] theorem State.bump_arms (s : State) (a n : Nat) : (s.bump a n).arms = s.arms := rfl
@[simp] theorem State.bump_gtc (s : State) (a n : Nat) : (s.bump a n).gtc = s.gtc := rfl
@[simp] theorem State.bump_power (s : State) (a n : Nat) : (s.bump a n).power = s.power := rfl
@[simp] theorem State.bump_regs (s : State) (a n : Nat) : (s.bump a n).regs = s.regs := rfl
@[simp] theorem State.bump_mem (s : State) (a n : Nat) : (s.bump a n).mem = s.mem := rfl
@[simp] theorem State.bump_poison (s : State) (a n : Nat) : (s.bump a n).poison = s.poison := rfl
@[simp] theorem State.bump_cores (s : State) (a n : Nat) : (s.bump a n).cores = s.cores := rfl
@[simp] theorem State.bump_stands (s : State) (a n : Nat) : (s.bump a n).stands = s.stands := rfl
@[simp] theorem State.bump_tiles (s : State) (a n : Nat) : (s.bump a n).tiles = s.tiles := rfl
@[simp] theorem State.bump_fab (s : State) (a n : Nat) : (s.bump a n).fab = s.fab := rfl
@[simp] theorem State.bump_sites (s : State) (a n : Nat) : (s.bump a n).sites = s.sites := rfl
@[simp] theorem State.bump_hbm (s : State) (a n : Nat) : (s.bump a n).hbm = s.hbm := rfl
@[simp] theorem State.bump_ts (s : State) (a n : Nat) : (s.bump a n).ts = s.ts := rfl
@[simp] theorem State.bump_pwr (s : State) (a n : Nat) : (s.bump a n).pwr = s.pwr := rfl
@[simp] theorem State.bump_modK (s : State) (a n : Nat) : (s.bump a n).modK = s.modK := rfl
@[simp] theorem State.bump_supplyLow (s : State) (a n : Nat) : (s.bump a n).supplyLow = s.supplyLow := rfl
@[simp] theorem State.bump_supplyPark (s : State) (a n : Nat) : (s.bump a n).supplyPark = s.supplyPark := rfl
@[simp] theorem State.bump_thmOff (s : State) (a n : Nat) : (s.bump a n).thmOff = s.thmOff := rfl
@[simp] theorem State.bump_clk (s : State) (a n : Nat) : (s.bump a n).clk = s.clk := rfl
@[simp] theorem State.bump_start (s : State) (a n : Nat) : (s.bump a n).start = s.start := rfl
@[simp] theorem State.bump_sec (s : State) (a n : Nat) : (s.bump a n).sec = s.sec := rfl
@[simp] theorem State.bump_nvq (s : State) (a n : Nat) : (s.bump a n).nvq = s.nvq := rfl
@[simp] theorem State.bump_copy0 (s : State) (a n : Nat) : (s.bump a n).copy0 = s.copy0 := rfl
@[simp] theorem State.bump_copy15 (s : State) (a n : Nat) : (s.bump a n).copy15 = s.copy15 := rfl
@[simp] theorem State.bump_dwm (s : State) (a n : Nat) : (s.bump a n).dwm = s.dwm := rfl
@[simp] theorem State.bump_log (s : State) (a n : Nat) : (s.bump a n).log = s.log := rfl
@[simp] theorem State.bump_corrLast (s : State) (a n : Nat) : (s.bump a n).corrLast = s.corrLast := rfl
@[simp] theorem State.bump_planStaged (s : State) (a n : Nat) : (s.bump a n).planStaged = s.planStaged := rfl
@[simp] theorem State.bump_planForce (s : State) (a n : Nat) : (s.bump a n).planForce = s.planForce := rfl
@[simp] theorem State.bump_commits (s : State) (a n : Nat) : (s.bump a n).commits = s.commits := rfl
@[simp] theorem State.bump_samples (s : State) (a n : Nat) : (s.bump a n).samples = s.samples := rfl
@[simp] theorem State.bump_mapAcc (s : State) (a n : Nat) : (s.bump a n).mapAcc = s.mapAcc := rfl
@[simp] theorem State.bump_mapFrom (s : State) (a n : Nat) : (s.bump a n).mapFrom = s.mapFrom := rfl
@[simp] theorem State.bump_mapSnap (s : State) (a n : Nat) : (s.bump a n).mapSnap = s.mapSnap := rfl
@[simp] theorem State.bump_mapBuf (s : State) (a n : Nat) : (s.bump a n).mapBuf = s.mapBuf := rfl
@[simp] theorem State.bump_ports (s : State) (a n : Nat) : (s.bump a n).ports = s.ports := rfl
@[simp] theorem State.bump_out (s : State) (a n : Nat) : (s.bump a n).out = s.out := rfl
@[simp] theorem State.reg_bump (s : State) (a n : Nat) (k : Nat) : (s.bump a n).reg k = s.reg k := rfl
@[simp] theorem State.gf_bump (s : State) (a n : Nat) (k : Nat) (l : Fld) : (s.bump a n).gf k l = s.gf k l := rfl
@[simp] theorem State.core_bump (s : State) (a n : Nat) (k : Nat) : (s.bump a n).core k = s.core k := rfl
@[simp] theorem State.stand_bump (s : State) (a n : Nat) (k : Nat) : (s.bump a n).stand k = s.stand k := rfl
@[simp] theorem State.tile_bump (s : State) (a n : Nat) (k : Nat) : (s.bump a n).tile k = s.tile k := rfl
@[simp] theorem State.port_bump (s : State) (a n : Nat) (k : Nat) : (s.bump a n).port k = s.port k := rfl
@[simp] theorem State.fabT_bump (s : State) (a n : Nat) (k : Nat) : (s.bump a n).fabT k = s.fabT k := rfl
@[simp] theorem State.site_bump (s : State) (a n : Nat) (k : Nat) : (s.bump a n).site k = s.site k := rfl
@[simp] theorem State.hbmS_bump (s : State) (a n : Nat) (k : Nat) : (s.bump a n).hbmS k = s.hbmS k := rfl
@[simp] theorem State.tsS_bump (s : State) (a n : Nat) (k : Nat) : (s.bump a n).tsS k = s.tsS k := rfl
@[simp] theorem State.pwrS_bump (s : State) (a n : Nat) (k : Nat) : (s.bump a n).pwrS k = s.pwrS k := rfl
@[simp] theorem State.acc_bump (s : State) (a n : Nat) (k : Nat) : (s.bump a n).acc k = s.acc k := rfl
@[simp] theorem State.rd_bump (s : State) (a n : Nat) (k m : Nat) : (s.bump a n).rd k m = s.rd k m := rfl
@[simp] theorem State.stdState_bump (s : State) (a n : Nat) (k : Nat) : (s.bump a n).stdState k = s.stdState k := rfl
@[simp] theorem State.bump_inputOut (s : State) (a n : Nat) : (s.bump a n).inputOut = s.inputOut := rfl
@[simp] theorem State.bump_storeTemp (s : State) (a n : Nat) : (s.bump a n).storeTemp = s.storeTemp := rfl
@[simp] theorem State.bump_regions (s : State) (a n : Nat) : (s.bump a n).regions = s.regions := rfl
@[simp] theorem State.bump_tileGtc (s : State) (a n : Nat) : (s.bump a n).tileGtc = s.tileGtc := rfl
@[simp] theorem State.bump_errWait (s : State) (a n : Nat) : (s.bump a n).errWait = s.errWait := rfl
@[simp] theorem State.bump_mgmtWait (s : State) (a n : Nat) : (s.bump a n).mgmtWait = s.mgmtWait := rfl
@[simp] theorem State.region_bump (s : State) (a n : Nat) (k : Nat) : (s.bump a n).region k = s.region k := rfl
@[simp] theorem State.takingOver_bump (s : State) (a n : Nat) : (s.bump a n).takingOver = s.takingOver := rfl

/-! ### wr -/

@[simp] theorem State.wr_pending (s : State) (a n v : Nat) : (s.wr a n v).pending = s.pending := rfl
@[simp] theorem State.wr_freeCtr (s : State) (a n v : Nat) : (s.wr a n v).freeCtr = s.freeCtr := rfl
@[simp] theorem State.wr_arms (s : State) (a n v : Nat) : (s.wr a n v).arms = s.arms := rfl
@[simp] theorem State.wr_gtc (s : State) (a n v : Nat) : (s.wr a n v).gtc = s.gtc := rfl
@[simp] theorem State.wr_power (s : State) (a n v : Nat) : (s.wr a n v).power = s.power := rfl
@[simp] theorem State.wr_regs (s : State) (a n v : Nat) : (s.wr a n v).regs = s.regs := rfl
@[simp] theorem State.wr_pmc (s : State) (a n v : Nat) : (s.wr a n v).pmc = s.pmc := rfl
@[simp] theorem State.wr_poison (s : State) (a n v : Nat) : (s.wr a n v).poison = s.poison := rfl
@[simp] theorem State.wr_cores (s : State) (a n v : Nat) : (s.wr a n v).cores = s.cores := rfl
@[simp] theorem State.wr_stands (s : State) (a n v : Nat) : (s.wr a n v).stands = s.stands := rfl
@[simp] theorem State.wr_tiles (s : State) (a n v : Nat) : (s.wr a n v).tiles = s.tiles := rfl
@[simp] theorem State.wr_fab (s : State) (a n v : Nat) : (s.wr a n v).fab = s.fab := rfl
@[simp] theorem State.wr_sites (s : State) (a n v : Nat) : (s.wr a n v).sites = s.sites := rfl
@[simp] theorem State.wr_hbm (s : State) (a n v : Nat) : (s.wr a n v).hbm = s.hbm := rfl
@[simp] theorem State.wr_ts (s : State) (a n v : Nat) : (s.wr a n v).ts = s.ts := rfl
@[simp] theorem State.wr_pwr (s : State) (a n v : Nat) : (s.wr a n v).pwr = s.pwr := rfl
@[simp] theorem State.wr_modK (s : State) (a n v : Nat) : (s.wr a n v).modK = s.modK := rfl
@[simp] theorem State.wr_supplyLow (s : State) (a n v : Nat) : (s.wr a n v).supplyLow = s.supplyLow := rfl
@[simp] theorem State.wr_supplyPark (s : State) (a n v : Nat) : (s.wr a n v).supplyPark = s.supplyPark := rfl
@[simp] theorem State.wr_thmOff (s : State) (a n v : Nat) : (s.wr a n v).thmOff = s.thmOff := rfl
@[simp] theorem State.wr_clk (s : State) (a n v : Nat) : (s.wr a n v).clk = s.clk := rfl
@[simp] theorem State.wr_start (s : State) (a n v : Nat) : (s.wr a n v).start = s.start := rfl
@[simp] theorem State.wr_sec (s : State) (a n v : Nat) : (s.wr a n v).sec = s.sec := rfl
@[simp] theorem State.wr_nvq (s : State) (a n v : Nat) : (s.wr a n v).nvq = s.nvq := rfl
@[simp] theorem State.wr_copy0 (s : State) (a n v : Nat) : (s.wr a n v).copy0 = s.copy0 := rfl
@[simp] theorem State.wr_copy15 (s : State) (a n v : Nat) : (s.wr a n v).copy15 = s.copy15 := rfl
@[simp] theorem State.wr_dwm (s : State) (a n v : Nat) : (s.wr a n v).dwm = s.dwm := rfl
@[simp] theorem State.wr_log (s : State) (a n v : Nat) : (s.wr a n v).log = s.log := rfl
@[simp] theorem State.wr_corrLast (s : State) (a n v : Nat) : (s.wr a n v).corrLast = s.corrLast := rfl
@[simp] theorem State.wr_planStaged (s : State) (a n v : Nat) : (s.wr a n v).planStaged = s.planStaged := rfl
@[simp] theorem State.wr_planForce (s : State) (a n v : Nat) : (s.wr a n v).planForce = s.planForce := rfl
@[simp] theorem State.wr_commits (s : State) (a n v : Nat) : (s.wr a n v).commits = s.commits := rfl
@[simp] theorem State.wr_samples (s : State) (a n v : Nat) : (s.wr a n v).samples = s.samples := rfl
@[simp] theorem State.wr_mapAcc (s : State) (a n v : Nat) : (s.wr a n v).mapAcc = s.mapAcc := rfl
@[simp] theorem State.wr_mapFrom (s : State) (a n v : Nat) : (s.wr a n v).mapFrom = s.mapFrom := rfl
@[simp] theorem State.wr_mapSnap (s : State) (a n v : Nat) : (s.wr a n v).mapSnap = s.mapSnap := rfl
@[simp] theorem State.wr_mapBuf (s : State) (a n v : Nat) : (s.wr a n v).mapBuf = s.mapBuf := rfl
@[simp] theorem State.wr_ports (s : State) (a n v : Nat) : (s.wr a n v).ports = s.ports := rfl
@[simp] theorem State.wr_out (s : State) (a n v : Nat) : (s.wr a n v).out = s.out := rfl
@[simp] theorem State.reg_wr (s : State) (a n v : Nat) (k : Nat) : (s.wr a n v).reg k = s.reg k := rfl
@[simp] theorem State.gf_wr (s : State) (a n v : Nat) (k : Nat) (l : Fld) : (s.wr a n v).gf k l = s.gf k l := rfl
@[simp] theorem State.ctr_wr (s : State) (a n v : Nat) (k : Nat) : (s.wr a n v).ctr k = s.ctr k := rfl
@[simp] theorem State.core_wr (s : State) (a n v : Nat) (k : Nat) : (s.wr a n v).core k = s.core k := rfl
@[simp] theorem State.stand_wr (s : State) (a n v : Nat) (k : Nat) : (s.wr a n v).stand k = s.stand k := rfl
@[simp] theorem State.tile_wr (s : State) (a n v : Nat) (k : Nat) : (s.wr a n v).tile k = s.tile k := rfl
@[simp] theorem State.port_wr (s : State) (a n v : Nat) (k : Nat) : (s.wr a n v).port k = s.port k := rfl
@[simp] theorem State.fabT_wr (s : State) (a n v : Nat) (k : Nat) : (s.wr a n v).fabT k = s.fabT k := rfl
@[simp] theorem State.site_wr (s : State) (a n v : Nat) (k : Nat) : (s.wr a n v).site k = s.site k := rfl
@[simp] theorem State.hbmS_wr (s : State) (a n v : Nat) (k : Nat) : (s.wr a n v).hbmS k = s.hbmS k := rfl
@[simp] theorem State.tsS_wr (s : State) (a n v : Nat) (k : Nat) : (s.wr a n v).tsS k = s.tsS k := rfl
@[simp] theorem State.pwrS_wr (s : State) (a n v : Nat) (k : Nat) : (s.wr a n v).pwrS k = s.pwrS k := rfl
@[simp] theorem State.acc_wr (s : State) (a n v : Nat) (k : Nat) : (s.wr a n v).acc k = s.acc k := rfl
@[simp] theorem State.stdState_wr (s : State) (a n v : Nat) (k : Nat) : (s.wr a n v).stdState k = s.stdState k := rfl
@[simp] theorem State.wr_inputOut (s : State) (a n v : Nat) : (s.wr a n v).inputOut = s.inputOut := rfl
@[simp] theorem State.wr_storeTemp (s : State) (a n v : Nat) : (s.wr a n v).storeTemp = s.storeTemp := rfl
@[simp] theorem State.wr_regions (s : State) (a n v : Nat) : (s.wr a n v).regions = s.regions := rfl
@[simp] theorem State.wr_tileGtc (s : State) (a n v : Nat) : (s.wr a n v).tileGtc = s.tileGtc := rfl
@[simp] theorem State.wr_errWait (s : State) (a n v : Nat) : (s.wr a n v).errWait = s.errWait := rfl
@[simp] theorem State.wr_mgmtWait (s : State) (a n v : Nat) : (s.wr a n v).mgmtWait = s.mgmtWait := rfl
@[simp] theorem State.region_wr (s : State) (a n v : Nat) (k : Nat) : (s.wr a n v).region k = s.region k := rfl
@[simp] theorem State.takingOver_wr (s : State) (a n v : Nat) : (s.wr a n v).takingOver = s.takingOver := rfl

/-! ### emit -/

@[simp] theorem State.emit_pending (s : State) (x : Out) : (s.emit x).pending = s.pending := rfl
@[simp] theorem State.emit_freeCtr (s : State) (x : Out) : (s.emit x).freeCtr = s.freeCtr := rfl
@[simp] theorem State.emit_arms (s : State) (x : Out) : (s.emit x).arms = s.arms := rfl
@[simp] theorem State.emit_gtc (s : State) (x : Out) : (s.emit x).gtc = s.gtc := rfl
@[simp] theorem State.emit_power (s : State) (x : Out) : (s.emit x).power = s.power := rfl
@[simp] theorem State.emit_regs (s : State) (x : Out) : (s.emit x).regs = s.regs := rfl
@[simp] theorem State.emit_pmc (s : State) (x : Out) : (s.emit x).pmc = s.pmc := rfl
@[simp] theorem State.emit_mem (s : State) (x : Out) : (s.emit x).mem = s.mem := rfl
@[simp] theorem State.emit_poison (s : State) (x : Out) : (s.emit x).poison = s.poison := rfl
@[simp] theorem State.emit_cores (s : State) (x : Out) : (s.emit x).cores = s.cores := rfl
@[simp] theorem State.emit_stands (s : State) (x : Out) : (s.emit x).stands = s.stands := rfl
@[simp] theorem State.emit_tiles (s : State) (x : Out) : (s.emit x).tiles = s.tiles := rfl
@[simp] theorem State.emit_fab (s : State) (x : Out) : (s.emit x).fab = s.fab := rfl
@[simp] theorem State.emit_sites (s : State) (x : Out) : (s.emit x).sites = s.sites := rfl
@[simp] theorem State.emit_hbm (s : State) (x : Out) : (s.emit x).hbm = s.hbm := rfl
@[simp] theorem State.emit_ts (s : State) (x : Out) : (s.emit x).ts = s.ts := rfl
@[simp] theorem State.emit_pwr (s : State) (x : Out) : (s.emit x).pwr = s.pwr := rfl
@[simp] theorem State.emit_modK (s : State) (x : Out) : (s.emit x).modK = s.modK := rfl
@[simp] theorem State.emit_supplyLow (s : State) (x : Out) : (s.emit x).supplyLow = s.supplyLow := rfl
@[simp] theorem State.emit_supplyPark (s : State) (x : Out) : (s.emit x).supplyPark = s.supplyPark := rfl
@[simp] theorem State.emit_thmOff (s : State) (x : Out) : (s.emit x).thmOff = s.thmOff := rfl
@[simp] theorem State.emit_clk (s : State) (x : Out) : (s.emit x).clk = s.clk := rfl
@[simp] theorem State.emit_start (s : State) (x : Out) : (s.emit x).start = s.start := rfl
@[simp] theorem State.emit_sec (s : State) (x : Out) : (s.emit x).sec = s.sec := rfl
@[simp] theorem State.emit_nvq (s : State) (x : Out) : (s.emit x).nvq = s.nvq := rfl
@[simp] theorem State.emit_copy0 (s : State) (x : Out) : (s.emit x).copy0 = s.copy0 := rfl
@[simp] theorem State.emit_copy15 (s : State) (x : Out) : (s.emit x).copy15 = s.copy15 := rfl
@[simp] theorem State.emit_dwm (s : State) (x : Out) : (s.emit x).dwm = s.dwm := rfl
@[simp] theorem State.emit_log (s : State) (x : Out) : (s.emit x).log = s.log := rfl
@[simp] theorem State.emit_corrLast (s : State) (x : Out) : (s.emit x).corrLast = s.corrLast := rfl
@[simp] theorem State.emit_planStaged (s : State) (x : Out) : (s.emit x).planStaged = s.planStaged := rfl
@[simp] theorem State.emit_planForce (s : State) (x : Out) : (s.emit x).planForce = s.planForce := rfl
@[simp] theorem State.emit_commits (s : State) (x : Out) : (s.emit x).commits = s.commits := rfl
@[simp] theorem State.emit_samples (s : State) (x : Out) : (s.emit x).samples = s.samples := rfl
@[simp] theorem State.emit_mapAcc (s : State) (x : Out) : (s.emit x).mapAcc = s.mapAcc := rfl
@[simp] theorem State.emit_mapFrom (s : State) (x : Out) : (s.emit x).mapFrom = s.mapFrom := rfl
@[simp] theorem State.emit_mapSnap (s : State) (x : Out) : (s.emit x).mapSnap = s.mapSnap := rfl
@[simp] theorem State.emit_mapBuf (s : State) (x : Out) : (s.emit x).mapBuf = s.mapBuf := rfl
@[simp] theorem State.emit_ports (s : State) (x : Out) : (s.emit x).ports = s.ports := rfl
@[simp] theorem State.reg_emit (s : State) (x : Out) (k : Nat) : (s.emit x).reg k = s.reg k := rfl
@[simp] theorem State.gf_emit (s : State) (x : Out) (k : Nat) (l : Fld) : (s.emit x).gf k l = s.gf k l := rfl
@[simp] theorem State.ctr_emit (s : State) (x : Out) (k : Nat) : (s.emit x).ctr k = s.ctr k := rfl
@[simp] theorem State.core_emit (s : State) (x : Out) (k : Nat) : (s.emit x).core k = s.core k := rfl
@[simp] theorem State.stand_emit (s : State) (x : Out) (k : Nat) : (s.emit x).stand k = s.stand k := rfl
@[simp] theorem State.tile_emit (s : State) (x : Out) (k : Nat) : (s.emit x).tile k = s.tile k := rfl
@[simp] theorem State.port_emit (s : State) (x : Out) (k : Nat) : (s.emit x).port k = s.port k := rfl
@[simp] theorem State.fabT_emit (s : State) (x : Out) (k : Nat) : (s.emit x).fabT k = s.fabT k := rfl
@[simp] theorem State.site_emit (s : State) (x : Out) (k : Nat) : (s.emit x).site k = s.site k := rfl
@[simp] theorem State.hbmS_emit (s : State) (x : Out) (k : Nat) : (s.emit x).hbmS k = s.hbmS k := rfl
@[simp] theorem State.tsS_emit (s : State) (x : Out) (k : Nat) : (s.emit x).tsS k = s.tsS k := rfl
@[simp] theorem State.pwrS_emit (s : State) (x : Out) (k : Nat) : (s.emit x).pwrS k = s.pwrS k := rfl
@[simp] theorem State.acc_emit (s : State) (x : Out) (k : Nat) : (s.emit x).acc k = s.acc k := rfl
@[simp] theorem State.rd_emit (s : State) (x : Out) (k n : Nat) : (s.emit x).rd k n = s.rd k n := rfl
@[simp] theorem State.stdState_emit (s : State) (x : Out) (k : Nat) : (s.emit x).stdState k = s.stdState k := rfl
@[simp] theorem State.emit_inputOut (s : State) (x : Out) : (s.emit x).inputOut = s.inputOut := rfl
@[simp] theorem State.emit_storeTemp (s : State) (x : Out) : (s.emit x).storeTemp = s.storeTemp := rfl
@[simp] theorem State.emit_regions (s : State) (x : Out) : (s.emit x).regions = s.regions := rfl
@[simp] theorem State.emit_tileGtc (s : State) (x : Out) : (s.emit x).tileGtc = s.tileGtc := rfl
@[simp] theorem State.emit_errWait (s : State) (x : Out) : (s.emit x).errWait = s.errWait := rfl
@[simp] theorem State.emit_mgmtWait (s : State) (x : Out) : (s.emit x).mgmtWait = s.mgmtWait := rfl
@[simp] theorem State.region_emit (s : State) (x : Out) (k : Nat) : (s.emit x).region k = s.region k := rfl
@[simp] theorem State.takingOver_emit (s : State) (x : Out) : (s.emit x).takingOver = s.takingOver := rfl

/-! ### Reads of what was written -/

@[simp] theorem State.region_setRegion_same (s : State) (k : Nat) (x : Region) : (s.setRegion k x).region k = x := sget_sset_same _ _ _ _
theorem State.region_setRegion_ne (s : State) {k l : Nat} (x : Region) (h : l ≠ k) : (s.setRegion k x).region l = s.region l :=
  sget_sset_ne _ _ _ h
@[simp] theorem State.core_setCore_same (s : State) (k : Nat) (x : CoreSt) : (s.setCore k x).core k = x := sget_sset_same _ _ _ _
theorem State.core_setCore_ne (s : State) {k l : Nat} (x : CoreSt) (h : l ≠ k) : (s.setCore k x).core l = s.core l :=
  sget_sset_ne _ _ _ h
@[simp] theorem State.stand_setStand_same (s : State) (k : Nat) (x : StandSt) : (s.setStand k x).stand k = x := sget_sset_same _ _ _ _
theorem State.stand_setStand_ne (s : State) {k l : Nat} (x : StandSt) (h : l ≠ k) : (s.setStand k x).stand l = s.stand l :=
  sget_sset_ne _ _ _ h
@[simp] theorem State.tile_setTile_same (s : State) (k : Nat) (x : PlaneTile) : (s.setTile k x).tile k = x := sget_sset_same _ _ _ _
theorem State.tile_setTile_ne (s : State) {k l : Nat} (x : PlaneTile) (h : l ≠ k) : (s.setTile k x).tile l = s.tile l :=
  sget_sset_ne _ _ _ h
@[simp] theorem State.fabT_setFab_same (s : State) (k : Nat) (x : FabTile) : (s.setFab k x).fabT k = x := sget_sset_same _ _ _ _
theorem State.fabT_setFab_ne (s : State) {k l : Nat} (x : FabTile) (h : l ≠ k) : (s.setFab k x).fabT l = s.fabT l :=
  sget_sset_ne _ _ _ h
@[simp] theorem State.site_setSite_same (s : State) (k : Nat) (x : SiteSt) : (s.setSite k x).site k = x := sget_sset_same _ _ _ _
theorem State.site_setSite_ne (s : State) {k l : Nat} (x : SiteSt) (h : l ≠ k) : (s.setSite k x).site l = s.site l :=
  sget_sset_ne _ _ _ h
@[simp] theorem State.hbmS_setHbm_same (s : State) (k : Nat) (x : HbmSt) : (s.setHbm k x).hbmS k = x := sget_sset_same _ _ _ _
theorem State.hbmS_setHbm_ne (s : State) {k l : Nat} (x : HbmSt) (h : l ≠ k) : (s.setHbm k x).hbmS l = s.hbmS l :=
  sget_sset_ne _ _ _ h
@[simp] theorem State.tsS_setTs_same (s : State) (k : Nat) (x : TsSt) : (s.setTs k x).tsS k = x := sget_sset_same _ _ _ _
theorem State.tsS_setTs_ne (s : State) {k l : Nat} (x : TsSt) (h : l ≠ k) : (s.setTs k x).tsS l = s.tsS l :=
  sget_sset_ne _ _ _ h
@[simp] theorem State.pwrS_setPwr_same (s : State) (k : Nat) (x : PwrSt) : (s.setPwr k x).pwrS k = x := sget_sset_same _ _ _ _
theorem State.pwrS_setPwr_ne (s : State) {k l : Nat} (x : PwrSt) (h : l ≠ k) : (s.setPwr k x).pwrS l = s.pwrS l :=
  sget_sset_ne _ _ _ h
@[simp] theorem State.acc_setAcc_same (s : State) (k : Nat) (x : MapAcc) : (s.setAcc k x).acc k = x := sget_sset_same _ _ _ _
theorem State.acc_setAcc_ne (s : State) {k l : Nat} (x : MapAcc) (h : l ≠ k) : (s.setAcc k x).acc l = s.acc l :=
  sget_sset_ne _ _ _ h
@[simp] theorem State.port_setPort_same (s : State) (k : Nat) (x : PortSt) : (s.setPort k x).port k = x := sget_sset_same _ _ _ _
theorem State.port_setPort_ne (s : State) {k l : Nat} (x : PortSt) (h : l ≠ k) : (s.setPort k x).port l = s.port l :=
  sget_sset_ne _ _ _ h
@[simp] theorem State.reg_setReg_same (s : State) (a : Nat) (v : Word) : (s.setReg a v).reg a = v := sget_sset_same _ _ _ _
theorem State.reg_setReg_ne (s : State) {a b : Nat} (v : Word) (h : b ≠ a) : (s.setReg a v).reg b = s.reg b := by
  show sget (regDefault b) (sset (regDefault a) s.regs a v) b = sget (regDefault b) s.regs b
  exact sget_sset_other _ _ _ _ h

end Sys2Proof.Machine
end

