-- ==== Sys2Proof/Laws/Results.lean ====
section
/-! SUPPORT. Results on their way to registers (R88): what a register reads once they are written. -/

namespace Sys2Proof.Machine

theorem CoreSt.get_put (c : CoreSt) (d d' : Dest) (x : BitVec 65536) :
    (c.put d x).get d' = if d = d' then d'.after x else c.get d' := by
  cases d with
  | s r =>
    by_cases h0 : r = 0
    · subst h0
      by_cases h : Dest.s 0 = d'
      · subst h; simp [CoreSt.get, CoreSt.sr, Dest.after]
      · rw [if_neg h]; cases d' <;> simp [CoreSt.put, CoreSt.get]
    · have h0 : ¬ r = 0#5 := h0
      cases d' with
      | s r' =>
        by_cases h : r = r'
        · subst h; simp [CoreSt.put, CoreSt.get, CoreSt.sr, Dest.after, h0, sget_sset_same]
        · have : r'.toNat ≠ r.toNat := fun e => h (BitVec.eq_of_toNat_eq e.symm)
          simp [CoreSt.put, CoreSt.get, CoreSt.sr, h0, h, sget_sset_ne, this]
      | _ => simp [CoreSt.put, CoreSt.get, h0, CoreSt.vr, CoreSt.kr]
  | v r =>
    cases d' with
    | v r' =>
      by_cases h : r = r'
      · subst h; simp [CoreSt.put, CoreSt.get, CoreSt.vr, Dest.after, sget_sset_same]
      · have : r'.toNat ≠ r.toNat := fun e => h (BitVec.eq_of_toNat_eq e.symm)
        simp [CoreSt.put, CoreSt.get, CoreSt.vr, h, sget_sset_ne, this]
    | _ => simp [CoreSt.put, CoreSt.get, CoreSt.sr, CoreSt.kr]
  | k r =>
    cases d' with
    | k r' =>
      by_cases h : r = r'
      · subst h; simp [CoreSt.put, CoreSt.get, CoreSt.kr, Dest.after, sget_sset_same]
      · have : r'.toNat ≠ r.toNat := fun e => h (BitVec.eq_of_toNat_eq e.symm)
        simp [CoreSt.put, CoreSt.get, CoreSt.kr, h, sget_sset_ne, this]
    | _ => simp [CoreSt.put, CoreSt.get, CoreSt.sr, CoreSt.vr]
  | acc r =>
    cases d' with
    | acc r' =>
      by_cases h : r = r'
      · subst h; simp [CoreSt.put, CoreSt.get, Dest.after, sget_sset_same]
      · have : r'.toNat ≠ r.toNat := fun e => h (BitVec.eq_of_toNat_eq e.symm)
        simp [CoreSt.put, CoreSt.get, h, sget_sset_ne, this]
    | _ => simp [CoreSt.put, CoreSt.get, CoreSt.sr, CoreSt.vr, CoreSt.kr]

/-- What a register that holds `v` holds after the results of a list are written. -/
def writes (d : Dest) (v : BitVec 65536) (ps : List Pend) : BitVec 65536 :=
  ps.foldl (fun v p => if p.dest = d then d.after p.val else v) v

theorem CoreSt.get_putAll (c : CoreSt) (ps : List Pend) (d : Dest) : (c.putAll ps).get d = writes d (c.get d) ps := by
  induction ps generalizing c with
  | nil => rfl
  | cons p ps ih =>
    show ((c.put p.dest p.val).putAll ps).get d = _
    rw [ih, CoreSt.get_put]; rfl

theorem writes_append (d : Dest) (v : BitVec 65536) (ps qs : List Pend) :
    writes d v (ps ++ qs) = writes d (writes d v ps) qs := by simp [writes]

theorem writes_none (d : Dest) (v : BitVec 65536) (ps : List Pend) (h : ∀ p ∈ ps, p.dest ≠ d) : writes d v ps = v := by
  induction ps generalizing v with
  | nil => rfl
  | cons p ps ih =>
    have h1 : p.dest ≠ d := h p (by simp)
    simp only [writes, List.foldl_cons, if_neg h1]
    exact ih v fun q hq => h q (by simp [hq])

/-- Once a result for the register is among those written, what stood before does not matter. -/
theorem writes_some (d : Dest) (v w : BitVec 65536) (ps : List Pend) (h : ∃ p ∈ ps, p.dest = d) :
    writes d v ps = writes d w ps := by
  induction ps generalizing v w with
  | nil => simp at h
  | cons p ps ih =>
    by_cases h1 : p.dest = d
    · simp [writes, h1]
    · obtain ⟨q, hq, e⟩ := h
      have hq' : q ∈ ps := by
        rcases List.mem_cons.1 hq with rfl | hq
        · exact absurd e h1
        · exact hq
      simp only [writes, List.foldl_cons, if_neg h1]
      exact ih v w ⟨q, hq', e⟩

/-- The registers of a core, its fields apart from them aside. -/
theorem CoreSt.get_congr {c c' : CoreSt} (hs : c'.s = c.s) (hv : c'.v = c.v) (hk : c'.k = c.k) (ha : c'.accVis = c.accVis)
    (d : Dest) : c'.get d = c.get d := by
  cases d <;> simp [CoreSt.get, CoreSt.sr, CoreSt.vr, CoreSt.kr, hs, hv, hk, ha]

theorem CoreSt.get_atCycle (c : CoreSt) (n : Nat) (d : Dest) :
    (c.atCycle n).get d = writes d (c.get d) (c.pend.filter fun p => decide (p.due ≤ n)) := by
  refine (CoreSt.get_congr (c := ({ c with cycle := n } : CoreSt).putAll (c.pend.filter fun p => decide (p.due ≤ n)))
    rfl rfl rfl rfl d).trans ?_
  rw [CoreSt.get_putAll]
  exact congrArg (fun v => writes d v _) (CoreSt.get_congr (c := c) rfl rfl rfl rfl d)

/-- The results of a list in order, up to a cycle and then up to a later one. -/
theorem filter_split (ps : List Pend) (m n : Nat) (hmn : m ≤ n) (h : ps.Pairwise fun p q => p.due ≤ q.due) :
    ps.filter (fun p => decide (p.due ≤ m)) ++ (ps.filter fun p => decide (m < p.due)).filter (fun p => decide (p.due ≤ n)) =
      ps.filter fun p => decide (p.due ≤ n) := by
  induction ps with
  | nil => rfl
  | cons p ps ih =>
    rw [List.pairwise_cons] at h
    have ih := ih h.2
    by_cases h1 : p.due ≤ m
    · have h2 : ¬ m < p.due := by omega
      have h3 : p.due ≤ n := by omega
      simp only [List.filter_cons, h1, h2, h3, decide_true, decide_false, if_true, List.cons_append]
      simpa using ih
    · have h2 : m < p.due := by omega
      have e : ps.filter (fun p => decide (p.due ≤ m)) = [] := by
        rw [List.filter_eq_nil_iff]; intro q hq; have := h.1 q hq; simp; omega
      rw [e] at ih
      simp only [List.nil_append] at ih
      by_cases h3 : p.due ≤ n
      · simp only [List.filter_cons, h1, h2, h3, decide_true, decide_false, if_true, e]
        simpa using ih
      · simp only [List.filter_cons, h1, h2, h3, decide_true, decide_false, if_true, e]
        simpa [h3] using ih

theorem mem_pendInsert (p q : Pend) (l : List Pend) : q ∈ pendInsert p l ↔ q = p ∨ q ∈ l := by
  induction l with
  | nil => simp [pendInsert]
  | cons x l ih =>
    unfold pendInsert
    split
    · simp
    · simp only [List.mem_cons, ih]; tauto

theorem pendInsert_sorted (p : Pend) (l : List Pend) (h : l.Pairwise fun p q => p.due ≤ q.due) :
    (pendInsert p l).Pairwise fun p q => p.due ≤ q.due := by
  induction l with
  | nil => simp [pendInsert]
  | cons x l ih =>
    rw [List.pairwise_cons] at h
    unfold pendInsert
    split
    · next hlt =>
      rw [List.pairwise_cons, List.pairwise_cons]
      refine ⟨?_, h.1, h.2⟩
      intro q hq
      rcases List.mem_cons.1 hq with rfl | hq
      · omega
      · have := h.1 q hq; omega
    · next hlt =>
      rw [List.pairwise_cons]
      refine ⟨?_, ih h.2⟩
      intro q hq
      rcases (mem_pendInsert p q l).1 hq with rfl | hq
      · omega
      · exact h.1 q hq

/-- The list into which a result is inserted falls into what is due no later and what is due later. -/
theorem pendInsert_split (p : Pend) (l : List Pend) (h : l.Pairwise fun p q => p.due ≤ q.due) :
    ∃ a b, l = a ++ b ∧ pendInsert p l = a ++ p :: b ∧ (∀ q ∈ a, q.due ≤ p.due) ∧ ∀ q ∈ b, p.due < q.due := by
  induction l with
  | nil => exact ⟨[], [], rfl, rfl, by simp, by simp⟩
  | cons x l ih =>
    rw [List.pairwise_cons] at h
    unfold pendInsert
    split
    · next hlt =>
      refine ⟨[], x :: l, rfl, rfl, by simp, ?_⟩
      intro q hq
      rcases List.mem_cons.1 hq with rfl | hq
      · exact hlt
      · have := h.1 q hq; omega
    · next hlt =>
      obtain ⟨a, b, e1, e2, h1, h2⟩ := ih h.2
      refine ⟨x :: a, b, by simp [e1], by simp [e2], ?_, h2⟩
      intro q hq
      rcases List.mem_cons.1 hq with rfl | hq
      · omega
      · exact h1 q hq

/-- What a register reads in cycle `n` once a result has joined those on their way. -/
theorem writes_pendInsert (d : Dest) (v : BitVec 65536) (c : CoreSt) (p : Pend) (n : Nat) (h : c.Ordered) :
    writes d v ((pendInsert p c.pend).filter fun p => decide (p.due ≤ n)) =
      if p.holds c n d then d.after p.val else writes d v (c.pend.filter fun p => decide (p.due ≤ n)) := by
  obtain ⟨a, b, e1, e2, h1, h2⟩ := pendInsert_split p c.pend h
  by_cases hd : p.dest = d
  · by_cases hn : p.due ≤ n
    · by_cases hb : ∃ q ∈ b.filter (fun p => decide (p.due ≤ n)), q.dest = d
      · have hf : p.holds c n d = false := by
          obtain ⟨q, hq, hqd⟩ := hb
          rw [List.mem_filter] at hq
          have : q ∈ c.pend := by rw [e1]; simp [hq.1]
          simp only [Pend.holds, Bool.and_eq_false_iff, List.all_eq_false]
          refine Or.inr ⟨q, this, ?_⟩
          have := h2 q hq.1
          have := hq.2
          simp_all
        rw [hf, e2, e1]
        simp only [List.filter_append, List.filter_cons, hn, decide_true, if_true, writes_append]
        rw [if_neg (by simp)]
        show writes d _ (b.filter _) = _
        exact writes_some d _ _ _ hb
      · have ht : p.holds c n d = true := by
          simp only [Pend.holds, hd, hn, decide_true, Bool.true_and, List.all_eq_true]
          intro q hq
          simp only [Bool.not_eq_true', decide_eq_false_iff_not]
          rintro ⟨k1, k2, k3⟩
          rw [e1, List.mem_append] at hq
          rcases hq with hq | hq
          · have := h1 q hq; omega
          · exact hb ⟨q, by simp [List.mem_filter, hq, k3], k1⟩
        rw [ht, e2]
        simp only [List.filter_append, List.filter_cons, hn, decide_true, if_true, writes_append]
        have hb' : ∀ q ∈ b.filter (fun p => decide (p.due ≤ n)), q.dest ≠ d := fun q hq hqd => hb ⟨q, hq, hqd⟩
        rw [show p :: b.filter (fun p => decide (p.due ≤ n)) = [p] ++ b.filter (fun p => decide (p.due ≤ n)) from rfl,
          writes_append, writes_none d _ _ hb']
        simp [writes, hd]
    · have hf : p.holds c n d = false := by simp [Pend.holds, hn]
      rw [hf, e2, e1]
      simp [List.filter_append, hn]
  · have hf : p.holds c n d = false := by simp [Pend.holds, hd]
    rw [hf, e2, e1]
    simp only [List.filter_append, List.filter_cons, writes_append]
    by_cases hn : p.due ≤ n
    · simp only [hn, decide_true, if_true]
      rw [if_neg (by simp)]
      simp [writes, hd]
    · simp [hn]

/-- A core whose results on their way are settled by the present cycle holds, in every later cycle, what they say. -/
theorem get_settled (c0 : CoreSt) (n : Nat) (hn : c0.cycle ≤ n) (h : c0.Ordered) (d : Dest) :
    (c0.settle.atCycle n).get d = (c0.atCycle n).get d := by
  rw [CoreSt.get_atCycle, CoreSt.get_atCycle]
  have e1 : c0.settle.get d = writes d (c0.get d) (c0.pend.filter fun p => decide (p.due ≤ c0.cycle)) := by
    refine (CoreSt.get_congr (c := c0.putAll (c0.pend.filter fun p => decide (p.due ≤ c0.cycle))) rfl rfl rfl rfl d).trans ?_
    rw [CoreSt.get_putAll]
  rw [e1, ← filter_split c0.pend c0.cycle n hn h, writes_append]
  rfl

end Sys2Proof.Machine
end

