-- ==== Sys2Proof/Laws/Issue.lean ====
section
/-! SUPPORT. What the issue of a bundle can do (R88 to R91, R125, R126, R146), said once: when a bundle of one operation issues, and what
the issue leaves when the operation's effect stays within its core. -/

namespace Sys2Proof.Machine

/-! ### Only one core and its counters -/

theorem OnlyCore.refl (s : State) (g : Nat) : OnlyCore s s g := ⟨rfl, fun _ _ => rfl, fun _ _ => rfl, fun _ _ _ => rfl⟩

theorem OnlyCore.coreCtr_eq {s t : State} {g : Nat} (h : OnlyCore s t g) (k n : Nat) : t.coreCtr k n = s.coreCtr k n := by
  rw [h.1]; rfl

theorem OnlyCore.trans {s t u : State} {g : Nat} (h : OnlyCore s t g) (k : OnlyCore t u g) : OnlyCore s u g := by
  refine ⟨?_, fun x hx => (k.2.1 x hx).trans (h.2.1 x hx), fun a ha => (k.2.2.1 a ?_).trans (h.2.2.1 a ha),
    fun r h1 h2 => (k.2.2.2 r h1 h2).trans (h.2.2.2 r h1 h2)⟩
  · rw [k.1, h.1]
  · intro n hn; rw [h.coreCtr_eq]; exact ha n hn

theorem OnlyCore.setCore (s : State) (g : Nat) (c : CoreSt) : OnlyCore s (s.setCore g c) g :=
  ⟨rfl, fun _ hx => State.core_setCore_ne s c hx, fun _ _ => rfl, fun _ _ _ => rfl⟩

theorem OnlyCore.setRegion (s : State) (g k : Nat) (f : Region) (h : k = rowRegion g ∨ k = barRegion g) :
    OnlyCore s (s.setRegion k f) g := by
  refine ⟨rfl, fun _ _ => rfl, fun _ _ => rfl, fun r h1 h2 => State.region_setRegion_ne s f ?_⟩
  rcases h with rfl | rfl <;> assumption

theorem State.core_coreCount (s : State) (g n k h : Nat) : (s.coreCount g n k).core h = s.core h := by
  unfold State.coreCount; split <;> rfl

theorem OnlyCore.coreCount (s : State) (g n k : Nat) (hn : n < 40) : OnlyCore s (s.coreCount g n k) g := by
  unfold State.coreCount
  split
  · exact OnlyCore.refl s g
  · refine ⟨rfl, fun _ _ => rfl, fun a ha => ?_, fun _ _ _ => rfl⟩
    have : a ≠ s.coreCtr g n := ha n hn
    simp [State.ctr, State.bump, sget_sset_ne, this]

theorem OnlyCore.counts (s : State) (g : Nat) (ps : List (Nat × Nat)) (h : ∀ p ∈ ps, p.1 < 40) :
    OnlyCore s (ps.foldl (fun a p => a.coreCount g p.1 p.2) s) g ∧
      (ps.foldl (fun a p => a.coreCount g p.1 p.2) s).core g = s.core g := by
  induction ps generalizing s with
  | nil => exact ⟨OnlyCore.refl s g, rfl⟩
  | cons p ps ih =>
    have h1 := ih (s.coreCount g p.1 p.2) fun q hq => h q (by simp [hq])
    exact ⟨(OnlyCore.coreCount s g p.1 p.2 (h p (by simp))).trans h1.1, h1.2.trans (State.core_coreCount ..)⟩

theorem issueCounts_lt (c : CoreSt) (o : SlotOp) : ∀ p ∈ issueCounts c o, p.1 < 40 := by
  intro p hp
  cases o with
  | s x => simp [issueCounts] at hp; subst hp; simp
  | v o f => simp [issueCounts] at hp; subst hp; simp
  | q o f => simp [issueCounts] at hp; subst hp; simp
  | t o f => cases o <;> simp [issueCounts] at hp <;> rcases hp with rfl | rfl <;> simp
  | m o f =>
    cases o <;> simp [issueCounts, mAtomic, mReduction] at hp <;> first
      | (rcases hp with rfl | rfl <;> (simp; done))
      | (rcases hp with rfl | rfl <;> simp; split <;> simp)

/-! ### The bundle's cycle -/

theorem OnlyCore.droop (s : State) (g : Nat) (x : Around) : OnlyCore s (s.droop g x) g :=
  (((OnlyCore.setRegion s g _ _ (.inl rfl)).trans (OnlyCore.setRegion _ g _ _ (.inr rfl))).trans
    (OnlyCore.coreCount _ g 38 _ (by omega))).trans (OnlyCore.coreCount _ g 39 _ (by omega))

theorem State.core_droop (s : State) (g k : Nat) (x : Around) : (s.droop g x).core k = s.core k := by
  unfold State.droop; simp only [State.core_coreCount]; rfl

theorem cross_spec (s : State) (g : Nat) (x : Around) :
    OnlyCore s (s.cross g x) g ∧ (s.cross g x).core g = { s.core g with link := ((s.cross g x).core g).link } := by
  unfold State.cross
  refine ⟨OnlyCore.trans ?_ (OnlyCore.setCore _ g _), by dsimp only; rw [State.core_setCore_same]⟩
  exact OnlyCore.setRegion s g (rowRegion g) _ (.inl rfl)

/-- The droop and the crossings of a bundle's cycle leave the core as it is, but for its link. -/
theorem met_spec (s : State) (e : Iss) :
    OnlyCore s (s.met e) e.g ∧ (s.met e).core e.g = { s.core e.g with link := ((s.met e).core e.g).link } := by
  have h := cross_spec (s.droop e.g e.env) e.g e.env
  refine ⟨(OnlyCore.droop s e.g e.env).trans h.1, h.2.trans ?_⟩
  rw [State.core_droop]

/-- What is ready stays so as the cycle's droop and crossings are taken. -/
theorem Ready.met {s : State} {e : Iss} {o : SlotOp} (h : Ready s e o) : Ready (s.met e) e o := by
  obtain ⟨k1, k2⟩ := met_spec s e
  have hs : ∀ g, (s.met e).stand g = s.stand g := fun g => by rw [k1.1]; rfl
  have hr : (s.met e).regs = s.regs := by rw [k1.1]
  have ho : (s.met e).standOf e.g = s.standOf e.g := by rw [k1.1]; rfl
  have hc : (s.met e).clockStopped e.g = s.clockStopped e.g := by rw [k1.1]; rfl
  have hb : (s.met e).inBwait e.g = s.inBwait e.g := by unfold State.inBwait; rw [k2, ho, hs]
  obtain ⟨h1, h2, h3, h4, h5, h6, h7, h8, h9, h10, h11, h12, h13⟩ := h
  refine ⟨h1, h2, h3, h4, hc.trans h5, ?_⟩
  rw [hb, k2]
  exact ⟨h6, h7, h8, h9, h10, h11, h12, h13⟩

/-! ### When a bundle issues -/

/-- The state in which the operations of an issuing bundle act: the cycle is counted and no wait is left. -/
def issueBase (s : State) (e : Iss) (ops : List SlotOp) : State :=
  let s1 := ((s.coreCount e.g 0 (1 + e.idle.toNat)).coreCount e.g 1 1).coreCount e.g 2 e.idle.toNat
  let s2 := (ops.flatMap (issueCounts (s.core e.g))).foldl (fun a p => a.coreCount e.g p.1 p.2) s1
  s2.setCore e.g { s2.core e.g with waiting := none, waitHolds := 0 }

theorem issueBase_spec (s : State) (e : Iss) (ops : List SlotOp) :
    OnlyCore s (issueBase s e ops) e.g ∧
      (issueBase s e ops).core e.g = { s.core e.g with waiting := none, waitHolds := 0 } := by
  have h1 := (OnlyCore.coreCount s e.g 0 (1 + e.idle.toNat) (by omega)).trans
    ((OnlyCore.coreCount _ e.g 1 1 (by omega)).trans (OnlyCore.coreCount _ e.g 2 e.idle.toNat (by omega)))
  have h2 := OnlyCore.counts (((s.coreCount e.g 0 (1 + e.idle.toNat)).coreCount e.g 1 1).coreCount e.g 2 e.idle.toNat) e.g
    (ops.flatMap (issueCounts (s.core e.g))) (by
      intro p hp
      obtain ⟨o, -, ho⟩ := List.mem_flatMap.1 hp
      exact issueCounts_lt _ o p ho)
  refine ⟨h1.trans (h2.1.trans (OnlyCore.setCore _ e.g _)), ?_⟩
  unfold issueBase
  rw [State.core_setCore_same, h2.2, State.core_coreCount, State.core_coreCount, State.core_coreCount]

/-- The issue of a bundle, with what enters the core's link left open. -/
theorem issueGo_eq (s : State) (e : Iss) (ops : List SlotOp) :
    ∃ sent, issueGo s e ops =
      (let s4 := ops.foldl (fun a o => opApply a e.g o) (issueBase s e ops)
       let c1 := s4.core e.g
       let q := advance (s.core e.g) (sOf ops)
       s4.setCore e.g (({ c1 with pc := q.pc, led := q.led, loops := q.loops, delay := q.delay, staged := [],
                                  cycle := c1.cycle + 1 + e.idle.toNat, active := true, sbStall := false,
                                  link := c1.link ++ sent } : CoreSt).clockOn (s.halfPattern e.g) (1 + e.idle.toNat)).settle) := ⟨_, rfl⟩

/-- A bundle of one operation issues when nothing stalls it and it meets no run-time error. -/
theorem issueOps_one (s : State) (e : Iss) (o : SlotOp) (h : Ready s e o) (hs : stallReasons (s.met e) e.g [o] = [])
    (he : issueErrors (s.met e) e.g [o] = []) : issueOps s e [o] = .next (issueGo (s.met e) e [o]) := by
  obtain ⟨h1, h2, h3, h4, h5, h6, h7, h8, h9, h10⟩ := h
  have e2 : issueTry (s.met e) e [o] = issueGo (s.met e) e [o] := by
    unfold issueTry
    simp [hs, he, h4, nearAll]
  have e1 : issueBundle s e [o] = issueGo (s.met e) e [o] := by
    unfold issueBundle; rw [h3]; exact e2
  unfold issueOps
  rw [if_neg (by omega)]
  simp only [h8, List.nil_append, h9, h6, h7, h5, h2, e1]
  simp [slotsRise]

/-- No S-slot or V-slot operation of a ready bundle stalls, but for one that signals beat done before its core has drained (R163), and
`end` while the network interface is busy (R166). -/
theorem stall_sv (s : State) (e : Iss) (o : SlotOp) (h : Ready s e o)
    (ho : (∃ x, o = .s x) ∨ ∃ v f, o = .v v f) (hstop : o = .s .stop → (s.core e.g).ni = [])
    (hd : signals s e.g o = true → (s.core e.g).done = true ∨ s.undrained e.g = false) :
    stallReasons s e.g [o] = [] := by
  obtain ⟨h1, h2, h3, h4, h5, h6, h7, h8, h9, h10, h11, h12, h13⟩ := h
  have hsb : ((s.core e.g).sb.any fun x => (o.reads ++ o.dests).any fun d => d == x.dest) = false := by
    rw [List.any_eq_false]
    intro x hx
    rw [Bool.not_eq_true, List.any_eq_false]
    intro d hd hde
    exact h12 x hx (by rw [← (beq_iff_eq.1 hde)]; exact hd)
  have hdr : (!(s.core e.g).done && s.undrained e.g && signals s e.g o) = false := by
    cases hq : signals s e.g o with
    | false => simp
    | true => rcases hd hq with k | k <;> simp [k]
  rcases ho with ⟨x, rfl⟩ | ⟨v, f, rfl⟩
  · by_cases hx : x = .stop
    · subst hx
      unfold stallReasons
      have := hstop rfl
      simp [h10, sbNeed, tagMask, niNeed, niWaits, waitHeld, natBit, upto, this, SlotOp.slot, streamHeld, usesPath]
      exact ⟨by simpa using hsb, by simpa using hdr⟩
    · unfold stallReasons
      simp [h10, sbNeed, tagMask, niNeed, niWaits, waitHeld, natBit, upto, hx, SlotOp.slot, streamHeld, usesPath]
      exact ⟨by simpa using hsb, by simpa using hdr⟩
  · unfold stallReasons
    simp [h10, sbNeed, tagMask, niNeed, niWaits, waitHeld, natBit, upto, SlotOp.slot, streamHeld, usesPath, signals]
    simpa using hsb

/-- A ready bundle touches no register that a scoreboard entry holds. -/
theorem early_none (s : State) (e : Iss) (o : SlotOp) (h : Ready s e o) : earlyAccess s e.g [o] = false := by
  obtain ⟨-, -, -, -, -, -, -, -, -, -, -, h10, -⟩ := h
  unfold earlyAccess
  rw [List.any_eq_false]
  intro x hx hb
  obtain ⟨d, hd, hde⟩ := List.any_eq_true.1 (Bool.and_eq_true _ _ ▸ hb).2
  exact h10 x hx (by rw [← beq_iff_eq.1 hde]; simpa using hd)

/-- A ready bundle meets no run-time error that its operation does not bring. -/
theorem errors_one (s : State) (e : Iss) (o : SlotOp) (h : Ready s e o) (ho : opErrors s e.g (s.core e.g) o = []) :
    issueErrors s e.g [o] = [] := by
  unfold issueErrors
  have := h.2.2.2.2.2.2.2.2.2.2.1
  simp [early_none s e o h, ho, Nat.not_le.2 this]

/-! ### What the issue leaves -/

theorem putAll_fields (c : CoreSt) (ps : List Pend) :
    c.putAll ps = { c with s := (c.putAll ps).s, v := (c.putAll ps).v, k := (c.putAll ps).k,
                           accVis := (c.putAll ps).accVis } := by
  induction ps generalizing c with
  | nil => rfl
  | cons p ps ih =>
    show (c.put p.dest p.val).putAll ps = _
    have hp : c.put p.dest p.val = { c with s := (c.put p.dest p.val).s, v := (c.put p.dest p.val).v,
                                            k := (c.put p.dest p.val).k, accVis := (c.put p.dest p.val).accVis } := by
      cases p.dest <;> unfold CoreSt.put <;> dsimp only <;> (try split) <;> rfl
    rw [ih (c.put p.dest p.val)]
    show _ = { c with s := ((c.put p.dest p.val).putAll ps).s, v := ((c.put p.dest p.val).putAll ps).v,
                      k := ((c.put p.dest p.val).putAll ps).k, accVis := ((c.put p.dest p.val).putAll ps).accVis }
    generalize ((c.put p.dest p.val).putAll ps).s = a
    generalize ((c.put p.dest p.val).putAll ps).v = b
    generalize ((c.put p.dest p.val).putAll ps).k = d
    generalize ((c.put p.dest p.val).putAll ps).accVis = f
    rw [hp]

theorem settle_fields (c : CoreSt) :
    c.settle = { c with s := c.settle.s, v := c.settle.v, k := c.settle.k, accVis := c.settle.accVis,
                        pend := c.settle.pend } := by
  unfold CoreSt.settle
  conv_lhs => rw [putAll_fields]

/-- The core's half goes on: only its nominal cycle and the pattern in force there change (R80). -/
theorem clockOn_fields (q n : Nat) (c : CoreSt) :
    CoreSt.clockOn q n c = { c with nom := (CoreSt.clockOn q n c).nom, pat := (CoreSt.clockOn q n c).pat } := by
  induction n generalizing c with
  | zero => rfl
  | succ n ih =>
    unfold CoreSt.clockOn
    dsimp only
    conv_lhs => rw [ih]

/-- A bundle of one operation whose effect outside its core leaves `s'`, and in it core `c` with its results `ws` on their way: what its
issue leaves. -/
theorem issueGo_spec (s s' : State) (e : Iss) (o : SlotOp) (c : CoreSt) (ps : List Pend) (ws : List Pend) (u : State) (l : List (Nat × Nat))
    (hu : OnlyCore s' u e.g) (hop : opApply (issueBase s e [o]) e.g o = u)
    (hcore : u.core e.g = { c with pend := ps, waiting := none, waitHolds := 0, link := l })
    (hseq : advance c (sOf [o]) = { c with
      pc := (advance (s.core e.g) (sOf [o])).pc, led := (advance (s.core e.g) (sOf [o])).led,
      loops := (advance (s.core e.g) (sOf [o])).loops, delay := (advance (s.core e.g) (sOf [o])).delay })
    (hord : ps.Pairwise fun p q => p.due ≤ q.due)
    (hps : ∀ n d v, writes d v (ps.filter fun p => decide (p.due ≤ n)) =
      match ws.find? fun w => w.holds c n d with
      | some w => d.after w.val
      | none => writes d v (c.pend.filter fun p => decide (p.due ≤ n))) :
    IssuedAs s' (issueGo s e [o]) e (sOf [o]) c ws := by
  obtain ⟨sent, hgo⟩ := issueGo_eq s e [o]
  rw [hgo]
  simp only [List.foldl_cons, List.foldl_nil, hop]
  rw [hcore]
  generalize hl : l ++ sent = l2
  set c1 : CoreSt := { c with
    pend := ps, waiting := none, waitHolds := 0, pc := (advance (s.core e.g) (sOf [o])).pc,
    led := (advance (s.core e.g) (sOf [o])).led, loops := (advance (s.core e.g) (sOf [o])).loops,
    delay := (advance (s.core e.g) (sOf [o])).delay, staged := [], cycle := c.cycle + 1 + e.idle.toNat, active := true,
    sbStall := false, link := l2 } with hc1
  obtain ⟨nm, pt, hk⟩ : ∃ nm pt, c1.clockOn (s.halfPattern e.g) (1 + e.idle.toNat) = { c1 with nom := nm, pat := pt } :=
    ⟨_, _, clockOn_fields _ _ c1⟩
  rw [hk]
  set c2 : CoreSt := { c1 with nom := nm, pat := pt } with hc2
  have hc2o : c2.Ordered := hord
  refine ⟨hu.trans (OnlyCore.setCore u e.g _), ?_, ?_, ?_⟩
  · rw [State.core_setCore_same]
    show OneOn c c2.settle e (sOf [o])
    unfold OneOn
    rw [hseq]
    obtain ⟨a, b, k, d, p, hq⟩ : ∃ a b k d p, c2.settle = { c2 with s := a, v := b, k := k, accVis := d, pend := p } :=
      ⟨_, _, _, _, _, settle_fields c2⟩
    rw [hq]
  · rw [State.core_setCore_same]
    intro n hn d
    show (c2.settle.atCycle n).get d = _
    have hn' : c2.cycle ≤ n := by rw [settle_fields c2] at hn; exact hn
    rw [get_settled c2 n hn' hc2o, CoreSt.get_atCycle]
    show writes d (c2.get d) (ps.filter _) = _
    have hg : c2.get d = c.get d := CoreSt.get_congr rfl rfl rfl rfl d
    rw [hps, CoreSt.get_atCycle, hg] <;> cases ws.find? fun w => w.holds c n d <;> rfl
  · rw [State.core_setCore_same]
    exact List.Pairwise.filter _ hord

end Sys2Proof.Machine
end

