-- ==== Sys2Proof/Laws/Registers.lean ====
section
/-! SUPPORT. The laws of register fields: a field reads what was written to it, and a write leaves every other field and
register alone. -/

namespace Sys2Proof.Machine

theorem natBits_lt (n lo w : Nat) : natBits n lo w < 2 ^ w := Nat.mod_lt _ (Nat.two_pow_pos w)

/-- Bit `i` of a number with a field replaced. -/
theorem natPut_testBit (n lo w v i : Nat) :
    (natPut n lo w v).testBit i = if lo ≤ i ∧ i < lo + w then v.testBit (i - lo) else n.testBit i := by
  have h : natPut n lo w v = n / 2 ^ (lo + w) * 2 ^ (lo + w) + (v % 2 ^ w * 2 ^ lo + n % 2 ^ lo) := by
    unfold natPut natBits
    have e1 : n = n / 2 ^ lo * 2 ^ lo + n % 2 ^ lo := by rw [Nat.mul_comm]; exact (Nat.div_add_mod _ _).symm
    have e2 : n / 2 ^ lo = n / 2 ^ (lo + w) * 2 ^ w + n / 2 ^ lo % 2 ^ w := by
      rw [Nat.pow_add, ← Nat.div_div_eq_div_mul, Nat.mul_comm]; exact (Nat.div_add_mod _ _).symm
    have e3 : n = n / 2 ^ (lo + w) * 2 ^ (lo + w) + n / 2 ^ lo % 2 ^ w * 2 ^ lo + n % 2 ^ lo := by
      conv => lhs; rw [e1, e2]
      rw [Nat.add_mul, Nat.pow_add, Nat.mul_assoc, Nat.mul_comm (2 ^ w)]
    omega
  have hlow : v % 2 ^ w * 2 ^ lo + n % 2 ^ lo < 2 ^ (lo + w) := by
    have h1 : v % 2 ^ w < 2 ^ w := Nat.mod_lt _ (Nat.two_pow_pos w)
    have h2 : n % 2 ^ lo < 2 ^ lo := Nat.mod_lt _ (Nat.two_pow_pos lo)
    rw [Nat.pow_add, Nat.mul_comm (2 ^ lo)]
    have h3 := Nat.mul_le_mul_right (2 ^ lo) (Nat.succ_le_of_lt h1)
    rw [Nat.succ_mul] at h3
    omega
  rw [h, Nat.mul_comm (n / 2 ^ (lo + w)), Nat.testBit_two_pow_mul_add _ hlow, Nat.mul_comm (v % 2 ^ w),
    Nat.testBit_two_pow_mul_add _ (Nat.mod_lt _ (Nat.two_pow_pos lo))]
  by_cases h1 : i < lo + w
  · by_cases h2 : i < lo
    · simp only [if_pos h1, if_pos h2]
      rw [if_neg (by omega), Nat.testBit_mod_two_pow]; simp [h2]
    · simp only [if_pos h1, if_neg h2]
      rw [if_pos (by omega), Nat.testBit_mod_two_pow]; simp [show i - lo < w by omega]
  · simp only [if_neg h1]
    rw [if_neg (by omega), ← Nat.shiftRight_eq_div_pow, Nat.testBit_shiftRight]
    congr 1; omega

theorem natBits_testBit (n lo w i : Nat) : (natBits n lo w).testBit i = (decide (i < w) && n.testBit (lo + i)) := by
  unfold natBits
  rw [Nat.testBit_mod_two_pow, ← Nat.shiftRight_eq_div_pow, Nat.testBit_shiftRight]

theorem natBits_natPut_same (n lo w v : Nat) : natBits (natPut n lo w v) lo w = v % 2 ^ w := by
  apply Nat.eq_of_testBit_eq
  intro i
  rw [natBits_testBit, natPut_testBit, Nat.testBit_mod_two_pow]
  by_cases h : i < w
  · rw [if_pos (by omega)]; simp [h]
  · simp [h]

theorem natBits_natPut_ne (n lo w v lo' w' : Nat) (h : lo' + w' ≤ lo ∨ lo + w ≤ lo') :
    natBits (natPut n lo w v) lo' w' = natBits n lo' w' := by
  apply Nat.eq_of_testBit_eq
  intro i
  rw [natBits_testBit, natBits_testBit, natPut_testBit]
  by_cases h1 : i < w'
  · rw [if_neg (by omega)]
  · simp [h1]

theorem natBits_mod (n lo w k : Nat) (h : lo + w ≤ k) : natBits (n % 2 ^ k) lo w = natBits n lo w := by
  apply Nat.eq_of_testBit_eq
  intro i
  rw [natBits_testBit, natBits_testBit, Nat.testBit_mod_two_pow]
  by_cases h1 : i < w
  · simp [show lo + i < k by omega]
  · simp [h1]

/-- A field reads what was written to it. -/
theorem State.gf_sf_same (s : State) (a : Nat) (f : Fld) (v : Nat) (h : f.lo + f.w ≤ 64) :
    (s.sf a f v).gf a f = v % 2 ^ f.w := by
  unfold State.gf State.sf
  rw [State.reg_setReg_same, BitVec.toNat_ofNat, natBits_mod _ _ _ _ h, natBits_natPut_same]

/-- A write of one field leaves another field of the register alone. -/
theorem State.gf_sf_field (s : State) (a : Nat) (f g : Fld) (v : Nat) (h : g.lo + g.w ≤ f.lo ∨ f.lo + f.w ≤ g.lo)
    (hg : g.lo + g.w ≤ 64) : (s.sf a f v).gf a g = s.gf a g := by
  unfold State.gf State.sf
  rw [State.reg_setReg_same, BitVec.toNat_ofNat, natBits_mod _ _ _ _ hg, natBits_natPut_ne _ _ _ _ _ _ h]

/-- A write of a field leaves every other register alone. -/
theorem State.reg_sf_ne (s : State) {a b : Nat} (f : Fld) (v : Nat) (h : b ≠ a) : (s.sf a f v).reg b = s.reg b :=
  State.reg_setReg_ne s _ h

theorem State.gf_sf_ne (s : State) {a b : Nat} (f g : Fld) (v : Nat) (h : b ≠ a) : (s.sf a f v).gf b g = s.gf b g := by
  unfold State.gf; rw [State.reg_sf_ne _ _ _ h]

theorem State.gf_setReg_same (s : State) (a : Nat) (v : Word) (f : Fld) :
    (s.setReg a v).gf a f = natBits v.toNat f.lo f.w := by
  unfold State.gf; rw [State.reg_setReg_same]

theorem State.gf_setReg_ne (s : State) {a b : Nat} (v : Word) (f : Fld) (h : b ≠ a) : (s.setReg a v).gf b f = s.gf b f := by
  unfold State.gf; rw [State.reg_setReg_ne _ _ h]

/-- A field is below 2 to its width. -/
theorem State.gf_lt (s : State) (a : Nat) (f : Fld) : s.gf a f < 2 ^ f.w := natBits_lt _ _ _

end Sys2Proof.Machine
end

