-- ==== Sys2Proof/Tests/Slice0.lean ====
section
/-! SUPPORT. Tests of the model: ill-formed commands, words of the spec's encoding, and for each statement a state and
operands that meet what it supposes. -/

open Sys2Proof Sys2Proof.Machine

namespace Sys2Proof.Tests.Slice0

set_option Elab.async false

/-! ### Small states -/

/-- The plan of one stand: tower 0, stacks 0 and 1, 100 W, port 0, clearings every 64 beats. -/
def plan0 : SMap Byte := [(0, 1), (12, 3), (16, 100), (18, 1)]

/-- A port whose link is up. -/
def portOn : PortSt := { PortSt.zero with inReset := false, cfgReady := true, busMaster := true }

/-- A ready module with that plan, an image and port 0. -/
def up : State := { State.reset with
  regs := [(0x704, 1), (0x100800110, 12), (0x200800110, 12)], planForce := plan0, ports := [(0, portOn)], sec := { State.reset.sec with image := some (0, 1) } }

/-- A core in its run. -/
def c0 : CoreSt := { CoreSt.zero with running := true, progLen := 16 }

/-- That module with core 0 in the state `c`. -/
def on (c : CoreSt) : State := { up with cores := [(0, c)] }

/-- A bundle of one operation at core 0. -/
def e0 : Iss := ⟨0, 0, true, .none, .calm⟩

/-- Vector fields of type `ty` with the operands v1, v2, v3 and the destination v4. -/
def vf (ty : BitVec 4) : VF := ⟨ty, 4, 1, 2, 3, 0, false, false, 0, 0, 0⟩

/-- Is each of these operations ready to issue alone at core 0 in the state `c`? -/
def ready (c : CoreSt) (l : List SlotOp) : Bool := l.all fun o => decide (Ready (on c) e0 o)

theorem test_up : up.phase = 1 ∧ up.standOf 0 = 0 ∧ up.stacksOf 0 = [0, 1] ∧ up.inClearing 0 = false := by decide

/-! ### Ill-formed commands -/

theorem test_wf_core : (Instr.add { e0 with g := 12288 } 1 2 3).wf = false ∧ (Instr.add { e0 with g := 12287 } 1 2 3).wf = true := by decide
theorem test_wf_shift : (Instr.shli e0 1 2 64).wf = false ∧ (Instr.shli e0 1 2 63).wf = true := by decide
theorem test_wf_port : (Instr.commit 2).wf = false ∧ (Instr.commit 1).wf = true := by decide
theorem test_wf_vector : (Instr.msixPendingSend 0 160 ⟨true, true, false, 0, 5, true, 5, 16⟩).wf = false := by decide
theorem test_wf_stand : (Instr.launch 0 16 1 []).wf = false ∧ (Instr.beatGate 16).wf = false := by decide
theorem test_wf_tile : (Instr.engineCycle 16 []).wf = false ∧ (Instr.monitorReading 0 16).wf = false := by decide
theorem test_wf_unit_core : (Instr.qld ⟨12288, .clean⟩).wf = false := by decide
theorem test_wf_lane : (Instr.laneFence 0 2 0).wf = false ∧ (Instr.laneFence 0 0 30).wf = false := by decide
theorem test_wf_context : (Instr.seqJump 0 7 0).wf = false ∧ (Instr.seqSwap 0 6 0 0 33).wf = false := by decide
theorem test_wf_park : (Instr.seqPark 0 6 true 0 0 1080).wf = false ∧ (Instr.seqPark 0 6 false 0 33 0).wf = false := by decide
def noFrame : FrameSeen := ⟨true, none, none, true, true⟩
theorem test_wf_circuit : (Instr.frameVerdict 0 6 0 noFrame).wf = false ∧ (Instr.frameVerdict 0 0 256 noFrame).wf = false := by decide
theorem test_wf_listener : (Instr.relockTimeout 0 1080).wf = false ∧ (Instr.lockLoopUpdate 0 3264 ⟨0, ⟨0, 0, 0, 0⟩⟩ false none).wf = false := by decide
theorem test_wf_trunk : (Instr.intruderMessage 160 0).wf = false ∧ (Instr.rotationStep 0 8).wf = false := by decide
theorem test_wf_fibre : (Instr.fibreSwitch 0 3).wf = false := by decide
theorem test_wf_site : (Instr.siteLinkDown 0 6).wf = false ∧ (Instr.siteModuleFailure 0 0 17).wf = false := by decide
/-- R353: a die that says it is an Itaux compute die (flag 1) and offers no such descriptor. -/
theorem test_wf_descriptor : (Instr.siteLinkReturn 0 0 ⟨2 ^ (8 * 27 + 1), [], false⟩ []).wf = false ∧
    (Instr.siteLinkReturn 0 0 ⟨0, [], false⟩ []).wf = true := by
  decide +kernel
theorem test_wf_site_stand : (Instr.standStart 0 0 16).wf = false := by decide
theorem test_wf_stack : (Instr.hbmRefresh 32 ⟨0, false, 0⟩).wf = false ∧ (Instr.wakeComplete ⟨96, [], false⟩).wf = false := by decide
theorem test_wf_reference : (Instr.referenceLost 2).wf = false := by decide
theorem test_wf_sensor : (Instr.thermalTrip 0 4 0 false).wf = false ∧ (Instr.housekeepingMeasure 0 64 0).wf = false := by decide
theorem test_wf_channel : (Instr.suspectRecalibrationEnd 0 40 0).wf = false := by decide
theorem test_wf_power : (Instr.powerManagerUpdate [(96, 0, 0)] ⟨[], [], [], []⟩ 0).wf = false ∧
    (Instr.powerManagerUpdate [] ⟨[], [], [(16, 0)], [(864, 0, 0)]⟩ 0).wf = false := by decide
theorem test_wf_arm : (Instr.sampleCapture 0 0 8).wf = false := by decide
theorem test_wf_keys : (Instr.reprovisioning [(4, [])] [[], []] 0).wf = false ∧ (Instr.reprovisioning [] [[]] 0).wf = false := by decide

/-- R289, R73: Cold values of the tables, beside the words of an undamaged module. -/
theorem test_cold : State.reset.gf (Reg.OPT_TRUNK_STATE 15 7) Fld.OPT_TRUNK_STATE_cal_ch = 0x3F ∧
    State.reset.gf (Reg.OPT_ROT_CFG 3) Fld.OPT_ROT_CFG_interval = 2000 ∧
    State.reset.gf (Reg.CORE_ROW_MAP 0 0 0) Fld.CORE_ROW_MAP_in_service = 0xFFFF := by decide +kernel

/-! ### Words of the spec's encoding -/

/-- The worked bundle below R138: its S, T and M words, and the whole bundle from its quarters. -/
theorem test_word_s : sDecode 0x24_E701 = some (.alu .add 7 7 9) := by decide
theorem test_word_t : tDecode 0x0522_1108 = some (.t .tmac ⟨1, 1, 2, 4, 5, 0, 0, 0, 0⟩) := by decide
theorem test_word_m : mDecode 0x0810_0000_6603 = some (.m .vld ⟨6, 3, 0, 0, 0, false, false, false, 4, 64⟩) := by decide
/-- R131, R170: vcmpeq.i32 k1, v2, v3: opcode 0x10, type 3, d at bit 12, a at 17, b at 22. -/
theorem test_word_v : vDecode (0x10 + 0x300 + 0x1000 + 0x4_0000 + 0xC0_0000) =
    some (.v .vcmpeq ⟨3, 1, 2, 3, 0, 0, false, false, 0, 0, 0⟩) := by decide
theorem test_bundle : decodeBundle (0x24_E701_000D + 0x0522_1108 * 2 ^ 128 + 0x0810_0000_6603 * 2 ^ 192) =
    .inr ([.s (.alu .add 7 7 9), .t .tmac ⟨1, 1, 2, 4, 5, 0, 0, 0, 0⟩,
      .m .vld ⟨6, 3, 0, 0, 0, false, false, false, 4, 64⟩], 0) := by decide

/-! ### What the statements suppose can be met: bundles and scalar instructions -/

theorem hyp_StepRunsFrontCommand : ({ up with pending := [.idcode, .bdone e0] } : State).pending = .idcode :: [.bdone e0] := rfl

theorem hyp_BundleEncodingRoundTrip :
    slotsRise [.s (.alu .add 7 7 9), .m .vld ⟨6, 3, 0, 0, 0, false, false, false, 4, 64⟩] = true ∧
    bundleBreach [.s (.alu .add 7 7 9), .m .vld ⟨6, 3, 0, 0, 0, false, false, false, 4, 64⟩] 15 = none := by decide

/-- An operation of the scalar slot that is staged for vsplat's bundle. -/
def addOp : SlotOp := .s (.alu .add 1 2 3)
def splat : VF := ⟨3, 4, 0, 0, 0, 0, false, false, 5, 0, 0⟩

theorem hyp_BundleReadsBeforeWrites :
    Ready ((on { c0 with staged := [addOp] }).setCore 0 c0) e0 (.v .vsplat splat) ∧
    ((on { c0 with staged := [addOp] }).core 0).staged = [addOp] ∧ bundleBreach [addOp, .v .vsplat splat] e0.idle.toNat = none := by
  decide

/-- Each way that the bundle sequence goes on from an empty bundle. -/
theorem hyp_BundleSequence : ∀ c ∈ [c0, { c0 with delay := some (1, 15) }, { c0 with delay := some (2, 15) },
      { c0 with loops := [⟨0, 0, 1⟩] }, { c0 with loops := [⟨0, 0, 2⟩] }, { c0 with loops := [⟨0, 1, 2⟩] }, { c0 with pc := 15 }],
    e0.g < 12288 ∧ e0.det = .none ∧ e0.env.near = [] ∧ (on c).clockStopped 0 = false ∧ ((on c).core 0).running = true ∧ ((on c).core 0).halted = false ∧
      (on c).inBwait 0 = false ∧ ((on c).core 0).pc < ((on c).core 0).progLen ∧ ((on c).core 0).Ordered := by decide

def loops3 : List LoopEnt := [⟨0, 5, 1⟩, ⟨0, 6, 1⟩, ⟨0, 7, 1⟩]

theorem hyp_BranchesAndLoops : c0.delay = none ∧ ready c0 [.s (.jmp 2047), .s (.jal 1 0), .s (.lp 1 5), .s (.lpi 0 5),
      .s (.lpi 0xFFFF 5), .s (.lcnt 1)] = true ∧ ready { c0 with s := [(1, 15)] } [.s (.jr 1), .s (.lp 1 5)] = true ∧
    ready c0 ([Cond.eq, .ne, .lt, .ge, .ltu, .geu].map fun k => .s (.br k 1 2 5)) = true ∧
    ready { c0 with loops := loops3 } [.s (.lpi 1 5)] = true := by decide

/-- R142: the loop instruction of count 0 that stands at the end of the innermost loop's body. -/
theorem hyp_BranchesAndLoops_end : ready { c0 with loops := [⟨0, 0, 2⟩] } [.s (.lpi 0 5)] = true ∧
    ready { c0 with loops := [⟨0, 0, 1⟩] } [.s (.lp 1 5)] = true := by decide

def busy : CoreSt := { c0 with sb := [⟨.s 2, .topk, none⟩] }

theorem hyp_StallsAndRunTimeErrors_stall : bundleBreach [addOp] e0.idle.toNat = none ∧ (on busy).inBwait 0 = false ∧ (on busy).clockStopped 0 = false ∧
    (∃ x ∈ ((on busy).core 0).sb, x.dest ∈ addOp.reads ++ addOp.dests) ∧ earlyAccess (on busy) 0 [addOp] = false ∧
    ((on busy).core 0).staged = [] ∧ ((on busy).core 0).Ordered := by decide

theorem hyp_StallsAndRunTimeErrors_errors : ready { c0 with s := [(1, 16)] } [.s (.jr 1)] = true ∧
    ready { c0 with s := [(1, 1)], loops := ⟨0, 8, 1⟩ :: loops3 } [.s (.lp 1 5), .s (.lpi 1 5)] = true ∧
    (on { c0 with pc := 16 }).inBwait 0 = false ∧ c0.led = false := by decide

theorem hyp_ScalarResults : ready c0 ([SAlu.add, .sub, .and, .or, .xor, .shl, .shr, .sra, .mul, .mulh, .mulhu, .slt, .sltu, .seq,
      .min, .max, .minu, .maxu].map fun o => .s (.alu o 1 2 3)) = true ∧
    ready c0 [.s (.alu .clz 1 2 0), .s (.alu .popc 0 2 0), .s (.sliw 1 0xFFFF_FFFF), .s (.slih 0 1)] = true ∧
    ready c0 ([SAluI.addi, .andi, .ori, .xori, .slti, .sltui, .muli].map fun o => .s (.alui o 1 2 0x3FFF_FFFF)) = true ∧
    ready c0 ([SAluI.shli, .shri, .srai].map fun o => .s (.alui o 1 2 63)) = true := by decide

theorem hyp_ControlReadsAndBeats : ready c0 ([0, 1, 2, 3, 4, 5, 6, 7, 8, 9, 15].map fun n => .s (.rdcr 1 n)) = true ∧
    ready c0 [.s (.rdgtc 1 1), .s (.rdhw 1 0), .s (.evt 1), .s .bdone, .s .stop, .s (.bwait 1)] = true ∧ c0.ni = [] ∧ Drained (on c0) e0 ∧
    ready { c0 with s := [(1, 5)] } [.s (.bwait 1)] = true := by
  decide +kernel

/-- The same core on tile 1, whose time may differ. -/
theorem hyp_ControlReads_tile : Ready { up with cores := [(768, c0)] } { e0 with g := 768 } (.s (.rdgtc 1 1)) ∧ tileOf 768 = 1 ∧
    tileOf 0 ≠ tileOf 768 ∧ ∀ k ∈ [0, 768], (up.stand (up.standOf k)).gridBefore ≤ up.gtc.toNat ∧
      (sget 0 up.tileGtc (tileOf k)).toNat ≤ up.gtc.toNat := by decide

/-- A stand in its run, its first edge to come, whose tile no read of time has passed. -/
theorem hyp_ControlReads_edge : (let s : State := { up with
      regs := sset 0 up.regs (Reg.STD_STATUS 0) 2, stands := [(0, { StandSt.zero with grid := 1, copy := { RunCopy.zero with beatLen := 16 } })] }
    (s.stand 0).gridBefore ≤ s.gtc.toNat ∧ s.inRun 0 = true ∧ s.gtc.toNat < (s.stand 0).edgeAt ∧
      (sget 0 s.tileGtc (tileOf 0)).toNat < (s.stand 0).edgeAt) := by decide +kernel

/-! ### Vector instructions -/

/-- The same fields without the operand c, and without b and c. -/
def vf2 (ty : BitVec 4) : VF := { vf ty with c := 0 }
def vf1 (ty : BitVec 4) : VF := { vf ty with b := 0, c := 0 }

theorem hyp_VectorIntegerLanes : ready c0 ([VOp.vadd, .vsub, .vmul, .vmin, .vmax, .vshl, .vshr, .vsra].map fun o => .v o (vf2 1)) = true ∧
    ready c0 [.v .vabs (vf1 3), .v .vneg (vf1 2)] = true ∧ isInt 1 = true ∧ isInt 3 = true := by decide

theorem hyp_VectorFloatLanes : ready c0 ([VOp.vadd, .vsub, .vmul, .vmin, .vmax].map fun o => .v o (vf2 6)) = true ∧
    ready c0 [.v .vfma (vf 7)] = true ∧
    ready c0 ([VOp.vabs, .vneg, .vexp, .vrcp, .vrsqrt, .vtanh, .vgelu].map fun o => .v o (vf1 7)) = true ∧
    isFlt 6 = true ∧ isFlt 7 = true := by decide

theorem hyp_VectorBitsComparesPredicates : ready c0 ([VOp.vand, .vor, .vxor].map fun o => .v o (vf2 3)) = true ∧
    ready c0 [.v .vsel { vf2 3 with mask := 9 }] = true ∧
    ready c0 ([VOp.vcmpeq, .vcmpne, .vcmplt, .vcmple].flatMap fun o => [.v o (vf2 3), .v o (vf2 6)]) = true ∧
    ready c0 ([VOp.kand, .kor, .kxor].map fun o => .v o (vf2 0)) = true ∧ ready c0 [.v .knot (vf1 0)] = true := by decide

theorem hyp_LaneMovementAndConversions : ready c0 [.v .vbcast { vf1 3 with imm6 := 15 }, .v .vperm (vf2 3), .v .vshuf (vf 3),
      .v .vrot (vf1 3), .v .vins { vf1 3 with a := 0 }, .v .vmov (vf1 3), .v .vsplat splat, .v .vext (vf1 3)] = true ∧
    ready c0 [.v .vcvt { vf1 1 with imm8 := 3 }, .v .vcvt { vf1 7 with imm8 := 6 }, .v .vcvt { vf1 7 with imm8 := 3 },
      .v .vpackmx { vf2 8 with s := 1 }, .v .vpackmx { vf2 13 with s := 1, imm6 := 1 }] = true := by decide

theorem hyp_ReductionsAndStatistics : ready c0 ([VOp.vrsum, .vrmax, .vrmin].flatMap fun o => [.v o (vf1 1), .v o (vf1 6)]) = true ∧
    ready c0 [.v .vstat { vf1 6 with d := 0 }, .v .vstat { vf1 7 with d := 0 }, .v .vstrd { vf1 0 with a := 0 },
      .v .vstrd { vf1 0 with a := 0, imm6 := 1 }, .v .vstclr { vf1 0 with a := 0, d := 0 }] = true := by decide +kernel

/-! ### Tensor and similarity instructions -/

/-- Tensor fields of zeros. -/
def tf : TF := ⟨0, 0, 0, 0, 0, 0, 0, 0, 0⟩

theorem hyp_BufferCopiesAndStreams : ready { c0 with s := [(1, 2 ^ 18 - 2048)] } [.t .tlda { tf with s := 1, imm5 := 1 }] = true ∧
    ready { c0 with s := [(1, 2 ^ 18 - 128)] } [.t .tldsc { tf with s := 1 }, .t .tldb { tf with s := 1 }] = true := by decide +kernel

/-- A core whose stream holds one chunk, in the stream buffer, with one copy that has a line to read. -/
def cStream : CoreSt := { c0 with bstream := [⟨0, some 1, some 2⟩] }
def cCopy : CoreSt := { c0 with acopies := [⟨0, true, 0, [1], 0, false⟩, ⟨0, false, 0, [3], 0, false⟩], bstream := [⟨0, some 1, none⟩] }

theorem hyp_BufferCopiesAndStreams_units : (∀ x ∈ cStream.bstream, x.ready = true) ∧ cCopy.arrayFree ≤ cCopy.cycle ∧
    cCopy.acopies = [⟨0, true, 0, [1], 0, false⟩] ++ ⟨0, false, 0, [3], 0, false⟩ :: [] ∧
    (cCopy.bstream.map fun y => boolNat y.lo.isSome + boolNat y.hi.isSome).sum < 4 ∧
    nearPort cCopy .stream = 1 ∧ portTurn (on cCopy) 0 0 (portReader cCopy .stream) = false ∧ nearPort cCopy (.copy 0 1) = 1 ∧
    portFinds (on cCopy) 0 0 (.copy 0 1) = true ∧ portTurn (on cCopy) 0 0 (portReader cCopy (.copy 0 1)) = true ∧
    nearBank cCopy (.copy 0 1) = some 1 ∧ portFinds (on { cCopy with arrayFree := 2, arrayBuf := 0 }) 0 1 (.copy 0 1) = false := by decide +kernel

theorem hyp_TensorMultiply : ready c0 [.t .tmac { tf with ta := 1, tb := 1, a := 1, b := 2 }, .t .tmacz { tf with ta := 6, tb := 6, a := 1, b := 2 }] = true ∧
    ready cStream [.t .tmac { tf with ta := 1, tb := 1, imm5 := 2 }, .t .tmacz { tf with ta := 0, tb := 0, imm5 := 3 }] = true ∧
    c0.arrayFree ≤ c0.cycle ∧ cStream.simQueue = [] ∧ cStream.acopies = [] ∧ cStream.bstream = [⟨0, some 1, some 2⟩] := by decide +kernel

theorem hyp_AccumulatorMoves : ready c0 [.t .tmov { tf with ta := 3, tb := 1, a := 1 }, .t .tmov { tf with ta := 7, tb := 6, a := 1, imm5 := 31 },
    .t .tclr { tf with acc := 7 }, .t .tclr { tf with imm5 := 1 }] = true := by decide +kernel

/-- A core whose similarity queue holds the one instruction `x`. -/
def cSim (x : SimEnt) : CoreSt := { c0 with simQueue := [x], tops := [(0, ⟨4, []⟩)] }

/-- A queued instruction with its operands, and the lines that the unit has read for it: none, or these with the value `v`. -/
def sq (o : QOp) (f : TF) (v s : Nat) : SimEnt := ⟨o, f, BitVec.ofNat 512 v, BitVec.ofNat 64 s, 0, [], []⟩
def sqGot (o : QOp) (f : TF) (s : Nat) (ls : List Nat) (v : Nat) (bad : Bool) : SimEnt :=
  { sq o f 0 s with got := ls.map fun a => ⟨a, BitVec.ofNat 512 v, bad⟩ }

/-- Is it at the head of the queue, to be executed? -/
def atHead (x : SimEnt) : Bool := decide (AtHead (on (cSim x)) 0 x [])

theorem hyp_SimilarityQueueAndLoads : ready c0 [.q .qld { tf with s := 1 }, .q .tkrd { tf with a := 1, s := 1 }] = true ∧
    (atHead (sq .qld tf 0 (0)) && atHead (sq .qwt { tf with imm5 := 2 } 1 (0)) && atHead (sq .cbind tf 0 (64)) &&
      atHead (sq .tkclr { tf with imm5 := 15 } 0 (0)) && atHead (sq .tkcfg { tf with imm5 := 23 } 0 (0)) &&
      atHead (sq .tkcfg { tf with imm5 := 7 } 0 (1020))) = true := by decide +kernel

/-- Has the unit read all that the instruction reads? -/
def fetched (x : SimEnt) : Bool := decide (AtHead (on (cSim x)) 0 x [] ∧ Fetched (on (cSim x)) 0 x)

theorem hyp_SimilarityQueueAndLoads_fetched :
    fetched (sqGot .qld tf 0 ((upto 64).map fun l => dmAddr 0 (64 * l)) 7 false) = true ∧ fetched (sq .qld tf 0 0) = false ∧
    (let t := tsAddr (towerOf 0) (64 + 0x80_0000)
     [false, true].all fun b => fetched (sqGot .cbind tf 64 [t] 5 b) &&
       ((sqGot .cbind tf 64 [t] 5 b).got.find? (fun q => q.addr == t)).any fun q => q.bad == b) = true := by decide +kernel

theorem hyp_SimilarityQueue_operands : QueueOperandOk { c0 with s := [(1, 2 ^ 18 - 4096)] } .qld { tf with s := 1 } ∧
    QueueOperandOk { c0 with s := [(1, 2 ^ 32 + 2 ^ 18 - 8)] } .dseg { tf with s := 1 } ∧ QueueOperandOk c0 .tkrd tf := by
  refine ⟨?_, ?_, trivial⟩ <;> simp only [QueueOperandOk] <;> decide +kernel

/-- A CRV2 instruction at the head, with its record and its centroid row read. -/
def crv2 : SimEnt := sqGot .msim { tf with ta := 14 } (2 ^ 32) [dmAddr 0 0, tsAddr 0 0, tsAddr 0 64] 0 false
def segLine : SimEnt := sqGot .dseg tf (2 ^ 32) [dmAddr 0 0] (2 ^ 32) false

theorem hyp_SimilarityScoresAndCloses : (fetched (sqGot .msim { tf with ta := 15 } (2 ^ 32) [dmAddr 0 0] 3 false) && fetched segLine &&
      atHead (sq .dclose tf 0 (0xFFFF_FFFE))) = true ∧ ((on (cSim (sq .dclose tf 0 (0xFFFF_FFFE)))).core 0).seg = none ∧
    (let s := on { cSim crv2 with centroid := some (0, 0) }; AtHead s 0 crv2 [] ∧ Fetched s 0 crv2 ∧ ∀ q ∈ crv2.got, q.bad = false) ∧
    segLine.got.find? (fun y => y.addr == dmAddr 0 (0 / 64 * 64)) = some ⟨dmAddr 0 0, 2 ^ 32, false⟩ ∧
    natBits (2 ^ 32) (8 * (0 % 64 + 4)) (8 * 2) ≠ 0 := by decide +kernel

theorem hyp_TopLists : ([⟨5, 1⟩, ⟨5, 2⟩, ⟨4, 0⟩] : List TopEnt).Pairwise (fun a b => ranksAbove a b = true) ∧
    (([⟨5, 1⟩, ⟨5, 2⟩, ⟨4, 0⟩] : List TopEnt).map TopEnt.doc).Nodup ∧
    (atHead (sq .tkins tf 1 (0)) && atHead (sq .tkrd { tf with a := 1, imm6 := 3 } 0 (0))) = true ∧
    ((on (cSim (sq .tkins tf 1 (0)))).core 0).top 0 = ⟨4, []⟩ := by decide +kernel

/-- R122: of equal scores the lower document number ranks above. -/
theorem test_top_order : topInsert 2 [⟨5, 1⟩, ⟨4, 0⟩] ⟨5, 0⟩ = [⟨5, 0⟩, ⟨5, 1⟩] := by decide +kernel

/-! ### Memory and fabric instructions -/

/-- Memory fields with the address register s1 and operands s2 and v3. -/
def mf : MF := ⟨4, 1, 2, 3, 0, false, false, false, 0, 0⟩
def mfv : MF := { mf with w := 4 }

/-- Is an M-slot instruction ready to issue at core 0 in the state `c`? -/
def mready (c : CoreSt) (o : MOp) (f : MF) : Bool := decide (MReady (on c) e0 o f)

theorem hyp_CoreErrors_similarity : (atHead (sq .tkins { tf with imm5 := 1 } 1 (0)) && atHead (sq .dclose tf 0 (0xFFFF_FFFF)) &&
      atHead (sq .dclose tf 0 (2 ^ 32)) && atHead (sq .tkcfg { tf with imm5 := 7 } 0 (1021))) = true ∧
    ((on (cSim (sq .tkins { tf with imm5 := 1 } 1 (0)))).core 0).top 1 = ⟨0, []⟩ := by decide +kernel

/-- A load past the end of data memory, a transfer of a core that is not hx_core, and a packet in a clearing beat. -/
theorem hyp_CoreErrors_memory : ready { c0 with s := [(1, 2 ^ 18)] } [.m .ld { mf with b := 0, v := 0 }] = true ∧
    mFault (on { c0 with s := [(1, 2 ^ 18)] }) 0 { c0 with s := [(1, 2 ^ 18)] } .ld { mf with b := 0, v := 0 } = true ∧
    ((on c0).stand 0).copy.hxCore ≠ 0 := by decide +kernel

theorem hyp_DataMemoryAccesses : ready { c0 with s := [(1, 2 ^ 18 - 64)] } [.m .ld { mf with b := 0, v := 0, w := 3 }, .m .vld { mfv with b := 0, v := 0 },
    .m .st { mf with d := 0, v := 0 }, .m .vst { mfv with d := 0, b := 0 }] = true := by decide +kernel
def cA : CoreSt := { c0 with s := [(1, 96 * 2 ^ 20 - 64), (2, 64)] }
def cB : CoreSt := { c0 with s := [(1, 2 ^ 44), (2, 64 + 2 ^ 32)] }

/-- A move of the core's tag 3 that has one late line. -/
def move3 (host toFar : Bool) (late : List Nat) : MoveSt := ⟨3, host, toFar, 2 * 2 ^ 44, 64, 1, late, [], [], 0, 0, 0, false, 0⟩

theorem hyp_TowerMemoryAccesses : (mready cA .tsld { mfv with b := 0, v := 0 } && mready cA .tsst { mfv with d := 0, b := 0 } &&
      decide (TagFree cA 3) && decide (cA.Apart (2 * 2 ^ 44) 1)) = true ∧ (on cA).inwardHeld 0 = false ∧ (on cA).carrier 0 (move3 false true [0]) 0 = none ∧
    (move3 false true [0]).loc.toNat + 64 * 0 + 64 ≤ 2 ^ 18 ∧ (on cA).far ((on cA).standOf 0) (2 * 2 ^ 44) = some (2 * 2 ^ 44) ∧
    (on cA).poisoned (2 * 2 ^ 44) = false := by decide +kernel

/-- A load's data on its way behind another result, and moves that are not over, over, and over with a status. -/
theorem hyp_TowerMemoryAccesses_returns (b : Bool) :
    (let c := { c0 with sb := [⟨.s 2, .topk, none⟩, ⟨.v 4, .tower 0 b 3, none⟩] }
     c.sb = [⟨.s 2, .topk, none⟩] ++ ⟨.v 4, .tower 0 b 3, none⟩ :: [] ∧ ∀ y ∈ [(⟨.s 2, .topk, none⟩ : SbEnt)], ∀ v b k, y.wait ≠ .tower v b k) ∧
    (move3 false true [0]).late ≠ [] ∧ (move3 false true []).late = [] ∧ (move3 false true []).held = [] ∧ (move3 false true []).out = [] ∧
    (move3 false true []).bad = 0 ∧ (move3 false true []).host = false ∧ ({ move3 false true [] with bad := 3, own := true } : MoveSt).bad ≠ 0 := by
  cases b <;> exact ⟨⟨rfl, by simp⟩, by decide⟩

/-- A load of a line that an earlier block move of the core still has to store. -/
theorem hyp_TowerMemoryAccesses_forward : (let c := { c0 with moves := [move3 false true [0]] }
    mready c .tsld { mfv with b := 0, v := 0 } && decide ((move3 false true [0]).held = [] ∧ 0 ∈ (move3 false true [0]).late ∧
      (move3 false true [0]).far.toNat + 64 * 0 = tsAddr 0 0)) = true ∧ (on c0).far ((on c0).standOf 0) (tsAddr 0 0) = some (tsAddr 0 0) := by decide +kernel

/-- A row's crossing FIFOs with room, and one into the row at its high-water mark. -/
theorem hyp_TowerMemoryAccesses_crossing : ((on cA).region (rowRegion 0)).outHigh = false ∧ (on cA).inwardHeld 0 = false ∧
    (({ on cA with regions := [(rowRegion 0, { Region.zero with inHigh := true })] } : State)).inwardHeld 0 = true := by decide +kernel

/-- A move with a line still to read, and one with a line still to write. -/
theorem hyp_BlockMoves_lines : (on { c0 with moves := [move3 false true [0]] }).far 0 (2 * 2 ^ 44 + 64 * 0) = some (2 * 2 ^ 44) ∧
    ({ move3 false true [] with held := [(0, 5)] } : MoveSt).held = (0, 5) :: [] := by decide +kernel

/-- A poisoned line to read into the core, and a load that waits with a granule of the line read. -/
theorem hyp_BlockMoves_poison : (let s : State := { on { c0 with moves := [move3 false false [0]] } with poison := [(2 * 2 ^ 44 / 64, true)] }
    s.far (s.standOf 0) ((move3 false false [0]).far.toNat + 64 * 0) = some (2 * 2 ^ 44) ∧ s.poisoned (2 * 2 ^ 44) = true) ∧
    (let s : State := { up with tiles := [(0, { PlaneTile.empty with early := [(Pkt.zero, 2 * 2 ^ 44, 3, 9)] })] }
     (∃ y ∈ (s.tile 0).early, y.1 = Pkt.zero ∧ y.2.1 = 2 * 2 ^ 44) ∧ ∀ y ∈ (s.tile 0).early, y.1 = Pkt.zero → y.2.1 = 2 * 2 ^ 44 → y.2.2.1 ≠ 4) := by
  decide +kernel

theorem hyp_BlockMovesAndWaits : (mready cA .bmov { mf with v := 0 } && mready cB .hmov { mf with v := 0 } &&
      mready c0 .mwait { mf with d := 0, a := 0, b := 0, v := 0, imm := 0xFF } && mready c0 .fence { mf with d := 0, a := 0, v := 0 } &&
      mready c0 .fence { mf with d := 0, a := 0, b := 0, v := 0 } && mready c0 .wflag { mf with d := 0, v := 0, w := 3 } &&
      ([0, 1, 2, 3, 4].all fun k => mready c0 .nistat { mf with a := 0, b := 0, v := 0, imm := k })) = true ∧
    (on cA).far 0 (tsAddr 0 (96 * 2 ^ 20 - 64)) ≠ none ∧ (on cB).far 0 (2 ^ 44) = some 0 ∧ (on cB).poisoned 0 = false := by decide +kernel

theorem hyp_RemoteOperationsSend :
    ([MOp.rst, .rredAdd, .rredMax, .rredMin, .rredFadd].all fun o =>
      mready cB o { mf with w := 2, v := 0, d := 0 } && mready cB o { mf with w := 4, b := 0, d := 0 }) = true ∧
    ([MOp.radd, .rmax, .rmin, .rxchg, .rcas, .rfadd].all fun o => mready cB o { mf with w := 2, v := 0 }) = true ∧
    (mready cB .rredTopk { mf with w := 4, b := 0, d := 0 } && mready cB .rld { mf with w := 3, b := 0, v := 0 } &&
      mready cB .rld { mf with w := 4, b := 0, v := 0 } &&
      mready { c0 with s := [(1, 2 ^ 45), (2, 1)] } .mcst { mf with d := 0 }) = true := by decide +kernel

/-- Core 0 of a running stand whose transfers it makes, with a host window at 0. -/
def hx (c : CoreSt) : State := { on c with
  regs := sset 0 (on c).regs (Reg.HIF_LINK 0) 2
  stands := [(0, { StandSt.zero with copy := { RunCopy.zero with hxCore := 0, hxSize := 4096 } })] }
def cX : CoreSt := { c0 with s := [(1, 2 ^ 44), (2, 64)] }

/-- That stand, RUNNING, with one transfer of its core in flight. -/
def hxOne (toFar : Bool) : State := (hx { c0 with moves := [move3 true toFar []] }).sf (Reg.STD_STATUS 0) Fld.STD_STATUS_state 2

theorem hyp_HostTransfers_one : ∀ toFar, 0 = ((hxOne toFar).stand 0).copy.hxCore ∧ (hxOne toFar).inRun 0 = true ∧
    (((hxOne toFar).core 0).moves.filter (·.host)).head? = some (move3 true toFar []) ∧
    (∀ k < 16, k ≠ 0 → planPort (hxOne toFar).planForce k = 0 → (hxOne toFar).hxHead k = none) ∧ ((hxOne toFar).port 0).busMaster = true ∧
    (({ hxOne toFar with ports := [(0, { portOn with busMaster := false })] } : State).port 0).busMaster = false ∧
    (move3 true toFar []).asked < (hxPieces (move3 true toFar [])).length ∧
    ∀ l, (hxOne toFar).farPoisoned 0 ((move3 true toFar []).far.toNat + 64 * l) = false := by
  have h : ∀ toFar, (hxOne toFar).poison = [] := by intro b; rfl
  intro b
  refine ⟨by cases b <;> rfl, by cases b <;> decide +kernel, by cases b <;> rfl, by cases b <;> decide +kernel,
    by cases b <;> decide +kernel, rfl, by cases b <;> decide +kernel, fun l => ?_⟩
  simp only [State.farPoisoned, State.poisoned, h]
  split <;> rfl

/-- That transfer, with its line in a die whose crossbar is re-centring, and without. -/
theorem hyp_HostTransfers_held : (∀ toFar, (hxOne toFar).hxHeld 0 (move3 true toFar []) (upto (move3 true toFar []).lines) = false) ∧
    ∀ toFar, (let s : State := { hxOne toFar with stands := [(0, { (hxOne toFar).stand 0 with gate := some false })] }
      s.hxHeld 0 (move3 true toFar []) (upto (move3 true toFar []).lines)) = true := by decide +kernel

theorem hyp_HostTransfers : decide (MReady (hx cX) e0 .hxfer { mf with v := 0 }) = true ∧ (hx cX).inClearing 0 = false ∧
    decide (MReady (hx { cX with s := [(1, 2 ^ 44), (2, 64), (4, 4096)] }) e0 .hxfer { mf with v := 0 }) = true ∧
    (hx cX).gf (Reg.HIF_LINK 0) Fld.HIF_LINK_state = 2 ∧ ((hx cX).port 0).busMaster = true ∧
    (on { c0 with moves := [move3 true true [], move3 true false []] }).farPoisoned 0 (2 * 2 ^ 44) = false := by decide +kernel

/-! ### Packets, engine and router -/

/-- A plain request of core 0: a store of 8 bytes to tile 0's first stack. -/
def req : Pkt := { Pkt.zero with op := 0x11, width := 3 }
def plane (x : PlaneTile) : State := { up with tiles := [(0, x)] }

theorem hyp_EjectionAndEngine_arrival : Arrived (plane { PlaneTile.empty with rx := [req] }) 0 req [] [] ∧
    (up.setFlow 0 0 ((up.flow 0 0).turn req)).known 0 req = .fresh ∧ up.absentFor 0 req = false := by decide +kernel

theorem hyp_EjectionAndEngine_serves : Serves (plane { PlaneTile.empty with ejNormal := [req] }) 0 req 0 :=
  ⟨by decide, by decide +kernel, by decide +kernel, rfl, rfl, by decide +kernel, rfl, rfl, by decide +kernel, by decide +kernel, .hbm 0 0, by rfl, by rfl, by decide +kernel⟩

def ni0 (op : BitVec 8) (d : Option Dest) : NiOp := ⟨{ req with op := op, kind := 0 }, 0, d, 0, true, false, false, 0, 0⟩

/-- Core 0 awaits the answer to its request, which has arrived at its tile. -/
def awaits (n : NiOp) (p : Pkt) : State :=
  { up with regs := sset 0 up.regs (Reg.SITE_LINK_STATE 0 0) 3, cores := [(0, { c0 with ni := [n] })],
            tiles := [(0, { PlaneTile.empty with rx := [p], windows := [⟨0, 0, 0, true⟩] })] }
def isMine (s : State) (p : Pkt) (n : NiOp) : Bool :=
  decide (Arrived s 0 p [] []) && !s.siteAbsent 0 && !s.openSite 0 && !s.inwardHeld 0 && !(s.core 0).fenced && decide ((s.core 0).niFind p.srcTile p.seq p.epoch = some n) && p.count.toNat % 16 == 0

theorem hyp_RepliesAndRetransmission :
    (let n := ni0 0x10 (some (.s 1)); let p := { req with kind := 1, op := 0x10, count := 16 }; isMine (awaits n p) p n) = true ∧
    (let n := ni0 0x11 none; let p := { req with kind := 1 }; isMine (awaits n p) p n) = true ∧
    returnsData 0x10 = true ∧ returnsData 0x11 = false ∧
    Arrived (awaits (ni0 0x11 none) { req with kind := 2, count := 1 }) 0 { req with kind := 2, count := 1 } [] [] ∧
    (∀ e ∈ ((awaits (ni0 0x11 none) { req with kind := 2, count := 1 }).tile 0).inject, e.pkt ≠ req) ∧ tileOf 0 = 0 := by decide +kernel

def to1 : Pkt := { req with dst := 1 }

/-- The ready module with its optics lit. -/
def lit : State := up.sf Reg.OPT_ILK_STATUS Fld.OPT_ILK_STATUS_ready 1

theorem hyp_RouterAndLanes : lit.lanesFree 0 1 ≠ [] ∧ (∀ k ∈ lit.lanesUp 0 1, lit.laneLit 0 1 k = true) ∧
    up.gf (Reg.PKT_CFG 0) Fld.PKT_CFG_comb_en ≠ 0 ∧ up.tileOut 0 = false ∧ up.crossing to1 = false ∧ 0 < up.pairLanes 0 1 ∧ combinable { to1 with op := 0x18 } = true ∧
    up.laneByte 0 0 5 % 64 < 33 ∧ natBit (up.laneByte 0 0 5) 6 = false ∧ up.tileStand 0 = none ∧
    natBit (up.gf (Reg.PKT_LANE_FENCED 0 0) Fld.PKT_LANE_FENCED_ch) (up.laneByte 0 0 5 % 64) = false ∧
    natBit (up.gf (Reg.PKT_LANE_GROUP 0 0) Fld.PKT_LANE_GROUP_spare_used) 0 = false ∧
    natBit (up.gf (Reg.PKT_LANE_GROUP 0 0) Fld.PKT_LANE_GROUP_remap_pending) 0 = false := by decide +kernel

/-! ### Circuits, frames, rings and lasers -/

/-- Context 0 of tile 0 runs for stand 0, which owns slot 0 of trunk 0 of tiles 0 and 1. -/
def ctx0 : CtxSt := { CtxSt.zero with state := 2 }
def fab0 (k : CtxSt) : State :=
  { up with regs := sset 0 up.regs (Reg.STD_STATUS 0) 2, planForce := plan0 ++ [(0x400, 0), (0x500, 0)],
            fab := [(0, { FabTile.zero with ctxs := [(0, k)] })],
            stands := [(0, { StandSt.zero with grid := 1000, copy := { RunCopy.zero with beatLen := 1024 } })] }

/-- That context with the one instruction word `w` as its program. -/
def fabW (k : CtxSt) (w : Nat) : State := fab0 { k with prog := [BitVec.ofNat 64 w] }

theorem hyp_CircuitsAndManagement : SeqRuns (fabW ctx0 (seqOpenWord 0 1 0 0 0)) 0 0 (seqOpenWord 0 1 0 0 0) ∧ (fab0 ctx0).slotOwner 1 0 0 = some 0 ∧
    ((fab0 ctx0).ctx 0 0).active < (fab0 ctx0).quota 0 0 ∧ (fab0 ctx0).freeListeners 0 (foreignTrunk 0 1 0) ≠ [] ∧
    (((fab0 ctx0).ctx 0 0).circ 0).isOpen = false ∧ (fab0 ctx0).slotMask 1 0 0 = 0 ∧
    natBit (({ fab0 ctx0 with fab := [(1, { FabTile.zero with mcast := [(0, 1)] })] } : State).slotMask 1 0 0) 0 = true := by decide +kernel

theorem hyp_CircuitsAndManagement_swap : (up.spareCh 0 0 = 32) ∧ up.gf (Reg.OPT_TRUNK_STATE 0 0) Fld.OPT_TRUNK_STATE_swap_pending = 0 ∧
    (fab0 ctx0).slotOwner 0 0 0 = some 0 ∧ (fab0 ctx0).inRun 0 = true ∧ up.slotOwner 0 0 0 = none ∧ up.inRun 0 = false ∧
    (up.listener 0 0).mode ≠ .fenced := by decide +kernel

/-- A handle that is open and ready, bound to a region of 4 lines. -/
def bind0 : Binding := ⟨0, 1, 0, 4, 0⟩
def circ0 : Circ := { Circ.zero with isOpen := true, src := 1, carriage := true, bind := some bind0 }
def ctx1 : CtxSt := { ctx0 with circs := [(1, circ0)], sends := [(0, some bind0)] }

theorem hyp_SequencerInstructions : ([seqCloseWord 1, seqMcastWord 0 0 1 2, seqMcastWord 0 0 0 0, seqBindWord 0 0 1 0 4 0, seqBindWord 1 1 1 0 4 0,
      seqUnbindWord 0 0, seqUnbindWord 1 1, seqWaitWord 1 5, seqLoopWord 0 3 0, seqJumpWord 0, seqNoteWord 9].all fun w =>
      (fabW ctx1 w).ctxRuns 0 0 w) = true ∧ (fab0 ctx1).inClearing 0 = false ∧ (((fab0 ctx1).ctx 0 0).circ 1).isOpen = true ∧
    (sget none ((fab0 ctx1).ctx 0 0).sends 0).isSome = true ∧ (((fab0 ctx1).ctx 0 0).circ 1).bind.isSome = true ∧
    pdHeld (fab0 ctx1) 0 0 0 0 = false ∧ (fab0 ctx1).slotOwner 0 0 0 = some 0 ∧
    bindBad ((fab0 ctx0).sf (Reg.SITE_LINK_STATE 0 0) Fld.SITE_LINK_STATE_circuits 1) 0 0 false false 1 0 4 0 = false ∧
    bindBad ((fab0 ctx1).sf (Reg.SITE_LINK_STATE 0 0) Fld.SITE_LINK_STATE_circuits 1) 0 0 false true 1 0 4 0 = false := by decide +kernel

def fab1 (x : CtxSt) : State := { fab0 x with
  fab := [(0, { FabTile.zero with ctxs := [(0, x)] }), (1, { FabTile.zero with ctxs := [(0, { ctx0 with sends := [(0, some bind0)] })] })] }

theorem hyp_FramesAndListeners : ((fab1 ctx1).ctx 0 0).state ≠ 0 ∧ (circ0.bind = some bind0) ∧ (fab1 ctx1).stdState 0 = 2 ∧
    (fab1 ctx1).inClearing 0 = false ∧ (fab1 ctx1).circReady 0 0 circ0 = true ∧ (fab1 ctx1).circReady 0 0 { circ0 with carriage := false } = false ∧
    (fab1 ctx1).sendOf 1 0 0 0 = some bind0 ∧ (fab1 ctx1).gf (Reg.OPT_TRUNK_STATE 1 0) Fld.OPT_TRUNK_STATE_cal_ch ≠ (fab1 ctx1).circCh circ0 ∧
    (fab1 ctx1).frameComes 0 0 circ0 noFrame = false ∧ noFrame.ended = true ∧ circ0.judged = false ∧ circ0.frame = [] ∧ (fab1 ctx1).circLit circ0 = false ∧
    ((fab1 ctx1).sf Reg.OPT_ILK_STATUS Fld.OPT_ILK_STATUS_ready 1).circLit circ0 = true ∧ bind0.lines < 2 ^ 16 ∧
    bind0.lines ≤ ({ bind0 with lines := 4 } : Binding).lines ∧ ({ bind0 with lines := 3 } : Binding).lines < bind0.lines := by decide +kernel

/-- A frame of one line from one tower to another. -/
def frame1 : List FrameLine := [⟨tsAddr 6 0, [tsAddr 0 0], none, [tsAddr 0 0]⟩]

theorem hyp_FramesAndListeners_verdict : ({ circ0 with judged := true, flagNow := true } : Circ).flagNow = true ∧
    ({ circ0 with judged := true } : Circ).judged = true ∧ ({ circ0 with judged := true } : Circ).flagNow = false := by decide

theorem hyp_FramesAndListeners_lines : (∀ y ∈ frame1, y.data = none ∧ up.poisoned y.src = false) ∧
    ((frame1.flatMap (·.left)).Pairwise fun a d => a + 64 ≤ d ∨ d + 64 ≤ a) ∧
    (∀ y ∈ frame1, ∀ d ∈ frame1.flatMap (·.left), y.src + 64 ≤ d ∨ d + 64 ≤ y.src) := by decide +kernel

/-- The module with listener 0 of tile 0 in the state `x`, a second after its reset. -/
def hears (x : Listener) : State := { up with gtc := 1000000, fab := [(0, { FabTile.zero with lst := [(0, x)] })] }

/-- Five copies of a framing block with the tag `n`. -/
def blocks (n : Nat) : BitVec 2560 := BitVec.ofNat 2560 (n + n * 2 ^ 512 + n * 2 ^ 1024)

theorem hyp_FramesAndListeners_tags :
    ((hears { Listener.zero with mode := .drop }).listener 0 0).mode = .drop ∧ ((hears { Listener.zero with mode := .moving }).listener 0 0).mode = .moving ∧
    (framingBlock (blocks 5)).isSome = true ∧ ((framingBlock (blocks 5)).getD 0).toNat % 16 ≠ Listener.zero.ch % 16 ∧
    ((framingBlock (blocks 16)).getD 0).toNat % 16 = Listener.zero.ch % 16 ∧
    (hears Listener.zero).tileOut 0 = false ∧ ((hears Listener.zero).sf (Reg.OPT_HOLD_STATE 0) Fld.OPT_HOLD_STATE_held 1).tileOut 0 = true ∧
    (hears Listener.zero).recent (some 1) = true ∧ (hears Listener.zero).recent none = false ∧ (hears Listener.zero).dark = true ∧ lit.dark = false := by decide +kernel

/-- Ring 0 of a home trunk is in service, and a modulator on tile 0 was told of an intruder. -/
def told (ms : SMap (Option ModPark)) : State := { up with fab := [(0, { FabTile.zero with msgs := [(0, 3)], mods := ms })] }

theorem hyp_RingsAndModulators : up.inService 0 (ringOf 0) = true ∧ up.inService 0 (ringOf 2748) = true ∧ ringOf 2748 = .inboxRx 0 ∧
    up.tileOut 0 = false ∧ up.tripped = false ∧ (up.sf Reg.THM_TRIP Fld.THM_TRIP_tripped 1).tripped = true ∧ up.chFenced 0 3 = false ∧
    (up.sf (Reg.OPT_CH_FENCED 0 0) Fld.OPT_CH_FENCED_ch 8).chFenced 0 3 = true ∧ up.trimStale 0 0 = false ∧ up.trimStale 0 2748 = false ∧ (up.fabT 0).heaterFail = false ∧
    LoopSt.zero.n < 63 ∧ 7 ≤ ({ LoopSt.zero with good := 7 } : LoopSt).good ∧ ((told []).fabT 0).msgs = [(0, 3)] ∧ (told []).modPark 0 0 3 = none ∧
    (told [(3, some ⟨false, 0, 0⟩)]).recent (some 0) = true ∧ up.modTile (128 + 2 * 0 + 0 / 33) 3 ≠ none ∧ (told []).modTile 0 3 = some 0 ∧
    (told [(3, some ⟨true, 0, 0⟩)]).modPark 0 0 3 = some ⟨true, 0, 0⟩ := by decide +kernel

def oneFld (a : Nat) (f : Fld) (v : Nat) : State := up.sf a f v

theorem hyp_CalibrationsAndInputs_rotation : up.spareCh 0 0 ≠ 0x3F ∧ up.tripped = false ∧ (up.fabT 0).tiaNow = none ∧
    up.gf (Reg.OPT_TRUNK_STATE 0 0) Fld.OPT_TRUNK_STATE_swap_pending = 0 ∧ sget 0 (up.fabT 0).swapOld 0 = 0 ∧ sget 0 (up.fabT 0).calWas 0 ≠ up.spareCh 0 0 + 1 ∧
    (let w : State := { up with fab := [(0, { FabTile.zero with calWas := [(0, up.spareCh 0 0 + 1)] })] }; sget 0 (w.fabT 0).calWas 0 = w.spareCh 0 0 + 1) ∧
    up.frontIdle 0 255 = true ∧ sget 0 (up.fabT 0).calDone 0 = 0 ∧ up.trunkRuns 0 0 = false ∧ (fab0 ctx0).trunkRuns 0 0 = true ∧
    (∀ k < 32, up.slotLost 0 0 k = false) ∧ up.clk.stopped = false := by decide +kernel

theorem hyp_CalibrationsAndInputs : (oneFld (Reg.OPT_ROT_CFG 0) Fld.OPT_ROT_CFG_enable 1).gf (Reg.OPT_ROT_CFG 0) Fld.OPT_ROT_CFG_enable = 1 ∧
    up.gf (Reg.OPT_TRUNK_STATE 0 0) Fld.OPT_TRUNK_STATE_cal_ch = 0x3F ∧
    (oneFld (Reg.OPT_TRUNK_STATE 0 0) Fld.OPT_TRUNK_STATE_cal_ch 32).gf (Reg.OPT_TRUNK_STATE 0 0) Fld.OPT_TRUNK_STATE_cal_ch = 32 ∧
    (oneFld (Reg.OPT_FIBRE 0 1) Fld.OPT_FIBRE_armed 1).gf (Reg.OPT_FIBRE 0 1) Fld.OPT_FIBRE_armed = 1 ∧
    (oneFld (Reg.OPT_FIBRE 0 1) Fld.OPT_FIBRE_active 1).gf (Reg.OPT_FIBRE 0 1) Fld.OPT_FIBRE_active = 1 ∧
    (oneFld Reg.OPT_ILK_STATUS Fld.OPT_ILK_STATUS_phase 0).ilkPhase = 0 ∧
    (oneFld Reg.OPT_ILK_STATUS Fld.OPT_ILK_STATUS_phase 2).ilkPhase = 2 ∧ up.gf (Reg.OPT_FIBRE 0 1) Fld.OPT_FIBRE_fenced = 0 := by decide +kernel

theorem hyp_LaserLoopAndMonitors : Served up 0 Reg.OPT_ILK_CTL ∧ Served up 0 (tileBase 15) ∧ up.ilkPhase = 1 ∧
    ([2, 3, 4].all fun p => (oneFld Reg.OPT_ILK_STATUS Fld.OPT_ILK_STATUS_phase p).ilkPhase == p) = true ∧
    (({ up with fab := [(15, { FabTile.zero with reading := some 4 })] } : State).fabT 15).reading = some 4 := by decide +kernel

/-! ### Host accesses, plans and runs -/

/-- The ready module with one more register field. -/
def up1 (a : Nat) (f : Fld) (v : Nat) : State := up.sf a f v

/-- Where a register stands: is it 64 bits wide, and is this its high word? -/
def placed (off : Nat) : Option (Nat × Bool × Bool) := match up.hostPlace 0 off with
  | .reg a r h => some (a, r.wide, h)
  | _ => none

theorem hyp_HostRegisterAccesses : up.portUp 0 = true ∧ (up.port 0).d3 = false ∧ up.serves 0 0x704 = true ∧
    placed 0x704 = some (0x704, false, false) ∧ placed 0x6000 = some (0x6000, true, false) ∧ placed 0x6004 = some (0x6000, true, true) ∧
    (up.wrongPort 0 0x6000).isNone = true ∧ up.hostPlace 0 0xFFF8 = .unassigned ∧ up.serves 0 0xFFF8 = true ∧
    PlainReg 0x6000 ∧ (regSpecOf 0x6000).isSome = true := by decide +kernel

/-- Two valid stands that share tower 0. -/
def clash : SMap Byte := [(0, 1), (18, 1), (64, 1), (82, 1)]

theorem hyp_PlanCommits : Served up 0 Reg.MGT_PLAN_CTL ∧ up.phase = 1 ∧
    up.gf Reg.MGT_PLAN_STATUS Fld.MGT_PLAN_STATUS_busy = 0 ∧ up.planCheck clash = 1 ∧ up.planCheck up.planStaged = 0 ∧
    up.nvRefusal ⟨4, 0, bytesOf 4 1 ++ bytesOf 4 0 ++ planBytes up.planStaged, .plan up.planStaged 1⟩ = none ∧
    (up1 Reg.MGT_PLAN_STATUS Fld.MGT_PLAN_STATUS_busy 1).gf Reg.MGT_PLAN_STATUS Fld.MGT_PLAN_STATUS_busy = 1 := by decide +kernel

/-- The stand in state `v`. -/
def std (v : Nat) (x : StandSt) : State := { up1 (Reg.STD_STATUS 0) Fld.STD_STATUS_state v with stands := [(0, x)] }

theorem hyp_LaunchesAndRunEnds : Served up 0 (Reg.STD_LAUNCH 0) ∧ planPort up.planForce 0 = 0 ∧ planPort up.planForce 1 ≠ 1 ∧
    (up.repairsUp 0).launchCheck 0 0 = .inl 3 ∧ (std 2 StandSt.zero).inRun 0 = true ∧
    ((std 2 StandSt.zero).repairsUp 0).launchCheck 0 7 = .inl 2 ∧ (std 1 StandSt.zero).stdState 0 = 1 ∧
    coreFailure (std 1 StandSt.zero) 0 RunCopy.zero = none ∧ seqFailure (std 1 StandSt.zero) 0 RunCopy.zero = none ∧
    (std 1 StandSt.zero).startReady 0 = false ∧ (std 1 StandSt.zero).inRun 0 = true ∧ up.inRun 0 = false ∧
    ((std 2 { StandSt.zero with stopped := true, handling := some .fatal }).stand 0).handling = some .fatal := by decide +kernel

/-- A field in the first of two joined byte lists. -/
theorem fld_left (a b : List Nat) (o k : Nat) (h : o + k ≤ a.length) : bytesFld (a ++ b) o k = bytesFld a o k := by
  rw [bytesFld, bytesFld, List.drop_append_of_le_length (by omega), List.take_append_of_le_length (by rw [List.length_drop]; omega)]

/-- A field in the second of two joined byte lists. -/
theorem fld_right (a b : List Nat) (n o k : Nat) (h : a.length = n) : bytesFld (a ++ b) (n + o) k = bytesFld b o k := by
  subst h; rw [bytesFld, bytesFld, List.drop_append, List.drop_eq_nil_of_le (by omega), List.nil_append, Nat.add_sub_cancel_left]

/-! #### A launch that is accepted

The descriptor's shape and digest stay unevaluated. -/

/-- A descriptor's first 32 bytes: behaviour level 1, level 1, least beat 4, 50 W, one program, 128 cores, one sequencer. -/
def dHead : List Nat :=
  leBytes 32 (0x3158444D + 0x101 * 2 ^ 32 + 4 * 2 ^ 48 + 50 * 2 ^ 64 + 2 ^ 80 + 128 * 2 ^ 96 + 2 ^ 112 + 0xFFFF * 2 ^ 128)
/-- Its tables: program 0 of one bundle at address 0, that program for each core, and an empty sequencer program of tile 0. -/
def dTables : Nat := 2 ^ 64 + ((upto 128).map fun g => g * 2 ^ (512 + 64 * g)).sum
/-- The descriptor of shape `sh` without its digest. -/
def dBody (sh : Nat) : List Nat := dHead ++ (leBytes 32 sh ++ leBytes 1136 dTables)
/-- The descriptor of shape `sh` and digest `dg`. -/
def desc (sh dg : Nat) : List Nat := dBody sh ++ leBytes 32 dg
/-- `up` with a start time of 102,400 and a launch configuration of level 1 and beat length 16; with `b`, stack 0 is degraded. -/
def launchBase (b : Bool) : State :=
  let s := { up with regs := sset 0 (sset 0 up.regs (Reg.STD_START 0) 102400) (Reg.STD_LAUNCH_CFG 0) 0x1001 }
  if b then s.sf (Reg.HBM_STATE 0 0) Fld.HBM_STATE_state 5 else s

/-- That module with the memory `m`. -/
def launching (b : Bool) (m : List Host.Cell) : State := { launchBase b with mem := m }

theorem launching_plan (b : Bool) (m : List Host.Cell) : (launching b m).planForce = up.planForce := by cases b <;> rfl

theorem dHead_length : dHead.length = 32 := leBytes_length _ _
theorem dBody_length (sh : Nat) : (dBody sh).length = 1200 := by
  rw [dBody, List.length_append, List.length_append, dHead_length, leBytes_length, leBytes_length]

theorem desc_length (sh dg : Nat) : (desc sh dg).length = 1232 := by rw [desc, List.length_append, dBody_length, leBytes_length]

theorem desc_bytes (sh dg : Nat) : leBytes 1232 (leNat (desc sh dg)) = desc sh dg := by
  have h : ∀ b ∈ desc sh dg, b < 256 := by
    intro b hb
    simp only [desc, dBody, dHead, List.mem_append] at hb
    rcases hb with (hb | hb | hb) | hb <;> exact leBytes_lt _ _ b hb
  have := leBytes_leNat _ h
  rwa [desc_length] at this

theorem launching_line (b : Bool) (m : List Host.Cell) (v l : Nat) (hm : m = memWrite [] 0 1280 v) (h : l < 20) :
    (launching b m).lineOf 0 (64 * l) = leBytes 64 (v / 256 ^ (64 * l)) := by
  have hf : (launching b m).far 0 (64 * l) = some (64 * l) := by
    have e : (launching b m).far 0 (64 * l) = (launchBase b).far 0 (64 * l) := rfl
    rw [e]; exact (by decide +kernel : ∀ b, ∀ l < 20, (launchBase b).far 0 (64 * l) = some (64 * l)) b l h
  have hr : (launching b m).rd (64 * l) 64 = v / 256 ^ (64 * l) % 256 ^ 64 := by
    have := memRead_memWrite_part [] 0 1280 v (64 * l) 64 (by omega)
    rw [Nat.zero_add] at this
    rw [← hm] at this; exact this
  have hp : (launching b m).poisoned (64 * l) = false := by cases b <;> rfl
  simp only [State.lineOf, hf, hp, hr, leBytes_mod, Bool.false_eq_true, if_false]

theorem launching_bytes (b : Bool) (m : List Host.Cell) (sh dg : Nat) (hm : m = memWrite [] 0 1280 (leNat (desc sh dg))) :
    (launching b m).bytesAt 0 0 1232 = desc sh dg := by
  have h := leBytes_add 1232 48 (leNat (desc sh dg))
  rw [desc_bytes] at h
  generalize leNat (desc sh dg) = v at h hm
  have : ((upto ((1232 + 63) / 64)).flatMap fun l => (launching b m).lineOf 0 (0 + 64 * l)) = leBytes (64 * 20) v := by
    rw [← leBytes_lines]
    refine List.flatMap_congr fun l hl => ?_
    rw [Nat.zero_add, launching_line b m v l hm (List.mem_range.mp hl)]
  rw [State.bytesAt, this, show 64 * 20 = 1232 + 48 from rfl, h]
  exact List.take_left' (desc_length _ _)

theorem desc_head (sh dg o k : Nat) (h : o + k ≤ 32) : bytesFld (desc sh dg) o k = bytesFld dHead o k := by
  rw [desc, dBody, List.append_assoc, fld_left _ _ _ _ (by rw [dHead_length]; exact h)]

theorem fld_all (n v : Nat) (h : v < 256 ^ n) : bytesFld (leBytes n v) 0 n = v := by
  rw [bytesFld, List.drop_zero, List.take_of_length_le (by rw [leBytes_length]), leNat_leBytes, Nat.mod_eq_of_lt h]

theorem desc_shape (sh dg : Nat) (h : sh < 256 ^ 32) : bytesFld (desc sh dg) 32 32 = sh := by
  have := fld_right dHead ((leBytes 32 sh ++ leBytes 1136 dTables) ++ leBytes 32 dg) 32 0 32 dHead_length
  rw [Nat.add_zero, List.append_assoc, fld_left _ _ 0 32 (by rw [leBytes_length]), fld_all 32 sh h] at this
  rw [desc, dBody, List.append_assoc, List.append_assoc]
  exact this

theorem desc_table (sh dg o k : Nat) (h : o + k ≤ 1136) : bytesFld (desc sh dg) (64 + o) k = dTables / 256 ^ o % 256 ^ k := by
  have := fld_right (dHead ++ leBytes 32 sh) (leBytes 1136 dTables ++ leBytes 32 dg) 64 o k
    (by rw [List.length_append, dHead_length, leBytes_length])
  rw [fld_left (leBytes 1136 dTables) _ _ _ (by rw [leBytes_length]; omega), List.append_assoc] at this
  rw [desc, dBody, List.append_assoc, List.append_assoc, this, bytesFld, leNat_take_drop _ _ _ _ h]

theorem desc_digest (sh dg : Nat) (h : dg < 256 ^ 32) : bytesFld (desc sh dg) 1200 32 = dg := by
  have := fld_right (dBody sh) (leBytes 32 dg) 1200 0 32 (dBody_length sh)
  rw [Nat.add_zero, fld_all 32 dg h] at this
  exact this

theorem desc_cores (sh dg : Nat) : ((upto 128).map fun k => coreEnt (desc sh dg) (128 + 8 * k)) = (upto 128).map fun k => ⟨k, 0, 0, 0⟩ := by
  refine List.map_congr_left fun k hk => ?_
  have hk := List.mem_range.mp hk
  have t : ∀ j, j ≤ 6 → bytesFld (desc sh dg) (128 + 8 * k + j) 2 = dTables / 256 ^ (64 + 8 * k + j) % 256 ^ 2 := fun j hj => by
    rw [← desc_table sh dg _ _ (by omega)]; congr 1; omega
  have t0 := t 0 (by omega)
  rw [Nat.add_zero] at t0
  rw [coreEnt, t0, t 2 (by omega), t 4 (by omega), t 6 (by omega)]
  exact (by decide +kernel : ∀ k < 128, (⟨dTables / 256 ^ (64 + 8 * k + 0) % 256 ^ 2, dTables / 256 ^ (64 + 8 * k + 2) % 256 ^ 2,
    dTables / 256 ^ (64 + 8 * k + 4) % 256 ^ 2, dTables / 256 ^ (64 + 8 * k + 6) % 256 ^ 2⟩ : CoreEnt) = ⟨k, 0, 0, 0⟩) k hk

theorem launching_descriptor (b : Bool) (m : List Host.Cell) (dg : Nat) (hm : m = memWrite [] 0 1280 (leNat (desc (up.shape 0) dg)))
    (hd : (sm3 (dBody (up.shape 0))).toNat = dg) :
    (launching b m).descriptor 0 0 1 =
      some (⟨1, 1, 4, 50, 0xFFFF, up.shape 0⟩, [⟨0, 1, 0⟩], (upto 128).map (⟨·, 0, 0, 0⟩), [⟨0, 0, 0, 0⟩]) := by
  have hdl : dg < 256 ^ 32 := hd ▸ BitVec.isLt _
  have hsh : up.shape 0 < 256 ^ 32 := BitVec.isLt _
  have hb := launching_bytes b m (up.shape 0) dg hm
  have hv := desc_bytes (up.shape 0) dg
  have hs := desc_shape (up.shape 0) dg hsh
  have hg := desc_digest (up.shape 0) dg hdl
  have hh := desc_head (up.shape 0) dg
  have ht := desc_table (up.shape 0) dg
  have hc := desc_cores (up.shape 0) dg
  have htake : (desc (up.shape 0) dg).take 1200 = dBody (up.shape 0) := List.take_left' (dBody_length _)
  generalize up.shape 0 = sh at *
  generalize desc sh dg = D at *
  generalize leNat D = v at *
  have hline := launching_line b m v 0 hm (by omega)
  have hlen : descLen ((launching b m).lineOf 0 0) = 1232 := by
    have f : ∀ o, o + 2 ≤ 32 → bytesFld (leBytes 64 (v / 256 ^ (64 * 0))) o 2 = bytesFld dHead o 2 := fun o ho => by
      rw [← hh o 2 ho, ← hv, bytesFld, bytesFld, leNat_take_drop _ _ _ _ (by omega), leNat_take_drop _ _ _ _ (by omega)]
      rw [Nat.mul_zero, Nat.pow_zero, Nat.div_one]
    rw [hline, descLen, f 10 (by omega), f 12 (by omega), f 14 (by omega)]
    decide +kernel
  have hi : ∀ a n, (launching b m).imageOk 0 a n = (launchBase b).imageOk 0 a n := fun _ _ => rfl
  have hco : (launching b m).coresOf 0 = (launchBase b).coresOf 0 := rfl
  have hti : (launching b m).tilesOf 0 = (launchBase b).tilesOf 0 := rfl
  have i1 : (launchBase b).imageOk 0 0 64 = true := by cases b <;> decide +kernel
  have i2 : (launchBase b).imageOk 0 0 1232 = true := by cases b <;> decide +kernel
  have i3 : (launchBase b).imageOk 0 0 32 = true := by cases b <;> decide +kernel
  have t1 : bytesFld D 64 8 = 0 := (ht 0 8 (by omega)).trans (by decide +kernel)
  have t2 : bytesFld D 72 2 = 1 := (ht 8 2 (by omega)).trans (by decide +kernel)
  have t3 : bytesFld D 96 32 = 0 := (ht 32 32 (by omega)).trans (by decide +kernel)
  have t4 : bytesFld D 74 22 = 0 := (ht 10 22 (by omega)).trans (by decide +kernel)
  have q1 : bytesFld D 1152 8 = 0 := (ht 1088 8 (by omega)).trans (by decide +kernel)
  have q2 : bytesFld D 1160 1 = 0 := (ht 1096 1 (by omega)).trans (by decide +kernel)
  have q3 : bytesFld D 1161 1 = 0 := (ht 1097 1 (by omega)).trans (by decide +kernel)
  have q4 : bytesFld D 1162 2 = 0 := (ht 1098 2 (by omega)).trans (by decide +kernel)
  have q5 : bytesFld D 1164 4 = 0 := (ht 1100 4 (by omega)).trans (by decide +kernel)
  have q6 : bytesFld D 1168 32 = 0 := (ht 1104 32 (by omega)).trans (by decide +kernel)
  have h0 : bytesFld D 0 4 = 0x3158444D := (hh 0 4 (by omega)).trans (by decide +kernel)
  have h4 : bytesFld D 4 1 = 1 := (hh 4 1 (by omega)).trans (by decide +kernel)
  have h5 : bytesFld D 5 1 = 1 := (hh 5 1 (by omega)).trans (by decide +kernel)
  have h6 : bytesFld D 6 2 = 4 := (hh 6 2 (by omega)).trans (by decide +kernel)
  have h8 : bytesFld D 8 2 = 50 := (hh 8 2 (by omega)).trans (by decide +kernel)
  have h10 : bytesFld D 10 2 = 1 := (hh 10 2 (by omega)).trans (by decide +kernel)
  have h12 : bytesFld D 12 2 = 128 := (hh 12 2 (by omega)).trans (by decide +kernel)
  have h14 : bytesFld D 14 2 = 1 := (hh 14 2 (by omega)).trans (by decide +kernel)
  have h16 : bytesFld D 16 2 = 0xFFFF := (hh 16 2 (by omega)).trans (by decide +kernel)
  have h18 : bytesFld D 18 14 = 0 := (hh 18 14 (by omega)).trans (by decide +kernel)
  have hp : (upto 1).map (fun k => progEnt D (64 + 64 * k)) = [⟨0, 1, 0⟩] := by
    simp [upto, progEnt, t1, t2, t3]
  have hq : (upto 1).map (fun k => seqEnt D (64 + 64 * 1 + 8 * 128 + 48 * k)) = [⟨0, 0, 0, 0⟩] := by
    simp [upto, seqEnt, q1, q2, q4, q6]
  have hz : ∀ (f : Nat → Bool), (upto 1).all f = f 0 := fun f => by simp [upto]
  have hcs : ((upto 128).map fun k => (⟨k, 0, 0, 0⟩ : CoreEnt)).map (·.g) = (launchBase b).coresOf 0 := by cases b <;> decide +kernel
  have hqs : [(⟨0, 0, 0, 0⟩ : SeqEnt)].map (·.tile) = (launchBase b).tilesOf 0 := by cases b <;> decide +kernel
  have hcs' : ((upto 128).map fun k => (⟨k, 0, 0, 0⟩ : CoreEnt)).all (fun c => decide (c.prog < 1) &&
      decide (c.start < ([(⟨0, 1, 0⟩ : ProgEnt)].getD c.prog ⟨0, 0, 0⟩).len) &&
      decide (c.rejoin < ([(⟨0, 1, 0⟩ : ProgEnt)].getD c.prog ⟨0, 0, 0⟩).len)) = true := by decide +kernel
  simp only [State.descriptor, hi, i1, hlen, i2, hb, h10, h12, h14, hp, hc, hq, Bool.not_true, Bool.false_eq_true, if_false]
  generalize (upto 128).map (fun k => (⟨k, 0, 0, 0⟩ : CoreEnt)) = cs at *
  simp only [hco, hti, hcs, hqs, hcs', hz, h0, h4, h5, h6, h8, h16, h18, t4, q3, q5, hs, htake, hd, hg, List.all_cons, List.all_nil,
    Nat.reduceSub, Nat.reduceAdd, Nat.reduceMul, decide_true, Bool.and_true, Bool.true_and, BEq.rfl, Bool.true_or]
  rw [show (BitVec.toNat (0 : BitVec 64)) = 0 from rfl, i3]
  rfl

/-- Memory with that descriptor, its shape and its digest right. -/
def descMem : List Host.Cell :=
  memWrite [] 0 1280 (leNat (desc (up.shape 0) (sm3 (dBody (up.shape 0))).toNat))

theorem launching_repairs (b : Bool) (m : List Host.Cell) : (launching b m).repairsUp 0 = launching b m := by
  have e : (launching b m).stacksOf 0 = (launchBase b).stacksOf 0 := rfl
  have f : (launchBase b).stacksOf 0 = [0, 1] := by cases b <;> decide +kernel
  rw [State.repairsUp, e, f]
  cases b <;> rfl

theorem shape_congr {s t : State} (h : s.planForce = t.planForce) : s.shape 0 = t.shape 0 := by
  unfold State.shape State.plan; rw [h]

theorem launching_accepted (b : Bool) : ∃ c, ((launching b descMem).repairsUp 0).launchCheck 0 1 = .inr c ∧ c.bl.toNat = 1 ∧
    ((launching b descMem).repairsUp 0).launchFault 0 1 = (launchBase b).launchFault 0 1 := by
  obtain ⟨m, hm⟩ : ∃ m, m = descMem := ⟨_, rfl⟩
  rw [← hm, launching_repairs]
  have hd := launching_descriptor b m _ (hm.trans descMem.eq_1) rfl
  have hs : (launching b m).shape 0 = up.shape 0 := shape_congr (launching_plan b m)
  have hg : ∀ a f, (launching b m).gf a f = (launchBase b).gf a f := fun _ _ => rfl
  have hr : ∀ a, (launching b m).reg a = (launchBase b).reg a := fun _ => rfl
  have hi : (launching b m).inRun 0 = (launchBase b).inRun 0 := rfl
  have hp : (launching b m).planForce = (launchBase b).planForce := rfl
  have ht : (launching b m).towersOf 0 = (launchBase b).towersOf 0 := rfl
  have hc : (launching b m).gtc = (launchBase b).gtc := rfl
  have a0 : (launchBase b).inRun 0 = false := by cases b <;> decide +kernel
  have a1 : ¬((!planValid (launchBase b).planForce 0) = true ∨ (launchBase b).towersOf 0 = []) := by cases b <;> decide +kernel
  have a2 : (launchBase b).gf (Reg.STD_LAUNCH_CFG 0) Fld.STD_LAUNCH_CFG_bl = 1 := by cases b <;> decide +kernel
  have a3 : natBit ((launchBase b).gf Reg.MGT_BL_SUPPORT Fld.MGT_BL_SUPPORT_bl) 0 = true := by cases b <;> decide +kernel
  have a4 : (launchBase b).gf (Reg.STD_LAUNCH_CFG 0) Fld.STD_LAUNCH_CFG_beat_len = 16 := by cases b <;> decide +kernel
  have a5 : ¬(((launchBase b).reg (Reg.STD_START 0)).toNat % 1024 ≠ 0 ∨ ((launchBase b).reg (Reg.STD_START 0)).toNat < (launchBase b).gtc.toNat + 100000) := by
    cases b <;> decide +kernel
  have a6 : ((launchBase b).reg (Reg.STD_PROG_DESC 0)).toNat = 0 := by cases b <;> decide +kernel
  have a7 : ¬planBudget (launchBase b).planForce 0 < 50 := by cases b <;> decide +kernel
  have e : ∃ c, (launching b m).launchCheck 0 1 = .inr c ∧ c.bl.toNat = 1 := by
    simp only [State.launchCheck, hg, hr, hi, hp, ht, hc, a0, a1, a2, a3, a4, a5, a6, a7, hd, hs, if_false, Bool.false_eq_true, Nat.sub_self,
      Bool.not_true, ne_eq, not_true_eq_false, Nat.reduceLT, Nat.reduceEqDiff, or_self, gt_iff_lt]
    exact ⟨_, rfl, rfl⟩
  obtain ⟨c, h1, h2⟩ := e
  have f : (launching b m).launchFault 0 1 = (launchBase b).launchFault 0 1 := by
    have o : ∀ w, (launching b m).openSite w = (launchBase b).openSite w := fun _ => rfl
    have td : ∀ w, (launching b m).towerDegraded w = (launchBase b).towerDegraded w := fun _ => rfl
    have l : ∀ w, (launching b m).linkState w = (launchBase b).linkState w := fun _ => rfl
    have k : (launching b m).stacksOf 0 = (launchBase b).stacksOf 0 := rfl
    have sl : (launching b m).slotsOf 0 = (launchBase b).slotsOf 0 := rfl
    have so : ∀ t h k, (launching b m).slotGone t h k = (launchBase b).slotGone t h k := fun _ _ _ => rfl
    simp only [State.launchFault, o, td, l, k, sl, so, ht, hg]
  exact ⟨c, h1, h2, f⟩

theorem launching_served (b : Bool) (m : List Host.Cell) : Served (launching b m) 0 (Reg.STD_LAUNCH 0) ∧
    planPort (launching b m).planForce 0 = 0 ∧ (launching b m).phase = 1 := by
  have h : ∀ b, Served (launchBase b) 0 (Reg.STD_LAUNCH 0) ∧ planPort (launchBase b).planForce 0 = 0 ∧ (launchBase b).phase = 1 := by
    decide +kernel
  exact h b

theorem hyp_LaunchesAndRunEnds_accepted : Served (launching false descMem) 0 (Reg.STD_LAUNCH 0) ∧
    planPort (launching false descMem).planForce 0 = 0 ∧ (launching false descMem).phase = 1 ∧
    ∃ c, ((launching false descMem).repairsUp 0).launchCheck 0 1 = .inr c ∧
      ((launching false descMem).repairsUp 0).launchFault 0 c.bl.toNat = none := by
  obtain ⟨s1, s2, s3⟩ := launching_served false descMem
  refine ⟨s1, s2, s3, ?_⟩
  obtain ⟨c, h1, h2, h3⟩ := launching_accepted false
  exact ⟨c, h1, by rw [h2, h3]; decide +kernel⟩

theorem hyp_LaunchesAndRunEnds_outOfService : Served (launching true descMem) 0 (Reg.STD_LAUNCH 0) ∧
    planPort (launching true descMem).planForce 0 = 0 ∧ (launching true descMem).phase = 1 ∧
    ∃ c e, ((launching true descMem).repairsUp 0).launchCheck 0 1 = .inr c ∧
      ((launching true descMem).repairsUp 0).launchFault 0 c.bl.toNat = some e := by
  obtain ⟨s1, s2, s3⟩ := launching_served true descMem
  refine ⟨s1, s2, s3, ?_⟩
  obtain ⟨c, h1, h2, h3⟩ := launching_accepted true
  have : (((launchBase true).launchFault 0 1).isSome) = true := by decide +kernel
  obtain ⟨e, he⟩ := Option.isSome_iff_exists.mp this
  exact ⟨c, e, h1, by rw [h2, h3, he]⟩

/-- A core's program whose digest is another's. -/
def badCopy : RunCopy := { RunCopy.zero with progs := [⟨0, 0, 0⟩], cores := [⟨0, 0, 0, 0⟩] }

theorem hyp_LaunchesAndRunEnds_failure : (coreFailure (std 1 { StandSt.zero with copy := badCopy }) 0 badCopy).isSome = true := by decide +kernel

theorem hyp_GatesAndEdges : (std 2 StandSt.zero).stdState 0 = 2 ∧ ((std 2 StandSt.zero).stand 0).gate = none ∧
    (std 2 StandSt.zero).clk.stopped = false ∧ ({ up with clk := { ClkSt.zero with stopped := true } } : State).clk.stopped = true ∧
    ((std 1 { StandSt.zero with loaded := true }).setPState 0 0).startReady 0 = true ∧ RunsOn (std 2 { StandSt.zero with gate := some false }) 0 ∧
    RunsOn (std 2 { StandSt.zero with gate := some true }) 0 ∧
    ((std 2 { StandSt.zero with gate := some true, handling := some .abort }).stand 0).handling.isSome = true ∧
    ((std 2 { StandSt.zero with stopped := true }).stand 0).stopped = true := by decide +kernel

/-- The program of no bundles has the digest of no bytes. -/
def emptyProg : RunCopy := { RunCopy.zero with progs := [⟨0, 0, sm3 []⟩], cores := [⟨0, 0, 0, 0⟩] }

theorem hyp_HoldsSparesLevels : RunsOn (std 2 { StandSt.zero with gate := some false, streak := 4096 }) 0 ∧
    RunsOn (std 2 { StandSt.zero with clearHolds := 64, clearing := [.spare 0] }) 0 ∧ (std 2 StandSt.zero).standOf 0 = 0 ∧
    (let s : State := { std 2 { StandSt.zero with gate := some false, lateReg := 8, clearHolds := 65, clearing := [.spare 0], copy := emptyProg } with
                        cores := [(0, { c0 with waiting := some .wflag, waitHolds := 64, fenced := true, physical := true })] }
     (s.core 0).waiting = some .wflag ∧ 64 ≤ (s.core 0).waitHolds ∧ (s.stand 0).gate = some false ∧ (s.stand 0).lateReg.toNat % 16 = 8 ∧
       (s.core 0).fenced = true ∧ (s.core 0).physical = true ∧ (s.core 0).ni = [] ∧
       (s.stand 0).copy.cores = [] ++ ⟨0, 0, 0, 0⟩ :: [] ∧ (s.stand 0).copy.progs[0]? = some ⟨0, 0, sm3 []⟩) ∧
    (∃ y ∈ ((std 0 { StandSt.zero with spares := [⟨0, 0, false, false, false⟩] }).stand 0).spares, y.g = 0 ∧ y.loaded = false ∧ y.failed = false) ∧
    (std 0 { StandSt.zero with spares := [⟨0, 0, false, false, false⟩] }).inRun 0 = false ∧
    ([LevelPhase.lowering, .raising, .raiseGated, .lowered].all fun l =>
      ((std 2 { StandSt.zero with levelPhase := l }).stand 0).levelPhase == l) = true := by decide +kernel

theorem hyp_HoldsSparesLevels_parked : ((std 2 StandSt.zero).pwrS 0).parked = false ∧
    (({ std 2 StandSt.zero with pwr := [(0, { PwrSt.zero with parked := true })] } : State).pwrS 0).parked = true ∧
    natBit ((up.sf (Reg.CLK_SITE_ACTIVE 0 0) Fld.CLK_SITE_ACTIVE_mask 0x7FFF).gf (Reg.CLK_SITE_ACTIVE 0 0) Fld.CLK_SITE_ACTIVE_mask) 10 = true := by
  decide +kernel

/-- A remap of the stand's clearing whose moved lane's modulator is out of lock. -/
theorem hyp_HoldsSparesLevels_remap : (let s : State := { std 2 { StandSt.zero with clearHolds := 65 } with
      tiles := [(0, { PlaneTile.empty with laneRemap := [(0, 0, 3, 1)] })], fab := [(2, { FabTile.zero with lostRings := [529] })] }
    RunsOn s 0 ∧ 64 ≤ (s.stand 0).clearHeld ∧ (s.stand 0).clearing = [] ∧ s.remapsLate 0 = [(0, 0, 0, 3, 1)]) := by decide +kernel

/-- Rails at a level's voltage, and one 9 mV below it. -/
theorem hyp_HoldsSparesLevels_well : (let s := std 2 { StandSt.zero with levelPhase := .raising }
    let next := levelMv (s.gf (Reg.STD_GATE_LEVEL 0) Fld.STD_GATE_LEVEL_next_level)
    (s.pwrS 0).parked = false ∧ s.clk.stopped = false ∧
      (∀ r ∈ [(0, next - 8), (1, next + 8)], r.1 / 2 ∈ s.towersOf 0 → r.2 ≤ next + 8 ∧ next ≤ r.2 + 8) ∧
      ¬ ∀ r ∈ [(0, next - 9)], r.1 / 2 ∈ s.towersOf 0 → r.2 ≤ next + 8 ∧ next ≤ r.2 + 8) := by decide +kernel

theorem hyp_HoldsSparesLevels_rail : (let s := std 2 { StandSt.zero with railFrom := some 1, beat := 8190 }
    (s.stand 0).levelPhase = .none ∧ (s.pwrS 0).parked = false ∧ (s.stand 0).railFrom ≠ none ∧ s.inClearing 0 = true) := by
  decide +kernel

theorem hyp_HoldsSparesLevels_digest : sm3 ((std 2 { StandSt.zero with copy := emptyProg }).bytesAt 0 0 0) = sm3 [] := by decide +kernel

/-! ### Sites and memory stacks -/

/-- Tower 0's link is up with modules 0 and 1 in the map. -/
def site0 (x : SiteSt) : State := { (up1 (Reg.SITE_LINK_STATE 0 0) Fld.SITE_LINK_STATE_state 3).setSiteMask 0 3 with sites := [(0, x)] }

/-- A flit that a die sends first on its module: the kind `k` and the replay bit in the low bits of its header, body 7, check `c`. -/
def flit0 (k c : Nat) : SiteFlit := BitVec.ofNat 2048 (k + 7 * 2 ^ 64 + c * 2 ^ 1984)

set_option maxRecDepth 20000 in
theorem hyp_SiteFlits_ok : (Flit.ofBits (flit0 0 637560082)).ok = true ∧ (Flit.ofBits (flit0 1 2682277524)).ok = true ∧
    (Flit.ofBits (flit0 2 1345078511)).ok = true ∧ (Flit.ofBits (flit0 (2 ^ 20) 1588463918)).ok = true ∧ (Flit.ofBits (flit0 2 0)).ok = false := by
  decide +kernel

theorem hyp_SiteFlitsAndMessages : siteGuard 0 0 0 = true ∧ (site0 SiteSt.zero).linkState 0 = 3 ∧ (site0 SiteSt.zero).tileOut 0 = false ∧
    (Flit.ofBits (flit0 2 0)).kind = 2 ∧ (Flit.ofBits (flit0 1 0)).kind = 1 ∧ (Flit.ofBits (flit0 0 0)).kind = 0 ∧
    (Flit.ofBits (flit0 0 0)).nak = false ∧ (Flit.ofBits (flit0 (2 ^ 20) 0)).nak = true ∧
    natBit ((site0 SiteSt.zero).siteMask 0) 0 = true ∧ (Flit.ofBits (flit0 2 0)).fseq = (((site0 SiteSt.zero).site 0).mod 0).rxNext ∧
    (sget none { SiteSt.zero with streams := [(1, some ⟨true, 0, 0, 1, 0, 0, false⟩)] }.streams 1).isSome = true ∧
    (site0 SiteSt.zero).standOfTower 0 = some 0 ∧
    ((site0 SiteSt.zero).sf (Reg.SITE_LINK_STATE 0 0) Fld.SITE_LINK_STATE_circuits 1).gf (Reg.SITE_LINK_STATE 0 0) Fld.SITE_LINK_STATE_circuits = 1 ∧
    ((site0 SiteSt.zero).sf (Reg.STD_STATUS 0) Fld.STD_STATUS_state 1).inRun 0 = true ∧
    ((site0 SiteSt.zero).sf (Reg.SITE_CENSUS0 0) Fld.SITE_CENSUS0_agent 1).openSite 0 = true := by decide +kernel

/-- That tower with a stream of handle 1, while its stand's context has the act `a` for the coming edge. -/
def siteAct (st : SMap (Option Stream)) (a : EdgeAct) : State := { site0 { SiteSt.zero with streams := st } with
  fab := [(0, { FabTile.zero with ctxs := [(0, { ctx0 with acts := [a] })] })] }
def stream0 : Stream := ⟨true, 1, 0, 4, 0, 1, false⟩

theorem hyp_SiteFlitsAndMessages_streams : (site0 SiteSt.zero).bindFor 0 0 true 0 4 0 1 = none ∧
    (siteAct [] (.bindRecv 1 bind0)).standOfTower 0 = some 0 ∧ (siteAct [] (.bindRecv 1 bind0)).ctxOf 0 0 = some 0 ∧
    ((siteAct [] (.bindRecv 1 bind0)).ctx 0 0).acts = [.bindRecv 1 ⟨1 - 1, 1, 0, 4, 0⟩] ∧ (1 : BitVec 6).getLsbD 0 = true ∧
    ((siteAct [] (.bindRecv 1 bind0)).site 0).hasStream stream0 = false ∧
    (∃ a ∈ ((siteAct [(0, some stream0)] (.shut 1)).ctx 0 0).acts, a.frees stream0 = true) ∧
    (∀ a ∈ ((siteAct [(0, some stream0)] (.unbindSend 1)).ctx 0 0).acts, a.frees stream0 = false) ∧
    sget none ((siteAct [(0, some stream0)] (.shut 1)).site 0).streams 0 = some stream0 ∧ stream0.going = false := by decide +kernel

theorem hyp_SiteFaultsAndReturns : ((site0 SiteSt.zero).sf (Reg.SITE_CENSUS0 0) Fld.SITE_CENSUS0_agent 1).linkState 0 = 3 ∧
    up.linkState 0 = 0 ∧ (up1 (Reg.SITE_EVENTS 0 0) Fld.SITE_EVENTS_link_event 1).gf (Reg.SITE_EVENTS 0 0) Fld.SITE_EVENTS_link_event = 1 ∧
    descBad 0 = true ∧ up.tripped = false ∧ (up1 Reg.THM_TRIP Fld.THM_TRIP_tripped 1).tripped = true ∧ up.dwm = [] ∧
    (⟨0, [], true⟩ : SiteFound).fails = true ∧ (⟨0, [], false⟩ : SiteFound).fails = false ∧ (∃ m < 17, m ∉ (⟨0, [], false⟩ : SiteFound).out) ∧
    (∀ m < 17, m ∈ (⟨0, upto 17, false⟩ : SiteFound).out) ∧ up.clk.stopped = false ∧
    ({ up with clk := { ClkSt.zero with stopped := true } } : State).clk.stopped = true := by decide +kernel

/-- A descriptor that this base serves, of an open site's agent, at 32 GT/s over all sixteen modules. -/
def goodDesc : BitVec 512 := BitVec.ofNat 512 (2 ^ 8 + (16 + 3 * 2 ^ 8 + 0x3F * 2 ^ 16) * 2 ^ 160 + 0x474C53B5 * 2 ^ 480)

theorem hyp_SiteFaultsAndReturns_desc : descBad goodDesc = false ∧ 16 ≤ descField goodDesc 20 1 ∧ natBit (descField goodDesc 21 1) 0 = true := by
  decide +kernel

theorem hyp_BeatFlitsAndModules : ((site0 SiteSt.zero).sf (Reg.STD_STATUS 0) Fld.STD_STATUS_state 2).inRun 0 = true ∧
    ((site0 SiteSt.zero).setSiteMask 0 2).fullModules 0 ≠ [] ∧ natBit (natPut ((site0 SiteSt.zero).siteMask 0) 0 1 0) 16 = false ∧
    (site0 SiteSt.zero).siteRepair 0 Fld.SITE_REPAIR_spare_used = 0 ∧
    (((site0 { SiteSt.zero with mods := [(0, { SiteMod.zero with retraining := true })] }).site 0).mod 0).retraining = true ∧
    (((site0 { SiteSt.zero with mods := [(16, { SiteMod.zero with retraining := true })] }).site 0).mod 16).retraining = true ∧
    (((site0 SiteSt.zero).site 0).mod 16).retraining = false ∧ natBit ((site0 SiteSt.zero).siteHalf 0) 0 = false ∧
    natBit (((site0 SiteSt.zero).sf (Reg.SITE_HALF 0 0) Fld.SITE_HALF_mask 1).siteHalf 0) 0 = true ∧
    (let s := site0 { SiteSt.zero with tempSpare := true, mods := [(0, { SiteMod.zero with retraining := true })] }
     (s.site 0).tempSpare = true ∧ ∀ k < 16, k ≠ 0 → ((s.site 0).mod k).retraining = false) := by decide +kernel

def stack0 (x : HbmSt) : State := { up1 (Reg.HBM_STATE 0 0) Fld.HBM_STATE_state 2 with hbm := [(0, x)], ts := [(95, ⟨[], some (5, 1), []⟩)] }

theorem hyp_StackAndTowerMemory : (stack0 HbmSt.zero).gf (Reg.HBM_STATE 0 0) Fld.HBM_STATE_state = 2 ∧
    (stack0 { HbmSt.zero with soft := [7] }).stackRuns 0 = false ∧ ((stack0 { HbmSt.zero with soft := [7] }).hbmS 0).soft = [7] ∧
    ((stack0 { HbmSt.zero with hardNow := some 7 }).hbmS 0).hardNow = some 7 ∧
    ((stack0 { HbmSt.zero with migr := some (true, 0) }).hbmS 0).migr = some (true, 0) ∧ natBits 64 32 4 = 0 ∧ 64 < stackBytes ∧
    (stack0 HbmSt.zero).stackAsleep 0 = false ∧ ((stack0 HbmSt.zero).sf (Reg.HBM_STATE 0 0) Fld.HBM_STATE_state 3).stackAsleep 0 = true ∧
    tsBank (64 * 2 * 5) = 5 ∧ 64 * 2 * 5 < towerBytes ∧ ((stack0 HbmSt.zero).tsS 95).migr = some (5, 1) ∧ ((stack0 HbmSt.zero).tsS 95).waits = [] ∧
    HbmSt.zero.waits = [] ∧ ((stack0 { HbmSt.zero with migr := some (false, 0), waits := [5] }).hbmS 0).waits = 5 :: [] ∧ (stack0 HbmSt.zero).standOfTower 95 = none := by decide +kernel

/-! ### Errors, telemetry and the host's memory window -/

/-- The ready module with 50 heartbeats missing, while one controller works and with none. -/
def headless (both : Bool) : State := { up with sec := { up.sec with missed := 50, failed15 := both } }

theorem hyp_takeover : up.takingOver = false ∧ (headless false).takingOver = true ∧ 50 ≤ (headless true).sec.missed ∧
    (headless true).sec.failed0 = false ∧ (headless true).sec.failed15 = true ∧ (headless false).gf Reg.MGT_CTRL Fld.MGT_CTRL_primary = 0 ∧
    Served (headless false) 0 Reg.MGT_PLAN_CTL := by decide +kernel

theorem hyp_ErrorsAndTelemetry : up.log.length < 56 ∧
    56 ≤ ({ up with log := List.replicate 56 (up.logEnt 1 (ErrInfo.plain 0 0)) } : State).log.length ∧
    (up1 (Reg.MGT_ERR_FIRST_CTL 1) Fld.MGT_ERR_FIRST_CTL_valid 1).gf (Reg.MGT_ERR_FIRST_CTL 1) Fld.MGT_ERR_FIRST_CTL_valid = 1 ∧
    Served up 0 Reg.MGT_ERR_POP ∧ Served up 0 tileWindow ∧
    (up1 (Reg.PMC_ARM 0 0 0) Fld.PMC_ARM_enable 1).gf (Reg.PMC_ARM 0 0 0) Fld.PMC_ARM_enable = 1 ∧
    natBit (up.gf (Reg.CORE_ROW_MAP 0 0 0) Fld.CORE_ROW_MAP_in_service) 0 = true ∧
    natBit (up.gf (Reg.CORE_ROW_MAP 0 0 0) Fld.CORE_ROW_MAP_fenced) 0 = false ∧
    (up1 Reg.PMC_MAP_CFG Fld.PMC_MAP_CFG_enable 0).gf Reg.PMC_MAP_CFG Fld.PMC_MAP_CFG_enable = 0 ∧ up.tileOut 0 = false ∧
    ((up1 (Reg.OPT_HOLD_STATE 0) Fld.OPT_HOLD_STATE_held 1).tileOut 0 = true) ∧
    (let s := { up1 (Reg.PMC_ARM 0 0 0) Fld.PMC_ARM_enable 1 with pmc := [(Reg.PMC_CORE 0 0 0 0, 2 ^ 47)] }
     s.armWraps (Reg.PMC_ARM 0 0 0) ≠ sget 0 s.arms (Reg.PMC_ARM 0 0 0) ∧ up.armWraps (Reg.PMC_ARM 0 0 0) = sget 0 up.arms (Reg.PMC_ARM 0 0 0)) ∧
    (up1 Reg.PMC_MAP_CFG Fld.PMC_MAP_CFG_enable 1).gf Reg.PMC_MAP_CFG Fld.PMC_MAP_CFG_enable = 1 ∧
    ({ up with mapFrom := some (0, 20) } : State).mapFrom = some (0, 20) ∧
    (ErrInfo.plain 0 0).tile = none ∧ up.gtc ≠ BitVec.allOnes 64 := by decide +kernel

theorem hyp_HostMemoryWindow : up.portUp 0 = true ∧ up.barOpen = true ∧ 0 + 64 ≤ (up.port 0).bar2Size ∧
    up.barPlace 0 (up.barAddr 0 0) = some (.hbm 0 0) ∧ placeAddr (.hbm 0 0) = some 0 ∧ (stack0 HbmSt.zero).reachable (.hbm 0 0) = true ∧
    up.reachable (.hbm 0 0) = false ∧ (stack0 HbmSt.zero).landing (.hbm 0 0) = true ∧ (stack0 HbmSt.zero).progHeld (.hbm 0 0) = false ∧
    (stack0 HbmSt.zero).placeHeld (.hbm 0 0) true = false ∧
    (let s : State := { stack0 HbmSt.zero with regions := [(rowRegion 0, { Region.zero with inHigh := true })] }
     s.placeHeld (.data 0 0) true = true ∧ s.placeHeld (.data 0 0) false = true ∧ (s.core 0).fenced = false) ∧
    (up.port 0).maxPayload < 129 ∧ 64 ≤ (up.port 0).maxPayload ∧ 64 ≤ placeRoom (.hbm 0 0) ∧ up.poisoned 0 = false ∧ (up.barAddr 0 0) % 64 + 64 ≤ 64 := by decide +kernel

/-- Bytes of data memory in BAR2, of a running tower; and the reference of port 1, which is not selected, absent. -/
theorem hyp_HostMemoryWindow_data : placeAddr (.data 0 0) = some (dmAddr 0 0) ∧ 64 ≤ placeRoom (.data 0 0) ∧ up.refSel = 0 ∧
    up.refs (presentFld 1) = 0 := by decide +kernel

theorem hyp_PortResetsAndPower : up.power = true ∧ (up.port 0).inReset = false ∧
    (up1 Reg.MGT_BOUNDARY (cableFld 0) 1).gf Reg.MGT_BOUNDARY (cableFld 0) = 1 ∧
    ({ up1 Reg.MGT_BOUNDARY (cableFld 0) 1 with ports := [] } : State).portUp 0 = false ∧ up.portUp 0 = true ∧
    (up1 (Reg.HIF_LINK 0) Fld.HIF_LINK_state 4).gf (Reg.HIF_LINK 0) Fld.HIF_LINK_state = 4 ∧
    (up1 (Reg.HIF_LINK 0) Fld.HIF_LINK_state 2).gf (Reg.HIF_LINK 0) Fld.HIF_LINK_state = 2 ∧
    ([1, 3, 5].all fun n => (up1 (Reg.HIF_LINK 0) Fld.HIF_LINK_state n).gf (Reg.HIF_LINK 0) Fld.HIF_LINK_state == n) = true ∧
    (let s := ((up1 (Reg.HIF_LINK 0) Fld.HIF_LINK_width 16).sf (Reg.HIF_PM_CFG 0) Fld.HIF_PM_CFG_l0p_en 1).sf (Reg.HIF_PM_CFG 0)
       Fld.HIF_PM_CFG_l0p_min 1
     s.gf (Reg.HIF_PM_CFG 0) Fld.HIF_PM_CFG_l0p_en = 1 ∧ 4 < s.gf (Reg.HIF_LINK 0) Fld.HIF_LINK_width ∧
       8 ≤ 4 * 2 ^ s.gf (Reg.HIF_PM_CFG 0) Fld.HIF_PM_CFG_l0p_min ∧ ¬8 ≤ 2 * 2 ^ s.gf (Reg.HIF_PM_CFG 0) Fld.HIF_PM_CFG_l0p_min) ∧
    ((up.sf (Reg.HIF_MOD_INT 0) Fld.HIF_MOD_INT_cause 1).sf (Reg.HIF_MOD_INT_EN 0) Fld.HIF_MOD_INT_EN_en 1).requested 0 0 = true ∧
    { portOn with msixEnable := true, table := [(12, 0)] }.canSend 0 = true := by decide +kernel

theorem hyp_ProtocolAnswers : up.answers 0 = true ∧ 0 ≤ up.chain.length := ⟨by decide +kernel, Nat.zero_le _⟩

/-! ### Clocks, starts, supply, power and the store -/

def clk1 (mode : Nat) (c : ClkSt) : State := { up1 Reg.CLK_REF_STATUS Fld.CLK_REF_STATUS_mode mode with clk := c }

theorem hyp_ClocksAndFeeds : (clk1 1 ClkSt.zero).refMode = 1 ∧ (clk1 0 ClkSt.zero).refMode = 0 ∧ (clk1 1 ClkSt.zero).refSel = 0 ∧
    ((clk1 1 ClkSt.zero).sf Reg.CLK_REF_STATUS (qualFld 1) 1).refs (qualFld 1) = 1 ∧ (clk1 1 ClkSt.zero).refs (qualFld 1) = 0 ∧
    Served up 0 Reg.CLK_REF_CTL ∧ (clk1 1 { ClkSt.zero with switching := true }).clk.switching = true ∧
    (clk1 1 { ClkSt.zero with obsWait := some 0 }).clk.obsWait.isSome = true ∧ (clk1 1 { ClkSt.zero with bedWait := true }).clk.bedWait = true ∧
    (clk1 2 { ClkSt.zero with holdFrom := some 0 }).clk.holdFrom = some 0 ∧ ClkSt.zero.stopped = false ∧ (clk1 2 ClkSt.zero).refMode = 2 ∧
    (-7000 ≤ (7000 : BitVec 16).toInt ∧ (7000 : BitVec 16).toInt ≤ 7000 ∧ 7000 < (7001 : BitVec 16).toInt) ∧
    (∀ i < 16, State.reset.inRun i = false) ∧ (∀ i < 16, (State.reset.pwrS i).parked = false) ∧ State.reset.phase ≠ 1 ∧
    (up1 (Reg.CLK_TILE_STATUS 0) Fld.CLK_TILE_STATUS_gtc_lock 1).gf (Reg.CLK_TILE_STATUS 0) Fld.CLK_TILE_STATUS_gtc_lock = 1 ∧
    natBit (up.gf Reg.CLK_TREE Fld.CLK_TREE_spare_tiles) 0 = false ∧
    natBit ((up1 Reg.CLK_TREE Fld.CLK_TREE_spare_tiles 1).gf Reg.CLK_TREE Fld.CLK_TREE_spare_tiles) 0 = true := by decide +kernel

/-- A reference beyond 7 ppm on either side; the old clock of a bedrock switch standing; clk_obs with no source, with a source that runs,
with one that stands, and waiting for one that does. -/
theorem hyp_ClocksAndFeeds_switches : (7000 < (7001 : BitVec 16).toInt ∧ (-7001 : BitVec 16).toInt < -7000) ∧
    (clk1 1 ClkSt.zero).refs (presentFld 0) = 0 ∧
    (let s : State := { up1 (Reg.CLK_TILE_STATUS 0) Fld.CLK_TILE_STATUS_gtc_lock 1 with clk := { ClkSt.zero with bedWait := true } }
     s.clk.bedWait = true ∧ s.clk.stopped = false ∧ s.gf (Reg.CLK_TILE_STATUS 0) Fld.CLK_TILE_STATUS_gtc_lock = 1 ∧ s.clk.switching = false) ∧
    up.clk.obsWait = none ∧ natBits (up.reg Reg.CLK_OBS_SEL).toNat 0 3 = 0 ∧ up.obsRuns 0 = false ∧
    (let s := up1 (Reg.CLK_TILE_STATUS 0) Fld.CLK_TILE_STATUS_gtc_lock 1
     (upto 8).any fun k => s.obsRuns k && k != 0) = true := by decide +kernel

theorem hyp_StartsOfModuleAndTiles_held : (({ up with sec := { up.sec with failed0 := true, failed15 := true } } : State).unmanaged = true) ∧
    State.reset.tripped = false ∧ State.reset.unmanaged = false ∧ State.reset.clk.stopped = false ∧
    (up.sf Reg.THM_TRIP Fld.THM_TRIP_tripped 1).tripped = true := by decide +kernel

theorem hyp_StartsOfModuleAndTiles : Served up 0 Reg.MGT_START_CTL ∧ up.gf Reg.THM_TRIP Fld.THM_TRIP_tripped = 0 ∧
    (up1 Reg.THM_TRIP Fld.THM_TRIP_tripped 1).gf Reg.THM_TRIP Fld.THM_TRIP_tripped = 1 ∧ up.unmanaged = false ∧
    up.gf Reg.MGT_START_STATUS Fld.MGT_START_STATUS_forced_cold = 0 ∧ State.reset.power = true ∧ State.reset.phase = 0 ∧
    State.reset.gf Reg.MGT_START_STATUS Fld.MGT_START_STATUS_step = 1 ∧ failFits 1 0 2 = true ∧ StepFinding.clean.fail = none ∧ StepFinding.clean.badCopies = [] ∧
    ({ up with sec := { up.sec with bedDigest := 1 } } : State).imageStale = true ∧ State.reset.imageStale = false ∧ State.reset.copy0.ok = true ∧
    (State.reset.stepEnd 2 0 StepFinding.clean).isSome = true ∧ Served up 0 Reg.MGT_TILE_CTL ∧ up.tileOut 0 = false ∧
    (up1 (Reg.OPT_HOLD_STATE 0) Fld.OPT_HOLD_STATE_held 1).tileHeld 0 = true := by decide +kernel

theorem hyp_SupplyAndTrip : ({ up with power := false, inputOut := true } : State).power = false ∧ up.nvq = [] ∧
    ({ up with power := false, inputOut := true } : State).inputOut = true ∧ (∀ x ∈ up.junctions, x ≤ 720) ∧ up.power = true ∧ up.supplyLow = false ∧
    up.gf Reg.THM_TRIP Fld.THM_TRIP_tripped = 0 ∧ (∀ x ∈ up.nvReadings, x ≤ 720) ∧ (∀ i < 16, up.inRun i = false) ∧
    ({ up with nvq := [⟨7, 0, [], .none⟩] } : State).nvq = [⟨7, 0, [], .none⟩] ∧ up.copy0.ok = true ∧ up.copy15.ok = true ∧
    ({ up.copy0 with ok := false } : NvCopy).ok = false ∧ (⟨7, 0, [], .none⟩ : NvReq).len = 4 ∧
    (let c : NvCopy := ⟨true, ⟨some ⟨1, 0, 1, bytesOf 8 1⟩, [⟨9, 0, 2, [1]⟩], []⟩, NvBank.zero, none⟩
     c.cur.torn = [] ∧ scanRecs [] ((c.cur.slot.map NvRec.seq).getD 0) c.recs = c.recs) ∧
    (1920 ≤ (2000 : BitVec 12).toNat ∧ (2480 : BitVec 12).toNat ≤ 2480 ∧ 2480 < (2481 : BitVec 12).toNat) := by decide +kernel

/-- R515, R516, R519: a record of all its words is found, one that lacks its cairn word is not, and it does not reach the other bank. -/
theorem test_torn_record : (let b : NvBank := ⟨some ⟨1, 0, 1, bytesOf 8 1⟩, [], []⟩
    let r : NvRec := ⟨7, 3, 2, [1, 2, 3]⟩
    (r.words.length = 5 ∧ (NvBank.scan [] { b with torn := r.words }).recs = [r] ∧ (NvBank.scan [] { b with torn := r.words.take 4 }).recs = [])) := by
  decide +kernel

/-- R531: a supply's channel reads within 8 mV of a core rail's level, within 3 % of a fixed rail, and below 50 mV where it is off. -/
theorem hyp_PowerManager_supplies : (let s := up.sf (Reg.CLK_SITE_ACTIVE 0 0) Fld.CLK_SITE_ACTIVE_mask 0x7FFF
    s.supplyReads 0 52 750 = true ∧ s.supplyReads 0 52 772 = true ∧ s.supplyReads 0 52 773 = false ∧ s.supplyReads 0 58 728 = true ∧
      s.supplyReads 0 58 727 = false ∧ s.supplyReads 0 41 49 = false ∧ up.supplyReads 0 41 49 = true ∧ up.supplyReads 0 41 50 = false) ∧
    (∀ d ∈ [((863 : Nat), (5 : Nat), (2 : Nat))], d.1 < 864) := by decide +kernel

theorem hyp_PowerManager : up.power = true ∧ up.clk.stopped = false ∧ (up.fabT 0).tiaNow = none ∧
    ({ FabTile.zero with tiaNow := some 7 } : FabTile).tiaNow = some 7 ∧ up.gf (Reg.THM_CH 0 3) Fld.THM_CH_stale = 0 ∧
    up.gf (Reg.THM_CH 0 3) Fld.THM_CH_retired = 0 ∧ up.farFromModel 0 3 65 = true ∧ up.farFromModel 0 3 64 = false ∧
    (up1 (Reg.THM_CH 0 35) Fld.THM_CH_suspect 1).gf (Reg.THM_CH 0 35) Fld.THM_CH_suspect = 1 ∧ up.standOfTower 5 = none ∧
    (up1 (Reg.THM_CH 0 3) Fld.THM_CH_suspect 1).standOfTower 0 = some 0 ∧ (std 2 StandSt.zero).stdState 0 = 2 ∧
    ({ up with modK := 4 } : State).modK ≠ 0 ∧
    up.unmanaged = false ∧ up.phase = 1 ∧ (up.setPState 0 0).awake 0 = true ∧ planValid up.planForce 0 = true ∧ up.modK = 0 := by decide +kernel

def pwr0 (x : PwrSt) : State := { up1 (Reg.PWR_STD_STATE 0) Fld.PWR_STD_STATE_step 5 with pwr := [(0, x)] }

theorem hyp_PowerStates : Served up 0 (Reg.PWR_STD_CTL 0) ∧ planPort up.planForce 0 = 0 ∧ up.inRun 0 = false ∧ up.pState 0 < 3 ∧
    ((pwr0 { PwrSt.zero with idle := true }).pwrS 0).idle = true ∧ ((pwr0 { PwrSt.zero with idle := true }).pwrS 0).parked = false ∧
    ((up1 (Reg.PWR_STD_STATE 0) Fld.PWR_STD_STATE_step 3).pStep 0 = 3) ∧
    ({ PwrSt.zero with goal := some 2 } : PwrSt).goal = some 2 ∧
    up.gf Reg.THM_TRIP Fld.THM_TRIP_tripped = 0 ∧ (pwr0 { PwrSt.zero with idle := true }).inRun 0 = false ∧ (pwr0 { PwrSt.zero with goal := some 3 }).pStep 0 = 5 ∧
    (pwr0 { PwrSt.zero with toStart := [0] }).rampBefore 0 = false ∧
    (up1 (Reg.PWR_STD_CTL 0) Fld.PWR_STD_CTL_ramp 1).gf (Reg.PWR_STD_CTL 0) Fld.PWR_STD_CTL_ramp ≠ 0 ∧
    (pwr0 { PwrSt.zero with exiting := [0] }).linkState 0 = 0 ∧ (pwr0 PwrSt.zero).siteMask 0 ≠ 0 ∧
    (pwr0 PwrSt.zero).gf (Reg.SITE_EVENTS 0 0) Fld.SITE_EVENTS_link_event = 0 ∧
    (pwr0 PwrSt.zero).gf (Reg.CLK_SITE_ACTIVE 0 0) Fld.CLK_SITE_ACTIVE_mask = 0 ∧ (pwr0 PwrSt.zero).clk.stopped = false ∧ 0 ∈ (pwr0 PwrSt.zero).towersOf 0 ∧
    ({ pwr0 PwrSt.zero with clk := { ClkSt.zero with stopped := true } } : State).clk.stopped = true ∧
    (up1 (Reg.PWR_STD_STATE 0) Fld.PWR_STD_STATE_step 6).pStep 0 = 6 ∧
    (up1 (Reg.CLK_SITE_ACTIVE 0 0) Fld.CLK_SITE_ACTIVE_mask 0x7FFF).gf (Reg.CLK_SITE_ACTIVE 0 0) Fld.CLK_SITE_ACTIVE_mask ≠ 0 ∧
    (∀ k < 16, k ≠ 0 → 0 ∉ ((pwr0 { PwrSt.zero with exiting := [0] }).pwrS k).exiting) := by decide +kernel

theorem hyp_StoreWrites : up.copy0.ok = true ∧ up.copy15.ok = true ∧ up.nvq.length ≤ 16 ∧ (∀ x ∈ up.nvReadings, 0 ≤ x ∧ x ≤ 720) ∧
    ({ up with nvq := List.replicate 32 ⟨7, 0, [], .none⟩ } : State).nvRefusal ⟨7, 0, [], .none⟩ = some 2 ∧
    ({ up with copy0 := { up.copy0 with ok := false }, copy15 := { up.copy0 with ok := false } } : State).nvRefusal ⟨7, 0, [], .none⟩ = some 3 ∧
    ({ up with storeTemp := [(0, 800)] } : State).nvRefusal ⟨7, 0, [], .none⟩ = some 1 ∧ up.mgmtWait = [] ∧
    ({ up with storeTemp := [(0, 800)] } : State).nvRefusal ⟨9, 0, [], .prov⟩ = none ∧
    up.unmanaged = false ∧ up.phase = 1 ∧ up.nvq = [] ∧ (⟨5, 0, [], .deadwood 0⟩ : NvReq).checked = false ∧
    (∃ x ∈ ({ up with storeTemp := [(0, 800)] } : State).nvReadings, x < 0 ∨ 720 < x) ∧ up.sec.settingsWait = false ∧
    ({ up with fab := [(0, { FabTile.zero with trims := [(0, ⟨9, 0, 0, 0, 0⟩)] })] } : State).trimsMoved = true := by decide +kernel

theorem hyp_FirmwareControllersTap : Served up 0 Reg.SEC_BOOT_CTL ∧ Served up 0 Reg.SEC_TAP_ARM ∧ Served up 0 Reg.SEC_TAP_CTL ∧
    up.start.bootServed = false ∧ State.reset.phase = 0 ∧ (up.port 0).busMaster = true ∧ up.sec.image = some (0, 1) ∧
    up.gf Reg.MGT_CTRL Fld.MGT_CTRL_primary = 0 ∧ up.sec.failed15 = false ∧ up.sec.standbyOut = false ∧
    ({ up.sec with standbyOut := true } : SecSt).standbyOut = true ∧ up.tapOk (up.tapArmed 0) = false ∧
    (let s : State := { up with sec := { up.sec with tapArm := [(0, some 0)] } }
     s.tapOk (s.tapArmed 0) = true ∧ 1000000 < ((1000001 : Word) - 0).toNat) ∧ up.nvTempOk = true ∧ up.nvq.length < 32 ∧
    ({ up with nvq := List.replicate 32 ⟨7, 0, [], .none⟩ } : State).nvq.length = 32 ∧
    ({ up.sec with provRest := [⟨9, 0, [], .prov⟩] } : SecSt).provRest = ⟨9, 0, [], .prov⟩ :: [] ∧
    (up1 Reg.SEC_STATE Fld.SEC_STATE_tap_enabled 1).gf Reg.SEC_STATE Fld.SEC_STATE_tap_enabled = 1 ∧
    up.imageCheck [] 0 = .inl 2 := by decide +kernel

/-! ### The whole module -/

theorem hyp_InterleavedSpace : (up.stacksOf 0).length = 2 ∧
    up.standPlace 0 (2 ^ 44 + 4096) = some (.hbm 1 0) ∧ up.standPlace 0 (2 ^ 44 + 2 * stackBytes) = none := by decide +kernel

theorem hyp_StepKeepsMemory : ({ up with pending := [.idcode] } : State).MemoryOk ∧
    step { up with pending := [.idcode] } = .next (up.emit (.tap 32 0x1A960F3D)) := ⟨by decide, rfl⟩

theorem hyp_StepKeepsOrder : (State.reset).ResultsOrdered := fun _ => List.Pairwise.nil

theorem hyp_QueueOnlyPops : exec .idcode up = .next (up.emit (.tap 32 0x1A960F3D)) := rfl

theorem hyp_UnitCommandsComplete : Instr.whole (.seqLoop 0 0 0 1 0) = true ∧ (Instr.seqLoop 0 0 0 1 0).wf = true ∧
    Instr.programOk (.seqLoop 0 0 0 1 0) = true ∧ Instr.programOk (.seqLoop 0 0 0 0 0) = false := by decide

end Sys2Proof.Tests.Slice0
end

/-! PROOF. The interleaved space of a stand's stacks (R56, R57). -/

namespace Sys2Proof.Machine

/-! ### A stand's stacks -/

@[simp] theorem State.mem_stacksOf (s : State) (i j : Nat) :
    j ∈ s.stacksOf i ↔ j < 32 ∧ planValid s.planForce i = true ∧ natBit (planStacks s.planForce i) j = true := by
  simp [State.stacksOf, upto]

theorem State.stacksOf_sorted (s : State) (i : Nat) : (s.stacksOf i).Pairwise (· < ·) :=
  List.pairwise_lt_range.filter _

/-! ### Space 0x1 -/

theorem placeOf_interleaved {o : Nat} (ho : o < 2 ^ 44) : placeOf (2 ^ 44 + o) = some (.inter o) := by
  have inRange : ¬ 2 ^ 44 + o ≥ 2 ^ 48 := by omega
  have space : natBits (2 ^ 44 + o) 44 4 = 1 := by unfold natBits; omega
  have offset : natBits (2 ^ 44 + o) 0 44 = o := by unfold natBits; omega
  simp only [placeOf, space, offset, if_neg inRange, Nat.one_ne_zero, if_true, if_false]

theorem State.standPlace_interleaved (s : State) (i : Nat) {o : Nat} (ho : o < 2 ^ 44) :
    s.standPlace i (2 ^ 44 + o) = interleave (s.stacksOf i) o := by
  simp only [State.standPlace, placeOf_interleaved ho]

theorem interleave_of_lt {stk : List Nat} {o : Nat} (h : o < stk.length * stackBytes) (hk : o / 4096 % stk.length < stk.length) :
    interleave stk o = some (.hbm stk[o / 4096 % stk.length] (o / 4096 / stk.length * 4096 + o % 4096)) := by
  have inLimit : ¬ (stk.length = 0 ∨ o ≥ stk.length * stackBytes) := by
    rintro (hz | hge)
    · simp [hz] at h
    · exact absurd h (Nat.not_lt.mpr hge)
  simp only [interleave, if_neg inLimit, List.getElem?_eq_getElem hk]

theorem interleave_of_ge {stk : List Nat} {o : Nat} (h : stk.length * stackBytes ≤ o) : interleave stk o = none :=
  if_pos (.inr h)

/-- Settles O55: space 0x1 leads to `interleave` of the stand's stacks, which is R57's formula below their end and
nothing from there on. -/
theorem interleavedSpace : Obligations.InterleavedSpace := by
  intro s i o ho
  refine ⟨s.mem_stacksOf i, s.stacksOf_sorted i, fun h => ?below, fun h => ?beyond⟩
  case below => exact (s.standPlace_interleaved i ho).trans (interleave_of_lt h _)
  case beyond => exact (s.standPlace_interleaved i ho).trans (interleave_of_ge h)

end Sys2Proof.Machine

/-! PROOF. The scalar integer instructions: each issues and only puts a result on its way to one register (R88, R125), and the
result is that of R158's table. -/

namespace Sys2Proof.Machine

/-! ### What readiness says -/

theorem Ready.ordered {s : State} {e : Iss} {o : SlotOp} (h : Ready s e o) : (s.core e.g).Ordered := by
  obtain ⟨-, -, -, -, -, -, -, -, -, -, -, -, ordered⟩ := h
  exact ordered

theorem Ready.legal {s : State} {e : Iss} {o : SlotOp} (h : Ready s e o) : bundleBreach [o] e.idle.toNat = none := by
  obtain ⟨-, -, -, -, -, -, -, -, legal, -⟩ := h
  exact legal

/-! ### The bundle sequence and the core's link -/

/-- The bundle sequence moves without regard to the core's link, and nothing else moves with it. -/
theorem advance_of_link (c : CoreSt) (l : List (Nat × Nat)) (x : Option SOp) :
    advance c x = { c with pc := (advance { c with link := l } x).pc, led := (advance { c with link := l } x).led,
                           loops := (advance { c with link := l } x).loops,
                           delay := (advance { c with link := l } x).delay } := by
  have loop : loopOf { c with link := l } = loopOf c := funext fun y => by cases y <;> rfl
  have branch : branchOf { c with link := l } = branchOf c := funext fun y => by cases y <;> rfl
  simp only [advance, loop, branch]
  rcases c.delay with _ | ⟨n, t⟩
  · rcases x.bind (loopOf c) with _ | ⟨last, n⟩
    · rcases x.bind (branchOf c) with _ | t <;> rfl
    · by_cases empty : n = 0 <;> simp [empty]
  · by_cases last : n ≤ 1 <;> simp [last]

/-! ### A scalar result on its way -/

/-- The results on their way once a scalar result of latency `l` has joined them. -/
def CoreSt.pendS (c : CoreSt) (l : Nat) (d : R5) (v : Word) : List Pend :=
  if d = 0 then c.pend else pendInsert ⟨c.cycle + l, .s d, v.setWidth 65536⟩ c.pend

theorem CoreSt.pushS_eq (c : CoreSt) (l : Nat) (d : R5) (v : Word) : c.pushS l d v = { c with pend := c.pendS l d v } := by
  unfold CoreSt.pushS CoreSt.pendS
  split <;> rfl

theorem CoreSt.pendS_sorted {c : CoreSt} (h : c.Ordered) (l : Nat) (d : R5) (v : Word) :
    (c.pendS l d v).Pairwise fun p q => p.due ≤ q.due := by
  unfold CoreSt.pendS
  split
  · exact h
  · exact pendInsert_sorted _ _ h

/-- What a register reads in cycle `n` is the scalar result where that has reached it, and else what it would have read. -/
theorem CoreSt.writes_pendS {c : CoreSt} (h : c.Ordered) (l : Nat) (d : R5) (v : Word) (n : Nat) (r : Dest) (z : BitVec 65536) :
    writes r z ((c.pendS l d v).filter fun p => decide (p.due ≤ n)) =
      match (c.resS l d v).find? fun w => w.holds c n r with
      | some w => r.after w.val
      | none => writes r z (c.pend.filter fun p => decide (p.due ≤ n)) := by
  by_cases hd : d = 0
  · simp [CoreSt.pendS, CoreSt.resS, hd]
  · simp only [CoreSt.pendS, CoreSt.resS, hd, if_false, writes_pendInsert r z c _ n h, List.find?_singleton]
    cases Pend.holds c n r ⟨c.cycle + l, .s d, v.setWidth 65536⟩ <;> rfl

/-! ### Instructions that only write a scalar register -/

/-- All that operation `x` does is to put `val` of the scalar registers on its way to register `d` with latency `l`; it meets no
run-time error and signals nothing. -/
structure OnlyWrites (x : SOp) (l : Nat) (d : R5) (val : CoreSt → Word) : Prop where
  apply : ∀ t g, sApply t g x = t.setCore g ((t.core g).pushS l d (val (t.core g)))
  reads : ∀ c c' : CoreSt, c'.s = c.s → val c' = val c
  noError : ∀ t g c, opErrors t g c (.s x) = [] := by intros; rfl
  noSignal : ∀ t g, signals t g (.s x) = false := by intros; rfl
  notStop : x ≠ .stop := by nofun

section
variable {s : State} {e : Iss} {x : SOp} {l : Nat} {d : R5} {val : CoreSt → Word}

/-- The core in which the operation of a ready bundle acts, its result on its way. -/
theorem OnlyWrites.issueBase_pushS (hx : OnlyWrites x l d val) (o : SlotOp) :
    ((issueBase (s.met e) e [o]).core e.g).pushS l d (val ((issueBase (s.met e) e [o]).core e.g)) =
      { s.core e.g with pend := (s.core e.g).pendS l d (val (s.core e.g)), waiting := none, waitHolds := 0,
                        link := ((s.met e).core e.g).link } := by
  have core : (issueBase (s.met e) e [o]).core e.g =
      { s.core e.g with waiting := none, waitHolds := 0, link := ((s.met e).core e.g).link } := by
    rw [(issueBase_spec (s.met e) e [o]).2, (met_spec s e).2]
  have value : val ((issueBase (s.met e) e [o]).core e.g) = val (s.core e.g) := hx.reads _ _ (by rw [core])
  rw [value, CoreSt.pushS_eq, core]
  rfl

/-- A ready bundle of an operation that only writes a scalar register issues. -/
theorem OnlyWrites.issueOps_eq (hx : OnlyWrites x l d val) (h : Ready s e (.s x)) :
    issueOps s e [.s x] = .next (issueGo (s.met e) e [.s x]) := by
  refine issueOps_one s e _ h ?stall (errors_one _ e _ h.met (hx.noError _ _ _))
  refine stall_sv _ e _ h.met (.inl ⟨x, rfl⟩) (fun hs => absurd (SlotOp.s.inj hs) hx.notStop) fun hs => ?_
  exact absurd hs (by simp [hx.noSignal])

/-- What the issue of such a bundle leaves. -/
theorem OnlyWrites.issuedAs (hx : OnlyWrites x l d val) (h : Ready s e (.s x)) :
    IssuedAs s (issueGo (s.met e) e [.s x]) e (some x) (s.core e.g) ((s.core e.g).resS l d (val (s.core e.g))) := by
  obtain ⟨onlyMet, coreMet⟩ := met_spec s e
  have onlyBase := (issueBase_spec (s.met e) e [.s x]).1
  refine issueGo_spec (s.met e) s e (.s x) (s.core e.g) _ _ _ ((s.met e).core e.g).link
    (onlyMet.trans (onlyBase.trans (OnlyCore.setCore _ e.g _))) (hx.apply _ _) ?core ?seq (CoreSt.pendS_sorted h.ordered l d _)
    fun n r z => CoreSt.writes_pendS h.ordered l d _ n r z
  case core => rw [State.core_setCore_same, hx.issueBase_pushS]
  case seq => rw [coreMet]; exact advance_of_link _ _ _

/-- A command that brings such an operation gives the value it computes from the registers at issue. -/
theorem OnlyWrites.givesS (hx : OnlyWrites x l d val) {i : Instr} (hi : exec i s = issueOps s e [.s x]) {v : Word}
    (hv : Ready s e (.s x) → val (s.core e.g) = v) : GivesS s i e x l d v := by
  intro h
  rw [← hv h]
  exact ⟨_, hi.trans (hx.issueOps_eq h), hx.issuedAs h⟩

end

/-! ### Words of compares, minima and shifts -/

theorem boolWord_decide (p : Prop) [Decidable p] : boolWord (decide p) = if p then 1 else 0 := by
  simp only [boolWord, decide_eq_true_eq]

theorem boolWord_slt (x y : Word) : boolWord (x.slt y) = if x.toInt < y.toInt then 1 else 0 := boolWord_decide _

theorem boolWord_ult (x y : Word) : boolWord (x.ult y) = if x.toNat < y.toNat then 1 else 0 := boolWord_decide _

theorem boolWord_beq (x y : Word) : boolWord (x == y) = if x = y then 1 else 0 := by
  simp only [boolWord, beq_iff_eq]

/-- `<` and `≤` choose alike where equal operands make both choices the same. -/
theorem ite_lt_eq_ite_le {α : Type} [LinearOrder α] {a b : α} {u v : Word} (huv : a = b → u = v) :
    (if a < b then u else v) = if a ≤ b then u else v := by
  rcases lt_trichotomy a b with h | h | h
  · rw [if_pos h, if_pos h.le]
  · rw [if_neg h.not_lt, if_pos h.le, huv h]
  · rw [if_neg h.not_gt, if_neg h.not_ge]

theorem aluVal_min (x y : Word) : aluVal .min x y = if x.toInt ≤ y.toInt then x else y := by
  simp only [aluVal, BitVec.slt_iff_toInt_lt]
  exact ite_lt_eq_ite_le BitVec.eq_of_toInt_eq

theorem aluVal_max (x y : Word) : aluVal .max x y = if x.toInt ≤ y.toInt then y else x := by
  simp only [aluVal, BitVec.slt_iff_toInt_lt]
  exact ite_lt_eq_ite_le fun h => (BitVec.eq_of_toInt_eq h).symm

theorem aluVal_minu (x y : Word) : aluVal .minu x y = if x.toNat ≤ y.toNat then x else y := by
  simp only [aluVal, BitVec.ult_iff_toNat_lt]
  exact ite_lt_eq_ite_le BitVec.eq_of_toNat_eq

theorem aluVal_maxu (x y : Word) : aluVal .maxu x y = if x.toNat ≤ y.toNat then y else x := by
  simp only [aluVal, BitVec.ult_iff_toNat_lt]
  exact ite_lt_eq_ite_le fun h => (BitVec.eq_of_toNat_eq h).symm

theorem sshiftRight_eq_ofInt_div (x : Word) (n : Nat) : x.sshiftRight n = BitVec.ofInt 64 (x.toInt / 2 ^ n) := by
  rw [BitVec.sshiftRight, Int.shiftRight_eq_div_pow, Int.natCast_pow, Nat.cast_ofNat]

/-! ### Products -/

theorem mul_eq_ofNat (x y : Word) : x * y = BitVec.ofNat 64 (x.toNat * y.toNat) := by
  rw [BitVec.ofNat_mul, BitVec.ofNat_toNat, BitVec.ofNat_toNat, BitVec.setWidth_eq, BitVec.setWidth_eq]

/-- The high word of a 128-bit number of any sign. -/
theorem highWord_ofInt (p : Int) : ((BitVec.ofInt 128 p) >>> 64).setWidth 64 = BitVec.ofInt 64 (p / 2 ^ 64) := by
  apply BitVec.eq_of_toNat_eq
  rw [BitVec.toNat_setWidth, BitVec.toNat_ushiftRight, Nat.shiftRight_eq_div_pow, BitVec.toNat_ofInt, BitVec.toNat_ofInt]
  omega

theorem aluVal_mulh (x y : Word) : aluVal .mulh x y = BitVec.ofInt 64 (x.toInt * y.toInt / 2 ^ 64) := by
  rw [← highWord_ofInt, BitVec.ofInt_mul]; rfl

theorem aluVal_mulhu (x y : Word) : aluVal .mulhu x y = BitVec.ofNat 64 (x.toNat * y.toNat / 2 ^ 64) := by
  have exact128 : x.toNat * y.toNat < 2 ^ 128 := by
    calc x.toNat * y.toNat < 2 ^ 64 * 2 ^ 64 := Nat.mul_lt_mul'' x.isLt y.isLt
      _ = 2 ^ 128 := by norm_num
  apply BitVec.eq_of_toNat_eq
  simp only [aluVal, BitVec.toNat_setWidth, BitVec.toNat_ushiftRight, BitVec.toNat_mul, BitVec.toNat_ofNat,
    Nat.shiftRight_eq_div_pow]
  rw [Nat.mod_eq_of_lt (a := x.toNat) (by omega), Nat.mod_eq_of_lt (a := y.toNat) (by omega), Nat.mod_eq_of_lt exact128]

/-! ### Counts of bits -/

/-- Of the low `m` bits, the first `n` from the top are zeros and the next one, if there is one, is not. -/
theorem clzGo_eq {x : Word} {m n : Nat} (hnm : n ≤ m) (zeros : ∀ k < n, x.getLsbD (m - 1 - k) = false)
    (one : n < m → x.getLsbD (m - 1 - n) = true) : clzGo x m = n := by
  induction m generalizing n with
  | zero => simp [clzGo]; omega
  | succ m ih =>
    cases n with
    | zero => simpa [clzGo] using one (by omega)
    | succ n =>
      have top : x.getLsbD m = false := zeros 0 (by omega)
      have rest : clzGo x m = n := by
        refine ih (by omega) (fun k hk => ?_) (fun hn => ?_)
        · rw [← zeros (k + 1) (by omega)]; congr 1; omega
        · rw [← one (by omega)]; congr 1; omega
      simp [clzGo, top, rest, Nat.add_comm]

theorem aluVal_clz {x : Word} {n : Nat} (hn : n ≤ 64) (zeros : ∀ k < n, x.getMsbD k = false)
    (one : n < 64 → x.getMsbD n = true) (y : Word) : aluVal .clz x y = BitVec.ofNat 64 n := by
  have count : clzGo x 64 = n := by
    refine clzGo_eq hn (fun k hk => ?_) (fun h => ?_)
    · simpa [BitVec.getMsbD_eq_getLsbD, show k < 64 by omega] using zeros k hk
    · simpa [BitVec.getMsbD_eq_getLsbD, h] using one h
  rw [aluVal, count]

theorem popGo_eq_length_filter (x : Nat) (n : Nat) : popGo x n = ((List.range n).filter x.testBit).length := by
  induction n with
  | zero => rfl
  | succ n ih =>
    rw [popGo, ih, List.range_succ, List.filter_append, List.length_append, Nat.add_comm]
    congr 1
    rcases Nat.mod_two_eq_zero_or_one (x / 2 ^ n) with h | h <;>
      simp [Nat.testBit_eq_decide_div_mod_eq, h]

theorem aluVal_popc (x y : Word) :
    aluVal .popc x y = BitVec.ofNat 64 ((List.range 64).filter fun k => x.getLsbD k).length := by
  rw [aluVal, popGo_eq_length_filter]; rfl

/-! ### Immediates -/

theorem append_low_eq_ofNat (h : BitVec 32) (x : Word) :
    (h ++ x.setWidth 32 : Word) = BitVec.ofNat 64 (h.toNat * 2 ^ 32 + x.toNat % 2 ^ 32) := by
  have low : x.toNat % 2 ^ 32 < 2 ^ 32 := Nat.mod_lt _ (by norm_num)
  have whole : h.toNat * 2 ^ 32 + x.toNat % 2 ^ 32 < 2 ^ 64 := by omega
  apply BitVec.eq_of_toNat_eq
  rw [BitVec.toNat_append, BitVec.toNat_setWidth, ← Nat.shiftLeft_add_eq_or_of_lt low, Nat.shiftLeft_eq, BitVec.toNat_ofNat,
    Nat.mod_eq_of_lt whole]

theorem aluiVal_slti (x : Word) (imm : BitVec 30) : aluiVal .slti x imm = if x.toInt < imm.toInt then 1 else 0 := by
  rw [aluiVal, boolWord_slt, BitVec.toInt_signExtend_of_le (by norm_num)]

/-! ### The four formats of scalar results -/

section
variable {s : State} {i : Instr} {e : Iss}

theorem alu_onlyWrites (o : SAlu) (d a b : R5) :
    OnlyWrites (.alu o d a b) (aluLat o) d fun c => aluVal o (c.sr a) (c.sr b) where
  apply _ _ := rfl
  reads c c' h := by simp only [CoreSt.sr, h]

theorem alui_onlyWrites (o : SAluI) (d a : R5) (imm : BitVec 30) :
    OnlyWrites (.alui o d a imm) (aluiLat o) d fun c => aluiVal o (c.sr a) imm where
  apply _ _ := rfl
  reads c c' h := by simp only [CoreSt.sr, h]

theorem sliw_onlyWrites (d : R5) (imm : BitVec 32) : OnlyWrites (.sliw d imm) 1 d fun _ => imm.signExtend 64 where
  apply _ _ := rfl
  reads _ _ _ := rfl

theorem slih_onlyWrites (d : R5) (imm : BitVec 32) :
    OnlyWrites (.slih d imm) 1 d fun c => imm ++ (c.sr d).setWidth 32 where
  apply _ _ := rfl
  reads c c' h := by simp only [CoreSt.sr, h]

theorem givesS_alu {o : SAlu} {d a b : R5} {v : Word} (hi : exec i s = issueOps s e [.s (.alu o d a b)])
    (hv : aluVal o ((s.core e.g).sr a) ((s.core e.g).sr b) = v) : GivesS s i e (.alu o d a b) (aluLat o) d v :=
  (alu_onlyWrites o d a b).givesS hi fun _ => hv

theorem givesS_alui {o : SAluI} {d a : R5} {imm : BitVec 30} {v : Word} (hi : exec i s = issueOps s e [.s (.alui o d a imm)])
    (hv : aluiVal o ((s.core e.g).sr a) imm = v) : GivesS s i e (.alui o d a imm) (aluiLat o) d v :=
  (alui_onlyWrites o d a imm).givesS hi fun _ => hv

/-- R144 admits shift counts below 64 only. -/
theorem shift_lt_of_ready {o : SAluI} (shift : o.isShift = true) {d a : R5} {imm : BitVec 30}
    (h : Ready s e (.s (.alui o d a imm))) : imm.toNat < 64 := by
  have legal := h.legal
  by_contra hge
  simp [bundleBreach, SlotOp.breach, sUnused, sValueOk, shift, hge] at legal

/-- A ready shift by an immediate shifts by that immediate. -/
theorem givesS_shift {o : SAluI} (shift : o.isShift = true) {d a : R5} {imm : BitVec 30} {v : Word}
    (hi : exec i s = issueOps s e [.s (.alui o d a imm)])
    (hv : imm.toNat % 64 = imm.toNat → aluiVal o ((s.core e.g).sr a) imm = v) :
    GivesS s i e (.alui o d a imm) (aluiLat o) d v :=
  (alui_onlyWrites o d a imm).givesS hi fun h => hv (Nat.mod_eq_of_lt (shift_lt_of_ready shift h))

end

/-! ### The obligation -/

/-- Settles O7: each instruction only puts `aluVal`, `aluiVal` or its immediate on its way to `d`, and these are the values of
R158's table. -/
theorem scalarResults : Obligations.ScalarResults := by
  refine ⟨fun s e d a b => ?binary, fun s e d a => ⟨fun n hn zeros one => ?clz, ?popc⟩,
    fun s e d a => ⟨fun imm => ?immediate, fun imm => ?halves⟩⟩
  case binary =>
    refine ⟨givesS_alu rfl rfl, givesS_alu rfl rfl, givesS_alu rfl rfl, givesS_alu rfl rfl, givesS_alu rfl rfl,
      givesS_alu rfl rfl, givesS_alu rfl rfl, givesS_alu rfl (sshiftRight_eq_ofInt_div _ _), givesS_alu rfl (mul_eq_ofNat _ _),
      givesS_alu rfl (aluVal_mulh _ _), givesS_alu rfl (aluVal_mulhu _ _), givesS_alu rfl (boolWord_slt _ _),
      givesS_alu rfl (boolWord_ult _ _), givesS_alu rfl (boolWord_beq _ _), givesS_alu rfl (aluVal_min _ _),
      givesS_alu rfl (aluVal_max _ _), givesS_alu rfl (aluVal_minu _ _), givesS_alu rfl (aluVal_maxu _ _)⟩
  case clz => exact givesS_alu rfl (aluVal_clz hn zeros one _)
  case popc => exact givesS_alu rfl (aluVal_popc _ _)
  case immediate =>
    refine ⟨givesS_alui rfl rfl, givesS_alui rfl rfl, givesS_alui rfl rfl, givesS_alui rfl rfl,
      givesS_shift rfl rfl fun count => ?shli, givesS_shift rfl rfl fun count => ?shri, givesS_shift rfl rfl fun count => ?srai,
      givesS_alui rfl (aluiVal_slti _ _), givesS_alui rfl (boolWord_ult _ _), givesS_alui rfl rfl⟩
    case shli => rw [aluiVal, count]
    case shri => rw [aluiVal, count]
    case srai => rw [aluiVal, count, sshiftRight_eq_ofInt_div]
  case halves =>
    exact ⟨(sliw_onlyWrites d imm).givesS rfl fun _ => rfl,
      (slih_onlyWrites d imm).givesS rfl fun _ => append_low_eq_ofNat _ _⟩

end Sys2Proof.Machine

/-! PROOF. What every command keeps: the form of memory, the order of results on their way, and the queue. -/

namespace Sys2Proof.Machine

/-! ### What is kept -/

/-- From `σ` on, the queue is still `q`, and `m` and the cores `cs` keep the two invariants. -/
def KeptAs (σ : State) (q : List Instr) (m : List Host.Cell) (cs : SMap CoreSt) : Prop :=
  q = σ.pending ∧ (σ.MemoryOk → memWf m = true) ∧ (σ.ResultsOrdered → ∀ g, (sget CoreSt.zero cs g).Ordered)

/-- State `s` has the queue of `σ`, and both invariants where `σ` has them. -/
def Keeps (σ s : State) : Prop := KeptAs σ s.pending s.mem s.cores

theorem Keeps.refl (σ : State) : Keeps σ σ := ⟨rfl, id, id⟩

theorem Keeps.trans {σ s t : State} (h : Keeps σ s) (h' : Keeps s t) : Keeps σ t := by
  obtain ⟨hq, hm, hc⟩ := h
  obtain ⟨hq', hm', hc'⟩ := h'
  exact ⟨hq'.trans hq, hm' ∘ hm, hc' ∘ hc⟩

@[simp] theorem keeps_self (σ : State) : Keeps σ σ ↔ True := iff_true_intro (.refl σ)

/-- A state written out keeps what its queue, memory and cores keep; its other fields do not matter. -/
@[simp] theorem keeps_mk {σ} {q m cs f0 f1 f2 f3 f4 f5 f6 f7 f8 f9 f10 f11 f12 f13 f14 f15 f16 f17 f18 f19 f20 f21 f22 f23 f24
    f25 f26 f27 f28 f29 f30 f31 f32 f33 f34 f35 f36 f37 f38 f39 f40 f41 f42} :
    Keeps σ ⟨q, f0, f1, f2, f3, f4, f5, f6, m, f7, cs, f8, f9, f10, f11, f12, f13, f14, f15, f16, f17, f18, f19, f20, f21, f22, f23,
      f24, f25, f26, f27, f28, f29, f30, f31, f32, f33, f34, f35, f36, f37, f38, f39, f40, f41, f42⟩ ↔ KeptAs σ q m cs := Iff.rfl

@[simp] theorem keptAs_fields (σ s : State) : KeptAs σ s.pending s.mem s.cores ↔ Keeps σ s := Iff.rfl

@[simp] theorem keptAs_memWrite {σ : State} {q : List Instr} {m : List Host.Cell} {cs : SMap CoreSt} (a n v : Nat)
    (h : KeptAs σ q m cs) : KeptAs σ q (memWrite m a n v) cs :=
  let ⟨hq, hm, hc⟩ := h
  ⟨hq, fun h => memWf_memWrite a n v (hm h), hc⟩

@[simp] theorem keptAs_memClear {σ : State} {q : List Instr} {m : List Host.Cell} {cs : SMap CoreSt} (p : Nat → Bool)
    (h : KeptAs σ q m cs) : KeptAs σ q (memClear m p) cs :=
  let ⟨hq, hm, hc⟩ := h
  ⟨hq, fun h => memWf_memClear p (hm h), hc⟩

/-- A core written into `t` keeps the order where the core of a state `s` on the way keeps it. -/
theorem Keeps.setCore {σ s t : State} (ht : Keeps σ t) (hs : Keeps σ s) (g : Nat) {c : CoreSt}
    (hc : (s.core g).Ordered → c.Ordered) : Keeps σ (t.setCore g c) := by
  obtain ⟨hq, hm, ho⟩ := ht
  obtain ⟨-, -, hs⟩ := hs
  refine ⟨hq, hm, fun hr k => ?_⟩
  show (State.core (t.setCore g c) k).Ordered
  by_cases hk : k = g
  · rw [hk, State.core_setCore_same]; exact hc (hs hr g)
  · rw [State.core_setCore_ne _ _ hk]; exact ho hr k

@[simp] theorem keeps_setCore {σ s : State} (g : Nat) {c : CoreSt} (h : Keeps σ s) (hc : (s.core g).Ordered → c.Ordered) :
    Keeps σ (s.setCore g c) := h.setCore h g hc

/-- A fold keeps what each of its steps keeps. -/
theorem Keeps.foldl {σ s : State} {α : Type} {f : State → α → State} {l : List α} (h : Keeps σ s)
    (hf : ∀ y x, Keeps σ y → Keeps σ (f y x)) : Keeps σ (l.foldl f s) := by
  induction l generalizing s with
  | nil => exact h
  | cons x l ih => exact ih (hf s x h)

/-- A fold whose steps change nothing that is kept changes nothing of it. -/
@[simp] theorem keeps_foldl {σ s : State} {α : Type} {f : State → α → State} {l : List α}
    (hf : ∀ y x, Keeps σ (f y x) ↔ Keeps σ y) : Keeps σ (l.foldl f s) ↔ Keeps σ s := by
  induction l generalizing s with
  | nil => rfl
  | cons x l ih => exact ih.trans (hf s x)

theorem keeps_foldl_of_mem {σ s : State} {α : Type} {f : State → α → State} {l : List α}
    (hf : ∀ x ∈ l, ∀ y, Keeps σ (f y x) ↔ Keeps σ y) : Keeps σ (l.foldl f s) ↔ Keeps σ s := by
  induction l generalizing s with
  | nil => rfl
  | cons x l ih =>
    exact (ih fun z hz => hf z (List.mem_cons_of_mem _ hz)).trans (hf x List.mem_cons_self s)

@[simp] theorem keeps_ite {σ s t : State} (c : Prop) [Decidable c] :
    Keeps σ (if c then s else t) ↔ if c then Keeps σ s else Keeps σ t := by
  split <;> rfl

theorem keptAs_foldl {σ : State} {q : List Instr} {m : List Host.Cell} {cs : SMap CoreSt} {α : Type}
    {f : List Host.Cell → α → List Host.Cell} {l : List α} (h : KeptAs σ q m cs)
    (hf : ∀ y x, KeptAs σ q y cs → KeptAs σ q (f y x) cs) : KeptAs σ q (l.foldl f m) cs := by
  induction l generalizing m with
  | nil => exact h
  | cons x l ih => exact ih (hf m x h)

theorem keeps_snd {σ : State} {α : Type} {p : α × State} {a : α} {s : State} (h : p = (a, s)) : Keeps σ p.2 ↔ Keeps σ s := by
  rw [h]

/-! ### Outcomes -/

/-- Outcome `o` of a command in `s`: a state that keeps what is kept, or a fault, which `ok` excludes; never a refusal. -/
def Runs (ok : Prop) (s : State) : Host.Outcome State Fault Refusal → Prop
  | .next t => Keeps s t
  | .fault _ => ¬ ok
  | .refused _ => False

@[simp] theorem runs_next (ok : Prop) (s t : State) : Runs ok s (.next t) ↔ Keeps s t := Iff.rfl

@[simp] theorem runs_fault (ok : Prop) (s : State) (f : Fault) : Runs ok s (.fault f) ↔ ¬ ok := Iff.rfl

theorem Runs.mono {ok ok' : Prop} {s : State} {o : Host.Outcome State Fault Refusal} (h : Runs ok s o) (hok : ok' → ok) :
    Runs ok' s o := by
  cases o with
  | next t => exact h
  | fault f => exact fun h' => h (hok h')
  | refused r => exact h

theorem Keeps.leftOf {σ s : State} (hk : Keeps σ s) {ok : Prop} {o : Host.Outcome State Fault Refusal} (h : Runs ok s o) :
    Keeps σ (leftOf s o) := by
  cases o with
  | next t => exact hk.trans h
  | fault f => exact hk
  | refused r => exact hk

/-- A command that faults only where its operands name no unit. -/
theorem Runs.guard {ok bad : Prop} [Decidable bad] {s : State} {f : Fault} {o : Host.Outcome State Fault Refusal}
    (hok : ok → ¬ bad) (h : Runs ok s o) : Runs ok s (if bad then .fault f else o) := by
  split
  · exact fun h' => hok h' ‹bad›
  · exact h

/-! ### Results on their way, operation by operation -/

/-- What every step of a fold keeps, the fold keeps. -/
theorem foldl_invariant {α β : Type} {P : β → Prop} {f : β → α → β} {l : List α} {b : β} (h : P b)
    (hf : ∀ b a, P b → P (f b a)) : P (l.foldl f b) := by
  induction l generalizing b with
  | nil => exact h
  | cons a l ih => exact ih (hf b a h)

@[simp] theorem CoreSt.zero_ordered : CoreSt.zero.Ordered := List.Pairwise.nil

@[simp] theorem CoreSt.pend_put (c : CoreSt) (d : Dest) (v : BitVec 65536) : (c.put d v).pend = c.pend := by
  unfold CoreSt.put
  split
  · split <;> rfl
  all_goals rfl

@[simp] theorem CoreSt.pend_setMove (c : CoreSt) (m : MoveSt) : (c.setMove m).pend = c.pend := rfl

@[simp] theorem CoreSt.pend_signal (c : CoreSt) : c.signal.pend = c.pend := rfl

@[simp] theorem CoreSt.pend_edge (c : CoreSt) (n : Nat) (t : Word) : (c.edge n t).pend = c.pend := rfl

@[simp] theorem CoreSt.pend_clockOn (q n : Nat) (c : CoreSt) : (CoreSt.clockOn q n c).pend = c.pend := by
  induction n generalizing c with
  | zero => rfl
  | succ n ih => exact ih _

/-- The results that are still on their way once those that are due have been written. -/
theorem CoreSt.settle_ordered {c : CoreSt} (h : c.Ordered) : c.settle.Ordered := h.filter _

theorem CoreSt.push_ordered {c : CoreSt} (l : Nat) (d : Dest) (v : BitVec 65536) (h : c.Ordered) : (c.push l d v).Ordered :=
  pendInsert_sorted _ _ h

theorem CoreSt.pushS_ordered {c : CoreSt} (l : Nat) (d : R5) (v : Word) (h : c.Ordered) : (c.pushS l d v).Ordered := by
  rw [CoreSt.pushS_eq]
  exact CoreSt.pendS_sorted h l d v

theorem vApply_ordered {c : CoreSt} (o : VOp) (f : VF) (h : c.Ordered) : (vApply c o f).Ordered := by
  have vec (l : Nat) (d : R5) (v : Vec) : (c.pushV l d v).Ordered := CoreSt.push_ordered _ _ _ h
  have pred (l : Nat) (d : BitVec 3) (v : Word) : (c.pushK l d v).Ordered := CoreSt.push_ordered _ _ _ h
  unfold vApply
  cases o
  all_goals dsimp only
  case vext => exact CoreSt.pushS_ordered _ _ _ h
  case vpackmx => exact CoreSt.pushS_ordered _ _ _ (vec _ _ _)
  case vstat | vstclr => exact h
  case vcmpeq | vcmpne | vcmplt | vcmple | kand | kor | kxor | knot => exact pred _ _ _
  all_goals exact vec _ _ _

theorem takeChunk_pend (c : CoreSt) : (takeChunk c).2.pend = c.pend := by
  unfold takeChunk
  split <;> rfl

theorem clearAcc_ordered {c : CoreSt} (r : BitVec 3) (h : c.Ordered) : (clearAcc c r).Ordered :=
  CoreSt.push_ordered _ _ _ (h.filter _)

theorem tmacApply_ordered {c : CoreSt} (zero : Bool) (f : TF) (h : c.Ordered) : (tmacApply c zero f).Ordered := by
  have chunk : (if f.imm5.getLsbD 1 then takeChunk c else ((c.vr f.a).toNat + (c.vr f.b).toNat * 2 ^ 512, c)).2.Ordered := by
    split
    · rw [CoreSt.Ordered, takeChunk_pend]; exact h
    · exact h
  exact pendInsert_sorted _ _ chunk

theorem tApply_ordered {c : CoreSt} (o : TOp) (f : TF) (h : c.Ordered) : (tApply c o f).Ordered := by
  cases o
  case tmac => exact tmacApply_ordered false f h
  case tmacz => exact tmacApply_ordered true f h
  case tmov => exact CoreSt.push_ordered _ _ _ h
  case tclr =>
    show (tclrApply c f).Ordered
    unfold tclrApply
    split
    · exact foldl_invariant (P := CoreSt.Ordered) h fun c i hc => clearAcc_ordered _ hc
    · exact clearAcc_ordered _ h
  all_goals exact h

/-! ### The similarity unit leaves results on their way alone -/

@[simp] theorem CoreSt.pend_setTop (c : CoreSt) (i : Nat) (l : TopList) : (c.setTop i l).pend = c.pend := rfl

@[simp] theorem SimRes.pend_see (k : Nat) (s : State) (ls : List Nat) (r : SimRes) : (r.see k s ls).2.c.pend = r.c.pend := by
  have one (y : State × SimRes) (a : Nat) : (SimRes.see1 k y a).2.c.pend = y.2.c.pend := by
    unfold SimRes.see1
    split <;> rfl
  unfold SimRes.see
  refine foldl_invariant (P := fun y : State × SimRes => y.2.c.pend = r.c.pend) ?_ fun y a hy => (one y a).trans hy
  rfl

@[simp] theorem SimRes.pend_insert (r : SimRes) (i : Nat) (e : TopEnt) : (r.insert i e).c.pend = r.c.pend := by
  unfold SimRes.insert
  split
  · rfl
  · dsimp only
    split <;> rfl

@[simp] theorem SimRes.pend_close (r : SimRes) (doc : BitVec 32) : (r.close doc).c.pend = r.c.pend := by
  unfold SimRes.close
  split
  · rfl
  · split
    · rfl
    · dsimp only
      split <;> simp

@[simp] theorem pend_segNext (s : State) (g : Nat) (c : CoreSt) : (segNext s g c).pend = c.pend := by
  unfold segNext
  split <;> rfl

@[simp] theorem SimRes.pend_advance (s : State) (g n : Nat) (r : SimRes) : (SimRes.advance s g n r).c.pend = r.c.pend := by
  induction n generalizing r with
  | zero => rfl
  | succ n ih =>
    have next (r : SimRes) : (if r.err.isSome then r else
        let q := if r.c.segLeft ≤ 1 then (s, r) else r.see 3 s (dmLines g (r.c.segAddr + 8) 8)
        SimRes.advance s g n { q.2 with c := segNext q.1 g q.2.c }).c.pend = r.c.pend := by
      split
      · rfl
      · rw [ih, pend_segNext]
        split
        · rfl
        · exact SimRes.pend_see _ _ _ _
    unfold SimRes.advance
    split
    · rfl
    · split
      · rfl
      · refine (next _).trans ?_
        split
        · rfl
        · exact SimRes.pend_close _ _

@[simp] theorem SimRes.pend_token (s : State) (g : Nat) (crv2 : Bool) (a : Nat) (r : SimRes) :
    (SimRes.token s g crv2 a r).c.pend = r.c.pend := by
  have scored : (if crv2 then (match r.c.centroid with
      | none => ([], r)
      | some (base, rtab) => SimRes.crv2 s g base rtab a r) else SimRes.bin1 s g a r).2.c.pend = r.c.pend := by
    split
    · split
      · rfl
      · simp [SimRes.crv2]
    · simp [SimRes.bin1]
  unfold SimRes.token
  split
  · rfl
  · dsimp only
    split
    · exact scored
    · rw [SimRes.pend_advance]; exact scored

@[simp] theorem SimRes.pend_tokens_from (s : State) (g : Nat) (crv2 : Bool) (size n a : Nat) (r : SimRes) :
    (SimRes.tokens_from s g crv2 size n a r).c.pend = r.c.pend := by
  induction n generalizing a r with
  | zero => rfl
  | succ n ih => exact (ih _ _).trans (SimRes.pend_token s g crv2 a r)

theorem CoreSt.pend_withMaxima (c : CoreSt) (m : BitVec 1024) : ({ c with maxima := m } : CoreSt).pend = c.pend := rfl

theorem CoreSt.pend_withQuery (c : CoreSt) (q : BitVec 32768) (m : BitVec 1024) :
    ({ c with query := q, maxima := m } : CoreSt).pend = c.pend := rfl

theorem pend_simQwt (e : SimEnt) (c : CoreSt) : (simQwt e c).c.pend = c.pend := by
  unfold simQwt SimRes.start
  split
  · rfl
  · exact CoreSt.pend_withMaxima _ _
  · exact CoreSt.pend_withMaxima _ _

theorem pend_simMsim (s : State) (g : Nat) (e : SimEnt) (c : CoreSt) : (simMsim s g e c).c.pend = c.pend := by
  unfold simMsim
  extract_lets crv2
  split
  · rfl
  · rw [SimRes.pend_tokens_from]; rfl

theorem pend_simRun (s : State) (g : Nat) (e : SimEnt) (c : CoreSt) : (simRun s g e c).c.pend = c.pend := by
  unfold simRun
  split
  · exact CoreSt.pend_withQuery _ _ _
  · exact pend_simQwt e c
  · rfl
  · exact pend_simMsim s g e c
  · simp [simDseg]
  · unfold simDclose
    split
    · dsimp only
      split
      · simp [SimRes.begin, SimRes.start]
      · rw [SimRes.pend_advance, pend_segNext]
        split <;> simp [SimRes.begin, SimRes.start]
    · split <;> simp [SimRes.start]
  · exact foldl_invariant (P := fun r : SimRes => r.c.pend = c.pend) rfl fun r x hr => by simp [hr]
  · simp [simTkrd, SimRes.start]
  · unfold simTkclr
    simp only [SimRes.start]
    split
    · exact foldl_invariant (P := fun a : CoreSt => a.pend = c.pend) rfl fun a i ha => by simp [ha]
    · rfl
  · unfold simTkcfg
    dsimp only
    split
    · rfl
    · split <;> rfl

/-! ### What each operation of the model keeps -/

section

variable {σ : State}

@[simp] theorem State.keeps_tick (s : State) : Keeps σ (s.tick) ↔ Keeps σ s := by simp [State.tick]

@[simp] theorem State.keeps_setReg (s : State) (a : Nat) (v : Word) :
    Keeps σ (s.setReg a v) ↔ Keeps σ s := by simp [State.setReg]

@[simp] theorem State.keeps_sf (s : State) (a : Nat) (f : Fld) (v : Nat) :
    Keeps σ (s.sf a f v) ↔ Keeps σ s := by simp [State.sf]

@[simp] theorem State.keeps_sfBit (s : State) (a : Nat) (f : Fld) (b : Nat) :
    Keeps σ (s.sfBit a f b) ↔ Keeps σ s := by simp [State.sfBit]

@[simp] theorem State.keeps_emit (s : State) (o : Out) : Keeps σ (s.emit o) ↔ Keeps σ s := by simp [State.emit]

@[simp] theorem State.keeps_setPort (s : State) (p : Nat) (x : PortSt) :
    Keeps σ (s.setPort p x) ↔ Keeps σ s := by simp [State.setPort]

@[simp] theorem State.keeps_request (s : State) (p v : Nat) : Keeps σ (s.request p v) ↔ Keeps σ s := by simp [State.request]

@[simp] theorem State.keeps_modCauseOn (s : State) (p b : Nat) :
    Keeps σ (s.modCauseOn p b) ↔ Keeps σ s := by simp [State.modCauseOn]

@[simp] theorem State.keeps_modCause (s : State) (b : Nat) : Keeps σ (s.modCause b) ↔ Keeps σ s := by simp [State.modCause]

@[simp] theorem State.keeps_sfSat (s : State) (a : Nat) (f : Fld) (n : Nat) :
    Keeps σ (s.sfSat a f n) ↔ Keeps σ s := by simp [State.sfSat]

@[simp] theorem State.keeps_append (s : State) (cls : Nat) (l : LogEnt) :
    Keeps σ (s.append cls l) ↔ Keeps σ s := by simp [State.append]

@[simp] theorem State.keeps_capture (s : State) (cls : Nat) (l : LogEnt) :
    Keeps σ (s.capture cls l) ↔ Keeps σ s := by simp [State.capture]

@[simp] theorem State.keeps_logErr (s : State) (cls : Nat) (l : LogEnt) :
    Keeps σ (s.logErr cls l) ↔ Keeps σ s := by simp [State.logErr]

@[simp] theorem State.keeps_contained (s : State) (e : ErrInfo) :
    Keeps σ (s.contained e) ↔ Keeps σ s := by simp [State.contained]

@[simp] theorem State.keeps_refuseAccess (s : State) (p off : Nat) :
    Keeps σ (s.refuseAccess p off) ↔ Keeps σ s := by simp [State.refuseAccess]

@[simp] theorem State.keeps_notMaster (s : State) (p i a : Nat) :
    Keeps σ (s.notMaster p i a) ↔ Keeps σ s := by simp [State.notMaster]

@[simp] theorem State.keeps_reservedEnc (s : State) (off : Nat) :
    Keeps σ (s.reservedEnc off) ↔ Keeps σ s := by simp [State.reservedEnc]

@[simp] theorem State.keeps_setPwr (s : State) (i : Nat) (x : PwrSt) :
    Keeps σ (s.setPwr i x) ↔ Keeps σ s := by simp [State.setPwr]

@[simp] theorem State.keeps_setPStep (s : State) (i v : Nat) : Keeps σ (s.setPStep i v) ↔ Keeps σ s := by simp [State.setPStep]

@[simp] theorem State.keeps_stackLeave (s : State) (j : Nat) : Keeps σ (s.stackLeave j) ↔ Keeps σ s := by simp [State.stackLeave]

@[simp] theorem State.keeps_padHbm (s : State) (j v : Nat) : Keeps σ (s.padHbm j v) ↔ Keeps σ s := by simp [State.padHbm]

@[simp] theorem State.keeps_stackWake (s : State) (j : Nat) : Keeps σ (s.stackWake j) ↔ Keeps σ s := by simp [State.stackWake]

@[simp] theorem State.keeps_setPState (s : State) (i v : Nat) :
    Keeps σ (s.setPState i v) ↔ Keeps σ s := by simp [State.setPState]

@[simp] theorem State.keeps_enter (s : State) (i g : Nat) : Keeps σ (s.enter i g) ↔ Keeps σ s := by simp [State.enter]

@[simp] theorem State.keeps_exitOver (s : State) (i : Nat) : Keeps σ (s.exitOver i) ↔ Keeps σ s := by
  simp only [State.exitOver]
  (repeat' split) <;> simp

@[simp] theorem State.keeps_startTower (s : State) (i : Nat) : Keeps σ (s.startTower i) ↔ Keeps σ s := by
  simp only [State.startTower]
  (repeat' split) <;> simp

@[simp] theorem keeps_startAll (s : State) (i n : Nat) : Keeps σ (startAll i n s) ↔ Keeps σ s := by
  induction n generalizing s with
  | zero => rfl
  | succ n ih => simp [startAll, ih]

@[simp] theorem State.keeps_exitStart (s : State) (i : Nat) : Keeps σ (s.exitStart i) ↔ Keeps σ s := by simp [State.exitStart]

@[simp] theorem State.keeps_wake (s : State) (i : Nat) : Keeps σ (s.wake i) ↔ Keeps σ s := by simp [State.wake]

@[simp] theorem State.keeps_targetActs (s : State) (i tgt : Nat) :
    Keeps σ (s.targetActs i tgt) ↔ Keeps σ s := by
  simp only [State.targetActs]
  (repeat' split) <;> simp

@[simp] theorem State.keeps_ctlWrite (s : State) (i v : Nat) : Keeps σ (s.ctlWrite i v) ↔ Keeps σ s := by simp [State.ctlWrite]

@[simp] theorem State.keeps_stdEvent (s : State) (i e : Nat) : Keeps σ (s.stdEvent i e) ↔ Keeps σ s := by simp [State.stdEvent]

@[simp] theorem State.keeps_setStand (s : State) (i : Nat) (x : StandSt) :
    Keeps σ (s.setStand i x) ↔ Keeps σ s := by simp [State.setStand]

@[simp] theorem State.keeps_standFatal (s : State) (i : Nat) (e : ErrInfo) :
    Keeps σ (s.standFatal i e) ↔ Keeps σ s := by simp [State.standFatal]

@[simp] theorem State.keeps_warmReg (s : State) (a : Nat) : Keeps σ (s.warmReg a) ↔ Keeps σ s := by
  unfold State.warmReg
  split <;> simp

@[simp] theorem State.keeps_warmRegs (s : State) (p : Nat → Bool) :
    Keeps σ (s.warmRegs p) ↔ Keeps σ s := by simp [State.warmRegs]

@[simp] theorem State.keeps_setFab (s : State) (t : Nat) (x : FabTile) :
    Keeps σ (s.setFab t x) ↔ Keeps σ s := by simp [State.setFab]

@[simp] theorem State.keeps_homeRings (s : State) (t : Nat) : Keeps σ (s.homeRings t) ↔ Keeps σ s := by simp [State.homeRings]

@[simp] theorem State.keeps_parksEnd (s : State) (t : Nat) : Keeps σ (s.parksEnd t) ↔ Keeps σ s := by simp [State.parksEnd]

@[simp] theorem State.keeps_calAbandon (s : State) (t h : Nat) :
    Keeps σ (s.calAbandon t h) ↔ Keeps σ s := by simp [State.calAbandon]

@[simp] theorem State.keeps_setListener (s : State) (t l : Nat) (x : Listener) :
    Keeps σ (s.setListener t l x) ↔ Keeps σ s := by simp [State.setListener]

@[simp] theorem State.keeps_listenTaken (s : State) (u f : Nat) :
    Keeps σ (s.listenTaken u f) ↔ Keeps σ s := by
  simp only [State.listenTaken]
  (repeat' split) <;> simp

@[simp] theorem State.keeps_parkListener (s : State) (t l : Nat) :
    Keeps σ (s.parkListener t l) ↔ Keeps σ s := by simp [State.parkListener]

@[simp] theorem State.keeps_swapEnd (s : State) (t h : Nat) : Keeps σ (s.swapEnd t h) ↔ Keeps σ s := by
  unfold State.swapEnd
  split <;> simp

@[simp] theorem State.keeps_setCtx (s : State) (t x : Nat) (k : CtxSt) :
    Keeps σ (s.setCtx t x k) ↔ Keeps σ s := by simp [State.setCtx]

@[simp] theorem keeps_swapListeners (s : State) (t h k ch : Nat) :
    Keeps σ (swapListeners s t h k ch) ↔ Keeps σ s := by
  refine keeps_foldl fun y u => ?_
  split
  · rfl
  · refine keeps_foldl fun z x => keeps_foldl fun w e => ?_
    split
    · split <;> simp
    · rfl

@[simp] theorem State.keeps_setSlotByte (s : State) (t h k v : Nat) :
    Keeps σ (s.setSlotByte t h k v) ↔ Keeps σ s := by simp [State.setSlotByte]

@[simp] theorem State.keeps_swapBegin (s : State) (t h k : Nat) :
    Keeps σ (s.swapBegin t h k) ↔ Keeps σ s := by
  unfold State.swapBegin
  dsimp only
  split
  · rfl
  · simp only [State.keeps_setFab, State.keeps_sf, keeps_swapListeners, State.keeps_setSlotByte]

@[simp] theorem State.keeps_trunksSettle (s : State) (t : Nat) :
    Keeps σ (s.trunksSettle t) ↔ Keeps σ s := by simp [State.trunksSettle]

@[simp] theorem State.keeps_setTile (s : State) (t : Nat) (x : PlaneTile) :
    Keeps σ (s.setTile t x) ↔ Keeps σ s := by simp [State.setTile]

@[simp] theorem State.keeps_niKeep {s : State} (w : Nat) (hk : Keeps σ s) : Keeps σ (s.niKeep w) := by
  refine hk.foldl fun y k hy => ?_
  dsimp only
  split <;> simp [hy]

@[simp] theorem State.keeps_setSite (s : State) (w : Nat) (x : SiteSt) :
    Keeps σ (s.setSite w x) ↔ Keeps σ s := by simp [State.setSite]

@[simp] theorem State.keeps_tileLogic {s0 : State} (t : Nat) (hk : Keeps σ s0) :
    Keeps σ (s0.tileLogic t) := by
  unfold State.tileLogic
  extract_lets s s1 _ s2 f s3
  have h1 : Keeps σ s1 := (keeps_foldl fun y x => State.keeps_setCtx ..).2 ((State.keeps_parksEnd ..).2 ((State.keeps_trunksSettle ..).2 hk))
  have h3 : Keeps σ s3 := (State.keeps_setFab ..).2 ((State.keeps_setTile ..).2 h1)
  exact h3.foldl fun y c hy => State.keeps_niKeep _ ((State.keeps_setSite ..).2 hy)

@[simp] theorem State.keeps_stackSleep (s : State) (j : Nat) : Keeps σ (s.stackSleep j) ↔ Keeps σ s := by simp [State.stackSleep]

@[simp] theorem State.keeps_setAcc (s : State) (t : Nat) (x : MapAcc) :
    Keeps σ (s.setAcc t x) ↔ Keeps σ s := by simp [State.setAcc]

@[simp] theorem State.keeps_tileReset {s : State} (t : Nat) (hk : Keeps σ s) :
    Keeps σ (s.tileReset t) := by
  have failed : Keeps σ (((s.standsOn t).filter s.inRun).foldl
      (fun y i => y.standFatal i { ErrInfo.plain 12 0x20 with tile := some t }) s) := by simp [hk]
  have logic := State.keeps_tileLogic t failed
  unfold State.tileReset
  simp only [State.keeps_sfSat, State.keeps_sf, State.keeps_setAcc, State.keeps_setFab]
  exact (keeps_foldl fun y j => State.keeps_stackSleep y j).2 ((State.keeps_warmRegs _ _).2 ((State.keeps_homeRings _ _).2 logic))

@[simp] theorem State.keeps_tileCtl {s : State} (v : Nat) (hk : Keeps σ s) : Keeps σ (s.tileCtl v) := by simp [State.tileCtl, hk]

@[simp] theorem State.keeps_dropPending (s : State) (p : Nat) :
    Keeps σ (s.dropPending p) ↔ Keeps σ s := by simp [State.dropPending]

@[simp] theorem State.keeps_nvWindow (s : State) : Keeps σ (s.nvWindow) ↔ Keeps σ s := by simp [State.nvWindow]

@[simp] theorem State.keeps_nvRefused (s : State) (code kind : Nat) :
    Keeps σ (s.nvRefused code kind) ↔ Keeps σ s := by simp [State.nvRefused]

@[simp] theorem State.keeps_nvPut (s : State) (r : NvReq) : Keeps σ (s.nvPut r).2 ↔ Keeps σ s := by
  simp only [State.nvPut]
  (repeat' split) <;> simp

@[simp] theorem State.keeps_nvWrite (s : State) (r : NvReq) : Keeps σ (s.nvWrite r).2 ↔ Keeps σ s := by
  unfold State.nvWrite
  split <;> simp

@[simp] theorem State.keeps_settingsSave (s : State) : Keeps σ (s.settingsSave) ↔ Keeps σ s := by simp [State.settingsSave]

@[simp] theorem State.keeps_obsSwitch (s : State) (old : Nat) :
    Keeps σ (s.obsSwitch old) ↔ Keeps σ s := by simp [State.obsSwitch]

@[simp] theorem State.keeps_armed (s : State) (a : Nat) : Keeps σ (s.armed a) ↔ Keeps σ s := by simp [State.armed]

@[simp] theorem State.keeps_raiseNew (s was : State) (p : Nat) (vs : List Nat) :
    Keeps σ (s.raiseNew was p vs) ↔ Keeps σ s := keeps_foldl fun y v => by split <;> simp

@[simp] theorem State.keeps_regWrite {s : State} (p a : Nat) (r : RegSpec) (from_ v : Nat) (hk : Keeps σ s) :
    Keeps σ (s.regWrite p a r from_ v) := by
  unfold State.regWrite
  dsimp only
  split
  · simp [hk]
  · split
    · simp [hk]
    · have h2 (n : Word) : Keeps σ (if (s.writeFields a from_ v r.fields (s.reg a).toNat false).2 then (s.setReg a n).reservedEnc a
          else s.setReg a n) := by split <;> simp [hk]
      have h3 (n : Word) (y : State) (hy : Keeps σ y) : Keeps σ (if intVectors a = [] then y
          else (y.raiseNew s p (intVectors a)).dropPending p) := by split <;> simp [hy]
      have whole := h3 0 _ (h2 (BitVec.ofNat 64 (s.writeFields a from_ v r.fields (s.reg a).toNat false).1))
      split
      · simp [whole]
      · split
        · simp [whole]
        · split
          · simp [whole]
          · split <;> simp [whole]

theorem State.keeps_wrongPort {s t : State} {p a : Nat} (hk : Keeps σ s) (h : s.wrongPort p a = some t) : Keeps σ t := by
  have master (i : Nat) (h : (if planPort s.planForce i = p then none else some (s.notMaster p i a)) = some t) : Keeps σ t := by
    split at h
    · exact absurd h nofun
    · rw [← Option.some.inj h]; simp [hk]
  unfold State.wrongPort at h
  dsimp only at h
  split at h
  · exact master _ h
  · split at h
    · exact master _ h
    · split at h
      · exact master _ h
      · split at h
        · rw [← Option.some.inj h]; simp [hk]
        · exact absurd h nofun

@[simp] theorem State.keeps_writeWord {s : State} (p off v : Nat) (hk : Keeps σ s) : Keeps σ (s.writeWord p off v) := by
  unfold State.writeWord
  split
  · split
    · rename_i wrong
      exact State.keeps_wrongPort hk wrong
    · extract_lets x
      split
      · simp [hk]
      · split
        · simp [hk]
        · split <;> simp [hk]
  · simp [hk]
  · exact hk
  · split <;> simp [hk]
  · exact hk
  · simp [hk]

@[simp] theorem State.keeps_writeWide {s : State} (p off v : Nat) (hk : Keeps σ s) :
    Keeps σ (s.writeWide p off v) := by
  unfold State.writeWide
  split
  · simp [hk]
  · split
    · split
      · split
        · rename_i wrong
          exact State.keeps_wrongPort hk wrong
        · simp [hk]
      · simp [hk]
    · simp [hk]

@[simp] theorem State.keeps_readWord (s : State) (p off : Nat) :
    Keeps σ (s.readWord p off).2 ↔ Keeps σ s := by
  unfold State.readWord
  split <;> simp

@[simp] theorem State.keeps_readHalf (s : State) (p off : Nat) :
    Keeps σ (s.readHalf p off).2 ↔ Keeps σ s := by
  simp only [State.readHalf]
  (repeat' split) <;> simp

@[simp] theorem State.keeps_readHost (s : State) (p off n : Nat) :
    Keeps σ (s.readHost p off n).2 ↔ Keeps σ s := by
  simp only [State.readHost]
  (repeat' split) <;> simp

@[simp] theorem State.keeps_managed {s : State} (i : MgmtReq) {k : State → State} (hs : Keeps σ s) (hk : Keeps σ (k s)) :
    Keeps σ (s.managed i k) := by
  unfold State.managed
  split
  · exact hs
  · exact hk

@[simp] theorem State.keeps_commitPlan (s : State) (p : Nat) (m : SMap Byte) :
    Keeps σ (s.commitPlan p m) ↔ Keeps σ s := by
  unfold State.commitPlan
  dsimp only
  split
  · simp
  · split
    all_goals
      rename_i written
      simp [← keeps_snd written]

@[simp] theorem State.keeps_commitAsk (s : State) (p : Nat) (m : SMap Byte) :
    Keeps σ (s.commitAsk p m) ↔ Keeps σ s := by simp [State.commitAsk]

@[simp] theorem State.keeps_asMaster {s : State} (p i a : Nat) {k : State → State} (hs : Keeps σ s) (hk : Keeps σ (k s)) :
    Keeps σ (s.asMaster p i a k) := by
  unfold State.asMaster
  split
  · simp [hs]
  · exact hk

@[simp] theorem State.keeps_setHbm (s : State) (j : Nat) (x : HbmSt) :
    Keeps σ (s.setHbm j x) ↔ Keeps σ s := by simp [State.setHbm]

@[simp] theorem State.keeps_setDigestReg (s : State) (a : Nat → Nat) (v : Nat) :
    Keeps σ (s.setDigestReg a v) ↔ Keeps σ s := by simp [State.setDigestReg]

@[simp] theorem State.keeps_runRegs (s : State) (i : Nat) : Keeps σ (s.runRegs i) ↔ Keeps σ s := by simp [State.runRegs]

@[simp] theorem State.keeps_takeBit (s : State) : Keeps σ (s.takeBit).2 ↔ Keeps σ s := by simp [State.takeBit]

@[simp] theorem State.keeps_corrEnt (s : State) (l : LogEnt) : Keeps σ (s.corrEnt l) ↔ Keeps σ s := by simp [State.corrEnt]

@[simp] theorem State.keeps_corrected (s : State) (e : ErrInfo) :
    Keeps σ (s.corrected e) ↔ Keeps σ s := by simp [State.corrected]

@[simp] theorem State.keeps_dead (s : State) (kind tile site sub index cause : Nat) :
    Keeps σ (s.dead kind tile site sub index cause) ↔ Keeps σ s := by simp [State.dead]

@[simp] theorem State.keeps_degradeStack (s : State) (j cause : Nat) :
    Keeps σ (s.degradeStack j cause) ↔ Keeps σ s := by simp [State.degradeStack]

@[simp] theorem State.keeps_hbmMigrate (s : State) (j : Nat) (layer : Bool) (key : Nat) :
    Keeps σ (s.hbmMigrate j layer key) ↔ Keeps σ s := by simp [State.hbmMigrate]

@[simp] theorem State.keeps_hbmBankRepair (s : State) (j b : Nat) :
    Keeps σ (s.hbmBankRepair j b) ↔ Keeps σ s := by simp [State.hbmBankRepair]

@[simp] theorem State.keeps_hbmRowRepair (s : State) (j r : Nat) :
    Keeps σ (s.hbmRowRepair j r) ↔ Keeps σ s := by simp [State.hbmRowRepair]

@[simp] theorem State.keeps_hbmCorrected (s : State) (j o : Nat) :
    Keeps σ (s.hbmCorrected j o) ↔ Keeps σ s := by simp [State.hbmCorrected]

@[simp] theorem State.keeps_setPoison (s : State) (a : Nat) (b : Bool) :
    Keeps σ (s.setPoison a b) ↔ Keeps σ s := by simp [State.setPoison]

@[simp] theorem State.keeps_hbmPoison (s : State) (j o : Nat) :
    Keeps σ (s.hbmPoison j o) ↔ Keeps σ s := by simp [State.hbmPoison]

@[simp] theorem State.keeps_hbmBad (s : State) (j o : Nat) : Keeps σ (s.hbmBad j o) ↔ Keeps σ s := by simp [State.hbmBad]

@[simp] theorem State.keeps_setTs (s : State) (w : Nat) (x : TsSt) :
    Keeps σ (s.setTs w x) ↔ Keeps σ s := by simp [State.setTs]

@[simp] theorem State.keeps_showDegraded (s : State) (w cause : Nat) :
    Keeps σ (s.showDegraded w cause) ↔ Keeps σ s := by simp [State.showDegraded]

@[simp] theorem State.keeps_degradeTower (s : State) (w cause : Nat) :
    Keeps σ (s.degradeTower w cause) ↔ Keeps σ s := by simp [State.degradeTower]

@[simp] theorem State.keeps_tsReplace (s : State) (w b : Nat) :
    Keeps σ (s.tsReplace w b) ↔ Keeps σ s := by
  simp only [State.tsReplace]
  (repeat' split) <;> simp

@[simp] theorem State.keeps_tsCorrected (s : State) (w o : Nat) :
    Keeps σ (s.tsCorrected w o) ↔ Keeps σ s := by simp [State.tsCorrected]

@[simp] theorem State.keeps_tsPoison (s : State) (w o : Nat) : Keeps σ (s.tsPoison w o) ↔ Keeps σ s := by simp [State.tsPoison]

@[simp] theorem State.keeps_tsBad (s : State) (w o : Nat) : Keeps σ (s.tsBad w o) ↔ Keeps σ s := by simp [State.tsBad]

@[simp] theorem State.keeps_bump (s : State) (a n : Nat) : Keeps σ (s.bump a n) ↔ Keeps σ s := by simp [State.bump]

@[simp] theorem State.keeps_coreCount (s : State) (g e n : Nat) :
    Keeps σ (s.coreCount g e n) ↔ Keeps σ s := by simp [State.coreCount]

@[simp] theorem keeps_eccNote (s : State) (g e : Nat) : Keeps σ (eccNote s g e) ↔ Keeps σ s := by simp [eccNote]

@[simp] theorem State.keeps_posState (s : State) (tile site r p v : Nat) :
    Keeps σ (s.posState tile site r p v) ↔ Keeps σ s := by simp [State.posState]

@[simp] theorem State.keeps_coreFault (s : State) (tile site phys cause : Nat) :
    Keeps σ (s.coreFault tile site phys cause) ↔ Keeps σ s := by simp [State.coreFault]

@[simp] theorem State.keeps_placeSpare (s : State) (g : Nat) : Keeps σ (s.placeSpare g) ↔ Keeps σ s := by
  simp only [State.placeSpare]
  (repeat' split) <;> simp

@[simp] theorem State.keeps_fillPlace {s : State} (g : Nat) (hk : Keeps σ s) :
    Keeps σ (s.fillPlace g) := by
  unfold State.fillPlace
  dsimp only
  split
  · split
    · split
      · simp [hk]
      · simp [hk]
    · simp [hk]
  · simp [hk]
  · split
    · simp [hk]
    · simp [hk]
  · simp [hk]

@[simp] theorem State.keeps_failBatch (s : State) (i g : Nat) :
    Keeps σ (s.failBatch i g) ↔ Keeps σ s := by simp [State.failBatch]

@[simp] theorem keeps_fenceCore {s : State} (g cause : Nat) (hk : Keeps σ s) :
    Keeps σ (fenceCore s g cause) := by
  unfold fenceCore
  extract_lets c t st r phys p s1 s2 a s3 src s4 s5
  split
  · exact hk
  · have h1 : Keeps σ s1 := keeps_setCore g hk fun _ => List.Pairwise.nil
    have h5 : Keeps σ s5 := by simp [s5, s4, s3, s2, h1]
    split
    · refine State.keeps_fillPlace g ?_
      split
      · exact (State.keeps_failBatch ..).2 h5
      · exact h5
    · exact State.keeps_fillPlace g h5

@[simp] theorem State.keeps_crossbarParity (s : State) (g : Nat) :
    Keeps σ (s.crossbarParity g) ↔ Keeps σ s := by simp [State.crossbarParity]

@[simp] theorem State.keeps_eccAt {s : State} (p : Place) (e : Ecc) (hk : Keeps σ s) :
    Keeps σ (s.eccAt p e) := by
  unfold State.eccAt
  split <;> simp [hk]

@[simp] theorem State.keeps_wr {s : State} (a n v : Nat) (hk : Keeps σ s) : Keeps σ (s.wr a n v) := by simp [State.wr, hk]

@[simp] theorem State.keeps_store {s : State} (a n v : Nat) (hk : Keeps σ s) :
    Keeps σ (s.store a n v) := by simp [State.store, hk]

@[simp] theorem State.keeps_lineWhole (s : State) (a : Nat) : Keeps σ (s.lineWhole a) ↔ Keeps σ s := by simp [State.lineWhole]

@[simp] theorem keeps_topWrite {s : State} (a : Nat) (es : List TopEnt) (hk : Keeps σ s) : Keeps σ (topWrite s a es) := by
  induction es generalizing s a with
  | nil => exact hk
  | cons e es ih => exact ih _ (by simp [hk])

@[simp] theorem keeps_applyOp {s : State} (p : Pkt) (a room : Nat) (hk : Keeps σ s) :
    Keeps σ (applyOp s p a room).2.2 := by
  have lines (l : List Nat) : Keeps σ (l.foldl (fun y l => y.lineWhole (a + 64 * l)) s) := by simp [hk]
  unfold applyOp
  dsimp only
  repeat' split
  all_goals simp [hk, lines]

@[simp] theorem keeps_digestLate (s : State) (i t : Nat) : Keeps σ (digestLate s i t) ↔ Keeps σ s := by simp [digestLate]

@[simp] theorem State.keeps_ecount (s : State) (t e n : Nat) : Keeps σ (s.ecount t e n) ↔ Keeps σ s := by simp [State.ecount]

@[simp] theorem State.keeps_digest (s : State) (t : Nat) (p : Pkt) (a : Nat) (edge : Bool) :
    Keeps σ (s.digest t p a edge) ↔ Keeps σ s := by simp [State.digest]

@[simp] theorem State.keeps_applyMet {s : State} (t : Nat) (p : Pkt) (pl : Place) (a : Nat) (ecc : List (Nat × Ecc)) (bo : Bool) (hk : Keeps σ s) :
    Keeps σ (s.applyMet t p pl a ecc bo).2.2 := by
  unfold State.applyMet
  dsimp only
  have met : Keeps σ ((ecc.filter fun q => decide (q.1 < s.linesMet p a)).foldl (fun y q => y.eccAt (pl.line q.1) q.2) s) :=
    hk.foldl fun y q hy => by simp [hy]
  repeat' split
  all_goals simp [met]

@[simp] theorem State.keeps_busCount (s : State) (x : Place) : Keeps σ (s.busCount x) ↔ Keeps σ s := by
  unfold State.busCount
  split <;> simp

@[simp] theorem State.keeps_countApplied (s : State) (t : Nat) (pl : Place) :
    Keeps σ (s.countApplied t pl) ↔ Keeps σ s := by simp [State.countApplied]

@[simp] theorem State.keeps_applyAt {s : State} (t : Nat) (p : Pkt) (e : List (Nat × Ecc)) (hk : Keeps σ s) :
    Keeps σ (s.applyAt t p e).2.2 := by
  simp only [State.applyAt]
  (repeat' split) <;> simp [hk]

@[simp] theorem State.keeps_endOp {s : State} (n : NiOp) (hk : Keeps σ s) : Keeps σ (s.endOp n) := by simp [State.endOp, hk]

@[simp] theorem State.keeps_takeSplit (s : State) (l : List Nat) : Keeps σ (s.takeSplit l).2 ↔ Keeps σ s := by
  induction l generalizing s with
  | nil => rfl
  | cons x l ih => simp [State.takeSplit, ih]

@[simp] theorem State.keeps_takeLine (s : State) : Keeps σ (s.takeLine).2 ↔ Keeps σ s := by simp [State.takeLine]

@[simp] theorem keeps_linePut {s : State} (i g : Nat) (m : MoveSt) (l : Nat) (v : BitVec 512) (hk : Keeps σ s) :
    Keeps σ (linePut s i g m l v) := by
  simp only [linePut]
  (repeat' split) <;> simp [hk]

@[simp] theorem State.keeps_endLine {s : State} (i g : Nat) (m : MoveSt) (l : Nat) (hk : Keeps σ s) :
    Keeps σ (s.endLine i g m l) := by
  simp only [State.endLine]
  (repeat' split) <;> simp [hk]

@[simp] theorem State.keeps_endMove {s : State} (i g : Nat) (m : MoveSt) (hk : Keeps σ s) :
    Keeps σ (s.endMove i g m) := by
  unfold State.endMove
  refine Keeps.foldl (by simpa using hk) fun y l hy => ?_
  split
  · split
    rename_i line
    have hz := (keeps_snd line).1 (by simpa using hy)
    split
    · simp [hz]
    · split <;> simp [hz]
  · simp [hy]

@[simp] theorem State.keeps_setLaneByte (s : State) (t q l v : Nat) :
    Keeps σ (s.setLaneByte t q l v) ↔ Keeps σ s := by simp [State.setLaneByte]

@[simp] theorem State.keeps_groupOut (s : State) (t q g v : Nat) :
    Keeps σ (s.groupOut t q g v) ↔ Keeps σ s := by simp [State.groupOut]

@[simp] theorem State.keeps_remapsOver (s : State) (t i : Nat) :
    Keeps σ (s.remapsOver t i) ↔ Keeps σ s := by simp [State.remapsOver]

@[simp] theorem State.keeps_remapsEnd (s : State) (i : Nat) : Keeps σ (s.remapsEnd i) ↔ Keeps σ s := by simp [State.remapsEnd]

@[simp] theorem State.keeps_swapAsk (s : State) (t h k : Nat) :
    Keeps σ (s.swapAsk t h k) ↔ Keeps σ s := by
  unfold State.swapAsk
  split <;> simp

@[simp] theorem State.keeps_swapNext (s : State) (t h : Nat) : Keeps σ (s.swapNext t h) ↔ Keeps σ s := by
  unfold State.swapNext
  split <;> simp

@[simp] theorem State.keeps_swapsEnd (s : State) (i : Nat) : Keeps σ (s.swapsEnd i) ↔ Keeps σ s := by
  refine keeps_foldl fun y q => ?_
  split
  · rfl
  · split <;> simp

@[simp] theorem State.keeps_retireChannel (s : State) (t ch : Nat) :
    Keeps σ (s.retireChannel t ch) ↔ Keeps σ s := by simp [State.retireChannel]

@[simp] theorem State.keeps_clearingOver (s : State) (i : Nat) :
    Keeps σ (s.clearingOver i) ↔ Keeps σ s := by simp [State.clearingOver]

@[simp] theorem State.keeps_setStream (s : State) (w n : Nat) (v : Option Stream) :
    Keeps σ (s.setStream w n v) ↔ Keeps σ s := by simp [State.setStream]

@[simp] theorem State.keeps_sendFlit (s : State) (w m : Nat) (f : TxFlit) :
    Keeps σ (s.sendFlit w m f) ↔ Keeps σ s := by simp [State.sendFlit]

@[simp] theorem State.keeps_sendCtl (s : State) (w type : Nat) (fields : List Nat) :
    Keeps σ (s.sendCtl w type fields) ↔ Keeps σ s := by simp [State.sendCtl]

@[simp] theorem State.keeps_freeStream (s : State) (w n : Nat) :
    Keeps σ (s.freeStream w n) ↔ Keeps σ s := by
  unfold State.freeStream
  split <;> simp

@[simp] theorem State.keeps_freeStreams (s : State) (t i : Nat) (p : Stream → Bool) :
    Keeps σ (s.freeStreams t i p) ↔ Keeps σ s := by simp [State.freeStreams]

@[simp] theorem State.keeps_unbindStreams (s : State) (t i : Nat) (recv : Bool) (e : Nat) :
    Keeps σ (s.unbindStreams t i recv e) ↔ Keeps σ s := by simp [State.unbindStreams]

@[simp] theorem keeps_linePlaces {s : State} (ds : List Nat) (v : BitVec 512) (hk : Keeps σ s) :
    Keeps σ (linePlaces ds v s) := hk.foldl fun y d hy => by simp [hy]

@[simp] theorem State.keeps_frameLine (s : State) (src : Nat) :
    Keeps σ (s.frameLine src).2 ↔ Keeps σ s := by
  unfold State.frameLine
  split <;> simp

@[simp] theorem FrameLine.keeps_flush {s : State} (l : FrameLine) (hk : Keeps σ s) :
    Keeps σ (FrameLine.flush l s).2 := by
  unfold FrameLine.flush
  split <;> simp [hk]

@[simp] theorem keeps_flushLines {s : State} (ls : List FrameLine) (hk : Keeps σ s) : Keeps σ (flushLines ls s).2 := by
  induction ls generalizing s with
  | nil => exact hk
  | cons l ls ih => exact ih (by simp [hk])

@[simp] theorem State.keeps_sendStream (s : State) (w n len v : Nat) :
    Keeps σ (s.sendStream w n len v) ↔ Keeps σ s := by simp [State.sendStream]

@[simp] theorem State.keeps_finishFrame {s : State} (t x c : Nat) (hk : Keeps σ s) :
    Keeps σ (s.finishFrame t x c) := by
  unfold State.finishFrame
  dsimp only
  split
  · exact hk
  · split
    · simp [hk]
    · split
      · simp [hk]
      · refine Keeps.foldl (by simp [hk]) fun y d hy => ?_
        split <;> simp [hy]

@[simp] theorem State.keeps_replaceListener (s : State) (t l : Nat) :
    Keeps σ (s.replaceListener t l) ↔ Keeps σ s := by simp [State.replaceListener]

@[simp] theorem State.keeps_carriageBit (s : State) (u h k : Nat) :
    Keeps σ (s.carriageBit u h k) ↔ Keeps σ s := by simp [State.carriageBit]

@[simp] theorem State.keeps_closeCirc {s0 : State} (t x c : Nat) (hk : Keeps σ s0) :
    Keeps σ (s0.closeCirc t x c) := by simp [State.closeCirc, hk]

@[simp] theorem State.keeps_closeAll {s : State} (t x : Nat) (hk : Keeps σ s) :
    Keeps σ (s.closeAll t x) := hk.foldl fun y c hy => by simp [hy]

@[simp] theorem State.keeps_freeCtx {s : State} (t i : Nat) (hk : Keeps σ s) :
    Keeps σ (s.freeCtx t i) := by
  simp only [State.freeCtx]
  (repeat' split) <;> simp [hk]

@[simp] theorem State.keeps_endCore {s : State} (g : Nat) (hk : Keeps σ s) : Keeps σ (s.endCore g) :=
  keeps_setCore g hk fun _ => List.Pairwise.nil

@[simp] theorem State.keeps_standDigest (s : State) (i : Nat) :
    Keeps σ (s.standDigest i) ↔ Keeps σ s := by simp [State.standDigest]

@[simp] theorem State.keeps_remapLanes (s : State) (t q g i : Nat) :
    Keeps σ (s.remapLanes t q g i) ↔ Keeps σ s := by simp [State.remapLanes]

@[simp] theorem State.keeps_remapsNow (s : State) (t : Nat) : Keeps σ (s.remapsNow t) ↔ Keeps σ s := by
  unfold State.remapsNow
  split <;> simp

@[simp] theorem State.keeps_calHandover (s : State) (t h : Nat) :
    Keeps σ (s.calHandover t h) ↔ Keeps σ s := by
  unfold State.calHandover
  split <;> simp

@[simp] theorem State.keeps_handoversNow (s : State) (i : Nat) :
    Keeps σ (s.handoversNow i) ↔ Keeps σ s := by simp [State.handoversNow]

@[simp] theorem State.keeps_swapsNow (s : State) (i : Nat) : Keeps σ (s.swapsNow i) ↔ Keeps σ s := by simp [State.swapsNow]

@[simp] theorem State.keeps_budgetApply (s : State) (i : Nat) :
    Keeps σ (s.budgetApply i) ↔ Keeps σ s := by
  unfold State.budgetApply
  split <;> simp

@[simp] theorem State.keeps_endRun {s : State} (i state code : Nat) (hk : Keeps σ s) :
    Keeps σ (s.endRun i state code) := by
  unfold State.endRun
  extract_lets cores s1 s2 own s3 s4 s5 a s6 x s7 _ _ s7a s8 _ s9
  have h1 : Keeps σ s1 := hk.foldl fun x g hx => hx.foldl fun y n hy => by simp [hy]
  have h2 : Keeps σ s2 := h1.foldl fun x g hx => hx.foldl fun y m hy => by simp [hy]
  have h3 : Keeps σ s3 := (keeps_foldl fun x t => State.keeps_setTile ..).2 h2
  have h4 : Keeps σ s4 := by
    refine (State.keeps_clearingOver ..).2 (Keeps.foldl (h3.foldl fun x g hx => by simp [hx]) fun x t hx => by simp [hx])
  have h7 : Keeps σ s7 := by simp [s7, s6, s5, h4]
  have h8 : Keeps σ s8 := Keeps.foldl (by simp [s7a, h7]) fun z t hz => by split <;> simp [hz]
  have h9 : Keeps σ s9 := by simp [s9, h8]
  split <;> simp [h9]

@[simp] theorem State.keeps_failLaunch {s : State} (i : Nat) (e : ErrInfo) (hk : Keeps σ s) :
    Keeps σ (s.failLaunch i e) := by simp [State.failLaunch, hk]

@[simp] theorem State.keeps_launchGo {s : State} (i : Nat) (c : RunCopy) (hk : Keeps σ s) :
    Keeps σ (s.launchGo i c) := by
  unfold State.launchGo
  extract_lets a s1 _ s2 ws cleared s3 _ k1 s4 _ s5
  have h2 : Keeps σ s2 := Keeps.foldl (by simp [s1, hk]) fun x g hx => keeps_setCore g hx fun _ => List.Pairwise.nil
  have h3 : Keeps σ s3 := (keeps_mk ..).2 (keptAs_memClear _ h2)
  have h4 : Keeps σ s4 := h3.foldl fun x t hx => by split <;> simp [hx]
  have h5 : Keeps σ s5 := Keeps.foldl (by simp [h4]) fun y w hy => by split <;> simp [hy]
  split <;> simp [h5]

@[simp] theorem State.keeps_launchWord {s : State} (i tag : Nat) (hk : Keeps σ s) :
    Keeps σ (s.launchWord i tag) := by
  simp only [State.launchWord]
  (repeat' split) <;> simp [hk]

@[simp] theorem State.keeps_imageEcc {s : State} (i : Nat) (ecc : List (Nat × Ecc)) (hk : Keeps σ s) :
    Keeps σ (s.imageEcc i ecc) := by
  refine hk.foldl fun y q hy => ?_
  split <;> simp [hy]

@[simp] theorem State.keeps_abortWord (s : State) (i : Nat) : Keeps σ (s.abortWord i) ↔ Keeps σ s := by
  simp only [State.abortWord, keeps_ite, State.keeps_setStand, State.keeps_sf, ite_self]

@[simp] theorem State.keeps_loadCore {s : State} (i : Nat) (e : CoreEnt) (p : ProgEnt) (at_ : Nat) (hk : Keeps σ s) :
    Keeps σ (s.loadCore i e p at_) := by
  refine keeps_setCore e.g ?_ id
  have cleared := keptAs_memClear (fun a => decide (pmAddr e.g 0 ≤ a) && decide (a < pmAddr e.g 0 + 2 ^ 16)) hk
  exact keptAs_foldl cleared fun m w hm => keptAs_memWrite _ _ _ hm

@[simp] theorem State.keeps_loadAll {s : State} (i : Nat) (c : RunCopy) (hk : Keeps σ s) :
    Keeps σ (s.loadAll i c) := by
  unfold State.loadAll
  refine Keeps.foldl (hk.foldl fun y e hy => ?_) fun y q hy => ?_
  · split
    · split <;> simp [hy]
    · exact hy
  · split <;> simp [hy]

@[simp] theorem State.keeps_gtcTo (s : State) (t : Nat) : Keeps σ (s.gtcTo t) ↔ Keeps σ s := by simp [State.gtcTo]

@[simp] theorem State.keeps_gateEval {s : State} (i : Nat) (hk : Keeps σ s) :
    Keeps σ (s.gateEval i) := by
  have fences (l : List Nat) {y : State} (hy : Keeps σ y) : Keeps σ (l.foldl (fun y g => fenceCore y g 6) y) :=
    hy.foldl fun y g hy => by simp [hy]
  unfold State.gateEval
  extract_lets x s0 cores lateC bo lateT clr ok reg streak hr s1 s2 s3 dead s4 s5 p
  have h3 : Keeps σ s3 := by unfold s3; split <;> simp [s2, s1, s0, hk]
  have h5 : Keeps σ s5 := fences _ (h3.foldl fun y g hy => keeps_setCore g hy id)
  split
  · rw [State.keeps_sf]; exact h5
  · exact h5

@[simp] theorem State.keeps_stopStand {s : State} (i : Nat) (hk : Keeps σ s) :
    Keeps σ (s.stopStand i) := by
  unfold State.stopStand
  dsimp only
  rw [State.keeps_setStand]
  refine Keeps.foldl (hk.foldl fun y g hy => keeps_setCore g hy id) fun y t hy => ?_
  split <;> simp [hy]

@[simp] theorem State.keeps_setDiv (s : State) (i l : Nat) : Keeps σ (s.setDiv i l) ↔ Keeps σ s := by simp [State.setDiv]

@[simp] theorem State.keeps_gateClocks (s : State) (i v : Nat) :
    Keeps σ (s.gateClocks i v) ↔ Keeps σ s := by simp [State.gateClocks]

@[simp] theorem State.keeps_throttleMark (s : State) (i : Nat) :
    Keeps σ (s.throttleMark i) ↔ Keeps σ s := by simp [State.throttleMark]

@[simp] theorem State.keeps_beatZero {s : State} (i : Nat) (hk : Keeps σ s) :
    Keeps σ (s.beatZero i) := by
  unfold State.beatZero
  extract_lets x a l s1 s2 s3 s4 y s5
  have h2 : Keeps σ s2 := by simp [s2, s1, hk]
  have h3 : Keeps σ s3 := h2.foldl fun y e hy => by
    dsimp only
    split
    · exact hy
    · exact keeps_setCore _ hy id
  have h4 : Keeps σ s4 := h3.foldl fun y t hy => by split <;> simp [hy]
  split <;> simp [s5, h4]

@[simp] theorem State.keeps_siteUnbound {s : State} (i w : Nat) (hk : Keeps σ s) :
    Keeps σ (s.siteUnbound i w) := by
  unfold State.siteUnbound
  extract_lets t c names s1 s2
  have h1 : Keeps σ s1 := by
    unfold s1
    split
    · exact hk
    · refine Keeps.foldl (by simp [hk]) fun y e hy => ?_
      split
      · split <;> simp [hy]
      · exact hy
  simp [s2, h1]

@[simp] theorem State.keeps_sitesEdge {s : State} (i : Nat) (hk : Keeps σ s) :
    Keeps σ (s.sitesEdge i) := by
  refine hk.foldl fun y w hy => ?_
  split <;> simp [hy]

@[simp] theorem State.keeps_framesEdge {s : State} (i : Nat) (hk : Keeps σ s) :
    Keeps σ (s.framesEdge i) := by
  unfold State.framesEdge
  refine Keeps.foldl (hk.foldl fun y t hy => ?_) fun y w hy => ?_
  · split
    · exact hy.foldl fun z c hz => by simp [hz]
    · exact hy
  · split <;> simp [hy]

@[simp] theorem State.keeps_nominalZero {s : State} (i : Nat) (hk : Keeps σ s) :
    Keeps σ (s.nominalZero i) := hk.foldl fun y e hy => keeps_setCore e.g hy id

@[simp] theorem State.keeps_foldDigest (s : State) (i t : Nat) :
    Keeps σ (s.foldDigest i t) ↔ Keeps σ s := by simp [State.foldDigest]

@[simp] theorem State.keeps_sendCell (s : State) (w : Nat) (p : Pkt) :
    Keeps σ (s.sendCell w p) ↔ Keeps σ s := by simp [State.sendCell]

@[simp] theorem State.keeps_goDown (s : State) (t : Nat) (d : DownReq) :
    Keeps σ (s.goDown t d) ↔ Keeps σ s := by simp [State.goDown]

@[simp] theorem State.keeps_boError (s : State) (i t : Nat) (p : Pkt) (status : Nat) :
    Keeps σ (s.boError i t p status) ↔ Keeps σ s := by simp [State.boError]

@[simp] theorem State.keeps_setFlow (s : State) (t src : Nat) (x : FlowCtx) :
    Keeps σ (s.setFlow t src x) ↔ Keeps σ s := by simp [State.setFlow]

@[simp] theorem State.keeps_flowNote (s : State) (t : Nat) (p : Pkt) (status : Nat) (buffered : Bool) :
    Keeps σ (s.flowNote t p status buffered) ↔ Keeps σ s := by simp [State.flowNote]

@[simp] theorem State.keeps_arrive (s : State) (t : Nat) (p : Pkt) :
    Keeps σ (s.arrive t p) ↔ Keeps σ s := by simp [State.arrive]

@[simp] theorem State.keeps_sendReply (s : State) (t : Nat) (r : Pkt) :
    Keeps σ (s.sendReply t r) ↔ Keeps σ s := by simp [State.sendReply]

@[simp] theorem State.keeps_cacheReply (s : State) (t : Nat) (p r : Pkt) :
    Keeps σ (s.cacheReply t p r) ↔ Keeps σ s := by simp [State.cacheReply]

@[simp] theorem keeps_boGo {s : State} (t : Nat) (ents : List Pkt) (met : List (Nat × Ecc)) (l : List (BoEnt × Nat))
    (acc : List (Nat × Nat × Nat × Nat)) (hk : Keeps σ s) : Keeps σ (boGo t ents met l s acc).1 := by
  induction l generalizing s acc with
  | nil => exact hk
  | cons q l ih =>
    unfold boGo
    split
    · exact ih _ hk
    · split
      · exact ih _ (by simp [hk])
      · split
        · exact ih _ hk
        · exact ih _ (by simp [hk])

@[simp] theorem State.keeps_boApply {s : State} (i t : Nat) (met : List (Nat × Ecc)) (hk : Keeps σ s) :
    Keeps σ (s.boApply i t met) := by
  unfold State.boApply
  extract_lets b clear
  have cleared {y : State} (hy : Keeps σ y) : Keeps σ (clear y) := by simp [clear, hy]
  split
  · exact cleared hk
  · split
    · exact hk
    · have applied := keeps_boGo t b.ents met b.order.zipIdx [] hk
      dsimp only
      refine Keeps.foldl (Keeps.foldl (cleared applied) fun y v hy => ?_) fun y c hy => ?_
      · split
        · split <;> simp [hy]
        · exact hy
      · split <;> simp [hy]

@[simp] theorem State.keeps_takeover {s : State} (g pc : Nat) (run : Bool) (hk : Keeps σ s) :
    Keeps σ (s.takeover g pc run) := by
  have cleared := keptAs_memClear (fun a => decide (dmAddr g 0 ≤ a) && decide (a < dmAddr g 0 + dmBytes)) hk
  refine keeps_setCore g ((State.keeps_placeSpare _ _).2 cleared) fun _ => List.Pairwise.nil

@[simp] theorem State.keeps_closing {s : State} (i n : Nat) (hk : Keeps σ s) :
    Keeps σ (s.closing i n) := by
  unfold State.closing
  extract_lets s2 x ready s3 src s4 a
  have h3 : Keeps σ s3 := Keeps.foldl (by simp [s2, hk]) fun y sp hy => by
    dsimp only
    split <;> simp [hy]
  simp [s4, h3]

@[simp] theorem State.keeps_groupsEdge (s : State) (i n : Nat) (gtc : Word) :
    Keeps σ (s.groupsEdge i n gtc) ↔ Keeps σ s := by simp [State.groupsEdge]

@[simp] theorem State.keeps_newStream (s : State) (w n : Nat) (v : Stream) :
    Keeps σ (s.newStream w n v) ↔ Keeps σ s := by simp [State.newStream]

@[simp] theorem State.keeps_bindStream (s : State) (w : Nat) (v : Stream) :
    Keeps σ (s.bindStream w v) ↔ Keeps σ s := by
  simp only [State.bindStream]
  (repeat' split) <;> simp

@[simp] theorem State.keeps_bindStreams (s : State) (t i : Nat) (recv : Bool) (e : Nat) (b : Binding) :
    Keeps σ (s.bindStreams t i recv e b) ↔ Keeps σ s := by simp [State.bindStreams]

@[simp] theorem State.keeps_edgeAct {s : State} (t x : Nat) (a : EdgeAct) (hk : Keeps σ s) :
    Keeps σ (s.edgeAct t x a) := by
  unfold State.edgeAct
  split <;> simp [hk]

@[simp] theorem State.keeps_ctxEdge {s : State} (t x n : Nat) (hk : Keeps σ s) :
    Keeps σ (s.ctxEdge t x n) := by
  unfold State.ctxEdge
  extract_lets s1 k k1
  have h1 : Keeps σ s1 := hk.foldl fun y a hy => by simp [hy]
  split
  · split <;> simp [h1]
  · simp [h1]

@[simp] theorem State.keeps_clearAdd (s : State) (i : Nat) (a : ClearAct) :
    Keeps σ (s.clearAdd i a) ↔ Keeps σ s := by simp [State.clearAdd]

@[simp] theorem State.keeps_levelBegin (s : State) (i : Nat) : Keeps σ (s.levelBegin i) ↔ Keeps σ s := by simp [State.levelBegin]

@[simp] theorem State.keeps_throttleEnd (s : State) (i : Nat) :
    Keeps σ (s.throttleEnd i) ↔ Keeps σ s := by simp [State.throttleEnd]

@[simp] theorem State.keeps_remapsDue (s : State) (i : Nat) : Keeps σ (s.remapsDue i) ↔ Keeps σ s := by simp [State.remapsDue]

@[simp] theorem State.keeps_takeListeners (s : State) (i : Nat) :
    Keeps σ (s.takeListeners i) ↔ Keeps σ s := by
  refine keeps_foldl fun y t => ?_
  split
  · rfl
  · refine keeps_foldl fun z e => ?_
    dsimp only
    split <;> simp

@[simp] theorem State.keeps_swapsDue (s : State) (i : Nat) : Keeps σ (s.swapsDue i) ↔ Keeps σ s := by simp [State.swapsDue]

theorem mem_edgeInsert {α : Type} {k : Nat} {v : α} {l : List (Nat × α)} {q : Nat × α} :
    q ∈ edgeInsert k v l ↔ q = (k, v) ∨ q ∈ l := by
  induction l with
  | nil => simp [edgeInsert]
  | cons x l ih =>
    unfold edgeInsert
    split
    · simp
    · rw [List.mem_cons, ih, List.mem_cons]; tauto

theorem mem_edgeSort {α : Type} {l : List (Nat × α)} {q : Nat × α} (h : q ∈ edgeSort l) : q ∈ l := by
  have sorted (m : List (Nat × α)) : q ∈ l.foldl (fun m q => edgeInsert q.1 q.2 m) m → q ∈ l ∨ q ∈ m := by
    clear h
    induction l generalizing m with
    | nil => exact .inr
    | cons x l ih =>
      intro h
      rcases ih _ h with h | h
      · exact .inl (List.mem_cons_of_mem _ h)
      · rcases mem_edgeInsert.1 h with rfl | h
        · exact .inl List.mem_cons_self
        · exact .inr h
  exact (sorted [] h).resolve_right List.not_mem_nil

@[simp] theorem State.keeps_openingErrs (s : State) (i : Nat) (gone : List Nat) :
    Keeps σ (s.openingErrs i gone) ↔ Keeps σ s := by
  unfold State.openingErrs
  extract_lets _ places _ slots s1 towers sensors
  have errors : Keeps σ s1 ↔ Keeps σ s := keeps_foldl fun y q => State.keeps_standFatal y i q.2
  refine (keeps_foldl_of_mem fun q hq y => ?_).trans errors
  rcases List.mem_append.1 (mem_edgeSort hq) with hq | hq
  · obtain ⟨g, -, rfl⟩ := List.mem_map.1 hq
    simp
  · obtain ⟨c, -, rfl⟩ := List.mem_map.1 hq
    simp

@[simp] theorem State.keeps_opening (s : State) (i n : Nat) : Keeps σ (s.opening i n) ↔ Keeps σ s := by simp [State.opening]

@[simp] theorem State.keeps_admitEdge {s : State} (i : Nat) (ecc : EdgeEcc) (hk : Keeps σ s) :
    Keeps σ (s.admitEdge i ecc) := by
  unfold State.admitEdge
  extract_lets n p s1 x at_ s2 s3 evt s4 s5 s5' s6 s7
  have h1 : Keeps σ s1 := hk.foldl fun y t hy => by simp [hy]
  have h4 : Keeps σ s4 := by unfold s4; split <;> simp [s3, s2, h1]
  split
  · have h5 : Keeps σ s5 := by unfold s5; split <;> simp [h4]
    split <;> simp [h5]
  · have h5 : Keeps σ s5' := (State.keeps_groupsEdge ..).2 (h4.foldl fun y e hy => keeps_setCore e.g hy id)
    have h6 : Keeps σ s6 := h5.foldl fun y t hy => by split <;> simp [hy]
    refine (State.keeps_setReg ..).2 ?_
    unfold s7
    split
    · simp [h6]
    · split <;> simp [h6]

@[simp] theorem State.keeps_carry (s : State) (t x c : Nat) (q : Circ) :
    Keeps σ (s.carry t x c q) ↔ Keeps σ s := by simp [State.carry]

@[simp] theorem State.keeps_ctxRepeat (s : State) (t x : Nat) :
    Keeps σ (s.ctxRepeat t x) ↔ Keeps σ s := by simp [State.ctxRepeat]

@[simp] theorem State.keeps_holdEdge {s : State} (i : Nat) (hk : Keeps σ s) :
    Keeps σ (s.holdEdge i) := by
  unfold State.holdEdge
  extract_lets x s1 s2
  have h2 : Keeps σ s2 := Keeps.foldl (by simp [s1, hk]) fun y e hy => by
    dsimp only
    split
    · exact keeps_setCore _ hy id
    · exact hy
  split
  · exact h2
  · refine h2.foldl fun y t hy => ?_
    split
    · exact hy
    · rw [State.keeps_ctxRepeat]
      refine hy.foldl fun z e hz => ?_
      split <;> simp [hz]

@[simp] theorem State.keeps_gridStep {s : State} (i : Nat) (ecc : EdgeEcc) (hk : Keeps σ s) :
    Keeps σ (s.gridStep i ecc) := by
  unfold State.gridStep
  extract_lets x s0 on stopped admitted
  have h0 : Keeps σ s0 := State.keeps_sitesEdge i (State.keeps_framesEdge i (State.keeps_nominalZero i (by simp [hk])))
  have hon {y : State} (hy : Keeps σ y) : Keeps σ (on y) := by simp [on, hy]
  have hs : Keeps σ stopped := State.keeps_stopStand i h0
  have ha : Keeps σ admitted := State.keeps_admitEdge i ecc h0
  split
  · exact hon h0
  · split
    · exact hk
    · split
      · refine hon ?_
        split <;> simp [hs]
      · split
        · split
          · exact hon ha
          · exact ha
        · exact hon (State.keeps_holdEdge i h0)

@[simp] theorem State.keeps_unmapLanes (s : State) (t q g i : Nat) :
    Keeps σ (s.unmapLanes t q g i) ↔ Keeps σ s := by simp [State.unmapLanes]

@[simp] theorem State.keeps_remapBack (s : State) (t : Nat) (r : Nat × Nat × Nat × Nat) :
    Keeps σ (s.remapBack t r) ↔ Keeps σ s := by simp [State.remapBack]

@[simp] theorem State.keeps_listenersBack (s : State) (i u h k : Nat) :
    Keeps σ (s.listenersBack i u h k) ↔ Keeps σ s := by
  refine keeps_foldl fun y t => ?_
  split
  · rfl
  · refine keeps_foldl fun z e => ?_
    dsimp only
    split
    · split <;> simp
    · rfl

@[simp] theorem keeps_unswapListeners (s : State) (t h k n : Nat) :
    Keeps σ (unswapListeners s t h k n) ↔ Keeps σ s := by
  refine keeps_foldl fun y u => ?_
  split
  · rfl
  · refine keeps_foldl fun z x => keeps_foldl fun w e => ?_
    split
    · split <;> simp
    · rfl

@[simp] theorem State.keeps_swapUndo (s : State) (t h : Nat) : Keeps σ (s.swapUndo t h) ↔ Keeps σ s := by
  unfold State.swapUndo
  split
  · rfl
  · simp only [State.keeps_setFab, State.keeps_sf, keeps_unswapListeners, State.keeps_setSlotByte]

@[simp] theorem State.keeps_clearUndo (s : State) (i : Nat) (a : ClearAct) :
    Keeps σ (s.clearUndo i a) ↔ Keeps σ s := by
  simp only [State.clearUndo]
  (repeat' split) <;> simp

@[simp] theorem State.keeps_clearDone (s : State) (i : Nat) (a : ClearAct) :
    Keeps σ (s.clearDone i a) ↔ Keeps σ s := by simp [State.clearDone]

@[simp] theorem keeps_copyRead {s : State} (g now n l : Nat) (hk : Keeps σ s) :
    Keeps σ (copyRead s g now n l) := by
  simp only [copyRead]
  (repeat' split) <;> simp [hk]

@[simp] theorem keeps_streamRead {s : State} (g : Nat) (hk : Keeps σ s) : Keeps σ (streamRead s g) := by simp [streamRead, hk]

@[simp] theorem keeps_simFetch {s : State} (g n a k : Nat) (hk : Keeps σ s) :
    Keeps σ (simFetch s g n a k) := by simp [simFetch, hk]

@[simp] theorem State.keeps_setRegion (s : State) (k : Nat) (x : Region) :
    Keeps σ (s.setRegion k x) ↔ Keeps σ s := by simp [State.setRegion]

@[simp] theorem State.keeps_enterRow (s : State) (g : Nat) (own : Bool) :
    Keeps σ (s.enterRow g own) ↔ Keeps σ s := by simp [State.enterRow]

@[simp] theorem State.keeps_leaveRow {s : State} (g : Nat) (own : Bool) (hk : Keeps σ s) :
    Keeps σ (s.leaveRow g own) := by simp [State.leaveRow, hk]

@[simp] theorem keeps_engineSend (s : State) (u g : Nat) (m : MoveSt) (l : Nat) (st : Bool) (v : BitVec 512) :
    Keeps σ (engineSend s u g m l st v) ↔ Keeps σ s := by simp [engineSend]

@[simp] theorem keeps_moveTake {s : State} (g : Nat) (mt : BitVec 3) (l : Nat) (hk : Keeps σ s) :
    Keeps σ (moveTake s g mt l) := by
  unfold moveTake
  split
  · split
    · exact hk
    · split
      · split
        · exact hk
        · exact Keeps.setCore ((keeps_engineSend ..).2 hk) hk g id
      · exact (State.keeps_coreCount ..).2 (keeps_setCore g hk id)
  · exact hk

@[simp] theorem keeps_movePut {s : State} (g : Nat) (mt : BitVec 3) (l : Nat) (hk : Keeps σ s) :
    Keeps σ (movePut s g mt l) := by
  unfold movePut
  split
  · split
    · dsimp only
      split
      · split
        · exact hk
        · exact Keeps.setCore ((keeps_engineSend ..).2 hk) hk g id
      · exact (State.keeps_coreCount ..).2 (keeps_setCore g (by simp [hk]) id)
    · exact hk
  · exact hk

@[simp] theorem keeps_nearDo {s : State} (g now : Nat) (x : Near) (hk : Keeps σ s) :
    Keeps σ (nearDo s g now x) := by
  unfold nearDo
  split
  · simp [hk]
  · simp [hk]
  · split <;> simp [hk]
  · rename_i n l k ecc
    split
    · have h2 : Keeps σ (simFetch ((s.eccAt (.tower (towerOf g) (64 * l)) ecc).coreCount g 22 1) g n (tsAddr (towerOf g) (64 * l)) k) :=
        keeps_simFetch _ _ _ _ ((State.keeps_coreCount ..).2 (State.keeps_eccAt _ _ hk))
      exact (State.keeps_enterRow ..).2 (keeps_setCore g h2 id)
    · exact hk
  · split
    · split <;> simp [hk]
    · simp [hk]
  · split
    · split
      · exact hk
      · exact (State.keeps_enterRow ..).2 (keeps_movePut _ _ _ hk)
    · simp [hk]

@[simp] theorem keeps_portCycle {s : State} (g now : Nat) (bank : Option Nat) (ss rs : List Near) (hk : Keeps σ s) :
    Keeps σ (portCycle s g now bank ss rs).1 := by
  unfold portCycle
  extract_lets c clash y
  split
  rename_i s1 used ss1 served
  have h1 : Keeps σ s1 := by
    have fst := congrArg Prod.fst served
    dsimp only at fst
    rw [← fst]
    split
    · split
      · exact hk
      · exact keeps_setCore g (keeps_nearDo g now _ hk) id
    · exact hk
  split
  · exact h1
  · split
    · exact h1
    · exact keeps_nearDo _ _ _ h1

@[simp] theorem keeps_portCycles {s : State} (g n now : Nat) (bank : Option Nat) (ss rs : List Near) (hk : Keeps σ s) :
    Keeps σ (portCycles g n now bank ss rs s) := by
  induction n generalizing s now bank ss rs with
  | zero => exact hk
  | succ n ih => exact ih _ _ _ _ (by simp [hk])

@[simp] theorem keeps_nearAll {s : State} (g now cycles : Nat) (bank : Option Nat) (near : List Near) (hk : Keeps σ s) :
    Keeps σ (nearAll s g now cycles bank near) := by
  have all (l : List Near) {y : State} (hy : Keeps σ y) : Keeps σ (l.foldl (fun y x => nearDo y g now x) y) :=
    hy.foldl fun y x hy => by simp [hy]
  unfold nearAll
  split
  · exact hk
  · exact all _ (keeps_portCycles _ _ _ _ _ _ (all _ hk))

@[simp] theorem keeps_idleDetect {s : State} (g : Nat) (d : Detect) (hk : Keeps σ s) :
    Keeps σ (idleDetect s g d) := by
  unfold idleDetect
  split <;> simp [hk]

@[simp] theorem State.keeps_cross {s : State} (g : Nat) (x : Around) (hk : Keeps σ s) :
    Keeps σ (s.cross g x) := by
  exact keeps_setCore g ((State.keeps_setRegion ..).2 hk) id

@[simp] theorem State.keeps_droop (s : State) (g : Nat) (x : Around) :
    Keeps σ (s.droop g x) ↔ Keeps σ s := by simp [State.droop]

@[simp] theorem keeps_issueError {s : State} (g code : Nat) (hk : Keeps σ s) :
    Keeps σ (issueError s g code) := by simp [issueError, hk]

@[simp] theorem keeps_issueStall {s : State} (e : Iss) (ops : List SlotOp) (why : List Nat) (hk : Keeps σ s) :
    Keeps σ (issueStall s e ops why) := by
  unfold issueStall
  extract_lets s1 c w c1
  have h1 : Keeps σ s1 := by simp [s1, hk]
  refine keeps_setCore e.g h1 fun h => CoreSt.settle_ordered ?_
  rw [CoreSt.Ordered, CoreSt.pend_clockOn]
  exact h

@[simp] theorem State.keeps_tileTime (s : State) (g : Nat) : Keeps σ (s.tileTime g).2 ↔ Keeps σ s := by
  simp only [State.tileTime]
  (repeat' split) <;> simp

@[simp] theorem keeps_sApply {s : State} (g : Nat) (x : SOp) (hk : Keeps σ s) :
    Keeps σ (sApply s g x) := by
  have results (l : Nat) (d : R5) (v : Word) : Keeps σ (s.setCore g ((s.core g).pushS l d v)) :=
    keeps_setCore g hk (CoreSt.pushS_ordered _ _ _)
  have counted {c : CoreSt} (n k : Nat) (hc : (s.core g).Ordered → c.Ordered) : Keeps σ ((s.coreCount g n k).setCore g c) :=
    Keeps.setCore ((State.keeps_coreCount ..).2 hk) hk g hc
  cases x
  case alu | alui | sliw | slih | jal | lcnt | rdcr | rdhw => exact results _ _ _
  case rdgtc => exact Keeps.setCore ((State.keeps_tileTime ..).2 hk) hk g (CoreSt.pushS_ordered _ _ _)
  case evt | bdone | stop => exact counted _ _ id
  case bwait =>
    unfold sApply
    dsimp only
    split
    · split
      · exact hk
      · exact counted _ _ id
    · split
      · exact hk
      · exact counted _ _ id
  all_goals exact hk

@[simp] theorem keeps_qApply {s : State} (g : Nat) (o : QOp) (f : TF) (hk : Keeps σ s) :
    Keeps σ (qApply s g o f) := by simp [qApply, hk]

@[simp] theorem keeps_towerInOrder {s : State} (g a n : Nat) (hk : Keeps σ s) :
    Keeps σ (towerInOrder s g a n) := by
  refine hk.foldl fun y m hy => ?_
  split
  · exact hy
  · refine hy.foldl fun z l hz => ?_
    extract_lets x
    split
    · exact hz
    · split
      · exact keeps_movePut _ _ _ (State.keeps_leaveRow _ _ (keeps_moveTake _ _ _ hz))
      · split <;> simp [hz]

@[simp] theorem keeps_tsldIssue {s : State} (g : Nat) (f : MF) (hk : Keeps σ s) :
    Keeps σ (tsldIssue s g f) := by simp [tsldIssue, hk]

@[simp] theorem keeps_tsstIssue {s : State} (i g : Nat) (f : MF) (hk : Keeps σ s) :
    Keeps σ (tsstIssue s i g f) := by
  unfold tsstIssue
  extract_lets a v s1 c1 m
  have h1 : Keeps σ s1 := by simp [s1, hk]
  exact keeps_setCore g h1 id

@[simp] theorem keeps_moveIssue {s : State} (i g : Nat) (o : MOp) (f : MF) (hk : Keeps σ s) :
    Keeps σ (moveIssue s i g o f) := by simp [moveIssue, hk]

@[simp] theorem keeps_niIssue {s : State} (i g : Nat) (o : MOp) (f : MF) (p : Place) (payload : Nat) (hk : Keeps σ s) :
    Keeps σ (niIssue s i g o f p payload) := by simp [niIssue, hk]

@[simp] theorem keeps_mcstIssue {s : State} (i g : Nat) (f : MF) (hk : Keeps σ s) :
    Keeps σ (mcstIssue s i g f) := by
  refine hk.foldl fun y t hy => ?_
  split <;> simp [hy]

@[simp] theorem keeps_hxError (s : State) (i g kind status : Nat) :
    Keeps σ (hxError s i g kind status) ↔ Keeps σ s := by simp [hxError]

@[simp] theorem keeps_niNote {s : State} (g status op tile beat : Nat) (hk : Keeps σ s) :
    Keeps σ (niNote s g status op tile beat) := by simp [niNote, hk]

@[simp] theorem keeps_tagComplete {s : State} (g : Nat) (mt : BitVec 3) (status : Nat) (hk : Keeps σ s) :
    Keeps σ (tagComplete s g mt status) := by simp [tagComplete, hk]

@[simp] theorem keeps_hxferIssue {s : State} (i g : Nat) (f : MF) (hk : Keeps σ s) :
    Keeps σ (hxferIssue s i g f) := by
  simp only [hxferIssue]
  (repeat' split) <;> simp [hk]

@[simp] theorem keeps_mApply {s : State} (g : Nat) (o : MOp) (f : MF) (hk : Keeps σ s) :
    Keeps σ (mApply s g o f) := by
  unfold mApply
  extract_lets i c a size
  split
  case h_1 | h_14 => exact keeps_setCore g hk (CoreSt.pushS_ordered _ _ _)
  case h_3 => exact keeps_setCore g hk (CoreSt.push_ordered _ _ _)
  case h_15 => split <;> simp [hk]
  all_goals simp [hk]

@[simp] theorem keeps_opApply {s : State} (g : Nat) (o : SlotOp) (hk : Keeps σ s) :
    Keeps σ (opApply s g o) := by
  cases o
  case s x => exact keeps_sApply g x hk
  case v o f => exact keeps_setCore g hk (vApply_ordered o f)
  case t o f => exact keeps_setCore g hk (tApply_ordered o f)
  case q o f => exact keeps_qApply g o f hk
  case m o f => exact keeps_mApply g o f hk

@[simp] theorem keeps_issueGo {s : State} (e : Iss) (ops : List SlotOp) (hk : Keeps σ s) :
    Keeps σ (issueGo s e ops) := by
  unfold issueGo
  extract_lets c0 counts idle s1 s2 src s3 s4 c1 seqd new names sent c2
  have h2 : Keeps σ s2 := by simp [s2, s1, hk]
  have h3 : Keeps σ s3 := keeps_setCore e.g h2 id
  have h4 : Keeps σ s4 := h3.foldl fun a o ha => by simp [ha]
  refine keeps_setCore e.g h4 fun h => CoreSt.settle_ordered ?_
  rw [CoreSt.Ordered, CoreSt.pend_clockOn]
  exact h

@[simp] theorem keeps_issueTry {s : State} (e : Iss) (ops : List SlotOp) (hk : Keeps σ s) :
    Keeps σ (issueTry s e ops) := by simp [issueTry, hk]

@[simp] theorem keeps_issueBundle {s0 : State} (e : Iss) (ops : List SlotOp) (hk : Keeps σ s0) :
    Keeps σ (issueBundle s0 e ops) := by
  unfold issueBundle
  split <;> simp [hk]

@[simp] theorem keeps_simDo {s : State} (o : QOp) (g : Nat) (hk : Keeps σ s) :
    Keeps σ (simDo o g s) := by
  unfold simDo
  dsimp only
  split
  · exact hk
  · rename_i e rest queue
    split
    · exact hk
    · split
      · exact hk
      · have ran (c : CoreSt) (hc : c.pend = (simRun s g e (s.core g)).c.pend) : Keeps σ (s.setCore g c) :=
          keeps_setCore g hk fun h => by rw [CoreSt.Ordered, hc, pend_simRun]; exact h
        have h1 := ran (if (simRun s g e (s.core g)).err.isSome then { (simRun s g e (s.core g)).c with simStopped := true }
          else { (simRun s g e (s.core g)).c with simQueue := rest }) (by split <;> rfl)
        split
        · rw [State.keeps_standFatal]
          split <;> simp [h1]
        · split <;> simp [h1]

@[simp] theorem keeps_farEcc {s : State} (e : Iss) (a : Nat) (x : Ecc) (hk : Keeps σ s) :
    Keeps σ (farEcc s e a x) := by
  simp only [farEcc]
  (repeat' split) <;> simp [hk]

@[simp] theorem keeps_statusFatal (s : State) (g bundle status : Nat) :
    Keeps σ (statusFatal s g bundle status) ↔ Keeps σ s := by simp [statusFatal]

@[simp] theorem keeps_moveEcc {s : State} (e : Iss) (a : Nat) (xs : List (Nat × Ecc)) (hk : Keeps σ s) :
    Keeps σ (moveEcc s e a xs) := hk.foldl fun y q hy => by simp [hy]

@[simp] theorem keeps_moveDmEcc {s : State} (g : Nat) (m : MoveSt) (x : Ecc) (hk : Keeps σ s) :
    Keeps σ (moveDmEcc s g m x) := by simp [moveDmEcc, hk]

@[simp] theorem State.keeps_rcount (s : State) (t e n : Nat) : Keeps σ (s.rcount t e n) ↔ Keeps σ s := by simp [State.rcount]

@[simp] theorem State.keeps_answerAgain (s : State) (t : Nat) (p : Pkt) (e : FlowEnt) :
    Keeps σ (s.answerAgain t p e) ↔ Keeps σ s := by
  simp only [State.answerAgain]
  (repeat' split) <;> simp

@[simp] theorem State.keeps_refused (s : State) (t : Nat) (p : Pkt) (status : Nat) :
    Keeps σ (s.refused t p status) ↔ Keeps σ s := by simp [State.refused]

@[simp] theorem State.keeps_answer (s : State) (t : Nat) (p : Pkt) (status data : Nat) :
    Keeps σ (s.answer t p status data) ↔ Keeps σ s := by simp [State.answer]

@[simp] theorem State.keeps_ejMark (s : State) (t : Nat) : Keeps σ (s.ejMark t) ↔ Keeps σ s := by simp [State.ejMark]

@[simp] theorem State.keeps_urgent (s : State) (t : Nat) (p : Pkt) :
    Keeps σ (s.urgent t p) ↔ Keeps σ s := by simp [State.urgent]

@[simp] theorem State.keeps_takeBelow (s : State) (n : Nat) : Keeps σ (s.takeBelow n).2 ↔ Keeps σ s := by simp [State.takeBelow]

@[simp] theorem State.keeps_readGranule (s : State) (t : Nat) (p : Pkt) (a k : Nat) :
    Keeps σ (s.readGranule t p a k) ↔ Keeps σ s := by simp [State.readGranule]

@[simp] theorem State.keeps_readEarly (s : State) (t : Nat) (p : Pkt) :
    Keeps σ (s.readEarly t p) ↔ Keeps σ s := by
  simp only [State.readEarly]
  (repeat' split) <;> simp

@[simp] theorem State.keeps_dataLeaves {s : State} (t : Nat) (p : Pkt) (hk : Keeps σ s) :
    Keeps σ (s.dataLeaves t p) := by
  unfold State.dataLeaves
  split <;> simp [hk]

@[simp] theorem State.keeps_enterBo (s : State) (t : Nat) (p : Pkt) :
    Keeps σ (s.enterBo t p) ↔ Keeps σ s := by
  unfold State.enterBo
  split <;> simp

@[simp] theorem State.keeps_serve {s : State} (t : Nat) (p : Pkt) (e : List (Nat × Ecc)) (hk : Keeps σ s) :
    Keeps σ (s.serve t p e) := by
  simp only [State.serve]
  (repeat' split) <;> simp [hk]

@[simp] theorem State.keeps_faultLowest {s u : State} (t c : Nat) (hk : Keeps σ u) : Keeps σ (s.faultLowest u t c) := by
  unfold State.faultLowest
  dsimp only
  split
  · exact hk
  · split <;> simp [hk]

@[simp] theorem State.keeps_serveAll {s : State} (t : Nat) (got : List Pkt) (ecc : List (Nat × Nat × Ecc)) (hk : Keeps σ s) :
    Keeps σ (s.serveAll t got ecc) := by
  unfold State.serveAll
  extract_lets x a ej s1 s2 b s3
  have h1 : Keeps σ s1 := by simp [s1, hk]
  have h2 : Keeps σ s2 := h1.foldl fun y q hy => by simp [hy]
  have h3 : Keeps σ s3 := by unfold s3; split <;> simp [h2]
  split
  · exact h1
  · split
    · exact h3
    · exact h3.foldl fun y c hy => by simp [hy]

@[simp] theorem State.keeps_engineCycle {s : State} (t : Nat) (ecc : List (Nat × Nat × Ecc)) (hk : Keeps σ s) :
    Keeps σ (s.engineCycle t ecc) := by simp [State.engineCycle, hk]

@[simp] theorem State.keeps_confirm (s : State) (t : Nat) (dst : BitVec 4) (src : BitVec 14) (seq : BitVec 16) :
    Keeps σ (s.confirm t dst src seq) ↔ Keeps σ s := by
  simp only [State.confirm]
  (repeat' split) <;> simp

@[simp] theorem State.keeps_freeWindow (s : State) (t : Nat) (dst : BitVec 4) (src : BitVec 14) (seq : BitVec 16) :
    Keeps σ (s.freeWindow t dst src seq) ↔ Keeps σ s := by simp [State.freeWindow]

@[simp] theorem State.keeps_windowMet (s : State) (t : Nat) (dst : BitVec 4) (src : BitVec 14) (seq : BitVec 16) :
    Keeps σ (s.windowMet t dst src seq) ↔ Keeps σ s := by simp [State.windowMet]

@[simp] theorem State.keeps_niAck {s : State} (g : Nat) (n : NiOp) (hk : Keeps σ s) :
    Keeps σ (s.niAck g n) := by simp [State.niAck, hk]

@[simp] theorem State.keeps_niComplete {s : State} (g : Nat) (n : NiOp) (status value : Nat) (hk : Keeps σ s) :
    Keeps σ (s.niComplete g n status value) := by
  unfold State.niComplete
  extract_lets c left v c1 isMine s1 s2 inCore
  have written : c1.pend = c.pend := by
    unfold c1
    split
    · exact CoreSt.pend_put _ _ _
    · rfl
  have h1 : Keeps σ s1 := keeps_setCore g hk fun h => by rw [CoreSt.Ordered, written]; exact h
  split
  · exact keeps_setCore g hk id
  · split
    · exact h1
    · split <;> simp [s2, h1]

@[simp] theorem State.keeps_niReply {s : State} (p : Pkt) (hasData : Bool) (status value : Nat) (hk : Keeps σ s) :
    Keeps σ (s.niReply p hasData status value) := by
  simp only [State.niReply]
  (repeat' split) <;> simp [hk]

@[simp] theorem keeps_engineReply {s : State} (o : MemOp) (status : Nat) (data : BitVec 512) (hk : Keeps σ s) :
    Keeps σ (engineReply s o status data) := by
  unfold engineReply
  split
  · split
    · exact hk
    · exact keeps_setCore _ hk id
  · exact hk

@[simp] theorem State.keeps_overReply {s : State} (room : Nat) (parts : List Pkt) (hk : Keeps σ s) :
    Keeps σ (s.overReply room parts) := by
  refine hk.foldl fun y q hy => ?_
  split <;> simp [hy]

@[simp] theorem keeps_serialGo {s : State} (op : BitVec 8) (bits status v : Nat) (l : List Pkt) (hk : Keeps σ s) :
    Keeps σ (serialGo s op bits status v l) := by
  induction l generalizing s v with
  | nil => exact hk
  | cons p l ih => exact ih _ (by simp [hk])

@[simp] theorem State.keeps_groupReply {s : State} (grp : CombGroup) (hasData : Bool) (status data : Nat) (hk : Keeps σ s) :
    Keeps σ (s.groupReply grp hasData status data) := by
  unfold State.groupReply
  dsimp only
  split
  · exact hk.foldl fun y p hy => by simp [hy]
  · split
    · split
      · split
        · simp [hk]
        · split
          · exact hk.foldl fun y p hy => by simp [hy]
          · exact hk.foldl fun y p hy => by simp [hy]
      · simp [hk]
    · exact hk.foldl fun y p hy => by simp [hy]

@[simp] theorem State.keeps_takeReply {s : State} (t : Nat) (r : Pkt) (hk : Keeps σ s) :
    Keeps σ (s.takeReply t r) := by
  simp only [State.takeReply]
  (repeat' split) <;> simp [hk]

@[simp] theorem State.keeps_takeConfirm (s : State) (t : Nat) (p : Pkt) :
    Keeps σ (s.takeConfirm t p) ↔ Keeps σ s := by simp [State.takeConfirm]

@[simp] theorem State.keeps_resend (s : State) (t : Nat) (p : Pkt) :
    Keeps σ (s.resend t p) ↔ Keeps σ s := by simp [State.resend]

@[simp] theorem State.keeps_takeControl (s : State) (t : Nat) (p : Pkt) :
    Keeps σ (s.takeControl t p) ↔ Keeps σ s := by simp [State.takeControl]

@[simp] theorem State.keeps_release {s : State} (t : Nat) (p : Pkt) (hk : Keeps σ s) :
    Keeps σ (s.release t p) := by
  unfold State.release
  extract_lets x waiting parts held alone seq c inj a s1
  have ha : Keeps σ alone := by simp [alone, hk]
  have h1 : Keeps σ s1 := by simp [s1, hk]
  split
  · exact ha
  · split
    · exact ha
    · split
      · simp [ha]
      · exact (State.keeps_setAcc ..).2 (h1.foldl fun y q hy => keeps_setCore _ hy id)

@[simp] theorem State.keeps_combineCycle {s : State} (t : Nat) (hk : Keeps σ s) :
    Keeps σ (s.combineCycle t) := by
  unfold State.combineCycle
  dsimp only
  split
  · simp [hk]
  · refine Keeps.foldl (by simp [hk]) fun y p hy => ?_
    split <;> simp [hy]

@[simp] theorem State.keeps_markSent {s : State} (t : Nat) (p : Pkt) (hk : Keeps σ s) :
    Keeps σ (s.markSent t p) := by simp [State.markSent, hk]

@[simp] theorem State.keeps_idleSend (s : State) (t d k : Nat) :
    Keeps σ (s.idleSend t d k) ↔ Keeps σ s := by simp [State.idleSend]

@[simp] theorem State.keeps_idleLanes (s : State) (t : Nat) (lanes : List (List Nat)) (left : List Nat) :
    Keeps σ (s.idleLanes t lanes left) ↔ Keeps σ s := by simp [State.idleLanes]

@[simp] theorem Rc.keeps_send (r : Rc) (t d : Nat) (p : Pkt) (lost : List Nat) :
    Keeps σ (r.send t d p lost).s ↔ Keeps σ r.s := by
  unfold Rc.send
  dsimp only
  split <;> simp

theorem Rc.keeps_direct {r q : Rc} {t : Nat} {p : Pkt} {lost : List Nat} (h : r.direct t p lost = some q) :
    Keeps σ q.s ↔ Keeps σ r.s := by
  unfold Rc.direct at h
  dsimp only at h
  split at h
  · exact absurd h nofun
  · rw [← Option.some.inj h]; simp

@[simp] theorem Rc.keeps_detour (r : Rc) (t : Nat) (p : Pkt) (lost : List Nat) : Keeps σ (r.detour t p lost).s ↔ Keeps σ r.s := by
  unfold Rc.detour
  dsimp only
  split
  · simp
  · split <;> simp

theorem State.keeps_meet (s : State) (t : Nat) (p : Pkt) :
    (∀ s1 ∈ (s.meet t p).1, Keeps σ s1 ↔ Keeps σ s) ∧ (Keeps σ (s.meet t p).2 ↔ Keeps σ s) := by
  unfold State.meet
  dsimp only
  split
  · simp
  · simp
  · split <;> simp

@[simp] theorem State.keeps_eject (s : State) (t : Nat) (p : Pkt) (free : Bool) : Keeps σ (s.eject t p free).1 ↔ Keeps σ s := by
  obtain ⟨some', none'⟩ := s.keeps_meet (σ := σ) t p
  unfold State.eject
  split
  · rename_i met
    rw [met] at some'
    exact some' _ rfl
  · rename_i met
    rw [met] at none'
    dsimp only
    split
    · simp [none']
    · split <;> simp [none']

theorem Rc.keeps_inject {r : Rc} (t : Nat) (e : InjEnt) (lost : List Nat) (hk : Keeps σ r.s) : Keeps σ (r.inject t e lost).2.s := by
  unfold Rc.inject
  extract_lets p d go x held used a take
  have htake {y : State} (hy : Keeps σ y) : Keeps σ (take y) := by
    simp only [take]
    split <;> simp [hy]
  have hgo : Keeps σ (go r).2.s := by
    simp only [go]
    split
    · rename_i sent
      simp [Rc.keeps_direct sent, hk]
    · exact hk
  split
  · split
    · simp [hk]
    · exact hgo
  · split
    · exact hk
    · split
      · simp [hk]
      · split
        · split
          · exact hk
          · simp [htake hk]
        · split
          · rename_i sent; rw [sent] at hgo; exact htake hgo
          · rename_i sent; rw [sent] at hgo; exact hgo

theorem Rc.keeps_injectAll {r : Rc} (t : Nat) (lost : List Nat) (es kept : List InjEnt) (hk : Keeps σ r.s) :
    Keeps σ (Rc.injectAll t lost es kept r).s := by
  induction es generalizing r kept with
  | nil => simpa [Rc.injectAll] using hk
  | cons e es ih =>
    have injected := Rc.keeps_inject t e lost hk
    unfold Rc.injectAll
    split
    · rename_i sent; rw [sent] at injected; exact ih _ injected
    · rename_i sent; rw [sent] at injected; exact ih _ injected

theorem keeps_directAll {r : Rc} (t : Nat) (lost : List Nat) (ps left : List Pkt) (hk : Keeps σ r.s) :
    Keeps σ (directAll t lost ps r left).1.s := by
  induction ps generalizing r left with
  | nil => exact hk
  | cons p ps ih =>
    unfold directAll
    split
    · rename_i sent; exact ih _ ((Rc.keeps_direct sent).2 hk)
    · exact ih _ hk

theorem keeps_deliverAll {s : State} (t : Nat) (free : Bool) (ps ref : List Pkt) (hk : Keeps σ s) :
    Keeps σ (deliverAll t free ps s ref).1 := by
  induction ps generalizing s ref with
  | nil => exact hk
  | cons p ps ih =>
    have ejected : Keeps σ (s.eject t p free).1 := by simp [hk]
    unfold deliverAll
    dsimp only
    split
    · split
      · rename_i out; rw [out] at ejected; exact ih _ ejected
      · rename_i out; rw [out] at ejected; exact ih _ (by simp [ejected])
    · split
      · exact ih _ (by simp [hk])
      · split
        · exact ih _ (by simp [hk])
        · split
          · exact ih _ (by simp [hk])
          · exact ih _ (by simp [hk])

@[simp] theorem State.keeps_routerCycle {s : State} (t : Nat) (lost : List Nat) (hk : Keeps σ s) :
    Keeps σ (s.routerCycle t lost) := by
  unfold State.routerCycle
  extract_lets x cells here away lanes free
  split
  rename_i s1 ref delivered
  have h1 : Keeps σ (s1, ref).1 := delivered ▸ keeps_deliverAll _ _ _ _ (by simp [hk])
  extract_lets pool _
  split
  rename_i r2 kept urgents
  have h2 : Keeps σ (r2, kept).1.s := urgents ▸ keeps_directAll _ _ _ _ (by simpa using h1)
  extract_lets _ r2'
  split
  rename_i r3 left directs
  have h3 : Keeps σ (r3, left).1.s := directs ▸ keeps_directAll _ _ _ _ (by simpa [r2'] using h2)
  extract_lets r4 s5 y confs rest entries r5
  have h4 : Keeps σ r4.s := foldl_invariant (P := fun r : Rc => Keeps σ r.s) h3 fun r p hr => by simp [hr]
  have h5 : Keeps σ r5.s := Rc.keeps_injectAll _ _ _ _ (by simp [s5, h4])
  simp [h5]

@[simp] theorem State.keeps_retireLane (s : State) (t q l : Nat) :
    Keeps σ (s.retireLane t q l) ↔ Keeps σ s := by simp [State.retireLane]

@[simp] theorem State.keeps_remapAsk (s : State) (t q g i : Nat) :
    Keeps σ (s.remapAsk t q g i) ↔ Keeps σ s := by
  unfold State.remapAsk
  split <;> simp

@[simp] theorem State.keeps_fenceLaneAs (s : State) (t q l : Nat) (own : Bool) :
    Keeps σ (s.fenceLaneAs t q l own) ↔ Keeps σ s := by simp [State.fenceLaneAs]

@[simp] theorem State.keeps_fenceLane (s : State) (t q l : Nat) :
    Keeps σ (s.fenceLane t q l) ↔ Keeps σ s := by simp [State.fenceLane]

@[simp] theorem State.keeps_seqRefuse (s : State) (t x code cause : Nat) :
    Keeps σ (s.seqRefuse t x code cause) ↔ Keeps σ s := by simp [State.seqRefuse]

theorem keeps_seqExec {s : State} (t x w : Nat) (ctl : Bool) (causes : CtxSt → List Nat) {go : CtxSt → State} (hk : Keeps σ s)
    (hgo : ∀ k, Keeps σ (go k)) : Keeps σ (seqExec s t x w ctl causes go) := by
  unfold seqExec
  dsimp only
  split
  · exact hk
  · split
    · simp [hk]
    · split <;> simp [hk, hgo]

@[simp] theorem keeps_openGo (s : State) (t x c u h slot : Nat) (pd : Bool) :
    Keeps σ (openGo t x c u h slot pd s) ↔ Keeps σ s := by simp [openGo]

@[simp] theorem State.keeps_later (s : State) (t x : Nat) (a : EdgeAct) :
    Keeps σ (s.later t x a) ↔ Keeps σ s := by simp [State.later]

@[simp] theorem FrameLine.keeps_read (s : State) (x : FrameLine) (pushed : Option (BitVec 512)) :
    Keeps σ (FrameLine.read x pushed s).2 ↔ Keeps σ s := by
  unfold FrameLine.read
  split <;> simp

@[simp] theorem FrameLine.keeps_write {s : State} (x : FrameLine) (ks : List Nat) (hk : Keeps σ s) :
    Keeps σ (FrameLine.write x ks s).2 := by
  unfold FrameLine.write
  split <;> simp [hk]

@[simp] theorem keeps_takeLines {s : State} (pushed : Nat → Option (BitVec 512)) (rd wr : List Nat) (l : List (Nat × FrameLine))
    (hk : Keeps σ s) : Keeps σ (takeLines pushed rd wr l s).2 := by
  induction l generalizing s with
  | nil => exact hk
  | cons q l ih =>
    refine ih ?_
    split <;> simp [hk]

@[simp] theorem State.keeps_frameTake {s : State} (t x c : Nat) (rd wr : List Nat) (hk : Keeps σ s) :
    Keeps σ (s.frameTake t x c rd wr) := by simp [State.frameTake, hk]

@[simp] theorem State.keeps_frameMoves {s : State} (t x c : Nat) (hk : Keeps σ s) :
    Keeps σ (s.frameMoves t x c) := by simp [State.frameMoves, hk]

@[simp] theorem State.keeps_setHandle (s : State) (t x c : Nat) (q : Circ) :
    Keeps σ (s.setHandle t x c q) ↔ Keeps σ s := by simp [State.setHandle]

@[simp] theorem State.keeps_frameRead {s : State} (t x c : Nat) (hk : Keeps σ s) :
    Keeps σ (s.frameRead t x c) := by simp [State.frameRead, hk]

@[simp] theorem State.keeps_frontCount (s : State) (t l e n : Nat) :
    Keeps σ (s.frontCount t l e n) ↔ Keeps σ s := by simp [State.frontCount]

@[simp] theorem State.keeps_fenceListener (s : State) (t l : Nat) :
    Keeps σ (s.fenceListener t l) ↔ Keeps σ s := by
  simp only [State.fenceListener]
  (repeat' split) <;> simp

@[simp] theorem State.keeps_setTrim (s : State) (t conv : Nat) (x : Trim) :
    Keeps σ (s.setTrim t conv x) ↔ Keeps σ s := by simp [State.setTrim]

@[simp] theorem State.keeps_tuneCode (s : State) (t conv : Nat) (w : ℤ × ℤ) (d : ℤ) :
    Keeps σ (s.tuneCode t conv w d) ↔ Keeps σ s := by simp [State.tuneCode]

@[simp] theorem State.keeps_mislock (s : State) (t l got : Nat) :
    Keeps σ (s.mislock t l got) ↔ Keeps σ s := by simp [State.mislock]

@[simp] theorem State.keeps_uncarry (s : State) (t x c : Nat) :
    Keeps σ (s.uncarry t x c) ↔ Keeps σ s := by simp [State.uncarry]

@[simp] theorem State.keeps_listenerArrive (s : State) (t l : Nat) :
    Keeps σ (s.listenerArrive t l) ↔ Keeps σ s := by
  simp only [State.listenerArrive]
  (repeat' split) <;> simp

@[simp] theorem State.keeps_setLoop (s : State) (t conv : Nat) (l : LoopSt) :
    Keeps σ (s.setLoop t conv l) ↔ Keeps σ s := by simp [State.setLoop]

@[simp] theorem State.keeps_parkedTurn (s : State) (t conv : Nat) :
    Keeps σ (s.parkedTurn t conv) ↔ Keeps σ s := by simp [State.parkedTurn]

@[simp] theorem State.keeps_inboxCount (s : State) (t i e n : Nat) :
    Keeps σ (s.inboxCount t i e n) ↔ Keeps σ s := by simp [State.inboxCount]

@[simp] theorem State.keeps_setLost (s : State) (t conv : Nat) (lost : Bool) :
    Keeps σ (s.setLost t conv lost) ↔ Keeps σ s := by
  simp only [State.setLost]
  (repeat' split) <;> simp

@[simp] theorem State.keeps_lockTurn (s : State) (t conv : Nat) (lose have_ : Bool) :
    Keeps σ (s.lockTurn t conv lose have_) ↔ Keeps σ s := by simp [State.lockTurn]

@[simp] theorem State.keeps_loopTurn (s : State) (t conv : Nat) (seen : LoopSeen) (dim : Bool) :
    Keeps σ (s.loopTurn t conv seen dim) ↔ Keeps σ s := by simp [State.loopTurn]

@[simp] theorem State.keeps_decoded (s : State) (t conv : Nat) (r : Ring) (f : FecSeen) :
    Keeps σ (s.decoded t conv r f) ↔ Keeps σ s := by
  unfold State.decoded
  split <;> simp

@[simp] theorem State.keeps_setModPark (s : State) (u tr ch : Nat) (m : Option ModPark) :
    Keeps σ (s.setModPark u tr ch m) ↔ Keeps σ s := by simp [State.setModPark]

@[simp] theorem State.keeps_setParked (s : State) (tr ch v : Nat) :
    Keeps σ (s.setParked tr ch v) ↔ Keeps σ s := by simp [State.setParked]

@[simp] theorem State.keeps_modUpdate (s : State) (t tr ch : Nat) :
    Keeps σ (s.modUpdate t tr ch) ↔ Keeps σ s := by
  unfold State.modUpdate
  split <;> simp

@[simp] theorem State.keeps_recordCodes (s : State) (t l : Nat) :
    Keeps σ (s.recordCodes t l) ↔ Keeps σ s := by simp [State.recordCodes]

@[simp] theorem State.keeps_heatersBack (s : State) (t : Nat) :
    Keeps σ (s.heatersBack t) ↔ Keeps σ s := by simp [State.heatersBack]

@[simp] theorem State.keeps_tellIntruder (s : State) (t tr ch : Nat) :
    Keeps σ (s.tellIntruder t tr ch) ↔ Keeps σ s := by
  unfold State.tellIntruder
  split <;> simp

@[simp] theorem State.keeps_fenceChannel (s : State) (t h ch : Nat) :
    Keeps σ (s.fenceChannel t h ch) ↔ Keeps σ s := by
  simp only [State.fenceChannel]
  (repeat' split) <;> simp

@[simp] theorem State.keeps_fenceMod (s : State) (u tr ch : Nat) (locks : Bool) :
    Keeps σ (s.fenceMod u tr ch locks) ↔ Keeps σ s := by
  simp only [State.fenceMod]
  (repeat' split) <;> simp

@[simp] theorem State.keeps_parkMod (s : State) (u tr ch : Nat) :
    Keeps σ (s.parkMod u tr ch) ↔ Keeps σ s := by simp [State.parkMod]

@[simp] theorem State.keeps_tiaStep (s : State) (t : Nat) : Keeps σ (s.tiaStep t) ↔ Keeps σ s := by
  unfold State.tiaStep
  split <;> simp

@[simp] theorem State.keeps_calCode (s : State) (t conv : Nat) (code : BitVec 12) :
    Keeps σ (s.calCode t conv code) ↔ Keeps σ s := by simp [State.calCode]

@[simp] theorem State.keeps_blockLane (s : State) (t q l ch : Nat) :
    Keeps σ (s.blockLane t q l ch) ↔ Keeps σ s := by simp [State.blockLane]

@[simp] theorem State.keeps_blockOne (s : State) (tr ch : Nat) :
    Keeps σ (s.blockOne tr ch) ↔ Keeps σ s := by
  unfold State.blockOne
  extract_lets t h s' sp bad s1
  have h' : Keeps σ s' ↔ Keeps σ s := by unfold s'; split <;> simp
  split
  · split <;> simp
  · split
    · rfl
    · split
      · simp [h']
      · refine (State.keeps_swapAsk ..).trans ((keeps_foldl fun y u => keeps_foldl fun z x => keeps_foldl fun w e => ?_).trans h')
        split <;> simp

@[simp] theorem State.keeps_block (s : State) (t : Nat) : Keeps σ (s.block t) ↔ Keeps σ s := by simp [State.block]

@[simp] theorem State.keeps_setIlkPhase (s : State) (v : Nat) :
    Keeps σ (s.setIlkPhase v) ↔ Keeps σ s := by simp [State.setIlkPhase]

@[simp] theorem State.keeps_disarm (s : State) : Keeps σ (s.disarm) ↔ Keeps σ s := by simp [State.disarm]

@[simp] theorem State.keeps_ilkOpen (s : State) (cause : Nat) (tile conn : Option Nat) :
    Keeps σ (s.ilkOpen cause tile conn) ↔ Keeps σ s := by
  simp only [State.ilkOpen]
  (repeat' split) <;> simp

@[simp] theorem State.keeps_calAbandonAll (s : State) (t : Nat) :
    Keeps σ (s.calAbandonAll t) ↔ Keeps σ s := by simp [State.calAbandonAll]

@[simp] theorem State.keeps_chooseInputs (s : State) (t : Nat) :
    Keeps σ (s.chooseInputs t) ↔ Keeps σ s := by simp [State.chooseInputs]

@[simp] theorem State.keeps_setTaps (s : State) (taps : List Reading) :
    Keeps σ (s.setTaps taps) ↔ Keeps σ s := by simp [State.setTaps]

@[simp] theorem State.keeps_replay (s : State) (w m : Nat) : Keeps σ (s.replay w m) ↔ Keeps σ s := by simp [State.replay]

@[simp] theorem State.keeps_agentDid {s : State} (t : Nat) (p : Pkt) (bo : Bool) (hk : Keeps σ s) :
    Keeps σ (s.agentDid t p bo) := by
  simp only [State.agentDid]
  (repeat' split) <;> simp [hk]

@[simp] theorem State.keeps_agentAnswer {s : State} (t w : Nat) (r : Pkt) (hk : Keeps σ s) :
    Keeps σ (s.agentAnswer t w r) := by
  simp only [State.agentAnswer]
  (repeat' split) <;> simp [hk]

@[simp] theorem State.keeps_takeCell {s : State} (w : Nat) (p : Pkt) (hk : Keeps σ s) :
    Keeps σ (s.takeCell w p) := by simp [State.takeCell, hk]

@[simp] theorem State.keeps_placeFlit {s : State} (w : Nat) (f : Flit) (hk : Keeps σ s) :
    Keeps σ (s.placeFlit w f) := by
  unfold State.placeFlit
  split
  · exact hk.foldl fun y i hy => by simp [hy]
  · split
    · dsimp only
      split <;> simp [hk]
    · exact hk

@[simp] theorem State.keeps_linkEvent (s : State) (w m cause : Nat) :
    Keeps σ (s.linkEvent w m cause) ↔ Keeps σ s := by simp [State.linkEvent]

@[simp] theorem State.keeps_siteDown (s : State) (w : Nat) : Keeps σ (s.siteDown w) ↔ Keeps σ s := by
  unfold State.siteDown
  extract_lets a e st x runs s1 _ s1' _ s2
  have h2 : Keeps σ s2 ↔ Keeps σ s := by
    simp only [s2, s1', s1, State.keeps_setSite, State.keeps_sfSat, State.keeps_setTile, State.keeps_sf]
  split
  · rfl
  · split
    · rw [State.keeps_standFatal, h2]
    · exact h2

@[simp] theorem State.keeps_halfFails (s : State) (w m : Nat) :
    Keeps σ (s.halfFails w m) ↔ Keeps σ s := by
  simp only [State.halfFails, State.keeps_corrected, State.keeps_dead, State.keeps_setSite, State.keeps_sf]

@[simp] theorem State.keeps_setSiteMask (s : State) (w v : Nat) :
    Keeps σ (s.setSiteMask w v) ↔ Keeps σ s := by simp [State.setSiteMask]

@[simp] theorem State.keeps_showMap (s : State) (w : Nat) : Keeps σ (s.showMap w) ↔ Keeps σ s := by simp [State.showMap]

@[simp] theorem State.keeps_setSiteRepair (s : State) (w : Nat) (f : Fld) (v : Nat) :
    Keeps σ (s.setSiteRepair w f v) ↔ Keeps σ s := by simp [State.setSiteRepair]

@[simp] theorem State.keeps_remapSite (s : State) (w : Nat) : Keeps σ (s.remapSite w) ↔ Keeps σ s := by
  simp only [State.remapSite]
  (repeat' split) <;> simp

@[simp] theorem State.keeps_sendAgain (s : State) (w : Nat) (q : List TxFlit) :
    Keeps σ (s.sendAgain w q) ↔ Keeps σ s := by simp [State.sendAgain]

@[simp] theorem State.keeps_spareLeaves (s : State) (w : Nat) :
    Keeps σ (s.spareLeaves w) ↔ Keeps σ s := by simp [State.spareLeaves]

@[simp] theorem State.keeps_moduleBack (s : State) (w m : Nat) :
    Keeps σ (s.moduleBack w m) ↔ Keeps σ s := by simp [State.moduleBack]

@[simp] theorem State.keeps_spareStays (s : State) (w : Nat) : Keeps σ (s.spareStays w) ↔ Keeps σ s := by simp [State.spareStays]

@[simp] theorem State.keeps_censusGen (s : State) : Keeps σ (s.censusGen) ↔ Keeps σ s := by simp [State.censusGen]

@[simp] theorem State.keeps_siteOff (s : State) (w : Nat) : Keeps σ (s.siteOff w) ↔ Keeps σ s := by simp [State.siteOff]

@[simp] theorem State.keeps_siteFailed (s : State) (w : Nat) : Keeps σ (s.siteFailed w) ↔ Keeps σ s := by simp [State.siteFailed]

@[simp] theorem State.keeps_census (s : State) (w : Nat) (d : BitVec 512) (st : Nat) :
    Keeps σ (s.census w d st) ↔ Keeps σ s := by simp [State.census]

@[simp] theorem State.keeps_moduleOut (s : State) (w m : Nat) :
    Keeps σ (s.moduleOut w m) ↔ Keeps σ s := by simp [State.moduleOut]

@[simp] theorem State.keeps_moduleEnt (s : State) (w sub_ x cause : Nat) :
    Keeps σ (s.moduleEnt w sub_ x cause) ↔ Keeps σ s := by simp [State.moduleEnt]

@[simp] theorem State.keeps_formMap (s : State) (w : Nat) : Keeps σ (s.formMap w) ↔ Keeps σ s := by simp [State.formMap]

@[simp] theorem State.keeps_narrow (s : State) (w : Nat) : Keeps σ (s.narrow w) ↔ Keeps σ s := by simp [State.narrow]

@[simp] theorem State.keeps_bringUp (s : State) (w : Nat) (d : BitVec 512) (out : List Nat) :
    Keeps σ (s.bringUp w d out) ↔ Keeps σ s := by simp [State.bringUp]

@[simp] theorem State.keeps_siteBack (s : State) (w : Nat) (d : BitVec 512) (out : List Nat) :
    Keeps σ (s.siteBack w d out) ↔ Keeps σ s := by simp [State.siteBack]

@[simp] theorem State.keeps_sramZero {s : State} (w : Nat) (hk : Keeps σ s) :
    Keeps σ (s.sramZero w) := by simp [State.sramZero, hk]

@[simp] theorem State.keeps_railLost {s : State} (w : Nat) (hk : Keeps σ s) :
    Keeps σ (s.railLost w) := by simp [State.railLost, hk]

@[simp] theorem State.keeps_dieReset {s : State} (w : Nat) (hk : Keeps σ s) :
    Keeps σ (s.dieReset w) :=
  Keeps.foldl ((keeps_mk ..).2 (keptAs_memClear _ hk)) fun y k hy => keeps_setCore _ hy fun _ => List.Pairwise.nil

@[simp] theorem State.keeps_bistMark (s : State) (w r p : Nat) :
    Keeps σ (s.bistMark w r p) ↔ Keeps σ s := by simp [State.bistMark]

@[simp] theorem State.keeps_bistFence {s : State} (w r p : Nat) (hk : Keeps σ s) :
    Keeps σ (s.bistFence w r p) := by
  simp only [State.bistFence]
  (repeat' split) <;> simp [hk]

@[simp] theorem State.keeps_freshRows (s : State) (j : Nat) (p : Nat → Bool) :
    Keeps σ (s.freshRows j p) ↔ Keeps σ s := by simp [State.freshRows]

@[simp] theorem State.keeps_layerOut (s : State) (j l : Nat) : Keeps σ (s.layerOut j l) ↔ Keeps σ s := by simp [State.layerOut]

@[simp] theorem State.keeps_bankOut (s : State) (j key : Nat) :
    Keeps σ (s.bankOut j key) ↔ Keeps σ s := by
  simp only [State.bankOut]
  (repeat' split) <;> simp

@[simp] theorem State.keeps_refuseBar (s : State) (p off : Nat) :
    Keeps σ (s.refuseBar p off) ↔ Keeps σ s := by simp [State.refuseBar]

@[simp] theorem State.keeps_barTimeout (s : State) (p off n : Nat) :
    Keeps σ (s.barTimeout p off n) ↔ Keeps σ s := by simp [State.barTimeout]

@[simp] theorem State.keeps_passRow (s : State) (g : Nat) (back : Bool) :
    Keeps σ (s.passRow g back) ↔ Keeps σ s := by simp [State.passRow]

@[simp] theorem State.keeps_busHost (s : State) (x : Place) (back : Bool) :
    Keeps σ (s.busHost x back) ↔ Keeps σ s := by
  unfold State.busHost
  split <;> simp

@[simp] theorem State.keeps_barPut {s : State} (p : Nat) (x : Place) (n v : Nat) (hk : Keeps σ s) :
    Keeps σ (s.barPut p x n v) := by simp [State.barPut, hk]

@[simp] theorem keeps_barPuts {s : State} (p : Nat) (l : List (Place × Nat)) (v : Nat) (hk : Keeps σ s) :
    Keeps σ (barPuts p l v s) := by
  induction l generalizing s v with
  | nil => exact hk
  | cons q l ih => exact ih _ (by simp [hk])

@[simp] theorem State.keeps_hxLost (s : State) (i : Nat) : Keeps σ (s.hxLost i) ↔ Keeps σ s := by simp [State.hxLost]

@[simp] theorem State.keeps_warmPage (s : State) (i : Nat) : Keeps σ (s.warmPage i) ↔ Keeps σ s := by simp [State.warmPage]

@[simp] theorem State.keeps_portReset {s : State} (p : Nat) (held : Bool) (hk : Keeps σ s) :
    Keeps σ (s.portReset p held) := by
  unfold State.portReset
  extract_lets mine s0 s1 s2 s3 s4 l s5 s6
  have h1 : Keeps σ s1 := Keeps.foldl (hk.foldl fun y i hy => by simp [hy]) fun y i hy => by simp [hy]
  have h2 : Keeps σ s2 := h1.foldl fun y i hy => by simp [hy]
  have h4 : Keeps σ s4 := (State.keeps_sfSat ..).2 ((State.keeps_warmRegs ..).2 h2)
  have h5 : Keeps σ s5 := by unfold s5; split <;> simp [h4]
  exact (State.keeps_modCauseOn ..).2 ((State.keeps_setPort ..).2 h5)

@[simp] theorem State.keeps_assertPerst {s : State} (p : Nat) (hk : Keeps σ s) :
    Keeps σ (s.assertPerst p) := by simp [State.assertPerst, hk]

@[simp] theorem State.keeps_setRefs (s : State) (f : Fld) (v : Nat) :
    Keeps σ (s.setRefs f v) ↔ Keeps σ s := by simp [State.setRefs]

@[simp] theorem State.keeps_standby (s : State) (off : BitVec 16) :
    Keeps σ (s.standby off) ↔ Keeps σ s := by simp [State.standby]

@[simp] theorem State.keeps_standbyMeasure (s : State) : Keeps σ (s.standbyMeasure) ↔ Keeps σ s := by simp [State.standbyMeasure]

@[simp] theorem State.keeps_sendPending (s : State) (p v : Nat) :
    Keeps σ (s.sendPending p v) ↔ Keeps σ s := by simp [State.sendPending]

@[simp] theorem State.keeps_busHostAt (s : State) (i a : Nat) (back : Bool) :
    Keeps σ (s.busHostAt i a back) ↔ Keeps σ s := by
  unfold State.busHostAt
  split <;> simp

@[simp] theorem State.keeps_hxCarry (s : State) (p n : Nat) : Keeps σ (s.hxCarry p n) ↔ Keeps σ s := by simp [State.hxCarry]

@[simp] theorem keeps_hxWrite (s : State) (p i : Nat) (m : MoveSt) (ls : List Nat) :
    Keeps σ (hxWrite p i m ls s) ↔ Keeps σ s := by
  unfold hxWrite
  split <;> simp

@[simp] theorem keeps_hxOut (s : State) (p i : Nat) (m : MoveSt) (gone : List Nat) (q : Nat × Nat) :
    Keeps σ (hxOut p i m gone q s) ↔ Keeps σ s := by simp [hxOut]

@[simp] theorem keeps_hxServe {s : State} (p i g : Nat) (m : MoveSt) (gone : List Nat) (hk : Keeps σ s) :
    Keeps σ (hxServe p i g m gone s) := by
  unfold hxServe
  split <;> simp [hk]

@[simp] theorem keeps_hxRound {s : State} (p i : Nat) (gone : List Nat) (hk : Keeps σ s) :
    Keeps σ (hxRound p i gone s) := by
  unfold hxRound
  extract_lets own asks
  have ho : Keeps σ own := by unfold own; split <;> simp [hk]
  refine ho.foldl fun y k hy => ?_
  split
  · exact hy
  · split
    · exact hy
    · dsimp only
      split <;> simp [hy]

@[simp] theorem keeps_hxLines {s : State} (i : Nat) (m : MoveSt) (data : List (BitVec 512)) (ls : List Nat) (hk : Keeps σ s) :
    Keeps σ (hxLines i m data ls s) := by
  refine hk.foldl fun y l hy => ?_
  split <;> simp [hy]

@[simp] theorem keeps_hxEnd {s : State} (i g : Nat) (m : MoveSt) (status : Nat) (hk : Keeps σ s) :
    Keeps σ (hxEnd s i g m status) := by simp [hxEnd, hk]

@[simp] theorem State.keeps_respond (s : State) (p protocol units : Nat) (fields : List Nat) :
    Keeps σ (s.respond p protocol units fields) ↔ Keeps σ s := by simp [State.respond]

@[simp] theorem State.keeps_spdm (s : State) (v : Via) (n : Nat) (fields : List Nat) :
    Keeps σ (s.spdm v n fields) ↔ Keeps σ s := by simp [State.spdm]

@[simp] theorem State.keeps_spdmError (s : State) (v : Via) (code : Nat) :
    Keeps σ (s.spdmError v code) ↔ Keeps σ s := by simp [State.spdmError]

@[simp] theorem State.keeps_takeKey (s : State) : Keeps σ (s.takeKey).2 ↔ Keeps σ s := by simp [State.takeKey]

@[simp] theorem State.keeps_measured (s : State) (v : Via) (index : Nat) (sig : Bool) (nonce : BitVec 256) (blocks : List (List Nat)) :
    Keeps σ (s.measured v index sig nonce blocks) ↔ Keeps σ s := by
  simp only [State.measured]
  (repeat' split) <;> simp

@[simp] theorem State.keeps_setHoldover (s : State) (v : Nat) :
    Keeps σ (s.setHoldover v) ↔ Keeps σ s := by simp [State.setHoldover]

@[simp] theorem State.keeps_park (s0 : State) (i : Nat) : Keeps σ (s0.park i) ↔ Keeps σ s0 := by simp [State.park]

@[simp] theorem State.keeps_parkAll {s : State} (hk : Keeps σ s) : Keeps σ (s.parkAll) := by
  refine Keeps.foldl (hk.foldl fun y i hy => ?_) fun y i hy => by simp [hy]
  simp [hy]

@[simp] theorem State.keeps_moduleFatal (s : State) (e : ErrInfo) :
    Keeps σ (s.moduleFatal e) ↔ Keeps σ s := by simp [State.moduleFatal]

@[simp] theorem State.keeps_holdover {s : State} (hk : Keeps σ s) : Keeps σ (s.holdover) := by simp [State.holdover, hk]

@[simp] theorem State.keeps_bedTurn (s : State) : Keeps σ (s.bedTurn) ↔ Keeps σ s := by simp [State.bedTurn]

@[simp] theorem State.keeps_refWell (s : State) (r : Nat) : Keeps σ (s.refWell r) ↔ Keeps σ s := by simp [State.refWell]

@[simp] theorem State.keeps_switchDone (s : State) (forced : Bool) (off : BitVec 16) :
    Keeps σ (s.switchDone forced off) ↔ Keeps σ s := by simp [State.switchDone]

@[simp] theorem State.keeps_setSiteLock (s : State) (w v : Nat) :
    Keeps σ (s.setSiteLock w v) ↔ Keeps σ s := by simp [State.setSiteLock]

@[simp] theorem State.keeps_setLocks (s : State) (t : Nat) (on : Bool) :
    Keeps σ (s.setLocks t on) ↔ Keeps σ s := by simp [State.setLocks]

@[simp] theorem State.keeps_refBack (s : State) (x : RefSeen) : Keeps σ (s.refBack x) ↔ Keeps σ s := by simp [State.refBack]

@[simp] theorem State.keeps_parkExit (s : State) (i : Nat) : Keeps σ (s.parkExit i) ↔ Keeps σ s := by simp [State.parkExit]

@[simp] theorem State.keeps_unpark (s : State) (i : Nat) : Keeps σ (s.unpark i) ↔ Keeps σ s := by simp [State.unpark]

@[simp] theorem State.keeps_endRuns {s : State} (state code : Nat) (hk : Keeps σ s) :
    Keeps σ (s.endRuns state code) := hk.foldl fun y i hy => by simp [hy]

@[simp] theorem State.keeps_parkReturn {s : State} (hk : Keeps σ s) : Keeps σ (s.parkReturn) := by simp [State.parkReturn, hk]

@[simp] theorem State.keeps_warmBegin {s : State} (bist : Bool) (hk : Keeps σ s) :
    Keeps σ (s.warmBegin bist) := by
  unfold State.warmBegin
  extract_lets a s0 s1 s2 s3 s4 s5 s6
  have h0 : Keeps σ s0 := Keeps.foldl (State.keeps_endRuns 0 0x0E hk) fun y t hy => by simp [hy]
  have h1 : Keeps σ s1 := (State.keeps_warmRegs ..).2 h0
  have h3 : Keeps σ s3 := Keeps.foldl (by simp [s2, h1]) fun y t hy => by simp [hy]
  have h4 : Keeps σ s4 := (keeps_foldl fun y j => State.keeps_stackSleep y j).2 h3
  have h6 : Keeps σ s6 := by simp [s6, s5, h4]
  clear_value s6
  exact (keeps_mk ..).2 h6

@[simp] theorem State.keeps_levelStop (s : State) (i : Nat) : Keeps σ (s.levelStop i) ↔ Keeps σ s := by simp [State.levelStop]

@[simp] theorem State.keeps_feedOut (s : State) (t : Nat) : Keeps σ (s.feedOut t).2 ↔ Keeps σ s := by
  simp only [State.feedOut]
  (repeat' split) <;> simp

@[simp] theorem State.keeps_stored (s : State) : Keeps σ (s.stored) ↔ Keeps σ s := by
  simp only [State.stored]
  (repeat' split) <;> simp

@[simp] theorem State.keeps_writeTorn (s : State) : Keeps σ (s.writeTorn) ↔ Keeps σ s := by
  unfold State.writeTorn
  split <;> simp

@[simp] theorem State.keeps_powerOff {s0 : State} (hk : Keeps σ s0) : Keeps σ (s0.powerOff) := by
  unfold State.powerOff
  extract_lets s
  obtain ⟨hq, -, -⟩ := (State.keeps_writeTorn s0).2 hk
  refine (State.keeps_setReg ..).2 ((keeps_mk ..).2 ⟨hq, fun _ => rfl, fun _ _ => List.Pairwise.nil⟩)

@[simp] theorem State.keeps_powerOn {s : State} (vin : Nat) (hk : Keeps σ s) :
    Keeps σ (s.powerOn vin) := by simp [State.powerOn, hk]

@[simp] theorem State.keeps_padSite (s : State) (w v : Nat) : Keeps σ (s.padSite w v) ↔ Keeps σ s := by simp [State.padSite]

@[simp] theorem State.keeps_setBranches (s : State) (w st : Nat) :
    Keeps σ (s.setBranches w st) ↔ Keeps σ s := by simp [State.setBranches]

@[simp] theorem State.keeps_towersOff (s : State) : Keeps σ (s.towersOff) ↔ Keeps σ s := by simp [State.towersOff]

@[simp] theorem State.keeps_fatalRuns {s : State} (hk : Keeps σ s) : Keeps σ (s.fatalRuns) :=
  hk.foldl fun y i hy => by simp [hy]

@[simp] theorem keeps_takeCommits (s : State) (l : List (Nat × SMap Byte)) : Keeps σ (takeCommits l s) ↔ Keeps σ s := by
  induction l generalizing s with
  | nil => simp [takeCommits]
  | cons q l ih =>
    unfold takeCommits
    dsimp only
    split <;> simp [ih]

@[simp] theorem State.keeps_commitEnd (s : State) : Keeps σ (s.commitEnd) ↔ Keeps σ s := by simp [State.commitEnd]

@[simp] theorem State.keeps_nvLost (s : State) (code : Nat) (r : NvReq) :
    Keeps σ (s.nvLost code r) ↔ Keeps σ s := by
  unfold State.nvLost
  split <;> simp

@[simp] theorem keeps_nvTurn (s : State) (n : Nat) : Keeps σ (nvTurn n s) ↔ Keeps σ s := by
  induction n generalizing s with
  | zero => rfl
  | succ n ih =>
    unfold nvTurn
    split
    · rfl
    · split
      · rfl
      · dsimp only
        split <;> simp [ih]

@[simp] theorem State.keeps_tripTorn (s : State) : Keeps σ (s.tripTorn) ↔ Keeps σ s := by
  unfold State.tripTorn
  split <;> simp

@[simp] theorem State.keeps_recalibrated (s : State) (t conv w : Nat) :
    Keeps σ (s.recalibrated t conv w) ↔ Keeps σ s := by simp [State.recalibrated]

@[simp] theorem State.keeps_setStale (s : State) (t v : Nat) : Keeps σ (s.setStale t v) ↔ Keeps σ s := by simp [State.setStale]

@[simp] theorem State.keeps_suspect (s : State) (t ch : Nat) : Keeps σ (s.suspect t ch) ↔ Keeps σ s := by simp [State.suspect]

@[simp] theorem State.keeps_holdPark (s : State) (t : Nat) : Keeps σ (s.holdPark t) ↔ Keeps σ s := by
  unfold State.holdPark
  extract_lets h s1 ls held _ s2 w
  have h2 : Keeps σ s2 ↔ Keeps σ s := by
    refine (keeps_foldl fun y l => State.keeps_setListener ..).trans ?_
    simp only [s1, State.keeps_setFab, State.keeps_sf]
  split
  · rfl
  · exact (keeps_foldl fun y c => State.keeps_setTrim ..).trans h2

@[simp] theorem State.keeps_holdCheck (s : State) (t : Nat) : Keeps σ (s.holdCheck t) ↔ Keeps σ s := by
  unfold State.holdCheck
  split <;> simp

@[simp] theorem State.keeps_stretched (s : State) (k mild severe : Nat) :
    Keeps σ (s.stretched k mild severe) ↔ Keeps σ s := by simp [State.stretched]

@[simp] theorem State.keeps_towerUpdate (s : State) (w pn ps : Nat) :
    Keeps σ (s.towerUpdate w pn ps) ↔ Keeps σ s := by simp [State.towerUpdate]

@[simp] theorem State.keeps_baseUpdate (s : State) (t : Nat) : Keeps σ (s.baseUpdate t) ↔ Keeps σ s := by
  simp only [State.baseUpdate]
  (repeat' split) <;> simp

@[simp] theorem State.keeps_budgetThrottle (s : State) (i : Nat) :
    Keeps σ (s.budgetThrottle i) ↔ Keeps σ s := by simp [State.budgetThrottle]

@[simp] theorem State.keeps_halfUpdate (s : State) (i w : Nat) :
    Keeps σ (s.halfUpdate i w) ↔ Keeps σ s := by simp [State.halfUpdate]

@[simp] theorem State.keeps_standThrottle (s : State) (i : Nat) :
    Keeps σ (s.standThrottle i) ↔ Keeps σ s := by simp [State.standThrottle]

@[simp] theorem State.keeps_throttles (s : State) : Keeps σ (s.throttles) ↔ Keeps σ s := by simp [State.throttles]

@[simp] theorem State.keeps_entryStep (s : State) (i g n : Nat) :
    Keeps σ (s.entryStep i g n) ↔ Keeps σ s := by
  unfold State.entryStep
  split <;> simp

@[simp] theorem State.keeps_entryAbort (s : State) (i : Nat) : Keeps σ (s.entryAbort i) ↔ Keeps σ s := by simp [State.entryAbort]

@[simp] theorem State.keeps_entryStepDone (s : State) (i : Nat) :
    Keeps σ (s.entryStepDone i) ↔ Keeps σ s := by
  simp only [State.entryStepDone]
  (repeat' split) <;> simp

@[simp] theorem State.keeps_padRelease (s : State) (w : Nat) : Keeps σ (s.padRelease w) ↔ Keeps σ s := by simp [State.padRelease]

@[simp] theorem State.keeps_siteRetrain (s : State) (w : Nat) :
    Keeps σ (s.siteRetrain w) ↔ Keeps σ s := by simp [State.siteRetrain]

@[simp] theorem State.keeps_siteTrain (s : State) (w : Nat) (out : List Nat) (fails : Bool) :
    Keeps σ (s.siteTrain w out fails) ↔ Keeps σ s := by simp [State.siteTrain]

@[simp] theorem State.keeps_towerBringUp {s : State} (w : Nat) (out : List Nat) (fails : Bool) (hk : Keeps σ s) :
    Keeps σ (s.towerBringUp w out fails) := by simp [State.towerBringUp, hk]

@[simp] theorem State.keeps_towerUp (s : State) (w : Nat) : Keeps σ (s.towerUp w) ↔ Keeps σ s := by simp [State.towerUp]

@[simp] theorem State.keeps_towerRun {s : State} (w : Nat) (out : List Nat) (fails : Bool) (hk : Keeps σ s) :
    Keeps σ (s.towerRun w out fails) := by simp [State.towerRun, hk]

@[simp] theorem State.keeps_exitDone {s : State} (i w : Nat) (out : List Nat) (fails : Bool) (hk : Keeps σ s) :
    Keeps σ (s.exitDone i w out fails) := by simp [State.exitDone, hk]

@[simp] theorem State.keeps_coldBegin {s : State} (hk : Keeps σ s) : Keeps σ (s.coldBegin) := by
  unfold State.coldBegin
  extract_lets ended s0 r keepReg a b c _ _ s1 s2 s3 s4
  obtain ⟨hq, hm, -⟩ : Keeps σ s0 := (State.keeps_writeTorn _).2 (State.keeps_endRuns 0 0x0E hk)
  have h1 : Keeps σ s1 := (keeps_mk ..).2 ⟨hq, hm, fun _ _ => List.Pairwise.nil⟩
  clear_value s1
  simp [s4, s3, s2, h1]

@[simp] theorem State.keeps_askCold {s : State} (hk : Keeps σ s) : Keeps σ (s.askCold) := by simp [State.askCold, hk]

@[simp] theorem State.keeps_askWarm {s : State} (bist : Bool) (hk : Keeps σ s) :
    Keeps σ (s.askWarm bist) := by simp [State.askWarm, hk]

@[simp] theorem State.keeps_failWrite (s : State) : Keeps σ (s.failWrite) ↔ Keeps σ s := by simp [State.failWrite]

@[simp] theorem State.keeps_startFail (s : State) (cause tile : Nat) :
    Keeps σ (s.startFail cause tile) ↔ Keeps σ s := by simp [State.startFail]

@[simp] theorem State.keeps_copyFailed (s : State) (tile : Nat) :
    Keeps σ (s.copyFailed tile) ↔ Keeps σ s := by simp [State.copyFailed]

@[simp] theorem State.keeps_copiesRead (s : State) (bad : List Nat) :
    Keeps σ (s.copiesRead bad) ↔ Keeps σ s := by simp [State.copiesRead]

@[simp] theorem State.keeps_step1 (s : State) (r : Nat) : Keeps σ (s.step1 r) ↔ Keeps σ s := by simp [State.step1]

@[simp] theorem State.keeps_deskew (s : State) (t : Nat) : Keeps σ (s.deskew t) ↔ Keeps σ s := by simp [State.deskew]

@[simp] theorem State.keeps_step2 (s : State) (feeds : List Nat) :
    Keeps σ (s.step2 feeds) ↔ Keeps σ s := by simp [State.step2]

@[simp] theorem State.keeps_deskewed (s : State) (t : Nat) : Keeps σ (s.deskewed t) ↔ Keeps σ s := by simp [State.deskewed]

@[simp] theorem State.keeps_step2Warm (s : State) : Keeps σ (s.step2Warm) ↔ Keeps σ s := by simp [State.step2Warm]

@[simp] theorem State.keeps_resync (s : State) : Keeps σ (s.resync) ↔ Keeps σ s := by simp [State.resync]

@[simp] theorem State.keeps_loadCal (s : State) (t : Nat) (p : List Byte) :
    Keeps σ (s.loadCal t p) ↔ Keeps σ s := by simp [State.loadCal]

@[simp] theorem State.keeps_identity (s : State) : Keeps σ (s.identity) ↔ Keeps σ s := by simp [State.identity]

@[simp] theorem State.keeps_loadStore (s : State) (bad : List (Nat × Nat)) :
    Keeps σ (s.loadStore bad) ↔ Keeps σ s := by
  unfold State.loadStore
  extract_lets named s0 rs none_ s00 s1 s2 held new s3
  have h0 : Keeps σ s00 ↔ Keeps σ s := by
    refine (keeps_foldl fun y t => ?_).trans ?_
    · split <;> simp
    · exact (State.keeps_resync _).trans (keeps_mk ..)
  have h1 : Keeps σ s1 ↔ Keeps σ s00 := by unfold s1; split <;> simp
  have h2 : Keeps σ s2 ↔ Keeps σ s1 := by unfold s2; split <;> simp
  rw [State.keeps_identity, State.keeps_stored, ← h0, ← h1, ← h2]
  exact keeps_mk ..

@[simp] theorem State.keeps_discover (s : State) (w : Nat) (d : Option (BitVec 512)) :
    Keeps σ (s.discover w d) ↔ Keeps σ s := by
  unfold State.discover
  split <;> simp

@[simp] theorem State.keeps_step6 {s : State} (kind : Nat) (f : StepFinding) (hk : Keeps σ s) :
    Keeps σ (s.step6 kind f) := by
  unfold State.step6
  split
  · refine (State.keeps_censusGen _).2 (hk.foldl fun y w hy => ?_)
    split
    · exact hy
    · split <;> simp [hy]
  · refine hk.foldl fun y w hy => ?_
    split
    · split
      · split <;> simp [hy]
      · simp [hy]
    · simp [hy]

@[simp] theorem State.keeps_stackFollow (s : State) (i j : Nat) :
    Keeps σ (s.stackFollow i j) ↔ Keeps σ s := by simp [State.stackFollow]

@[simp] theorem State.keeps_step7 {s : State} (kind : Nat) (bad : List Nat) (hk : Keeps σ s) :
    Keeps σ (s.step7 kind bad) := by
  unfold State.step7
  split
  · obtain ⟨hq, -, hc⟩ := hk
    refine Keeps.foldl ((keeps_mk ..).2 ⟨hq, fun _ => rfl, hc⟩) fun y j hy => ?_
    dsimp only
    split
    · split <;> simp [hy]
    · simp [hy]
  · refine hk.foldl fun y j hy => ?_
    split <;> simp [hy]

@[simp] theorem State.keeps_step8 (s : State) (bad : List Nat) : Keeps σ (s.step8 bad) ↔ Keeps σ s := by simp [State.step8]

@[simp] theorem State.keeps_fillPlaces {s : State} (hk : Keeps σ s) : Keeps σ (s.fillPlaces) := by
  refine hk.foldl fun y e hy => ?_
  extract_lets t c r p m g
  split
  · exact hy
  · split
    · simp [hy]
    · exact (State.keeps_degradeTower ..).2 (keeps_setCore g hy id)

@[simp] theorem State.keeps_applyEnt (s : State) (e : DwEnt) : Keeps σ (s.applyEnt e) ↔ Keeps σ s := by
  simp only [State.applyEnt]
  (repeat' split) <;> simp

@[simp] theorem State.keeps_applyMap {s : State} (kind : Nat) (hk : Keeps σ s) :
    Keeps σ (s.applyMap kind) := by simp [State.applyMap, hk]

@[simp] theorem State.keeps_windowRings (s : State) (t : Nat) :
    Keeps σ (s.windowRings t) ↔ Keeps σ s := by simp [State.windowRings]

@[simp] theorem State.keeps_ringOut (s : State) (tr ch : Nat) (mod : Bool) :
    Keeps σ (s.ringOut tr ch mod) ↔ Keeps σ s := by
  simp only [State.ringOut]
  (repeat' split) <;> simp

@[simp] theorem State.keeps_joinMid {s : State} (i w : Nat) (hk : Keeps σ s) :
    Keeps σ (s.joinMid i w) := by simp [State.joinMid, hk]

@[simp] theorem State.keeps_towerTo {s : State} (w st : Nat) (hk : Keeps σ s) :
    Keeps σ (s.towerTo w st) := by simp [State.towerTo, hk]

@[simp] theorem State.keeps_applyPower {s : State} (hk : Keeps σ s) : Keeps σ (s.applyPower) := by
  unfold State.applyPower
  extract_lets s1
  have h1 : Keeps σ s1 := by
    unfold s1
    split
    · exact hk
    · refine hk.foldl fun y w hy => ?_
      split
      · split
        · exact hy
        · split <;> simp [hy]
      · simp [hy]
  refine h1.foldl fun y j hy => ?_
  split
  · split
    · exact hy
    · simp [hy]
  · simp [hy]

@[simp] theorem State.keeps_startDone {s : State} (hk : Keeps σ s) : Keeps σ (s.startDone) := by
  simp only [State.startDone]
  (repeat' split) <;> simp [hk]

@[simp] theorem State.keeps_tileResume (s : State) (t : Nat) : Keeps σ (s.tileResume t) ↔ Keeps σ s := by
  unfold State.tileResume
  extract_lets h s0 s1 f rest s2 s3 s4
  have h1 : Keeps σ s1 ↔ Keeps σ s := by
    refine (keeps_foldl fun y c => State.keeps_setTrim ..).trans ?_
    simp only [s0, State.keeps_heatersBack, State.keeps_sf]
  have h3 : Keeps σ s3 ↔ Keeps σ s := by
    refine (keeps_foldl fun y j => by split <;> simp).trans ?_
    rw [State.keeps_deskewed, State.keeps_setFab, h1]
  rw [State.keeps_sf]
  refine (keeps_foldl fun y c => State.keeps_siteTrain ..).trans ?_
  rw [State.keeps_remapsNow, h3]

@[simp] theorem State.keeps_reportMap (s : State) (t : Nat) : Keeps σ (s.reportMap t) ↔ Keeps σ s := by simp [State.reportMap]

@[simp] theorem State.keeps_planApply {s : State} (m : SMap Byte) (gen : Nat) (hk : Keeps σ s) :
    Keeps σ (s.planApply m gen) := by simp [State.planApply, hk]

@[simp] theorem State.keeps_provNext (s : State) : Keeps σ (s.provNext) ↔ Keeps σ s := by
  unfold State.provNext
  split <;> simp

@[simp] theorem State.keeps_nvAct {s : State} (a : NvAct) (hk : Keeps σ s) : Keeps σ (s.nvAct a) := by
  unfold State.nvAct
  split <;> simp [hk]

@[simp] theorem State.keeps_bootStatus (s : State) (st code : Nat) :
    Keeps σ (s.bootStatus st code) ↔ Keeps σ s := by simp [State.bootStatus]

@[simp] theorem State.keeps_fetchError (s : State) : Keeps σ (s.fetchError) ↔ Keeps σ s := by simp [State.fetchError]

@[simp] theorem State.keeps_go (s : State) (p : Nat) : Keeps σ (s.go p) ↔ Keeps σ s := by simp [State.go]

@[simp] theorem State.keeps_raiseSvn (s : State) : Keeps σ (s.raiseSvn) ↔ Keeps σ s := by
  unfold State.raiseSvn
  split <;> simp

@[simp] theorem State.keeps_errsRelease (s : State) : Keeps σ (s.errsRelease) ↔ Keeps σ s := by simp [State.errsRelease]

@[simp] theorem State.keeps_nvAsk (s : State) (r : NvReq) : Keeps σ (s.nvAsk r) ↔ Keeps σ s := by
  unfold State.nvAsk
  split <;> simp

@[simp] theorem State.keeps_tapOpen (s : State) (p : Nat) (armed : Bool) :
    Keeps σ (s.tapOpen p armed) ↔ Keeps σ s := by
  unfold State.tapOpen
  extract_lets a wipe s1 k
  split
  · exact State.keeps_sf ..
  · refine (State.keeps_nvAsk ..).trans ((keeps_mk ..).trans ?_)
    simp only [keptAs_fields, s1, State.keeps_sf, State.keeps_nvWindow]

theorem runs_setEndpointId (p : Nat) (eid : Byte) (s : State) : Runs (p < 2) s (execSetEndpointId p eid s) := by
  refine .guard Nat.not_le.2 (State.keeps_managed _ (.refl s) ?_)
  split
  · exact .refl s
  · split <;> simp

theorem runs_mctpUnsupportedType (p : Nat) (ty : Byte) (s : State) : Runs (p < 2) s (execMctpUnsupportedType p ty s) := by
  refine .guard Nat.not_le.2 (State.keeps_managed _ (.refl s) ?_)
  split <;> simp

theorem runs_getVersion (v : Via) (s : State) : Runs (v.p < 2) s (execGetVersion v s) :=
  .guard Nat.not_le.2 (State.keeps_managed _ (.refl s) (by simp))

theorem runs_getCapabilities (v : Via) (s : State) : Runs (v.p < 2) s (execGetCapabilities v s) :=
  .guard Nat.not_le.2 (State.keeps_managed _ (.refl s) (by simp))

theorem runs_negotiateAlgorithms (v : Via) (sm2 sm3 : Bool) (s : State) :
    Runs (v.p < 2) s (execNegotiateAlgorithms v sm2 sm3 s) :=
  .guard Nat.not_le.2 (State.keeps_managed _ (.refl s) (by simp))

theorem runs_getCertificate (v : Via) (slot off n : Nat) (s : State) :
    Runs (v.p < 2) s (execGetCertificate v slot off n s) := by
  refine .guard Nat.not_le.2 (State.keeps_managed _ (.refl s) ?_)
  split <;> simp

theorem runs_challenge (v : Via) (slot : Nat) (nonce : BitVec 256) (s : State) :
    Runs (v.p < 2) s (execChallenge v slot nonce s) := by
  refine .guard Nat.not_le.2 (State.keeps_managed _ (.refl s) ?_)
  split
  · simp
  · split <;> simp

@[simp] theorem State.keeps_serveHeld {s : State} (i : MgmtReq) (hk : Keeps σ s) :
    Keeps σ (s.serveHeld i) := by
  unfold State.serveHeld
  cases i
  case setEndpointId p eid => exact hk.leftOf (runs_setEndpointId p eid s)
  case mctpUnsupportedType p ty => exact hk.leftOf (runs_mctpUnsupportedType p ty s)
  case getVersion v => exact hk.leftOf (runs_getVersion v s)
  case getCapabilities v => exact hk.leftOf (runs_getCapabilities v s)
  case negotiateAlgorithms v sm2 sm3 => exact hk.leftOf (runs_negotiateAlgorithms v sm2 sm3 s)
  case getCertificate v slot off n => exact hk.leftOf (runs_getCertificate v slot off n s)
  case challenge v slot nonce => exact hk.leftOf (runs_challenge v slot nonce s)
  all_goals simp [hk]

@[simp] theorem State.keeps_railsAt (s : State) (i : Nat) (inReg : Bool) (old : Nat) :
    Keeps σ (s.railsAt i inReg old) ↔ Keeps σ s := by simp [State.railsAt]

@[simp] theorem State.keeps_atLeast (s : State) (n : Nat) : Keeps σ (s.atLeast n) ↔ Keeps σ s := by simp [State.atLeast]

end

end Sys2Proof.Machine

/-! PROOF. Every command that enters no bundle keeps the queue and both invariants, and faults only outside its units. -/

namespace Sys2Proof.Machine

theorem Runs.ite {ok c : Prop} [Decidable c] {s : State} {a b : Host.Outcome State Fault Refusal} (ha : c → Runs ok s a)
    (hb : ¬ c → Runs ok s b) : Runs ok s (if c then a else b) := by
  split
  · exact ha ‹c›
  · exact hb ‹¬ c›

theorem runs_simExec (o : QOp) (x : SimAt) (s : State) : Runs (x.g < 12288) s (simExec o x s) := by
  refine .guard Nat.not_le.2 ?_
  split <;> simp

theorem State.runs_hostStore (s : State) (p off n v : Nat) : Runs (p < 2) s (s.hostStore p off n v) := by
  refine .guard Nat.not_le.2 ?_
  split
  · exact .refl s
  split
  · simp
  split
  · exact .refl s
  split <;> simp

theorem State.runs_hostWrite (s : State) (p off : Nat) {k : State → State} (hk : Keeps s (k s)) :
    Runs (p < 2) s (s.hostWrite p off k) := by
  refine .guard Nat.not_le.2 ?_
  split
  · exact hk
  · exact .refl s

theorem runs_asMaster_write (s : State) (p i off a : Nat) {k : State → State} (hk : Keeps s (k s)) :
    Runs (p < 2) s (s.hostWrite p off fun s => s.asMaster p i a k) :=
  s.runs_hostWrite p off (State.keeps_asMaster p i a (.refl s) hk)

@[simp] theorem State.keeps_weakCheck {σ : State} (was : State) (t : Nat) (conn : Option Nat) (s : State) :
    Keeps σ (was.weakCheck t conn s) ↔ Keeps σ s := by
  unfold State.weakCheck
  split <;> simp

theorem State.keeps_takeRx {s s' : State} {t : Nat} {kind : BitVec 3} {p : Pkt} (h : s.takeRx t kind = some (p, s')) :
    Keeps s s' := by
  simp only [State.takeRx] at h
  split at h
  · cases h; simp
  · cases h

@[simp] theorem Rc.keeps_finish {σ : State} (r : Rc) (t : Nat) : Keeps σ (r.finish t) ↔ Keeps σ r.s := by simp [Rc.finish]

@[simp] theorem State.keeps_lanesRc {σ : State} (s : State) (l : List (List Nat)) : Keeps σ (s.lanesRc l).s ↔ Keeps σ s := Iff.rfl

/-- A sequencer instruction whose fields keep the program encoding. -/
theorem runs_seqGuard {ok : Prop} {t x : Nat} {legal : Bool} {s s' : State} (hu : ok → t < 16 ∧ x < 7 ∧ legal = true)
    (hk : Keeps s s') : Runs ok s (seqGuard t x legal s') := by
  refine Runs.guard (fun h => by have := hu h; omega) ?_
  split
  · exact hk
  · exact fun h => ‹¬ _› (hu h).2.2

theorem State.keeps_stepEnd {s s' : State} {n kind : Nat} {f : StepFinding} (h : s.stepEnd n kind f = some s') : Keeps s s' := by
  unfold State.stepEnd at h
  split at h
  · split at h <;> cases h
    simp
  · cases h; split <;> simp
  · split at h <;> cases h
    simp
  · cases h
    split <;> split <;> simp
  · cases h
    split
    · refine (keeps_foldl fun y w => ?_).2 (.refl s)
      split <;> simp
    · exact .refl s
  · cases h
    split <;> simp
  · cases h; simp
  · cases h; split <;> simp
  · cases h
    split <;> simp
  · split at h <;> cases h
    exact .refl s
  · split at h <;> cases h
    simp
  · cases h

theorem seqManageOk_seqSwapWord (h : BitVec 3) (slot : BitVec 5) (ch : BitVec 6) :
    seqManageOk (seqSwapWord h.toNat slot.toNat ch.toNat) = true := by
  have hop : seqSwapWord h.toNat slot.toNat ch.toNat % 256 = 4 := by unfold seqSwapWord; omega
  have hlt : seqSwapWord h.toNat slot.toNat ch.toNat < 2 ^ 22 := by unfold seqSwapWord; omega
  simp only [seqManageOk, hop, hlt, decide_true]

theorem seqManageOk_seqParkWord_listener {index : Nat} (hi : index < 1080) : seqManageOk (seqParkWord 1 0 0 index) = true := by
  have hop : seqParkWord 1 0 0 index % 256 = 5 := by unfold seqParkWord; omega
  have hbit : natBit (seqParkWord 1 0 0 index) 8 = true := by simp only [natBit, seqParkWord, beq_iff_eq]; omega
  have hzero : natBits (seqParkWord 1 0 0 index) 9 9 = 0 := by simp only [natBits, seqParkWord]; omega
  have hindex : natBits (seqParkWord 1 0 0 index) 18 46 = index := by simp only [natBits, seqParkWord]; omega
  simp only [seqManageOk, hop, hbit, hzero, hindex, if_true, hi, beq_self_eq_true, decide_true, Bool.and_true]

theorem seqManageOk_seqParkWord_modulator (h : BitVec 3) {ch : Nat} (hc : ch < 33) :
    seqManageOk (seqParkWord 0 h.toNat ch 0) = true := by
  have hop : seqParkWord 0 h.toNat ch 0 % 256 = 5 := by unfold seqParkWord; omega
  have hbit : natBit (seqParkWord 0 h.toNat ch 0) 8 = false := by simp only [natBit, seqParkWord, beq_eq_false_iff_ne]; omega
  have hlt : seqParkWord 0 h.toNat ch 0 < 2 ^ 18 := by unfold seqParkWord; omega
  have hch : natBits (seqParkWord 0 h.toNat ch 0) 12 6 = ch := by simp only [natBits, seqParkWord]; omega
  simp only [seqManageOk, hop, hbit, hlt, hch, hc, Bool.false_eq_true, if_false, decide_true, Bool.and_true]

theorem runs_registerWrite (p off n : Nat) (v : BitVec 64) (s : State) :
    Runs (p < 2) s (execRegisterWrite p off n v s) :=
  s.runs_hostStore p off n v.toNat

theorem runs_registerLowWordRead (p off n : Nat) (s : State) :
    Runs (p < 2) s (execRegisterLowWordRead p off n s) := by
  refine .guard Nat.not_le.2 ?_
  dsimp only
  (repeat' split) <;> simp

theorem runs_registerHighWordRead (p off : Nat) (s : State) :
    Runs (p < 2) s (execRegisterHighWordRead p off s) := by
  refine .guard Nat.not_le.2 ?_
  dsimp only
  (repeat' split) <;> simp

theorem runs_registerLowWordWrite (p off : Nat) (v : BitVec 32) (s : State) :
    Runs (p < 2) s (execRegisterLowWordWrite p off v s) :=
  s.runs_hostStore p off 4 v.toNat

theorem runs_registerHighWordWrite (p off : Nat) (v : BitVec 32) (s : State) :
    Runs (p < 2) s (execRegisterHighWordWrite p off v s) :=
  s.runs_hostStore p off 4 v.toNat

theorem runs_commit (p : Nat) (s : State) :
    Runs (p < 2) s (execCommit p s) := by
  refine .guard Nat.not_le.2 ?_
  dsimp only
  split <;> simp

theorem runs_restage (p : Nat) (s : State) :
    Runs (p < 2) s (execRestage p s) := by
  refine .guard Nat.not_le.2 ?_
  dsimp only
  split <;> simp

theorem runs_launch (p k : Nat) (v : BitVec 32) (ecc : List (Nat × Ecc)) (s : State) :
    Runs (p < 2 ∧ k < 16) s (execLaunch p k v ecc s) := by
  refine .guard (by omega) ?_
  refine .mono (runs_asMaster_write s p k _ _ ?_) (by omega)
  split
  · split <;> simp
  · exact .refl s

theorem runs_abort (p k : Nat) (v : BitVec 32) (s : State) :
    Runs (p < 2 ∧ k < 16) s (execAbort p k v s) := by
  refine .guard (by omega) ?_
  refine .mono (runs_asMaster_write s p k _ _ ?_) (by omega)
  split <;> simp

theorem runs_programLoadComplete (k : Nat) (s : State) :
    Runs (k < 16) s (execProgramLoadComplete k s) := by
  refine .guard Nat.not_le.2 ?_
  dsimp only
  (repeat' split) <;> simp

theorem runs_startMissed (k : Nat) (s : State) :
    Runs (k < 16) s (execStartMissed k s) := by
  refine .guard Nat.not_le.2 ?_
  dsimp only
  split <;> simp

theorem runs_beatGate (k : Nat) (s : State) :
    Runs (k < 16) s (execBeatGate k s) := by
  refine .guard Nat.not_le.2 ?_
  dsimp only
  split <;> simp

theorem runs_gridEdge (k : Nat) (ecc : EdgeEcc) (s : State) :
    Runs (k < 16) s (execGridEdge k ecc s) := by
  refine .guard Nat.not_le.2 ?_
  dsimp only
  (repeat' split) <;> simp

theorem runs_holdLimit (k : Nat) (s : State) :
    Runs (k < 16) s (execHoldLimit k s) := by
  refine .guard Nat.not_le.2 ?_
  dsimp only
  split <;> simp

theorem runs_clearAbandon (k : Nat) (s : State) :
    Runs (k < 16) s (execClearAbandon k s) := by
  refine .guard Nat.not_le.2 ?_
  dsimp only
  split <;> simp

theorem runs_wflagHoldLimit (g : Nat) (s : State) :
    Runs (g < 12288) s (execWflagHoldLimit g s) := by
  refine .guard Nat.not_le.2 ?_
  dsimp only
  split <;> simp

theorem runs_spareLoadComplete (g : Nat) (s : State) :
    Runs (g < 12288) s (execSpareLoadComplete g s) := by
  refine .guard Nat.not_le.2 ?_
  dsimp only
  (repeat' split) <;> simp

theorem runs_fencedCorePowerOff (g : Nat) (s : State) :
    Runs (g < 12288) s (execFencedCorePowerOff g s) := by
  refine .guard Nat.not_le.2 ?_
  dsimp only
  split <;> simp

theorem runs_levelChangeClockRestart (k : Nat) (s : State) :
    Runs (k < 16) s (execLevelChangeClockRestart k s) := by
  refine .guard Nat.not_le.2 ?_
  dsimp only
  split <;> simp

theorem runs_levelRaiseDividerChange (k : Nat) (rails : List (Nat × Nat)) (s : State) :
    Runs (k < 16) s (execLevelRaiseDividerChange k rails s) := by
  refine .guard Nat.not_le.2 ?_
  dsimp only
  (repeat' split) <;> simp

theorem runs_standHandlingSettled (k : Nat) (s : State) :
    Runs (k < 16) s (execStandHandlingSettled k s) := by
  refine .guard Nat.not_le.2 ?_
  dsimp only
  (repeat' split) <;> simp

theorem runs_qld (x : SimAt) (s : State) :
    Runs (x.g < 12288) s (execQld x s) :=
  runs_simExec _ x s

theorem runs_qwt (x : SimAt) (s : State) :
    Runs (x.g < 12288) s (execQwt x s) :=
  runs_simExec _ x s

theorem runs_cbind (x : SimAt) (s : State) :
    Runs (x.g < 12288) s (execCbind x s) :=
  runs_simExec _ x s

theorem runs_msim (x : SimAt) (s : State) :
    Runs (x.g < 12288) s (execMsim x s) :=
  runs_simExec _ x s

theorem runs_dseg (x : SimAt) (s : State) :
    Runs (x.g < 12288) s (execDseg x s) :=
  runs_simExec _ x s

theorem runs_dclose (x : SimAt) (s : State) :
    Runs (x.g < 12288) s (execDclose x s) :=
  runs_simExec _ x s

theorem runs_tkins (x : SimAt) (s : State) :
    Runs (x.g < 12288) s (execTkins x s) :=
  runs_simExec _ x s

theorem runs_tkrd (x : SimAt) (s : State) :
    Runs (x.g < 12288) s (execTkrd x s) :=
  runs_simExec _ x s

theorem runs_tkclr (x : SimAt) (s : State) :
    Runs (x.g < 12288) s (execTkclr x s) :=
  runs_simExec _ x s

theorem runs_tkcfg (x : SimAt) (s : State) :
    Runs (x.g < 12288) s (execTkcfg x s) :=
  runs_simExec _ x s

theorem runs_tsldDataReturn (g : Nat) (s : State) :
    Runs (g < 12288) s (execTsldDataReturn g s) := by
  refine .guard Nat.not_le.2 ?_
  dsimp only
  (repeat' split) <;> simp

theorem runs_moveTagComplete (g : Nat) (x : TagEnd) (s : State) :
    Runs (g < 12288) s (execMoveTagComplete g x s) := by
  refine .guard Nat.not_le.2 ?_
  split
  · exact .refl s
  split
  · exact .refl s
  extract_lets i far isHbm s1 local_ status fatal s2 dst s3 s4
  have h1 : Keeps s s1 := by simp only [s1]; split <;> simp
  have h2 : Keeps s s2 := keeps_tagComplete _ _ _ h1
  have h3 : Keeps s s3 := by
    simp only [s3]
    split
    · exact keeps_niNote _ _ _ _ _ (by simp [h2])
    · exact h2
  have h4 : Keeps s s4 := keeps_moveDmEcc _ _ _ h3
  refine (runs_next ..).2 ?_
  split
  · exact (keeps_statusFatal ..).2 h4
  · exact h4

theorem runs_requestArrival (t : Nat) (s : State) :
    Runs (t < 16) s (execRequestArrival t s) := by
  refine .guard Nat.not_le.2 ?_
  split
  · exact .refl s
  split
  · exact .refl s
  rename_i p s1 taken
  have h1 : Keeps s s1 := State.keeps_takeRx taken
  have h2 : Keeps s (s1.eject t p ((s1.allLanes t).any (· ≠ []))).1 := (State.keeps_eject ..).2 h1
  dsimp only
  split
  · rename_i ejected; rw [ejected] at h2; simpa using h2
  · rename_i ejected; rw [ejected] at h2; simpa using h2

theorem runs_engineCycle (t : Nat) (ecc : List (Nat × Nat × Ecc)) (s : State) :
    Runs (t < 16) s (execEngineCycle t ecc s) :=
  .guard Nat.not_le.2 (by simp)

theorem runs_replyArrival (x : ReplyAt) (s : State) :
    Runs (x.t < 16) s (execReplyArrival x s) := by
  refine .guard Nat.not_le.2 ?_
  split
  · exact .refl s
  split
  · exact .refl s
  rename_i p s1 taken
  have h2 : Keeps s (s1.rcount x.t 2 1) := (State.keeps_rcount ..).2 (State.keeps_takeRx taken)
  dsimp only
  split
  · exact keeps_fenceCore _ _ h2
  split
  · exact (State.keeps_crossbarParity ..).2 h2
  · exact State.keeps_takeReply _ _ h2

theorem runs_confirmArrival (t : Nat) (s : State) :
    Runs (t < 16) s (execConfirmArrival t s) := by
  refine .guard Nat.not_le.2 ?_
  split
  · exact .refl s
  split
  · exact .refl s
  rename_i p s1 taken
  simp [State.keeps_takeRx taken]

theorem runs_retransmissionTimeout (t : Nat) (src : BitVec 14) (dst : BitVec 4) (number : BitVec 16) (s : State) :
    Runs (t < 16) s (execRetransmissionTimeout t src dst number s) := by
  refine .guard Nat.not_le.2 ?_
  split
  · exact .refl s
  split
  · dsimp only
    split
    · exact .refl s
    split
    · exact .refl s
    · refine (runs_next ..).2 ((State.keeps_resend ..).2 ((State.keeps_coreCount ..).2 ?_))
      exact Keeps.setCore (by simp) (.refl s) _ id
  split
  · split
    · exact .refl s
    split <;> simp
  split
  · split
    · exact .refl s
    dsimp only
    split <;> simp
  split
  · split
    · exact .refl s
    split <;> simp
  · exact .refl s

theorem runs_routerCycle (t : Nat) (lost : List Nat) (s : State) :
    Runs (t < 16) s (execRouterCycle t lost s) :=
  .guard Nat.not_le.2 (by simp)

theorem runs_combHoldExpiry (t : Nat) (s : State) :
    Runs (t < 16) s (execCombHoldExpiry t s) := by
  refine .guard Nat.not_le.2 ?_
  split
  · exact .refl s
  split
  · exact .refl s
  split
  · simp
  rename_i e _ _
  extract_lets was s1 lanes
  have h1 : Keeps s s1 := State.keeps_release _ _ (.refl s)
  split
  · exact h1
  rename_i y _
  extract_lets s2
  have h2 : Keeps s (s2.lanesRc lanes).s := by simp [s2, h1]
  have hr := Rc.keeps_inject t y [] h2
  split
  · rename_i sent; rw [sent] at hr; simpa using hr
  · exact h1

theorem runs_laneFence (t q l : Nat) (s : State) :
    Runs (t < 16 ∧ q < 2 ∧ l < 30) s (execLaneFence t q l s) :=
  .guard (by omega) (by simp)

theorem runs_seqOpen (t x : Nat) (c : BitVec 8) (st : BitVec 4) (h : BitVec 3) (slot : BitVec 5) (pd : Bool) (s : State) :
    Runs (t < 16 ∧ x < 7) s (execSeqOpen t x c st h slot pd s) := by
  refine runs_seqGuard (by simp +contextual) ?_
  exact keeps_seqExec _ _ _ _ _ (.refl s) fun k => by simp

theorem runs_seqClose (t x : Nat) (c : BitVec 8) (s : State) :
    Runs (t < 16 ∧ x < 7) s (execSeqClose t x c s) := by
  refine runs_seqGuard (by simp +contextual) ?_
  exact keeps_seqExec _ _ _ _ _ (.refl s) fun k => by simp

theorem runs_seqMcast (t x : Nat) (h : BitVec 3) (slot : BitVec 5) (on : Bool) (mask : BitVec 16) (s : State) :
    Runs (t < 16 ∧ x < 7 ∧ (on || mask == 0) = true) s (execSeqMcast t x h slot on mask s) := by
  refine runs_seqGuard id ?_
  exact keeps_seqExec _ _ _ _ _ (.refl s) fun k => by simp

theorem runs_seqSwap (t x : Nat) (h : BitVec 3) (slot : BitVec 5) (ch : BitVec 6) (s : State) :
    Runs (t < 16 ∧ x < 7 ∧ ch.toNat < 33 ∧ x = 6) s (execSeqSwap t x h slot ch s) := by
  refine runs_seqGuard (fun ⟨ht, _, _, hx⟩ => ?_) (by split <;> simp)
  simp [seqManageOk_seqSwapWord, ht, hx]

theorem runs_seqPark (t x : Nat) (lst : Bool) (h : BitVec 3) (ch : BitVec 6) (index : BitVec 11) (s : State) :
    Runs (t < 16 ∧ x < 7 ∧ (if lst then index.toNat < 1080 else ch.toNat < 33) ∧ x = 6) s (execSeqPark t x lst h ch index s) := by
  have hw (h' : if lst then index.toNat < 1080 else ch.toNat < 33) :
      seqManageOk (if lst then seqParkWord 1 0 0 index.toNat else seqParkWord 0 h.toNat ch.toNat 0) = true := by
    cases lst
    · exact seqManageOk_seqParkWord_modulator h h'
    · exact seqManageOk_seqParkWord_listener h'
  refine Runs.guard (fun ⟨_, _, h', _⟩ => by simpa using hw h') (runs_seqGuard (fun ⟨ht, _, _, hx⟩ => ?_) (by split <;> simp))
  simp [ht, hx]

theorem runs_seqBind (t x : Nat) (recv : Bool) (endpoint : BitVec 8) (mask : BitVec 6) (off : BitVec 21) (lines : BitVec 16) (ring : BitVec 2) (s : State) :
    Runs (t < 16 ∧ x < 7 ∧ (lines != 0) = true) s (execSeqBind t x recv endpoint mask off lines ring s) := by
  refine runs_seqGuard id ?_
  exact keeps_seqExec _ _ _ _ _ (.refl s) fun k => by simp

theorem runs_seqUnbind (t x : Nat) (recv : Bool) (endpoint : BitVec 8) (s : State) :
    Runs (t < 16 ∧ x < 7) s (execSeqUnbind t x recv endpoint s) := by
  refine runs_seqGuard (by simp +contextual) ?_
  exact keeps_seqExec _ _ _ _ _ (.refl s) fun k => by simp

theorem runs_seqWait (t x : Nat) (rel : Bool) (v : BitVec 48) (s : State) :
    Runs (t < 16 ∧ x < 7) s (execSeqWait t x rel v s) :=
  .guard (by omega) (by simp)

theorem runs_seqLoop (t x : Nat) (n : BitVec 2) (count target : BitVec 16) (s : State) :
    Runs (t < 16 ∧ x < 7 ∧ (count != 0) = true) s (execSeqLoop t x n count target s) := by
  refine runs_seqGuard id ?_
  split <;> simp

theorem runs_seqJump (t x : Nat) (target : BitVec 12) (s : State) :
    Runs (t < 16 ∧ x < 7) s (execSeqJump t x target s) :=
  .guard (by omega) (by simp)

theorem runs_seqNote (t x : Nat) (v : BitVec 48) (s : State) :
    Runs (t < 16 ∧ x < 7) s (execSeqNote t x v s) := by
  refine runs_seqGuard (by simp +contextual) ?_
  exact keeps_seqExec _ _ _ _ _ (.refl s) fun k => by simp

theorem runs_frameVerdict (t x c : Nat) (seen : FrameSeen) (s : State) :
    Runs (t < 16 ∧ x < 6 ∧ c < 256) s (execFrameVerdict t x c seen s) := by
  refine .guard (by omega) ?_
  generalize { ErrInfo.plain 6 0x19 with tile := some t, detail := some c } = e
  extract_lets k q i s1 s2 q2 done s3
  clear_value k q i
  refine .ite (fun _ => .refl s) fun _ => .ite (fun _ => ?_) fun _ => ?_
  · show Keeps s _
    split
    · exact .refl s
    · exact State.keeps_frameMoves t x c (.refl s)
  have h1 : Keeps s s1 := by
    simp only [s1]
    split
    · exact (State.keeps_setHandle ..).2 (.refl s)
    · exact .refl s
  refine .ite (fun _ => ?_) fun _ => ?_
  · show Keeps s _
    split
    · exact State.keeps_frameMoves t x c h1
    · exact .refl s
  have h2 : Keeps s s2 := State.keeps_frameRead t x c h1
  clear_value s1 s2 q2 done
  refine .ite (fun _ => .ite (fun _ => ?_) fun _ => ?_) fun _ => ?_
  · exact (State.keeps_standFatal ..).2 ((State.keeps_setHandle ..).2 h2)
  · exact State.keeps_frameMoves t x c ((State.keeps_setHandle ..).2 h2)
  · have h3 : Keeps s s3 := by
      simp only [s3]
      split
      · exact h2
      · exact (State.keeps_frontCount ..).2 h2
    exact (State.keeps_setHandle ..).2 h3

theorem runs_framingCodeword (t l : Nat) (blocks : BitVec 2560) (fixed : Bool) (s : State) :
    Runs (t < 16 ∧ l < 1080) s (execFramingCodeword t l blocks fixed s) := by
  refine .guard (by omega) ?_
  dsimp only
  (repeat' split) <;> simp

theorem runs_relockTimeout (t l : Nat) (s : State) :
    Runs (t < 16 ∧ l < 1080) s (execRelockTimeout t l s) := by
  refine .guard (by omega) ?_
  dsimp only
  (repeat' split) <;> simp

theorem runs_listenerMoveComplete (t l : Nat) (tag : BitVec 12) (s : State) :
    Runs (t < 16 ∧ l < 1080) s (execListenerMoveComplete t l tag s) := by
  refine .guard (by omega) ?_
  split
  · exact .refl s
  refine (runs_next ..).2 ?_
  split <;> simp

theorem runs_lockLoopUpdate (t conv : Nat) (seen : LoopSeen) (dim : Bool) (intruder : Option (Nat × Nat)) (s : State) :
    Runs (t < 16 ∧ conv < 3264) s (execLockLoopUpdate t conv seen dim intruder s) := by
  refine .guard (by omega) ?_
  dsimp only
  (repeat' split) <;> simp

theorem runs_intruderMessage (tr ch : Nat) (s : State) :
    Runs (tr < 160 ∧ ch < 33) s (execIntruderMessage tr ch s) := by
  refine .guard (by omega) ?_
  dsimp only
  (repeat' split) <;> simp

theorem runs_rotationStep (t h : Nat) (s : State) :
    Runs (t < 16 ∧ h < 8) s (execRotationStep t h s) := by
  refine .guard (by omega) ?_
  dsimp only
  (repeat' split) <;> simp

theorem runs_calibrationComplete (t h : Nat) (found : CalFound) (s : State) :
    Runs (t < 16 ∧ h < 8) s (execCalibrationComplete t h found s) := by
  refine .guard (by omega) ?_
  dsimp only
  split <;> simp

theorem runs_heaterSupplyFail (t : Nat) (s : State) :
    Runs (t < 16) s (execHeaterSupplyFail t s) :=
  .guard Nat.not_le.2 (by simp)

theorem runs_fibreSuddenLoss (t k : Nat) (s : State) :
    Runs (t < 16 ∧ k < 3) s (execFibreSuddenLoss t k s) := by
  refine .guard (by omega) ?_
  dsimp only
  split <;> simp

theorem runs_fibreSwitch (t k : Nat) (s : State) :
    Runs (t < 16 ∧ k < 3) s (execFibreSwitch t k s) := by
  refine .guard (by omega) ?_
  dsimp only
  split
  · exact .refl s
  split <;> simp

theorem runs_fibreSwitchComplete (t : Nat) (s : State) :
    Runs (t < 16) s (execFibreSwitchComplete t s) := by
  refine .guard Nat.not_le.2 ?_
  dsimp only
  split <;> simp

theorem runs_pilotMissing (t k : Nat) (s : State) :
    Runs (t < 16 ∧ k < 3) s (execPilotMissing t k s) := by
  refine .guard (by omega) ?_
  dsimp only
  split <;> simp

theorem runs_ilkClose (conn : BitVec 3) (pilot : BitVec 48) (s : State) :
    Runs True s (execIlkClose conn pilot s) := by
  unfold execIlkClose
  dsimp only
  (repeat' split) <;> simp

theorem runs_rampTimeout (taps : List Reading) (s : State) :
    Runs True s (execRampTimeout taps s) := by
  unfold execRampTimeout
  dsimp only
  (repeat' split) <;> simp

theorem runs_opticalReady (s : State) :
    Runs True s (execOpticalReady s) := by
  unfold execOpticalReady
  split
  · exact .refl s
  · refine (runs_next ..).2 ?_
    simp only [State.keeps_modCause, State.keeps_sf, State.keeps_setIlkPhase, keeps_self]

theorem runs_ilkOpenRequest (p : Nat) (s : State) :
    Runs (p < 2) s (execIlkOpenRequest p s) := by
  refine .guard Nat.not_le.2 ?_
  dsimp only
  split <;> simp

theorem runs_closeReq (p : Nat) (s : State) :
    Runs (p < 2) s (execCloseReq p s) := by
  refine .guard Nat.not_le.2 ?_
  dsimp only
  split <;> simp

theorem runs_monitorReading (p t : Nat) (s : State) :
    Runs (p < 2 ∧ t < 16) s (execMonitorReading p t s) := by
  refine .guard (by omega) ?_
  exact .mono (s.runs_hostWrite p _ (by simp)) (by omega)

theorem runs_monitorReadingDone (t : Nat) (v : Reading) (s : State) :
    Runs (t < 16) s (execMonitorReadingDone t v s) := by
  refine .guard Nat.not_le.2 ?_
  dsimp only
  split <;> simp

theorem runs_siteFlitReceive (t c m : Nat) (flit : SiteFlit) (s : State) :
    Runs (t < 16 ∧ c < 6 ∧ m < 17) s (execSiteFlitReceive t c m flit s) := by
  refine .guard (by simp +contextual [siteGuard]) ?_
  dsimp only
  split
  · exact .refl s
  split
  · split <;> simp
  · refine State.keeps_placeFlit _ _ ?_
    split <;> simp

theorem runs_streamBind (t c : Nat) (n : BitVec 8) (recv : Bool) (off lines ring : Nat) (beat : BitVec 64) (s : State) :
    Runs (t < 16 ∧ c < 6) s (execStreamBind t c n recv off lines ring beat s) := by
  refine .guard (by omega) ?_
  dsimp only
  split <;> simp

theorem runs_streamUnbind (t c : Nat) (n : BitVec 8) (s : State) :
    Runs (t < 16 ∧ c < 6) s (execStreamUnbind t c n s) := by
  refine .guard (by omega) ?_
  dsimp only
  (repeat' split) <;> simp

theorem runs_programImage (t c src len : Nat) (s : State) :
    Runs (t < 16 ∧ c < 6) s (execProgramImage t c src len s) := by
  refine .guard (by omega) ?_
  dsimp only
  (repeat' split) <;> simp

theorem runs_standStart (t c k : Nat) (s : State) :
    Runs (t < 16 ∧ c < 6 ∧ k < 16) s (execStandStart t c k s) := by
  refine .guard (by omega) ?_
  dsimp only
  split <;> simp

theorem runs_standEnd (t c : Nat) (code : BitVec 8) (s : State) :
    Runs (t < 16 ∧ c < 6) s (execStandEnd t c code s) := by
  refine .guard (by omega) ?_
  dsimp only
  split <;> simp

theorem runs_agentFault (t c : Nat) (code src : BitVec 8) (s : State) :
    Runs (t < 16 ∧ c < 6) s (execAgentFault t c code src s) := by
  refine .guard (by omega) ?_
  dsimp only
  (repeat' split) <;> simp

theorem runs_linkEvent (t c m cause : Nat) (s : State) :
    Runs (t < 16 ∧ c < 6 ∧ m < 17) s (execLinkEvent t c m cause s) := by
  refine .guard (by simp +contextual [siteGuard]) ?_
  split <;> simp

theorem runs_beatFlitDown (t c : Nat) (dieGtc : BitVec 64) (s : State) :
    Runs (t < 16 ∧ c < 6) s (execBeatFlitDown t c dieGtc s) := by
  refine .guard (by omega) ?_
  dsimp only
  (repeat' split) <;> simp

theorem runs_beatFlitUp (t c : Nat) (agentDone : Bool) (agent : AgentSample) (s : State) :
    Runs (t < 16 ∧ c < 6) s (execBeatFlitUp t c agentDone agent s) := by
  refine .guard (by omega) ?_
  dsimp only
  (repeat' split) <;> simp

theorem runs_siteModuleFailure (t c m : Nat) (s : State) :
    Runs (t < 16 ∧ c < 6 ∧ m < 17) s (execSiteModuleFailure t c m s) := by
  refine .guard (by simp +contextual [siteGuard]) ?_
  extract_lets w x mask join d x1 y1 s1 s2 e s3
  split
  · exact .refl s
  split
  · simp
  split
  · exact .refl s
  have h3 : Keeps s s3 := by simp [s3, s2, s1]
  refine (runs_next ..).2 ?_
  split <;> simp [h3]

theorem runs_moduleRetrainComplete (t c m : Nat) (how : Repair) (s : State) :
    Runs (t < 16 ∧ c < 6 ∧ m < 17) s (execModuleRetrainComplete t c m how s) := by
  refine .guard (by simp +contextual [siteGuard]) ?_
  extract_lets w x a used n s0 e told v s1 s2
  have htold {y : State} (hy : Keeps s y) : Keeps s (told y) := by simp [told, hy]
  have h0 : Keeps s s0 := by simp [s0]
  split
  · exact .refl s
  split
  · exact htold (by simp [h0])
  have h1 : Keeps s s1 := by
    simp only [s1]
    split
    · simp [h0]
    · split <;> simp [h0]
  exact htold (by simp [s2, h1])

theorem runs_siteLinkDown (t c : Nat) (s : State) :
    Runs (t < 16 ∧ c < 6) s (execSiteLinkDown t c s) :=
  .guard (by omega) (by simp)

theorem runs_siteLinkReturn (t c : Nat) (desc : SiteFound) (badCores : List Nat) (s : State) :
    Runs (t < 16 ∧ c < 6) s (execSiteLinkReturn t c desc badCores s) := by
  refine .guard (by omega) ?_
  dsimp only
  split
  · exact .refl s
  split
  · simp
  split
  · simp
  · refine Keeps.foldl (by simp) fun y b hy => ?_
    simp [hy]

theorem runs_hbmRefresh (j : Nat) (temp : HbmSeen) (s : State) :
    Runs (j < 32) s (execHbmRefresh j temp s) := by
  refine .guard Nat.not_le.2 ?_
  dsimp only
  split <;> simp

theorem runs_hardRepair (j row : Nat) (s : State) :
    Runs (j < 32) s (execHardRepair j row s) := by
  refine .guard Nat.not_le.2 ?_
  dsimp only
  split <;> simp

theorem runs_migrationComplete (j : Nat) (bad : List Nat) (s : State) :
    Runs (j < 32) s (execMigrationComplete j bad s) := by
  refine .guard Nat.not_le.2 ?_
  dsimp only
  (repeat' split) <;> simp

theorem runs_towerSramMigrationComplete (w : TsEnd) (s : State) :
    Runs (w.w < 96) s (execTowerSramMigrationComplete w s) := by
  refine .guard Nat.not_le.2 ?_
  dsimp only
  (repeat' split) <;> simp

theorem runs_bar2Read (p off n : Nat) (ecc : List (Nat × Ecc)) (s : State) :
    Runs (p < 2) s (execBar2Read p off n ecc s) := by
  refine .guard Nat.not_le.2 ?_
  split
  · exact .refl s
  split
  · simp
  split
  · simp
  · simp
  split
  · simp
  split
  · exact .refl s
  extract_lets a met s1 lost
  have h1 : Keeps s s1 := Keeps.foldl (by simp) fun y g hy => by simp [hy]
  split
  dsimp only
  split <;> simp [h1]

theorem runs_bar2ReadTimeout (p off n : Nat) (s : State) :
    Runs (p < 2) s (execBar2ReadTimeout p off n s) := by
  refine .guard Nat.not_le.2 ?_
  split <;> simp

theorem runs_bar2Write (p off n : Nat) (v : BarStore) (s : State) :
    Runs (p < 2) s (execBar2Write p off n v s) := by
  refine .guard Nat.not_le.2 ?_
  split
  · exact .refl s
  split
  · simp
  split
  · simp
  split
  · exact .refl s
  · exact keeps_barPuts _ _ _ (Keeps.foldl (.refl s) fun y g hy => by simp [hy])

theorem runs_atomicopRequest (p : Nat) (s : State) :
    Runs (p < 2) s (execAtomicopRequest p s) :=
  .guard Nat.not_le.2 (by simp)

theorem runs_perstAssert (p : Nat) (s : State) :
    Runs (p < 2) s (execPerstAssert p s) :=
  .guard Nat.not_le.2 (by simp)

theorem runs_perstDeassert (p : Nat) (ref : Bool) (cfg : PortCfg) (s : State) :
    Runs (p < 2) s (execPerstDeassert p ref cfg s) := by
  refine .guard Nat.not_le.2 ?_
  dsimp only
  (repeat' split) <;> simp

theorem runs_hotReset (p : Nat) (s : State) :
    Runs (p < 2) s (execHotReset p s) :=
  .guard Nat.not_le.2 (by simp)

theorem runs_pcieLinkDown (p : Nat) (s : State) :
    Runs (p < 2) s (execPcieLinkDown p s) :=
  .guard Nat.not_le.2 (by simp)

theorem runs_cablePresenceChange (p : Nat) (present : Bool) (s : State) :
    Runs (p < 2) s (execCablePresenceChange p present s) := by
  refine .guard Nat.not_le.2 ?_
  dsimp only
  split <;> simp

theorem runs_d3hotEntry (p : Nat) (s : State) :
    Runs (p < 2) s (execD3hotEntry p s) :=
  .guard Nat.not_le.2 (by simp)

theorem runs_d0Return (p : Nat) (s : State) :
    Runs (p < 2) s (execD0Return p s) := by
  refine .guard Nat.not_le.2 ?_
  dsimp only
  split <;> simp

theorem runs_msixPendingSend (p v : Nat) (cfg : PortCfg) (s : State) :
    Runs (p < 2 ∧ v < 160) s (execMsixPendingSend p v cfg s) := by
  refine .guard (by omega) ?_
  dsimp only
  split <;> simp

theorem runs_hxferComplete (g : Nat) (mt : BitVec 3) (kind : Nat) (data : List (BitVec 512)) (ecc : List (Nat × Ecc)) (s : State) :
    Runs (g < 12288) s (execHxferComplete g mt kind data ecc s) := by
  refine .guard Nat.not_le.2 ?_
  split
  · exact .refl s
  rename_i m _
  split
  · exact .refl s
  extract_lets i p sent place met s' gone why s1 bad s2 s3
  have h : Keeps s s' := by
    refine Keeps.foldl (.refl s) fun y q hy => ?_
    split
    · exact State.keeps_eccAt _ _ hy
    · exact hy
  split
  · have h1 : Keeps s s1 := Keeps.foldl h fun y _ hy => keeps_hxRound _ _ _ hy
    have h2 : Keeps s s2 := by
      simp only [s2]
      split
      · exact (State.keeps_hxCarry ..).2 (keeps_hxLines _ _ _ _ h1)
      · exact (State.keeps_emit ..).2 h1
    have h3 : Keeps s s3 := keeps_hxEnd i g m 3 h2
    split
    · exact keeps_hxEnd i g m 0 h2
    · refine (runs_next ..).2 ?_
      split
      · exact (keeps_statusFatal ..).2 h3
      · exact h3
  · split
    rename_i sp s1 taken
    have h1 : Keeps s s1 := (keeps_snd taken).1 ((State.keeps_takeSplit ..).2 h)
    refine (keeps_hxError ..).2 (keeps_hxEnd i g m 8 ?_)
    split
    · exact (State.keeps_hxCarry ..).2 (keeps_hxLines _ _ _ _ h1)
    · exact (keeps_foldl fun y l => keeps_hxWrite ..).2 h1

theorem runs_doeDiscovery (p : Nat) (index : Byte) (s : State) :
    Runs (p < 2) s (execDoeDiscovery p index s) :=
  .guard Nat.not_le.2 (by simp)

theorem runs_getMeasurements (p : Via) (index : Nat) (signed : Bool) (nonce : BitVec 256) (s : State) :
    Runs (p.p < 2) s (execGetMeasurements p index signed nonce s) :=
  .guard Nat.not_le.2 (by simp)

theorem runs_referenceLost (r : Nat) (s : State) :
    Runs (r < 2) s (execReferenceLost r s) := by
  refine .guard Nat.not_le.2 ?_
  dsimp only
  (repeat' split) <;> simp

theorem runs_referenceQualified (r : RefSeen) (ppm : BitVec 16) (s : State) :
    Runs (r.r < 2) s (execReferenceQualified r ppm s) := by
  refine .guard Nat.not_le.2 ?_
  dsimp only
  (repeat' split) <;> simp

theorem runs_switchRef (p : RefSwitch) (s : State) :
    Runs (p.p < 2) s (execSwitchRef p s) := by
  refine .guard Nat.not_le.2 ?_
  dsimp only
  split <;> simp

theorem runs_switchForcedComplete (s : State) :
    Runs True s (execSwitchForcedComplete s) := by
  unfold execSwitchForcedComplete
  dsimp only
  (repeat' split) <;> simp

theorem runs_holdoverExpiry (s : State) :
    Runs True s (execHoldoverExpiry s) := by
  unfold execHoldoverExpiry
  dsimp only
  (repeat' split) <;> simp

theorem runs_referenceAccepted (r : RefSeen) (lo hi : BitVec 32) (s : State) :
    Runs (r.r < 2) s (execReferenceAccepted r lo hi s) := by
  refine .guard Nat.not_le.2 ?_
  dsimp only
  (repeat' split) <;> simp

theorem runs_tileFeedFault (t : Nat) (s : State) :
    Runs (t < 16) s (execTileFeedFault t s) := by
  refine .guard Nat.not_le.2 ?_
  split
  · exact .refl s
  generalize hfail : (fun (y : State) i => (y.levelStop i).standFatal i { ErrInfo.plain 9 0x1F with tile := some t }) = fail
  extract_lets s1 s2 k
  have h2 : Keeps s s2 := (keeps_foldl fun y i => by simp [← hfail]).2 ((State.keeps_sf ..).2 (.refl s))
  have hout : Keeps s ((s2.sf (Reg.CLK_TILE_STATUS t) Fld.CLK_TILE_STATUS_holdover 1).feedOut t).2 :=
    (State.keeps_feedOut ..).2 ((State.keeps_sf ..).2 h2)
  split
  · rename_i s3 out
    exact State.keeps_tileReset t ((keeps_mk ..).2 ((keeps_snd out).1 hout))
  · rename_i s3 out
    exact State.keeps_tileLogic t ((keeps_mk ..).2 ((keeps_snd out).1 hout))

theorem runs_powerUp (vin : BitVec 12) (s : State) :
    Runs True s (execPowerUp vin s) := by
  unfold execPowerUp
  generalize (if s.inputOut = true then 2400 else 2480) = most
  split
  · exact .refl s
  · exact State.keeps_powerOn vin.toNat (.refl s)

theorem runs_powerRemoval (s : State) :
    Runs True s (execPowerRemoval s) := by
  simp [execPowerRemoval]

theorem runs_inputOvervoltage (vin : BitVec 12) (s : State) :
    Runs True s (execInputOvervoltage vin s) := by
  unfold execInputOvervoltage
  dsimp only
  (repeat' split) <;> simp

theorem runs_supplyHigh (vin : BitVec 12) (s : State) :
    Runs True s (execSupplyHigh vin s) := by
  unfold execSupplyHigh
  split <;> simp

theorem runs_supplyLowExcursion (vin : BitVec 12) (s : State) :
    Runs True s (execSupplyLowExcursion vin s) := by
  unfold execSupplyLowExcursion
  split <;> simp

theorem runs_supplyLowTimeout (s : State) :
    Runs True s (execSupplyLowTimeout s) := by
  unfold execSupplyLowTimeout
  split <;> simp

theorem runs_supplyReturn (vin : BitVec 12) (s : State) :
    Runs True s (execSupplyReturn vin s) := by
  unfold execSupplyReturn
  dsimp only
  (repeat' split) <;> simp

theorem runs_inputLockout (vin : BitVec 12) (s : State) :
    Runs True s (execInputLockout vin s) := by
  unfold execInputLockout
  dsimp only
  (repeat' split) <;> simp

theorem runs_inputReenable (vin : BitVec 12) (s : State) :
    Runs True s (execInputReenable vin s) := by
  unfold execInputReenable
  split
  · exact State.keeps_powerOn vin.toNat (.refl s)
  · exact .refl s

theorem runs_thermalTrip (tower layer tile : Nat) (hbm : Bool) (s : State) :
    Runs (tile < 16 ∧ layer < 4) s (execThermalTrip tower layer tile hbm s) := by
  refine .guard (by omega) ?_
  dsimp only
  split <;> simp

theorem runs_tripRecordWrite (s : State) :
    Runs True s (execTripRecordWrite s) := by
  unfold execTripRecordWrite
  dsimp only
  (repeat' split) <;> simp

theorem runs_housekeepingMeasure (t ch : Nat) (v : BitVec 12) (s : State) :
    Runs (t < 16 ∧ ch < 64) s (execHousekeepingMeasure t ch v s) := by
  refine .guard (by omega) ?_
  split
  · exact .refl s
  extract_lets a off f s0 s1 s1' x far twice s2 s3
  split
  · have h0 : Keeps s s0 := by
      simp only [s0]
      split
      · exact (State.keeps_recalibrated ..).2 ((State.keeps_setFab ..).2 (.refl s))
      · exact .refl s
    exact (State.keeps_sf ..).2 ((State.keeps_setStale ..).2 ((State.keeps_sf ..).2 h0))
  split
  · exact .refl s
  split
  · exact .refl s
  split
  · split
    · exact (State.keeps_sf ..).2 ((State.keeps_sf ..).2 (.refl s))
    · exact (State.keeps_sf ..).2 (.refl s)
  have h1' : Keeps s s1' := (State.keeps_sf ..).2 (.refl s)
  split
  · exact h1'
  have h2 : Keeps s s2 := (keeps_mk ..).2 h1'
  have h3 : Keeps s s3 := by
    simp only [s3]
    split
    · exact (State.keeps_suspect ..).2 h2
    · exact h2
  refine (runs_next ..).2 ?_
  split
  · exact (State.keeps_holdCheck ..).2 h3
  · exact h3

theorem runs_suspectRecalibrationEnd (t ch : Nat) (v : BitVec 12) (s : State) :
    Runs (t < 16 ∧ ch < 40) s (execSuspectRecalibrationEnd t ch v s) := by
  refine .guard (by omega) ?_
  dsimp only
  (repeat' split) <;> simp

theorem runs_powerManagerUpdate (rails : List (Nat × Nat × Nat)) (draws : Telemetry) (input : Nat) (s : State) :
    Runs ((∀ r ∈ rails, r.1 < 96) ∧ (∀ d ∈ draws.towers, d.1 < 96) ∧ (∀ d ∈ draws.hbms, d.1 < 32) ∧ (∀ d ∈ draws.droops, d.1 < 864) ∧
      ∀ d ∈ draws.tiles, d.1 < 16) s (execPowerManagerUpdate rails draws input s) := by
  refine Runs.guard (fun ⟨hr, ht, hh, hd, hl⟩ => ?_) ?_
  · simpa only [Bool.not_eq_true, Bool.or_eq_false_iff, List.any_eq_false, decide_eq_true_eq, ge_iff_le, Nat.not_le, and_assoc] using ⟨hr, ht, hh, hl, hd⟩
  split
  · exact .refl s
  extract_lets s' s1 s2 s3 s4 s5
  have h' : Keeps s s' := by simp [s']
  split
  · exact h'
  · have h1 : Keeps s s1 := (keeps_foldl fun y w => by split <;> simp).2 h'
    simp [s5, s4, s3, s2, h1]

theorem runs_moduleThrottle (input : Nat) (s : State) :
    Runs True s (execModuleThrottle input s) := by
  unfold execModuleThrottle
  dsimp only
  (repeat' split) <;> simp

theorem runs_moduleThrottleEscalate (input : Nat) (s : State) :
    Runs True s (execModuleThrottleEscalate input s) := by
  unfold execModuleThrottleEscalate
  split <;> simp

theorem runs_moduleThrottleEnd (input : Nat) (s : State) :
    Runs True s (execModuleThrottleEnd input s) := by
  unfold execModuleThrottleEnd
  split <;> simp

theorem runs_standTargetWrite (p k : Nat) (v : BitVec 32) (s : State) :
    Runs (p < 2 ∧ k < 16) s (execStandTargetWrite p k v s) := by
  refine .guard (by omega) ?_
  refine .mono (runs_asMaster_write s p k _ _ ?_) (by omega)
  simp

theorem runs_idleDelayExpiry (k : Nat) (s : State) :
    Runs (k < 16) s (execIdleDelayExpiry k s) := by
  refine .guard Nat.not_le.2 ?_
  dsimp only
  (repeat' split) <;> simp

theorem runs_powerEntryStepComplete (k : Nat) (s : State) :
    Runs (k < 16) s (execPowerEntryStepComplete k s) :=
  .guard Nat.not_le.2 (by simp)

theorem runs_towerWakeStart (k : Nat) (s : State) :
    Runs (k < 16) s (execTowerWakeStart k s) := by
  refine .guard Nat.not_le.2 ?_
  dsimp only
  (repeat' split) <;> simp

theorem runs_wakeComplete (x : Woken) (s : State) :
    Runs (x.w < 96) s (execWakeComplete x s) := by
  refine .guard Nat.not_le.2 ?_
  split
  · exact .refl s
  split <;> simp

theorem runs_serviceRecordInterval (s : State) :
    Runs True s (execServiceRecordInterval s) := by
  unfold execServiceRecordInterval
  split
  · exact .refl s
  · exact (keeps_foldl fun y t => by split <;> simp).2 (.refl s)

theorem runs_deadwoodRetry (s : State) :
    Runs True s (execDeadwoodRetry s) := by
  unfold execDeadwoodRetry
  dsimp only
  (repeat' split) <;> simp

theorem runs_startCold (p : Nat) (s : State) :
    Runs (p < 2) s (execStartCold p s) := by
  refine .guard Nat.not_le.2 ?_
  dsimp only
  split <;> simp

theorem runs_startWarm (p : Nat) (bist : Bool) (s : State) :
    Runs (p < 2) s (execStartWarm p bist s) := by
  refine .guard Nat.not_le.2 ?_
  dsimp only
  split <;> simp

theorem runs_startStepComplete (f : StepFinding) (s : State) :
    Runs True s (execStartStepComplete f s) := by
  unfold execStartStepComplete
  extract_lets a n kind sec s0
  split
  · exact .refl s
  split
  · split <;> simp
  split
  · simp
  have h0 : Keeps s s0 := by
    simp only [s0]
    split <;> simp
  split
  · simp [h0]
  split
  · exact .refl s
  rename_i s1 ended
  have h1 : Keeps s s1 := h0.trans (State.keeps_stepEnd ended)
  split
  · dsimp only
    split <;> simp [h1]
  · simp [h1]

theorem runs_tileWarmStartRequest (p : Nat) (v : BitVec 32) (s : State) :
    Runs (p < 2) s (execTileWarmStartRequest p v s) := by
  refine .guard Nat.not_le.2 ?_
  dsimp only
  split <;> simp

theorem runs_tileWarmStartComplete (t : Nat) (s : State) :
    Runs (t < 16) s (execTileWarmStartComplete t s) := by
  refine .guard Nat.not_le.2 ?_
  split <;> simp

theorem runs_errPop (p : Nat) (s : State) :
    Runs (p < 2) s (execErrPop p s) := by
  refine .guard Nat.not_le.2 ?_
  dsimp only
  split <;> simp

theorem runs_sampleCapture (t c arm : Nat) (s : State) :
    Runs (t < 16 ∧ c < 6 ∧ arm < 8) s (execSampleCapture t c arm s) := by
  refine .guard (by omega) ?_
  dsimp only
  split <;> simp

theorem runs_samplePop (p t : Nat) (k : BitVec 7) (s : State) :
    Runs (p < 2 ∧ t < 16) s (execSamplePop p t k s) := by
  refine .guard (by omega) ?_
  exact .mono (s.runs_hostWrite p _ (by simp)) (by omega)

theorem runs_congestionPeriodBoundary (s : State) :
    Runs True s (execCongestionPeriodBoundary s) := by
  unfold execCongestionPeriodBoundary
  dsimp only
  (repeat' split) <;> simp

theorem runs_congestionMapComplete (late : BitVec 16) (s : State) :
    Runs True s (execCongestionMapComplete late s) := by
  unfold execCongestionMapComplete
  dsimp only
  (repeat' split) <;> simp

theorem runs_nvsWriteComplete (c0 c15 : CopyEnd) (s : State) :
    Runs True s (execNvsWriteComplete c0 c15 s) := by
  unfold execNvsWriteComplete
  dsimp only
  (repeat' split) <;> simp

theorem runs_bootGo (p : Nat) (s : State) :
    Runs (p < 2) s (execBootGo p s) := by
  refine .guard Nat.not_le.2 ?_
  dsimp only
  split <;> simp

theorem runs_imageFetchComplete (ok : Bool) (bytes : List Byte) (s : State) :
    Runs True s (execImageFetchComplete ok bytes s) := by
  unfold execImageFetchComplete
  dsimp only
  (repeat' split) <;> simp

theorem runs_raiseSvn (p : Nat) (s : State) :
    Runs (p < 2) s (execRaiseSvn p s) := by
  refine .guard Nat.not_le.2 ?_
  dsimp only
  split <;> simp

theorem runs_controllerHeartbeat (x : Heartbeat) (s : State) :
    Runs True s (execControllerHeartbeat x s) := by
  unfold execControllerHeartbeat
  dsimp only
  (repeat' split) <;> simp

theorem runs_controllerTakeover (s : State) :
    Runs True s (execControllerTakeover s) := by
  unfold execControllerTakeover
  split
  · exact .refl s
  extract_lets a pr other k k1 s1 e s2
  have h1 : Keeps s s1 := by simp [s1]
  split
  · simp [h1]
  · exact Keeps.foldl (by simp [s2, h1]) fun y r hy => by simp [hy]

theorem runs_tapArm (p : Nat) (v : BitVec 32) (s : State) :
    Runs (p < 2) s (execTapArm p v s) := by
  refine .guard Nat.not_le.2 ?_
  dsimp only
  split <;> simp

theorem runs_tapOpen (p : Nat) (s : State) :
    Runs (p < 2) s (execTapOpen p s) := by
  refine .guard Nat.not_le.2 ?_
  dsimp only
  split <;> simp

theorem runs_idcode (s : State) :
    Runs True s (execIdcode s) := by
  simp [execIdcode]

theorem runs_bypass (bit : Bool) (s : State) :
    Runs True s (execBypass bit s) := by
  simp [execBypass]

theorem runs_reprovisioning (keys : List (Nat × List Byte)) (certs : List (List Byte)) (serial : BitVec 64) (s : State) :
    Runs ((∀ k ∈ keys, k.1 < 4) ∧ certs.length = 2) s (execReprovisioning keys certs serial s) := by
  refine Runs.guard (fun ⟨hk, hc⟩ => by simpa [hc] using hk) ?_
  split
  · exact .refl s
  · simp

theorem runs_levelChangeComplete (k : Nat) (rails : List (Nat × Nat)) (s : State) :
    Runs (k < 16) s (execLevelChangeComplete k rails s) := by
  refine .guard Nat.not_le.2 ?_
  dsimp only
  (repeat' split) <;> simp

theorem runs_referenceDisqualified (r : RefOff) (s : State) :
    Runs (r.r < 2) s (execReferenceDisqualified r s) := by
  refine .guard Nat.not_le.2 ?_
  split <;> simp

theorem runs_fullPowerReached (taps : List Reading) (s : State) :
    Runs True s (execFullPowerReached taps s) := by
  unfold execFullPowerReached
  dsimp only
  (repeat' split) <;> simp

theorem runs_modulatorRelockTimeout (tr ch : Nat) (s : State) :
    Runs (tr < 160 ∧ ch < 33) s (execModulatorRelockTimeout tr ch s) := by
  refine .guard (by omega) ?_
  split
  · exact .refl s
  split
  · split <;> simp
  · exact .refl s

theorem runs_settingsRetry (s : State) :
    Runs True s (execSettingsRetry s) := by
  unfold execSettingsRetry
  split <;> simp

theorem runs_hardRepairComplete (j : Nat) (s : State) :
    Runs (j < 32) s (execHardRepairComplete j s) := by
  refine .guard Nat.not_le.2 ?_
  dsimp only
  split <;> simp

theorem runs_startStepTimeout (tile : BitVec 4) (s : State) :
    Runs True s (execStartStepTimeout tile s) := by
  unfold execStartStepTimeout
  dsimp only
  (repeat' split) <;> simp

theorem runs_bar2Resize (p size : Nat) (s : State) :
    Runs (p < 2) s (execBar2Resize p size s) := by
  refine .guard Nat.not_le.2 ?_
  dsimp only
  (repeat' split) <;> simp

theorem runs_aspmL1Transition (p : Nat) (enter : LinkMove) (s : State) :
    Runs (p < 2) s (execAspmL1Transition p enter s) := by
  refine .guard Nat.not_le.2 ?_
  dsimp only
  (repeat' split) <;> simp

end Sys2Proof.Machine

/-! PROOF. Every command keeps the queue and both invariants: the obligations on every step. -/

namespace Sys2Proof.Machine

theorem runs_issueOps {σ s : State} (e : Iss) (ops : List SlotOp) (hk : Keeps σ s) : Runs (e.g < 12288 ∧ False) σ (issueOps s e ops) := by
  refine .guard (fun h => by omega) ?_
  dsimp only
  refine .guard (fun h => h.2.elim) ?_
  split
  · exact fun h => h.2
  split
  · exact hk
  split
  · show Keeps σ _
    split
    · exact keeps_nearAll _ _ _ _ _ (keeps_idleDetect _ _ (State.keeps_cross _ _ hk))
    · exact hk
  split
  · exact hk.setCore hk _ id
  · exact keeps_issueBundle _ _ hk

/-- Command `i` names units of the module and keeps the fields of the program encoding. -/
abbrev runOk (i : Instr) : Bool := i.unitsOk && Instr.programOk i

/-- No command is refused, and what comes of one keeps what is kept; one that enters no bundle faults only where it names no unit. -/
theorem exec_runs (i : Instr) (s : State) : Runs (Instr.whole i = true ∧ runOk i = true) s (exec i s) := by
  have slot (e : Iss) (ops : List SlotOp) {s' : State} (hk : Keeps s s') (h : ¬ Instr.whole i = true) :
      Runs (Instr.whole i = true ∧ runOk i = true) s (issueOps s' e ops) :=
    (runs_issueOps e ops hk).mono fun h' => absurd h'.1 h
  delta runOk Sys2Proof.Instr.unitsOk Instr.programOk at *
  cases i
  case registerWrite => exact (runs_registerWrite ..).mono fun h => by simpa [and_assoc] using h.2
  case registerLowWordRead => exact (runs_registerLowWordRead ..).mono fun h => by simpa [and_assoc] using h.2
  case registerHighWordRead => exact (runs_registerHighWordRead ..).mono fun h => by simpa [and_assoc] using h.2
  case registerLowWordWrite => exact (runs_registerLowWordWrite ..).mono fun h => by simpa [and_assoc] using h.2
  case registerHighWordWrite => exact (runs_registerHighWordWrite ..).mono fun h => by simpa [and_assoc] using h.2
  case commit => exact (runs_commit ..).mono fun h => by simpa [and_assoc] using h.2
  case restage => exact (runs_restage ..).mono fun h => by simpa [and_assoc] using h.2
  case launch => exact (runs_launch ..).mono fun h => by simpa [and_assoc] using h.2
  case abort => exact (runs_abort ..).mono fun h => by simpa [and_assoc] using h.2
  case programLoadComplete => exact (runs_programLoadComplete ..).mono fun h => by simpa [and_assoc] using h.2
  case startMissed => exact (runs_startMissed ..).mono fun h => by simpa [and_assoc] using h.2
  case beatGate => exact (runs_beatGate ..).mono fun h => by simpa [and_assoc] using h.2
  case gridEdge => exact (runs_gridEdge ..).mono fun h => by simpa [and_assoc] using h.2
  case holdLimit => exact (runs_holdLimit ..).mono fun h => by simpa [and_assoc] using h.2
  case clearAbandon => exact (runs_clearAbandon ..).mono fun h => by simpa [and_assoc] using h.2
  case wflagHoldLimit => exact (runs_wflagHoldLimit ..).mono fun h => by simpa [and_assoc] using h.2
  case spareLoadComplete => exact (runs_spareLoadComplete ..).mono fun h => by simpa [and_assoc] using h.2
  case fencedCorePowerOff => exact (runs_fencedCorePowerOff ..).mono fun h => by simpa [and_assoc] using h.2
  case levelChangeClockRestart => exact (runs_levelChangeClockRestart ..).mono fun h => by simpa [and_assoc] using h.2
  case levelRaiseDividerChange => exact (runs_levelRaiseDividerChange ..).mono fun h => by simpa [and_assoc] using h.2
  case standHandlingSettled => exact (runs_standHandlingSettled ..).mono fun h => by simpa [and_assoc] using h.2
  case qld => exact (runs_qld ..).mono fun h => by simpa [and_assoc] using h.2
  case qwt => exact (runs_qwt ..).mono fun h => by simpa [and_assoc] using h.2
  case cbind => exact (runs_cbind ..).mono fun h => by simpa [and_assoc] using h.2
  case msim => exact (runs_msim ..).mono fun h => by simpa [and_assoc] using h.2
  case dseg => exact (runs_dseg ..).mono fun h => by simpa [and_assoc] using h.2
  case dclose => exact (runs_dclose ..).mono fun h => by simpa [and_assoc] using h.2
  case tkins => exact (runs_tkins ..).mono fun h => by simpa [and_assoc] using h.2
  case tkrd => exact (runs_tkrd ..).mono fun h => by simpa [and_assoc] using h.2
  case tkclr => exact (runs_tkclr ..).mono fun h => by simpa [and_assoc] using h.2
  case tkcfg => exact (runs_tkcfg ..).mono fun h => by simpa [and_assoc] using h.2
  case tsldDataReturn => exact (runs_tsldDataReturn ..).mono fun h => by simpa [and_assoc] using h.2
  case moveTagComplete => exact (runs_moveTagComplete ..).mono fun h => by simpa [and_assoc] using h.2
  case requestArrival => exact (runs_requestArrival ..).mono fun h => by simpa [and_assoc] using h.2
  case engineCycle => exact (runs_engineCycle ..).mono fun h => by simpa [and_assoc] using h.2
  case replyArrival => exact (runs_replyArrival ..).mono fun h => by simpa [and_assoc] using h.2
  case confirmArrival => exact (runs_confirmArrival ..).mono fun h => by simpa [and_assoc] using h.2
  case retransmissionTimeout => exact (runs_retransmissionTimeout ..).mono fun h => by simpa [and_assoc] using h.2
  case routerCycle => exact (runs_routerCycle ..).mono fun h => by simpa [and_assoc] using h.2
  case combHoldExpiry => exact (runs_combHoldExpiry ..).mono fun h => by simpa [and_assoc] using h.2
  case laneFence => exact (runs_laneFence ..).mono fun h => by simpa [and_assoc] using h.2
  case seqOpen => exact (runs_seqOpen ..).mono fun h => by simpa [and_assoc] using h.2
  case seqClose => exact (runs_seqClose ..).mono fun h => by simpa [and_assoc] using h.2
  case seqMcast => exact (runs_seqMcast ..).mono fun h => by simpa [and_assoc] using h.2
  case seqSwap => exact (runs_seqSwap ..).mono fun h => by simpa [and_assoc] using h.2
  case seqPark => exact (runs_seqPark ..).mono fun h => by simpa [and_assoc] using h.2
  case seqBind => exact (runs_seqBind ..).mono fun h => by simpa [and_assoc] using h.2
  case seqUnbind => exact (runs_seqUnbind ..).mono fun h => by simpa [and_assoc] using h.2
  case seqWait => exact (runs_seqWait ..).mono fun h => by simpa [and_assoc] using h.2
  case seqLoop => exact (runs_seqLoop ..).mono fun h => by simpa [and_assoc] using h.2
  case seqJump => exact (runs_seqJump ..).mono fun h => by simpa [and_assoc] using h.2
  case seqNote => exact (runs_seqNote ..).mono fun h => by simpa [and_assoc] using h.2
  case frameVerdict => exact (runs_frameVerdict ..).mono fun h => by simpa [and_assoc] using h.2
  case framingCodeword => exact (runs_framingCodeword ..).mono fun h => by simpa [and_assoc] using h.2
  case relockTimeout => exact (runs_relockTimeout ..).mono fun h => by simpa [and_assoc] using h.2
  case listenerMoveComplete => exact (runs_listenerMoveComplete ..).mono fun h => by simpa [and_assoc] using h.2
  case lockLoopUpdate => exact (runs_lockLoopUpdate ..).mono fun h => by simpa [and_assoc] using h.2
  case intruderMessage => exact (runs_intruderMessage ..).mono fun h => by simpa [and_assoc] using h.2
  case rotationStep => exact (runs_rotationStep ..).mono fun h => by simpa [and_assoc] using h.2
  case calibrationComplete => exact (runs_calibrationComplete ..).mono fun h => by simpa [and_assoc] using h.2
  case heaterSupplyFail => exact (runs_heaterSupplyFail ..).mono fun h => by simpa [and_assoc] using h.2
  case fibreSuddenLoss => exact (runs_fibreSuddenLoss ..).mono fun h => by simpa [and_assoc] using h.2
  case fibreSwitch => exact (runs_fibreSwitch ..).mono fun h => by simpa [and_assoc] using h.2
  case fibreSwitchComplete => exact (runs_fibreSwitchComplete ..).mono fun h => by simpa [and_assoc] using h.2
  case pilotMissing => exact (runs_pilotMissing ..).mono fun h => by simpa [and_assoc] using h.2
  case ilkClose => exact (runs_ilkClose ..).mono fun _ => trivial
  case rampTimeout => exact (runs_rampTimeout ..).mono fun _ => trivial
  case opticalReady => exact (runs_opticalReady ..).mono fun _ => trivial
  case ilkOpenRequest => exact (runs_ilkOpenRequest ..).mono fun h => by simpa [and_assoc] using h.2
  case closeReq => exact (runs_closeReq ..).mono fun h => by simpa [and_assoc] using h.2
  case monitorReading => exact (runs_monitorReading ..).mono fun h => by simpa [and_assoc] using h.2
  case monitorReadingDone => exact (runs_monitorReadingDone ..).mono fun h => by simpa [and_assoc] using h.2
  case siteFlitReceive => exact (runs_siteFlitReceive ..).mono fun h => by simpa [and_assoc] using h.2
  case streamBind => exact (runs_streamBind ..).mono fun h => by simpa [and_assoc] using h.2
  case streamUnbind => exact (runs_streamUnbind ..).mono fun h => by simpa [and_assoc] using h.2
  case programImage => exact (runs_programImage ..).mono fun h => by simpa [and_assoc] using h.2
  case standStart => exact (runs_standStart ..).mono fun h => by simpa [and_assoc] using h.2
  case standEnd => exact (runs_standEnd ..).mono fun h => by simpa [and_assoc] using h.2
  case agentFault => exact (runs_agentFault ..).mono fun h => by simpa [and_assoc] using h.2
  case linkEvent => exact (runs_linkEvent ..).mono fun h => by simpa [and_assoc] using h.2
  case beatFlitDown => exact (runs_beatFlitDown ..).mono fun h => by simpa [and_assoc] using h.2
  case beatFlitUp => exact (runs_beatFlitUp ..).mono fun h => by simpa [and_assoc] using h.2
  case siteModuleFailure => exact (runs_siteModuleFailure ..).mono fun h => by simpa [and_assoc] using h.2
  case moduleRetrainComplete => exact (runs_moduleRetrainComplete ..).mono fun h => by simpa [and_assoc] using h.2
  case siteLinkDown => exact (runs_siteLinkDown ..).mono fun h => by simpa [and_assoc] using h.2
  case siteLinkReturn => exact (runs_siteLinkReturn ..).mono fun h => And.imp_right And.left <| by simpa [and_assoc] using h.2
  case hbmRefresh => exact (runs_hbmRefresh ..).mono fun h => by simpa [and_assoc] using h.2
  case hardRepair => exact (runs_hardRepair ..).mono fun h => by simpa [and_assoc] using h.2
  case migrationComplete => exact (runs_migrationComplete ..).mono fun h => by simpa [and_assoc] using h.2
  case towerSramMigrationComplete => exact (runs_towerSramMigrationComplete ..).mono fun h => by simpa [and_assoc] using h.2
  case bar2Read => exact (runs_bar2Read ..).mono fun h => by simpa [and_assoc] using h.2
  case bar2ReadTimeout => exact (runs_bar2ReadTimeout ..).mono fun h => by simpa [and_assoc] using h.2
  case bar2Write => exact (runs_bar2Write ..).mono fun h => by simpa [and_assoc] using h.2
  case atomicopRequest => exact (runs_atomicopRequest ..).mono fun h => by simpa [and_assoc] using h.2
  case perstAssert => exact (runs_perstAssert ..).mono fun h => by simpa [and_assoc] using h.2
  case perstDeassert => exact (runs_perstDeassert ..).mono fun h => by simpa [and_assoc] using h.2
  case hotReset => exact (runs_hotReset ..).mono fun h => by simpa [and_assoc] using h.2
  case pcieLinkDown => exact (runs_pcieLinkDown ..).mono fun h => by simpa [and_assoc] using h.2
  case cablePresenceChange => exact (runs_cablePresenceChange ..).mono fun h => by simpa [and_assoc] using h.2
  case d3hotEntry => exact (runs_d3hotEntry ..).mono fun h => by simpa [and_assoc] using h.2
  case d0Return => exact (runs_d0Return ..).mono fun h => by simpa [and_assoc] using h.2
  case msixPendingSend => exact (runs_msixPendingSend ..).mono fun h => by simpa [and_assoc] using h.2
  case hxferComplete => exact (runs_hxferComplete ..).mono fun h => by simpa [and_assoc] using h.2
  case setEndpointId => exact (runs_setEndpointId ..).mono fun h => by simpa [and_assoc] using h.2
  case doeDiscovery => exact (runs_doeDiscovery ..).mono fun h => by simpa [and_assoc] using h.2
  case negotiateAlgorithms => exact (runs_negotiateAlgorithms ..).mono fun h => by simpa [and_assoc] using h.2
  case getCertificate => exact (runs_getCertificate ..).mono fun h => by simpa [and_assoc] using h.2
  case challenge => exact (runs_challenge ..).mono fun h => by simpa [and_assoc] using h.2
  case getMeasurements => exact (runs_getMeasurements ..).mono fun h => by simpa [and_assoc] using h.2
  case mctpUnsupportedType => exact (runs_mctpUnsupportedType ..).mono fun h => by simpa [and_assoc] using h.2
  case referenceLost => exact (runs_referenceLost ..).mono fun h => by simpa [and_assoc] using h.2
  case referenceQualified => exact (runs_referenceQualified ..).mono fun h => by simpa [and_assoc] using h.2
  case switchRef => exact (runs_switchRef ..).mono fun h => by simpa [and_assoc] using h.2
  case switchForcedComplete => exact (runs_switchForcedComplete ..).mono fun _ => trivial
  case holdoverExpiry => exact (runs_holdoverExpiry ..).mono fun _ => trivial
  case referenceAccepted => exact (runs_referenceAccepted ..).mono fun h => by simpa [and_assoc] using h.2
  case tileFeedFault => exact (runs_tileFeedFault ..).mono fun h => by simpa [and_assoc] using h.2
  case powerUp => exact (runs_powerUp ..).mono fun _ => trivial
  case powerRemoval => exact (runs_powerRemoval ..).mono fun _ => trivial
  case inputOvervoltage => exact (runs_inputOvervoltage ..).mono fun _ => trivial
  case supplyHigh => exact (runs_supplyHigh ..).mono fun _ => trivial
  case supplyLowExcursion => exact (runs_supplyLowExcursion ..).mono fun _ => trivial
  case supplyLowTimeout => exact (runs_supplyLowTimeout ..).mono fun _ => trivial
  case supplyReturn => exact (runs_supplyReturn ..).mono fun _ => trivial
  case inputLockout => exact (runs_inputLockout ..).mono fun _ => trivial
  case inputReenable => exact (runs_inputReenable ..).mono fun _ => trivial
  case thermalTrip => exact (runs_thermalTrip ..).mono fun h => by simpa [and_assoc] using h.2
  case tripRecordWrite => exact (runs_tripRecordWrite ..).mono fun _ => trivial
  case housekeepingMeasure => exact (runs_housekeepingMeasure ..).mono fun h => by simpa [and_assoc] using h.2
  case suspectRecalibrationEnd => exact (runs_suspectRecalibrationEnd ..).mono fun h => by simpa [and_assoc] using h.2
  case powerManagerUpdate => exact (runs_powerManagerUpdate ..).mono fun h => by simpa [and_assoc] using h.2
  case moduleThrottle => exact (runs_moduleThrottle ..).mono fun _ => trivial
  case moduleThrottleEscalate => exact (runs_moduleThrottleEscalate ..).mono fun _ => trivial
  case moduleThrottleEnd => exact (runs_moduleThrottleEnd ..).mono fun _ => trivial
  case standTargetWrite => exact (runs_standTargetWrite ..).mono fun h => by simpa [and_assoc] using h.2
  case idleDelayExpiry => exact (runs_idleDelayExpiry ..).mono fun h => by simpa [and_assoc] using h.2
  case powerEntryStepComplete => exact (runs_powerEntryStepComplete ..).mono fun h => by simpa [and_assoc] using h.2
  case towerWakeStart => exact (runs_towerWakeStart ..).mono fun h => by simpa [and_assoc] using h.2
  case wakeComplete => exact (runs_wakeComplete ..).mono fun h => by simpa [and_assoc] using h.2
  case serviceRecordInterval => exact (runs_serviceRecordInterval ..).mono fun _ => trivial
  case deadwoodRetry => exact (runs_deadwoodRetry ..).mono fun _ => trivial
  case startCold => exact (runs_startCold ..).mono fun h => by simpa [and_assoc] using h.2
  case startWarm => exact (runs_startWarm ..).mono fun h => by simpa [and_assoc] using h.2
  case startStepComplete => exact (runs_startStepComplete ..).mono fun _ => trivial
  case tileWarmStartRequest => exact (runs_tileWarmStartRequest ..).mono fun h => by simpa [and_assoc] using h.2
  case tileWarmStartComplete => exact (runs_tileWarmStartComplete ..).mono fun h => by simpa [and_assoc] using h.2
  case errPop => exact (runs_errPop ..).mono fun h => by simpa [and_assoc] using h.2
  case sampleCapture => exact (runs_sampleCapture ..).mono fun h => by simpa [and_assoc] using h.2
  case samplePop => exact (runs_samplePop ..).mono fun h => by simpa [and_assoc] using h.2
  case congestionPeriodBoundary => exact (runs_congestionPeriodBoundary ..).mono fun _ => trivial
  case congestionMapComplete => exact (runs_congestionMapComplete ..).mono fun _ => trivial
  case nvsWriteComplete => exact (runs_nvsWriteComplete ..).mono fun _ => trivial
  case bootGo => exact (runs_bootGo ..).mono fun h => by simpa [and_assoc] using h.2
  case imageFetchComplete => exact (runs_imageFetchComplete ..).mono fun _ => trivial
  case raiseSvn => exact (runs_raiseSvn ..).mono fun h => by simpa [and_assoc] using h.2
  case controllerHeartbeat => exact (runs_controllerHeartbeat ..).mono fun _ => trivial
  case controllerTakeover => exact (runs_controllerTakeover ..).mono fun _ => trivial
  case tapArm => exact (runs_tapArm ..).mono fun h => by simpa [and_assoc] using h.2
  case tapOpen => exact (runs_tapOpen ..).mono fun h => by simpa [and_assoc] using h.2
  case idcode => exact (runs_idcode ..).mono fun _ => trivial
  case bypass => exact (runs_bypass ..).mono fun _ => trivial
  case reprovisioning => exact (runs_reprovisioning ..).mono fun h => by simpa [and_assoc] using h.2
  case levelChangeComplete => exact (runs_levelChangeComplete ..).mono fun h => by simpa [and_assoc] using h.2
  case referenceDisqualified => exact (runs_referenceDisqualified ..).mono fun h => by simpa [and_assoc] using h.2
  case fullPowerReached => exact (runs_fullPowerReached ..).mono fun _ => trivial
  case modulatorRelockTimeout => exact (runs_modulatorRelockTimeout ..).mono fun h => by simpa [and_assoc] using h.2
  case settingsRetry => exact (runs_settingsRetry ..).mono fun _ => trivial
  case hardRepairComplete => exact (runs_hardRepairComplete ..).mono fun h => by simpa [and_assoc] using h.2
  case startStepTimeout => exact (runs_startStepTimeout ..).mono fun _ => trivial
  case bar2Resize => exact (runs_bar2Resize ..).mono fun h => by simpa [and_assoc] using h.2
  case aspmL1Transition => exact (runs_aspmL1Transition ..).mono fun h => by simpa [and_assoc] using h.2
  case getVersion => exact (runs_getVersion ..).mono fun h => by simpa [and_assoc] using h.2
  case getCapabilities => exact (runs_getCapabilities ..).mono fun h => by simpa [and_assoc] using h.2
  case tsld e f ecc => exact slot e _ (keeps_farEcc _ _ _ (.refl s)) nofun
  case bmov e f ecc => exact slot e _ (keeps_moveEcc _ _ _ (.refl s)) nofun
  case hmov e f ecc => exact slot e _ (keeps_moveEcc _ _ _ (.refl s)) nofun
  case emptyBundle e => exact slot { e with last := true } [] (.setCore (.refl s) (.refl s) _ id) nofun
  all_goals exact slot _ _ (.refl s) nofun

/-- A step, from `s` with the front command off the queue, keeps both invariants. -/
theorem step_keeps {s t : State} (h : step s = .next t) : (s.MemoryOk → t.MemoryOk) ∧ (s.ResultsOrdered → t.ResultsOrdered) := by
  unfold step at h
  split at h
  · obtain ⟨-, hm, ho⟩ : Keeps s t := Host.Outcome.next.inj h ▸ (State.keeps_tick s).2 (.refl s)
    exact ⟨hm, ho⟩
  · rename_i i rest _
    have hr := exec_runs i { s with pending := rest }
    rw [h] at hr
    obtain ⟨-, hm, ho⟩ : Keeps { s with pending := rest } t := hr
    exact ⟨hm, ho⟩

/-- Settles O56: every command keeps the form of memory, and a step with no command lets a tick pass. -/
theorem stepKeepsMemory : Obligations.StepKeepsMemory := fun _ _ hs h => (step_keeps h).1 hs

/-- Settles O57: every command keeps the results on their way in the order of their due cycles. -/
theorem stepKeepsOrder : Obligations.StepKeepsOrder := fun _ _ hs h => (step_keeps h).2 hs

/-- Settles O59: no command is refused, and each leaves the queue as it is. -/
theorem queueOnlyPops : Obligations.QueueOnlyPops := by
  intro s i
  have hr := exec_runs i s
  refine ⟨fun r h => ?_, fun t h => ?_⟩
  · rw [h] at hr
    exact hr
  · rw [h] at hr
    exact hr.1

/-- Outside the bundles the operands that `Instr.wf` admits are those that name units. -/
theorem Instr.unitsOk_of_wf {i : Instr} (hw : Instr.whole i = true) (h : i.wf = true) : i.unitsOk = true := by
  obtain ⟨hslot, -⟩ := Bool.and_eq_true_iff.1 hw
  unfold Sys2Proof.Instr.wf at h
  rwa [Option.isNone_iff_eq_none.1 hslot] at h

/-- Settles O60: a whole command faults only where its operands name no unit or its fields break the program encoding. -/
theorem unitCommandsComplete : Obligations.UnitCommandsComplete := by
  intro s i hw hwf hp
  have hr := exec_runs i s
  have hok : runOk i = true := by rw [runOk, Instr.unitsOk_of_wf hw hwf, hp]; rfl
  cases h : exec i s with
  | next t => exact ⟨t, rfl⟩
  | fault f => rw [h] at hr; exact absurd ⟨hw, hok⟩ hr
  | refused r => rw [h] at hr; exact hr.elim

/-- Settles O1: by the definition of a step. -/
theorem stepRunsFrontCommand : Obligations.StepRunsFrontCommand := by
  intro s i rest h
  rw [step, h]

/-- Settles O58: at reset memory holds no cell, no core a result on its way, and the queue no command. -/
theorem resetInvariant : Obligations.ResetInvariant := ⟨rfl, fun _ => List.Pairwise.nil, rfl⟩

end Sys2Proof.Machine

/-! PROOF. The issue of a bundle whose operations' effects are known (R88, R125, R126). -/

namespace Sys2Proof.Machine

/-! ### Results that join those on their way -/

/-- `ps` are the results on their way at core `c` once the results `ws` of a bundle have joined them. -/
def Joins (c : CoreSt) (ws ps : List Pend) : Prop :=
  (ps.Pairwise fun p q => p.due ≤ q.due) ∧ (∀ p, p ∈ ps ↔ p ∈ c.pend ∨ p ∈ ws) ∧
    ∀ n d v, writes d v (ps.filter fun p => decide (p.due ≤ n)) =
      ((ws.find? fun w => w.holds c n d).map fun w => d.after w.val).getD (writes d v (c.pend.filter fun p => decide (p.due ≤ n)))

theorem Joins.nil {c : CoreSt} (h : c.Ordered) : Joins c [] c.pend := ⟨h, by simp, fun _ _ _ => rfl⟩

/-- A result for a register that no earlier result of the bundle goes to. -/
theorem Joins.snoc {c : CoreSt} {ws ps : List Pend} (h : Joins c ws ps) (w : Pend) (hw : ∀ x ∈ ws, x.dest ≠ w.dest) :
    Joins c (ws ++ [w]) (pendInsert w ps) := by
  obtain ⟨ordered, members, values⟩ := h
  refine ⟨pendInsert_sorted w ps ordered, fun p => ?_, fun n d v => ?_⟩
  · rw [mem_pendInsert, members]
    simp only [List.mem_append, List.mem_singleton]
    tauto
  · have hcore := writes_pendInsert d v { c with pend := ps } w n ordered
    have holds : w.holds { c with pend := ps } n d = w.holds c n d := by
      by_cases hd : w.dest = d
      · simp only [Pend.holds]
        congr 1
        rw [Bool.eq_iff_iff, List.all_eq_true, List.all_eq_true]
        refine ⟨fun k p hp => k p ((members p).2 (.inl hp)), fun k p hp => ?_⟩
        rcases (members p).1 hp with hp | hp
        · exact k p hp
        · have hne : p.dest ≠ d := fun e => hw p hp (e.trans hd.symm)
          simp [hne]
      · simp [Pend.holds, hd]
    rw [hcore, holds, values n d v, List.find?_append]
    cases hf : ws.find? fun x => x.holds c n d with
    | none => simp [List.find?_singleton]; split <;> rfl
    | some x =>
      have hx : x.holds c n d = true := List.find?_some (p := fun x => Pend.holds c n d x) hf
      have hxd : x.dest = d := by simp only [Pend.holds, Bool.and_eq_true, decide_eq_true_eq] at hx; exact hx.1.1
      have hwd : w.dest ≠ d := fun e => hw x (List.mem_of_find?_eq_some hf) (hxd.trans e.symm)
      have hne : w.holds c n d = false := by simp [Pend.holds, hwd]
      simp [hne]

theorem Joins.one {c : CoreSt} (h : c.Ordered) (w : Pend) : Joins c [w] (pendInsert w c.pend) := by
  simpa only [List.nil_append] using (Joins.nil h).snoc w (by simp)

theorem Joins.resS {c : CoreSt} (h : c.Ordered) (l : Nat) (d : R5) (v : Word) : Joins c (c.resS l d v) (c.pendS l d v) := by
  unfold CoreSt.resS CoreSt.pendS
  split
  · exact .nil h
  · exact .one h _

/-! ### The bundle sequence -/

/-- The bundle sequence moves by the loops, the delay bundles and the scalar registers, and nothing else moves with it. -/
theorem advance_congr {c c' : CoreSt} (x : Option SOp) (pc : c.pc = c'.pc) (loops : c.loops = c'.loops) (delay : c.delay = c'.delay)
    (regs : c.s = c'.s) :
    advance c x = { c with pc := (advance c' x).pc, led := (advance c' x).led, loops := (advance c' x).loops,
                           delay := (advance c' x).delay } := by
  have sr : c.sr = c'.sr := funext fun r => by simp only [CoreSt.sr, regs]
  have loop : loopOf c = loopOf c' := funext fun y => by cases y <;> simp only [loopOf, sr]
  have branch : branchOf c = branchOf c' := funext fun y => by cases y <;> simp only [branchOf, sr]
  unfold advance
  rw [loop, branch, delay, loops, pc]
  rcases hd : c'.delay with _ | ⟨n, t⟩
  · rcases x.bind (loopOf c') with _ | ⟨last, n⟩
    · rcases x.bind (branchOf c') with _ | t <;> simp [← loops]
    · by_cases empty : n = 0 <;> simp [empty]
  · by_cases last : n ≤ 1 <;> simp [last, ← loops]

/-! ### What an issue leaves -/

/-- Core `c` as the operations of its bundle leave it, the results `ps` on their way and `l` in its link. -/
def CoreSt.left (c : CoreSt) (ps : List Pend) (l : List (Nat × Nat)) : CoreSt :=
  { c with pend := ps, waiting := none, waitHolds := 0, link := l }

/-- A bundle whose operations' effect outside its core leaves `s'`, and in it core `c` with its results `ws` on their way. -/
theorem issueGo_issuedAs {s s' u : State} {e : Iss} {ops : List SlotOp} {c : CoreSt} {ws ps : List Pend} {l : List (Nat × Nat)}
    (hop : ops.foldl (fun a o => opApply a e.g o) (issueBase s e ops) = u) (hu : OnlyCore s' u e.g)
    (hcore : u.core e.g = c.left ps l)
    (pc : c.pc = (s.core e.g).pc) (loops : c.loops = (s.core e.g).loops) (delay : c.delay = (s.core e.g).delay)
    (regs : c.s = (s.core e.g).s) (hj : Joins c ws ps) : IssuedAs s' (issueGo s e ops) e (sOf ops) c ws := by
  obtain ⟨sent, hgo⟩ := issueGo_eq s e ops
  obtain ⟨ordered, -, values⟩ := hj
  rw [hgo]
  simp only [hop]
  rw [hcore]
  unfold CoreSt.left
  set q := advance (s.core e.g) (sOf ops) with hq
  set c1 : CoreSt := { c with
    pend := ps, waiting := none, waitHolds := 0, pc := q.pc, led := q.led, loops := q.loops, delay := q.delay, staged := [],
    cycle := c.cycle + 1 + e.idle.toNat, active := true, sbStall := false, link := l ++ sent } with hc1
  obtain ⟨nm, pt, hk⟩ : ∃ nm pt, c1.clockOn (s.halfPattern e.g) (1 + e.idle.toNat) = { c1 with nom := nm, pat := pt } :=
    ⟨_, _, clockOn_fields _ _ c1⟩
  rw [hk]
  set c2 : CoreSt := { c1 with nom := nm, pat := pt } with hc2
  have ordered2 : c2.Ordered := ordered
  have settled : ∃ a b k d p, c2.settle = { c2 with s := a, v := b, k := k, accVis := d, pend := p } :=
    ⟨_, _, _, _, _, settle_fields c2⟩
  refine ⟨hu.trans (OnlyCore.setCore u e.g _), ?one, ?delivers, ?ordered⟩
  all_goals rw [State.core_setCore_same]
  case one =>
    show OneOn c c2.settle e (sOf ops)
    unfold OneOn
    rw [advance_congr (sOf ops) pc loops delay regs]
    obtain ⟨a, b, k, d, p, hs⟩ := settled
    rw [hs]
  case delivers =>
    intro n hn d
    show (c2.settle.atCycle n).get d = _
    have hn' : c2.cycle ≤ n := by rw [settle_fields c2] at hn; exact hn
    rw [get_settled c2 n hn' ordered2, CoreSt.get_atCycle]
    show writes d (c2.get d) (ps.filter _) = _
    have hg : c2.get d = c.get d := CoreSt.get_congr rfl rfl rfl rfl d
    rw [values, CoreSt.get_atCycle, hg]
    cases ws.find? fun w => w.holds c n d <;> rfl
  case ordered => exact List.Pairwise.filter _ ordered

/-! ### A ready bundle of one operation -/

section
variable {s s' : State} {i : Instr} {e : Iss} {o : SlotOp} {c : CoreSt} {ws ps : List Pend}

/-- The core in which the operation of a ready bundle acts. -/
def CoreSt.issuing (c : CoreSt) (l : List (Nat × Nat)) : CoreSt := { c with waiting := none, waitHolds := 0, link := l }

theorem issueBase_core (s : State) (e : Iss) (ops : List SlotOp) :
    (issueBase (s.met e) e ops).core e.g = (s.core e.g).issuing ((s.met e).core e.g).link := by
  rw [(issueBase_spec (s.met e) e ops).2, (met_spec s e).2]
  rfl

theorem issueBase_onlyCore (s : State) (e : Iss) (ops : List SlotOp) : OnlyCore s (issueBase (s.met e) e ops) e.g :=
  (met_spec s e).1.trans (issueBase_spec (s.met e) e ops).1

/-- A ready bundle that nothing stalls and that meets no error issues with its operation's effect. -/
theorem Ready.issuesIn (h : Ready s e o) (hi : exec i s = issueOps s e [o]) (stall : stallReasons (s.met e) e.g [o] = [])
    (errors : opErrors (s.met e) e.g ((s.met e).core e.g) o = [])
    (outside : OnlyCore s' (opApply (issueBase (s.met e) e [o]) e.g o) e.g)
    (core : (opApply (issueBase (s.met e) e [o]) e.g o).core e.g =
      c.left ps ((s.met e).core e.g).link)
    (pc : c.pc = (s.core e.g).pc) (loops : c.loops = (s.core e.g).loops) (delay : c.delay = (s.core e.g).delay)
    (regs : c.s = (s.core e.g).s) (hj : Joins c ws ps) : IssuesIn s s' i e o c ws := by
  refine ⟨_, hi.trans (issueOps_one s e o h stall (errors_one _ e o h.met errors)), ?_⟩
  have met := (met_spec s e).2
  exact issueGo_issuedAs rfl outside core (by rw [pc, met]) (by rw [loops, met]) (by rw [delay, met]) (by rw [regs, met]) hj

/-- The same for an operation whose effect stays within the core. -/
theorem Ready.issues {f : CoreSt → CoreSt} (h : Ready s e o) (hi : exec i s = issueOps s e [o])
    (stall : stallReasons (s.met e) e.g [o] = []) (errors : opErrors (s.met e) e.g ((s.met e).core e.g) o = [])
    (apply : ∀ t : State, opApply t e.g o = t.setCore e.g (f (t.core e.g)))
    (core : ∀ l, f ((s.core e.g).issuing l) = c.left ps l)
    (pc : c.pc = (s.core e.g).pc) (loops : c.loops = (s.core e.g).loops) (delay : c.delay = (s.core e.g).delay)
    (regs : c.s = (s.core e.g).s) (hj : Joins c ws ps) : Issues s i e o c ws := by
  refine h.issuesIn hi stall errors ?_ ?_ pc loops delay regs hj
  · rw [apply]
    exact (issueBase_onlyCore s e [o]).trans (OnlyCore.setCore _ _ _)
  · rw [apply, State.core_setCore_same, issueBase_core, core]

end

end Sys2Proof.Machine

/-! PROOF. The vector instructions (R167 to R179): each only puts a result on its way, and its lanes are those of the rules. -/

namespace Sys2Proof.Machine

/-! ### Elements packed into a vector -/

theorem packBits_lt (w : Nat) (xs : List Nat) : packBits w xs < 2 ^ (w * xs.length) := by
  induction xs with
  | nil => simp [packBits]
  | cons x xs ih =>
    have hx : x % 2 ^ w < 2 ^ w := Nat.mod_lt _ (Nat.two_pow_pos w)
    have step : 2 ^ w * packBits w xs + 2 ^ w ≤ 2 ^ w * 2 ^ (w * xs.length) := by
      rw [← Nat.mul_succ]
      exact Nat.mul_le_mul_left _ ih
    rw [packBits, List.length_cons, Nat.mul_succ, Nat.add_comm, Nat.add_comm _ w, Nat.pow_add]
    omega

theorem natBits_packBits {w : Nat} {xs : List Nat} {i : Nat} (hi : i < xs.length) :
    natBits (packBits w xs) (w * i) w = xs[i] % 2 ^ w := by
  induction xs generalizing i with
  | nil => simp at hi
  | cons x xs ih =>
    cases i with
    | zero => simp [natBits, packBits, Nat.add_mul_mod_self_left]
    | succ i =>
      have hx : x % 2 ^ w < 2 ^ w := Nat.mod_lt _ (Nat.two_pow_pos w)
      have low : (x % 2 ^ w + 2 ^ w * packBits w xs) / 2 ^ w = packBits w xs := by
        rw [Nat.add_mul_div_left _ _ (Nat.two_pow_pos w), Nat.div_eq_of_lt hx, Nat.zero_add]
      rw [List.getElem_cons_succ, ← ih (Nat.lt_of_succ_lt_succ hi), natBits, natBits, packBits, Nat.mul_succ,
        Nat.add_comm (w * i) w, Nat.pow_add, ← Nat.div_div_eq_div_mul, low]

theorem laneWidth_cases (ty : Nat) : laneWidth ty = 8 ∨ laneWidth ty = 16 ∨ laneWidth ty = 32 := by
  unfold laneWidth
  split <;> simp

theorem lane_lt (w : Nat) (v : Vec) (i : Nat) : lane w v i < 2 ^ w := natBits_lt _ _ _

/-- A lane of a vector made of lanes. -/
theorem lane_mkLanes {w : Nat} (g : Nat → Nat) {i : Nat} (hi : i < 512 / w) : lane w (mkLanes w g) i = g i % 2 ^ w := by
  have hw : w * (512 / w) ≤ 512 := Nat.mul_div_le 512 w
  have hlt : packBits w ((upto (512 / w)).map g) < 2 ^ 512 := by
    refine (packBits_lt w _).trans_le (Nat.pow_le_pow_right (by norm_num) ?_)
    simpa [upto] using hw
  rw [lane, mkLanes, ofLanes, BitVec.toNat_ofNat, Nat.mod_eq_of_lt hlt, natBits_packBits (by simpa [upto] using hi)]
  simp [upto]

/-- The masked lanes of a vector whose admitted lanes are `g`. -/
theorem maskedLanes_masked {c : CoreSt} {f : VF} {r : Vec} {g : Nat → Nat}
    (h : ∀ i, i < 512 / laneWidth f.ty.toNat → lane (laneWidth f.ty.toNat) r i = g i) :
    MaskedLanes c f g (masked c f (laneWidth f.ty.toNat) r) := by
  intro i hi
  rw [masked, lane_mkLanes _ hi, ← h i hi]
  have hr := lane_lt (laneWidth f.ty.toNat) r i
  have hd := lane_lt (laneWidth f.ty.toNat) (c.vr f.d) i
  split
  · exact Nat.mod_eq_of_lt hr
  · split
    · exact Nat.zero_mod _
    · exact Nat.mod_eq_of_lt hd

/-! ### A vector operation of a ready bundle -/

section
variable {s : State} {i : Instr} {e : Iss} {o : VOp} {f : VF}

theorem vOp_issues {c : CoreSt} {ws ps : List Pend} (h : Ready s e (.v o f)) (hi : exec i s = issueOps s e [.v o f])
    (core : ∀ l, vApply ((s.core e.g).issuing l) o f = c.left ps l)
    (pc : c.pc = (s.core e.g).pc) (loops : c.loops = (s.core e.g).loops) (delay : c.delay = (s.core e.g).delay)
    (regs : c.s = (s.core e.g).s) (hj : Joins c ws ps) : Issues s i e (.v o f) c ws :=
  h.issues (f := fun c => vApply c o f) hi (stall_sv _ e _ h.met (.inr ⟨o, f, rfl⟩) nofun nofun) rfl (fun _ => rfl) core pc loops delay regs hj

/-- An operation that writes one vector register. -/
theorem givesV_of {l : Nat} {v : Vec} {p : Vec → Prop} (hi : exec i s = issueOps s e [.v o f])
    (apply : ∀ k, vApply ((s.core e.g).issuing k) o f = ((s.core e.g).issuing k).pushV l f.d v) (hv : p v) :
    GivesV s i e o f l p :=
  fun h => ⟨v, hv, vOp_issues h hi (fun k => (apply k).trans rfl) rfl rfl rfl rfl (.one h.ordered _)⟩

/-- An operation that writes one predicate register. -/
theorem issues_pushK {l : Nat} {d : BitVec 3} {v : Word} (hi : exec i s = issueOps s e [.v o f])
    (apply : ∀ k, vApply ((s.core e.g).issuing k) o f = ((s.core e.g).issuing k).pushK l d v) (h : Ready s e (.v o f)) :
    Issues s i e (.v o f) (s.core e.g) ((s.core e.g).resK l d v) :=
  vOp_issues h hi (fun k => (apply k).trans rfl) rfl rfl rfl rfl (.one h.ordered _)

/-- An operation that writes one scalar register. -/
theorem issues_pushS {l : Nat} {d : R5} {v : Word} (hi : exec i s = issueOps s e [.v o f])
    (apply : ∀ k, vApply ((s.core e.g).issuing k) o f = ((s.core e.g).issuing k).pushS l d v) (h : Ready s e (.v o f)) :
    Issues s i e (.v o f) (s.core e.g) ((s.core e.g).resS l d v) := by
  refine vOp_issues h hi (ps := (s.core e.g).pendS l d v) (fun k => ?_) rfl rfl rfl rfl (.resS h.ordered l d v)
  rw [apply, CoreSt.pushS_eq]
  rfl

/-- An operation whose result is masked. -/
theorem givesV_masked {l : Nat} {r : Vec} {g : Nat → Nat} (hi : exec i s = issueOps s e [.v o f])
    (apply : ∀ k, vApply ((s.core e.g).issuing k) o f =
      ((s.core e.g).issuing k).pushV l f.d (masked (s.core e.g) f (laneWidth f.ty.toNat) r))
    (lanes : ∀ k, k < 512 / laneWidth f.ty.toNat → lane (laneWidth f.ty.toNat) r k = g k) :
    GivesV s i e o f l (MaskedLanes (s.core e.g) f g) :=
  givesV_of hi apply (maskedLanes_masked lanes)

end

/-! ### Integers in lanes -/

theorem sInt_eq_toInt {w : Nat} (hw : 0 < w) (n : Nat) : sInt w n = (BitVec.ofNat w n).toInt := by
  have half : 2 ^ w = 2 * 2 ^ (w - 1) := by rw [← pow_succ', Nat.sub_add_cancel hw]
  have cast : (2 : Int) ^ w = ((2 ^ w : Nat) : Int) := by push_cast; rfl
  rw [BitVec.toInt_eq_toNat_cond, BitVec.toNat_ofNat, sInt, cast]
  simp only [half]
  generalize n % (2 * 2 ^ (w - 1)) = x
  generalize 2 ^ (w - 1) = b
  split <;> split <;> omega

theorem wrapN_eq_ofInt (w : Nat) (x : Int) : wrapN w x = (BitVec.ofInt w x).toNat := by
  rw [wrapN, BitVec.toNat_ofInt]

theorem wrapN_lt (w : Nat) (x : Int) : wrapN w x < 2 ^ w := by
  rw [wrapN_eq_ofInt]
  exact BitVec.isLt _

theorem satN_eq (w : Nat) (x : Int) :
    satN w x = (BitVec.ofInt w (max (-2 ^ (w - 1)) (min (2 ^ (w - 1) - 1) x))).toNat := by
  have h : (0 : Int) < 2 ^ (w - 1) := by positivity
  rw [satN, wrapN_eq_ofInt]
  congr 2
  generalize (2 : Int) ^ (w - 1) = b at *
  split
  · omega
  · split <;> omega

/-- The integer result of a lane, in the wrapped or the saturated form. -/
theorem vIntRes_eq (f : VF) (x : Int) :
    (if f.sat then satN (laneWidth f.ty.toNat) x else wrapN (laneWidth f.ty.toNat) x) = vIntRes f x := by
  simp only [vIntRes, satN_eq, wrapN_eq_ofInt]
  split <;> rfl

theorem CoreSt.int_eq (c : CoreSt) (f : VF) (r : R5) (i : Nat) :
    c.int f r i = sInt (laneWidth f.ty.toNat) (lane (laneWidth f.ty.toNat) (c.vr r) i) := by
  refine (sInt_eq_toInt ?_ _).symm
  rcases laneWidth_cases f.ty.toNat with h | h | h <;> rw [h] <;> norm_num

/-- An integer of a lane's range is its own result. -/
theorem vIntRes_toInt (f : VF) {w : Nat} (hw : laneWidth f.ty.toNat = w) (x : BitVec w) : vIntRes f x.toInt = x.toNat := by
  subst hw
  have hx := x.two_mul_toInt_lt
  have hx' := x.le_two_mul_toInt
  have hpos : 0 < laneWidth f.ty.toNat := by rcases laneWidth_cases f.ty.toNat with h | h | h <;> rw [h] <;> norm_num
  have half : (2 : Int) ^ laneWidth f.ty.toNat = 2 * 2 ^ (laneWidth f.ty.toNat - 1) := by
    rw [← pow_succ', Nat.sub_add_cancel hpos]
  rw [half] at hx hx'
  have clamp : max (-2 ^ (laneWidth f.ty.toNat - 1)) (min (2 ^ (laneWidth f.ty.toNat - 1) - 1) x.toInt) = x.toInt := by omega
  simp only [vIntRes, clamp, ite_self, BitVec.ofInt_toInt]

theorem vIntRes_int (c : CoreSt) (f : VF) (r : R5) (i : Nat) :
    vIntRes f (c.int f r i) = lane (laneWidth f.ty.toNat) (c.vr r) i := by
  rw [CoreSt.int, vIntRes_toInt f rfl, BitVec.toNat_ofNat, Nat.mod_eq_of_lt (lane_lt _ _ _)]

theorem vIntRes_lt (f : VF) (x : Int) : vIntRes f x < 2 ^ laneWidth f.ty.toNat := BitVec.isLt _

/-! ### Element-wise operations -/

section
variable {s : State} {i : Instr} {e : Iss} {o : VOp} {f : VF} {l : Nat} {g : Nat → Nat}

/-- An element-wise operation of latency `l` whose lanes are `g`. -/
theorem givesV_elem (hi : exec i s = issueOps s e [.v o f])
    (ho : ∀ c, vApply c o f = c.pushV (vElemLat o f) f.d (masked c f (laneWidth f.ty.toNat) (vElem c o f)))
    (hl : vElemLat o f = l)
    (lanes : ∀ k, k < 512 / laneWidth f.ty.toNat →
      lane (laneWidth f.ty.toNat) (vElem (s.core e.g) o f) k = g k) :
    GivesV s i e o f l (MaskedLanes (s.core e.g) f g) := by
  refine givesV_masked hi (fun k => ?_) lanes
  rw [ho, hl]
  rfl

theorem isFlt_of_isInt {ty : BitVec 4} (h : isInt ty = true) : isFlt ty = false := by
  revert ty
  decide

/-- An element-wise integer operation whose lane function gives `g`. -/
theorem givesV_int (hf : isInt f.ty = true) (hi : exec i s = issueOps s e [.v o f])
    (ho : ∀ c, vApply c o f = c.pushV (vElemLat o f) f.d (masked c f (laneWidth f.ty.toNat) (vElem c o f)))
    (hl : isFlt f.ty = false → vElemLat o f = l)
    (he : ∀ c, vElem c o f = mkLanes (laneWidth f.ty.toNat) fun k =>
      if isFlt f.ty then vFltLane o (laneFmt f.ty.toNat) (lane (laneWidth f.ty.toNat) (c.vr f.a) k)
          (lane (laneWidth f.ty.toNat) (c.vr f.b) k) (lane (laneWidth f.ty.toNat) (c.vr f.c) k)
      else vIntLane o f.sat (laneWidth f.ty.toNat) (lane (laneWidth f.ty.toNat) (c.vr f.a) k)
        (lane (laneWidth f.ty.toNat) (c.vr f.b) k))
    (value : ∀ k, vIntLane o f.sat (laneWidth f.ty.toNat) (lane (laneWidth f.ty.toNat) ((s.core e.g).vr f.a) k)
      (lane (laneWidth f.ty.toNat) ((s.core e.g).vr f.b) k) = g k)
    (small : ∀ k, g k < 2 ^ laneWidth f.ty.toNat) :
    GivesV s i e o f l (MaskedLanes (s.core e.g) f g) := by
  have hflt := isFlt_of_isInt hf
  refine givesV_elem hi ho (hl hflt) fun k hk => ?_
  rw [he, lane_mkLanes _ hk, hflt, if_neg (by decide), value, Nat.mod_eq_of_lt (small k)]

end

/-! ### The element-wise integer instructions -/

section
variable (c : CoreSt) (f : VF) (k : Nat)

theorem vIntLane_min (sat : Bool) : vIntLane .vmin sat (laneWidth f.ty.toNat) (lane (laneWidth f.ty.toNat) (c.vr f.a) k)
    (lane (laneWidth f.ty.toNat) (c.vr f.b) k) = vIntRes f (min (c.int f f.a k) (c.int f f.b k)) := by
  simp only [vIntLane, ← CoreSt.int_eq, min_def]
  rcases lt_trichotomy (c.int f f.a k) (c.int f f.b k) with h | h | h
  · rw [if_pos h, if_pos h.le, vIntRes_int]
  · rw [if_neg h.not_lt, if_pos h.le, h, vIntRes_int]
  · rw [if_neg h.not_gt, if_neg h.not_ge, vIntRes_int]

theorem vIntLane_max (sat : Bool) : vIntLane .vmax sat (laneWidth f.ty.toNat) (lane (laneWidth f.ty.toNat) (c.vr f.a) k)
    (lane (laneWidth f.ty.toNat) (c.vr f.b) k) = vIntRes f (max (c.int f f.a k) (c.int f f.b k)) := by
  simp only [vIntLane, ← CoreSt.int_eq, max_def]
  rcases lt_trichotomy (c.int f f.a k) (c.int f f.b k) with h | h | h
  · rw [if_pos h, if_pos h.le, vIntRes_int]
  · rw [if_neg h.not_lt, if_pos h.le, ← h, vIntRes_int]
  · rw [if_neg h.not_gt, if_neg h.not_ge, vIntRes_int]

/-- A shift to the right keeps an integer in its lane's range. -/
theorem vIntLane_sra (sat : Bool) : vIntLane .vsra sat (laneWidth f.ty.toNat) (lane (laneWidth f.ty.toNat) (c.vr f.a) k)
    (lane (laneWidth f.ty.toNat) (c.vr f.b) k) =
      vIntRes f (c.int f f.a k / 2 ^ (lane (laneWidth f.ty.toNat) (c.vr f.b) k % laneWidth f.ty.toNat)) := by
  generalize hn : lane (laneWidth f.ty.toNat) (c.vr f.b) k % laneWidth f.ty.toNat = n
  simp only [vIntLane, ← CoreSt.int_eq, hn]
  have shifted : c.int f f.a k / 2 ^ n =
      ((BitVec.ofNat (laneWidth f.ty.toNat) (lane (laneWidth f.ty.toNat) (c.vr f.a) k)).sshiftRight n).toInt := by
    rw [BitVec.toInt_sshiftRight, Int.shiftRight_eq_div_pow, CoreSt.int]
    norm_cast
  rw [shifted, vIntRes_toInt f rfl, wrapN_eq_ofInt, BitVec.ofInt_toInt]

end

/-- Settles O9: each lane takes the exact integer result, wrapped or saturated. -/
theorem vectorIntegerLanes : Obligations.VectorIntegerLanes := by
  intro s e f hf c w x y n gives
  have hx (k : Nat) : sInt w (lane w (c.vr f.a) k) = x k := (c.int_eq f f.a k).symm
  have hy (k : Nat) : sInt w (lane w (c.vr f.b) k) = y k := (c.int_eq f f.b k).symm
  have wide (k : Nat) : lane w (c.vr f.a) k / 2 ^ n k < 2 ^ w := (Nat.div_le_self _ _).trans_lt (lane_lt w _ k)
  refine ⟨
    givesV_int (o := .vadd) hf rfl (fun _ => rfl) (fun h => by simp [vElemLat, h]) (fun _ => rfl) (fun k => ?add) fun _ => vIntRes_lt f _,
    givesV_int (o := .vsub) hf rfl (fun _ => rfl) (fun h => by simp [vElemLat, h]) (fun _ => rfl) (fun k => ?sub) fun _ => vIntRes_lt f _,
    givesV_int (o := .vmul) hf rfl (fun _ => rfl) (fun _ => rfl) (fun _ => rfl) (fun k => ?mul) fun _ => vIntRes_lt f _,
    givesV_int (o := .vmin) hf rfl (fun _ => rfl) (fun _ => rfl) (fun _ => rfl) (vIntLane_min c f · _) fun _ => vIntRes_lt f _,
    givesV_int (o := .vmax) hf rfl (fun _ => rfl) (fun _ => rfl) (fun _ => rfl) (vIntLane_max c f · _) fun _ => vIntRes_lt f _,
    givesV_int (o := .vabs) hf rfl (fun _ => rfl) (fun _ => rfl) (fun _ => rfl) (fun k => ?abs) fun _ => vIntRes_lt f _,
    givesV_int (o := .vneg) hf rfl (fun _ => rfl) (fun _ => rfl) (fun _ => rfl) (fun k => ?neg) fun _ => vIntRes_lt f _,
    givesV_int (o := .vshl) hf rfl (fun _ => rfl) (fun _ => rfl) (fun _ => rfl) (fun k => ?shl) fun _ => vIntRes_lt f _,
    givesV_int (o := .vshr) hf rfl (fun _ => rfl) (fun _ => rfl) (fun _ => rfl) (fun k => ?shr) wide,
    givesV_int (o := .vsra) hf rfl (fun _ => rfl) (fun _ => rfl) (fun _ => rfl) (vIntLane_sra c f · _) fun _ => vIntRes_lt f _⟩
  case shr => simp only [vIntLane]; rw [Nat.mod_eq_of_lt (lane_lt _ _ _)]
  case abs =>
    have habs : |x k| = if x k < 0 then -x k else x k := by
      split
      · exact abs_of_neg ‹_›
      · exact abs_of_nonneg (not_lt.1 ‹_›)
    simp only [vIntLane]
    rw [habs, ← vIntRes_eq, ← hx]
  case add | sub | mul =>
    simp only [vIntLane]
    rw [← vIntRes_eq, ← hx, ← hy]
  case neg | shl =>
    simp only [vIntLane]
    rw [← vIntRes_eq, ← hx]

end Sys2Proof.Machine

/-! PROOF. The floating vector instructions (R105 to R107, R168, R169, R174). -/

namespace Sys2Proof.Machine

/-! ### Results fit their lanes -/

/-- The format's largest number, its infinity and its NaN lie within its sign bit and the bits below it. -/
structure Fmt.Fits (f : Fmt) : Prop where
  largest : fmaxBits f < 2 ^ f.signPos
  mantissa : 2 ^ f.mb ≤ 2 ^ f.signPos
  infinity : ∀ neg, finf f neg < 2 ^ (f.signPos + 1)
  nan : fnan f < 2 ^ (f.signPos + 1)

theorem fmtF32_fits : fmtF32.Fits := ⟨by decide, by decide, by decide, by decide⟩

theorem fmtBf16_fits : fmtBf16.Fits := ⟨by decide, by decide, by decide, by decide⟩

theorem fmtE4M3_fits : fmtE4M3.Fits := ⟨by decide, by decide, by decide, by decide⟩

theorem fmtE5M2_fits : fmtE5M2.Fits := ⟨by decide, by decide, by decide, by decide⟩

section
variable {f : Fmt}

theorem sign_le (f : Fmt) (neg : Bool) : boolNat neg * 2 ^ f.signPos ≤ 2 ^ f.signPos := by
  cases neg <;> simp [boolNat]

theorem sign_lt (f : Fmt) (neg : Bool) : boolNat neg * 2 ^ f.signPos < 2 ^ (f.signPos + 1) := by
  have := sign_le f neg
  have := Nat.two_pow_pos f.signPos
  rw [pow_succ]
  omega

theorem Fmt.Fits.fround_lt (h : f.Fits) (ov : Over) (neg : Bool) (num den : Nat) :
    fround f ov neg num den < 2 ^ (f.signPos + 1) := by
  have sign := sign_le f neg
  have sign' := sign_lt f neg
  have mantissa := h.mantissa
  have largest := h.largest
  have infinity := h.infinity neg
  rw [pow_succ] at *
  unfold fround
  extract_lets sgn k emin q n n' q' ex mag
  split
  · exact sign'
  split
  · omega
  split
  · exact sign'
  split
  · split
    · split <;> omega
    · omega
  · omega

theorem Fmt.Fits.froundDy_lt (h : f.Fits) (ov : Over) (neg : Bool) (m : Nat) (e : Int) :
    froundDy f ov neg m e < 2 ^ (f.signPos + 1) := by
  unfold froundDy
  split <;> exact h.fround_lt ..

theorem Fmt.Fits.fenc_lt (h : f.Fits) (v : FV) : fenc f v < 2 ^ (f.signPos + 1) := by
  cases v with
  | nan => exact h.nan
  | inf neg => exact h.infinity neg
  | fin neg m e => exact h.froundDy_lt ..

theorem Fmt.Fits.sfExp_lt (h : f.Fits) (v : FV) : sfExp f v < 2 ^ (f.signPos + 1) := by
  cases v with
  | nan => exact h.nan
  | inf neg =>
    unfold sfExp
    dsimp only
    split
    · exact Nat.two_pow_pos _
    · exact h.infinity _
  | fin neg m e =>
    unfold sfExp
    dsimp only
    split
    · exact h.infinity _
    split
    · exact Nat.two_pow_pos _
    · exact h.fround_lt ..

theorem Fmt.Fits.sfRcp_lt (h : f.Fits) (v : FV) : sfRcp f v < 2 ^ (f.signPos + 1) := by
  cases v with
  | nan => exact h.nan
  | inf neg => exact sign_lt f neg
  | fin neg m e =>
    unfold sfRcp
    dsimp only
    split
    · exact h.infinity _
    split <;> exact h.fround_lt ..

theorem Fmt.Fits.sfRsqrt_lt (h : f.Fits) (v : FV) : sfRsqrt f v < 2 ^ (f.signPos + 1) := by
  cases v with
  | nan => exact h.nan
  | inf neg =>
    unfold sfRsqrt
    dsimp only
    split
    · exact h.nan
    · exact Nat.two_pow_pos _
  | fin neg m e =>
    unfold sfRsqrt
    dsimp only
    split
    · exact h.infinity _
    split
    · exact h.nan
    split <;> exact h.fround_lt ..

theorem Fmt.Fits.sfTanh_lt (h : f.Fits) (v : FV) : sfTanh f v < 2 ^ (f.signPos + 1) := by
  cases v with
  | nan => exact h.nan
  | inf neg =>
    unfold sfTanh
    exact h.fenc_lt _
  | fin neg m e =>
    unfold sfTanh
    dsimp only
    split
    · exact sign_lt f neg
    split
    · exact h.fenc_lt _
    split
    · exact h.fenc_lt _
    · exact h.fround_lt ..

theorem Fmt.Fits.sfGelu_lt (h : f.Fits) (v : FV) : sfGelu f v < 2 ^ (f.signPos + 1) := by
  have top : 2 ^ f.signPos < 2 ^ (f.signPos + 1) := Nat.pow_lt_pow_succ (by norm_num)
  cases v with
  | nan => exact h.nan
  | inf neg =>
    unfold sfGelu
    dsimp only
    split
    · exact top
    · exact h.infinity _
  | fin neg m e =>
    unfold sfGelu
    dsimp only
    split
    · exact h.fenc_lt _
    split
    · exact top
    split
    · exact sign_lt f neg
    · exact h.fround_lt ..

end

/-! ### Element-wise floating operations -/

theorem laneFmt_fits (ty : Nat) : (laneFmt ty).Fits := by
  unfold laneFmt
  split
  · exact fmtBf16_fits
  · exact fmtF32_fits

/-- The format of a floating lane fills it. -/
theorem laneFmt_signPos {ty : BitVec 4} (h : isFlt ty = true) : (laneFmt ty.toNat).signPos + 1 = laneWidth ty.toNat := by
  revert ty
  decide

section
variable {s : State} {i : Instr} {e : Iss} {o : VOp} {f : VF} {l : Nat} {g : FV → FV → FV → Nat}

/-- An element-wise floating operation whose lanes are `g` of the operands' lanes. -/
theorem givesV_flt (hf : isFlt f.ty = true) (hi : exec i s = issueOps s e [.v o f])
    (ho : ∀ c, vApply c o f = c.pushV (vElemLat o f) f.d (masked c f (laneWidth f.ty.toNat) (vElem c o f)))
    (hl : isFlt f.ty = true → vElemLat o f = l)
    (he : ∀ c, vElem c o f = mkLanes (laneWidth f.ty.toNat) fun k =>
      if isFlt f.ty then vFltLane o (laneFmt f.ty.toNat) (lane (laneWidth f.ty.toNat) (c.vr f.a) k)
          (lane (laneWidth f.ty.toNat) (c.vr f.b) k) (lane (laneWidth f.ty.toNat) (c.vr f.c) k)
      else vIntLane o f.sat (laneWidth f.ty.toNat) (lane (laneWidth f.ty.toNat) (c.vr f.a) k)
        (lane (laneWidth f.ty.toNat) (c.vr f.b) k))
    (value : ∀ x y z, vFltLane o (laneFmt f.ty.toNat) x y z =
      g (fdec (laneFmt f.ty.toNat) x) (fdec (laneFmt f.ty.toNat) y) (fdec (laneFmt f.ty.toNat) z))
    (small : ∀ x y z, g x y z < 2 ^ ((laneFmt f.ty.toNat).signPos + 1)) :
    GivesV s i e o f l (MaskedLanes (s.core e.g) f fun k =>
      g ((s.core e.g).flt f f.a k) ((s.core e.g).flt f f.b k) ((s.core e.g).flt f f.c k)) := by
  refine givesV_elem hi ho (hl hf) fun k hk => ?_
  rw [he, lane_mkLanes _ hk, if_pos hf, value, Nat.mod_eq_of_lt (laneFmt_signPos hf ▸ small _ _ _)]
  rfl

end

theorem vFltLane_abs (f : Fmt) (x y z : Nat) : vFltLane .vabs f x y z = fenc f (match fdec f x with
    | .fin _ m q => .fin false m q
    | .inf _ => .inf false
    | .nan => .nan) := by
  simp only [vFltLane]
  split <;> simp_all [fenc]

theorem vFltLane_neg (f : Fmt) (x y z : Nat) : vFltLane .vneg f x y z = fenc f (fneg (fdec f x)) := by
  simp only [vFltLane]
  split <;> simp_all [fneg, fenc]

/-! ### Special values of the special functions -/

/-- An integral value as a ratio. -/
theorem fRat_natCast (neg : Bool) (m q : Nat) :
    fRat neg m q = (if neg then -((m * 2 ^ q : Nat) : Int) else ((m * 2 ^ q : Nat) : Int), 1) := by
  simp [fRat]

theorem sfExp_large (f : Fmt) {m q : Nat} (h : 89 ≤ m * 2 ^ q) : sfExp f (.fin false m q) = finf f false := by
  simp only [sfExp, fRat_natCast, Bool.false_eq_true, if_false]
  exact if_pos (by omega)

theorem sfExp_small (f : Fmt) {m q : Nat} (h : 88 ≤ m * 2 ^ q) : sfExp f (.fin true m q) = 0 := by
  simp only [sfExp, fRat_natCast, if_true]
  rw [if_neg (by omega), if_pos (by omega)]

theorem sfRcp_zero (f : Fmt) (n : Bool) (q : Int) : sfRcp f (.fin n 0 q) = finf f n := by
  simp only [sfRcp, if_true]

theorem sfRsqrt_zero (f : Fmt) (n : Bool) (q : Int) : sfRsqrt f (.fin n 0 q) = finf f false := by
  simp only [sfRsqrt, if_true]

theorem sfRsqrt_negative (f : Fmt) {m : Nat} (hm : m ≠ 0) (q : Int) : sfRsqrt f (.fin true m q) = fnan f := by
  simp only [sfRsqrt, hm, if_false, if_true]

/-- One of either sign. -/
theorem fenc_one {f : Fmt} (h : f = fmtF32 ∨ f = fmtBf16) (n : Bool) : fenc f (.fin n 1 0) = boolNat n * 2 ^ f.signPos + f.bias * 2 ^ f.mb := by
  rcases h with rfl | rfl <;> cases n <;> decide

theorem sfTanh_large {f : Fmt} (h : f = fmtF32 ∨ f = fmtBf16) (n : Bool) {m : Nat} (hm : 9 ≤ m) (q : Nat) :
    sfTanh f (.fin n m q) = boolNat n * 2 ^ f.signPos + f.bias * 2 ^ f.mb := by
  have large : 9 ≤ m * 2 ^ q := hm.trans (Nat.le_mul_of_pos_right m (Nat.two_pow_pos q))
  simp only [sfTanh, fRat_natCast, Bool.false_eq_true, if_false]
  rw [if_neg (by omega), if_pos (by omega), fenc_one h]

/-- Settles O10: a lane of a floating operation takes the exact result of its operands' lanes, rounded once, and the special
functions have the special values of R174. -/
theorem vectorFloatLanes : Obligations.VectorFloatLanes := by
  refine ⟨fun s e f hf => ?lanes, fun f h => ?special⟩
  case lanes =>
    intro c fm x y z gives
    have ok : fm.Fits := laneFmt_fits _
    refine ⟨
      givesV_flt (o := .vadd) (g := fun x y _ => fenc fm (fadd x y)) hf rfl (fun _ => rfl) (fun h => by simp [vElemLat, h]) (fun _ => rfl) (fun _ _ _ => rfl) fun _ _ _ => ok.fenc_lt _,
      givesV_flt (o := .vsub) (g := fun x y _ => fenc fm (fadd x (fneg y))) hf rfl (fun _ => rfl) (fun h => by simp [vElemLat, h]) (fun _ => rfl) (fun _ _ _ => rfl) fun _ _ _ => ok.fenc_lt _,
      givesV_flt (o := .vmul) (g := fun x y _ => fenc fm (fmul x y)) hf rfl (fun _ => rfl) (fun _ => rfl) (fun _ => rfl) (fun _ _ _ => rfl) fun _ _ _ => ok.fenc_lt _,
      givesV_flt (o := .vfma) (g := fun x y z => fenc fm (fadd (fmul x y) z)) hf rfl (fun _ => rfl) (fun _ => rfl) (fun _ => rfl) (fun _ _ _ => rfl) fun _ _ _ => ok.fenc_lt _,
      givesV_flt (o := .vmin) (g := fun x y _ => fenc fm (fmin x y)) hf rfl (fun _ => rfl) (fun _ => rfl) (fun _ => rfl) (fun _ _ _ => rfl) fun _ _ _ => ok.fenc_lt _,
      givesV_flt (o := .vmax) (g := fun x y _ => fenc fm (fmax x y)) hf rfl (fun _ => rfl) (fun _ => rfl) (fun _ => rfl) (fun _ _ _ => rfl) fun _ _ _ => ok.fenc_lt _,
      givesV_flt (o := .vabs) (g := fun x _ _ => fenc fm (match x with
        | .fin _ m q => .fin false m q
        | .inf _ => .inf false
        | .nan => .nan)) hf rfl (fun _ => rfl) (fun _ => rfl) (fun _ => rfl) (vFltLane_abs fm) fun _ _ _ => ok.fenc_lt _,
      givesV_flt (o := .vneg) (g := fun x _ _ => fenc fm (fneg x)) hf rfl (fun _ => rfl) (fun _ => rfl) (fun _ => rfl) (vFltLane_neg fm) fun _ _ _ => ok.fenc_lt _,
      givesV_flt (o := .vexp) (g := fun x _ _ => sfExp fm x) hf rfl (fun _ => rfl) (fun _ => rfl) (fun _ => rfl) (fun _ _ _ => rfl) fun _ _ _ => ok.sfExp_lt _,
      givesV_flt (o := .vrcp) (g := fun x _ _ => sfRcp fm x) hf rfl (fun _ => rfl) (fun _ => rfl) (fun _ => rfl) (fun _ _ _ => rfl) fun _ _ _ => ok.sfRcp_lt _,
      givesV_flt (o := .vrsqrt) (g := fun x _ _ => sfRsqrt fm x) hf rfl (fun _ => rfl) (fun _ => rfl) (fun _ => rfl) (fun _ _ _ => rfl) fun _ _ _ => ok.sfRsqrt_lt _,
      givesV_flt (o := .vtanh) (g := fun x _ _ => sfTanh fm x) hf rfl (fun _ => rfl) (fun _ => rfl) (fun _ => rfl) (fun _ _ _ => rfl) fun _ _ _ => ok.sfTanh_lt _,
      givesV_flt (o := .vgelu) (g := fun x _ _ => sfGelu fm x) hf rfl (fun _ => rfl) (fun _ => rfl) (fun _ => rfl) (fun _ _ _ => rfl) fun _ _ _ => ok.sfGelu_lt _⟩
  case special =>
    exact ⟨⟨rfl, rfl, rfl, rfl, rfl⟩, ⟨rfl, rfl, fun m q => ⟨sfExp_large f, sfExp_small f⟩⟩,
      fun n q => ⟨sfRcp_zero f n q, rfl⟩, fun n q => ⟨sfRsqrt_zero f n q, rfl, fun m hm => sfRsqrt_negative f hm q⟩,
      fun n m hm q => sfTanh_large h n hm q, rfl, rfl⟩

end Sys2Proof.Machine

/-! PROOF. Bitwise forms, selection, compares and predicate operations (R168 to R171). -/

namespace Sys2Proof.Machine

/-- What readiness says of a vector operation's fields (R144). -/
theorem Ready.vValueOk {s : State} {e : Iss} {o : VOp} {f : VF} (h : Ready s e (.v o f)) : vValueOk o f = true := by
  have legal := h.legal
  by_contra bad
  cases hu : vUnused o f <;> simp [bundleBreach, SlotOp.breach, hu, bad] at legal

section
variable {s : State} {i : Instr} {e : Iss} {o : VOp} {f : VF}

/-- An element-wise operation on the bits of whole registers. -/
theorem givesV_bits {r : Vec} (hi : exec i s = issueOps s e [.v o f])
    (ho : ∀ c, vApply c o f = c.pushV (vElemLat o f) f.d (masked c f (laneWidth f.ty.toNat) (vElem c o f)))
    (hl : vElemLat o f = 2) (hr : vElem (s.core e.g) o f = r) :
    GivesV s i e o f 2 (MaskedLanes (s.core e.g) f fun k => lane (laneWidth f.ty.toNat) r k) :=
  givesV_elem hi ho hl fun _ _ => by rw [hr]

theorem givesV_vsel : GivesV s (.vsel e f) e .vsel f 2 (fun v => ∀ k, k < 512 / laneWidth f.ty.toNat →
    lane (laneWidth f.ty.toNat) v k =
      if ((s.core e.g).kr (f.mask.setWidth 3)).getLsbD (laneWidth f.ty.toNat / 8 * k)
      then lane (laneWidth f.ty.toNat) ((s.core e.g).vr f.a) k else lane (laneWidth f.ty.toNat) ((s.core e.g).vr f.b) k) := by
  intro h
  refine givesV_of (v := mkLanes (laneWidth f.ty.toNat) fun k => if admits (s.core e.g) f.mask (laneWidth f.ty.toNat) k
    then lane (laneWidth f.ty.toNat) ((s.core e.g).vr f.a) k else lane (laneWidth f.ty.toNat) ((s.core e.g).vr f.b) k)
    rfl (fun _ => rfl) (fun k hk => ?_) h
  have selected : f.mask.getLsbD 3 = true := by
    have hv := h.vValueOk
    simp only [Sys2Proof.vValueOk, Bool.and_eq_true] at hv
    exact hv.2.1
  rw [lane_mkLanes _ hk]
  simp only [admits, selected, if_true]
  split <;> exact Nat.mod_eq_of_lt (lane_lt _ _ _)

end

/-! ### Compares -/

/-- Bit `j` of group `k` of packed groups of `n` bits. -/
theorem getLsbD_packBits {n : Nat} (g : Nat → Nat) {m k j : Nat} (hm : n * m ≤ 64) (hk : k < m) (hj : j < n) :
    (BitVec.ofNat 64 (packBits n ((upto m).map g))).getLsbD (n * k + j) = (g k).testBit j := by
  have hlen : k < ((upto m).map g).length := by simpa [upto] using hk
  have hbit : n * k + j < 64 := by
    have : n * k + n ≤ n * m := by rw [← Nat.mul_succ]; exact Nat.mul_le_mul_left n hk
    omega
  have group := natBits_testBit (packBits n ((upto m).map g)) (n * k) n j
  rw [natBits_packBits hlen, Nat.testBit_mod_two_pow] at group
  simp only [hj, decide_true, Bool.true_and] at group
  rw [BitVec.getLsbD_ofNat, ← group]
  simp [hbit, upto]

/-- The predicate of a compare, bit by bit. -/
theorem getLsbD_vCmp (c : CoreSt) (o : VOp) (f : VF) {k j : Nat} (hk : k < 512 / laneWidth f.ty.toNat)
    (hj : j < laneWidth f.ty.toNat / 8) :
    (vCmp c o f).getLsbD (laneWidth f.ty.toNat / 8 * k + j) =
      if admits c f.mask (laneWidth f.ty.toNat) k
      then vCmpLane o f.ty (lane (laneWidth f.ty.toNat) (c.vr f.a) k) (lane (laneWidth f.ty.toNat) (c.vr f.b) k)
      else if f.z then false else (c.kr (f.d.setWidth 3)).getLsbD (laneWidth f.ty.toNat / 8 * k + j) := by
  have whole : laneWidth f.ty.toNat / 8 * (512 / laneWidth f.ty.toNat) ≤ 64 := by
    rcases laneWidth_cases f.ty.toNat with h | h | h <;> rw [h]
  rw [vCmp, getLsbD_packBits _ whole hk hj]
  by_cases ha : admits c f.mask (laneWidth f.ty.toNat) k = true
  · cases vCmpLane o f.ty (lane (laneWidth f.ty.toNat) (c.vr f.a) k) (lane (laneWidth f.ty.toNat) (c.vr f.b) k) <;>
      simp [ha, hj]
  · by_cases hz : f.z = true
    · simp [ha, hz]
    · simp [ha, hz, natBits_testBit, hj, BitVec.testBit_toNat]

section
variable {s : State} {i : Instr} {e : Iss} {o : VOp} {f : VF}

theorem gives_cmp {p : Nat → Bool} (hi : exec i s = issueOps s e [.v o f])
    (ho : ∀ c, vApply c o f = c.pushK 2 (f.d.setWidth 3) (vCmp c o f))
    (hp : ∀ k, vCmpLane o f.ty (lane (laneWidth f.ty.toNat) ((s.core e.g).vr f.a) k)
      (lane (laneWidth f.ty.toNat) ((s.core e.g).vr f.b) k) = p k) (h : Ready s e (.v o f)) :
    ∃ r : Word, (∀ k, k < 512 / laneWidth f.ty.toNat → ∀ j, j < laneWidth f.ty.toNat / 8 →
        r.getLsbD (laneWidth f.ty.toNat / 8 * k + j) = if admits (s.core e.g) f.mask (laneWidth f.ty.toNat) k then p k
          else if f.z then false else ((s.core e.g).kr (f.d.setWidth 3)).getLsbD (laneWidth f.ty.toNat / 8 * k + j)) ∧
      Issues s i e (.v o f) (s.core e.g) ((s.core e.g).resK 2 (f.d.setWidth 3) r) := by
  refine ⟨vCmp (s.core e.g) o f, fun k hk j hj => ?_, issues_pushK hi (fun _ => by rw [ho]; rfl) h⟩
  rw [getLsbD_vCmp _ _ _ hk hj, hp]

end

theorem vCmpLane_int {ty : BitVec 4} (h : isInt ty = true) (o : VOp) (a b : Nat) :
    vCmpLane o ty a b = match o with
      | .vcmpeq => decide (sInt (laneWidth ty.toNat) a = sInt (laneWidth ty.toNat) b)
      | .vcmpne => decide (sInt (laneWidth ty.toNat) a ≠ sInt (laneWidth ty.toNat) b)
      | .vcmplt => decide (sInt (laneWidth ty.toNat) a < sInt (laneWidth ty.toNat) b)
      | _ => decide (sInt (laneWidth ty.toNat) a ≤ sInt (laneWidth ty.toNat) b) := by
  unfold vCmpLane
  rw [isFlt_of_isInt h]
  rfl

/-- Settles O11: a bitwise form acts on whole registers before the mask, a compare's predicate holds each lane's result in every bit of
the lane, and a predicate operation acts on whole predicates. -/
theorem vectorBitsComparesPredicates : Obligations.VectorBitsComparesPredicates := by
  refine ⟨fun s e f => ?bits, fun s e f => ?compares, fun s e f => ?predicates⟩
  case bits => exact ⟨givesV_bits rfl (fun _ => rfl) rfl rfl, givesV_bits rfl (fun _ => rfl) rfl rfl,
      givesV_bits rfl (fun _ => rfl) rfl rfl, givesV_vsel⟩
  case compares =>
    refine ⟨fun hf => ?int, fun hf => ?flt⟩
    case int =>
      have lanes (o : VOp) (a b : Nat) := vCmpLane_int hf o a b
      refine ⟨gives_cmp rfl (fun _ => rfl) fun k => ?_, gives_cmp rfl (fun _ => rfl) fun k => ?_,
        gives_cmp rfl (fun _ => rfl) fun k => ?_, gives_cmp rfl (fun _ => rfl) fun k => ?_⟩
      all_goals
        rw [vCmpLane_int hf]
        simp only [← CoreSt.int_eq]
    case flt =>
      refine ⟨gives_cmp rfl (fun _ => rfl) fun k => if_pos hf, gives_cmp rfl (fun _ => rfl) fun k => if_pos hf,
        gives_cmp rfl (fun _ => rfl) fun k => if_pos hf, gives_cmp rfl (fun _ => rfl) fun k => if_pos hf⟩
  case predicates => exact ⟨issues_pushK rfl fun _ => rfl, issues_pushK rfl fun _ => rfl, issues_pushK rfl fun _ => rfl,
      issues_pushK rfl fun _ => rfl⟩

end Sys2Proof.Machine

/-! PROOF. Lane movements and conversions (R111, R112, R172, R177 to R179). -/

namespace Sys2Proof.Machine

/-! ### Lane movements -/

section
variable {s : State} {i : Instr} {e : Iss} {o : VOp} {f : VF} {l : Nat} {g : Nat → Nat}

/-- A lane movement whose lanes are `g` before the mask. -/
theorem givesV_move (hi : exec i s = issueOps s e [.v o f])
    (ho : ∀ c, vApply c o f = c.pushV l f.d (masked c f (laneWidth f.ty.toNat) (vMove c o f)))
    (lanes : ∀ k, k < 512 / laneWidth f.ty.toNat → lane (laneWidth f.ty.toNat) (vMove (s.core e.g) o f) k = g k) :
    GivesV s i e o f l (MaskedLanes (s.core e.g) f g) :=
  givesV_masked hi (fun _ => by rw [ho]; rfl) lanes

/-- A lane movement that chooses its lanes one by one. -/
theorem givesV_lanes (hi : exec i s = issueOps s e [.v o f])
    (ho : ∀ c, vApply c o f = c.pushV l f.d (masked c f (laneWidth f.ty.toNat) (vMove c o f)))
    (hm : vMove (s.core e.g) o f = mkLanes (laneWidth f.ty.toNat) g) (small : ∀ k, g k < 2 ^ laneWidth f.ty.toNat) :
    GivesV s i e o f l (MaskedLanes (s.core e.g) f g) :=
  givesV_move hi ho fun k hk => by rw [hm, lane_mkLanes _ hk, Nat.mod_eq_of_lt (small k)]

end

theorem vExt_eq (c : CoreSt) (f : VF) : vExt c f =
    if isInt f.ty then BitVec.ofInt 64 (c.int f f.a (f.imm6.toNat % (512 / laneWidth f.ty.toNat)))
    else BitVec.ofNat 64 (lane (laneWidth f.ty.toNat) (c.vr f.a) (f.imm6.toNat % (512 / laneWidth f.ty.toNat))) := by
  rw [CoreSt.int_eq]
  rfl

/-! ### Conversions -/

theorem fToInt_lt (w : Nat) (v : FV) : fToInt w v < 2 ^ w := by
  cases v with
  | nan => exact Nat.two_pow_pos w
  | inf neg => exact wrapN_lt _ _
  | fin neg m e =>
    unfold fToInt
    dsimp only
    split <;> exact wrapN_lt _ _

theorem fToFp8_lt {f : Fmt} (h : f.Fits) (v : FV) : fToFp8 f v < 2 ^ (f.signPos + 1) := by
  cases v with
  | nan => exact h.nan
  | inf neg =>
    unfold fToFp8
    dsimp only
    have sign := sign_le f neg
    have largest := h.largest
    split
    · exact h.infinity neg
    · rw [pow_succ]; omega
  | fin neg m e => exact h.froundDy_lt ..

/-- A converted lane fits its type. -/
theorem cvtLane_lt (src dst x : Nat) : cvtLane src dst x < 2 ^ laneWidth dst := by
  unfold cvtLane
  extract_lets ws wd srcInt dstInt v32 v
  split
  · split <;> exact wrapN_lt _ _
  split
  · exact fToInt_lt _ _
  split
  · exact fmtF32_fits.fenc_lt _
  · exact fmtBf16_fits.fenc_lt _
  · exact fToFp8_lt fmtE4M3_fits _
  · have wide : 2 ^ (fmtE5M2.signPos + 1) ≤ 2 ^ laneWidth dst := by
      refine Nat.pow_le_pow_right (by norm_num) ?_
      rcases laneWidth_cases dst with h | h | h <;> rw [h] <;> decide
    exact (fToFp8_lt fmtE5M2_fits _).trans_le wide

/-- A conversion of integers saturates: to a wider type, it changes nothing. -/
theorem cvtLane_int {src dst : Nat} (hs : src ≤ 3) (hd : dst ≤ 3) (x : Nat) :
    cvtLane src dst x = (BitVec.ofInt (laneWidth dst) (max (-2 ^ (laneWidth dst - 1))
      (min (2 ^ (laneWidth dst - 1) - 1) (BitVec.ofNat (laneWidth src) x).toInt))).toNat := by
  have hpos : 0 < laneWidth src := by rcases laneWidth_cases src with h | h | h <;> rw [h] <;> norm_num
  have ints : (decide (src ≤ 3) && decide (dst ≤ 3)) = true := by simp [hs, hd]
  unfold cvtLane
  dsimp only
  rw [if_pos ints, sInt_eq_toInt hpos, satN_eq, wrapN_eq_ofInt]
  split
  · rename_i wider
    have low := (BitVec.ofNat (laneWidth src) x).le_two_mul_toInt
    have high := (BitVec.ofNat (laneWidth src) x).two_mul_toInt_lt
    have half : (2 : Int) ^ laneWidth src = 2 * 2 ^ (laneWidth src - 1) := by rw [← pow_succ', Nat.sub_add_cancel hpos]
    have more : (2 : Int) ^ (laneWidth src - 1) ≤ 2 ^ (laneWidth dst - 1) := pow_le_pow_right₀ (by norm_num) (by omega)
    rw [half] at low high
    congr 2
    omega
  · rfl

/-- Lane `k` of a conversion's result: which source lane goes there, if any, under mask and zero bit (R177). -/
theorem lane_vCvt (c : CoreSt) {f : VF} (h8 : f.imm8.toNat < 16) {k : Nat} (hk : k < 512 / laneWidth f.ty.toNat) :
    let ws := laneWidth f.imm8.toNat
    let wd := laneWidth f.ty.toNat
    let ns := 512 / ws
    let nd := 512 / wd
    let p := f.imm6.toNat
    let write := fun (k x : Nat) => if admits c f.mask wd k then cvtLane f.imm8.toNat f.ty.toNat x
      else if f.z then 0 else lane wd (c.vr f.d) k
    lane wd (vCvt c f) k =
      if ns < nd then
        (if p * ns ≤ k ∧ k < p * ns + ns then write k (lane ws (c.vr f.a) (k - p * ns)) else lane wd (c.vr f.d) k)
      else if nd < ns then write k (lane ws (c.vr f.a) (p * nd + k))
      else write k (lane ws (c.vr f.a) k) := by
  intro ws wd ns nd p write
  have hw (x : Nat) : write k x < 2 ^ wd := by
    simp only [write]
    split
    · exact cvtLane_lt _ _ _
    split
    · exact Nat.two_pow_pos wd
    · exact lane_lt _ _ _
  rw [vCvt, lane_mkLanes _ hk]
  simp only [Nat.mod_eq_of_lt h8]
  change (match (if nd > ns then _ else _ : Option Nat) with | none => _ | some r => _) % 2 ^ wd = _
  by_cases widen : ns < nd
  · by_cases inside : p * ns ≤ k ∧ k < p * ns + ns
    · rw [if_pos widen, if_pos widen, if_pos inside, if_pos inside]
      exact Nat.mod_eq_of_lt (hw _)
    · rw [if_pos widen, if_pos widen, if_neg inside, if_neg inside]
      exact Nat.mod_eq_of_lt (lane_lt _ _ _)
  · by_cases narrow : nd < ns
    · rw [if_neg widen, if_neg widen, if_pos narrow, if_pos narrow]
      exact Nat.mod_eq_of_lt (hw _)
    · rw [if_neg widen, if_neg widen, if_neg narrow, if_neg narrow]
      exact Nat.mod_eq_of_lt (hw _)

/-! ### Two results of one operation -/

/-- A scalar result that joins after results for other registers; register 0 takes none (R70). -/
theorem Joins.snocS {c : CoreSt} {ws ps : List Pend} (h : Joins c ws ps) (l : Nat) (d : R5) (v : Word)
    (hw : ∀ x ∈ ws, x.dest ≠ .s d) :
    Joins c (ws ++ c.resS l d v) (if d = 0 then ps else pendInsert ⟨c.cycle + l, .s d, v.setWidth 65536⟩ ps) := by
  unfold CoreSt.resS
  split
  · rwa [List.append_nil]
  · exact h.snoc _ hw

theorem vPackMx_eq (c : CoreSt) {f : VF} (h : f.imm6.toNat < 2) :
    let xs := (List.range 32).map fun k => fdec fmtF32 (if k < 16 then lane 32 (c.vr f.a) k else lane 32 (c.vr f.b) (k - 16))
    vPackMx c f = (BitVec.ofNat 512 (natPut (c.vr f.d).toNat (256 * f.imm6.toNat) (32 * tyWidth f.ty.toNat)
      (mxPack f.ty.toNat xs).1), BitVec.ofNat 64 (mxPack f.ty.toNat xs).2) := by
  intro xs
  unfold vPackMx
  rw [Nat.mod_eq_of_lt h]
  rfl

/-- Packing writes the vector register and the scale's scalar register. -/
theorem vpackmx_issues {s : State} {e : Iss} {f : VF} (h : Ready s e (.v .vpackmx f)) {v : Vec} {x : Word}
    (hv : vPackMx (s.core e.g) f = (v, x)) :
    Issues s (.vpackmx e f) e (.v .vpackmx f) (s.core e.g) ((s.core e.g).resV 3 f.d v ++ (s.core e.g).resS 3 f.s x) := by
  set c := s.core e.g with hc
  refine vOp_issues h rfl (ps := if f.s = 0 then pendInsert ⟨c.cycle + 3, .v f.d, v.setWidth 65536⟩ c.pend
    else pendInsert ⟨c.cycle + 3, .s f.s, x.setWidth 65536⟩ (pendInsert ⟨c.cycle + 3, .v f.d, v.setWidth 65536⟩ c.pend))
    (fun l => ?_) rfl rfl rfl rfl ((Joins.one h.ordered _).snocS 3 f.s x (by simp))
  have packed : vPackMx ((s.core e.g).issuing l) f = (v, x) := hv
  change (((s.core e.g).issuing l).pushV 3 f.d (vPackMx ((s.core e.g).issuing l) f).1).pushS 3 f.s
    (vPackMx ((s.core e.g).issuing l) f).2 = _
  rw [packed]
  unfold CoreSt.pushS
  split <;> rfl

theorem vcvt_issues {s : State} {e : Iss} {f : VF} {p : Vec → Prop} (hp : f.imm8.toNat < 16 → p (vCvt (s.core e.g) f)) :
    GivesV s (.vcvt e f) e .vcvt f 3 p := fun h => by
  have legal := h.vValueOk
  simp only [Sys2Proof.vValueOk, Bool.and_eq_true, decide_eq_true_eq] at legal
  exact givesV_of rfl (fun _ => rfl) (hp legal.2.1) h

/-- Settles O12: a movement's lanes are those that its rule names, and a conversion's go where its group stands. -/
theorem laneMovementAndConversions : Obligations.LaneMovementAndConversions := by
  constructor
  · intro s e f c w n a b j gives
    have ha (r : R5) (k : Nat) : lane w (c.vr r) k < 2 ^ w := lane_lt w _ k
    have hs : (c.sr f.s).toNat % 2 ^ w < 2 ^ w := Nat.mod_lt _ (Nat.two_pow_pos w)
    refine ⟨
      givesV_lanes (o := .vbcast) rfl (fun _ => rfl) rfl fun _ => ha _ _,
      givesV_lanes (o := .vperm) rfl (fun _ => rfl) rfl fun _ => ha _ _,
      givesV_lanes (o := .vshuf) rfl (fun _ => rfl) rfl fun k => ?shuf,
      givesV_lanes (o := .vrot) rfl (fun _ => rfl) rfl fun _ => ha _ _,
      givesV_lanes (o := .vins) rfl (fun _ => rfl) rfl fun k => ?ins,
      givesV_move (o := .vmov) rfl (fun _ => rfl) fun _ _ => rfl,
      givesV_lanes (o := .vsplat) rfl (fun _ => rfl) rfl fun _ => hs, ?ext⟩
    case shuf =>
      dsimp only
      split
      · exact ha _ _
      · exact ha _ _
    case ins =>
      split
      · exact hs
      · exact ha _ _
    case ext =>
      rw [← vExt_eq]
      exact issues_pushS rfl fun _ => rfl
  · intro s e f c src dst ws wd ns nd p write
    refine ⟨vcvt_issues fun h8 _ hk => lane_vCvt c h8 hk, fun x _ hs _ hd => cvtLane_int hs hd x, fun h => ?_⟩
    have legal := h.vValueOk
    simp only [Sys2Proof.vValueOk, Bool.and_eq_true, decide_eq_true_eq] at legal
    exact vpackmx_issues h (vPackMx_eq c legal.2)

end Sys2Proof.Machine

/-! PROOF. Horizontal reductions and the statistics accumulator (R116, R173, R175, R176). -/

namespace Sys2Proof.Machine

/-! ### The admitted lanes -/

/-- The admitted lanes of a list of lanes, in order. -/
theorem filterMap_ite {α β : Type} (l : List α) (p : α → Bool) (g : α → β) :
    (l.map fun a => if p a then some (g a) else none).filterMap id = (l.filter p).map g := by
  induction l with
  | nil => rfl
  | cons a l ih =>
    rw [List.map_cons, List.filterMap_cons, List.filter_cons, ih]
    cases p a <;> rfl

/-- A left fold of `max` is a bound of the start and the list, and is one of them. -/
theorem foldl_max_spec {α : Type} [LinearOrder α] (xs : List α) (lo : α) :
    lo ≤ xs.foldl max lo ∧ (∀ x ∈ xs, x ≤ xs.foldl max lo) ∧ (xs.foldl max lo = lo ∨ xs.foldl max lo ∈ xs) := by
  induction xs generalizing lo with
  | nil => simp
  | cons x xs ih =>
    obtain ⟨above, all, among⟩ := ih (max lo x)
    rw [List.foldl_cons]
    refine ⟨(le_max_left lo x).trans above, fun y hy => ?_, ?_⟩
    · rcases List.mem_cons.1 hy with rfl | hy
      · exact (le_max_right lo _).trans above
      · exact all y hy
    · rcases among with among | among
      · rcases max_choice lo x with h | h
        · exact .inl (among.trans h)
        · exact .inr (List.mem_cons.2 (.inl (among.trans h)))
      · exact .inr (List.mem_cons_of_mem _ among)

/-- From a start below the whole list, a fold of `max` is the largest element of a list that has one. -/
theorem foldl_max_greatest {α β : Type} [LinearOrder α] {ks : List β} {x : β → α} {lo : α} (low : ∀ k ∈ ks, lo ≤ x k) :
    ∃ m, (ks.map x).foldl max lo = m ∧ (∀ k ∈ ks, x k ≤ m) ∧ (ks = [] → m = lo) ∧ (ks ≠ [] → ∃ k ∈ ks, m = x k) := by
  obtain ⟨-, all, among⟩ := foldl_max_spec (ks.map x) lo
  refine ⟨_, rfl, fun k hk => all _ (List.mem_map_of_mem hk), fun h => by rw [h]; rfl, fun h => ?_⟩
  rcases among with among | among
  · obtain ⟨k, hk⟩ := List.exists_mem_of_ne_nil ks h
    exact ⟨k, hk, le_antisymm (among.trans_le (low k hk)) (all _ (List.mem_map_of_mem hk))⟩
  · obtain ⟨k, hk, e⟩ := List.mem_map.1 among
    exact ⟨k, hk, e.symm⟩

theorem CoreSt.int_range (c : CoreSt) (f : VF) (r : R5) (k : Nat) :
    -2 ^ (laneWidth f.ty.toNat - 1) ≤ c.int f r k ∧ c.int f r k ≤ 2 ^ (laneWidth f.ty.toNat - 1) - 1 := by
  have hpos : 0 < laneWidth f.ty.toNat := by rcases laneWidth_cases f.ty.toNat with h | h | h <;> rw [h] <;> norm_num
  have half : (2 : Int) ^ laneWidth f.ty.toNat = 2 * 2 ^ (laneWidth f.ty.toNat - 1) := by
    rw [← pow_succ', Nat.sub_add_cancel hpos]
  have low := (BitVec.ofNat (laneWidth f.ty.toNat) (lane (laneWidth f.ty.toNat) (c.vr r) k)).le_two_mul_toInt
  have high := (BitVec.ofNat (laneWidth f.ty.toNat) (lane (laneWidth f.ty.toNat) (c.vr r) k)).two_mul_toInt_lt
  rw [half] at low high
  unfold CoreSt.int
  omega

/-! ### The fixed tree of a floating sum -/

/-- A level of the tree over at most one element keeps that element. -/
theorem treeLevel_lone (l : List (Option Nat)) (h : (l.filterMap id).length ≤ 1) :
    (treeLevel l).filterMap id = l.filterMap id := by
  induction l using treeLevel.induct with
  | case1 a b rest ih =>
    rcases a with _ | a <;> rcases b with _ | b
    · simpa [treeLevel] using ih (by simpa using h)
    · simpa [treeLevel] using ih (by simp at h; rw [List.filterMap_eq_nil_iff.2 (show ∀ a ∈ rest, id a = none from h)]; simp)
    · simpa [treeLevel] using ih (by simp at h; rw [List.filterMap_eq_nil_iff.2 (show ∀ a ∈ rest, id a = none from h)]; simp)
    · simp at h
  | case2 l hl => rw [treeLevel]; exact hl

theorem treeLevel_length {n : Nat} (l : List (Option Nat)) (h : l.length = 2 * n) : (treeLevel l).length = n := by
  induction l using treeLevel.induct generalizing n with
  | case1 a b rest ih =>
    obtain ⟨m, rfl⟩ : ∃ m, n = m + 1 := ⟨n - 1, by simp at h; omega⟩
    simp only [List.length_cons] at h
    simp [treeLevel, ih (n := m) (by omega)]
  | case2 l hl =>
    rcases l with _ | ⟨a, _ | ⟨b, l⟩⟩
    · simp at h; simp [treeLevel]; omega
    · simp at h; omega
    · exact absurd rfl (hl a b l)

/-- The sum of at most one element is that element. -/
theorem treeRoot_lone {n : Nat} (l : List (Option Nat)) (len : l.length = 2 ^ n) (h : (l.filterMap id).length ≤ 1) :
    treeRoot n l = (l.filterMap id).head? := by
  induction n generalizing l with
  | zero =>
    obtain ⟨o, rfl⟩ := List.length_eq_one_iff.1 len
    cases o <;> rfl
  | succ n ih =>
    have lone := treeLevel_lone l h
    rw [treeRoot, ih _ (treeLevel_length l (by rw [len, pow_succ']))]
    · rw [lone]
    · rw [lone]; exact h

theorem f32add_lt (a b : Nat) : f32add a b < 2 ^ 32 := fmtF32_fits.fenc_lt _

theorem widenF32_lt (ty x : Nat) : widenF32 ty x < 2 ^ 32 := by
  unfold widenF32
  split <;> exact fmtF32_fits.fenc_lt _

theorem treeLevel_lt (l : List (Option Nat)) (h : ∀ x, some x ∈ l → x < 2 ^ 32) : ∀ x, some x ∈ treeLevel l → x < 2 ^ 32 := by
  induction l using treeLevel.induct with
  | case1 a b rest ih =>
    intro x hx
    have later : some x ∈ treeLevel rest → x < 2 ^ 32 :=
      ih (fun y hy => h y (List.mem_cons_of_mem _ (List.mem_cons_of_mem _ hy))) x
    rcases a with _ | a <;> rcases b with _ | b <;> rcases List.mem_cons.1 hx with hx | hx
    case some.some.inl => rw [Option.some.inj hx]; exact f32add_lt a b
    case none.none.inl => cases hx
    case none.some.inl | some.none.inl => exact h x (by simp [hx])
    all_goals exact later hx
  | case2 l hl => rw [treeLevel]; exacts [h, hl]

theorem treeRoot_lt (n : Nat) (l : List (Option Nat)) (h : ∀ x, some x ∈ l → x < 2 ^ 32) : (treeRoot n l).getD 0 < 2 ^ 32 := by
  induction n generalizing l with
  | zero =>
    rcases l with _ | ⟨_ | x, l⟩
    · norm_num [treeRoot]
    · norm_num [treeRoot]
    · exact h x (by simp)
  | succ n ih => exact ih _ (treeLevel_lt l h)

/-! ### The reductions -/

section
variable {s : State} {i : Instr} {e : Iss} {o : VOp} {f : VF}

/-- The operand's admitted lanes. -/
def CoreSt.admittedLanes (c : CoreSt) (f : VF) : List Nat :=
  (List.range (512 / laneWidth f.ty.toNat)).filter fun k => admits c f.mask (laneWidth f.ty.toNat) k

theorem vReduce_lanes (c : CoreSt) (f : VF) :
    ((upto (512 / laneWidth f.ty.toNat)).map fun k =>
      if admits c f.mask (laneWidth f.ty.toNat) k then some (lane (laneWidth f.ty.toNat) (c.vr f.a) k) else none).filterMap id =
    (c.admittedLanes f).map fun k => lane (laneWidth f.ty.toNat) (c.vr f.a) k := filterMap_ite _ _ _

theorem admitted_ints (c : CoreSt) (f : VF) :
    ((c.admittedLanes f).map fun k => lane (laneWidth f.ty.toNat) (c.vr f.a) k).map (sInt (laneWidth f.ty.toNat)) =
      (c.admittedLanes f).map (c.int f f.a) := by
  rw [List.map_map]
  exact List.map_congr_left fun k _ => (c.int_eq f f.a k).symm

theorem admitted_flts (c : CoreSt) (f : VF) :
    ((c.admittedLanes f).map fun k => lane (laneWidth f.ty.toNat) (c.vr f.a) k).map (fdec (laneFmt f.ty.toNat)) =
      (c.admittedLanes f).map (c.flt f f.a) := by
  rw [List.map_map]
  rfl

theorem vReduce_sum_int (c : CoreSt) {f : VF} (h : isInt f.ty = true) :
    vReduce c .vrsum f = (BitVec.ofInt 32 ((c.admittedLanes f).map (c.int f f.a)).sum).toNat := by
  simp only [vReduce, isFlt_of_isInt h, vReduce_lanes, admitted_ints, wrapN_eq_ofInt, Bool.false_eq_true, if_false]

theorem vReduce_max_int (c : CoreSt) {f : VF} (h : isInt f.ty = true) :
    vReduce c .vrmax f = (BitVec.ofInt (laneWidth f.ty.toNat)
      (((c.admittedLanes f).map (c.int f f.a)).foldl max (-2 ^ (laneWidth f.ty.toNat - 1)))).toNat := by
  simp only [vReduce, isFlt_of_isInt h, vReduce_lanes, admitted_ints, wrapN_eq_ofInt, Bool.false_eq_true, if_false, beq_self_eq_true, if_true]

theorem vReduce_min_int (c : CoreSt) {f : VF} (h : isInt f.ty = true) :
    vReduce c .vrmin f = (BitVec.ofInt (laneWidth f.ty.toNat)
      (((c.admittedLanes f).map (c.int f f.a)).foldl min (2 ^ (laneWidth f.ty.toNat - 1) - 1))).toNat := by
  have other : (VOp.vrmin == VOp.vrmax) = false := rfl
  simp only [vReduce, isFlt_of_isInt h, vReduce_lanes, admitted_ints, wrapN_eq_ofInt, other, Bool.false_eq_true, if_false]

/-- The leaves of a floating sum's tree. -/
def CoreSt.leaves (c : CoreSt) (f : VF) : List (Option Nat) :=
  (List.range (512 / laneWidth f.ty.toNat)).map fun k =>
    if admits c f.mask (laneWidth f.ty.toNat) k then some (widenF32 f.ty.toNat (lane (laneWidth f.ty.toNat) (c.vr f.a) k)) else none

theorem CoreSt.leaves_filterMap (c : CoreSt) (f : VF) : (c.leaves f).filterMap id =
    (c.admittedLanes f).map fun k => widenF32 f.ty.toNat (lane (laneWidth f.ty.toNat) (c.vr f.a) k) := filterMap_ite _ _ _

theorem CoreSt.leaves_length (c : CoreSt) (f : VF) : (c.leaves f).length = 2 ^ Nat.log2 (512 / laneWidth f.ty.toNat) := by
  simp only [CoreSt.leaves, List.length_map, List.length_range]
  rcases laneWidth_cases f.ty.toNat with h | h | h <;> rw [h] <;> decide

theorem vReduce_sum_flt (c : CoreSt) {f : VF} (h : isFlt f.ty = true) :
    vReduce c .vrsum f = (treeRoot (Nat.log2 (512 / laneWidth f.ty.toNat)) (c.leaves f)).getD 0 := by
  have leaves : (((upto (512 / laneWidth f.ty.toNat)).map fun k =>
      if admits c f.mask (laneWidth f.ty.toNat) k then some (lane (laneWidth f.ty.toNat) (c.vr f.a) k) else none).map
        fun o => o.map (widenF32 f.ty.toNat)) = c.leaves f := by
    rw [List.map_map]
    refine List.map_congr_left fun k _ => ?_
    simp only [Function.comp]
    split <;> rfl
  simp only [vReduce, h, if_true, leaves]

theorem vReduce_sum_flt_lt (c : CoreSt) {f : VF} (h : isFlt f.ty = true) : vReduce c .vrsum f < 2 ^ 32 := by
  rw [vReduce_sum_flt c h]
  refine treeRoot_lt _ _ fun x hx => ?_
  obtain ⟨k, -, hk⟩ := List.mem_map.1 hx
  split at hk
  · rw [← Option.some.inj hk]; exact widenF32_lt _ _
  · cases hk

theorem vReduce_sum_flt_lone (c : CoreSt) {f : VF} (h : isFlt f.ty = true) (lone : (c.admittedLanes f).length ≤ 1) :
    vReduce c .vrsum f =
      ((c.admittedLanes f).head?.map fun k => widenF32 f.ty.toNat (lane (laneWidth f.ty.toNat) (c.vr f.a) k)).getD 0 := by
  rw [vReduce_sum_flt c h, treeRoot_lone _ (c.leaves_length f), c.leaves_filterMap, List.head?_map]
  rw [c.leaves_filterMap, List.length_map]
  exact lone

/-- A floating extremum is that of the admitted lanes' values, or the empty reduction's infinity. -/
theorem vReduce_extremum_flt (c : CoreSt) {f : VF} (h : isFlt f.ty = true) (ho : o = .vrmax ∨ o = .vrmin) :
    vReduce c o f = if (c.admittedLanes f).map (c.flt f f.a) = [] then finf (laneFmt f.ty.toNat) (o == .vrmax)
      else fenc (laneFmt f.ty.toNat) (((c.admittedLanes f).map (c.flt f f.a)).tail.foldl (if o == .vrmax then fmax else fmin)
        (((c.admittedLanes f).map (c.flt f f.a)).headD .nan)) := by
  rcases ho with rfl | rfl
  all_goals
    simp only [vReduce, h, if_true, vReduce_lanes, admitted_flts]
    cases (c.admittedLanes f).map (c.flt f f.a) <;> rfl

theorem vReduce_lt (c : CoreSt) {f : VF} (ho : o = .vrsum ∨ o = .vrmax ∨ o = .vrmin) (ht : isInt f.ty || isFlt f.ty) :
    vReduce c o f < 2 ^ 32 := by
  have wide : 2 ^ laneWidth f.ty.toNat ≤ 2 ^ 32 := by
    rcases laneWidth_cases f.ty.toNat with h | h | h <;> rw [h] <;> norm_num
  rcases Bool.or_eq_true_iff.1 ht with ht | ht
  · rcases ho with rfl | rfl | rfl
    · rw [vReduce_sum_int c ht]; exact BitVec.isLt _
    · rw [vReduce_max_int c ht]; exact (BitVec.isLt _).trans_le wide
    · rw [vReduce_min_int c ht]; exact (BitVec.isLt _).trans_le wide
  · rcases ho with rfl | ho
    · exact vReduce_sum_flt_lt c ht
    · have fits := laneFmt_fits f.ty.toNat
      have inf := fits.infinity (o == .vrmax)
      have enc := fits.fenc_lt (((c.admittedLanes f).map (c.flt f f.a)).tail.foldl (if o == .vrmax then fmax else fmin)
        (((c.admittedLanes f).map (c.flt f f.a)).headD .nan))
      rw [laneFmt_signPos ht] at inf enc
      rw [vReduce_extremum_flt c ht ho]
      split
      · exact inf.trans_le wide
      · exact enc.trans_le wide

/-- A reduction's vector is its number: lane 0, and zeros above it. -/
theorem givesV_reduce {p : Vec → Prop} (ho : o = .vrsum ∨ o = .vrmax ∨ o = .vrmin) (ht : isInt f.ty || isFlt f.ty)
    (hi : exec i s = issueOps s e [.v o f]) (hp : ∀ v : Vec, v.toNat = vReduce (s.core e.g) o f → p v) : GivesV s i e o f 5 p := by
  refine givesV_of (v := BitVec.ofNat 512 (vReduce (s.core e.g) o f)) hi (fun _ => ?_) (hp _ ?_)
  · rcases ho with rfl | rfl | rfl <;> rfl
  · rw [BitVec.toNat_ofNat]
    exact Nat.mod_eq_of_lt ((vReduce_lt _ ho ht).trans_le (Nat.pow_le_pow_right (by norm_num) (by norm_num)))

theorem vrsum_flt_gives (h : isFlt f.ty = true) :
    GivesV s (.vrsum e f) e .vrsum f 5 (fun v => v.toNat < 2 ^ 32 ∧ ((s.core e.g).admittedLanes f = [] → v = 0) ∧
        (∀ k, (s.core e.g).admittedLanes f = [k] → v.toNat = widenF32 f.ty.toNat (lane (laneWidth f.ty.toNat) ((s.core e.g).vr f.a) k)) ∧
        v.toNat = (treeRoot (Nat.log2 (512 / laneWidth f.ty.toNat)) ((s.core e.g).leaves f)).getD 0) := by
  refine givesV_reduce (.inl rfl) (by simp [h]) rfl fun v hv => ?_
  refine ⟨by rw [hv]; exact vReduce_sum_flt_lt _ h, fun none => ?_, fun k one => ?_, by rw [hv, vReduce_sum_flt _ h]⟩
  · have zero : v.toNat = 0 := by
      rw [hv, vReduce_sum_flt_lone _ h (by simp [none]), none]
      rfl
    simpa using congrArg (BitVec.ofNat 512) zero
  · rw [hv, vReduce_sum_flt_lone _ h (by simp [one]), one]
    rfl

theorem extremum_flt_gives (ho : o = .vrmax ∨ o = .vrmin) (h : isFlt f.ty = true) (hi : exec i s = issueOps s e [.v o f]) :
    GivesV s i e o f 5 (fun v => ((s.core e.g).admittedLanes f = [] → v.toNat = finf (laneFmt f.ty.toNat) (o == .vrmax)) ∧
      ∀ y ys, ((s.core e.g).admittedLanes f).map ((s.core e.g).flt f f.a) = y :: ys →
        v.toNat = fenc (laneFmt f.ty.toNat) (ys.foldl (if o == .vrmax then fmax else fmin) y)) := by
  refine givesV_reduce (.inr ho) (by simp [h]) hi fun v hv => ?_
  rw [hv, vReduce_extremum_flt _ h ho]
  refine ⟨fun none => by simp [none], fun y ys he => ?_⟩
  rw [he, if_neg (by simp)]
  rfl

end

/-! ### The statistics accumulator -/

/-- A group's sums after lane `k` (R175). -/
def statStep (c : CoreSt) (f : VF) (p : Nat × Nat) (k : Nat) : Nat × Nat :=
  if admits c f.mask (laneWidth f.ty.toNat) k then
    (fenc fmtF32 (fadd (fdec fmtF32 p.1) (fdec fmtF32 (widenF32 f.ty.toNat (lane (laneWidth f.ty.toNat) (c.vr f.a) k)))),
      fenc fmtF32 (fadd (fdec fmtF32 p.2) (fmul (fdec fmtF32 (widenF32 f.ty.toNat (lane (laneWidth f.ty.toNat) (c.vr f.a) k)))
        (fdec fmtF32 (widenF32 f.ty.toNat (lane (laneWidth f.ty.toNat) (c.vr f.a) k))))))
  else p

theorem statStep_lt (c : CoreSt) (f : VF) {p : Nat × Nat} (hp : p.1 < 2 ^ 32 ∧ p.2 < 2 ^ 32) (k : Nat) :
    (statStep c f p k).1 < 2 ^ 32 ∧ (statStep c f p k).2 < 2 ^ 32 := by
  unfold statStep
  split
  · exact ⟨fmtF32_fits.fenc_lt _, fmtF32_fits.fenc_lt _⟩
  · exact hp

theorem foldl_statStep_lt (c : CoreSt) (f : VF) (ks : List Nat) {p : Nat × Nat} (hp : p.1 < 2 ^ 32 ∧ p.2 < 2 ^ 32) :
    (ks.foldl (statStep c f) p).1 < 2 ^ 32 ∧ (ks.foldl (statStep c f) p).2 < 2 ^ 32 :=
  List.foldlRecOn (motive := fun q : Nat × Nat => q.1 < 2 ^ 32 ∧ q.2 < 2 ^ 32) ks _ hp fun _ hq k _ => statStep_lt c f hq k

/-- A group takes its lanes in order. -/
theorem lane_vStat (c : CoreSt) (f : VF) {g : Nat} (hg : g < 16) :
    (lane 32 (vStat c f).1 g, lane 32 (vStat c f).2 g) =
      ((List.range (32 / laneWidth f.ty.toNat)).map fun j => 32 / laneWidth f.ty.toNat * g + j).foldl (statStep c f)
        (lane 32 c.statSum g, lane 32 c.statSq g) := by
  obtain ⟨sum, sq⟩ := foldl_statStep_lt c f ((List.range (32 / laneWidth f.ty.toNat)).map fun j => 32 / laneWidth f.ty.toNat * g + j)
    (p := (lane 32 c.statSum g, lane 32 c.statSq g)) ⟨lane_lt _ _ _, lane_lt _ _ _⟩
  refine Prod.ext ?_ ?_
  · rw [← Nat.mod_eq_of_lt sum, List.foldl_map]
    exact lane_mkLanes _ hg
  · rw [← Nat.mod_eq_of_lt sq, List.foldl_map]
    exact lane_mkLanes _ hg

theorem vStat_f32 (c : CoreSt) {f : VF} (h : f.ty = 7) {g : Nat} (hg : g < 16) :
    (lane 32 (vStat c f).1 g, lane 32 (vStat c f).2 g) = statStep c f (lane 32 c.statSum g, lane 32 c.statSq g) g := by
  have one : 32 / laneWidth f.ty.toNat = 1 := by rw [h]; rfl
  rw [lane_vStat c f hg, one]
  simp

theorem vStat_bf16 (c : CoreSt) {f : VF} (h : f.ty = 6) {g : Nat} (hg : g < 16) :
    (lane 32 (vStat c f).1 g, lane 32 (vStat c f).2 g) =
      statStep c f (statStep c f (lane 32 c.statSum g, lane 32 c.statSq g) (2 * g)) (2 * g + 1) := by
  have two : 32 / laneWidth f.ty.toNat = 2 := by rw [h]; rfl
  rw [lane_vStat c f hg, two]
  simp [List.range_succ]

/-- An operation of the statistics accumulator alone. -/
theorem stat_issues {s : State} {i : Instr} {e : Iss} {o : VOp} {f : VF} (p q : Vec) (hi : exec i s = issueOps s e [.v o f])
    (apply : ∀ l, vApply ((s.core e.g).issuing l) o f = { (s.core e.g).issuing l with statSum := p, statSq := q })
    (h : Ready s e (.v o f)) : Issues s i e (.v o f) { s.core e.g with statSum := p, statSq := q } [] :=
  vOp_issues h hi (c := { s.core e.g with statSum := p, statSq := q }) (fun l => (apply l).trans rfl) rfl rfl rfl rfl (.nil h.ordered)

/-- The bit of `vstrd` that selects the sums of squares (R176). -/
theorem imm6_bit0 {x : BitVec 6} (h : x.toNat < 2) : x.getLsbD 0 = !decide (x = 0) := by
  revert x
  decide

/-- Settles O13: the admitted lanes are folded by their format's rule, and the accumulator's groups take their lanes in order. -/
theorem reductionsAndStatistics : Obligations.ReductionsAndStatistics := by
  constructor
  · intro s e f c w admitted x
    refine ⟨fun hf => ⟨?_, ?_, ?_⟩, fun hf => ⟨vrsum_flt_gives hf, extremum_flt_gives (.inl rfl) hf rfl, extremum_flt_gives (.inr rfl) hf rfl⟩⟩
    · exact givesV_reduce (.inl rfl) (by simp [hf]) rfl fun v hv => hv.trans (vReduce_sum_int c hf)
    · refine givesV_reduce (.inr (.inl rfl)) (by simp [hf]) rfl fun v hv => ?_
      obtain ⟨m, hm, spec⟩ := foldl_max_greatest (ks := admitted) (x := x) fun k _ => (c.int_range f f.a k).1
      exact ⟨m, by rw [hv, vReduce_max_int c hf, ← hm]; rfl, spec⟩
    · refine givesV_reduce (.inr (.inr rfl)) (by simp [hf]) rfl fun v hv => ?_
      obtain ⟨m, hm, spec⟩ := foldl_max_greatest (α := Intᵒᵈ) (ks := admitted) (x := x) fun k _ => (c.int_range f f.a k).2
      exact ⟨m, by rw [hv, vReduce_min_int c hf, ← hm]; rfl, spec⟩
  · intro s e f c w step
    refine ⟨fun h => ⟨(vStat c f).1, (vStat c f).2, fun g hg => ⟨fun hf => vStat_f32 c hf hg, fun hf => vStat_bf16 c hf hg⟩,
      stat_issues _ _ rfl (fun _ => rfl) h⟩, fun h => ?_, fun h => stat_issues 0 0 rfl (fun _ => rfl) h⟩
    refine givesV_of rfl (v := if f.imm6.getLsbD 0 then c.statSq else c.statSum) (fun _ => rfl) ?_ h
    have legal := h.vValueOk
    simp only [Sys2Proof.vValueOk, Bool.and_eq_true, decide_eq_true_eq] at legal
    rw [imm6_bit0 legal.2]
    by_cases hz : f.imm6 = 0 <;> simp [hz]

end Sys2Proof.Machine

/-! PROOF. The bundle sequence, branches and loops (R88, R125, R139 to R143, R159). -/

namespace Sys2Proof.Machine

/-! ### How the sequence moves -/

section
variable {c : CoreSt} {x : Option SOp}

theorem advance_sequential (hd : c.delay = none) (hl : x.bind (loopOf c) = none) (hb : x.bind (branchOf c) = none) :
    advance c x = { c with pc := (seqNext c.pc c.loops).1, led := decide ((seqNext c.pc c.loops).1 ≠ c.pc + 1),
                           loops := (seqNext c.pc c.loops).2 } := by
  unfold advance
  rw [hd, hl, hb]

theorem advance_branch {t : Nat} (hd : c.delay = none) (hl : x.bind (loopOf c) = none) (hb : x.bind (branchOf c) = some t) :
    advance c x = { c with delay := some (2, t), pc := c.pc + 1, led := false } := by
  unfold advance
  rw [hd, hl, hb]

theorem advance_loop_skipped {last : Nat} (hd : c.delay = none) (hl : x.bind (loopOf c) = some (last, 0)) :
    advance c x = { c with pc := last + 1, led := true, loops := countDown c.pc c.loops } := by
  unfold advance
  rw [hd, hl]
  rfl

theorem advance_loop_opened {last n : Nat} (hd : c.delay = none) (hl : x.bind (loopOf c) = some (last, n)) (hn : 1 ≤ n) :
    advance c x = { c with pc := c.pc + 1, led := false, loops := ⟨c.pc + 1, last, n⟩ :: c.loops } := by
  unfold advance
  rw [hd, hl]
  exact if_neg (by omega)

end

/-- After a bundle the program counter, the loops and the branch in its delay bundles are those of the moved sequence. -/
theorem OneOn.sequence {c c' : CoreSt} {e : Iss} {x : Option SOp} (h : OneOn c c' e x) :
    c'.pc = (advance c x).pc ∧ c'.loops = (advance c x).loops ∧ c'.delay = (advance c x).delay := by
  rw [OneOn] at h
  exact ⟨by rw [h], by rw [h], by rw [h]⟩

/-! ### Scalar operations that only steer -/

section
variable {s : State} {i : Instr} {e : Iss} {x : SOp} {ws : List Pend}

theorem Issues.steers {c c' : CoreSt} (h : Issues s i e (.s x) c ws) (ha : advance c (some x) = c') :
    Steers s i e x c ws c'.pc c'.loops c'.delay := by
  obtain ⟨t, ht, issued⟩ := h
  obtain ⟨pc, loops, delay⟩ := OneOn.sequence issued.2.1
  rw [← ha]
  exact ⟨t, ht, issued, pc, loops, delay⟩

/-- A ready scalar operation that changes nothing at once and writes nothing. -/
theorem issues_idle (h : Ready s e (.s x)) (hi : exec i s = issueOps s e [.s x]) (apply : ∀ t : State, sApply t e.g x = t)
    (quiet : ∀ t : State, signals t e.g (.s x) = false) (hx : x ≠ .stop)
    (errors : opErrors (s.met e) e.g ((s.met e).core e.g) (.s x) = []) : Issues s i e (.s x) (s.core e.g) [] := by
  refine h.issuesIn (ps := (s.core e.g).pend) hi (stall_sv _ e _ h.met (.inl ⟨x, rfl⟩) (fun hs => absurd (SlotOp.s.inj hs) hx) fun hs => ?_)
    errors ?_ ?_ rfl rfl rfl rfl (.nil h.ordered)
  · rw [quiet] at hs; exact nomatch hs
  · rw [opApply, apply]; exact issueBase_onlyCore s e _
  · rw [opApply, apply, issueBase_core]; rfl

theorem met_sr (s : State) (e : Iss) (r : R5) : ((s.met e).core e.g).sr r = (s.core e.g).sr r := by
  rw [(met_spec s e).2]
  rfl

theorem met_progLen (s : State) (e : Iss) : ((s.met e).core e.g).progLen = (s.core e.g).progLen := by rw [(met_spec s e).2]

theorem met_loops (s : State) (e : Iss) : ((s.met e).core e.g).loops = (s.core e.g).loops := by rw [(met_spec s e).2]

theorem opErrors_jr (t : State) (g : Nat) (c : CoreSt) (a : R5) :
    opErrors t g c (.s (.jr a)) = if (c.sr a).toNat ≥ c.progLen then [0x0A] else [] := List.append_nil _

theorem opErrors_lp (t : State) (g : Nat) (c : CoreSt) (a : R5) (l : BitVec 11) :
    opErrors t g c (.s (.lp a l)) = if (c.sr a).toNat % 2 ^ 32 ≥ 1 ∧ c.loops.length ≥ 4 then [0x0B] else [] := List.append_nil _

theorem opErrors_lpi (t : State) (g : Nat) (c : CoreSt) (n : BitVec 16) (l : BitVec 11) :
    opErrors t g c (.s (.lpi n l)) = if n.toNat ≥ 1 ∧ c.loops.length ≥ 4 then [0x0B] else [] := List.append_nil _

/-- A branch whose condition holds. -/
theorem taken_steers {t : Nat} (hd : (s.core e.g).delay = none) (h : Issues s i e (.s x) (s.core e.g) ws)
    (hl : loopOf (s.core e.g) x = none) (hb : branchOf (s.core e.g) x = some t) :
    Steers s i e x (s.core e.g) ws ((s.core e.g).pc + 1) (s.core e.g).loops (some (2, t)) :=
  h.steers (advance_branch hd hl hb)

/-- A conditional branch leads to its target where its condition holds, and to the next bundle otherwise. -/
theorem br_steers {k : Cond} {a b : R5} {t : BitVec 11} {p : Prop} (hd : (s.core e.g).delay = none)
    (hi : exec i s = issueOps s e [.s (.br k a b t)]) (hp : condVal k ((s.core e.g).sr a) ((s.core e.g).sr b) = true ↔ p)
    (h : Ready s e (.s (.br k a b t))) :
    (p → Steers s i e (.br k a b t) (s.core e.g) [] ((s.core e.g).pc + 1) (s.core e.g).loops (some (2, t.toNat))) ∧
    (¬p → Steers s i e (.br k a b t) (s.core e.g) [] (seqNext (s.core e.g).pc (s.core e.g).loops).1
      (seqNext (s.core e.g).pc (s.core e.g).loops).2 none) := by
  have issues : Issues s i e (.s (.br k a b t)) (s.core e.g) [] := issues_idle h hi (fun _ => rfl) (fun _ => rfl) nofun rfl
  refine ⟨fun hold => taken_steers hd issues rfl (if_pos (hp.2 hold)), fun fail => ?_⟩
  have not_taken : branchOf (s.core e.g) (.br k a b t) = none := if_neg fun hold => fail (hp.1 hold)
  simpa only [hd] using issues.steers (advance_sequential (x := some (.br k a b t)) hd rfl not_taken)

/-- A loop instruction of `n` iterations up to bundle `last`. -/
theorem loop_steers {n last : Nat} (hd : (s.core e.g).delay = none) (hi : exec i s = issueOps s e [.s x])
    (apply : ∀ t : State, sApply t e.g x = t) (quiet : ∀ t : State, signals t e.g (.s x) = false) (hx : x ≠ .stop)
    (hl : loopOf (s.core e.g) x = some (last, n))
    (errors : opErrors (s.met e) e.g ((s.met e).core e.g) (.s x) = if n ≥ 1 ∧ (s.core e.g).loops.length ≥ 4 then [0x0B] else [])
    (h : Ready s e (.s x)) :
    (n = 0 → Steers s i e x (s.core e.g) [] (last + 1) (countDown (s.core e.g).pc (s.core e.g).loops) none) ∧
    (1 ≤ n → (s.core e.g).loops.length < 4 → Steers s i e x (s.core e.g) [] ((s.core e.g).pc + 1)
      (⟨(s.core e.g).pc + 1, last, n⟩ :: (s.core e.g).loops) none) := by
  refine ⟨fun zero => ?_, fun some_left room => ?_⟩
  · subst zero
    have issues := issues_idle h hi apply quiet hx (errors.trans (if_neg (by omega)))
    simpa only [hd] using issues.steers (advance_loop_skipped (x := some x) hd hl)
  · have issues := issues_idle h hi apply quiet hx (errors.trans (if_neg (by omega)))
    simpa only [hd] using issues.steers (advance_loop_opened (x := some x) hd hl some_left)

end

theorem jal_issues {s : State} {e : Iss} {d : R5} {t : BitVec 11} (h : Ready s e (.s (.jal d t))) :
    Issues s (.jal e d t) e (.s (.jal d t)) (s.core e.g) ((s.core e.g).resS 1 d (BitVec.ofNat 64 ((s.core e.g).pc + 3))) := by
  refine h.issues (f := fun c => c.pushS 1 d (BitVec.ofNat 64 (c.pc + 3))) (ps := (s.core e.g).pendS 1 d _) rfl
    (stall_sv _ e _ h.met (.inl ⟨_, rfl⟩) nofun nofun) rfl (fun _ => rfl) (fun l => ?_) rfl rfl rfl rfl (.resS h.ordered _ _ _)
  rw [CoreSt.pushS_eq]
  rfl

theorem lcnt_givesS {s : State} {e : Iss} {d : R5} :
    GivesS s (.lcnt e d) e (.lcnt d) 1 d (BitVec.ofNat 64 (s.core e.g).lcnt) := fun h => by
  refine h.issues (f := fun c => c.pushS 1 d (BitVec.ofNat 64 c.lcnt)) (ps := (s.core e.g).pendS 1 d _) rfl
    (stall_sv _ e _ h.met (.inl ⟨_, rfl⟩) nofun nofun) rfl (fun _ => rfl) (fun l => ?_) rfl rfl rfl rfl (.resS h.ordered _ _ _)
  rw [CoreSt.pushS_eq]
  rfl

/-- The loops after a skipped loop instruction, by the innermost loop's end and its iterations left. -/
theorem countDown_cons (pc : Nat) (l : LoopEnt) (rest : List LoopEnt) : countDown pc (l :: rest) =
    if l.last ≠ pc then l :: rest else if 1 < l.left then { l with left := l.left - 1 } :: rest else rest := by
  unfold countDown
  by_cases ends : l.last = pc
  · by_cases one : l.left ≤ 1
    · simp [ends, one]
    · simp [ends, one, Nat.lt_of_not_le one]
  · simp [ends]

/-- Settles O5: each branch and loop form moves the sequence by its rule and nothing else. -/
theorem branchesAndLoops : Obligations.BranchesAndLoops := by
  constructor
  · intro s e c hd taken cond
    refine ⟨fun t h => ?_, fun d t h => ?_, fun a h inside small => ?_, fun a b t => ⟨?_, ?_, ?_, ?_, ?_, ?_⟩⟩
    · exact taken_steers hd (issues_idle h rfl (fun _ => rfl) (fun _ => rfl) nofun rfl) rfl rfl
    · exact taken_steers hd (jal_issues h) rfl rfl
    · have errors : opErrors (s.met e) e.g ((s.met e).core e.g) (.s (.jr a)) = [] := by
        rw [opErrors_jr, met_sr, met_progLen, if_neg (Nat.not_le.2 inside)]
      exact taken_steers hd (issues_idle h rfl (fun _ => rfl) (fun _ => rfl) nofun errors) rfl
        (congrArg some (Nat.mod_eq_of_lt small))
    · exact br_steers hd rfl beq_iff_eq
    · exact br_steers hd rfl bne_iff_ne
    · exact br_steers hd rfl BitVec.slt_iff_toInt_lt
    · exact br_steers hd rfl (by simp [condVal, BitVec.slt_eq_decide, c])
    · exact br_steers hd rfl BitVec.ult_iff_toNat_lt
    · exact br_steers hd rfl (by simp [condVal, BitVec.ult_eq_decide, c])
  · intro s e c hd opens
    have ends (x : SOp) (i : Instr) (n last : Nat)
        (h : Ready s e (.s x) → (n = 0 → Steers s i e x c [] (last + 1) (countDown c.pc c.loops) none) ∧
          (1 ≤ n → c.loops.length < 4 → Steers s i e x c [] (c.pc + 1) (⟨c.pc + 1, last, n⟩ :: c.loops) none)) :
        opens i x n last := by
      intro ready
      refine ⟨fun zero => ?_, (h ready).2⟩
      have skipped := (h ready).1 zero
      cases loops : c.loops with
      | nil => simpa only [loops, countDown] using skipped
      | cons l rest => simpa only [loops, countDown_cons] using skipped
    refine ⟨fun a last => ends _ _ _ _ (loop_steers hd rfl (fun _ => rfl) (fun _ => rfl) nofun rfl ?_),
      fun n last => ends _ _ _ _ (loop_steers hd rfl (fun _ => rfl) (fun _ => rfl) nofun rfl ?_), fun d => ?_⟩
    · rw [opErrors_lp, met_sr, met_loops]
    · rw [opErrors_lpi, met_loops]
    · have hl := lcnt_givesS (s := s) (e := e) (d := d)
      unfold CoreSt.lcnt at hl
      cases loops : c.loops with
      | nil => rw [loops] at hl; exact hl
      | cons l rest => rw [loops] at hl; exact hl

end Sys2Proof.Machine

/-! PROOF. Bundles that issue, stall or meet a run-time error (R88, R90, R125, R126, R145, R146). -/

namespace Sys2Proof.Machine

/-! ### Which way a bundle goes -/

theorem inBwait_met (s : State) (e : Iss) : (s.met e).inBwait e.g = s.inBwait e.g := by
  obtain ⟨only, core⟩ := met_spec s e
  have stand (g : Nat) : (s.met e).stand g = s.stand g := by rw [only.1]; rfl
  have standOf : (s.met e).standOf e.g = s.standOf e.g := by rw [only.1]; rfl
  unfold State.inBwait
  rw [core, standOf, stand]

/-- A running core's bundle `ops` is tried once its last operation has come. -/
structure Tried (s : State) (e : Iss) (ops : List SlotOp) : Prop where
  unit : e.g < 12288
  last : e.last = true
  clean : e.det = .none
  clock : s.clockStopped e.g = false
  running : (s.core e.g).running = true
  going : (s.core e.g).halted = false
  awake : s.inBwait e.g = false
  rise : slotsRise ops = true
  legal : bundleBreach ops e.idle.toNat = none

theorem Ready.tried {s : State} {e : Iss} {o : SlotOp} (h : Ready s e o) : Tried s e [o] := by
  obtain ⟨unit, last, clean, -, clock, running, going, -, legal, awake, -⟩ := h
  exact ⟨unit, last, clean, clock, running, going, awake, rfl, legal⟩

section
variable {s : State} {e : Iss} {ops all : List SlotOp}

theorem Tried.issueOps_eq (h : Tried s e all) (hall : (s.core e.g).staged ++ ops = all) :
    issueOps s e ops = .next (issueTry (s.met e) e all) := by
  have tried : issueBundle s e all = issueTry (s.met e) e all := by
    unfold issueBundle
    rw [h.clean]
  unfold issueOps
  rw [if_neg (by have := h.unit; omega)]
  simp only [hall, h.rise, h.legal, h.clock, h.running, h.going, h.last, tried, Bool.not_true, Bool.or_self, Bool.false_eq_true, if_false]

theorem nearAll_nil (s : State) (g now cycles : Nat) (bank : Option Nat) : nearAll s g now cycles bank [] = s := rfl

/-- The units beside the pipeline act after a bundle that issues. -/
theorem Tried.issues_near (h : Tried s e all) (stall : stallReasons (s.met e) e.g all = [])
    (errors : issueErrors (s.met e) e.g all = []) : issueTry (s.met e) e all =
      nearAll (issueGo (s.met e) e all) e.g ((s.met e).core e.g).cycle (1 + e.idle.toNat) (mBank ((s.met e).core e.g) all) e.env.near := by
  unfold issueTry
  dsimp only
  rw [inBwait_met, h.awake, stall, errors]
  rfl

theorem Tried.issues (h : Tried s e all) (alone : e.env.near = []) (stall : stallReasons (s.met e) e.g all = [])
    (errors : issueErrors (s.met e) e.g all = []) : issueTry (s.met e) e all = issueGo (s.met e) e all := by
  rw [h.issues_near stall errors, alone, nearAll_nil]

theorem Tried.stalls (h : Tried s e all) (alone : e.env.near = []) (stall : stallReasons (s.met e) e.g all ≠ [])
    (errors : 0x15 ∉ issueErrors (s.met e) e.g all) :
    issueTry (s.met e) e all = issueStall (s.met e) e all (stallReasons (s.met e) e.g all) := by
  have none_early : ((issueErrors (s.met e) e.g all).contains 0x15) = false := by simpa using errors
  unfold issueTry
  dsimp only
  rw [inBwait_met, h.awake, alone, nearAll_nil, nearAll_nil, if_pos stall]
  refine if_neg ?_
  rintro (early | ⟨free, -⟩)
  · rw [if_neg Bool.false_ne_true, none_early] at early
    exact nomatch early
  · exact stall free

theorem Tried.stops (h : Tried s e all) {code : Nat} (stall : stallReasons (s.met e) e.g all = [])
    (errors : issueErrors (s.met e) e.g all = [code]) (small : code ≤ 0xFF) :
    issueTry (s.met e) e all = issueError (s.met e) e.g code := by
  have least : [code].foldl min 0xFF = code := min_eq_right small
  unfold issueTry
  dsimp only
  rw [inBwait_met, h.awake, stall, errors, if_neg Bool.false_ne_true, least]
  exact if_pos (.inr ⟨rfl, nofun⟩)

end

/-! ### The empty bundle -/

theorem stallReasons_empty {s : State} {g : Nat} (h : s.inBwait g = false) : stallReasons s g [] = [] := by
  unfold stallReasons
  simp [h, niWaits, natBit, upto]

theorem issueErrors_empty (s : State) (g : Nat) : issueErrors s g [] =
    if (s.core g).pc ≥ (s.core g).progLen ∧ (!(s.core g).led ∨ (s.core g).pc ≥ 2048) then [0x09] else [] := by
  have early : earlyAccess s g [] = false := by simp [earlyAccess]
  unfold issueErrors
  simp only [early, List.flatMap_nil, List.append_nil, Bool.false_eq_true, if_false]

/-- The state in which an empty bundle is judged: it takes the place of what was staged. -/
def State.cleared (s : State) (e : Iss) : State := s.setCore e.g { s.core e.g with staged := [] }

theorem State.core_cleared (s : State) (e : Iss) : (s.cleared e).core e.g = { s.core e.g with staged := [] } :=
  State.core_setCore_same _ _ _

theorem tried_empty {s : State} {e : Iss} (unit : e.g < 12288) (clean : e.det = .none)
    (clock : s.clockStopped e.g = false) (running : (s.core e.g).running = true) (going : (s.core e.g).halted = false)
    (awake : s.inBwait e.g = false) : Tried (s.cleared e) { e with last := true } [] where
  unit := unit
  last := rfl
  clean := clean
  clock := clock
  running := by rw [State.core_cleared]; exact running
  going := by rw [State.core_cleared]; exact going
  awake := by
    unfold State.inBwait at awake ⊢
    rw [State.core_cleared]
    exact awake
  rise := rfl
  legal := by simp [bundleBreach]

theorem exec_emptyBundle {s : State} {e : Iss} (h : Tried (s.cleared e) { e with last := true } []) :
    exec (.emptyBundle e) s = .next (issueTry ((s.cleared e).met e) { e with last := true } []) := by
  refine h.issueOps_eq ?_
  rw [State.core_cleared]
  rfl

theorem seqNext_cons (pc : Nat) (l : LoopEnt) (rest : List LoopEnt) : seqNext pc (l :: rest) =
    if l.last ≠ pc then (pc + 1, l :: rest) else if 1 < l.left then (l.start, { l with left := l.left - 1 } :: rest)
      else (pc + 1, rest) := by
  unfold seqNext
  by_cases ends : l.last = pc
  · by_cases one : l.left ≤ 1
    · simp [ends, one]
    · simp [ends, one, Nat.lt_of_not_le one]
  · simp [ends]

theorem OneOn.unstaged {c c' : CoreSt} {e : Iss} {x : Option SOp} {l : List SlotOp} (h : OneOn { c with staged := l } c' e x) :
    OneOn c c' e x := by
  have moved := advance_congr (c := { c with staged := l }) (c' := c) x rfl rfl rfl rfl
  rw [OneOn, moved] at h
  exact h

/-- What was staged does not matter to what an issue leaves. -/
theorem IssuedAs.unstaged {s t : State} {e : Iss} {x : Option SOp} {c : CoreSt} {l : List SlotOp} {ws : List Pend}
    (h : IssuedAs s t e x { c with staged := l } ws) : IssuedAs s t e x c ws := by
  obtain ⟨only, one, delivers, ordered⟩ := h
  have values (n : Nat) (d : Dest) : ({ c with staged := l }.atCycle n).get d = (c.atCycle n).get d := by
    rw [CoreSt.get_atCycle, CoreSt.get_atCycle, CoreSt.get_congr (c := c) (c' := { c with staged := l }) rfl rfl rfl rfl]
  refine ⟨only, ?_, fun n hn d => (delivers n hn d).trans ?_, ordered⟩
  · exact OneOn.unstaged one
  · rw [values]
    rfl

/-- An empty bundle of a core whose program counter lies in its program issues, and nothing else happens. -/
theorem emptyBundle_issues {s : State} {e : Iss} (h : Tried (s.cleared e) { e with last := true } []) (alone : e.env.near = [])
    (inside : (s.core e.g).pc < (s.core e.g).progLen) (ordered : (s.core e.g).Ordered) :
    ∃ t, exec (.emptyBundle e) s = .next t ∧ IssuedAs s t e none (s.core e.g) [] := by
  have met := (met_spec (s.cleared e) e).2
  rw [State.core_cleared] at met
  have awake : ((s.cleared e).met e).inBwait e.g = false := (inBwait_met _ _).trans h.awake
  have errors : issueErrors ((s.cleared e).met e) e.g [] = [] := by
    rw [issueErrors_empty, met]
    exact if_neg fun past => absurd inside (Nat.not_lt.2 past.1)
  refine ⟨_, (exec_emptyBundle h).trans (congrArg _ (h.issues alone (stallReasons_empty awake) errors)), ?_⟩
  refine IssuedAs.unstaged (l := []) (issueGo_issuedAs (s' := s) (ps := (s.core e.g).pend) (l := (((s.cleared e).met e).core e.g).link)
    rfl ?_ ?_ ?_ ?_ ?_ ?_ (.nil ordered))
  · exact (OnlyCore.setCore s e.g _).trans (issueBase_onlyCore (s.cleared e) e [])
  · rw [List.foldl_nil]
    refine (issueBase_core (s.cleared e) { e with last := true } []).trans ?_
    rw [State.core_cleared]
    rfl
  all_goals rw [met]

theorem advance_delay (c : CoreSt) (x : Option SOp) {n t : Nat} (hd : c.delay = some (n, t)) : advance c x =
    if 1 < n then { c with delay := some (n - 1, t), pc := c.pc + 1, led := false }
    else { c with delay := none, pc := t, led := true, loops := popFor t c.loops } := by
  unfold advance
  rw [hd]
  by_cases more : 1 < n
  · simp [more, Nat.not_le.2 more]
  · simp [more, Nat.not_lt.1 more]

/-- Settles O4: an empty bundle only moves the sequence. -/
theorem bundleSequence : Obligations.BundleSequence := by
  intro s e c unit clean alone clock running going awake inside ordered
  obtain ⟨t, ht, issued⟩ := emptyBundle_issues (tried_empty unit clean clock running going awake) alone inside ordered
  refine ⟨t, ht, issued, ?_⟩
  obtain ⟨pc, loops, delay⟩ := OneOn.sequence (c := c) issued.2.1
  rw [pc, loops, delay]
  cases hd : c.delay with
  | some d =>
    obtain ⟨n, target⟩ := d
    by_cases more : 1 < n
    · simp only [advance_delay c none hd, if_pos more, true_and]
    · simp only [advance_delay c none hd, if_neg more, popFor, Bool.decide_and, true_and]
  | none =>
    rw [advance_sequential hd rfl rfl]
    refine ⟨hd, ?_⟩
    cases hl : c.loops with
    | nil => exact ⟨rfl, rfl⟩
    | cons l rest =>
      by_cases ends : l.last ≠ c.pc
      · simp only [seqNext_cons, if_pos ends, true_and]
      · by_cases more : 1 < l.left
        · simp only [seqNext_cons, if_neg ends, if_pos more, true_and]
        · simp only [seqNext_cons, if_neg ends, if_neg more, true_and]

/-! ### A bundle of two operations -/

/-- A bundle of a scalar and a vector operation stalls only for the scoreboard where neither signals. -/
theorem stallReasons_pair {s : State} {g : Nat} {x : SOp} {o : VOp} {f : VF} (awake : s.inBwait g = false) (hx : x ≠ .stop)
    (quiet : signals s g (.s x) = false)
    (free : ∀ z ∈ (s.core g).sb, z.dest ∉ [SlotOp.s x, .v o f].flatMap fun o => o.reads ++ o.dests) :
    stallReasons s g [.s x, .v o f] = [] := by
  have sb : ((s.core g).sb.any fun z => ([SlotOp.s x, .v o f].flatMap fun o => o.reads ++ o.dests).any fun d => d == z.dest) = false := by
    refine List.any_eq_false.2 fun z hz held => ?_
    obtain ⟨d, hd, he⟩ := List.any_eq_true.1 held
    exact free z hz (by rwa [← beq_iff_eq.1 he])
  have vector : signals s g (.v o f) = false := rfl
  unfold stallReasons
  dsimp only
  rw [sb]
  simp [awake, sbNeed, tagMask, niNeed, niWaits, waitHeld, natBit, upto, SlotOp.slot, streamHeld, usesPath, hx, quiet, vector]

theorem earlyAccess_free {s : State} {g : Nat} {ops : List SlotOp}
    (free : ∀ z ∈ (s.core g).sb, z.dest ∉ ops.flatMap fun o => o.reads ++ o.dests) : earlyAccess s g ops = false := by
  refine List.any_eq_false.2 fun z hz early => ?_
  obtain ⟨d, hd, he⟩ := List.any_eq_true.1 (Bool.and_eq_true _ _ ▸ early).2
  exact free z hz (by rwa [← beq_iff_eq.1 he])

theorem issueErrors_pair {s : State} {g : Nat} {x y : SlotOp} (inside : (s.core g).pc < (s.core g).progLen)
    (hx : opErrors s g (s.core g) x = []) (hy : opErrors s g (s.core g) y = [])
    (free : ∀ z ∈ (s.core g).sb, z.dest ∉ [x, y].flatMap fun o => o.reads ++ o.dests) : issueErrors s g [x, y] = [] := by
  unfold issueErrors
  simp [hx, hy, earlyAccess_free free, Nat.not_le.2 inside]

/-- Settles O3: both operations act on the core as it stood, and their results join in turn. -/
theorem bundleReadsBeforeWrites : Obligations.BundleReadsBeforeWrites := by
  intro s e d a b f c x y ready staged legal free
  obtain ⟨unit, last, clean, alone, clock, running, going, -, -, awake, inside, free', ordered⟩ := ready
  rw [State.core_setCore_same] at running going inside free' ordered
  have met := (met_spec s e).2
  have awake' : s.inBwait e.g = false := by
    unfold State.inBwait at awake ⊢
    rw [State.core_setCore_same] at awake
    exact awake
  have tried : Tried s e [x, y] := ⟨unit, last, clean, clock, running, going, awake', rfl, legal⟩
  have untouched : ∀ z ∈ ((s.met e).core e.g).sb, z.dest ∉ [x, y].flatMap fun o => o.reads ++ o.dests := by
    rw [met]
    intro z hz hmem
    rcases List.mem_append.1 hmem with h | h
    · exact free z hz h
    · exact free' z hz (by simpa using h)
  have stall := stallReasons_pair ((inBwait_met s e).trans awake') (x := .alu .add d a b) nofun rfl untouched
  have errors : issueErrors (s.met e) e.g [x, y] = [] := issueErrors_pair (by rw [met]; exact inside) rfl rfl untouched
  set v := masked c f (laneWidth f.ty.toNat) (vMove c .vsplat f) with hv
  refine ⟨_, v, (tried.issueOps_eq (by rw [staged]; rfl)).trans (congrArg _ (tried.issues alone stall errors)),
    maskedLanes_masked fun k hk => ?_, ?_⟩
  · exact (lane_mkLanes _ hk).trans (Nat.mod_mod _ _)
  have joins := (Joins.resS (c := c) ordered 1 d (c.sr a + c.sr b)).snoc ⟨c.cycle + 3, .v f.d, v.setWidth 65536⟩ (by
    unfold CoreSt.resS
    split <;> simp)
  set base := issueBase (s.met e) e [x, y] with hbase
  set p := (c.issuing ((s.met e).core e.g).link).pushS 1 d (c.sr a + c.sr b) with hp
  have core : base.core e.g = c.issuing ((s.met e).core e.g).link := issueBase_core s e [x, y]
  have scalar : opApply base e.g x = base.setCore e.g p := by
    change base.setCore e.g ((base.core e.g).pushS 1 d ((base.core e.g).sr a + (base.core e.g).sr b)) = _
    rw [core]
    rfl
  have vector : opApply (base.setCore e.g p) e.g y = (base.setCore e.g p).setCore e.g (p.pushV 3 f.d v) := by
    change (base.setCore e.g p).setCore e.g (vApply ((base.setCore e.g p).core e.g) .vsplat f) = _
    rw [State.core_setCore_same, hp, CoreSt.pushS_eq]
    rfl
  have both : ([x, y].foldl (fun u o => opApply u e.g o) base) = (base.setCore e.g p).setCore e.g (p.pushV 3 f.d v) := by
    rw [List.foldl_cons, scalar, List.foldl_cons, vector, List.foldl_nil]
  refine issueGo_issuedAs (l := ((s.met e).core e.g).link) both ?_ ?_ (by rw [met]) (by rw [met]) (by rw [met]) (by rw [met]) joins
  · exact (issueBase_onlyCore s e _).trans ((OnlyCore.setCore _ _ _).trans (OnlyCore.setCore _ _ _))
  · rw [State.core_setCore_same, hp, CoreSt.pushS_eq]
    rfl

end Sys2Proof.Machine

/-! PROOF. Stalls and run-time errors of a bundle (R90, R145, R146). -/

namespace Sys2Proof.Machine

/-! ### A command of one operation -/

/-- A command that brings an operation, its line readings clean, is the issue of that operation. -/
theorem exec_slotOp {s : State} {i : Instr} {e : Iss} {o : SlotOp} (h : i.slotOp = some (e, o)) (clean : eccClean i = true) :
    exec i s = issueOps s e [o] := by
  cases i
  case tsld e f x =>
    obtain ⟨rfl, rfl⟩ := Prod.mk.inj (Option.some.inj h)
    have : x = .clean := beq_iff_eq.1 clean
    subst this
    have far : farEcc s e (ownTower s e f) .clean = s := by
      unfold farEcc
      split
      · split <;> rfl
      · rfl
    exact congrArg (issueOps · e [.m .tsld f]) far
  case bmov e f xs =>
    obtain ⟨rfl, rfl⟩ := Prod.mk.inj (Option.some.inj h)
    have : xs = [] := beq_iff_eq.1 clean
    subst this
    rfl
  case hmov e f xs =>
    obtain ⟨rfl, rfl⟩ := Prod.mk.inj (Option.some.inj h)
    have : xs = [] := beq_iff_eq.1 clean
    subst this
    rfl
  all_goals cases h
  all_goals rfl

/-! ### Stalls -/

theorem mem_ite_single {p : Prop} [Decidable p] {m n : Nat} (h : n ∈ if p then [m] else []) : n = m := by
  split at h
  · exact List.mem_singleton.1 h
  · cases h

/-- The early access to a register is not an error that an operation brings by itself (R221). -/
theorem ne_early_of_mem_opErrors {s : State} {g n : Nat} {c : CoreSt} {o : SlotOp} (h : n ∈ opErrors s g c o) : n ≠ 0x15 := by
  rintro rfl
  unfold opErrors at h
  rcases List.mem_append.1 h with h | h
  · split at h
    case h_7 =>
      rcases List.mem_append.1 h with h | h
      · rcases List.mem_append.1 h with h | h <;> exact absurd (mem_ite_single h) (by decide)
      · exact absurd (mem_ite_single h) (by decide)
    case h_8 => cases h
    all_goals exact absurd (mem_ite_single h) (by decide)
  · exact absurd (mem_ite_single h) (by decide)

theorem earlyAccess_met (s : State) (e : Iss) (ops : List SlotOp) : earlyAccess (s.met e) e.g ops = earlyAccess s e.g ops := by
  obtain ⟨only, core⟩ := met_spec s e
  have stand (g : Nat) : (s.met e).stand g = s.stand g := by rw [only.1]; rfl
  have standOf : (s.met e).standOf e.g = s.standOf e.g := by rw [only.1]; rfl
  unfold earlyAccess
  rw [core, standOf, stand]

theorem not_early {s : State} {g : Nat} {ops : List SlotOp} (h : earlyAccess s g ops = false) : 0x15 ∉ issueErrors s g ops := by
  unfold issueErrors
  simp only [h, Bool.false_eq_true, if_false, List.append_nil, List.mem_append, List.mem_flatMap]
  rintro (past | ⟨o, -, ho⟩)
  · exact absurd (mem_ite_single past) (by decide)
  · exact ne_early_of_mem_opErrors ho rfl

/-- A scoreboard entry's register stalls a bundle that touches it. -/
theorem stallReasons_held {s : State} {g : Nat} {o : SlotOp} (awake : s.inBwait g = false)
    (held : ∃ x ∈ (s.core g).sb, x.dest ∈ o.reads ++ o.dests) : 7 ∈ stallReasons s g [o] := by
  obtain ⟨x, hx, hd⟩ := held
  have sb : ((s.core g).sb.any fun z => ([o].flatMap fun o => o.reads ++ o.dests).any fun d => d == z.dest) = true :=
    List.any_eq_true.2 ⟨x, hx, List.any_eq_true.2 ⟨x.dest, by simpa using hd, beq_self_eq_true _⟩⟩
  unfold stallReasons
  dsimp only
  rw [sb, awake]
  simp

/-- What a stalled bundle leaves: a cycle has passed and the results due have been written. -/
theorem issueStall_spec (s : State) (e : Iss) (ops : List SlotOp) (why : List Nat) :
    OnlyCore s (issueStall s e ops why) e.g ∧ ∃ w a l nm pt, (issueStall s e ops why).core e.g =
      CoreSt.settle { s.core e.g with cycle := (s.core e.g).cycle + 1, staged := l, waiting := w, sbStall := why.contains 7, active := a,
                                      nom := nm, pat := pt } := by
  set s1 := (why.filter fun n => decide (n < 40)).foldl (fun a n => a.coreCount e.g n 1)
    (s.coreCount e.g 0 (boolNat (!(s.core e.g).gated))) with hs1
  have counted : OnlyCore (s.coreCount e.g 0 (boolNat (!(s.core e.g).gated))) s1 e.g ∧
      s1.core e.g = (s.coreCount e.g 0 (boolNat (!(s.core e.g).gated))).core e.g := by
    have h := OnlyCore.counts (s.coreCount e.g 0 (boolNat (!(s.core e.g).gated))) e.g
      ((why.filter fun n => decide (n < 40)).map fun n => (n, 1)) (by
        intro p hp
        obtain ⟨n, hn, rfl⟩ := List.mem_map.1 hp
        exact of_decide_eq_true (List.mem_filter.1 hn).2)
    rw [List.foldl_map] at h
    exact h
  obtain ⟨only, core⟩ := counted
  rw [State.core_coreCount] at core
  refine ⟨(OnlyCore.coreCount s e.g 0 _ (by norm_num)).trans (only.trans (OnlyCore.setCore s1 e.g _)), ?_⟩
  change ∃ w a l nm pt, (s1.setCore e.g (CoreSt.settle (CoreSt.clockOn _ 1 { s1.core e.g with cycle := _, staged := _, waiting := _, sbStall := _, active := _ }))).core e.g = _
  rw [State.core_setCore_same, core, clockOn_fields]
  exact ⟨_, _, _, _, _, rfl⟩

theorem OnlyCore.mem {s t : State} {g : Nat} (h : OnlyCore s t g) : t.mem = s.mem := by rw [h.1]

theorem OnlyCore.tiles {s t : State} {g : Nat} (h : OnlyCore s t g) : t.tiles = s.tiles := by rw [h.1]

/-- Writing the results that are due changes none that a later cycle finds. -/
theorem delivers_settle {c c' : CoreSt} (ordered : c.Ordered) (h : ∃ b : CoreSt, c' = b.settle ∧ b.cycle = c.cycle ∧ b.pend = c.pend ∧
    b.s = c.s ∧ b.v = c.v ∧ b.k = c.k ∧ b.accVis = c.accVis) : Delivers c c' [] := by
  obtain ⟨b, rfl, -, pend, hs, hv, hk, ha⟩ := h
  intro n hn d
  have reached : b.cycle ≤ n := by rw [settle_fields b] at hn; exact hn
  change (b.settle.atCycle n).get d = (c.atCycle n).get d
  rw [get_settled b n reached (by unfold CoreSt.Ordered; rwa [pend]), CoreSt.get_atCycle, CoreSt.get_atCycle, pend,
    CoreSt.get_congr hs hv hk ha]

/-- A bundle that touches a scoreboard entry's register takes its cycle and nothing more. -/
theorem held_bundle_stalls {s : State} {i : Instr} {e : Iss} {o : SlotOp} (hi : exec i s = issueOps s e [o]) (h : Tried s e [o])
    (alone : e.env.near = []) (staged : (s.core e.g).staged = []) (held : ∃ x ∈ (s.core e.g).sb, x.dest ∈ o.reads ++ o.dests)
    (early : earlyAccess s e.g [o] = false) (ordered : (s.core e.g).Ordered) :
    ∃ t, exec i s = .next t ∧ OnlyCore s t e.g ∧ (t.core e.g).pc = (s.core e.g).pc ∧ (t.core e.g).cycle = (s.core e.g).cycle + 1 ∧
      (t.core e.g).sb = (s.core e.g).sb ∧ (t.core e.g).loops = (s.core e.g).loops ∧ (t.core e.g).sbStall = true ∧
      Delivers { s.core e.g with cycle := (s.core e.g).cycle + 1 } (t.core e.g) [] := by
  obtain ⟨onlyMet, met⟩ := met_spec s e
  have sb : ((s.met e).core e.g).sb = (s.core e.g).sb := by rw [met]
  have seven := stallReasons_held ((inBwait_met s e).trans h.awake) (by rw [sb]; exact held)
  have stalled := h.stalls alone (List.ne_nil_of_mem seven) (not_early ((earlyAccess_met s e [o]).trans early))
  obtain ⟨only, w, a, l, nm, pt, core⟩ := issueStall_spec (s.met e) e [o] (stallReasons (s.met e) e.g [o])
  refine ⟨_, hi.trans ((h.issueOps_eq (by rw [staged]; rfl)).trans (congrArg _ stalled)), onlyMet.trans only, ?_⟩
  rw [met] at core
  have delivers := delivers_settle (c := { s.core e.g with cycle := (s.core e.g).cycle + 1 }) (c' := (issueStall (s.met e) e [o] _).core e.g)
    ordered ⟨_, core, rfl, rfl, rfl, rfl, rfl, rfl⟩
  rw [core, settle_fields] at delivers ⊢
  exact ⟨rfl, rfl, rfl, rfl, List.elem_eq_true_of_mem seven, delivers⟩

/-! ### Run-time errors -/

section
variable {s : State} {e : Iss}

/-- A bundle that meets one run-time error stops its core and its stand takes the error. -/
theorem Tried.stops_eq {all : List SlotOp} (h : Tried s e all) {code : Nat} (stall : stallReasons (s.met e) e.g all = [])
    (errors : issueErrors (s.met e) e.g all = [code]) (small : code ≤ 0xFF) :
    issueTry (s.met e) e all = ((s.met e).setCore e.g { (s.met e).core e.g with staged := [], halted := true }).standFatal
      (s.standOf e.g) { ErrInfo.plain 0 code with tile := some (tileOf e.g), site := some (siteOf e.g), gcore := some e.g,
                                                  index := some (s.core e.g).pc } := by
  obtain ⟨only, met⟩ := met_spec s e
  have pc : ((s.met e).core e.g).pc = (s.core e.g).pc := by rw [met]
  have standOf : (s.met e).standOf e.g = s.standOf e.g := by rw [only.1]; rfl
  rw [h.stops stall errors small, ← pc, ← standOf]
  rfl

/-- The same for a ready scalar operation that brings the error. -/
theorem Ready.stops {x : SOp} {i : Instr} (h : Ready s e (.s x)) (hi : exec i s = issueOps s e [.s x]) (hx : x ≠ .stop)
    (quiet : ∀ t : State, signals t e.g (.s x) = false) {code : Nat}
    (errors : opErrors (s.met e) e.g ((s.met e).core e.g) (.s x) = [code]) (small : code ≤ 0xFF) :
    exec i s = .next (((s.met e).setCore e.g { (s.met e).core e.g with staged := [], halted := true }).standFatal
      (s.standOf e.g) { ErrInfo.plain 0 code with tile := some (tileOf e.g), site := some (siteOf e.g), gcore := some e.g,
                                                  index := some (s.core e.g).pc }) := by
  have staged := h.2.2.2.2.2.2.2.1
  have stall := stall_sv _ e _ h.met (.inl ⟨x, rfl⟩) (fun hs => absurd (SlotOp.s.inj hs) hx) fun hs => by
    rw [quiet] at hs; exact nomatch hs
  have inside : ((s.met e).core e.g).pc < ((s.met e).core e.g).progLen := h.met.2.2.2.2.2.2.2.2.2.2.1
  have all : issueErrors (s.met e) e.g [.s x] = [code] := by
    unfold issueErrors
    simp [errors, early_none _ e _ h.met, Nat.not_le.2 inside]
  rw [hi, h.tried.issueOps_eq (by rw [staged]; rfl), h.tried.stops_eq stall all small]

end

/-! ### Writing a core again -/

theorem sput_sput {α : Type} (m : SMap α) (k : Nat) (v w : α) : sput (sput m k v) k w = sput m k w := by
  induction m with
  | nil => simp [sput]
  | cons p m ih =>
    obtain ⟨l, x⟩ := p
    rcases Nat.lt_trichotomy k l with h | h | h
    · simp [sput, h]
    · simp [sput, h]
    · simp [sput, Nat.not_lt_of_lt h, (Nat.ne_of_lt h).symm, ih]

/-- A core that runs is no unlisted one. -/
theorem State.setCore_running (s : State) (g : Nat) {c : CoreSt} (h : c.running = true) :
    s.setCore g c = { s with cores := sput s.cores g c } := by
  have listed : c ≠ CoreSt.zero := by
    rintro rfl
    exact nomatch h
  unfold State.setCore sset
  rw [if_neg listed]

theorem State.setCore_setCore (s : State) (g : Nat) {c c' : CoreSt} (h : c.running = true) (h' : c'.running = true) :
    (s.setCore g c).setCore g c' = s.setCore g c' := by
  rw [State.setCore_running _ g h', State.setCore_running s g h, State.setCore_running s g h']
  simp only [sput_sput]

theorem State.coreCount_setCore_self {s : State} {g : Nat} {c : CoreSt} (hc : s.core g = c) (k n : Nat) :
    (s.setCore g c).coreCount g k n = (s.coreCount g k n).setCore g c := by
  unfold State.coreCount
  rw [State.core_setCore_same, hc]
  split <;> rfl

theorem State.droop_setCore_self {s : State} {g : Nat} {c : CoreSt} (hc : s.core g = c) (x : Around) :
    (s.setCore g c).droop g x = (s.droop g x).setCore g c := by
  have counts (t : State) (ht : t.core g = c) (m n : Nat) :
      ((t.setCore g c).coreCount g 38 m).coreCount g 39 n = ((t.coreCount g 38 m).coreCount g 39 n).setCore g c := by
    rw [State.coreCount_setCore_self ht, State.coreCount_setCore_self ((State.core_coreCount t g 38 m g).trans ht)]
  unfold State.droop
  dsimp only
  rw [State.core_setCore_same, hc]
  exact counts ((s.setRegion (rowRegion g) _).setRegion (barRegion g) _) hc _ _

/-- A running core written as it is changes nothing once its bundle has met the cycle. -/
theorem met_setCore_self {s : State} {e : Iss} {c : CoreSt} (hc : s.core e.g = c) (run : c.running = true) :
    (s.setCore e.g c).met e = s.met e := by
  have drooped : (s.droop e.g e.env).core e.g = c := (State.core_droop s e.g e.g e.env).trans hc
  unfold State.met
  rw [State.droop_setCore_self hc]
  generalize s.droop e.g e.env = t at *
  unfold State.cross
  dsimp only
  rw [State.core_setCore_same, drooped]
  exact State.setCore_setCore (t.setRegion _ _) e.g run run

/-- A program counter past the program stops an empty bundle's core. -/
theorem emptyBundle_stops {s : State} {e : Iss} (h : Tried (s.cleared e) { e with last := true } [])
    (staged : (s.core e.g).staged = []) (past : (s.core e.g).progLen ≤ (s.core e.g).pc)
    (unled : (s.core e.g).led = false ∨ 2048 ≤ (s.core e.g).pc) :
    exec (.emptyBundle e) s = .next (((s.met e).setCore e.g { (s.met e).core e.g with staged := [], halted := true }).standFatal
      (s.standOf e.g) { ErrInfo.plain 0 0x09 with tile := some (tileOf e.g), site := some (siteOf e.g), gcore := some e.g,
                                                  index := some (s.core e.g).pc }) := by
  have self : s.cleared e = s.setCore e.g (s.core e.g) := congrArg (s.setCore e.g) (by rw [← staged])
  have run : (s.core e.g).running = true := by
    have := h.running
    rwa [State.core_cleared] at this
  have core : (s.cleared e).core e.g = s.core e.g := by rw [self, State.core_setCore_same]
  have met : (s.cleared e).met e = s.met e := by rw [self, met_setCore_self rfl run]
  have awake : ((s.cleared e).met e).inBwait e.g = false := (inBwait_met _ _).trans h.awake
  have errors : issueErrors ((s.cleared e).met e) e.g [] = [0x09] := by
    rw [issueErrors_empty, met, (met_spec s e).2]
    exact if_pos ⟨past, by simpa using unled⟩
  have stops := h.stops_eq (stallReasons_empty awake) errors (by norm_num)
  rw [exec_emptyBundle h, stops, core]
  change Host.Outcome.next (State.standFatal (((s.cleared e).met e).setCore e.g { ((s.cleared e).met e).core e.g with staged := [], halted := true }) _ _) = _
  rw [met]
  rfl

/-- Settles O6: a held register lets only the cycle pass, and each control condition of R145 stops the core. -/
theorem stallsAndRunTimeErrors : Obligations.StallsAndRunTimeErrors := by
  constructor
  · intro s i e o slot ecc c unit last clean alone clock running going staged legal awake held early ordered
    obtain ⟨t, ht, only, pc, cycle, sb, loops, stall, delivers⟩ := held_bundle_stalls (exec_slotOp slot ecc)
      ⟨unit, last, clean, clock, running, going, awake, rfl, legal⟩ alone staged held early ordered
    exact ⟨t, ht, pc, cycle, sb, loops, stall, only.mem, only.tiles, delivers⟩
  · intro s e c info stops
    refine ⟨fun a h past => ?_, fun a l h some_left full => ?_, fun n l h some_left full => ?_,
      fun unit clean _ clock running going staged awake past unled =>
        emptyBundle_stops (tried_empty unit clean clock running going awake) staged past unled⟩
    · refine h.stops rfl nofun (fun _ => rfl) ?_ (by norm_num)
      rw [opErrors_jr, met_sr, met_progLen]
      exact if_pos past
    · refine h.stops rfl nofun (fun _ => rfl) ?_ (by norm_num)
      rw [opErrors_lp, met_sr, met_loops]
      exact if_pos ⟨some_left, full⟩
    · refine h.stops rfl nofun (fun _ => rfl) ?_ (by norm_num)
      rw [opErrors_lpi, met_loops]
      exact if_pos ⟨some_left, full⟩

end Sys2Proof.Machine

/-! PROOF. The bundle encoding (R124 to R133). -/

namespace Sys2Proof.Machine

/-! ### Slot words -/

theorem SAlu.code_lt (o : SAlu) : o.code < 256 := by cases o <;> decide

theorem SAluI.code_lt (o : SAluI) : o.code < 256 := by cases o <;> decide

theorem Cond.code_lt (c : Cond) : c.code < 256 := by cases c <;> decide

theorem VOp.code_lt (o : VOp) : o.code < 256 := by cases o <;> decide

theorem TOp.code_lt (o : TOp) : o.code < 256 := by cases o <;> decide

theorem QOp.code_lt (o : QOp) : o.code < 256 := by cases o <;> decide

theorem MOp.code_lt (o : MOp) : o.code < 256 := by cases o <;> decide

theorem boolNat_lt (b : Bool) : boolNat b < 2 := by cases b <;> decide

/-- A field of a word that holds a bit vector's number gives it back. -/
theorem ofNat_natBits {w n lo : Nat} {x : BitVec w} (h : natBits n lo w = x.toNat) : BitVec.ofNat w (natBits n lo w) = x := by
  rw [h, BitVec.ofNat_toNat, BitVec.setWidth_eq]

theorem natBit_of {n i : Nat} {b : Bool} (h : natBits n i 1 = boolNat b) : natBit n i = b := by
  unfold natBits at h
  unfold natBit
  rw [pow_one] at h
  rw [h]
  cases b <;> rfl

theorem vFields_vWord (o : VOp) (f : VF) : vFields (vWord o f) = f := by
  have code := VOp.code_lt o
  have z := boolNat_lt f.z
  have sat := boolNat_lt f.sat
  obtain ⟨ty, d, a, b, c, mask, fz, fsat, s, imm6, imm8⟩ := f
  unfold vFields
  congr 1
  case e_z | e_sat =>
    refine natBit_of ?_
    simp only [natBits, vWord] at *
    omega
  all_goals
    refine ofNat_natBits ?_
    simp only [natBits, vWord] at *
    omega

theorem vWord_lt (o : VOp) (f : VF) : vWord o f < 2 ^ 64 := by
  have code := VOp.code_lt o
  have z := boolNat_lt f.z
  have sat := boolNat_lt f.sat
  unfold vWord
  omega

theorem vWord_code (o : VOp) (f : VF) : natBits (vWord o f) 0 8 = o.code := by
  have code := VOp.code_lt o
  unfold natBits vWord
  omega

theorem tFields_tWord {op : Nat} (code : op < 256) (f : TF) : tFields (tWord op f) = f := by
  obtain ⟨ta, tb, acc, a, b, c, s, imm6, imm5⟩ := f
  unfold tFields
  congr 1
  all_goals
    refine ofNat_natBits ?_
    simp only [natBits, tWord]
    omega

theorem tWord_lt {op : Nat} (code : op < 256) (f : TF) : tWord op f < 2 ^ 64 := by
  unfold tWord
  omega

theorem tWord_code {op : Nat} (code : op < 256) (f : TF) : natBits (tWord op f) 0 8 = op := by
  unfold natBits tWord
  omega

theorem mFields_mWord (o : MOp) (f : MF) : mFields (mWord o f) = f := by
  have code := MOp.code_lt o
  have af := boolNat_lt f.af
  have dg := boolNat_lt f.dg
  have bo := boolNat_lt f.bo
  obtain ⟨d, a, b, v, mt, faf, fdg, fbo, w, imm⟩ := f
  unfold mFields
  congr 1
  case e_af | e_dg | e_bo =>
    refine natBit_of ?_
    simp only [natBits, mWord] at *
    omega
  all_goals
    refine ofNat_natBits ?_
    simp only [natBits, mWord] at *
    omega

theorem mWord_lt (o : MOp) (f : MF) : mWord o f < 2 ^ 64 := by
  have code := MOp.code_lt o
  have af := boolNat_lt f.af
  have dg := boolNat_lt f.dg
  have bo := boolNat_lt f.bo
  unfold mWord
  omega

theorem mWord_code (o : MOp) (f : MF) : natBits (mWord o f) 0 8 = o.code := by
  have code := MOp.code_lt o
  unfold natBits mWord
  omega

/-! ### Opcodes name one operation each -/

theorem find_vCode (o : VOp) : (allVOp.find? fun x => x.code == o.code) = some o := by cases o <;> rfl

theorem find_tCode (o : TOp) : (allTOp.find? fun x => x.code == o.code) = some o := by cases o <;> rfl

theorem find_qCode (o : QOp) : (allTOp.find? fun x => x.code == o.code) = none ∧ (allQOp.find? fun x => x.code == o.code) = some o := by
  cases o <;> exact ⟨rfl, rfl⟩

theorem find_mCode (o : MOp) : (allMOp.find? fun x => x.code == o.code) = some o := by cases o <;> rfl

theorem find_aluCode (o : SAlu) : (allSAlu.find? fun x => x.code == o.code) = some o := by cases o <;> rfl

theorem find_aluiCode (o : SAluI) :
    (allSAlu.find? fun x => x.code == o.code) = none ∧ (allSAluI.find? fun x => x.code == o.code) = some o := by
  cases o <;> exact ⟨rfl, rfl⟩

theorem find_condCode (c : Cond) : (allSAlu.find? fun x => x.code == c.code) = none ∧
    (allSAluI.find? fun x => x.code == c.code) = none ∧ (allCond.find? fun x => x.code == c.code) = some c := by
  cases c <;> exact ⟨rfl, rfl, rfl⟩

theorem vDecode_vWord (o : VOp) (f : VF) : vDecode (vWord o f) = some (.v o f) := by
  rw [vDecode, vWord_code, find_vCode, vFields_vWord]
  rfl

theorem tDecode_t (o : TOp) (f : TF) : tDecode (tWord o.code f) = some (.t o f) := by
  have code := TOp.code_lt o
  rw [tDecode, tWord_code code, find_tCode, tFields_tWord code]

theorem tDecode_q (o : QOp) (f : TF) : tDecode (tWord o.code f) = some (.q o f) := by
  have code := QOp.code_lt o
  rw [tDecode, tWord_code code, (find_qCode o).1, (find_qCode o).2, tFields_tWord code]
  rfl

theorem mDecode_mWord (o : MOp) (f : MF) : mDecode (mWord o f) = some (.m o f) := by
  rw [mDecode, mWord_code, find_mCode, mFields_mWord]
  rfl

/-! ### The decoder of the S slot, by opcode (R134) -/

section
variable {w : Nat}

theorem sDecode_alu {o : SAlu} (h : natBits w 0 8 = o.code) : sDecode w = some (.alu o (BitVec.ofNat 5 (natBits w 8 5))
    (BitVec.ofNat 5 (natBits w 13 5)) (BitVec.ofNat 5 (natBits w 18 5))) := by
  unfold sDecode
  dsimp only
  rw [h, find_aluCode]

theorem sDecode_alui {o : SAluI} (h : natBits w 0 8 = o.code) : sDecode w = some (.alui o (BitVec.ofNat 5 (natBits w 8 5))
    (BitVec.ofNat 5 (natBits w 13 5)) (BitVec.ofNat 30 (natBits w 18 30))) := by
  unfold sDecode
  dsimp only
  rw [h, (find_aluiCode o).1, (find_aluiCode o).2]

theorem sDecode_br {c : Cond} (h : natBits w 0 8 = c.code) : sDecode w = some (.br c (BitVec.ofNat 5 (natBits w 13 5))
    (BitVec.ofNat 5 (natBits w 18 5)) (BitVec.ofNat 11 (natBits w 23 11))) := by
  unfold sDecode
  dsimp only
  rw [h, (find_condCode c).1, (find_condCode c).2.1, (find_condCode c).2.2]

theorem sDecode_sliw (h : natBits w 0 8 = 0x2A) : sDecode w = some (.sliw (BitVec.ofNat 5 (natBits w 8 5)) (BitVec.ofNat 32 (natBits w 16 32))) := by
  unfold sDecode
  dsimp only
  rw [h]
  rfl

theorem sDecode_slih (h : natBits w 0 8 = 0x2B) : sDecode w = some (.slih (BitVec.ofNat 5 (natBits w 8 5)) (BitVec.ofNat 32 (natBits w 16 32))) := by
  unfold sDecode
  dsimp only
  rw [h]
  rfl

theorem sDecode_jmp (h : natBits w 0 8 = 0x30) : sDecode w = some (.jmp (BitVec.ofNat 11 (natBits w 23 11))) := by
  unfold sDecode
  dsimp only
  rw [h]
  rfl

theorem sDecode_jal (h : natBits w 0 8 = 0x37) : sDecode w = some (.jal (BitVec.ofNat 5 (natBits w 8 5)) (BitVec.ofNat 11 (natBits w 23 11))) := by
  unfold sDecode
  dsimp only
  rw [h]
  rfl

theorem sDecode_jr (h : natBits w 0 8 = 0x38) : sDecode w = some (.jr (BitVec.ofNat 5 (natBits w 13 5))) := by
  unfold sDecode
  dsimp only
  rw [h]
  rfl

theorem sDecode_lp (h : natBits w 0 8 = 0x40) : sDecode w = some (.lp (BitVec.ofNat 5 (natBits w 13 5)) (BitVec.ofNat 11 (natBits w 34 11))) := by
  unfold sDecode
  dsimp only
  rw [h]
  rfl

theorem sDecode_lpi (h : natBits w 0 8 = 0x41) : sDecode w = some (.lpi (BitVec.ofNat 16 (natBits w 18 16)) (BitVec.ofNat 11 (natBits w 34 11))) := by
  unfold sDecode
  dsimp only
  rw [h]
  rfl

theorem sDecode_lcnt (h : natBits w 0 8 = 0x42) : sDecode w = some (.lcnt (BitVec.ofNat 5 (natBits w 8 5))) := by
  unfold sDecode
  dsimp only
  rw [h]
  rfl

theorem sDecode_rdcr (h : natBits w 0 8 = 0x50) : sDecode w = some (.rdcr (BitVec.ofNat 5 (natBits w 8 5)) (BitVec.ofNat 8 (natBits w 18 8))) := by
  unfold sDecode
  dsimp only
  rw [h]
  rfl

theorem sDecode_rdgtc (h : natBits w 0 8 = 0x51) : sDecode w = some (.rdgtc (BitVec.ofNat 5 (natBits w 8 5)) (BitVec.ofNat 8 (natBits w 18 8))) := by
  unfold sDecode
  dsimp only
  rw [h]
  rfl

theorem sDecode_rdhw (h : natBits w 0 8 = 0x52) : sDecode w = some (.rdhw (BitVec.ofNat 5 (natBits w 8 5)) (BitVec.ofNat 8 (natBits w 18 8))) := by
  unfold sDecode
  dsimp only
  rw [h]
  rfl

theorem sDecode_evt (h : natBits w 0 8 = 0x53) : sDecode w = some (.evt (BitVec.ofNat 8 (natBits w 18 8))) := by
  unfold sDecode
  dsimp only
  rw [h]
  rfl

theorem sDecode_bwait (h : natBits w 0 8 = 0x54) : sDecode w = some (.bwait (BitVec.ofNat 5 (natBits w 13 5))) := by
  unfold sDecode
  dsimp only
  rw [h]
  rfl

theorem sDecode_bdone (h : natBits w 0 8 = 0x55) : sDecode w = some (.bdone) := by
  unfold sDecode
  dsimp only
  rw [h]
  rfl

theorem sDecode_stop (h : natBits w 0 8 = 0x56) : sDecode w = some (.stop) := by
  unfold sDecode
  dsimp only
  rw [h]
  rfl

end

/-! ### Scalar words -/

theorem sWord_lt (x : SOp) : x.word < 2 ^ 48 := by
  cases x with
  | alu o => have := SAlu.code_lt o; simp only [SOp.word]; omega
  | alui o => have := SAluI.code_lt o; simp only [SOp.word]; omega
  | br c => have := Cond.code_lt c; simp only [SOp.word]; omega
  | _ => simp only [SOp.word]; omega

theorem sDecode_word (x : SOp) : sDecode x.word = some x := by
  cases x with
  | alu o d a b =>
    have code := SAlu.code_lt o
    have op : natBits (SOp.alu o d a b).word 0 8 = o.code := by simp only [natBits, SOp.word]; omega
    have hd : natBits (SOp.alu o d a b).word 8 5 = d.toNat := by simp only [natBits, SOp.word]; omega
    have ha : natBits (SOp.alu o d a b).word 13 5 = a.toNat := by simp only [natBits, SOp.word]; omega
    have hb : natBits (SOp.alu o d a b).word 18 5 = b.toNat := by simp only [natBits, SOp.word]; omega
    rw [sDecode_alu op, ofNat_natBits hd, ofNat_natBits ha, ofNat_natBits hb]
  | alui o d a imm =>
    have code := SAluI.code_lt o
    have op : natBits (SOp.alui o d a imm).word 0 8 = o.code := by simp only [natBits, SOp.word]; omega
    have hd : natBits (SOp.alui o d a imm).word 8 5 = d.toNat := by simp only [natBits, SOp.word]; omega
    have ha : natBits (SOp.alui o d a imm).word 13 5 = a.toNat := by simp only [natBits, SOp.word]; omega
    have himm : natBits (SOp.alui o d a imm).word 18 30 = imm.toNat := by simp only [natBits, SOp.word]; omega
    rw [sDecode_alui op, ofNat_natBits hd, ofNat_natBits ha, ofNat_natBits himm]
  | br c a b t =>
    have code := Cond.code_lt c
    have op : natBits (SOp.br c a b t).word 0 8 = c.code := by simp only [natBits, SOp.word]; omega
    have ha : natBits (SOp.br c a b t).word 13 5 = a.toNat := by simp only [natBits, SOp.word]; omega
    have hb : natBits (SOp.br c a b t).word 18 5 = b.toNat := by simp only [natBits, SOp.word]; omega
    have ht : natBits (SOp.br c a b t).word 23 11 = t.toNat := by simp only [natBits, SOp.word]; omega
    rw [sDecode_br op, ofNat_natBits ha, ofNat_natBits hb, ofNat_natBits ht]
  | sliw d imm =>
    have op : natBits (SOp.sliw d imm).word 0 8 = 0x2A := by simp only [natBits, SOp.word]; omega
    have hd : natBits (SOp.sliw d imm).word 8 5 = d.toNat := by simp only [natBits, SOp.word]; omega
    have himm : natBits (SOp.sliw d imm).word 16 32 = imm.toNat := by simp only [natBits, SOp.word]; omega
    rw [sDecode_sliw op, ofNat_natBits hd, ofNat_natBits himm]
  | slih d imm =>
    have op : natBits (SOp.slih d imm).word 0 8 = 0x2B := by simp only [natBits, SOp.word]; omega
    have hd : natBits (SOp.slih d imm).word 8 5 = d.toNat := by simp only [natBits, SOp.word]; omega
    have himm : natBits (SOp.slih d imm).word 16 32 = imm.toNat := by simp only [natBits, SOp.word]; omega
    rw [sDecode_slih op, ofNat_natBits hd, ofNat_natBits himm]
  | jmp t =>
    have op : natBits (SOp.jmp t).word 0 8 = 0x30 := by simp only [natBits, SOp.word]; omega
    have ht : natBits (SOp.jmp t).word 23 11 = t.toNat := by simp only [natBits, SOp.word]; omega
    rw [sDecode_jmp op, ofNat_natBits ht]
  | jal d t =>
    have op : natBits (SOp.jal d t).word 0 8 = 0x37 := by simp only [natBits, SOp.word]; omega
    have hd : natBits (SOp.jal d t).word 8 5 = d.toNat := by simp only [natBits, SOp.word]; omega
    have ht : natBits (SOp.jal d t).word 23 11 = t.toNat := by simp only [natBits, SOp.word]; omega
    rw [sDecode_jal op, ofNat_natBits hd, ofNat_natBits ht]
  | jr a =>
    have op : natBits (SOp.jr a).word 0 8 = 0x38 := by simp only [natBits, SOp.word]; omega
    have ha : natBits (SOp.jr a).word 13 5 = a.toNat := by simp only [natBits, SOp.word]; omega
    rw [sDecode_jr op, ofNat_natBits ha]
  | lp a e =>
    have op : natBits (SOp.lp a e).word 0 8 = 0x40 := by simp only [natBits, SOp.word]; omega
    have ha : natBits (SOp.lp a e).word 13 5 = a.toNat := by simp only [natBits, SOp.word]; omega
    have he : natBits (SOp.lp a e).word 34 11 = e.toNat := by simp only [natBits, SOp.word]; omega
    rw [sDecode_lp op, ofNat_natBits ha, ofNat_natBits he]
  | lpi n e =>
    have op : natBits (SOp.lpi n e).word 0 8 = 0x41 := by simp only [natBits, SOp.word]; omega
    have hn : natBits (SOp.lpi n e).word 18 16 = n.toNat := by simp only [natBits, SOp.word]; omega
    have he : natBits (SOp.lpi n e).word 34 11 = e.toNat := by simp only [natBits, SOp.word]; omega
    rw [sDecode_lpi op, ofNat_natBits hn, ofNat_natBits he]
  | lcnt d =>
    have op : natBits (SOp.lcnt d).word 0 8 = 0x42 := by simp only [natBits, SOp.word]; omega
    have hd : natBits (SOp.lcnt d).word 8 5 = d.toNat := by simp only [natBits, SOp.word]; omega
    rw [sDecode_lcnt op, ofNat_natBits hd]
  | rdcr d sel =>
    have op : natBits (SOp.rdcr d sel).word 0 8 = 0x50 := by simp only [natBits, SOp.word]; omega
    have hd : natBits (SOp.rdcr d sel).word 8 5 = d.toNat := by simp only [natBits, SOp.word]; omega
    have hsel : natBits (SOp.rdcr d sel).word 18 8 = sel.toNat := by simp only [natBits, SOp.word]; omega
    rw [sDecode_rdcr op, ofNat_natBits hd, ofNat_natBits hsel]
  | rdgtc d sel =>
    have op : natBits (SOp.rdgtc d sel).word 0 8 = 0x51 := by simp only [natBits, SOp.word]; omega
    have hd : natBits (SOp.rdgtc d sel).word 8 5 = d.toNat := by simp only [natBits, SOp.word]; omega
    have hsel : natBits (SOp.rdgtc d sel).word 18 8 = sel.toNat := by simp only [natBits, SOp.word]; omega
    rw [sDecode_rdgtc op, ofNat_natBits hd, ofNat_natBits hsel]
  | rdhw d sel =>
    have op : natBits (SOp.rdhw d sel).word 0 8 = 0x52 := by simp only [natBits, SOp.word]; omega
    have hd : natBits (SOp.rdhw d sel).word 8 5 = d.toNat := by simp only [natBits, SOp.word]; omega
    have hsel : natBits (SOp.rdhw d sel).word 18 8 = sel.toNat := by simp only [natBits, SOp.word]; omega
    rw [sDecode_rdhw op, ofNat_natBits hd, ofNat_natBits hsel]
  | evt sel =>
    have op : natBits (SOp.evt sel).word 0 8 = 0x53 := by simp only [natBits, SOp.word]; omega
    have hsel : natBits (SOp.evt sel).word 18 8 = sel.toNat := by simp only [natBits, SOp.word]; omega
    rw [sDecode_evt op, ofNat_natBits hsel]
  | bwait a =>
    have op : natBits (SOp.bwait a).word 0 8 = 0x54 := by simp only [natBits, SOp.word]; omega
    have ha : natBits (SOp.bwait a).word 13 5 = a.toNat := by simp only [natBits, SOp.word]; omega
    rw [sDecode_bwait op, ofNat_natBits ha]
  | bdone =>
    have op : natBits SOp.bdone.word 0 8 = 0x55 := by simp only [natBits, SOp.word]; omega
    rw [sDecode_bdone op]
  | stop =>
    have op : natBits SOp.stop.word 0 8 = 0x56 := by simp only [natBits, SOp.word]; omega
    rw [sDecode_stop op]

/-! ### Bundles (R124, R125) -/

/-- The operation of slot `k`, its word and its valid bit. -/
def slotAt (ops : List SlotOp) (k : Nat) : Option SlotOp := ops.find? fun o => o.slot == k

def slotWord (ops : List SlotOp) (k : Nat) : Nat := ((slotAt ops k).map SlotOp.word).getD 0

def slotBit (ops : List SlotOp) (k : Nat) : Nat := boolNat (slotAt ops k).isSome

theorem bundleWord_eq (ops : List SlotOp) (idle : BitVec 4) : bundleWord ops idle =
    slotBit ops 0 + 2 * slotBit ops 1 + 4 * slotBit ops 2 + 8 * slotBit ops 3 + 2 ^ 8 * idle.toNat + 2 ^ 16 * slotWord ops 0 +
      2 ^ 64 * slotWord ops 1 + 2 ^ 128 * slotWord ops 2 + 2 ^ 192 * slotWord ops 3 := by
  unfold bundleWord
  extract_lets at'
  have slots (k : Nat) : at' k = (slotBit ops k, slotWord ops k) := by
    simp only [at', slotBit, slotWord, slotAt]
    cases ops.find? fun o => o.slot == k <;> rfl
  simp only [slots]

/-- What the decoder of slot `k` reads in a slot's word. -/
def slotDecode (k w : Nat) : Option SlotOp :=
  match k with
  | 0 => (sDecode w).map SlotOp.s
  | 1 => vDecode w
  | 2 => tDecode w
  | _ => mDecode w

theorem slotDecode_S (w : Nat) : slotDecode 0 w = (sDecode w).map SlotOp.s := rfl

theorem slotDecode_V (w : Nat) : slotDecode 1 w = vDecode w := rfl

theorem slotDecode_T (w : Nat) : slotDecode 2 w = tDecode w := rfl

theorem slotDecode_M (w : Nat) : slotDecode 3 w = mDecode w := rfl

theorem slotDecode_word (o : SlotOp) : slotDecode o.slot o.word = some o := by
  cases o with
  | s x => rw [SlotOp.slot, SlotOp.word, slotDecode_S, sDecode_word]; rfl
  | v o f => rw [SlotOp.slot, SlotOp.word, slotDecode_V, vDecode_vWord]
  | t o f => rw [SlotOp.slot, SlotOp.word, slotDecode_T, tDecode_t]
  | q o f => rw [SlotOp.slot, SlotOp.word, slotDecode_T, tDecode_q]
  | m o f => rw [SlotOp.slot, SlotOp.word, slotDecode_M, mDecode_mWord]

theorem slotOp_word_lt (o : SlotOp) : o.word < 2 ^ 64 ∧ (o.slot = 0 → o.word < 2 ^ 48) := by
  cases o with
  | s x => exact ⟨(sWord_lt x).trans (by norm_num), fun _ => sWord_lt x⟩
  | v o f => exact ⟨vWord_lt o f, nofun⟩
  | t o f => exact ⟨tWord_lt (TOp.code_lt o) f, nofun⟩
  | q o f => exact ⟨tWord_lt (QOp.code_lt o) f, nofun⟩
  | m o f => exact ⟨mWord_lt o f, nofun⟩

theorem slotOp_slot_lt (o : SlotOp) : o.slot < 4 := by cases o <;> simp [SlotOp.slot]

section
variable {ops : List SlotOp} {k : Nat} {o : SlotOp}

theorem slotAt_slot (h : slotAt ops k = some o) : o.slot = k := by
  have found := List.find?_some h
  exact beq_iff_eq.1 found

theorem slotWord_lt (ops : List SlotOp) (k : Nat) : slotWord ops k < 2 ^ 64 ∧ slotWord ops 0 < 2 ^ 48 := by
  unfold slotWord
  refine ⟨?_, ?_⟩
  · cases slotAt ops k with
    | none => norm_num
    | some o => exact (slotOp_word_lt o).1
  · cases h : slotAt ops 0 with
    | none => norm_num
    | some o => exact (slotOp_word_lt o).2 (slotAt_slot h)

/-- Operations in slot order, none below slot `k`: the one of slot `k` comes first, and the others stand in later slots. -/
theorem slotsRise_split (ops : List SlotOp) (k : Nat) (rise : slotsRise ops = true) (low : ∀ o ∈ ops, k ≤ o.slot) :
    ∃ rest, ops = (slotAt ops k).toList ++ rest ∧ slotsRise rest = true ∧ (∀ o ∈ rest, k + 1 ≤ o.slot) ∧
      ∀ j, k < j → slotAt ops j = slotAt rest j := by
  cases ops with
  | nil => exact ⟨[], rfl, rfl, by simp, fun _ _ => rfl⟩
  | cons o rest =>
    obtain ⟨above, rise'⟩ := Bool.and_eq_true_iff.1 rise
    have above' : ∀ p ∈ rest, o.slot < p.slot := fun p hp => of_decide_eq_true (List.all_eq_true.1 above p hp)
    by_cases here : o.slot = k
    · refine ⟨rest, ?_, rise', fun p hp => here ▸ above' p hp, fun j hj => ?_⟩
      · simp [slotAt, here]
      · exact List.find?_cons_of_neg (by simp; omega)
    · have later : ∀ p ∈ o :: rest, k < p.slot := fun p hp => by
        have first := low o (List.mem_cons_self ..)
        rcases List.mem_cons.1 hp with rfl | hp
        · omega
        · have := above' p hp; omega
      refine ⟨o :: rest, ?_, rise, later, fun _ _ => rfl⟩
      have none : slotAt (o :: rest) k = none := List.find?_eq_none.2 fun p hp => by
        have := later p hp
        simp
        omega
      rw [none]
      rfl

/-- Operations in slot order are those of the four slots. -/
theorem slotsRise_ops (rise : slotsRise ops = true) :
    ops = (slotAt ops 0).toList ++ ((slotAt ops 1).toList ++ ((slotAt ops 2).toList ++ (slotAt ops 3).toList)) := by
  obtain ⟨r0, e0, rise0, low0, at0⟩ := slotsRise_split ops 0 rise fun _ _ => Nat.zero_le _
  obtain ⟨r1, e1, rise1, low1, at1⟩ := slotsRise_split r0 1 rise0 low0
  obtain ⟨r2, e2, rise2, low2, at2⟩ := slotsRise_split r1 2 rise1 low1
  obtain ⟨r3, e3, -, low3, -⟩ := slotsRise_split r2 3 rise2 low2
  have empty : r3 = [] := List.eq_nil_iff_forall_not_mem.2 fun o ho => absurd (slotOp_slot_lt o) (Nat.not_lt.2 (low3 o ho))
  rw [at0 1 (by norm_num), at0 2 (by norm_num), at0 3 (by norm_num), at1 2 (by norm_num), at1 3 (by norm_num), at2 3 (by norm_num)]
  rw [empty, List.append_nil] at e3
  rw [← e3, ← e2, ← e1, ← e0]

end

/-- The header and the slots of a bundle's word. -/
theorem bundleWord_header (ops : List SlotOp) (idle : BitVec 4) :
    (∀ k < 4, natBit (natBits (bundleWord ops idle) 0 16) k = (slotAt ops k).isSome) ∧
      natBits (natBits (bundleWord ops idle) 0 16) 4 4 = 0 ∧ natBits (natBits (bundleWord ops idle) 0 16) 12 4 = 0 ∧
      natBits (natBits (bundleWord ops idle) 0 16) 8 4 = idle.toNat := by
  have b0 : slotBit ops 0 < 2 := boolNat_lt _
  have b1 : slotBit ops 1 < 2 := boolNat_lt _
  have b2 : slotBit ops 2 < 2 := boolNat_lt _
  have b3 : slotBit ops 3 < 2 := boolNat_lt _
  rw [bundleWord_eq]
  refine ⟨fun k hk => natBit_of (?_ : _ = slotBit ops k), ?_, ?_, ?_⟩
  · interval_cases k <;> simp only [natBits] <;> omega
  all_goals
    simp only [natBits]
    omega

theorem bundleWord_slots (ops : List SlotOp) (idle : BitVec 4) :
    natBits (bundleWord ops idle) 16 48 = slotWord ops 0 ∧ natBits (bundleWord ops idle) 64 64 = slotWord ops 1 ∧
      natBits (bundleWord ops idle) 128 64 = slotWord ops 2 ∧ natBits (bundleWord ops idle) 192 64 = slotWord ops 3 := by
  have b0 : slotBit ops 0 < 2 := boolNat_lt _
  have b1 : slotBit ops 1 < 2 := boolNat_lt _
  have b2 : slotBit ops 2 < 2 := boolNat_lt _
  have b3 : slotBit ops 3 < 2 := boolNat_lt _
  have w0 := (slotWord_lt ops 0).2
  have w1 := (slotWord_lt ops 1).1
  have w2 := (slotWord_lt ops 2).1
  have w3 := (slotWord_lt ops 3).1
  rw [bundleWord_eq]
  simp only [natBits]
  omega

/-- The slots of a bundle's word that are valid, with their words. -/
def slotsOf (ops : List SlotOp) : List (Nat × Nat) := (upto 4).filterMap fun k => (slotAt ops k).map fun o => (k, o.word)

theorem mem_slotsOf {ops : List SlotOp} {p : Nat × Nat} (h : p ∈ slotsOf ops) :
    ∃ o, slotDecode p.1 p.2 = some o ∧ o.word = p.2 := by
  obtain ⟨k, -, hk⟩ := List.mem_filterMap.1 h
  obtain ⟨o, ho, rfl⟩ := Option.map_eq_some_iff.1 hk
  exact ⟨o, slotAt_slot ho ▸ slotDecode_word o, rfl⟩

theorem filterMap_cons_toList {α β : Type} (f : α → Option β) (a : α) (l : List α) :
    (a :: l).filterMap f = (f a).toList ++ l.filterMap f := by
  rw [List.filterMap_cons]
  cases f a <;> rfl

theorem slotsOf_ops {ops : List SlotOp} (rise : slotsRise ops = true) :
    (slotsOf ops).filterMap (fun p => slotDecode p.1 p.2) = ops := by
  have each : ∀ k, ((slotAt ops k).map fun o => (k, o.word)).bind (fun p => slotDecode p.1 p.2) = slotAt ops k := fun k => by
    cases h : slotAt ops k with
    | none => rfl
    | some o => exact slotAt_slot h ▸ slotDecode_word o
  have four : upto 4 = [0, 1, 2, 3] := rfl
  rw [slotsOf, List.filterMap_filterMap]
  simp only [each, four, filterMap_cons_toList, List.filterMap_nil, List.append_nil]
  exact (slotsRise_ops rise).symm

/-- Decoding a bundle's word gives its operations back. -/
theorem decodeBundle_bundleWord {ops : List SlotOp} {idle : BitVec 4} (rise : slotsRise ops = true)
    (legal : bundleBreach ops idle.toNat = none) : decodeBundle (bundleWord ops idle) = .inr (ops, idle.toNat) := by
  obtain ⟨bits, zero4, zero12, idle8⟩ := bundleWord_header ops idle
  obtain ⟨w0, w1, w2, w3⟩ := bundleWord_slots ops idle
  unfold decodeBundle
  extract_lets hdr raw valid dec slots ops' clean empty
  have hdec : dec = slotDecode := rfl
  have hvalid : ∀ k < 4, valid.getD k false = (slotAt ops k).isSome := by
    intro k hk
    rw [← bits k hk]
    interval_cases k <;> rfl
  have hraw : ∀ k < 4, raw.getD k 0 = slotWord ops k := by
    intro k hk
    simp only [raw, w0, w1, w2, w3]
    interval_cases k <;> rfl
  have hslots : slots = slotsOf ops := by
    refine List.filterMap_congr fun k hk => ?_
    have small := List.mem_range.1 hk
    rw [hvalid k small, hraw k small]
    unfold slotWord
    cases slotAt ops k <;> rfl
  have all_read : (slots.any fun p => (dec p.1 p.2).isNone) = false := by
    rw [hslots]
    refine List.any_eq_false.2 fun p hp => ?_
    obtain ⟨o, ho, -⟩ := mem_slotsOf hp
    simp [hdec, ho]
  have hops : ops' = ops := by
    simp only [ops', hdec, hslots, slotsOf_ops rise]
  have hclean : clean = true := by
    simp only [clean, hslots]
    refine List.all_eq_true.2 fun p hp => ?_
    obtain ⟨o, ho, hw⟩ := mem_slotsOf hp
    simp [hdec, ho, hw]
  have hempty : empty = true := by
    refine List.all_eq_true.2 fun k hk => ?_
    have small := List.mem_range.1 hk
    rw [hvalid k small, hraw k small]
    unfold slotWord
    cases slotAt ops k <;> rfl
  rw [all_read, hops, hclean, hempty, zero4, zero12, idle8, legal]
  rfl

/-- Settles O2: each field is read where it was written, each opcode names one operation, and each slot stands in its place. -/
theorem bundleEncodingRoundTrip : Obligations.BundleEncodingRoundTrip :=
  ⟨sDecode_word, vDecode_vWord, tDecode_t, tDecode_q, mDecode_mWord, fun _ _ rise legal => decodeBundle_bundleWord rise legal⟩

end Sys2Proof.Machine

/-! PROOF. The waits and signals of beats (R163, R165): a bundle that waits for the beat after the last one. -/

namespace Sys2Proof.Machine

/-! ### A beat wait that has nothing to wait for, with its core not drained -/

/-- A core whose row-bus link still holds a request of its own. -/
def linkedCore : CoreSt := { CoreSt.zero with running := true, progLen := 1, link := [(7, 5)] }

/-- That core, its stand in the last beat that a word can number: the beat after it is beat 0. -/
def lastBeat : State := { State.reset with regs := [(Reg.CLK_SITE_DIV 0 0, 12)], cores := [(0, linkedCore)], stands := [(16, { StandSt.zero with beat := 2 ^ 64 - 1 })] }

/-- A bundle of core 0 with nothing beside it. -/
def plainIssue : Iss := ⟨0, 0, true, .none, .calm⟩

theorem lastBeat_ready : Ready lastBeat plainIssue (.s (.bwait 0)) := by decide +kernel

theorem lastBeat_stalls : stallReasons (lastBeat.met plainIssue) 0 [.s (.bwait 0)] = [40] := by decide +kernel

/-- Refutes O8: `bwait s0` in beat 2^64 - 1 aims at beat 0, which has been reached, and the model still counts it among the
bundles that signal: with the core not drained and beat done not yet signalled it stalls, and its sequence does not go on. -/
theorem not_controlReadsAndBeats : ¬ Obligations.ControlReadsAndBeats := by
  intro h
  obtain ⟨-, -, beats⟩ := h
  obtain ⟨-, -, -, waits⟩ := beats lastBeat plainIssue
  have core : lastBeat.core 0 = linkedCore := rfl
  obtain ⟨t, ht, issued⟩ := (waits 0 lastBeat_ready).1 (by decide +kernel)
  have tried := lastBeat_ready.tried
  have early : 0x15 ∉ issueErrors (lastBeat.met plainIssue) 0 [.s (.bwait 0)] :=
    not_early ((earlyAccess_met lastBeat plainIssue _).trans (early_none _ plainIssue _ lastBeat_ready))
  have stall : exec (.bwait plainIssue 0) lastBeat =
      .next (issueStall (lastBeat.met plainIssue) plainIssue [.s (.bwait 0)] [40]) := by
    refine (tried.issueOps_eq rfl).trans (congrArg _ ?_)
    refine (tried.stalls rfl (by rw [show plainIssue.g = 0 from rfl, lastBeat_stalls]; simp) early).trans ?_
    rw [show plainIssue.g = 0 from rfl, lastBeat_stalls]
  obtain ⟨-, w, a, l, nm, pt, left⟩ := issueStall_spec (lastBeat.met plainIssue) plainIssue [.s (.bwait 0)] [40]
  have same : t = issueStall (lastBeat.met plainIssue) plainIssue [.s (.bwait 0)] [40] :=
    Host.Outcome.next.inj (ht.symm.trans stall)
  have moved := (OneOn.sequence (c := linkedCore) issued.2.1).1
  have stays : (t.core 0).pc = 0 := by
    rw [same, show (0 : Nat) = plainIssue.g from rfl, left, settle_fields, (met_spec lastBeat plainIssue).2]
    rfl
  have one : (advance linkedCore (some (.bwait 0))).pc = 1 := by decide
  exact absurd (stays.symm.trans (moved.trans one)) (by decide)

end Sys2Proof.Machine

/-! PROOF. The tensor instructions (R180 to R189). -/

namespace Sys2Proof.Machine

/-! ### The issue of a tensor operation -/

/-- A ready tensor operation stalls only for the stream buffer and the array. -/
theorem stall_t {s : State} {e : Iss} {o : TOp} {f : TF} (h : Ready s e (.t o f)) (stream : streamHeld (s.core e.g) (.t o f) = false)
    (array : o = .tmac ∨ o = .tmacz → (s.core e.g).arrayFree ≤ (s.core e.g).cycle ∧ ∀ x ∈ (s.core e.g).simQueue, x.op ≠ .msim) :
    stallReasons s e.g [.t o f] = [] := by
  obtain ⟨-, -, -, -, -, -, -, -, -, awake, -, free, -⟩ := h
  have sb : ((s.core e.g).sb.any fun x => ([SlotOp.t o f].flatMap fun o => o.reads ++ o.dests).any fun d => d == x.dest) = false := by
    refine List.any_eq_false.2 fun x hx held => ?_
    obtain ⟨d, hd, he⟩ := List.any_eq_true.1 held
    exact free x hx (by simpa [← beq_iff_eq.1 he] using hd)
  have msim : o = .tmac ∨ o = .tmacz → ((s.core e.g).simQueue.any fun x => x.op == .msim) = false := fun ho =>
    List.any_eq_false.2 fun x hx => by simpa using (array ho).2 x hx
  unfold stallReasons
  dsimp only
  rw [sb, awake]
  cases o
  case tmac | tmacz =>
    have free := (array (by simp)).1
    have queue := msim (by simp)
    simp [sbNeed, tagMask, niNeed, niWaits, waitHeld, natBit, upto, SlotOp.slot, usesPath, signals, stream, free, queue]
  all_goals simp [sbNeed, tagMask, niNeed, niWaits, waitHeld, natBit, upto, SlotOp.slot, usesPath, signals, stream]

section
variable {s : State} {e : Iss} {i : Instr} {o : TOp} {f : TF}

/-- A ready tensor operation that neither waits nor meets an error issues with its effect on the core. -/
theorem tOp_issues {c : CoreSt} {ws ps : List Pend} (h : Ready s e (.t o f)) (hi : exec i s = issueOps s e [.t o f])
    (stream : streamHeld (s.core e.g) (.t o f) = false)
    (array : o = .tmac ∨ o = .tmacz → (s.core e.g).arrayFree ≤ (s.core e.g).cycle ∧ ∀ x ∈ (s.core e.g).simQueue, x.op ≠ .msim)
    (errors : ∀ l, opErrors (s.met e) e.g { s.core e.g with link := l } (.t o f) = [])
    (core : ∀ l, tApply ((s.core e.g).issuing l) o f = c.left ps l)
    (pc : c.pc = (s.core e.g).pc) (loops : c.loops = (s.core e.g).loops) (delay : c.delay = (s.core e.g).delay)
    (regs : c.s = (s.core e.g).s) (hj : Joins c ws ps) : Issues s i e (.t o f) c ws := by
  have met := (met_spec s e).2
  refine h.issues (f := fun c => tApply c o f) hi (stall_t h.met ?_ ?_) ?_ (fun _ => rfl) core pc loops delay regs hj
  · rw [met]
    refine Eq.trans ?_ stream
    cases o <;> rfl
  · rw [met]; exact array
  · rw [met]; exact errors _

end

theorem opErrors_load {t : State} {g : Nat} {c : CoreSt} {o : TOp} {f : TF} (ho : o ≠ .tmac ∧ o ≠ .tmacz)
    (h : streamFault c (.t o f) = false) : opErrors t g c (.t o f) = [] := by
  obtain ⟨h1, h2⟩ := ho
  unfold opErrors
  rw [h]
  cases o
  case tmac => exact absurd rfl h1
  case tmacz => exact absurd rfl h2
  all_goals rfl

theorem streamHeld_load {c : CoreSt} {o : TOp} {f : TF} (ho : o ≠ .tmac ∧ o ≠ .tmacz ∧ o ≠ .tldb) : streamHeld c (.t o f) = false := by
  obtain ⟨h1, h2, h3⟩ := ho
  cases o
  case tmac => exact absurd rfl h1
  case tmacz => exact absurd rfl h2
  case tldb => exact absurd rfl h3
  all_goals rfl

/-- A load's operand that keeps its rules (R181, R182). -/
theorem streamFault_of {c : CoreSt} {o : TOp} {f : TF}
    (h : o = .tlda ∧ (c.sr f.s).toNat % 64 = 0 ∧ (c.sr f.s).toNat + 2048 ≤ 2 ^ 18 ∨
      o = .tldsc ∧ (c.sr f.s).toNat % 64 = 0 ∧ (c.sr f.s).toNat + 128 ≤ 2 ^ 18 ∨
      o = .tldb ∧ (c.sr f.s).toNat % 64 = 0 ∧ (c.sr f.s).toNat + 128 * (f.imm6.toNat + 1) ≤ 2 ^ 18) : streamFault c (.t o f) = false := by
  rcases h with ⟨rfl, align, room⟩ | ⟨rfl, align, room⟩ | ⟨rfl, align, room⟩
  all_goals
    unfold streamFault
    dsimp only
    rw [Bool.or_eq_false_iff]
    refine ⟨by simp [align], decide_eq_false ?_⟩
    unfold dmBytes
    omega

/-! ### Copies and the B stream -/

theorem startCopy_eq (c : CoreSt) (scale : Bool) (buf : BitVec 1) (src : Nat) : startCopy c scale buf src =
    { c with acopies := (c.acopies.map fun q => { q with later := q.later || q.buf == buf }) ++
      [⟨buf, scale, src, List.range (if scale then 2 else 32), c.cycle, false⟩] } := by
  unfold startCopy
  congr 2
  refine List.map_congr_left fun q _ => ?_
  cases h : q.buf == buf <;> simp

section
variable {s : State} {e : Iss} {f : TF}

/-- A copy into an operand buffer begins (R181). -/
theorem copy_issues {i : Instr} {o : TOp} {scale : Bool} (h : Ready s e (.t o f)) (hi : exec i s = issueOps s e [.t o f])
    (ho : o ≠ .tmac ∧ o ≠ .tmacz ∧ o ≠ .tldb) (apply : ∀ c, tApply c o f = startCopy c scale (f.imm5.setWidth 1) (c.sr f.s).toNat)
    (fault : ∀ l, streamFault { s.core e.g with link := l } (.t o f) = false) :
    Issues s i e (.t o f) { s.core e.g with
      acopies := ((s.core e.g).acopies.map fun q => { q with later := q.later || q.buf == f.imm5.setWidth 1 }) ++
        [⟨f.imm5.setWidth 1, scale, ((s.core e.g).sr f.s).toNat, List.range (if scale then 2 else 32), (s.core e.g).cycle, false⟩] } [] := by
  obtain ⟨tmac, tmacz, tldb⟩ := ho
  refine tOp_issues h hi (streamHeld_load ⟨tmac, tmacz, tldb⟩) (fun ha => ?_) (fun l => opErrors_load ⟨tmac, tmacz⟩ (fault l))
    (fun l => ?_) rfl rfl rfl rfl (.nil h.ordered)
  · rcases ha with ha | ha
    · exact absurd ha tmac
    · exact absurd ha tmacz
  · rw [apply, startCopy_eq]
    rfl

end

/-! ### The units beside the pipeline (R183, R187) -/

theorem take_drop_middle {α : Type} (pre : List α) (x : α) (post : List α) :
    (pre ++ x :: post).take pre.length = pre ∧ (pre ++ x :: post).drop pre.length = x :: post := by simp

theorem natPut_lt {n lo w v m : Nat} (hn : n < 2 ^ m) (h : lo + w ≤ m) : natPut n lo w v < 2 ^ m := by
  refine Nat.lt_pow_two_of_testBit _ fun i hi => ?_
  rw [natPut_testBit, if_neg (by omega)]
  exact Nat.testBit_lt_two_pow (hn.trans_le (Nat.pow_le_pow_right (by norm_num) hi))

/-- The line of a copy goes to its place in the operand buffer, and to no other. -/
theorem natBits_bufferLine {w : Nat} (old : BitVec w) {v l : Nat} (hv : v < 2 ^ 512) (hl : 512 * l + 512 ≤ w) :
    natBits (BitVec.ofNat w (natPut old.toNat (512 * l) 512 v)).toNat (512 * l) 512 = v ∧
      ∀ k, k ≠ l → natBits (BitVec.ofNat w (natPut old.toNat (512 * l) 512 v)).toNat (512 * k) 512 =
        natBits old.toNat (512 * k) 512 := by
  rw [BitVec.toNat_ofNat, Nat.mod_eq_of_lt (natPut_lt old.isLt hl)]
  refine ⟨by rw [natBits_natPut_same, Nat.mod_eq_of_lt hv], fun k hk => ?_⟩
  rw [natBits_natPut_ne]
  omega

theorem rd_line_lt (s : State) (a : Nat) : s.rd a 64 < 2 ^ 512 := (memRead_lt s.mem a 64).trans_eq (by rw [show (256 : Nat) = 2 ^ 8 from rfl, ← pow_mul])

section
variable {s : State} {g now l : Nat} {pre post : List ACopy} {q : ACopy}

/-- The state after the stream port has read line `l` of a copy into its buffer. -/
theorem copyRead_eq (hc : (s.core g).acopies = pre ++ q :: post) (hl : l ∈ q.late)
    (first : ∀ x ∈ pre, x.buf = q.buf → x.scale ≠ q.scale)
    (free : (s.core g).arrayFree ≤ now ∨ (s.core g).arrayBuf ≠ q.buf.toNat) :
    let late := q.late.filter fun x => decide (x ≠ l)
    let c1 := { s.core g with acopies := pre ++ (if late = [] then [] else [{ q with late := late }]) ++ post }
    let v := s.rd (dmAddr g (q.src + 64 * l)) 64
    let scales := BitVec.ofNat 1024 (natPut (sget 0 (s.core g).ascale q.buf.toNat).toNat (512 * l) 512 v)
    let elems := BitVec.ofNat 16384 (natPut (sget 0 (s.core g).abuf q.buf.toNat).toNat (512 * l) 512 v)
    nearDo s g now (.copy pre.length l) = s.setCore g (if q.scale
      then { c1 with ascale := sset 0 (s.core g).ascale q.buf.toNat scales }
      else { c1 with abuf := sset 0 (s.core g).abuf q.buf.toNat elems }) := by
  intro late c1 v scales elems
  obtain ⟨take, drop⟩ := take_drop_middle pre q post
  have may : copyMayRead (s.core g) now pre q = true := by
    have clear : (pre.any fun x => x.buf == q.buf && x.scale == q.scale) = false :=
      List.any_eq_false.2 fun x hx => by simpa using first x hx
    unfold copyMayRead
    rw [clear]
    simpa using free
  change copyRead s g now pre.length l = _
  unfold copyRead
  dsimp only
  rw [hc, take, drop]
  dsimp only
  rw [may, List.contains_eq_mem, decide_eq_true hl]
  rfl

end

/-- Filling the first line that is not yet read, after chunks wholly in the stream buffer. -/
theorem bFill_ready (read : Nat → BitVec 512) {pre post : List BChunk} {x : BChunk} (ready : ∀ y ∈ pre, y.ready = true) :
    bFill read (pre ++ x :: post) = pre ++ bFill read (x :: post) := by
  induction pre with
  | nil => rfl
  | cons y pre ih =>
    have full := ready y (List.mem_cons_self ..)
    unfold BChunk.ready at full
    obtain ⟨lo, hi⟩ := Bool.and_eq_true_iff.1 full
    rw [List.cons_append, bFill, if_neg (by simp [Option.isSome_iff_ne_none.1 lo]), if_neg (by simp [Option.isSome_iff_ne_none.1 hi]),
      ih fun z hz => ready z (List.mem_cons_of_mem _ hz), List.cons_append]

/-- The stream port alone, in one cycle in which the M slot takes no bank or the bank `b`. -/
theorem nearAll_port {s : State} {g now : Nat} {x : Near} (port : nearPort (s.core g) x = 1) (finds : portFinds s g now x = true)
    (turn : portTurn s g now (portReader (s.core g) x) = true) :
    (nearAll s g now 1 none [x] = (nearDo s g now x).setCore g
      { (nearDo s g now x).core g with turn := (portReader (s.core g) x + 1) % 5 }) ∧
    ∀ b, nearBank (s.core g) x = some b → nearAll s g now 1 (some b) [x] = s := by
  have served : ([x].find? fun y => portFinds s g now y && portTurn s g now (portReader (s.core g) y)) = some x := by
    simp [finds, turn]
  have one (bank : Option Nat) : nearAll s g now 1 bank [x] = (portCycle s g now bank [x] []).1 := by
    unfold nearAll
    simp [port, portCycles]
  refine ⟨?_, fun b hb => ?_⟩
  · rw [one]
    unfold portCycle
    simp only [served]
    rw [if_neg (by cases nearBank (s.core g) x <;> simp)]
  · rw [one]
    unfold portCycle
    simp only [served]
    rw [if_pos (by simp [hb])]

/-- The same bundle with nothing beside the pipeline. -/
def unaccompanied (e : Iss) : Iss := { e with env := { e.env with near := [] } }

theorem droop_quiet (s : State) (e : Iss) : s.droop e.g (unaccompanied e).env = s.droop e.g e.env := by
  unfold State.droop
  rfl

theorem cross_quiet (s : State) (e : Iss) : s.cross e.g (unaccompanied e).env = s.cross e.g e.env := by
  unfold State.cross
  rfl

theorem met_quiet (s : State) (e : Iss) : s.met (unaccompanied e) = s.met e := by
  change (s.droop e.g (unaccompanied e).env).cross e.g (unaccompanied e).env = _
  rw [droop_quiet, cross_quiet]

/-- An issue depends on the core and the idle count of its command. -/
theorem issueGo_congr (s : State) {e e' : Iss} (ops : List SlotOp) (unit : e.g = e'.g) (idle : e.idle = e'.idle) :
    issueGo s e ops = issueGo s e' ops := by
  unfold issueGo
  rw [unit, idle]

/-- The accesses of the units beside the pipeline come after an empty bundle. -/
theorem emptyBundle_near {s : State} {e : Iss} (unit : e.g < 12288) (clean : e.det = .none)
    (clock : s.clockStopped e.g = false) (running : (s.core e.g).running = true) (going : (s.core e.g).halted = false)
    (awake : s.inBwait e.g = false) (inside : (s.core e.g).pc < (s.core e.g).progLen) :
    ∃ t, exec (.emptyBundle { e with env := { e.env with near := [] } }) s = .next t ∧
      exec (.emptyBundle e) s = .next (nearAll t e.g (s.core e.g).cycle (1 + e.idle.toNat) none e.env.near) := by
  have met := (met_spec (s.cleared e) e).2
  rw [State.core_cleared] at met
  have tried := tried_empty unit clean clock running going awake
  have awake' : ((s.cleared e).met e).inBwait e.g = false := (inBwait_met _ _).trans tried.awake
  have errors : issueErrors ((s.cleared e).met e) e.g [] = [] := by
    rw [issueErrors_empty, met]
    exact if_neg fun past => absurd inside (Nat.not_lt.2 past.1)
  refine ⟨issueGo ((s.cleared e).met e) { e with last := true } [], ?_, ?_⟩
  · have alone := tried_empty (e := (unaccompanied e)) unit clean clock running going awake
    have same : (s.cleared (unaccompanied e)).met (unaccompanied e) = (s.cleared e).met e := met_quiet (s.cleared e) e
    have still : ((s.cleared (unaccompanied e)).met (unaccompanied e)).inBwait e.g = false := by rw [same]; exact awake'
    have none : issueErrors ((s.cleared (unaccompanied e)).met (unaccompanied e)) e.g [] = [] := by rw [same]; exact errors
    have issued := alone.issues rfl (stallReasons_empty still) none
    refine (exec_emptyBundle alone).trans (congrArg _ (issued.trans ?_))
    exact (congrArg (issueGo · _ []) same).trans (issueGo_congr _ [] rfl rfl)
  · have cycle : (((s.cleared e).met e).core e.g).cycle = (s.core e.g).cycle := by rw [met]
    rw [exec_emptyBundle tried, ← cycle]
    exact congrArg _ (tried.issues_near (stallReasons_empty awake') errors)

/-- Settles O14: a load begins its copy or its stream, and a unit's access serves one line of it. -/
theorem bufferCopiesAndStreams : Obligations.BufferCopiesAndStreams := by
  refine ⟨fun s e f => ⟨fun h align room => ?_, fun h align room => ?_, fun h align room whole => ?_⟩,
    fun s e unit clean clock running going _ awake inside => emptyBundle_near unit clean clock running going awake inside,
    fun s g now => ⟨?copy, ?stream, fun x port finds turn => nearAll_port port finds turn⟩⟩
  · exact copy_issues (o := .tlda) (scale := false) h rfl ⟨nofun, nofun, nofun⟩ (fun _ => rfl) fun _ => streamFault_of (.inl ⟨rfl, align, room⟩)
  · exact copy_issues (o := .tldsc) (scale := true) h rfl ⟨nofun, nofun, nofun⟩ (fun _ => rfl) fun _ => streamFault_of (.inr (.inl ⟨rfl, align, room⟩))
  · have held : streamHeld (s.core e.g) (.t .tldb f) = false := List.any_eq_false.2 fun x hx => by simp [whole x hx]
    exact tOp_issues (o := .tldb) h rfl held (fun ha => by rcases ha with ha | ha <;> cases ha)
      (fun _ => opErrors_load ⟨nofun, nofun⟩ (streamFault_of (.inr (.inr ⟨rfl, align, room⟩)))) (fun _ => rfl) rfl rfl rfl rfl (.nil h.ordered)
  case copy =>
    intro pre q post l hc hl inside first free t late bits
    have read := copyRead_eq hc hl first free
    refine ⟨by simp only [t]; rw [read]; exact OnlyCore.setCore s g _, ?_, ?_⟩
    · simp only [t]
      rw [read, State.core_setCore_same]
      split <;> rfl
    · simp only [t, bits]
      rw [read, State.core_setCore_same]
      split at inside
      next scale =>
        have line := natBits_bufferLine (sget 0 (s.core g).ascale q.buf.toNat) (rd_line_lt s (dmAddr g (q.src + 64 * l))) (l := l) (by omega)
        simp only [scale, if_true, sget_sset_same]
        exact ⟨line.1, fun k _ hk => line.2 k hk⟩
      next elems =>
        have line := natBits_bufferLine (sget 0 (s.core g).abuf q.buf.toNat) (rd_line_lt s (dmAddr g (q.src + 64 * l))) (l := l) (by omega)
        simp only [elems, Bool.false_eq_true, if_false, sget_sset_same]
        exact ⟨line.1, fun k _ hk => line.2 k hk⟩
  case stream =>
    intro pre x post hc ready room with'
    have read : nearDo s g now .stream = s.setCore g { s.core g with
        bstream := pre ++ bFill (fun a => BitVec.ofNat 512 (s.rd (dmAddr g a) 64)) (x :: post) } := by
      change streamRead s g = _
      unfold streamRead bLines
      rw [if_neg (Nat.not_le.2 room), hc, bFill_ready _ ready]
    refine ⟨fun lo => ?_, fun lo hi => ?_⟩
    · simp only [with']
      rw [read, bFill, if_pos (by simp [lo])]
    · simp only [with']
      rw [read, bFill, if_neg (by simpa using lo), if_pos (by simp [hi])]

end Sys2Proof.Machine

/-! PROOF. tmac and tmacz (R113 to R115, R181, R184 to R187). -/

namespace Sys2Proof.Machine

/-! ### One element -/

theorem macElem_lt (ta tb imm6 abuf asc b csc old i j : Nat) : macElem ta tb imm6 abuf asc b csc old i j < 2 ^ 32 := by
  unfold macElem
  extract_lets d k0 wa wb p prods p0 q
  split
  · exact wrapN_lt _ _
  · exact fmtF32_fits.fenc_lt _

/-- The integer product sum of an element, wrapped onto its old value (R113). -/
theorem macElem_int {ty imm6 abuf asc b csc old i j : Nat} (h : ty ≤ 1) :
    BitVec.ofNat 32 (macElem ty ty imm6 abuf asc b csc old i j) = BitVec.ofNat 32 old + BitVec.ofInt 32
      ((List.range (tDepth ty)).map fun r => sInt (tyWidth ty) (aElem abuf (tyWidth ty) i (tDepth ty * imm6 + r)) *
        sInt (tyWidth ty) (bElem b (tyWidth ty) r j)).sum := by
  unfold macElem
  dsimp only
  rw [if_pos h, wrapN_eq_ofInt, BitVec.ofNat_toNat, BitVec.setWidth_eq, BitVec.ofInt_add, BitVec.ofInt_natCast]
  rfl

theorem natBits_packBits_lanes {n : Nat} {g : Nat → Nat} (hg : ∀ k, g k < 2 ^ 32) {k : Nat} (hk : k < n) (hn : 32 * n ≤ 65536) :
    natBits (BitVec.ofNat 65536 (packBits 32 ((upto n).map g))).toNat (32 * k) 32 = g k := by
  have len : ((upto n).map g).length = n := by simp [upto]
  have small : packBits 32 ((upto n).map g) < 2 ^ 65536 := by
    refine (packBits_lt _ _).trans_le (Nat.pow_le_pow_right (by norm_num) ?_)
    rw [len]; exact hn
  rw [BitVec.toNat_ofNat, Nat.mod_eq_of_lt small, natBits_packBits (by rw [len]; exact hk)]
  simp only [upto, List.getElem_map, List.getElem_range]
  exact Nat.mod_eq_of_lt (hg k)

/-- The accumulator after a tmac, element by element (R186). -/
theorem natBits_macAll (ta tb imm6 : Nat) (zero : Bool) (abuf asc b csc acc : Nat) {row col : Nat} (hr : row < 32) (hc : col < 64) :
    natBits (macAll ta tb imm6 zero abuf asc b csc acc).toNat (32 * (64 * row + col)) 32 =
      macElem ta tb imm6 abuf asc b csc (if zero then 0 else natBits acc (32 * (64 * row + col)) 32) row col := by
  have hrow : (64 * row + col) / 64 = row := by omega
  have hcol : (64 * row + col) % 64 = col := by omega
  unfold macAll
  rw [natBits_packBits_lanes (fun _ => macElem_lt ..) (by omega) (by norm_num)]
  simp only [hrow, hcol]

theorem takeChunk_cons {c : CoreSt} {a : Nat} {lo hi : BitVec 512} {bs : List BChunk} (h : c.bstream = ⟨a, some lo, some hi⟩ :: bs) :
    takeChunk c = (lo.toNat + hi.toNat * 2 ^ 512, { c with bstream := bs }) := by
  unfold takeChunk
  rw [h]
  rfl

/-! ### The issue -/

/-- A multiplication finds its operands where no copy into its buffer is pending and its chunk is wholly in the stream buffer. -/
theorem streamHeld_mac {c : CoreSt} {o : TOp} {f : TF} (ho : o = .tmac ∨ o = .tmacz)
    (loaded : ∀ q ∈ c.acopies, q.buf.toNat ≠ f.imm5.toNat % 2)
    (chunk : f.imm5.getLsbD 1 = true → ∃ x rest, c.bstream = x :: rest ∧ x.ready = true) : streamHeld c (.t o f) = false := by
  have copies : (c.acopies.any fun q => decide (q.buf.toNat = f.imm5.toNat % 2)) = false :=
    List.any_eq_false.2 fun q hq => by simpa using loaded q hq
  rcases ho with rfl | rfl
  all_goals
    unfold streamHeld
    dsimp only
    rw [copies]
    cases hb : f.imm5.getLsbD 1 with
    | false => rfl
    | true =>
      obtain ⟨x, rest, hx, ready⟩ := chunk hb
      simp [hx, ready]

theorem opErrors_mac {t : State} {g : Nat} {c : CoreSt} {o : TOp} {f : TF} (ho : o = .tmac ∨ o = .tmacz)
    (chunk : f.imm5.getLsbD 1 = true → c.bstream ≠ []) : opErrors t g c (.t o f) = [] := by
  have filled : ¬(f.imm5.getLsbD 1 = true ∧ c.bstream = []) := fun h => chunk h.1 h.2
  rcases ho with rfl | rfl
  all_goals
    unfold opErrors
    dsimp only
    rw [if_neg filled]
    rfl

section
variable {s : State} {e : Iss} {i : Instr} {o : TOp} {f : TF} {zero : Bool}

/-- A multiplication whose buffer is loaded, whose array is free and whose operand stands ready. -/
theorem mac_does {b : Nat} {bs : List BChunk} (ho : o = .tmac ∧ zero = false ∨ o = .tmacz ∧ zero = true) (h : Ready s e (.t o f))
    (hi : exec i s = issueOps s e [.t o f]) (array : (s.core e.g).arrayFree ≤ (s.core e.g).cycle)
    (queue : ∀ x ∈ (s.core e.g).simQueue, x.op ≠ .msim) (loaded : ∀ q ∈ (s.core e.g).acopies, q.buf.toNat ≠ f.imm5.toNat % 2)
    (chunk : f.imm5.getLsbD 1 = true → ∃ x rest, (s.core e.g).bstream = x :: rest ∧ x.ready = true)
    (operand : ∀ l, (if f.imm5.getLsbD 1 then takeChunk ((s.core e.g).issuing l)
      else (((s.core e.g).vr f.a).toNat + ((s.core e.g).vr f.b).toNat * 2 ^ 512, (s.core e.g).issuing l)) =
        (b, { (s.core e.g).issuing l with bstream := bs })) : MacDoes s i e o f zero b bs := by
  set c := s.core e.g with hcore
  set buf := f.imm5.toNat % 2 with hbuf
  obtain ⟨r, hr⟩ : ∃ r, r = macAll f.ta.toNat f.tb.toNat f.imm6.toNat zero (sget 0 c.abuf buf).toNat (sget 0 c.ascale buf).toNat b
    (c.vr f.c).toNat (sget 0 c.acc f.acc.toNat).toNat := ⟨_, rfl⟩
  refine ⟨r, fun row hrow col hcol => hr ▸ natBits_macAll _ _ _ _ _ _ _ _ _ hrow hcol, ?_⟩
  have tensor : o = .tmac ∨ o = .tmacz := ho.imp And.left And.left
  refine tOp_issues h hi (streamHeld_mac tensor loaded chunk) (fun _ => ⟨array, queue⟩)
    (fun l => opErrors_mac tensor fun hb => ?_) (ps := pendInsert ⟨c.cycle + 6, .acc f.acc, r⟩ c.pend) (fun l => ?_) rfl rfl rfl rfl
    (.one h.ordered _)
  · obtain ⟨x, rest, hx, -⟩ := chunk hb
    exact fun none => by cases hx.symm.trans none
  · have apply : tApply (c.issuing l) o f = tmacApply (c.issuing l) zero f := by
      rcases ho with ⟨rfl, rfl⟩ | ⟨rfl, rfl⟩ <;> rfl
    have taken : (if f.imm5.getLsbD 1 then takeChunk (c.issuing l)
        else (((c.issuing l).vr f.a).toNat + ((c.issuing l).vr f.b).toNat * 2 ^ 512, c.issuing l)) =
        (b, { c.issuing l with bstream := bs }) := operand l
    rw [apply]
    unfold tmacApply
    dsimp only
    rw [taken]
    change { CoreSt.push { c.issuing l with bstream := bs } 6 (.acc f.acc) (macAll f.ta.toNat f.tb.toNat f.imm6.toNat zero
      (sget 0 c.abuf buf).toNat (sget 0 c.ascale buf).toNat b (c.vr f.c).toNat (sget 0 c.acc f.acc.toNat).toNat) with
        acc := sset 0 c.acc f.acc.toNat (macAll f.ta.toNat f.tb.toNat f.imm6.toNat zero
          (sget 0 c.abuf buf).toNat (sget 0 c.ascale buf).toNat b (c.vr f.c).toNat (sget 0 c.acc f.acc.toNat).toNat),
        arrayFree := c.cycle + tArray f.ta.toNat, arrayBuf := buf } = _
    rw [← hr]
    rfl

end

/-- Settles O15: an element adds the exact products of its group, and the multiplication takes its operand from registers or
from the next chunk of the stream. -/
theorem tensorMultiply : Obligations.TensorMultiply := by
  constructor
  · intro s e f c b does
    have both {i : Instr} {o : TOp} {zero : Bool} (ho : o = .tmac ∧ zero = false ∨ o = .tmacz ∧ zero = true)
        (hi : exec i s = issueOps s e [.t o f]) : does i o zero := by
      intro h array queue loaded
      refine ⟨fun registers => ?_, fun stream a lo hi' bs chunk => ?_⟩
      · refine mac_does ho h hi array queue loaded (fun hb => absurd (registers.symm.trans hb) nofun) fun l => ?_
        rw [registers]
        rfl
      · refine mac_does ho h hi array queue loaded (fun _ => ⟨_, bs, chunk, rfl⟩) fun l => ?_
        rw [if_pos stream]
        exact takeChunk_cons (c := c.issuing l) chunk
    exact ⟨both (.inl ⟨rfl, rfl⟩) rfl, both (.inr ⟨rfl, rfl⟩) rfl⟩
  · intro k x y b csc old row col _ _ a int
    have int8 (v : Nat) : sInt 8 v = int 8 v := sInt_eq_toInt (by norm_num) v
    have int4 (v : Nat) : sInt 4 v = int 4 v := sInt_eq_toInt (by norm_num) v
    refine ⟨?_, ?_, ?_⟩
    · rw [macElem_int (by norm_num), ← int8, ← int8, ← int8, ← int8]
      simp [List.range_succ, tDepth, tyWidth, aElem, bElem, a]
    · simp only [← int4]
      rw [macElem_int (by norm_num)]
      simp [tDepth, tyWidth, aElem, bElem, a]
    · unfold macElem
      simp [tDepth, tyWidth, aElem, bElem, a, upto, sumFV, elemVal]

end Sys2Proof.Machine

/-! PROOF. tmov and tclr (R103, R188, R189). -/

namespace Sys2Proof.Machine

/-! ### tmov -/

/-- What readiness says of a tensor operation's fields (R144). -/
theorem Ready.tValueOk {s : State} {e : Iss} {o : TOp} {f : TF} (h : Ready s e (.t o f)) : tValueOk o f = true := by
  have legal := h.legal
  by_contra bad
  cases hu : tUnused o f <;> simp [bundleBreach, SlotOp.breach, hu, bad] at legal

/-- The pairs of types that tmov accepts, and the parts of each. -/
theorem tmovParts_cases {ta tb : BitVec 4} {p : Nat} (h : p < tmovParts ta tb) : p < 4 ∧
    (ta = 3 ∧ (tb = 1 ∨ tb = 2 ∨ tb = 3) ∨ ta = 7 ∧ (tb = 1 ∨ tb = 4 ∨ tb = 5 ∨ tb = 2 ∨ tb = 6 ∨ tb = 7)) := by
  have pairs : ∀ ta tb : BitVec 4, 0 < tmovParts ta tb → tmovParts ta tb ≤ 4 ∧
      (ta = 3 ∧ (tb = 1 ∨ tb = 2 ∨ tb = 3) ∨ ta = 7 ∧ (tb = 1 ∨ tb = 4 ∨ tb = 5 ∨ tb = 2 ∨ tb = 6 ∨ tb = 7)) := by decide
  obtain ⟨le, cases⟩ := pairs ta tb (by omega)
  exact ⟨by omega, cases⟩

theorem fenc_bf16_lt (v : FV) : fenc fmtBf16 v < 2 ^ 16 := fmtBf16_fits.fenc_lt v

theorem fenc_f32_lt (v : FV) : fenc fmtF32 v < 2 ^ 32 := fmtF32_fits.fenc_lt v

theorem fToFp8_e4m3_lt (v : FV) : fToFp8 fmtE4M3 v < 2 ^ 8 := fToFp8_lt fmtE4M3_fits v

theorem fToFp8_e5m2_lt (v : FV) : fToFp8 fmtE5M2 v < 2 ^ 8 := fToFp8_lt fmtE5M2_fits v

/-- An element moved out fits its type. -/
theorem tmovElem_lt {ta tb : BitVec 4} {p : Nat} (h : p < tmovParts ta tb) (x ss : Nat) :
    tmovElem ta.toNat tb.toNat x ss < 2 ^ laneWidth tb.toNat := by
  unfold tmovElem
  extract_lets e v
  split
  · rw [satN_eq]; exact BitVec.isLt _
  next float =>
    rcases (tmovParts_cases h).2 with ⟨rfl, -⟩ | ⟨-, tb1 | tb4 | tb5 | tb2 | tb6 | tb7⟩
    · exact absurd rfl float
    · rw [tb1]; exact fToInt_lt 8 v
    · rw [tb4]; exact fToFp8_e4m3_lt v
    · rw [tb5]; exact fToFp8_e5m2_lt v
    · rw [tb2]; exact fToInt_lt 16 v
    · rw [tb6]; exact fenc_bf16_lt v
    · rw [tb7]; exact fenc_f32_lt v

theorem lane_tmovVal (c : CoreSt) {f : TF} (h : f.imm6.toNat < tmovParts f.ta f.tb) {k : Nat} (hk : k < 512 / laneWidth f.tb.toNat) :
    lane (laneWidth f.tb.toNat) (tmovVal c f) k = tmovElem f.ta.toNat f.tb.toNat
      (natBits (sget 0 c.accVis f.acc.toNat).toNat (32 * (64 * f.imm5.toNat + 512 / laneWidth f.tb.toNat * f.imm6.toNat + k)) 32)
      (c.sr f.s).toNat := by
  have part : f.imm6.toNat % 4 = f.imm6.toNat := Nat.mod_eq_of_lt (tmovParts_cases h).1
  unfold tmovVal
  dsimp only
  rw [lane_mkLanes _ hk, part, Nat.mod_eq_of_lt (tmovElem_lt h _ _)]

/-- An integer element is shifted, rounded and saturated (R103, R188). -/
theorem tmovElem_int (tb x ss : Nat) : tmovElem 3 tb x ss = (BitVec.ofInt (laneWidth tb) (max (-2 ^ (laneWidth tb - 1))
    (min (2 ^ (laneWidth tb - 1) - 1) (rsh (BitVec.ofNat 32 x).toInt (ss % 32))))).toNat := by
  unfold tmovElem
  rw [if_pos rfl, sInt_eq_toInt (by norm_num), satN_eq]

theorem tmov_issues {s : State} {e : Iss} {f : TF} (h : Ready s e (.t .tmov f)) :
    Issues s (.tmov e f) e (.t .tmov f) (s.core e.g) ((s.core e.g).resV 4 f.a (tmovVal (s.core e.g) f)) :=
  tOp_issues h rfl rfl (fun ha => by rcases ha with ha | ha <;> cases ha) (fun _ => opErrors_load ⟨nofun, nofun⟩ rfl)
    (fun _ => rfl) rfl rfl rfl rfl (.one h.ordered _)

/-! ### tclr -/

/-- The results for one register decide what is written there. -/
theorem writes_congr {d : Dest} {ps qs : List Pend} (h : ps.filter (fun p => decide (p.dest = d)) = qs.filter fun p => decide (p.dest = d))
    (v : BitVec 65536) : writes d v ps = writes d v qs := by
  have only (v : BitVec 65536) (ps : List Pend) : writes d v (ps.filter fun p => decide (p.dest = d)) = writes d v ps := by
    induction ps generalizing v with
    | nil => rfl
    | cons p ps ih =>
      by_cases hp : p.dest = d
      · rw [List.filter_cons_of_pos (by simpa using hp)]
        exact ih _
      · rw [List.filter_cons_of_neg (by simpa using hp), ih]
        simp [writes, hp]
  rw [← only v ps, h, only]

/-- Does a result stay when accumulator `r` is cleared in cycle `t`? Those due there more than two cycles on do not (R189). -/
def keepsFor (t : Nat) (r : BitVec 3) (p : Pend) : Bool := !(p.dest == .acc r && decide (p.due > t + 2))

theorem keepsFor_other {t : Nat} {r : BitVec 3} {p : Pend} (h : p.dest ≠ .acc r) : keepsFor t r p = true := by
  simp [keepsFor, h]

theorem keepsFor_same {t : Nat} {r : BitVec 3} {p : Pend} (h : p.dest = .acc r) : keepsFor t r p = decide (p.due ≤ t + 2) := by
  rw [Bool.eq_iff_iff]
  simp [keepsFor, h]

theorem writes_kept (t : Nat) (r : BitVec 3) (n : Nat) (v : BitVec 65536) (ps : List Pend) :
    writes (.acc r) v ((ps.filter (keepsFor t r)).filter fun p => decide (p.due ≤ n)) =
      writes (.acc r) v (ps.filter fun p => decide (p.due ≤ min n (t + 2))) := by
  refine writes_congr ?_ v
  rw [List.filter_filter, List.filter_filter, List.filter_filter]
  refine List.filter_congr fun p _ => ?_
  by_cases hp : p.dest = .acc r
  · rw [keepsFor_same hp, Bool.eq_iff_iff]
    simp [hp]
  · simp [hp]

theorem writes_kept_ne {t : Nat} {r : BitVec 3} {d : Dest} (hd : d ≠ .acc r) (n : Nat) (v : BitVec 65536) (ps : List Pend) :
    writes d v ((ps.filter (keepsFor t r)).filter fun p => decide (p.due ≤ n)) = writes d v (ps.filter fun p => decide (p.due ≤ n)) := by
  refine writes_congr ?_ v
  rw [List.filter_filter, List.filter_filter, List.filter_filter]
  refine List.filter_congr fun p _ => ?_
  by_cases hp : p.dest = d
  · rw [keepsFor_other (by rw [hp]; exact hd), Bool.and_true]
  · simp [hp]

theorem holds_kept {c : CoreSt} {t : Nat} {r : BitVec 3} {d : Dest} (hd : d ≠ .acc r) (ps : List Pend) (n : Nat) (w : Pend) :
    w.holds { c with pend := ps.filter (keepsFor t r) } n d = w.holds { c with pend := ps } n d := by
  unfold Pend.holds
  congr 1
  rw [Bool.eq_iff_iff, List.all_eq_true, List.all_eq_true]
  refine ⟨fun h p hp => ?_, fun h p hp => h p (List.mem_filter.1 hp).1⟩
  by_cases hpd : p.dest = d
  · exact h p (List.mem_filter.2 ⟨hp, keepsFor_other (by rw [hpd]; exact hd)⟩)
  · simp [hpd]

/-- Results that join others still join those that a clearing leaves. -/
theorem Joins.cleared {c : CoreSt} {t : Nat} {r : BitVec 3} {ws ps ps' : List Pend} (h : Joins { c with pend := ps } ws ps')
    (hw : ∀ w ∈ ws, w.dest ≠ .acc r) :
    Joins { c with pend := ps.filter (keepsFor t r) } ws (ps'.filter (keepsFor t r)) := by
  obtain ⟨ordered, members, values⟩ := h
  refine ⟨ordered.filter _, fun p => ?_, fun n d v => ?_⟩
  · have keep : p ∈ ws → keepsFor t r p = true := fun hp => keepsFor_other (hw p hp)
    have mem := members p
    simp only [List.mem_filter] at mem ⊢
    rw [mem]
    tauto
  · by_cases hd : d = .acc r
    · subst hd
      have none (x : CoreSt) (m : Nat) : (ws.find? fun w => w.holds x m (.acc r)) = none :=
        List.find?_eq_none.2 fun w hm held => by
          simp only [Pend.holds, Bool.and_eq_true, decide_eq_true_eq] at held
          exact hw w hm held.1.1
      have at_min := values (min n (t + 2)) (.acc r) v
      rw [none] at at_min ⊢
      rw [writes_kept, writes_kept]
      exact at_min
    · rw [writes_kept_ne hd, writes_kept_ne hd, values]
      have same : (fun w => Pend.holds { c with pend := ps.filter (keepsFor t r) } n d w) = fun w => Pend.holds { c with pend := ps } n d w :=
        funext fun w => holds_kept hd ps n w
      rw [same]

theorem clearAcc_eq (c : CoreSt) (r : BitVec 3) : clearAcc c r =
    { c with pend := pendInsert ⟨c.cycle + 2, .acc r, 0⟩ (c.pend.filter (keepsFor c.cycle r)), acc := sset 0 c.acc r.toNat 0 } := by
  have kept : keepsFor c.cycle r = fun p => !(p.dest == .acc r && decide (p.due > c.cycle + 2)) := rfl
  simp only [clearAcc, CoreSt.push, kept]

theorem clearAcc_issuing (c : CoreSt) (l : List (Nat × Nat)) (r : BitVec 3) : clearAcc (c.issuing l) r = (clearAcc c r).issuing l := by
  simp only [clearAcc_eq, CoreSt.issuing]

theorem clears_issuing (c : CoreSt) (l : List (Nat × Nat)) (rs : List (BitVec 3)) :
    rs.foldl clearAcc (c.issuing l) = (rs.foldl clearAcc c).issuing l := by
  induction rs generalizing c with
  | nil => rfl
  | cons r rs ih => rw [List.foldl_cons, clearAcc_issuing, ih, List.foldl_cons]

/-- Clearing accumulators one after another: what is on its way after it, and what the array sees. -/
theorem clears_join (c : CoreSt) (h : c.Ordered) (rs : List (BitVec 3)) (distinct : rs.Nodup) :
    ∃ ps ps' m, rs.foldl clearAcc c = { c with pend := ps', acc := m } ∧
      Joins { c with pend := ps } (rs.map fun r => ⟨c.cycle + 2, .acc r, 0⟩) ps' ∧
      (∀ p, p ∈ ps ↔ p ∈ c.pend ∧ ∀ r ∈ rs, keepsFor c.cycle r p = true) ∧
      ∀ r : BitVec 3, sget 0 m r.toNat = if r ∈ rs then 0 else sget 0 c.acc r.toNat := by
  induction rs using List.reverseRecOn with
  | nil => exact ⟨c.pend, c.pend, c.acc, rfl, .nil h, by simp, by simp⟩
  | append_singleton rs r ih =>
    obtain ⟨nodup, -, fresh⟩ := List.nodup_append.1 distinct
    obtain ⟨ps, ps', m, fold, joins, kept, values⟩ := ih nodup
    have new : ∀ x ∈ rs.map (fun r => (⟨c.cycle + 2, .acc r, 0⟩ : Pend)), x.dest ≠ .acc r := fun x hx => by
      obtain ⟨y, hy, rfl⟩ := List.mem_map.1 hx
      exact fun he => fresh y hy r (List.mem_singleton_self r) (Dest.acc.inj he)
    refine ⟨ps.filter (keepsFor c.cycle r), pendInsert ⟨c.cycle + 2, .acc r, 0⟩ (ps'.filter (keepsFor c.cycle r)), sset 0 m r.toNat 0,
      ?_, ?_, fun p => ?_, fun x => ?_⟩
    · rw [List.foldl_append, fold, List.foldl_cons, List.foldl_nil, clearAcc_eq]
    · rw [List.map_append]
      exact (joins.cleared new).snoc _ new
    · rw [List.mem_filter, kept]
      simp only [List.mem_append, List.mem_singleton]
      constructor
      · rintro ⟨⟨hp, all⟩, last⟩
        exact ⟨hp, fun q hq => hq.elim (all q) fun e => e ▸ last⟩
      · rintro ⟨hp, all⟩
        exact ⟨⟨hp, fun q hq => all q (.inl hq)⟩, all r (.inr rfl)⟩
    · by_cases hx : x = r
      · subst hx
        rw [sget_sset_same]
        simp
      · have ne : x.toNat ≠ r.toNat := fun e => hx (BitVec.eq_of_toNat_eq e)
        rw [sget_sset_ne _ _ _ ne, values]
        simp [hx]

/-- The accumulators that tclr clears. -/
def clearedBy (f : TF) : List (BitVec 3) := if f.imm5.getLsbD 0 then (upto 8).map (BitVec.ofNat 3) else [f.acc]

theorem tclrApply_eq (c : CoreSt) (f : TF) : tclrApply c f = (clearedBy f).foldl clearAcc c := by
  unfold tclrApply clearedBy
  split
  · rw [List.foldl_map]
  · rfl

theorem mem_clearedBy {f : TF} {r : BitVec 3} : r ∈ clearedBy f ↔ f.imm5.getLsbD 0 = true ∨ r = f.acc := by
  have all : ∀ r : BitVec 3, r ∈ (upto 8).map (BitVec.ofNat 3) := by decide
  unfold clearedBy
  cases f.imm5.getLsbD 0
  · simp
  · simpa using all r

theorem clearedBy_nodup (f : TF) : (clearedBy f).Nodup := by
  have eight : ((upto 8).map (BitVec.ofNat 3)).Nodup := by decide
  unfold clearedBy
  split
  · exact eight
  · exact List.nodup_singleton _

/-- Settles O16: tmov converts the part's elements, and a clearing drops what is due later and puts the zeros on their way. -/
theorem accumulatorMoves : Obligations.AccumulatorMoves := by
  intro s e f c w n x ss
  refine ⟨fun h => ⟨tmovVal c f, fun k hk => ⟨fun ta => ?_, fun ta => ?_⟩, tmov_issues h⟩, fun h => ?_⟩
  · have legal := of_decide_eq_true h.tValueOk
    rw [lane_tmovVal c legal hk, ta]
    exact tmovElem_int _ _ _
  · have legal := of_decide_eq_true h.tValueOk
    rw [lane_tmovVal c legal hk, ta]
    rfl
  · intro named
    obtain ⟨ps, ps', m, fold, joins, kept, values⟩ := clears_join c h.ordered (clearedBy f) (clearedBy_nodup f)
    refine ⟨m, ps, (clearedBy f).map fun r => ⟨c.cycle + 2, .acc r, 0⟩, fun r => ?_, fun p => ?_, fun p => ?_, ?_⟩
    · rw [values]
      simp only [mem_clearedBy]
    · rw [kept]
      simp only [mem_clearedBy, keepsFor, Bool.not_eq_true', Bool.and_eq_false_iff, beq_eq_false_iff_ne, decide_eq_false_iff_not]
      refine and_congr_right fun _ => ⟨?_, fun none r hr => ?_⟩
      · rintro all ⟨r, hr, hd, late⟩
        exact (all r hr).elim (· hd) (· late)
      · by_contra both
        push Not at both
        exact none ⟨r, hr, both.1, both.2⟩
    · simp only [List.mem_map, mem_clearedBy]
      exact exists_congr fun r => and_congr_right fun _ => eq_comm
    · refine tOp_issues h rfl rfl (fun ha => by rcases ha with ha | ha <;> cases ha) (fun _ => opErrors_load ⟨nofun, nofun⟩ rfl)
        (fun l => ?_) rfl rfl rfl rfl joins
      change tclrApply (c.issuing l) f = _
      rw [tclrApply_eq, clears_issuing, fold]
      rfl

end Sys2Proof.Machine

/-! PROOF. The similarity unit: what it reads, and the end of a queued instruction (R180 to R201). -/

namespace Sys2Proof.Machine

/-! ### The lines that the unit has read (R200) -/

theorem see1_found {k : Nat} {y : State × SimRes} {a : Nat} {q : SimLine} (h : y.2.got.find? (fun x => x.addr == a) = some q) :
    SimRes.see1 k y a = ((y.1.wr a 64 q.val.toNat).setPoison a q.bad, { y.2 with got := y.2.got.erase q }) := by
  unfold SimRes.see1
  rw [h]

theorem see1_missed {k : Nat} {y : State × SimRes} {a : Nat} (h : y.2.got.find? (fun x => x.addr == a) = none) :
    SimRes.see1 k y a = (y.1, { y.2 with miss := y.2.miss.or (some (k, a)) }) := by
  unfold SimRes.see1
  rw [h]

/-- Two lines share no byte. -/
def LinesApart (a b : Nat) : Prop := a + 64 ≤ b ∨ b + 64 ≤ a

/-- What the accesses to the lines `ls` leave: only the lines read and the first access missed change of the unit, and memory away from `ls` stays. -/
structure SeenFrom (ls : List Nat) (y z : State × SimRes) : Prop where
  unit : z.2 = { y.2 with got := z.2.got, miss := z.2.miss }
  sub : ∀ q ∈ z.2.got, q ∈ y.2.got
  first : z.2.miss = none → y.2.miss = none
  other : ∀ b n, (∀ a ∈ ls, b + n ≤ a ∨ a + 64 ≤ b) → z.1.rd b n = y.1.rd b n
  clean : ∀ b, (∀ a ∈ ls, a / 64 ≠ b / 64) → z.1.poisoned b = y.1.poisoned b

theorem SeenFrom.refl (y : State × SimRes) : SeenFrom [] y y :=
  ⟨rfl, fun _ h => h, fun h => h, fun _ _ _ => rfl, fun _ _ => rfl⟩

theorem SeenFrom.trans {as bs : List Nat} {x y z : State × SimRes} (h : SeenFrom as x y) (k : SeenFrom bs y z) : SeenFrom (as ++ bs) x z where
  unit := by rw [k.unit, h.unit]
  sub q hq := h.sub q (k.sub q hq)
  first hz := h.first (k.first hz)
  other b n hb := (k.other b n fun a ha => hb a (List.mem_append_right _ ha)).trans (h.other b n fun a ha => hb a (List.mem_append_left _ ha))
  clean b hb := (k.clean b fun a ha => hb a (List.mem_append_right _ ha)).trans (h.clean b fun a ha => hb a (List.mem_append_left _ ha))

theorem see1_seen (k : Nat) (y : State × SimRes) (a : Nat) : SeenFrom [a] y (SimRes.see1 k y a) := by
  cases h : y.2.got.find? fun x => x.addr == a with
  | some q =>
    rw [see1_found h]
    exact ⟨rfl, fun x hx => List.mem_of_mem_erase hx, fun hm => hm,
      fun b n hb => memRead_memWrite_out _ _ _ _ _ _ (hb a (List.mem_singleton_self a)),
      fun b hb => (sget_sset ..).trans (if_neg fun e => hb a (List.mem_singleton_self a) e.symm)⟩
  | none =>
    rw [see1_missed h]
    refine ⟨rfl, fun x hx => hx, fun hm => ?_, fun _ _ _ => rfl, fun _ _ => rfl⟩
    cases hy : y.2.miss with
    | none => rfl
    | some m => simp [hy] at hm

theorem seeFold_seen (k : Nat) (ls : List Nat) (y : State × SimRes) : SeenFrom ls y (ls.foldl (SimRes.see1 k) y) := by
  induction ls generalizing y with
  | nil => exact .refl y
  | cons a ls ih => exact (see1_seen k y a).trans (ih _)

theorem see_seen (k : Nat) (s : State) (ls : List Nat) (r : SimRes) : SeenFrom ls (s, r) (r.see k s ls) := seeFold_seen k ls (s, r)

theorem seeFold_reads {k : Nat} {ls : List Nat} {y : State × SimRes} (apart : ls.Pairwise LinesApart)
    (came : (ls.foldl (SimRes.see1 k) y).2.miss = none) (a : Nat) (ha : a ∈ ls) :
    ∃ q ∈ y.2.got, q.addr = a ∧ (ls.foldl (SimRes.see1 k) y).1.rd a 64 = q.val.toNat ∧
      (ls.foldl (SimRes.see1 k) y).1.poisoned a = q.bad := by
  induction ls generalizing y with
  | nil => cases ha
  | cons b ls ih =>
    rw [List.foldl_cons] at came ⊢
    obtain ⟨hb, apart⟩ := List.pairwise_cons.1 apart
    rcases List.mem_cons.1 ha with rfl | ha
    · have rest := seeFold_seen k ls (SimRes.see1 k y a)
      cases h : y.2.got.find? fun x => x.addr == a with
      | none =>
        have hm := rest.first came
        rw [see1_missed h] at hm
        cases hy : y.2.miss <;> simp [hy] at hm
      | some q =>
        refine ⟨q, List.mem_of_find?_eq_some h, by simpa using List.find?_some h, ?_, ?_⟩
        · rw [rest.other a 64 fun c hc => ?_, see1_found h]
          · exact (memRead_memWrite ..).trans (Nat.mod_eq_of_lt (by have := q.val.isLt; omega))
          · exact (hb c hc)
        · rw [rest.clean a fun c hc => ?_, see1_found h]
          · exact (sget_sset ..).trans (if_pos rfl)
          · rcases hb c hc with h1 | h1 <;> omega
    · obtain ⟨q, hq, found⟩ := ih apart came ha
      exact ⟨q, (see1_seen k y b).sub q hq, found⟩

theorem see_reads {k : Nat} {s : State} {ls : List Nat} {r : SimRes} (apart : ls.Pairwise LinesApart) (came : (r.see k s ls).2.miss = none)
    (a : Nat) (ha : a ∈ ls) :
    ∃ q ∈ r.got, q.addr = a ∧ (r.see k s ls).1.rd a 64 = q.val.toNat ∧ (r.see k s ls).1.poisoned a = q.bad := seeFold_reads apart came a ha

theorem dmAddr_add (g o : Nat) : dmAddr g o = dmAddr g 0 + o := by
  unfold dmAddr
  omega

theorem dmLines_apart (g o n : Nat) : (dmLines g o n).Pairwise LinesApart := by
  refine List.pairwise_map.2 ?_
  refine List.Pairwise.imp (fun {i j} (h : i < j) => ?_) List.pairwise_lt_range
  left
  rw [dmAddr_add g (_ + 64 * i), dmAddr_add g (_ + 64 * j)]
  omega

theorem mem_dmLines {g o n a : Nat} : a ∈ dmLines g o n ↔ ∃ k < (o % 64 + n + 63) / 64, dmAddr g (o / 64 * 64 + 64 * k) = a := by
  simp [dmLines, upto]

/-! ### The end of a queued instruction -/

section
variable {s : State} {g : Nat} {x : SimEnt} {rest : List SimEnt}

/-- The state in which the unit has counted what an instruction did (R494). -/
def State.simCounts (s : State) (g : Nat) (r : SimRes) : State :=
  (((s.coreCount g 18 r.tokens).coreCount g 19 r.closes).coreCount g 20 r.inserts).coreCount g 21 r.changes

/-- The error of a queued instruction (R201). -/
def simError (g : Nat) (x : SimEnt) (code : Nat) (detail : Option Nat) : ErrInfo :=
  { ErrInfo.plain 0 code with tile := some (tileOf g), site := some (siteOf g), gcore := some g, index := some x.bundle, detail := detail }

theorem AtHead.simDo (h : AtHead s g x rest) : simDo x.op g s =
    let r := simRun s g x (s.core g)
    if r.miss.isSome then s
    else
      let s1 := (s.setCore g (if r.err.isSome then { r.c with simStopped := true } else { r.c with simQueue := rest })).simCounts g r
      let s2 := if r.bad then s1.standFatal (s.standOf g) (simError g x 0x14 (some 3)) else s1
      match r.err with
      | some code => s2.standFatal (s.standOf g) (simError g x code none)
      | none => s2 := by
  obtain ⟨-, queue, goes, alive, open', waits⟩ := h
  have may : simMayRun (s.core g) x = true := by
    unfold simMayRun
    rcases open' with h | ⟨h1, h2⟩
    · rw [h]; rfl
    · have h1' : (x.op == .cbind) = false := beq_eq_false_iff_ne.2 h1
      have h2' : (x.op == .msim && x.f.ta == 14) = false :=
        Bool.and_eq_false_iff.2 (h2.imp beq_eq_false_iff_ne.2 beq_eq_false_iff_ne.2)
      rw [h1', h2']
      simp
  have copies : ((s.core g).acopies.any fun q => x.waits.contains q.issued) = false :=
    List.any_eq_false.2 fun q hq => by simpa using waits q hq
  unfold Machine.simDo
  dsimp only
  rw [queue]
  dsimp only
  rw [if_neg (by rw [goes, alive, may, copies]; simp)]
  rfl

theorem AtHead.missed (h : AtHead s g x rest) (missed : ¬Fetched s g x) : Machine.simDo x.op g s = s := by
  rw [h.simDo]
  dsimp only
  rw [if_pos (Option.isSome_iff_ne_none.2 missed)]

theorem AtHead.missed_exec {o : QOp} (h : AtHead s g x rest) (op : x.op = o) (missed : ¬Fetched s g x) :
    simExec o ⟨g, .clean⟩ s = .next s := by
  subst op
  exact (if_neg (Nat.not_le.2 h.1)).trans (congrArg _ (h.missed missed))

/-- An instruction that meets neither an error nor a poisoned line leaves the queue. -/
theorem AtHead.ends (h : AtHead s g x rest) {r : SimRes} (run : simRun s g x (s.core g) = r) (came : r.miss = none) (clean : r.bad = false)
    (ok : r.err = none) : Machine.simDo x.op g s = (s.setCore g { r.c with simQueue := rest }).simCounts g r := by
  rw [h.simDo, run]
  simp [came, clean, ok]

theorem coreCount_zero (s : State) (g e : Nat) : s.coreCount g e 0 = s := if_pos (Or.inl rfl)

theorem simCounts_zero {s : State} {g : Nat} {r : SimRes} (tokens : r.tokens = 0) (closes : r.closes = 0) (inserts : r.inserts = 0)
    (changes : r.changes = 0) : s.simCounts g r = s := by
  unfold State.simCounts
  rw [tokens, closes, inserts, changes]
  simp only [coreCount_zero]

/-- The unit has met nothing that it would report or count. -/
abbrev SimRes.Quiet (r : SimRes) : Prop :=
  r.bad = false ∧ r.err = none ∧ r.tokens = 0 ∧ r.closes = 0 ∧ r.inserts = 0 ∧ r.changes = 0

/-- One that met a poisoned line leaves the queue too, and its stand takes the error (R381). -/
theorem AtHead.reports (h : AtHead s g x rest) {r : SimRes} (run : simRun s g x (s.core g) = r) (came : r.miss = none) (bad : r.bad = true)
    (ok : r.err = none) : Machine.simDo x.op g s =
      ((s.setCore g { r.c with simQueue := rest }).simCounts g r).standFatal (s.standOf g) (simError g x 0x14 (some 3)) := by
  rw [h.simDo, run]
  simp [came, bad, ok]

/-- One that reports and counts nothing changes the core alone. -/
theorem AtHead.leaves (h : AtHead s g x rest) {r : SimRes} (run : simRun s g x (s.core g) = r) (came : r.miss = none)
    (quiet : r.Quiet) : Machine.simDo x.op g s = s.setCore g { r.c with simQueue := rest } := by
  obtain ⟨bad, err, tokens, closes, inserts, changes⟩ := quiet
  rw [h.ends run came bad err, simCounts_zero tokens closes inserts changes]

theorem AtHead.leaves_core (h : AtHead s g x rest) {r : SimRes} {d : CoreSt} (run : simRun s g x (s.core g) = { r with c := d })
    (came : r.miss = none) (quiet : r.Quiet) : Machine.simDo x.op g s = s.setCore g { d with simQueue := rest } := h.leaves run came quiet

/-- One that meets an error stays at the head of the queue, and the unit stops (R201). -/
theorem AtHead.fails (h : AtHead s g x rest) {r : SimRes} (run : simRun s g x (s.core g) = r) (came : r.miss = none) (clean : r.bad = false)
    {code : Nat} (error : r.err = some code) : Machine.simDo x.op g s =
      ((s.setCore g { r.c with simStopped := true }).simCounts g r).standFatal (s.standOf g) (simError g x code none) := by
  rw [h.simDo, run]
  simp [came, clean, error]

theorem AtHead.stops (h : AtHead s g x rest) {code : Nat} (run : simRun s g x (s.core g) = { SimRes.start (s.core g) with err := some code }) :
    Machine.simDo x.op g s = (s.setCore g { s.core g with simStopped := true }).standFatal (s.standOf g) (simError g x code none) := by
  rw [h.fails run rfl rfl rfl, simCounts_zero rfl rfl rfl rfl]
  rfl

theorem simExec_clean (o : QOp) (hg : g < 12288) (s : State) : simExec o ⟨g, .clean⟩ s = .next (Machine.simDo o g s) :=
  if_neg (Nat.not_le.2 hg)

end

theorem see_one {k : Nat} {s : State} {a : Nat} {r : SimRes} {q : SimLine} (h : r.got.find? (fun x => x.addr == a) = some q) :
    r.see k s [a] = ((s.wr a 64 q.val.toNat).setPoison a q.bad, { r with got := r.got.erase q }) := see1_found h

theorem rd_line (s : State) (a : Nat) (v : BitVec 512) (b : Bool) : ((s.wr a 64 v.toNat).setPoison a b).rd a 64 = v.toNat :=
  (memRead_memWrite ..).trans (Nat.mod_eq_of_lt (by have := v.isLt; omega))

theorem poisoned_line (s : State) (a v : Nat) (b : Bool) : ((s.wr a 64 v).setPoison a b).poisoned a = b := (sget_sset ..).trans (if_pos rfl)

/-- Bytes of memory as bits of a longer read. -/
theorem memRead_eq_natBits (m : List Host.Cell) (a n k j : Nat) (h : k + j ≤ n) :
    memRead m (a + k) j = natBits (memRead m a n) (8 * k) (8 * j) := by
  obtain ⟨r, rfl⟩ := Nat.exists_eq_add_of_le h
  unfold natBits
  rw [Nat.add_assoc, memRead_add, memRead_add, Nat.pow_mul, Nat.pow_mul, show 2 ^ 8 = 256 from rfl,
    Nat.add_mul_div_left _ _ (by positivity), Nat.div_eq_of_lt (memRead_lt ..), Nat.zero_add, Nat.add_mul_mod_self_left,
    Nat.mod_eq_of_lt (memRead_lt ..)]

theorem maximaReset_word {t : Nat} (ht : t < 32) : natBits maximaReset.toNat (32 * t) 32 = 0x8000_0000 := by
  interval_cases t <;> decide +kernel

/-- A register of a map of two halves. -/
theorem natPut_half (m : BitVec 1024) (h : Nat) (v : BitVec 512) (b : Nat) (hb : b < 1024) :
    (BitVec.ofNat 1024 (natPut m.toNat h 512 v.toNat)).getLsbD b = if h ≤ b ∧ b < h + 512 then v.getLsbD (b - h) else m.getLsbD b := by
  simp only [BitVec.getLsbD_ofNat, hb, decide_true, Bool.true_and, natPut_testBit]
  split <;> rfl

end Sys2Proof.Machine

/-! PROOF. The similarity queue and its loading instructions (O17). -/

namespace Sys2Proof.Machine

/-! ### Entry into the queue (R180, R190) -/

section
variable {s : State} {e : Iss} {o : QOp} {f : TF}

/-- A ready similarity instruction stalls only for room in the queue and on the scoreboard. -/
theorem stall_q (h : Ready s e (.q o f)) (room : (s.core e.g).simQueue.length < 8) (wait : (s.core e.g).waiting = none)
    (sb16 : (s.core e.g).sb.length < 16) : stallReasons s e.g [.q o f] = [] := by
  obtain ⟨-, -, -, -, -, -, -, -, -, awake, -, free, -⟩ := h
  have sb : ((s.core e.g).sb.any fun x => ([SlotOp.q o f].flatMap fun o => o.reads ++ o.dests).any fun d => d == x.dest) = false := by
    refine List.any_eq_false.2 fun x hx held => ?_
    obtain ⟨d, hd, he⟩ := List.any_eq_true.1 held
    exact free x hx (by simpa [← beq_iff_eq.1 he] using hd)
  have need : sbNeed (.q o f) ≤ 1 := by cases o <;> simp [sbNeed]
  have places : ¬((s.core e.g).sb.length + sbNeed (.q o f) > 16) := by omega
  have queue : decide ((s.core e.g).simQueue.length ≥ 8) = false := decide_eq_false (by omega)
  unfold stallReasons
  dsimp only
  rw [sb, awake, wait, queue]
  cases o <;> simp_all [sbNeed, tagMask, niNeed, niWaits, waitHeld, natBit, upto, SlotOp.slot, usesPath, signals, streamHeld, boolNat]

theorem opErrors_q {t : State} {g : Nat} {c : CoreSt} (h : QueueOperandOk c o f) : opErrors t g c (.q o f) = [] := by
  cases o
  case cbind =>
    obtain ⟨align, room⟩ := h
    have ok : ¬((c.sr f.s).toNat % 64 ≠ 0 ∨ (c.sr f.s).toNat ≥ 2 ^ 27 ∨ (c.sr f.s).toNat + tableBytes > towerBytes) := by
      unfold tableBytes towerBytes
      omega
    unfold opErrors
    dsimp only
    rw [if_neg ok]
    rfl
  case qld =>
    obtain ⟨align, room⟩ := h
    have ok : streamFault c (.q .qld f) = false := by
      unfold streamFault dmBytes
      simp only [Bool.or_eq_false_iff, decide_eq_false_iff_not]
      omega
    unfold opErrors
    rw [ok]
    rfl
  case dseg =>
    obtain ⟨zero, align, some, few, room⟩ := h
    have ok : streamFault c (.q .dseg f) = false := by
      unfold streamFault dmBytes natBits
      simp only [Bool.or_eq_false_iff, decide_eq_false_iff_not]
      omega
    unfold opErrors
    rw [ok]
    rfl
  case msim =>
    obtain ⟨zero, some, few, room⟩ := h
    have ok : streamFault c (.q .msim f) = false := by
      unfold streamFault dmBytes natBits
      by_cases ht : f.ta = 14
      · rw [if_pos ht] at room
        simp only [ht, Bool.or_eq_false_iff, decide_eq_false_iff_not, if_true]
        refine ⟨⟨⟨⟨?_, ?_⟩, ?_⟩, rfl⟩, ?_⟩ <;> omega
      · rw [if_neg ht] at room
        simp only [if_neg ht, Bool.or_eq_false_iff, Bool.and_eq_false_iff, decide_eq_false_iff_not]
        refine ⟨⟨⟨⟨?_, ?_⟩, ?_⟩, Or.inr ?_⟩, ?_⟩ <;> omega
    unfold opErrors
    rw [ok]
    rfl
  all_goals rfl

theorem QueueOperandOk.link {c : CoreSt} (l : List (Nat × Nat)) (h : QueueOperandOk c o f) : QueueOperandOk { c with link := l } o f := by
  cases o <;> exact h

/-- What a core is after a similarity instruction has entered its queue. -/
def CoreSt.queued (c : CoreSt) (o : QOp) (f : TF) : CoreSt :=
  { c with
    simQueue := c.simQueue ++ [⟨o, f, c.vr f.a, c.sr f.s, c.pc, [],
      if o = .tkrd then (c.acopies.filter fun q => q.later).map ACopy.issued else []⟩],
    sb := if o = .tkrd then c.sb ++ [⟨.v f.a, .topk, none⟩] else c.sb }

theorem opApply_q (t : State) (g : Nat) : opApply t g (.q o f) = t.setCore g ((t.core g).queued o f) := by
  show qApply t g o f = _
  unfold qApply CoreSt.queued
  by_cases h : o = .tkrd
  · simp only [if_pos h]
  · simp only [if_neg h, List.append_nil]

theorem qOp_issues {i : Instr} (h : Ready s e (.q o f)) (hi : exec i s = issueOps s e [.q o f]) (room : (s.core e.g).simQueue.length < 8)
    (wait : (s.core e.g).waiting = none) (sb16 : (s.core e.g).sb.length < 16) (operand : QueueOperandOk (s.core e.g) o f) :
    Issues s i e (.q o f) ((s.core e.g).queued o f) [] := by
  have met := (met_spec s e).2
  refine h.issues (f := fun c => c.queued o f) hi (stall_q h.met ?_ ?_ ?_) ?_ (fun t => opApply_q t e.g) (fun _ => rfl) rfl rfl rfl rfl
    (.nil h.ordered)
  · rw [met]; exact room
  · rw [met]; exact wait
  · rw [met]; exact sb16
  · rw [met]; exact opErrors_q (operand.link _)

end

/-! ### The loading instructions at the head of the queue -/

section
variable {s : State} {g : Nat} {x : SimEnt} {rest : List SimEnt}

/-- A line of the query tile as bits of the register that holds the tile. -/
theorem natBits_query (m : List Host.Cell) (a : Nat) {l : Nat} (hl : l < 64) :
    natBits (BitVec.ofNat 32768 (memRead m a 4096)).toNat (512 * l) 512 = memRead m (a + 64 * l) 64 := by
  have bound : memRead m a 4096 < 2 ^ 32768 := (memRead_lt m a 4096).trans_eq (by rw [show (256 : Nat) = 2 ^ 8 from rfl, ← pow_mul])
  rw [BitVec.toNat_ofNat, Nat.mod_eq_of_lt bound, memRead_eq_natBits m a 4096 (64 * l) 64 (by omega), show 8 * (64 * l) = 512 * l by omega]

/-- What qld has done once its lines have been read as in `z`. -/
theorem simQld_run {m : BitVec 1024} (hm : maximaReset = m) (op : x.op = .qld) {z : State × SimRes} (hz : (SimRes.begin x (s.core g)).see 2 s (dmLines g x.ss.toNat 4096) = z) :
    simRun s g x (s.core g) = { z.2 with c := { s.core g with query := BitVec.ofNat 32768 (z.1.rd (dmAddr g x.ss.toNat) 4096), maxima := m } } := by
  unfold simRun
  rw [op]
  show simQld s g x (s.core g) = _
  unfold simQld
  dsimp only
  rw [hz, hm]

/-- qld loads the query tile and resets the maxima (R191). -/
theorem simQld_loads (h : AtHead s g x rest) (op : x.op = .qld) (came : Fetched s g x) (align : x.ss.toNat % 64 = 0) :
    ∃ (v : BitVec 32768) (m : BitVec 1024),
      (∀ l < 64, ∃ q ∈ x.got, q.addr = dmAddr g (x.ss.toNat + 64 * l) ∧ natBits v.toNat (512 * l) 512 = q.val.toNat) ∧
      (∀ t < 32, natBits m.toNat (32 * t) 32 = 0x8000_0000) ∧
      exec (.qld ⟨g, .clean⟩) s = .next (s.setCore g { s.core g with query := v, maxima := m, simQueue := rest }) := by
  obtain ⟨z, hz⟩ : ∃ z, (SimRes.begin x (s.core g)).see 2 s (dmLines g x.ss.toNat 4096) = z := ⟨_, rfl⟩
  obtain ⟨unit, -⟩ := see_seen 2 s (dmLines g x.ss.toNat 4096) (SimRes.begin x (s.core g))
  have reads := see_reads (dmLines_apart g x.ss.toNat 4096) (k := 2) (s := s) (r := SimRes.begin x (s.core g))
  rw [hz] at unit reads
  obtain ⟨m, reset⟩ : ∃ m, maximaReset = m := ⟨_, rfl⟩
  have run := simQld_run reset op hz
  have hm : z.2.miss = none := by rwa [Fetched, run] at came
  generalize hv : BitVec.ofNat 32768 (z.1.rd (dmAddr g x.ss.toNat) 4096) = v at run
  refine ⟨v, m, fun l hl => ?_, fun t ht => by rw [← reset, maximaReset_word ht], ?_⟩
  · obtain ⟨q, hq, addr, val, -⟩ := reads hm (dmAddr g (x.ss.toNat + 64 * l)) (mem_dmLines.2 ⟨l, by omega, by congr 1; omega⟩)
    refine ⟨q, hq, addr, ?_⟩
    rw [← hv, ← val, dmAddr_add g (_ + 64 * l), ← Nat.add_assoc, ← dmAddr_add g x.ss.toNat]
    exact natBits_query _ _ hl
  · refine (simExec_clean .qld h.1 s).trans (congrArg _ ?_)
    have quiet : z.2.Quiet := by rw [unit]; exact ⟨rfl, rfl, rfl, rfl, rfl, rfl⟩
    rw [← op]
    exact h.leaves_core run hm quiet

theorem simQwt_loads (h : AtHead s g x rest) (op : x.op = .qwt) : exec (.qwt ⟨g, .clean⟩) s =
    .next (s.setCore g { (simQwt x (s.core g)).c with simQueue := rest }) := by
  have run : simRun s g x (s.core g) = simQwt x (s.core g) := by unfold simRun; rw [op]
  refine (simExec_clean .qwt h.1 s).trans (congrArg _ ?_)
  rw [← op, h.leaves run rfl ⟨rfl, rfl, rfl, rfl, rfl, rfl⟩]

theorem simCbind_run (op : x.op = .cbind) {q : SimLine}
    (hq : x.got.find? (fun q => q.addr == tsAddr (towerOf g) (x.ss.toNat + 0x80_0000)) = some q) : simRun s g x (s.core g) =
      { SimRes.begin x (s.core g) with c := { s.core g with centroid := some (x.ss.toNat, BitVec.ofNat 32 (if q.bad then 0 else q.val.toNat)) }, bad := q.bad, got := x.got.erase q } := by
  unfold simRun
  rw [op]
  show simCbind s g x (s.core g) = _
  unfold simCbind
  dsimp only
  rw [see_one (r := SimRes.begin x (s.core g)) hq]
  dsimp only
  unfold centHalf
  rw [poisoned_line, rd_line]
  rfl

theorem simTkclr_loads (h : AtHead s g x rest) (op : x.op = .tkclr) : exec (.tkclr ⟨g, .clean⟩) s =
    .next (s.setCore g { (simTkclr x (s.core g)).c with simQueue := rest }) := by
  have run : simRun s g x (s.core g) = simTkclr x (s.core g) := by unfold simRun; rw [op]
  refine (simExec_clean .tkclr h.1 s).trans (congrArg _ ?_)
  rw [← op, h.leaves run rfl ⟨rfl, rfl, rfl, rfl, rfl, rfl⟩]

theorem top_setTop (c : CoreSt) (i j : Nat) (l : TopList) : (c.setTop i l).top j = if j = i then l else c.top j := sget_sset ..

/-- Emptying a list keeps its capacity. -/
def CoreSt.emptyTop (c : CoreSt) (i : Nat) : CoreSt := c.setTop i ⟨(c.top i).k, []⟩

theorem top_emptyTop (c : CoreSt) (i j : Nat) : (c.emptyTop i).top j = if j = i then ⟨(c.top i).k, []⟩ else c.top j := top_setTop ..

theorem foldl_emptyTop (c : CoreSt) (is : List Nat) : is.foldl CoreSt.emptyTop c = { c with tops := (is.foldl CoreSt.emptyTop c).tops } ∧
    ∀ j, (is.foldl CoreSt.emptyTop c).top j = if j ∈ is then ⟨(c.top j).k, []⟩ else c.top j := by
  induction is generalizing c with
  | nil => exact ⟨rfl, fun j => by simp⟩
  | cons i is ih =>
    obtain ⟨frame, tops⟩ := ih (c.emptyTop i)
    refine ⟨frame, fun j => ?_⟩
    rw [List.foldl_cons, tops j, top_emptyTop]
    by_cases hj : j = i
    · subst hj; simp
    · simp [hj]

theorem getLsbD_imm5 {k : BitVec 5} (i : Nat) (hi : i < 5) : k.getLsbD i = decide (k.toNat / 2 ^ i % 2 = 1) := by
  interval_cases i <;> revert k <;> decide

theorem simTkclr_tops (op5 : x.f.imm5.toNat < 16) (c : CoreSt) : ∃ m : SMap TopList,
    (∀ i < 8, sget ⟨0, []⟩ m i = if 8 ≤ x.f.imm5.toNat ∨ i = x.f.imm5.toNat then ⟨(c.top i).k, []⟩ else c.top i) ∧
      (simTkclr x c).c = { c with tops := m } := by
  by_cases h8 : 8 ≤ x.f.imm5.toNat
  · have bit : x.f.imm5.getLsbD 3 = true := by rw [getLsbD_imm5 3 (by omega)]; exact decide_eq_true (by omega)
    have hc : (simTkclr x c).c = (upto 8).foldl CoreSt.emptyTop c := by
      unfold simTkclr
      rw [bit]
      rfl
    obtain ⟨frame, tops⟩ := foldl_emptyTop c (upto 8)
    refine ⟨_, fun i hi => (tops i).trans ?_, hc.trans frame⟩
    rw [if_pos (show i ∈ upto 8 from List.mem_range.2 hi), if_pos (Or.inl h8)]
  · have bit : x.f.imm5.getLsbD 3 = false := by rw [getLsbD_imm5 3 (by omega)]; exact decide_eq_false (by omega)
    have hc : (simTkclr x c).c = c.emptyTop x.f.imm5.toNat := by
      unfold simTkclr
      rw [bit, Nat.mod_eq_of_lt (by omega : x.f.imm5.toNat < 8)]
      rfl
    refine ⟨_, fun i _ => (top_emptyTop c _ i).trans ?_, hc⟩
    by_cases hi : i = x.f.imm5.toNat
    · rw [if_pos hi, if_pos (Or.inr hi), hi]
    · rw [if_neg hi, if_neg (by omega)]

theorem sum_others (c : CoreSt) (i : Nat) : ((upto 8).map fun j => if j = i then 0 else (c.top j).k).sum =
    (((List.range 8).filter fun j => decide (j ≠ i)).map fun j => (c.top j).k).sum := by
  unfold upto
  induction List.range 8 with
  | nil => rfl
  | cons j js ih =>
    by_cases hj : j = i
    · simp [hj, ih]
    · simp [hj, ih]

theorem simTkcfg_current (op5 : 16 ≤ x.f.imm5.toNat) (lt : x.f.imm5.toNat < 24) (c : CoreSt) :
    simTkcfg x c = .start { c with curTop := BitVec.ofNat 3 (x.f.imm5.toNat - 16) } := by
  have bit : x.f.imm5.getLsbD 4 = true := by rw [getLsbD_imm5 4 (by omega)]; exact decide_eq_true (by omega)
  unfold simTkcfg
  dsimp only
  rw [bit, if_pos rfl, show x.f.imm5.toNat % 8 = x.f.imm5.toNat - 16 by omega]

theorem simTkcfg_capacity (lt : x.f.imm5.toNat < 8) (c : CoreSt) : simTkcfg x c =
    if x.ss.toNat % 2 ^ 11 + (((List.range 8).filter fun j => decide (j ≠ x.f.imm5.toNat)).map fun j => (c.top j).k).sum > 1024 then
      { SimRes.start c with err := some 0x10 }
    else .start (c.setTop x.f.imm5.toNat ⟨x.ss.toNat % 2 ^ 11, (c.top x.f.imm5.toNat).ents.take (x.ss.toNat % 2 ^ 11)⟩) := by
  have bit : x.f.imm5.getLsbD 4 = false := by rw [getLsbD_imm5 4 (by omega)]; exact decide_eq_false (by omega)
  unfold simTkcfg
  dsimp only
  rw [bit, Nat.mod_eq_of_lt lt, sum_others]
  rfl

end

/-- Settles O17: entry by the issue of a bundle, and each loading instruction by what the unit has read for it. -/
theorem similarityQueueAndLoads : Obligations.SimilarityQueueAndLoads := by
  unfold Obligations.SimilarityQueueAndLoads
  refine ⟨?enter, ?head⟩
  case enter =>
    intro s e o f c h room wait sb16 operand
    exact qOp_issues h rfl room wait sb16 operand
  intro s g x rest h c table trailer leaves k
  refine ⟨?missed, ?qld, ?qwt, ?cbind, ?poisoned, ?tkclr, ?current, ?capacity⟩
  case missed =>
    intro q hq op missed
    simp only [List.mem_cons, List.not_mem_nil, or_false] at hq
    rcases hq with rfl | rfl | rfl | rfl | rfl <;> exact h.missed_exec op missed
  case qld => exact fun op came align _ => simQld_loads h op came align
  case qwt =>
    intro op
    have he : exec (.qwt ⟨g, .clean⟩) s = .next (s.setCore g { (simQwt x (s.core g)).c with simQueue := rest }) := simQwt_loads h op
    refine ⟨fun hk => ?_, fun hk => ?_, fun hk => ?_⟩
    · unfold simQwt at he
      rw [show x.f.imm5.toNat = 0 from hk] at he
      exact he
    · unfold simQwt at he
      rw [show x.f.imm5.toNat = 1 from hk] at he
      refine ⟨BitVec.ofNat 1024 (natPut c.maxima.toNat 0 512 x.va.toNat), fun b hb => ?_, he⟩
      rw [natPut_half _ _ _ _ hb]
      simp
    · unfold simQwt at he
      rw [show x.f.imm5.toNat = 2 from hk] at he
      refine ⟨BitVec.ofNat 1024 (natPut c.maxima.toNat 512 512 x.va.toNat), fun b hb => ?_, he⟩
      rw [natPut_half _ _ _ _ hb]
      by_cases h5 : b < 512
      · rw [if_neg (by omega), if_pos h5]
      · rw [if_pos (by omega), if_neg h5]
  case cbind =>
    intro op q hq clean
    have run := simCbind_run (s := s) (g := g) op hq
    refine (simExec_clean .cbind h.1 s).trans (congrArg _ ?_)
    rw [← op, h.leaves run rfl ⟨clean, rfl, rfl, rfl, rfl, rfl⟩, clean]
    rfl
  case poisoned =>
    intro op q hq bad
    have run := simCbind_run (s := s) (g := g) op hq
    refine (simExec_clean .cbind h.1 s).trans (congrArg _ ?_)
    rw [← op, h.reports run rfl bad rfl, bad, simCounts_zero rfl rfl rfl rfl]
    rfl
  case tkclr =>
    intro op hk
    obtain ⟨m, tops, core⟩ := simTkclr_tops hk c
    exact ⟨m, tops, (simTkclr_loads h op).trans (by rw [core])⟩
  case current =>
    intro op hk hk'
    have run : simRun s g x (s.core g) = .start { c with curTop := BitVec.ofNat 3 (k - 16) } := by
      unfold simRun; rw [op]; exact simTkcfg_current hk hk' c
    refine (simExec_clean .tkcfg h.1 s).trans (congrArg _ ?_)
    rw [← op, h.leaves run rfl ⟨rfl, rfl, rfl, rfl, rfl, rfl⟩]
    rfl
  case capacity =>
    intro op hk room
    have run : simRun s g x (s.core g) = .start (c.setTop k ⟨x.ss.toNat % 2 ^ 11, (c.top k).ents.take (x.ss.toNat % 2 ^ 11)⟩) := by
      unfold simRun; rw [op]; exact (simTkcfg_capacity hk c).trans (if_neg (Nat.not_lt.2 room))
    refine (simExec_clean .tkcfg h.1 s).trans (congrArg _ ?_)
    rw [← op, h.leaves run rfl ⟨rfl, rfl, rfl, rfl, rfl, rfl⟩]
    rfl

end Sys2Proof.Machine

/-! PROOF. Scores, segments and closes (O18). -/

namespace Sys2Proof.Machine

/-! ### Similarities (R117 to R121) -/

theorem natBit_natBits {n lo w i : Nat} (h : i < w) : natBit (natBits n lo w) i = natBit n (lo + i) := by
  have := natBits_testBit n lo w i
  simp only [h, decide_true, Bool.true_and] at this
  unfold natBit
  simpa [Nat.testBit_eq_decide_div_mod_eq] using this

theorem natBits_natBits {n lo w lo' w' : Nat} (h : lo' + w' ≤ w) : natBits (natBits n lo w) lo' w' = natBits n (lo + lo') w' := by
  refine Nat.eq_of_testBit_eq fun i => ?_
  rw [natBits_testBit, natBits_testBit, natBits_testBit]
  by_cases hi : i < w'
  · rw [decide_eq_true hi, decide_eq_true (by omega : lo' + i < w), Nat.add_assoc]
    rfl
  · rw [decide_eq_false hi]
    rfl

theorem sum_ite_zero_one {α : Type} (l : List α) (p : α → Prop) [DecidablePred p] :
    (l.map fun d => if p d then 0 else 1).sum = (l.filter fun d => decide ¬p d).length := by
  induction l with
  | nil => rfl
  | cons d l ih =>
    by_cases h : p d
    · simp [h, ih]
    · simp [h, ih]; omega

theorem zipIdx_map_range {α β : Type} (n : Nat) (F : Nat → α) (h : α × Nat → β) :
    (((List.range n).map F).zipIdx.map h) = (List.range n).map fun i => h (F i, i) := by
  refine List.ext_getElem (by simp) fun i _ _ => by simp

theorem natBits_one (x d : Nat) : natBits x d 1 = boolNat (natBit x d) := by
  unfold natBits natBit boolNat
  rcases Nat.mod_two_eq_zero_or_one (x / 2 ^ d) with h | h <;> simp [h]

theorem bin1Scores_eq (query x : Nat) : bin1Scores query x = (List.range 32).map (bin1Similarity query x) := by
  refine List.map_congr_left fun t _ => ?_
  have differ : ((upto 128).map fun d => if (if natBit (natBits query (1024 * t) 1024) (8 * d + 7) then 0 else 1) = natBits x d 1 then 0 else 1).sum =
      ((List.range 128).filter fun d => (!natBit query (1024 * t + 8 * d + 7)) != natBit x d).length := by
    refine (sum_ite_zero_one _ _).trans (congrArg List.length (List.filter_congr fun d hd => ?_))
    have hd : d < 128 := List.mem_range.1 hd
    rw [natBit_natBits (by omega), natBits_one, ← Nat.add_assoc]
    cases natBit query (1024 * t + 8 * d + 7) <;> cases natBit x d <;> rfl
  unfold bin1Similarity
  rw [← differ]

theorem sInt_satN (x : Int) : sInt 8 (satN 8 x) = max (-128) (min 127 x) := by
  rw [sInt_eq_toInt (by norm_num), satN_eq, BitVec.ofNat_toNat, BitVec.setWidth_eq, BitVec.toInt_ofInt_eq_self (by norm_num)]
  · norm_num
  · norm_num
  · norm_num

theorem crv2Scores_eq {query row rtab x codes : Nat} (hc : codes = natBits x 16 256) :
    crv2Scores query (crv2Decode row codes rtab) = (List.range 32).map (crv2Similarity query row rtab x) := by
  refine List.map_congr_left fun t _ => ?_
  unfold crv2Decode upto crv2Similarity
  dsimp only
  rw [zipIdx_map_range]
  refine congrArg List.sum (List.map_congr_left fun d hd => ?_)
  have hd : d < 128 := List.mem_range.1 hd
  rw [sInt_satN, natBits_natBits (by omega), hc, natBits_natBits (by omega), sInt_eq_toInt (by norm_num), sInt_eq_toInt (by norm_num),
    sInt_eq_toInt (by norm_num)]

theorem bin1Similarity_bound (query x t : Nat) : -2 ^ 31 ≤ bin1Similarity query x t ∧ bin1Similarity query x t < 2 ^ 31 := by
  unfold bin1Similarity
  have := List.length_filter_le (fun d => (!natBit query (1024 * t + 8 * d + 7)) != natBit x d) (List.range 128)
  rw [List.length_range] at this
  omega

theorem abs_sum_map_le {α : Type} (l : List α) (F : α → Int) {b : Int} (h : ∀ x ∈ l, |F x| ≤ b) : |(l.map F).sum| ≤ l.length * b := by
  induction l with
  | nil => simp
  | cons x l ih =>
    have hx := h x List.mem_cons_self
    have hl := ih fun y hy => h y (List.mem_cons_of_mem _ hy)
    rw [List.map_cons, List.sum_cons, List.length_cons]
    push_cast
    have := abs_add_le (F x) (l.map F).sum
    linarith

theorem crv2Similarity_bound (query row rtab x t : Nat) :
    -2 ^ 31 ≤ crv2Similarity query row rtab x t ∧ crv2Similarity query row rtab x t < 2 ^ 31 := by
  have sum : |crv2Similarity query row rtab x t| ≤ (List.range 128).length * (128 * 128) := by
    refine abs_sum_map_le _ _ fun d _ => ?_
    rw [abs_mul]
    refine mul_le_mul ?_ ?_ (abs_nonneg _) (by norm_num)
    · have := BitVec.le_toInt (BitVec.ofNat 8 (natBits query (1024 * t + 8 * d) 8))
      have := BitVec.toInt_lt (x := BitVec.ofNat 8 (natBits query (1024 * t + 8 * d) 8))
      rw [abs_le]
      omega
    · rw [abs_le]
      omega
  rw [List.length_range, abs_le] at sum
  omega

/-- The maxima raised by the similarities `F` (R121). -/
theorem maxOf_raise (m : BitVec 1024) (F : Nat → Int) (bound : ∀ q, -2 ^ 31 ≤ F q ∧ F q < 2 ^ 31) {q : Nat} (hq : q < 32) :
    (BitVec.ofNat 32 (natBits (raiseMaxima m ((List.range 32).map F)).toNat (32 * q) 32)).toInt =
      max (BitVec.ofNat 32 (natBits m.toNat (32 * q) 32)).toInt (F q) := by
  have lower := BitVec.le_toInt (BitVec.ofNat 32 (natBits m.toNat (32 * q) 32))
  have upper := BitVec.toInt_lt (x := BitVec.ofNat 32 (natBits m.toNat (32 * q) 32))
  obtain ⟨low, high⟩ := bound q
  unfold raiseMaxima
  rw [zipIdx_map_range, BitVec.toNat_ofNat, Nat.mod_eq_of_lt (packBits_lt 32 _ |>.trans_eq (by simp)),
    natBits_packBits (by simpa using hq)]
  simp only [List.getElem_map, List.getElem_range]
  rw [Nat.mod_eq_of_lt (wrapN_lt ..), wrapN_eq_ofInt, BitVec.ofNat_toNat, BitVec.setWidth_eq, sInt_eq_toInt (by norm_num),
    BitVec.toInt_ofInt_eq_self (by norm_num)]
  · norm_num at *; omega
  · norm_num at *; omega

/-! ### Tokens (R194) -/

/-- What the unit is after a token whose similarities and reads are `y`. -/
def tokenEnd (y : List Int × SimRes) : SimRes :=
  { y.2 with c := { y.2.c with maxima := raiseMaxima y.2.c.maxima y.1 }, tokens := y.2.tokens + 1 }

/-- `y` is what scoring a token from `r` gives: only lines are read, and where none was missed the similarities are `sim u` for a
memory `u` that holds the token's lines as they were read. -/
structure TokenReads (got : List SimLine) (lines : State → List Nat) (sim : State → Nat → Int) (r : SimRes) (y : List Int × SimRes) : Prop where
  unit : y.2 = { r with got := y.2.got, miss := y.2.miss, bad := y.2.bad }
  sub : ∀ q ∈ y.2.got, q ∈ r.got
  first : y.2.miss = none → r.miss = none
  clean : y.2.miss = none → r.bad = false → y.2.bad = false
  scores : y.2.miss = none → ∃ u, Sees u got (lines u) ∧ y.1 = (List.range 32).map (sim u)

section
variable {s : State} {g : Nat} {crv2 : Bool} {c : CoreSt} {got : List SimLine} {size a0 : Nat} {lines : State → Nat → List Nat}
  {sim : State → Nat → Nat → Int}

/-- Between tokens outside a segment stream: the core is `c` but for the maxima, and every line still to be used was read. -/
def Scoring (c : CoreSt) (got : List SimLine) (r : SimRes) : Prop :=
  r.err = none ∧ r.c = { c with maxima := r.c.maxima } ∧ ∀ q ∈ r.got, q ∈ got

/-- Scoring the tokens from the `i`-th on. -/
theorem tokens_from_scores (bound : ∀ u r q, -2 ^ 31 ≤ sim u r q ∧ sim u r q < 2 ^ 31)
    (token : ∀ i r, Scoring c got r → ∃ y, SimRes.token s g crv2 (a0 + size * i) r = tokenEnd y ∧
      TokenReads got (fun u => lines u i) (fun u => sim u i) r y)
    (n i : Nat) (r : SimRes) (h : Scoring c got r) : ∃ R, SimRes.tokens_from s g crv2 size n (a0 + size * i) r = R ∧
      R = { r with c := { c with maxima := R.c.maxima }, tokens := r.tokens + n, got := R.got, miss := R.miss, bad := R.bad } ∧
      (R.miss = none → r.miss = none ∧ (r.bad = false → R.bad = false) ∧ ∃ m : Nat → State,
        (∀ j < n, Sees (m j) got (lines (m j) (i + j))) ∧
        ∀ q < 32, R.c.maxOf q = ((List.range n).map fun j => sim (m j) (i + j) q).foldl max (r.c.maxOf q)) := by
  induction n generalizing i r with
  | zero =>
    refine ⟨r, rfl, ?_, fun miss => ⟨miss, id, fun _ => s, fun j hj => absurd hj (Nat.not_lt_zero j), fun q _ => rfl⟩⟩
    rw [← h.2.1]
    rfl
  | succ n ih =>
    obtain ⟨y, hy, reads⟩ := token i r h
    obtain ⟨err, core, sub⟩ := h
    have after : Scoring c got (tokenEnd y) := by
      refine ⟨?_, ?_, fun q hq => sub q (reads.sub q hq)⟩
      · exact (show y.2.err = r.err by rw [reads.unit]).trans err
      · have hc : y.2.c = r.c := by rw [reads.unit]
        unfold tokenEnd
        dsimp only
        rw [hc, core]
    obtain ⟨R, hR, unit, rest⟩ := ih (i + 1) (tokenEnd y) after
    have tokens : (tokenEnd y).tokens = r.tokens + 1 := congrArg (· + 1) (show y.2.tokens = r.tokens by rw [reads.unit])
    have start : (tokenEnd y).c.maxima = raiseMaxima r.c.maxima y.1 := by
      show raiseMaxima y.2.c.maxima y.1 = _
      rw [show y.2.c = r.c by rw [reads.unit]]
    refine ⟨R, ?_, ?_, fun miss => ?_⟩
    · unfold SimRes.tokens_from
      rw [hy, Nat.add_assoc, ← Nat.mul_succ, hR]
    · rw [unit, tokens]
      unfold tokenEnd
      rw [reads.unit]
      simp only [Nat.add_assoc, Nat.add_comm 1 n]
    · obtain ⟨miss1, clean1, m, sees, scored⟩ := rest miss
      obtain ⟨u, seen, sims⟩ := reads.scores miss1
      refine ⟨reads.first miss1, fun hb => clean1 (reads.clean miss1 hb), fun j => if j = 0 then u else m (j - 1), fun j hj => ?_, fun q hq => ?_⟩
      · cases j with
        | zero => exact seen
        | succ j => simpa [Nat.add_assoc, Nat.add_comm 1 j] using sees j (by omega)
      · rw [scored q hq, List.range_succ_eq_map, List.map_cons, List.foldl_cons, List.map_map]
        have raised : (tokenEnd y).c.maxOf q = max (r.c.maxOf q) (sim u i q) := by
          unfold CoreSt.maxOf
          rw [start, sims]
          exact maxOf_raise _ _ (bound u i) hq
        rw [raised]
        congr 1
        refine List.map_congr_left fun j _ => ?_
        simp [Nat.add_assoc, Nat.add_comm 1 j]

theorem token_bin1 {a : Nat} {r : SimRes} {y : List Int × SimRes} (err : r.err = none) (seg : y.2.c.seg = none)
    (hy : SimRes.bin1 s g a r = y) : SimRes.token s g false a r = tokenEnd y := by
  unfold SimRes.token
  simp [hy, err, seg, tokenEnd]

theorem token_crv2 {a base : Nat} {rtab : BitVec 32} {r : SimRes} {y : List Int × SimRes} (err : r.err = none) (seg : y.2.c.seg = none)
    (bind : r.c.centroid = some (base, rtab)) (hy : SimRes.crv2 s g base rtab a r = y) : SimRes.token s g true a r = tokenEnd y := by
  unfold SimRes.token
  simp [hy, err, seg, bind, tokenEnd]

end

section
variable {s : State} {g : Nat} {x : SimEnt} {rest : List SimEnt}

theorem bin1_reads {got : List SimLine} {r : SimRes} (sub : ∀ q ∈ r.got, q ∈ got) (a : Nat) :
    TokenReads got (fun _ => dmLines g a 16) (fun u => bin1Similarity r.c.query.toNat (u.rd (dmAddr g a) 16)) r (SimRes.bin1 s g a r) := by
  have seen := see_seen 4 s (dmLines g a 16) r
  have reads := see_reads (k := 4) (s := s) (r := r) (dmLines_apart g a 16)
  unfold SimRes.bin1
  generalize r.see 4 s (dmLines g a 16) = z at seen reads ⊢
  refine ⟨?_, seen.sub, seen.first, fun _ hb => ?_, fun miss => ⟨z.1, fun b hb => ?_, bin1Scores_eq ..⟩⟩
  · exact seen.unit.trans (by rw [seen.unit])
  · exact (show z.2.bad = r.bad by rw [seen.unit]).trans hb
  · obtain ⟨q, hq, addr, val, -⟩ := reads miss b hb
    exact ⟨q, sub q hq, addr, val⟩

theorem rd_head (s : State) (a n j : Nat) (h : j ≤ n) : s.rd a j = s.rd a n % 2 ^ (8 * j) := by
  have part := memRead_eq_natBits s.mem a n 0 j (by omega)
  rwa [Nat.mul_zero, natBits, Nat.pow_zero, Nat.div_one, Nat.add_zero] at part

/-- The centroid row of a token lies in tower SRAM, below every data memory. -/
theorem centAddr_below (hg : g < 12288) {base : Nat} (room : base + 0x80_0040 ≤ 96 * 2 ^ 20) {idx : Nat} (hi : idx < 2 ^ 16) (o : Nat) :
    centAddr g base idx + 128 ≤ dmAddr g o := by
  unfold centAddr tsAddr towerOf dmAddr
  omega

theorem crv2_reads (hg : g < 12288) {got : List SimLine} {r : SimRes} (sub : ∀ q ∈ r.got, q ∈ got) (whole : ∀ q ∈ got, q.bad = false) {base : Nat}
    (room : base + 0x80_0040 ≤ 96 * 2 ^ 20) (rtab : BitVec 32) (a : Nat) :
    TokenReads got
      (fun u => dmLines g a 34 ++ [centAddr g base (u.rd (dmAddr g a) 34 % 2 ^ 16), centAddr g base (u.rd (dmAddr g a) 34 % 2 ^ 16) + 64])
      (fun u => crv2Similarity r.c.query.toNat (u.rd (centAddr g base (u.rd (dmAddr g a) 34 % 2 ^ 16)) 128) rtab.toNat (u.rd (dmAddr g a) 34))
      r (SimRes.crv2 s g base rtab a r) := by
  have seen := see_seen 4 s (dmLines g a 34) r
  have reads := see_reads (k := 4) (s := s) (r := r) (dmLines_apart g a 34)
  unfold SimRes.crv2
  generalize r.see 4 s (dmLines g a 34) = z at seen reads ⊢
  dsimp only
  generalize hra : centAddr g base (z.1.rd (dmAddr g a) 2) = ra
  have seen2 := see_seen 5 z.1 [ra, ra + 64] z.2
  have reads2 := see_reads (k := 5) (s := z.1) (ls := [ra, ra + 64]) (r := z.2) (by simp [LinesApart])
  generalize z.2.see 5 z.1 [ra, ra + 64] = p at seen2 reads2 ⊢
  have below : ∀ o, ra + 128 ≤ dmAddr g o := by
    have idx : z.1.rd (dmAddr g a) 2 < 2 ^ 16 := (memRead_lt ..).trans_eq (by norm_num)
    rw [← hra]
    exact centAddr_below hg room idx
  have kept : ∀ o n, p.1.rd (dmAddr g o) n = z.1.rd (dmAddr g o) n := fun o n => seen2.other _ _ fun b hb => by
    have := below o
    simp only [List.mem_cons, List.not_mem_nil, or_false] at hb
    rcases hb with rfl | rfl <;> omega
  have row : centAddr g base (p.1.rd (dmAddr g a) 34 % 2 ^ 16) = ra := by
    rw [kept, ← hra, rd_head _ _ 34 2 (by norm_num)]
  have clear : p.2.miss = none → p.1.poisoned ra = false ∧ p.1.poisoned (ra + 64) = false := fun miss => by
    obtain ⟨q, hq, -, -, bad⟩ := reads2 miss ra (by simp)
    obtain ⟨q', hq', -, -, bad'⟩ := reads2 miss (ra + 64) (by simp)
    exact ⟨bad.trans (whole q (sub q (seen.sub q hq))), bad'.trans (whole q' (sub q' (seen.sub q' hq')))⟩
  refine ⟨?_, fun q hq => seen.sub q (seen2.sub q hq), fun miss => seen.first (seen2.first miss), fun miss hb => ?_, fun miss => ⟨p.1, ?_, ?_⟩⟩
  · dsimp only
    rw [show p.2 = { r with got := p.2.got, miss := p.2.miss } by rw [seen2.unit, seen.unit]]
  · have bad : p.2.bad = r.bad := by rw [seen2.unit, seen.unit]
    dsimp only
    rw [bad, hb, (clear miss).1, (clear miss).2]
    rfl
  · rw [row]
    intro b hb
    rcases List.mem_append.1 hb with hb | hb
    · obtain ⟨q, hq, addr, val, -⟩ := reads (seen2.first miss) b hb
      obtain ⟨k, -, rfl⟩ := mem_dmLines.1 hb
      exact ⟨q, sub q hq, addr, (kept _ _).trans val⟩
    · obtain ⟨q, hq, addr, val, -⟩ := reads2 miss b hb
      exact ⟨q, sub q (seen.sub q hq), addr, val⟩
  · have codes : p.1.rd (dmAddr g (a + 2)) 32 = natBits (p.1.rd (dmAddr g a) 34) 16 256 := by
      rw [dmAddr_add g (a + 2), ← Nat.add_assoc, ← dmAddr_add g a]
      exact memRead_eq_natBits p.1.mem (dmAddr g a) 34 2 32 (by norm_num)
    have halves : centHalf p.1 ra + centHalf p.1 (ra + 64) * 2 ^ 512 = p.1.rd ra 128 := by
      unfold centHalf
      rw [(clear miss).1, (clear miss).2, if_neg Bool.false_ne_true, if_neg Bool.false_ne_true]
      show _ = memRead p.1.mem ra (64 + 64)
      rw [memRead_add, Nat.mul_comm, show 2 ^ 512 = 256 ^ 64 by rw [show (256 : Nat) = 2 ^ 8 from rfl, ← pow_mul]]
      rfl
    dsimp only
    rw [halves, row]
    exact crv2Scores_eq codes

theorem State.ctr_coreCount (s : State) {g : Nat} (alive : (s.core g).fenced = false) (e n a : Nat) :
    (s.coreCount g e n).ctr a = if a = s.coreCtr g e then s.ctr a + BitVec.ofNat 48 n else s.ctr a := by
  unfold State.coreCount
  by_cases hn : n = 0
  · rw [if_pos (Or.inl hn), hn]
    simp
  · rw [if_neg (by simp [hn, alive])]
    refine (sget_sset ..).trans ?_
    split
    next h => rw [h]; rfl
    next => rfl

theorem simCounts_onlyCore (s : State) (g : Nat) (r : SimRes) : OnlyCore s (s.simCounts g r) g :=
  (((OnlyCore.coreCount s g 18 r.tokens (by norm_num)).trans (.coreCount _ g 19 r.closes (by norm_num))).trans
    (.coreCount _ g 20 r.inserts (by norm_num))).trans (.coreCount _ g 21 r.changes (by norm_num))

theorem core_simCounts (s : State) (g h : Nat) (r : SimRes) : (s.simCounts g r).core h = s.core h := by
  unfold State.simCounts
  simp only [State.core_coreCount]

theorem State.coreCtr_coreCount (s : State) (g e n h k : Nat) : (s.coreCount g e n).coreCtr h k = s.coreCtr h k := by
  unfold State.coreCount
  split <;> rfl

theorem State.coreCtr_inj {s : State} {g j k : Nat} : s.coreCtr g j = s.coreCtr g k ↔ j = k := by
  unfold State.coreCtr
  omega

/-- The unit's counters count (R494). -/
theorem ctr_simCounts (s : State) {g : Nat} (alive : (s.core g).fenced = false) (r : SimRes) :
    (s.simCounts g r).ctr (s.coreCtr g 18) = s.ctr (s.coreCtr g 18) + BitVec.ofNat 48 r.tokens ∧
      (s.simCounts g r).ctr (s.coreCtr g 19) = s.ctr (s.coreCtr g 19) + BitVec.ofNat 48 r.closes := by
  unfold State.simCounts
  constructor
  all_goals
    rw [State.ctr_coreCount _ (by simpa only [State.core_coreCount]), State.ctr_coreCount _ (by simpa only [State.core_coreCount]),
      State.ctr_coreCount _ (by simpa only [State.core_coreCount]), State.ctr_coreCount _ alive]
    simp [State.coreCtr_coreCount, State.coreCtr_inj]

/-! ### The instructions -/

theorem simMsim_run {crv2 : Bool} (hc : (x.f.ta == 14) = crv2) (bound : crv2 = true → (s.core g).centroid ≠ none) (op : x.op = .msim) :
    simRun s g x (s.core g) = SimRes.tokens_from s g crv2 (if crv2 then 34 else 16) (x.ss.toNat / 2 ^ 32 % 2 ^ 16) (x.ss.toNat % 2 ^ 18)
      (.begin x (s.core g)) := by
  have ok : (crv2 && (s.core g).centroid.isNone) = false := by
    cases crv2
    · rfl
    · simpa [Option.isSome_iff_ne_none] using bound rfl
  unfold simRun
  rw [op]
  show simMsim s g x (s.core g) = _
  unfold simMsim natBits
  dsimp only
  rw [hc, ok, if_neg Bool.false_ne_true, Nat.pow_zero, Nat.div_one]

/-- Tokens outside a segment stream that the unit has fetched raise the maxima, and are counted (R194). -/
theorem msim_scores (h : AtHead s g x rest) (op : x.op = .msim) {crv2 : Bool} {size n a : Nat} {lines : State → Nat → List Nat}
    {sim : State → Nat → Nat → Int} (run : simRun s g x (s.core g) = SimRes.tokens_from s g crv2 size n a (.begin x (s.core g)))
    (came : Fetched s g x) (bound : ∀ u r q, -2 ^ 31 ≤ sim u r q ∧ sim u r q < 2 ^ 31)
    (token : ∀ i r, Scoring (s.core g) x.got r → ∃ y, SimRes.token s g crv2 (a + size * i) r = tokenEnd y ∧
      TokenReads x.got (fun u => lines u i) (fun u => sim u i) r y) :
    ∃ (t : State) (m : Nat → State), exec (.msim ⟨g, .clean⟩) s = .next t ∧ (∀ r < n, Sees (m r) x.got (lines (m r) r)) ∧
      (∀ q < 32, (t.core g).maxOf q = ((List.range n).map fun r => sim (m r) r q).foldl max ((s.core g).maxOf q)) ∧
      t.core g = { s.core g with maxima := (t.core g).maxima, simQueue := rest } ∧ OnlyCore s t g ∧
      ((s.core g).fenced = false → t.ctr (s.coreCtr g 18) = s.ctr (s.coreCtr g 18) + BitVec.ofNat 48 n) := by
  obtain ⟨R, hR, unit, scored⟩ := tokens_from_scores bound token n 0 (.begin x (s.core g)) ⟨rfl, rfl, fun q hq => hq⟩
  rw [Nat.mul_zero, Nat.add_zero] at hR
  rw [hR] at run
  have miss : R.miss = none := by rwa [Fetched, run] at came
  obtain ⟨-, clean, m, sees, maxima⟩ := scored miss
  have ends := h.ends run miss (clean rfl) (by rw [unit]; rfl)
  rw [op] at ends
  have core : R.c = { s.core g with maxima := R.c.maxima } := by rw [unit]
  have core' : ∀ k, ((s.setCore g { R.c with simQueue := rest }).simCounts g R).core k = (s.setCore g { R.c with simQueue := rest }).core k :=
    fun k => core_simCounts ..
  refine ⟨_, m, (simExec_clean .msim h.1 s).trans (congrArg _ ends), fun r hr => ?_, fun q hq => ?_, ?_,
    (OnlyCore.setCore s g _).trans (simCounts_onlyCore _ g R), fun alive => ?_⟩
  · simpa using sees r hr
  · rw [core', State.core_setCore_same]
    have raised := maxima q hq
    simp only [Nat.zero_add] at raised
    exact raised
  · rw [core', State.core_setCore_same]
    rw [core]
  · have same : (s.setCore g { R.c with simQueue := rest }).coreCtr g 18 = s.coreCtr g 18 := rfl
    have count := (ctr_simCounts (s.setCore g { R.c with simQueue := rest }) (g := g)
      (by rw [State.core_setCore_same]; rw [core]; exact alive) R).1
    rw [same, State.ctr_setCore] at count
    rw [count, show R.tokens = n by rw [unit]; exact Nat.zero_add n]

theorem advance_waits (fuel : Nat) {r : SimRes} (h : r.c.segRem ≠ 0) : SimRes.advance s g fuel r = r := by
  cases fuel with
  | zero => rfl
  | succ n =>
    unfold SimRes.advance
    cases r.c.seg with
    | none => rfl
    | some e => exact if_pos (Or.inl h)

theorem dmLines_inside {g a n : Nat} (h : a % 64 + n ≤ 64) (hn : 0 < n) : dmLines g a n = [dmAddr g (a / 64 * 64)] := by
  unfold dmLines
  rw [show (a % 64 + n + 63) / 64 = 1 by omega]
  rfl

/-- An entry of a segment stream within the line `v`. -/
theorem segRead_line {v : BitVec 512} {bad : Bool} {a : Nat} (ha : a % 64 + 8 ≤ 64) :
    segRead ((s.wr (dmAddr g (a / 64 * 64)) 64 v.toNat).setPoison (dmAddr g (a / 64 * 64)) bad) g a =
      (BitVec.ofNat 32 (natBits v.toNat (8 * (a % 64)) 32), natBits v.toNat (8 * (a % 64 + 4)) 16,
        decide (natBits v.toNat (8 * (a % 64 + 6)) 8 % 2 = 1)) := by
  have line := rd_line s (dmAddr g (a / 64 * 64)) v bad
  generalize (s.wr (dmAddr g (a / 64 * 64)) 64 v.toNat).setPoison (dmAddr g (a / 64 * 64)) bad = u at line ⊢
  have inside : ∀ o n, a % 64 + o + n ≤ 64 → u.rd (dmAddr g (a + o)) n = natBits v.toNat (8 * (a % 64 + o)) (8 * n) := fun o n hn => by
    rw [← line, dmAddr_add g (a + o), show dmAddr g 0 + (a + o) = dmAddr g (a / 64 * 64) + (a % 64 + o) by
      rw [dmAddr_add g (a / 64 * 64)]; omega]
    exact memRead_eq_natBits _ _ 64 _ _ hn
  unfold segRead
  have first := inside 0 4 (by omega)
  rw [Nat.add_zero, Nat.add_zero] at first
  rw [first, inside 4 2 (by omega), inside 6 1 (by omega)]
  refine congrArg₂ _ rfl (congrArg₂ _ rfl ?_)
  unfold natBit
  rw [Nat.pow_zero, Nat.div_one]
  rfl

/-- dseg makes the first entry of its stream current, if that has tokens (R193). -/
theorem dseg_begins (h : AtHead s g x rest) (op : x.op = .dseg) (align : x.ss.toNat % 2 ^ 18 % 8 = 0) {q : SimLine}
    (hq : x.got.find? (fun y => y.addr == dmAddr g (x.ss.toNat % 2 ^ 18 / 64 * 64)) = some q)
    (tokens : natBits q.val.toNat (8 * (x.ss.toNat % 2 ^ 18 % 64 + 4)) 16 ≠ 0) : exec (.dseg ⟨g, .clean⟩) s = .next (s.setCore g
      { s.core g with
        segAddr := x.ss.toNat % 2 ^ 18, segLeft := x.ss.toNat / 2 ^ 32 % 2 ^ 16,
        seg := some ⟨BitVec.ofNat 32 (natBits q.val.toNat (8 * (x.ss.toNat % 2 ^ 18 % 64)) 32),
          decide (natBits q.val.toNat (8 * (x.ss.toNat % 2 ^ 18 % 64 + 6)) 8 % 2 = 1)⟩,
        segRem := natBits q.val.toNat (8 * (x.ss.toNat % 2 ^ 18 % 64 + 4)) 16, simQueue := rest }) := by
  have whole : natBits x.ss.toNat 0 18 = x.ss.toNat % 2 ^ 18 := by unfold natBits; rw [Nat.pow_zero, Nat.div_one]
  generalize ha : x.ss.toNat % 2 ^ 18 = a at *
  have run : simRun s g x (s.core g) = { SimRes.begin x (s.core g) with
      got := x.got.erase q,
      c := { s.core g with
        segAddr := a, segLeft := x.ss.toNat / 2 ^ 32 % 2 ^ 16,
        seg := some ⟨BitVec.ofNat 32 (natBits q.val.toNat (8 * (a % 64)) 32), decide (natBits q.val.toNat (8 * (a % 64 + 6)) 8 % 2 = 1)⟩,
        segRem := natBits q.val.toNat (8 * (a % 64 + 4)) 16 } } := by
    unfold simRun
    rw [op]
    show simDseg s g x (s.core g) = _
    unfold simDseg
    dsimp only
    rw [whole, dmLines_inside (by omega) (by norm_num), see_one (r := SimRes.begin x (s.core g)) hq]
    dsimp only
    rw [segRead_line (by omega), advance_waits _ tokens]
    rfl
  refine (simExec_clean .dseg h.1 s).trans (congrArg _ ?_)
  rw [← op, h.leaves run rfl ⟨rfl, rfl, rfl, rfl, rfl, rfl⟩]

theorem docScore_eq (c : CoreSt) : docScore c = c.scoreNow := by
  unfold docScore CoreSt.scoreNow CoreSt.maxOf upto
  refine congrArg List.sum (List.map_congr_left fun t _ => ?_)
  rw [sInt_eq_toInt (by norm_num)]

/-- An insertion into a list that has a capacity (R197). -/
theorem insert_kept {r : SimRes} (ok : r.err = none) {i : Nat} (room : (r.c.top i).k ≠ 0) (e : TopEnt) : r.insert i e =
    { r with c := r.c.setTop i ⟨(r.c.top i).k, topInsert (r.c.top i).k (r.c.top i).ents e⟩, inserts := r.inserts + 1,
             changes := r.changes + (if topInsert (r.c.top i).k (r.c.top i).ents e = (r.c.top i).ents then 0 else 1) } := by
  unfold SimRes.insert
  rw [ok]
  dsimp only
  rw [if_neg (by simp), if_neg room]

theorem dclose_run (op : x.op = .dclose) (seg : (s.core g).seg = none) (doc : x.ss.toNat < 2 ^ 32) :
    simRun s g x (s.core g) = (SimRes.start (s.core g)).close (x.ss.setWidth 32) := by
  unfold simRun
  rw [op]
  show simDclose s g x (s.core g) = _
  unfold simDclose natBits
  rw [seg]
  dsimp only
  rw [if_neg (by omega)]

theorem setWidth_doc {w : Word} (h : w.toNat < 2 ^ 32) : w.setWidth 32 = (0xFFFF_FFFF : BitVec 32) ↔ w.toNat = 0xFFFF_FFFF := by
  rw [← BitVec.toNat_inj, BitVec.toNat_setWidth, Nat.mod_eq_of_lt h]
  rfl

/-- dclose with no entry current closes its document (R195). -/
theorem dclose_closes (h : AtHead s g x rest) (op : x.op = .dclose) (seg : (s.core g).seg = none) (doc : x.ss.toNat < 2 ^ 32)
    (real : x.ss.toNat ≠ 0xFFFF_FFFF) (room : ((s.core g).top (s.core g).curTop.toNat).k ≠ 0) :
    ∃ t ents, exec (.dclose ⟨g, .clean⟩) s = .next t ∧ OnlyCore s t g ∧
      ents = topInsert ((s.core g).top (s.core g).curTop.toNat).k ((s.core g).top (s.core g).curTop.toNat).ents
        ⟨BitVec.ofInt 48 (s.core g).scoreNow, x.ss.setWidth 32⟩ ∧
      (∀ q < 32, (t.core g).maxOf q = -2 ^ 31) ∧
      t.core g = { (s.core g).setTop (s.core g).curTop.toNat ⟨((s.core g).top (s.core g).curTop.toNat).k, ents⟩ with
        maxima := (t.core g).maxima, docsClosed := (s.core g).docsClosed + 1, simQueue := rest } ∧
      ((s.core g).fenced = false → t.ctr (s.coreCtr g 19) = s.ctr (s.coreCtr g 19) + 1) := by
  obtain ⟨m, reset⟩ : ∃ m, maximaReset = m := ⟨_, rfl⟩
  generalize hl : (s.core g).top (s.core g).curTop.toNat = l at *
  generalize hents : topInsert l.k l.ents ⟨BitVec.ofInt 48 (s.core g).scoreNow, x.ss.setWidth 32⟩ = ents
  have run : simRun s g x (s.core g) = { SimRes.start (s.core g) with
      c := { (s.core g).setTop (s.core g).curTop.toNat ⟨l.k, ents⟩ with maxima := m, docsClosed := (s.core g).docsClosed + 1 },
      closes := 1, inserts := 1, changes := if ents = l.ents then 0 else 1 } := by
    rw [dclose_run op seg doc]
    unfold SimRes.close
    rw [if_neg (by simp [SimRes.start]), if_neg (fun e => real ((setWidth_doc doc).1 e))]
    dsimp only
    rw [insert_kept rfl (by show ((s.core g).top (s.core g).curTop.toNat).k ≠ 0; rw [hl]; exact room)]
    simp only [SimRes.start, hl, docScore_eq, hents, reset, Nat.zero_add]
    rfl
  have ends := h.ends run rfl rfl rfl
  rw [op] at ends
  refine ⟨_, ents, (simExec_clean .dclose h.1 s).trans (congrArg _ ends), (OnlyCore.setCore s g _).trans (simCounts_onlyCore _ g _), rfl, fun q hq => ?_, ?_, fun alive => ?_⟩
  · rw [core_simCounts, State.core_setCore_same]
    unfold CoreSt.maxOf
    dsimp only
    rw [← reset, maximaReset_word hq]
    decide
  · rw [core_simCounts, State.core_setCore_same]
  · exact (ctr_simCounts (s.setCore g _) (by rw [State.core_setCore_same]; exact alive) _).2

end

/-- Settles O18: token by token for msim, and dseg and dclose by what they read and insert. -/
theorem similarityScoresAndCloses : Obligations.SimilarityScoresAndCloses := by
  unfold Obligations.SimilarityScoresAndCloses
  refine ⟨?msim, ?segments⟩
  case msim =>
    intro s g x rest h op seg c a n scores came
    have outside : ∀ {r : SimRes} {y : List Int × SimRes}, Scoring c x.got r → y.2.c = r.c → y.2.c.seg = none := fun hr hy => by
      rw [hy, hr.2.1]
      exact seg
    refine ⟨fun ta => ?bin1, fun ta base rtab bind align room _ whole => ?crv2⟩
    case bin1 =>
      have run := simMsim_run (s := s) (g := g) (x := x) (crv2 := false) (by rw [ta]; rfl) (fun h => absurd h Bool.false_ne_true) op
      refine msim_scores h op run came (size := 16) (lines := fun _ r => dmLines g (a + 16 * r) 16)
        (sim := fun u r q => bin1Similarity c.query.toNat (u.rd (dmAddr g (a + 16 * r)) 16) q) (fun u r q => bin1Similarity_bound ..) fun i r hr => ?_
      have reads := bin1_reads (s := s) (g := g) hr.2.2 (a + 16 * i)
      rw [show r.c.query = c.query by rw [hr.2.1]] at reads
      exact ⟨_, token_bin1 hr.1 (outside hr (by rw [reads.unit])) rfl, reads⟩
    case crv2 =>
      have run := simMsim_run (s := s) (g := g) (x := x) (crv2 := true) (by rw [ta]; rfl) (fun _ => by rw [bind]; simp) op
      let row := fun (u : State) (r : Nat) => centAddr g base (u.rd (dmAddr g (a + 34 * r)) 34 % 2 ^ 16)
      refine msim_scores h op run came (size := 34) (lines := fun u r => dmLines g (a + 34 * r) 34 ++ [row u r, row u r + 64])
        (sim := fun u r q => crv2Similarity c.query.toNat (u.rd (row u r) 128) rtab.toNat (u.rd (dmAddr g (a + 34 * r)) 34) q)
        (fun u r q => crv2Similarity_bound ..) fun i r hr => ?_
      have reads := crv2_reads (s := s) h.1 hr.2.2 whole room rtab (a + 34 * i)
      rw [show r.c.query = c.query by rw [hr.2.1]] at reads
      exact ⟨_, token_crv2 hr.1 (outside hr (by rw [reads.unit])) (by rw [hr.2.1]; exact bind) rfl, reads⟩
  case segments =>
    intro s g x rest h c a
    refine ⟨fun op align q hq tokens => ?_, fun op seg doc real room => dclose_closes h op seg doc real room⟩
    exact dseg_begins h op align hq tokens

end Sys2Proof.Machine

/-! PROOF. The top-k lists (O19). -/

namespace Sys2Proof.Machine

/-! ### Rank (R122) -/

theorem ranksAbove_iff {a b : TopEnt} :
    ranksAbove a b = true ↔ b.score.toInt < a.score.toInt ∨ a.score.toInt = b.score.toInt ∧ a.doc.toNat < b.doc.toNat := by
  unfold ranksAbove
  rw [Bool.or_eq_true, Bool.and_eq_true, beq_iff_eq, decide_eq_true_iff, decide_eq_true_iff, ← BitVec.toInt_inj]

theorem ranksAbove_trans {a b c : TopEnt} (h : ranksAbove a b = true) (k : ranksAbove b c = true) : ranksAbove a c = true := by
  rw [ranksAbove_iff] at *
  omega

theorem ranksAbove_total {a b : TopEnt} (h : a.doc ≠ b.doc) : ranksAbove a b = true ∨ ranksAbove b a = true := by
  rw [ranksAbove_iff, ranksAbove_iff]
  have : a.doc.toNat ≠ b.doc.toNat := fun e => h (BitVec.eq_of_toNat_eq e)
  omega

/-! ### Insertion (R197) -/

theorem rankInsert_perm (e : TopEnt) (l : List TopEnt) : (rankInsert e l).Perm (e :: l) := by
  induction l with
  | nil => exact .refl _
  | cons x l ih =>
    unfold rankInsert
    split
    · exact .refl _
    · exact (ih.cons x).trans (.swap ..)

/-- The list stands in rank order. -/
abbrev Ranked (l : List TopEnt) : Prop := l.Pairwise fun a b => ranksAbove a b = true

theorem rankInsert_ranked {e : TopEnt} {l : List TopEnt} (h : Ranked l) (new : ∀ y ∈ l, y.doc ≠ e.doc) : Ranked (rankInsert e l) := by
  induction l with
  | nil => exact List.pairwise_singleton ..
  | cons x l ih =>
    obtain ⟨above, rest⟩ := List.pairwise_cons.1 h
    unfold rankInsert
    split
    next first =>
      refine List.pairwise_cons.2 ⟨fun y hy => ?_, h⟩
      rcases List.mem_cons.1 hy with rfl | hy
      · exact first
      · exact ranksAbove_trans first (above y hy)
    next notFirst =>
      refine List.pairwise_cons.2 ⟨fun y hy => ?_, ih rest fun y hy => new y (List.mem_cons_of_mem _ hy)⟩
      rcases List.mem_cons.1 ((rankInsert_perm e l).mem_iff.1 hy) with rfl | hy
      · exact (ranksAbove_total (new x List.mem_cons_self)).resolve_right notFirst
      · exact above y hy

section
variable {k : Nat} {l : List TopEnt} {x : TopEnt}

theorem eq_of_doc (docs : (l.map TopEnt.doc).Nodup) {y z : TopEnt} (hy : y ∈ l) (hz : z ∈ l) (h : z.doc = y.doc) : z = y :=
  List.inj_on_of_nodup_map docs hz hy h

theorem topEnt_eq {y z : TopEnt} (score : y.score.toInt = z.score.toInt) (doc : y.doc = z.doc) : y = z := by
  cases y
  cases z
  rw [TopEnt.mk.injEq]
  exact ⟨BitVec.eq_of_toInt_eq score, doc⟩

/-- Of the old list and the new entry, `y` is its document's best. -/
def BestOf (l : List TopEnt) (x y : TopEnt) : Prop :=
  (y ∈ l ∨ y = x) ∧ ∀ z, z ∈ l ∨ z = x → z.doc = y.doc → z.score.toInt ≤ y.score.toInt

theorem docs_rankInsert (docs : (l.map TopEnt.doc).Nodup) (new : ∀ y ∈ l, y.doc ≠ x.doc) : ((rankInsert x l).map TopEnt.doc).Nodup := by
  refine ((rankInsert_perm x l).map _).nodup_iff.2 (List.nodup_cons.2 ⟨fun h => ?_, docs⟩)
  obtain ⟨y, hy, e⟩ := List.mem_map.1 h
  exact new y hy e

/-- The document is not in the list: the lowest entry gives way where the list is full. -/
theorem topInsert_new (docs : (l.map TopEnt.doc).Nodup) (ranked : Ranked l) (new : ∀ y ∈ l, y.doc ≠ x.doc) :
    let l' := (rankInsert x l).take k
    l'.length ≤ k ∧ (l'.map TopEnt.doc).Nodup ∧ Ranked l' ∧ (∀ y ∈ l', BestOf l x y) ∧
      ∀ y, BestOf l x y → y ∈ l' ∨ l'.length = k ∧ ∀ z ∈ l', ranksAbove z y = true := by
  intro l'
  have order := rankInsert_ranked ranked new
  have sub : l'.Sublist (rankInsert x l) := List.take_sublist ..
  have mem : ∀ y, y ∈ rankInsert x l ↔ y = x ∨ y ∈ l := fun y => by rw [(rankInsert_perm x l).mem_iff, List.mem_cons]
  refine ⟨List.length_take_le .., (docs_rankInsert docs new).sublist (sub.map _), order.sublist sub, fun y hy => ?_, fun y best => ?_⟩
  · have known := (mem y).1 (sub.subset hy)
    refine ⟨known.symm, fun z hz doc => ?_⟩
    rcases known with rfl | old <;> rcases hz with hz | rfl
    · exact absurd doc (new z hz)
    · exact le_rfl
    · rw [eq_of_doc docs old hz doc]
    · exact absurd doc.symm (new y old)
  · have hy : y ∈ l' ++ (rankInsert x l).drop k := by rw [List.take_append_drop]; exact (mem y).2 best.1.symm
    rcases List.mem_append.1 hy with hy | hy
    · exact Or.inl hy
    · have long : k < (rankInsert x l).length := by
        by_contra short
        rw [List.drop_eq_nil_of_le (Nat.le_of_not_lt short)] at hy
        cases hy
      have split := List.take_append_drop k (rankInsert x l) ▸ order
      exact Or.inr ⟨by rw [List.length_take]; omega, fun z hz => (List.pairwise_append.1 split).2.2 z hz y hy⟩

/-- The document is in the list with a lower score: the new entry takes its place. -/
theorem topInsert_better {old : TopEnt} (docs : (l.map TopEnt.doc).Nodup) (room : l.length ≤ k) (ranked : Ranked l) (hold : old ∈ l)
    (doc : old.doc = x.doc) (better : old.score.toInt < x.score.toInt) :
    let l' := rankInsert x (l.filter fun y => !(y.doc == x.doc))
    l'.length ≤ k ∧ (l'.map TopEnt.doc).Nodup ∧ Ranked l' ∧ (∀ y ∈ l', BestOf l x y) ∧ ∀ y, BestOf l x y → y ∈ l' := by
  intro l'
  have sub : (l.filter fun y => !(y.doc == x.doc)).Sublist l := List.filter_sublist
  have new : ∀ y ∈ l.filter fun y => !(y.doc == x.doc), y.doc ≠ x.doc := fun y hy => by simpa using (List.mem_filter.1 hy).2
  have mem : ∀ y, y ∈ l' ↔ y = x ∨ y ∈ l ∧ y.doc ≠ x.doc := fun y => by
    rw [(rankInsert_perm x _).mem_iff, List.mem_cons, List.mem_filter]
    simp
  refine ⟨?_, docs_rankInsert (docs.sublist (sub.map _)) new, rankInsert_ranked (ranked.sublist sub) new, fun y hy => ?_, fun y best => ?_⟩
  · have less := (List.length_filter_lt_length_iff_exists (p := fun y : TopEnt => !(y.doc == x.doc))).2 ⟨old, hold, by simp [doc]⟩
    rw [(rankInsert_perm x _).length_eq, List.length_cons]
    omega
  · rcases (mem y).1 hy with rfl | ⟨hy, other⟩
    · refine ⟨Or.inr rfl, fun z hz e => ?_⟩
      rcases hz with hz | rfl
      · rw [eq_of_doc docs hold hz (e.trans doc.symm)]
        exact better.le
      · exact le_rfl
    · refine ⟨Or.inl hy, fun z hz e => ?_⟩
      rcases hz with hz | rfl
      · rw [eq_of_doc docs hy hz e]
      · exact absurd e.symm other
  · rw [mem]
    refine best.1.symm.imp id fun hy => ⟨hy, fun e => ?_⟩
    have := best.2 x (Or.inr rfl) e.symm
    rw [eq_of_doc docs hold hy (e.trans doc.symm)] at this
    omega

/-- The document is in the list with no lower score: the list stays. -/
theorem topInsert_worse {old : TopEnt} (docs : (l.map TopEnt.doc).Nodup) (hold : old ∈ l) (doc : old.doc = x.doc)
    (worse : x.score.toInt ≤ old.score.toInt) : (∀ y ∈ l, BestOf l x y) ∧ ∀ y, BestOf l x y → y ∈ l := by
  refine ⟨fun y hy => ⟨Or.inl hy, fun z hz e => ?_⟩, fun y best => best.1.elim id fun e => ?_⟩
  · rcases hz with hz | rfl
    · rw [eq_of_doc docs hy hz e]
    · rw [← eq_of_doc docs hold hy (e.symm.trans doc.symm)] at worse
      exact worse
  · subst e
    have := best.2 old (Or.inl hold) doc
    rw [topEnt_eq (le_antisymm worse this) doc.symm]
    exact hold

theorem topInsert_spec (docs : (l.map TopEnt.doc).Nodup) (room : l.length ≤ k) (ranked : Ranked l) :
    (topInsert k l x).length ≤ k ∧ ((topInsert k l x).map TopEnt.doc).Nodup ∧ Ranked (topInsert k l x) ∧
      (∀ y ∈ topInsert k l x, BestOf l x y) ∧
      ∀ y, BestOf l x y → y ∈ topInsert k l x ∨ (topInsert k l x).length = k ∧ ∀ z ∈ topInsert k l x, ranksAbove z y = true := by
  unfold topInsert
  cases h : l.find? fun y => y.doc == x.doc with
  | none => exact topInsert_new docs ranked fun y hy => by simpa using List.find?_eq_none.1 h y hy
  | some old =>
    have hold := List.mem_of_find?_eq_some h
    have doc : old.doc = x.doc := by simpa using List.find?_some h
    dsimp only
    split
    next better =>
      obtain ⟨len, docs', ranked', best, all⟩ := topInsert_better docs room ranked hold doc better
      exact ⟨len, docs', ranked', best, fun y hy => Or.inl (all y hy)⟩
    next worse =>
      obtain ⟨best, all⟩ := topInsert_worse docs hold doc (not_lt.1 worse)
      exact ⟨room, docs, ranked, best, fun y hy => Or.inl (all y hy)⟩

end

/-! ### tkins and tkrd -/

section
variable {s : State} {g : Nat} {x : SimEnt} {rest : List SimEnt}

/-- Inserting entries into a list that has a capacity. -/
theorem foldl_insert (i : Nat) (es : List TopEnt) {r : SimRes} (ok : r.err = none) (room : (r.c.top i).k ≠ 0) :
    ∃ R, es.foldl (fun r x => r.insert i x) r = R ∧
      R = { r with c := { r.c with tops := R.c.tops }, inserts := R.inserts, changes := R.changes } ∧
      R.c.top i = ⟨(r.c.top i).k, es.foldl (topInsert (r.c.top i).k) (r.c.top i).ents⟩ ∧ ∀ j, j ≠ i → R.c.top j = r.c.top j := by
  induction es generalizing r with
  | nil => exact ⟨r, rfl, rfl, rfl, fun _ _ => rfl⟩
  | cons e es ih =>
    have first := insert_kept ok room e
    generalize hr : r.insert i e = r1 at first
    have top : r1.c.top i = ⟨(r.c.top i).k, topInsert (r.c.top i).k (r.c.top i).ents e⟩ := by
      rw [first]
      exact (top_setTop ..).trans (if_pos rfl)
    have others : ∀ j, j ≠ i → r1.c.top j = r.c.top j := fun j hj => by
      rw [first]
      exact (top_setTop ..).trans (if_neg hj)
    obtain ⟨R, hR, unit, list, rest⟩ := ih (r := r1) (by rw [first]; exact ok) (by rw [top]; exact room)
    rw [top] at list
    refine ⟨R, by rw [List.foldl_cons, hr, hR], ?_, list, fun j hj => (rest j hj).trans (others j hj)⟩
    rw [unit, first]
    rfl

theorem regEntries_eq (v : Nat) : regEntries v =
    ((List.range 4).filter fun i => decide (natBits v (128 * i) 96 ≠ 0x8000_0000_0000_0000 + 0xFFFF_FFFF * 2 ^ 64)).map fun i =>
      (⟨BitVec.ofNat 48 (natBits v (128 * i) 96), BitVec.ofNat 32 (natBits v (128 * i) 96 / 2 ^ 64)⟩ : TopEnt) := by
  unfold regEntries upto
  induction List.range 4 with
  | nil => rfl
  | cons i is ih =>
    have entry : regEntry v i = if natBits v (128 * i) 96 = emptyEntry then none
      else some ⟨BitVec.ofNat 48 (natBits v (128 * i) 96), BitVec.ofNat 32 (natBits v (128 * i) 96 / 2 ^ 64)⟩ := rfl
    have empty : emptyEntry = 0x8000_0000_0000_0000 + 0xFFFF_FFFF * 2 ^ 64 := rfl
    rw [List.filterMap_cons, List.filter_cons, entry, ih, empty]
    by_cases h : natBits v (128 * i) 96 = 0x8000_0000_0000_0000 + 0xFFFF_FFFF * 2 ^ 64
    · rw [if_pos h, if_neg (by simp [h])]
    · rw [if_neg h, if_pos (decide_eq_true h)]
      rfl

theorem simTkins_run (op : x.op = .tkins) (lt : x.f.imm5.toNat < 8) : simRun s g x (s.core g) =
    (regEntries x.va.toNat).foldl (fun r e => r.insert x.f.imm5.toNat e) (.start (s.core g)) := by
  unfold simRun
  rw [op]
  show simTkins x (s.core g) = _
  unfold simTkins
  rw [Nat.mod_eq_of_lt lt]

/-- tkins inserts its entries in order (R197). -/
theorem tkins_inserts (h : AtHead s g x rest) (op : x.op = .tkins) (lt : x.f.imm5.toNat < 8) (room : ((s.core g).top x.f.imm5.toNat).k ≠ 0) :
    ∃ t, exec (.tkins ⟨g, .clean⟩) s = .next t ∧ OnlyCore s t g ∧
      (t.core g).top x.f.imm5.toNat = ⟨((s.core g).top x.f.imm5.toNat).k,
        (regEntries x.va.toNat).foldl (topInsert ((s.core g).top x.f.imm5.toNat).k) ((s.core g).top x.f.imm5.toNat).ents⟩ ∧
      (∀ j, j ≠ x.f.imm5.toNat → (t.core g).top j = (s.core g).top j) ∧
      t.core g = { s.core g with tops := (t.core g).tops, simQueue := rest } := by
  obtain ⟨R, hR, unit, list, others⟩ := foldl_insert x.f.imm5.toNat (regEntries x.va.toNat) (r := .start (s.core g)) rfl room
  have run := (simTkins_run (s := s) (g := g) op lt).trans hR
  have ends := h.ends run (by rw [unit]; rfl) (by rw [unit]; rfl) (by rw [unit]; rfl)
  rw [op] at ends
  have core : ((s.setCore g { R.c with simQueue := rest }).simCounts g R).core g = { R.c with simQueue := rest } := by
    rw [core_simCounts, State.core_setCore_same]
  refine ⟨_, (simExec_clean .tkins h.1 s).trans (congrArg _ ends), (OnlyCore.setCore s g _).trans (simCounts_onlyCore _ g R), ?_, fun j hj => ?_, ?_⟩
  · rw [core]; exact list
  · rw [core]; exact others j hj
  · rw [core]
    have frame : R.c = { s.core g with tops := R.c.tops } := by rw [unit]; rfl
    rw [frame]

theorem setWidth_regValue (v : Vec) : (v.setWidth 65536).setWidth 512 = v := by
  ext i hi
  simp

theorem simTkrd_run (op : x.op = .tkrd) : simRun s g x (s.core g) = .start { s.core g with
    v := sset 0 (s.core g).v x.f.a.toNat (tkrdVal (s.core g) x), active := true,
    sb := (s.core g).sb.filter fun b => !(b.dest == .v x.f.a && b.wait == .topk) } := by
  unfold simRun
  rw [op]
  show simTkrd x (s.core g) = _
  unfold simTkrd CoreSt.put
  rw [setWidth_regValue]

theorem TopEnt.bits_lt (y : TopEnt) : y.bits < 2 ^ 128 := by
  unfold TopEnt.bits
  have := (y.score.signExtend 64).isLt
  have := y.doc.isLt
  omega

/-- The bits of the entry at place `p` of a list as tkrd reads it (R198). -/
def placeBits (l : List TopEnt) (p : Nat) : Nat := (l[p]?.map TopEnt.bits).getD emptyEntry

theorem placeBits_lt (l : List TopEnt) (p : Nat) : placeBits l p < 2 ^ 128 := by
  unfold placeBits
  cases l[p]? with
  | none =>
    rw [Option.map_none, Option.getD_none]
    unfold emptyEntry
    norm_num
  | some y =>
    rw [Option.map_some, Option.getD_some]
    exact y.bits_lt

theorem natBits_ofNat_packBits {w : Nat} {xs : List Nat} (h : w * xs.length ≤ 512) {i : Nat} (hi : i < xs.length) :
    natBits (BitVec.ofNat 512 (packBits w xs)).toNat (w * i) w = xs[i] % 2 ^ w := by
  rw [BitVec.toNat_ofNat, Nat.mod_eq_of_lt ((packBits_lt w xs).trans_le (Nat.pow_le_pow_right (by norm_num) h)), natBits_packBits hi]

theorem tkrdVal_ranks {c : CoreSt} (lt : x.f.imm5.toNat < 8) (op : x.f.imm6 = 0) {i : Nat} (hi : i < 4) :
    natBits (tkrdVal c x).toNat (128 * i) 128 = placeBits (c.top x.f.imm5.toNat).ents (x.ss.toNat % 1024 + i) := by
  have value : tkrdVal c x = BitVec.ofNat 512 (packBits 128 ((List.range 4).map fun i =>
      placeBits (c.top x.f.imm5.toNat).ents (x.ss.toNat % 1024 + i))) := by
    have half : x.f.imm6.toNat % 4 = 0 := by rw [op]; rfl
    unfold tkrdVal upto
    rw [half, Nat.mod_eq_of_lt lt]
    dsimp only
    refine congrArg (BitVec.ofNat 512) (congrArg (packBits 128) (List.map_congr_left fun i _ => ?_))
    unfold placeBits
    cases (c.top x.f.imm5.toNat).ents[x.ss.toNat % 1024 + i]? with
    | none => rw [Option.map_none, Option.getD_none]
    | some y => rw [Option.map_some, Option.getD_some]
  rw [value, natBits_ofNat_packBits (by simp) (by simpa using hi)]
  simp only [List.getElem_map, List.getElem_range]
  exact Nat.mod_eq_of_lt (placeBits_lt ..)

theorem tkrdVal_low {c : CoreSt} (op : x.f.imm6 = 1) {i : Nat} (hi : i < 16) :
    natBits (tkrdVal c x).toNat (32 * i) 32 = natBits c.maxima.toNat (32 * i) 32 := by
  have value : tkrdVal c x = c.maxima.setWidth 512 := by unfold tkrdVal; rw [op]; rfl
  rw [value, BitVec.toNat_setWidth, natBits_mod _ _ _ _ (by omega)]

theorem tkrdVal_high {c : CoreSt} (op : x.f.imm6 = 2) {i : Nat} (hi : i < 16) :
    natBits (tkrdVal c x).toNat (32 * i) 32 = natBits c.maxima.toNat (512 + 32 * i) 32 := by
  have value : tkrdVal c x = (c.maxima >>> 512).setWidth 512 := by unfold tkrdVal; rw [op]; rfl
  rw [value, BitVec.toNat_setWidth, natBits_mod _ _ _ _ (by omega), BitVec.toNat_ushiftRight, Nat.shiftRight_eq_div_pow]
  unfold natBits
  rw [Nat.div_div_eq_div_mul, ← pow_add]

theorem tkrdVal_counts {c : CoreSt} (lt : x.f.imm5.toNat < 8) (op : x.f.imm6 = 3) :
    tkrdVal c x = ofLanes 32 [(c.top x.f.imm5.toNat).ents.length, (c.top x.f.imm5.toNat).k, c.curTop.toNat, c.docsClosed.toNat, c.segLeft, c.segRem] := by
  unfold tkrdVal
  rw [op, Nat.mod_eq_of_lt lt]
  rfl

theorem lane_ofLanes {xs : List Nat} (h : xs.length ≤ 16) (i : Nat) : lane 32 (ofLanes 32 xs) i = xs.getD i 0 % 2 ^ 32 := by
  by_cases hi : i < xs.length
  · rw [List.getD_eq_getElem _ _ hi]
    exact natBits_ofNat_packBits (by omega) hi
  · have small := (packBits_lt 32 xs).trans_le (Nat.pow_le_pow_right (by norm_num) (by omega : 32 * xs.length ≤ 32 * i))
    rw [List.getD_eq_default _ _ (by omega)]
    unfold lane ofLanes natBits
    have : (BitVec.ofNat 512 (packBits 32 xs)).toNat < 2 ^ (32 * i) := (Nat.mod_le _ _).trans_lt small
    rw [Nat.div_eq_of_lt this]

end

/-- Settles O19: the insertion by where the document stands in the list, tkins by induction on its entries, tkrd by its value. -/
theorem topLists : Obligations.TopLists := by
  unfold Obligations.TopLists
  refine ⟨fun k l x _ room docs ranked => topInsert_spec docs room ranked, ?_⟩
  intro s g x rest h c k l entry new
  refine ⟨fun op lt room => ?_, fun op lt _ => ?_⟩
  · have inserts := tkins_inserts h op lt room
    rw [regEntries_eq] at inserts
    exact inserts
  · have ends := h.leaves (simTkrd_run op) rfl ⟨rfl, rfl, rfl, rfl, rfl, rfl⟩
    rw [op] at ends
    refine ⟨_, tkrdVal c x, (simExec_clean .tkrd h.1 s).trans (congrArg _ ends), OnlyCore.setCore s g _, State.core_setCore_same .., ?_, ?_, ?_, ?_⟩
    · intro op6 i hi
      rw [tkrdVal_ranks lt op6 hi]
      unfold placeBits
      cases l.ents[x.ss.toNat % 1024 + i]? with
      | none =>
        rw [Option.map_none, Option.getD_none]
        unfold emptyEntry
        rfl
      | some y =>
        rw [Option.map_some, Option.getD_some]
        unfold TopEnt.bits BitVec.signExtend
        rfl
    · exact fun op6 i hi => tkrdVal_low op6 hi
    · exact fun op6 i hi => tkrdVal_high op6 hi
    · intro op6
      have top3 := c.curTop.isLt
      have docs := c.docsClosed.isLt
      rw [tkrdVal_counts lt op6]
      have lanes := fun i => lane_ofLanes (xs := [l.ents.length, l.k, c.curTop.toNat, c.docsClosed.toNat, c.segLeft, c.segRem]) (by simp) i
      refine ⟨lanes 0, lanes 1, (lanes 2).trans ?_, (lanes 3).trans ?_, lanes 4, lanes 5, fun i low _ => (lanes i).trans ?_⟩
      · exact Nat.mod_eq_of_lt (show c.curTop.toNat < 2 ^ 32 by omega)
      · exact Nat.mod_eq_of_lt docs
      · rw [List.getD_eq_default _ _ low, Nat.zero_mod]

end Sys2Proof.Machine

/-! PROOF. The M slot: when a bundle of it stalls, and its run-time errors; errors of the similarity unit (O20). -/

namespace Sys2Proof.Machine

/-! ### What a bundle of the M slot is judged by -/

section
variable {s t : State} {g : Nat} {e : Iss} {o : MOp} {f : MF} {c : CoreSt}

theorem mFault_congr (only : OnlyCore s t g) (i : Nat) (l : List (Nat × Nat)) : mFault t i { c with link := l } o f = mFault s i c o f := by
  rw [only.1]
  cases o <;> rfl

theorem mClearOk_congr (only : OnlyCore s t g) (i h : Nat) (l : List (Nat × Nat)) :
    mClearOk t i h { c with link := l } o f = mClearOk s i h c o f := by
  rw [only.1]
  cases o <;> rfl

theorem waitHeld_congr (only : OnlyCore s t g) (h : Nat) (l : List (Nat × Nat)) :
    waitHeld t h { c with link := l } (.m o f) = waitHeld s h c (.m o f) := by
  rw [only.1]
  cases o <;> rfl

theorem standOf_met (s : State) (e : Iss) : (s.met e).standOf e.g = s.standOf e.g := by rw [(met_spec s e).1.1]; rfl

theorem stand_met (s : State) (e : Iss) (i : Nat) : (s.met e).stand i = s.stand i := by rw [(met_spec s e).1.1]; rfl

theorem inClearing_met (s : State) (e : Iss) (i : Nat) : (s.met e).inClearing i = s.inClearing i := by rw [(met_spec s e).1.1]; rfl

theorem mFault_met (i : Nat) : mFault (s.met e) i ((s.met e).core e.g) o f = mFault s i (s.core e.g) o f := by
  obtain ⟨only, core⟩ := met_spec s e
  rw [core]
  exact mFault_congr only i _

theorem mClearOk_met (i : Nat) : mClearOk (s.met e) i e.g ((s.met e).core e.g) o f = mClearOk s i e.g (s.core e.g) o f := by
  obtain ⟨only, core⟩ := met_spec s e
  rw [core]
  exact mClearOk_congr only i _ _

theorem waitHeld_met : waitHeld (s.met e) e.g ((s.met e).core e.g) (.m o f) = waitHeld s e.g (s.core e.g) (.m o f) := by
  obtain ⟨only, core⟩ := met_spec s e
  rw [core]
  exact waitHeld_congr only _ _

/-! ### Stalls -/

theorem niNeed_le (c : CoreSt) (o : MOp) (f : MF) : niNeed c (.m o f) ≤ 16 := by
  by_cases h : o = .mcst
  · subst h
    exact (List.length_filter_le _ _).trans (by simp [upto])
  · have : niNeed c (.m o f) = if o = .rld ∨ o = .rst ∨ mAtomic o ∨ mReduction o then 1 else 0 := by
      cases o
      case mcst => exact absurd rfl h
      all_goals rfl
    rw [this]
    split <;> omega

theorem niWaits_free {n : Nat} (few : n ≤ 16) (room : c.ni.length ≤ 48) (near : ∀ x ∈ c.ni, c.niNext ≤ x.num + 48) : niWaits c n = false := by
  unfold niWaits
  rw [Bool.and_eq_false_iff]
  refine Or.inr (Bool.or_eq_false_iff.2 ⟨decide_eq_false (by omega), List.any_eq_false.2 fun x hx => ?_⟩)
  have := near x hx
  simpa using by omega

/-- A ready, free instruction of the M slot stalls only for a pending tag, a fence or a flag (R90, R206, R224, R225). -/
theorem stall_m (h : Ready s e (.m o f)) (free : MFree s e o f)
    (tags : ∀ k < 8, natBit (tagMask (.m o f)) k = true → (sget ⟨false, 0⟩ (s.core e.g).tags k).pending = false)
    (wait : waitHeld s e.g (s.core e.g) (.m o f) = none) : stallReasons (s.met e) e.g [.m o f] = [] := by
  obtain ⟨undone, unwaiting, scoreboard, room, near, path⟩ := free
  obtain ⟨-, core⟩ := met_spec s e
  obtain ⟨-, -, -, -, -, -, -, -, -, awake, -, regs, -⟩ := h.met
  have sb : (((s.met e).core e.g).sb.any fun x => ([SlotOp.m o f].flatMap fun o => o.reads ++ o.dests).any fun d => d == x.dest) = false := by
    refine List.any_eq_false.2 fun x hx held => ?_
    obtain ⟨d, hd, he⟩ := List.any_eq_true.1 held
    exact regs x hx (by simpa [← beq_iff_eq.1 he] using hd)
  have need : ([SlotOp.m o f].map sbNeed).sum ≤ 1 := by
    rw [List.map_cons, List.map_nil, List.sum_cons, List.sum_nil]
    unfold sbNeed
    split
    · exact le_rfl
    · split
      · exact le_rfl
      · split <;> norm_num
    · norm_num
    · norm_num
  have places : decide (([SlotOp.m o f].map sbNeed).sum - boolNat ((s.met e).core e.g).waiting.isSome > 0 ∧
      ((s.met e).core e.g).sb.length + boolNat ((s.met e).core e.g).waiting.isSome +
        (([SlotOp.m o f].map sbNeed).sum - boolNat ((s.met e).core e.g).waiting.isSome) > 16) = false := by
    have idle : boolNat ((s.met e).core e.g).waiting.isSome = 0 := by
      rw [core]
      exact congrArg (fun w : Option WaitKind => boolNat w.isSome) unwaiting
    have few : ((s.met e).core e.g).sb.length < 16 := by rw [core]; exact scoreboard
    rw [idle]
    exact decide_eq_false fun ⟨_, excess⟩ => by omega
  have pending : ((upto 8).any fun k => natBit ([SlotOp.m o f].map tagMask).sum k && (sget ⟨false, 0⟩ ((s.met e).core e.g).tags k).pending) = false := by
    rw [core]
    refine List.any_eq_false.2 fun k hk both => ?_
    obtain ⟨asked, held⟩ := Bool.and_eq_true_iff.1 both
    rw [List.map_cons, List.map_nil, List.sum_cons, List.sum_nil, Nat.add_zero] at asked
    rw [tags k (List.mem_range.1 hk) asked] at held
    exact Bool.false_ne_true held
  have link : niWaits ((s.met e).core e.g) ([SlotOp.m o f].map (niNeed ((s.met e).core e.g))).sum = false := by
    rw [core]
    refine niWaits_free ?_ room near
    rw [List.map_cons, List.map_nil, List.sum_cons, List.sum_nil, Nat.add_zero]
    exact niNeed_le _ _ _
  have high : ¬(((s.met e).region (rowRegion e.g)).outHigh = true ∧ [SlotOp.m o f].any usesPath = true) := by
    rintro ⟨full, uses⟩
    rw [path (by simpa using uses)] at full
    exact Bool.false_ne_true full
  have done : ((s.met e).core e.g).done = false := by rw [core]; exact undone
  have waits : ([SlotOp.m o f].any fun x => (waitHeld (s.met e) e.g ((s.met e).core e.g) x).isSome) = false := by
    simp [waitHeld_met, wait]
  unfold stallReasons
  dsimp only
  rw [awake, sb, places, pending, link, done, waits, if_neg high]
  simp [streamHeld, signals]

theorem opErrors_m (g : Nat) : opErrors s g c (.m o f) = (if mFault s (s.standOf g) c o f then [0x11] else []) ++
    (if o = .hxfer ∧ (s.stand (s.standOf g)).copy.hxCore ≠ g then [0x12] else []) ++
    (if s.inClearing (s.standOf g) ∧ !mClearOk s (s.standOf g) g c o f then [0x17] else []) := by
  unfold opErrors
  exact List.append_nil _

/-- The errors that an instruction of the M slot brings by itself (R145). -/
def mErrors (s : State) (g : Nat) (c : CoreSt) (o : MOp) (f : MF) : List Nat :=
  (if mFault s (s.standOf g) c o f then [0x11] else []) ++ (if o = .hxfer ∧ (s.stand (s.standOf g)).copy.hxCore ≠ g then [0x12] else []) ++
    (if s.inClearing (s.standOf g) ∧ !mClearOk s (s.standOf g) g c o f then [0x17] else [])

theorem opErrors_met : opErrors (s.met e) e.g ((s.met e).core e.g) (.m o f) = mErrors s e.g (s.core e.g) o f := by
  rw [opErrors_m, standOf_met, mFault_met, mClearOk_met, stand_met, inClearing_met]
  rfl

theorem Tried.stops_least {all : List SlotOp} (h : Tried s e all) (stall : stallReasons (s.met e) e.g all = [])
    (errors : issueErrors (s.met e) e.g all ≠ []) :
    issueTry (s.met e) e all = issueError (s.met e) e.g ((issueErrors (s.met e) e.g all).foldl min 0xFF) := by
  unfold issueTry
  dsimp only
  rw [inBwait_met, h.awake, stall, if_neg Bool.false_ne_true]
  exact if_pos (.inr ⟨rfl, errors⟩)

theorem waitHeld_none (hf : o = .fence → fenceClear c f = true) (hw : o = .wflag → wflagMet s g c f = true) :
    waitHeld s g c (.m o f) = none := by
  cases o
  case fence => exact if_pos (hf rfl)
  case wflag => exact if_pos (by rw [hw rfl, Bool.or_true])
  all_goals rfl

/-- An instruction of the M slot with an error does not issue: its core stops, and its stand takes the least of its errors. -/
theorem mOp_stops {i : Instr} (hi : i.slotOp = some (e, .m o f)) (clean : eccClean i = true) (h : Ready s e (.m o f)) (free : MFree s e o f)
    (tags : ∀ k : BitVec 3, TagFree (s.core e.g) k) (wait : waitHeld s e.g (s.core e.g) (.m o f) = none)
    (errors : mErrors s e.g (s.core e.g) o f ≠ []) :
    exec i s = .next (((s.met e).setCore e.g { (s.met e).core e.g with staged := [], halted := true }).standFatal (s.standOf e.g)
      { ErrInfo.plain 0 ((mErrors s e.g (s.core e.g) o f).foldl min 0xFF) with
        tile := some (tileOf e.g), site := some (siteOf e.g), gcore := some e.g, index := some (s.core e.g).pc }) := by
  have staged : (s.core e.g).staged = [] := h.2.2.2.2.2.2.2.1
  have stall := stall_m h free (fun k hk _ => by
    have := tags (BitVec.ofNat 3 k)
    rwa [TagFree, BitVec.toNat_ofNat, Nat.mod_eq_of_lt hk] at this) wait
  have all : issueErrors (s.met e) e.g [.m o f] = mErrors s e.g (s.core e.g) o f := by
    have inside : ((s.met e).core e.g).pc < ((s.met e).core e.g).progLen := h.met.2.2.2.2.2.2.2.2.2.2.1
    unfold issueErrors
    simp only [early_none _ e _ h.met, List.flatMap_cons, List.flatMap_nil, List.append_nil, Bool.false_eq_true, if_false, opErrors_met]
    rw [if_neg fun past => absurd inside (Nat.not_lt.2 past.1), List.nil_append]
  have pc : ((s.met e).core e.g).pc = (s.core e.g).pc := by rw [(met_spec s e).2]
  rw [exec_slotOp hi clean, h.tried.issueOps_eq (by rw [staged]; rfl), h.tried.stops_least stall (by rw [all]; exact errors), all]
  unfold issueError
  dsimp only
  rw [pc, standOf_met]

end

/-! ### The address rules of the core's own tower (R203, R204, R208) -/

theorem ea_eq (c : CoreSt) (f : MF) : ea c f = c.sr f.a + BitVec.ofInt 64 f.imm.toInt := rfl

theorem bool_or_false {a b : Bool} : (a || b) = false ↔ a = false ∧ b = false := Bool.or_eq_false_iff

section
variable {s : State} {st : Nat} {c : CoreSt} {f : MF}

theorem mFault_data {o : MOp} (ho : o = .ld ∨ o = .st ∨ o = .wflag ∨ o = .vld ∨ o = .vst) : mFault s st c o f = false ↔
    (ea c f).toNat < 2 ^ 18 ∧ (ea c f).toNat % wBytes f.w = 0 := by
  have rule : mFault s st c o f = (decide ((ea c f).toNat ≥ dmBytes) || decide ((ea c f).toNat % wBytes f.w ≠ 0)) := by
    rcases ho with rfl | rfl | rfl | rfl | rfl <;> rfl
  rw [rule, Bool.or_eq_false_iff, decide_eq_false_iff_not, decide_eq_false_iff_not, Nat.not_le, not_not]
  rfl

theorem mFault_tower {o : MOp} (ho : o = .tsld ∨ o = .tsst) : mFault s st c o f = false ↔
    (ea c f).toNat < 96 * 2 ^ 20 ∧ (ea c f).toNat % 64 = 0 := by
  have rule : mFault s st c o f = (decide ((ea c f).toNat ≥ towerBytes) || decide ((ea c f).toNat % 64 ≠ 0)) := by
    rcases ho with rfl | rfl <;> rfl
  rw [rule, Bool.or_eq_false_iff, decide_eq_false_iff_not, decide_eq_false_iff_not, Nat.not_le, not_not]
  rfl

theorem moveLenOk_iff {b max : Nat} : moveLenOk b max = true ↔ b < 2 ^ 33 ∧ b % 2 ^ 32 % 64 = 0 ∧ 64 ≤ b % 2 ^ 32 ∧ b % 2 ^ 32 ≤ max := by
  unfold moveLenOk
  simp only [Bool.and_eq_true, decide_eq_true_eq]
  omega

theorem mFault_bmov : mFault s st c .bmov f = false ↔ (c.sr f.b).toNat < 2 ^ 33 ∧ (c.sr f.b).toNat % 2 ^ 32 % 64 = 0 ∧
    64 ≤ (c.sr f.b).toNat % 2 ^ 32 ∧ (c.sr f.b).toNat % 2 ^ 32 ≤ 262144 ∧ (c.sr f.d).toNat % 64 = 0 ∧
    (c.sr f.d).toNat + (c.sr f.b).toNat % 2 ^ 32 ≤ 2 ^ 18 ∧ (ea c f).toNat % 64 = 0 ∧ (ea c f).toNat + (c.sr f.b).toNat % 2 ^ 32 ≤ 96 * 2 ^ 20 := by
  have rule : mFault s st c .bmov f = (!moveLenOk (c.sr f.b).toNat 262144 || decide ((c.sr f.d).toNat ≥ dmBytes) ||
    decide ((c.sr f.d).toNat % 64 ≠ 0) || decide ((ea c f).toNat % 64 ≠ 0) || decide ((ea c f).toNat + (c.sr f.b).toNat % 2 ^ 32 > towerBytes) ||
      decide ((c.sr f.d).toNat + (c.sr f.b).toNat % 2 ^ 32 > dmBytes)) := rfl
  have dm : dmBytes = 2 ^ 18 := rfl
  have tower : towerBytes = 96 * 2 ^ 20 := rfl
  rw [rule, dm, tower]
  simp only [Bool.or_eq_false_iff, Bool.not_eq_false', moveLenOk_iff, decide_eq_false_iff_not]
  omega

end

/-! ### Errors of the similarity unit (R196, R197, R201) -/

section
variable {s : State} {g : Nat} {x : SimEnt} {rest : List SimEnt}

theorem insert_refused {r : SimRes} (ok : r.err = none) {i : Nat} (full : (r.c.top i).k = 0) (e : TopEnt) :
    r.insert i e = { r with err := some 0x10 } := by
  unfold SimRes.insert
  rw [ok]
  dsimp only
  rw [if_neg (by simp), if_pos full]

theorem insert_stopped {r : SimRes} (stopped : r.err.isSome) (i : Nat) (e : TopEnt) : r.insert i e = r := if_pos stopped

theorem foldl_insert_stopped (i : Nat) (es : List TopEnt) {r : SimRes} (stopped : r.err.isSome) :
    es.foldl (fun r x => r.insert i x) r = r := by
  induction es with
  | nil => rfl
  | cons e es ih => rw [List.foldl_cons, insert_stopped stopped, ih]

theorem tkins_fails (op : x.op = .tkins) (lt : x.f.imm5.toNat < 8) (full : ((s.core g).top x.f.imm5.toNat).k = 0)
    (some_entry : natBits x.va.toNat 0 96 ≠ 0x8000_0000_0000_0000 + 0xFFFF_FFFF * 2 ^ 64) :
    simRun s g x (s.core g) = { SimRes.start (s.core g) with err := some 0x10 } := by
  have entries : ∃ e es, regEntries x.va.toNat = e :: es := by
    rw [regEntries_eq, List.range_succ_eq_map, List.filter_cons, Nat.mul_zero, if_pos (by simpa using some_entry), List.map_cons]
    exact ⟨_, _, rfl⟩
  obtain ⟨e, es, entries⟩ := entries
  rw [simTkins_run op lt, entries, List.foldl_cons, insert_refused rfl full, foldl_insert_stopped _ _ rfl]

theorem dclose_refused (op : x.op = .dclose) (seg : (s.core g).seg = none) (no_doc : x.ss.toNat = 0xFFFF_FFFF ∨ 2 ^ 32 ≤ x.ss.toNat) :
    simRun s g x (s.core g) = { SimRes.start (s.core g) with err := some 0x10 } := by
  rcases no_doc with none | long
  · rw [dclose_run op seg (by omega)]
    unfold SimRes.close
    rw [if_neg (by simp [SimRes.start]), if_pos ((setWidth_doc (by omega)).2 none)]
  · have := x.ss.isLt
    unfold simRun
    rw [op]
    show simDclose s g x (s.core g) = _
    unfold simDclose natBits
    rw [seg]
    exact if_pos (by omega)

theorem simExec_stops {o : QOp} (h : AtHead s g x rest) (op : x.op = o) {code : Nat}
    (run : simRun s g x (s.core g) = { SimRes.start (s.core g) with err := some code }) : simExec o ⟨g, .clean⟩ s =
      .next ((s.setCore g { s.core g with simStopped := true }).standFatal (s.standOf g) (simError g x code none)) := by
  subst op
  exact (simExec_clean _ h.1 s).trans (congrArg _ (h.stops run))

end

/-- Settles O20: each error by the branch of the unit or of the issue that raises it. -/
theorem coreErrors : Obligations.CoreErrors := by
  unfold Obligations.CoreErrors
  refine ⟨?unit, ?memory, ?rules⟩
  case unit =>
    intro s g x rest h c k stops
    refine ⟨fun op lt full some_entry => ?_, fun op seg doc => ?_, fun op seg doc => ?_, fun op lt excess => ?_⟩
    · exact simExec_stops h op (tkins_fails op lt full some_entry)
    · exact simExec_stops h op (dclose_refused op seg (Or.inl doc))
    · exact simExec_stops h op (dclose_refused op seg (Or.inr doc))
    · refine simExec_stops h op ?_
      unfold simRun
      rw [op]
      exact (simTkcfg_capacity lt c).trans (if_pos excess)
  case memory =>
    intro s i e o f hi clean c st bad core clear ready free tags fence wflag wrong
    have errors : mErrors s e.g (s.core e.g) o f = (if bad then [0x11] else []) ++ (if core then [0x12] else []) ++ (if clear then [0x17] else []) := by
      unfold mErrors
      simp only [bad, core, clear, st, c, decide_eq_true_eq, Bool.and_eq_true]
    have stops := mOp_stops hi clean ready free tags (waitHeld_none fence wflag) (by
      rw [errors]
      rcases wrong with h | h | h <;> simp [h])
    have least : ((if bad then [0x11] else []) ++ (if core then [0x12] else []) ++ (if clear then [0x17] else [])).foldl min 0xFF =
        if bad then 0x11 else if core then 0x12 else 0x17 := by
      cases hb : bad <;> cases hc : core <;> cases hl : clear <;> simp_all
    rw [errors, least] at stops
    exact stops
  case rules =>
    intro s st c f a b d n
    refine ⟨fun o ho w => ?_, fun o ho w => ?_, fun o ho => ?_, mFault_bmov⟩
    · have size : wBytes f.w = 2 ^ f.w.toNat := if_neg fun h => by rw [h] at w; exact absurd w (by decide)
      rw [mFault_data (by simp at ho; tauto), size]
      rfl
    · have size : wBytes f.w = 64 := if_pos w
      rw [mFault_data (by simp at ho; tauto), size]
      rfl
    · exact mFault_tower (by simpa using ho)

end Sys2Proof.Machine

/-! PROOF. Loads and stores of the core's own data memory (O21). -/

namespace Sys2Proof.Machine

section
variable {s : State} {e : Iss} {i : Instr} {o : MOp} {f : MF}

/-- A legal M-slot operation has a width of its own (R144). -/
theorem Ready.mValue (h : Ready s e (.m o f)) : mValueOk o f = true := by
  obtain ⟨-, -, -, -, -, -, -, -, legal, -⟩ := h
  by_contra bad
  unfold bundleBreach SlotOp.breach at legal
  cases hu : mUnused o f <;> simp_all

/-- A ready M-slot operation that neither stalls nor meets an error issues; `s'` is the state in which what it does outside its core is done. -/
theorem mOp_issuesIn {s' : State} {c : CoreSt} {ws ps : List Pend} (h : Ready s e (.m o f)) (hi : exec i s = issueOps s e [.m o f])
    (stall : stallReasons (s.met e) e.g [.m o f] = []) (errors : mErrors s e.g (s.core e.g) o f = [])
    (outside : OnlyCore s' (mApply (issueBase (s.met e) e [.m o f]) e.g o f) e.g)
    (core : (mApply (issueBase (s.met e) e [.m o f]) e.g o f).core e.g = c.left ps ((s.met e).core e.g).link)
    (pc : c.pc = (s.core e.g).pc) (loops : c.loops = (s.core e.g).loops) (delay : c.delay = (s.core e.g).delay)
    (regs : c.s = (s.core e.g).s) (hj : Joins c ws ps) : IssuesIn s s' i e (.m o f) c ws :=
  h.issuesIn hi stall (opErrors_met.trans errors) outside core pc loops delay regs hj

theorem mErrors_none (fault : mFault s (s.standOf e.g) (s.core e.g) o f = false)
    (engine : o = .hxfer → (s.stand (s.standOf e.g)).copy.hxCore = e.g)
    (clear : s.inClearing (s.standOf e.g) = true → mClearOk s (s.standOf e.g) e.g (s.core e.g) o f = true) :
    mErrors s e.g (s.core e.g) o f = [] := by
  unfold mErrors
  rw [fault, if_neg Bool.false_ne_true, if_neg fun hx => hx.2 (engine hx.1), if_neg fun hc => by simp [clear hc.1] at hc]
  rfl

/-- The operations on the core's own data memory stall for nothing once the bundle is ready, before beat done. -/
theorem stall_data (h : Ready s e (.m o f)) (ho : o = .ld ∨ o = .st ∨ o = .vld ∨ o = .vst) (undone : (s.core e.g).done = false) :
    stallReasons (s.met e) e.g [.m o f] = [] := by
  obtain ⟨-, -, -, -, -, -, -, -, -, awake, -, regs, -⟩ := h.met
  have done : ((s.met e).core e.g).done = false := by rw [(met_spec s e).2]; exact undone
  have sb : (((s.met e).core e.g).sb.any fun x => ([SlotOp.m o f].flatMap fun o => o.reads ++ o.dests).any fun d => d == x.dest) = false := by
    refine List.any_eq_false.2 fun x hx held => ?_
    obtain ⟨d, hd, he⟩ := List.any_eq_true.1 held
    exact regs x hx (by simpa [← beq_iff_eq.1 he] using hd)
  unfold stallReasons
  dsimp only
  rw [sb, awake, done]
  rcases ho with rfl | rfl | rfl | rfl
  all_goals simp [sbNeed, mReplyDest, mAtomic, tagMask, niNeed, niWaits, mReduction, waitHeld, natBit, upto, usesPath, signals, streamHeld]

theorem wBytes_scalar {w : BitVec 3} (h : w.toNat ≤ 3) : wBytes w = 2 ^ w.toNat := if_neg fun e => by rw [e] at h; exact absurd h (by decide)

theorem wBytes_vector {w : BitVec 3} (h : w.toNat = 4) : wBytes w = 64 := if_pos (BitVec.eq_of_toNat_eq h)

theorem issueBase_mem (s : State) (e : Iss) (ops : List SlotOp) : (issueBase (s.met e) e ops).mem = s.mem := (issueBase_onlyCore s e ops).mem

/-- A write of data memory beside what a bundle changes in its core. -/
theorem OnlyCore.wr {s t : State} {g : Nat} (h : OnlyCore s t g) (a n v : Nat) : OnlyCore { s with mem := memWrite s.mem a n v } (t.wr a n v) g := by
  obtain ⟨frame, cores, ctrs, regions⟩ := h
  refine ⟨?_, cores, ctrs, regions⟩
  unfold State.wr
  rw [frame]

theorem stores_memWrite (m : List Host.Cell) (a n v : Nat) : Stores m (memWrite m a n v) a n v :=
  ⟨memRead_memWrite .., fun _ out => memGet_memWrite_out _ _ _ _ out⟩

theorem data_errors (ho : o = .ld ∨ o = .st ∨ o = .vld ∨ o = .vst) (inside : (ea (s.core e.g) f).toNat < 2 ^ 18)
    (align : (ea (s.core e.g) f).toNat % wBytes f.w = 0) : mErrors s e.g (s.core e.g) o f = [] := by
  refine mErrors_none ((mFault_data (by tauto)).2 ⟨inside, align⟩) (fun h => ?_) (fun _ => ?_)
  · rcases ho with rfl | rfl | rfl | rfl <;> cases h
  · rcases ho with rfl | rfl | rfl | rfl <;> rfl

/-- A ready M-slot operation whose effect stays within its core. -/
theorem mOp_issues {c : CoreSt} {ws ps : List Pend} (h : Ready s e (.m o f)) (hi : exec i s = issueOps s e [.m o f])
    (stall : stallReasons (s.met e) e.g [.m o f] = []) (errors : mErrors s e.g (s.core e.g) o f = [])
    (apply : ∀ (t : State) l, OnlyCore s t e.g → t.core e.g = (s.core e.g).issuing l → mApply t e.g o f = t.setCore e.g (c.left ps l))
    (pc : c.pc = (s.core e.g).pc) (loops : c.loops = (s.core e.g).loops) (delay : c.delay = (s.core e.g).delay)
    (regs : c.s = (s.core e.g).s) (hj : Joins c ws ps) : Issues s i e (.m o f) c ws := by
  have only := issueBase_onlyCore s e [.m o f]
  have does := apply _ _ only (issueBase_core s e [.m o f])
  refine mOp_issuesIn h hi stall errors ?_ ?_ pc loops delay regs hj
  · rw [does]
    exact only.trans (OnlyCore.setCore _ _ _)
  · rw [does, State.core_setCore_same]

/-- A store of its own data memory by a core. -/
theorem data_store_issues {n v : Nat} (h : Ready s e (.m o f)) (hi : exec i s = issueOps s e [.m o f]) (ho : o = .st ∨ o = .vst)
    (undone : (s.core e.g).done = false) (inside : (ea (s.core e.g) f).toNat < 2 ^ 18) (align : (ea (s.core e.g) f).toNat % wBytes f.w = 0)
    (apply : ∀ (t : State) l, t.core e.g = (s.core e.g).issuing l → mApply t e.g o f = t.wr (dmAddr e.g (ea (s.core e.g) f).toNat) n v) :
    ∃ m, Stores s.mem m (dmAddr e.g (ea (s.core e.g) f).toNat) n v ∧ IssuesIn s { s with mem := m } i e (.m o f) (s.core e.g) [] := by
  have does := apply (issueBase (s.met e) e [.m o f]) _ (issueBase_core s e _)
  refine ⟨_, stores_memWrite .., mOp_issuesIn h hi (stall_data h (by tauto) undone) (data_errors (by tauto) inside align) ?_ ?_ rfl rfl rfl rfl
    (.nil h.ordered)⟩
  · rw [does]
    exact (issueBase_onlyCore s e [.m o f]).wr _ n v
  · rw [does]
    exact issueBase_core s e [.m o f]

end

/-- Settles O21: the four accesses act on the core's own bytes alone. -/
theorem dataMemoryAccesses : Obligations.DataMemoryAccesses := by
  unfold Obligations.DataMemoryAccesses
  intro s e f c a n ok
  have narrow : (o : MOp) → (o = .ld ∨ o = .st) → Ready s e (.m o f) → wBytes f.w = n := fun o ho h => by
    have legal := h.mValue
    refine wBytes_scalar ?_
    rcases ho with rfl | rfl <;> simp [mValueOk] at legal <;> exact legal.1
  have wide : (o : MOp) → (o = .vld ∨ o = .vst) → Ready s e (.m o f) → wBytes f.w = 64 := fun o ho h => by
    have legal := h.mValue
    refine wBytes_vector ?_
    rcases ho with rfl | rfl <;> simp [mValueOk] at legal <;> exact legal.1
  refine ⟨fun ⟨h, undone, inside⟩ align => ?ld, fun ⟨h, undone, inside⟩ align => ?vld, fun ⟨h, undone, inside⟩ align => ?st,
    fun ⟨h, undone, inside⟩ align => ?vst⟩
  case ld =>
    have size := narrow .ld (.inl rfl) h
    refine mOp_issues h rfl (stall_data h (.inl rfl) undone) (data_errors (.inl rfl) inside (by rw [size]; exact align)) (fun t l only core => ?_)
      rfl rfl rfl rfl (.resS h.ordered _ _ _)
    unfold mApply
    dsimp only
    rw [core, size, CoreSt.pushS_eq, State.rd, only.mem]
    rfl
  case vld =>
    have size := wide .vld (.inl rfl) h
    refine mOp_issues h rfl (stall_data h (by tauto) undone) (data_errors (by tauto) inside (by rw [size]; exact align)) (fun t l only core => ?_)
      rfl rfl rfl rfl (.one h.ordered _)
    unfold mApply
    dsimp only
    rw [core, State.rd, only.mem]
    rfl
  case st =>
    have size := narrow .st (.inr rfl) h
    refine data_store_issues h rfl (.inl rfl) undone inside (by rw [size]; exact align) fun t l core => ?_
    unfold mApply
    dsimp only
    rw [core, size]
    rfl
  case vst =>
    have size := wide .vst (.inr rfl) h
    refine data_store_issues h rfl (.inr rfl) undone inside (by rw [size]; exact align) fun t l core => ?_
    unfold mApply
    dsimp only
    rw [core]
    rfl

end Sys2Proof.Machine

/-! PROOF. Tower SRAM accesses of a core, and the completion of its moves (O22). -/

namespace Sys2Proof.Machine

/-! ### Tower SRAM in issue order (R207) -/

theorem foldl_eq_self {α β : Type} {f : α → β → α} {l : List β} {a : α} (h : ∀ b ∈ l, f a b = a) : l.foldl f a = a := by
  induction l with
  | nil => rfl
  | cons b l ih => rw [List.foldl_cons, h b List.mem_cons_self, ih fun x hx => h x (List.mem_cons_of_mem _ hx)]

/-- Folding over places of which only `l` acts. -/
theorem foldl_only {α : Type} {f : α → Nat → α} {n l : Nat} (hl : l < n) (a : α) (h : ∀ k ≠ l, ∀ b, f b k = b) : (upto n).foldl f a = f a l := by
  obtain ⟨r, rfl⟩ := Nat.exists_eq_add_of_lt hl
  rw [upto, Nat.add_assoc, List.range_add, List.foldl_append, foldl_eq_self fun k hk => h k (Nat.ne_of_lt (List.mem_range.1 hk)) _,
    List.range_succ_eq_map, List.map_cons, List.foldl_cons, Nat.add_zero]
  refine foldl_eq_self fun k hk => h k ?_ _
  obtain ⟨j, hj, rfl⟩ := List.mem_map.1 hk
  obtain ⟨i, -, rfl⟩ := List.mem_map.1 hj
  omega

section
variable {s : State} {g : Nat}

/-- Block moves that share no line with an access do not come before it. -/
theorem towerInOrder_apart {a n : Nat} (h : (s.core g).Apart a n) : towerInOrder s g a n = s := by
  refine foldl_eq_self fun m hm => ?_
  rcases h m hm with host | lines
  · rw [if_pos host]
  · split
    · rfl
    · refine foldl_eq_self fun l hl => if_pos ?_
      have := lines l (List.mem_range.1 hl)
      omega

/-- A write of memory and poison beside what a bundle changes in its core. -/
theorem OnlyCore.store {s t : State} {g : Nat} (h : OnlyCore s t g) (a v : Nat) :
    OnlyCore { s with mem := memWrite s.mem a 64 v, poison := sset false s.poison (a / 64) false } (t.store a 64 v) g := by
  obtain ⟨frame, cores, ctrs, regions⟩ := h
  have hs : t.store a 64 v = (t.setPoison a false).wr a 64 v := if_pos (by norm_num)
  rw [hs]
  refine ⟨?_, cores, ctrs, regions⟩
  unfold State.wr State.setPoison
  rw [frame]

theorem replaces_sset {α : Type} [DecidableEq α] (z : α) (m : SMap α) (k : Nat) (v : α) : Replaces z m (sset z m k v) k v :=
  ⟨(sget_sset ..).trans (if_pos rfl), fun _ hj => (sget_sset ..).trans (if_neg hj)⟩

end

/-! ### Tags -/

theorem natBit_two_pow {n k : Nat} (h : natBit (2 ^ n) k = true) : k = n := by
  have : (2 ^ n).testBit k = true := by
    unfold natBit at h
    simpa [Nat.testBit_eq_decide_div_mod_eq] using h
  rw [Nat.testBit_two_pow] at this
  exact (of_decide_eq_true this).symm

section
variable {s : State} {e : Iss} {i : Instr} {o : MOp} {f : MF}

/-- An instruction that takes one tag finds it free. -/
theorem tags_one {c : CoreSt} (mask : tagMask (.m o f) = 2 ^ f.mt.toNat) (free : TagFree c f.mt) :
    ∀ k < 8, natBit (tagMask (.m o f)) k = true → (sget ⟨false, 0⟩ c.tags k).pending = false := fun k _ hk => by
  rw [mask] at hk
  rw [natBit_two_pow hk]
  exact free

theorem tags_none {c : CoreSt} (mask : tagMask (.m o f) = 0) :
    ∀ k < 8, natBit (tagMask (.m o f)) k = true → (sget ⟨false, 0⟩ c.tags k).pending = false := fun k _ hk => by
  rw [mask] at hk
  simp [natBit] at hk

/-! ### tsld and tsst -/

theorem mOp_errors (fault : mFault s (s.standOf e.g) (s.core e.g) o f = false) (ho : o ≠ .hxfer)
    (clear : s.inClearing (s.standOf e.g) = true → mClearOk s (s.standOf e.g) e.g (s.core e.g) o f = true) :
    mErrors s e.g (s.core e.g) o f = [] := mErrors_none fault (fun h => absurd h ho) clear

theorem standOf_of_onlyCore {s t : State} {g : Nat} (h : OnlyCore s t g) (k : Nat) : t.standOf k = s.standOf k := by rw [h.1]; rfl

theorem stand_of_onlyCore {s t : State} {g : Nat} (h : OnlyCore s t g) (k : Nat) : t.stand k = s.stand k := by rw [h.1]; rfl

theorem rd_of_onlyCore {s t : State} {g : Nat} (h : OnlyCore s t g) (a n : Nat) : t.rd a n = s.rd a n := by rw [h.1]; rfl

theorem poisoned_of_onlyCore {s t : State} {g : Nat} (h : OnlyCore s t g) (a : Nat) : t.poisoned a = s.poisoned a := by rw [h.1]; rfl

theorem tsld_issues (h : MReady s e .tsld f) (apart : (s.core e.g).Apart (tsAddr (towerOf e.g) (ea (s.core e.g) f).toNat) 1) :
    Issues s (.tsld e f .clean) e (.m .tsld f) { s.core e.g with sb := (s.core e.g).sb ++ [⟨.v f.d,
      .tower (if s.poisoned (tsAddr (towerOf e.g) (ea (s.core e.g) f).toNat) then 0
          else BitVec.ofNat 512 (s.rd (tsAddr (towerOf e.g) (ea (s.core e.g) f).toNat) 64))
        (s.poisoned (tsAddr (towerOf e.g) (ea (s.core e.g) f).toNat)) (s.core e.g).pc, none⟩] } [] := by
  obtain ⟨ready, free, fault⟩ := h
  refine mOp_issues ready (exec_slotOp rfl rfl) (stall_m ready free (tags_none rfl) rfl) (mOp_errors fault nofun fun _ => rfl)
    (fun t l only core => ?_) rfl rfl rfl rfl (.nil ready.ordered)
  show tsldIssue t e.g f = _
  have place : ea (t.core e.g) f = ea (s.core e.g) f := by rw [core]; rfl
  unfold tsldIssue
  dsimp only
  rw [place, towerInOrder_apart (by rw [core]; exact apart), rd_of_onlyCore only, poisoned_of_onlyCore only, core]
  rfl

theorem tsst_issues (h : MReady s e .tsst f) (tag : TagFree (s.core e.g) f.mt)
    (apart : (s.core e.g).Apart (tsAddr (towerOf e.g) (ea (s.core e.g) f).toNat) 1) :
    IssuesIn s { s with
        mem := memWrite s.mem (tsAddr (towerOf e.g) (ea (s.core e.g) f).toNat) 64 ((s.core e.g).vr f.v).toNat,
        poison := sset false s.poison (tsAddr (towerOf e.g) (ea (s.core e.g) f).toNat / 64) false } (.tsst e f) e (.m .tsst f)
      ((s.core e.g).taking f.mt ⟨f.mt, false, true, BitVec.ofNat 64 (tsAddr (towerOf e.g) (ea (s.core e.g) f).toNat), 0, 0, [], [], [], 0,
        (s.stand (s.standOf e.g)).beat, 0, false, (s.core e.g).pc⟩) [] := by
  obtain ⟨ready, free, fault⟩ := h
  have only := issueBase_onlyCore s e [.m .tsst f]
  have core := issueBase_core s e [.m .tsst f]
  generalize hb : issueBase (s.met e) e [.m .tsst f] = b at only core
  have place : ea (b.core e.g) f = ea (s.core e.g) f := by rw [core]; rfl
  have data : (b.core e.g).vr f.v = (s.core e.g).vr f.v := by rw [core]; rfl
  have does : mApply b e.g .tsst f = (b.store (tsAddr (towerOf e.g) (ea (s.core e.g) f).toNat) 64 ((s.core e.g).vr f.v).toNat).setCore e.g
      (((s.core e.g).taking f.mt ⟨f.mt, false, true, BitVec.ofNat 64 (tsAddr (towerOf e.g) (ea (s.core e.g) f).toNat), 0, 0, [], [], [], 0,
        (s.stand (s.standOf e.g)).beat, 0, false, (s.core e.g).pc⟩).left (s.core e.g).pend ((s.met e).core e.g).link) := by
    show tsstIssue b (b.standOf e.g) e.g f = _
    unfold tsstIssue
    dsimp only
    have kept : ∀ a v, (b.store a 64 v).core e.g = b.core e.g := fun a v => by rw [show b.store a 64 v = (b.setPoison a false).wr a 64 v from if_pos (by norm_num)]; rfl
    rw [place, data, towerInOrder_apart (by rw [core]; exact apart), kept, core, standOf_of_onlyCore only, stand_of_onlyCore only]
    rfl
  refine mOp_issuesIn ready (exec_slotOp rfl rfl) (stall_m ready free (tags_one rfl tag) rfl) (mOp_errors fault nofun fun _ => rfl)
    ?_ ?_ rfl rfl rfl rfl (.nil ready.ordered)
  · rw [hb, does]
    exact (only.store _ _).trans (OnlyCore.setCore _ _ _)
  · rw [hb, does, State.core_setCore_same]
    rfl

/-! ### A load from a line that an earlier move has still to store (R207) -/

theorem issueGo_mem (t : State) (ops : List SlotOp) :
    (issueGo t e ops).mem = (ops.foldl (fun a o => opApply a e.g o) (issueBase t e ops)).mem := rfl

theorem issueGo_sb (t : State) (ops : List SlotOp) :
    ((issueGo t e ops).core e.g).sb = ((ops.foldl (fun a o => opApply a e.g o) (issueBase t e ops)).core e.g).sb := by
  obtain ⟨sent, hgo⟩ := issueGo_eq t e ops
  rw [hgo]
  dsimp only
  rw [State.core_setCore_same, settle_fields, clockOn_fields]

theorem placeOf_tower {w o : Nat} (hw : w < 96) (ho : o < 96 * 2 ^ 20) : placeOf (tsAddr w o) = some (.tower w o) := by
  have space : natBits (tsAddr w o) 44 4 = 2 := by unfold natBits tsAddr; omega
  have off : natBits (tsAddr w o) 0 27 = o := by unfold natBits tsAddr; omega
  have tower : natBits (tsAddr w o) 37 7 = w := by unfold natBits tsAddr; omega
  have zero : natBits (tsAddr w o) 27 10 = 0 := by unfold natBits tsAddr; omega
  unfold placeOf
  dsimp only
  rw [space, off, tower, zero, if_neg (by unfold tsAddr; omega), if_neg (by norm_num), if_neg (by norm_num), if_pos rfl,
    if_pos ⟨rfl, ho, by omega⟩]

/-- The granules that the loads which read some of the line at `a` read now, ahead of its write (R209). -/
def wholeReads (s : State) (a : Nat) (x : PlaneTile) : List (Pkt × Nat × Nat × BitVec 64) :=
  ((x.early.filter fun e => e.2.1 == a).map (·.1)).eraseDups.flatMap fun p =>
    ((upto 8).filter fun k => !((x.early.filter fun e => e.2.1 == a).any fun e => e.1 == p && e.2.2.1 == k)).map fun k =>
      (p, a, k, BitVec.ofNat 64 (s.rd (a + 8 * k) 8))

theorem State.tile_setTile (s : State) (k j : Nat) (x : PlaneTile) : (s.setTile k x).tile j = if j = k then x else s.tile j := sget_sset ..

theorem lineWhole_spec (t : State) (a : Nat) : t.lineWhole a = { t with tiles := (t.lineWhole a).tiles } ∧
    ∀ k, (t.lineWhole a).tile k = if k < 16 then { t.tile k with early := (t.tile k).early ++ wholeReads t a (t.tile k) } else t.tile k := by
  have go : ∀ (ks : List Nat) (y : State), ks.Nodup → ∃ z, ks.foldl (fun y k =>
      if (y.tile k).early.filter (fun e => e.2.1 == a) = [] then y
      else y.setTile k { y.tile k with early := (y.tile k).early ++ wholeReads t a (y.tile k) }) y = z ∧ z = { y with tiles := z.tiles } ∧
      ∀ k, z.tile k = if k ∈ ks then { y.tile k with early := (y.tile k).early ++ wholeReads t a (y.tile k) } else y.tile k := by
    intro ks
    induction ks with
    | nil => exact fun y _ => ⟨y, rfl, rfl, fun k => by simp⟩
    | cons k ks ih =>
      intro y nodup
      obtain ⟨fresh, nodup⟩ := List.nodup_cons.1 nodup
      rw [List.foldl_cons]
      by_cases none : (y.tile k).early.filter (fun e => e.2.1 == a) = []
      · have no_more : wholeReads t a (y.tile k) = [] := by
          unfold wholeReads
          rw [none]
          rfl
        rw [if_pos none]
        obtain ⟨z, hz, frame, tiles⟩ := ih y nodup
        refine ⟨z, hz, frame, fun j => ?_⟩
        rw [tiles j]
        by_cases hj : j = k
        · subst hj
          rw [if_neg fresh, if_pos List.mem_cons_self, no_more, List.append_nil]
        · simp [hj]
      · rw [if_neg none]
        obtain ⟨z, hz, frame, tiles⟩ := ih (y.setTile k { y.tile k with early := (y.tile k).early ++ wholeReads t a (y.tile k) }) nodup
        refine ⟨z, hz, frame, fun j => ?_⟩
        rw [tiles j, State.tile_setTile]
        by_cases hj : j = k
        · subst hj
          rw [if_neg fresh, if_pos rfl, if_pos List.mem_cons_self]
        · simp [hj]
  obtain ⟨z, hz, frame, tiles⟩ := go (upto 16) t List.nodup_range
  have hw : t.lineWhole a = z := hz
  rw [hw]
  exact ⟨frame, fun k => by rw [tiles k]; simp [upto]⟩

end

section
variable {t : State} {g l a : Nat} {m : MoveSt}

theorem moveOn_single {c : CoreSt} (moves : c.moves = [m]) (own : m.host = false) : c.moveOn m.tag = some m := by
  unfold CoreSt.moveOn
  rw [moves, List.find?_cons]
  simp [own]

theorem leaveRow_onlyCore (t : State) (g : Nat) (own : Bool) : OnlyCore t (t.leaveRow g own) g ∧
    ∃ k, (t.leaveRow g own).core g = { t.core g with link := k } := by
  unfold State.leaveRow
  dsimp only
  split
  · exact ⟨.refl t g, _, rfl⟩
  · exact ⟨.setCore t g _, _, State.core_setCore_same ..⟩

theorem far_of_onlyCore {s t : State} {g : Nat} (h : OnlyCore s t g) (i a : Nat) : t.far i a = s.far i a := by rw [h.1]; rfl

theorem store_line (t : State) (a v : Nat) : t.store a 64 v = (t.setPoison a false).wr a 64 v := if_pos (by norm_num)

/-- A whole line is written in place of a line of memory that loads may be reading. -/
theorem whole_store (t : State) (a v : Nat) : ∃ ts, (t.lineWhole a).store a 64 v = { t with
    tiles := ts, mem := memWrite t.mem a 64 v, poison := sset false t.poison (a / 64) false } := by
  rw [store_line, (lineWhole_spec t a).1]
  exact ⟨_, rfl⟩

/-- A held line of a move toward tower SRAM is written there. -/
theorem movePut_far {v : BitVec 512} (moves : (t.core g).moves = [m]) (own : m.host = false) (toFar : m.toFar = true) (held : m.held = [(l, v)])
    (far : t.far (t.standOf g) (m.far.toNat + 64 * l) = some a) : ∃ ts n, movePut t g m.tag l =
      ({ t with tiles := ts, mem := memWrite t.mem a 64 v.toNat, poison := sset false t.poison (a / 64) false } : State).setCore g
        { t.core g with moves := n } := by
  obtain ⟨ts, whole⟩ := whole_store t a v.toNat
  unfold movePut
  rw [moveOn_single moves own]
  dsimp only
  rw [held, List.find?_cons, beq_self_eq_true]
  dsimp only
  rw [if_pos toFar]
  dsimp only
  unfold linePut
  rw [if_pos toFar, far]
  dsimp only
  rw [whole, toFar]
  exact ⟨ts, _, coreCount_zero _ g 34⟩

/-- The line of a move toward tower SRAM is read and written at once where a later access needs it. -/
theorem move_line_in_order (moves : (t.core g).moves = [m]) (own : m.host = false) (toFar : m.toFar = true) (held : m.held = [])
    (late : l ∈ m.late) (carried : t.carrier g m l = none) (far : t.far (t.standOf g) (m.far.toNat + 64 * l) = some a) :
    ∃ u, movePut ((moveTake t g m.tag l).leaveRow g true) g m.tag l = u ∧
      u.mem = memWrite t.mem a 64 (t.rd (dmAddr g (m.loc.toNat + 64 * l)) 64) ∧ u.poisoned a = false ∧
      ∃ n k, u.core g = { t.core g with moves := n, link := k } := by
  set v := t.rd (dmAddr g (m.loc.toNat + 64 * l)) 64 with hv
  set m1 : MoveSt := { m with late := m.late.filter fun x => decide (x ≠ l), held := [(l, BitVec.ofNat 512 v)] } with hm1
  have taken : moveTake t g m.tag l = (t.setCore g ((t.core g).setMove m1)).coreCount g 34 1 := by
    have line : lineTake t (t.standOf g) g m l = m1 := by
      unfold lineTake
      rw [if_pos toFar, held]
      rfl
    unfold moveTake
    rw [moveOn_single moves own]
    dsimp only
    rw [if_neg (by simpa using late), if_pos toFar, carried]
    dsimp only
    rw [line, toFar]
    rfl
  obtain ⟨z, hz⟩ : ∃ z, (moveTake t g m.tag l).leaveRow g true = z := ⟨_, rfl⟩
  obtain ⟨leaves, k, core⟩ := leaveRow_onlyCore (moveTake t g m.tag l) g true
  have only : OnlyCore t z g := by
    rw [← hz]
    refine OnlyCore.trans ?_ leaves
    rw [taken]
    exact (OnlyCore.setCore t g _).trans (OnlyCore.coreCount _ g 34 1 (by norm_num))
  have zcore : z.core g = { t.core g with moves := [m1], link := k } := by
    have one : (t.core g).setMove m1 = { t.core g with moves := [m1] } := by
      unfold CoreSt.setMove
      rw [moves, List.map_cons, List.map_nil, if_pos (beq_self_eq_true _)]
    rw [← hz, core, taken, State.core_coreCount, State.core_setCore_same, one]
  obtain ⟨ts, n, put⟩ := movePut_far (t := z) (m := m1) (a := a) (v := BitVec.ofNat 512 v) (by rw [zcore]) own toFar rfl
    (by rw [far_of_onlyCore only, standOf_of_onlyCore only]; exact far)
  have fits : (BitVec.ofNat 512 v).toNat = v := Nat.mod_eq_of_lt (rd_line_lt ..)
  refine ⟨_, rfl, ?_, ?_, n, k, ?_⟩
  all_goals rw [hz, show movePut z g m.tag l = _ from put]
  · show memWrite z.mem a 64 (BitVec.ofNat 512 v).toNat = _
    rw [fits, only.mem]
  · exact (sget_sset false z.poison (a / 64) (a / 64) false).trans (if_pos rfl)
  · rw [State.core_setCore_same, zcore]

end

section
variable {s : State} {e : Iss} {f : MF}

/-- A load from a line that the one earlier move of the core has still to store reads what the move stores. -/
theorem tsld_after_move {m : MoveSt} {l : Nat} (h : MReady s e .tsld f) (moves : (s.core e.g).moves = [m]) (own : m.host = false)
    (toFar : m.toFar = true) (held : m.held = []) (inside : l < m.lines) (late : l ∈ m.late)
    (place : m.far.toNat + 64 * l = tsAddr (towerOf e.g) (ea (s.core e.g) f).toNat)
    (far : s.far (s.standOf e.g) (tsAddr (towerOf e.g) (ea (s.core e.g) f).toNat) = some (tsAddr (towerOf e.g) (ea (s.core e.g) f).toNat)) :
    ∃ t, exec (.tsld e f .clean) s = .next t ∧
      memRead t.mem (tsAddr (towerOf e.g) (ea (s.core e.g) f).toNat) 64 = s.rd (dmAddr e.g (m.loc.toNat + 64 * l)) 64 ∧
      (t.core e.g).sb = (s.core e.g).sb ++
        [⟨.v f.d, .tower (BitVec.ofNat 512 (s.rd (dmAddr e.g (m.loc.toNat + 64 * l)) 64)) false (s.core e.g).pc, none⟩] := by
  obtain ⟨ready, free, fault⟩ := h
  have below := ((mFault_tower (.inl rfl)).1 fault).1
  generalize ha : tsAddr (towerOf e.g) (ea (s.core e.g) f).toNat = a at *
  have tower : s.carrier e.g m l = none := by
    have unit : e.g < 12288 := ready.1
    have placed : placeOf a = some (.tower (towerOf e.g) (ea (s.core e.g) f).toNat) := by
      rw [← ha]
      exact placeOf_tower (by unfold towerOf; omega) below
    unfold State.carrier State.standPlace
    rw [place, placed]
    dsimp only
    split <;> simp_all
  have only := issueBase_onlyCore s e [.m .tsld f]
  have core := issueBase_core s e [.m .tsld f]
  have issues := issueOps_one s e _ ready (stall_m ready free (tags_none rfl) rfl)
    (errors_one _ e _ ready.met (opErrors_met.trans (mOp_errors fault nofun fun _ => rfl)))
  refine ⟨_, (exec_slotOp rfl rfl).trans issues, ?_⟩
  rw [issueGo_mem, issueGo_sb, List.foldl_cons, List.foldl_nil]
  generalize issueBase (s.met e) e [.m .tsld f] = b at only core
  obtain ⟨u, hu, mem, clear, n, k, ucore⟩ := move_line_in_order (t := b) (g := e.g) (l := l) (a := a) (m := m) (by rw [core]; exact moves) own toFar
    held late (by rw [← tower, only.1]; rfl) (by rw [far_of_onlyCore only, standOf_of_onlyCore only, place]; exact far)
  rw [rd_of_onlyCore only, only.mem] at mem
  have order : towerInOrder b e.g a 1 = u := by
    unfold towerInOrder
    rw [core, show ((s.core e.g).issuing ((s.met e).core e.g).link).moves = [m] from moves, List.foldl_cons, List.foldl_nil,
      if_neg (by rw [own]; exact Bool.false_ne_true), foldl_only inside b fun k hk z => if_pos (by omega)]
    have out : (b.core e.g).movesOut m.tag l = true := by
      unfold CoreSt.movesOut
      rw [moveOn_single (by rw [core]; exact moves) own]
      simpa [toFar] using late
    rw [← hu]
    rw [if_neg (by omega), if_pos out]
  have does : opApply b e.g (.m .tsld f) = u.setCore e.g { u.core e.g with sb := (u.core e.g).sb ++
      [⟨.v f.d, .tower (BitVec.ofNat 512 (u.rd a 64)) false (u.core e.g).pc, none⟩] } := by
    show tsldIssue b e.g f = _
    unfold tsldIssue
    have same : ea (b.core e.g) f = ea (s.core e.g) f := by rw [core]; rfl
    rw [same, ha]
    dsimp only
    rw [order, clear]
    rfl
  have line : u.rd a 64 = s.rd (dmAddr e.g (m.loc.toNat + 64 * l)) 64 := by
    show memRead u.mem a 64 = _
    rw [mem, memRead_memWrite]
    exact Nat.mod_eq_of_lt (memRead_lt ..)
  rw [does]
  refine ⟨line, ?_⟩
  rw [State.core_setCore_same, line, ucore, core]
  rfl

end

/-! ### The return of data and the completion of moves -/

/-- Does the scoreboard entry wait for tower data? -/
def SbEnt.tower (x : SbEnt) : Bool := match x.wait with
  | .tower .. => true
  | _ => false

theorem find_first {α : Type} {p : α → Bool} {pre post : List α} {x : α} (before : ∀ y ∈ pre, p y = false) (hx : p x = true) :
    (pre ++ x :: post).find? p = some x := by
  rw [List.find?_append, List.find?_eq_none.2 fun y hy => by simp [before y hy], List.find?_cons, hx]
  rfl

section
variable {s : State} {g : Nat}

theorem tsldDataReturn_eq (hg : g < 12288) {pre post : List SbEnt} {x : SbEnt} {d : BitVec 512} {bad : Bool} {n : Nat}
    (sb : (s.core g).sb = pre ++ x :: post) (first : ∀ y ∈ pre, ∀ v b k, y.wait ≠ .tower v b k) (wait : x.wait = .tower d bad n) :
    exec (.tsldDataReturn g) s = .next (if s.inwardHeld g then s
      else if bad then statusFatal ((s.setCore g { (s.core g).put x.dest (d.setWidth 65536) with sb := (s.core g).sb.erase x, active := true }).enterRow g true) g n 3
      else (s.setCore g { (s.core g).put x.dest (d.setWidth 65536) with sb := (s.core g).sb.erase x, active := true }).enterRow g true) := by
  have found : (s.core g).sb.find? SbEnt.tower = some x := by
    rw [sb]
    refine find_first (fun y hy => ?_) (by unfold SbEnt.tower; rw [wait])
    unfold SbEnt.tower
    split
    next v b k e => exact absurd e (first y hy v b k)
    next => rfl
  show execTsldDataReturn g s = _
  unfold execTsldDataReturn
  rw [if_neg (Nat.not_le.2 hg)]
  cases held : s.inwardHeld g with
  | true => rfl
  | false =>
    have found' : (if false = true then none else (s.core g).sb.find? SbEnt.tower) = some x := found
    change (match (if false = true then none else (s.core g).sb.find? SbEnt.tower) with
      | some x => _
      | none => _) = _
    rw [found']
    dsimp only
    rw [wait]
    rfl

theorem moveOn_middle {c : CoreSt} {m : MoveSt} {pre post : List MoveSt} (moves : c.moves = pre ++ m :: post)
    (other : ∀ y ∈ pre ++ post, y.tag ≠ m.tag) (own : m.host = false) : c.moveOn m.tag = some m := by
  unfold CoreSt.moveOn
  rw [moves]
  exact find_first (fun y hy => by simp [other y (List.mem_append_left _ hy)]) (by simp [own])

theorem filter_middle {m : MoveSt} {pre post : List MoveSt} (other : ∀ y ∈ pre ++ post, y.tag ≠ m.tag) :
    (pre ++ m :: post).filter (fun x => !(x.tag == m.tag)) = pre ++ post := by
  have keeps : ∀ l : List MoveSt, (∀ y ∈ l, y ∈ pre ++ post) → l.filter (fun x => !(x.tag == m.tag)) = l := fun l hl =>
    List.filter_eq_self.2 fun y hy => by simp [other y (hl y hy)]
  rw [List.filter_append, List.filter_cons, keeps pre fun y hy => List.mem_append_left _ hy, keeps post fun y hy => List.mem_append_right _ hy]
  simp

theorem moveTag_waits (hg : g < 12288) {m : MoveSt} {pre post : List MoveSt} (moves : (s.core g).moves = pre ++ m :: post)
    (other : ∀ y ∈ pre ++ post, y.tag ≠ m.tag) (own : m.host = false) (open' : m.late ≠ [] ∨ m.held ≠ [] ∨ m.out ≠ []) (x : Ecc) :
    exec (.moveTagComplete g ⟨m.tag, x⟩) s = .next s := by
  show execMoveTagComplete g ⟨m.tag, x⟩ s = _
  unfold execMoveTagComplete
  rw [if_neg (Nat.not_le.2 hg), moveOn_middle moves other own]
  exact if_pos (by
    rcases open' with h | h | h <;> simp [h])

/-- What a tag's completion with a status leaves of the core. -/
theorem tagComplete_eq {m : MoveSt} {pre post : List MoveSt} (moves : (s.core g).moves = pre ++ m :: post)
    (other : ∀ y ∈ pre ++ post, y.tag ≠ m.tag) (status : Nat) : tagComplete s g m.tag status = s.setCore g
      { s.core g with tags := sset ⟨false, 0⟩ (s.core g).tags m.tag.toNat ⟨false, BitVec.ofNat 4 status⟩, active := true, moves := pre ++ post } := by
  unfold tagComplete
  dsimp only
  rw [moves, filter_middle other]

/-- The state in which a move's lines are counted as it completes. -/
def moveCounted (s : State) (g : Nat) (m : MoveSt) : State :=
  if natBits m.far.toNat 44 4 ≤ 1 then s.coreCount g 24 m.lines else s

theorem moveCounted_onlyCore (s : State) (g : Nat) (m : MoveSt) : OnlyCore s (moveCounted s g m) g ∧ (moveCounted s g m).core g = s.core g := by
  unfold moveCounted
  split
  · exact ⟨OnlyCore.coreCount s g 24 _ (by norm_num), State.core_coreCount ..⟩
  · exact ⟨.refl s g, rfl⟩

theorem moveCounted_eq (s : State) (g : Nat) (m : MoveSt) :
    (if decide (natBits m.far.toNat 44 4 ≤ 1) = true then s.coreCount g 24 m.lines else s) = moveCounted s g m := by
  unfold moveCounted
  simp only [decide_eq_true_eq]

theorem moveDmEcc_clean (s : State) (g : Nat) (m : MoveSt) : moveDmEcc s g m .clean = s := by
  unfold moveDmEcc
  split <;> rfl

/-- A move whose lines have all moved completes with its status; one without ok is noted, and is an error of the stand but for a fenced
core's and the core's own data memory's. -/
theorem moveTag_ends (hg : g < 12288) {m : MoveSt} {pre post : List MoveSt} (moves : (s.core g).moves = pre ++ m :: post)
    (other : ∀ y ∈ pre ++ post, y.tag ≠ m.tag) (own : m.host = false) (late : m.late = []) (held : m.held = []) (out : m.out = []) :
    (m.bad = 0 → exec (.moveTagComplete g ⟨m.tag, .clean⟩) s = .next (tagComplete (moveCounted s g m) g m.tag 0)) ∧
    (m.bad ≠ 0 → ∃ op dst beat, exec (.moveTagComplete g ⟨m.tag, .clean⟩) s = .next
      (if m.bad = 2 ∨ m.bad = 3 ∧ m.own = true then
        niNote ((tagComplete (moveCounted s g m) g m.tag m.bad).coreCount g 33 1) g m.bad op dst beat
      else statusFatal (niNote ((tagComplete (moveCounted s g m) g m.tag m.bad).coreCount g 33 1) g m.bad op dst beat) g m.bundle m.bad)) := by
  have ecc : (m.toFar && Ecc.clean == Ecc.bad) = false := by rw [Bool.and_eq_false_iff]; exact Or.inr rfl
  show (_ → execMoveTagComplete g ⟨m.tag, .clean⟩ s = _) ∧ (_ → ∃ op dst beat, execMoveTagComplete g ⟨m.tag, .clean⟩ s = _)
  unfold execMoveTagComplete
  rw [if_neg (Nat.not_le.2 hg), moveOn_middle moves other own]
  dsimp only
  rw [if_neg (by rw [late, held, out]; simp), moveCounted_eq, ecc]
  refine ⟨fun ok => ?_, fun bad => ?_⟩
  · simp only [ok, moveDmEcc_clean]
    rfl
  · have status : (if m.bad ≠ 0 then m.bad else if false = true then 3 else 0) = m.bad := if_pos bad
    have fatal : (decide (m.bad ≠ 0) && m.bad != 2 && !(m.bad == 3 && m.own)) = !decide (m.bad = 2 ∨ m.bad = 3 ∧ m.own = true) := by
      rw [decide_eq_true bad, Bool.decide_or, Bool.decide_and, Bool.decide_eq_true, Bool.not_or, Bool.true_and]
      rfl
    rw [status, fatal, if_pos bad, moveDmEcc_clean]
    by_cases h : m.bad = 2 ∨ m.bad = 3 ∧ m.own = true
    · simp only [decide_eq_true h, if_pos h, Bool.not_true, Bool.false_eq_true, if_false]
      exact ⟨_, _, _, rfl⟩
    · simp only [decide_eq_false h, if_neg h, Bool.not_false, if_true]
      exact ⟨_, _, _, rfl⟩

/-- What the completion of a move without status ok leaves of the core. -/
theorem moveNoted {m : MoveSt} {pre post : List MoveSt} (moves : (s.core g).moves = pre ++ m :: post)
    (other : ∀ y ∈ pre ++ post, y.tag ≠ m.tag) (op dst beat : Nat) :
    OnlyCore s (niNote ((tagComplete (moveCounted s g m) g m.tag m.bad).coreCount g 33 1) g m.bad op dst beat) g ∧
    (niNote ((tagComplete (moveCounted s g m) g m.tag m.bad).coreCount g 33 1) g m.bad op dst beat).core g = { s.core g with
      tags := sset ⟨false, 0⟩ (s.core g).tags m.tag.toNat ⟨false, BitVec.ofNat 4 m.bad⟩, active := true, moves := pre ++ post,
      niBad := min ((s.core g).niBad + 1) (2 ^ 32 - 1),
      niFirst := if (s.core g).niBad = 0 then BitVec.ofNat 64 (m.bad + op * 2 ^ 4 + dst * 2 ^ 12 + beat % 2 ^ 32 * 2 ^ 16) else (s.core g).niFirst } := by
  obtain ⟨only, core⟩ := moveCounted_onlyCore s g m
  rw [tagComplete_eq (by rw [core]; exact moves) other]
  unfold niNote
  dsimp only
  refine ⟨only.trans ((OnlyCore.setCore _ g _).trans ((OnlyCore.coreCount _ g 33 1 (by norm_num)).trans (OnlyCore.setCore _ g _))), ?_⟩
  rw [State.core_setCore_same, State.core_coreCount, State.core_setCore_same, core]

end

/-- Settles O22: tsld and tsst by issue, the returns and completions by what they leave. -/
theorem towerMemoryAccesses : Obligations.TowerMemoryAccesses := by
  unfold Obligations.TowerMemoryAccesses
  refine ⟨?issue, ?ends⟩
  case issue =>
    intro s e f c o a
    refine ⟨fun h apart => tsld_issues h apart, fun h tag apart => ?_, fun h m l moves own toFar held inside late place _ far => ?_⟩
    · exact ⟨_, _, stores_memWrite .., replaces_sset .., tsst_issues h tag apart⟩
    · exact tsld_after_move h moves own toFar held inside late place far
  case ends =>
    intro s g hg c
    refine ⟨fun pre x post d bad n sb first wait => tsldDataReturn_eq hg sb first wait, fun m pre post moves other own => ?_⟩
    refine ⟨fun open' x => moveTag_waits hg moves other own open' x, fun late held out => ?_⟩
    obtain ⟨ok, bad⟩ := moveTag_ends hg moves other own late held out
    obtain ⟨only, core⟩ := moveCounted_onlyCore s g m
    have left := fun status => tagComplete_eq (s := moveCounted s g m) (status := status) (by rw [core]; exact moves) other
    refine ⟨fun h => ?_, fun h => ?_⟩
    · rw [ok h, left]
      rfl
    · obtain ⟨op, dst, beat, ends⟩ := bad h
      obtain ⟨within, noted⟩ := moveNoted moves other op dst beat
      refine ⟨_, by rw [within.1], by rw [within.1], by rw [within.1], ?_, ?_, ?_, ends⟩
      · rw [noted]
      · rw [noted]
        exact (sget_sset ..).trans (if_pos rfl)
      · rw [noted]

end Sys2Proof.Machine

/-! PROOF. Block moves, and the waits of the M slot (O23). -/

namespace Sys2Proof.Machine

section
variable {s : State} {e : Iss} {o : MOp} {f : MF}

/-! ### Issue of a block move (R208) -/

theorem natBit_eq_testBit (n i : Nat) : natBit n i = n.testBit i := by
  rw [Nat.testBit_eq_decide_div_mod_eq]
  rfl

theorem natBit_eq_decide (n i : Nat) : natBit n i = decide (n / 2 ^ i % 2 = 1) := rfl

/-- The move that a block move instruction leaves in flight. -/
def issuedMove (s : State) (e : Iss) (f : MF) (far : Nat) : MoveSt :=
  ⟨f.mt, false, decide (((s.core e.g).sr f.b).toNat / 2 ^ 32 % 2 = 1), BitVec.ofNat 64 far, (s.core e.g).sr f.d,
    ((s.core e.g).sr f.b).toNat % 2 ^ 32 / 64, List.range (((s.core e.g).sr f.b).toNat % 2 ^ 32 / 64), [], [], 0,
    (s.stand (s.standOf e.g)).beat, 0, false, (s.core e.g).pc⟩

theorem moveIssue_eq {t : State} {l : List (Nat × Nat)} (only : OnlyCore s t e.g) (core : t.core e.g = (s.core e.g).issuing l) {far : Nat}
    (place : (if o = .bmov then bmovFar e.g (ea (s.core e.g) f).toNat else (ea (s.core e.g) f).toNat) = far)
    (apart : o = .bmov → (s.core e.g).Apart far (((s.core e.g).sr f.b).toNat % 2 ^ 32 / 64)) :
    moveIssue t (t.standOf e.g) e.g o f = t.setCore e.g (((s.core e.g).taking f.mt (issuedMove s e f far)).left (s.core e.g).pend l) := by
  have ord : (if o = .bmov then towerInOrder t e.g far (((s.core e.g).sr f.b).toNat % 2 ^ 32 / 64) else t) = t := by
    split
    next h => exact towerInOrder_apart (by rw [core]; exact apart h)
    next => rfl
  have place' : ea (t.core e.g) f = ea (s.core e.g) f := by rw [core]; rfl
  have len : (t.core e.g).sr f.b = (s.core e.g).sr f.b := by rw [core]; rfl
  unfold moveIssue
  dsimp only
  rw [place', len, place, ord, standOf_of_onlyCore only, stand_of_onlyCore only, core]
  rfl

/-- A block move leaves itself in flight on its tag, none of its lines read. -/
theorem move_issues {i : Instr} {far : Nat} (h : MReady s e o f) (ho : o = .bmov ∨ o = .hmov) (hi : exec i s = issueOps s e [.m o f])
    (tag : TagFree (s.core e.g) f.mt)
    (place : (if o = .bmov then bmovFar e.g (ea (s.core e.g) f).toNat else (ea (s.core e.g) f).toNat) = far)
    (apart : o = .bmov → (s.core e.g).Apart far (((s.core e.g).sr f.b).toNat % 2 ^ 32 / 64))
    (clear : s.inClearing (s.standOf e.g) = true → mClearOk s (s.standOf e.g) e.g (s.core e.g) o f = true) :
    Issues s i e (.m o f) ((s.core e.g).taking f.mt (issuedMove s e f far)) [] := by
  obtain ⟨ready, free, fault⟩ := h
  have mask : tagMask (.m o f) = 2 ^ f.mt.toNat := by rcases ho with rfl | rfl <;> rfl
  have wait : waitHeld s e.g (s.core e.g) (.m o f) = none := by rcases ho with rfl | rfl <;> rfl
  refine mOp_issues ready hi (stall_m ready free (tags_one mask tag) wait) (mOp_errors fault (by rcases ho with rfl | rfl <;> nofun) clear)
    (fun t l only core => ?_) rfl rfl rfl rfl (.nil ready.ordered)
  have does : mApply t e.g o f = moveIssue t (t.standOf e.g) e.g o f := by rcases ho with rfl | rfl <;> rfl
  rw [does]
  exact moveIssue_eq only core place apart

/-! ### Waits and status -/

theorem quiet_issues {i : Instr} (h : MReady s e o f) (hi : exec i s = issueOps s e [.m o f])
    (apply : ∀ t : State, mApply t e.g o f = t) (tags : ∀ k < 8, natBit (tagMask (.m o f)) k = true → (sget ⟨false, 0⟩ (s.core e.g).tags k).pending = false)
    (wait : waitHeld s e.g (s.core e.g) (.m o f) = none) (ho : o ≠ .hxfer)
    (clear : s.inClearing (s.standOf e.g) = true → mClearOk s (s.standOf e.g) e.g (s.core e.g) o f = true) :
    Issues s i e (.m o f) (s.core e.g) [] := by
  obtain ⟨ready, free, fault⟩ := h
  refine mOp_issuesIn ready hi (stall_m ready free tags wait) (mOp_errors fault ho clear) ?_ ?_ rfl rfl rfl rfl (.nil ready.ordered)
  · rw [apply]; exact issueBase_onlyCore s e _
  · rw [apply]; exact issueBase_core s e _

theorem nistat_issues {v : Word} (h : MReady s e .nistat f) (value : nistatVal (s.core e.g) f.imm.toNat = v) :
    Issues s (.nistat e f) e (.m .nistat f) (s.core e.g) ((s.core e.g).resS 1 f.d v) := by
  obtain ⟨ready, free, fault⟩ := h
  refine mOp_issues ready (exec_slotOp rfl rfl) (stall_m ready free (tags_none rfl) rfl) (mOp_errors fault nofun fun _ => rfl)
    (fun t l only core => ?_) rfl rfl rfl rfl (.resS ready.ordered _ _ _)
  show t.setCore e.g ((t.core e.g).pushS 1 f.d (nistatVal (t.core e.g) f.imm.toNat)) = _
  have same : nistatVal (t.core e.g) f.imm.toNat = v := by
    rw [core, ← value]
    unfold nistatVal
    split <;> rfl
  rw [same, core, CoreSt.pushS_eq]
  rfl

theorem boolNat_inj {x y : Bool} (h : boolNat x = boolNat y % 2 ^ 1) : x = y := by
  cases x <;> cases y
  · rfl
  · exact absurd h (by decide)
  · exact absurd h (by decide)
  · rfl

/-- The status word of the tags (R230, mode 3). -/
theorem nistat_tags (c : CoreSt) (t : BitVec 3) :
    natBits (nistatVal c 3).toNat (4 * t.toNat) 4 = (sget ⟨false, 0⟩ c.tags t.toNat).status.toNat ∧
      (nistatVal c 3).getLsbD (32 + t.toNat) = (sget ⟨false, 0⟩ c.tags t.toNat).pending := by
  set xs := (upto 8).map fun t => (sget ⟨false, 0⟩ c.tags t).status.toNat with hxs
  set ys := (upto 8).map fun t => boolNat (sget ⟨false, 0⟩ c.tags t).pending with hys
  have ht := t.isLt
  have low : packBits 4 xs < 2 ^ 32 := (packBits_lt 4 xs).trans_eq (by simp [hxs, upto])
  have high : packBits 1 ys < 2 ^ 8 := (packBits_lt 1 ys).trans_eq (by simp [hys, upto])
  have value : (nistatVal c 3).toNat = 2 ^ 32 * packBits 1 ys + packBits 4 xs := by
    show (BitVec.ofNat 64 (packBits 4 xs + 2 ^ 32 * packBits 1 ys)).toNat = _
    rw [BitVec.toNat_ofNat, Nat.mod_eq_of_lt (by omega), Nat.add_comm]
  have status := natBits_packBits (w := 4) (xs := xs) (i := t.toNat) (by simpa [hxs, upto] using ht)
  have pending := natBits_packBits (w := 1) (xs := ys) (i := t.toNat) (by simpa [hys, upto] using ht)
  constructor
  · rw [value, ← natBits_mod _ _ _ 32 (by omega), Nat.mul_add_mod, Nat.mod_eq_of_lt low, status]
    simp only [hxs, upto, List.getElem_map, List.getElem_range]
    exact Nat.mod_eq_of_lt (BitVec.isLt _)
  · have bit : natBit (packBits 1 ys) t.toNat = (sget ⟨false, 0⟩ c.tags t.toNat).pending := by
      have entry : ∀ h : t.toNat < ys.length, ys[t.toNat] = boolNat (sget ⟨false, 0⟩ c.tags t.toNat).pending := fun _ => by simp [hys, upto]
      rw [Nat.one_mul, natBits_one, entry] at pending
      exact boolNat_inj pending
    rw [← BitVec.testBit_toNat, value, Nat.testBit_two_pow_mul_add _ low, if_neg (by omega), Nat.add_sub_cancel_left, ← bit]
    unfold natBit
    rw [Nat.testBit_eq_decide_div_mod_eq]
    rfl

end

/-! ### The moves' engine (R208, R209, R229) -/

section
variable {s : State} {g l a : Nat} {m : MoveSt} {pre post : List MoveSt}

theorem setMove_middle {c : CoreSt} {y : MoveSt} (moves : c.moves = pre ++ m :: post) (other : ∀ x ∈ pre ++ post, x.tag ≠ m.tag)
    (tag : y.tag = m.tag) : c.setMove y = { c with moves := pre ++ y :: post } := by
  have keeps : ∀ z : List MoveSt, (∀ x ∈ z, x ∈ pre ++ post) → z.map (fun x => if x.tag == y.tag then y else x) = z := fun z hz =>
    (List.map_congr_left (g := id) fun x hx => if_neg (by simpa [tag] using other x (hz x hx))).trans (List.map_id z)
  unfold CoreSt.setMove
  rw [moves, List.map_append, List.map_cons, keeps pre fun x hx => List.mem_append_left _ hx, keeps post fun x hx => List.mem_append_right _ hx,
    if_pos (by simp [tag])]

/-- The move once its line `l` has been read. -/
def MoveSt.read (m : MoveSt) (l : Nat) (v : BitVec 512) : MoveSt :=
  { m with late := m.late.filter fun x => decide (x ≠ l), held := m.held ++ [(l, v)] }

theorem lineTake_out (i : Nat) (toFar : m.toFar = true) :
    lineTake s i g m l = m.read l (BitVec.ofNat 512 (s.rd (dmAddr g (m.loc.toNat + 64 * l)) 64)) := by
  unfold lineTake
  rw [if_pos toFar]
  rfl

theorem lineTake_in {i : Nat} (inward : m.toFar = false) (far : s.far i (m.far.toNat + 64 * l) = some a) (whole : s.poisoned a = false) :
    lineTake s i g m l = m.read l (BitVec.ofNat 512 (s.rd a 64)) := by
  unfold lineTake
  rw [if_neg (by rw [inward]; exact Bool.false_ne_true), far]
  dsimp only
  rw [whole]
  rfl

theorem lineTake_poisoned {i : Nat} (inward : m.toFar = false) (far : s.far i (m.far.toNat + 64 * l) = some a) (bad : s.poisoned a = true) :
    lineTake s i g m l = { m with late := m.late.filter fun x => decide (x ≠ l), bad := if m.bad = 0 then 3 else m.bad } := by
  unfold lineTake
  rw [if_neg (by rw [inward]; exact Bool.false_ne_true), far]
  dsimp only
  rw [bad]
  rfl

theorem lineTake_tag (i : Nat) : (lineTake s i g m l).tag = m.tag := by
  unfold lineTake
  split
  · rfl
  · split
    · rfl
    · split <;> rfl

theorem moveTake_here (moves : (s.core g).moves = pre ++ m :: post) (other : ∀ x ∈ pre ++ post, x.tag ≠ m.tag) (own : m.host = false)
    (carried : s.carrier g m l = none) (late : l ∈ m.late) : moveTake s g m.tag l =
      (s.setCore g { s.core g with moves := pre ++ lineTake s (s.standOf g) g m l :: post }).coreCount g 34 (boolNat m.toFar) := by
  have by_core : (if m.toFar = true then s.carrier g m l else none) = none := by rw [carried]; exact ite_self none
  unfold moveTake
  rw [moveOn_middle moves other own]
  dsimp only
  rw [if_neg (by simpa using late), by_core]
  dsimp only
  rw [setMove_middle moves other (lineTake_tag _)]

theorem nearDo_take (moves : (s.core g).moves = pre ++ m :: post) (other : ∀ x ∈ pre ++ post, x.tag ≠ m.tag) (own : m.host = false)
    (carried : s.carrier g m l = none) (late : l ∈ m.late) (n : Nat) : nearDo s g n (.take m.tag l) =
      if m.toFar = false then s.setCore g { s.core g with moves := pre ++ lineTake s (s.standOf g) g m l :: post }
      else if (s.region (rowRegion g)).outHigh then s
      else ((s.setCore g { s.core g with moves := pre ++ lineTake s (s.standOf g) g m l :: post }).coreCount g 34 1).leaveRow g true := by
  show (if ((s.core g).moveOn m.tag).any (fun m => m.toFar && m.late.contains l && (s.carrier g m l).isNone) = true then
    if (s.region (rowRegion g)).outHigh then s else (moveTake s g m.tag l).leaveRow g true else moveTake s g m.tag l) = _
  rw [moveOn_middle moves other own, moveTake_here moves other own carried late]
  cases h : m.toFar with
  | false =>
    rw [if_neg (by simp [h]), if_pos rfl]
    exact coreCount_zero _ g 34
  | true =>
    rw [if_pos (by simp [h, late, carried]), if_neg Bool.true_eq_false_eq_False]
    rfl

/-- The granules that the loads of a tile read ahead of a line's write: those of the loads that have read some of the line and not this one. -/
theorem mem_wholeReads (x : PlaneTile) (q : Pkt) (b k : Nat) (w : BitVec 64) : (q, b, k, w) ∈ wholeReads s a x ↔
    b = a ∧ k < 8 ∧ w = BitVec.ofNat 64 (s.rd (a + 8 * k) 8) ∧ (∃ y ∈ x.early, y.1 = q ∧ y.2.1 = a) ∧
      ∀ y ∈ x.early, y.1 = q → y.2.1 = a → y.2.2.1 ≠ k := by
  unfold wholeReads
  simp only [List.mem_flatMap, List.mem_eraseDups, List.mem_map, List.mem_filter, beq_iff_eq, upto, List.mem_range, Bool.not_eq_true',
    List.any_eq_false, Bool.and_eq_true, Prod.mk.injEq]
  constructor
  · rintro ⟨p, ⟨y, ⟨hy, line⟩, rfl⟩, j, ⟨hj, fresh⟩, rfl, rfl, rfl, rfl⟩
    exact ⟨rfl, hj, rfl, ⟨y, hy, rfl, line⟩, fun z hz load at' k => fresh z ⟨hz, at'⟩ ⟨load, k⟩⟩
  · rintro ⟨rfl, hk, rfl, ⟨y, hy, rfl, line⟩, fresh⟩
    exact ⟨y.1, ⟨y, ⟨hy, line⟩, rfl⟩, k, ⟨hk, fun z ⟨hz, at'⟩ ⟨load, same⟩ => fresh z hz load at' same⟩, rfl, rfl, rfl, rfl⟩

theorem lineWhole_tile (t : Nat) : ∃ es, (s.lineWhole a).tile t = { s.tile t with early := (s.tile t).early ++ es } ∧
    (16 ≤ t → es = []) ∧ (t < 16 → ∀ (q : Pkt) (b k : Nat) (w : BitVec 64), (q, b, k, w) ∈ es ↔
      b = a ∧ k < 8 ∧ w = BitVec.ofNat 64 (s.rd (a + 8 * k) 8) ∧ (∃ y ∈ (s.tile t).early, y.1 = q ∧ y.2.1 = a) ∧
        ∀ y ∈ (s.tile t).early, y.1 = q → y.2.1 = a → y.2.2.1 ≠ k) := by
  have tiles := (lineWhole_spec s a).2 t
  by_cases h : t < 16
  · rw [if_pos h] at tiles
    exact ⟨_, tiles, fun h' => absurd h (Nat.not_lt.2 h'), fun _ q b k w => mem_wholeReads ..⟩
  · rw [if_neg h] at tiles
    exact ⟨[], by rw [tiles, List.append_nil], fun _ => rfl, fun h' => absurd h' h⟩

/-- The line that a move writes: where, with what, and what it does to the poison. -/
theorem linePut_eq {v : BitVec 512} (far : s.far (s.standOf g) (m.far.toNat + 64 * l) = some a) : ∃ p,
    (if m.toFar then Replaces false s.poison p (a / 64) false else p = s.poison) ∧
    linePut s (s.standOf g) g m l v = { s with
      tiles := (s.lineWhole (if m.toFar then a else dmAddr g (m.loc.toNat + 64 * l))).tiles,
      mem := memWrite s.mem (if m.toFar then a else dmAddr g (m.loc.toNat + 64 * l)) 64 v.toNat, poison := p } := by
  unfold linePut
  cases m.toFar with
  | true =>
    have frame := (lineWhole_spec s a).1
    rw [if_pos rfl, if_pos rfl, far]
    dsimp only
    rw [store_line]
    generalize s.lineWhole a = z at frame ⊢
    refine ⟨sset false s.poison (a / 64) false, ?_, ?_⟩
    · rw [if_pos rfl]
      exact replaces_sset ..
    · rw [frame]
      rfl
  | false =>
    have frame := (lineWhole_spec s (dmAddr g (m.loc.toNat + 64 * l))).1
    rw [if_neg Bool.false_ne_true, if_neg Bool.false_ne_true]
    dsimp only
    generalize s.lineWhole (dmAddr g (m.loc.toNat + 64 * l)) = z at frame ⊢
    refine ⟨s.poison, ?_, ?_⟩
    · rw [if_neg Bool.false_ne_true]
    · rw [frame]
      rfl

theorem movePut_here {v : BitVec 512} {hs : List (Nat × BitVec 512)} (moves : (s.core g).moves = pre ++ m :: post)
    (other : ∀ x ∈ pre ++ post, x.tag ≠ m.tag) (own : m.host = false) (carried : s.carrier g m l = none) (held : m.held = (l, v) :: hs)
    (fresh : ∀ q ∈ hs, q.1 ≠ l) (core : (linePut s (s.standOf g) g m l v).core g = s.core g) : movePut s g m.tag l =
      ((linePut s (s.standOf g) g m l v).setCore g { s.core g with moves := pre ++ { m with held := hs } :: post }).coreCount g 34
        (boolNat (!m.toFar)) := by
  have by_core : (if m.toFar = true then none else s.carrier g m l) = none := by rw [carried]; exact ite_self none
  have rest : m.held.filter (fun x => !(x.1 == l)) = hs := by
    rw [held, List.filter_cons, if_neg (by simp)]
    exact List.filter_eq_self.2 fun q hq => by simp [fresh q hq]
  unfold movePut
  rw [moveOn_middle moves other own]
  dsimp only
  rw [show m.held.find? (fun q => q.1 == l) = some (l, v) by rw [held, List.find?_cons, beq_self_eq_true]]
  dsimp only
  rw [by_core]
  dsimp only
  rw [core, rest, setMove_middle (y := { m with held := hs }) moves other rfl]

theorem nearDo_put {v : BitVec 512} {hs : List (Nat × BitVec 512)} (moves : (s.core g).moves = pre ++ m :: post)
    (other : ∀ x ∈ pre ++ post, x.tag ≠ m.tag) (own : m.host = false) (carried : s.carrier g m l = none) (held : m.held = (l, v) :: hs) (n : Nat) :
    nearDo s g n (.put m.tag l) = if m.toFar then movePut s g m.tag l else if s.inwardHeld g then s else (movePut s g m.tag l).enterRow g true := by
  show (if ((s.core g).moveOn m.tag).any (fun m => !m.toFar && (m.held.any fun q => q.1 == l) && (s.carrier g m l).isNone) = true then
    if s.inwardHeld g then s else (movePut s g m.tag l).enterRow g true else movePut s g m.tag l) = _
  rw [moveOn_middle moves other own]
  cases h : m.toFar with
  | true => rw [if_neg (by simp [h]), if_pos rfl]
  | false => rw [if_pos (by simp [h, held, carried]), if_neg Bool.false_ne_true]

end

/-- Settles O23: moves by issue and by the engine's own steps, the waits by what lets them issue. -/
theorem blockMovesAndWaits : Obligations.BlockMovesAndWaits := by
  unfold Obligations.BlockMovesAndWaits
  refine ⟨?issue, ?engine, ?waits⟩
  case issue =>
    intro s e f c st b n o does
    refine ⟨fun apart h tag => move_issues h (.inl rfl) (exec_slotOp rfl rfl) tag rfl (fun _ => apart) fun _ => rfl,
      fun clear h tag => move_issues h (.inr rfl) (exec_slotOp rfl rfl) tag rfl nofun fun hc => ?_⟩
    rw [show s.inClearing (s.standOf e.g) = false from clear] at hc
    exact absurd hc Bool.false_ne_true
  case engine =>
    intro s g n l m pre post c i d now moves other own carried a far _
    have take := fun late => nearDo_take moves other own carried late n
    refine ⟨fun late whole => ?_, fun late inward bad => ?_, fun v hs held fresh => ?_⟩
    · by_cases inward : m.toFar = false
      · have out : ¬m.toFar = true := by simp [inward]
        simp only [if_pos inward, if_neg out]
        rw [take late, if_pos inward, lineTake_in inward far (whole.resolve_left out)]
        rfl
      · have out : m.toFar = true := by simpa using inward
        simp only [if_neg inward, if_pos out]
        rw [take late, if_neg inward, lineTake_out _ out]
        rfl
    · rw [take late, if_pos inward, lineTake_poisoned inward far bad]
    · have put := nearDo_put moves other own carried held n
      obtain ⟨p, poison, line⟩ := linePut_eq (s := s) (g := g) (l := l) (v := v) far
      have writes := movePut_here moves other own carried held fresh (by rw [line]; rfl)
      rw [line] at writes
      refine ⟨fun inward full => ?_, fun goes => ⟨_, p, _, stores_memWrite .., poison, fun t => lineWhole_tile t, ?_⟩⟩
      · rw [put, if_neg (by rw [inward]; exact Bool.false_ne_true), if_pos full]
      · rw [put, writes]
        by_cases inward : m.toFar = false
        · have out : ¬m.toFar = true := by simp [inward]
          have free : ¬s.inwardHeld g = true := by simp [goes.resolve_left out]
          refine Eq.trans ?_ (if_neg out).symm
          rw [if_neg out, if_neg free, show boolNat (!m.toFar) = 1 by rw [inward]; rfl]
        · have out : m.toFar = true := by simpa using inward
          refine Eq.trans ?_ (if_pos out).symm
          rw [if_pos out, show boolNat (!m.toFar) = 0 by rw [out]; rfl, coreCount_zero]
  case waits =>
    intro s e f c a goes tiles nistat
    refine ⟨fun h tags => ?_, fun h clear acked => ?_, fun h flag => ?_, fun k h => ?_, fun k h => ?_, fun k h => ?_, fun k h => ?_, fun k h => ?_⟩
    · refine quiet_issues h (exec_slotOp rfl rfl) (fun _ => rfl) (fun k hk asked => ?_) rfl nofun fun _ => rfl
      have free := tags (BitVec.ofNat 3 k)
      rw [TagFree, BitVec.toNat_ofNat, Nat.mod_eq_of_lt hk] at free
      refine free ?_
      rw [← BitVec.testBit_toNat]
      have bit : natBit (f.imm.toNat % 2 ^ 8) k = true := asked
      rw [natBit_eq_testBit, Nat.testBit_mod_two_pow, Bool.and_eq_true] at bit
      exact bit.2
    · refine quiet_issues h (exec_slotOp rfl rfl) (fun _ => rfl) (tags_none rfl) (waitHeld_none (fun _ => ?_) nofun) nofun fun hc => ?_
      · refine List.all_eq_true.2 fun n hn => ?_
        rcases acked n hn with done | other
        · rw [done]; rfl
        · rw [natBit_eq_decide]
          show (n.acked || !decide (tiles / 2 ^ n.pkt.dst.toNat % 2 = 1)) = true
          rw [other]
          simp
      · rw [clear] at hc
        exact absurd hc Bool.false_ne_true
    · refine quiet_issues h (exec_slotOp rfl rfl) (fun _ => rfl) (tags_none rfl) (waitHeld_none nofun fun _ => ?_) nofun fun _ => rfl
      have size : wBytes f.w = 2 ^ f.w.toNat := wBytes_scalar (by
        have legal := h.1.mValue
        simp [mValueOk] at legal
        omega)
      have bound : s.rd (dmAddr e.g a) (2 ^ f.w.toNat) < 2 ^ (8 * 2 ^ f.w.toNat) :=
        (memRead_lt ..).trans_eq (by rw [show (256 : Nat) = 2 ^ 8 from rfl, ← pow_mul])
      unfold wflagMet
      rw [size, Bool.and_eq_true]
      exact ⟨decide_eq_true ((Nat.mod_le _ _).trans flag), decide_eq_true (flag.trans_lt bound)⟩
    · exact nistat_issues h (by rw [k]; rfl)
    · exact nistat_issues h (by rw [k]; rfl)
    · exact nistat_issues h (by rw [k]; rfl)
    · exact nistat_issues h (by rw [k]; rfl)
    · exact ⟨_, nistat_tags c, nistat_issues h (by rw [k]; rfl)⟩

end Sys2Proof.Machine

/-! PROOF. Remote operations and multicast stores send their packets (O24). -/

namespace Sys2Proof.Machine

/-- The operations that send one packet (R210, R214, R216, R217). -/
def MOp.remote (o : MOp) : Prop := o = .rld ∨ o = .rst ∨ mAtomic o = true ∨ mReduction o = true

section
variable {s : State} {e : Iss} {o : MOp} {f : MF}

theorem remote_apply (h : MOp.remote o) (t : State) (g : Nat) : mApply t g o f =
    ((t.standPlace (t.standOf g) (ea (t.core g) f).toNat).map fun p => niIssue t (t.standOf g) g o f p (mPayload (t.core g) o f)).getD t := by
  cases o
  case rld | rst | radd | rmax | rmin | rxchg | rcas | rfadd | rredAdd | rredMax | rredMin | rredFadd | rredTopk =>
    show (match t.standPlace (t.standOf g) (ea (t.core g) f).toNat with
      | some p => _
      | none => _) = _
    cases t.standPlace (t.standOf g) (ea (t.core g) f).toNat <;> rfl
  all_goals exact absurd h (by simp [MOp.remote, mAtomic, mReduction])

/-- A remote address without a fault is a place of the stand. -/
theorem remote_place (h : MOp.remote o) {i : Nat} {c : CoreSt} (fault : mFault s i c o f = false) :
    ∃ p, s.standPlace i (ea c f).toNat = some p := by
  cases hp : s.standPlace i (ea c f).toNat with
  | some p => exact ⟨p, rfl⟩
  | none =>
    have wrong : mFault s i c o f = true := by
      cases o
      case rld | rst | radd | rmax | rmin | rxchg | rcas | rfadd | rredAdd | rredMax | rredMin | rredFadd | rredTopk =>
        unfold mFault
        dsimp only
        rw [hp, Bool.or_true]
      all_goals exact absurd h (by simp [MOp.remote, mAtomic, mReduction])
    rw [fault] at wrong
    exact absurd wrong Bool.false_ne_true

theorem remote_quiet (h : MOp.remote o) : tagMask (.m o f) = 0 ∧ o ≠ .fence ∧ o ≠ .wflag ∧ o ≠ .hxfer := by
  cases o
  case rld | rst | radd | rmax | rmin | rxchg | rcas | rfadd | rredAdd | rredMax | rredMin | rredFadd | rredTopk => exact ⟨rfl, nofun, nofun, nofun⟩
  all_goals exact absurd h (by simp [MOp.remote, mAtomic, mReduction])

/-- The packet of a remote operation with what it carries. -/
def remotePkt (s : State) (g : Nat) (o : MOp) (f : MF) (p : Place) (count : BitVec 10) (data : Nat) : Pkt :=
  { kind := 0, op := BitVec.ofNat 8 o.code, stand := BitVec.ofNat 4 (s.standOf g), dst := BitVec.ofNat 4 (placeTile p),
    srcTile := BitVec.ofNat 4 (tileOf g), src := BitVec.ofNat 14 g, seq := sget 0 (s.core g).seqs (placeTile p), epoch := (s.core g).epoch,
    age := 0, af := f.af, dg := f.dg, bo := f.bo, width := f.w, comb := false, count := count,
    beat := (s.stand (s.standOf g)).beat.setWidth 6, addr := BitVec.ofNat 42 (pktAddr p), payload := BitVec.ofNat 512 data }

theorem remotePkt_is (s : State) (g : Nat) (p : Place) (count : BitVec 10) (data : Nat) :
    RemotePacket s g o f p data (remotePkt s g o f p count data) := by
  refine ⟨rfl, ?_, rfl, rfl, rfl, rfl, rfl, rfl, rfl, rfl, rfl, rfl, rfl, rfl, rfl, rfl, rfl⟩
  cases o <;> rfl

theorem remotePkt_isBo (s : State) (g : Nat) (p : Place) (count : BitVec 10) (data : Nat) :
    (remotePkt s g o f p count data).isBo = mBo o f := by
  unfold Pkt.isBo mBo remotePkt
  dsimp only
  rw [Bool.or_comm]
  cases o <;> rfl

/-- The scoreboard entry of a reply. -/
def replyEntry (x : Pkt) (bo : Bool) (beat : BitVec 64) (d : Option Dest) : List SbEnt :=
  (d.map fun r => [SbEnt.mk r (.remote x.dst x.seq) (if bo then some beat else none)]).getD []

theorem niIssue_eq {t : State} {l : List (Nat × Nat)} (only : OnlyCore s t e.g) (core : t.core e.g = (s.core e.g).issuing l) (p : Place) (data : Nat) :
    ∃ count last late, (mBo o f = true → late.getLast? = some
        ((remotePkt s e.g o f p count data).dst, (remotePkt s e.g o f p count data).seq, (s.stand (s.standOf e.g)).beat, (s.core e.g).pc)) ∧
      (mBo o f = false → late = (s.core e.g).boFrom) ∧
      niIssue t (t.standOf e.g) e.g o f p data = (t.setCore e.g (CoreSt.left { s.core e.g with
          ni := (s.core e.g).ni ++ [⟨remotePkt s e.g o f p count data, (s.stand (s.standOf e.g)).beat, mReplyDest o f, s.gtc, false, false, false,
            (s.core e.g).pc, (s.core e.g).niNext⟩],
          niNext := (s.core e.g).niNext + 1, boFrom := late,
          sb := (s.core e.g).sb ++ replyEntry (remotePkt s e.g o f p count data) (mBo o f) (s.stand (s.standOf e.g)).beat (mReplyDest o f),
          seqs := sset 0 (s.core e.g).seqs (placeTile p) ((remotePkt s e.g o f p count data).seq + 1), lastStore := last } (s.core e.g).pend l)).setTile
        (tileOf e.g) { s.tile (tileOf e.g) with inject := (s.tile (tileOf e.g)).inject ++ [⟨remotePkt s e.g o f p count data, 0, false⟩] } := by
  have tiles : t.tile (tileOf e.g) = s.tile (tileOf e.g) := by rw [only.1]; rfl
  have gtc : t.gtc = s.gtc := by rw [only.1]
  unfold niIssue
  dsimp only
  rw [core, standOf_of_onlyCore only, stand_of_onlyCore only, gtc]
  refine ⟨if plainStore (BitVec.ofNat 8 o.code) (mBo o f) && (s.core e.g).ni.any fun n =>
        n.pkt.dst.toNat == placeTile p && n.pkt.seq + 1 == sget 0 (s.core e.g).lastStore (placeTile p) && plainStore n.pkt.op n.pkt.bo then
      (sget 0 (s.core e.g).seqs (placeTile p) - (sget 0 (s.core e.g).lastStore (placeTile p) - 1)).setWidth 10 else 0,
    if plainStore (BitVec.ofNat 8 o.code) (mBo o f) then
      sset 0 (s.core e.g).lastStore (placeTile p) (sget 0 (s.core e.g).seqs (placeTile p) + 1) else (s.core e.g).lastStore,
    if mBo o f then
      (s.core e.g).boFrom.filter (fun b => decide ((s.stand (s.standOf e.g)).beat.toNat ≤ b.2.2.1.toNat + 1)) ++
        [(BitVec.ofNat 4 (placeTile p), sget 0 (s.core e.g).seqs (placeTile p), (s.stand (s.standOf e.g)).beat, (s.core e.g).pc)]
    else (s.core e.g).boFrom, fun bo => ?_, fun nbo => ?_, ?_⟩
  · rw [if_pos bo, List.getLast?_append]
    rfl
  · rw [if_neg (by rw [nbo]; exact Bool.false_ne_true)]
  · generalize mReplyDest o f = d
    rw [tiles]
    cases d <;> rfl

theorem OnlyCore.setTile {s t : State} {g : Nat} (h : OnlyCore s t g) (k : Nat) (x : PlaneTile) : OnlyCore (s.setTile k x) (t.setTile k x) g := by
  obtain ⟨frame, cores, ctrs, regions⟩ := h
  refine ⟨?_, cores, ctrs, regions⟩
  unfold State.setTile
  rw [frame]

/-- A ready remote operation sends its packet. -/
theorem remote_sends {i : Instr} (ho : MOp.remote o) (hi : i.slotOp = some (e, .m o f)) (clean : eccClean i = true) {data : Nat} {d : Option Dest}
    (payload : mPayload (s.core e.g) o f = data) (reply : mReplyDest o f = d) : Sends s i e o f data d := by
  intro h clear
  obtain ⟨ready, free, fault⟩ := h
  obtain ⟨mask, hf, hw, hx⟩ := remote_quiet (f := f) ho
  obtain ⟨p, place⟩ := remote_place ho fault
  have only := issueBase_onlyCore s e [.m o f]
  have core := issueBase_core s e [.m o f]
  obtain ⟨count, last, late, bo, nbo, does⟩ := niIssue_eq (o := o) (f := f) only core p data
  have apply : mApply (issueBase (s.met e) e [.m o f]) e.g o f = niIssue (issueBase (s.met e) e [.m o f])
      ((issueBase (s.met e) e [.m o f]).standOf e.g) e.g o f p data := by
    have place' : (issueBase (s.met e) e [.m o f]).standPlace ((issueBase (s.met e) e [.m o f]).standOf e.g)
        (ea ((issueBase (s.met e) e [.m o f]).core e.g) f).toNat = some p := by
      rw [standOf_of_onlyCore only, core, ← place, only.1]
      rfl
    have data' : mPayload ((issueBase (s.met e) e [.m o f]).core e.g) o f = data := by
      rw [core, ← payload]
      cases o <;> rfl
    rw [remote_apply ho, place', data']
    rfl
  refine ⟨p, remotePkt s e.g o f p count data, _,
    replyEntry (remotePkt s e.g o f p count data) (remotePkt s e.g o f p count data).isBo (s.stand (s.standOf e.g)).beat d, last, late, place,
    remotePkt_is .., rfl, by cases d <;> rfl, ?_, ?_, ?_⟩
  · rw [remotePkt_isBo]; exact bo
  · rw [remotePkt_isBo]; exact nbo
  · refine mOp_issuesIn ready (exec_slotOp hi clean) (stall_m ready free (tags_none mask) (waitHeld_none (fun h => absurd h hf) fun h => absurd h hw))
      (mOp_errors fault hx fun hc => absurd (clear.symm.trans hc) Bool.false_ne_true) ?_ ?_ rfl rfl rfl rfl (.nil ready.ordered)
    · rw [apply, does]
      exact (only.trans (OnlyCore.setCore _ _ _)).setTile _ _
    · rw [apply, does]
      refine (State.core_setCore_same ..).trans ?_
      rw [reply, remotePkt_isBo]

end

/-! ### Multicast stores (R222) -/

/-- What a copy of a multicast store of core `c` is. -/
structure CopyOf (g : Nat) (c : CoreSt) (payload : Nat) (n : NiOp) : Prop where
  op : n.pkt.op = 0x28
  payload : n.pkt.payload = BitVec.ofNat 512 payload
  src : n.pkt.src = BitVec.ofNat 14 g
  dest : n.dest = none
  bundle : n.bundle = c.pc

section
variable {g i : Nat} {f : MF}

theorem niIssue_mcst (a : State) (p : Place) (payload : Nat) : ∃ (n : NiOp) (bo : _) (last : _),
    niIssue a i g .mcst f p payload = (a.setCore g { a.core g with
        ni := (a.core g).ni ++ [n], niNext := (a.core g).niNext + 1, boFrom := bo,
        seqs := sset 0 (a.core g).seqs (placeTile p) (sget 0 (a.core g).seqs (placeTile p) + 1), lastStore := last }).setTile (tileOf g)
      { a.tile (tileOf g) with inject := (a.tile (tileOf g)).inject ++ [⟨n.pkt, 0, false⟩] } ∧
    CopyOf g (a.core g) payload n ∧ n.pkt.dst = BitVec.ofNat 4 (placeTile p) ∧ n.pkt.seq = sget 0 (a.core g).seqs (placeTile p) ∧
    n.num = (a.core g).niNext := by
  unfold niIssue
  have none : mReplyDest .mcst f = none := rfl
  dsimp only
  rw [none]
  dsimp only
  rw [List.append_nil]
  exact ⟨_, _, _, rfl, ⟨rfl, rfl, rfl, rfl, rfl⟩, rfl, rfl, rfl⟩

theorem sset_sset {α : Type} [DecidableEq α] (d : α) (m : SMap α) (k : Nat) {v w : α} (hv : v ≠ d) (hw : w ≠ d) :
    sset d (sset d m k v) k w = sset d m k w := by
  unfold sset
  rw [if_neg hv, if_neg hw, if_neg hw, sput_sput]

theorem State.setTile_setTile (a : State) (k : Nat) {x y : PlaneTile} (hx : x ≠ PlaneTile.empty) (hy : y ≠ PlaneTile.empty) :
    (a.setTile k x).setTile k y = a.setTile k y := by
  unfold State.setTile
  dsimp only
  rw [sset_sset _ _ _ hx hy]

theorem inject_nonempty (x : PlaneTile) (l : List _) (q : _) : { x with inject := l ++ [q] } ≠ PlaneTile.empty := by
  intro h
  have : l ++ [q] = [] := congrArg PlaneTile.inject h
  simp at this

/-- The copies to the tiles `t :: ts`, each at its place. -/
theorem mcst_copies (places : Nat → Place) (payload : Nat) (t : Nat) (ts : List Nat) (own : ∀ k ∈ t :: ts, placeTile (places k) = k)
    (few : ∀ k ∈ t :: ts, k < 16) (distinct : (t :: ts).Nodup) (a : State) : ∃ (z : State) (ns : List NiOp) (cores : _),
    (t :: ts).foldl (fun b k => niIssue b i g .mcst f (places k) payload) a = z ∧ ns.map (fun n => n.pkt.dst.toNat) = t :: ts ∧
    (∀ n ∈ ns, CopyOf g (a.core g) payload n ∧ n.pkt.seq = sget 0 (a.core g).seqs n.pkt.dst.toNat) ∧
    (∀ k n, ns[k]? = some n → n.num = (a.core g).niNext + k) ∧
    z = ({ a with cores := cores } : State).setTile (tileOf g) { a.tile (tileOf g) with
      inject := (a.tile (tileOf g)).inject ++ ns.map fun n => ⟨n.pkt, 0, false⟩ } ∧
    (∀ h, h ≠ g → z.core h = a.core h) ∧ ∃ bo seqs last, z.core g = { a.core g with
      ni := (a.core g).ni ++ ns, niNext := (a.core g).niNext + ns.length, boFrom := bo, seqs := seqs, lastStore := last } := by
  induction ts generalizing t a with
  | nil =>
    obtain ⟨n, bo, last, step, copy, dst, seq, num⟩ := niIssue_mcst (i := i) (g := g) (f := f) a (places t) payload
    have tile : n.pkt.dst.toNat = t := by
      rw [dst, own t List.mem_cons_self, BitVec.toNat_ofNat, Nat.mod_eq_of_lt (few t List.mem_cons_self)]
    refine ⟨_, [n], _, rfl, by rw [List.map_cons, List.map_nil, tile], fun m hm => ?_, fun k m hm => ?_, step, fun h hh => ?_, ?_⟩
    · obtain rfl := List.mem_singleton.1 hm
      exact ⟨copy, by rw [seq, own t List.mem_cons_self, tile]⟩
    · cases k with
      | zero => obtain rfl := Option.some.inj hm; exact num
      | succ k => simp at hm
    · rw [List.foldl_cons, List.foldl_nil, step]
      exact State.core_setCore_ne _ _ hh
    · rw [List.foldl_cons, List.foldl_nil, step]
      exact ⟨bo, _, last, State.core_setCore_same ..⟩
  | cons t' ts ih =>
    obtain ⟨n, bo, last, step, copy, dst, seq, num⟩ := niIssue_mcst (i := i) (g := g) (f := f) a (places t) payload
    have tile : n.pkt.dst.toNat = t := by
      rw [dst, own t List.mem_cons_self, BitVec.toNat_ofNat, Nat.mod_eq_of_lt (few t List.mem_cons_self)]
    obtain ⟨fresh, distinct'⟩ := List.nodup_cons.1 distinct
    set b := niIssue a i g .mcst f (places t) payload with hb
    have bcore : b.core g = { a.core g with
        ni := (a.core g).ni ++ [n], niNext := (a.core g).niNext + 1, boFrom := bo,
        seqs := sset 0 (a.core g).seqs (placeTile (places t)) (sget 0 (a.core g).seqs (placeTile (places t)) + 1), lastStore := last } := by
      rw [step]; exact State.core_setCore_same ..
    obtain ⟨z, ns, cores, hz, tiles, copies, nums, frame, others, bo', seqs', last', core⟩ := ih t' (fun k hk => own k (List.mem_cons_of_mem _ hk))
      (fun k hk => few k (List.mem_cons_of_mem _ hk)) distinct' b
    refine ⟨z, n :: ns, cores, by rw [List.foldl_cons, ← hb, hz], by rw [List.map_cons, tile, tiles], fun m hm => ?_, fun k m hm => ?_, ?_, fun h hh => ?_, ?_⟩
    · rcases List.mem_cons.1 hm with rfl | hm
      · exact ⟨copy, by rw [seq, own t List.mem_cons_self, tile]⟩
      · obtain ⟨c, q⟩ := copies m hm
        have other : m.pkt.dst.toNat ≠ t := fun e => fresh (by rw [← e, ← tiles]; exact List.mem_map_of_mem hm)
        rw [bcore] at c q
        exact ⟨⟨c.op, c.payload, c.src, c.dest, c.bundle⟩, q.trans ((sget_sset ..).trans (if_neg (by rw [own t List.mem_cons_self]; exact other)))⟩
    · cases k with
      | zero => obtain rfl := Option.some.inj hm; exact num
      | succ k =>
        rw [nums k m hm, bcore]
        show (a.core g).niNext + 1 + k = _
        omega
    · have btile : b.tile (tileOf g) = { a.tile (tileOf g) with inject := (a.tile (tileOf g)).inject ++ [⟨n.pkt, 0, false⟩] } := by
        rw [step, State.tile_setTile_same]
      have bframe : ({ b with cores := cores } : State) = ({ a with cores := cores } : State).setTile (tileOf g)
          { a.tile (tileOf g) with inject := (a.tile (tileOf g)).inject ++ [⟨n.pkt, 0, false⟩] } := by
        rw [step]
        rfl
      rw [frame, bframe, btile]
      refine (State.setTile_setTile _ _ (inject_nonempty _ _ _) fun h => ?_).trans ?_
      · have none : (a.tile (tileOf g)).inject ++ [⟨n.pkt, 0, false⟩] ++ ns.map (fun n => ⟨n.pkt, 0, false⟩) = [] := congrArg PlaneTile.inject h
        simp at none
      · simp only [List.append_assoc, List.singleton_append, List.map_cons]
    · rw [others h hh, step]
      exact State.core_setCore_ne _ _ hh
    · refine ⟨bo', seqs', last', ?_⟩
      rw [core, bcore]
      simp only [List.append_assoc, List.singleton_append, List.length_cons, Nat.add_assoc, Nat.add_comm 1]

end

theorem maskTiles_eq (x : BitVec 64) : maskTiles x.toNat = (List.range 16).filter fun k => x.getLsbD k :=
  List.filter_congr fun _ _ => natBit_eq_testBit _ _

/-- A place of the stand outside the interleaved space is the address's own place. -/
theorem State.placeOf_standPlace {s : State} {i a : Nat} {p : Place} (h : s.standPlace i a = some p) (space : natBits a 44 4 ≠ 1) :
    placeOf a = some p := by
  unfold State.standPlace at h
  cases ha : placeOf a with
  | none => rw [ha] at h; exact absurd h nofun
  | some q =>
    rw [ha] at h
    cases q
    case inter o =>
      unfold placeOf at ha
      dsimp only at ha
      rw [if_neg space] at ha
      repeat' split at ha
      all_goals cases ha
    case hbm | tower | data | prog =>
      dsimp only at h
      split at h
      · exact h
      · exact absurd h nofun
    case tileReg | modReg => exact absurd h nofun

theorem placeTile_stack {a : Nat} {p : Place} (space : natBits a 44 4 = 0) (h : placeOf a = some p) : placeTile p = natBits a 39 5 / 2 := by
  unfold placeOf at h
  dsimp only at h
  rw [if_pos space] at h
  split at h
  · cases h
  · split at h
    · cases h; rfl
    · cases h

theorem placeTile_tower {a : Nat} {p : Place} (space : natBits a 44 4 = 2 ∨ natBits a 44 4 = 3) (h : placeOf a = some p) :
    placeTile p = natBits a 37 7 / 6 := by
  unfold placeOf at h
  dsimp only at h
  rw [if_neg (by omega : natBits a 44 4 ≠ 0), if_neg (by omega : natBits a 44 4 ≠ 1)] at h
  have hex : natBits a 34 3 < 8 := natBits_lt _ _ _
  have core : natBits a 30 4 < 16 := natBits_lt _ _ _
  split at h
  · cases h
  rcases space with space | space
  · rw [if_pos space] at h
    split at h
    · cases h; rfl
    · cases h
  · rw [if_neg (by omega : natBits a 44 4 ≠ 2), if_pos space] at h
    split at h
    · cases h
      show (128 * natBits a 37 7 + 16 * natBits a 34 3 + natBits a 30 4) / 768 = _
      omega
    · cases h

/-- A multicast copy's address lies on its own tile. -/
theorem placeTile_mcstAddr {s : State} {i a t a' : Nat} {p : Place} (ht : t < 16) (ha : mcstAddr a t = some a') (hp : s.standPlace i a' = some p) :
    placeTile p = t := by
  unfold mcstAddr at ha
  split at ha
  case h_1 space =>
    cases ha
    have kept : natBits (natPut a 39 5 (2 * t + natBits a 39 5 % 2)) 44 4 = 0 := (natBits_natPut_ne _ _ _ _ _ _ (by omega)).trans space
    rw [placeTile_stack kept (s.placeOf_standPlace hp (by omega)), natBits_natPut_same]
    omega
  case h_2 space =>
    cases ha
    have kept : natBits (natPut a 37 7 (6 * t + natBits a 37 7 % 6)) 44 4 = 2 := (natBits_natPut_ne _ _ _ _ _ _ (by omega)).trans space
    rw [placeTile_tower (.inl kept) (s.placeOf_standPlace hp (by omega)), natBits_natPut_same, Nat.mod_eq_of_lt (by omega)]
    omega
  case h_3 space =>
    cases ha
    have kept : natBits (natPut a 37 7 (6 * t + natBits a 37 7 % 6)) 44 4 = 3 := (natBits_natPut_ne _ _ _ _ _ _ (by omega)).trans space
    rw [placeTile_tower (.inr kept) (s.placeOf_standPlace hp (by omega)), natBits_natPut_same, Nat.mod_eq_of_lt (by omega)]
    omega
  case h_4 => cases ha

/-- The places of the tiles of a multicast store's mask. -/
def mcstPlace (s : State) (i a t : Nat) : Place := ((mcstAddr a t).bind (s.standPlace i)).getD (.modReg 0)

/-- A multicast address without a fault: its mask names a tile, and every tile of it has a place. -/
theorem mcst_places {s : State} {i : Nat} {c : CoreSt} {f : MF} (fault : mFault s i c .mcst f = false) : (c.sr f.b).toNat % 2 ^ 16 ≠ 0 ∧
    ∀ t ∈ maskTiles (c.sr f.b).toNat, (mcstAddr (ea c f).toNat t).bind (s.standPlace i) = some (mcstPlace s i (ea c f).toNat t) ∧
      placeTile (mcstPlace s i (ea c f).toNat t) = t := by
  unfold mFault at fault
  dsimp only at fault
  rw [Bool.or_eq_false_iff, Bool.or_eq_false_iff] at fault
  obtain ⟨⟨-, some16⟩, all⟩ := fault
  refine ⟨of_decide_eq_false some16, fun t ht => ?_⟩
  have few : t < 16 := List.mem_range.1 (List.mem_filter.1 ht).1
  have good := List.any_eq_false.1 all t ht
  cases ha : mcstAddr (ea c f).toNat t with
  | none => rw [ha] at good; exact absurd rfl good
  | some a' =>
    rw [ha] at good
    cases hp : s.standPlace i a' with
    | none => dsimp only at good; rw [hp] at good; exact absurd rfl good
    | some p =>
      have place : mcstPlace s i (ea c f).toNat t = p := by unfold mcstPlace; rw [ha, Option.bind_some, hp, Option.getD_some]
      rw [place, Option.bind_some]
      exact ⟨hp, placeTile_mcstAddr few ha hp⟩

theorem maskTiles_nonempty {m : Nat} (h : m % 2 ^ 16 ≠ 0) : maskTiles m ≠ [] := by
  obtain ⟨k, hk⟩ := Nat.exists_testBit_of_ne_zero h
  rw [Nat.testBit_mod_two_pow, Bool.and_eq_true, decide_eq_true_iff] at hk
  exact List.ne_nil_of_mem (List.mem_filter.2 ⟨List.mem_range.2 hk.1, (natBit_eq_testBit _ _).trans hk.2⟩)

section
variable {s : State} {e : Iss} {f : MF}

/-- Copies of a multicast store issue: one to every tile of the mask. -/
theorem mcstIssue_eq {a : State} {i g : Nat} (places : Nat → Place) {t : Nat} {ts : List Nat} (mask : maskTiles ((a.core g).sr f.b).toNat = t :: ts)
    (at_ : ∀ k ∈ t :: ts, (mcstAddr (ea (a.core g) f).toNat k).bind (a.standPlace i) = some (places k)) :
    mcstIssue a i g f = (t :: ts).foldl (fun b k => niIssue b i g .mcst f (places k) (mPayload (a.core g) .mcst f)) a := by
  unfold mcstIssue
  dsimp only
  rw [mask]
  refine List.foldl_ext _ _ _ fun b k hk => ?_
  rw [at_ k hk]

theorem standPlace_of_onlyCore {t : State} {g : Nat} (h : OnlyCore s t g) : t.standPlace = s.standPlace := by
  obtain ⟨frame, -⟩ := h
  rw [frame]
  rfl

/-- mcst issues with a copy to every tile of its mask (R222). -/
theorem mcst_sends (h : MReady s e .mcst f) (clear : s.inClearing (s.standOf e.g) = false) : ∃ (t : State) (ns : List NiOp),
    exec (.mcst e f) s = .next t ∧ ns.map (fun n => n.pkt.dst.toNat) = maskTiles ((s.core e.g).sr f.b).toNat ∧
    (∀ n ∈ ns, CopyOf e.g (s.core e.g) (mPayload (s.core e.g) .mcst f) n ∧ n.pkt.seq = sget 0 (s.core e.g).seqs n.pkt.dst.toNat) ∧
    (∀ k n, ns[k]? = some n → n.num = (s.core e.g).niNext + k) ∧
    IssuedAs (s.setTile (tileOf e.g) { s.tile (tileOf e.g) with
        inject := (s.tile (tileOf e.g)).inject ++ ns.map fun n => ⟨n.pkt, 0, false⟩ }) t e none
      { s.core e.g with ni := (s.core e.g).ni ++ ns, niNext := (s.core e.g).niNext + ns.length, boFrom := (t.core e.g).boFrom,
                        seqs := (t.core e.g).seqs, lastStore := (t.core e.g).lastStore } [] := by
  obtain ⟨ready, free, fault⟩ := h
  obtain ⟨nonzero, places⟩ := mcst_places fault
  obtain ⟨t, ts, mask⟩ := List.exists_cons_of_ne_nil (maskTiles_nonempty nonzero)
  rw [mask] at places
  have few : ∀ k ∈ t :: ts, k < 16 := fun k hk => List.mem_range.1 (List.mem_filter.1 (mask ▸ hk : k ∈ maskTiles _)).1
  have distinct : (t :: ts).Nodup := mask ▸ (List.nodup_range.filter _)
  have only := issueBase_onlyCore s e [.m .mcst f]
  have core := issueBase_core s e [.m .mcst f]
  set a := issueBase (s.met e) e [.m .mcst f] with ha
  have sr : ((a.core e.g).sr f.b) = (s.core e.g).sr f.b := by rw [core]; rfl
  have addr : ea (a.core e.g) f = ea (s.core e.g) f := by rw [core]; rfl
  have payload : mPayload (a.core e.g) .mcst f = mPayload (s.core e.g) .mcst f := by rw [core]; rfl
  have apply : mApply a e.g .mcst f = _ := mcstIssue_eq (i := a.standOf e.g) (mcstPlace s (s.standOf e.g) (ea (s.core e.g) f).toNat)
    (by rw [sr]; exact mask) fun k hk => by
      rw [addr, standPlace_of_onlyCore only, standOf_of_onlyCore only]
      exact (places k hk).1
  obtain ⟨z, ns, cores, hz, tiles, copies, nums, frame, others, bo, seqs, last, after⟩ := mcst_copies (i := a.standOf e.g) (g := e.g) (f := f)
    (mcstPlace s (s.standOf e.g) (ea (s.core e.g) f).toNat) (mPayload (a.core e.g) .mcst f) t ts (fun k hk => (places k hk).2) few distinct a
  rw [hz] at apply
  obtain ⟨mask0, hf, hw, hx⟩ : tagMask (.m .mcst f) = 0 ∧ MOp.mcst ≠ .fence ∧ MOp.mcst ≠ .wflag ∧ MOp.mcst ≠ .hxfer := ⟨rfl, nofun, nofun, nofun⟩
  obtain ⟨u, hu, issued⟩ : IssuesIn s (s.setTile (tileOf e.g) { s.tile (tileOf e.g) with
        inject := (s.tile (tileOf e.g)).inject ++ ns.map fun n => ⟨n.pkt, 0, false⟩ }) (.mcst e f) e (.m .mcst f)
      { s.core e.g with ni := (s.core e.g).ni ++ ns, niNext := (s.core e.g).niNext + ns.length, boFrom := bo, seqs := seqs, lastStore := last } [] := by
    refine mOp_issuesIn ready (exec_slotOp rfl rfl) (stall_m ready free (tags_none mask0) (waitHeld_none (fun h => absurd h hf) fun h => absurd h hw))
      (mOp_errors fault hx fun hc => absurd (clear.symm.trans hc) Bool.false_ne_true) ?_ ?_ rfl rfl rfl rfl (.nil ready.ordered)
    · have tile : a.tile (tileOf e.g) = s.tile (tileOf e.g) := by rw [only.1]; rfl
      have wider : OnlyCore a { a with cores := cores } e.g := ⟨rfl, fun h hh => (congrArg (State.core · h) frame).symm.trans (others h hh), fun _ _ => rfl, fun _ _ _ => rfl⟩
      rw [apply, frame, tile]
      exact (only.trans wider).setTile _ _
    · rw [apply, after, core]
      rfl
  obtain ⟨-, one, -⟩ := id issued
  have hbo : (u.core e.g).boFrom = bo := by rw [one]
  have hseqs : (u.core e.g).seqs = seqs := by rw [one]
  have hlast : (u.core e.g).lastStore = last := by rw [one]
  refine ⟨u, ns, hu, by rw [tiles, mask], fun n hn => ?_, fun k n hn => ?_, ?_⟩
  · obtain ⟨copy, seq⟩ := copies n hn
    rw [payload] at copy
    rw [core] at copy seq
    exact ⟨⟨copy.op, copy.payload, copy.src, copy.dest, copy.bundle⟩, seq⟩
  · rw [nums k n hn, core]
    rfl
  · rw [hbo, hseqs, hlast]
    exact issued

end

theorem data_eq (c : CoreSt) (f : MF) (low : Nat) : (if f.vecData then (c.vr f.v).toNat else low) = if f.w = 4 then (c.vr f.v).toNat else low := by
  unfold MF.vecData
  by_cases wide : f.w = 4
  · rw [wide]; rfl
  · rw [if_neg wide, if_neg (by simpa using wide)]

theorem mReplyDest_atomic {o : MOp} {f : MF} (ho : mAtomic o = true) : mReplyDest o f = if f.d = 0 then none else some (.s f.d) := by
  have reply : mReplyDest o f = if mAtomic o && !(f.d == 0) then some (.s f.d) else none := by
    cases o
    case rld => exact absurd ho Bool.false_ne_true
    all_goals rfl
  rw [reply, ho]
  by_cases zero : f.d = 0
  · rw [zero]; rfl
  · rw [if_neg zero, if_pos (by simpa using zero)]

/-- Settles O24: each remote operation issues its packet, and mcst a copy to every tile of its mask. -/
theorem remoteOperationsSend : Obligations.RemoteOperationsSend := by
  unfold Obligations.RemoteOperationsSend
  refine ⟨fun s e f => ?_, fun s e f h clear => ?_⟩
  · have data := data_eq (s.core e.g) f (((s.core e.g).sr f.b).toNat % 2 ^ (8 * wBytes f.w))
    refine ⟨?_, ?_, ?_, ?_, ?_, ?_, ?_, ?_, ?_, ?_, ?_, ?_, ?_⟩
    · exact remote_sends (.inl rfl) rfl rfl rfl (by simp [mReplyDest])
    · exact remote_sends (.inr (.inl rfl)) rfl rfl data rfl
    iterate 6 exact remote_sends (.inr (.inr (.inl rfl))) rfl rfl rfl (mReplyDest_atomic rfl)
    iterate 5 exact remote_sends (.inr (.inr (.inr rfl))) rfl rfl data rfl
  · obtain ⟨t, ns, does, tiles, copies, nums, issued⟩ := mcst_sends h clear
    refine ⟨t, ns, does, tiles.trans (maskTiles_eq _), fun n hn => ?_, nums, issued⟩
    obtain ⟨copy, seq⟩ := copies n hn
    exact ⟨copy.op, copy.payload, copy.src, seq, copy.dest, copy.bundle⟩

end Sys2Proof.Machine

/-! PROOF. A host's register accesses (O26). -/

namespace Sys2Proof.Machine

/-! ### Reads and writes of one word (R8, R9, R16) -/

section
variable {s : State} {p off a : Nat} {r : RegSpec}

/-- The high word of a register stands only where the register is wide. -/
theorem State.hostPlace_wide (h : s.hostPlace p off = .reg a r true) : r.wide = true := by
  unfold State.hostPlace at h
  dsimp only at h
  repeat' split at h
  all_goals cases h
  rename_i wide
  exact (Bool.and_eq_true_iff.1 wide).1

theorem State.hostRead_served (hp : p < 2) (up : s.portUp p = true) (d0 : (s.port p).d3 = false) (serves : s.serves p off = true) {n : Nat}
    (hn : n = 4 ∨ n = 8) (aligned : off % n = 0) :
    s.hostRead p off n = .next ((s.readHost p off n).2.emit (.data p (s.readHost p off n).1)) := by
  unfold State.hostRead
  rw [if_neg (by omega), up, d0, serves, if_neg (by simp), if_neg (by simp), if_neg (by omega), if_neg (by omega), if_neg (by simp)]

theorem State.hostStore_served (hp : p < 2) (up : s.portUp p = true) (d0 : (s.port p).d3 = false) (serves : s.serves p off = true) {n : Nat}
    (hn : n = 4 ∨ n = 8) (aligned : off % n = 0) (v : Nat) :
    s.hostStore p off n v = .next (if n = 8 then s.writeWide p off v else s.writeWord p off (v % 2 ^ 32)) := by
  unfold State.hostStore
  rw [if_neg (by omega), up, d0, serves, if_neg (by simp), if_neg (by omega), if_neg (by simp)]
  split <;> rfl

theorem halves_append (v : Word) : BitVec.ofNat 32 (v.toNat / 2 ^ 32) ++ BitVec.ofNat 32 v.toNat = v := by
  refine BitVec.eq_of_toNat_eq ?_
  have hv := v.isLt
  rw [BitVec.toNat_append, BitVec.toNat_ofNat, BitVec.toNat_ofNat, Nat.shiftLeft_eq, Nat.mul_comm,
    ← Nat.two_pow_add_eq_or_of_lt (Nat.mod_lt _ (Nat.two_pow_pos 32)), Nat.mod_eq_of_lt (by omega : v.toNat / 2 ^ 32 < 2 ^ 32)]
  omega

theorem setWidth_half (n : Nat) : (BitVec.ofNat 32 n).setWidth 64 = BitVec.ofNat 64 (n % 2 ^ 32) := by
  refine BitVec.eq_of_toNat_eq ?_
  rw [BitVec.toNat_setWidth, BitVec.toNat_ofNat, BitVec.toNat_ofNat]

theorem State.readHost_word : s.readHost p off 4 = ((s.readHalf p off).1.setWidth 64, (s.readHalf p off).2) := rfl

theorem State.readHalf_low (low : s.hostPlace p off = .reg a r false) : s.readHalf p off = (BitVec.ofNat 32 (s.regView a).toNat,
    if r.wide then s.setPort p { s.port p with latch := sset none (s.port p).latch a (some (BitVec.ofNat 32 ((s.regView a).toNat / 2 ^ 32))) } else s) := by
  unfold State.readHalf
  rw [low]

theorem State.readHalf_latched (high : s.hostPlace p off = .reg a r true) {h : BitVec 32} (latch : sget none (s.port p).latch a = some h) :
    s.readHalf p off = (h, s.setPort p { s.port p with latch := sset none (s.port p).latch a none }) := by
  unfold State.readHalf
  rw [high]
  dsimp only
  rw [latch]

theorem State.readHalf_high (high : s.hostPlace p off = .reg a r true) (latch : sget none (s.port p).latch a = none) :
    s.readHalf p off = (BitVec.ofNat 32 ((s.regView a).toNat / 2 ^ 32), s) := by
  unfold State.readHalf
  rw [high]
  dsimp only
  rw [latch]

theorem State.readHalf_unassigned (un : s.hostPlace p off = .unassigned) : s.readHalf p off = (BitVec.allOnes 32, s.refuseAccess p off) := by
  unfold State.readHalf State.readWord
  rw [un]

theorem State.readHost_wide (low : s.hostPlace p off = .reg a r false) (high : s.hostPlace p (off + 4) = .reg a r true) :
    s.readHost p off 8 = (s.regView a, s) := by
  have lowWord : s.readWord p off = (BitVec.ofNat 32 (s.regView a).toNat, s) := by unfold State.readWord; rw [low]
  have highWord : s.readWord p (off + 4) = (BitVec.ofNat 32 ((s.regView a).toNat / 2 ^ 32), s) := by unfold State.readWord; rw [high]
  unfold State.readHost
  rw [if_pos rfl, low, high, if_neg (by simp)]
  dsimp only
  rw [State.hostPlace_wide high, if_pos rfl, if_pos rfl, lowWord, highWord]
  exact congrArg (·, s) (halves_append _)

theorem State.readHost_unassigned (un : s.hostPlace p off = .unassigned ∨ s.hostPlace p (off + 4) = .unassigned) :
    s.readHost p off 8 = (BitVec.allOnes 64, s.refuseAccess p off) := by
  unfold State.readHost
  rw [if_pos rfl, if_pos un]

theorem State.writeWord_narrow (low : s.hostPlace p off = .reg a r false) (port : s.wrongPort p a = none) (narrow : r.wide = false) (v : Nat) :
    s.writeWord p off v = s.regWrite p a r 0 v := by
  unfold State.writeWord
  rw [low]
  dsimp only
  rw [port]
  dsimp only
  rw [narrow]
  rfl

theorem State.writeWord_low (low : s.hostPlace p off = .reg a r false) (port : s.wrongPort p a = none) (wide : r.wide = true) (v : Nat) :
    s.writeWord p off v = s.setPort p { s.port p with held := sset none (s.port p).held a (some (BitVec.ofNat 32 v)) } := by
  unfold State.writeWord
  rw [low]
  dsimp only
  rw [port]
  dsimp only
  rw [wide]
  rfl

theorem State.writeWord_high (high : s.hostPlace p off = .reg a r true) (port : s.wrongPort p a = none) (v : Nat) :
    s.writeWord p off v = ((sget none (s.port p).held a).map fun lo => (s.setPort p { s.port p with held := sset none (s.port p).held a none }).regWrite p a r 0
      (lo.toNat + v * 2 ^ 32)).getD (s.regWrite p a r 32 (v * 2 ^ 32)) := by
  unfold State.writeWord
  rw [high]
  dsimp only
  rw [port]
  dsimp only
  rw [State.hostPlace_wide high]
  rw [Bool.not_true, if_neg Bool.false_ne_true, if_neg Bool.false_ne_true]
  cases sget none (s.port p).held a <;> rfl

theorem State.writeWord_unassigned (un : s.hostPlace p off = .unassigned) (v : Nat) : s.writeWord p off v = s.refuseAccess p off := by
  unfold State.writeWord
  rw [un]

theorem State.writeWide_wide (low : s.hostPlace p off = .reg a r false) (high : s.hostPlace p (off + 4) = .reg a r true)
    (port : s.wrongPort p a = none) (v : Nat) :
    s.writeWide p off v = (s.setPort p { s.port p with held := sset none (s.port p).held a none }).regWrite p a r 0 v := by
  unfold State.writeWide
  rw [if_neg (by rw [low, high]; simp), low]
  dsimp only
  rw [State.hostPlace_wide high, if_pos rfl, port]

theorem State.writeWide_unassigned (un : s.hostPlace p off = .unassigned ∨ s.hostPlace p (off + 4) = .unassigned) (v : Nat) :
    s.writeWide p off v = s.refuseAccess p off := by
  unfold State.writeWide
  rw [if_pos un]

end

/-! ### A write by access code (R13 to R15) -/

/-- The fields of a register lie in its 64 bits and apart. -/
def fieldsApart (fs : List FieldSpec) : Prop :=
  (∀ f ∈ fs, f.lo + f.w ≤ 64) ∧ fs.Pairwise fun f g => f.lo + f.w ≤ g.lo ∨ g.lo + g.w ≤ f.lo

theorem regTable_apart : ∀ r ∈ regTable, fieldsApart r.fields := by
  unfold fieldsApart
  decide +kernel

/-- One field of a write. -/
theorem writeFields_cons (s : State) (a v : Nat) {f : FieldSpec} {fs : List FieldSpec} (inside : f.lo + f.w ≤ 64)
    (free : f.acc = .rw → s.reservedValue a f.lo (natBits v f.lo f.w) v = false) {cur : Nat} (bound : cur < 2 ^ 64) :
    ∃ nv, s.writeFields a 0 v (f :: fs) cur false = s.writeFields a 0 v fs nv false ∧ nv < 2 ^ 64 ∧
      natBits nv f.lo f.w = fieldAfter f (natBits cur f.lo f.w) (natBits v f.lo f.w) ∧
      ∀ g : FieldSpec, f.lo + f.w ≤ g.lo ∨ g.lo + g.w ≤ f.lo → natBits nv g.lo g.w = natBits cur g.lo g.w := by
  have whole : v / 2 ^ 0 * 2 ^ 0 + cur % 2 ^ 0 = v := by omega
  have old := natBits_lt cur f.lo f.w
  have new := natBits_lt v f.lo f.w
  have put : ∀ x, x < 2 ^ f.w → x = fieldAfter f (natBits cur f.lo f.w) (natBits v f.lo f.w) → natPut cur f.lo f.w x < 2 ^ 64 ∧
      natBits (natPut cur f.lo f.w x) f.lo f.w = fieldAfter f (natBits cur f.lo f.w) (natBits v f.lo f.w) ∧
      ∀ g : FieldSpec, f.lo + f.w ≤ g.lo ∨ g.lo + g.w ≤ f.lo → natBits (natPut cur f.lo f.w x) g.lo g.w = natBits cur g.lo g.w :=
    fun x hx after => ⟨natPut_lt bound inside, by rw [natBits_natPut_same, Nat.mod_eq_of_lt hx, after],
      fun g hg => natBits_natPut_ne _ _ _ _ _ _ hg.symm⟩
  have low : ¬ f.lo < 0 := Nat.not_lt_zero _
  unfold fieldAfter at put ⊢
  rw [State.writeFields]
  simp only [whole, if_neg low]
  cases acc : f.acc with
  | ro => exact ⟨cur, rfl, bound, rfl, fun _ _ => rfl⟩
  | wo => exact ⟨cur, rfl, bound, rfl, fun _ _ => rfl⟩
  | rw =>
    rw [acc] at put
    by_cases empty : f.lo + f.w ≤ 0
    · refine ⟨cur, by simp only [empty, decide_true, if_true], bound, ?_, fun _ _ => rfl⟩
      rw [show f.w = 0 by omega]
      exact (Nat.mod_one _).trans (Nat.mod_one _).symm
    · refine ⟨_, ?_, put _ new rfl⟩
      simp only [empty, decide_false, free acc, Bool.false_eq_true, if_false]
  | w1c => rw [acc] at put; exact ⟨_, rfl, put _ (lt_of_le_of_lt Nat.and_le_left old) rfl⟩
  | w1s => rw [acc] at put; exact ⟨_, rfl, put _ (Nat.or_lt_two_pow old new) rfl⟩
  | rws => rw [acc] at put; exact ⟨_, rfl, put _ (Nat.or_lt_two_pow old new) rfl⟩

/-- A write of a field list whose reserved encodings it avoids: each field by its access code, every bit outside the fields kept. -/
theorem writeFields_spec (s : State) (a v : Nat) {fs : List FieldSpec} (apart : fieldsApart fs)
    (free : ∀ f ∈ fs, f.acc = .rw → s.reservedValue a f.lo (natBits v f.lo f.w) v = false) (cur : Nat) (bound : cur < 2 ^ 64) :
    ∃ nv, s.writeFields a 0 v fs cur false = (nv, false) ∧ nv < 2 ^ 64 ∧
      (∀ f ∈ fs, natBits nv f.lo f.w = fieldAfter f (natBits cur f.lo f.w) (natBits v f.lo f.w)) ∧
      ∀ g : FieldSpec, (∀ f ∈ fs, f.lo + f.w ≤ g.lo ∨ g.lo + g.w ≤ f.lo) → natBits nv g.lo g.w = natBits cur g.lo g.w := by
  induction fs generalizing cur with
  | nil => exact ⟨cur, rfl, bound, fun f hf => absurd hf List.not_mem_nil, fun _ _ => rfl⟩
  | cons f fs ih =>
    obtain ⟨inside, pairs⟩ := apart
    obtain ⟨away, pairs⟩ := List.pairwise_cons.1 pairs
    obtain ⟨mid, step, midBound, field, rest⟩ := writeFields_cons s a v (fs := fs) (inside f List.mem_cons_self) (free f List.mem_cons_self) bound
    obtain ⟨nv, does, nvBound, fields, outside⟩ := ih ⟨fun g hg => inside g (List.mem_cons_of_mem _ hg), pairs⟩
      (fun g hg => free g (List.mem_cons_of_mem _ hg)) mid midBound
    refine ⟨nv, step.trans does, nvBound, fun g hg => ?_, fun g hg => ?_⟩
    · rcases List.mem_cons.1 hg with rfl | hg
      · rw [outside g fun h hh => (away h hh).symm, field]
      · rw [fields g hg, rest g (away g hg)]
    · rw [outside g fun h hh => hg h (List.mem_cons_of_mem _ hh), rest g (hg f List.mem_cons_self)]

/-- A write of a register without a further effect. -/
theorem regWrite_plain {s : State} {p a v : Nat} {r : RegSpec} (plain : PlainReg a) (spec : regSpecOf a = some r)
    (free : ∀ f ∈ r.fields, f.acc = .rw → s.reservedValue a f.lo (natBits v f.lo f.w) v = false) :
    ∃ x : Word, s.regWrite p a r 0 v = s.setReg a x ∧
      ∀ f ∈ r.fields, natBits x.toNat f.lo f.w = fieldAfter f (natBits (s.reg a).toNat f.lo f.w) (natBits v f.lo f.w) := by
  obtain ⟨target, tile, ints, word, ilk, ref, obs, arm⟩ := plain
  obtain ⟨nv, does, nvBound, fields, -⟩ := writeFields_spec s a v (regTable_apart r (List.mem_of_find?_eq_some spec)) free (s.reg a).toNat (s.reg a).isLt
  refine ⟨BitVec.ofNat 64 nv, ?_, ?_⟩
  · unfold State.regWrite
    dsimp only
    rw [if_neg target, if_neg tile, does]
    dsimp only
    rw [if_pos ints, if_neg word, if_neg (not_or.2 ⟨ilk, ref⟩), if_neg obs, arm]
    rfl
  · rw [BitVec.toNat_ofNat, Nat.mod_eq_of_lt nvBound]
    exact fields

/-- Settles O26: each access goes to the word that its offset names, and a plain write goes field by field. -/
theorem hostRegisterAccesses : Obligations.HostRegisterAccesses := by
  unfold Obligations.HostRegisterAccesses
  refine ⟨fun s p off a r hp up d0 serves aligned => ?_, fun s p a v r plain spec _ free => ?_⟩
  · have read4 := State.hostRead_served hp up d0 serves (.inl rfl) aligned
    have read8 := fun h => State.hostRead_served hp up d0 serves (.inr rfl) h
    have store4 := State.hostStore_served hp up d0 serves (.inl rfl) aligned
    have store8 := fun h => State.hostStore_served hp up d0 serves (.inr rfl) h
    refine ⟨fun low narrow => ?_, fun low wide => ?_, fun low al high => ?_, fun high h latch => ?_, fun high latch => ?_, fun port => ⟨fun low narrow w => ?_,
      fun low wide al high w => ?_, fun low wide w => ?_, fun high wide l held w => ?_, fun high wide held w => ?_⟩, fun un => ⟨?_, fun w => ?_⟩, fun al un => ⟨?_, fun w => ?_⟩⟩
    · refine read4.trans ?_
      rw [State.readHost_word, State.readHalf_low low, setWidth_half, narrow]
      rfl
    · refine read4.trans ?_
      rw [State.readHost_word, State.readHalf_low low, setWidth_half, if_pos wide]
    · refine (read8 al).trans ?_
      rw [State.readHost_wide low high]
    · refine read4.trans ?_
      rw [State.readHost_word, State.readHalf_latched high latch]
    · refine read4.trans ?_
      rw [State.readHost_word, State.readHalf_high high latch, setWidth_half, Nat.mod_eq_of_lt (by have := (s.regView a).isLt; omega)]
    · refine (store4 _).trans ?_
      rw [if_neg (by omega), State.writeWord_narrow low port narrow]
    · refine (store8 al _).trans ?_
      rw [if_pos rfl, State.writeWide_wide low high port]
    · refine (store4 _).trans ?_
      rw [if_neg (by omega), State.writeWord_low low port wide, Nat.mod_eq_of_lt w.isLt, BitVec.ofNat_toNat, BitVec.setWidth_eq]
    · refine (store4 _).trans ?_
      rw [if_neg (by omega), State.writeWord_high high port, held, Nat.mod_eq_of_lt w.isLt]
      rfl
    · refine (store4 _).trans ?_
      rw [if_neg (by omega), State.writeWord_high high port, held, Nat.mod_eq_of_lt w.isLt]
      rfl
    · refine read4.trans ?_
      rw [State.readHost_word, State.readHalf_unassigned un]
      rfl
    · refine (store4 _).trans ?_
      rw [if_neg (by omega), State.writeWord_unassigned un]
      rfl
    · refine (read8 al).trans ?_
      rw [State.readHost_unassigned un]
      rfl
    · refine (store8 al _).trans ?_
      rw [if_pos rfl, State.writeWide_unassigned un]
      rfl
  · exact regWrite_plain plain spec free

end Sys2Proof.Machine

/-! PROOF. Commits of the resource plan (O27). -/

namespace Sys2Proof.Machine

/-! ### What a write of a module register leaves of the readings (R459) -/

section
variable {α β : Type} {g : Nat × α → Option β} {k : Nat}

theorem filterMap_sdel (h : ∀ v, g (k, v) = none) (m : SMap α) : (sdel m k).filterMap g = m.filterMap g := by
  induction m with
  | nil => rfl
  | cons q m ih =>
    obtain ⟨j, v⟩ := q
    unfold sdel
    by_cases same : k = j
    · rw [if_pos same, ih, List.filterMap_cons_none (by rw [← same]; exact h v)]
    · rw [if_neg same, List.filterMap_cons, List.filterMap_cons, ih]

theorem filterMap_sput (h : ∀ v, g (k, v) = none) (m : SMap α) (v : α) : (sput m k v).filterMap g = m.filterMap g := by
  induction m with
  | nil => exact List.filterMap_cons_none (h v)
  | cons q m ih =>
    obtain ⟨j, w⟩ := q
    unfold sput
    by_cases before : k < j
    · rw [if_pos before, List.filterMap_cons_none (h v)]
    · rw [if_neg before]
      by_cases same : k = j
      · rw [if_pos same, List.filterMap_cons_none (h v), List.filterMap_cons_none (by rw [← same]; exact h w)]
      · rw [if_neg same, List.filterMap_cons, List.filterMap_cons, ih]

theorem filterMap_sset [DecidableEq α] (h : ∀ v, g (k, v) = none) (d : α) (m : SMap α) (v : α) :
    (sset d m k v).filterMap g = m.filterMap g := by
  unfold sset
  split
  · exact filterMap_sdel h m
  · exact filterMap_sput h m v

end

section
variable {s : State} {a : Nat}

theorem State.chPowered_setReg (low : a < 0x1_0000_0000) (v : Word) : (s.setReg a v).chPowered = s.chPowered := by
  funext t ch
  unfold State.chPowered
  rw [State.gf_setReg_ne _ _ _ (by unfold Reg.CLK_SITE_ACTIVE; omega)]

theorem State.junctions_setReg (low : a < 0x1_0000_0000) (v : Word) : (s.setReg a v).junctions = s.junctions := by
  unfold State.junctions
  rw [State.chPowered_setReg low]
  refine filterMap_sset (fun w => ?_) _ _ _
  exact if_pos low

theorem State.nvReadings_setReg (low : a < 0x1_0000_0000) (v : Word) : (s.setReg a v).nvReadings = s.nvReadings :=
  congrArg (· ++ _) (State.junctions_setReg low v)

theorem State.nvRefusal_setReg (low : a < 0x1_0000_0000) (v : Word) (r : NvReq) : (s.setReg a v).nvRefusal r = s.nvRefusal r := by
  have temp : (s.setReg a v).nvTempOk = s.nvTempOk := by unfold State.nvTempOk; rw [State.nvReadings_setReg low]
  unfold State.nvRefusal
  rw [temp]
  rfl

theorem State.nvRefusal_nvWindow (r : NvReq) : s.nvWindow.nvRefusal r = s.nvRefusal r := by
  unfold State.nvWindow
  exact State.nvRefusal_setReg (by decide) _ r

theorem State.nvRefusal_sf (low : a < 0x1_0000_0000) (f : Fld) (v : Nat) (r : NvReq) : (s.sf a f v).nvRefusal r = s.nvRefusal r :=
  State.nvRefusal_setReg low _ r

end

/-! ### Fields just written -/

theorem State.gf_sf_val {s : State} {a v : Nat} {f : Fld} (inside : f.lo + f.w ≤ 64) (fits : v < 2 ^ f.w) : (s.sf a f v).gf a f = v :=
  (State.gf_sf_same s a f v inside).trans (Nat.mod_eq_of_lt fits)

theorem State.gf_sf_apart {s : State} {a v : Nat} {f g : Fld} (apart : g.lo + g.w ≤ f.lo ∨ f.lo + f.w ≤ g.lo) (inside : g.lo + g.w ≤ 64) :
    (s.sf a f v).gf a g = s.gf a g := State.gf_sf_field s a f g v apart inside

/-! ### A host's commands (R10) and the store's queue -/

section
variable {s : State} {p : Nat}

theorem State.hostWrite_served {off : Nat} (h : Served s p off) (k : State → State) : s.hostWrite p off k = .next (k s) := by
  obtain ⟨hp, serves⟩ := h
  unfold State.hostWrite
  rw [if_neg (by omega), if_pos serves]

theorem State.managed_taking {i : MgmtReq} {k : State → State} (h : s.takingOver = true) :
    s.managed i k = { s with mgmtWait := s.mgmtWait ++ [i] } := by
  unfold State.managed
  rw [if_pos h]

theorem State.managed_free {i : MgmtReq} {k : State → State} (h : s.takingOver = false) : s.managed i k = k s := by
  unfold State.managed
  rw [if_neg (by rw [h]; exact Bool.false_ne_true)]

/-- A store write that is not refused joins the queue; the temperature window is shown where it begins at once. -/
theorem State.nvWrite_queued {r : NvReq} (free : s.takingOver = false) (ok : s.nvRefusal r = none) :
    ∃ w : SMap Word, s.nvWrite r = (true, { s with regs := w, nvq := s.nvq ++ [r] }) ∧
      ∀ a, a ≠ Reg.THM_NV_WINDOW → ({ s with regs := w } : State).reg a = s.reg a := by
  unfold State.nvWrite State.nvPut
  rw [if_neg (by rw [free]; exact Bool.false_ne_true)]
  dsimp only
  by_cases starts : s.nvq = [] ∧ r.checked = false
  · obtain ⟨v, shown⟩ : ∃ v, s.nvWindow = s.setReg Reg.THM_NV_WINDOW v := ⟨_, rfl⟩
    rw [if_pos starts, State.nvRefusal_nvWindow, ok, shown]
    exact ⟨(s.setReg Reg.THM_NV_WINDOW v).regs, rfl, fun a ha => State.reg_setReg_ne s _ ha⟩
  · rw [if_neg starts, ok]
    exact ⟨s.regs, rfl, fun a _ => rfl⟩

end

/-! ### Commits (R48, R53, R508) -/

section
variable {s : State} {p : Nat}

theorem State.commitAsk_plan {m : SMap Byte} (up : s.phase = 1) (idle : s.gf Reg.MGT_PLAN_STATUS Fld.MGT_PLAN_STATUS_busy ≠ 1) :
    s.commitAsk p m = s.commitPlan p m := by
  unfold State.commitAsk
  rw [if_neg (fun h => h up), if_neg idle]

theorem State.commitPlan_bad {m : SMap Byte} (bad : s.planCheck m ≠ 0) : s.commitPlan p m =
    ((s.sf Reg.MGT_PLAN_STATUS Fld.MGT_PLAN_STATUS_commit_port p).sf Reg.MGT_PLAN_STATUS Fld.MGT_PLAN_STATUS_code (s.planCheck m)).modCause 4 := by
  unfold State.commitPlan
  dsimp only
  rw [if_pos bad]

/-- The record of a plan (R53). -/
def State.planRecord (s : State) (m : SMap Byte) : NvReq :=
  let gen := (s.gf Reg.MGT_PLAN_GEN Fld.MGT_PLAN_GEN_gen + 1) % 2 ^ 32
  ⟨4, 0, bytesOf 4 gen ++ bytesOf 4 0 ++ planBytes m, .plan m gen⟩

theorem State.commitPlan_good {m : SMap Byte} (good : s.planCheck m = 0) (free : s.takingOver = false) (ok : s.nvRefusal (s.planRecord m) = none) :
    ∃ t : State, s.commitPlan p m = (t.sf Reg.MGT_PLAN_STATUS Fld.MGT_PLAN_STATUS_code 0).sf Reg.MGT_PLAN_STATUS Fld.MGT_PLAN_STATUS_busy 1 ∧
      t = { s with regs := t.regs, nvq := s.nvq ++ [s.planRecord m] } ∧
      t.reg Reg.MGT_PLAN_STATUS = (s.sf Reg.MGT_PLAN_STATUS Fld.MGT_PLAN_STATUS_commit_port p).reg Reg.MGT_PLAN_STATUS := by
  obtain ⟨w, queued, others⟩ := State.nvWrite_queued (s := s.sf Reg.MGT_PLAN_STATUS Fld.MGT_PLAN_STATUS_commit_port p)
    ((State.takingOver_sf ..).trans free) ((State.nvRefusal_sf (by decide) _ _ _).trans ok)
  refine ⟨{ s with regs := w, nvq := s.nvq ++ [s.planRecord m] }, ?_, rfl, others Reg.MGT_PLAN_STATUS (by decide)⟩
  unfold State.commitPlan
  dsimp only
  rw [if_neg (not_not.2 good)]
  have queued' : State.nvWrite (s.sf Reg.MGT_PLAN_STATUS Fld.MGT_PLAN_STATUS_commit_port p) ⟨4, 0, bytesOf 4 ((s.gf Reg.MGT_PLAN_GEN Fld.MGT_PLAN_GEN_gen + 1) % 2 ^ 32) ++
      bytesOf 4 0 ++ planBytes m, .plan m ((s.gf Reg.MGT_PLAN_GEN Fld.MGT_PLAN_GEN_gen + 1) % 2 ^ 32)⟩ = _ := queued
  rw [queued']
  rfl

end

/-- Settles O27: a commit is checked and then refused, queued or kept waiting. -/
theorem planCommits : Obligations.PlanCommits := by
  unfold Obligations.PlanCommits
  intro s p served
  have commit : exec (.commit p) s = .next (s.managed (.commit p s.planStaged) fun s => s.commitAsk p s.planStaged) := by
    show execCommit p s = _
    exact State.hostWrite_served served _
  refine ⟨fun taking => ?_, fun free up idle bad => ?_, fun free up idle good ok => ?_, fun free up busy => ?_, fun idle => ?_⟩
  · rw [commit, State.managed_taking taking]
  · rw [commit, State.managed_free free, State.commitAsk_plan up idle, State.commitPlan_bad bad]
  · obtain ⟨t, does, frame, status⟩ := State.commitPlan_good (p := p) good free ok
    have port : t.gf Reg.MGT_PLAN_STATUS Fld.MGT_PLAN_STATUS_commit_port = p := by
      unfold State.gf
      rw [status]
      exact State.gf_sf_val (by decide) served.1
    refine ⟨_, by rw [commit, State.managed_free free, State.commitAsk_plan up idle, does], State.gf_sf_val (by decide) (by decide), ?_, ?_, ?_, ?_, ?_, ?_⟩
    · exact (State.gf_sf_apart (by decide) (by decide)).trans (State.gf_sf_val (by decide) (by decide))
    · exact (State.gf_sf_apart (by decide) (by decide)).trans ((State.gf_sf_apart (by decide) (by decide)).trans port)
    all_goals rw [frame]; rfl
  · rw [commit, State.managed_free free]
    unfold State.commitAsk
    rw [if_neg (fun h => h up), if_pos busy]
  · show execRestage p s = _
    refine (State.hostWrite_served served _).trans ?_
    rw [if_neg idle]

end Sys2Proof.Machine

/-! PROOF. What a report leaves: errors, interrupts and messages (R404, R406, R480 to R488). -/

namespace Sys2Proof.Machine

/-- The registers of the error log and of the module causes. -/
def LogReg (a : Nat) : Prop := (0x3000 ≤ a ∧ a < 0x3100) ∨ a = Reg.HIF_MOD_INT 0 ∨ a = Reg.HIF_MOD_INT 1

/-- From `s` to `t` there is nothing but reports: registers of `R`, pending vectors, log entries and messages. -/
structure Reports (R : Nat → Prop) (s t : State) : Prop where
  frame : t = { s with regs := t.regs, ports := t.ports, log := t.log, errWait := t.errWait, out := t.out }
  regs : ∀ a, ¬ R a → t.reg a = s.reg a
  ports : ∀ p, t.port p = { s.port p with pba := (t.port p).pba }
  out : ∃ l, t.out = s.out ++ l ∧ ∀ x ∈ l, ∃ p v, x = Out.msix p v

section
variable {R : Nat → Prop} {s t u : State}

theorem Reports.refl (R : Nat → Prop) (s : State) : Reports R s s :=
  ⟨rfl, fun _ _ => rfl, fun _ => rfl, [], (List.append_nil _).symm, fun _ hx => absurd hx List.not_mem_nil⟩

theorem Reports.trans (h : Reports R s t) (k : Reports R t u) : Reports R s u := by
  obtain ⟨frame, regs, ports, l, out, all⟩ := h
  obtain ⟨frame', regs', ports', l', out', all'⟩ := k
  refine ⟨?_, fun a ha => (regs' a ha).trans (regs a ha), fun p => ?_, l ++ l', by rw [out', out, List.append_assoc], fun x hx => ?_⟩
  · rw [frame', frame]
  · rw [ports', ports]
  · rcases List.mem_append.1 hx with hx | hx
    · exact all x hx
    · exact all' x hx

theorem Reports.mono {Q : Nat → Prop} (h : Reports R s t) (sub : ∀ a, R a → Q a) : Reports Q s t :=
  ⟨h.frame, fun a ha => h.regs a fun hr => ha (sub a hr), h.ports, h.out⟩

theorem Reports.gf (h : Reports R s t) {a : Nat} (ha : ¬ R a) (f : Fld) : t.gf a f = s.gf a f := by
  unfold State.gf
  rw [h.regs a ha]

theorem Reports.setReg (s : State) {a : Nat} (h : R a) (v : Word) : Reports R s (s.setReg a v) :=
  ⟨rfl, fun _ hb => State.reg_setReg_ne s v fun e => hb (e ▸ h), fun _ => rfl, [], (List.append_nil _).symm, fun _ hx => absurd hx List.not_mem_nil⟩

theorem Reports.sf (s : State) {a : Nat} (h : R a) (f : Fld) (v : Nat) : Reports R s (s.sf a f v) := Reports.setReg s h _

theorem Reports.request (s : State) (p v : Nat) : Reports R s (s.request p v) := by
  unfold State.request
  by_cases sends : (s.port p).canSend v = true
  · rw [if_pos sends]
    exact ⟨rfl, fun _ _ => rfl, fun _ => rfl, [.msix p v], rfl, fun x hx => ⟨p, v, List.mem_singleton.1 hx⟩⟩
  · rw [if_neg sends]
    refine ⟨rfl, fun _ _ => rfl, fun q => ?_, [], (List.append_nil _).symm, fun _ hx => absurd hx List.not_mem_nil⟩
    by_cases same : q = p
    · subst same
      rw [State.port_setPort_same]
    · rw [State.port_setPort_ne _ _ same]

theorem Reports.modCauseOn (s : State) {p : Nat} (h : R (Reg.HIF_MOD_INT p)) (b : Nat) : Reports R s (s.modCauseOn p b) := by
  unfold State.modCauseOn State.sfBit
  dsimp only
  split
  · exact .refl R s
  · split
    · exact (Reports.sf s h _ _).trans (.request _ _ _)
    · exact .sf s h _ _

theorem Reports.modCause (s : State) (b : Nat) : Reports LogReg s (s.modCause b) :=
  (Reports.modCauseOn s (.inr (.inl rfl)) b).trans (.modCauseOn _ (.inr (.inr rfl)) b)

theorem Reports.stdEvent (s : State) {i : Nat} (h : R (Reg.HIF_STD_INT i)) (e : Nat) : Reports R s (s.stdEvent i e) := by
  unfold State.stdEvent State.sfBit
  dsimp only
  split
  · exact .refl R s
  · split
    · exact (Reports.sf s h _ _).trans (.request _ _ _)
    · exact .sf s h _ _

theorem Reports.foldl {α : Type} {f : State → α → State} {l : List α} (h : ∀ x ∈ l, ∀ y, Reports R y (f y x)) (s : State) :
    Reports R s (l.foldl f s) := by
  induction l generalizing s with
  | nil => exact .refl R s
  | cons x l ih => exact (h x List.mem_cons_self s).trans (ih (fun z hz => h z (List.mem_cons_of_mem _ hz)) _)

theorem Reports.capture (s : State) {cls : Nat} (h : cls < 4) (l : LogEnt) : Reports LogReg s (s.capture cls l) := by
  have ctl : LogReg (Reg.MGT_ERR_FIRST_CTL cls) := .inl (by unfold Reg.MGT_ERR_FIRST_CTL; omega)
  unfold State.capture
  dsimp only
  split
  · exact .sf s ctl _ _
  · refine (Reports.foldl (fun w hw y => ?_) s).trans (.sf _ ctl _ _)
    have few : w < 4 := List.mem_range.1 hw
    exact .setReg y (.inl (by unfold Reg.MGT_ERR_FIRST; omega)) _

theorem Reports.append (s : State) (cls : Nat) (l : LogEnt) : Reports LogReg s (s.append cls l) := by
  have logs : Reports LogReg s { s with log := s.log ++ [l] } := ⟨rfl, fun _ _ => rfl, fun _ => rfl, [], (List.append_nil _).symm, fun _ hx => absurd hx List.not_mem_nil⟩
  have lost : LogReg Reg.MGT_ERR_STATUS := .inl (by decide)
  unfold State.append
  dsimp only
  generalize (if cls ≤ 1 then decide (s.log.length < 56) else decide (s.log.length < 64)) = room
  cases room
  · rw [if_neg Bool.false_ne_true]
    exact (Reports.sf s lost _ _).trans (.modCause _ _)
  · rw [if_pos rfl]
    split
    · exact logs.trans (.modCause _ _)
    · split
      · exact logs.trans (.modCause _ _)
      · exact logs

theorem Reports.logErr (s : State) {cls : Nat} (h : cls < 4) (l : LogEnt) : Reports LogReg s (s.logErr cls l) := by
  unfold State.logErr
  split
  · exact ⟨rfl, fun _ _ => rfl, fun _ => rfl, [], (List.append_nil _).symm, fun _ hx => absurd hx List.not_mem_nil⟩
  · exact (Reports.capture s h l).trans (.append _ _ _)

theorem Reports.contained (s : State) (e : ErrInfo) : Reports LogReg s (s.contained e) := .logErr s (by decide) _

end

end Sys2Proof.Machine

/-! PROOF. Host transfers, from issue to completion (O25). -/

namespace Sys2Proof.Machine

theorem planPort_lt (m : SMap Byte) (i : Nat) : planPort m i < 2 := Nat.mod_lt _ (by decide)

/-! ### The end of a transfer with an error (R410) -/

section
variable {t : State} {i g : Nat} {mt : BitVec 3}

/-- The registers that a failed transfer of stand `i` is recorded in. -/
def HxReg (p i a : Nat) : Prop := LogReg a ∨ a = Reg.HIF_XFER_ERR p ∨ a = Reg.HIF_STD_INT i

theorem hxError_reports (t : State) (i g kind status : Nat) : Reports (HxReg (planPort t.planForce i) i) t (hxError t i g kind status) := by
  have err : HxReg (planPort t.planForce i) i (Reg.HIF_XFER_ERR (planPort t.planForce i)) := .inr (.inl rfl)
  unfold hxError
  dsimp only
  refine Reports.trans ?_ (((Reports.contained _ _).mono fun _ => .inl).trans (.stdEvent _ (.inr (.inr rfl)) 4))
  split
  · exact .sf t err _ _
  · exact ((Reports.sf t err _ _).trans (.sf _ err _ _)).trans (.sf _ err _ _)

theorem hxError_valid (t : State) (i g kind status : Nat) :
    (hxError t i g kind status).gf (Reg.HIF_XFER_ERR (planPort t.planForce i)) Fld.HIF_XFER_ERR_valid = 1 := by
  have hp := planPort_lt t.planForce i
  unfold hxError
  dsimp only
  generalize planPort t.planForce i = p at hp
  have log : ¬ LogReg (Reg.HIF_XFER_ERR p) := by unfold LogReg Reg.HIF_XFER_ERR Reg.HIF_MOD_INT; omega
  have event : ∀ u : State, Reports (· = Reg.HIF_STD_INT i) u (u.stdEvent i 4) := fun u => Reports.stdEvent (R := (· = Reg.HIF_STD_INT i)) u rfl 4
  rw [(event _).gf (by unfold Reg.HIF_XFER_ERR Reg.HIF_STD_INT; omega), (Reports.contained _ _).gf log]
  split
  next valid => exact (State.gf_sf_apart (by decide) (by decide)).trans valid
  next => exact State.gf_sf_val (by decide) (by decide)

theorem niNote_core (t : State) (g status op tile beat : Nat) : ∃ bad first, niNote t g status op tile beat =
    t.setCore g { t.core g with niBad := bad, niFirst := first } := ⟨_, _, rfl⟩

/-- Tag `mt` completes with `status`, noted as an error of the core. -/
theorem tagFails (t : State) (g : Nat) (mt : BitVec 3) (status : Nat) (op tile beat : Nat) :
    let u := niNote ((tagComplete t g mt status).coreCount g 33 1) g status op tile beat
    OnlyCore t u g ∧ sget ⟨false, 0⟩ (u.core g).tags mt.toNat = ⟨false, BitVec.ofNat 4 status⟩ ∧ ∀ y ∈ (u.core g).moves, y.tag ≠ mt := by
  intro u
  obtain ⟨bad, first, note⟩ := niNote_core ((tagComplete t g mt status).coreCount g 33 1) g status op tile beat
  have core : u.core g = { (tagComplete t g mt status).core g with niBad := bad, niFirst := first } := by
    show (niNote _ _ _ _ _ _).core g = _
    rw [note, State.core_setCore_same, State.core_coreCount]
  refine ⟨?_, ?_, fun y hy => ?_⟩
  · show OnlyCore t (niNote _ _ _ _ _ _) g
    rw [note]
    exact ((OnlyCore.setCore _ _ _).trans (.coreCount _ _ _ _ (by decide))).trans (OnlyCore.setCore _ _ _)
  · rw [core, tagComplete, State.core_setCore_same]
    exact sget_sset_same ..
  · rw [core, tagComplete, State.core_setCore_same] at hy
    simpa using (List.mem_filter.1 hy).2

/-- A transfer that ends with an error, as core and port see it. -/
theorem hxFails (t : State) (i g : Nat) (mt : BitVec 3) (status kind op tile beat k : Nat) :
    let u := hxError (niNote ((tagComplete t g mt status).coreCount g 33 1) g status op tile beat) i g kind k
    u.mem = t.mem ∧ u.tiles = t.tiles ∧ sget ⟨false, 0⟩ (u.core g).tags mt.toNat = ⟨false, BitVec.ofNat 4 status⟩ ∧
      (∀ y ∈ (u.core g).moves, y.tag ≠ mt) ∧ u.gf (Reg.HIF_XFER_ERR (planPort t.planForce i)) Fld.HIF_XFER_ERR_valid = 1 := by
  intro u
  obtain ⟨only, tags, moves⟩ := tagFails t g mt status op tile beat
  set v := niNote ((tagComplete t g mt status).coreCount g 33 1) g status op tile beat
  have rep := (hxError_reports v i g kind k).frame
  have cores : u.core = v.core := by show (hxError v i g kind k).core = _; rw [rep]; rfl
  have plan : v.planForce = t.planForce := by rw [only.1]
  refine ⟨?_, ?_, by rw [cores]; exact tags, by rw [cores]; exact moves, by rw [← plan]; exact hxError_valid v i g kind k⟩
  · show (hxError v i g kind k).mem = _
    rw [rep, only.1]
  · show (hxError v i g kind k).tiles = _
    rw [rep, only.1]

end

/-! ### Issue (R227, R410) -/

section
variable {s : State} {e : Iss} {f : MF}

theorem hxRefusal_congr {t : State} {g : Nat} (only : OnlyCore s t g) (i host n : Nat) : hxRefusal t i host n = hxRefusal s i host n := by
  rw [only.1]
  rfl

theorem hxRefusal_none {i host n : Nat} (low : (s.stand i).copy.hxBase.toNat ≤ host)
    (high : host + n ≤ (s.stand i).copy.hxBase.toNat + (s.stand i).copy.hxSize.toNat) (master : (s.port (planPort s.planForce i)).busMaster = true)
    (d0 : (s.port (planPort s.planForce i)).d3 = false)
    (link : s.gf (Reg.HIF_LINK (planPort s.planForce i)) Fld.HIF_LINK_state ∈ [2, 3, 4]) : hxRefusal s i host n = none := by
  simp only [List.mem_cons, List.not_mem_nil, or_false] at link
  unfold hxRefusal
  dsimp only
  rw [if_neg (by omega), master, d0, if_neg (by decide), if_neg (by decide), if_neg (by omega)]

theorem hxRefusal_window {i host n : Nat}
    (out : host < (s.stand i).copy.hxBase.toNat ∨ (s.stand i).copy.hxBase.toNat + (s.stand i).copy.hxSize.toNat < host + n) :
    hxRefusal s i host n = some 1 := by
  unfold hxRefusal
  dsimp only
  rw [if_pos (by omega)]

/-- The transfer that hxfer leaves in flight. -/
def issuedTransfer (s : State) (e : Iss) (f : MF) : MoveSt :=
  ⟨f.mt, true, !natBit ((s.core e.g).sr f.b).toNat 32, (s.core e.g).sr f.a + BitVec.ofInt 64 f.imm.toInt, (s.core e.g).sr f.d,
    ((s.core e.g).sr f.b).toNat % 2 ^ 32 / 64, [], [], [], 0, (s.stand (s.standOf e.g)).beat, 0, false, (s.core e.g).pc⟩

theorem hxfer_stall (h : MReady s e .hxfer f) (tag : TagFree (s.core e.g) f.mt) : stallReasons (s.met e) e.g [.m .hxfer f] = [] := by
  obtain ⟨ready, free, -⟩ := h
  exact stall_m ready free (tags_one rfl tag) rfl

theorem hxfer_errors (h : MReady s e .hxfer f) (clear : s.inClearing (s.standOf e.g) = false) (engine : (s.stand (s.standOf e.g)).copy.hxCore = e.g) :
    mErrors s e.g (s.core e.g) .hxfer f = [] :=
  mErrors_none h.2.2 (fun _ => engine) fun hc => absurd (clear.symm.trans hc) Bool.false_ne_true

theorem hxfer_issues (h : MReady s e .hxfer f) (tag : TagFree (s.core e.g) f.mt) (clear : s.inClearing (s.standOf e.g) = false)
    (engine : (s.stand (s.standOf e.g)).copy.hxCore = e.g)
    (taken : hxRefusal s (s.standOf e.g) ((s.core e.g).sr f.d).toNat (((s.core e.g).sr f.b).toNat % 2 ^ 32) = none) :
    Issues s (.hxfer e f) e (.m .hxfer f) ((s.core e.g).taking f.mt (issuedTransfer s e f)) [] := by
  refine mOp_issues h.1 (exec_slotOp rfl rfl) (hxfer_stall h tag) (hxfer_errors h clear engine) (fun t l only core => ?_) rfl rfl rfl rfl
    (.nil h.1.ordered)
  show hxferIssue t (t.standOf e.g) e.g f = _
  have sr : (t.core e.g).sr = (s.core e.g).sr := by rw [core]; rfl
  have addr : ea (t.core e.g) f = (s.core e.g).sr f.a + BitVec.ofInt 64 f.imm.toInt := by rw [core]; rfl
  unfold hxferIssue
  dsimp only
  rw [sr, addr, standOf_of_onlyCore only, stand_of_onlyCore only, hxRefusal_congr only, taken, core]
  rfl

theorem hxferIssue_refused {b : State} {i g k : Nat} (refused : hxRefusal b i ((b.core g).sr f.d).toNat (((b.core g).sr f.b).toNat % 2 ^ 32) = some k) :
    ∃ op tile beat, hxferIssue b i g f = hxError (niNote ((tagComplete b g f.mt 7).coreCount g 33 1) g 7 op tile beat) i g k 7 := by
  refine ⟨0x38, b.hxTile i g (ea (b.core g) f).toNat, (b.stand i).beat.toNat, ?_⟩
  unfold hxferIssue
  dsimp only
  rw [refused]

/-- A transfer that is refused at issue completes at once. -/
theorem hxfer_refused (h : MReady s e .hxfer f) (tag : TagFree (s.core e.g) f.mt) (clear : s.inClearing (s.standOf e.g) = false)
    (engine : (s.stand (s.standOf e.g)).copy.hxCore = e.g) {k : Nat}
    (refused : hxRefusal s (s.standOf e.g) ((s.core e.g).sr f.d).toNat (((s.core e.g).sr f.b).toNat % 2 ^ 32) = some k) :
    ∃ t, exec (.hxfer e f) s = .next t ∧ t.mem = s.mem ∧ t.tiles = s.tiles ∧ sget ⟨false, 0⟩ (t.core e.g).tags f.mt.toNat = ⟨false, 7⟩ ∧
      t.gf (Reg.HIF_XFER_ERR (planPort s.planForce (s.standOf e.g))) Fld.HIF_XFER_ERR_valid = 1 := by
  have errors := errors_one _ e (.m .hxfer f) h.1.met (opErrors_met.trans (hxfer_errors h clear engine))
  have does : exec (.hxfer e f) s = issueOps s e [.m .hxfer f] := exec_slotOp rfl rfl
  refine ⟨_, does.trans (issueOps_one s e _ h.1 (hxfer_stall h tag) errors), ?_⟩
  have only := issueBase_onlyCore s e [.m .hxfer f]
  have core := issueBase_core s e [.m .hxfer f]
  obtain ⟨sent, go⟩ := issueGo_eq (s.met e) e [.m .hxfer f]
  set b := issueBase (s.met e) e [.m .hxfer f] with hb
  have sr : (b.core e.g).sr = (s.core e.g).sr := by rw [core]; rfl
  obtain ⟨op, tile, beat, apply⟩ := hxferIssue_refused (b := b) (f := f) (g := e.g) (i := s.standOf e.g) (k := k) (by rw [sr, hxRefusal_congr only, refused])
  have apply' : [SlotOp.m .hxfer f].foldl (fun a o => opApply a e.g o) b = hxferIssue b (s.standOf e.g) e.g f := by
    show hxferIssue b (b.standOf e.g) e.g f = _
    rw [standOf_of_onlyCore only]
  have plan : b.planForce = s.planForce := by rw [only.1]
  obtain ⟨mem, tiles, tags, -, valid⟩ := hxFails b (s.standOf e.g) e.g f.mt 7 k op tile beat 7
  rw [go, apply', apply]
  generalize hxError (niNote ((tagComplete b e.g f.mt 7).coreCount e.g 33 1) e.g 7 op tile beat) (s.standOf e.g) e.g k 7 = u at mem tiles tags valid
  rw [plan] at valid
  refine ⟨?_, ?_, ?_, valid⟩
  · exact mem.trans (by rw [only.1])
  · exact tiles.trans (by rw [only.1])
  · refine Eq.trans (congrArg (fun c : CoreSt => sget ⟨false, 0⟩ c.tags f.mt.toNat) (State.core_setCore_same ..)) ?_
    rw [settle_fields, clockOn_fields]
    exact tags

end

/-! ### The engine's rounds (R227, R409) -/

/-- State `y` is `s` in the midst of core `g`'s transfer: its moves are `ms`, `n` more bytes are counted at `b`, and `os` has gone out. -/
structure HxAt (s : State) (g b : Nat) (ms : List MoveSt) (n : Nat) (os : List Out) (y : State) : Prop where
  frame : y = { s with cores := y.cores, pmc := y.pmc, regions := y.regions, regs := y.regs, out := y.out }
  cores : ∀ h, h ≠ g → y.core h = s.core h
  moves : (y.core g).moves = ms
  regs : ∀ a, a ≠ b → y.reg a = s.reg a
  count : y.reg b = s.reg b + BitVec.ofNat 64 n
  highs : ∀ k, (y.region k).inHigh = (s.region k).inHigh ∧ (y.region k).outHigh = (s.region k).outHigh
  out : y.out = s.out ++ os

section
variable {s y : State} {g b n : Nat} {ms : List MoveSt} {os : List Out}

theorem HxAt.start (s : State) (g b : Nat) : HxAt s g b (s.core g).moves 0 [] s :=
  ⟨rfl, fun _ _ => rfl, rfl, fun _ _ => rfl, (BitVec.add_zero _).symm, fun _ => ⟨rfl, rfl⟩, (List.append_nil _).symm⟩

theorem HxAt.emit (h : HxAt s g b ms n os y) (o : Out) : HxAt s g b ms n (os ++ [o]) (y.emit o) := by
  obtain ⟨frame, cores, moves, regs, count, highs, out⟩ := h
  refine ⟨?_, cores, moves, regs, count, highs, ?_⟩
  · conv_lhs => rw [frame]
    rfl
  · show y.out ++ [o] = _
    rw [out, List.append_assoc]

theorem HxAt.carry {p : Nat} (h : HxAt s g (Reg.HIF_XFER_BYTES p) ms n os y) (k : Nat) :
    HxAt s g (Reg.HIF_XFER_BYTES p) ms (n + k) os (y.hxCarry p k) := by
  obtain ⟨frame, cores, moves, regs, count, highs, out⟩ := h
  refine ⟨?_, cores, moves, fun a ha => ?_, ?_, highs, out⟩
  · conv_lhs => rw [frame]
    rfl
  · exact (State.reg_setReg_ne _ _ ha).trans (regs a ha)
  · refine (State.reg_setReg_same ..).trans ?_
    rw [count, BitVec.add_assoc, BitVec.ofNat_add]

theorem HxAt.moved (h : HxAt s g b ms n os y) {ms' ms'' : List MoveSt} (same : ms' = ms'') :
    HxAt s g b ms'' n os (y.setCore g { y.core g with moves := ms' }) := by
  subst same
  obtain ⟨frame, cores, moves, regs, count, highs, out⟩ := h
  refine ⟨?_, fun k hk => (State.core_setCore_ne _ _ hk).trans (cores k hk), ?_, regs, count, highs, out⟩
  · conv_lhs => rw [frame]
    rfl
  · rw [State.core_setCore_same]

theorem HxAt.counted (h : HxAt s g b ms n os y) (k e : Nat) : HxAt s g b ms n os (y.coreCount k e 1) := by
  obtain ⟨frame, cores, moves, regs, count, highs, out⟩ := h
  unfold State.coreCount
  split
  · exact ⟨frame, cores, moves, regs, count, highs, out⟩
  · refine ⟨?_, cores, moves, regs, count, highs, out⟩
    conv_lhs => rw [frame]
    rfl

theorem HxAt.passRow (h : HxAt s g b ms n os y) (k : Nat) (back : Bool) : HxAt s g b ms n os (y.passRow k back) := by
  unfold State.passRow
  split
  · exact h
  · obtain ⟨frame, cores, moves, regs, count, highs, out⟩ := h
    refine ⟨?_, cores, moves, regs, count, fun j => ?_, out⟩
    · conv_lhs => rw [frame]
      rfl
    · dsimp only
      by_cases same : j = rowRegion k
      · subst same
        rw [State.region_setRegion_same]
        exact highs _
      · rw [State.region_setRegion_ne _ _ same]
        exact highs _

theorem HxAt.busHost (h : HxAt s g b ms n os y) (x : Place) (back : Bool) : HxAt s g b ms n os (y.busHost x back) := by
  cases x
  case data k o => exact (h.counted k 34).passRow k back
  case prog k o => exact h.passRow k back
  all_goals exact h

theorem HxAt.busHostAt (h : HxAt s g b ms n os y) (i a : Nat) (back : Bool) : HxAt s g b ms n os (y.busHostAt i a back) := by
  unfold State.busHostAt
  split
  · exact h.busHost _ _
  · exact h

theorem HxAt.standPlace (h : HxAt s g b ms n os y) : y.standPlace = s.standPlace := by rw [h.frame]; rfl

theorem HxAt.far (h : HxAt s g b ms n os y) : y.far = s.far := by rw [h.frame]; rfl

theorem HxAt.port (h : HxAt s g b ms n os y) : y.port = s.port := by rw [h.frame]; rfl

theorem HxAt.planForce (h : HxAt s g b ms n os y) : y.planForce = s.planForce := by rw [h.frame]

theorem HxAt.stand (h : HxAt s g b ms n os y) : y.stand = s.stand := by rw [h.frame]; rfl

theorem HxAt.farPoisoned (h : HxAt s g b ms n os y) : y.farPoisoned = s.farPoisoned := by
  funext i a
  unfold State.farPoisoned
  rw [h.far]
  have poison : y.poisoned = s.poisoned := by rw [h.frame]; rfl
  rw [poison]

theorem HxAt.farLine (h : HxAt s g b ms n os y) : y.farLine = s.farLine := by
  funext i a
  unfold State.farLine
  rw [h.far]
  have rd : y.rd = s.rd := by rw [h.frame]; rfl
  rw [rd]

theorem HxAt.gf (h : HxAt s g b ms n os y) {a : Nat} (ha : a ≠ b) (f : Fld) : y.gf a f = s.gf a f := by
  unfold State.gf
  rw [h.regs a ha]

theorem HxAt.inRun {p : Nat} (h : HxAt s g (Reg.HIF_XFER_BYTES p) ms n os y) (i : Nat) : y.inRun i = s.inRun i := by
  unfold State.inRun State.stdState
  rw [h.gf (by unfold Reg.STD_STATUS Reg.HIF_XFER_BYTES; omega)]

theorem HxAt.openSite {p : Nat} (h : HxAt s g (Reg.HIF_XFER_BYTES p) ms n os y) (w : Nat) : y.openSite w = s.openSite w := by
  unfold State.openSite
  rw [h.gf (by unfold Reg.SITE_CENSUS0 Reg.HIF_XFER_BYTES; omega)]

theorem HxAt.recentring {p : Nat} (h : HxAt s g (Reg.HIF_XFER_BYTES p) ms n os y) (w : Nat) : y.recentring w = s.recentring w := by
  have owner : y.standOfTower w = s.standOfTower w := by rw [h.frame]; rfl
  have gtc : y.gtc = s.gtc := by rw [h.frame]
  unfold State.recentring
  rw [h.openSite, owner, h.stand, gtc, h.gf (by unfold Reg.CLK_SITE_DIV Reg.HIF_XFER_BYTES; omega)]

theorem HxAt.placeHeld {p : Nat} (h : HxAt s g (Reg.HIF_XFER_BYTES p) ms n os y) (x : Place) (back : Bool) :
    y.placeHeld x back = s.placeHeld x back := by
  unfold State.placeHeld State.inwardHeld
  cases x
  case data k o | prog k o =>
    dsimp only
    rw [h.openSite, h.recentring, (h.highs _).1, (h.highs _).2]
  case tower w o => exact h.recentring w
  all_goals rfl

theorem HxAt.hxHeld {p : Nat} (h : HxAt s g (Reg.HIF_XFER_BYTES p) ms n os y) (i : Nat) (m : MoveSt) (ls : List Nat) :
    y.hxHeld i m ls = s.hxHeld i m ls := by
  unfold State.hxHeld
  rw [h.standPlace]
  simp only [h.placeHeld]

end

/-! ### Pieces and their parts -/

theorem mem_hostPieces {q : Nat × Nat} {a fuel n : Nat} (ha : a % 64 = 0) (hn : n % 64 = 0) (hq : q ∈ hostPieces a fuel n) :
    q.1 % 64 = 0 ∧ q.2 % 64 = 0 ∧ a ≤ q.1 ∧ q.1 + q.2 ≤ a + n := by
  induction fuel generalizing a n with
  | zero => exact absurd hq List.not_mem_nil
  | succ fuel ih =>
    cases n with
    | zero => exact absurd hq List.not_mem_nil
    | succ n =>
      rcases List.mem_cons.1 hq with rfl | hq
      · dsimp only
        omega
      · obtain ⟨h1, h2, h3, h4⟩ := ih (a := a + min (n + 1) (4096 - a % 4096)) (n := n + 1 - min (n + 1) (4096 - a % 4096)) (by omega) (by omega) hq
        omega

theorem mem_partsOf {c : Nat × Nat} {k a fuel n : Nat} (hk : k % 64 = 0) (kpos : 0 < k) (ha : a % 64 = 0) (hn : n % 64 = 0)
    (hc : c ∈ partsOf k fuel a n) : c.1 % 64 = 0 ∧ c.2 % 64 = 0 ∧ 0 < c.2 ∧ a ≤ c.1 ∧ c.1 + c.2 ≤ a + n := by
  induction fuel generalizing a n with
  | zero => exact absurd hc List.not_mem_nil
  | succ fuel ih =>
    cases n with
    | zero => exact absurd hc List.not_mem_nil
    | succ n =>
      rcases List.mem_cons.1 hc with rfl | hc
      · dsimp only
        omega
      · obtain ⟨h1, h2, h3, h4, h5⟩ := ih (a := a + min (n + 1) k) (n := n + 1 - min (n + 1) k) (by omega) (by omega) hc
        omega

theorem partsOf_sum {k a fuel n : Nat} (hk : 64 ≤ k) (hf : n ≤ 64 * fuel) : ((partsOf k fuel a n).map Prod.snd).sum = n := by
  induction fuel generalizing a n with
  | zero => rw [show n = 0 by omega]; rfl
  | succ fuel ih =>
    cases n with
    | zero => rfl
    | succ n =>
      show (min (n + 1) k) + ((partsOf k fuel (a + min (n + 1) k) (n + 1 - min (n + 1) k)).map Prod.snd).sum = _
      rw [ih (by omega)]
      omega

theorem PortSt.maxPayload_spec (x : PortSt) : x.maxPayload % 64 = 0 ∧ 64 ≤ x.maxPayload := by
  unfold PortSt.maxPayload
  have : 0 < 2 ^ x.mps.toNat := Nat.two_pow_pos _
  omega

/-! ### A piece of a transfer -/

section
variable {s y : State} {g n i p : Nat} {ms : List MoveSt} {os : List Out} {m : MoveSt}

/-- The write of the lines at host address `c.1`, `c.2` bytes of them. -/
def hxOutOf (s : State) (p i : Nat) (m : MoveSt) (c : Nat × Nat) : Out :=
  .hostWrite p (BitVec.ofNat 64 c.1) c.2 ((hxNums m c.1 c.2).foldr (fun l v => (s.farLine i (m.far.toNat + 64 * l)).toNat + 2 ^ 512 * v) 0)

theorem hxWrite_at {c : Nat × Nat} (h : HxAt s g (Reg.HIF_XFER_BYTES p) ms n os y) (loc : m.loc.toNat % 64 = 0) (first : c.1 % 64 = 0)
    (len : c.2 % 64 = 0) (some_ : 0 < c.2) (low : m.loc.toNat ≤ c.1) :
    HxAt s g (Reg.HIF_XFER_BYTES p) ms (n + c.2) (os ++ [hxOutOf s p i m c]) (hxWrite p i m (hxNums m c.1 c.2) y) := by
  have length : 64 * (hxNums m c.1 c.2).length = c.2 := by
    unfold hxNums upto
    rw [List.length_map, List.length_range]
    omega
  obtain ⟨l, rest, nums⟩ := List.exists_cons_of_length_pos (l := hxNums m c.1 c.2) (by omega)
  have at_ : l = (c.1 - m.loc.toNat) / 64 := by
    have head : (hxNums m c.1 c.2)[0]? = some l := by rw [nums]; rfl
    unfold hxNums upto at head
    rw [List.getElem?_map, List.getElem?_range (by omega)] at head
    exact (Option.some.inj head).symm
  have addr : m.loc + BitVec.ofNat 64 (64 * l) = BitVec.ofNat 64 c.1 := by
    have whole : 64 * l = c.1 - m.loc.toNat := by omega
    refine BitVec.eq_of_toNat_eq ?_
    rw [whole, BitVec.toNat_add, BitVec.toNat_ofNat, BitVec.toNat_ofNat]
    omega
  have passed : ∀ (ls : List Nat) (z : State), HxAt s g (Reg.HIF_XFER_BYTES p) ms (n + c.2) os z →
      HxAt s g (Reg.HIF_XFER_BYTES p) ms (n + c.2) os (ls.foldl (fun y k => y.busHostAt i (m.far.toNat + 64 * k) true) z) := by
    intro ls
    induction ls with
    | nil => exact fun z hz => hz
    | cons k ls ih => exact fun z hz => ih _ (hz.busHostAt _ _ _)
  have length' : 64 * (l :: rest).length = c.2 := nums ▸ length
  have does : hxWrite p i m (hxNums m c.1 c.2) y =
      ((hxNums m c.1 c.2).foldl (fun y k => y.busHostAt i (m.far.toNat + 64 * k) true) (y.hxCarry p c.2)).emit (hxOutOf s p i m c) := by
    unfold hxOutOf
    rw [← addr, ← h.farLine, nums]
    unfold hxWrite
    dsimp only
    rw [length']
  rw [does]
  exact (passed _ _ (h.carry c.2)).emit _

/-- Parts of a piece go out one by one. -/
theorem hxParts_at {cs : List (Nat × Nat)} {f : State → Nat × Nat → State} (loc : m.loc.toNat % 64 = 0)
    (step : ∀ n os z, HxAt s g (Reg.HIF_XFER_BYTES p) ms n os z → ∀ c, f z c = hxWrite p i m (hxNums m c.1 c.2) z)
    (parts : ∀ c ∈ cs, c.1 % 64 = 0 ∧ c.2 % 64 = 0 ∧ 0 < c.2 ∧ m.loc.toNat ≤ c.1) (h : HxAt s g (Reg.HIF_XFER_BYTES p) ms n os y) :
    HxAt s g (Reg.HIF_XFER_BYTES p) ms (n + (cs.map Prod.snd).sum) (os ++ cs.map (hxOutOf s p i m))
      (cs.foldl f y) := by
  induction cs generalizing y n os with
  | nil => rw [List.map_nil, List.map_nil, List.append_nil]; exact h
  | cons c cs ih =>
    obtain ⟨first, len, some_, low⟩ := parts c List.mem_cons_self
    have rest := ih (fun d hd => parts d (List.mem_cons_of_mem _ hd)) (hxWrite_at (i := i) h loc first len some_ low)
    rw [List.map_cons, List.map_cons, List.sum_cons, ← Nat.add_assoc, List.foldl_cons, step _ _ _ h]
    rw [List.append_assoc] at rest
    exact rest

/-- A piece of an outward transfer of which no line is poisoned. -/
theorem hxOut_at {q : Nat × Nat} (h : HxAt s g (Reg.HIF_XFER_BYTES p) ms n os y) (loc : m.loc.toNat % 64 = 0) (first : q.1 % 64 = 0)
    (len : q.2 % 64 = 0) (low : m.loc.toNat ≤ q.1) (whole : ∀ l, s.farPoisoned i (m.far.toNat + 64 * l) = false) :
    HxAt s g (Reg.HIF_XFER_BYTES p) ms (n + q.2) (os ++ (partsOf (s.port p).maxPayload (q.2 / 64 + 1) q.1 q.2).map (hxOutOf s p i m))
      (hxOut p i m [] q y) := by
  obtain ⟨aligned, least⟩ := (s.port p).maxPayload_spec
  have parts : ∀ c ∈ partsOf (s.port p).maxPayload (q.2 / 64 + 1) q.1 q.2, c.1 % 64 = 0 ∧ c.2 % 64 = 0 ∧ 0 < c.2 ∧ m.loc.toNat ≤ c.1 :=
    fun c hc => by
      obtain ⟨h1, h2, h3, h4, -⟩ := mem_partsOf aligned (by omega) first len hc
      exact ⟨h1, h2, h3, low.trans h4⟩
  have sum : ((partsOf (s.port p).maxPayload (q.2 / 64 + 1) q.1 q.2).map Prod.snd).sum = q.2 := partsOf_sum least (by omega)
  unfold hxOut
  rw [h.port]
  have sent := hxParts_at (i := i) (f := fun y c =>
    let ls := hxNums m c.1 c.2
    let good := ls.filter fun l => !([].contains l) && !(y.farPoisoned i (m.far.toNat + 64 * l))
    if good = ls then hxWrite p i m ls y else good.foldl (fun z l => hxWrite p i m [l] z) y) loc (fun k os z hz c => ?_) parts h
  · rw [sum] at sent
    exact sent
  · refine if_pos (List.filter_eq_self.2 fun l _ => ?_)
    rw [hz.farPoisoned, whole]
    rfl

/-- A piece of an inward transfer is asked for. -/
theorem hxAsks_at {cs : List (Nat × Nat)} (h : HxAt s g (Reg.HIF_XFER_BYTES p) ms n os y) :
    HxAt s g (Reg.HIF_XFER_BYTES p) ms n (os ++ cs.map fun c => .hostRead p (BitVec.ofNat 64 c.1) c.2)
      (cs.foldl (fun y c => y.emit (.hostRead p (BitVec.ofNat 64 c.1) c.2)) y) := by
  induction cs generalizing y os with
  | nil => rw [List.map_nil, List.append_nil]; exact h
  | cons c cs ih =>
    have rest := ih (h.emit (.hostRead p (BitVec.ofNat 64 c.1) c.2))
    rw [List.append_assoc] at rest
    exact rest

end

/-! ### A round of the engine (R409) -/

/-- Transfer `m` with `k` more of its pieces asked for. -/
def MoveSt.asks (m : MoveSt) (k : Nat) : MoveSt := { m with asked := m.asked + k }

/-- A core's move as `k` rounds of the engine that serves `m` leave it. -/
def MoveSt.servedIn (m : MoveSt) (k : Nat) (x : MoveSt) : MoveSt := if x.host ∧ x.tag = m.tag then m.asks k else x

/-- What goes out for piece `q` of `m`. -/
def pieceOut (s : State) (p i : Nat) (m : MoveSt) (q : Nat × Nat) : List Out :=
  if m.toFar then (partsOf (s.port p).maxRead (q.2 / 64 + 1) q.1 q.2).map fun c => .hostRead p (BitVec.ofNat 64 c.1) c.2
  else (partsOf (s.port p).maxPayload (q.2 / 64 + 1) q.1 q.2).map (hxOutOf s p i m)

/-- The bytes that the port counts for it. -/
def pieceBytes (m : MoveSt) (q : Nat × Nat) : Nat := if m.toFar then 0 else q.2

/-- What the engine finds when it finishes transfer `m` of core `g`, the stand's only one on port `p`. -/
structure Finishes (s : State) (p i g : Nat) (m : MoveSt) : Prop where
  head : (s.core g).moves.find? (·.host) = some m
  core : g = (s.stand i).copy.hxCore
  run : s.inRun i = true
  alone : ∀ k, k ≠ i → planPort s.planForce k = p → s.hxHead k = none
  one : ∀ y ∈ (s.core g).moves, y.tag = m.tag → y = m
  good : m.bad = 0
  free : s.hxHeld i m (upto m.lines) = false
  aligned : m.loc.toNat % 64 = 0
  whole : m.toFar = true ∨ ∀ l, s.farPoisoned i (m.far.toNat + 64 * l) = false

section
variable {s y : State} {g n i p k : Nat} {os : List Out} {m : MoveSt} {q : Nat × Nat}

theorem Finishes.host (h : Finishes s p i g m) : m.host = true := List.find?_some (p := MoveSt.host) h.head

theorem MoveSt.servedIn_host (host : m.host = true) (k : Nat) (x : MoveSt) : (m.servedIn k x).host = x.host := by
  unfold MoveSt.servedIn
  split
  next same => exact host.trans same.1.symm
  next => rfl

theorem MoveSt.servedIn_zero (h : Finishes s p i g m) : (s.core g).moves.map (m.servedIn 0) = (s.core g).moves := by
  refine (List.map_congr_left (g := id) fun x hx => ?_).trans (List.map_id _)
  unfold MoveSt.servedIn
  split
  next same => exact (h.one x hx same.2).symm
  next => rfl

theorem hxPieces_spec (aligned : m.loc.toNat % 64 = 0) (hq : q ∈ hxPieces m) :
    q.1 % 64 = 0 ∧ q.2 % 64 = 0 ∧ m.loc.toNat ≤ q.1 ∧ ∀ l ∈ hxNums m q.1 q.2, l ∈ upto m.lines := by
  obtain ⟨h1, h2, h3, h4⟩ := mem_hostPieces aligned (by omega) hq
  refine ⟨h1, h2, h3, fun l hl => ?_⟩
  obtain ⟨j, hj, rfl⟩ := List.mem_map.1 hl
  have few : j < q.2 / 64 := List.mem_range.1 hj
  exact List.mem_range.2 (by omega)

/-- The engine serves the next piece. -/
theorem hxServe_at (f : Finishes s p i g m) (piece : (hxPieces m)[m.asked + k]? = some q)
    (h : HxAt s g (Reg.HIF_XFER_BYTES p) ((s.core g).moves.map (m.servedIn k)) n os y) :
    HxAt s g (Reg.HIF_XFER_BYTES p) ((s.core g).moves.map (m.servedIn (k + 1))) (n + pieceBytes m q) (os ++ pieceOut s p i m q)
      (hxServe p i g (m.asks k) [] y) := by
  obtain ⟨first, len, low, inside⟩ := hxPieces_spec f.aligned (List.mem_of_getElem? piece)
  have free : y.hxHeld i m (hxNums m q.1 q.2) = false := by
    rw [h.hxHeld]
    exact List.any_eq_false.2 fun l hl => List.any_eq_false.1 f.free l (inside l hl)
  have lost : (!m.toFar && (hxNums m q.1 q.2).any fun l => [].contains l || y.farPoisoned i (m.far.toNat + 64 * l)) = false := by
    rcases f.whole with toFar | whole
    · rw [toFar]; rfl
    · rw [Bool.and_eq_false_iff]
      refine .inr (List.any_eq_false.2 fun l _ => ?_)
      rw [h.farPoisoned, whole]
      exact Bool.false_ne_true
  have next : ∀ z : State, (z.core g).moves = (s.core g).moves.map (m.servedIn k) →
      ((z.core g).moves.map fun x => if x.host ∧ x.tag = (m.asks k).tag then
        { x with asked := (m.asks k).asked + 1, bad := if x.bad = 0 ∧ false = true then 3 else x.bad } else x) =
        (s.core g).moves.map (m.servedIn (k + 1)) := fun z hz => by
    rw [hz, List.map_map]
    refine List.map_congr_left fun x _ => ?_
    show (if (m.servedIn k x).host ∧ (m.servedIn k x).tag = m.tag then _ else _) = _
    unfold MoveSt.servedIn
    by_cases same : x.host ∧ x.tag = m.tag
    · rw [if_pos same, if_pos same, if_pos ⟨f.host, rfl⟩, if_neg (fun h => Bool.false_ne_true h.2)]
      rfl
    · rw [if_neg same, if_neg same, if_neg same]
  have sent : HxAt s g (Reg.HIF_XFER_BYTES p) ((s.core g).moves.map (m.servedIn k)) (n + pieceBytes m q) (os ++ pieceOut s p i m q)
      (if m.toFar then (hxAsks y p q).foldl (fun y c => y.emit (.hostRead p (BitVec.ofNat 64 c.1) c.2)) y else hxOut p i m [] q y) := by
    unfold pieceBytes pieceOut
    rcases f.whole with toFar | whole
    · rw [if_pos toFar, if_pos toFar, if_pos toFar, Nat.add_zero, ← h.port]
      exact hxAsks_at h
    · by_cases toFar : m.toFar = true
      · rw [if_pos toFar, if_pos toFar, if_pos toFar, Nat.add_zero, ← h.port]
        exact hxAsks_at h
      · rw [if_neg toFar, if_neg toFar, if_neg toFar]
        exact hxOut_at h f.aligned first len low whole
  have piece' : (hxPieces (m.asks k))[(m.asks k).asked]? = some q := piece
  have held' : (!(m.asks k).toFar && y.hxHeld i (m.asks k) (hxNums (m.asks k) q.1 q.2)) = false := Bool.and_eq_false_iff.2 (.inr free)
  have lost' : (!(m.asks k).toFar && (hxNums (m.asks k) q.1 q.2).any fun l => [].contains l || y.farPoisoned i ((m.asks k).far.toNat + 64 * l)) = false := lost
  unfold hxServe
  rw [piece']
  dsimp only
  rw [held', lost', if_neg Bool.false_ne_true]
  exact sent.moved (next _ sent.moves)

/-- A round of the engine serves the next piece of the only transfer on its port. -/
theorem hxRound_at (f : Finishes s p i g m) (piece : (hxPieces m)[m.asked + k]? = some q)
    (h : HxAt s g (Reg.HIF_XFER_BYTES p) ((s.core g).moves.map (m.servedIn k)) n os y) :
    HxAt s g (Reg.HIF_XFER_BYTES p) ((s.core g).moves.map (m.servedIn (k + 1))) (n + pieceBytes m q) (os ++ pieceOut s p i m q)
      (hxRound p i [] y) := by
  have found : ∀ j, ((s.core g).moves.map (m.servedIn j)).find? (·.host) = some (m.asks j) := fun j => by
    have same : ((·.host) ∘ m.servedIn j) = fun x : MoveSt => x.host := funext fun x => MoveSt.servedIn_host f.host j x
    rw [List.find?_map, same, f.head, Option.map_some]
    unfold MoveSt.servedIn
    rw [if_pos ⟨f.host, rfl⟩]
  have head : y.hxHead i = some (g, m.asks k) := by
    unfold State.hxHead
    rw [h.inRun, f.run, if_pos rfl, h.stand, ← f.core, h.moves, found, Option.map_some]
  have served := hxServe_at f piece h
  have quiet : ∀ j, j ≠ i → planPort s.planForce j = p → (hxServe p i g (m.asks k) [] y).hxHead j = none := fun j hj port => by
    have none_ := f.alone j hj port
    unfold State.hxHead at none_ ⊢
    rw [served.inRun, served.stand]
    by_cases run : s.inRun j = true
    · rw [if_pos run] at none_ ⊢
      by_cases same : (s.stand j).copy.hxCore = g
      · rw [same, f.head] at none_
        exact absurd none_ nofun
      · rw [served.cores _ same]
        exact none_
    · rw [if_neg run]
  unfold hxRound
  rw [head]
  dsimp only
  rw [foldl_eq_self fun j hj => ?_]
  · exact served
  · obtain ⟨x, hx, rfl⟩ := List.mem_map.1 hj
    have few : x < 15 := List.mem_range.1 hx
    rw [served.planForce]
    by_cases port : planPort s.planForce ((i + 1 + x) % 16) = p
    · rw [if_neg (fun h => h port), quiet _ (by omega) port]
    · rw [if_pos port]

/-- After `j` rounds. -/
theorem hxRounds_at (f : Finishes s p i g m) {j : Nat} (hj : j ≤ (hxPieces m).length - m.asked) :
    HxAt s g (Reg.HIF_XFER_BYTES p) ((s.core g).moves.map (m.servedIn j))
      ((((hxPieces m).drop m.asked).take j).map (pieceBytes m)).sum ((((hxPieces m).drop m.asked).take j).flatMap (pieceOut s p i m))
      ((upto j).foldl (fun y _ => hxRound p i [] y) s) := by
  induction j with
  | zero =>
    rw [MoveSt.servedIn_zero f, List.take_zero]
    exact .start s g _
  | succ j ih =>
    have here : ((hxPieces m).drop m.asked)[j]? = some ((hxPieces m)[m.asked + j]'(by omega)) := by
      rw [List.getElem?_drop, List.getElem?_eq_getElem]
    have next := hxRound_at f (k := j) (q := (hxPieces m)[m.asked + j]'(by omega)) (List.getElem?_eq_getElem _) (ih (by omega))
    unfold upto at next ⊢
    rw [List.range_succ, List.foldl_append, List.take_add_one, here, List.map_append, List.sum_append, List.flatMap_append]
    simpa using next

/-- Once every piece has been asked for. -/
theorem hxAll_at (f : Finishes s p i g m) :
    HxAt s g (Reg.HIF_XFER_BYTES p) ((s.core g).moves.map (m.servedIn ((hxPieces m).length - m.asked)))
      (((hxPieces m).drop m.asked).map (pieceBytes m)).sum (((hxPieces m).drop m.asked).flatMap (pieceOut s p i m))
      ((upto ((hxPieces m).length - m.asked)).foldl (fun y _ => hxRound p i [] y) s) := by
  have all := hxRounds_at f (Nat.le_refl _)
  rwa [List.take_of_length_le (by rw [List.length_drop])] at all

/-! ### Completion (R227 to R229, R409, R410) -/

theorem tagComplete_spec (s : State) (g : Nat) (mt : BitVec 3) (status : Nat) :
    sget ⟨false, 0⟩ ((tagComplete s g mt status).core g).tags mt.toNat = ⟨false, BitVec.ofNat 4 status⟩ ∧
      ∀ y ∈ ((tagComplete s g mt status).core g).moves, y.tag ≠ mt := by
  unfold tagComplete
  rw [State.core_setCore_same]
  refine ⟨sget_sset_same .., fun y hy => ?_⟩
  simpa using (List.mem_filter.1 hy).2

/-- The lines that an inward transfer stores leave registers and messages alone. -/
theorem hxLines_spec (i : Nat) (m : MoveSt) (data : List (BitVec 512)) (ls : List Nat) (s : State) :
    (hxLines i m data ls s).out = s.out ∧ (hxLines i m data ls s).reg = s.reg := by
  unfold hxLines
  refine foldl_invariant (P := fun y : State => y.out = s.out ∧ y.reg = s.reg) ⟨rfl, rfl⟩ fun y l hy => ?_
  obtain ⟨out, reg⟩ := hy
  split
  next a _ =>
    have passed := (HxAt.start (y.store a 64 (data.getD l 0).toNat) 0 0).busHostAt i (m.far.toNat + 64 * l) false
    refine ⟨(passed.out.trans (List.append_nil _)).trans out, (funext fun b => ?_).trans reg⟩
    by_cases zero : b = 0
    · subst zero
      exact passed.count.trans (BitVec.add_zero _)
    · exact passed.regs b zero
  next => exact ⟨out, reg⟩

theorem HxAt.self_mem {s y : State} {ms : List MoveSt} {n b : Nat} {os : List Out} (h : HxAt s g b ms n os y) : y.mem = s.mem :=
  (congrArg State.mem h.frame).trans rfl

theorem hxLines_one {data : List (BitVec 512)} {a : Nat} (far : s.far i m.far.toNat = some a) :
    (hxLines i m data (upto 1) s).mem = memWrite s.mem a 64 (data.getD 0 0).toNat := by
  show ((hxLines i m data [0] s)).mem = _
  unfold hxLines
  rw [List.foldl_cons, List.foldl_nil, show m.far.toNat + 64 * 0 = m.far.toNat from rfl, far]
  exact ((HxAt.start (s.store a 64 (data.getD 0 0).toNat) 0 0).busHostAt i m.far.toNat false).self_mem

theorem busHostAt_plan (s : State) (i a : Nat) (back : Bool) : (s.busHostAt i a back).planForce = s.planForce :=
  ((HxAt.start s 0 0).busHostAt i a back).planForce

theorem hxLines_plan (i : Nat) (m : MoveSt) (data : List (BitVec 512)) (ls : List Nat) (s : State) :
    (hxLines i m data ls s).planForce = s.planForce := by
  unfold hxLines
  refine foldl_invariant (P := fun y : State => y.planForce = s.planForce) rfl fun y l hy => ?_
  split
  · exact (busHostAt_plan _ _ _ _).trans hy
  · exact hy

theorem hxWrite_plan (p i : Nat) (m : MoveSt) (ls : List Nat) (s : State) : (hxWrite p i m ls s).planForce = s.planForce := by
  unfold hxWrite
  split
  · rfl
  · exact foldl_invariant (P := fun y : State => y.planForce = s.planForce) rfl fun y k hy => (busHostAt_plan _ _ _ _).trans hy

theorem takeSplit_plan (ls : List Nat) (s : State) : (s.takeSplit ls).2.planForce = s.planForce := by
  induction ls generalizing s with
  | nil => rfl
  | cons l ls ih => exact (ih _).trans rfl

/-- The transfer ends with an error. -/
theorem hxferComplete_fails {data : List (BitVec 512)} {kind : Nat} (hg : g < 12288) (head : ((s.core g).moves.filter (·.host)).head? = some m)
    (free : kind = 0 → s.hxHeld (s.standOf g) m (upto m.lines) = false)
    (why : kind ≠ 0 ∨ ((s.port (planPort s.planForce (s.standOf g))).busMaster = false ∧ m.asked < (hxPieces m).length)) :
    ∃ t k, execHxferComplete g m.tag kind data [] s = .next (hxError (hxEnd t (s.standOf g) g m 8) (s.standOf g) g k 8) ∧
      t.planForce = s.planForce := by
  have none_ : (if m.toFar then [] else ([] : List (Nat × Ecc)).filter fun q => decide ((((hxPieces m).take m.asked).map (·.2)).sum / 64 ≤ q.1) && decide (q.1 < m.lines)) = [] := by
    split <;> rfl
  have wrong : (if kind = 0 ∧ (s.port (planPort s.planForce (s.standOf g))).busMaster = false ∧ m.asked < (hxPieces m).length then 2 else kind) ≠ 0 := by
    split
    · decide
    next other => exact fun zero => why.elim (fun h => h zero) fun h => other ⟨zero, h⟩
  unfold execHxferComplete
  rw [if_neg (by omega), head]
  dsimp only
  rw [if_neg (fun h => h.elim (fun h => h rfl) fun h => by rw [free h.1] at h; exact Bool.false_ne_true h.2)]
  rw [none_, List.foldl_nil, List.filter_nil, List.map_nil, if_neg wrong]
  generalize (upto m.lines).filter (fun l => m.toFar ||
    (decide ((((hxPieces m).take m.asked).map (·.2)).sum / 64 ≤ l) && !([].contains l) && !(s.farPoisoned (s.standOf g) (m.far.toNat + 64 * l)))) = ls
  have plan := takeSplit_plan ls s
  refine ⟨_, _, rfl, ?_⟩
  split
  · exact (hxLines_plan _ _ _ _ _).trans plan
  · exact foldl_invariant (P := fun y : State => y.planForce = s.planForce) plan fun y l hy => (hxWrite_plan _ _ _ _ _).trans hy

theorem hxferComplete_held {data : List (BitVec 512)} (hg : g < 12288) (head : ((s.core g).moves.filter (·.host)).head? = some m)
    (held : s.hxHeld (s.standOf g) m (upto m.lines) = true) : exec (.hxferComplete g m.tag 0 data []) s = .next s := by
  show execHxferComplete g m.tag 0 data [] s = _
  unfold execHxferComplete
  rw [if_neg (by omega), head]
  exact if_pos (.inr ⟨rfl, held⟩)

theorem hxEnd_zero (s : State) (i g : Nat) (m : MoveSt) : hxEnd s i g m 0 = tagComplete s g m.tag 0 := by
  unfold hxEnd
  dsimp only
  rw [if_pos rfl]

theorem hxEnd_error (s : State) (i g : Nat) (m : MoveSt) : ∃ tile beat,
    hxEnd s i g m 8 = niNote ((tagComplete s g m.tag 8).coreCount g 33 1) g 8 0x38 tile beat := by
  refine ⟨s.hxTile i g m.far.toNat, m.beat.toNat, ?_⟩
  unfold hxEnd
  dsimp only
  rw [if_neg (by decide)]

/-- The transfer ends whole. -/
theorem hxferComplete_whole {data : List (BitVec 512)} (hg : g < 12288) (head : ((s.core g).moves.filter (·.host)).head? = some m)
    (master : (s.port (planPort s.planForce (s.standOf g))).busMaster = true) (f : Finishes s (planPort s.planForce (s.standOf g)) (s.standOf g) g m) :
    let p := planPort s.planForce (s.standOf g)
    let s1 := (upto ((hxPieces m).length - m.asked)).foldl (fun y _ => hxRound p (s.standOf g) [] y) s
    exec (.hxferComplete g m.tag 0 data []) s = .next (tagComplete
      (if m.toFar then (hxLines (s.standOf g) m data (upto m.lines) s1).hxCarry p (64 * m.lines)
        else s1.emit (.hostRead p (m.loc + BitVec.ofNat 64 (64 * (m.lines - 1))) 0)) g m.tag 0) := by
  intro p s1
  have all := (hxAll_at f).moves
  have good : (s1.core g).moves.any (fun x => x.host && x.tag == m.tag && x.bad != 0) = false := by
    rw [all]
    refine List.any_eq_false.2 fun x hx => ?_
    obtain ⟨z, hz, rfl⟩ := List.mem_map.1 hx
    unfold MoveSt.servedIn
    split
    · simp [MoveSt.asks, f.good]
    next other =>
      intro h
      simp only [Bool.and_eq_true, beq_iff_eq] at h
      exact other h.1
  have none_ : (if m.toFar then [] else ([] : List (Nat × Ecc)).filter fun q => decide ((((hxPieces m).take m.asked).map (·.2)).sum / 64 ≤ q.1) && decide (q.1 < m.lines)) = [] := by
    split <;> rfl
  show execHxferComplete g m.tag 0 data [] s = _
  unfold execHxferComplete
  rw [if_neg (by omega), head]
  dsimp only
  rw [if_neg (fun h => h.elim (fun h => h rfl) fun h => by rw [f.free] at h; exact Bool.false_ne_true h.2)]
  rw [none_]
  simp only [List.foldl_nil, List.filter_nil, List.map_nil]
  rw [master, if_pos (by rw [if_neg (fun h => by exact absurd h.2.1 (by decide))])]
  rw [if_pos (by exact congrArg (!·) good)]
  rw [hxEnd_zero]

end

/-- Settles O25: a transfer is issued or refused, and the engine ends it whole or with an error. -/
theorem hostTransfers : Obligations.HostTransfers := by
  unfold Obligations.HostTransfers
  refine ⟨fun s e f => ?_, fun s g mt m data hg head tag => ?_, fun s g mt kind m data ecc hg head tag => ?_⟩
  · intro c st p x n host h tag clear engine
    refine ⟨fun low high master d0 link => ?_, fun out => ?_⟩
    · exact hxfer_issues h tag clear engine (hxRefusal_none low high master d0 link)
    · exact hxfer_refused h tag clear engine (hxRefusal_window out)
  · subst tag
    intro i p held
    refine ⟨fun is => hxferComplete_held hg head is, ?_⟩
    intro b late free core run alone one good master aligned last whole
    have f : Finishes s p i g m := ⟨by rw [← List.head?_filter]; exact head, core, run, alone, fun y hy tag => one y hy tag, good, free, aligned, whole⟩
    have all := hxAll_at f
    refine ⟨_, hxferComplete_whole hg head master f, ?_, ?_, fun out => ?_, fun inward => ?_⟩
    · exact (tagComplete_spec _ _ _ _).1
    · exact (tagComplete_spec _ _ _ _).2
    · rw [if_neg (by rw [out]; exact Bool.false_ne_true)]
      have bytes : (late.map (pieceBytes m)).sum = (late.map Prod.snd).sum := by
        refine congrArg List.sum (List.map_congr_left fun q _ => ?_)
        unfold pieceBytes
        rw [if_neg (by rw [out]; exact Bool.false_ne_true)]
      have outs : pieceOut s p i m = fun q => (partsOf (s.port p).maxPayload (q.2 / 64 + 1) q.1 q.2).map (hxOutOf s p i m) := by
        funext q
        unfold pieceOut
        rw [if_neg (by rw [out]; exact Bool.false_ne_true)]
      refine ⟨?_, ?_, ?_⟩
      · exact (congrArg State.mem all.frame).trans rfl
      · rw [← bytes]
        exact all.count
      · refine (congrArg (· ++ _) all.out).trans ?_
        rw [outs]
        rfl
    · rw [if_pos inward]
      set s1 := (upto ((hxPieces m).length - m.asked)).foldl (fun y _ => hxRound p i [] y) s with hs1
      obtain ⟨out, reg⟩ := hxLines_spec i m data (upto m.lines) s1
      have bytes : (late.map (pieceBytes m)).sum = 0 := by
        refine List.sum_eq_zero fun n hn => ?_
        obtain ⟨q, -, rfl⟩ := List.mem_map.1 hn
        exact if_pos inward
      have outs : pieceOut s p i m = fun q => (partsOf (s.port p).maxRead (q.2 / 64 + 1) q.1 q.2).map fun c => .hostRead p (BitVec.ofNat 64 c.1) c.2 := by
        funext q
        exact if_pos inward
      refine ⟨?_, ?_, fun one_ a far => ?_⟩
      · have count := all.count
        rw [bytes] at count
        refine (State.reg_setReg_same ..).trans ?_
        rw [reg, count]
        exact congrArg (· + _) (BitVec.add_zero _)
      · refine out.trans (all.out.trans ?_)
        rw [outs]
      · have mem : s1.mem = s.mem := (congrArg State.mem all.frame).trans rfl
        have lands : (hxLines i m data (upto m.lines) s1).mem = memWrite s.mem a 64 (data.getD 0 0).toNat := by
          rw [one_, ← mem]
          exact hxLines_one (by rw [all.far]; exact far)
        show Stores s.mem (hxLines i m data (upto m.lines) s1).mem a 64 _
        rw [lands]
        exact stores_memWrite _ _ _ _
  · subst tag
    intro p why
    obtain ⟨t, k, does, plan⟩ : ∃ t k, execHxferComplete g m.tag kind data ecc s =
        .next (hxError (hxEnd t (s.standOf g) g m 8) (s.standOf g) g k 8) ∧ t.planForce = s.planForce := by
      rcases why with ⟨bad, rfl⟩ | ⟨zero, rfl, master, left, free⟩
      · exact hxferComplete_fails hg head (fun h => absurd h bad) (.inl bad)
      · exact hxferComplete_fails hg head (fun _ => free) (.inr ⟨master, left⟩)
    obtain ⟨tile, beat, ends⟩ := hxEnd_error t (s.standOf g) g m
    obtain ⟨-, -, tags, moves, valid⟩ := hxFails t (s.standOf g) g m.tag 8 k 0x38 tile beat 8
    rw [← ends] at tags moves valid
    rw [plan] at valid
    exact ⟨_, does, tags, moves, valid⟩

end Sys2Proof.Machine

/-! PROOF. The limit on holds in a parked stand (R225, R241, R443). -/

namespace Sys2Proof.Machine

/-- Stand 0 in a run, parked, its gate held for the 4,096th time in a row. -/
def parkedHolds : State :=
  { State.reset with regs := [(Reg.STD_STATUS 0, 2)], stands := [(0, { StandSt.zero with gate := some false, streak := 4096 })],
                     pwr := [(0, { PwrSt.zero with parked := true })] }

theorem parkedHolds_runs : RunsOn parkedHolds 0 := by decide +kernel

/-- Refutes O30: the 4,096th hold of a run whose stand is parked is logged alone, and its handling does not begin. -/
theorem not_holdsSparesLevels : ¬ Obligations.HoldsSparesLevels := by
  intro h
  obtain ⟨limits, -, -⟩ := h
  obtain ⟨hold, -⟩ := limits parkedHolds 0 parkedHolds_runs
  obtain ⟨t, -, handling, e, fatal, -⟩ := hold (by decide) rfl
  have parked : (parkedHolds.pwrS 0).parked = true := rfl
  have quiet : (parkedHolds.standFatal 0 e).stand 0 = parkedHolds.stand 0 := by
    have run : parkedHolds.inRun 0 = true := by decide +kernel
    have logs := (Reports.logErr parkedHolds (cls := 2) (by decide) (parkedHolds.logEnt 2 { e with stand := some 0 })).frame
    unfold State.standFatal
    rw [if_pos run, if_pos parked, logs]
    rfl
  rw [fatal, quiet] at handling
  exact absurd handling (by decide)

end Sys2Proof.Machine

/-! PROOF. A store wider than a line (R213, R329). -/

namespace Sys2Proof.Machine

/-- A store whose width field is 7, to the first byte of tile 0's first stack. -/
def wideStore : Pkt := { Pkt.zero with op := 0x11, width := 7 }

/-- Tile 0 with that store in its ejection buffer, and a byte of the stack's second line set. -/
def wideTile : State :=
  { State.reset with mem := [(64, 5)], planForce := [(0, 1), (12, 3), (18, 1)], tiles := [(0, { PlaneTile.empty with ejNormal := [wideStore] })] }

theorem wideTile_serves : Serves wideTile 0 wideStore 0 :=
  ⟨by decide, by decide +kernel, by decide +kernel, rfl, rfl, by decide +kernel, rfl, rfl, by decide +kernel, by decide +kernel, .hbm 0 0, by rfl, by rfl, by decide +kernel⟩

/-- The engine's cycle does not write the bytes of the second line. -/
theorem wideTile_reads : memRead (wideTile.engineCycle 0 []).mem 0 128 ≠ 0 := by
  decide +kernel

/-- Refutes O31: a store of width code 7 is served, and only the first 64 of the 128 bytes that its width names are written. -/
theorem not_ejectionAndEngine : ¬ Obligations.EjectionAndEngine := by
  intro h
  obtain ⟨-, serves⟩ := h
  obtain ⟨-, store, -⟩ := serves wideTile 0 0 wideStore wideTile_serves
  obtain ⟨u, does, -, -, written, -⟩ := store rfl
  have cycle : exec (.engineCycle 0 []) wideTile = .next (wideTile.engineCycle 0 []) := by
    show execEngineCycle 0 [] wideTile = _
    have inService : wideTile.tileOut 0 = false := by decide +kernel
    unfold execEngineCycle
    rw [if_neg (by decide), inService]
    rfl
  obtain rfl : wideTile.engineCycle 0 [] = u := Host.Outcome.next.inj (cycle.symm.trans does)
  have width : wBytes wideStore.width = 128 := by decide
  have payload : wideStore.payload.toNat = 0 := BitVec.toNat_zero
  rw [width, payload, Nat.zero_mod] at written
  exact wideTile_reads written

end Sys2Proof.Machine

/-! PROOF. The calibrations of a tile whose weak input is ramped out (R302, R311). -/

namespace Sys2Proof.Machine

/-- A calibration that is complete keeps its channel when the tile's calibrations are given up. -/
theorem State.calAbandonAll_complete (s : State) (t h : Nat) (f : Fld) (complete : sget 0 (s.fabT t).calDone h ≠ 0) :
    (s.calAbandonAll t).gf (Reg.OPT_TRUNK_STATE t h) f = s.gf (Reg.OPT_TRUNK_STATE t h) f := by
  refine (foldl_invariant (P := fun y : State => sget 0 (y.fabT t).calDone h = sget 0 (s.fabT t).calDone h ∧
    y.gf (Reg.OPT_TRUNK_STATE t h) f = s.gf (Reg.OPT_TRUNK_STATE t h) f) ⟨rfl, rfl⟩ fun y k kept => ?_).2
  obtain ⟨done, same⟩ := kept
  split
  · rename_i none
    have other : h ≠ k := fun e => complete (done.symm.trans (e ▸ none))
    have apart : Reg.OPT_TRUNK_STATE t h ≠ Reg.OPT_TRUNK_STATE t k := by unfold Reg.OPT_TRUNK_STATE; omega
    unfold State.calAbandon
    simp only
    split
    · exact ⟨done, same⟩
    · refine ⟨?_, ?_⟩
      · rw [State.fabT_setFab_same, sget_sset_other _ _ _ _ other, done]
      · rw [State.gf_setFab, State.gf_sf_ne _ _ _ _ apart, State.gf_sf_ne _ _ _ _ apart, same]
  · exact ⟨done, same⟩

/-- Input 0 of tile 0 is active, and the channel under calibration on its home trunk 0 is complete and waits for its clearing. -/
def calibratedWaits : State :=
  { ((State.reset.setReg Reg.OPT_ILK_STATUS 0).setReg (Reg.OPT_TRUNK_STATE 0 0) 0).setReg (Reg.OPT_FIBRE 0 0) (2 ^ 10) with
    fab := [(0, { FabTile.zero with calDone := [(0, 1)] })] }

theorem calibratedWaits_switch : ∃ u, execFibreSwitch 0 0 calibratedWaits = .next u ∧
    u.gf (Reg.OPT_TRUNK_STATE 0 0) Fld.OPT_TRUNK_STATE_cal_ch = 0 := by
  have may : ¬(calibratedWaits.gf (Reg.OPT_FIBRE 0 0) Fld.OPT_FIBRE_active = 0 ∨
      (calibratedWaits.fabT 0).switchOut.isSome = true ∨ calibratedWaits.ilkPhase ≠ 0) := by decide +kernel
  have third : ((calibratedWaits.usable 0).find? fun j =>
      j != 0 && calibratedWaits.gf (Reg.OPT_FIBRE 0 j) Fld.OPT_FIBRE_active == 0) = some 1 := by decide +kernel
  have weak : ¬2 ≤ calibratedWaits.strong 0 := by decide +kernel
  have far : Reg.OPT_TRUNK_STATE 0 0 ≠ Reg.OPT_FIBRE 0 0 ∧ Reg.OPT_TRUNK_STATE 0 0 ≠ Reg.OPT_FIBRE 0 1 := by decide
  unfold execFibreSwitch State.weakCheck
  rw [if_neg (by decide)]
  simp only
  rw [if_neg may, third]
  simp only
  rw [if_neg fun c => weak c.1]
  refine ⟨_, rfl, ?_⟩
  rw [State.gf_setFab, State.calAbandonAll_complete _ _ _ _ (by exact (show (1 : Nat) ≠ 0 by decide)), State.gf_sf_ne _ _ _ _ far.1,
    State.gf_sf_ne _ _ _ _ far.2, State.gf_sf_ne _ _ _ _ far.1]
  show calibratedWaits.gf _ _ = 0
  decide +kernel

/-- Refutes O38: when a weak input is ramped out, a calibration that is complete already is not given up, and its channel stays the one
under calibration. -/
theorem not_calibrationsAndInputs : ¬ Obligations.CalibrationsAndInputs := by
  intro h
  obtain ⟨-, inputs⟩ := h
  obtain ⟨-, -, ramped, -⟩ := inputs calibratedWaits 0 0 (by decide) (by decide)
  obtain ⟨-, third⟩ := ramped (by decide +kernel) rfl (by decide +kernel)
  obtain ⟨u, done, -, -, -, -, -, -, given⟩ := third 1 (by decide +kernel)
  obtain ⟨v, next, stays⟩ := calibratedWaits_switch
  cases next.symm.trans done
  exact absurd (stays.symm.trans (given 0 (by decide))) (by decide)

end Sys2Proof.Machine

/-! PROOF. The instructions of a fabric-sequencer context (R284 to R288). -/

namespace Sys2Proof.Machine

/-! ### A context -/

@[simp] theorem State.ctx_setCtx_same (s : State) (t x : Nat) (k : CtxSt) : (s.setCtx t x k).ctx t x = k := by
  unfold State.ctx State.setCtx
  rw [State.fabT_setFab_same, sget_sset_same]

theorem State.ctx_setCtx_ne (s : State) {t x y : Nat} (k : CtxSt) (h : y ≠ x) : (s.setCtx t x k).ctx t y = s.ctx t y := by
  unfold State.ctx State.setCtx
  rw [State.fabT_setFab_same, sget_sset_other _ _ _ _ h]

theorem CtxOnly.setCtx {s u : State} {t x : Nat} (only : CtxOnly s u t x) (k : CtxSt) : CtxOnly s (u.setCtx t x k) t x := by
  obtain ⟨frame, tiles, tile, others⟩ := only
  refine ⟨?_, fun y hy => ?_, ?_, fun y hy => (State.ctx_setCtx_ne u k hy).trans (others y hy)⟩
  · unfold State.setCtx State.setFab
    rw [frame]
  · unfold State.setCtx
    rw [State.fabT_setFab_ne _ _ hy, tiles y hy]
  · unfold State.setCtx
    rw [State.fabT_setFab_same, tile]

theorem CtxOnly.refl (s : State) (t x : Nat) : CtxOnly s s t x := ⟨rfl, fun _ _ => rfl, rfl, fun _ _ => rfl⟩

/-! ### An instruction at the context's pc -/

section
variable {s : State} {t x w : Nat}

/-- A context goes on: its state becomes `k` at `pc`. -/
theorem SeqDoes.of_exec {i : Instr} {k : CtxSt} {pc : Nat} (done : exec i s = .next (s.setCtx t x (k.goto pc))) :
    SeqDoes s i t x k pc :=
  ⟨_, done, (CtxOnly.refl s t x).setCtx _, State.ctx_setCtx_same s t x _⟩

theorem seqGuard_next {legal : Bool} {u : State} (ht : t < 16) (hx : x < 6) (ok : legal = true) : seqGuard t x legal u = .next u := by
  unfold seqGuard
  rw [if_neg (by omega), if_pos ok]

theorem seqExec_clearing {causes : CtxSt → List Nat} {go : CtxSt → State} (runs : s.ctxRuns t x w = true)
    (clearing : s.inClearing (s.ctx t x).stand = true) : seqExec s t x w false causes go = s.seqRefuse t x 0x17 0x17 := by
  simp [seqExec, runs, clearing]

theorem seqExec_goes {ctl : Bool} {causes : CtxSt → List Nat} {go : CtxSt → State} (runs : s.ctxRuns t x w = true)
    (may : ctl = true ∨ s.inClearing (s.ctx t x).stand = false) (good : causes (s.ctx t x) = []) :
    seqExec s t x w ctl causes go = (go (s.ctx t x)).setCtx t x (((go (s.ctx t x)).ctx t x).goto ((s.ctx t x).pc + 1)) := by
  rcases may with may | may <;> simp [seqExec, runs, may, good]

/-- Both outcomes of an instruction that acts at the admitted edge. -/
theorem acts_at_edge {i : Instr} {legal : Bool} {causes : CtxSt → List Nat} {go : CtxSt → State} {a : EdgeAct} (ht : t < 16) (hx : x < 6)
    (ok : legal = true) (runs : s.ctxRuns t x w = true) (does : exec i s = seqGuard t x legal (seqExec s t x w false causes go))
    (acts : go (s.ctx t x) = s.later t x a) {P : Prop} (good : P → causes (s.ctx t x) = []) :
    (s.inClearing (s.ctx t x).stand = true → exec i s = .next (s.seqRefuse t x 0x17 0x17)) ∧
      (s.inClearing (s.ctx t x).stand = false → P → SeqDoes s i t x ((s.ctx t x).will a) ((s.ctx t x).pc + 1)) := by
  rw [does, seqGuard_next ht hx ok]
  refine ⟨fun clearing => by rw [seqExec_clearing runs clearing], fun may p => ?_⟩
  have goes := seqExec_goes (ctl := false) (go := go) runs (.inr may) (good p)
  rw [acts] at goes
  refine ⟨_, does.trans ((seqGuard_next ht hx ok).trans (congrArg _ goes)), ((CtxOnly.refl s t x).setCtx _).setCtx _, ?_⟩
  rw [State.ctx_setCtx_same]
  exact congrArg (CtxSt.goto · _) (State.ctx_setCtx_same s t x _)

/-- A note's two registers. -/
theorem noted_spec {s : State} {t x a b : Nat} {v n : Word} {pc : Nat} (apart : a ≠ b) :
    let u := ((s.setReg a v).setReg b n).setCtx t x (((((s.setReg a v).setReg b n)).ctx t x).goto pc)
    u.ctx t x = (s.ctx t x).goto pc ∧ u.reg a = v ∧ u.reg b = n ∧ u = { s with fab := u.fab, regs := u.regs } := by
  refine ⟨State.ctx_setCtx_same _ t x _, ?_, ?_, rfl⟩
  · show ((s.setReg a v).setReg b n).reg a = v
    rw [State.reg_setReg_ne _ _ apart, State.reg_setReg_same]
  · exact State.reg_setReg_same _ b n

end

/-! ### The instructions -/

section
variable {s : State} {t x : Nat} (ht : t < 16) (hx : x < 6)
include ht hx

theorem seqMcast_on {h : BitVec 3} {slot : BitVec 5} {mask : BitVec 16}
    (runs : s.ctxRuns t x (seqMcastWord h.toNat slot.toNat 1 mask.toNat) = true) :
    (s.inClearing (s.ctx t x).stand = true → exec (.seqMcast t x h slot true mask) s = .next (s.seqRefuse t x 0x17 0x17)) ∧
      (s.inClearing (s.ctx t x).stand = false → (s.slotOwner t h.toNat slot.toNat = some (s.ctx t x).stand ∧
          1 ≤ (maskTiles mask.toNat).length ∧ (maskTiles mask.toNat).length ≤ 4 ∧ natBit mask.toNat t = false ∧
          ∀ y ∈ maskTiles mask.toNat, y ∈ s.tilesOf (s.ctx t x).stand) →
        SeqDoes s (.seqMcast t x h slot true mask) t x ((s.ctx t x).will (.mcast h.toNat slot.toNat mask.toNat)) ((s.ctx t x).pc + 1)) := by
  refine acts_at_edge ht hx (Bool.true_or _) runs rfl rfl fun ⟨owner, some1, most4, other, tiles⟩ => ?_
  have inside : ((maskTiles mask.toNat).any fun u => !(s.tilesOf (s.ctx t x).stand).contains u) = false := by
    simpa using tiles
  simp only [owner, other, inside, if_true, bne_self_eq_false]
  rw [decide_eq_false (by omega), decide_eq_false (by omega)]
  rfl

theorem seqMcast_off {h : BitVec 3} {slot : BitVec 5} (runs : s.ctxRuns t x (seqMcastWord h.toNat slot.toNat 0 0) = true) :
    (s.inClearing (s.ctx t x).stand = true → exec (.seqMcast t x h slot false 0) s = .next (s.seqRefuse t x 0x17 0x17)) ∧
      (s.inClearing (s.ctx t x).stand = false → (s.slotOwner t h.toNat slot.toNat = some (s.ctx t x).stand ∧
          pdHeld s t (s.ctx t x).stand h.toNat slot.toNat = false) →
        SeqDoes s (.seqMcast t x h slot false 0) t x ((s.ctx t x).will (.mcast h.toNat slot.toNat 0)) ((s.ctx t x).pc + 1)) := by
  refine acts_at_edge ht hx (legal := false || (0 : BitVec 16) == 0) rfl runs rfl rfl fun ⟨owner, free⟩ => ?_
  simp [owner, free, cause]

theorem seqBind_send {e : BitVec 8} {mask : BitVec 6} {off : BitVec 21} {lines : BitVec 16} {ring : BitVec 2} (some_ : lines ≠ 0)
    (runs : s.ctxRuns t x (seqBindWord 0 e.toNat mask.toNat off.toNat lines.toNat ring.toNat) = true) :
    (s.inClearing (s.ctx t x).stand = true →
      exec (.seqBind t x false e mask off lines ring) s = .next (s.seqRefuse t x 0x17 0x17)) ∧
      (s.inClearing (s.ctx t x).stand = false → (s.slotOwner t (e.toNat / 32) (e.toNat % 32) = some (s.ctx t x).stand ∧
          bindBad s t (s.ctx t x).stand (decide (s.slotMask t (e.toNat / 32) (e.toNat % 32) ≠ 0)) false mask off.toNat lines.toNat
            ring.toNat = false) →
        SeqDoes s (.seqBind t x false e mask off lines ring) t x ((s.ctx t x).will
          (.bindSend e.toNat ⟨(s.stand (s.ctx t x).stand).beat, mask, off.toNat, lines.toNat, ring.toNat⟩)) ((s.ctx t x).pc + 1)) := by
  refine acts_at_edge ht hx (legal := lines != 0) (by simpa using some_) runs rfl rfl fun ⟨owner, good⟩ => ?_
  simpa [owner, cause] using good

theorem seqBind_recv {e : BitVec 8} {mask : BitVec 6} {off : BitVec 21} {lines : BitVec 16} {ring : BitVec 2} (some_ : lines ≠ 0)
    (runs : s.ctxRuns t x (seqBindWord 1 e.toNat mask.toNat off.toNat lines.toNat ring.toNat) = true) :
    (s.inClearing (s.ctx t x).stand = true →
      exec (.seqBind t x true e mask off lines ring) s = .next (s.seqRefuse t x 0x17 0x17)) ∧
      (s.inClearing (s.ctx t x).stand = false → (((s.ctx t x).circ e.toNat).isOpen = true ∧
          bindBad s t (s.ctx t x).stand (decide (s.slotMask ((s.ctx t x).circ e.toNat).src ((s.ctx t x).circ e.toNat).trunk
            ((s.ctx t x).circ e.toNat).slot ≠ 0)) true mask off.toNat lines.toNat ring.toNat = false) →
        SeqDoes s (.seqBind t x true e mask off lines ring) t x ((s.ctx t x).will
          (.bindRecv e.toNat ⟨(s.stand (s.ctx t x).stand).beat, mask, off.toNat, lines.toNat, ring.toNat⟩)) ((s.ctx t x).pc + 1)) := by
  refine acts_at_edge ht hx (legal := lines != 0) (by simpa using some_) runs rfl rfl fun ⟨isOpen, good⟩ => ?_
  simpa [isOpen, cause] using good

theorem seqWait_waits {rel : Bool} {v : BitVec 48} (runs : s.ctxRuns t x (seqWaitWord (boolNat rel) v.toNat) = true) :
    let beat := (s.stand (s.ctx t x).stand).beat
    let target := if rel then beat + v.setWidth 64 else v.setWidth 64
    (beat.toNat < target.toNat → ∃ u, exec (.seqWait t x rel v) s = .next u ∧ CtxOnly s u t x ∧
      u.ctx t x = { s.ctx t x with state := 3, wait := some target, pc := (s.ctx t x).pc + 1 }) ∧
      (target.toNat ≤ beat.toNat → SeqDoes s (.seqWait t x rel v) t x (s.ctx t x) ((s.ctx t x).pc + 1)) := by
  intro beat target
  have does : exec (.seqWait t x rel v) s = .next (if beat.toNat < target.toNat then
      s.setCtx t x { s.ctx t x with state := 3, wait := some target, pc := (s.ctx t x).pc + 1 }
      else s.setCtx t x ((s.ctx t x).goto ((s.ctx t x).pc + 1))) := by
    show execSeqWait t x rel v s = _
    unfold execSeqWait
    rw [seqGuard_next ht hx rfl, if_neg (by simp [runs])]
  refine ⟨fun later => ?_, fun due => SeqDoes.of_exec ?_⟩
  · rw [if_pos later] at does
    exact ⟨_, does, (CtxOnly.refl s t x).setCtx _, State.ctx_setCtx_same s t x _⟩
  · rw [does, if_neg (by omega)]

theorem seqLoop_turns {n : BitVec 2} {count target : BitVec 16} (some_ : count ≠ 0)
    (runs : s.ctxRuns t x (seqLoopWord n.toNat count.toNat target.toNat) = true) :
    let k := s.ctx t x
    let left := (if sget 0 k.cnt n.toNat = 0 then count.toNat else sget 0 k.cnt n.toNat) - 1
    SeqDoes s (.seqLoop t x n count target) t x { k with cnt := sset 0 k.cnt n.toNat left }
      (if 0 < left then target.toNat else k.pc + 1) := by
  intro k left
  refine SeqDoes.of_exec ?_
  show execSeqLoop t x n count target s = _
  unfold execSeqLoop
  rw [seqGuard_next ht hx (by simpa using some_), if_pos runs]
  refine congrArg (fun c => Host.Outcome.next (s.setCtx t x c)) ?_
  exact (apply_ite (CtxSt.goto _) _ _ _).symm

theorem seqNote_notes {v : BitVec 48} (runs : s.ctxRuns t x (seqNoteWord v.toNat) = true) :
    ∃ u, exec (.seqNote t x v) s = .next u ∧ u.ctx t x = (s.ctx t x).goto ((s.ctx t x).pc + 1) ∧
      u.reg (Reg.FAB_NOTE_VALUE t x) = v.setWidth 64 ∧ u.reg (Reg.FAB_NOTE_BEAT t x) = (s.stand (s.ctx t x).stand).beat ∧
      u = { s with fab := u.fab, regs := u.regs } := by
  have apart : Reg.FAB_NOTE_VALUE t x ≠ Reg.FAB_NOTE_BEAT t x := by unfold Reg.FAB_NOTE_VALUE Reg.FAB_NOTE_BEAT; omega
  have goes := seqExec_goes (ctl := true) (causes := fun _ => []) (go := fun k =>
    (s.setReg (Reg.FAB_NOTE_VALUE t x) (v.setWidth 64)).setReg (Reg.FAB_NOTE_BEAT t x) (s.stand k.stand).beat) runs (.inl rfl) rfl
  have does : exec (.seqNote t x v) s = .next _ := (seqGuard_next ht hx rfl).trans (congrArg _ goes)
  revert does apart
  generalize Reg.FAB_NOTE_VALUE t x = a
  generalize Reg.FAB_NOTE_BEAT t x = b
  exact fun apart does => ⟨_, does, noted_spec apart⟩

end

/-- Settles O35, an instruction at a time. -/
theorem sequencerInstructions : Obligations.SequencerInstructions := by
  intro s t x ht hx k i beat runs acts
  refine ⟨fun c run => ?_, fun h slot mask => ⟨seqMcast_on ht hx, seqMcast_off ht hx⟩,
    fun e mask off lines ring some_ => ⟨seqBind_send ht hx some_, seqBind_recv ht hx some_⟩,
    fun e => ⟨fun run => ?_, fun run => ?_⟩, fun rel v run => seqWait_waits ht hx run,
    fun n count target some_ run => seqLoop_turns ht hx some_ run, fun target run => SeqDoes.of_exec ?_, fun v run => seqNote_notes ht hx run⟩
  · exact acts_at_edge ht hx rfl run rfl rfl fun isOpen => by
      rw [show ((s.ctx t x).circ c.toNat).isOpen = true from isOpen]
      rfl
  · exact acts_at_edge ht hx rfl run rfl rfl fun sends => by
      rw [show (sget none (s.ctx t x).sends e.toNat).isNone = false by simpa using sends]
      rfl
  · exact acts_at_edge ht hx rfl run rfl rfl fun bound => by
      rw [show ((s.ctx t x).circ e.toNat).bind.isNone = false by simpa using bound]
      rfl
  · show execSeqJump t x target s = _
    unfold execSeqJump
    rw [seqGuard_next ht hx rfl, if_pos run]

end Sys2Proof.Machine

/-! PROOF. The laser_ilk loop's phases and the monitors (R306, R313 to R316). -/

namespace Sys2Proof.Machine

/-! ### Folds over registers -/

/-- What one step of a fold settles and the others keep holds after it. -/
theorem foldl_settles {α β : Type} {P : β → Prop} {f : β → α → β} {l : List α} {q : α} {b : β} (mem : q ∈ l)
    (settles : ∀ b, P (f b q)) (keeps : ∀ b, ∀ r ∈ l, r ≠ q → P b → P (f b r)) : P (l.foldl f b) := by
  have runs : ∀ l' : List α, (∀ r ∈ l', r ∈ l) → ∀ b, P b → P (l'.foldl f b) := by
    intro l'
    induction l' with
    | nil => exact fun _ b h => h
    | cons a l' ih =>
      intro sub b h
      refine ih (fun r hr => sub r (List.mem_cons_of_mem _ hr)) _ ?_
      by_cases e : a = q
      · exact e ▸ settles b
      · exact keeps b a (sub a List.mem_cons_self) e h
  obtain ⟨l1, l2, rfl⟩ := List.append_of_mem mem
  rw [List.foldl_append, List.foldl_cons]
  exact runs l2 (fun r hr => List.mem_append_right _ (List.mem_cons_of_mem _ hr)) _ (settles _)

/-- A fold that writes registers alone. -/
theorem foldl_regs {α : Type} {f : State → α → State} (l : List α) (s : State) (h : ∀ y a, f y a = { y with regs := (f y a).regs }) :
    l.foldl f s = { s with regs := (l.foldl f s).regs } :=
  foldl_invariant (P := fun y : State => y = { s with regs := y.regs }) rfl fun y a kept => by
    rw [h y a, kept]

/-- A fold that writes other registers. -/
theorem foldl_reg_ne {α : Type} {f : State → α → State} {l : List α} {s : State} {b : Nat}
    (h : ∀ y, ∀ a ∈ l, (f y a).reg b = y.reg b) : (l.foldl f s).reg b = s.reg b := by
  induction l generalizing s with
  | nil => rfl
  | cons a l ih =>
    rw [List.foldl_cons, ih fun y r hr => h y r (List.mem_cons_of_mem _ hr), h s a List.mem_cons_self]

theorem State.gf_of_reg {s u : State} {a : Nat} (h : u.reg a = s.reg a) (f : Fld) : u.gf a f = s.gf a f := by
  unfold State.gf; rw [h]

/-! ### The fibre inputs -/

/-- Every fibre input of the module. -/
def everyInput : List (Nat × Nat) := (upto 16).flatMap fun t => (upto 3).map fun k => (t, k)

theorem mem_everyInput {q : Nat × Nat} : q ∈ everyInput ↔ q.1 < 16 ∧ q.2 < 3 := by
  obtain ⟨t, k⟩ := q
  simp [everyInput, upto]

theorem Reg.OPT_FIBRE_inj {q r : Nat × Nat} (hq : q ∈ everyInput) (hr : r ∈ everyInput) (h : r ≠ q) :
    Reg.OPT_FIBRE q.1 q.2 ≠ Reg.OPT_FIBRE r.1 r.2 := by
  obtain ⟨-, hq⟩ := mem_everyInput.1 hq
  obtain ⟨-, hr⟩ := mem_everyInput.1 hr
  intro e
  refine h (Prod.ext ?_ ?_) <;> unfold Reg.OPT_FIBRE at e <;> omega

/-- A fold that sets a field of every input's register. -/
theorem everyInput_gf {f : State → Nat × Nat → State} {P : Nat × Nat → Word → Prop} (s : State)
    (sets : ∀ y q, q ∈ everyInput → P q ((f y q).reg (Reg.OPT_FIBRE q.1 q.2)))
    (keeps : ∀ y q b, b ≠ Reg.OPT_FIBRE q.1 q.2 → (f y q).reg b = y.reg b) {q : Nat × Nat} (hq : q ∈ everyInput) :
    P q ((everyInput.foldl f s).reg (Reg.OPT_FIBRE q.1 q.2)) :=
  foldl_settles (P := fun y : State => P q (y.reg (Reg.OPT_FIBRE q.1 q.2))) hq (fun y => sets y q hq)
    fun y r hr other kept => by
      rw [keeps y r _ (Reg.OPT_FIBRE_inj hq hr other)]
      exact kept

/-- No input's register is one of the module's own. -/
theorem Reg.OPT_FIBRE_far (q : Nat × Nat) {b : Nat} (h : b < 0x100000000) : b ≠ Reg.OPT_FIBRE q.1 q.2 := by
  unfold Reg.OPT_FIBRE; omega

theorem State.setTaps_reg (s : State) (taps : List Reading) {t k : Nat} (ht : t < 16) (hk : k < 3) :
    (s.setTaps taps).gf (Reg.OPT_FIBRE t k) Fld.OPT_FIBRE_tap = min (tapOf taps (t, k)) 1023 ∧
      (500 < tapOf taps (t, k) → (s.setTaps taps).gf (Reg.OPT_FIBRE t k) Fld.OPT_FIBRE_armed = 1) := by
  refine everyInput_gf (q := (t, k)) (P := fun q w => natBits w.toNat 0 10 = min (tapOf taps q) 1023 ∧
    (500 < tapOf taps q → natBits w.toNat 11 1 = 1)) s (fun y q _ => ?_) (fun y q b far => ?_) (mem_everyInput.2 ⟨ht, hk⟩)
  · have tap : (y.sf (Reg.OPT_FIBRE q.1 q.2) Fld.OPT_FIBRE_tap (min (tapOf taps q) 1023)).gf (Reg.OPT_FIBRE q.1 q.2) Fld.OPT_FIBRE_tap =
        min (tapOf taps q) 1023 := State.gf_sf_val (by decide) (Nat.lt_of_le_of_lt (Nat.min_le_right _ _) (by decide))
    simp only
    split
    · exact ⟨(State.gf_sf_apart (f := Fld.OPT_FIBRE_armed) (g := Fld.OPT_FIBRE_tap) (.inl (by decide)) (by decide)).trans tap,
        fun _ => State.gf_sf_val (f := Fld.OPT_FIBRE_armed) (by decide) (by decide)⟩
    · exact ⟨tap, fun c => absurd c ‹_›⟩
  · simp only
    split
    · rw [State.reg_sf_ne _ _ _ far, State.reg_sf_ne _ _ _ far]
    · rw [State.reg_sf_ne _ _ _ far]

/-! ### The pilot wait -/

/-- What a pilot wait's end shows in the registers. -/
def State.pilotsSeen (s : State) (conn : BitVec 3) (pilot : BitVec 48) : State :=
  everyInput.foldl (fun y q => y.sf (Reg.OPT_FIBRE q.1 q.2) Fld.OPT_FIBRE_pilot (boolNat (pilot.getLsbD (3 * q.1 + q.2))))
    (s.sf Reg.MGT_BOUNDARY Fld.MGT_BOUNDARY_fibre_conn conn.toNat)

section
variable {s : State} {conn : BitVec 3} {pilot : BitVec 48}

theorem State.pilotsSeen_regs : s.pilotsSeen conn pilot = { s with regs := (s.pilotsSeen conn pilot).regs } :=
  foldl_regs everyInput (s.sf Reg.MGT_BOUNDARY Fld.MGT_BOUNDARY_fibre_conn conn.toNat) fun _ _ => rfl

theorem State.pilotsSeen_far {b : Nat} (h : b < 0x100000000) :
    (s.pilotsSeen conn pilot).reg b = (s.sf Reg.MGT_BOUNDARY Fld.MGT_BOUNDARY_fibre_conn conn.toNat).reg b :=
  foldl_reg_ne fun y q _ => State.reg_sf_ne y _ _ (Reg.OPT_FIBRE_far q h)

theorem State.pilotsSeen_conn : (s.pilotsSeen conn pilot).gf Reg.MGT_BOUNDARY Fld.MGT_BOUNDARY_fibre_conn = conn.toNat :=
  (State.gf_of_reg (State.pilotsSeen_far (by decide)) _).trans (State.gf_sf_val (by decide) conn.isLt)

theorem State.pilotsSeen_phase : (s.pilotsSeen conn pilot).ilkPhase = s.ilkPhase :=
  (State.gf_of_reg (State.pilotsSeen_far (by decide)) _).trans (State.gf_sf_ne _ _ _ _ (by decide))

theorem State.pilotsSeen_pilot {t k : Nat} (ht : t < 16) (hk : k < 3) :
    (s.pilotsSeen conn pilot).gf (Reg.OPT_FIBRE t k) Fld.OPT_FIBRE_pilot = boolNat (pilot.getLsbD (3 * t + k)) :=
  everyInput_gf (q := (t, k)) (P := fun q w => natBits w.toNat 12 1 = boolNat (pilot.getLsbD (3 * q.1 + q.2))) _
    (fun y q _ => State.gf_sf_val (f := Fld.OPT_FIBRE_pilot) (by decide) (by cases pilot.getLsbD (3 * q.1 + q.2) <;> decide))
    (fun y q b far => State.reg_sf_ne y _ _ far) (mem_everyInput.2 ⟨ht, hk⟩)

/-- The conditions of R314. -/
def State.mayClose (s : State) (conn : BitVec 3) (pilot : BitVec 48) : Prop :=
  s.gf Reg.MGT_BOUNDARY Fld.MGT_BOUNDARY_therm_trip = 0 ∧
    (∀ k < 3, natBit (s.gf Reg.OPT_ILK_CTL Fld.OPT_ILK_CTL_conn_retired) k = true ∨ conn.getLsbD k = true) ∧
    ∀ q ∈ s.inputs, pilot.getLsbD (3 * q.1 + q.2) = true

/-- The end of the pilot wait: the ramp begins exactly where the loop may close. -/
theorem ilkClose_spec (phase : s.ilkPhase = 2) :
    (s.mayClose conn pilot ∧ execIlkClose conn pilot s = .next (((s.pilotsSeen conn pilot).setIlkPhase 3).sf Reg.MGT_BOUNDARY
      Fld.MGT_BOUNDARY_ilk_closed 1)) ∨ (¬s.mayClose conn pilot ∧ execIlkClose conn pilot s = .next (s.pilotsSeen conn pilot)) := by
  have cond : (s.ilkPhase = 2 ∧ ((upto 3).all fun k => natBit (s.gf Reg.OPT_ILK_CTL Fld.OPT_ILK_CTL_conn_retired) k || conn.getLsbD k) = true ∧
      (s.inputs.all fun q => pilot.getLsbD (3 * q.1 + q.2)) = true ∧ s.gf Reg.MGT_BOUNDARY Fld.MGT_BOUNDARY_therm_trip = 0) ↔
      s.mayClose conn pilot := by
    simp only [phase, true_and, State.mayClose, List.all_eq_true, upto, List.mem_range, Bool.or_eq_true]
    tauto
  unfold execIlkClose
  by_cases may : s.mayClose conn pilot
  · exact .inl ⟨may, if_pos (cond.2 may)⟩
  · exact .inr ⟨may, if_neg fun c => may (cond.1 c)⟩

end

/-- A field's change keeps all but the registers. -/
theorem State.sf_frame {s y : State} (h : y = { s with regs := y.regs }) (a : Nat) (f : Fld) (v : Nat) :
    y.sf a f v = { s with regs := (y.sf a f v).regs } := by
  generalize y.regs = r at h
  subst h
  rfl

theorem ilkClose_closes {s : State} (conn : BitVec 3) (pilot : BitVec 48) (phase : s.ilkPhase = 2) :
    ∃ u, exec (.ilkClose conn pilot) s = .next u ∧ u = { s with regs := u.regs } ∧
      u.gf Reg.MGT_BOUNDARY Fld.MGT_BOUNDARY_fibre_conn = conn.toNat ∧
      (∀ t < 16, ∀ k < 3, u.gf (Reg.OPT_FIBRE t k) Fld.OPT_FIBRE_pilot = boolNat (pilot.getLsbD (3 * t + k))) ∧
      (u.ilkPhase = 3 ↔ s.mayClose conn pilot) ∧ (u.ilkPhase = 3 → u.gf Reg.MGT_BOUNDARY Fld.MGT_BOUNDARY_ilk_closed = 1) := by
  obtain ⟨may, next⟩ | ⟨not, next⟩ := ilkClose_spec phase
  · refine ⟨_, next, ?_, ?_, fun t ht k hk => ?_, ⟨fun _ => may, fun _ => ?_⟩, fun _ => State.gf_sf_val (by decide) (by decide)⟩
    · exact State.sf_frame (State.sf_frame State.pilotsSeen_regs ..) ..
    · exact (State.gf_sf_apart (by decide) (by decide)).trans ((State.gf_sf_ne _ _ _ _ (by decide)).trans State.pilotsSeen_conn)
    · have far (b : Nat) (hb : b < 0x100000000) : Reg.OPT_FIBRE t k ≠ b := (Reg.OPT_FIBRE_far (t, k) hb).symm
      exact (State.gf_sf_ne _ _ _ _ (far _ (by decide))).trans ((State.gf_sf_ne _ _ _ _ (far _ (by decide))).trans
        (State.pilotsSeen_pilot ht hk))
    · exact (State.gf_sf_ne _ _ _ _ (by decide)).trans (State.gf_sf_val (by decide) (by decide))
  · have waits : (s.pilotsSeen conn pilot).ilkPhase ≠ 3 := by rw [State.pilotsSeen_phase, phase]; decide
    exact ⟨_, next, State.pilotsSeen_regs, State.pilotsSeen_conn, fun t ht k hk => State.pilotsSeen_pilot ht hk,
      ⟨fun c => absurd c waits, fun c => absurd c not⟩, fun c => absurd c waits⟩

/-! ### The monitors -/

/-- A reading that was started is done. -/
theorem monitorReadingDone_spec {s : State} {t : Nat} {v : Reading} (ht : t < 16) {r : BitVec 15} (started : (s.fabT t).reading = some r) :
    ∃ u, exec (.monitorReadingDone t v) s = .next u ∧ (u.fabT t).reading = none ∧
      u.gf (Reg.OPT_MON_DATA t) Fld.OPT_MON_DATA_value = v.toNat % 2 ^ Fld.OPT_MON_DATA_value.w ∧
      u.gf (Reg.OPT_MON_DATA t) Fld.OPT_MON_DATA_done = 1 ∧
      u.gf (Reg.OPT_MON_DATA t) Fld.OPT_MON_DATA_stale = boolNat (match monConv r.toNat with
        | some c => s.trimStale t c
        | none => false) ∧ u = { s with regs := u.regs, fab := u.fab } ∧ ∀ b, b ≠ Reg.OPT_MON_DATA t → u.reg b = s.reg b := by
  have done : exec (.monitorReadingDone t v) s = .next ((((s.sf (Reg.OPT_MON_DATA t) Fld.OPT_MON_DATA_value v.toNat).sf
      (Reg.OPT_MON_DATA t) Fld.OPT_MON_DATA_done 1).sf (Reg.OPT_MON_DATA t) Fld.OPT_MON_DATA_stale
        (boolNat (match monConv r.toNat with
        | some c => s.trimStale t c
        | none => false))).setFab t { s.fabT t with reading := none }) := by
    show execMonitorReadingDone t v s = _
    unfold execMonitorReadingDone
    rw [if_neg (by omega), started]
    all_goals rfl
  generalize (match monConv r.toNat with
        | some c => s.trimStale t c
        | none => false) = stale at done ⊢
  generalize Reg.OPT_MON_DATA t = a at done ⊢
  refine ⟨_, done, ?_, ?_, ?_, ?_, ?_, fun b hb => ?_⟩
  · rw [State.fabT_setFab_same]
  · rw [State.gf_setFab, State.gf_sf_apart (.inl (by decide)) (by decide), State.gf_sf_apart (.inl (by decide)) (by decide),
      State.gf_sf_same _ _ _ _ (by decide)]
  · rw [State.gf_setFab, State.gf_sf_apart (.inl (by decide)) (by decide), State.gf_sf_val (by decide) (by decide)]
  · rw [State.gf_setFab, State.gf_sf_val (by decide) (by cases stale <;> decide)]
  · unfold State.setFab State.sf State.setReg
    rfl
  · rw [State.reg_setFab, State.reg_sf_ne _ _ _ hb, State.reg_sf_ne _ _ _ hb, State.reg_sf_ne _ _ _ hb]

/-- Settles O39: the loop's commands unfolded in the phase that each asks for. -/
theorem laserLoopAndMonitors : Obligations.LaserLoopAndMonitors := by
  refine ⟨fun s p conn pilot taps => ?_, fun s p t v ht => ⟨fun served => ?_, fun r started => monitorReadingDone_spec ht started⟩⟩
  · intro st full
    refine ⟨fun served => ⟨?_, fun phase => ?_⟩, ilkClose_closes conn pilot,
      fun phase => ⟨?_, ?_, fun t ht k hk => s.setTaps_reg taps ht hk⟩, fun phase => if_neg (fun c => c phase)⟩
    · show execIlkOpenRequest p s = _
      rw [execIlkOpenRequest, State.hostWrite_served served]
      rfl
    · show execCloseReq p s = _
      rw [execCloseReq, State.hostWrite_served served, if_pos phase]
      rfl
    · show execFullPowerReached taps s = _
      unfold execFullPowerReached
      rw [if_neg fun c => c phase]
      exact (apply_ite Host.Outcome.next _ _ _).symm
    · show execRampTimeout taps s = _
      unfold execRampTimeout
      rw [if_neg fun c => c phase]
      exact (apply_ite Host.Outcome.next _ _ _).symm
  · show execMonitorReading p t s = _
    rw [execMonitorReading, if_neg (by omega), State.hostWrite_served served]
    rfl

end Sys2Proof.Machine

/-! PROOF. Resets, D-states, messages and the link states of a port (R394, R397, R406, R411, R412, R415). -/

namespace Sys2Proof.Machine

/-! ### What a port's interrupts leave of the other port -/

section
variable {p q : Nat} (other : q ≠ p)
include other

theorem State.port_request_ne (s : State) (v : Nat) : (s.request p v).port q = s.port q := by
  unfold State.request
  split
  · rfl
  · exact State.port_setPort_ne _ _ other

theorem State.port_modCauseOn_ne (s : State) (b : Nat) : (s.modCauseOn p b).port q = s.port q := by
  unfold State.modCauseOn State.sfBit
  dsimp only
  split
  · rfl
  · split
    · rw [State.port_request_ne other]
      rfl
    · rfl

end

theorem State.portReset_port (s : State) {p : Nat} (hp : p < 2) (held : Bool) :
    (s.portReset p held).port p = { PortSt.zero with inReset := held, cfgReady := !held && (s.port p).cfgReady } :=
  (State.port_modCauseOn_ne (by omega) _ _).trans (State.port_setPort_same _ _ _)

/-! ### Pending vectors -/

section
variable {s : State} {p v : Nat}

theorem State.sendPending_idle (h : sget false (s.port p).pba v = false ∨ (s.port p).canSend v = false) : s.sendPending p v = s := by
  rcases h with h | h <;> simp [State.sendPending, h]

theorem State.sendPending_sends (pending : sget false (s.port p).pba v = true) (asks : s.requested p v = true)
    (can : (s.port p).canSend v = true) :
    s.sendPending p v = (s.setPort p { s.port p with pba := sset false (s.port p).pba v false }).emit (.msix p v) := by
  simp [State.sendPending, pending, asks, can]

/-- What sending the pending vectors does where `v` alone is pending. -/
theorem sendPending_foldl {x : PortSt} (pba : x.pba = [(v, true)]) (asks : s.requested p v = true) (can : x.canSend v = true)
    (at_ : s.port p = x) (hv : v < 160) :
    (upto 160).foldl (fun y w => y.sendPending p w) s = (s.setPort p { x with pba := [] }).emit (.msix p v) := by
  have sends : s.sendPending p v = (s.setPort p { x with pba := [] }).emit (.msix p v) := by
    rw [State.sendPending_sends (by rw [at_, pba]; simp [sget]) asks (at_ ▸ can), at_, pba]
    simp [sset, sdel]
  have sent : ∀ w, ((s.setPort p { x with pba := [] }).emit (.msix p v)).sendPending p w =
      (s.setPort p { x with pba := [] }).emit (.msix p v) := fun w => State.sendPending_idle (.inl (by
    show sget false ((s.setPort p { x with pba := [] }).port p).pba w = false
    rw [State.port_setPort_same]
    rfl))
  have before : ∀ l : List Nat, v ∈ l →
      l.foldl (fun y w => y.sendPending p w) s = (s.setPort p { x with pba := [] }).emit (.msix p v) := by
    intro l
    induction l with
    | nil => simp
    | cons w l ih =>
      intro mem
      by_cases hw : w = v
      · subst hw
        rw [List.foldl_cons, sends]
        exact foldl_eq_self fun k _ => sent k
      · have idle : s.sendPending p w = s := State.sendPending_idle (.inl (by rw [at_, pba]; simpa [sget] using hw))
        rw [List.foldl_cons, idle]
        exact ih ((List.mem_cons.1 mem).resolve_left (Ne.symm hw))
  exact before _ (List.mem_range.2 hv)

end

/-! ### A port's resets and its cable -/

section
variable {s : State} {p : Nat} (hp : p < 2)
include hp

theorem perstAssert_resets (power : s.power = true) (up : (s.port p).inReset = false) :
    exec (.perstAssert p) s = .next (s.portReset p true) := by
  show execPerstAssert p s = _
  rw [execPerstAssert, if_neg (by omega), if_pos power, State.assertPerst, up]
  rfl

theorem cablePresenceChange_changes (power : s.power = true) {present : Bool}
    (change : s.gf Reg.MGT_BOUNDARY (cableFld p) ≠ boolNat present) :
    exec (.cablePresenceChange p present) s =
      .next ((if present then s.sf Reg.MGT_BOUNDARY (cableFld p) (boolNat present)
        else (s.sf Reg.MGT_BOUNDARY (cableFld p) (boolNat present)).assertPerst p).modCauseOn (1 - p) 18) := by
  show execCablePresenceChange p present s = _
  rw [execCablePresenceChange, if_neg (by omega), if_neg (by simp [power, change])]

theorem hotReset_resets (up : s.portUp p = true) : exec (.hotReset p) s = .next (s.portReset p false) := by
  show execHotReset p s = _
  rw [execHotReset, if_neg (by omega), if_pos up]

theorem pcieLinkDown_resets (up : s.portUp p = true) : exec (.pcieLinkDown p) s = .next (s.portReset p false) := by
  show execPcieLinkDown p s = _
  rw [execPcieLinkDown, if_neg (by omega), if_pos up]

end

theorem State.port_standbyMeasure (s : State) (p : Nat) : s.standbyMeasure.port p = s.port p := by
  unfold State.standbyMeasure
  split <;> rfl

theorem State.refs_standbyMeasure (s : State) (f : Fld) : s.standbyMeasure.refs f = s.refs f := by
  unfold State.standbyMeasure State.refs State.standby
  split
  · exact State.gf_sf_ne _ _ _ _ (by decide)
  · exact State.gf_sf_ne _ _ _ _ (by decide)

/-- A reference's coming shows, and is measured where it is the unselected one. -/
def State.refComes (s : State) (p : Nat) : State :=
  if p ≠ s.refSel ∧ s.refs (presentFld p) = 0 then (s.sf Reg.CLK_REF_STATUS (presentFld p) 1).standbyMeasure
  else s.sf Reg.CLK_REF_STATUS (presentFld p) 1

theorem State.port_refComes (s : State) (p : Nat) : (s.refComes p).port p = s.port p := by
  unfold State.refComes
  split
  · rw [State.port_standbyMeasure]; rfl
  · rfl

theorem State.refs_refComes (s : State) {p : Nat} (hp : p < 2) : (s.refComes p).refs (presentFld p) = 1 := by
  have shows : (s.sf Reg.CLK_REF_STATUS (presentFld p) 1).refs (presentFld p) = 1 := by
    have : p = 0 ∨ p = 1 := by omega
    rcases this with rfl | rfl <;> exact State.gf_sf_val (by decide) (by decide)
  unfold State.refComes
  split
  · rw [State.refs_standbyMeasure, shows]
  · exact shows

section
variable {s : State} {p : Nat} (hp : p < 2) (power : s.power = true) (down : s.portUp p = false)
  (cable : s.gf Reg.MGT_BOUNDARY (cableFld p) = 1) (cfg : PortCfg)
include hp power down cable

theorem perstDeassert_waits (absent : s.refs (presentFld p) = 0) :
    exec (.perstDeassert p false cfg) s = .next (s.setPort p { s.port p with inReset := false }) := by
  show execPerstDeassert p false cfg s = _
  rw [execPerstDeassert, if_neg (by omega), if_neg (by simp [power, down, cable])]
  simp [absent]

theorem perstDeassert_trains : exec (.perstDeassert p true cfg) s =
    .next (if cfg.flit = true then ((s.refComes p).setPort p
          { s.port p with inReset := false, cfgReady := true, busMaster := cfg.bme, mps := cfg.mps, mrrs := cfg.mrrs, msixEnable := cfg.msix, funcMask := cfg.fmask }).writes
            [(Reg.HIF_LINK p, Fld.HIF_LINK_state, 2), (Reg.HIF_LINK p, Fld.HIF_LINK_speed, min cfg.speed.toNat 5),
             (Reg.HIF_LINK p, Fld.HIF_LINK_width, cfg.width.toNat), (Reg.HIF_LINK p, Fld.HIF_LINK_l0p_width, cfg.width.toNat)]
      else ((s.refComes p).setPort p { s.port p with inReset := false }).sf (Reg.HIF_LINK p) Fld.HIF_LINK_state 6) := by
  show execPerstDeassert p true cfg s = _
  rw [execPerstDeassert, if_neg (by omega), if_neg (by simp [power, down, cable])]
  have comes : (if true = true ∧ p ≠ s.refSel ∧ s.refs (presentFld p) = 0
      then (if true = true then s.setRefs (presentFld p) 1 else s).standbyMeasure
      else (if true = true then s.setRefs (presentFld p) 1 else s)) = s.refComes p := by
    simp only [true_and, if_true]
    rfl
  dsimp only
  rw [comes, if_neg (by rw [s.refs_refComes hp]; decide), s.port_refComes]
  cases cfg.flit <;> rfl

end

/-- A port's configuration as its host leaves it. -/
def PortSt.configured (x : PortSt) (cfg : PortCfg) : PortSt :=
  { x with busMaster := cfg.bme, mps := cfg.mps, mrrs := cfg.mrrs, msixEnable := cfg.msix, funcMask := cfg.fmask }

/-! ### Power states, pending messages and link states -/

section
variable {s : State} {p : Nat} (hp : p < 2) (up : s.portUp p = true)
include hp up

theorem d3hotEntry_enters : exec (.d3hotEntry p) s = .next (s.setPort p { s.port p with d3 := true }) := by
  show execD3hotEntry p s = _
  rw [execD3hotEntry, if_neg (by omega), if_pos up]

theorem d0Return_sends : exec (.d0Return p) s =
    .next ((upto 160).foldl (fun y v => y.sendPending p v) (s.setPort p { s.port p with d3 := false })) := by
  show execD0Return p s = _
  rw [execD0Return, if_neg (by omega), if_neg (by simp [up])]

theorem d0Return_quiet (none_ : ∀ v < 160, sget false (s.port p).pba v = false) :
    exec (.d0Return p) s = .next (s.setPort p { s.port p with d3 := false }) := by
  rw [d0Return_sends hp up]
  exact congrArg _ (foldl_eq_self fun v hv => State.sendPending_idle (.inl (by
    rw [State.port_setPort_same]; exact none_ v (List.mem_range.1 hv))))

theorem d0Return_message {v : Nat} (hv : v < 160) (pba : (s.port p).pba = [(v, true)]) (asks : s.requested p v = true)
    (can : ({ s.port p with d3 := false } : PortSt).canSend v = true) :
    ∃ u, exec (.d0Return p) s = .next u ∧ u.out = s.out ++ [.msix p v] ∧ u.port p = { s.port p with d3 := false, pba := [] } ∧
      u = { s with ports := u.ports, out := u.out } := by
  have sent := sendPending_foldl (s := s.setPort p { s.port p with d3 := false }) (p := p) (x := { s.port p with d3 := false }) pba asks can
    (State.port_setPort_same _ _ _) hv
  refine ⟨_, d0Return_sends hp up, ?_⟩
  rw [sent]
  exact ⟨rfl, State.port_setPort_same _ _ _, rfl⟩

theorem msixPendingSend_tries {v : Nat} (hv : v < 160) (cfg : PortCfg) : exec (.msixPendingSend p v cfg) s =
    .next ((s.setPort p ((s.port p).configured cfg)).sendPending p v) := by
  show execMsixPendingSend p v cfg s = _
  rw [execMsixPendingSend, if_neg (by omega), if_neg (by simp [up])]
  rfl

end

theorem State.l0pMay_iff (s : State) (p w : Nat) : s.l0pMay p w = true ↔
    s.gf (Reg.HIF_PM_CFG p) Fld.HIF_PM_CFG_l0p_en = 1 ∧ w ∈ [1, 2, 4, 8] ∧ w < s.gf (Reg.HIF_LINK p) Fld.HIF_LINK_width ∧
      8 ≤ w * 2 ^ s.gf (Reg.HIF_PM_CFG p) Fld.HIF_PM_CFG_l0p_min := by
  simp only [State.l0pMay, Bool.and_eq_true, beq_iff_eq, decide_eq_true_eq, List.contains_iff_mem, and_assoc]

/-- The states from which a link may move so, the state it then is in, and its width. -/
def State.linkMove (s : State) (p : Nat) : LinkMove → List Nat × Nat × Nat
  | .l1 => ([2, 3], 4, s.gf (Reg.HIF_LINK p) Fld.HIF_LINK_width)
  | .l0 => ([1, 3, 4, 5], 2, s.gf (Reg.HIF_LINK p) Fld.HIF_LINK_width)
  | .l0p w => if s.l0pMay p w then ([2, 3], 3, w) else ([], 0, 0)
  | .training => ([5], 1, s.gf (Reg.HIF_LINK p) Fld.HIF_LINK_width)
  | .recovery => ([2, 3, 4], 5, s.gf (Reg.HIF_LINK p) Fld.HIF_LINK_width)

section
variable {s : State} {p : Nat} (hp : p < 2) (up : s.portUp p = true)
include hp up

theorem aspmL1Transition_spec (m : LinkMove) : exec (.aspmL1Transition p m) s =
    .next (if s.gf (Reg.HIF_LINK p) Fld.HIF_LINK_state ∈ (s.linkMove p m).1 then
      s.writes [(Reg.HIF_LINK p, Fld.HIF_LINK_state, (s.linkMove p m).2.1), (Reg.HIF_LINK p, Fld.HIF_LINK_l0p_width, (s.linkMove p m).2.2)]
    else s) := by
  show execAspmL1Transition p m s = _
  rw [execAspmL1Transition, if_neg (by omega), if_neg (by simp [up])]
  cases m with
  | l0p w => cases may : s.l0pMay p w <;> simp [State.linkMove, may, State.writes]
  | l1 | l0 | training | recovery => simp [State.linkMove, State.writes]

theorem linkMoves (m : LinkMove) {froms : List Nat} {n w : Nat} (is : s.linkMove p m = (froms, n, w)) :
    (s.gf (Reg.HIF_LINK p) Fld.HIF_LINK_state ∈ froms → exec (.aspmL1Transition p m) s =
      .next (s.writes [(Reg.HIF_LINK p, Fld.HIF_LINK_state, n), (Reg.HIF_LINK p, Fld.HIF_LINK_l0p_width, w)])) ∧
    (s.gf (Reg.HIF_LINK p) Fld.HIF_LINK_state ∉ froms → exec (.aspmL1Transition p m) s = .next s) := by
  rw [aspmL1Transition_spec hp up, is]
  exact ⟨fun h => congrArg _ (if_pos h), fun h => congrArg _ (if_neg h)⟩

theorem aspmL1Transition_refused {w : Nat} (not : ¬s.l0pMay p w = true) : exec (.aspmL1Transition p (.l0p w)) s = .next s :=
  (linkMoves hp up (.l0p w) (if_neg not)).2 List.not_mem_nil

end

/-- Settles O46: each reset unfolded, the pending vectors by their fold. -/
theorem portResetsAndPower : Obligations.PortResetsAndPower := by
  refine ⟨fun s p hp => ⟨fun held => s.portReset_port hp held, fun power => ⟨perstAssert_resets hp power,
      fun present change => cablePresenceChange_changes hp power change, ?_⟩,
      fun up => ⟨hotReset_resets hp up, pcieLinkDown_resets hp up⟩⟩, fun s p hp up => ?_⟩
  · intro cfg down cable s0 s1 l x
    refine ⟨perstDeassert_waits hp power down cable cfg, fun flit => ?_, fun flit => ?_⟩
    · rw [perstDeassert_trains hp power down cable cfg, flit]; rfl
    · rw [perstDeassert_trains hp power down cable cfg, flit]; rfl
  · intro x l
    refine ⟨d3hotEntry_enters hp up, d0Return_quiet hp up, fun v hv pba asks can => d0Return_message hp up hv pba asks can,
      fun v cfg hv => ⟨fun pending asks can => ?_, fun idle => ?_⟩, ?_⟩
    · have sends := State.sendPending_sends (s := s.setPort p ((s.port p).configured cfg)) (p := p) (v := v)
        (by rw [State.port_setPort_same]; exact pending) asks (by rw [State.port_setPort_same]; exact can)
      rw [State.port_setPort_same] at sends
      refine ⟨_, msixPendingSend_tries hp up hv cfg, ?_⟩
      rw [sends]
      have port (y : State) (z : PortSt) : ((y.setPort p z).emit (.msix p v)).port p = z := State.port_setPort_same y p z
      rw [port]
      exact ⟨rfl, rfl, sget_sset_same false _ v false, fun w hw => sget_sset_other false false _ false hw, rfl⟩
    · rw [msixPendingSend_tries hp up hv, State.sendPending_idle (by rw [State.port_setPort_same]; exact idle)]
      rfl
    · exact ⟨linkMoves hp up .l1 rfl, linkMoves hp up .l0 rfl, linkMoves hp up .training rfl, linkMoves hp up .recovery rfl,
        fun w => ⟨fun may => linkMoves hp up (.l0p w) (if_pos ((s.l0pMay_iff p w).2 may)),
          fun not => aspmL1Transition_refused hp up fun c => not ((s.l0pMay_iff p w).1 c)⟩⟩

end Sys2Proof.Machine

/-! PROOF. What the module answers over MCTP, DOE and SPDM (R413, R508, R510 to R513). -/

namespace Sys2Proof.Machine

/-! ### The certificate chain of manufacture -/

theorem lastRec_append_ne {l m : List NvRec} {kind key : Nat} (h : ∀ r ∈ m, r.kind ≠ kind) :
    lastRec (l ++ m) kind key = lastRec l kind key := by
  have none_ : m.filter (fun r => r.kind == kind && r.key == key) = [] := by
    rw [List.filter_eq_nil_iff]
    intro r hr
    simp [h r hr]
  rw [lastRec, lastRec, List.filter_append, none_, List.append_nil]

theorem factory_records : State.reset.records = factoryLog.zipIdx.map fun q => ⟨q.1.1, q.1.2.1, q.2 + 2, q.1.2.2⟩ := by
  have bank : NvCopy.factory.bank = 0 := by rfl
  show ((if NvCopy.factory.ok then NvCopy.factory else NvCopy.factory).scan []).recs = _
  rw [ite_self, NvCopy.scan, if_pos ⟨by unfold NvCopy.cur; rw [bank]; rfl, rfl⟩, NvCopy.recs, NvCopy.cur, bank]
  rfl

theorem factory_payload {k : Nat} (hk : k < 3) : State.reset.payload 0xB k = factoryCert k := by
  rw [State.payload, factory_records]
  have : k = 0 ∨ k = 1 ∨ k = 2 := by omega
  rcases this with rfl | rfl | rfl <;> rfl

theorem reset_chain : State.reset.chain = (certOf 0 (Config.caBody 0) ++ certOf 0 (Config.caBody 1) ++
    certOf 1 (Config.deviceBody partNumber Config.serial (Config.publicKey Config.identityKey))).map (·.toNat) := by
  have cert {k : Nat} (hk : k < 3) : State.reset.cert k = (factoryCert k).map (·.toNat) := by
    rw [State.cert, factory_payload hk]
  have whole : State.reset.chain = State.reset.cert 0 ++ (State.reset.cert 1 ++ (State.reset.cert 2 ++ [])) := rfl
  rw [whole, cert (by decide), cert (by decide), cert (by decide)]
  simp [factoryCert, deviceCert]

/-! ### While a controller takes over -/

/-- A request that comes while a management controller takes over waits. -/
theorem waits_of_managed {s : State} {i : Instr} {q : MgmtReq} {k : State → State} (taking : s.takingOver = true)
    (is : exec i s = .next (s.managed q k)) : exec i s = .next { s with mgmtWait := s.mgmtWait ++ [q] } := by
  rw [is, State.managed_taking taking]

section
variable {s : State} {v : Via} (up : s.answers v.p = true)
include up

/-! ### While the device is up -/

theorem State.respond_answers (protocol units : Nat) (fields : List Nat) :
    s.respond v.p protocol units fields = s.emit (.reply v.p protocol units fields) := if_pos up

theorem State.spdm_answers (n : Nat) (fields : List Nat) :
    s.spdm v n fields = s.emit (.reply v.p 5 (if v.mctp then (n + 64) / 64 else 0) fields) := by
  rw [State.spdm, State.respond_answers up]
  rfl

end

theorem State.takeKey_answers {s : State} {p : Nat} : s.takeKey.2.answers p = s.answers p := rfl

section
variable {s : State} {v : Via} (hp : v.p < 2) (free : s.takingOver = false)
include hp

theorem doeDiscovery_answers (up : s.answers v.p = true) (index : Byte) : exec (.doeDiscovery v.p index) s =
    .next (s.emit (.reply v.p 1 0 (if index = 0 then [1, 0, 1] else if index = 1 then [1, 1, 0] else [0xFFFF, 0xFF, 0]))) := by
  show execDoeDiscovery v.p index s = _
  rw [execDoeDiscovery, if_neg (by omega), State.respond_answers up]

include free

theorem setEndpointId_sets (up : s.answers v.p = true) {eid : Byte} (h0 : eid ≠ 0) (h1 : eid ≠ 0xFF) : exec (.setEndpointId v.p eid) s =
    .next ((s.setPort v.p { s.port v.p with eid := eid }).emit (.reply v.p 0 1 [0, 0, eid.toNat, 0])) := by
  have same : (s.setPort v.p { s.port v.p with eid := eid }).answers v.p = true := by
    rw [State.answers, State.portUp, State.port_setPort_same]
    exact up
  show execSetEndpointId v.p eid s = _
  rw [execSetEndpointId, if_neg (by omega), State.managed_free free, if_neg (by simp [up]), if_neg fun c => c.elim h0 h1,
    State.respond_answers same]

theorem setEndpointId_refuses (up : s.answers v.p = true) : exec (.setEndpointId v.p 0) s = .next (s.emit (.reply v.p 0 1 [2])) := by
  show execSetEndpointId v.p 0 s = _
  rw [execSetEndpointId, if_neg (by omega), State.managed_free free, if_neg (by simp [up]), if_pos (.inl rfl), State.respond_answers up]

theorem mctpUnsupportedType_answers (up : s.answers v.p = true) {ty : Byte} (h0 : ty ≠ 0) (h5 : ty ≠ 5) :
    exec (.mctpUnsupportedType v.p ty) s = .next (s.emit (.reply v.p 0 1 [ty.toNat, 5])) := by
  show execMctpUnsupportedType v.p ty s = _
  rw [execMctpUnsupportedType, if_neg (by omega), State.managed_free free, if_neg fun c => c.elim h0 h5, State.respond_answers up]

theorem getVersion_answers : exec (.getVersion v) s = .next (s.spdm v 10 [0x04, 0x12, 0x13]) := by
  show execGetVersion v s = _
  rw [execGetVersion, if_neg (by omega), State.managed_free free]

theorem getCapabilities_answers : exec (.getCapabilities v) s = .next (s.spdm v 20 [0x61, 0x16]) := by
  show execGetCapabilities v s = _
  rw [execGetCapabilities, if_neg (by omega), State.managed_free free]

theorem negotiateAlgorithms_answers (sm2 sm3 : Bool) : exec (.negotiateAlgorithms v sm2 sm3) s =
    .next (s.spdm v 36 [0x63, boolNat sm2, boolNat sm3]) := by
  show execNegotiateAlgorithms v sm2 sm3 s = _
  rw [execNegotiateAlgorithms, if_neg (by omega), State.managed_free free]

theorem getCertificate_reads {off : Nat} (n : Nat) (ho : off ≤ s.chain.length) :
    exec (.getCertificate v 0 off n) s = .next (s.spdm v
      (8 + ((s.chain.drop off).take (if v.mctp then n else min n 16368)).length)
      ([0x02, 0, ((s.chain.drop off).take (if v.mctp then n else min n 16368)).length,
        s.chain.length - off - ((s.chain.drop off).take (if v.mctp then n else min n 16368)).length] ++
          (s.chain.drop off).take (if v.mctp then n else min n 16368))) := by
  show execGetCertificate v 0 off n s = _
  rw [execGetCertificate, if_neg (by omega), State.managed_free free, if_neg (by omega)]
  rfl

theorem getCertificate_refuses {slot off : Nat} (n : Nat) (h : slot ≠ 0 ∨ s.chain.length < off) :
    exec (.getCertificate v slot off n) s = .next (s.spdm v 4 [0x7F, 1]) := by
  show execGetCertificate v slot off n s = _
  rw [execGetCertificate, if_neg (by omega), State.managed_free free, if_pos h]
  rfl

theorem challenge_refused (nonce : BitVec 256) (no : s.idKey = none) :
    exec (.challenge v 0 nonce) s = .next (s.spdm v 4 [0x7F, 7]) := by
  show execChallenge v 0 nonce s = _
  rw [execChallenge, if_neg (by omega), State.managed_free free, no]
  rfl

theorem challenge_signed (nonce : BitVec 256) {k : BitVec 256} (key : s.idKey = some k) :
    exec (.challenge v 0 nonce) s = .next (s.takeKey.2.spdm v 134 ([0x03, 0] ++
      [(sm3 s.chain).toNat, (Config.freeKey s.freeCtr).toNat] ++
        [signed k (nonce.toNat :: [(sm3 s.chain).toNat, (Config.freeKey s.freeCtr).toNat])])) := by
  show execChallenge v 0 nonce s = _
  rw [execChallenge, if_neg (by omega), State.managed_free free, key]
  rfl

/-- A measurement of one index is that block, signed where it is asked for. -/
theorem getMeasurements_one (nonce : BitVec 256) {k : BitVec 256} (key : s.idKey = some k) {index : Nat} (h1 : 1 ≤ index)
    (h6 : index ≤ 6) (sig : Bool) :
    exec (.getMeasurements v index sig nonce) s = .next (s.takeKey.2.spdm v
      (if sig then 49 + (s.measure index).getD 3 0 + 64 else 49 + (s.measure index).getD 3 0)
      (if sig then [0x60, 1] ++ s.measure index ++ [(Config.freeKey s.freeCtr).toNat] ++
          [signed k (nonce.toNat :: ([0x60, 1] ++ s.measure index ++ [(Config.freeKey s.freeCtr).toNat]))]
        else [0x60, 1] ++ s.measure index ++ [(Config.freeKey s.freeCtr).toNat])) := by
  have block : ((([1, 2, 3, 4, 5, 6].map s.measure).drop (index - 1)).take 1) = [s.measure index] := by
    have : index = 1 ∨ index = 2 ∨ index = 3 ∨ index = 4 ∨ index = 5 ∨ index = 6 := by omega
    rcases this with rfl | rfl | rfl | rfl | rfl | rfl <;> rfl
  have size (b : List Nat) : 42 + ([b].map fun c => 7 + c.getD 3 0).sum = 49 + b.getD 3 0 := by simp; omega
  show execGetMeasurements v index sig nonce s = _
  rw [execGetMeasurements, if_neg (by omega)]
  dsimp only
  rw [State.managed_free free, State.measured, if_neg (by omega), if_neg (by omega), if_neg (by omega), block, key]
  dsimp only
  have one : (if index = 0 then 6 else [s.measure index].length) = 1 := if_neg (by omega)
  simp only [size, one, List.flatMap_cons, List.flatMap_nil, List.append_nil, id]
  cases sig <;> rfl

end

/-- Settles O47: each request unfolded, while a controller takes over and while the device is up. -/
theorem protocolAnswers : Obligations.ProtocolAnswers := by
  refine ⟨fun s v hp taking eid ty sm2 sm3 sig slot off n index nonce q hq => ?_, reset_chain, fun s v hp free up => ?_⟩
  · have within : ¬v.p ≥ 2 := by omega
    simp only [List.mem_cons, List.not_mem_nil, or_false] at hq
    obtain rfl | rfl | rfl | rfl | rfl | rfl | rfl | rfl := hq <;>
      exact waits_of_managed taking (if_neg within)
  · intro p reply tells
    have tell {i : Instr} {n : Nat} {fields : List Nat} (does : exec i s = .next (s.spdm v n fields)) : tells i n fields := by
      rw [s.spdm_answers up] at does
      exact does
    refine ⟨fun eid h0 h1 => setEndpointId_sets hp free up h0 h1, setEndpointId_refuses hp free up, doeDiscovery_answers hp up 0,
      doeDiscovery_answers hp up 1, fun ty h0 h5 => mctpUnsupportedType_answers hp free up h0 h5,
      tell (getVersion_answers hp free), tell (getCapabilities_answers hp free),
      fun sm2 sm3 => tell (negotiateAlgorithms_answers hp free sm2 sm3), fun off n ho => tell (getCertificate_reads hp free n ho),
      fun slot off n h => tell (getCertificate_refuses hp free n h), fun nonce =>
        ⟨fun no => tell (challenge_refused hp free nonce no), fun k key => ⟨?_, fun index h1 h6 => ⟨?_, ?_⟩⟩⟩⟩
    · rw [challenge_signed hp free nonce key, State.spdm_answers (State.takeKey_answers.trans up)]; rfl
    · rw [getMeasurements_one hp free nonce key h1 h6, State.spdm_answers (State.takeKey_answers.trans up)]; rfl
    · rw [getMeasurements_one hp free nonce key h1 h6, State.spdm_answers (State.takeKey_answers.trans up)]; rfl

end Sys2Proof.Machine

/-! PROOF. The firmware image, the controllers and the test access port (R35, R504 to R509, R523 to R527). -/

namespace Sys2Proof.Machine

/-! ### Refusals of the store -/

/-- The registers that a refused store write shows itself in. -/
def NvReg (a : Nat) : Prop := LogReg a ∨ a = Reg.THM_NV_WINDOW ∨ a = Reg.NVS_REFUSE

theorem NvReg.log {a : Nat} (h : LogReg a) : NvReg a := .inl h

theorem Reports.nvWindow (s : State) : Reports NvReg s s.nvWindow := .setReg s (.inr (.inl rfl)) _

theorem Reports.sfSat {R : Nat → Prop} (s : State) {a : Nat} (h : R a) (f : Fld) (n : Nat) : Reports R s (s.sfSat a f n) := .sf s h f _

theorem Reports.nvRefused (s : State) (code kind : Nat) : Reports NvReg s (s.nvRefused code kind) := by
  have place : NvReg Reg.NVS_REFUSE := .inr (.inr rfl)
  have shown : Reports NvReg s (if s.gf Reg.NVS_REFUSE Fld.NVS_REFUSE_valid = 1 then s.sf Reg.NVS_REFUSE Fld.NVS_REFUSE_more 1
      else ((s.sf Reg.NVS_REFUSE Fld.NVS_REFUSE_code code).sf Reg.NVS_REFUSE Fld.NVS_REFUSE_kind kind).sf
        Reg.NVS_REFUSE Fld.NVS_REFUSE_valid 1) := by
    split
    · exact .sf s place _ _
    · exact ((Reports.sf s place _ _).trans (.sf _ place _ _)).trans (.sf _ place _ _)
  exact ((shown.trans (.sfSat _ place _ _)).trans ((Reports.modCause _ _).mono fun _ => .log)).trans
    ((Reports.contained _ _).mono fun _ => .log)

/-- A checked write waits for no temperature: only a full queue refuses it. -/
theorem State.nvRefusal_checked {s : State} {r : NvReq} (ok : s.copy0.ok = true) (checked : r.checked = true) :
    s.nvRefusal r = if 32 ≤ s.nvq.length then some 2 else none := by
  simp [State.nvRefusal, ok, checked]

/-! ### The errors that waited for a controller -/

theorem State.sec_setReg (s : State) (a : Nat) (v : Word) : (s.setReg a v).sec = s.sec := rfl

theorem State.sec_sf (s : State) (a : Nat) (f : Fld) (v : Nat) : (s.sf a f v).sec = s.sec := State.sec_setReg ..

theorem State.sec_modCause (s : State) (b : Nat) : (s.modCause b).sec = s.sec := by rw [(Reports.modCause s b).frame]

theorem State.sec_capture (s : State) (cls : Nat) (l : LogEnt) : (s.capture cls l).sec = s.sec := by
  have words (y : State) (ks : List Nat) : (ks.foldl (fun a w => a.setReg (Reg.MGT_ERR_FIRST cls w) (l.word w)) y).sec = y.sec :=
    foldl_invariant (P := fun a : State => a.sec = y.sec) rfl fun _ _ kept => (State.sec_setReg ..).trans kept
  unfold State.capture
  dsimp only
  split
  · exact State.sec_sf ..
  · exact (State.sec_sf ..).trans (words s _)

theorem State.sec_append (s : State) (cls : Nat) (l : LogEnt) : (s.append cls l).sec = s.sec := by
  rw [(Reports.append s cls l).frame]

theorem State.sec_corrEnt (s : State) (l : LogEnt) : (s.corrEnt l).sec = s.sec := by
  have first : (s.capture 0 l).sec = s.sec := State.sec_capture ..
  have logged : ((s.capture 0 l).append 0 l).sec = s.sec := (State.sec_append ..).trans (State.sec_capture ..)
  unfold State.corrEnt
  generalize s.capture 0 l = s1 at logged first ⊢
  dsimp only
  split
  · exact (State.sec_sf ..).trans first
  · generalize s1.append 0 l = s2 at logged ⊢
    split
    · exact logged
    · exact logged

theorem State.sec_errsRelease (s : State) : s.errsRelease.sec = s.sec :=
  foldl_invariant (P := fun y : State => y.sec = s.sec) rfl fun y q kept => by
    split
    · rw [State.sec_corrEnt, kept]
    · rw [State.sec_append, State.sec_capture, kept]

/-! ### The firmware image -/

theorem State.sec_bootStatus (s : State) (st code : Nat) : (s.bootStatus st code).sec = s.sec :=
  (State.sec_sf ..).trans (State.sec_sf ..)

section
variable {s : State} {st code : Nat}

theorem State.bootStatus_state (h : st < 2 ^ Fld.SEC_BOOT_STATUS_state.w) :
    (s.bootStatus st code).gf Reg.SEC_BOOT_STATUS Fld.SEC_BOOT_STATUS_state = st :=
  (State.gf_sf_apart (by decide) (by decide)).trans (State.gf_sf_val (by decide) h)

theorem State.bootStatus_code (h : code < 2 ^ Fld.SEC_BOOT_STATUS_code.w) :
    (s.bootStatus st code).gf Reg.SEC_BOOT_STATUS Fld.SEC_BOOT_STATUS_code = code :=
  State.gf_sf_val (by decide) h

end

/-- The words of the firmware digest. -/
def State.digestWords (s : State) (d : Nat) : State :=
  (upto 8).foldl (fun y w => y.setReg (Reg.SEC_FW_DIGEST w) (BitVec.ofNat 64 (natBits d (32 * w) 32))) s

theorem State.gf_digestWords (s : State) (d : Nat) (f : Fld) :
    (s.digestWords d).gf Reg.SEC_BOOT_STATUS f = s.gf Reg.SEC_BOOT_STATUS f :=
  State.gf_of_reg (foldl_reg_ne fun y k _ => State.reg_setReg_ne y _ (by unfold Reg.SEC_BOOT_STATUS Reg.SEC_FW_DIGEST; omega)) f

theorem State.sec_digestWords (s : State) (d : Nat) : (s.digestWords d).sec = s.sec :=
  foldl_invariant (P := fun a : State => a.sec = s.sec) rfl fun _ _ kept => (State.sec_setReg ..).trans kept

theorem State.digestWords_reg {s : State} {d : Nat} {w : Nat} (hw : w < 8) :
    ((s.digestWords d).reg
      (Reg.SEC_FW_DIGEST w)).toNat = natBits d (32 * w) 32 := by
  have set : (s.digestWords d).reg
      (Reg.SEC_FW_DIGEST w) = BitVec.ofNat 64 (natBits d (32 * w) 32) :=
    foldl_settles (P := fun y : State => y.reg (Reg.SEC_FW_DIGEST w) = BitVec.ofNat 64 (natBits d (32 * w) 32)) (List.mem_range.2 hw)
      (fun _ => State.reg_setReg_same ..)
      fun y k _ ne kept => (State.reg_setReg_ne y _ (by unfold Reg.SEC_FW_DIGEST; omega)).trans kept
  rw [set, BitVec.toNat_ofNat]
  exact Nat.mod_eq_of_lt (lt_trans (natBits_lt _ _ _) (by decide))

section
variable {s : State} {p : Nat} (served : Served s p Reg.SEC_BOOT_CTL)
include served

theorem bootGo_refused (late : s.start.bootServed = true ∨ s.phase ≠ 0) :
    exec (.bootGo p) s = .next (s.sf Reg.SEC_BOOT_STATUS Fld.SEC_BOOT_STATUS_code 1) := by
  show execBootGo p s = _
  rw [execBootGo, State.hostWrite_served served, State.go, if_pos (by simpa using late)]

theorem bootGo_fetches (first : s.start.bootServed = false) (cold : s.phase = 0) (bus : (s.port p).busMaster = true) :
    exec (.bootGo p) s = .next ((hostPieces (s.reg Reg.SEC_BOOT_ADDR).toNat (s.gf Reg.SEC_BOOT_LEN Fld.SEC_BOOT_LEN_len / 4096 + 2)
      (s.gf Reg.SEC_BOOT_LEN Fld.SEC_BOOT_LEN_len)).foldl (fun y q => y.emit (.hostRead p (BitVec.ofNat 64 q.1) q.2))
        { (s.bootStatus 1 0).sf Reg.SEC_BOOT_STATUS Fld.SEC_BOOT_STATUS_port p with
          sec := { s.sec with fetch := some (p, s.reg Reg.SEC_BOOT_ADDR, s.gf Reg.SEC_BOOT_LEN Fld.SEC_BOOT_LEN_len) }
          start := { s.start with bootServed := true } }) := by
  show execBootGo p s = _
  rw [execBootGo, State.hostWrite_served served, State.go, if_neg (by simp [first, cold])]
  exact congrArg _ (if_pos bus)

theorem raiseSvn_writes (free : s.takingOver = false) {d : BitVec 256} {svn : Nat} (runs : s.sec.image = some (d, svn)) :
    exec (.raiseSvn p) s = .next (s.nvWrite ⟨0xD, 0, s.settings (max svn s.svnAhead), .svn (max svn s.svnAhead)⟩).2 := by
  show execRaiseSvn p s = _
  rw [execRaiseSvn, State.hostWrite_served served, State.managed_free free, State.raiseSvn, runs]

end

section
variable {s : State} {q len : Nat} {ad : Word} {bytes : List Byte} (fetch : s.sec.fetch = some (q, ad, len))
include fetch

theorem imageFetchComplete_error : exec (.imageFetchComplete false bytes) s = .next s.fetchError := by
  show execImageFetchComplete false bytes s = _
  rw [execImageFetchComplete, fetch]
  exact if_pos (.inl rfl)

theorem imageFetchComplete_checks (bus : (s.port q).busMaster = true) : exec (.imageFetchComplete true bytes) s =
    .next (match s.imageCheck (bytes.map (·.toNat)) len with
      | .inl code =>
        let s1 := ({ s with sec := { s.sec with fetch := none } } : State).bootStatus 4 code
        if s.phase = 0 then s1.startFail 3 0 else s1
      | .inr svn =>
        let d := sm3 (bytes.map (·.toNat))
        let s1 := (({ s with sec := { s.sec with fetch := none } } : State).bootStatus 3 0).sf Reg.SEC_BOOT_STATUS Fld.SEC_BOOT_STATUS_svn svn
        let s2 := s1.digestWords d.toNat
        { s2 with sec := { s2.sec with image := some (d, svn), bedDigest := d } }) := by
  show execImageFetchComplete true bytes s = _
  rw [execImageFetchComplete, fetch]
  dsimp only
  rw [if_neg (by simp [bus])]
  cases s.imageCheck (bytes.map (·.toNat)) len with
  | inl code =>
    have phase : (({ s with sec := { s.sec with fetch := none } } : State).bootStatus 4 code).phase = s.phase :=
      (State.gf_sf_ne _ _ _ _ (by decide)).trans (State.gf_sf_ne _ _ _ _ (by decide))
    dsimp only
    rw [phase]
  | inr svn => rfl

end

/-- An image that passes its checks runs. -/
theorem imageFetchComplete_runs {s : State} {q len svn : Nat} {ad : Word} {bytes : List Byte} (fetch : s.sec.fetch = some (q, ad, len))
    (bus : (s.port q).busMaster = true) (good : s.imageCheck (bytes.map (·.toNat)) len = .inr svn) :
    ∃ u, exec (.imageFetchComplete true bytes) s = .next u ∧ u.sec.image = some (sm3 (bytes.map (·.toNat)), svn) ∧
      u.sec.bedDigest = sm3 (bytes.map (·.toNat)) ∧ u.sec.fetch = none ∧
      u.gf Reg.SEC_BOOT_STATUS Fld.SEC_BOOT_STATUS_state = 3 ∧ u.gf Reg.SEC_BOOT_STATUS Fld.SEC_BOOT_STATUS_code = 0 ∧
      ∀ w < 8, (u.reg (Reg.SEC_FW_DIGEST w)).toNat = natBits (sm3 (bytes.map (·.toNat))).toNat (32 * w) 32 := by
  have runs := imageFetchComplete_checks fetch bus (bytes := bytes)
  rw [good] at runs
  dsimp only at runs
  generalize sm3 (bytes.map (·.toNat)) = d at runs ⊢
  have kept (y : State) (k : SecSt) (f : Fld) : ({ y with sec := k } : State).gf Reg.SEC_BOOT_STATUS f = y.gf Reg.SEC_BOOT_STATUS f := rfl
  have keptReg (y : State) (k : SecSt) (a : Nat) : ({ y with sec := k } : State).reg a = y.reg a := rfl
  refine ⟨_, runs, rfl, rfl, ?_, ?_, ?_, fun w hw => ?_⟩
  · dsimp only
    rw [State.sec_digestWords, State.sec_sf, State.sec_bootStatus]
  · rw [kept, State.gf_digestWords, State.gf_sf_apart (by decide) (by decide), State.bootStatus_state (by decide)]
  · rw [kept, State.gf_digestWords, State.gf_sf_apart (by decide) (by decide), State.bootStatus_code (by decide)]
  · rw [keptReg, State.digestWords_reg hw]

/-! ### The controllers -/

theorem controllerHeartbeat_counts {s : State} (power : s.power = true) (free : s.takingOver = false) (goes : s.clk.stopped = false)
    (x : Heartbeat) : exec (.controllerHeartbeat x) s = .next { s with sec := { s.sec with
      missed := if x.primary then 0 else min (s.sec.missed + 1) 50, standbyOut := !x.standby } } := by
  show execControllerHeartbeat x s = _
  rw [execControllerHeartbeat, if_neg (by simp [power, free, goes])]

section
variable {s : State} (missing : 50 ≤ s.sec.missed) (goes : s.clk.stopped = false)
  (primary : s.gf Reg.MGT_CTRL Fld.MGT_CTRL_primary = 0) (in_ : s.sec.failed0 = false)
include missing goes primary in_

theorem controllerTakeover_standby (ready : s.sec.failed15 = false) (answers : s.sec.standbyOut = false) :
    exec .controllerTakeover s = .next (s.mgmtWait.foldl State.serveHeld (nvTurn 64
      ((((State.errsRelease { s with sec := { s.sec with missed := 0, failed0 := true }, mgmtWait := [] }).sf Reg.MGT_CTRL
        Fld.MGT_CTRL_primary 15).sf Reg.MGT_CTRL Fld.MGT_CTRL_takeover 1).contained { ErrInfo.plain 12 0x0E with tile := some 0 }))) := by
  show execControllerTakeover s = _
  have k1 : ({ s.sec with missed := 0
                          failed0 := s.sec.failed0 || decide (s.gf Reg.MGT_CTRL Fld.MGT_CTRL_primary = 0) || s.sec.standbyOut
                          failed15 := s.sec.failed15 || decide (s.gf Reg.MGT_CTRL Fld.MGT_CTRL_primary ≠ 0) || s.sec.standbyOut } : SecSt) =
      { s.sec with missed := 0, failed0 := true } := by
    simp [primary, ready, answers]
  have managed : (State.errsRelease { s with sec := { s.sec with missed := 0, failed0 := true }, mgmtWait := [] }).unmanaged = false := by
    rw [State.unmanaged, State.sec_errsRelease]
    exact ready
  rw [execControllerTakeover, if_neg (by simp [State.unmanaged, in_, goes]; omega)]
  dsimp only
  rw [k1, if_neg (by rw [managed]; exact Bool.false_ne_true), primary]
  rfl

theorem controllerTakeover_fatal (out : s.sec.failed15 = true ∨ s.sec.standbyOut = true) : exec .controllerTakeover s =
    .next ((((State.errsRelease { s with sec := { s.sec with missed := 0, failed0 := true, failed15 := true }, mgmtWait := [] }).moduleFatal
      (ErrInfo.plain 12 4)).fatalRuns).towersOff) := by
  show execControllerTakeover s = _
  have k1 : ({ s.sec with missed := 0
                          failed0 := s.sec.failed0 || decide (s.gf Reg.MGT_CTRL Fld.MGT_CTRL_primary = 0) || s.sec.standbyOut
                          failed15 := s.sec.failed15 || decide (s.gf Reg.MGT_CTRL Fld.MGT_CTRL_primary ≠ 0) || s.sec.standbyOut } : SecSt) =
      { s.sec with missed := 0, failed0 := true, failed15 := true } := by
    rcases out with out | out <;> simp [primary, out]
  have unmanaged : (State.errsRelease { s with sec := { s.sec with missed := 0, failed0 := true, failed15 := true }, mgmtWait := [] }).unmanaged = true := by
    rw [State.unmanaged, State.sec_errsRelease]
    rfl
  rw [execControllerTakeover, if_neg (by simp [State.unmanaged, in_, goes]; omega)]
  dsimp only
  rw [k1, if_pos unmanaged]

end

/-! ### The test access port -/

section
variable {s : State} {p : Nat}

theorem tapArm_arms (served : Served s p Reg.SEC_TAP_ARM) : exec (.tapArm p 0x7A900E5D) s =
    .next { s with sec := { s.sec with tapArm := sset none s.sec.tapArm p (some s.gtc) } } := by
  show execTapArm p 0x7A900E5D s = _
  rw [execTapArm, State.hostWrite_served served, if_pos rfl]

theorem State.tapOk_of_run {i : Nat} (hi : i < 16) (run : s.inRun i = true) (armed : Bool) : s.tapOk armed = false := by
  have any : (upto 16).any s.inRun = true := List.any_eq_true.2 ⟨i, List.mem_range.2 hi, run⟩
  simp [State.tapOk, any]

theorem State.tapOk_unarmed (h : s.tapArmed p = false) : s.tapOk (s.tapArmed p) = false := by simp [State.tapOk, h]

theorem State.tapArmed_never (h : sget none s.sec.tapArm p = none) : s.tapArmed p = false := by rw [State.tapArmed, h]

theorem State.tapArmed_late {a : Word} (h : sget none s.sec.tapArm p = some a) (late : 1000000 < (s.gtc - a).toNat) :
    s.tapArmed p = false := by
  rw [State.tapArmed, h]
  exact decide_eq_false (by omega)

theorem tapOpen_refused {armed : Bool} (h : s.tapOk armed = false) : s.tapOpen p armed = s.sf Reg.SEC_TAP_CTL Fld.SEC_TAP_CTL_refused 1 :=
  if_pos (by rw [h]; rfl)

/-- What an opening leaves, with these registers, before its record goes to the store. -/
def State.tapWiped (s : State) (p : Nat) (w : SMap Word) : State :=
  { s with regs := w, copy0 := { s.copy0 with secret := none }, copy15 := { s.copy15 with secret := none }
           sec := { s.sec with session := none, tapKeys := true, tapArm := sset none s.sec.tapArm p none } }

/-- The record of an opening. -/
def State.tapRecord (s : State) (p : Nat) : NvReq := ⟨8, 0, bytesOf 8 s.gtc.toNat ++ bytesOf 8 p, .tapOpened⟩

theorem State.nvWindow_regs (s : State) : ∃ w, s.nvWindow = { s with regs := w } := ⟨_, rfl⟩

theorem tapOpen_asks {armed : Bool} (ok : s.tapOk armed = true) (ok0 : s.copy0.ok = true) (ok15 : s.copy15.ok = true) :
    ∃ w, s.tapOpen p armed = (s.tapWiped p w).nvAsk (s.tapRecord p) ∧
      (s.tapWiped p w).gf Reg.SEC_TAP_CTL Fld.SEC_TAP_CTL_busy = 1 ∧ (s.tapWiped p w).gf Reg.SEC_STATE Fld.SEC_STATE_id_key = 0 := by
  obtain ⟨w0, window⟩ := s.nvWindow_regs
  obtain ⟨w, marked⟩ : ∃ w, (({ s with regs := w0 } : State).sf Reg.SEC_TAP_CTL Fld.SEC_TAP_CTL_busy 1).sf Reg.SEC_STATE
      Fld.SEC_STATE_id_key 0 = { s with regs := w } := ⟨_, rfl⟩
  have shows (f : Fld) (a : Nat) : (s.tapWiped p w).gf a f = ((({ s with regs := w0 } : State).sf Reg.SEC_TAP_CTL
      Fld.SEC_TAP_CTL_busy 1).sf Reg.SEC_STATE Fld.SEC_STATE_id_key 0).gf a f := by
    rw [marked]
    rfl
  refine ⟨w, ?_, (shows ..).trans ?_, (shows ..).trans ?_⟩
  · unfold State.tapOpen
    rw [if_neg (by simp [ok]), window]
    dsimp only
    rw [marked]
    dsimp only
    rw [if_pos ok0, if_pos ok15]
    rfl
  · rw [State.gf_sf_ne _ _ _ _ (by decide), State.gf_sf_val (by decide) (by decide)]
  · exact State.gf_sf_val (by decide) (by decide)

section
variable {w : SMap Word}

/-- An opening's record with the queue full is refused, and the opening ends. -/
theorem tapWiped_full (ok0 : s.copy0.ok = true) (full : 32 ≤ s.nvq.length) :
    ∃ y, Reports NvReg (s.tapWiped p w) y ∧ (s.tapWiped p w).nvAsk (s.tapRecord p) =
      { y.sf Reg.SEC_TAP_CTL Fld.SEC_TAP_CTL_busy 0 with sec := { y.sec with tapKeys := false } } := by
  have refused : (s.tapWiped p w).nvRefusal (s.tapRecord p) = some 2 :=
    (State.nvRefusal_checked (s := s.tapWiped p w) ok0 rfl).trans (if_pos full)
  refine ⟨_, .nvRefused _ 2 (s.tapRecord p).kind, ?_⟩
  rw [State.nvAsk, refused]
  dsimp only
  rw [if_neg fun c => by simp [State.tapRecord, NvReq.checked] at c]
  rfl

/-- Else it is queued. -/
theorem tapWiped_queued (free : s.takingOver = false) (ok0 : s.copy0.ok = true) (room : s.nvq.length < 32) :
    ∃ w' : SMap Word, (s.tapWiped p w).nvAsk (s.tapRecord p) = { s.tapWiped p w' with nvq := s.nvq ++ [s.tapRecord p] } ∧
      ∀ a, a ≠ Reg.THM_NV_WINDOW → (s.tapWiped p w').reg a = (s.tapWiped p w).reg a := by
  have fits : (s.tapWiped p w).nvRefusal (s.tapRecord p) = none :=
    (State.nvRefusal_checked (s := s.tapWiped p w) ok0 rfl).trans (if_neg (Nat.not_le.2 room))
  obtain ⟨w', queued, others⟩ := State.nvWrite_queued (s := s.tapWiped p w) free fits
  refine ⟨w', ?_, others⟩
  rw [State.nvAsk, fits]
  exact congrArg Prod.snd queued

end

theorem tapOpen_opens (served : Served s p Reg.SEC_TAP_CTL) (free : s.takingOver = false) (ok : s.tapOk (s.tapArmed p) = true)
    (ok0 : s.copy0.ok = true) (ok15 : s.copy15.ok = true) :
    ∃ u, exec (.tapOpen p) s = .next u ∧ u.copy0 = { s.copy0 with secret := none } ∧ u.copy15 = { s.copy15 with secret := none } ∧
      u.sec.session = none ∧ u.gf Reg.SEC_STATE Fld.SEC_STATE_id_key = 0 ∧
      (s.nvq.length < 32 → u.gf Reg.SEC_TAP_CTL Fld.SEC_TAP_CTL_busy = 1 ∧
        u.nvq = s.nvq ++ [⟨8, 0, bytesOf 8 s.gtc.toNat ++ bytesOf 8 p, .tapOpened⟩]) ∧
      (32 ≤ s.nvq.length → u.gf Reg.SEC_TAP_CTL Fld.SEC_TAP_CTL_busy = 0 ∧ u.nvq = s.nvq) := by
  obtain ⟨w, asks, busy, key⟩ := tapOpen_asks (p := p) ok ok0 ok15
  have does : exec (.tapOpen p) s = .next ((s.tapWiped p w).nvAsk (s.tapRecord p)) := by
    show execTapOpen p s = _
    rw [execTapOpen, State.hostWrite_served served, State.managed_free free, asks]
  refine ⟨_, does, ?_⟩
  by_cases full : 32 ≤ s.nvq.length
  · obtain ⟨y, refused, asks⟩ := tapWiped_full (p := p) (w := w) ok0 full
    have gone : ¬NvReg Reg.SEC_STATE := by simp only [NvReg, LogReg]; decide
    have key' : y.gf Reg.SEC_STATE Fld.SEC_STATE_id_key = 0 := (refused.gf gone _).trans key
    have frame := refused.frame
    rw [asks]
    obtain ⟨w', ended⟩ : ∃ w', y.sf Reg.SEC_TAP_CTL Fld.SEC_TAP_CTL_busy 0 = { y with regs := w' } := ⟨_, rfl⟩
    have idle : (y.sf Reg.SEC_TAP_CTL Fld.SEC_TAP_CTL_busy 0).gf Reg.SEC_TAP_CTL Fld.SEC_TAP_CTL_busy = 0 :=
      State.gf_sf_val (by decide) (by decide)
    have still : (y.sf Reg.SEC_TAP_CTL Fld.SEC_TAP_CTL_busy 0).gf Reg.SEC_STATE Fld.SEC_STATE_id_key = 0 :=
      (State.gf_sf_ne y _ _ _ (by decide)).trans key'
    rw [ended] at idle still ⊢
    refine ⟨?_, ?_, ?_, still, fun room => absurd full (by omega), fun _ => ⟨idle, ?_⟩⟩ <;> rw [frame] <;> rfl
  · obtain ⟨w', asks, others⟩ := tapWiped_queued (p := p) (w := w) free ok0 (by omega)
    rw [asks]
    exact ⟨rfl, rfl, rfl, (State.gf_of_reg (others _ (by decide)) _).trans key,
      fun _ => ⟨(State.gf_of_reg (others _ (by decide)) _).trans busy, rfl⟩, fun c => absurd c full⟩

/-! ### Re-provisioning -/

/-- Re-provisioning's records with its key. -/
def provReqs (keys : List (Nat × List Byte)) (c1 c2 : List Byte) (serial : BitVec 64) (gtc : Word) (k : BitVec 256) : List NvReq :=
  keys.map (fun q => ⟨0xA, q.1, q.2, .prov⟩) ++ [⟨0xB, 0, c1, .prov⟩, ⟨0xB, 1, c2, .prov⟩,
    ⟨0xB, 2, deviceCert serial k, .prov⟩, ⟨9, 0, bytesOf 8 gtc.toNat ++ bytesOf 8 serial.toNat, .prov⟩]

theorem provReqs_cons (keys : List (Nat × List Byte)) (c1 c2 : List Byte) (serial : BitVec 64) (gtc : Word) (k : BitVec 256) :
    ∃ r rest, provReqs keys c1 c2 serial gtc k = r :: rest ∧ r.act = .prov := by
  cases keys with
  | nil => exact ⟨_, _, rfl, rfl⟩
  | cons q keys => exact ⟨_, _, rfl, rfl⟩

/-- The next of re-provisioning's records joins the queue. -/
theorem State.provNext_queues {r : NvReq} {rest : List NvReq} (rests : s.sec.provRest = r :: rest) (prov : r.act = .prov)
    (free : s.takingOver = false) (ok : s.copy0.ok = true) (room : s.nvq.length < 32) :
    ∃ w : SMap Word, s.provNext = { s with regs := w, nvq := s.nvq ++ [r], sec := { s.sec with provRest := rest } } := by
  have checked : r.checked = true := by simp [NvReq.checked, prov]
  obtain ⟨w, queued, -⟩ := State.nvWrite_queued free ((State.nvRefusal_checked ok checked).trans (if_neg (Nat.not_le.2 room)))
  exact ⟨w, by rw [State.provNext, rests]; dsimp only; rw [queued]; rfl⟩

/-- A copy that works, with this key. -/
def NvCopy.keyed (c : NvCopy) (k : BitVec 256) : NvCopy := if c.ok then { c with secret := some k } else c

theorem NvCopy.keyed_ok {c : NvCopy} (ok : c.ok = true) (k : BitVec 256) : c.keyed k = { c with secret := some k } := if_pos ok

/-- Re-provisioning begun: a new key in every copy, and the records to come. -/
def State.provStarted (s : State) (w : SMap Word) (reqs : List NvReq) : State :=
  { s with regs := w, freeCtr := s.freeCtr + 1
           copy0 := s.copy0.keyed (Config.freeKey s.freeCtr), copy15 := s.copy15.keyed (Config.freeKey s.freeCtr)
           sec := { s.sec with provRest := reqs } }

theorem reprovisioning_writes {keys : List (Nat × List Byte)} {c1 c2 : List Byte} {serial : BitVec 64}
    (fits : ∀ k ∈ keys, k.1 < 4 ∧ k.2.length ≤ 65536) (fit1 : c1.length ≤ 65536) (fit2 : c2.length ≤ 65536)
    (enabled : s.gf Reg.SEC_STATE Fld.SEC_STATE_tap_enabled = 1) (idle : ∀ i < 16, s.inRun i = false) (temp : s.nvTempOk = true)
    (ok0 : s.copy0.ok = true) (ok15 : s.copy15.ok = true) (free : s.takingOver = false) (room : s.nvq.length < 32) :
    ∃ u k, exec (.reprovisioning keys [c1, c2] serial) s = .next u ∧ u.copy0 = { s.copy0 with secret := some k } ∧
      u.copy15 = { s.copy15 with secret := some k } ∧ u.nvq = s.nvq ++ (provReqs keys c1 c2 serial s.gtc k).take 1 ∧
      u.sec.provRest = (provReqs keys c1 c2 serial s.gtc k).drop 1 := by
  have slots : (keys.any (fun k => decide (k.1 ≥ 4)) || decide ([c1, c2].length ≠ 2)) = false := by
    simpa using fun n b hb => (fits _ hb).1
  have run : (upto 16).any s.inRun = false := by
    rw [List.any_eq_false]
    exact fun i hi => by rw [idle i (List.mem_range.1 hi)]; decide
  have sizes : (keys.all fun k => decide (k.2.length ≤ 65536)) = true :=
    List.all_eq_true.2 fun k hk => decide_eq_true (fits k hk).2
  have certs : ([c1, c2].all fun b => decide (b.length ≤ 65536)) = true := by simp [fit1, fit2]
  obtain ⟨r, rest, whole, prov⟩ := provReqs_cons keys c1 c2 serial s.gtc (Config.freeKey s.freeCtr)
  obtain ⟨w, window⟩ := s.nvWindow_regs
  have does : exec (.reprovisioning keys [c1, c2] serial) s = .next (State.provNext (s.provStarted w (r :: rest))) := by
    show execReprovisioning keys [c1, c2] serial s = _
    unfold execReprovisioning
    dsimp only
    rw [if_neg (by rw [slots]; exact Bool.false_ne_true), if_neg (by rw [enabled, run, temp, sizes, certs]; decide), window]
    rw [← whole, List.append_assoc]
    rfl
  obtain ⟨w', next⟩ := State.provNext_queues (s := s.provStarted w (r :: rest)) (r := r) (rest := rest) rfl prov free
    ((congrArg NvCopy.ok (s.copy0.keyed_ok ok0 _)).trans ok0) room
  refine ⟨_, Config.freeKey s.freeCtr, does, ?_⟩
  rw [next, whole]
  exact ⟨NvCopy.keyed_ok ok0 _, NvCopy.keyed_ok ok15 _, rfl, rfl⟩

end

/-- Settles O54: the firmware image, the controllers and the test access port by their commands. -/
theorem firmwareControllersTap : Obligations.FirmwareControllersTap := by
  refine ⟨fun s p => ⟨fun served => ⟨bootGo_refused served, bootGo_fetches served, fun free d svn => raiseSvn_writes served free⟩,
      fun q ad len bytes fetch => ⟨imageFetchComplete_error fetch, fun bus => ⟨fun svn => imageFetchComplete_runs fetch bus, ?_⟩⟩⟩,
    fun s => ⟨controllerHeartbeat_counts, fun missing goes primary in_ => ⟨controllerTakeover_standby missing goes primary in_,
      controllerTakeover_fatal missing goes primary in_⟩⟩, fun s p bit => ?_⟩
  · intro code bad
    rw [imageFetchComplete_checks fetch bus, bad]
    rfl
  · refine ⟨tapArm_arms, fun served taking => ?_, fun served free => ⟨fun not => ?_,
      fun i hi run => State.tapOk_of_run hi run _, fun never => State.tapOk_unarmed (State.tapArmed_never never),
      fun a armed late => State.tapOk_unarmed (State.tapArmed_late armed late), tapOpen_opens served free⟩,
      fun power => ⟨?_, ?_⟩, fun r rest rests => ?_, fun keys c1 c2 serial => reprovisioning_writes⟩
    · show execTapOpen p s = _
      rw [execTapOpen, State.hostWrite_served served, State.managed_taking taking]
    · show execTapOpen p s = _
      rw [execTapOpen, State.hostWrite_served served, State.managed_free free, tapOpen_refused not]
      rfl
    · show execIdcode s = _
      rw [execIdcode, if_pos power]
    · show execBypass bit s = _
      rw [execBypass, if_pos power]
    · show s.provNext = _
      rw [State.provNext, rests]

end Sys2Proof.Machine

/-! PROOF. The store's queue, its writes and the module's own records (R304, R459, R476, R508, R515 to R522). -/

namespace Sys2Proof.Machine

/-! ### Queueing a write -/

/-- From `s` to `u` the writes of `l` have joined the queue, and nothing that a later one asks about has changed. -/
structure Queued (s u : State) (l : List NvReq) : Prop where
  nvq : u.nvq = s.nvq ++ l
  readings : u.nvReadings = s.nvReadings
  copy0 : u.copy0 = s.copy0
  copy15 : u.copy15 = s.copy15
  sec : u.sec = s.sec
  mgmtWait : u.mgmtWait = s.mgmtWait
  log : u.log = s.log

theorem Queued.trans {s t u : State} {l m : List NvReq} (h : Queued s t l) (k : Queued t u m) : Queued s u (l ++ m) :=
  ⟨by rw [k.nvq, h.nvq, List.append_assoc], k.readings.trans h.readings, k.copy0.trans h.copy0, k.copy15.trans h.copy15,
    k.sec.trans h.sec, k.mgmtWait.trans h.mgmtWait, k.log.trans h.log⟩

theorem Queued.nil (s : State) : Queued s s [] := ⟨(List.append_nil _).symm, rfl, rfl, rfl, rfl, rfl, rfl⟩

/-- A store that takes writes: a copy works, no controller takes over, and no reading is out of bounds. -/
structure State.NvOpen (s : State) : Prop where
  works : s.copy0.ok = true ∨ s.copy15.ok = true
  free : s.takingOver = false
  temp : s.nvTempOk = true

theorem State.nvTempOk_iff (s : State) : s.nvTempOk = true ↔ ∀ x ∈ s.nvReadings, 0 ≤ x ∧ x ≤ 720 := by
  simp [State.nvTempOk, List.all_eq_true]

theorem State.NvOpen.queued {s u : State} {l : List NvReq} (h : s.NvOpen) (q : Queued s u l) : u.NvOpen :=
  ⟨by rw [q.copy0, q.copy15]; exact h.works, by rw [State.takingOver, q.sec]; exact h.free,
    by rw [State.nvTempOk, q.readings]; exact h.temp⟩

section
variable {s : State} {r : NvReq}

theorem Queued.setReg (s : State) {a : Nat} (low : a < 0x1_0000_0000) (v : Word) : Queued s (s.setReg a v) [] :=
  ⟨(List.append_nil _).symm, State.nvReadings_setReg low v, rfl, rfl, rfl, rfl, rfl⟩

theorem State.nvWindow_queued (s : State) : Queued s s.nvWindow [] := .setReg s (by decide) _

theorem State.nvRefusal_none (works : s.copy0.ok = true ∨ s.copy15.ok = true) (room : s.nvq.length < 32)
    (temp : s.nvq = [] → r.checked = false → s.nvTempOk = true) : s.nvRefusal r = none := by
  have first : (!s.copy0.ok && !s.copy15.ok) = false := by rcases works with h | h <;> simp [h]
  have third : (s.nvq == [] && !r.checked && !s.nvTempOk) = false := by
    by_cases e : s.nvq = []
    · cases c : r.checked with
      | false => simp [temp e c]
      | true => simp
    · simp [e]
  rw [State.nvRefusal, if_neg (by simp [first]), if_neg (by omega), if_neg (by rw [third]; exact Bool.false_ne_true)]

theorem State.nvWrite_joins (free : s.takingOver = false) (ok : s.nvRefusal r = none) :
    ∃ u, s.nvWrite r = (true, u) ∧ Queued s u [r] := by
  have adds {y : State} (q : Queued s y []) : Queued s { y with nvq := y.nvq ++ [r] } [r] :=
    ⟨by rw [q.nvq, List.append_nil], q.readings, q.copy0, q.copy15, q.sec, q.mgmtWait, q.log⟩
  unfold State.nvWrite State.nvPut
  rw [if_neg (by rw [free]; exact Bool.false_ne_true)]
  dsimp only
  by_cases starts : s.nvq = [] ∧ r.checked = false
  · rw [if_pos starts, State.nvRefusal_nvWindow, ok]
    exact ⟨_, rfl, adds s.nvWindow_queued⟩
  · rw [if_neg starts, ok]
    exact ⟨_, rfl, adds (.nil s)⟩

theorem State.NvOpen.write (h : s.NvOpen) (room : s.nvq.length < 32) (r : NvReq) : ∃ u, s.nvWrite r = (true, u) ∧ Queued s u [r] :=
  s.nvWrite_joins h.free (s.nvRefusal_none h.works room fun _ _ => h.temp)

/-- Writes for which the queue has places all join it, in order. -/
theorem State.NvOpen.writes {α : Type} (q : α → NvReq) (l : List α) {s : State} (h : s.NvOpen) (room : s.nvq.length + l.length ≤ 32) :
    Queued s (l.foldl (fun y a => (y.nvWrite (q a)).2) s) (l.map q) := by
  induction l generalizing s with
  | nil => exact .nil s
  | cons a l ih =>
    rw [List.length_cons] at room
    obtain ⟨u, write, queued⟩ := h.write (by omega) (q a)
    have rest := ih (h.queued queued) (by rw [queued.nvq, List.length_append, List.length_singleton]; omega)
    rw [List.foldl_cons, write]
    exact queued.trans rest

/-- A refused write leaves the queue and shows its code, where no earlier refusal still stands. -/
theorem State.nvWrite_refused {code : Nat} (free : s.takingOver = false) (refused : s.nvRefusal r = some code) :
    (s.nvWrite r).1 = false ∧ (s.nvWrite r).2.nvq = s.nvq ∧
      (s.gf Reg.NVS_REFUSE Fld.NVS_REFUSE_valid = 0 →
        (s.nvWrite r).2.gf Reg.NVS_REFUSE Fld.NVS_REFUSE_code = code % 2 ^ Fld.NVS_REFUSE_code.w ∧
        (s.nvWrite r).2.gf Reg.NVS_REFUSE Fld.NVS_REFUSE_valid = 1) := by
  obtain ⟨y, write, at_, nvq⟩ : ∃ y : State, s.nvWrite r = (false, y.nvRefused code r.kind) ∧
      (∀ f, y.gf Reg.NVS_REFUSE f = s.gf Reg.NVS_REFUSE f) ∧ y.nvq = s.nvq := by
    unfold State.nvWrite State.nvPut
    rw [if_neg (by rw [free]; exact Bool.false_ne_true)]
    dsimp only
    by_cases starts : s.nvq = [] ∧ r.checked = false
    · rw [if_pos starts, State.nvRefusal_nvWindow, refused]
      exact ⟨_, rfl, fun f => State.gf_of_reg (State.reg_setReg_ne s _ (by decide)) f, s.nvWindow_queued.nvq.trans (List.append_nil _)⟩
    · rw [if_neg starts, refused]
      exact ⟨_, rfl, fun _ => rfl, rfl⟩
  rw [write]
  have kept : (y.nvRefused code r.kind).nvq = y.nvq := by rw [(Reports.nvRefused y code r.kind).frame]
  refine ⟨rfl, kept.trans nvq, fun valid => ?_⟩
  rw [← at_] at valid
  have logs : ∀ (z : State) f, ((z.modCause 14).contained (ErrInfo.plain 11 0x0D)).gf Reg.NVS_REFUSE f = z.gf Reg.NVS_REFUSE f :=
    fun z f => ((Reports.modCause z 14).trans (.contained _ _)).gf (by simp only [LogReg]; decide) f
  unfold State.nvRefused
  dsimp only
  rw [if_neg (by rw [valid]; decide), logs, logs]
  exact ⟨(State.gf_sf_apart (by decide) (by decide)).trans ((State.gf_sf_apart (by decide) (by decide)).trans
    ((State.gf_sf_apart (by decide) (by decide)).trans (State.gf_sf_same _ _ _ _ (by decide)))),
    (State.gf_sf_apart (by decide) (by decide)).trans (State.gf_sf_val (by decide) (by decide))⟩

end

theorem State.nvTempOk_false {s : State} (h : ∃ x ∈ s.nvReadings, x < 0 ∨ 720 < x) : s.nvTempOk = false := by
  obtain ⟨x, hx, out⟩ := h
  refine Bool.eq_false_iff.2 fun ok => ?_
  obtain ⟨lo, hi⟩ := s.nvTempOk_iff.1 ok x hx
  omega

/-! ### The log of a copy -/

theorem ofBytes_bytesOf (n v : Nat) : ofBytes (bytesOf n v) = v % 256 ^ n := by
  induction n generalizing v with
  | zero => simp [bytesOf, ofBytes, Nat.mod_one]
  | succ n ih =>
    rw [bytesOf, ofBytes, ih, BitVec.toNat_ofNat, show 256 ^ (n + 1) = 256 * 256 ^ n from Nat.pow_succ', Nat.mod_mul]

theorem NvBank.gen_zero : NvBank.zero.gen = 0 := rfl

section
variable {c : NvCopy} {x : NvBank}

theorem NvCopy.bank_le (c : NvCopy) : c.bank = 0 ∨ c.bank = 1 := by
  unfold NvCopy.bank
  split
  · exact .inr rfl
  · exact .inl rfl

/-- Contents of the same generation leave the active bank as it is. -/
theorem NvCopy.setCur_bank (same : x.gen = c.cur.gen) : (c.setCur x).bank = c.bank := by
  rcases c.bank_le with h | h
  · rw [NvCopy.cur, if_pos h] at same
    rw [NvCopy.setCur, if_pos h]
    unfold NvCopy.bank at h ⊢
    dsimp only
    rw [same]
  · rw [NvCopy.cur, if_neg (by rw [h]; decide)] at same
    rw [NvCopy.setCur, if_neg (by rw [h]; decide)]
    unfold NvCopy.bank at h ⊢
    dsimp only
    rw [same]

theorem NvCopy.setCur_cur (same : x.gen = c.cur.gen) : (c.setCur x).cur = x := by
  rw [NvCopy.cur, NvCopy.setCur_bank same]
  rcases c.bank_le with h | h <;> simp [NvCopy.setCur, h]

theorem NvCopy.setCur_ok : (c.setCur x).ok = c.ok := by
  unfold NvCopy.setCur
  split <;> rfl

theorem NvCopy.compact_ok : c.compact.ok = c.ok := by
  unfold NvCopy.compact
  dsimp only
  split <;> rfl

theorem NvCopy.append_ok (c : NvCopy) (r : NvReq) : (c.append r).ok = c.ok := by
  have scan : (c.scan []).ok = c.ok := by
    unfold NvCopy.scan
    split
    · rfl
    · exact NvCopy.setCur_ok
  unfold NvCopy.append
  dsimp only
  split
  · rw [NvCopy.compact_ok, NvCopy.setCur_ok, scan]
  · rw [NvCopy.setCur_ok, scan]

/-- A compaction: the records in force stand in the other bank, under the next generation, and the old bank is zero. -/
theorem NvCopy.compact_spec (small : c.cur.gen + 1 < 2 ^ 64) :
    c.compact.bank = 1 - c.bank ∧ c.compact.cur.gen = c.cur.gen + 1 ∧ c.compact.recs = c.recs.filter c.inForce ∧
      (if c.bank = 0 then c.compact.a else c.compact.b) = NvBank.zero := by
  have gen (l : List NvRec) : NvBank.gen ⟨some ⟨1, 0, c.seq + 1, bytesOf 8 (c.cur.gen + 1)⟩, l, []⟩ = c.cur.gen + 1 :=
    (ofBytes_bytesOf ..).trans (Nat.mod_eq_of_lt (lt_of_lt_of_eq small (by decide)))
  rcases c.bank_le with h | h
  · have is : c.compact = { c with a := NvBank.zero, b := ⟨some ⟨1, 0, c.seq + 1, bytesOf 8 (c.cur.gen + 1)⟩, c.recs.filter c.inForce, []⟩ } :=
      if_pos h
    have bank : c.compact.bank = 1 := by
      rw [is, NvCopy.bank, gen, NvBank.gen_zero]
      exact if_pos (Nat.succ_pos _)
    rw [NvCopy.recs, NvCopy.cur, bank, h, is]
    exact ⟨rfl, gen _, rfl, rfl⟩
  · have is : c.compact = { c with a := ⟨some ⟨1, 0, c.seq + 1, bytesOf 8 (c.cur.gen + 1)⟩, c.recs.filter c.inForce, []⟩, b := NvBank.zero } :=
      if_neg (by rw [h]; decide)
    have bank : c.compact.bank = 0 := by
      rw [is, NvCopy.bank, gen, NvBank.gen_zero]
      exact if_neg (Nat.not_lt_zero _)
    rw [NvCopy.recs, NvCopy.cur, bank, h, is]
    exact ⟨rfl, gen _, rfl, rfl⟩

/-- A record appended to a copy whose last write was not torn. -/
theorem NvCopy.append_spec (whole : c.cur.torn = []) (r : NvReq) : c.append r =
    if 128 * 1024 ≤ (c.setCur { c.cur with recs := c.recs ++ [⟨r.kind, r.key, c.seq + 1, r.payload⟩] }).free then
      c.setCur { c.cur with recs := c.recs ++ [⟨r.kind, r.key, c.seq + 1, r.payload⟩] }
    else (c.setCur { c.cur with recs := c.recs ++ [⟨r.kind, r.key, c.seq + 1, r.payload⟩] }).compact := by
  have scan : c.scan [] = c := if_pos ⟨whole, rfl⟩
  rw [NvCopy.append, scan]
  dsimp only
  split
  · rw [if_neg (by omega)]
  · rw [if_pos (by omega)]

end

/-! ### The end of a write -/

section
variable {s : State}

theorem nvTurn_warm {r : NvReq} {rest : List NvReq} (waits : s.nvq = r :: rest) (unchecked : r.checked = false)
    (temp : s.nvTempOk = true) (n : Nat) : nvTurn (n + 1) s = s.nvWindow := by
  have same : s.nvWindow.nvTempOk = true := by rw [State.nvTempOk, s.nvWindow_queued.readings]; exact temp
  rw [nvTurn, waits]
  dsimp only
  rw [if_neg (by rw [unchecked]; exact Bool.false_ne_true), if_pos same]

theorem nvTurn_refused {r : NvReq} {rest : List NvReq} (waits : s.nvq = r :: rest) (unchecked : r.checked = false)
    (temp : s.nvTempOk = false) (n : Nat) : nvTurn (n + 1) s = nvTurn n (({ s.nvWindow with nvq := rest }).nvLost 1 r) := by
  have same : s.nvWindow.nvTempOk = false := by rw [State.nvTempOk, s.nvWindow_queued.readings]; exact temp
  rw [nvTurn, waits]
  dsimp only
  rw [if_neg (by rw [unchecked]; exact Bool.false_ne_true), if_neg (by rw [same]; exact Bool.false_ne_true)]

theorem State.copyFailed_copy0 (s : State) : (s.copyFailed 0).copy0 = { s.copy0 with ok := false } ∧ (s.copyFailed 0).copy15 = s.copy15 := by
  unfold State.copyFailed
  rw [(Reports.contained _ _).frame]
  exact ⟨rfl, rfl⟩

theorem State.copyFailed_copy15 (s : State) : (s.copyFailed 15).copy0 = s.copy0 ∧ (s.copyFailed 15).copy15 = { s.copy15 with ok := false } := by
  unfold State.copyFailed
  rw [(Reports.contained _ _).frame]
  exact ⟨rfl, rfl⟩

/-- What the end of a write does on the tile 0 copy, and on the tile 15 copy. -/
def State.ends0 (s : State) (r : NvReq) (e : CopyEnd) : State :=
  if e.ok then { s with copy0 := s.copy0.append r } else s.copyFailed 0
def State.ends15 (s : State) (r : NvReq) (e : CopyEnd) : State :=
  if e.ok then { s with copy15 := s.copy15.append r } else s.copyFailed 15

theorem State.ends0_copies {r : NvReq} {e : CopyEnd} (ok0 : s.copy0.ok = true) :
    (s.ends0 r e).copy0.ok = e.ok ∧ (s.ends0 r e).copy15 = s.copy15 := by
  unfold State.ends0
  cases e.ok with
  | true => exact ⟨(s.copy0.append_ok r).trans ok0, rfl⟩
  | false =>
    obtain ⟨c0, c15⟩ := s.copyFailed_copy0
    exact ⟨congrArg NvCopy.ok c0, c15⟩

theorem State.ends15_copies {r : NvReq} {e : CopyEnd} (ok15 : s.copy15.ok = true) :
    (s.ends15 r e).copy0 = s.copy0 ∧ (s.ends15 r e).copy15.ok = e.ok := by
  unfold State.ends15
  cases e.ok with
  | true => exact ⟨rfl, (s.copy15.append_ok r).trans ok15⟩
  | false =>
    obtain ⟨c0, c15⟩ := s.copyFailed_copy15
    exact ⟨c0, congrArg NvCopy.ok c15⟩

/-- The end of a write, the queue and the temperatures set. -/
def State.nvEnded (s0 : State) (r : NvReq) (rest : List NvReq) (e0 e15 : CopyEnd) : State :=
  let s1 := if !s0.copy0.ok then s0 else s0.ends0 r e0
  let s2 := if !s1.copy15.ok then s1 else s1.ends15 r e15
  if s2.copy0.ok || s2.copy15.ok then nvTurn 64 (s2.nvAct r.act)
  else (r :: rest).foldl (fun y q => y.nvLost 3 q) { (s2.moduleFatal (ErrInfo.plain 11 5)).fatalRuns with nvq := [] }

/-- On two copies it takes effect where it reaches one; else the store is lost. -/
theorem State.nvEnded_both {r : NvReq} {rest : List NvReq} (ok0 : s.copy0.ok = true) (ok15 : s.copy15.ok = true) (e0 e15 : CopyEnd) :
    s.nvEnded r rest e0 e15 = if e0.ok || e15.ok then nvTurn 64 (((s.ends0 r e0).ends15 r e15).nvAct r.act)
      else (r :: rest).foldl (fun y q => y.nvLost 3 q)
        { ((((s.ends0 r e0).ends15 r e15).moduleFatal (ErrInfo.plain 11 5)).fatalRuns) with nvq := [] } := by
  obtain ⟨c0, c15⟩ := s.ends0_copies (r := r) (e := e0) ok0
  obtain ⟨d0, d15⟩ := (s.ends0 r e0).ends15_copies (r := r) (e := e15) (by rw [c15, ok15])
  have first : (if (!s.copy0.ok) = true then s else s.ends0 r e0) = s.ends0 r e0 := if_neg (by rw [ok0]; decide)
  have second : (if (!(s.ends0 r e0).copy15.ok) = true then s.ends0 r e0 else (s.ends0 r e0).ends15 r e15) =
      (s.ends0 r e0).ends15 r e15 := if_neg (by rw [c15, ok15]; decide)
  unfold State.nvEnded
  dsimp only
  rw [first, second, d0, c0, d15]

/-- The queue and the temperatures at the end of a write. -/
def State.nvTaken (s : State) (rest : List NvReq) (t0 t15 : BitVec 12) : State :=
  { s with nvq := rest, storeTemp := sset 0 (sset 0 s.storeTemp 0 t0) 15 t15 }

theorem nvsWriteComplete_ends {r : NvReq} {rest : List NvReq} (power : s.power = true) (free : s.takingOver = false)
    (goes : s.clk.stopped = false) (waits : s.nvq = r :: rest) (ok0 : s.copy0.ok = true) (ok15 : s.copy15.ok = true)
    (e0 e15 : CopyEnd) : exec (.nvsWriteComplete e0 e15) s =
      .next (if e0.ok || e15.ok then nvTurn 64 ((((s.nvTaken rest e0.temp e15.temp).ends0 r e0).ends15 r e15).nvAct r.act)
        else (r :: rest).foldl (fun y q => y.nvLost 3 q)
          { ((((s.nvTaken rest e0.temp e15.temp).ends0 r e0).ends15 r e15).moduleFatal (ErrInfo.plain 11 5)).fatalRuns with nvq := [] }) := by
  rw [← State.nvEnded_both (s := s.nvTaken rest e0.temp e15.temp) ok0 ok15 e0 e15]
  show execNvsWriteComplete e0 e15 s = _
  unfold execNvsWriteComplete
  rw [if_neg (by simp [power, free, goes]), waits]
  exact (apply_ite Host.Outcome.next _ _ _).symm

end

/-! ### The module's own records -/

section
variable {s : State}

theorem State.nvWaits_queue (none_ : s.mgmtWait = []) (p : NvReq → Bool) : s.nvWaits p = s.nvq.any p := by
  simp [State.nvWaits, none_]

/-- The service record of a tile. -/
def State.serviceReq (s : State) (t : Nat) : NvReq :=
  ⟨3, t, s.calPayload t, .service t ((s.fabT t).trims.map fun e => (e.1, e.2.code))⟩

/-- Service records go to the store for each tile that has moved and has none waiting. -/
theorem serviceRecords_queue (ts : List Nat) (nodup : ts.Nodup) {y : State} (open_ : y.NvOpen) (held : y.mgmtWait = [])
    (room : y.nvq.length + ts.length ≤ 32) (none_ : ∀ r ∈ y.nvq, r.kind = 3 → r.key ∉ ts) :
    (ts.foldl (fun y t => if (s.fabT t).trims = [] ∨ (y.nvWaits fun r => r.kind == 3 && r.key == t) then y
      else (y.nvWrite (s.serviceReq t)).2) y).nvq = y.nvq ++ (ts.filter fun t => (s.fabT t).trims ≠ []).map s.serviceReq := by
  induction ts generalizing y with
  | nil => simp
  | cons t ts ih =>
    rw [List.length_cons] at room
    have later : ∀ r ∈ y.nvq, r.kind = 3 → r.key ∉ ts := fun r hr h c => none_ r hr h (List.mem_cons_of_mem _ c)
    rw [List.foldl_cons]
    by_cases still : (s.fabT t).trims = []
    · rw [if_pos (.inl still), ih nodup.of_cons open_ held (by omega) later, List.filter_cons_of_neg (by simp [still])]
    · have waits : (y.nvWaits fun r => r.kind == 3 && r.key == t) = false := by
        rw [State.nvWaits_queue held, List.any_eq_false]
        intro r hr c
        rw [Bool.and_eq_true, beq_iff_eq, beq_iff_eq] at c
        exact none_ r hr c.1 (by rw [c.2]; exact List.mem_cons_self)
      obtain ⟨u, write, queued⟩ := open_.write (by omega) (s.serviceReq t)
      have others : ∀ r ∈ u.nvq, r.kind = 3 → r.key ∉ ts := by
        rw [queued.nvq]
        intro r hr
        rcases List.mem_append.1 hr with hr | hr
        · exact later r hr
        · rw [List.mem_singleton.1 hr]
          exact fun _ => (List.nodup_cons.1 nodup).1
      rw [if_neg (by simp [still, waits]), write, ih nodup.of_cons (open_.queued queued) (queued.mgmtWait.trans held)
        (by rw [queued.nvq, List.length_append, List.length_singleton]; omega) others, queued.nvq,
        List.filter_cons_of_pos (by simp [still])]
      simp

theorem serviceRecordInterval_queues (managed : s.unmanaged = false) (goes : s.clk.stopped = false) (open_ : s.NvOpen)
    (held : s.mgmtWait = []) (up : s.phase = 1) (moved : s.trimsMoved = true) (room : s.nvq.length ≤ 16)
    (none_ : ∀ r ∈ s.nvq, r.kind ≠ 3) : ∃ u, exec .serviceRecordInterval s = .next u ∧
      u.nvq = s.nvq ++ ((upto 16).filter fun t => (s.fabT t).trims ≠ []).map s.serviceReq := by
  refine ⟨_, if_neg (by simp [managed, goes, up, moved]), ?_⟩
  exact serviceRecords_queue _ List.nodup_range open_ held (by show s.nvq.length + (List.range 16).length ≤ 32; rw [List.length_range]; omega) fun r hr h => absurd h (none_ r hr)

theorem deadwoodRetry_queues (managed : s.unmanaged = false) (goes : s.clk.stopped = false) (open_ : s.NvOpen)
    (held : s.mgmtWait = []) (room : s.nvq.length +
      ((s.dwm.zipIdx).filter fun q => !q.1.stored && !(s.nvq.any fun r => r.act == .deadwood q.2)).length ≤ 32) :
    ∃ u, exec .deadwoodRetry s = .next u ∧ u.nvq = s.nvq ++
      ((s.dwm.zipIdx).filter fun q => !q.1.stored && !(s.nvq.any fun r => r.act == .deadwood q.2)).map
        fun q => ⟨5, 0, q.1.bytes, .deadwood q.2⟩ := by
  refine ⟨_, if_neg (by simp [managed, goes]), ?_⟩
  simp only [State.nvWaits_queue held]
  exact (open_.writes (fun q : DwEnt × Nat => ⟨5, 0, q.1.bytes, .deadwood q.2⟩) _ room).nvq

end

/-- Settles O53: a write joins the queue or is refused, its end reaches the copies, and the device's own records are queued. -/
theorem storeWrites : Obligations.StoreWrites := by
  refine ⟨fun s r => ⟨fun taking => if_pos taking, fun works room free temp => ?_, fun code free refused => s.nvWrite_refused free refused,
    fun no0 no15 => ?_, fun ok0 full => ?_, fun ok0 empty unchecked out => ?_⟩, fun s =>
    ⟨fun r rest t0 t15 power free goes waits ok0 ok15 => ?_, fun empty => ?_, fun r rest waits unchecked => ⟨fun temp =>
      nvTurn_warm waits unchecked (s.nvTempOk_iff.2 temp) 63, fun out => nvTurn_refused waits unchecked (State.nvTempOk_false out) 63⟩,
      fun c r whole => ⟨c.append_spec whole r, fun small => ?_⟩, fun managed goes => ⟨fun waits => ?_, fun works temp free held => ?_⟩⟩⟩
  · obtain ⟨u, write, queued⟩ := s.nvWrite_joins free (s.nvRefusal_none (r := r) works room fun e c => s.nvTempOk_iff.2 (temp e c))
    rw [write]
    exact ⟨rfl, queued.nvq, queued.log⟩
  · simp [State.nvRefusal, no0, no15]
  · rw [State.nvRefusal, if_neg (by simp [ok0]), if_pos full]
  · rw [State.nvRefusal, if_neg (by simp [ok0]), if_neg (by simp [empty]),
      if_pos (by simp [empty, unchecked, State.nvTempOk_false out])]
  · intro s1
    refine ⟨?_, ?_, ?_⟩
    · rw [nvsWriteComplete_ends power free goes waits ok0 ok15, if_pos (by rfl)]
      rfl
    · rw [nvsWriteComplete_ends power free goes waits ok0 ok15, if_pos (by rfl)]
      rfl
    · rw [nvsWriteComplete_ends power free goes waits ok0 ok15, if_neg (show ¬((⟨false, t0⟩ : CopyEnd).ok || (⟨false, t15⟩ : CopyEnd).ok) = true from Bool.false_ne_true)]
      rfl
  · rw [nvTurn, empty]
  · have same : ({ c.cur with recs := c.recs ++ [⟨r.kind, r.key, c.seq + 1, r.payload⟩] } : NvBank).gen = c.cur.gen := rfl
    have spec := NvCopy.compact_spec (c := c.setCur { c.cur with recs := c.recs ++ [⟨r.kind, r.key, c.seq + 1, r.payload⟩] })
    rw [NvCopy.setCur_cur same, NvCopy.setCur_bank same, same] at spec
    exact spec small
  · exact if_pos (by simp [waits, managed, goes])
  · have open_ : s.NvOpen := ⟨works, free, s.nvTempOk_iff.2 temp⟩
    exact ⟨serviceRecordInterval_queues managed goes open_ held, deadwoodRetry_queues managed goes open_ held⟩

end Sys2Proof.Machine

/-! PROOF. Beat flits, and the repair of a site's modules (R361 to R363, R366). -/

namespace Sys2Proof.Machine

/-! ### What the device notes: reports, deadwood entries and store writes -/

/-- From `s` to `t` there are only reports, deadwood entries and store writes asked for. -/
structure Notes (s t : State) : Prop where
  frame : t = { s with regs := t.regs, ports := t.ports, log := t.log, errWait := t.errWait, mgmtWait := t.mgmtWait
                       corrLast := t.corrLast, dwm := t.dwm, nvq := t.nvq, out := t.out }
  regs : ∀ a, ¬NvReg a → t.reg a = s.reg a

theorem Notes.trans {s t u : State} (h : Notes s t) (k : Notes t u) : Notes s u :=
  ⟨by rw [k.frame, h.frame], fun a ha => (k.regs a ha).trans (h.regs a ha)⟩

theorem Reports.notes {s t : State} (h : Reports NvReg s t) : Notes s t := ⟨by rw [h.frame], h.regs⟩

theorem Notes.gf {s t : State} (h : Notes s t) {a : Nat} (ha : ¬NvReg a) (f : Fld) : t.gf a f = s.gf a f :=
  State.gf_of_reg (h.regs a ha) f

/-- The registers of a tile and those of a tower are none of the device's own reports. -/
theorem NvReg.low {a : Nat} (h : NvReg a) : a < 0x1_0000_0000 := by
  rcases h with (⟨-, h⟩ | h | h) | h | h
  · omega
  all_goals rw [h]; decide

theorem Notes.nvWrite (s : State) (r : NvReq) : Notes s (s.nvWrite r).2 := by
  unfold State.nvWrite State.nvPut
  split
  · exact ⟨rfl, fun _ _ => rfl⟩
  · have shown : Reports NvReg s (if s.nvq = [] ∧ r.checked = false then s.nvWindow else s) := by
      split
      · exact .nvWindow s
      · exact .refl _ s
    generalize (if s.nvq = [] ∧ r.checked = false then s.nvWindow else s) = s0 at shown ⊢
    dsimp only
    split
    · exact (shown.trans (.nvRefused ..)).notes
    · exact shown.notes.trans ⟨rfl, fun _ _ => rfl⟩

theorem Notes.dead (s : State) (kind tile site sub index cause : Nat) : Notes s (s.dead kind tile site sub index cause) := by
  unfold State.dead
  dsimp only
  generalize s.dwm ++ _ = m
  have entry : Notes s { s with dwm := m } := ⟨rfl, fun _ _ => rfl⟩
  exact (entry.trans ((Reports.modCause _ 13).mono fun _ => .log).notes).trans (.nvWrite _ _)

theorem Notes.corrEnt (s : State) (l : LogEnt) : Notes s (s.corrEnt l) := by
  have status : LogReg Reg.MGT_ERR_STATUS := .inl (by decide)
  have first : Reports LogReg s (s.capture 0 l) := .capture s (by decide) l
  unfold State.corrEnt
  generalize s.capture 0 l = s1 at first ⊢
  dsimp only
  split
  · exact ((first.trans (.sfSat _ status _ _)).mono fun _ => .log).notes
  · have logged : Reports LogReg s (s1.append 0 l) := first.trans (.append s1 0 l)
    generalize s1.append 0 l = s2 at logged ⊢
    split
    · exact ((logged.mono fun _ => .log).notes).trans ⟨rfl, fun _ _ => rfl⟩
    · exact (logged.mono fun _ => .log).notes

theorem Notes.corrected (s : State) (e : ErrInfo) : Notes s (s.corrected e) := by
  unfold State.corrected
  split
  · exact ⟨rfl, fun _ _ => rfl⟩
  · exact .corrEnt s _

/-! ### The state of a site -/

@[simp] theorem SiteSt.mod_setMod_same (x : SiteSt) (m : Nat) (v : SiteMod) : (x.setMod m v).mod m = v := sget_sset_same _ _ _ _

theorem SiteSt.mod_setMod_ne (x : SiteSt) {m k : Nat} (v : SiteMod) (h : k ≠ m) : (x.setMod m v).mod k = x.mod k :=
  sget_sset_other _ _ _ _ h

theorem State.writes_one (s : State) (a : Nat) (f : Fld) (v : Nat) : s.writes [(a, f, v)] = s.sf a f v := rfl

theorem tower_div (t : Nat) {c : Nat} (hc : c < 6) : (6 * t + c) / 6 = t := by omega

theorem tower_mod (t : Nat) {c : Nat} (hc : c < 6) : (6 * t + c) % 6 = c := by omega

/-! ### Downward beat flits -/

theorem beatBody_fields {a b c d e : Nat} (ha : a < 2 ^ 64) (hb : b < 2 ^ 32) (hc : c < 4) (hd : d < 2 ^ 8) (he : e < 2 ^ 64) :
    let x := a + b * 2 ^ 64 + c * 2 ^ 96 + d * 2 ^ 104 + e * 2 ^ 128
    x % 2 ^ 64 = a ∧ natBits x 64 32 = b ∧ natBit x 96 = decide (c % 2 = 1) ∧ natBit x 97 = decide (c / 2 = 1) ∧
      natBits x 104 8 = d ∧ natBits x 128 64 = e := by
  simp only [natBits, natBit]
  have half : (a + b * 2 ^ 64 + c * 2 ^ 96 + d * 2 ^ 104 + e * 2 ^ 128) / 2 ^ 96 % 2 = c % 2 := by omega
  have top : (a + b * 2 ^ 64 + c * 2 ^ 96 + d * 2 ^ 104 + e * 2 ^ 128) / 2 ^ 97 % 2 = c / 2 := by omega
  exact ⟨by omega, by omega, by rw [half]; rfl, by rw [top]; rfl, by omega, by omega⟩

section
variable {s : State} {t c : Nat} (ht : t < 16) (hc : c < 6)

/-- The fields of the beat flit of a stand that runs. -/
theorem State.beatBody_running {i : Nat} (runs : s.stdState i = 2) :
    let body := s.beatBody i
    let x := s.stand i
    let yes := decide (x.gate = some true)
    let n := x.beat.toNat + boolNat yes
    let p := planPeriod s.planForce i
    body % 2 ^ 64 = x.edgeAt % 2 ^ 64 ∧ natBits body 64 32 = x.grid % 2 ^ 32 ∧ natBit body 96 = yes ∧
      natBit body 97 = decide (n % p ≥ p - 2) ∧ natBits body 128 64 = n % 2 ^ 64 ∧
      natBits body 104 8 = (if yes = true ∧ n % p = p - 2 then s.gf (Reg.STD_GATE_LEVEL i) Fld.STD_GATE_LEVEL_next_level
        else s.gf (Reg.STD_GATE_LEVEL i) Fld.STD_GATE_LEVEL_level) := by
  intro body x yes n p
  have first : (s.stdState i == 1) = false := by rw [runs]; rfl
  have run : s.inRun i = true := by rw [State.inRun, runs]; rfl
  have goes : ((s.stand i).gate == some true) = yes := Bool.beq_eq_decide_eq _ _
  clear_value yes
  have count : (if yes = true then 1 else 0) = boolNat yes := by cases yes <;> rfl
  have level : (if yes = true ∧ n % p = p - 2 then s.gf (Reg.STD_GATE_LEVEL i) Fld.STD_GATE_LEVEL_next_level
      else s.gf (Reg.STD_GATE_LEVEL i) Fld.STD_GATE_LEVEL_level) < 2 ^ 8 := by
    split
    · exact lt_trans (s.gf_lt _ _) (by decide)
    · exact lt_trans (s.gf_lt _ _) (by decide)
  have body_eq : body = x.edgeAt % 2 ^ 64 + x.grid % 2 ^ 32 * 2 ^ 64 + (boolNat yes + 2 * boolNat (decide (n % p ≥ p - 2))) * 2 ^ 96 +
      (if yes = true ∧ n % p = p - 2 then s.gf (Reg.STD_GATE_LEVEL i) Fld.STD_GATE_LEVEL_next_level
        else s.gf (Reg.STD_GATE_LEVEL i) Fld.STD_GATE_LEVEL_level) % 2 ^ 8 * 2 ^ 104 + n % 2 ^ 64 * 2 ^ 128 := by
    show s.beatBody i = _
    unfold State.beatBody
    simp only [first, run, if_true, Bool.false_eq_true, if_false, Bool.not_false, Bool.and_true, goes, count, Bool.and_eq_true,
      decide_eq_true_eq]
    rfl
  have code : boolNat yes + 2 * boolNat (decide (n % p ≥ p - 2)) < 4 ∧
      (boolNat yes + 2 * boolNat (decide (n % p ≥ p - 2))) % 2 = boolNat yes ∧
      (boolNat yes + 2 * boolNat (decide (n % p ≥ p - 2))) / 2 = boolNat (decide (n % p ≥ p - 2)) := by
    cases yes <;> cases decide (n % p ≥ p - 2) <;> decide
  obtain ⟨small, even, high⟩ := code
  have fields := beatBody_fields (Nat.mod_lt x.edgeAt (by decide)) (Nat.mod_lt x.grid (by decide)) small
    (Nat.mod_lt (if yes = true ∧ n % p = p - 2 then s.gf (Reg.STD_GATE_LEVEL i) Fld.STD_GATE_LEVEL_next_level
        else s.gf (Reg.STD_GATE_LEVEL i) Fld.STD_GATE_LEVEL_level) (by decide)) (Nat.mod_lt n (by decide))
  simp only [← body_eq] at fields
  obtain ⟨at_, grid, b96, b97, lvl, beat⟩ := fields
  rw [even] at b96
  rw [high] at b97
  refine ⟨at_, grid, b96.trans ?_, b97.trans ?_, beat, lvl.trans (Nat.mod_eq_of_lt level)⟩
  · cases yes <;> rfl
  · cases decide (n % p ≥ p - 2) <;> rfl

/-- A flit sent on a module changes what that module has not had acknowledged. -/
theorem State.site_sendFlit (s : State) (w m : Nat) (f : TxFlit) :
    (s.sendFlit w m f).site w = { s.site w with mods := ((s.sendFlit w m f).site w).mods } := by
  have is : (s.sendFlit w m f).site w = (s.site w).setMod m { (s.site w).mod m with
      txNext := ((s.site w).mod m).txNext + 1
      unacked := (((s.site w).mod m).unacked ++ [{ f with fseq := ((s.site w).mod m).txNext }]).drop
        ((((s.site w).mod m).unacked ++ [{ f with fseq := ((s.site w).mod m).txNext }]).length - 64) } :=
    State.site_setSite_same s w _
  rw [is]
  rfl

include ht hc

/-- A downward beat flit takes the die's clock, or moves it to the edge's time. -/
theorem beatFlitDown_sends (die : BitVec 64) {i : Nat} (up : s.linkState (6 * t + c) = 3) (in_ : s.tileOut t = false)
    (stand : s.standOfTower (6 * t + c) = some i) :
    let w := 6 * t + c
    let edge := s.beatBody i % 2 ^ 64
    let s1 := s.sendFlit w (s.leadModule w) ⟨0, 3, 0, 0, 0, BitVec.ofNat 1920 (s.beatBody i)⟩
    let s2 := ((s1.setSite w { s1.site w with dieGtc := BitVec.ofNat 64 edge, dieAt := BitVec.ofNat 64 edge, slipAt := some s.gtc }).linkEvent
      w (s.leadModule w) 1).sf (Reg.SITE_EVENTS t c) Fld.SITE_EVENTS_time_slip 1
    exec (.beatFlitDown t c die) s = .next (if edge + 1 < die.toNat ∨ die.toNat + 1 < edge
      then (if s.recent (s.site w).slipAt then s2.siteDown w else s2)
      else s1.setSite w { s1.site w with dieGtc := die, dieAt := BitVec.ofNat 64 edge }) := by
  intro w edge s1 s2
  have slip : s.recent (s1.site w).slipAt = s.recent (s.site w).slipAt := by rw [s.site_sendFlit w]
  show execBeatFlitDown t c die s = _
  unfold execBeatFlitDown
  rw [if_neg (by omega)]
  dsimp only
  rw [if_neg (by simp [up, in_]), stand]
  by_cases far : edge + 1 < die.toNat ∨ die.toNat + 1 < edge
  · rw [if_pos far, if_neg (by simp only [Bool.not_eq_true', Bool.or_eq_false_iff, decide_eq_false_iff_not]; exact fun c => far.elim c.2 c.1),
      ← slip]
    rfl
  · rw [if_neg far, if_pos (by
      simp only [Bool.not_eq_true', Bool.or_eq_false_iff, decide_eq_false_iff_not]
      exact ⟨fun c => far (.inr c), fun c => far (.inl c)⟩)]
    rfl

/-- An upward beat flit is the sample of the tower at the die's own time. -/
theorem beatFlitUp_samples {i : Nat} (up : s.linkState (6 * t + c) = 3) (in_ : s.tileOut t = false)
    (stand : s.standOfTower (6 * t + c) = some i) (run : s.inRun i = true) (done : Bool) (agent : AgentSample) :
    let w := 6 * t + c
    let late := ((upto 128).map (128 * w + ·)).filter s.notDone
    let v : SiteSample :=
      if s.openSite w then ⟨BitVec.ofNat 32 (s.stand i).grid, done, agent.bo, agent.late, if done then 0x3FFF else 128 * w + agent.lowest % 128, []⟩
      else ⟨BitVec.ofNat 32 (s.stand i).grid, late.isEmpty, !(((upto 128).map (128 * w + ·)).any s.boOpen), late.length, late.headD 0x3FFF, late⟩
    exec (.beatFlitUp t c done agent) s = .next ((s.gtcTo (s.sampleAt i w)).setSite w { s.site w with sample := some v }) := by
  intro w late v
  have kept (x : Nat) : (s.gtcTo x).notDone = s.notDone ∧ (s.gtcTo x).boOpen = s.boOpen ∧ (s.gtcTo x).openSite w = s.openSite w ∧
      (s.gtcTo x).site w = s.site w ∧ (s.gtcTo x).stand i = s.stand i := by
    unfold State.gtcTo
    split
    · exact ⟨rfl, rfl, rfl, rfl, rfl⟩
    · exact ⟨rfl, rfl, rfl, rfl, rfl⟩
  obtain ⟨notDone, boOpen, openSite, site, stand_⟩ := kept (s.sampleAt i w)
  show execBeatFlitUp t c done agent s = _
  unfold execBeatFlitUp
  rw [if_neg (by omega)]
  dsimp only
  rw [stand]
  dsimp only
  rw [if_neg (by simp [up, in_, run]), notDone, boOpen, openSite, site, stand_]

end

/-! ### The sample of a tower's cores -/

section
variable (s : State) (w : Nat)

theorem cores_of_tower (p : Nat → Bool) : (∀ g ∈ (upto 128).map (128 * w + ·), p g = false) ↔ ∀ k < 128, p (128 * w + k) = false := by
  simp [upto]

theorem late_isEmpty_iff : (((upto 128).map (128 * w + ·)).filter s.notDone).isEmpty = true ↔ ∀ k < 128, s.notDone (128 * w + k) = false := by
  rw [List.isEmpty_iff, List.filter_eq_nil_iff, ← cores_of_tower w s.notDone]
  exact forall₂_congr fun g _ => Bool.not_eq_true _ ▸ Iff.rfl

theorem boOpen_none_iff : (!(((upto 128).map (128 * w + ·)).any s.boOpen)) = true ↔ ∀ k < 128, s.boOpen (128 * w + k) = false := by
  rw [Bool.not_eq_true', List.any_eq_false, ← cores_of_tower w s.boOpen]
  exact forall₂_congr fun g _ => Bool.not_eq_true _ ▸ Iff.rfl

theorem mem_late_iff (g : Nat) : g ∈ ((upto 128).map (128 * w + ·)).filter s.notDone ↔ towerOf g = w ∧ s.notDone g = true := by
  have core : g ∈ (upto 128).map (128 * w + ·) ↔ towerOf g = w := by
    simp only [upto, List.mem_map, List.mem_range, towerOf]
    exact ⟨fun ⟨k, hk, e⟩ => by omega, fun e => ⟨g % 128, by omega, by omega⟩⟩
  rw [List.mem_filter, core]

theorem late_length : (((upto 128).map (128 * w + ·)).filter s.notDone).length =
    ((upto 128).filter fun k => s.notDone (128 * w + k)).length := by
  rw [List.filter_map, List.length_map]
  rfl

end

/-- The head of a filtered range is its first place that passes. -/
theorem filter_range_head {p : Nat → Bool} {n : Nat} (h : (List.range n).filter p ≠ []) :
    ∃ k < n, (∀ d, ((List.range n).filter p).headD d = k) ∧ p k = true ∧ ∀ j < k, p j = false := by
  obtain ⟨x, rest, is⟩ := List.exists_cons_of_ne_nil h
  have mem : x ∈ (List.range n).filter p := by rw [is]; exact List.mem_cons_self
  obtain ⟨hx, px⟩ := List.mem_filter.1 mem
  refine ⟨x, List.mem_range.1 hx, fun d => by rw [is]; rfl, px, fun j hj => Bool.eq_false_iff.2 fun pj => ?_⟩
  have memj : j ∈ (List.range n).filter p := List.mem_filter.2 ⟨List.mem_range.2 (lt_trans hj (List.mem_range.1 hx)), pj⟩
  have sorted : ((List.range n).filter p).Pairwise (· < ·) := List.Pairwise.filter _ List.pairwise_lt_range
  rw [is] at memj sorted
  rcases List.mem_cons.1 memj with rfl | later
  · exact absurd hj (lt_irrefl _)
  · exact absurd ((List.pairwise_cons.1 sorted).1 j later) (by omega)

theorem late_headD (s : State) (w : Nat) (h : (((upto 128).map (128 * w + ·)).filter s.notDone).isEmpty = false) :
    ∃ k < 128, (((upto 128).map (128 * w + ·)).filter s.notDone).headD 0x3FFF = 128 * w + k ∧ s.notDone (128 * w + k) = true ∧
      ∀ j < k, s.notDone (128 * w + j) = false := by
  rw [List.filter_map] at h ⊢
  have some_ : (List.range 128).filter (s.notDone ∘ (128 * w + ·)) ≠ [] := fun c => by
    rw [upto, c] at h
    simp at h
  obtain ⟨k, hk, head, late, first⟩ := filter_range_head some_
  refine ⟨k, hk, ?_, late, first⟩
  have := head 0
  rw [upto]
  cases is : (List.range 128).filter (s.notDone ∘ (128 * w + ·)) with
  | nil => exact absurd is some_
  | cons x rest =>
    rw [is] at this
    simpa using this

/-! ### A module that fails -/

theorem siteGuard_iff {t c m : Nat} : siteGuard t c m = true ↔ t < 16 ∧ c < 6 ∧ m < 17 := by
  simp [siteGuard, and_assoc]

theorem natBit_natPut_same (n i : Nat) (b : Bool) : natBit (natPut n i 1 (boolNat b)) i = b :=
  natBit_of ((natBits_natPut_same ..).trans (by cases b <;> rfl))

section
variable {s : State} {t c m : Nat} (guard : siteGuard t c m = true) (up : s.linkState (6 * t + c) = 3)
include guard up

/-- A module that fails at half width is out of service. -/
theorem siteModuleFailure_half (half : natBit (s.siteHalf (6 * t + c)) m = true) :
    exec (.siteModuleFailure t c m) s = .next ((s.halfFails (6 * t + c) m).sendCtl (6 * t + c) 7 [m, 2]) := by
  show execSiteModuleFailure t c m s = _
  rw [execSiteModuleFailure, if_neg (by simp [guard])]
  dsimp only
  rw [if_neg (by simp [up]), if_pos half]

omit up in
theorem halfFails_off : natBit ((s.halfFails (6 * t + c) m).siteHalf (6 * t + c)) m = false := by
  obtain ⟨-, -, hm⟩ := siteGuard_iff.1 guard
  have far : ∀ x y, ¬NvReg (Reg.SITE_HALF x y) := fun x y h => by
    have := h.low
    unfold Reg.SITE_HALF at this
    omega
  unfold State.halfFails
  dsimp only
  rw [State.siteHalf, (Notes.corrected _ _).gf (far _ _), (Notes.dead ..).gf (far _ _), State.gf_setSite, State.gf_sf_same _ _ _ _ (by decide)]
  have small : natPut (s.siteHalf (6 * t + c)) m 1 0 < 2 ^ 17 := natPut_lt (s.gf_lt _ _) (by omega)
  rw [Nat.mod_eq_of_lt (show _ < 2 ^ Fld.SITE_HALF_mask.w from small)]
  exact natBit_natPut_same _ m false

/-- A full-width module that fails leaves the map, and the unused spare joins it; what it had not had acknowledged is sent again. -/
theorem siteModuleFailure_full (not16 : m ≠ 16) (full : natBit (s.siteMask (6 * t + c)) m = true)
    (half : natBit (s.siteHalf (6 * t + c)) m = false) (noSpare : (s.site (6 * t + c)).tempSpare = false)
    (spare : ((s.site (6 * t + c)).mod 16).retraining = false) {joins : Bool}
    (join : (natBit (natPut (s.siteMask (6 * t + c)) m 1 0) 16 = false ∧ s.siteRepair (6 * t + c) Fld.SITE_REPAIR_spare_used = 0) ↔
      joins = true) :
    let w := 6 * t + c
    let x := s.site w
    let mask := natPut (s.siteMask w) m 1 0
    let u := ((((s.setSite w { x.setMod m { SiteMod.zero with retraining := true } with tempSpare := joins }).setSiteMask w
      (if joins then natPut mask 16 1 1 else mask)).dead 0x0A t c m (if joins then 16 else m) (if joins then 0 else 2)).corrected
        { siteErr 7 8 w with index := some m }).remapSite w
    u.fullModules w ≠ [] → exec (.siteModuleFailure t c m) s = .next ((u.sendAgain w (x.mod m).unacked).sendCtl w 7 [m, 2]) := by
  intro w x mask u goes
  have test : (m ≠ 16 ∧ (!natBit (natPut (s.siteMask (6 * t + c)) m 1 0) 16) = true ∧ (!(s.site (6 * t + c)).tempSpare) = true ∧
      (!((s.site (6 * t + c)).mod 16).retraining) = true ∧ s.siteRepair (6 * t + c) Fld.SITE_REPAIR_spare_used = 0) ↔ joins = true := by
    rw [← join]
    simp [not16, noSpare, spare]
  have temp : ((s.site (6 * t + c)).tempSpare && m != 16) = false := by rw [noSpare]; rfl
  show execSiteModuleFailure t c m s = _
  rw [execSiteModuleFailure, if_neg (by simp [guard])]
  dsimp only
  rw [if_neg (by simp [up]), if_neg (by simp [half]), if_neg (by simp [full])]
  simp only [test, temp, Bool.false_or, Bool.decide_eq_true]
  exact congrArg _ (if_neg goes)

end

/-! ### A module that comes back -/

section
variable {s : State} {t c m : Nat} (guard : siteGuard t c m = true) (up : s.linkState (6 * t + c) = 3)
  (retrains : ((s.site (6 * t + c)).mod m).retraining = true)
include guard

theorem moduleRetrainComplete_waits (still : s.clk.stopped = true) (how : Repair) : exec (.moduleRetrainComplete t c m how) s = .next s := by
  show execModuleRetrainComplete t c m how s = _
  rw [execModuleRetrainComplete, if_neg (by simp [guard])]
  exact if_pos (.inr (.inr still))

include up retrains

theorem moduleRetrainComplete_lane (goes : s.clk.stopped = false)
    (few : natBits (s.gf (Reg.SITE_REPAIR t c) Fld.SITE_REPAIR_used) (3 * m) 3 < 4) :
    let w := 6 * t + c
    let used := s.gf (Reg.SITE_REPAIR t c) Fld.SITE_REPAIR_used
    let n := natBits used (3 * m) 3
    exec (.moduleRetrainComplete t c m .lane) s = .next (((((((s.setSite w ((s.site w).setMod m SiteMod.zero)).sf (Reg.SITE_REPAIR t c)
      Fld.SITE_REPAIR_used (natPut used (3 * m) 3 (n + 1))).moduleBack w m).dead 9 t c m n 0).corrected
        { siteErr 7 8 w with index := some m }).remapSite w).sendCtl w 7 [m, 3]) := by
  intro w used n
  show execModuleRetrainComplete t c m .lane s = _
  rw [execModuleRetrainComplete, if_neg (by simp [guard])]
  dsimp only
  rw [if_neg (by simp [up, retrains, goes]), if_pos ⟨rfl, few⟩]

/-- At half width, or not at all. -/
theorem moduleRetrainComplete_partly (goes : s.clk.stopped = false) {how : Repair} (other : how ≠ .lane) :
    let w := 6 * t + c
    let s0 := s.setSite w ((s.site w).setMod m SiteMod.zero)
    let s1 := if m = 16 then s0.setSiteRepair w Fld.SITE_REPAIR_spare_used 1
      else if s.siteRepair w Fld.SITE_REPAIR_spare_used = 0 then s0.spareStays w else s0
    exec (.moduleRetrainComplete t c m how) s = .next ((((((s1.sf (Reg.SITE_HALF t c) Fld.SITE_HALF_mask
      (natPut (s1.gf (Reg.SITE_HALF t c) Fld.SITE_HALF_mask) m 1 (if how = .dead then 0 else 1))).dead 0x0A t c m m
        (1 - if how = .dead then 0 else 1)).corrected { siteErr 7 8 w with index := some m }).remapSite w).sendCtl w 7 [m, 3])) := by
  intro w s0 s1
  obtain ⟨-, hc, -⟩ := siteGuard_iff.1 guard
  have half : s1.gf (Reg.SITE_HALF t c) Fld.SITE_HALF_mask = s1.siteHalf w := by
    rw [State.siteHalf, tower_div t hc, tower_mod t hc]
  rw [half]
  show execModuleRetrainComplete t c m how s = _
  rw [execModuleRetrainComplete, if_neg (by simp [guard])]
  dsimp only
  rw [if_neg (by simp [up, retrains, goes]), if_neg (fun h => other h.1)]

end

section
variable {y : State} {w m : Nat}

theorem State.moduleBack_plain (not16 : m ≠ 16) (noSpare : (y.site w).tempSpare = false) :
    y.moduleBack w m = y.setSiteMask w (natPut (y.siteMask w) m 1 1) := by
  simp [State.moduleBack, not16, noSpare]

theorem State.moduleBack_spare (not16 : m ≠ 16) (spare : (y.site w).tempSpare = true) (others : (y.site w).othersOut m = false) :
    y.moduleBack w m = (y.setSiteMask w (natPut (y.siteMask w) m 1 1)).spareLeaves w := by
  simp [State.moduleBack, not16, spare, others]

theorem SiteSt.othersOut_setMod {x : SiteSt} {v : SiteMod} (alone : ∀ k < 16, k ≠ m → (x.mod k).retraining = false) :
    (x.setMod m v).othersOut m = false := by
  refine Bool.eq_false_iff.2 fun h => ?_
  obtain ⟨k, hk, out⟩ := List.any_eq_true.1 h
  rw [Bool.and_eq_true, bne_iff_ne] at out
  rw [x.mod_setMod_ne v out.1, alone k (List.mem_range.1 hk) out.1] at out
  exact absurd out.2 Bool.false_ne_true

end

/-- Settles O42: beat flits by their fields and the tower's cores, and each end of a module's repair. -/
theorem beatFlitsAndModules : Obligations.BeatFlitsAndModules := by
  constructor
  · intro s t c i die ht hc w up in_ stand x body edge s1
    refine ⟨fun runs => State.beatBody_running runs, fun lo hi => ?_, fun far => ?_, fun run done agent => ?_⟩
    · rw [beatFlitDown_sends ht hc die up in_ stand, if_neg (by omega)]
    · rw [State.writes_one, beatFlitDown_sends ht hc die up in_ stand, if_pos far]
    · refine ⟨_, beatFlitUp_samples ht hc up in_ stand run done agent, ?_, fun open_ => ?_, fun base => ?_⟩
      · split <;> rfl
      · rw [if_pos open_]
        exact ⟨rfl, rfl, rfl⟩
      · rw [if_neg (by rw [base]; exact Bool.false_ne_true)]
        exact ⟨late_isEmpty_iff s w, boOpen_none_iff s w, mem_late_iff s w, late_length s w, late_headD s w⟩
  · intro s t c m guard w x d err mask used n up
    refine ⟨fun half => ⟨siteModuleFailure_half guard up half, halfFails_off guard⟩, ?_,
      fun _ still how => moduleRetrainComplete_waits guard still how, ?_⟩
    · intro not16 full half noSpare spare y goes
      refine ⟨fun has u => ?_, fun free unused u => ?_⟩
      · exact siteModuleFailure_full guard up not16 full half noSpare spare (joins := false)
          ⟨fun c => absurd (has.symm.trans c.1) (by decide), fun c => absurd c (by decide)⟩ u
      · exact siteModuleFailure_full guard up not16 full half noSpare spare (joins := true) ⟨fun _ => rfl, fun _ => ⟨free, unused⟩⟩ u
    · intro retrains goes s0 s1 told
      rw [State.writes_one]
      intro lane
      have mask_ : lane.siteMask w = s.siteMask w := State.gf_sf_ne _ _ _ _ (by unfold Reg.SITE_MODULES Reg.SITE_REPAIR; omega)
      have site : lane.site w = x.setMod m SiteMod.zero := (State.site_sf ..).trans (State.site_setSite_same ..)
      refine ⟨moduleRetrainComplete_lane guard up retrains goes, fun not16 noSpare => ?_, fun not16 spare alone => ?_, ?_, ?_⟩
      · rw [State.moduleBack_plain not16 (by rw [site]; exact noSpare), mask_]
      · rw [State.moduleBack_spare not16 (by rw [site]; exact spare) (by rw [site]; exact SiteSt.othersOut_setMod alone), mask_]
      · exact moduleRetrainComplete_partly guard up retrains goes (by decide)
      · exact moduleRetrainComplete_partly guard up retrains goes (by decide)

end Sys2Proof.Machine

/-! PROOF. Flits, packet cells and control messages of a site link (R321, R322, R356 to R358, R360, R364, R365, R372). -/

namespace Sys2Proof.Machine

/-! ### Fields of a number made of parts -/

theorem natBits_add_high {a b k lo w : Nat} (h : lo + w ≤ k) : natBits (a + b * 2 ^ k) lo w = natBits a lo w := by
  rw [← natBits_mod (a + b * 2 ^ k) lo w k h, Nat.add_mul_mod_self_right, natBits_mod a lo w k h]

theorem natBits_add_low {a b k w : Nat} (h : a < 2 ^ k) : natBits (a + b * 2 ^ k) k w = b % 2 ^ w := by
  rw [natBits, Nat.add_mul_div_right _ _ (Nat.two_pow_pos k), Nat.div_eq_of_lt h, Nat.zero_add]

theorem natBit_add_high {a b k i : Nat} (h : i < k) : natBit (a + b * 2 ^ k) i = natBit a i := by
  have bits : natBits (a + b * 2 ^ k) i 1 = natBits a i 1 := natBits_add_high h
  rw [natBits, natBits, pow_one] at bits
  rw [natBit, natBit, bits]

theorem add_mul_two_pow_lt {a b k w : Nat} (ha : a < 2 ^ k) (hb : b < 2 ^ w) : a + b * 2 ^ k < 2 ^ (k + w) := by
  calc a + b * 2 ^ k < 2 ^ k + b * 2 ^ k := by omega
    _ = (b + 1) * 2 ^ k := by ring
    _ ≤ 2 ^ w * 2 ^ k := Nat.mul_le_mul_right _ hb
    _ = 2 ^ (k + w) := by rw [← Nat.pow_add, Nat.add_comm]

/-! ### Packet cells -/

/-- A packet's header, in the first 128 bits of its cell. -/
def pktHead (p : Pkt) : Nat :=
  p.kind.toNat + p.op.toNat * 2 ^ 3 + p.stand.toNat * 2 ^ 11 + p.dst.toNat * 2 ^ 15 + p.srcTile.toNat * 2 ^ 19 +
    p.src.toNat * 2 ^ 23 + p.seq.toNat * 2 ^ 37 + p.epoch.toNat * 2 ^ 53 + p.age.toNat * 2 ^ 56 + boolNat p.af * 2 ^ 60 +
    boolNat p.dg * 2 ^ 61 + boolNat p.bo * 2 ^ 62 + p.width.toNat * 2 ^ 63 + boolNat p.comb * 2 ^ 66 +
    p.count.toNat * 2 ^ 67 + p.beat.toNat * 2 ^ 77 + p.addr.toNat * 2 ^ 83

theorem pktBits_eq (p : Pkt) : pktBits p = pktHead p + p.payload.toNat * 2 ^ 128 := rfl

theorem pktHead_lt (p : Pkt) : pktHead p < 2 ^ 128 := by
  have af := boolNat_lt p.af
  have dg := boolNat_lt p.dg
  have bo := boolNat_lt p.bo
  have comb := boolNat_lt p.comb
  unfold pktHead
  omega

theorem pktBits_lt (p : Pkt) : pktBits p < 2 ^ 640 :=
  lt_of_lt_of_eq (add_mul_two_pow_lt (pktHead_lt p) p.payload.isLt) (congrArg (2 ^ ·) (show 128 + 512 = 640 from rfl))

/-- The first cell of a body is the packet whose bits it holds. -/
theorem cellOf_pktBits (p : Pkt) : cellOf (BitVec.ofNat 1920 (pktBits p)) 0 = p := by
  have whole : natBits (BitVec.ofNat 1920 (pktBits p)).toNat (640 * 0) 640 = pktBits p := by
    rw [BitVec.toNat_ofNat, natBits_mod _ _ _ _ (by decide), Nat.mul_zero, natBits, Nat.pow_zero, Nat.div_one,
      Nat.mod_eq_of_lt (pktBits_lt p)]
  have first (n : Nat) : BitVec.ofNat 3 n = BitVec.ofNat 3 (natBits n 0 3) := by
    refine BitVec.eq_of_toNat_eq ?_
    rw [BitVec.toNat_ofNat, BitVec.toNat_ofNat, natBits, Nat.pow_zero, Nat.div_one, Nat.mod_mod]
  have payload : natBits (pktBits p) 128 512 = p.payload.toNat :=
    (natBits_add_low (pktHead_lt p)).trans (Nat.mod_eq_of_lt p.payload.isLt)
  have af := boolNat_lt p.af
  have dg := boolNat_lt p.dg
  have bo := boolNat_lt p.bo
  have comb := boolNat_lt p.comb
  unfold cellOf
  dsimp only
  rw [whole, first, ofNat_natBits payload, pktBits_eq]
  obtain ⟨kind, op, stand, dst, srcTile, src, seq, epoch, age, paf, pdg, pbo, width, pcomb, count, beat, addr, pay⟩ := p
  congr 1
  case e_af | e_dg | e_bo | e_comb =>
    refine natBit_of ((natBits_add_high (by decide)).trans ?_)
    simp only [natBits, pktHead] at *
    omega
  all_goals
    refine ofNat_natBits ((natBits_add_high (by decide)).trans ?_)
    simp only [natBits, pktHead] at *
    omega

/-! ### Flits -/

theorem crcBits_lt (n : Nat) {c : Nat} (h : c < 2 ^ 32) : crcBits n c < 2 ^ 32 := by
  induction n generalizing c with
  | zero => exact h
  | succ n ih =>
    refine ih ?_
    split
    · exact Nat.xor_lt_two_pow (by omega) (by decide)
    · omega

theorem crc32c_lt (m : List Nat) : crc32c m < 2 ^ 32 :=
  Nat.xor_lt_two_pow (foldl_invariant (P := (· < 2 ^ 32)) (by decide) fun c b h =>
    crcBits_lt 8 (Nat.xor_lt_two_pow h (lt_trans (Nat.mod_lt _ (by decide)) (by decide)))) (by decide)

/-- A flit's header, in its first 64 bits. -/
def TxFlit.head (f : TxFlit) (ack : BitVec 8) (nak : Bool) : Nat :=
  f.kind.toNat + f.fseq.toNat * 2 ^ 4 + ack.toNat * 2 ^ 12 + boolNat nak * 2 ^ 20 + f.cells.toNat * 2 ^ 21 +
    f.stream.toNat * 2 ^ 24 + f.offset.toNat * 2 ^ 32

section
variable (g : TxFlit) (ack : BitVec 8) (nak : Bool)

theorem TxFlit.head_lt : g.head ack nak < 2 ^ 56 := by
  have := boolNat_lt nak
  unfold TxFlit.head
  omega

/-- The number of a flit: its header, its body and its check word. -/
theorem TxFlit.bits_toNat : ∃ low, low = g.head ack nak + g.body.toNat * 2 ^ 64 ∧ low < 2 ^ 1984 ∧
    (g.bits ack nak).toNat = low + crc32c (leBytes 248 low) * 2 ^ 1984 := by
  have low : g.head ack nak + g.body.toNat * 2 ^ 64 < 2 ^ 1984 :=
    lt_of_lt_of_eq (add_mul_two_pow_lt (lt_trans (g.head_lt ack nak) (by decide)) g.body.isLt)
      (congrArg (2 ^ ·) (show 64 + 1920 = 1984 from rfl))
  refine ⟨_, rfl, low, ?_⟩
  have whole : g.head ack nak + g.body.toNat * 2 ^ 64 + crc32c (leBytes 248 (g.head ack nak + g.body.toNat * 2 ^ 64)) * 2 ^ 1984 <
      2 ^ 2048 :=
    lt_trans (add_mul_two_pow_lt low (crc32c_lt _)) (Nat.pow_lt_pow_right (by decide) (by decide))
  exact (BitVec.toNat_ofNat ..).trans (Nat.mod_eq_of_lt whole)

/-- A flit of the base reads back as it was sent. -/
theorem Flit.ofBits_bits (ok : g.kind = 1 ∨ g.cells = 0) :
    Flit.ofBits (g.bits ack nak) = ⟨g.kind, g.fseq, ack, nak, g.cells, g.stream, g.offset, g.body, true⟩ := by
  obtain ⟨low, is, small, number⟩ := g.bits_toNat ack nak
  have hnak := boolNat_lt nak
  have crc : crc32c (leBytes 248 (g.bits ack nak).toNat) = natBits (g.bits ack nak).toNat 1984 32 := by
    rw [number, natBits_add_low small, Nat.mod_eq_of_lt (crc32c_lt _)]
    conv_lhs => rw [← leBytes_mod]
    rw [show 256 ^ 248 = 2 ^ (8 * 248) from (pow_mul 2 8 248).symm, show 8 * 248 = 1984 from rfl, Nat.add_mul_mod_self_right, Nat.mod_eq_of_lt small]
  have zeros : natBits (g.bits ack nak).toNat 2016 32 = 0 := by
    have top : low + crc32c (leBytes 248 low) * 2 ^ 1984 < 2 ^ 2016 :=
      lt_of_lt_of_eq (add_mul_two_pow_lt small (crc32c_lt _)) (congrArg (2 ^ ·) (show 1984 + 32 = 2016 from rfl))
    rw [number, natBits, Nat.div_eq_of_lt top, Nat.zero_mod]
  have head {lo w : Nat} (h : lo + w ≤ 64) : natBits (g.bits ack nak).toNat lo w = natBits (g.head ack nak) lo w := by
    rw [number, natBits_add_high (by omega), is, natBits_add_high h]
  have body : natBits (g.bits ack nak).toNat 64 1920 = g.body.toNat := by
    rw [number, natBits_add_high (by decide), is, natBits_add_low (lt_trans (g.head_lt ack nak) (by decide)), Nat.mod_eq_of_lt g.body.isLt]
  have field {lo w v : Nat} (h : lo + w ≤ 64) (is : natBits (g.head ack nak) lo w = v) : natBits (g.bits ack nak).toNat lo w = v :=
    (head h).trans is
  obtain ⟨kind, fseq, acked, naked, cells, stream, offset⟩ : natBits (g.head ack nak) 0 4 = g.kind.toNat ∧
      natBits (g.head ack nak) 4 8 = g.fseq.toNat ∧ natBits (g.head ack nak) 12 8 = ack.toNat ∧
      natBits (g.head ack nak) 20 1 = boolNat nak ∧ natBits (g.head ack nak) 21 3 = g.cells.toNat ∧
      natBits (g.head ack nak) 24 8 = g.stream.toNat ∧ natBits (g.head ack nak) 32 24 = g.offset.toNat := by
    unfold natBits TxFlit.head
    refine ⟨?_, ?_, ?_, ?_, ?_, ?_, ?_⟩ <;> omega
  have gap : natBits (g.bits ack nak).toNat 56 8 = 0 := by
    rw [head (by decide), natBits, Nat.div_eq_of_lt (g.head_lt ack nak), Nat.zero_mod]
  have good : (g.kind.toNat == 1 || g.cells.toNat == 0) = true := by
    rcases ok with e | e <;> simp [e]
  have first (n : Nat) : BitVec.ofNat 4 n = BitVec.ofNat 4 (natBits n 0 4) := by
    refine BitVec.eq_of_toNat_eq ?_
    rw [BitVec.toNat_ofNat, BitVec.toNat_ofNat, natBits, Nat.pow_zero, Nat.div_one, Nat.mod_mod]
  unfold Flit.ofBits
  dsimp only
  rw [first, ofNat_natBits (field (by decide) kind), ofNat_natBits (field (by decide) fseq), ofNat_natBits (field (by decide) acked),
    natBit_of (field (by decide) naked), ofNat_natBits (field (by decide) cells), ofNat_natBits (field (by decide) stream),
    ofNat_natBits (field (by decide) offset), ofNat_natBits body, crc, zeros, gap, field (by decide) kind, field (by decide) cells, good]
  simp

end

/-! ### What arrives on a module -/

section
variable {s : State} {t c m : Nat} {flit : SiteFlit}

theorem foldl_emit {α : Type} (f : α → Out) (l : List α) (s : State) :
    l.foldl (fun y a => y.emit (f a)) s = { s with out := s.out ++ l.map f } := by
  induction l generalizing s with
  | nil => simp
  | cons a l ih =>
    rw [List.foldl_cons, ih, List.map_cons]
    exact congrArg (fun o => ({ s with out := o } : State)) (List.append_assoc s.out [f a] (l.map f))

theorem State.placeFlit_stream {w : Nat} {f : Flit} (kind : f.kind = 2)
    (bound : (sget none (s.site w).streams f.stream.toNat).isSome = true) : s.placeFlit w f =
      s.setSite w { s.site w with frame := sset none (s.site w).frame (2 ^ 24 * f.stream.toNat + f.offset.toNat) (some f.body) } := by
  obtain ⟨v, is⟩ := Option.isSome_iff_exists.1 bound
  rw [State.placeFlit, if_neg (by rw [kind]; decide), if_pos kind]
  dsimp only
  rw [is]

theorem State.placeFlit_other {w : Nat} {f : Flit} (h1 : f.kind ≠ 1) (h2 : f.kind ≠ 2) : s.placeFlit w f = s := by
  rw [State.placeFlit, if_neg h1, if_neg h2]

/-- A site once a flit in order has been taken from a module. -/
def State.flitTaken (s : State) (w m : Nat) (f : Flit) : State :=
  s.setSite w ((s.site w).setMod m { (s.site w).mod m with
    rxNext := ((s.site w).mod m).rxNext + 1, wantReplay := false, unacked := unackedAfter ((s.site w).mod m).unacked f.ack })

theorem State.flitTaken_streams (s : State) (w m : Nat) (f : Flit) : ((s.flitTaken w m f).site w).streams = (s.site w).streams := by
  rw [State.flitTaken, State.site_setSite_same]
  rfl

theorem State.flitTaken_frame (s : State) (w m : Nat) (f : Flit) : ((s.flitTaken w m f).site w).frame = (s.site w).frame := by
  rw [State.flitTaken, State.site_setSite_same]
  rfl

variable (guard : siteGuard t c m = true) (up : s.linkState (6 * t + c) = 3) (on : natBit (s.siteMask (6 * t + c)) m = true)
  (in_ : s.tileOut t = false)
include guard up on in_

/-- A flit that is damaged or out of order asks for a replay, once. -/
theorem siteFlitReceive_replays
    (bad : (Flit.ofBits flit).ok = false ∨ (Flit.ofBits flit).fseq ≠ ((s.site (6 * t + c)).mod m).rxNext) :
    let w := 6 * t + c
    let x := s.site w
    let d := x.mod m
    exec (.siteFlitReceive t c m flit) s = .next (if d.wantReplay = true ∧ (Flit.ofBits flit).ok = true then s
      else ((s.setSite w (x.setMod m { d with wantReplay := true })).sendFlit w m TxFlit.idle).replay w m) := by
  intro w x d
  show execSiteFlitReceive t c m flit s = _
  rw [execSiteFlitReceive, if_neg (by simp [guard])]
  dsimp only
  rw [if_neg (by simp [up, on, in_]), if_pos (by simpa using bad)]
  simp only [Bool.and_eq_true]
  exact (apply_ite Host.Outcome.next _ _ _).symm

/-- A flit in order acknowledges what the base sent, and is placed. -/
theorem siteFlitReceive_takes (ok : (Flit.ofBits flit).ok = true)
    (order : (Flit.ofBits flit).fseq = ((s.site (6 * t + c)).mod m).rxNext) :
    let w := 6 * t + c
    let f := Flit.ofBits flit
    let s1 := s.flitTaken w m f
    exec (.siteFlitReceive t c m flit) s = .next ((if f.nak = true then
      ({ s1 with out := s1.out ++ (unackedAfter ((s.site w).mod m).unacked f.ack).map fun (q : TxFlit) =>
                    Out.flit w m (q.bits f.fseq false) } : State).replay w m else s1).placeFlit w f) := by
  intro w f s1
  show execSiteFlitReceive t c m flit s = _
  rw [execSiteFlitReceive, if_neg (by simp [guard])]
  dsimp only
  rw [if_neg (by simp [up, on, in_]), if_neg (by simp [ok, order]), foldl_emit]
  rfl

end

/-! ### Streams -/

section
variable {s : State} {t c : Nat}

/-- The lowest free stream number of a tower. -/
theorem State.streamNo_eq {w n : Nat} (hn : n < 255) (free : sget none (s.site w).streams n = none)
    (below : ∀ k < n, (sget none (s.site w).streams k).isSome = true) : s.streamNo w = some n := by
  rw [State.streamNo, upto, List.find?_range_eq_some]
  exact ⟨by rw [free]; rfl, List.mem_range.2 hn, fun k hk => by rw [← Option.not_isSome, below k hk]; rfl⟩

/-- The stream of the one bind that its stand's context makes at the coming edge. -/
theorem State.bindFor_one {recv : Bool} {off lines ring i k e : Nat} {beat : BitVec 64} {mask : BitVec 6}
    (stand : s.standOfTower (6 * t + c) = some i) (ctx : s.ctxOf t i = some k) (named : mask.getLsbD c = true)
    (acts : (s.ctx t k).acts = [if recv then .bindRecv e ⟨beat - 1, mask, off, lines, ring⟩ else .bindSend e ⟨beat - 1, mask, off, lines, ring⟩])
    (new : (s.site (6 * t + c)).hasStream ⟨recv, e, off, lines, ring, beat, false⟩ = false) :
    s.bindFor t c recv off lines ring beat = some ⟨recv, e, off, lines, ring, beat, false⟩ := by
  unfold State.bindFor
  dsimp only
  rw [stand, Option.bind_some, ctx]
  dsimp only
  rw [acts]
  cases recv <;> simp [Binding.stream, named, new]

variable (ht : t < 16) (hc : c < 6)
include ht hc

theorem streamBind_none {n : BitVec 8} {recv : Bool} {off lines ring : Nat} {beat : BitVec 64}
    (none_ : s.bindFor t c recv off lines ring beat = none) : exec (.streamBind t c n recv off lines ring beat) s = .next s := by
  show execStreamBind t c n recv off lines ring beat s = _
  rw [execStreamBind, if_neg (by omega), none_]

theorem streamBind_binds {n : BitVec 8} {recv : Bool} {off lines ring i k e : Nat} {beat : BitVec 64} {mask : BitVec 6}
    (up : s.linkState (6 * t + c) = 3) (circuits : s.gf (Reg.SITE_LINK_STATE t c) Fld.SITE_LINK_STATE_circuits = 1)
    (hn : n.toNat < 255) (free : sget none (s.site (6 * t + c)).streams n.toNat = none)
    (below : ∀ k < n.toNat, (sget none (s.site (6 * t + c)).streams k).isSome = true)
    (stand : s.standOfTower (6 * t + c) = some i) (ctx : s.ctxOf t i = some k) (named : mask.getLsbD c = true)
    (acts : (s.ctx t k).acts = [if recv then .bindRecv e ⟨beat - 1, mask, off, lines, ring⟩ else .bindSend e ⟨beat - 1, mask, off, lines, ring⟩])
    (new : (s.site (6 * t + c)).hasStream ⟨recv, e, off, lines, ring, beat, false⟩ = false) :
    exec (.streamBind t c n recv off lines ring beat) s =
      .next (((s.setStream (6 * t + c) n.toNat (some ⟨recv, e, off, lines, ring, beat, false⟩)).sendCtl (6 * t + c) 1
        [n.toNat, boolNat recv, off, lines, ring, beat.toNat])) := by
  have takes : s.streamsUp (6 * t + c) = true := by
    rw [State.streamsUp, tower_div t hc, tower_mod t hc, up, circuits]
    rfl
  show execStreamBind t c n recv off lines ring beat s = _
  rw [execStreamBind, if_neg (by omega), State.bindFor_one stand ctx named acts new]
  dsimp only
  rw [if_pos ⟨takes, State.streamNo_eq hn free below⟩]
  rfl

section
variable {n : BitVec 8} {v : Stream} {i k : Nat} (bound : sget none (s.site (6 * t + c)).streams n.toNat = some v)
  (stand : s.standOfTower (6 * t + c) = some i) (ctx : s.ctxOf t i = some k)
include bound stand ctx

theorem streamUnbind_tells (up : s.linkState (6 * t + c) = 3) (first : v.going = false)
    (ends : ∃ a ∈ (s.ctx t k).acts, a.frees v = true) : exec (.streamUnbind t c n) s =
      .next ((s.setStream (6 * t + c) n.toNat (some { v with going := true })).sendCtl (6 * t + c) 2 [n.toNat]) := by
  have any : ((s.ctx t k).acts.any fun a => a.frees v) = true := List.any_eq_true.2 ends
  show execStreamUnbind t c n s = _
  rw [execStreamUnbind, if_neg (by omega)]
  dsimp only
  rw [bound, stand, Option.bind_some, ctx]
  exact if_pos ⟨up, by rw [first]; rfl, any⟩

theorem streamUnbind_idle (stays : ∀ a ∈ (s.ctx t k).acts, a.frees v = false) : exec (.streamUnbind t c n) s = .next s := by
  have none_ : ((s.ctx t k).acts.any fun a => a.frees v) = false := by
    rw [List.any_eq_false]
    exact fun a ha => by rw [stays a ha]; exact Bool.false_ne_true
  show execStreamUnbind t c n s = _
  rw [execStreamUnbind, if_neg (by omega)]
  dsimp only
  rw [bound, stand, Option.bind_some, ctx]
  exact if_neg fun h => by rw [none_] at h; exact absurd h.2.2 Bool.false_ne_true

end

omit ht hc in
theorem State.freeStream_frees {w n : Nat} {v : Stream} (bound : sget none (s.site w).streams n = some v) (up : s.linkState w = 3)
    (first : v.going = false) : s.freeStream w n =
      if (s.site w).lost then s.setStream w n none else (s.setStream w n none).sendCtl w 2 [n] := by
  rw [State.freeStream, bound]
  dsimp only
  cases (s.site w).lost with
  | true => rw [if_neg (fun h => absurd h.2.2 (by decide)), if_pos rfl]
  | false => rw [if_pos ⟨up, by rw [first]; rfl, rfl⟩, if_neg Bool.false_ne_true]

/-! ### Images, starts and ends -/

theorem programImage_sends {src i : Nat} {e : CoreEnt} {p : ProgEnt} (up : s.linkState (6 * t + c) = 3)
    (stand : s.standOfTower (6 * t + c) = some i) (open_ : s.openSite (6 * t + c) = true) (starting : s.stdState i = 1)
    (source : src < s.gf (Reg.SITE_CENSUS3 (6 * t + c)) Fld.SITE_CENSUS3_sources)
    (core : (s.stand i).copy.cores.find? (fun q => q.g = 128 * (6 * t + c) + src) = some e)
    (prog : (s.stand i).copy.progs[e.prog]? = some p) :
    let w := 6 * t + c
    let x := s.site w
    let d := p.digest.toNat
    exec (.programImage t c src (32 * p.len)) s =
      .next (((s.setSite w { x with images := sset 0 x.images src (32 * p.len + 1) }).sendCtl w 3
        [w, src, 32 * p.len, d % 2 ^ 64, natBits d 64 64, natBits d 128 64, d / 2 ^ 192]).sendStream w 255 (32 * p.len)
          (leNat (s.bytesAt i p.addr.toNat (32 * p.len)))) := by
  intro w x d
  show execProgramImage t c src (32 * p.len) s = _
  rw [execProgramImage, if_neg (by omega)]
  dsimp only
  rw [stand]
  dsimp only
  rw [core, Option.bind_some, prog]
  exact if_pos ⟨open_, up, starting, source, rfl⟩

theorem standStart_tells {i : Nat} (hi : i < 16) (up : s.linkState (6 * t + c) = 3) (stand : s.standOfTower (6 * t + c) = some i)
    (run : s.inRun i = true) :
    let w := 6 * t + c
    let r := (s.stand i).copy
    exec (.standStart t c i) s = .next ((s.setSite w { s.site w with run := some ⟨i, r.bl, r.beatLen, r.start⟩, ended := none }).sendCtl w 4
      [i, r.bl.toNat, r.beatLen, r.start.toNat]) := by
  intro w r
  show execStandStart t c i s = _
  rw [execStandStart, if_neg (by omega)]
  exact if_pos ⟨up, stand, run⟩

theorem standEnd_tells (code : BitVec 8) (up : s.linkState (6 * t + c) = 3) (run : (s.site (6 * t + c)).run.isSome = true) :
    let w := 6 * t + c
    exec (.standEnd t c code) s = .next ((s.setSite w { s.site w with run := none, ended := some code, images := [], sample := none }).sendCtl
      w 5 [code.toNat]) := by
  intro w
  show execStandEnd t c code s = _
  rw [execStandEnd, if_neg (by omega)]
  exact if_pos ⟨up, run⟩

end

/-- Settles O40: flits and cells by their fields, what arrives by its order, and each control message. -/
theorem siteFlitsAndMessages : Obligations.SiteFlitsAndMessages := by
  refine ⟨fun g ack nak ok => Flit.ofBits_bits g ack nak ok, cellOf_pktBits, ?_, ?_⟩
  · intro s t c m flit guard w f x d rest s1 up on in_
    refine ⟨siteFlitReceive_replays guard up on in_, fun ok order plain => ?_, fun ok order nak kind => ?_⟩
    · have takes : exec (.siteFlitReceive t c m flit) s = .next ((s.flitTaken w m f).placeFlit w f) :=
        (siteFlitReceive_takes guard up on in_ ok order).trans
          (congrArg (fun y : State => Host.Outcome.next (y.placeFlit w f)) (if_neg fun c => Bool.false_ne_true (plain.symm.trans c)))
      refine ⟨fun kind bound => ?_, fun h1 h2 => ?_, fun kind => ?_⟩
      · rw [takes, State.placeFlit_stream kind (by rw [State.flitTaken_streams]; exact bound), State.flitTaken_frame]
        rfl
      · rw [takes, State.placeFlit_other h1 h2]
        rfl
      · rw [takes, State.placeFlit, if_pos kind]
        rfl
    · refine (siteFlitReceive_takes guard up on in_ ok order).trans (congrArg _ ?_)
      rw [State.placeFlit_other (by rw [kind]; decide) (by rw [kind]; decide), if_pos nak]
      rfl
  · intro s t c ht hc w x up
    refine ⟨fun n recv off lines ring beat => ⟨streamBind_none ht hc, ?_⟩, fun n v i k bound first stand ctx =>
      ⟨streamUnbind_tells ht hc bound stand ctx up first, streamUnbind_idle ht hc bound stand ctx, State.freeStream_frees bound up first⟩,
      fun src i e p stand open_ starting => programImage_sends ht hc up stand open_ starting,
      fun i hi stand run => standStart_tells ht hc hi up stand run, fun code run => standEnd_tells ht hc code up run⟩
    intro circuits hn free below i k e mask stand ctx named b v acts new
    exact streamBind_binds ht hc up circuits hn free below stand ctx named acts new

end Sys2Proof.Machine

/-! PROOF. BAR2, its size, and AtomicOps (R56, R57, R59, R400, R401). -/

namespace Sys2Proof.Machine

/-! ### The row bus of a host access -/

section
variable (s : State) (x : Place) (back : Bool)

theorem State.coreCount_effect (g e : Nat) : ∃ pm, ∀ m po, ({ s with mem := m, poison := po } : State).coreCount g e 1 =
    { s with pmc := pm, mem := m, poison := po } := by
  by_cases fenced : 1 = 0 ∨ (s.core g).fenced
  · exact ⟨_, fun m po => if_pos fenced⟩
  · exact ⟨(s.bump (s.coreCtr g e) 1).pmc, fun m po => if_neg fenced⟩

theorem State.passRow_effect (g : Nat) : ∃ rg, ∀ pm m po, ({ s with pmc := pm, mem := m, poison := po } : State).passRow g back =
    { s with pmc := pm, regions := rg, mem := m, poison := po } := by
  by_cases open_ : s.openSite (towerOf g) = true
  · exact ⟨_, fun pm m po => if_pos open_⟩
  · have is : s.passRow g back = _ := if_neg open_
    exact ⟨(s.passRow g back).regions, fun pm m po => by rw [is]; exact if_neg open_⟩

/-- A host access counts on the row bus and takes its turn there, whatever memory holds. -/
theorem State.busHost_effect : ∃ pm rg, ∀ m po, ({ s with mem := m, poison := po } : State).busHost x back =
    { s with pmc := pm, regions := rg, mem := m, poison := po } := by
  cases x with
  | data g o =>
    obtain ⟨pm, count⟩ := s.coreCount_effect g 34
    obtain ⟨rg, row⟩ := s.passRow_effect back g
    exact ⟨pm, rg, fun m po => (congrArg (State.passRow · g back) (count m po)).trans (row pm m po)⟩
  | prog g o =>
    obtain ⟨rg, row⟩ := s.passRow_effect back g
    exact ⟨s.pmc, rg, fun m po => row s.pmc m po⟩
  | _ => exact ⟨s.pmc, s.regions, fun _ _ => rfl⟩

variable {s x back}

theorem State.mem_busHost : (s.busHost x back).mem = s.mem := by
  obtain ⟨pm, rg, is⟩ := s.busHost_effect x back
  have here : s.busHost x back = _ := is s.mem s.poison
  rw [here]

theorem State.poison_busHost : (s.busHost x back).poison = s.poison := by
  obtain ⟨pm, rg, is⟩ := s.busHost_effect x back
  have here : s.busHost x back = _ := is s.mem s.poison
  rw [here]

theorem State.busHost_memory (m : List Host.Cell) (po : SMap Bool) :
    ({ s with mem := m, poison := po } : State).busHost x back = { s.busHost x back with mem := m, poison := po } := by
  obtain ⟨pm, rg, is⟩ := s.busHost_effect x back
  have here : s.busHost x back = _ := is s.mem s.poison
  rw [here, is]

/-- An access to a core's data memory is counted on its row bus. -/
theorem State.busHost_counts {g o : Nat} (in_ : (s.core g).fenced = false) :
    (s.busHost (.data g o) back).ctr (s.coreCtr g 34) = s.ctr (s.coreCtr g 34) + 1 := by
  have row (y : State) : (y.passRow g back).ctr (s.coreCtr g 34) = y.ctr (s.coreCtr g 34) := by
    unfold State.passRow
    split
    · rfl
    · exact State.ctr_setRegion ..
  have count : s.coreCount g 34 1 = s.bump (s.coreCtr g 34) 1 := if_neg (by simp [in_])
  show ((s.coreCount g 34 1).passRow g back).ctr _ = _
  rw [row, count]
  exact sget_sset_same _ _ _ _

end

/-! ### An access within one line -/

section
variable {s : State} {p off n a : Nat} {x : Place}

/-- The error record of a host access. -/
def State.barErr (s : State) (p off k : Nat) : ErrInfo := { ErrInfo.plain 8 k with detail := some p, addr := some (s.barAddr p off) }

theorem linePieces_one {b : Nat} (some_ : 0 < n) (line : b % 64 + n ≤ 64) : linePieces b (n / 64 + 2) n = [(b, n)] := by
  obtain ⟨k, rfl⟩ : ∃ k, n = k + 1 := ⟨n - 1, by omega⟩
  have whole : min (k + 1) (64 - b % 64) = k + 1 := by omega
  rw [linePieces, whole, Nat.sub_self]
  · rfl
  · omega

theorem State.barPieces_unseen (h : ¬(s.barOpen = true ∧ off + n ≤ (s.port p).bar2Size)) : s.barPieces p off n = none := by
  rw [State.barPieces, if_pos]
  by_cases open_ : s.barOpen = true
  · simp [open_, Nat.lt_of_not_le fun c => h ⟨open_, c⟩]
  · simp [open_]

theorem State.barPieces_line (seen : s.barOpen = true ∧ off + n ≤ (s.port p).bar2Size) (some_ : 0 < n)
    (line : s.barAddr p off % 64 + n ≤ 64) (place : s.barPlace p (s.barAddr p off) = some x) (room : n ≤ placeRoom x) :
    s.barPieces p off n = some [(x, n)] := by
  rw [State.barPieces, if_neg (by simp [seen.1]; omega), linePieces_one some_ line]
  simp [place, room]

variable (hp : p < 2) (up : s.portUp p = true) (d0 : (s.port p).d3 = false)
include hp up d0

theorem bar2ReadTimeout_ones : exec (.bar2ReadTimeout p off n) s =
    .next ((s.contained (s.barErr p off 6)).emit (.bytes p n (2 ^ (8 * n) - 1))) := by
  show execBar2ReadTimeout p off n s = _
  rw [execBar2ReadTimeout, if_neg (by omega), if_neg (by simp [up, d0])]
  rfl

theorem bar2Read_outside (none_ : s.barPieces p off n = none) : exec (.bar2Read p off n []) s =
    .next ((s.contained (s.barErr p off 3)).emit (.bytes p n (2 ^ (8 * n) - 1))) := by
  show execBar2Read p off n [] s = _
  rw [execBar2Read, if_neg (by omega), if_neg (by simp [up]), if_neg (by simp [d0]), none_]
  rfl

theorem bar2Write_long (v : BarStore) (long : (s.port p).maxPayload < n) :
    exec (.bar2Write p off n v) s = .next (s.contained (s.barErr p off 3)) := by
  show execBar2Write p off n v s = _
  rw [execBar2Write, if_neg (by omega), if_neg (by simp [up, d0]), if_neg (by omega)]
  rfl

section
variable (one : s.barPieces p off n = some [(x, n)])
include one

theorem bar2Read_lost (gone : s.reachable x = false) : exec (.bar2Read p off n []) s =
    .next ((s.contained (s.barErr p off 6)).emit (.bytes p n (2 ^ (8 * n) - 1))) := by
  show execBar2Read p off n [] s = _
  rw [execBar2Read, if_neg (by omega), if_neg (by simp [up]), if_neg (by simp [d0]), one]
  exact if_pos (by simp [gone])

theorem bar2Read_waits (there : s.reachable x = true) (held : s.placeHeld x true = true) : exec (.bar2Read p off n []) s = .next s := by
  show execBar2Read p off n [] s = _
  rw [execBar2Read, if_neg (by omega), if_neg (by simp [up]), if_neg (by simp [d0]), one]
  dsimp only
  rw [if_neg (by simp [there]), if_pos (by simp [held])]

/-- A read of a line returns its bytes, or all ones and a poisoned completion. -/
theorem bar2Read_returns (there : s.reachable x = true) (free : s.placeHeld x true = false) (at_ : placeAddr x = some a) :
    exec (.bar2Read p off n []) s = .next (if s.poisoned a = true then
      (((s.busHost x true).emit (.bytes p n (2 ^ (8 * n) - 1))).contained (s.barErr p off 0xF)).emit (.poisoned p)
    else (s.busHost x true).emit (.bytes p n (s.rd a n))) := by
  have poisoned : (s.busHost x true).poisoned a = s.poisoned a := by rw [State.poisoned, State.poison_busHost]; rfl
  have rd : (s.busHost x true).rd a n = s.rd a n := by rw [State.rd, State.mem_busHost]; rfl
  have joined : (s.busHost x true).barJoin [(x, n)] = if s.poisoned a = true then (2 ^ (8 * n) - 1, true) else (s.rd a n, false) := by
    simp only [State.barJoin, State.barData, at_, Option.getD_some, poisoned, rd, Nat.zero_mul, Nat.add_zero, Bool.or_false]
    rfl
  show execBar2Read p off n [] s = _
  rw [execBar2Read, if_neg (by omega), if_neg (by simp [up]), if_neg (by simp [d0]), one]
  dsimp only
  rw [if_neg (by simp [there]), if_neg (by simp [free])]
  simp only [List.filterMap_nil, List.foldl_nil, List.foldl_cons, List.filter_nil, joined]
  split <;> rfl

variable (short : n ≤ (s.port p).maxPayload) (v : BitVec 4096)
include short

theorem bar2Write_program (held : s.progHeld x = true) : exec (.bar2Write p off n ⟨v, []⟩) s = .next (s.contained (s.barErr p off 3)) := by
  show execBar2Write p off n ⟨v, []⟩ s = _
  rw [execBar2Write, if_neg (by omega), if_neg (by simp [up, d0]), if_pos short, one]
  exact if_pos (by simp [held])

theorem bar2Write_waits (data : s.progHeld x = false) (held : s.placeHeld x false = true) :
    exec (.bar2Write p off n ⟨v, []⟩) s = .next s := by
  show execBar2Write p off n ⟨v, []⟩ s = _
  rw [execBar2Write, if_neg (by omega), if_neg (by simp [up, d0]), if_pos short, one]
  dsimp only
  rw [if_neg (by simp [data]), if_pos (by simp [held])]

theorem bar2Write_puts (data : s.progHeld x = false) (free : s.placeHeld x false = false) :
    exec (.bar2Write p off n ⟨v, []⟩) s = .next (s.barPut p x n (v.toNat % 2 ^ (8 * n))) := by
  show execBar2Write p off n ⟨v, []⟩ s = _
  rw [execBar2Write, if_neg (by omega), if_neg (by simp [up, d0]), if_pos short, one]
  dsimp only
  rw [if_neg (by simp [data]), if_neg (by simp [free])]
  simp only [List.filterMap_nil, List.foldl_nil, List.filter_nil, Nat.xor_zero, Nat.and_zero, Nat.or_zero, allOnes,
    Nat.and_two_pow_sub_one_eq_mod, barPuts, Nat.mod_mod]

end

end

/-! ### What a write of a line leaves -/

section
variable {s : State} {p n a : Nat} {x : Place} {v : Nat}

theorem State.store_stores (within : n ≤ 64) (whole : s.poisoned a = false) :
    ∃ po, s.store a n v = { s with mem := memWrite s.mem a n v, poison := po } := by
  unfold State.store
  split
  · obtain rfl : n = 64 := by omega
    exact ⟨_, rfl⟩
  · rw [if_neg (by rw [whole]; exact Bool.false_ne_true)]
    exact ⟨_, rfl⟩

theorem Stores.of_mod {m m' : List Host.Cell} (h : Stores m m' a n (v % 2 ^ (8 * n))) : Stores m m' a n v :=
  ⟨by rw [h.1, Nat.pow_mul, Nat.mod_mod], h.2⟩

/-- What a write puts in memory where it lands. -/
theorem State.barPut_lands (within : n ≤ 64) (whole : s.poisoned a = false) (at_ : placeAddr x = some a) (lands : s.landing x = true) :
    ∃ m po, s.barPut p x n v = { s.busHost x false with mem := m, poison := po } ∧ Stores s.mem m a n v := by
  obtain ⟨po, stored⟩ := State.store_stores (v := v) within whole
  refine ⟨memWrite s.mem a n v, po, ?_, stores_memWrite ..⟩
  unfold State.barPut
  dsimp only
  rw [if_pos lands, at_, Option.getD_some, if_neg (by simp [whole]), stored]
  exact State.busHost_memory _ _

/-- Where memory has lost its contents, a write may be lost. -/
theorem State.barPut_may (within : n ≤ 64) (whole : s.poisoned a = false) (at_ : placeAddr x = some a) (gone : s.landing x = false) :
    Stores s.mem (s.barPut p x n v).mem a n v ∨ (s.barPut p x n v).mem = s.mem := by
  obtain ⟨po, stored⟩ := State.store_stores (s := s.takeBit.2) (v := v) within whole
  unfold State.barPut
  dsimp only
  rw [if_neg (by rw [gone]; exact Bool.false_ne_true), at_, Option.getD_some]
  cases s.takeBit.1 with
  | false => exact .inr rfl
  | true =>
    left
    rw [if_pos rfl, if_neg (fun c => absurd (whole.symm.trans c.2) Bool.false_ne_true), State.mem_busHost, stored]
    exact stores_memWrite ..

end

/-- Settles O45: an access of one line unfolded, with what its write leaves in memory. -/
theorem hostMemoryWindow : Obligations.HostMemoryWindow := by
  refine ⟨fun s p off n hp up d0 => ?_, fun s p hp up => ⟨?_, fun k hk => ?_⟩⟩
  · intro at' seen err
    refine ⟨bar2ReadTimeout_ones hp up d0, fun not => bar2Read_outside hp up d0 (State.barPieces_unseen not),
      fun long v => bar2Write_long hp up d0 v long, fun x a seen some_ line place at_ room => ?_⟩
    have one := State.barPieces_line seen some_ line place room
    refine ⟨fun there => ⟨fun held => bar2Read_waits hp up d0 one there held, fun free whole => ?_, fun free poisoned => ?_⟩,
      fun gone => bar2Read_lost hp up d0 one gone, fun v short => ⟨fun held => bar2Write_program hp up d0 one short v held,
      fun data held => bar2Write_waits hp up d0 one short v data held, fun data free whole => ?_,
      fun g o back is in_ => by rw [is]; exact State.busHost_counts in_⟩⟩
    · rw [bar2Read_returns hp up d0 one there free at_, if_neg (by rw [whole]; exact Bool.false_ne_true)]
    · rw [bar2Read_returns hp up d0 one there free at_, if_pos poisoned]
      rfl
    · refine ⟨_, bar2Write_puts hp up d0 one short v data free, ?_⟩
      cases lands : s.landing x with
      | true =>
        obtain ⟨m, po, is, stores⟩ := State.barPut_lands (p := p) (n := n) (v := v.toNat % 2 ^ (8 * n)) (by omega) whole at_ lands
        rw [is]
        exact ⟨.inl stores.of_mod, fun _ => rfl⟩
      | false =>
        exact ⟨(State.barPut_may (by omega) whole at_ lands).imp Stores.of_mod fun kept => ⟨rfl, kept⟩, fun c => absurd c Bool.false_ne_true⟩
  · show execAtomicopRequest p s = _
    rw [execAtomicopRequest, if_neg (by omega), if_pos up]
  · intro a s1
    have offered : [2 ^ 36, 2 ^ 37, 2 ^ 38, 2 ^ 39, 2 ^ 40, 2 ^ 41].contains (2 ^ (36 + k)) = true := by
      have : k = 0 ∨ k = 1 ∨ k = 2 ∨ k = 3 ∨ k = 4 ∨ k = 5 := by omega
      rcases this with rfl | rfl | rfl | rfl | rfl | rfl <;> rfl
    show execBar2Resize p (2 ^ (36 + k)) s = _
    rw [execBar2Resize, if_neg (by omega), if_neg (by rw [up, offered]; decide)]
    rfl

end Sys2Proof.Machine

/-! PROOF. A stack's temperature, hard repair and migrations (R305, R375, R380, R382, R384 to R387, R391). -/

namespace Sys2Proof.Machine

theorem State.writes_two (s : State) (q r : Nat × Fld × Nat) : s.writes [q, r] = (s.sf q.1 q.2.1 q.2.2).sf r.1 r.2.1 r.2.2 := rfl

/-! ### What leaves the memories as they are -/

/-- From `s` to `u` neither memory nor the state of a stack or of a tower SRAM has changed. -/
structure Quiet (s u : State) : Prop where
  mem : u.mem = s.mem
  poison : u.poison = s.poison
  hbm : u.hbm = s.hbm
  ts : u.ts = s.ts

section
variable {s t u : State}

theorem Quiet.refl (s : State) : Quiet s s := ⟨rfl, rfl, rfl, rfl⟩

theorem Quiet.trans (h : Quiet s t) (k : Quiet t u) : Quiet s u :=
  ⟨k.mem.trans h.mem, k.poison.trans h.poison, k.hbm.trans h.hbm, k.ts.trans h.ts⟩

theorem Quiet.setReg (s : State) (a : Nat) (v : Word) : Quiet s (s.setReg a v) := ⟨rfl, rfl, rfl, rfl⟩

theorem Quiet.sf (s : State) (a : Nat) (f : Fld) (v : Nat) : Quiet s (s.sf a f v) := .setReg s a _

theorem Quiet.sfSat (s : State) (a : Nat) (f : Fld) (n : Nat) : Quiet s (s.sfSat a f n) := .sf s a f _

theorem Notes.quiet (h : Notes s u) : Quiet s u := by
  constructor <;> rw [h.frame]

theorem Reports.quiet {R : Nat → Prop} (h : Reports R s u) : Quiet s u := by
  constructor <;> rw [h.frame]

theorem Quiet.foldl {α : Type} {f : State → α → State} (l : List α) (s : State) (h : ∀ y a, Quiet y (f y a)) : Quiet s (l.foldl f s) :=
  foldl_invariant (P := Quiet s) (.refl s) fun y a q => q.trans (h y a)

theorem Quiet.hbmS (h : Quiet s u) (j : Nat) : u.hbmS j = s.hbmS j := by rw [State.hbmS, h.hbm]; rfl

theorem Quiet.tsS (h : Quiet s u) (w : Nat) : u.tsS w = s.tsS w := by rw [State.tsS, h.ts]; rfl

theorem Quiet.poisoned (h : Quiet s u) (a : Nat) : u.poisoned a = s.poisoned a := by rw [State.poisoned, h.poison]; rfl

end

/-! ### A stack's temperature -/

/-- What a limit with 3 °C of hysteresis makes of a bit. -/
def hysteresis (v on was : Nat) : Nat := if v ≥ on then 1 else if v + 3 ≤ on then 0 else was

theorem hysteresis_lt {v on was : Nat} (h : was < 2) : hysteresis v on was < 2 := by
  unfold hysteresis
  split
  · omega
  · split <;> omega

theorem hysteresis_above {v on was : Nat} (h : on ≤ v) : hysteresis v on was = 1 := if_pos h

theorem hysteresis_below {v on was : Nat} (h : v + 3 ≤ on) : hysteresis v on was = 0 :=
  (if_neg (by omega)).trans (if_pos h)

theorem hysteresis_between {v on was : Nat} (h : v < on) (k : on < v + 3) : hysteresis v on was = was :=
  (if_neg (by omega)).trans (if_neg (by omega))

section
variable {s : State} {j : Nat} (hj : j < 32)
include hj

theorem hbmRefresh_stopped (found : HbmSeen) (still : s.clk.stopped = true) : exec (.hbmRefresh j found) s = .next s := by
  show execHbmRefresh j found s = _
  rw [execHbmRefresh, if_neg (by omega)]
  exact if_pos (.inr (.inr (.inr still)))

/-- A temperature reading of a stack that is not off or asleep. -/
theorem hbmRefresh_reads (found : HbmSeen) (goes : s.clk.stopped = false)
    (on : s.gf (Reg.HBM_STATE (j / 2) (j % 2)) Fld.HBM_STATE_state = 2 ∨ s.gf (Reg.HBM_STATE (j / 2) (j % 2)) Fld.HBM_STATE_state = 3 ∨
      s.gf (Reg.HBM_STATE (j / 2) (j % 2)) Fld.HBM_STATE_state = 5) :
    let a := Reg.HBM_STATE (j / 2) (j % 2)
    let e := Reg.HBM_ECC (j / 2) (j % 2)
    let temp := if found.stale then BitVec.ofNat 8 (s.gf a Fld.HBM_STATE_temp) else found.temp
    let lim := s.gf (Reg.HBM_CFG (j / 2) (j % 2)) Fld.HBM_CFG_throttle_c
    ∃ u, exec (.hbmRefresh j found) s = .next u ∧ u = { s with regs := u.regs } ∧ (∀ b, b ≠ a → b ≠ e → u.reg b = s.reg b) ∧
      u.gf e Fld.HBM_ECC_ondie = min (s.gf e Fld.HBM_ECC_ondie + found.ondie) (2 ^ Fld.HBM_ECC_ondie.w - 1) ∧
      u.gf a Fld.HBM_STATE_temp = temp.toNat ∧ u.gf a Fld.HBM_STATE_temp_stale = boolNat found.stale ∧
      u.gf a Fld.HBM_STATE_refresh_2x = hysteresis temp.toNat 85 (s.gf a Fld.HBM_STATE_refresh_2x) ∧
      u.gf a Fld.HBM_STATE_throttled = hysteresis temp.toNat lim (s.gf a Fld.HBM_STATE_throttled) ∧
      u.gf a Fld.HBM_STATE_state = s.gf a Fld.HBM_STATE_state := by
  intro a e temp lim
  have shown : (if found.stale then s.gf a Fld.HBM_STATE_temp else found.temp.toNat) = temp.toNat := by
    have small : s.gf a Fld.HBM_STATE_temp < 2 ^ 8 := s.gf_lt _ _
    cases h : found.stale with
    | true => simp only [temp, h, if_true, BitVec.toNat_ofNat, Nat.mod_eq_of_lt small]
    | false => simp only [temp, h, Bool.false_eq_true, if_false]
  have far : e ≠ a := by
    simp only [e, a, Reg.HBM_ECC, Reg.HBM_STATE]
    omega
  have does : exec (.hbmRefresh j found) s = .next (((((s.sf a Fld.HBM_STATE_temp temp.toNat).sf a Fld.HBM_STATE_temp_stale
      (boolNat found.stale)).sf a Fld.HBM_STATE_refresh_2x (hysteresis temp.toNat 85 (s.gf a Fld.HBM_STATE_refresh_2x))).sf a
        Fld.HBM_STATE_throttled (hysteresis temp.toNat lim (s.gf a Fld.HBM_STATE_throttled))).sfSat e Fld.HBM_ECC_ondie found.ondie) := by
    show execHbmRefresh j found s = _
    rw [execHbmRefresh, if_neg (by omega)]
    dsimp only
    rw [if_neg (by rcases on with h | h | h <;> rw [h, goes] <;> decide), shown]
    rfl
  have twice : hysteresis temp.toNat 85 (s.gf a Fld.HBM_STATE_refresh_2x) < 2 ^ Fld.HBM_STATE_refresh_2x.w := hysteresis_lt (s.gf_lt _ _)
  have throttled : hysteresis temp.toNat lim (s.gf a Fld.HBM_STATE_throttled) < 2 ^ Fld.HBM_STATE_throttled.w := hysteresis_lt (s.gf_lt _ _)
  clear_value temp lim a e
  refine ⟨_, does, ?_, fun b ha he => ?_, ?_, ?_, ?_, ?_, ?_, ?_⟩
  · unfold State.sfSat State.sf State.setReg
    rfl
  · rw [State.sfSat, State.reg_sf_ne _ _ _ he, State.reg_sf_ne _ _ _ ha, State.reg_sf_ne _ _ _ ha, State.reg_sf_ne _ _ _ ha,
      State.reg_sf_ne _ _ _ ha]
  · have same (y : State) (f : Fld) (v : Nat) : (y.sf a f v).gf e Fld.HBM_ECC_ondie = y.gf e Fld.HBM_ECC_ondie := State.gf_sf_ne _ _ _ _ far
    rw [State.sfSat, State.gf_sf_val (by decide) (lt_of_le_of_lt (Nat.min_le_right _ _) (by decide)), same, same, same, same]
  all_goals rw [State.sfSat, State.gf_sf_ne _ _ _ _ far.symm]
  · rw [State.gf_sf_apart (by decide) (by decide), State.gf_sf_apart (by decide) (by decide), State.gf_sf_apart (by decide) (by decide),
      State.gf_sf_val (by decide) temp.isLt]
  · rw [State.gf_sf_apart (by decide) (by decide), State.gf_sf_apart (by decide) (by decide),
      State.gf_sf_val (by decide) (by cases found.stale <;> decide)]
  · rw [State.gf_sf_apart (by decide) (by decide), State.gf_sf_val (by decide) twice]
  · rw [State.gf_sf_val (by decide) throttled]
  · rw [State.gf_sf_apart (by decide) (by decide), State.gf_sf_apart (by decide) (by decide), State.gf_sf_apart (by decide) (by decide),
      State.gf_sf_apart (by decide) (by decide)]

end

/-! ### Hard repair -/

section
variable {s : State} {j : Nat} (hj : j < 32)
include hj

theorem hardRepair_begins {row : Nat} (soft : row ∈ (s.hbmS j).soft) (idle : (s.hbmS j).hardNow = none) (stands : s.stackRuns j = false)
    (goes : s.clk.stopped = false) : exec (.hardRepair j row) s = .next (s.setHbm j { s.hbmS j with hardNow := some row }) := by
  show execHardRepair j row s = _
  rw [execHardRepair, if_neg (by omega)]
  exact if_pos ⟨List.contains_iff_mem.2 soft, idle, by rw [stands]; rfl, by rw [goes]; rfl⟩

theorem hardRepairComplete_ends {r : Nat} (now : (s.hbmS j).hardNow = some r) (goes : s.clk.stopped = false) :
    let x := s.hbmS j
    let sp := Reg.HBM_SPARE (j / 2) (j % 2)
    exec (.hardRepairComplete j) s = .next ((((s.setHbm j { x with hardNow := none, soft := x.soft.erase r, hard := sset 0 x.hard (rowBank r) (sget 0 x.hard (rowBank r) + 1) }).sf sp
      Fld.HBM_SPARE_soft_ppr (min (x.soft.erase r).length 255)).sfSat sp Fld.HBM_SPARE_hard_ppr 1).dead 0x0C (j / 2) (6 + j % 2)
        (rowBank r / 2 ^ 9) (r % 2 ^ 16) 0) := by
  intro x sp
  show execHardRepairComplete j s = _
  rw [execHardRepairComplete, if_neg (by omega)]
  dsimp only
  rw [if_neg (by rw [goes]; exact Bool.false_ne_true), now]

theorem hardRepair_stopped (still : s.clk.stopped = true) (row : Nat) : exec (.hardRepair j row) s = .next s := by
  show execHardRepair j row s = _
  rw [execHardRepair, if_neg (by omega)]
  exact if_neg (by simp [still])

theorem hardRepairComplete_stopped (still : s.clk.stopped = true) : exec (.hardRepairComplete j) s = .next s := by
  show execHardRepairComplete j s = _
  rw [execHardRepairComplete, if_neg (by omega)]
  dsimp only
  rw [if_pos still]

theorem migrationComplete_waits (h : s.stackAsleep j = true ∨ s.clk.stopped = true) (bad : List Nat) :
    exec (.migrationComplete j bad) s = .next s := by
  show execMigrationComplete j bad s = _
  rw [execMigrationComplete, if_neg (by omega)]
  dsimp only
  cases (s.hbmS j).migr with
  | none => rfl
  | some q => exact if_pos (by simpa using h)

end

theorem towerSramMigrationComplete_stopped {s : State} {z : TsEnd} (hw : z.w < 96) (still : s.clk.stopped = true) :
    exec (.towerSramMigrationComplete z) s = .next s := by
  show execTowerSramMigrationComplete z s = _
  rw [execTowerSramMigrationComplete, if_neg (by omega)]
  dsimp only
  cases (s.tsS z.w).migr with
  | none => rfl
  | some q => exact if_pos (by simp [still])

/-! ### Migrations of a stack -/

/-- From `s` to `u` a layer or a bank of the stack `j` has gone: the banks that waited for it outside `p` wait no longer. -/
structure MapsOut (j : Nat) (p : Nat → Bool) (s u : State) : Prop where
  mem : u.mem = s.mem
  poison : u.poison = s.poison
  waits : (u.hbmS j).waits = (s.hbmS j).waits.filter p
  migr : (u.hbmS j).migr = (s.hbmS j).migr
  hardNow : ∀ r, (u.hbmS j).hardNow = some r → (s.hbmS j).hardNow = some r

section
variable {s t u : State} {j : Nat} {p : Nat → Bool}

theorem MapsOut.quiet (h : MapsOut j p s t) (q : Quiet t u) : MapsOut j p s u := by
  refine ⟨q.mem.trans h.mem, q.poison.trans h.poison, ?_, ?_, ?_⟩
  · rw [q.hbmS]; exact h.waits
  · rw [q.hbmS]; exact h.migr
  · rw [q.hbmS]; exact h.hardNow

theorem Quiet.mapsOut (q : Quiet s t) (h : MapsOut j p t u) : MapsOut j p s u :=
  ⟨h.mem.trans q.mem, h.poison.trans q.poison, by rw [h.waits, q.hbmS], by rw [h.migr, q.hbmS], by rw [← q.hbmS]; exact h.hardNow⟩

theorem Quiet.allWait (q : Quiet s u) : MapsOut j (fun _ => true) s u :=
  ⟨q.mem, q.poison, by rw [q.hbmS, List.filter_true], by rw [q.hbmS], by rw [q.hbmS]; exact fun _ h => h⟩

/-- Rows that are fresh forget their repairs; the banks still wait. -/
theorem State.freshRows_mapsOut (s : State) (j : Nat) (fresh : Nat → Bool) : MapsOut j (fun _ => true) s (s.freshRows j fresh) := by
  have row (x : HbmSt) (y : State) (is : y = s.setHbm j x) (waits : x.waits = (s.hbmS j).waits) (migr : x.migr = (s.hbmS j).migr)
      (hard : ∀ r, x.hardNow = some r → (s.hbmS j).hardNow = some r) : MapsOut j (fun _ => true) s y := by
    subst is
    refine ⟨rfl, rfl, ?_, ?_, ?_⟩ <;> rw [State.hbmS_setHbm_same]
    · rw [waits, List.filter_true]
    · exact migr
    · exact hard
  unfold State.freshRows
  dsimp only
  refine MapsOut.quiet ?_ (Quiet.sf ..)
  exact row _ _ rfl rfl rfl fun r h => (Option.filter_eq_some_iff.1 h).1

theorem MapsOut.then (h : MapsOut j (fun _ => true) s t) (k : MapsOut j p t u) : MapsOut j p s u :=
  ⟨k.mem.trans h.mem, k.poison.trans h.poison, by rw [k.waits, h.waits, List.filter_true], k.migr.trans h.migr,
    fun r hr => h.hardNow r (k.hardNow r hr)⟩

theorem State.layerOut_mapsOut (s : State) (j l : Nat) : MapsOut j (fun k => decide (k / 2 ^ 9 ≠ l)) s (s.layerOut j l) := by
  have waits (y : State) : MapsOut j (fun k => decide (k / 2 ^ 9 ≠ l)) y
      (y.setHbm j { y.hbmS j with waits := (y.hbmS j).waits.filter fun k => k / 2 ^ 9 ≠ l }) := by
    refine ⟨rfl, rfl, ?_, ?_, ?_⟩ <;> rw [State.hbmS_setHbm_same]
    exact fun _ h => h
  have maps : Quiet s ((upto 32).foldl (fun y k => y.setReg (Reg.HBM_REMAP (j / 2) (j % 2) k) 0)
      (s.setReg (Reg.HBM_LAYER_MAP (j / 2) (j % 2)) (BitVec.ofNat 64
        (natPut (natPut (s.reg (Reg.HBM_LAYER_MAP (j / 2) (j % 2))).toNat (4 * l) 4 (s.layerNibble j 15)) 60 4 (s.layerNibble j l))))) :=
    (Quiet.setReg ..).trans (.foldl _ _ fun _ _ => .setReg ..)
  exact ((maps.mapsOut (State.freshRows_mapsOut ..)).then (waits _)).quiet
    ((Quiet.sf ..).trans ((Quiet.sf ..).trans (Notes.dead ..).quiet))

theorem State.bankOut_mapsOut (s : State) (j key : Nat) : MapsOut j (fun _ => true) s (s.bankOut j key) := by
  unfold State.bankOut
  dsimp only
  split
  · exact (Quiet.refl s).allWait
  · exact (State.freshRows_mapsOut ..).quiet ((Quiet.setReg ..).trans ((Quiet.sfSat ..).trans (Notes.dead ..).quiet))

end

/-- The lines of a migration's report that lie in what migrates. -/
def badHere (layer : Bool) (key : Nat) (bad : List Nat) : List Nat :=
  bad.filter fun o => decide (o < stackBytes) && (if layer then decide (natBits o 32 4 = key) else decide (hbmBank o = key))

/-- A line that the copy lost is poisoned, and named in the log. -/
def State.poisonLost (s : State) (j o : Nat) : State :=
  (s.hbmPoison j o).contained
    { ErrInfo.plain 3 0x0B with tile := some (j / 2), site := some (6 + j % 2), addr := some (j * 2 ^ 39 + o / 64 * 64) }

/-- A stack whose migration is over, before it maps its layer or bank out. -/
def State.migrated (s : State) (j : Nat) : State :=
  ((s.setHbm j { s.hbmS j with migr := none }).sf (Reg.HBM_STATE (j / 2) (j % 2)) Fld.HBM_STATE_migrating 0).sf
    (Reg.HBM_MIGRATE (j / 2) (j % 2)) Fld.HBM_MIGRATE_remaining 0

/-- The layer or the bank is mapped out. -/
def State.mappedOut (s : State) (j : Nat) (layer : Bool) (key : Nat) : State := if layer then s.layerOut j key else s.bankOut j key

section
variable {s : State} {j : Nat}

theorem State.poisoned_setPoison_same (s : State) (a : Nat) (b : Bool) : (s.setPoison a b).poisoned a = b := by
  unfold State.poisoned State.setPoison
  exact sget_sset_same _ _ _ _

theorem State.hbmPoison_spec (s : State) (j o : Nat) : (s.hbmPoison j o).mem = s.mem ∧ (s.hbmPoison j o).hbm = s.hbm ∧
    (s.hbmPoison j o).poisoned (j * 2 ^ 39 + o) = true := by
  have marked : (s.setPoison (j * 2 ^ 39 + o) true).poisoned (j * 2 ^ 39 + o) = true := State.poisoned_setPoison_same ..
  have counted : Quiet (s.setPoison (j * 2 ^ 39 + o) true) (s.hbmPoison j o) := by
    unfold State.hbmPoison
    dsimp only
    split
    · exact (Quiet.sfSat ..).trans (.sf ..)
    · exact (Quiet.sfSat ..).trans ((Quiet.sf ..).trans (.sf ..))
  exact ⟨counted.mem, counted.hbm, (counted.poisoned _).trans marked⟩

theorem State.poisonLost_spec (s : State) (j o : Nat) : (s.poisonLost j o).mem = s.mem ∧ (s.poisonLost j o).hbmS j = s.hbmS j ∧
    (s.poisonLost j o).poisoned (j * 2 ^ 39 + o) = true := by
  obtain ⟨mem, hbm, marked⟩ := s.hbmPoison_spec j o
  have quiet : Quiet (s.hbmPoison j o) (s.poisonLost j o) := (Reports.contained _ _).quiet
  exact ⟨quiet.mem.trans mem, (quiet.hbmS j).trans (by rw [State.hbmS, hbm]; rfl), (quiet.poisoned _).trans marked⟩

theorem State.migrated_spec (s : State) (j : Nat) : (s.migrated j).mem = s.mem ∧ (s.migrated j).poison = s.poison ∧
    (s.migrated j).hbmS j = { s.hbmS j with migr := none } := by
  have quiet : Quiet (s.setHbm j { s.hbmS j with migr := none }) (s.migrated j) := (Quiet.sf ..).trans (.sf ..)
  exact ⟨quiet.mem, quiet.poison, (quiet.hbmS j).trans (State.hbmS_setHbm_same ..)⟩

/-- Once mapped out, the banks of a layer that has gone wait no longer. -/
theorem State.mappedOut_mapsOut (s : State) (j : Nat) (layer : Bool) (key : Nat) :
    MapsOut j (fun b => !layer || decide (b / 2 ^ 9 ≠ key)) s (s.mappedOut j layer key) := by
  cases layer with
  | true => exact s.layerOut_mapsOut j key
  | false => exact s.bankOut_mapsOut j key

theorem migrationComplete_ends (hj : j < 32) {layer : Bool} {key : Nat} (under : (s.hbmS j).migr = some (layer, key))
    (awake : s.stackAsleep j = false) (goes : s.clk.stopped = false) (bad : List Nat) :
    let done := (((badHere layer key bad).foldl (fun y o => y.poisonLost j o) s).migrated j).mappedOut j layer key
    exec (.migrationComplete j bad) s =
      .next ((done.hbmS j).waits.foldl (fun y b => y.hbmBankRepair j b) (done.setHbm j { done.hbmS j with waits := [] })) := by
  intro done
  show execMigrationComplete j bad s = _
  rw [execMigrationComplete, if_neg (by omega)]
  dsimp only
  rw [under]
  dsimp only
  rw [if_neg (by simp [awake, goes])]
  rfl

/-- A line that the copy lost is poisoned once the migration is over. -/
theorem migrationComplete_poisons (hj : j < 32) {layer : Bool} {key o : Nat} (under : (s.hbmS j).migr = some (layer, key))
    (awake : s.stackAsleep j = false) (goes : s.clk.stopped = false) (none_ : (s.hbmS j).waits = []) (inside : o < stackBytes)
    (here : if layer then natBits o 32 4 = key else hbmBank o = key) :
    ∃ u, exec (.migrationComplete j [o]) s = .next u ∧ u.poisoned (j * 2 ^ 39 + o) = true ∧ u.mem = s.mem ∧ (u.hbmS j).migr = none := by
  have bad : badHere layer key [o] = [o] := by
    cases layer with
    | true =>
      replace here : natBits o 32 4 = key := here
      simp [badHere, inside, here]
    | false =>
      replace here : hbmBank o = key := here
      simp [badHere, inside, here]
  obtain ⟨mem, hbm, marked⟩ := s.poisonLost_spec j o
  obtain ⟨mem', poison', hbm'⟩ := (s.poisonLost j o).migrated_spec j
  have out := ((s.poisonLost j o).migrated j).mappedOut_mapsOut j layer key
  have waits : ((((s.poisonLost j o).migrated j).mappedOut j layer key).hbmS j).waits = [] := by
    rw [out.waits, hbm', hbm]
    show ((s.hbmS j).waits.filter _) = []
    rw [none_]
    rfl
  refine ⟨_, migrationComplete_ends hj under awake goes [o], ?_⟩
  rw [bad, List.foldl_cons, List.foldl_nil, waits, List.foldl_nil]
  refine ⟨?_, out.mem.trans (mem'.trans mem), ?_⟩
  · show sget false (((s.poisonLost j o).migrated j).mappedOut j layer key).poison _ = true
    rw [out.poison, poison']
    exact marked
  · rw [State.hbmS_setHbm_same]
    show ((((s.poisonLost j o).migrated j).mappedOut j layer key).hbmS j).migr = none
    rw [out.migr, hbm']

end

/-! ### The migration of a tower SRAM bank -/

section
variable {s : State} {w b k : Nat}

/-- A line of the tower SRAM that the copy lost is poisoned, and named in the log. -/
def State.tsLost (s : State) (w o : Nat) : State :=
  (s.tsPoison w o).contained
    { ErrInfo.plain 2 0x0B with tile := some (w / 6), site := some (w % 6), addr := some (tsAddr w (o / 64 * 64)) }

/-- The `q`-th remap register of a spare layer of a tower. -/
abbrev tsRemap (w b q : Nat) : Nat := Reg.CORE_TS_REMAP (w / 6) (w % 6) (8 * (b / 128) + q)

/-- The field of the spares in use of the layer of a bank. -/
abbrev tsUsed (b : Nat) : Fld := if b / 128 = 0 then Fld.CORE_TS_MAP_used2 else Fld.CORE_TS_MAP_used3

/-- Spares that served the bank before no longer do. -/
def State.tsFree (s : State) (w b : Nat) : State :=
  (upto 8).foldl (fun y q => if y.gf (tsRemap w b q) Fld.CORE_TS_REMAP_valid = 1 ∧ y.gf (tsRemap w b q) Fld.CORE_TS_REMAP_bank = b % 128 then
    y.sf (tsRemap w b q) Fld.CORE_TS_REMAP_valid 0 else y) s

/-- The spare `k` serves the bank. -/
def State.tsServe (s : State) (w b k : Nat) : State :=
  (((s.sf (tsRemap w b k) Fld.CORE_TS_REMAP_valid 1).sf (tsRemap w b k) Fld.CORE_TS_REMAP_bank (b % 128)).sfBit
    (Reg.CORE_TS_MAP (w / 6) (w % 6)) (tsUsed b) k)

/-- A tower SRAM whose migration is over, once its spare serves. -/
def State.tsDone (s : State) (w b : Nat) : State :=
  ((s.setTs w { s.tsS w with migr := none }).sf (Reg.CORE_TS_MIGRATE (w / 6) (w % 6)) Fld.CORE_TS_MIGRATE_remaining 0).dead 0x10 (w / 6)
    (w % 6) (2 + b / 128) (b % 128) 0

theorem State.mem_setTs (s : State) (w : Nat) (x : TsSt) : (s.setTs w x).mem = s.mem := rfl

theorem State.poisoned_setTs (s : State) (w : Nat) (x : TsSt) (a : Nat) : (s.setTs w x).poisoned a = s.poisoned a := rfl

/-- A migration that ends with the spare `k` in the bank's place. -/
def State.tsOver (s : State) (w b k : Nat) : State := ((s.tsFree w b).tsServe w b k).tsDone w b

theorem towerSramMigrationComplete_ends (hw : w < 96) (under : (s.tsS w).migr = some (b, k)) (alone : s.standOfTower w = none)
    (goes : s.clk.stopped = false) (bad : List Nat) :
    let s0 := (bad.filter fun o => decide (o < towerBytes) && decide (tsBank o = b)).foldl (fun y o => y.tsLost w o) s
    let done := s0.tsOver w b k
    exec (.towerSramMigrationComplete ⟨w, bad⟩) s =
      .next ((done.tsS w).waits.foldl (fun y q => y.tsReplace w q) (done.setTs w { done.tsS w with waits := [] })) := by
  intro s0 done
  show execTowerSramMigrationComplete ⟨w, bad⟩ s = _
  rw [execTowerSramMigrationComplete, if_neg (Nat.not_le.2 hw)]
  dsimp only
  rw [under, alone]
  dsimp only
  rw [if_neg (by simp [goes])]
  rfl

theorem State.tsPoison_spec (s : State) (w o : Nat) : (s.tsPoison w o).mem = s.mem ∧ (s.tsPoison w o).ts = s.ts ∧
    (s.tsPoison w o).poisoned (tsAddr w o) = true := by
  have marked : (s.setPoison (tsAddr w o) true).poisoned (tsAddr w o) = true := State.poisoned_setPoison_same ..
  have counted : Quiet (s.setPoison (tsAddr w o) true) (s.tsPoison w o) := by
    unfold State.tsPoison
    dsimp only
    split
    · exact (Quiet.sfSat ..).trans (.sf ..)
    · exact (Quiet.sfSat ..).trans ((Quiet.sf ..).trans (.sf ..))
  exact ⟨counted.mem, counted.ts, (counted.poisoned _).trans marked⟩

theorem State.tsLost_spec (s : State) (w o : Nat) : (s.tsLost w o).mem = s.mem ∧ (s.tsLost w o).tsS w = s.tsS w ∧
    (s.tsLost w o).poisoned (tsAddr w o) = true := by
  obtain ⟨mem, ts, marked⟩ := s.tsPoison_spec w o
  have quiet : Quiet (s.tsPoison w o) (s.tsLost w o) := (Reports.contained _ _).quiet
  exact ⟨quiet.mem.trans mem, (quiet.tsS w).trans (by rw [State.tsS, ts]; rfl), (quiet.poisoned _).trans marked⟩

theorem State.tsServe_quiet (s : State) (w b k : Nat) : Quiet s ((s.tsFree w b).tsServe w b k) := by
  have freed : Quiet s (s.tsFree w b) := .foldl _ _ fun y q => by
    split
    · exact .sf ..
    · exact .refl y
  exact freed.trans ((Quiet.sf ..).trans ((Quiet.sf ..).trans (.sf ..)))

theorem State.tsDone_spec (s : State) (w b : Nat) : (s.tsDone w b).mem = s.mem ∧ (s.tsDone w b).poison = s.poison ∧
    (s.tsDone w b).tsS w = { s.tsS w with migr := none } := by
  have quiet : Quiet (s.setTs w { s.tsS w with migr := none }) (s.tsDone w b) := (Quiet.sf ..).trans (Notes.dead ..).quiet
  exact ⟨quiet.mem, quiet.poison, (quiet.tsS w).trans (State.tsS_setTs_same ..)⟩

theorem State.tsOver_spec (s : State) (w b k : Nat) : (s.tsOver w b k).mem = s.mem ∧ (s.tsOver w b k).poison = s.poison ∧
    (s.tsOver w b k).tsS w = { s.tsS w with migr := none } := by
  obtain ⟨mem, poison, ts⟩ := ((s.tsFree w b).tsServe w b k).tsDone_spec w b
  have served := s.tsServe_quiet w b k
  exact ⟨mem.trans served.mem, poison.trans served.poison, ts.trans (by rw [served.tsS])⟩

/-- Where no bank waits, none is replaced at a migration's end. -/
theorem State.tsEnded_eq {s : State} (w b k : Nat) (none_ : (s.tsS w).waits = []) :
    (((s.tsOver w b k).tsS w).waits.foldl (fun y q => y.tsReplace w q)
      ((s.tsOver w b k).setTs w { (s.tsOver w b k).tsS w with waits := [] })) =
      (s.tsOver w b k).setTs w { s.tsS w with migr := none, waits := [] } := by
  obtain ⟨-, -, ts⟩ := s.tsOver_spec w b k
  have waits : ((s.tsOver w b k).tsS w).waits = [] := by rw [ts]; exact none_
  rw [waits, List.foldl_nil, ts]

/-- A line that the copy lost is poisoned once the migration is over. -/
theorem towerSramMigrationComplete_poisons (hw : w < 96) (under : (s.tsS w).migr = some (b, k)) (alone : s.standOfTower w = none)
    (goes : s.clk.stopped = false) (none_ : (s.tsS w).waits = []) {o : Nat} (inside : o < towerBytes) (here : tsBank o = b) :
    ∃ u, exec (.towerSramMigrationComplete ⟨w, [o]⟩) s = .next u ∧ u.poisoned (tsAddr w o) = true ∧ u.mem = s.mem ∧
      (u.tsS w).migr = none := by
  obtain ⟨mem, ts, marked⟩ := s.tsLost_spec w o
  have bad : ([o].filter fun o => decide (o < towerBytes) && decide (tsBank o = b)) = [o] := by
    rw [List.filter_singleton, decide_eq_true inside, decide_eq_true here]
    rfl
  obtain ⟨mem', poison', -⟩ := (s.tsLost w o).tsOver_spec w b k
  refine ⟨_, towerSramMigrationComplete_ends hw under alone goes [o], ?_⟩
  rw [bad, List.foldl_cons, List.foldl_nil, State.tsEnded_eq w b k (by rw [ts]; exact none_)]
  rw [State.poisoned_setTs, State.mem_setTs, State.tsS_setTs_same, State.poisoned, poison']
  exact ⟨marked, mem'.trans mem, rfl⟩

/-! ### The registers of a spare that serves -/

section
variable (hw : w < 96) (hk : k < 8)

theorem tsRemap_ne {q r : Nat} (h : q ≠ r) : tsRemap w b q ≠ tsRemap w b r := by
  unfold tsRemap Reg.CORE_TS_REMAP
  omega

theorem State.tsFree_remap (s : State) (w b : Nat) {q : Nat} (hq : q < 8) :
    ¬((s.tsFree w b).gf (tsRemap w b q) Fld.CORE_TS_REMAP_valid = 1 ∧ (s.tsFree w b).gf (tsRemap w b q) Fld.CORE_TS_REMAP_bank = b % 128) := by
  refine foldl_settles (P := fun y : State => ¬(y.gf (tsRemap w b q) Fld.CORE_TS_REMAP_valid = 1 ∧
    y.gf (tsRemap w b q) Fld.CORE_TS_REMAP_bank = b % 128)) (List.mem_range.2 hq) (fun y => ?_) fun y r _ ne kept => ?_
  · split
    · rw [State.gf_sf_val (by decide) (by decide)]
      exact fun c => absurd c.1 (by decide)
    · assumption
  · split
    · rw [State.gf_sf_ne _ _ _ _ (tsRemap_ne ne.symm), State.gf_sf_ne _ _ _ _ (tsRemap_ne ne.symm)]
      exact kept
    · exact kept

theorem State.gf_tsOver {a : Nat} (far : ¬NvReg a) (ne : a ≠ Reg.CORE_TS_MIGRATE (w / 6) (w % 6)) (f : Fld) :
    (s.tsOver w b k).gf a f = ((s.tsFree w b).tsServe w b k).gf a f := by
  unfold State.tsOver State.tsDone
  rw [(Notes.dead ..).gf far, State.gf_sf_ne _ _ _ _ ne, State.gf_setTs]

theorem State.gf_tsServe {y : State} {a : Nat} (ne : a ≠ Reg.CORE_TS_MAP (w / 6) (w % 6)) (f : Fld) : (y.tsServe w b k).gf a f =
    ((y.sf (tsRemap w b k) Fld.CORE_TS_REMAP_valid 1).sf (tsRemap w b k) Fld.CORE_TS_REMAP_bank (b % 128)).gf a f :=
  State.gf_sf_ne _ _ _ _ ne

include hw hk

/-- The spare serves the bank, is marked in use, and no other serves it. -/
theorem towerSramMigrationComplete_serves (under : (s.tsS w).migr = some (b, k)) (alone : s.standOfTower w = none)
    (goes : s.clk.stopped = false) (none_ : (s.tsS w).waits = []) :
    ∃ u, exec (.towerSramMigrationComplete ⟨w, []⟩) s = .next u ∧ (u.tsS w).migr = none ∧ u.mem = s.mem ∧
      u.gf (tsRemap w b k) Fld.CORE_TS_REMAP_valid = 1 ∧ u.gf (tsRemap w b k) Fld.CORE_TS_REMAP_bank = b % 128 ∧
      natBit (u.gf (Reg.CORE_TS_MAP (w / 6) (w % 6)) (tsUsed b)) k = true ∧
      ∀ q < 8, q ≠ k → ¬(u.gf (tsRemap w b q) Fld.CORE_TS_REMAP_valid = 1 ∧ u.gf (tsRemap w b q) Fld.CORE_TS_REMAP_bank = b % 128) := by
  obtain ⟨mem, -, -⟩ := s.tsOver_spec w b k
  refine ⟨_, towerSramMigrationComplete_ends hw under alone goes [], ?_⟩
  rw [List.filter_nil, List.foldl_nil, State.tsEnded_eq w b k none_, State.tsS_setTs_same, State.mem_setTs]
  refine ⟨rfl, mem, ?_⟩
  have low : ∀ a, 0x1_0000_0000 ≤ a → ¬NvReg a := fun a h c => absurd c.low (by omega)
  have far (q : Nat) : ¬NvReg (tsRemap w b q) := low _ (by unfold tsRemap Reg.CORE_TS_REMAP; omega)
  have far' : ¬NvReg (Reg.CORE_TS_MAP (w / 6) (w % 6)) := low _ (by unfold Reg.CORE_TS_MAP; omega)
  have ne (q : Nat) (hq : q < 8) : tsRemap w b q ≠ Reg.CORE_TS_MIGRATE (w / 6) (w % 6) := by
    unfold tsRemap Reg.CORE_TS_REMAP Reg.CORE_TS_MIGRATE
    omega
  have ne' : Reg.CORE_TS_MAP (w / 6) (w % 6) ≠ Reg.CORE_TS_MIGRATE (w / 6) (w % 6) := by
    unfold Reg.CORE_TS_MAP Reg.CORE_TS_MIGRATE
    omega
  have map (q : Nat) : tsRemap w b q ≠ Reg.CORE_TS_MAP (w / 6) (w % 6) := by
    unfold tsRemap Reg.CORE_TS_REMAP Reg.CORE_TS_MAP
    omega
  have fits : (tsUsed b).lo + (tsUsed b).w ≤ 64 ∧ (tsUsed b).w = 8 := by
    unfold tsUsed
    split <;> decide
  have small : b % 128 < 2 ^ Fld.CORE_TS_REMAP_bank.w := Nat.mod_lt _ (by decide)
  simp only [State.gf_setTs]
  refine ⟨?_, ?_, ?_, fun q hq other => ?_⟩
  · rw [State.gf_tsOver (far k) (ne k hk), State.gf_tsServe (map k), State.gf_sf_apart (by decide) (by decide),
      State.gf_sf_val (by decide) (by decide)]
  · rw [State.gf_tsOver (far k) (ne k hk), State.gf_tsServe (map k), State.gf_sf_val (by decide) small]
  · rw [State.gf_tsOver far' ne', State.tsServe, State.sfBit, State.gf_sf_val fits.1 (natPut_lt (State.gf_lt ..) (by omega))]
    exact natBit_natPut_same _ k true
  · rw [State.gf_tsOver (far q) (ne q hq), State.gf_tsOver (far q) (ne q hq), State.gf_tsServe (map q), State.gf_tsServe (map q),
      State.gf_sf_ne _ _ _ _ (tsRemap_ne other), State.gf_sf_ne _ _ _ _ (tsRemap_ne other),
      State.gf_sf_ne _ _ _ _ (tsRemap_ne other), State.gf_sf_ne _ _ _ _ (tsRemap_ne other)]
    exact s.tsFree_remap w b hq

end

end

/-- Settles O43: a stack's temperature by its hysteresis, its repairs and migrations by what they leave. -/
theorem stackAndTowerMemory : Obligations.StackAndTowerMemory := by
  constructor
  · intro s j found hj a e temp lim
    refine ⟨hbmRefresh_stopped hj found, fun goes on => ?_⟩
    obtain ⟨u, does, frame, others, ondie, shown, stale, twice, throttled, state⟩ := hbmRefresh_reads hj found goes on
    refine ⟨u, does, frame, others, ondie, shown, ?_, fun h => twice.trans (hysteresis_above h), fun h => twice.trans (hysteresis_below (Nat.add_le_add_right h 3)),
      fun h k => twice.trans (hysteresis_between k (Nat.add_lt_add_right h 3)), fun h => throttled.trans (hysteresis_above h),
      fun h => throttled.trans (hysteresis_below h), fun h k => throttled.trans (hysteresis_between k h), state⟩
    rw [stale]
    cases found.stale <;> rfl
  · intro s j hj x t sp
    refine ⟨fun still => ⟨hardRepair_stopped hj still, hardRepairComplete_stopped hj still, migrationComplete_waits hj (.inr still),
        fun z hw => towerSramMigrationComplete_stopped hw still⟩, fun row => hardRepair_begins hj,
      fun r now goes => hardRepairComplete_ends hj now goes, fun _ asleep => migrationComplete_waits hj (.inl asleep), ?_, ?_⟩
    · intro layer key under awake goes
      rw [State.writes_two]
      intro s1 done
      obtain ⟨-, -, at_⟩ := s.migrated_spec j
      have out : MapsOut j (fun b => !layer || decide (b / 2 ^ 9 ≠ key)) (s.migrated j) done := (s.migrated j).mappedOut_mapsOut j layer key
      refine ⟨migrationComplete_ends hj under awake goes [], ?_, fun r now => ?_, fun o none_ inside here =>
        migrationComplete_poisons hj under awake goes none_ inside here⟩
      · rw [out.waits, at_]
      · have := out.hardNow r now
        rw [at_] at this
        exact this
    · intro w b k hw under hb hk none_ alone goes
      refine ⟨fun o inside here => towerSramMigrationComplete_poisons hw under alone goes none_ inside here, ?_⟩
      have used : tsUsed b = if b < 128 then Fld.CORE_TS_MAP_used2 else Fld.CORE_TS_MAP_used3 := by
        unfold tsUsed
        by_cases h : b < 128
        · rw [if_pos (by omega), if_pos h]
        · rw [if_neg (by omega), if_neg h]
      rw [← used]
      exact towerSramMigrationComplete_serves hw hk under alone goes none_

end Sys2Proof.Machine

/-! PROOF. The error log, samples and congestion maps (R480, R484 to R488, R492, R496 to R501, R508). -/

namespace Sys2Proof.Machine

/-! ### A contained error -/

section
variable {s : State} {e : ErrInfo}

theorem State.contained_waits (taking : s.takingOver = true) :
    s.contained e = { s with errWait := s.errWait ++ [(1, s.logEnt 1 e)] } := if_pos taking

theorem State.contained_logs (free : s.takingOver = false) : s.contained e = (s.capture 1 (s.logEnt 1 e)).append 1 (s.logEnt 1 e) :=
  if_neg (by rw [free]; exact Bool.false_ne_true)

/-- A tile's clock lies within one tick of the module's. -/
theorem State.gtcAt_near (t : Option Nat) (small : s.gtc ≠ BitVec.allOnes 64) :
    (s.gtcAt t).toNat ≤ s.gtc.toNat + 1 ∧ s.gtc.toNat ≤ (s.gtcAt t).toNat + 1 := by
  have below : s.gtc.toNat + 1 < 2 ^ 64 := by
    have lt := s.gtc.isLt
    have ne : s.gtc.toNat ≠ 2 ^ 64 - 1 := fun c => small (BitVec.eq_of_toNat_eq (c.trans (BitVec.toNat_allOnes ..).symm))
    omega
  unfold State.gtcAt
  split
  · omega
  · omega
  · split
    · omega
    · next h =>
      have pos : s.gtc.toNat ≠ 0 := fun c => h (.inl (BitVec.eq_of_toNat_eq c))
      split
      · rw [BitVec.toNat_add, show (1 : Word).toNat = 1 from rfl, Nat.mod_eq_of_lt below]
        omega
      · rw [BitVec.toNat_sub, show (1 : Word).toNat = 1 from rfl]
        omega

/-! ### What a cause of the module shows at a port -/

theorem State.modCauseOn_sets {p b : Nat} (up : (s.port p).inReset = false) (hb : b < 19) :
    natBit ((s.modCauseOn p b).gf (Reg.HIF_MOD_INT p) Fld.HIF_MOD_INT_cause) b = true := by
  have set : natBit ((s.sfBit (Reg.HIF_MOD_INT p) Fld.HIF_MOD_INT_cause b).gf (Reg.HIF_MOD_INT p) Fld.HIF_MOD_INT_cause) b = true := by
    rw [State.sfBit, State.gf_sf_val (by decide) (natPut_lt (State.gf_lt ..) (show b + 1 ≤ Fld.HIF_MOD_INT_cause.w from hb))]
    exact natBit_natPut_same _ b true
  unfold State.modCauseOn
  rw [if_neg (by rw [up]; exact Bool.false_ne_true)]
  dsimp only
  split
  · rw [(Reports.request (R := fun _ => False) _ p b).gf id]
    exact set
  · exact set

theorem State.modCause_sets {p b : Nat} (hp : p < 2) (up : (s.port p).inReset = false) (hb : b < 19) :
    natBit ((s.modCause b).gf (Reg.HIF_MOD_INT p) Fld.HIF_MOD_INT_cause) b = true := by
  have : p = 0 ∨ p = 1 := by omega
  rcases this with rfl | rfl
  · have other : ((s.modCauseOn 0 b).modCauseOn 1 b).gf (Reg.HIF_MOD_INT 0) Fld.HIF_MOD_INT_cause =
        (s.modCauseOn 0 b).gf (Reg.HIF_MOD_INT 0) Fld.HIF_MOD_INT_cause :=
      (Reports.modCauseOn (R := (· = Reg.HIF_MOD_INT 1)) _ rfl b).gf (by decide) _
    rw [State.modCause, other]
    exact State.modCauseOn_sets up hb
  · refine State.modCauseOn_sets ?_ hb
    rw [State.port_modCauseOn_ne (by decide)]
    exact up

end

/-! ### The log and the first capture -/

section
variable (s : State) (l : LogEnt)

theorem State.capture_log (cls : Nat) (h : cls < 4) : (s.capture cls l).gf Reg.MGT_ERR_STATUS = s.gf Reg.MGT_ERR_STATUS ∧
    (s.capture cls l).log = s.log := by
  have far : ∀ w, Reg.MGT_ERR_STATUS ≠ Reg.MGT_ERR_FIRST cls w := fun w => by unfold Reg.MGT_ERR_STATUS Reg.MGT_ERR_FIRST; omega
  have ctl : Reg.MGT_ERR_STATUS ≠ Reg.MGT_ERR_FIRST_CTL cls := by unfold Reg.MGT_ERR_STATUS Reg.MGT_ERR_FIRST_CTL; omega
  have words : ((upto 4).foldl (fun a w => a.setReg (Reg.MGT_ERR_FIRST cls w) (l.word w)) s).reg Reg.MGT_ERR_STATUS =
      s.reg Reg.MGT_ERR_STATUS := foldl_reg_ne fun y w _ => State.reg_setReg_ne y _ (far w)
  have log : ((upto 4).foldl (fun a w => a.setReg (Reg.MGT_ERR_FIRST cls w) (l.word w)) s).log = s.log :=
    foldl_invariant (P := fun y : State => y.log = s.log) rfl fun y _ kept => (State.setReg_log y _ _).trans kept
  unfold State.capture
  dsimp only
  split
  · exact ⟨funext fun f => State.gf_sf_ne _ _ _ _ ctl, State.sf_log ..⟩
  · exact ⟨funext fun f => (State.gf_sf_ne _ _ _ _ ctl).trans (State.gf_of_reg words f), (State.sf_log ..).trans log⟩

/-- The first capture takes the entry's words. -/
theorem State.capture_first (valid : s.gf (Reg.MGT_ERR_FIRST_CTL 1) Fld.MGT_ERR_FIRST_CTL_valid = 0) :
    (s.capture 1 l).reg (Reg.MGT_ERR_FIRST 1 0) = l.gtc := by
  unfold State.capture
  dsimp only
  rw [if_neg (by rw [valid]; decide), State.reg_sf_ne _ _ _ (by decide)]
  refine foldl_settles (P := fun y : State => y.reg (Reg.MGT_ERR_FIRST 1 0) = l.word 0) (List.mem_range.2 (show 0 < 4 by decide))
    (fun y => State.reg_setReg_same ..) fun y w _ ne kept => (State.reg_setReg_ne y _ ?_).trans kept
  unfold Reg.MGT_ERR_FIRST
  omega

/-- A capture that stands is kept, and shows that there was more. -/
theorem State.capture_more (valid : s.gf (Reg.MGT_ERR_FIRST_CTL 1) Fld.MGT_ERR_FIRST_CTL_valid = 1) :
    (s.capture 1 l).gf (Reg.MGT_ERR_FIRST_CTL 1) Fld.MGT_ERR_FIRST_CTL_more = 1 ∧
      ∀ w < 4, (s.capture 1 l).reg (Reg.MGT_ERR_FIRST 1 w) = s.reg (Reg.MGT_ERR_FIRST 1 w) := by
  unfold State.capture
  rw [if_pos valid]
  refine ⟨State.gf_sf_val (by decide) (by decide), fun w hw => State.reg_sf_ne _ _ _ ?_⟩
  unfold Reg.MGT_ERR_FIRST Reg.MGT_ERR_FIRST_CTL
  omega

variable {s l}

/-- A place of the log is open: the entry goes there. -/
theorem State.append_room (room : s.log.length < 56) : s.append 1 l = State.modCause { s with log := s.log ++ [l] } 1 := by
  simp [State.append, room]

theorem State.append_full (full : 56 ≤ s.log.length) :
    s.append 1 l = (s.sfSat Reg.MGT_ERR_STATUS Fld.MGT_ERR_STATUS_lost_cont 1).modCause 3 := by
  simp [State.append, Nat.not_lt.2 full, lostFld]

/-- Appending to the log leaves the captures. -/
theorem State.append_capture {a : Nat} (h : a ≠ Reg.MGT_ERR_STATUS ∧ a ≠ Reg.HIF_MOD_INT 0 ∧ a ≠ Reg.HIF_MOD_INT 1) :
    (s.append 1 l).reg a = s.reg a := by
  obtain ⟨status, int0, int1⟩ := h
  have cause (y : State) (b : Nat) : (y.modCause b).reg a = y.reg a :=
    ((Reports.modCauseOn (R := (· = Reg.HIF_MOD_INT 1)) _ rfl b).regs a int1).trans
      ((Reports.modCauseOn (R := (· = Reg.HIF_MOD_INT 0)) y rfl b).regs a int0)
  by_cases room : s.log.length < 56
  · rw [State.append_room room, cause]
    rfl
  · rw [State.append_full (by omega), cause, State.sfSat, State.reg_sf_ne _ _ _ status]

end

theorem State.log_request (s : State) (p v : Nat) : (s.request p v).log = s.log := by
  unfold State.request
  split <;> rfl

theorem State.log_modCauseOn (s : State) (p b : Nat) : (s.modCauseOn p b).log = s.log := by
  have set : (s.sfBit (Reg.HIF_MOD_INT p) Fld.HIF_MOD_INT_cause b).log = s.log := State.sf_log ..
  unfold State.modCauseOn
  generalize s.sfBit (Reg.HIF_MOD_INT p) Fld.HIF_MOD_INT_cause b = y at set ⊢
  dsimp only
  split
  · rfl
  · split
    · exact (State.log_request ..).trans set
    · exact set

theorem State.log_modCause (s : State) (b : Nat) : (s.modCause b).log = s.log :=
  (State.log_modCauseOn ..).trans (State.log_modCauseOn ..)

/-- What a contained error leaves where no controller takes over. -/
theorem State.contained_room {s : State} {e : ErrInfo} (free : s.takingOver = false) (room : s.log.length < 56) :
    (s.contained e).log = s.log ++ [s.logEnt 1 e] ∧
      (s.gf (Reg.MGT_ERR_FIRST_CTL 1) Fld.MGT_ERR_FIRST_CTL_valid = 0 → (s.contained e).reg (Reg.MGT_ERR_FIRST 1 0) = s.gtcAt e.tile) ∧
      ∀ p < 2, (s.port p).inReset = false → natBit ((s.contained e).gf (Reg.HIF_MOD_INT p) Fld.HIF_MOD_INT_cause) 1 = true := by
  obtain ⟨-, log⟩ := s.capture_log (s.logEnt 1 e) 1 (by decide)
  have room' : (s.capture 1 (s.logEnt 1 e)).log.length < 56 := by rw [log]; exact room
  have ports := (Reports.capture s (cls := 1) (by decide) (s.logEnt 1 e)).ports
  rw [State.contained_logs free]
  refine ⟨?_, fun valid => ?_, fun p hp up => ?_⟩
  · rw [State.append_room room', State.log_modCause]
    show (s.capture 1 (s.logEnt 1 e)).log ++ _ = _
    rw [log]
  · rw [State.append_capture (by decide)]
    exact s.capture_first _ valid
  · rw [State.append_room room']
    refine State.modCause_sets hp ?_ (by decide)
    show ((s.capture 1 (s.logEnt 1 e)).port p).inReset = false
    rw [ports p]
    exact up

theorem State.contained_full {s : State} {e : ErrInfo} (free : s.takingOver = false) (full : 56 ≤ s.log.length) :
    (s.contained e).log = s.log ∧ (s.contained e).gf Reg.MGT_ERR_STATUS Fld.MGT_ERR_STATUS_lost_cont =
      min (s.gf Reg.MGT_ERR_STATUS Fld.MGT_ERR_STATUS_lost_cont + 1) (2 ^ Fld.MGT_ERR_STATUS_lost_cont.w - 1) := by
  obtain ⟨status, log⟩ := s.capture_log (s.logEnt 1 e) 1 (by decide)
  have full' : 56 ≤ (s.capture 1 (s.logEnt 1 e)).log.length := by rw [log]; exact full
  have apart (y : State) (f : Fld) : (y.modCause 3).gf Reg.MGT_ERR_STATUS f = y.gf Reg.MGT_ERR_STATUS f := by
    rw [State.modCause, (Reports.modCauseOn (R := (· = Reg.HIF_MOD_INT 1)) _ rfl 3).gf (by decide),
      (Reports.modCauseOn (R := (· = Reg.HIF_MOD_INT 0)) _ rfl 3).gf (by decide)]
  rw [State.contained_logs free, State.append_full full', State.log_modCause, apart, State.sfSat, status,
    State.gf_sf_val (by decide) (lt_of_le_of_lt (Nat.min_le_right _ _) (by decide))]
  exact ⟨(State.sf_log ..).trans log, rfl⟩

theorem State.contained_more {s : State} {e : ErrInfo} (free : s.takingOver = false)
    (valid : s.gf (Reg.MGT_ERR_FIRST_CTL 1) Fld.MGT_ERR_FIRST_CTL_valid = 1) :
    (s.contained e).gf (Reg.MGT_ERR_FIRST_CTL 1) Fld.MGT_ERR_FIRST_CTL_more = 1 ∧
      ∀ w < 4, (s.contained e).reg (Reg.MGT_ERR_FIRST 1 w) = s.reg (Reg.MGT_ERR_FIRST 1 w) := by
  obtain ⟨more, first⟩ := s.capture_more (s.logEnt 1 e) valid
  rw [State.contained_logs free]
  refine ⟨(State.gf_of_reg (State.append_capture (by decide)) _).trans more, fun w hw => (State.append_capture ?_).trans (first w hw)⟩
  unfold Reg.MGT_ERR_FIRST Reg.MGT_ERR_STATUS Reg.HIF_MOD_INT
  omega

/-! ### Samples -/

section
variable {s : State} {p t : Nat} (ht : t < 16)
include ht

theorem samplePop_takes (k : BitVec 7) (served : Served s p tileWindow) : exec (.samplePop p t k) s =
    .next { s with samples := sset [] s.samples t ((s.samplesOf t).drop k.toNat) } := by
  show execSamplePop p t k s = _
  rw [execSamplePop, if_neg (by omega), State.hostWrite_served served]

/-- An armed counter that has wrapped leaves a sample. -/
theorem sampleCapture_samples {c arm : Nat} (hc : c < 6) (ha : arm < 8) :
    let pos := s.gf (Reg.PMC_ARM t c arm) Fld.PMC_ARM_pos
    let map := s.gf (Reg.CORE_ROW_MAP t c (pos / 17)) Fld.CORE_ROW_MAP_in_service
    let g := 128 * (6 * t + c) + 16 * (pos / 17) + ((upto (pos % 17)).filter fun q => natBit map q).length
    let a := Reg.PMC_ARM t c arm
    let r : Sample := ⟨s.gtc, BitVec.ofNat 16 g, BitVec.ofNat 16 (s.core g).pc,
      BitVec.ofNat 24 (s.stand ((s.standOfTower (6 * t + c)).getD 16)).beat.toNat, BitVec.ofNat 3 c, BitVec.ofNat 3 arm⟩
    s.gf (Reg.PMC_ARM t c arm) Fld.PMC_ARM_enable = 1 → pos < 136 → natBit map (pos % 17) = true →
    natBit (s.gf (Reg.CORE_ROW_MAP t c (pos / 17)) Fld.CORE_ROW_MAP_fenced) (pos % 17) = false →
    exec (.sampleCapture t c arm) s = .next (if s.armWraps a = sget 0 s.arms a then s else State.modCause
      (State.armed (if (s.samplesOf t).length < 64 then { s with samples := sset [] s.samples t (s.samplesOf t ++ [r]) }
       else s.sfSat (Reg.PMC_SAMPLE_STATUS t) Fld.PMC_SAMPLE_STATUS_lost 1) a) 15) := by
  intro pos map g a r enable small service fenced
  show execSampleCapture t c arm s = _
  rw [execSampleCapture, if_neg (by omega)]
  dsimp only
  by_cases wraps : s.armWraps a = sget 0 s.arms a
  · rw [if_pos (.inr (.inr (.inr (.inr wraps)))), if_pos wraps]
  · have goes : ¬(s.gf a Fld.PMC_ARM_enable = 0 ∨ pos ≥ 136 ∨ (!natBit map (pos % 17)) = true ∨
        natBit (s.gf (Reg.CORE_ROW_MAP t c (pos / 17)) Fld.CORE_ROW_MAP_fenced) (pos % 17) = true ∨ s.armWraps a = sget 0 s.arms a) := by
      rw [enable, service, fenced]
      simpa [wraps] using small
    rw [if_neg goes, if_neg wraps]
    by_cases room : (s.samplesOf t).length < 64
    · rw [if_pos room, if_neg (by omega)]
    · rw [if_neg room, if_pos (by omega)]

end

/-! ### The boundary of a period -/

/-- The control message of a tile's report. -/
def State.mapPkt (s : State) (t : Nat) : Pkt :=
  { Pkt.zero with kind := 3, dst := 0, srcTile := BitVec.ofNat 4 t, src := BitVec.ofNat 14 (12320 + t), epoch := (s.tile t).epoch
                  payload := BitVec.ofNat 512 (2 ^ 32) }

/-- A tile that has reported. -/
def State.mapTile (s : State) (t : Nat) : PlaneTile :=
  if s.tileOut t then s.tile t else { s.tile t with inject := (s.tile t).inject ++ [⟨s.mapPkt t, 0, true⟩] }

theorem State.reportMap_frame (s : State) (t : Nat) : s.reportMap t = { s with tiles := (s.reportMap t).tiles } := by
  unfold State.reportMap
  split <;> rfl

theorem State.reportMap_same (s : State) (t : Nat) : (s.reportMap t).tile t = s.mapTile t := by
  unfold State.reportMap State.mapTile
  split
  · rfl
  · exact State.tile_setTile_same ..

theorem State.reportMap_ne (s : State) {t k : Nat} (h : k ≠ t) : (s.reportMap t).tile k = s.tile k := by
  unfold State.reportMap
  split
  · rfl
  · exact State.tile_setTile_ne _ _ h

/-- Each tile in service reports once. -/
theorem reportMaps (s : State) (n : Nat) :
    (upto n).foldl (fun y t => y.reportMap t) s = { s with tiles := ((upto n).foldl (fun y t => y.reportMap t) s).tiles } ∧
      (∀ k < n, ((upto n).foldl (fun y t => y.reportMap t) s).tile k = s.mapTile k) ∧
      ∀ k, n ≤ k → ((upto n).foldl (fun y t => y.reportMap t) s).tile k = s.tile k := by
  induction n with
  | zero => exact ⟨rfl, fun k hk => absurd hk (Nat.not_lt_zero k), fun _ _ => rfl⟩
  | succ n ih =>
    obtain ⟨frame, done, still⟩ := ih
    have step : (upto (n + 1)).foldl (fun y t => y.reportMap t) s = ((upto n).foldl (fun y t => y.reportMap t) s).reportMap n := by
      rw [upto, List.range_succ, List.foldl_append]
      rfl
    rw [step]
    generalize (upto n).foldl (fun y t => y.reportMap t) s = y at frame done still
    have last : y.mapTile n = s.mapTile n := by
      have out : y.tileOut n = s.tileOut n := by rw [frame]; rfl
      simp only [State.mapTile, State.mapPkt, out, still n le_rfl]
    refine ⟨by rw [y.reportMap_frame, frame], fun k hk => ?_, fun k hk => ?_⟩
    · by_cases e : k = n
      · rw [e, y.reportMap_same, last]
      · rw [y.reportMap_ne e, done k (by omega)]
    · rw [y.reportMap_ne (by omega), still k (by omega)]

theorem ceil_multiple (g : Nat) {m : Nat} (pos : 0 < m) : g ≤ (g + m - 1) / m * m ∧ (g + m - 1) / m * m < g + m := by
  have low := Nat.div_add_mod (g + m - 1) m
  have high := Nat.mod_lt (g + m - 1) pos
  rw [Nat.mul_comm] at low
  omega

section
variable {s : State} (goes : s.clk.stopped = false)
include goes

theorem congestionPeriodBoundary_idle (off : s.gf Reg.PMC_MAP_CFG Fld.PMC_MAP_CFG_enable = 0) : exec .congestionPeriodBoundary s =
    .next { s with mapAcc := (upto 16).foldl (fun m t => sset MapAcc.zero m t (s.mapStart t)) [] } := by
  show execCongestionPeriodBoundary s = _
  unfold execCongestionPeriodBoundary
  dsimp only
  rw [if_neg (by rw [goes]; exact Bool.false_ne_true), if_pos off]

theorem congestionPeriodBoundary_reports (on : s.gf Reg.PMC_MAP_CFG Fld.PMC_MAP_CFG_enable = 1) :
    ∃ u b, exec .congestionPeriodBoundary s = .next u ∧ u.mapSnap = s.mapAcc ∧
      u.mapAcc = (upto 16).foldl (fun m t => sset MapAcc.zero m t (s.mapStart t)) [] ∧
      2 ^ s.gf Reg.PMC_MAP_CFG Fld.PMC_MAP_CFG_period ∣ b ∧ s.gtc.toNat ≤ b ∧
      b < s.gtc.toNat + 2 ^ s.gf Reg.PMC_MAP_CFG Fld.PMC_MAP_CFG_period ∧ u.gtc = (s.gtcTo b).gtc ∧
      u.mapFrom = some (BitVec.ofNat 64 (b - 2 ^ s.gf Reg.PMC_MAP_CFG Fld.PMC_MAP_CFG_period),
        s.gf Reg.PMC_MAP_CFG Fld.PMC_MAP_CFG_period) ∧
      (∀ k < 16, s.tileOut k = true → u.tile k = s.tile k) ∧
      (∀ k < 16, s.tileOut k = false → ∃ q : Pkt, q.kind = 3 ∧ q.dst = 0 ∧ q.src.toNat = 12320 + k ∧
        u.tile k = { s.tile k with inject := (s.tile k).inject ++ [⟨q, 0, true⟩] }) ∧
      u = { s with gtc := u.gtc, mapSnap := u.mapSnap, mapAcc := u.mapAcc, mapFrom := u.mapFrom, tiles := u.tiles } := by
  generalize per : s.gf Reg.PMC_MAP_CFG Fld.PMC_MAP_CFG_period = e
  generalize bound : (s.gtc.toNat + 2 ^ e - 1) / 2 ^ e * 2 ^ e = b
  generalize accs : (upto 16).foldl (fun m t => sset MapAcc.zero m t (s.mapStart t)) [] = acc
  obtain ⟨g, time⟩ : ∃ g, s.gtcTo b = { s with gtc := g } := by
    unfold State.gtcTo
    split
    · exact ⟨_, rfl⟩
    · exact ⟨s.gtc, rfl⟩
  have does : exec .congestionPeriodBoundary s = .next ((upto 16).foldl (fun y t => y.reportMap t)
      { s with gtc := g, mapSnap := s.mapAcc, mapAcc := acc, mapFrom := some (BitVec.ofNat 64 (b - 2 ^ e), e) }) := by
    show execCongestionPeriodBoundary s = _
    unfold execCongestionPeriodBoundary
    dsimp only
    rw [if_neg (by rw [goes]; exact Bool.false_ne_true), if_neg (by rw [on]; decide), per, bound, accs, time]
  have near := ceil_multiple s.gtc.toNat (Nat.two_pow_pos e)
  rw [bound] at near
  obtain ⟨frame, done, -⟩ := reportMaps { s with gtc := g, mapSnap := s.mapAcc, mapAcc := acc, mapFrom := some (BitVec.ofNat 64 (b - 2 ^ e), e) } 16
  refine ⟨_, b, does, ?_⟩
  generalize (upto 16).foldl (fun y t => y.reportMap t)
    { s with gtc := g, mapSnap := s.mapAcc, mapAcc := acc, mapFrom := some (BitVec.ofNat 64 (b - 2 ^ e), e) } = u at frame done ⊢
  refine ⟨by rw [frame], by rw [frame], ⟨_, by rw [← bound, Nat.mul_comm]⟩, near.1, near.2, by rw [frame, time], by rw [frame], fun k hk out => ?_,
    fun k hk in_ => ⟨s.mapPkt k, rfl, rfl, ?_, ?_⟩, by rw [frame]⟩
  · rw [done k hk]
    exact if_pos out
  · show (BitVec.ofNat 14 (12320 + k)).toNat = _
    rw [BitVec.toNat_ofNat, Nat.mod_eq_of_lt (by omega)]
  · rw [done k hk]
    exact if_neg (by show ¬s.tileOut k = true; rw [in_]; exact Bool.false_ne_true)

end

/-! ### The map's buffers -/

section
variable {m l : SMap Byte} {a k : Nat}

theorem sget_append_of_none (h : ∀ e ∈ m, e.1 ≠ a) : sget 0 (m ++ l) a = sget 0 l a := by
  induction m with
  | nil => rfl
  | cons e m ih =>
    obtain ⟨b, v⟩ := e
    rw [List.cons_append, sget, if_neg (fun c => h (b, v) List.mem_cons_self c.symm), ih fun x hx => h x (List.mem_cons_of_mem _ hx)]

theorem sget_append_none (h : ∀ e ∈ l, e.1 ≠ a) : sget 0 (m ++ l) a = sget 0 m a := by
  induction m with
  | nil =>
    rw [List.nil_append, ← List.append_nil l, sget_append_of_none h]
  | cons e m ih =>
    obtain ⟨b, v⟩ := e
    rw [List.cons_append, sget, sget, ih]

theorem sget_filter {p : Nat × Byte → Bool} (h : ∀ v, p (a, v) = true) : sget 0 (m.filter p) a = sget 0 m a := by
  induction m with
  | nil => rfl
  | cons e m ih =>
    obtain ⟨b, v⟩ := e
    by_cases e : a = b
    · subst e
      rw [List.filter_cons_of_pos (h v), sget, sget, if_pos rfl, if_pos rfl]
    · by_cases keep : p (b, v) = true
      · rw [List.filter_cons_of_pos keep, sget, sget, if_neg e, if_neg e, ih]
      · rw [List.filter_cons_of_neg keep, sget, if_neg e, ih]

/-- Bytes as a sparse map, from a place on. -/
def sparseFrom (a k : Nat) (bs : List Byte) : SMap Byte :=
  (bs.zipIdx k).filterMap fun q => if q.1 = 0 then none else some (a + q.2, q.1)

theorem sparseFrom_keys (bs : List Byte) (k : Nat) : ∀ e ∈ sparseFrom a k bs, a + k ≤ e.1 ∧ e.1 < a + k + bs.length := by
  intro e he
  obtain ⟨⟨b, i⟩, mem, is⟩ := List.mem_filterMap.1 he
  obtain ⟨lo, hi, -⟩ := List.mem_zipIdx mem
  dsimp only at is
  split at is
  · exact absurd is (by simp)
  · obtain rfl := Option.some.inj is
    exact ⟨by omega, by omega⟩

theorem sget_sparseFrom (bs : List Byte) (k i : Nat) (h : i < bs.length) : sget 0 (sparseFrom a k bs) (a + k + i) = bs[i] := by
  induction bs generalizing k i with
  | nil => exact absurd h (Nat.not_lt_zero i)
  | cons b bs ih =>
    have later (j : Nat) (hj : j < bs.length) : sget 0 (sparseFrom a (k + 1) bs) (a + k + (j + 1)) = bs[j] := by
      have := ih (k + 1) j hj
      rwa [show a + (k + 1) + j = a + k + (j + 1) by omega] at this
    by_cases zero : b = 0
    · have skip : sparseFrom a k (b :: bs) = sparseFrom a (k + 1) bs := by
        rw [sparseFrom, List.zipIdx_cons, List.filterMap_cons, if_pos zero]
        rfl
      rw [skip]
      cases i with
      | zero =>
        have none_ : ∀ e ∈ sparseFrom a (k + 1) bs, e.1 ≠ a + k + 0 := fun e he c => by
          have := (sparseFrom_keys bs (k + 1) e he).1
          omega
        have empty := sget_append_of_none (l := []) none_
        rw [List.append_nil] at empty
        rw [empty]
        exact zero.symm
      | succ j => exact later j (by simpa using h)
    · have head : sparseFrom a k (b :: bs) = (a + k, b) :: sparseFrom a (k + 1) bs := by
        rw [sparseFrom, List.zipIdx_cons, List.filterMap_cons, if_neg zero]
        rfl
      rw [head]
      cases i with
      | zero => exact if_pos rfl
      | succ j =>
        rw [sget, if_neg (by omega)]
        exact later j (by simpa using h)

end

theorem length_bytesOf (n v : Nat) : (bytesOf n v).length = n := by
  induction n generalizing v with
  | zero => rfl
  | succ n ih => rw [bytesOf, List.length_cons, ih]

theorem bytesOf_getElem {n v i : Nat} (h : i < (bytesOf n v).length) : (bytesOf n v)[i] = BitVec.ofNat 8 (v / 256 ^ i) := by
  induction n generalizing v i with
  | zero => exact absurd h (Nat.not_lt_zero i)
  | succ n ih =>
    cases i with
    | zero => simp [bytesOf]
    | succ i =>
      have : (bytesOf (n + 1) v)[i + 1] = (bytesOf n (v / 256))[i]'(by simpa [bytesOf] using h) := rfl
      rw [this, ih, Nat.div_div_eq_div_mul, Nat.pow_succ']

/-- The bytes after a prefix, in the sparse map. -/
theorem sget_sparseBytes {a i : Nat} (pre mid post : List Byte) (h : i < mid.length) :
    sget 0 (sparseBytes a (pre ++ (mid ++ post))) (a + pre.length + i) = mid[i] := by
  have at_ := sget_sparseFrom (a := a) (pre ++ (mid ++ post)) 0 (pre.length + i) (by simp only [List.length_append]; omega)
  rw [show a + 0 + (pre.length + i) = a + pre.length + i by omega] at at_
  refine Eq.trans at_ ?_
  rw [List.getElem_append_right (by omega), List.getElem_append_left (by omega)]
  simp

/-! ### A map's bytes -/

theorem length_satBytes (n v : Nat) : (satBytes n v).length = n := length_bytesOf ..

theorem MapAcc.length_bytes (a : MapAcc) : a.bytes.length = 32 := by
  simp only [MapAcc.bytes, List.length_append, length_satBytes, length_bytesOf]

theorem State.length_pairBytes (s : State) (late x d : Nat) : (s.pairBytes late x d).length = 16 := by
  unfold State.pairBytes
  dsimp only
  split
  · exact length_bytesOf ..
  · split <;> simp only [List.length_append, length_satBytes, length_bytesOf]

theorem length_flatMap_upto {f : Nat → List Byte} {w : Nat} (h : ∀ k, (f k).length = w) (n : Nat) : ((upto n).flatMap f).length = n * w := by
  rw [List.length_flatMap, List.map_congr_left fun k _ => h k, List.map_const', List.sum_replicate_nat, upto, List.length_range]

/-- The map's bytes, beginning with its head, in their one page. -/
theorem State.mapBytes_head (s : State) (seq first n late : Nat) : ∃ rest,
    s.mapBytes seq first n late = bytesOf 8 seq ++ (bytesOf 8 first ++ (bytesOf 8 (first + 2 ^ n) ++ (bytesOf 1 n ++
      (bytesOf 1 (boolNat (decide (late = 0))) ++ rest)))) ∧ (s.mapBytes seq first n late).length ≤ 0x2000 := by
  unfold State.mapBytes
  dsimp only
  generalize (upto 16).foldl (fun m t =>
    if natBit late t || (sget MapAcc.zero s.mapSnap t).partialRep then natPut m t 1 1 else m) 0 = part
  have tiles := length_flatMap_upto (fun t => MapAcc.length_bytes (s.snap late t)) 16
  have pairs := length_flatMap_upto (fun k => s.length_pairBytes late (k / 16) (k % 16)) 256
  generalize (upto 16).flatMap (fun t => (s.snap late t).bytes) = x at tiles ⊢
  generalize ((upto 256).flatMap fun k => s.pairBytes late (k / 16) (k % 16)) = y at pairs ⊢
  refine ⟨bytesOf 2 part ++ (bytesOf 36 0 ++ (x ++ y)), ?_, ?_⟩
  · simp only [List.append_assoc]
  · simp only [List.length_append, length_bytesOf, tiles, pairs]
    omega

section
variable {s : State} {first : Word} {n : Nat} (late : BitVec 16)

/-- What the completion of a map leaves in the buffers. -/
def State.mapNext (s : State) (late : BitVec 16) (first : Word) (n : Nat) : SMap Byte :=
  let last := s.gf Reg.PMC_MAP_CFG Fld.PMC_MAP_CFG_last
  let seqAt := fun (b : Nat) => ofBytes ((upto 8).map fun o => sget 0 s.mapBuf (mapBase b + o))
  let bs := s.mapBytes (max (seqAt 0) (seqAt 1) + 1) first.toNat n late.toNat
  let new := sparseBytes (mapBase (1 - last)) bs
  let old := s.mapBuf.filter fun e => decide (mapBase last ≤ e.1) && decide (e.1 < mapBase last + 0x2000)
  if last = 1 then new ++ old else old ++ new

theorem State.mapLast (s : State) : s.gf Reg.PMC_MAP_CFG Fld.PMC_MAP_CFG_last = 0 ∨ s.gf Reg.PMC_MAP_CFG Fld.PMC_MAP_CFG_last = 1 := by
  have : s.gf Reg.PMC_MAP_CFG Fld.PMC_MAP_CFG_last < 2 := State.gf_lt ..
  omega

/-- The last map keeps its buffer, and the new one fills the other. -/
theorem State.mapNext_buffers (s : State) (first : Word) (n : Nat) :
    let last := s.gf Reg.PMC_MAP_CFG Fld.PMC_MAP_CFG_last
    ∃ seq, (∀ o < 0x2000, sget 0 (s.mapNext late first n) (mapBase last + o) = sget 0 s.mapBuf (mapBase last + o)) ∧
      ∀ o < 0x2000, sget 0 (s.mapNext late first n) (mapBase (1 - last) + o) =
        sget 0 (sparseBytes (mapBase (1 - last)) (s.mapBytes seq first.toNat n late.toNat)) (mapBase (1 - last) + o) := by
  intro last
  unfold State.mapNext
  dsimp only
  have bit : last = 0 ∨ last = 1 := s.mapLast
  rw [show s.gf Reg.PMC_MAP_CFG Fld.PMC_MAP_CFG_last = last from rfl]
  generalize max (ofBytes ((upto 8).map fun o => sget 0 s.mapBuf (mapBase 0 + o)))
    (ofBytes ((upto 8).map fun o => sget 0 s.mapBuf (mapBase 1 + o))) + 1 = seq
  refine ⟨seq, ?_⟩
  obtain ⟨-, -, short⟩ := s.mapBytes_head seq first.toNat n late.toNat
  generalize s.mapBytes seq first.toNat n late.toNat = bs at short ⊢
  have newKeys : ∀ e ∈ sparseBytes (mapBase (1 - last)) bs, mapBase (1 - last) ≤ e.1 ∧ e.1 < mapBase (1 - last) + 0x2000 :=
    fun e he => by
      obtain ⟨lo, hi⟩ := sparseFrom_keys bs 0 e he
      exact ⟨by omega, by omega⟩
  have oldKeys : ∀ e ∈ s.mapBuf.filter (fun e => decide (mapBase last ≤ e.1) && decide (e.1 < mapBase last + 0x2000)),
      mapBase last ≤ e.1 ∧ e.1 < mapBase last + 0x2000 := fun e he => by
    simpa using (List.mem_filter.1 he).2
  have kept : ∀ o < 0x2000, sget 0 (s.mapBuf.filter fun e => decide (mapBase last ≤ e.1) && decide (e.1 < mapBase last + 0x2000))
      (mapBase last + o) = sget 0 s.mapBuf (mapBase last + o) := fun o ho => sget_filter fun v => by simp [ho]
  generalize s.mapBuf.filter (fun e => decide (mapBase last ≤ e.1) && decide (e.1 < mapBase last + 0x2000)) = old at oldKeys kept ⊢
  generalize sparseBytes (mapBase (1 - last)) bs = new at newKeys ⊢
  have offNew : ∀ o < 0x2000, ∀ e ∈ new, e.1 ≠ mapBase last + o := fun o ho e he c => by
    have := newKeys e he
    unfold mapBase at this c
    omega
  have offOld : ∀ o < 0x2000, ∀ e ∈ old, e.1 ≠ mapBase (1 - last) + o := fun o ho e he c => by
    have := oldKeys e he
    unfold mapBase at this c
    omega
  split
  · exact ⟨fun o ho => (sget_append_of_none (offNew o ho)).trans (kept o ho), fun o ho => sget_append_none (offOld o ho)⟩
  · exact ⟨fun o ho => (sget_append_none (offNew o ho)).trans (kept o ho), fun o ho => sget_append_of_none (offOld o ho)⟩

theorem State.mapBuf_modCause (s : State) (b : Nat) : (s.modCause b).mapBuf = s.mapBuf ∧ (s.modCause b).mapFrom = s.mapFrom := by
  rw [(Reports.modCause s b).frame]
  exact ⟨rfl, rfl⟩

theorem State.mapBuf_sf (s : State) (a : Nat) (f : Fld) (v : Nat) : (s.sf a f v).mapBuf = s.mapBuf ∧ (s.sf a f v).mapFrom = s.mapFrom :=
  ⟨rfl, rfl⟩

theorem congestionMapComplete_fills (from_ : s.mapFrom = some (first, n)) :
    let last := s.gf Reg.PMC_MAP_CFG Fld.PMC_MAP_CFG_last
    ∃ u, exec (.congestionMapComplete late) s = .next u ∧ u.mapFrom = none ∧
      u.gf Reg.PMC_MAP_CFG Fld.PMC_MAP_CFG_last = 1 - last ∧
      (∀ o < 0x2000, sget 0 u.mapBuf (mapBase last + o) = sget 0 s.mapBuf (mapBase last + o)) ∧
      (∀ o < 8, sget 0 u.mapBuf (mapBase (1 - last) + 8 + o) = BitVec.ofNat 8 (first.toNat / 256 ^ o)) ∧
      sget 0 u.mapBuf (mapBase (1 - last) + 24) = BitVec.ofNat 8 n ∧
      sget 0 u.mapBuf (mapBase (1 - last) + 25) = (if late = 0 then 1 else 0) := by
  intro last
  have bit : last = 0 ∨ last = 1 := s.mapLast
  have does : exec (.congestionMapComplete late) s =
      .next (({ s with mapBuf := s.mapNext late first n, mapFrom := none, mapSnap := [] }.sf Reg.PMC_MAP_CFG
        Fld.PMC_MAP_CFG_last (1 - last)).modCause 16) := by
    show execCongestionMapComplete late s = _
    unfold execCongestionMapComplete
    rw [from_]
    rfl
  obtain ⟨seq, oldBuf, newBuf⟩ := State.mapNext_buffers late s first n
  generalize s.mapNext late first n = buf at does oldBuf newBuf
  refine ⟨_, does, ?_⟩
  generalize state : ({ s with mapBuf := buf, mapFrom := none, mapSnap := [] } : State) = y
  have fields : y.mapBuf = buf ∧ y.mapFrom = none := by rw [← state]; exact ⟨rfl, rfl⟩
  obtain ⟨buf1, from1⟩ := State.mapBuf_sf y Reg.PMC_MAP_CFG Fld.PMC_MAP_CFG_last (1 - last)
  have val : (y.sf Reg.PMC_MAP_CFG Fld.PMC_MAP_CFG_last (1 - last)).gf Reg.PMC_MAP_CFG Fld.PMC_MAP_CFG_last = 1 - last :=
    State.gf_sf_val (by decide) (by show 1 - last < 2; omega)
  generalize y.sf Reg.PMC_MAP_CFG Fld.PMC_MAP_CFG_last (1 - last) = z at buf1 from1 val
  have shown : (z.modCause 16).gf Reg.PMC_MAP_CFG Fld.PMC_MAP_CFG_last = 1 - last := by
    rw [(Reports.modCause z 16).gf (by unfold LogReg; decide), val]
  obtain ⟨buf2, from2⟩ := State.mapBuf_modCause z 16
  rw [buf1, fields.1] at buf2
  rw [from1, fields.2] at from2
  obtain ⟨rest, bytes, -⟩ := s.mapBytes_head seq first.toNat n late.toNat
  rw [buf2]
  rw [bytes] at newBuf
  refine ⟨from2, shown, oldBuf, fun o ho => ?_, ?_, ?_⟩
  · have byte := sget_sparseBytes (a := mapBase (1 - last)) (i := o) (bytesOf 8 seq) (bytesOf 8 first.toNat)
      (bytesOf 8 (first.toNat + 2 ^ n) ++ (bytesOf 1 n ++ (bytesOf 1 (boolNat (decide (late.toNat = 0))) ++ rest)))
      (by rw [length_bytesOf]; exact ho)
    rw [length_bytesOf, bytesOf_getElem] at byte
    rw [Nat.add_assoc, newBuf (8 + o) (by omega), ← Nat.add_assoc]
    exact byte
  · have byte := sget_sparseBytes (a := mapBase (1 - last)) (i := 0) (bytesOf 8 seq ++ (bytesOf 8 first.toNat ++ bytesOf 8 (first.toNat + 2 ^ n)))
      (bytesOf 1 n) (bytesOf 1 (boolNat (decide (late.toNat = 0))) ++ rest) (by rw [length_bytesOf]; decide)
    simp only [List.length_append, length_bytesOf, List.append_assoc, bytesOf_getElem, Nat.pow_zero, Nat.div_one] at byte
    rw [newBuf 24 (by decide)]
    exact byte
  · have byte := sget_sparseBytes (a := mapBase (1 - last)) (i := 0)
      (bytesOf 8 seq ++ (bytesOf 8 first.toNat ++ (bytesOf 8 (first.toNat + 2 ^ n) ++ bytesOf 1 n)))
      (bytesOf 1 (boolNat (decide (late.toNat = 0)))) rest (by rw [length_bytesOf]; decide)
    simp only [List.length_append, length_bytesOf, List.append_assoc, bytesOf_getElem, Nat.pow_zero, Nat.div_one] at byte
    rw [newBuf 25 (by decide), show mapBase (1 - last) + 25 = mapBase (1 - last) + (8 + (8 + (8 + 1))) + 0 from rfl, byte]
    by_cases all : late = 0
    · rw [if_pos all, all]
      rfl
    · have : late.toNat ≠ 0 := fun c => all (BitVec.eq_of_toNat_eq c)
      rw [if_neg all, decide_eq_false this]
      rfl

end

/-- Settles O44: the entry and the capture in turn; a boundary tile by tile; a map by the places of its head's bytes. -/
theorem errorsAndTelemetry : Obligations.ErrorsAndTelemetry := by
  unfold Obligations.ErrorsAndTelemetry
  refine ⟨fun s e taking => State.contained_waits taking, ?_, ?_⟩
  · intro s e free u ctl
    refine ⟨fun room => ?_, fun full => State.contained_full free full, fun valid => State.contained_more free valid, ?_⟩
    · obtain ⟨log, first, cause⟩ := State.contained_room (e := e) free room
      refine ⟨_, log, rfl, rfl, rfl, rfl, fun none_ => ?_, fun none_ => ?_, fun none_ => ?_, fun t some_ ht => ⟨?_, fun small => s.gtcAt_near _ small⟩,
        first, cause⟩
      · show optBits 8 e.tile = _
        rw [none_]
        rfl
      · show optBits 64 e.addr = _
        rw [none_]
        rfl
      · rw [none_]
        rfl
      · show optBits 8 e.tile = _
        rw [some_]
        rfl
    · have frame := (Reports.contained s e).frame
      exact ⟨by rw [show u = _ from frame], by rw [show u = _ from frame], by rw [show u = _ from frame], by rw [show u = _ from frame]⟩
  · intro s p t ht
    refine ⟨fun served => ?_, fun k served => samplePop_takes ht k served, fun c arm hc ha => sampleCapture_samples ht hc ha,
      fun stopped => ?_, congestionPeriodBoundary_idle, congestionPeriodBoundary_reports,
      fun late first n from_ => congestionMapComplete_fills late from_⟩
    · show execErrPop p s = _
      rw [execErrPop, State.hostWrite_served served]
    · show execCongestionPeriodBoundary s = _
      unfold execCongestionPeriodBoundary
      dsimp only
      rw [if_pos stopped]

end Sys2Proof.Machine

/-! PROOF. Faults of a site, the loss of its link, and its return (R36, R352 to R354, R368, R369, R372, R374, R388). -/

namespace Sys2Proof.Machine

/-! ### What a site's bring-up keeps -/

/-- The words of tower `w`'s site that hold its descriptor. -/
def DescWord (a : Nat) : Prop := 0x4000 ≤ a ∧ a < 0x5800

theorem descWord_of {w i : Nat} (hw : w < 96) (hi : i < 16) : DescWord (Reg.SITE_DESC w i) := by
  unfold DescWord Reg.SITE_DESC
  omega

/-- From `s` to `u` tower `w` keeps its memory, its cores, its clocks, its link's state and its descriptor, and no stand's power
changes. -/
structure DieKept (w : Nat) (s u : State) : Prop where
  mem : u.mem = s.mem
  cores : u.cores = s.cores
  pwr : u.pwr = s.pwr
  clock : u.reg (Reg.CLK_SITE_ACTIVE (w / 6) (w % 6)) = s.reg (Reg.CLK_SITE_ACTIVE (w / 6) (w % 6))
  link : u.linkState w = s.linkState w
  desc : ∀ a, DescWord a → u.reg a = s.reg a

/-- …and its stripe map too. -/
structure SiteKept (w : Nat) (s u : State) : Prop extends DieKept w s u where
  mask : u.siteMask w = s.siteMask w
  half : u.siteHalf w = s.siteHalf w

/-- A register that is none of the link's state, the map, the clocks and the descriptor of tower `w`. -/
def OffSite (w a : Nat) : Prop :=
  a ≠ Reg.SITE_LINK_STATE (w / 6) (w % 6) ∧ a ≠ Reg.SITE_MODULES (w / 6) (w % 6) ∧ a ≠ Reg.SITE_HALF (w / 6) (w % 6) ∧
    a ≠ Reg.CLK_SITE_ACTIVE (w / 6) (w % 6) ∧ ¬DescWord a

section
variable {w : Nat} {s t u : State}

theorem DieKept.refl (w : Nat) (s : State) : DieKept w s s := ⟨rfl, rfl, rfl, rfl, rfl, fun _ _ => rfl⟩

theorem DieKept.trans (h : DieKept w s t) (k : DieKept w t u) : DieKept w s u :=
  ⟨k.mem.trans h.mem, k.cores.trans h.cores, k.pwr.trans h.pwr, k.clock.trans h.clock, k.link.trans h.link, fun a ha => (k.desc a ha).trans (h.desc a ha)⟩

theorem SiteKept.refl (w : Nat) (s : State) : SiteKept w s s := ⟨.refl w s, rfl, rfl⟩

theorem SiteKept.trans (h : SiteKept w s t) (k : SiteKept w t u) : SiteKept w s u :=
  ⟨h.toDieKept.trans k.toDieKept, k.mask.trans h.mask, k.half.trans h.half⟩

/-- A change that leaves the watched registers, the memory and the cores. -/
theorem SiteKept.of_regs {R : Nat → Prop} (mem : u.mem = s.mem) (cores : u.cores = s.cores) (pwr : u.pwr = s.pwr)
    (regs : ∀ a, ¬R a → u.reg a = s.reg a)
    (off : ∀ a, R a → OffSite w a) : SiteKept w s u := by
  have keep (a : Nat) (ha : ¬OffSite w a) : u.reg a = s.reg a := regs a fun r => ha (off a r)
  exact ⟨⟨mem, cores, pwr, keep _ fun ⟨_, _, _, clock, _⟩ => clock rfl, State.gf_of_reg (keep _ fun ⟨link, _⟩ => link rfl) _,
    fun a ha => keep a fun ⟨_, _, _, _, desc⟩ => desc ha⟩, State.gf_of_reg (keep _ fun ⟨_, mask, _⟩ => mask rfl) _,
    State.gf_of_reg (keep _ fun ⟨_, _, half, _⟩ => half rfl) _⟩

theorem SiteKept.sf (s : State) {a : Nat} (off : OffSite w a) (f : Fld) (v : Nat) : SiteKept w s (s.sf a f v) :=
  .of_regs (R := (· = a)) rfl rfl rfl (fun _ h => State.reg_sf_ne _ _ _ h) fun _ h => h ▸ off

theorem SiteKept.setReg (s : State) {a : Nat} (off : OffSite w a) (v : Word) : SiteKept w s (s.setReg a v) :=
  .of_regs (R := (· = a)) rfl rfl rfl (fun _ h => State.reg_setReg_ne _ _ h) fun _ h => h ▸ off

/-- Another field of the link's register. -/
theorem SiteKept.linkField (s : State) (f : Fld) (apart : 3 ≤ f.lo) (v : Nat) :
    SiteKept w s (s.sf (Reg.SITE_LINK_STATE (w / 6) (w % 6)) f v) := by
  have far (a : Nat) (h : a ≠ Reg.SITE_LINK_STATE (w / 6) (w % 6)) :
      (s.sf (Reg.SITE_LINK_STATE (w / 6) (w % 6)) f v).reg a = s.reg a := State.reg_sf_ne _ _ _ h
  refine ⟨⟨State.sf_mem .., State.sf_cores .., State.sf_pwr .., far _ ?_, State.gf_sf_apart (.inl apart) (by decide), fun a ha => far a ?_⟩, State.gf_of_reg (far _ ?_) _, State.gf_of_reg (far _ ?_) _⟩
  · unfold Reg.CLK_SITE_ACTIVE Reg.SITE_LINK_STATE
    omega
  · have := ha.2
    unfold Reg.SITE_LINK_STATE
    omega
  · unfold Reg.SITE_LINK_STATE Reg.SITE_MODULES
    omega
  · unfold Reg.SITE_LINK_STATE Reg.SITE_HALF
    omega

theorem SiteKept.setSite (s : State) (w' : Nat) (x : SiteSt) : SiteKept w s (s.setSite w' x) :=
  .of_regs (R := fun _ => False) rfl rfl rfl (fun _ _ => rfl) fun _ h => h.elim

theorem OffSite.low {a : Nat} (low : a < 0x1_0000_0000) (desc : ¬DescWord a) : OffSite w a :=
  ⟨by unfold Reg.SITE_LINK_STATE; omega, by unfold Reg.SITE_MODULES; omega, by unfold Reg.SITE_HALF; omega, by unfold Reg.CLK_SITE_ACTIVE; omega, desc⟩

theorem OffSite.high {a : Nat} (high : 0x5800 ≤ a) (link : a ≠ Reg.SITE_LINK_STATE (w / 6) (w % 6))
    (mask : a ≠ Reg.SITE_MODULES (w / 6) (w % 6)) (half : a ≠ Reg.SITE_HALF (w / 6) (w % 6)) (clock : a ≠ Reg.CLK_SITE_ACTIVE (w / 6) (w % 6)) :
    OffSite w a := ⟨link, mask, half, clock, fun d => absurd d.2 (by omega)⟩

theorem NvReg.notDesc {a : Nat} (h : NvReg a) : ¬DescWord a := by
  unfold DescWord
  rcases h with (h | h | h) | h | h
  · omega
  all_goals rw [h]; decide

theorem Notes.siteKept (h : Notes s u) : SiteKept w s u :=
  .of_regs (by rw [h.frame]) (by rw [h.frame]) (by rw [h.frame]) h.regs fun _ n => .low n.low n.notDesc

theorem Reports.siteKept {R : Nat → Prop} (h : Reports R s u) (off : ∀ a, R a → OffSite w a) : SiteKept w s u :=
  .of_regs (by rw [h.frame]) (by rw [h.frame]) (by rw [h.frame]) h.regs off

theorem Reports.logged (h : Reports LogReg s u) : SiteKept w s u := (h.mono fun _ => .log).notes.siteKept

theorem SiteKept.foldl {α : Type} {f : State → α → State} (l : List α) (s : State) (h : ∀ y a, SiteKept w y (f y a)) :
    SiteKept w s (l.foldl f s) := foldl_invariant (P := SiteKept w s) (.refl w s) fun y a k => k.trans (h y a)

theorem DieKept.foldl {α : Type} {f : State → α → State} (l : List α) (s : State) (h : ∀ y a, DieKept w y (f y a)) :
    DieKept w s (l.foldl f s) := foldl_invariant (P := DieKept w s) (.refl w s) fun y a k => k.trans (h y a)

/-! ### The shared operations -/

theorem OffSite.std {i : Nat} (hi : i < 16) : OffSite w (Reg.STD_ERR i) ∧ OffSite w (Reg.HIF_STD_INT i) := by
  refine ⟨.low ?_ ?_, .low ?_ ?_⟩ <;> simp only [DescWord, Reg.STD_ERR, Reg.HIF_STD_INT] <;> omega

theorem SiteKept.setStand (s : State) (i : Nat) (x : StandSt) : SiteKept w s (s.setStand i x) :=
  .of_regs (R := fun _ => False) rfl rfl rfl (fun _ _ => rfl) fun _ h => h.elim

theorem SiteKept.standFatal (s : State) {i : Nat} (hi : i < 16) (e : ErrInfo) : SiteKept w s (s.standFatal i e) := by
  obtain ⟨err, int⟩ := OffSite.std (w := w) hi
  unfold State.standFatal
  split
  · have logged : SiteKept w s (s.logErr 2 (s.logEnt 2 { e with stand := some i })) := (Reports.logErr s (by decide) _).logged
    generalize s.logErr 2 (s.logEnt 2 { e with stand := some i }) = s1 at logged ⊢
    dsimp only
    split
    · exact logged
    · have shown : SiteKept w s1 (if s.gf (Reg.STD_ERR i) Fld.STD_ERR_valid = 1 then s1.sf (Reg.STD_ERR i) Fld.STD_ERR_more 1
          else ((s1.sf (Reg.STD_ERR i) Fld.STD_ERR_code e.code).sf (Reg.STD_ERR i) Fld.STD_ERR_valid 1).sf (Reg.STD_ERR i)
            Fld.STD_ERR_gcore (e.gcore.getD 0x3FFF)) := by
        split
        · exact .sf _ err _ _
        · exact ((SiteKept.sf _ err _ _).trans (.sf _ err _ _)).trans (.sf _ err _ _)
      have told (y : State) : SiteKept w y ((y.sfSat (Reg.STD_ERR i) Fld.STD_ERR_count 1).stdEvent i 2) :=
        SiteKept.trans (SiteKept.sf y err Fld.STD_ERR_count _)
          (Reports.siteKept (Reports.stdEvent (R := (· = Reg.HIF_STD_INT i)) _ rfl 2) fun a h => h ▸ int)
      have all := (logged.trans shown).trans (told _)
      generalize ((if s.gf (Reg.STD_ERR i) Fld.STD_ERR_valid = 1 then s1.sf (Reg.STD_ERR i) Fld.STD_ERR_more 1
          else ((s1.sf (Reg.STD_ERR i) Fld.STD_ERR_code e.code).sf (Reg.STD_ERR i) Fld.STD_ERR_valid 1).sf (Reg.STD_ERR i)
            Fld.STD_ERR_gcore (e.gcore.getD 0x3FFF)).sfSat (Reg.STD_ERR i) Fld.STD_ERR_count 1).stdEvent i 2 = s3 at all ⊢
      split
      · exact all
      · exact all.trans (.setStand ..)
  · exact (Reports.contained s _).logged

/-- What the taking of a site's clocks leaves. -/
theorem State.siteOff_spec (s : State) (w : Nat) : (s.siteOff w).mem = s.mem ∧ (s.siteOff w).cores = s.cores ∧ (s.siteOff w).pwr = s.pwr ∧
    (s.siteOff w).gf (Reg.CLK_SITE_ACTIVE (w / 6) (w % 6)) Fld.CLK_SITE_ACTIVE_mask = 0 ∧ (s.siteOff w).linkState w = s.linkState w ∧
      (s.siteOff w).siteMask w = s.siteMask w ∧ (s.siteOff w).siteHalf w = s.siteHalf w ∧
        ∀ a, DescWord a → (s.siteOff w).reg a = s.reg a := by
  have pads : OffSite w (Reg.PWR_PAD_HOLD (w / 6)) := by
    refine .high ?_ ?_ ?_ ?_ ?_ <;>
      simp only [Reg.PWR_PAD_HOLD, Reg.CLK_SITE_ACTIVE, Reg.SITE_LINK_STATE, Reg.SITE_MODULES, Reg.SITE_HALF] <;> omega
  have kept : SiteKept w (s.sf (Reg.CLK_SITE_ACTIVE (w / 6) (w % 6)) Fld.CLK_SITE_ACTIVE_mask 0) (s.siteOff w) := .sf _ pads _ _
  have far (a : Nat) (h : a ≠ Reg.CLK_SITE_ACTIVE (w / 6) (w % 6)) :
      (s.sf (Reg.CLK_SITE_ACTIVE (w / 6) (w % 6)) Fld.CLK_SITE_ACTIVE_mask 0).reg a = s.reg a := State.reg_sf_ne _ _ _ h
  refine ⟨kept.mem.trans (State.sf_mem ..), kept.cores.trans (State.sf_cores ..), kept.pwr.trans (State.sf_pwr ..),
    (State.gf_of_reg kept.clock _).trans (State.gf_sf_val (by decide) (by decide)), kept.link.trans (State.gf_of_reg (far _ ?_) _),
    kept.mask.trans (State.gf_of_reg (far _ ?_) _), kept.half.trans (State.gf_of_reg (far _ ?_) _), fun a ha => (kept.desc a ha).trans (far a ?_)⟩
  · unfold Reg.SITE_LINK_STATE Reg.CLK_SITE_ACTIVE
    omega
  · unfold Reg.SITE_MODULES Reg.CLK_SITE_ACTIVE
    omega
  · unfold Reg.SITE_HALF Reg.CLK_SITE_ACTIVE
    omega
  · have := ha.2
    unfold Reg.CLK_SITE_ACTIVE
    omega

theorem SiteKept.censusGen (s : State) : SiteKept w s s.censusGen :=
  (SiteKept.sf s (.low (by decide) (by unfold DescWord; decide)) _ _).trans (Reports.modCause _ 12).logged

theorem SiteKept.siteRepair (s : State) (w : Nat) (f : Fld) (v : Nat) : SiteKept w s (s.setSiteRepair w f v) := by
  refine .sf _ (.high ?_ ?_ ?_ ?_ ?_) _ _ <;>
    simp only [Reg.CLK_SITE_ACTIVE, Reg.SITE_REPAIR, Reg.SITE_LINK_STATE, Reg.SITE_MODULES, Reg.SITE_HALF] <;> omega

theorem SiteKept.showMap (s : State) (w : Nat) : SiteKept w s (s.showMap w) := by
  refine SiteKept.trans (.linkField _ _ (by decide) _) (.sf _ (.high ?_ ?_ ?_ ?_ ?_) _ _) <;>
    simp only [Reg.CLK_SITE_ACTIVE, Reg.SITE_EQUIV, Reg.SITE_LINK_STATE, Reg.SITE_MODULES, Reg.SITE_HALF] <;> omega

theorem State.standOfTower_lt {i : Nat} (h : s.standOfTower w = some i) : i < 16 :=
  List.mem_range.1 (List.mem_of_find?_eq_some h)

theorem SiteKept.remapSite (s : State) (w : Nat) : SiteKept w s (s.remapSite w) := by
  have shown := SiteKept.showMap s w
  unfold State.remapSite
  generalize s.showMap w = s1 at shown ⊢
  dsimp only
  split
  · exact shown
  · have limited : SiteKept w s1 (if s1.siteRepair w Fld.SITE_REPAIR_limited = 1 then s1
        else (s1.setSiteRepair w Fld.SITE_REPAIR_limited 1).dead 0x0B (w / 6) (w % 6) 0 0 0x1C) := by
      split
      · exact .refl w s1
      · exact (SiteKept.siteRepair ..).trans (Notes.dead ..).siteKept
    have all := shown.trans limited
    generalize (if s1.siteRepair w Fld.SITE_REPAIR_limited = 1 then s1
        else (s1.setSiteRepair w Fld.SITE_REPAIR_limited 1).dead 0x0B (w / 6) (w % 6) 0 0 0x1C) = s2 at all ⊢
    split
    · next i stand => exact all.trans (.standFatal _ (State.standOfTower_lt stand) _)
    · exact all

/-! ### The stripe map, formed anew -/

theorem DieKept.map (s : State) (a : Nat) (h : a = Reg.SITE_MODULES (w / 6) (w % 6) ∨ a = Reg.SITE_HALF (w / 6) (w % 6)) (f : Fld) (v : Nat) :
    DieKept w s (s.sf a f v) := by
  have far (b : Nat) (hb : b = Reg.SITE_LINK_STATE (w / 6) (w % 6) ∨ b = Reg.CLK_SITE_ACTIVE (w / 6) (w % 6) ∨ DescWord b) : (s.sf a f v).reg b = s.reg b := by
    refine State.reg_sf_ne _ _ _ ?_
    simp only [DescWord, Reg.SITE_LINK_STATE, Reg.CLK_SITE_ACTIVE, Reg.SITE_MODULES, Reg.SITE_HALF] at h hb ⊢
    omega
  exact ⟨State.sf_mem .., State.sf_cores .., State.sf_pwr .., far _ (.inr (.inl rfl)), State.gf_of_reg (far _ (.inl rfl)) _,
    fun b hb => far b (.inr (.inr hb))⟩

theorem DieKept.setSiteMask (s : State) (w v : Nat) : DieKept w s (s.setSiteMask w v) := .map s _ (.inl rfl) _ _

theorem DieKept.moduleEnt (s : State) (w sub x cause : Nat) : DieKept w s (s.moduleEnt w sub x cause) := by
  unfold State.moduleEnt
  split
  · exact .refl w s
  · dsimp only
    exact ((SiteKept.siteRepair ..).toDieKept.trans (.setSiteMask ..)).trans (.map _ _ (.inr rfl) _ _)

theorem DieKept.formMap (s : State) (w : Nat) : DieKept w s (s.formMap w) :=
  (((DieKept.setSiteMask ..).trans (.map _ _ (.inr rfl) _ _)).trans (SiteKept.siteRepair ..).toDieKept).trans
    (.foldl _ _ fun y e => .moduleEnt y w e.sub.toNat e.index.toNat e.cause.toNat)

theorem DieKept.moduleOut (s : State) (w m : Nat) : DieKept w s (s.moduleOut w m) := by
  unfold State.moduleOut
  dsimp only
  split
  · exact .refl w s
  · refine DieKept.trans ?_ (Notes.dead ..).siteKept.toDieKept
    have out (y : State) (v n : Nat) : DieKept w y ((y.setSiteMask w v).sf (Reg.SITE_HALF (w / 6) (w % 6)) Fld.SITE_HALF_mask n) :=
      (DieKept.setSiteMask ..).trans (.map _ _ (.inr rfl) _ _)
    split
    · exact (out ..).trans (SiteKept.siteRepair ..).toDieKept
    · exact out ..

theorem natPut_off {n i : Nat} (off : natBit n i = false) : natPut n i 1 0 = n := by
  apply Nat.eq_of_testBit_eq
  intro j
  rw [natPut_testBit]
  split
  · next at_ =>
    rw [show j = i by omega, Nat.zero_testBit, ← natBit_eq_testBit, off]
  · rfl

theorem State.siteMask_setSiteMask (y : State) (w : Nat) {v : Nat} (small : v < 2 ^ 17) : (y.setSiteMask w v).siteMask w = v :=
  State.gf_sf_val (by decide) small

theorem State.siteMask_half (y : State) (w v : Nat) : (y.sf (Reg.SITE_HALF (w / 6) (w % 6)) Fld.SITE_HALF_mask v).siteMask w = y.siteMask w :=
  State.gf_sf_ne _ _ _ _ (by unfold Reg.SITE_MODULES Reg.SITE_HALF; omega)

/-- The spare alone leaves a map that does not hold it as it is. -/
theorem State.moduleOut_spare {y : State} (no16 : natBit (y.siteMask w) 16 = false) : (y.moduleOut w 16).siteMask w = y.siteMask w := by
  unfold State.moduleOut
  dsimp only
  split
  · rfl
  · rw [(Notes.dead ..).siteKept.mask]
    have out : ((y.setSiteMask w (y.siteMask w)).sf (Reg.SITE_HALF (w / 6) (w % 6)) Fld.SITE_HALF_mask
        (natPut ((y.setSiteMask w (y.siteMask w)).siteHalf w) 16 1 0)).siteMask w = y.siteMask w :=
      (State.siteMask_half ..).trans (State.siteMask_setSiteMask y w (State.gf_lt ..))
    rw [if_pos (by rw [Bool.or_eq_true]; exact .inr rfl), (SiteKept.siteRepair ..).mask]
    simp only [ne_eq, not_true, decide_false, Bool.false_and, natPut_off no16]
    exact out

end

/-! ### The bring-up in its parts -/

section
variable {w : Nat} {d : BitVec 512} {out : List Nat}

/-- The registers and the link of a site that comes up. -/
def State.bringLink (s : State) (w : Nat) (d : BitVec 512) : State :=
  let a := Reg.SITE_LINK_STATE (w / 6) (w % 6)
  (((((s.census w d 3).sf a Fld.SITE_LINK_STATE_state 3).sf a Fld.SITE_LINK_STATE_rate (bestRate d)).sf a
    Fld.SITE_LINK_STATE_circuits (descField d 27 1 % 2)).sf a Fld.SITE_LINK_STATE_agent (boolNat (!natBit (descField d 27 1) 1)) |>.sf
      (Reg.SITE_EVENTS (w / 6) (w % 6)) Fld.SITE_EVENTS_link_event 0).setSite w
      { SiteSt.zero with dieGtc := s.gtc, dieAt := s.gtc, streams := (s.site w).streams, lost := (s.site w).lost }

/-- Its stripe map, formed anew. -/
def State.bringMap (y : State) (w : Nat) (d : BitVec 512) (out : List Nat) : State :=
  ((upto 17).filter fun m => out.contains m || decide (descField d 20 1 ≤ m)).foldl (fun y m => y.moduleOut w m)
    ((y.formMap w).showMap w)

/-- The identity that the base writes to the die. -/
def State.bringId (y : State) (w : Nat) (agent fresh : Bool) : State :=
  let i := Reg.CORE_DIE_ID (w / 6) (w % 6)
  if agent then y.sf i Fld.CORE_DIE_ID_spares_free 0
  else (if fresh then y.sf i Fld.CORE_DIE_ID_spares_free 0xFF else y).sf i Fld.CORE_DIE_ID_tower w

theorem State.bringUp_served (s : State) (ok : descBad d = false) : s.bringUp w d out =
    (let s4 := ((s.bringLink w d).bringMap w d out).bringId w (!natBit (descField d 27 1) 1) (s.openSite w)
     if s4.siteMask w = 0 ∧ s4.siteHalf w = 0 then s4.siteFailed w else (s4.narrow w).remapSite w) := by
  rw [State.bringUp, if_neg (by simp [ok])]
  rfl

theorem State.census_keeps (s : State) (w : Nat) (d : BitVec 512) (st : Nat) :
    (s.census w d st).mem = s.mem ∧ (s.census w d st).cores = s.cores ∧ (s.census w d st).dwm = s.dwm :=
  foldl_invariant (P := fun y : State => y.mem = s.mem ∧ y.cores = s.cores ∧ y.dwm = s.dwm)
    (by simp only [State.setReg_mem, State.setReg_cores, State.setReg_dwm, and_self])
    fun y _ kept => by simpa only [State.setReg_mem, State.setReg_cores, State.setReg_dwm] using kept

theorem State.census_desc (s : State) (w : Nat) (d : BitVec 512) (st : Nat) {i : Nat} (hi : i < 16) :
    ((s.census w d st).reg (Reg.SITE_DESC w i)).toNat = descField d (4 * i) 4 := by
  have word : (s.census w d st).reg (Reg.SITE_DESC w i) = BitVec.ofNat 64 (descField d (4 * i) 4) :=
    foldl_settles (P := fun y : State => y.reg (Reg.SITE_DESC w i) = BitVec.ofNat 64 (descField d (4 * i) 4))
      (List.mem_range.2 hi) (fun y => State.reg_setReg_same ..) fun y k _ ne kept =>
        (State.reg_setReg_ne y _ (by unfold Reg.SITE_DESC; omega)).trans kept
  rw [word, BitVec.toNat_ofNat, Nat.mod_eq_of_lt]
  exact lt_of_lt_of_le (natBits_lt _ _ _) (by norm_num)

/-- What the link's state takes. -/
theorem State.linkTo (s : State) (w : Nat) {v : Nat} (small : v < 8) :
    let u := s.sf (Reg.SITE_LINK_STATE (w / 6) (w % 6)) Fld.SITE_LINK_STATE_state v
    u.linkState w = v ∧ u.siteMask w = s.siteMask w ∧ u.siteHalf w = s.siteHalf w ∧ ∀ a, DescWord a → u.reg a = s.reg a := by
  refine ⟨State.gf_sf_val (by decide) small, State.gf_sf_ne _ _ _ _ ?_, State.gf_sf_ne _ _ _ _ ?_, fun a ha => State.reg_sf_ne _ _ _ ?_⟩
  · unfold Reg.SITE_MODULES Reg.SITE_LINK_STATE
    omega
  · unfold Reg.SITE_HALF Reg.SITE_LINK_STATE
    omega
  · have := ha.2
    unfold Reg.SITE_LINK_STATE
    omega

/-- The parts of a served site's bring-up that leave the link's state as it is. -/
theorem State.bringLink_kept (s : State) (w : Nat) (d : BitVec 512) :
    SiteKept w ((s.census w d 3).sf (Reg.SITE_LINK_STATE (w / 6) (w % 6)) Fld.SITE_LINK_STATE_state 3) (s.bringLink w d) := by
  have event : OffSite w (Reg.SITE_EVENTS (w / 6) (w % 6)) := by
    refine .high ?_ ?_ ?_ ?_ ?_ <;> simp only [Reg.CLK_SITE_ACTIVE, Reg.SITE_EVENTS, Reg.SITE_LINK_STATE, Reg.SITE_MODULES, Reg.SITE_HALF] <;> omega
  exact ((((SiteKept.linkField _ _ (by decide) _).trans (.linkField _ _ (by decide) _)).trans (.linkField _ _ (by decide) _)).trans
    (.sf _ event _ _)).trans (.setSite ..)

theorem State.bringLink_spec (s : State) {w : Nat} (hw : w < 96) (d : BitVec 512) :
    (s.bringLink w d).mem = s.mem ∧ (s.bringLink w d).cores = s.cores ∧ (s.bringLink w d).linkState w = 3 ∧
      (∀ i < 16, ((s.bringLink w d).reg (Reg.SITE_DESC w i)).toNat = descField d (4 * i) 4) ∧ (s.bringLink w d).dwm = s.dwm := by
  have kept := s.bringLink_kept w d
  obtain ⟨link, -, -, desc⟩ := (s.census w d 3).linkTo w (v := 3) (by decide)
  obtain ⟨mem, cores, dwm⟩ := s.census_keeps w d 3
  refine ⟨kept.mem.trans ?_, kept.cores.trans ?_, kept.link.trans link, fun i hi => ?_, ?_⟩
  · rw [State.sf_mem, mem]
  · rw [State.sf_cores, cores]
  · have word := descWord_of hw hi
    rw [kept.desc _ word, desc _ word, s.census_desc w d 3 hi]
  · rw [State.bringLink, State.setSite_dwm, State.sf_dwm, State.sf_dwm, State.sf_dwm, State.sf_dwm, State.sf_dwm]
    exact dwm

theorem State.bringMap_kept (y : State) (w : Nat) (d : BitVec 512) (out : List Nat) : DieKept w y (y.bringMap w d out) :=
  ((DieKept.formMap y w).trans (SiteKept.showMap ..).toDieKept).trans (.foldl _ _ fun z m => .moduleOut z w m)

theorem SiteKept.bringId (y : State) (w : Nat) (agent fresh : Bool) : SiteKept w y (y.bringId w agent fresh) := by
  have id : OffSite w (Reg.CORE_DIE_ID (w / 6) (w % 6)) := by
    refine .high ?_ ?_ ?_ ?_ ?_ <;> simp only [Reg.CLK_SITE_ACTIVE, Reg.CORE_DIE_ID, Reg.SITE_LINK_STATE, Reg.SITE_MODULES, Reg.SITE_HALF] <;> omega
  unfold State.bringId
  split
  · exact .sf _ id _ _
  · refine SiteKept.trans ?_ (.sf _ id _ _)
    split
    · exact .sf _ id _ _
    · exact .refl w y

/-- At half width the map is as empty as it was. -/
theorem State.narrow_empty (y : State) (w : Nat) : DieKept w y (y.narrow w) ∧
    ((y.narrow w).siteMask w = 0 ∧ (y.narrow w).siteHalf w = 0 ↔ y.siteMask w = 0 ∧ y.siteHalf w = 0) := by
  unfold State.narrow
  split
  · exact ⟨.refl w y, Iff.rfl⟩
  · refine ⟨(DieKept.map _ _ (.inr rfl) _ _).trans (.setSiteMask ..), ?_⟩
    have all : y.siteHalf w ||| y.siteMask w < 2 ^ 17 := Nat.or_lt_two_pow (State.gf_lt ..) (State.gf_lt ..)
    have half : ∀ v < 2 ^ 17, ((y.sf (Reg.SITE_HALF (w / 6) (w % 6)) Fld.SITE_HALF_mask v).setSiteMask w 0).siteHalf w = v := fun v hv =>
      (State.gf_sf_ne _ _ _ _ (by unfold Reg.SITE_MODULES Reg.SITE_HALF; omega)).trans (State.gf_sf_val (by decide) hv)
    rw [State.siteMask_setSiteMask _ _ (by decide), half _ all, Nat.or_eq_zero_iff]
    tauto

/-- A failed site: its link's state says so, and no module joins or leaves. -/
theorem State.siteFailed_spec (y : State) {w : Nat} (hw : w < 96) : (y.siteFailed w).mem = y.mem ∧ (y.siteFailed w).cores = y.cores ∧
    (y.siteFailed w).pwr = y.pwr ∧ (y.siteFailed w).gf (Reg.CLK_SITE_ACTIVE (w / 6) (w % 6)) Fld.CLK_SITE_ACTIVE_mask = 0 ∧
    (y.siteFailed w).linkState w = 4 ∧ (y.siteFailed w).siteMask w = y.siteMask w ∧ (y.siteFailed w).siteHalf w = y.siteHalf w ∧
      ∀ a, DescWord a → (y.siteFailed w).reg a = y.reg a := by
  have census : OffSite w (Reg.SITE_CENSUS0 w) := .low (by unfold Reg.SITE_CENSUS0; omega) (by unfold DescWord Reg.SITE_CENSUS0; omega)
  obtain ⟨link, mask, half, desc⟩ := y.linkTo w (v := 4) (by decide)
  have kept := SiteKept.sf (y.sf (Reg.SITE_LINK_STATE (w / 6) (w % 6)) Fld.SITE_LINK_STATE_state 4) census Fld.SITE_CENSUS0_state 4
  obtain ⟨mem, cores, pwr, clock, link', mask', half', desc'⟩ :=
    ((y.sf (Reg.SITE_LINK_STATE (w / 6) (w % 6)) Fld.SITE_LINK_STATE_state 4).sf (Reg.SITE_CENSUS0 w) Fld.SITE_CENSUS0_state 4).siteOff_spec w
  exact ⟨mem.trans (kept.mem.trans (State.sf_mem ..)), cores.trans (kept.cores.trans (State.sf_cores ..)),
    pwr.trans (kept.pwr.trans (State.sf_pwr ..)), clock, link'.trans (kept.link.trans link), mask'.trans (kept.mask.trans mask),
    half'.trans (kept.half.trans half), fun a ha => (desc' a ha).trans ((kept.desc a ha).trans (desc a ha))⟩

/-- The last step of the bring-up of a site whose map is formed. -/
theorem State.bringEnd_spec {y : State} (hw : w < 96) (link : y.linkState w = 3) :
    let u := if y.siteMask w = 0 ∧ y.siteHalf w = 0 then y.siteFailed w else (y.narrow w).remapSite w
    u.mem = y.mem ∧ u.cores = y.cores ∧ (∀ a, DescWord a → u.reg a = y.reg a) ∧
      u.linkState w = if u.siteMask w = 0 ∧ u.siteHalf w = 0 then 4 else 3 := by
  intro u
  by_cases empty : y.siteMask w = 0 ∧ y.siteHalf w = 0
  · obtain ⟨mem, cores, -, -, link4, mask, half, desc⟩ := y.siteFailed_spec hw
    rw [show u = y.siteFailed w from if_pos empty]
    exact ⟨mem, cores, desc, by rw [link4, mask, half, if_pos empty]⟩
  · obtain ⟨kept, iff⟩ := y.narrow_empty w
    have all := SiteKept.remapSite (y.narrow w) w
    have die := kept.trans all.toDieKept
    rw [show u = (y.narrow w).remapSite w from if_neg empty]
    refine ⟨die.mem, die.cores, die.desc, ?_⟩
    rw [die.link, link, all.mask, all.half, if_neg (mt iff.1 empty)]

/-- What the bring-up of a die leaves. -/
theorem State.bringUp_spec (s : State) (hw : w < 96) (d : BitVec 512) (out : List Nat) :
    let u := s.bringUp w d out
    u.mem = s.mem ∧ u.cores = s.cores ∧ (∀ i < 16, (u.reg (Reg.SITE_DESC w i)).toNat = descField d (4 * i) 4) ∧
      u.linkState w = if descBad d then 5 else if u.siteMask w = 0 ∧ u.siteHalf w = 0 then 4 else 3 := by
  intro u
  by_cases bad : descBad d = true
  · have is : u = ((s.census w d 5).sf (Reg.SITE_LINK_STATE (w / 6) (w % 6)) Fld.SITE_LINK_STATE_state 5).siteOff w := if_pos bad
    obtain ⟨mem, cores, -⟩ := s.census_keeps w d 5
    obtain ⟨link, -, -, desc⟩ := (s.census w d 5).linkTo w (v := 5) (by decide)
    obtain ⟨mem', cores', -, -, link', -, -, desc'⟩ :=
      ((s.census w d 5).sf (Reg.SITE_LINK_STATE (w / 6) (w % 6)) Fld.SITE_LINK_STATE_state 5).siteOff_spec w
    rw [is, if_pos bad]
    refine ⟨mem'.trans ?_, cores'.trans ?_, fun i hi => ?_, link'.trans link⟩
    · rw [State.sf_mem, mem]
    · rw [State.sf_cores, cores]
    · have word := descWord_of hw hi
      rw [desc' _ word, desc _ word, s.census_desc w d 5 hi]
  · have ok : descBad d = false := Bool.eq_false_iff.2 bad
    obtain ⟨mem, cores, link, desc, -⟩ := s.bringLink_spec hw d
    have kept := ((s.bringLink w d).bringMap_kept w d out).trans (SiteKept.bringId _ w (!natBit (descField d 27 1) 1) (s.openSite w)).toDieKept
    have is := s.bringUp_served (w := w) (out := out) ok
    generalize ((s.bringLink w d).bringMap w d out).bringId w (!natBit (descField d 27 1) 1) (s.openSite w) = s4 at kept is
    obtain ⟨mem', cores', desc', link'⟩ := State.bringEnd_spec hw (kept.link.trans link)
    rw [show u = _ from is, ok]
    refine ⟨mem'.trans (kept.mem.trans mem), cores'.trans (kept.cores.trans cores), fun i hi => ?_, link'⟩
    have word := descWord_of hw hi
    exact (congrArg BitVec.toNat ((desc' _ word).trans (kept.desc _ word))).trans (desc i hi)

/-- The map of a site of sixteen modules, none of them in the deadwood map, that all train at full width. -/
theorem State.bringMap_whole (y : State) {t c : Nat} (hc : c < 6) (all : 16 ≤ descField d 20 1)
    (none_ : ∀ e ∈ y.dwm, ¬(e.kind = 0x0A ∧ e.tile.toNat = t ∧ e.site.toNat = c)) :
    (y.bringMap (6 * t + c) d []).siteMask (6 * t + c) = 0xFFFF := by
  generalize tower : 6 * t + c = w
  have formed : ((y.formMap w).showMap w).siteMask w = 0xFFFF := by
    have entries : (y.dwm.filter fun e => e.kind == 0x0A && e.tile.toNat == w / 6 && e.site.toNat == w % 6) = [] := by
      refine List.filter_eq_nil_iff.2 fun e he h => none_ e he ?_
      rw [← tower, tower_div t hc, tower_mod t hc] at h
      simpa [and_assoc] using h
    rw [(SiteKept.showMap ..).mask]
    unfold State.formMap
    dsimp only
    rw [entries, List.foldl_nil, (SiteKept.siteRepair ..).mask, State.siteMask_half, State.siteMask_setSiteMask _ _ (by decide)]
  unfold State.bringMap
  refine List.foldlRecOn (motive := fun z : State => z.siteMask w = 0xFFFF) _ _ formed fun z kept m hm => ?_
  obtain ⟨range, outside⟩ := List.mem_filter.1 hm
  have last : m = 16 := by
    have below := List.mem_range.1 range
    have above : descField d 20 1 ≤ m := by simpa using outside
    omega
  rw [last, State.moduleOut_spare (by rw [kept]; decide), kept]

/-- So it shows after the bring-up too. -/
theorem State.bringUp_whole (s : State) {t c : Nat} (ht : t < 16) (hc : c < 6) (ok : descBad d = false) (all : 16 ≤ descField d 20 1)
    (wide : natBit (descField d 21 1) 0 = true) (none_ : ∀ e ∈ s.dwm, ¬(e.kind = 0x0A ∧ e.tile.toNat = t ∧ e.site.toNat = c)) :
    (s.bringUp (6 * t + c) d []).siteMask (6 * t + c) = 0xFFFF := by
  have hw : 6 * t + c < 96 := by omega
  obtain ⟨-, -, -, desc, dwm⟩ := s.bringLink_spec hw d
  have whole := (s.bringLink (6 * t + c) d).bringMap_whole (d := d) hc all (by rw [dwm]; exact none_)
  have id := SiteKept.bringId ((s.bringLink (6 * t + c) d).bringMap (6 * t + c) d []) (6 * t + c) (!natBit (descField d 27 1) 1) (s.openSite (6 * t + c))
  have kept := ((s.bringLink (6 * t + c) d).bringMap_kept (6 * t + c) d []).trans id.toDieKept
  rw [State.bringUp_served (w := 6 * t + c) (out := []) s ok]
  generalize ((s.bringLink (6 * t + c) d).bringMap (6 * t + c) d []).bringId (6 * t + c) (!natBit (descField d 27 1) 1)
    (s.openSite (6 * t + c)) = s4 at id kept ⊢
  have mask : s4.siteMask (6 * t + c) = 0xFFFF := id.mask.trans whole
  have lanes : natBit (s4.descWord (6 * t + c) 5) 8 = true := by
    rw [State.descWord, kept.desc _ (descWord_of hw (by decide)), desc 5 (by decide)]
    rw [natBit_eq_testBit, descField, natBits_testBit] at wide ⊢
    simpa using wide
  have full : s4.narrow (6 * t + c) = s4 := if_pos lanes
  dsimp only
  rw [if_neg (by rw [mask]; exact fun c => absurd c.1 (by decide)), full, (SiteKept.remapSite ..).mask, mask]

end

/-! ### The die's reset and what it may have lost -/

section
variable (s : State) (w : Nat)

/-- What the reset leaves of a core. -/
def CoreSt.restarted (c : CoreSt) : CoreSt := { CoreSt.zero with fenced := c.fenced, epoch := c.epoch + 1 }

/-- The reset of one core of the die. -/
def State.restartCore (y : State) (w k : Nat) : State := y.setCore (128 * w + k) (y.core (128 * w + k)).restarted

theorem restartCores (n : Nat) : let u := (upto n).foldl (fun y k => y.restartCore w k) s
    u = { s with cores := u.cores } ∧ (∀ k < n, u.core (128 * w + k) = (s.core (128 * w + k)).restarted) ∧
      ∀ k, n ≤ k → u.core (128 * w + k) = s.core (128 * w + k) := by
  induction n with
  | zero => exact ⟨rfl, fun k hk => absurd hk (Nat.not_lt_zero k), fun _ _ => rfl⟩
  | succ n ih =>
    obtain ⟨frame, done, still⟩ := ih
    have step : (upto (n + 1)).foldl (fun y k => y.restartCore w k) s = ((upto n).foldl (fun y k => y.restartCore w k) s).restartCore w n := by
      rw [upto, List.range_succ, List.foldl_append]
      rfl
    rw [step]
    generalize (upto n).foldl (fun y k => y.restartCore w k) s = y at frame done still
    refine ⟨by rw [frame]; rfl, fun k hk => ?_, fun k hk => ?_⟩
    · by_cases last : k = n
      · rw [last]
        exact (State.core_setCore_same ..).trans (congrArg _ (still n le_rfl))
      · exact (State.core_setCore_ne y _ (by omega)).trans (done k (by omega))
    · exact (State.core_setCore_ne y _ (by omega)).trans (still k (by omega))

theorem State.dieReset_spec : (s.dieReset w).dwm = s.dwm ∧
    (s.dieReset w).mem = memClear s.mem (fun a => decide (dmAddr (128 * w) 0 ≤ a) && decide (a < dmAddr (128 * w) 0 + 2 ^ 37)) ∧
      ∀ k < 128, (s.dieReset w).core (128 * w + k) = (s.core (128 * w + k)).restarted := by
  generalize cleared : memClear s.mem (fun a => decide (dmAddr (128 * w) 0 ≤ a) && decide (a < dmAddr (128 * w) 0 + 2 ^ 37)) = m
  obtain ⟨frame, done, -⟩ := restartCores { s with mem := m } w 128
  have is : s.dieReset w = (upto 128).foldl (fun y k => y.restartCore w k) { s with mem := m } := by
    rw [← cleared]
    rfl
  rw [is]
  generalize (upto 128).foldl (fun y k => y.restartCore w k) { s with mem := m } = u at frame done ⊢
  exact ⟨by rw [frame], by rw [frame], done⟩

theorem State.railLost_spec : (s.railLost w).dwm = s.dwm ∧ (s.railLost w).cores = s.cores ∧ ((s.railLost w).mem = s.mem ∨
    (s.railLost w).mem = memClear s.mem fun a => decide (tsAddr w 0 ≤ a) && decide (a < tsAddr w 0 + towerBytes)) := by
  unfold State.railLost State.takeBit
  dsimp only
  split
  · exact ⟨rfl, rfl, .inr rfl⟩
  · exact ⟨rfl, rfl, .inl rfl⟩

theorem State.siteBack_kept (d : BitVec 512) (out : List Nat) : SiteKept w (s.bringUp w d out) (s.siteBack w d out) := by
  unfold State.siteBack
  generalize s.bringUp w d out = s1
  dsimp only
  refine SiteKept.trans ?_ (SiteKept.censusGen _)
  split
  · exact (Reports.contained s1 _).logged
  · exact .refl w s1

end

/-! ### The loss of a link -/

theorem State.writes_three (s : State) (q r p : Nat × Fld × Nat) :
    s.writes [q, r, p] = ((s.sf q.1 q.2.1 q.2.2).sf r.1 r.2.1 r.2.2).sf p.1 p.2.1 p.2.2 := rfl

/-- What a site whose link is gone, its registers written, loses beside them. -/
def State.linkGone (y : State) (w : Nat) (x : SiteSt) (runs : Bool) : State :=
  ((y.setTile (w / 6) { y.tile (w / 6) with down := (y.tile (w / 6)).down.filter fun d => d.w != w }).sfSat
    (Reg.SITE_EVENTS (w / 6) (w % 6)) Fld.SITE_EVENTS_downs 1).setSite w
      { SiteSt.zero with streams := if runs then x.streams else [], lost := runs, dieGtc := x.dieGtc, dieAt := x.dieAt,
                         events := x.events, run := x.run, ended := x.ended }

theorem State.linkGone_planForce (y : State) (w : Nat) (x : SiteSt) (runs : Bool) : (y.linkGone w x runs).planForce = y.planForce := by
  rw [State.linkGone, State.setSite_planForce, State.sfSat, State.sf_planForce, State.setTile_planForce]

theorem State.siteDown_up {s : State} {w : Nat} (up : s.linkState w = 3) : s.siteDown w =
    (let y := s.writes [(Reg.SITE_LINK_STATE (w / 6) (w % 6), Fld.SITE_LINK_STATE_state, 0), (Reg.SITE_LINK_STATE (w / 6) (w % 6),
        Fld.SITE_LINK_STATE_streams, if (s.standOfTower w).any s.inRun then (s.site w).streams.length else 0),
        (Reg.SITE_EVENTS (w / 6) (w % 6), Fld.SITE_EVENTS_link_event, 1)]
     let s1 := y.linkGone w (s.site w) ((s.standOfTower w).any s.inRun)
     match s.standOfTower w with
     | some i => s1.standFatal i (siteErr 7 0x1B w)
     | none => s1) := by
  rw [State.siteDown, State.writes_three]
  dsimp only
  rw [if_neg (by rw [up]; decide)]
  have three (q r p : Nat × Fld × Nat) : (((s.sf q.1 q.2.1 q.2.2).sf r.1 r.2.1 r.2.2).sf p.1 p.2.1 p.2.2).planForce = s.planForce := by
    rw [State.sf_planForce, State.sf_planForce, State.sf_planForce]
  have plan := three (Reg.SITE_LINK_STATE (w / 6) (w % 6), Fld.SITE_LINK_STATE_state, 0) (Reg.SITE_LINK_STATE (w / 6) (w % 6),
    Fld.SITE_LINK_STATE_streams, if (s.standOfTower w).any s.inRun then (s.site w).streams.length else 0)
    (Reg.SITE_EVENTS (w / 6) (w % 6), Fld.SITE_EVENTS_link_event, 1)
  dsimp only at plan
  generalize ((s.sf (Reg.SITE_LINK_STATE (w / 6) (w % 6)) Fld.SITE_LINK_STATE_state 0).sf (Reg.SITE_LINK_STATE (w / 6) (w % 6))
    Fld.SITE_LINK_STATE_streams (if (s.standOfTower w).any s.inRun then (s.site w).streams.length else 0)).sf
    (Reg.SITE_EVENTS (w / 6) (w % 6)) Fld.SITE_EVENTS_link_event 1 = y at plan ⊢
  have same : (y.linkGone w (s.site w) ((s.standOfTower w).any s.inRun)).standOfTower w = s.standOfTower w := by
    unfold State.standOfTower
    rw [State.linkGone_planForce, plan]
  unfold State.linkGone at same ⊢
  rw [same]
  all_goals rfl

section
variable {s : State} {t c : Nat} (ht : t < 16) (hc : c < 6)
include ht hc

theorem siteLinkDown_loses (up : s.linkState (6 * t + c) = 3) :
    let w := 6 * t + c
    let x := s.site w
    let a := Reg.SITE_LINK_STATE t c
    let e := Reg.SITE_EVENTS t c
    let runs := (s.standOfTower w).any s.inRun
    let y := s.writes [(a, Fld.SITE_LINK_STATE_state, 0), (a, Fld.SITE_LINK_STATE_streams, if runs then x.streams.length else 0),
      (e, Fld.SITE_EVENTS_link_event, 1)]
    let s1 := ((y.setTile t { y.tile t with down := (y.tile t).down.filter fun d => d.w != w }).sfSat e
      Fld.SITE_EVENTS_downs 1).setSite w
        { SiteSt.zero with streams := if runs then x.streams else [], lost := runs, dieGtc := x.dieGtc, dieAt := x.dieAt,
                           events := x.events, run := x.run, ended := x.ended }
    exec (.siteLinkDown t c) s = .next (match s.standOfTower w with
      | some i => s1.standFatal i (siteErr 7 0x1B w)
      | none => s1) := by
  intro w x a e runs y s1
  have div : w / 6 = t := tower_div t hc
  have mod : w % 6 = c := tower_mod t hc
  show execSiteLinkDown t c s = _
  rw [execSiteLinkDown, if_neg (by omega), State.siteDown_up up]
  unfold State.linkGone
  rw [div, mod]

theorem agentFault_fatal {i : Nat} (up : s.linkState (6 * t + c) = 3) (stand : s.standOfTower (6 * t + c) = some i)
    (agent : s.openSite (6 * t + c) = true) (code src : BitVec 8) : exec (.agentFault t c code src) s =
      .next (s.standFatal i { siteErr 7 0x1E (6 * t + c) with gcore := some (128 * (6 * t + c) + src.toNat), detail := some code.toNat }) := by
  show execAgentFault t c code src s = _
  rw [execAgentFault, if_neg (by omega)]
  dsimp only
  rw [stand]
  exact if_pos ⟨agent, up⟩

theorem linkEvent_kept {m : Nat} (hm : m < 17) (cause : Nat) (up : s.linkState (6 * t + c) = 3) : exec (.linkEvent t c m cause) s =
    .next (s.setSite (6 * t + c) { s.site (6 * t + c) with events := (s.site (6 * t + c)).events ++ [(m, cause)] }) := by
  show execLinkEvent t c m cause s = _
  rw [execLinkEvent, if_neg (by rw [siteGuard_iff.2 ⟨ht, hc, hm⟩]; decide), if_pos up]
  rfl

/-! ### Its return -/

variable (down : s.linkState (6 * t + c) = 0) (event : s.gf (Reg.SITE_EVENTS t c) Fld.SITE_EVENTS_link_event = 1) {found : SiteFound}

theorem siteLinkReturn_waits (off : s.tripped = true ∨ s.clk.stopped = true) (bad : List Nat) :
    exec (.siteLinkReturn t c found bad) s = .next s := by
  show execSiteLinkReturn t c found bad s = _
  rw [execSiteLinkReturn, if_neg (by omega)]
  dsimp only
  rw [if_pos (.inr (.inr off))]

include down event

theorem siteLinkReturn_fails (calm : s.tripped = false) (goes : s.clk.stopped = false) (fails : found.fails = true ∨ ∀ m < 17, m ∈ found.out)
    (bad : List Nat) : exec (.siteLinkReturn t c found bad) s = .next (s.siteFailed (6 * t + c)).censusGen := by
  show execSiteLinkReturn t c found bad s = _
  rw [execSiteLinkReturn, if_neg (by omega)]
  dsimp only
  rw [if_neg (by rw [down, event, calm, goes]; decide), if_pos]
  rcases fails with yes | none_
  · rw [yes]
    rfl
  · rw [Bool.or_eq_true]
    exact .inr (List.all_eq_true.2 fun m hm => by simpa using none_ m (List.mem_range.1 hm))

theorem siteLinkReturn_served (calm : s.tripped = false) (goes : s.clk.stopped = false) (serves : found.fails = false)
    (some_ : ∃ m < 17, m ∉ found.out) : exec (.siteLinkReturn t c found []) s =
      .next (((s.dieReset (6 * t + c)).railLost (6 * t + c)).siteBack (6 * t + c) found.desc found.out) := by
  obtain ⟨m, hm, trains⟩ := some_
  have notAll : ((upto 17).all fun m => found.out.contains m) = false := by
    rw [List.all_eq_false]
    exact ⟨m, List.mem_range.2 hm, by simpa using trains⟩
  show execSiteLinkReturn t c found [] s = _
  rw [execSiteLinkReturn, if_neg (by omega)]
  dsimp only
  rw [if_neg (by rw [down, event, calm, goes]; decide), if_neg (by rw [serves, notAll]; decide), List.filter_nil, List.foldl_nil]
  exact ite_self _

end

/-- Where the data memories of tower `w` stand. -/
theorem dmAddr_tower {g o w : Nat} (tower : towerOf g = w) (ho : o < dmBytes) :
    dmAddr (128 * w) 0 ≤ dmAddr g o ∧ dmAddr g o < dmAddr (128 * w) 0 + 2 ^ 37 := by
  unfold dmAddr towerOf rowOf colOf dmBytes at *
  omega

/-- Settles O41: the link's loss by its writes; the return through the die's reset, the bring-up's parts and what each keeps. -/
theorem siteFaultsAndReturns : Obligations.SiteFaultsAndReturns := by
  unfold Obligations.SiteFaultsAndReturns
  refine ⟨?_, ?_⟩
  · intro s t c ht hc w x up
    exact ⟨fun code src i stand agent => agentFault_fatal ht hc up stand agent code src,
      fun m cause hm => linkEvent_kept ht hc hm cause up, siteLinkDown_loses ht hc up⟩
  intro s t c found ht hc w desc down event
  have hw : w < 96 := by omega
  obtain ⟨-, -, -, -, failed, -⟩ := s.siteFailed_spec hw
  refine ⟨siteLinkReturn_waits ht hc, fun calm goes fails bad =>
    ⟨siteLinkReturn_fails ht hc down event calm goes fails bad, failed⟩, fun calm goes serves some_ => ?_⟩
  obtain ⟨dwm1, mem1, cores1⟩ := s.dieReset_spec w
  have does := siteLinkReturn_served ht hc down event calm goes serves some_
  generalize s.dieReset w = s1 at dwm1 mem1 cores1 does
  obtain ⟨dwm2, cores2, mem2⟩ := s1.railLost_spec w
  generalize s1.railLost w = s2 at dwm2 cores2 mem2 does
  obtain ⟨mem3, cores3, words, link⟩ := s2.bringUp_spec hw desc found.out
  have back := s2.siteBack_kept w desc found.out
  refine ⟨_, does, fun k hk => ?_, fun g o tower ho => ?_, fun a ha apart => ?_, ?_, ?_, fun i hi => ?_, fun ok none_ all wide dead => ?_⟩
  · have cores : (s2.siteBack w desc found.out).core = s1.core := by
      unfold State.core
      rw [back.cores, cores3, cores2]
    rw [cores]
    exact cores1 k hk
  · have zero : memGet s1.mem (dmAddr g o) = 0 := by
      obtain ⟨low, high⟩ := dmAddr_tower tower ho
      rw [mem1, memGet_memClear, if_pos (by simp only [Bool.and_eq_true, decide_eq_true_eq]; exact ⟨low, high⟩)]
    rw [back.mem, mem3]
    rcases mem2 with same | cleared
    · rw [same, zero]
    · rw [cleared, memGet_memClear, zero, ite_self]
  · have kept : memGet s1.mem a = memGet s.mem a := by
      rw [mem1, memGet_memClear, if_neg]
      have : 0x3000_0000_0000 ≤ dmAddr (128 * w) 0 := by unfold dmAddr; omega
      simp only [Bool.and_eq_true, decide_eq_true_eq]
      omega
    rw [back.mem, mem3, ← kept]
    rcases mem2 with same | cleared
    · rw [same]
    · rw [cleared, memGet_memClear, if_neg]
      simp only [Bool.and_eq_true, decide_eq_true_eq]
      omega
  · have below (o : Nat) (ho : o < towerBytes) : tsAddr w o < 0x3000_0000_0000 := by
      unfold tsAddr towerBytes at *
      omega
    have kept (o : Nat) (ho : o < towerBytes) : memGet s1.mem (tsAddr w o) = memGet s.mem (tsAddr w o) := by
      have high := below o ho
      rw [mem1, memGet_memClear, if_neg]
      have : 0x3000_0000_0000 ≤ dmAddr (128 * w) 0 := by unfold dmAddr; omega
      simp only [Bool.and_eq_true, decide_eq_true_eq]
      omega
    rw [back.mem, mem3]
    rcases mem2 with same | cleared
    · exact .inl fun o ho => by rw [same, kept o ho]
    · refine .inr fun o ho => ?_
      have inside : tsAddr w 0 ≤ tsAddr w o ∧ tsAddr w o < tsAddr w 0 + towerBytes := by
        unfold tsAddr
        omega
      rw [cleared, memGet_memClear, if_pos (by simp [inside])]
  · rw [back.link, back.mask, back.half]
    exact link
  · rw [back.desc _ (descWord_of hw hi)]
    exact words i hi
  · rw [back.mask, none_]
    exact s2.bringUp_whole ht hc ok all wide (by rw [dwm2, dwm1]; exact dead)

end Sys2Proof.Machine

/-! PROOF. A stand's power target, entry, ramp and wake (R427, R437 to R439, R448). -/

namespace Sys2Proof.Machine

/-! ### Registers alone -/

/-- From `s` to `u` only registers of `R` change. -/
structure RegsOnly (R : Nat → Prop) (s u : State) : Prop where
  frame : u = { s with regs := u.regs }
  regs : ∀ a, ¬R a → u.reg a = s.reg a

section
variable {R : Nat → Prop} {s t u : State}

theorem RegsOnly.refl (R : Nat → Prop) (s : State) : RegsOnly R s s := ⟨rfl, fun _ _ => rfl⟩

theorem RegsOnly.trans (h : RegsOnly R s t) (k : RegsOnly R t u) : RegsOnly R s u :=
  ⟨by rw [k.frame, h.frame], fun a ha => (k.regs a ha).trans (h.regs a ha)⟩

theorem RegsOnly.sf (s : State) {a : Nat} (h : R a) (f : Fld) (v : Nat) : RegsOnly R s (s.sf a f v) :=
  ⟨rfl, fun _ hb => State.reg_sf_ne _ _ _ fun c => hb (c ▸ h)⟩

theorem RegsOnly.foldl {α : Type} {f : State → α → State} (l : List α) (s : State) (h : ∀ y a, RegsOnly R y (f y a)) :
    RegsOnly R s (l.foldl f s) := foldl_invariant (P := RegsOnly R s) (.refl R s) fun y a k => k.trans (h y a)

theorem RegsOnly.gf (h : RegsOnly R s u) {a : Nat} (ha : ¬R a) (f : Fld) : u.gf a f = s.gf a f := State.gf_of_reg (h.regs a ha) f

theorem RegsOnly.pwr (h : RegsOnly R s u) : u.pwr = s.pwr := by rw [h.frame]

end

/-- The registers of the stacks' states and pads. -/
def StackReg (a : Nat) : Prop := ∃ t c, a = Reg.HBM_STATE t c ∧ c < 2 ∨ a = Reg.PWR_PAD_HOLD t

theorem RegsOnly.stackLeave (s : State) (j : Nat) : RegsOnly StackReg s (s.stackLeave j) := by
  unfold State.stackLeave
  dsimp only
  split
  · exact .sf _ ⟨_, _, .inl ⟨rfl, Nat.mod_lt _ (by decide)⟩⟩ _ _
  · exact .refl _ s

theorem RegsOnly.stackWake (s : State) (j : Nat) : RegsOnly StackReg s (s.stackWake j) := by
  have leave := RegsOnly.stackLeave s j
  unfold State.stackWake
  generalize s.stackLeave j = s1 at leave ⊢
  dsimp only
  split
  · exact leave.trans (.sf _ ⟨_, 0, .inr rfl⟩ _ _)
  · exact leave

/-! ### What a wake and an entry write -/

/-- The registers that stand `i`'s power state moves. -/
def WakeReg (i a : Nat) : Prop := a = Reg.PWR_STD_STATE i ∨ a = Reg.PWR_STD_WAKE i ∨ StackReg a

/-- From `s` to `u` every other register is kept. -/
structure Wakes (i : Nat) (s u : State) : Prop where
  regs : ∀ a, ¬WakeReg i a → u.reg a = s.reg a

section
variable {i : Nat} {s t u : State}

theorem Wakes.refl (i : Nat) (s : State) : Wakes i s s := ⟨fun _ _ => rfl⟩

theorem Wakes.trans (h : Wakes i s t) (k : Wakes i t u) : Wakes i s u :=
  ⟨fun a ha => (k.regs a ha).trans (h.regs a ha)⟩

theorem Wakes.sf (s : State) {a : Nat} (h : WakeReg i a) (f : Fld) (v : Nat) : Wakes i s (s.sf a f v) :=
  ⟨fun _ hb => State.reg_sf_ne _ _ _ fun c => hb (c ▸ h)⟩

theorem Wakes.state (s : State) (f : Fld) (v : Nat) : Wakes i s (s.sf (Reg.PWR_STD_STATE i) f v) := .sf s (.inl rfl) f v

theorem Wakes.setPwr (s : State) (k : Nat) (x : PwrSt) : Wakes i s (s.setPwr k x) := ⟨fun _ _ => rfl⟩

theorem RegsOnly.wakes (h : RegsOnly StackReg s u) : Wakes i s u :=
  ⟨fun a ha => h.regs a fun c => ha (.inr (.inr c))⟩

theorem Wakes.startTower (s : State) (i : Nat) : Wakes i s (s.startTower i) := by
  unfold State.startTower
  dsimp only
  split
  · exact .refl i s
  · exact ((Wakes.setPwr ..).trans (.state ..)).trans (RegsOnly.foldl _ _ fun y j => .stackLeave y j).wakes

theorem Wakes.startAll (i n : Nat) (s : State) : Wakes i s (startAll i n s) := by
  induction n generalizing s with
  | zero => exact .refl i s
  | succ n ih => exact (Wakes.startTower s i).trans (ih _)

theorem Wakes.enter (s : State) (i g : Nat) : Wakes i s (s.enter i g) := by
  unfold State.enter
  dsimp only
  split
  · exact .refl i s
  · exact (Wakes.state ..).trans (.setPwr ..)

theorem Wakes.exitOver (s : State) (i : Nat) : Wakes i s (s.exitOver i) := by
  have left : Wakes i s ((s.stacksOf i).foldl (fun y j => y.stackWake j) s) := (RegsOnly.foldl _ _ fun y j => .stackWake y j).wakes
  have shown (v : Nat) : Wakes i s (if (s.pwrS i).undo then (((s.stacksOf i).foldl (fun y j => y.stackWake j) s).setPState i 0).setPStep i 0
      else ((((s.stacksOf i).foldl (fun y j => y.stackWake j) s).setPState i 0).setPStep i 0).sf (Reg.PWR_STD_WAKE i)
        Fld.PWR_STD_WAKE_ticks v) := by
    split
    · exact (left.trans (.state ..)).trans (.state ..)
    · exact ((left.trans (.state ..)).trans (.state ..)).trans (.sf _ (.inr (.inl rfl)) _ _)
  unfold State.exitOver
  dsimp only
  split
  · split
    · exact (shown _).trans (.setPwr ..)
    · exact ((shown _).trans (.setPwr ..)).trans (.enter ..)
  · exact (shown _).trans (.setPwr ..)

theorem Wakes.exitStart (s : State) (i : Nat) : Wakes i s (s.exitStart i) := by
  have first (x : PwrSt) : Wakes i s ((s.setPStep i 6).setPwr i x) := (Wakes.state ..).trans (.setPwr ..)
  have left (y : State) (ws : List Nat) :
      Wakes i y ((y.stacksOf i).foldl (fun z j => if ws.any fun w => w / 6 = j / 2 then z else z.stackLeave j) y) := by
    refine (RegsOnly.foldl _ _ fun z j => ?_).wakes
    split
    · exact .refl _ z
    · exact .stackLeave z j
  have starts (y : State) (h : Wakes i s y) (ws : List Nat) : Wakes i s (if ws = [] then y.exitOver i
      else if y.rampBefore i then y.sf (Reg.PWR_STD_STATE i) Fld.PWR_STD_STATE_ramping 1
      else if s.gf (Reg.PWR_STD_CTL i) Fld.PWR_STD_CTL_ramp = 0 then Machine.startAll i ws.length y
      else y.startTower i) := by
    split
    · exact h.trans (.exitOver ..)
    · split
      · exact h.trans (.state ..)
      · split
        · exact h.trans (.startAll ..)
        · exact h.trans (.startTower ..)
  unfold State.exitStart
  exact starts _ ((first _).trans (left _ _)) _

theorem Wakes.wake (s : State) (i : Nat) : Wakes i s (s.wake i) := by
  unfold State.wake
  dsimp only
  split
  · exact .setPwr ..
  · split
    · exact .setPwr ..
    · split
      · exact .setPwr ..
      · split
        · exact .setPwr ..
        · exact (Wakes.setPwr ..).trans (.exitStart ..)

theorem Wakes.targetActs (s : State) (i tgt : Nat) : Wakes i s (s.targetActs i tgt) := by
  unfold State.targetActs
  dsimp only
  split
  · exact .refl i s
  · split
    · exact (Wakes.setPwr ..).trans (.wake ..)
    · split
      · split
        · exact .setPwr ..
        · split
          · exact .setPwr ..
          · split
            · exact (Wakes.wake ..).trans (.setPwr ..)
            · exact .refl i s
      · split
        · exact .setPwr ..
        · split
          · exact .enter ..
          · split
            · exact (Wakes.wake ..).trans (.setPwr ..)
            · exact .refl i s

end

/-! ### The target -/

theorem not_wakeReg_low {i a : Nat} (low : a < 0x1_0000_0000) (state : a ≠ Reg.PWR_STD_STATE i) (wake : a ≠ Reg.PWR_STD_WAKE i) :
    ¬WakeReg i a := by
  rintro (h | h | ⟨t, c, ⟨h, -⟩ | h⟩)
  · exact state h
  · exact wake h
  · unfold Reg.HBM_STATE at h
    omega
  · unfold Reg.PWR_PAD_HOLD at h
    omega

theorem State.ctlWrite_served {s : State} {i v : Nat} (ramp : natBits v 2 7 ≤ 64) : s.ctlWrite i v =
    ((((s.sf (Reg.PWR_STD_CTL i) Fld.PWR_STD_CTL_target (v % 4)).sf (Reg.PWR_STD_CTL i) Fld.PWR_STD_CTL_idle_delay (natBits v 16 16)).sf
      (Reg.PWR_STD_CTL i) Fld.PWR_STD_CTL_ramp (natBits v 2 7)).targetActs i (v % 4)) := by
  rw [State.ctlWrite, if_pos ramp]

theorem State.targetActs_deeper {y : State} {i g : Nat} (idle : y.inRun i = false) (free : (y.pwrS i).parked = false)
    (none_ : (y.pwrS i).goal = none) (still : y.pStep i ≠ 6) (deeper : y.pState i < g) : ((y.targetActs i g).pwrS i).goal = some g := by
  have acts : y.targetActs i g = y.enter i g := by
    rw [State.targetActs]
    dsimp only
    rw [if_neg (by rw [idle, free]; decide), if_neg (by omega), none_]
    dsimp only
    rw [if_neg still, if_pos deeper]
  rw [acts, State.enter, if_neg (by omega), State.pwrS_setPwr_same]

section
variable {s : State} {i : Nat} (hi : i < 16)
include hi

theorem standTargetWrite_sets {p : Nat} {v : BitVec 32} (served : Served s p (Reg.PWR_STD_CTL i)) (master : planPort s.planForce i = p)
    (ramp : natBits v.toNat 2 7 ≤ 64) :
    ∃ u, exec (.standTargetWrite p i v) s = .next u ∧ u.gf (Reg.PWR_STD_CTL i) Fld.PWR_STD_CTL_target = v.toNat % 4 ∧
      u.gf (Reg.PWR_STD_CTL i) Fld.PWR_STD_CTL_idle_delay = natBits v.toNat 16 16 ∧
      u.gf (Reg.PWR_STD_CTL i) Fld.PWR_STD_CTL_ramp = natBits v.toNat 2 7 ∧
      (s.inRun i = false → (s.pwrS i).parked = false → (s.pwrS i).goal = none → s.pStep i ≠ 6 → s.pState i < v.toNat % 4 →
        (u.pwrS i).goal = some (v.toNat % 4)) := by
  have does : exec (.standTargetWrite p i v) s = .next (s.ctlWrite i v.toNat) := by
    show execStandTargetWrite p i v s = _
    rw [execStandTargetWrite, if_neg (by omega), State.hostWrite_served served, State.asMaster, if_neg (by simp [master])]
  have ctl : ¬WakeReg i (Reg.PWR_STD_CTL i) := by
    refine not_wakeReg_low ?_ ?_ ?_ <;> simp only [Reg.PWR_STD_CTL, Reg.PWR_STD_STATE, Reg.PWR_STD_WAKE] <;> omega
  rw [State.ctlWrite_served ramp] at does
  have target := State.gf_sf_val (s := s) (a := Reg.PWR_STD_CTL i) (f := Fld.PWR_STD_CTL_target) (by decide)
    (show v.toNat % 4 < 2 ^ 2 from Nat.mod_lt _ (by decide))
  have off (y : State) (f : Fld) (n : Nat) : RegsOnly (· = Reg.PWR_STD_CTL i) y (y.sf (Reg.PWR_STD_CTL i) f n) :=
    RegsOnly.sf (R := (· = Reg.PWR_STD_CTL i)) y rfl f n
  have others := off s Fld.PWR_STD_CTL_target (v.toNat % 4)
  generalize s.sf (Reg.PWR_STD_CTL i) Fld.PWR_STD_CTL_target (v.toNat % 4) = s1 at does target others
  have delay := State.gf_sf_val (s := s1) (a := Reg.PWR_STD_CTL i) (f := Fld.PWR_STD_CTL_idle_delay) (by decide) (natBits_lt v.toNat 16 16)
  have target1 := (State.gf_sf_apart (s := s1) (a := Reg.PWR_STD_CTL i) (v := natBits v.toNat 16 16) (f := Fld.PWR_STD_CTL_idle_delay)
    (g := Fld.PWR_STD_CTL_target) (by decide) (by decide)).trans target
  have others1 := others.trans (off s1 Fld.PWR_STD_CTL_idle_delay (natBits v.toNat 16 16))
  generalize s1.sf (Reg.PWR_STD_CTL i) Fld.PWR_STD_CTL_idle_delay (natBits v.toNat 16 16) = s2 at does delay target1 others1
  have ramp2 := State.gf_sf_val (s := s2) (a := Reg.PWR_STD_CTL i) (f := Fld.PWR_STD_CTL_ramp) (by decide) (natBits_lt v.toNat 2 7)
  have target2 := (State.gf_sf_apart (s := s2) (a := Reg.PWR_STD_CTL i) (v := natBits v.toNat 2 7) (f := Fld.PWR_STD_CTL_ramp)
    (g := Fld.PWR_STD_CTL_target) (by decide) (by decide)).trans target1
  have delay2 := (State.gf_sf_apart (s := s2) (a := Reg.PWR_STD_CTL i) (v := natBits v.toNat 2 7) (f := Fld.PWR_STD_CTL_ramp)
    (g := Fld.PWR_STD_CTL_idle_delay) (by decide) (by decide)).trans delay
  have others2 := others1.trans (off s2 Fld.PWR_STD_CTL_ramp (natBits v.toNat 2 7))
  generalize s2.sf (Reg.PWR_STD_CTL i) Fld.PWR_STD_CTL_ramp (natBits v.toNat 2 7) = s3 at does target2 delay2 ramp2 others2
  have acts := (Wakes.targetActs s3 i (v.toNat % 4)).regs _ ctl
  refine ⟨_, does, (State.gf_of_reg acts _).trans target2, (State.gf_of_reg acts _).trans delay2, (State.gf_of_reg acts _).trans ramp2,
    fun idle free none_ still deeper => ?_⟩
  have power : s3.pwrS i = s.pwrS i := by rw [State.pwrS, others2.pwr]; rfl
  have step : s3.pStep i = s.pStep i := others2.gf (by unfold Reg.PWR_STD_STATE Reg.PWR_STD_CTL; omega) _
  have state : s3.pState i = s.pState i := others2.gf (by unfold Reg.PWR_STD_STATE Reg.PWR_STD_CTL; omega) _
  have run : s3.inRun i = false := by
    have std : s3.stdState i = s.stdState i := others2.gf (by unfold Reg.STD_STATUS Reg.PWR_STD_CTL; omega) _
    rw [State.inRun, std]
    exact idle
  exact State.targetActs_deeper run (by rw [power]; exact free) (by rw [power]; exact none_) (by rw [step]; exact still)
    (by rw [state]; exact deeper)

theorem idleDelayExpiry_enters (idle : (s.pwrS i).idle = true) (over_ : s.inRun i = false) (free : (s.pwrS i).parked = false)
    (goes : s.clk.stopped = false) (still : s.pStep i ≠ 6) (asleep : (s.pwrS i).wake = false) : exec (.idleDelayExpiry i) s =
      .next ((s.setPwr i { s.pwrS i with idle := false }).enter i (s.gf (Reg.PWR_STD_CTL i) Fld.PWR_STD_CTL_target)) := by
  show execIdleDelayExpiry i s = _
  rw [execIdleDelayExpiry, if_neg (by omega)]
  dsimp only
  rw [if_neg (by simp [idle, over_, free, goes]), if_neg (by simp [still, asleep])]

theorem idleDelayExpiry_later (idle : (s.pwrS i).idle = true) (over_ : s.inRun i = false) (free : (s.pwrS i).parked = false)
    (goes : s.clk.stopped = false) (exits : s.pStep i = 6 ∨ (s.pwrS i).wake = true) :
    let tgt := s.gf (Reg.PWR_STD_CTL i) Fld.PWR_STD_CTL_target
    let s1 := s.setPwr i { s.pwrS i with idle := false }
    exec (.idleDelayExpiry i) s = .next (if tgt = 0 then s1 else s1.setPwr i { s1.pwrS i with after := some tgt }) := by
  intro tgt s1
  show execIdleDelayExpiry i s = _
  rw [execIdleDelayExpiry, if_neg (by omega)]
  dsimp only
  rw [if_neg (by simp [idle, over_, free, goes]), if_pos exits]

end

/-! ### The clocks of a tower -/

/-- The registers of tower `w`'s clocks. -/
def ClockReg (w a : Nat) : Prop :=
  a = Reg.CLK_SITE_ACTIVE (w / 6) (w % 6) ∨ a = Reg.CLK_SITE_DIV (w / 6) (w % 6) ∨ a = Reg.CLK_TILE_STATUS (w / 6)

theorem RegsOnly.setSiteLock (s : State) (w v : Nat) : RegsOnly (ClockReg w) s (s.setSiteLock w v) := .sf _ (.inr (.inr rfl)) _ _

theorem RegsOnly.setBranches (s : State) (w st : Nat) : RegsOnly (ClockReg w) s (s.setBranches w st) :=
  ((RegsOnly.sf _ (.inl rfl) _ _).trans (.sf _ (.inr (.inl rfl)) _ _)).trans (.setSiteLock ..)

theorem RegsOnly.mono {R Q : Nat → Prop} {s u : State} (h : RegsOnly R s u) (sub : ∀ a, R a → Q a) : RegsOnly Q s u :=
  ⟨h.frame, fun a ha => h.regs a (mt (sub a) ha)⟩

theorem branchMask_lt (st : Nat) : branchMask st < 2 ^ 15 := by
  unfold branchMask
  split_ifs <;> decide

theorem State.setBranches_mask (s : State) (w st : Nat) :
    (s.setBranches w st).gf (Reg.CLK_SITE_ACTIVE (w / 6) (w % 6)) Fld.CLK_SITE_ACTIVE_mask = branchMask st := by
  unfold State.setBranches State.setSiteLock
  dsimp only
  rw [State.gf_sf_ne _ _ _ _ (by unfold Reg.CLK_SITE_ACTIVE Reg.CLK_TILE_STATUS; omega),
    State.gf_sf_ne _ _ _ _ (by unfold Reg.CLK_SITE_ACTIVE Reg.CLK_SITE_DIV; omega)]
  exact State.gf_sf_val (by decide) (branchMask_lt st)

/-- The clocks of another tower. -/
theorem not_clockReg {w v : Nat} (h : v ≠ w) : ¬ClockReg v (Reg.CLK_SITE_ACTIVE (w / 6) (w % 6)) := by
  rintro (c | c | c)
  · unfold Reg.CLK_SITE_ACTIVE at c
    omega
  · unfold Reg.CLK_SITE_ACTIVE Reg.CLK_SITE_DIV at c
    omega
  · unfold Reg.CLK_SITE_ACTIVE Reg.CLK_TILE_STATUS at c
    omega

theorem ClockReg.high {w a : Nat} (h : ClockReg w a) : 0x1_0000_0000 ≤ a := by
  rcases h with rfl | rfl | rfl
  · unfold Reg.CLK_SITE_ACTIVE
    omega
  · unfold Reg.CLK_SITE_DIV
    omega
  · unfold Reg.CLK_TILE_STATUS
    omega

/-- The stop of a tower's synthesiser. -/
def State.synthStop (x : State) (w : Nat) : State :=
  (x.setSiteLock w 0).sf (Reg.CLK_SITE_ACTIVE (w / 6) (w % 6)) Fld.CLK_SITE_ACTIVE_mask
    (natPut (x.gf (Reg.CLK_SITE_ACTIVE (w / 6) (w % 6)) Fld.CLK_SITE_ACTIVE_mask) 14 1 0)

theorem State.entryStep_four (s : State) (i g : Nat) : s.entryStep i g 4 = (s.towersOf i).foldl State.synthStop s := rfl

theorem RegsOnly.synthStop (x : State) (w : Nat) : RegsOnly (ClockReg w) x (x.synthStop w) :=
  (RegsOnly.setSiteLock ..).trans (.sf _ (.inl rfl) _ _)

theorem State.synthStop_off (x : State) (w : Nat) : (x.synthStop w).synthOn w = false := by
  have mask : (x.synthStop w).gf (Reg.CLK_SITE_ACTIVE (w / 6) (w % 6)) Fld.CLK_SITE_ACTIVE_mask =
      natPut (x.gf (Reg.CLK_SITE_ACTIVE (w / 6) (w % 6)) Fld.CLK_SITE_ACTIVE_mask) 14 1 0 :=
    State.gf_sf_val (by decide) (natPut_lt (x.gf_lt _ _) (show 14 + 1 ≤ 15 by decide))
  rw [State.synthOn, mask]
  exact natBit_natPut_same _ 14 false

/-- The fourth step of an entry: every synthesiser of the stand stops. -/
theorem State.entryStep_stops (s : State) (i g : Nat) : RegsOnly (0x1_0000_0000 ≤ ·) s (s.entryStep i g 4) ∧
    ∀ w ∈ s.towersOf i, (s.entryStep i g 4).synthOn w = false := by
  rw [State.entryStep_four]
  refine ⟨.foldl _ _ fun y w => (RegsOnly.synthStop y w).mono fun _ => ClockReg.high, fun w hw => ?_⟩
  refine foldl_settles (P := fun y : State => y.synthOn w = false) hw (fun y => y.synthStop_off w) fun y v _ ne off => ?_
  rw [State.synthOn, (RegsOnly.synthStop y v).gf (not_clockReg ne)]
  exact off

/-- A tower's arrival in a state. -/
def State.towerEnters (g : Nat) (x : State) (w : Nat) : State :=
  let y := x.setBranches w g
  if g = 3 ∧ y.gf (Reg.SITE_LINK_STATE (w / 6) (w % 6)) Fld.SITE_LINK_STATE_state = 3 then
    y.sf (Reg.SITE_LINK_STATE (w / 6) (w % 6)) Fld.SITE_LINK_STATE_state 0
  else y

theorem State.entryStep_five (s : State) (i g : Nat) : s.entryStep i g 5 =
    ((s.towersOf i).filter fun w => s.gf (Reg.CLK_SITE_ACTIVE (w / 6) (w % 6)) Fld.CLK_SITE_ACTIVE_mask != 0).foldl (State.towerEnters g) s := rfl

theorem RegsOnly.towerEnters (g : Nat) (x : State) (w : Nat) :
    RegsOnly (fun a => ClockReg w a ∨ a = Reg.SITE_LINK_STATE (w / 6) (w % 6)) x (x.towerEnters g w) := by
  have enters : RegsOnly (fun a => ClockReg w a ∨ a = Reg.SITE_LINK_STATE (w / 6) (w % 6)) x (x.setBranches w g) :=
    (RegsOnly.setBranches x w g).mono fun _ => .inl
  unfold State.towerEnters
  generalize x.setBranches w g = y at enters ⊢
  dsimp only
  split
  · exact enters.trans (.sf _ (.inr rfl) _ _)
  · exact enters

theorem State.towerEnters_mask (g : Nat) (x : State) (w : Nat) :
    (x.towerEnters g w).gf (Reg.CLK_SITE_ACTIVE (w / 6) (w % 6)) Fld.CLK_SITE_ACTIVE_mask = branchMask g := by
  have mask := x.setBranches_mask w g
  unfold State.towerEnters
  generalize x.setBranches w g = y at mask ⊢
  dsimp only
  split
  · rw [State.gf_sf_ne _ _ _ _ (by unfold Reg.CLK_SITE_ACTIVE Reg.SITE_LINK_STATE; omega), mask]
  · exact mask

/-- The last step of an entry: every tower that was on is in the state. -/
theorem State.entryStep_arrives (s : State) (i g : Nat) : RegsOnly (0x1_0000_0000 ≤ ·) s (s.entryStep i g 5) ∧
    ∀ w ∈ s.towersOf i, s.gf (Reg.CLK_SITE_ACTIVE (w / 6) (w % 6)) Fld.CLK_SITE_ACTIVE_mask ≠ 0 →
      (s.entryStep i g 5).gf (Reg.CLK_SITE_ACTIVE (w / 6) (w % 6)) Fld.CLK_SITE_ACTIVE_mask = branchMask g := by
  rw [State.entryStep_five]
  refine ⟨.foldl _ _ fun y w => (RegsOnly.towerEnters g y w).mono fun a h => ?_, fun w hw on => ?_⟩
  · rcases h with h | rfl
    · exact h.high
    · unfold Reg.SITE_LINK_STATE
      omega
  · refine foldl_settles (P := fun y : State => y.gf (Reg.CLK_SITE_ACTIVE (w / 6) (w % 6)) Fld.CLK_SITE_ACTIVE_mask = branchMask g)
      (List.mem_filter.2 ⟨hw, by simpa using on⟩) (fun y => y.towerEnters_mask g w) fun y v _ ne mask => ?_
    rw [(RegsOnly.towerEnters g y v).gf, mask]
    rintro (c | c)
    · exact not_clockReg ne c
    · unfold Reg.CLK_SITE_ACTIVE Reg.SITE_LINK_STATE at c
      omega

/-! ### The steps of an entry -/

section
variable {s : State} {i : Nat} (hi : i < 16) (awake : (s.pwrS i).wake = false) (free : (s.pwrS i).parked = false)
  (goes : s.clk.stopped = false)
include hi awake free goes

theorem powerEntryStepComplete_stops {g : Nat} (entry : (s.pwrS i).goal = some g) (step : s.pStep i = 3) :
    ∃ u, exec (.powerEntryStepComplete i) s = .next u ∧ u.pState i = s.pState i ∧ u.pStep i = 5 ∧ u.pwrS i = s.pwrS i ∧
      ∀ w ∈ s.towersOf i, u.synthOn w = false := by
  have does : exec (.powerEntryStepComplete i) s = .next ((s.entryStep i g 4).setPStep i 5) := by
    show execPowerEntryStepComplete i s = _
    rw [execPowerEntryStepComplete, if_neg (by omega), if_neg (by simp [goes]), State.entryStepDone]
    dsimp only
    rw [entry]
    dsimp only
    rw [step, free, awake]
    rfl
  obtain ⟨high, off⟩ := s.entryStep_stops i g
  have low : Reg.PWR_STD_STATE i < 0x1_0000_0000 := by unfold Reg.PWR_STD_STATE; omega
  generalize s.entryStep i g 4 = y at does high off
  refine ⟨_, does, ?_, State.gf_sf_val (by decide) (by decide), ?_, fun w hw => ?_⟩
  · exact (State.gf_sf_apart (.inl (by decide)) (by decide)).trans (high.gf (by omega) _)
  · rw [State.setPStep, State.pwrS_sf, State.pwrS, high.pwr]
    rfl
  · refine Eq.trans ?_ (off w hw)
    rw [State.synthOn, State.setPStep, State.gf_sf_ne _ _ _ _ (by unfold Reg.CLK_SITE_ACTIVE; omega)]
    rfl

theorem powerEntryStepComplete_arrives {g : Nat} (hg : g < 4) (entry : (s.pwrS i).goal = some g) (step : s.pStep i = 5) :
    ∃ u, exec (.powerEntryStepComplete i) s = .next u ∧ u.pState i = g ∧ u.pStep i = 0 ∧
      u.pwrS i = { s.pwrS i with goal := none } ∧
      ∀ w ∈ s.towersOf i, s.gf (Reg.CLK_SITE_ACTIVE (w / 6) (w % 6)) Fld.CLK_SITE_ACTIVE_mask ≠ 0 →
        u.gf (Reg.CLK_SITE_ACTIVE (w / 6) (w % 6)) Fld.CLK_SITE_ACTIVE_mask = branchMask g := by
  have does : exec (.powerEntryStepComplete i) s =
      .next ((((s.entryStep i g 5).setPState i g).setPStep i 0).setPwr i { s.pwrS i with goal := none }) := by
    show execPowerEntryStepComplete i s = _
    rw [execPowerEntryStepComplete, if_neg (by omega), if_neg (by simp [goes]), State.entryStepDone]
    dsimp only
    rw [entry]
    dsimp only
    rw [if_pos step, if_neg (by simp [free]), if_neg (by simp [awake])]
  obtain ⟨-, arrives⟩ := s.entryStep_arrives i g
  have low : Reg.PWR_STD_STATE i < 0x1_0000_0000 := by unfold Reg.PWR_STD_STATE; omega
  generalize s.entryStep i g 5 = y at does arrives
  refine ⟨_, does, ?_, ?_, State.pwrS_setPwr_same .., fun w hw on => ?_⟩
  · exact (State.gf_sf_apart (s := y.setPState i g) (v := 0) (f := Fld.PWR_STD_STATE_step) (g := Fld.PWR_STD_STATE_state) (.inl (by decide))
      (by decide)).trans (State.gf_sf_val (by decide) hg)
  · exact State.gf_sf_val (s := y.setPState i g) (a := Reg.PWR_STD_STATE i) (f := Fld.PWR_STD_STATE_step) (by decide) (by decide)
  · have far : Reg.CLK_SITE_ACTIVE (w / 6) (w % 6) ≠ Reg.PWR_STD_STATE i := by
      unfold Reg.CLK_SITE_ACTIVE
      omega
    exact (State.gf_sf_ne (y.setPState i g) _ _ _ far).trans ((State.gf_sf_ne y _ _ _ far).trans (arrives w hw on))

end

section
variable {s : State} {i : Nat} (hi : i < 16)
include hi

theorem towerWakeStart_starts {w : Nat} {rest : List Nat} (waits : (s.pwrS i).toStart = w :: rest) (first : s.rampBefore i = false)
    (ramp : s.gf (Reg.PWR_STD_CTL i) Fld.PWR_STD_CTL_ramp ≠ 0) (goes : s.clk.stopped = false) :
    ∃ u, exec (.towerWakeStart i) s = .next u ∧
      u.pwrS i = { s.pwrS i with toStart := rest, exiting := (s.pwrS i).exiting ++ [w] } ∧ u.mem = s.mem := by
  have does : exec (.towerWakeStart i) s = .next (s.startTower i) := by
    show execTowerWakeStart i s = _
    rw [execTowerWakeStart, if_neg (by omega)]
    dsimp only
    rw [if_neg (by simp [waits, first, goes]), if_neg ramp]
  refine ⟨_, does, ?_⟩
  unfold State.startTower
  dsimp only
  rw [waits]
  dsimp only
  generalize { s.pwrS i with toStart := rest, exiting := (s.pwrS i).exiting ++ [w] } = x
  generalize boolNat (decide (rest ≠ [])) = more
  have shown : ((s.setPwr i x).sf (Reg.PWR_STD_STATE i) Fld.PWR_STD_STATE_ramping more).pwrS i = x ∧
      ((s.setPwr i x).sf (Reg.PWR_STD_STATE i) Fld.PWR_STD_STATE_ramping more).mem = s.mem := by
    rw [State.pwrS_sf, State.sf_mem]
    exact ⟨State.pwrS_setPwr_same .., rfl⟩
  generalize (s.setPwr i x).sf (Reg.PWR_STD_STATE i) Fld.PWR_STD_STATE_ramping more = y at shown
  have left := RegsOnly.foldl (R := StackReg) ((s.stacksOf i).filter fun j => j / 2 = w / 6) y fun z j => RegsOnly.stackLeave z j
  generalize ((s.stacksOf i).filter fun j => j / 2 = w / 6).foldl (fun z j => z.stackLeave j) y = u at left
  obtain ⟨power, mem⟩ := shown
  refine ⟨?_, ?_⟩
  · rw [State.pwrS, left.pwr]
    exact power
  · rw [left.frame]
    exact mem

theorem power_waits (still : s.clk.stopped = true) : exec (.powerEntryStepComplete i) s = .next s ∧ exec (.towerWakeStart i) s = .next s ∧
    exec (.idleDelayExpiry i) s = .next s ∧ ∀ e : Woken, e.w < 96 → exec (.wakeComplete e) s = .next s := by
  refine ⟨?_, ?_, ?_, fun e he => ?_⟩
  · show execPowerEntryStepComplete i s = _
    rw [execPowerEntryStepComplete, if_neg (by omega), if_pos still]
  · show execTowerWakeStart i s = _
    rw [execTowerWakeStart, if_neg (by omega)]
    exact if_pos (.inr (.inr still))
  · show execIdleDelayExpiry i s = _
    rw [execIdleDelayExpiry, if_neg (by omega)]
    exact if_pos (.inr (.inr (.inl still)))
  · show execWakeComplete e s = _
    rw [execWakeComplete, if_neg (by omega), if_pos (.inr still)]

end

/-! ### The last tower's exit -/

section
variable {w : Nat} {out : List Nat} {fails : Bool}

theorem SiteKept.padRelease (s : State) (w : Nat) : SiteKept w s (s.padRelease w) := by
  have pads : OffSite w (Reg.PWR_PAD_HOLD (w / 6)) := by
    refine .high ?_ ?_ ?_ ?_ ?_ <;>
      simp only [Reg.PWR_PAD_HOLD, Reg.CLK_SITE_ACTIVE, Reg.SITE_LINK_STATE, Reg.SITE_MODULES, Reg.SITE_HALF] <;> omega
  unfold State.padRelease
  split
  · exact .sf _ pads _ _
  · exact .refl w s

theorem DieKept.siteRetrain (s : State) (w : Nat) : DieKept w s (s.siteRetrain w) := by
  unfold State.siteRetrain
  split
  · exact .refl w s
  · exact (((SiteKept.setSite ..).toDieKept.trans (.formMap ..)).trans (State.narrow_empty _ w).1).trans (SiteKept.remapSite ..).toDieKept

/-- The training of a site: the stands' power is as it was; a failure is that of the site, and a site that trains keeps its clocks. -/
theorem State.siteTrain_spec (s : State) (hw : w < 96) (out : List Nat) (fails : Bool) : (s.siteTrain w out fails).pwr = s.pwr ∧
    (s.linkState w = 3 → fails = true → (s.siteTrain w out fails).linkState w = 4 ∧
      (s.siteTrain w out fails).gf (Reg.CLK_SITE_ACTIVE (w / 6) (w % 6)) Fld.CLK_SITE_ACTIVE_mask = 0) ∧
    (out = [] → fails = false → (s.siteMask w ≠ 0 ∨ s.siteHalf w ≠ 0) →
      (s.siteTrain w out fails).gf (Reg.CLK_SITE_ACTIVE (w / 6) (w % 6)) Fld.CLK_SITE_ACTIVE_mask =
        s.gf (Reg.CLK_SITE_ACTIVE (w / 6) (w % 6)) Fld.CLK_SITE_ACTIVE_mask) := by
  have moved := DieKept.foldl (w := w) ((upto 17).filter out.contains) s fun y m => .moduleOut y w m
  have alone : out = [] → ((upto 17).filter out.contains).foldl (fun y m => y.moduleOut w m) s = s := fun none_ => by
    rw [none_]
    rfl
  unfold State.siteTrain
  split
  · next down => exact ⟨rfl, fun up => absurd up down, fun _ _ _ => rfl⟩
  · generalize ((upto 17).filter out.contains).foldl (fun y m => y.moduleOut w m) s = s1 at moved alone
    dsimp only
    split
    · next bad =>
      obtain ⟨-, -, pwr, clock, link, -⟩ := s1.siteFailed_spec hw
      have gen := SiteKept.censusGen (w := w) (s1.siteFailed w)
      refine ⟨gen.pwr.trans (pwr.trans moved.pwr), fun _ _ => ⟨gen.link.trans link, (State.gf_of_reg gen.clock _).trans clock⟩,
        fun none_ serves map => ?_⟩
      rcases bad with bad | empty
      · rw [serves] at bad
        exact absurd bad Bool.false_ne_true
      · rw [alone none_] at empty
        omega
    · next good =>
      have trained := (SiteKept.setSite (w := w) s1 w { s1.site w with dieGtc := s.gtc, dieAt := s.gtc }).toDieKept.trans (.siteRetrain _ w)
      have all := moved.trans trained
      exact ⟨all.pwr, fun _ bad => absurd (.inl bad) good, fun _ _ _ => State.gf_of_reg all.clock _⟩

/-- A tower that comes out of SLEEP or DEEP. -/
theorem State.towerUp_spec (s : State) (w : Nat) : (s.towerUp w).pwr = s.pwr ∧
    (s.towerUp w).gf (Reg.CLK_SITE_ACTIVE (w / 6) (w % 6)) Fld.CLK_SITE_ACTIVE_mask = 0x7FFF := by
  have mask : (s.setBranches w 0).gf (Reg.CLK_SITE_ACTIVE (w / 6) (w % 6)) Fld.CLK_SITE_ACTIVE_mask = 0x7FFF := s.setBranches_mask w 0
  have pwr := (RegsOnly.setBranches s w 0).pwr
  have pads := SiteKept.padRelease (s.setBranches w 0) w
  unfold State.towerUp
  generalize (s.setBranches w 0).padRelease w = y at pads
  dsimp only
  have done : y.pwr = s.pwr ∧ y.gf (Reg.CLK_SITE_ACTIVE (w / 6) (w % 6)) Fld.CLK_SITE_ACTIVE_mask = 0x7FFF :=
    ⟨pads.pwr.trans pwr, (State.gf_of_reg pads.clock _).trans mask⟩
  split
  · rw [State.setSite_pwr, State.gf_setSite]
    exact done
  · exact done

/-- The memories and the counters of a die without power. -/
def State.dieZero (y : State) (w : Nat) : State :=
  { y.sramZero w with
    mem := memClear (y.sramZero w).mem fun a => (decide (dmAddr (128 * w) 0 ≤ a) && decide (a < dmAddr (128 * w) 0 + 2 ^ 37)) ||
      (decide (pmAddr (128 * w) 0 ≤ a) && decide (a < pmAddr (128 * w) 0 + 2 ^ 37))
    pmc := (y.sramZero w).pmc.filter fun e =>
      !(decide (Reg.PMC_CORE (w / 6) (w % 6) 0 0 ≤ e.1) && decide (e.1 < Reg.PMC_CORE (w / 6) (w % 6) 0 0 + 0x1_0000)) }

theorem State.dieZero_regs (y : State) (w : Nat) : (y.dieZero w).regs = y.regs := rfl

theorem State.towerBringUp_zeroes (s : State) (w : Nat) (out : List Nat) (fails : Bool) : s.towerBringUp w out fails =
    ((((if (s.setBranches w 0).gf (Reg.SITE_LINK_STATE (w / 6) (w % 6)) Fld.SITE_LINK_STATE_state = 0 ∧
        s.gf (Reg.SITE_EVENTS (w / 6) (w % 6)) Fld.SITE_EVENTS_link_event = 0 then
          (s.setBranches w 0).sf (Reg.SITE_LINK_STATE (w / 6) (w % 6)) Fld.SITE_LINK_STATE_state 3
        else s.setBranches w 0).setSite w { SiteSt.zero with dieGtc := s.gtc, dieAt := s.gtc }).siteTrain w out fails).padRelease w).dieZero w :=
  rfl

/-- A tower that comes out of OFF. -/
theorem State.towerBringUp_spec (s : State) (hw : w < 96) (out : List Nat) (fails : Bool) : (s.towerBringUp w out fails).pwr = s.pwr ∧
    (fails = true → s.linkState w = 0 → s.gf (Reg.SITE_EVENTS (w / 6) (w % 6)) Fld.SITE_EVENTS_link_event = 0 →
      (s.towerBringUp w out fails).linkState w = 4 ∧
        (s.towerBringUp w out fails).gf (Reg.CLK_SITE_ACTIVE (w / 6) (w % 6)) Fld.CLK_SITE_ACTIVE_mask = 0) ∧
    (out = [] → fails = false → (s.siteMask w ≠ 0 ∨ s.siteHalf w ≠ 0) →
      (s.towerBringUp w out fails).gf (Reg.CLK_SITE_ACTIVE (w / 6) (w % 6)) Fld.CLK_SITE_ACTIVE_mask = 0x7FFF) := by
  have mask : (s.setBranches w 0).gf (Reg.CLK_SITE_ACTIVE (w / 6) (w % 6)) Fld.CLK_SITE_ACTIVE_mask = 0x7FFF := s.setBranches_mask w 0
  have clocks := RegsOnly.setBranches s w 0
  have map : (s.setBranches w 0).siteMask w = s.siteMask w ∧ (s.setBranches w 0).siteHalf w = s.siteHalf w ∧
      (s.setBranches w 0).linkState w = s.linkState w := by
    refine ⟨clocks.gf ?_ _, clocks.gf ?_ _, clocks.gf ?_ _⟩ <;>
      simp only [ClockReg, Reg.SITE_MODULES, Reg.SITE_HALF, Reg.SITE_LINK_STATE, Reg.CLK_SITE_ACTIVE, Reg.CLK_SITE_DIV, Reg.CLK_TILE_STATUS] <;> omega
  rw [State.towerBringUp_zeroes]
  generalize s.setBranches w 0 = s1 at mask clocks map
  obtain ⟨mask1, half1, link1⟩ := map
  have linked : ∃ s2, (if s1.gf (Reg.SITE_LINK_STATE (w / 6) (w % 6)) Fld.SITE_LINK_STATE_state = 0 ∧
      s.gf (Reg.SITE_EVENTS (w / 6) (w % 6)) Fld.SITE_EVENTS_link_event = 0 then
        s1.sf (Reg.SITE_LINK_STATE (w / 6) (w % 6)) Fld.SITE_LINK_STATE_state 3 else s1) = s2 ∧ s2.pwr = s.pwr ∧
      s2.gf (Reg.CLK_SITE_ACTIVE (w / 6) (w % 6)) Fld.CLK_SITE_ACTIVE_mask = 0x7FFF ∧ s2.siteMask w = s.siteMask w ∧
      s2.siteHalf w = s.siteHalf w ∧ (s.linkState w = 0 → s.gf (Reg.SITE_EVENTS (w / 6) (w % 6)) Fld.SITE_EVENTS_link_event = 0 →
        s2.linkState w = 3) := by
    obtain ⟨link, mask', half', -⟩ := s1.linkTo w (v := 3) (by decide)
    refine ⟨_, rfl, ?_⟩
    split
    · exact ⟨(State.sf_pwr ..).trans clocks.pwr,
        (State.gf_sf_ne _ _ _ _ (by unfold Reg.CLK_SITE_ACTIVE Reg.SITE_LINK_STATE; omega)).trans mask, mask'.trans mask1, half'.trans half1,
        fun _ _ => link⟩
    · next not_ => exact ⟨clocks.pwr, mask, mask1, half1, fun down event => absurd ⟨link1.trans down, event⟩ not_⟩
  obtain ⟨s2, is, pwr2, clock2, mask2, half2, link2⟩ := linked
  rw [is]
  have set := SiteKept.setSite (w := w) s2 w { SiteSt.zero with dieGtc := s.gtc, dieAt := s.gtc }
  generalize s2.setSite w { SiteSt.zero with dieGtc := s.gtc, dieAt := s.gtc } = s3 at set
  obtain ⟨pwr4, failed, trained⟩ := s3.siteTrain_spec hw out fails
  generalize s3.siteTrain w out fails = s4 at pwr4 failed trained
  have pads := SiteKept.padRelease s4 w
  generalize s4.padRelease w = s5 at pads
  have zero := s5.dieZero_regs w
  have zero' : (s5.dieZero w).pwr = s5.pwr := rfl
  generalize s5.dieZero w = u at zero zero'
  have same (a : Nat) (f : Fld) : u.gf a f = s5.gf a f := State.gf_of_reg (by rw [State.reg, State.reg, zero]) f
  refine ⟨zero'.trans <| pads.pwr.trans (pwr4.trans (set.pwr.trans pwr2)), fun bad down event => ?_, fun none_ serves map => ?_⟩
  · obtain ⟨link, clock⟩ := failed (set.link.trans (link2 down event)) bad
    exact ⟨(same _ _).trans (pads.link.trans link), (same _ _).trans ((State.gf_of_reg pads.clock _).trans clock)⟩
  · refine (same _ _).trans <| (State.gf_of_reg pads.clock _).trans ((trained none_ serves ?_).trans ((State.gf_of_reg set.clock _).trans clock2))
    rw [set.mask, set.half, mask2, half2]
    exact map

/-- The end of an exit after which nothing waits. -/
theorem State.exitOver_spec (s : State) (i : Nat) (none_ : (s.pwrS i).after = none) : (s.exitOver i).pState i = 0 ∧ (s.exitOver i).pStep i = 0 ∧
    (s.exitOver i).pwrS i = { s.pwrS i with exiting := [], undo := false, wake := false, wakeAt := none, wakeLast := none } := by
  unfold State.exitOver
  generalize (s.stacksOf i).foldl (fun y j => y.stackWake j) s = s0
  dsimp only
  rw [none_]
  dsimp only
  have state : ((s0.setPState i 0).setPStep i 0).pState i = 0 :=
    (State.gf_sf_apart (s := s0.setPState i 0) (v := 0) (f := Fld.PWR_STD_STATE_step) (g := Fld.PWR_STD_STATE_state) (.inl (by decide))
      (by decide)).trans (State.gf_sf_val (by decide) (by decide))
  have step : ((s0.setPState i 0).setPStep i 0).pStep i = 0 :=
    State.gf_sf_val (s := s0.setPState i 0) (a := Reg.PWR_STD_STATE i) (f := Fld.PWR_STD_STATE_step) (by decide) (by decide)
  generalize (s0.setPState i 0).setPStep i 0 = s1 at state step
  have ticks (v : Nat) : (s1.sf (Reg.PWR_STD_WAKE i) Fld.PWR_STD_WAKE_ticks v).pState i = 0 ∧
      (s1.sf (Reg.PWR_STD_WAKE i) Fld.PWR_STD_WAKE_ticks v).pStep i = 0 := by
    have far : Reg.PWR_STD_STATE i ≠ Reg.PWR_STD_WAKE i := by unfold Reg.PWR_STD_STATE Reg.PWR_STD_WAKE; omega
    exact ⟨(State.gf_sf_ne _ _ _ _ far).trans state, (State.gf_sf_ne _ _ _ _ far).trans step⟩
  refine ⟨?_, ?_, (State.pwrS_setPwr_same ..).trans rfl⟩
  · split
    · exact state
    · exact (ticks _).1
  · split
    · exact step
    · exact (ticks _).2

end

section
variable {s : State} {i : Nat} {e : Woken} (he : e.w < 96) (hi : i < 16)
  (alone : ∀ k < 16, k ≠ i → e.w ∉ (s.pwrS k).exiting) (exits : (s.pwrS i).exiting = [e.w])
include he hi alone exits

theorem wakeComplete_does (calm : s.gf Reg.THM_TRIP Fld.THM_TRIP_tripped = 0) (goes : s.clk.stopped = false) :
    exec (.wakeComplete e) s = .next (s.exitDone i e.w e.out e.fails) := by
  have found : ((upto 16).find? fun k => (s.pwrS k).exiting.contains e.w) = some i := by
    rw [List.find?_eq_some_iff_getElem]
    refine ⟨by simp [exits], i, by simpa [upto] using hi, by simp [upto], fun k hk => ?_⟩
    have := alone k (by omega) (by omega)
    simpa [upto] using this
  have safe : s.tripped = false := by rw [State.tripped, calm]; rfl
  show execWakeComplete e s = _
  rw [execWakeComplete, if_neg (by omega), if_neg (by simp [safe, goes]), found]

theorem wakeComplete_ends (up : s.linkState e.w < 4) (calm : s.gf Reg.THM_TRIP Fld.THM_TRIP_tripped = 0) (last : (s.pwrS i).toStart = [])
    (none_ : (s.pwrS i).after = none) (goes : s.clk.stopped = false) (mine : e.w ∈ s.towersOf i) :
    let m := Reg.CLK_SITE_ACTIVE (e.w / 6) (e.w % 6)
    let off := s.gf m Fld.CLK_SITE_ACTIVE_mask = 0
    ∃ u, exec (.wakeComplete e) s = .next u ∧ u.pState i = 0 ∧ u.pStep i = 0 ∧
      u.pwrS i = { s.pwrS i with exiting := [], undo := false, wake := false, wakeAt := none, wakeLast := none } ∧
      (¬ off ∨ (e.out = [] ∧ e.fails = false ∧ (s.siteMask e.w ≠ 0 ∨ s.siteHalf e.w ≠ 0)) → u.gf m Fld.CLK_SITE_ACTIVE_mask = 0x7FFF) ∧
      (off → e.fails = true → s.linkState e.w = 0 → s.gf (Reg.SITE_EVENTS (e.w / 6) (e.w % 6)) Fld.SITE_EVENTS_link_event = 0 →
        u.linkState e.w = 4 ∧ u.gf m Fld.CLK_SITE_ACTIVE_mask = 0) := by
  intro m off
  have does := wakeComplete_does he hi alone exits calm goes
  have tower : (s.towerRun e.w e.out e.fails).pwr = s.pwr ∧
      (¬ off ∨ (e.out = [] ∧ e.fails = false ∧ (s.siteMask e.w ≠ 0 ∨ s.siteHalf e.w ≠ 0)) →
        (s.towerRun e.w e.out e.fails).gf m Fld.CLK_SITE_ACTIVE_mask = 0x7FFF) ∧
      (off → e.fails = true → s.linkState e.w = 0 → s.gf (Reg.SITE_EVENTS (e.w / 6) (e.w % 6)) Fld.SITE_EVENTS_link_event = 0 →
        (s.towerRun e.w e.out e.fails).linkState e.w = 4 ∧ (s.towerRun e.w e.out e.fails).gf m Fld.CLK_SITE_ACTIVE_mask = 0) := by
    unfold State.towerRun
    by_cases dark : off
    · obtain ⟨pwr, failed, trained⟩ := s.towerBringUp_spec he e.out e.fails
      rw [if_pos dark]
      refine ⟨pwr, ?_, fun _ => failed⟩
      rintro (lit | ⟨whole, serves, map⟩)
      · exact absurd dark lit
      · exact trained whole serves map
    · obtain ⟨pwr, mask⟩ := s.towerUp_spec e.w
      rw [if_neg dark]
      exact ⟨pwr, fun _ => mask, fun c => absurd c dark⟩
  have ends : s.exitDone i e.w e.out e.fails = ((((s.stacksOf i).filter fun j => j / 2 = e.w / 6).foldl (fun y j => y.stackWake j)
      (s.towerRun e.w e.out e.fails)).setPwr i { s.pwrS i with exiting := [] }).exitOver i := by
    rw [State.exitDone]
    dsimp only
    have here : ¬(!(s.pwrS i).exiting.contains e.w) = true := by simp [exits]
    have runs : ((s.towersOf i).contains e.w && decide (s.linkState e.w < 4)) = true := by simp [mine, up]
    have rest : (s.pwrS i).exiting.filter (· ≠ e.w) = [] := by simp [exits]
    rw [if_neg here, if_pos runs, rest, if_neg (by rw [last]; exact fun c => c.elim (· rfl) (· rfl))]
  rw [ends] at does
  generalize s.towerRun e.w e.out e.fails = s1 at does tower
  obtain ⟨-, lit, failed⟩ := tower
  have left := RegsOnly.foldl (R := StackReg) ((s.stacksOf i).filter fun j => j / 2 = e.w / 6) s1 fun z j => RegsOnly.stackWake z j
  generalize ((s.stacksOf i).filter fun j => j / 2 = e.w / 6).foldl (fun y j => y.stackWake j) s1 = s2 at does left
  have mine' : (s2.setPwr i { s.pwrS i with exiting := [] }).pwrS i = { s.pwrS i with exiting := [] } := State.pwrS_setPwr_same ..
  have kept : Wakes i s1 ((s2.setPwr i { s.pwrS i with exiting := [] }).exitOver i) :=
    (left.wakes.trans (.setPwr ..)).trans (.exitOver ..)
  generalize s2.setPwr i { s.pwrS i with exiting := [] } = s3 at does mine' kept
  obtain ⟨state, step, power⟩ := s3.exitOver_spec i (by rw [mine']; exact none_)
  have clock : ¬WakeReg i m := by
    rintro (c | c | ⟨t, k, ⟨c, hk⟩ | c⟩)
    · unfold m Reg.CLK_SITE_ACTIVE Reg.PWR_STD_STATE at c
      omega
    · unfold m Reg.CLK_SITE_ACTIVE Reg.PWR_STD_WAKE at c
      omega
    · unfold m Reg.CLK_SITE_ACTIVE Reg.HBM_STATE at c
      omega
    · unfold m Reg.CLK_SITE_ACTIVE Reg.PWR_PAD_HOLD at c
      omega
  have link : ¬WakeReg i (Reg.SITE_LINK_STATE (e.w / 6) (e.w % 6)) := by
    rintro (c | c | ⟨t, k, ⟨c, hk⟩ | c⟩)
    · unfold Reg.SITE_LINK_STATE Reg.PWR_STD_STATE at c
      omega
    · unfold Reg.SITE_LINK_STATE Reg.PWR_STD_WAKE at c
      omega
    · unfold Reg.SITE_LINK_STATE Reg.HBM_STATE at c
      omega
    · unfold Reg.SITE_LINK_STATE Reg.PWR_PAD_HOLD at c
      omega
  refine ⟨_, does, state, step, by rw [power, mine'], fun h => (State.gf_of_reg (kept.regs _ clock) _).trans (lit h), fun dark bad down event => ?_⟩
  obtain ⟨link4, mask0⟩ := failed dark bad down event
  exact ⟨(State.gf_of_reg (kept.regs _ link) _).trans link4, (State.gf_of_reg (kept.regs _ clock) _).trans mask0⟩

end

/-- Settles O52: the target by what a wake and an entry write; each entry step by its fold over the towers; the last exit by the tower's. -/
theorem powerStates : Obligations.PowerStates := by
  unfold Obligations.PowerStates
  intro s i hi a x
  refine ⟨fun p v served master ramp => standTargetWrite_sets hi served master ramp, ?_,
    fun g entry awake free goes step => powerEntryStepComplete_stops hi awake free goes entry step,
    fun g hg entry awake free goes step => powerEntryStepComplete_arrives hi awake free goes hg entry step,
    fun w rest waits first ramp goes => towerWakeStart_starts hi waits first ramp goes, power_waits hi,
    fun e he up calm exits last none_ goes mine alone => wakeComplete_ends he hi alone exits up calm last none_ goes mine⟩
  intro idle over_ free goes tgt s1
  exact ⟨fun still asleep => idleDelayExpiry_enters hi idle over_ free goes still asleep,
    fun exits => idleDelayExpiry_later hi idle over_ free goes exits⟩

end Sys2Proof.Machine

/-! PROOF. Housekeeping readings, the 64 µs update, and the module throttle (R305, R427, R447, R449 to R454, R461, R530, R531). -/

namespace Sys2Proof.Machine

/-! ### Readings -/

section
variable {s : State} {t ch : Nat} (v : BitVec 12) (ht : t < 16)
include ht

section
variable (on : s.power = true) (goes : s.clk.stopped = false)
include on goes

/-- A measurement that goes on past the reference's channel. -/
theorem housekeepingMeasure_goes (hch : ch < 63) : exec (.housekeepingMeasure t ch v) s =
    (let a := Reg.THM_CH t ch
     if s.gf a Fld.THM_CH_stale = 1 then .next s
     else if !s.supplyReads t ch v.toNat then .next s
     else if ch = 62 then
       if t = 0 then .next ((s.sf a Fld.THM_CH_value v.toNat).sf Reg.MGT_BOUNDARY Fld.MGT_BOUNDARY_vin v.toNat)
       else .next (s.sf a Fld.THM_CH_value 0)
     else
       let s1 := s.sf a Fld.THM_CH_value v.toNat
       if ch ≥ 40 ∨ s.gf a Fld.THM_CH_retired = 1 then .next s1
       else
         let x := signed12 v.toNat
         let far := s.farFromModel t ch x
         let twice := far && sget false s.thmOff (64 * t + ch)
         let s2 := { s1 with thmOff := sset false s1.thmOff (64 * t + ch) (far && !twice) }
         let s3 := if twice || decide (x < -320) || decide (x > 1200) then s2.suspect t ch else s2
         .next (if ch ≥ 36 then s3.holdCheck t else s3)) := by
  show execHousekeepingMeasure t ch v s = _
  rw [execHousekeepingMeasure, if_neg (by omega), if_neg (by simp [on, goes])]
  dsimp only
  rw [if_neg (by omega)]

theorem housekeepingMeasure_supply (fresh : s.gf (Reg.THM_CH t ch) Fld.THM_CH_stale = 0) (low : 40 ≤ ch) (high : ch < 62) :
    exec (.housekeepingMeasure t ch v) s = .next (if s.supplyReads t ch v.toNat then
      s.writes [(Reg.THM_CH t ch, Fld.THM_CH_value, v.toNat)] else s) := by
  rw [housekeepingMeasure_goes v ht on goes (by omega), State.writes_one]
  dsimp only
  rw [if_neg (by rw [fresh]; decide)]
  by_cases reads : s.supplyReads t ch v.toNat = true
  · rw [if_neg (by simp [reads]), if_neg (by omega), if_pos (.inl low), if_pos reads]
  · rw [if_pos (by simp [reads]), if_neg reads]

omit ht on goes in
theorem State.supplyReads_free (free : ch < 40 ∨ ch = 62) (n : Nat) : s.supplyReads t ch n = true := by
  have none_ : supplyOf t ch = none := by
    unfold supplyOf
    rcases free with low | rfl
    · exact if_pos low
    · rfl
  rw [State.supplyReads, none_]

theorem housekeepingMeasure_input (fresh : s.gf (Reg.THM_CH t ch) Fld.THM_CH_stale = 0) (last : ch = 62) :
    exec (.housekeepingMeasure t ch v) s = .next (if t = 0 then
      (s.writes [(Reg.THM_CH t ch, Fld.THM_CH_value, v.toNat)]).writes [(Reg.MGT_BOUNDARY, Fld.MGT_BOUNDARY_vin, v.toNat)]
      else s.writes [(Reg.THM_CH t ch, Fld.THM_CH_value, 0)]) := by
  rw [housekeepingMeasure_goes v ht on goes (by omega), State.writes_one, State.writes_one, State.writes_one]
  dsimp only
  rw [if_neg (by rw [fresh]; decide), if_neg (by simp [State.supplyReads_free (s := s) (t := t) (ch := ch) (.inr last)]), if_pos last]
  exact (apply_ite Host.Outcome.next _ _ _).symm

/-- A temperature reading, near its model or far from it. -/
theorem housekeepingMeasure_reading (fresh : s.gf (Reg.THM_CH t ch) Fld.THM_CH_stale = 0) (low : ch < 40)
    (serves : s.gf (Reg.THM_CH t ch) Fld.THM_CH_retired = 0) :
    let a := Reg.THM_CH t ch
    let x := signed12 v.toNat
    let seen := s.writes [(a, Fld.THM_CH_value, v.toNat)]
    let far := s.farFromModel t ch x
    let key := 64 * t + ch
    let drift := fun (y : State) => if 36 ≤ ch then y.holdCheck t else y
    (-320 ≤ x → x ≤ 1200 → (far && sget false s.thmOff key) = false → exec (.housekeepingMeasure t ch v) s =
      .next (drift { seen with thmOff := sset false s.thmOff key far })) ∧
    ((far && sget false s.thmOff key) = true → exec (.housekeepingMeasure t ch v) s =
      .next (drift (({ seen with thmOff := sset false s.thmOff key false }).writes
        [(a, Fld.THM_CH_suspect, 1), (a, Fld.THM_CH_stale, 1)]))) ∧
    ((x < -320 ∨ 1200 < x) → (far && sget false s.thmOff key) = false → exec (.housekeepingMeasure t ch v) s =
      .next (drift (({ seen with thmOff := sset false s.thmOff key far }).writes
        [(a, Fld.THM_CH_suspect, 1), (a, Fld.THM_CH_stale, 1)]))) := by
  intro a x seen far key drift
  have reads : s.supplyReads t ch v.toNat = true := State.supplyReads_free (.inl low) _
  have reading : s.sf a Fld.THM_CH_value v.toNat = seen := (State.writes_one ..).symm
  have kept : seen.thmOff = s.thmOff := by rw [← reading, State.sf_thmOff]
  have does : exec (.housekeepingMeasure t ch v) s =
      (let twice := far && sget false s.thmOff key
       let s2 := { seen with thmOff := sset false s.thmOff key (far && !twice) }
       let s3 := if twice || decide (x < -320) || decide (x > 1200) then s2.suspect t ch else s2
       .next (drift s3)) := by
    rw [housekeepingMeasure_goes v ht on goes (by omega)]
    dsimp only
    rw [reading, kept, if_neg (by rw [fresh]; decide), if_neg (by rw [reads]; decide), if_neg (by omega),
      if_neg (fun c => c.elim (by omega) fun c => by rw [serves] at c; exact absurd c (by decide))]
  rw [does]
  clear_value seen
  dsimp only
  refine ⟨fun lo hi near => ?_, fun twice => ?_, fun out near => ?_⟩
  · rw [near, if_neg (by simp; omega), Bool.not_false, Bool.and_true]
  · rw [twice, if_pos (by simp), Bool.not_true, Bool.and_false, State.writes_two]
    rfl
  · rw [near, if_pos (by simpa using out), Bool.not_false, Bool.and_true, State.writes_two]
    rfl

theorem housekeepingMeasure_reference (last : ch = 63) : exec (.housekeepingMeasure t ch v) s =
    (let y := match (s.fabT t).tiaNow with
      | some f => (s.setFab t { s.fabT t with tiaNow := none }).recalibrated t (2814 + f) 8
      | none => s
     .next (((y.writes [(Reg.THM_CH t ch, Fld.THM_CH_value, v.toNat)]).setStale t (if 1244 ≤ v.toNat ∧ v.toNat ≤ 1256 then 0 else 1)).writes
      [(Reg.THM_ROUND t, Fld.THM_ROUND_rounds, s.gf (Reg.THM_ROUND t) Fld.THM_ROUND_rounds + 1)])) := by
  have level : boolNat (decide (v.toNat < 1244) || decide (v.toNat > 1256)) = if 1244 ≤ v.toNat ∧ v.toNat ≤ 1256 then 0 else 1 := by
    by_cases near : 1244 ≤ v.toNat ∧ v.toNat ≤ 1256
    · rw [if_pos near, decide_eq_false (by omega), decide_eq_false (by omega)]
      rfl
    · rw [if_neg near, ← Bool.decide_or, decide_eq_true (by omega)]
      rfl
  show execHousekeepingMeasure t ch v s = _
  rw [execHousekeepingMeasure, if_neg (by omega), if_neg (by simp [on, goes])]
  dsimp only
  rw [if_pos last, level, State.writes_one, State.writes_one]
  all_goals rfl

end

omit ht in
/-- What a recalibration leaves of its converter. -/
theorem State.trim_recalibrated (s : State) (t conv w : Nat) : ∃ n, n < 2 ^ w ∧ (s.recalibrated t conv w).trim t conv =
    { s.trim t conv with code := BitVec.ofNat 12 n, cal := BitVec.ofNat 12 n, count := (s.trim t conv).count + 1, gtc := s.gtc } := by
  refine ⟨Config.freeNat s.freeCtr % 2 ^ w, Nat.mod_lt _ (Nat.two_pow_pos w), ?_⟩
  unfold State.recalibrated State.takeBelow State.calCode State.setTrim
  dsimp only
  rw [State.trim, State.fabT_setFab_same]
  dsimp only
  rw [sget_sset_same]
  rfl

section
variable (low : ch < 36) (suspect : s.gf (Reg.THM_CH t ch) Fld.THM_CH_suspect = 1)
include low suspect

/-- The recalibrated reading against its tower's model. -/
theorem suspectRecalibrationEnd_reads :
    let m := signed12 (s.gf (Reg.THM_TOWER t (ch / 6)) Fld.THM_TOWER_model)
    let x := signed12 v.toNat
    let s1 := (s.writes [(Reg.THM_CH t ch, Fld.THM_CH_value, v.toNat), (Reg.THM_CH t ch, Fld.THM_CH_stale, 0)]).recalibrated t (3136 + ch) 10
    (x - m ≤ 32 → m - x ≤ 32 → exec (.suspectRecalibrationEnd t ch v) s = .next (s1.writes [(Reg.THM_CH t ch, Fld.THM_CH_suspect, 0)])) ∧
    (32 < x - m → s.standOfTower (6 * t + ch / 6) = none → exec (.suspectRecalibrationEnd t ch v) s = .next (s1.retireChannel t ch)) ∧
    ∀ i, 32 < x - m → s.standOfTower (6 * t + ch / 6) = some i → s.stdState i = 2 →
      let y := s1.stand i
      exec (.suspectRecalibrationEnd t ch v) s =
        .next (if y.retire.contains (t, ch) then s1 else s1.setStand i { y with retire := y.retire ++ [(t, ch)] }) := by
  intro m x s1
  have does : exec (.suspectRecalibrationEnd t ch v) s =
      (if (decide (x - m ≤ 32) && decide (m - x ≤ 32)) = true then .next (s1.sf (Reg.THM_CH t ch) Fld.THM_CH_suspect 0)
       else match s.standOfTower (6 * t + ch / 6) with
        | some i =>
          if s.stdState i = 2 then
            let y := s1.stand i
            .next (if y.retire.contains (t, ch) then s1 else s1.setStand i { y with retire := y.retire ++ [(t, ch)] })
          else .next (s1.retireChannel t ch)
        | none => .next (s1.retireChannel t ch)) := by
    show execSuspectRecalibrationEnd t ch v s = _
    rw [execSuspectRecalibrationEnd, if_neg (by omega)]
    dsimp only
    rw [if_neg (by rw [suspect]; decide), if_pos low, if_pos low]
    rfl
  rw [does, State.writes_one]
  refine ⟨fun above below => ?_, fun above none_ => ?_, fun i above stand runs => ?_⟩
  · rw [if_pos (by simp [above, below])]
  · rw [if_neg (by simp; omega), none_]
  · rw [if_neg (by simp; omega), stand]
    exact if_pos runs

end

end

/-! ### What a throttle writes -/

/-- The registers that show a throttle. -/
def ThrReg (a : Nat) : Prop :=
  0x1_0000_0000 ≤ a ∨ LogReg a ∨ ∃ k < 16, a = Reg.PWR_STD_THR k ∨ a = Reg.STD_GATE_LEVEL k

/-- From `s` to `u` there is a throttle: the memory, the cores, the regions' counts and every other register are kept. -/
structure Throttled (s u : State) : Prop where
  mem : u.mem = s.mem
  cores : u.cores = s.cores
  regions : u.regions = s.regions
  regs : ∀ a, ¬ThrReg a → u.reg a = s.reg a

section
variable {s t u : State} {i : Nat}

theorem Throttled.refl (s : State) : Throttled s s := ⟨rfl, rfl, rfl, fun _ _ => rfl⟩

theorem Throttled.trans (h : Throttled s t) (k : Throttled t u) : Throttled s u :=
  ⟨k.mem.trans h.mem, k.cores.trans h.cores, k.regions.trans h.regions, fun a ha => (k.regs a ha).trans (h.regs a ha)⟩

theorem Throttled.gf (h : Throttled s u) {a : Nat} (ha : ¬ThrReg a) (f : Fld) : u.gf a f = s.gf a f := State.gf_of_reg (h.regs a ha) f

theorem Throttled.setReg (s : State) {a : Nat} (h : ThrReg a) (v : Word) : Throttled s (s.setReg a v) :=
  ⟨rfl, rfl, rfl, fun _ hb => State.reg_setReg_ne _ _ fun c => hb (c ▸ h)⟩

theorem Throttled.sf (s : State) {a : Nat} (h : ThrReg a) (f : Fld) (v : Nat) : Throttled s (s.sf a f v) := .setReg s h _

theorem Throttled.setPwr (s : State) (k : Nat) (x : PwrSt) : Throttled s (s.setPwr k x) := ⟨rfl, rfl, rfl, fun _ _ => rfl⟩

theorem Reports.throttled (h : Reports LogReg s u) : Throttled s u :=
  ⟨by rw [h.frame], by rw [h.frame], by rw [h.frame], fun a ha => h.regs a fun c => ha (.inr (.inl c))⟩

theorem RegsOnly.throttled (h : RegsOnly (0x1_0000_0000 ≤ ·) s u) : Throttled s u :=
  ⟨by rw [h.frame], by rw [h.frame], by rw [h.frame], fun a ha => h.regs a fun c => ha (.inl c)⟩

theorem ThrReg.thr (hi : i < 16) : ThrReg (Reg.PWR_STD_THR i) := .inr (.inr ⟨i, hi, .inl rfl⟩)

theorem ThrReg.gate (hi : i < 16) : ThrReg (Reg.STD_GATE_LEVEL i) := .inr (.inr ⟨i, hi, .inr rfl⟩)

theorem RegsOnly.setReg {R : Nat → Prop} (s : State) {a : Nat} (h : R a) (v : Word) : RegsOnly R s (s.setReg a v) :=
  ⟨rfl, fun _ hb => State.reg_setReg_ne _ _ fun c => hb (c ▸ h)⟩

theorem half_high (w : Nat) : 0x1_0000_0000 ≤ Reg.PWR_HALF (w / 6) (w % 6) := by
  unfold Reg.PWR_HALF
  omega

theorem RegsOnly.halfUpdate (y : State) (i w : Nat) : RegsOnly (0x1_0000_0000 ≤ ·) y (y.halfUpdate i w) :=
  RegsOnly.setReg y (half_high w) _

theorem State.throttleMark_spec (s : State) (i : Nat) : Throttled s (s.throttleMark i) ∧
    (∀ k, k ≠ i → (s.throttleMark i).pwrS k = s.pwrS k) ∧
    (s.throttleMark i).pwrS i = { s.pwrS i with thrSince := true, thrRun := true } := by
  unfold State.throttleMark
  dsimp only
  generalize { s.pwrS i with thrSince := true, thrRun := true } = x
  have mark : Throttled s (s.setPwr i x) := .setPwr ..
  split
  · exact ⟨mark, fun k hk => State.pwrS_setPwr_ne _ _ hk, State.pwrS_setPwr_same ..⟩
  · have cause := Reports.modCause (s.setPwr i x) 6
    have power (k : Nat) : ((s.setPwr i x).modCause 6).pwrS k = (s.setPwr i x).pwrS k := by rw [cause.frame]; rfl
    exact ⟨mark.trans cause.throttled, fun k hk => (power k).trans (State.pwrS_setPwr_ne _ _ hk),
      (power i).trans (State.pwrS_setPwr_same ..)⟩

/-- The end of a stand's throttles. -/
theorem State.throttleEnd_spec (s : State) (hi : i < 16) : Throttled s (s.throttleEnd i) ∧
    ∀ k, k ≠ i → (s.throttleEnd i).pwrS k = s.pwrS k := by
  have halves := RegsOnly.foldl (s.towersOf i) s fun y w => RegsOnly.setReg (R := (0x1_0000_0000 ≤ ·)) y (half_high w) 0
  unfold State.throttleEnd
  generalize (s.towersOf i).foldl (fun x w => x.setReg (Reg.PWR_HALF (w / 6) (w % 6)) 0) s = s1 at halves
  dsimp only
  generalize { s1.pwrS i with thrSince := false, budK := 0 } = x
  refine ⟨?_, fun k hk => ?_⟩
  · exact ((((((halves.throttled.trans (.setPwr s1 i x)).trans (.sf _ (.gate hi) _ _)).trans (.sf _ (.thr hi) _ _)).trans
      (.sf _ (.thr hi) _ _)).trans (.sf _ (.thr hi) _ _)).trans (.sf _ (.thr hi) _ _))
  · rw [State.pwrS_sf, State.pwrS_sf, State.pwrS_sf, State.pwrS_sf, State.pwrS_sf, State.pwrS_setPwr_ne _ _ hk, State.pwrS, halves.pwr]
    rfl

/-- A stand's throttle: other stands' power is kept, and of an awake one the budget's skips. -/
theorem State.standThrottle_spec (s : State) (hi : i < 16) : Throttled s (s.standThrottle i) ∧
    (∀ k, k ≠ i → (s.standThrottle i).pwrS k = s.pwrS k) ∧
    (s.awake i = true → ((s.standThrottle i).pwrS i).budK = (s.pwrS i).budK ∧ ((s.standThrottle i).pwrS i).goal = (s.pwrS i).goal) := by
  unfold State.standThrottle
  by_cases awake : s.awake i = true
  · have halves := RegsOnly.foldl (s.towersOf i) s fun y w => RegsOnly.halfUpdate y i w
    rw [if_neg (by simp [awake])]
    generalize (s.towersOf i).foldl (fun y w => y.halfUpdate i w) s = s1 at halves
    dsimp only
    generalize (s1.halvesOf i).filter (fun q => q.1 != 0) = on
    have shown (a b c d e : Nat) : Throttled s (((((s1.sf (Reg.PWR_STD_THR i) Fld.PWR_STD_THR_thermal a).sf (Reg.PWR_STD_THR i)
        Fld.PWR_STD_THR_budget b).sf (Reg.PWR_STD_THR i) Fld.PWR_STD_THR_module c).sf (Reg.PWR_STD_THR i) Fld.PWR_STD_THR_halves d).sf
        (Reg.STD_GATE_LEVEL i) Fld.STD_GATE_LEVEL_throttled e) ∧
        ∀ k, (((((s1.sf (Reg.PWR_STD_THR i) Fld.PWR_STD_THR_thermal a).sf (Reg.PWR_STD_THR i)
        Fld.PWR_STD_THR_budget b).sf (Reg.PWR_STD_THR i) Fld.PWR_STD_THR_module c).sf (Reg.PWR_STD_THR i) Fld.PWR_STD_THR_halves d).sf
        (Reg.STD_GATE_LEVEL i) Fld.STD_GATE_LEVEL_throttled e).pwrS k = s.pwrS k := by
      refine ⟨((((halves.throttled.trans (.sf _ (.thr hi) _ _)).trans (.sf _ (.thr hi) _ _)).trans (.sf _ (.thr hi) _ _)).trans
        (.sf _ (.thr hi) _ _)).trans (.sf _ (.gate hi) _ _), fun k => ?_⟩
      rw [State.pwrS_sf, State.pwrS_sf, State.pwrS_sf, State.pwrS_sf, State.pwrS_sf, State.pwrS, halves.pwr]
      rfl
    obtain ⟨thr, power⟩ := shown (boolNat (on.any fun q => natBit q.2 0)) (boolNat (on.any fun q => natBit q.2 1))
      (boolNat (on.any fun q => natBit q.2 2)) on.length (boolNat (decide (on ≠ [])))
    generalize ((((s1.sf (Reg.PWR_STD_THR i) Fld.PWR_STD_THR_thermal (boolNat (on.any fun q => natBit q.2 0))).sf (Reg.PWR_STD_THR i)
      Fld.PWR_STD_THR_budget (boolNat (on.any fun q => natBit q.2 1))).sf (Reg.PWR_STD_THR i) Fld.PWR_STD_THR_module
      (boolNat (on.any fun q => natBit q.2 2))).sf (Reg.PWR_STD_THR i) Fld.PWR_STD_THR_halves on.length).sf
      (Reg.STD_GATE_LEVEL i) Fld.STD_GATE_LEVEL_throttled (boolNat (decide (on ≠ []))) = s3 at thr power
    split
    · exact ⟨thr, fun k _ => power k, fun _ => by rw [power i]; exact ⟨rfl, rfl⟩⟩
    · have counted : Throttled s3 (if s.gf (Reg.PWR_STD_THR i) Fld.PWR_STD_THR_halves = 0 then
          s3.sfSat (Reg.PWR_STD_THR i) Fld.PWR_STD_THR_episodes 1 else s3) ∧ (if s.gf (Reg.PWR_STD_THR i) Fld.PWR_STD_THR_halves = 0 then
          s3.sfSat (Reg.PWR_STD_THR i) Fld.PWR_STD_THR_episodes 1 else s3).pwr = s3.pwr := by
        split
        · exact ⟨.sf _ (.thr hi) _ _, State.sf_pwr ..⟩
        · exact ⟨.refl s3, rfl⟩
      generalize (if s.gf (Reg.PWR_STD_THR i) Fld.PWR_STD_THR_halves = 0 then
          s3.sfSat (Reg.PWR_STD_THR i) Fld.PWR_STD_THR_episodes 1 else s3) = s4 at counted
      obtain ⟨thr4, pwr4⟩ := counted
      have power4 (k : Nat) : s4.pwrS k = s.pwrS k := (by rw [State.pwrS, pwr4]; rfl : s4.pwrS k = s3.pwrS k).trans (power k)
      split
      · exact ⟨thr.trans thr4, fun k _ => power4 k, fun _ => by rw [power4 i]; exact ⟨rfl, rfl⟩⟩
      · obtain ⟨mark, others, mine⟩ := s4.throttleMark_spec i
        exact ⟨(thr.trans thr4).trans mark, fun k hk => (others k hk).trans (power4 k), fun _ => by
          rw [mine, power4 i]
          exact ⟨rfl, rfl⟩⟩
  · obtain ⟨thr, others⟩ := s.throttleEnd_spec hi
    rw [if_pos (by simp [awake])]
    exact ⟨thr, others, fun c => absurd c awake⟩

theorem not_thrReg_state (hi : i < 16) : ¬ThrReg (Reg.PWR_STD_STATE i) := by
  rintro (c | (c | c | c) | ⟨k, hk, c | c⟩) <;>
    simp only [Reg.PWR_STD_STATE, Reg.HIF_MOD_INT, Reg.PWR_STD_THR, Reg.STD_GATE_LEVEL] at c <;> omega

/-- All the throttles of one update. -/
theorem State.throttles_spec (s : State) : Throttled s s.throttles ∧
    ∀ i < 16, s.awake i = true → (s.throttles.pwrS i).budK = (s.pwrS i).budK := by
  have small (k : Nat) (hk : k ∈ (upto 16).filter fun i => planValid s.planForce i) : k < 16 := List.mem_range.1 (List.mem_filter.1 hk).1
  refine ⟨List.foldlRecOn (motive := Throttled s) _ _ (.refl s) fun y h k hk => h.trans (y.standThrottle_spec (small k hk)).1,
    fun i hi awake => ?_⟩
  refine And.left (List.foldlRecOn (motive := fun y : State => (y.pwrS i).budK = (s.pwrS i).budK ∧ y.awake i = true) _ _ ⟨rfl, awake⟩
    fun y kept k hk => ?_)
  obtain ⟨bud, up⟩ := kept
  obtain ⟨thr, others, mine⟩ := y.standThrottle_spec (small k hk)
  have state : ∀ f, (y.standThrottle k).gf (Reg.PWR_STD_STATE i) f = y.gf (Reg.PWR_STD_STATE i) f := thr.gf (not_thrReg_state hi)
  have power : ((y.standThrottle k).pwrS i).budK = (y.pwrS i).budK ∧ ((y.standThrottle k).pwrS i).goal = (y.pwrS i).goal := by
    by_cases same : k = i
    · subst same
      exact mine up
    · rw [others i (Ne.symm same)]
      exact ⟨rfl, rfl⟩
  refine ⟨power.1.trans bud, ?_⟩
  rw [State.awake, State.pState, State.pStep, state, state, power.2]
  exact up

end

/-! ### The 64 µs update -/

/-- A fold in which one member's turn brings `Q` about from `P`, and no other's disturbs either. -/
theorem foldl_turn {α β : Type} {P Q : β → Prop} {f : β → α → β} {l : List α} {q : α} {b : β} (nodup : l.Nodup) (mem : q ∈ l)
    (turn : ∀ b, P b → Q (f b q)) (before : ∀ b, ∀ r ∈ l, r ≠ q → P b → P (f b r)) (after : ∀ b, ∀ r ∈ l, r ≠ q → Q b → Q (f b r))
    (h : P b) : Q (l.foldl f b) := by
  induction l generalizing b with
  | nil => exact absurd mem List.not_mem_nil
  | cons a l ih =>
    obtain ⟨notin, rest⟩ := List.nodup_cons.1 nodup
    rw [List.foldl_cons]
    by_cases same : a = q
    · subst same
      exact List.foldlRecOn (motive := Q) _ _ (turn b h) fun y hy r hr =>
        after y r (List.mem_cons_of_mem _ hr) (fun c => notin (c ▸ hr)) hy
    · exact ih rest ((List.mem_cons.1 mem).resolve_left (Ne.symm same)) (fun y r hr => before y r (List.mem_cons_of_mem _ hr))
        (fun y r hr => after y r (List.mem_cons_of_mem _ hr)) (before b a List.mem_cons_self same h)

section
variable {s : State} {i : Nat}

theorem RegsOnly.towerUpdate (y : State) (w pn ps : Nat) : RegsOnly (0x1_0000_0000 ≤ ·) y (y.towerUpdate w pn ps) := by
  unfold State.towerUpdate
  dsimp only
  refine RegsOnly.setReg y ?_ _
  unfold Reg.THM_TOWER
  omega

theorem RegsOnly.baseUpdate (y : State) (t : Nat) : RegsOnly (0x1_0000_0000 ≤ ·) y (y.baseUpdate t) := by
  unfold State.baseUpdate
  dsimp only
  split
  · exact .refl _ y
  · refine .sf y ?_ _ _
    unfold Reg.THM_BASE
    omega

/-- The temperatures of one update. -/
def State.thermals (s : State) (rails : List (Nat × Nat × Nat)) : State :=
  (upto 16).foldl (fun y t => y.baseUpdate t) ((upto 96).foldl (fun y w =>
    match rails.find? fun r => r.1 = w with
    | some r => y.towerUpdate w r.2.1 r.2.2
    | none => y.towerUpdate w 0 0) s)

theorem RegsOnly.thermals (s : State) (rails : List (Nat × Nat × Nat)) : RegsOnly (0x1_0000_0000 ≤ ·) s (s.thermals rails) := by
  refine RegsOnly.trans (.foldl _ _ fun y w => ?_) (.foldl _ _ fun y t => .baseUpdate y t)
  split
  · exact .towerUpdate ..
  · exact .towerUpdate ..

/-- The registers that show what is drawn. -/
def DrawReg (a : Nat) : Prop := a = Reg.PWR_MODULE ∨ a = Reg.PWR_FLOOR ∨ ∃ k < 16, a = Reg.PWR_STD_DRAW k

/-- What every stand, the input and the floor draw, as it is shown. -/
def State.drawsShown (s : State) (draw : Nat → Nat) (input : Nat) : State :=
  (((upto 16).foldl (fun y i => y.sf (Reg.PWR_STD_DRAW i) Fld.PWR_STD_DRAW_draw (draw i)) s).sf Reg.PWR_MODULE Fld.PWR_MODULE_draw
    (min input 65535)).sf Reg.PWR_FLOOR Fld.PWR_FLOOR_floor (min (input - ((upto 16).map draw).sum) 65535)

theorem State.drawsShown_spec (s : State) {draw : Nat → Nat} (small : ∀ i, draw i < 2 ^ 16) (input : Nat) :
    RegsOnly DrawReg s (s.drawsShown draw input) ∧ (∀ i < 16, (s.drawsShown draw input).draw i = draw i) ∧
      (s.drawsShown draw input).gf Reg.PWR_MODULE Fld.PWR_MODULE_draw = min input 65535 ∧
      (s.drawsShown draw input).gf Reg.PWR_FLOOR Fld.PWR_FLOOR_floor = min (input - ((upto 16).map draw).sum) 65535 := by
  have each (i : Nat) (hi : i < 16) :
      ((upto 16).foldl (fun y i => y.sf (Reg.PWR_STD_DRAW i) Fld.PWR_STD_DRAW_draw (draw i)) s).draw i = draw i :=
    foldl_settles (P := fun y : State => y.draw i = draw i) (List.mem_range.2 hi) (fun y => State.gf_sf_val (by decide) (small i))
      fun y k _ ne kept => (State.gf_sf_ne _ _ _ _ (by unfold Reg.PWR_STD_DRAW; omega)).trans kept
  have only : RegsOnly DrawReg s ((upto 16).foldl (fun y i => y.sf (Reg.PWR_STD_DRAW i) Fld.PWR_STD_DRAW_draw (draw i)) s) :=
    List.foldlRecOn (motive := RegsOnly DrawReg s) _ _ (.refl _ s) fun y h k hk =>
      h.trans (.sf y (.inr (.inr ⟨k, List.mem_range.1 hk, rfl⟩)) _ _)
  unfold State.drawsShown
  generalize (upto 16).foldl (fun y i => y.sf (Reg.PWR_STD_DRAW i) Fld.PWR_STD_DRAW_draw (draw i)) s = y at each only
  have input16 : min input 65535 < 2 ^ Fld.PWR_MODULE_draw.w := lt_of_le_of_lt (Nat.min_le_right _ _) (by decide)
  have module := State.gf_sf_val (s := y) (a := Reg.PWR_MODULE) (f := Fld.PWR_MODULE_draw) (by decide) input16
  refine ⟨(only.trans (.sf _ (.inl rfl) _ _)).trans (.sf _ (.inr (.inl rfl)) _ _), fun i hi => ?_, ?_,
    State.gf_sf_val (by decide) (lt_of_le_of_lt (Nat.min_le_right _ _) (by decide))⟩
  · rw [State.draw, State.gf_sf_ne _ _ _ _ (by unfold Reg.PWR_STD_DRAW Reg.PWR_FLOOR; omega),
      State.gf_sf_ne _ _ _ _ (by unfold Reg.PWR_STD_DRAW Reg.PWR_MODULE; omega)]
    exact each i hi
  · rw [State.gf_sf_ne _ _ _ _ (by decide)]
    exact module

/-- The skips of a stand's budget. -/
def budgetSkips (b draw k : Nat) : Nat := if b < draw then min (k + 2) 12 else if 100 * draw < 95 * b then k - 2 else k

/-- The budget throttles of one update. -/
def State.budgets (s : State) (m : SMap Byte) : State := ((upto 16).filter fun i => planValid m i).foldl (fun y i => y.budgetThrottle i) s

theorem State.budgetThrottle_pwr (s : State) (i : Nat) : s.budgetThrottle i = { s with pwr := (s.budgetThrottle i).pwr } ∧
    (s.budgetThrottle i).pwrS i = { s.pwrS i with budK := budgetSkips (planBudget s.planForce i) (s.draw i) (s.pwrS i).budK } ∧
    ∀ k, k ≠ i → (s.budgetThrottle i).pwrS k = s.pwrS k :=
  ⟨rfl, State.pwrS_setPwr_same .., fun _ hk => State.pwrS_setPwr_ne _ _ hk⟩

theorem State.budgets_frame (s : State) (m : SMap Byte) : s.budgets m = { s with pwr := (s.budgets m).pwr } ∧
    ∀ i, ((s.budgets m).pwrS i).goal = (s.pwrS i).goal := by
  refine List.foldlRecOn (motive := fun y : State => y = { s with pwr := y.pwr } ∧ ∀ i, (y.pwrS i).goal = (s.pwrS i).goal) _ _
    ⟨rfl, fun _ => rfl⟩ fun y kept k _ => ?_
  obtain ⟨frame, goals⟩ := kept
  obtain ⟨frame', mine, others⟩ := y.budgetThrottle_pwr k
  refine ⟨by rw [frame', frame], fun i => ?_⟩
  by_cases same : i = k
  · rw [same, mine, ← goals k]
  · rw [others i same, goals i]

theorem State.budgets_skips (s : State) (hi : i < 16) (valid : planValid s.planForce i = true) :
    ((s.budgets s.planForce).pwrS i).budK = budgetSkips (planBudget s.planForce i) (s.draw i) (s.pwrS i).budK := by
  refine foldl_turn (P := fun y : State => y.pwrS i = s.pwrS i ∧ y.draw i = s.draw i ∧ y.planForce = s.planForce)
    (Q := fun y : State => (y.pwrS i).budK = budgetSkips (planBudget s.planForce i) (s.draw i) (s.pwrS i).budK)
    (List.Nodup.filter _ List.nodup_range) (List.mem_filter.2 ⟨List.mem_range.2 hi, valid⟩) (fun y h => ?_) (fun y k _ ne h => ?_)
    (fun y k _ ne h => ?_) ⟨rfl, rfl, rfl⟩
  · obtain ⟨power, draw, plan⟩ := h
    obtain ⟨-, mine, -⟩ := y.budgetThrottle_pwr i
    rw [mine, power, draw, plan]
  · obtain ⟨power, draw, plan⟩ := h
    obtain ⟨frame, -, others⟩ := y.budgetThrottle_pwr k
    exact ⟨(others i ne.symm).trans power, (by rw [frame]; rfl : (y.budgetThrottle k).draw i = y.draw i).trans draw,
      (by rw [frame] : (y.budgetThrottle k).planForce = y.planForce).trans plan⟩
  · obtain ⟨-, -, others⟩ := y.budgetThrottle_pwr k
    rw [others i ne.symm]
    exact h

/-- Counting the stretched cycles changes the regions alone. -/
theorem stretches_frame (l : List (Nat × Nat × Nat)) (s : State) : let u := l.foldl (fun y d => y.stretched d.1 d.2.1 d.2.2) s
    u = { s with regions := u.regions } :=
  foldl_invariant (P := fun y : State => y = { s with regions := y.regions }) rfl fun y d kept => by
    show y.stretched d.1 d.2.1 d.2.2 = _
    rw [State.stretched, State.setRegion, kept]

theorem powerManagerUpdate_does {rails : List (Nat × Nat × Nat)} {x : Telemetry} (input : Nat) (on : s.power = true)
    (managed : s.unmanaged = false) (free : s.takingOver = false) (ready : s.phase = 1) (hr : ∀ r ∈ rails, r.1 < 96)
    (ht : ∀ r ∈ x.towers, r.1 < 96) (hh : ∀ r ∈ x.hbms, r.1 < 32) (hb : ∀ r ∈ x.tiles, r.1 < 16) (hd : ∀ r ∈ x.droops, r.1 < 864)
    (goes : s.clk.stopped = false) : ∃ s1 : State, s1 = x.droops.foldl (fun y d => y.stretched d.1 d.2.1 d.2.2) s ∧
      s1 = { s with regions := s1.regions } ∧ exec (.powerManagerUpdate rails x input) s =
        .next ((((s1.thermals rails).drawsShown (s.drawOf rails x) input).budgets s.planForce).throttles) := by
  have none_ {α : Type} {l : List α} {key : α → Nat} {n : Nat} (h : ∀ r ∈ l, key r < n) : l.any (fun r => decide (key r ≥ n)) = false :=
    List.any_eq_false.2 fun r hr => by simpa using h r hr
  refine ⟨_, rfl, stretches_frame x.droops s, ?_⟩
  show execPowerManagerUpdate rails x input s = _
  rw [execPowerManagerUpdate, none_ hr, none_ ht, none_ hh, none_ hb, none_ hd, if_neg (by decide), if_neg (by simp [on, goes])]
  have frame := stretches_frame x.droops s
  generalize x.droops.foldl (fun y d => y.stretched d.1 d.2.1 d.2.2) s = s1 at frame
  dsimp only at frame ⊢
  have same : s1.unmanaged = false ∧ s1.takingOver = false ∧ s1.phase = 1 ∧ s1.drawOf rails x = s.drawOf rails x ∧ s1.planForce = s.planForce := by
    rw [frame]
    exact ⟨managed, free, ready, rfl, rfl⟩
  obtain ⟨managed', free', ready', draws, plan⟩ := same
  rw [if_neg (by simp [managed', free', ready']), draws, ← plan]
  rfl

theorem State.drawOf_small (s : State) (rails : List (Nat × Nat × Nat)) (x : Telemetry) (i : Nat) : s.drawOf rails x i < 2 ^ 16 :=
  lt_of_le_of_lt (Nat.min_le_right _ _) (by decide)

theorem not_drawReg_state : ¬DrawReg (Reg.PWR_STD_STATE i) := by
  rintro (c | c | ⟨k, hk, c⟩)
  · unfold Reg.PWR_STD_STATE Reg.PWR_MODULE at c
    omega
  · unfold Reg.PWR_STD_STATE Reg.PWR_FLOOR at c
    omega
  · unfold Reg.PWR_STD_STATE Reg.PWR_STD_DRAW at c
    omega

theorem DrawReg.kept {a : Nat} (h : DrawReg a) : ¬ThrReg a := by
  rintro (c | (c | c | c) | ⟨k, hk, c | c⟩) <;> rcases h with h | h | ⟨j, hj, h⟩ <;>
    simp only [Reg.PWR_MODULE, Reg.PWR_FLOOR, Reg.PWR_STD_DRAW, Reg.HIF_MOD_INT, Reg.PWR_STD_THR, Reg.STD_GATE_LEVEL] at h c <;> omega

theorem powerManagerUpdate_shows {rails : List (Nat × Nat × Nat)} {x : Telemetry} (input : Nat) (on : s.power = true)
    (managed : s.unmanaged = false) (free : s.takingOver = false) (ready : s.phase = 1) (hr : ∀ r ∈ rails, r.1 < 96)
    (ht : ∀ r ∈ x.towers, r.1 < 96) (hh : ∀ r ∈ x.hbms, r.1 < 32) (hb : ∀ r ∈ x.tiles, r.1 < 16) (hd : ∀ r ∈ x.droops, r.1 < 864)
    (goes : s.clk.stopped = false) :
    let draw := s.drawOf rails x
    ∃ u, exec (.powerManagerUpdate rails x input) s = .next u ∧
      (∀ i < 16, u.gf (Reg.PWR_STD_DRAW i) Fld.PWR_STD_DRAW_draw = draw i) ∧
      u.gf Reg.PWR_MODULE Fld.PWR_MODULE_draw = min input 65535 ∧
      u.gf Reg.PWR_FLOOR Fld.PWR_FLOOR_floor = min (input - ((upto 16).map draw).sum) 65535 ∧
      (∀ i < 16, s.awake i = true → planValid s.planForce i = true →
        (u.pwrS i).budK = budgetSkips (planBudget s.planForce i) (draw i) (s.pwrS i).budK) ∧
      (∀ k mild severe, x.droops = [(k, mild, severe)] → (u.region k).mild = min ((s.region k).mild + mild) 0xFFFF ∧
        (u.region k).severe = min ((s.region k).severe + severe) 0xFFFF) ∧
      u.mem = s.mem ∧ u.cores = s.cores := by
  intro draw
  obtain ⟨s1, counted, frame, does⟩ := powerManagerUpdate_does input on managed free ready hr ht hh hb hd goes
  have warm := RegsOnly.thermals s1 rails
  generalize s1.thermals rails = s2 at does warm
  obtain ⟨only, draws, module, floor⟩ := s2.drawsShown_spec (s.drawOf_small rails x) input
  generalize s2.drawsShown (s.drawOf rails x) input = s3 at does only draws module floor
  obtain ⟨bframe, goals⟩ := s3.budgets_frame s.planForce
  have plan : s3.planForce = s.planForce := by rw [only.frame, warm.frame, frame]
  have power (i : Nat) : s3.pwrS i = s.pwrS i := by rw [only.frame, warm.frame, frame]; rfl
  have skips (i : Nat) (hi : i < 16) (valid : planValid s.planForce i = true) : ((s3.budgets s.planForce).pwrS i).budK =
      budgetSkips (planBudget s.planForce i) (draw i) (s.pwrS i).budK := by
    have := s3.budgets_skips hi (by rw [plan]; exact valid)
    rwa [plan, power, draws i hi] at this
  have state (i : Nat) (f : Fld) : s3.gf (Reg.PWR_STD_STATE i) f = s.gf (Reg.PWR_STD_STATE i) f ∨ 16 ≤ i := by
    by_cases hi : i < 16
    · refine .inl ((only.gf not_drawReg_state f).trans ((warm.gf ?_ f).trans ?_))
      · unfold Reg.PWR_STD_STATE
        omega
      · rw [frame]
        rfl
    · exact .inr (by omega)
  have awake (i : Nat) (hi : i < 16) (up : s.awake i = true) : (s3.budgets s.planForce).awake i = true := by
    have same (f : Fld) : (s3.budgets s.planForce).gf (Reg.PWR_STD_STATE i) f = s.gf (Reg.PWR_STD_STATE i) f := by
      rw [bframe]
      exact (state i f).resolve_right (by omega)
    rw [State.awake, State.pState, State.pStep, same, same, goals, power]
    exact up
  have shown (a : Nat) (f : Fld) : (s3.budgets s.planForce).gf a f = s3.gf a f := by rw [bframe]; rfl
  have fixed : (s3.budgets s.planForce).mem = s.mem ∧ (s3.budgets s.planForce).cores = s.cores ∧
      (s3.budgets s.planForce).regions = s1.regions := by
    rw [bframe, only.frame, warm.frame]
    exact ⟨by rw [frame], by rw [frame], rfl⟩
  obtain ⟨mem, cores, regions⟩ := fixed
  generalize s3.budgets s.planForce = s4 at does skips awake shown mem cores regions
  obtain ⟨thr, bud⟩ := s4.throttles_spec
  refine ⟨_, does, fun i hi => ?_, ?_, ?_, fun i hi up valid => ?_, fun k mild severe one => ?_, thr.mem.trans mem, thr.cores.trans cores⟩
  · rw [thr.gf (DrawReg.kept (.inr (.inr ⟨i, hi, rfl⟩))), shown]
    exact draws i hi
  · rw [thr.gf (DrawReg.kept (.inl rfl)), shown, module]
  · rw [thr.gf (DrawReg.kept (.inr (.inl rfl))), shown, floor]
  · rw [bud i hi (awake i hi up), skips i hi valid]
  · have region : s4.throttles.region k = s1.region k := by rw [State.region, thr.regions, regions]; rfl
    rw [region, counted, one, List.foldl_cons, List.foldl_nil, State.stretched]
    dsimp only
    rw [State.region, State.setRegion, sget_sset_same]
    exact ⟨rfl, rfl⟩

end

/-! ### The module throttle -/

section
variable {s : State} {input : Nat}

theorem moduleThrottle_waits (still : s.clk.stopped = true) : exec (.moduleThrottle input) s = .next s := by
  show execModuleThrottle input s = _
  rw [execModuleThrottle, if_neg (by simp [still])]

variable (goes : s.clk.stopped = false)
include goes

theorem moduleThrottle_begins (on : s.power = true) (idle : s.modK = 0) (above : 11500 < input) : exec (.moduleThrottle input) s =
    .next ((({ s with modK := 4 }.writes [(Reg.PWR_MODULE, Fld.PWR_MODULE_limiting, 1)]).sfSat Reg.PWR_LIMIT_EVENTS
      Fld.PWR_LIMIT_EVENTS_count 1).throttles) := by
  show execModuleThrottle input s = _
  rw [execModuleThrottle, if_pos ⟨on, above, idle, goes⟩, State.writes_one]

theorem moduleThrottleEscalate_deepens (limits : s.modK ≠ 0) (still : 11000 ≤ input) : exec (.moduleThrottleEscalate input) s =
    .next (State.throttles { s with modK := min (s.modK + 4) 12 }) := by
  show execModuleThrottleEscalate input s = _
  rw [execModuleThrottleEscalate, if_pos ⟨limits, still, goes⟩]

theorem moduleThrottleEnd_ends (limits : s.modK ≠ 0) (below : input < 11000) : exec (.moduleThrottleEnd input) s =
    .next (State.throttles ({ s with modK := 0 }.writes [(Reg.PWR_MODULE, Fld.PWR_MODULE_limiting, 0)])) := by
  show execModuleThrottleEnd input s = _
  rw [execModuleThrottleEnd, if_pos ⟨limits, below, goes⟩, State.writes_one]

end

/-- Settles O51: readings by their channel; the update part by part, each with the registers that it writes. -/
theorem powerManager : Obligations.PowerManager := by
  unfold Obligations.PowerManager
  refine ⟨?_, ?_, fun s input => ⟨moduleThrottle_waits, fun goes => ⟨moduleThrottle_begins goes, moduleThrottleEscalate_deepens goes,
    moduleThrottleEnd_ends goes⟩⟩⟩
  · intro s t ch v ht a x seen far key
    refine ⟨fun on goes fresh => ⟨housekeepingMeasure_supply v ht on goes fresh, housekeepingMeasure_input v ht on goes fresh,
      housekeepingMeasure_reading v ht on goes fresh⟩, housekeepingMeasure_reference v ht,
      fun conv w _ _ => s.trim_recalibrated t conv w, suspectRecalibrationEnd_reads v ht⟩
  · intro s rails x input on managed free ready hr ht hh hb hd goes of core draw
    exact powerManagerUpdate_shows input on managed free ready hr ht hh hb hd goes

end Sys2Proof.Machine

/-! PROOF. Circuits that open, and the management context's swap and park (R270, R278, R285, R287). -/

namespace Sys2Proof.Machine

/-! ### Listeners and circuits -/

section
variable {s : State} {t x l : Nat}

@[simp] theorem State.listener_setListener_same (s : State) (t l : Nat) (v : Listener) : (s.setListener t l v).listener t l = v := by
  unfold State.listener State.setListener
  rw [State.fabT_setFab_same, sget_sset_same]

theorem State.listener_setListener_ne (s : State) {t l j : Nat} (v : Listener) (h : j ≠ l) :
    (s.setListener t l v).listener t j = s.listener t j := by
  unfold State.listener State.setListener
  rw [State.fabT_setFab_same, sget_sset_other _ _ _ _ h]

@[simp] theorem State.listener_setCtx (s : State) (t x : Nat) (k : CtxSt) (j : Nat) : (s.setCtx t x k).listener t j = s.listener t j := by
  unfold State.listener State.setCtx
  rw [State.fabT_setFab_same]

theorem State.ctx_setListener (s : State) (t l : Nat) (v : Listener) (x : Nat) : (s.setListener t l v).ctx t x = s.ctx t x := by
  unfold State.ctx State.setListener
  rw [State.fabT_setFab_same]

theorem CtxSt.circ_setCirc_same (k : CtxSt) (c : Nat) (q : Circ) : (k.setCirc c q).circ c = q := sget_sset_same ..

theorem CtxSt.circ_goto (k : CtxSt) (pc e : Nat) : (k.goto pc).circ e = k.circ e := rfl

theorem CtxSt.circ_setCirc_ne (k : CtxSt) {c e : Nat} (q : Circ) (h : e ≠ c) : (k.setCirc c q).circ e = k.circ e :=
  sget_sset_other _ _ _ _ h

/-! ### open -/

/-- The opening of a circuit on a free listener. -/
theorem openGo_spec {c u h slot : Nat} {pd : Bool} (free : s.freeListeners t (foreignTrunk t u h) ≠ []) :
    ∃ l ∈ s.freeListeners t (foreignTrunk t u h), (openGo t x c u h slot pd s).ctx t x = (s.ctx t x).setCirc c { Circ.zero with
        isOpen := true, src := u, trunk := h, slot := slot, pd := pd, listener := l,
        openBeat := (s.stand (s.ctx t x).stand).beat, openGrid := (s.stand (s.ctx t x).stand).grid } ∧
      (openGo t x c u h slot pd s).listener t l = { s.listener t l with
        mode := .moving, ch := s.slotCh u h slot, user := some (x, c), lost := false } ∧
      (∀ j, j ≠ l → (openGo t x c u h slot pd s).listener t j = s.listener t j) ∧
      (openGo t x c u h slot pd s).mem = s.mem ∧ (openGo t x c u h slot pd s).regs = s.regs := by
  generalize list : s.freeListeners t (foreignTrunk t u h) = ls at free
  have inside : Config.freeNat s.freeCtr % ls.length < ls.length := Nat.mod_lt _ (List.length_pos_iff.2 free)
  have at_ : ls.getD (Config.freeNat s.freeCtr % ls.length) noListener ∈ ls := by
    rw [List.getD_eq_getElem _ _ inside]
    exact List.getElem_mem inside
  refine ⟨_, at_, ?_⟩
  have does : openGo t x c u h slot pd s = (let l := ls.getD (Config.freeNat s.freeCtr % ls.length) noListener
      let s1 := { s with freeCtr := s.freeCtr + 1 }
      let s2 := s1.setListener t l { s1.listener t l with mode := .moving, ch := s1.slotCh u h slot, user := some (x, c), lost := false }
      let k := s2.ctx t x
      s2.setCtx t x (k.setCirc c { Circ.zero with isOpen := true, src := u, trunk := h, slot := slot, pd := pd, listener := l
                                                  openBeat := (s2.stand k.stand).beat, openGrid := (s2.stand k.stand).grid })) := by
    rw [← list]
    rfl
  rw [does]
  generalize ls.getD (Config.freeNat s.freeCtr % ls.length) noListener = l
  dsimp only
  refine ⟨?_, ?_, fun j hj => ?_, rfl, rfl⟩
  · rw [State.ctx_setCtx_same, State.ctx_setListener]
    rfl
  · rw [State.listener_setCtx, State.listener_setListener_same]
    rfl
  · rw [State.listener_setCtx, State.listener_setListener_ne _ _ hj]
    rfl

theorem seqOpen_opens {c : BitVec 8} {u : BitVec 4} {h : BitVec 3} {slot : BitVec 5} {pd : Bool}
    (runs : SeqRuns s t x (seqOpenWord c.toNat u.toNat h.toNat slot.toNat (boolNat pd)))
    (owner : s.slotOwner u.toNat h.toNat slot.toNat = some (s.ctx t x).stand) (quota : (s.ctx t x).active < s.quota t (s.ctx t x).stand)
    (foreign : u.toNat ≠ t) (free : s.freeListeners t (foreignTrunk t u.toNat h.toNat) ≠ [])
    (closed : ((s.ctx t x).circ c.toNat).isOpen = false)
    (mask : if pd then natBit (s.slotMask u.toNat h.toNat slot.toNat) t = true else s.slotMask u.toNat h.toNat slot.toNat = 0) :
    exec (.seqOpen t x c u h slot pd) s = .next ((openGo t x c.toNat u.toNat h.toNat slot.toNat pd s).setCtx t x
      (((openGo t x c.toNat u.toNat h.toNat slot.toNat pd s).ctx t x).goto ((s.ctx t x).pc + 1))) := by
  obtain ⟨ht, hx, run, still⟩ := runs
  have masked : (if pd then !natBit (s.slotMask u.toNat h.toNat slot.toNat) t else decide (s.slotMask u.toNat h.toNat slot.toNat ≠ 0)) = false := by
    cases pd with
    | true => simpa using mask
    | false => simpa using mask
  show execSeqOpen t x c u h slot pd s = _
  rw [execSeqOpen]
  rw [seqGuard_next ht hx rfl, seqExec_goes run (.inr still)]
  rw [owner, closed, masked, decide_eq_false (Nat.not_le.2 quota), decide_eq_false free, decide_eq_false foreign]
  simp [cause]

end

/-! ### The management context -/

/-- From `s` to `u` only the fabric and registers of `R` change. -/
structure FabRegs (R : Nat → Prop) (s u : State) : Prop where
  frame : u = { s with fab := u.fab, regs := u.regs }
  regs : ∀ a, ¬R a → u.reg a = s.reg a

section
variable {R : Nat → Prop} {s t u : State}

theorem FabRegs.refl (R : Nat → Prop) (s : State) : FabRegs R s s := ⟨rfl, fun _ _ => rfl⟩

theorem FabRegs.trans (h : FabRegs R s t) (k : FabRegs R t u) : FabRegs R s u :=
  ⟨by rw [k.frame, h.frame], fun a ha => (k.regs a ha).trans (h.regs a ha)⟩

theorem FabRegs.sf (s : State) {a : Nat} (h : R a) (f : Fld) (v : Nat) : FabRegs R s (s.sf a f v) :=
  ⟨rfl, fun _ hb => State.reg_sf_ne _ _ _ fun c => hb (c ▸ h)⟩

theorem FabRegs.setFab (s : State) (k : Nat) (x : FabTile) : FabRegs R s (s.setFab k x) := ⟨rfl, fun _ _ => rfl⟩

theorem FabRegs.foldl {α : Type} {f : State → α → State} (l : List α) (s : State) (h : ∀ y a, FabRegs R y (f y a)) :
    FabRegs R s (l.foldl f s) := foldl_invariant (P := FabRegs R s) (.refl R s) fun y a k => k.trans (h y a)

theorem FabRegs.setListener (s : State) (k l : Nat) (x : Listener) : FabRegs R s (s.setListener k l x) := .setFab ..

theorem FabRegs.setCtx (s : State) (k l : Nat) (x : CtxSt) : FabRegs R s (s.setCtx k l x) := .setFab ..

theorem FabRegs.parkListener (s : State) (k l : Nat) : FabRegs R s (s.parkListener k l) := by
  unfold State.parkListener
  dsimp only
  split
  · exact .setListener ..
  · exact .setListener ..

end

/-- The registers that a swap writes beside the slot's byte. -/
def SwapReg (a : Nat) : Prop := (∃ t h, a = Reg.OPT_TRUNK_STATE t h) ∨ ∃ t f, f < 2 ^ 15 ∧ a = Reg.OPT_SPARE_LISTEN t f

theorem FabRegs.swapListeners (s : State) (t h k ch : Nat) : FabRegs SwapReg s (swapListeners s t h k ch) := by
  refine .foldl _ _ fun y u => ?_
  split
  · exact .refl _ y
  · refine .foldl _ _ fun z x => .foldl _ _ fun w e => ?_
    split
    · split
      · exact (FabRegs.setListener ..).trans (.setCtx ..)
      · exact (FabRegs.setListener ..).trans (.setCtx ..)
    · exact .refl _ w

theorem foreignTrunk_small {u t h : Nat} (hu : u < 16) (ht : t < 16) (hh : h < 8) : foreignTrunk u t h < 2 ^ 20 := by
  unfold foreignTrunk laneRank
  split <;> omega

theorem FabRegs.listenTaken (s : State) (u : Nat) {f : Nat} (hf : f < 2 ^ 20) : FabRegs SwapReg s (s.listenTaken u f) := by
  unfold State.listenTaken
  dsimp only
  split
  · exact .refl _ s
  · refine (FabRegs.sf s (.inr ⟨_, _, by omega, rfl⟩) _ _).trans (.foldl _ _ fun y j => ?_)
    split
    · exact .setListener ..
    · exact .refl _ y

theorem FabRegs.swapEnd (s : State) {t h : Nat} (ht : t < 16) (hh : h < 8) : FabRegs SwapReg s (s.swapEnd t h) := by
  unfold State.swapEnd
  split
  · exact .refl _ s
  · next m _ =>
    have moved : FabRegs SwapReg s ((upto 16).foldl (fun y u =>
        if u = t then y
        else
          let f := foreignTrunk u t h
          (upto 9).foldl (fun z j =>
            let l := 9 * f + j
            let x := z.listener u l
            if (x.mode = .drop ∨ x.mode = .moving) ∧ x.ch = m % 64 then
              let z1 := z.parkListener u l
              z1.setFab u { z1.fabT u with spareJ := sset 0 (z1.fabT u).spareJ f (8 - j) }
            else z) y |>.listenTaken u f) s) := by
      refine List.foldlRecOn (motive := FabRegs SwapReg s) _ _ (.refl _ s) fun y kept u hu => kept.trans ?_
      have hu16 : u < 16 := List.mem_range.1 hu
      split
      · exact .refl _ y
      · refine FabRegs.trans (.foldl _ _ fun z j => ?_) (.listenTaken _ u (foreignTrunk_small hu16 ht hh))
        dsimp only
        split
        · exact (FabRegs.parkListener ..).trans (.setFab ..)
        · exact .refl _ z
    dsimp only
    split
    · exact moved.trans (.setFab ..)
    · exact (moved.trans (.setFab ..)).trans (.sf _ (.inl ⟨_, _, rfl⟩) _ _)

section
variable {s : State} {t : Nat} (ht : t < 16)

theorem State.slotByte_setSlotByte (s : State) (t h k : Nat) {v : Nat} (hv : v < 256) : (s.setSlotByte t h k v).slotByte t h k = v := by
  unfold State.slotByte State.setSlotByte
  dsimp only
  rw [State.reg_setReg_same, BitVec.toNat_ofNat, natBits_mod _ _ _ _ (by omega), natBits_natPut_same]
  exact Nat.mod_eq_of_lt hv

theorem slotMap_not_swapReg (t : Nat) {h k : Nat} (hh : h < 8) (hk : k < 32) : ¬SwapReg (Reg.OPT_SLOT_MAP t h (k / 4)) := by
  rintro (⟨u, g, c⟩ | ⟨u, g, hg, c⟩)
  · unfold Reg.OPT_SLOT_MAP Reg.OPT_TRUNK_STATE at c
    omega
  · unfold Reg.OPT_SLOT_MAP Reg.OPT_SPARE_LISTEN at c
    omega

include ht

/-- The management context, whose words are checked. -/
theorem seqGuard_manages {legal : Bool} {u : State} (ok : legal = true) : seqGuard t 6 legal u = .next u := by
  unfold seqGuard
  rw [if_neg (by omega), if_pos ok]

omit ht in
theorem seqSwapWord_ok (h : BitVec 3) (slot : BitVec 5) (ch : BitVec 6) : seqManageOk (seqSwapWord h.toNat slot.toNat ch.toNat) = true := by
  have := h.isLt
  have := slot.isLt
  have := ch.isLt
  have kind : seqSwapWord h.toNat slot.toNat ch.toNat % 256 = 4 := by unfold seqSwapWord; omega
  unfold seqManageOk
  rw [kind]
  exact decide_eq_true (by unfold seqSwapWord; omega)

omit ht in
theorem seqParkWord_listener {l : Nat} (hl : l < 1080) : seqManageOk (seqParkWord 1 0 0 l) = true := by
  have kind : seqParkWord 1 0 0 l % 256 = 5 := by unfold seqParkWord; omega
  have lst : natBit (seqParkWord 1 0 0 l) 8 = true := by
    rw [natBit, beq_iff_eq]
    unfold seqParkWord
    omega
  have zero : natBits (seqParkWord 1 0 0 l) 9 9 = 0 := by unfold natBits seqParkWord; omega
  have index : natBits (seqParkWord 1 0 0 l) 18 46 < 1080 := by unfold natBits seqParkWord; omega
  unfold seqManageOk
  rw [kind]
  rw [if_pos lst, zero, decide_eq_true index]
  rfl

omit ht in
theorem seqParkWord_modulator (h : BitVec 3) {ch : Nat} (hch : ch < 33) : seqManageOk (seqParkWord 0 h.toNat ch 0) = true := by
  have := h.isLt
  have kind : seqParkWord 0 h.toNat ch 0 % 256 = 5 := by unfold seqParkWord; omega
  have lst : ¬natBit (seqParkWord 0 h.toNat ch 0) 8 = true := by
    rw [natBit, beq_iff_eq]
    unfold seqParkWord
    omega
  have short : seqParkWord 0 h.toNat ch 0 < 2 ^ 18 := by unfold seqParkWord; omega
  have index : natBits (seqParkWord 0 h.toNat ch 0) 12 6 < 33 := by unfold natBits seqParkWord; omega
  unfold seqManageOk
  rw [kind]
  rw [if_neg lst, decide_eq_true index, decide_eq_true short]
  rfl

/-- A swap that begins and ends at once: the slot has the spare channel. -/
theorem State.swap_slotCh {h k : Nat} (hh : h < 8) (hk : k < 32) (spare : s.spareCh t h ≠ 0x3F) :
    ((s.swapBegin t h k).swapEnd t h).slotCh t h k = s.spareCh t h ∧ ((s.swapBegin t h k).swapEnd t h).mem = s.mem := by
  have small : s.spareCh t h < 64 := s.gf_lt _ _
  have byte := s.slotByte_setSlotByte t h k (v := s.spareCh t h) (by omega)
  have moved : FabRegs SwapReg (s.setSlotByte t h k (s.spareCh t h)) ((s.swapBegin t h k).swapEnd t h) := by
    refine FabRegs.trans ?_ (.swapEnd _ ht hh)
    unfold State.swapBegin
    dsimp only
    rw [if_neg spare]
    exact ((((FabRegs.swapListeners ..).trans (.sf _ (.inl ⟨_, _, rfl⟩) _ _)).trans (.sf _ (.inl ⟨_, _, rfl⟩) _ _)).trans
      (.sf _ (.inl ⟨_, _, rfl⟩) _ _)).trans (.setFab ..)
  have mem : (s.setSlotByte t h k (s.spareCh t h)).mem = s.mem := State.setReg_mem ..
  generalize s.setSlotByte t h k (s.spareCh t h) = y at byte moved mem
  refine ⟨?_, by rw [moved.frame]; exact mem⟩
  unfold State.slotByte at byte
  rw [State.slotCh, State.slotByte, moved.regs _ (slotMap_not_swapReg t hh hk), byte]
  exact Nat.mod_eq_of_lt small

theorem seqSwap_asks {h : BitVec 3} {slot : BitVec 5} {ch : BitVec 6} (spare : s.spareCh t h.toNat = ch.toNat) (some_ : ch ≠ 0x3F)
    (none_ : s.gf (Reg.OPT_TRUNK_STATE t h.toNat) Fld.OPT_TRUNK_STATE_swap_pending = 0) :
    exec (.seqSwap t 6 h slot ch) s = .next (s.swapAsk t h.toNat slot.toNat) := by
  show execSeqSwap t 6 h slot ch s = _
  rw [execSeqSwap]
  rw [seqSwapWord_ok, seqGuard_manages ht (legal := 6 == 6 && true) rfl, if_pos ⟨spare, some_, by rw [none_]; decide⟩]

theorem seqSwap_now {h : BitVec 3} {slot : BitVec 5} {ch : BitVec 6} (spare : s.spareCh t h.toNat = ch.toNat) (some_ : ch ≠ 0x3F)
    (none_ : s.gf (Reg.OPT_TRUNK_STATE t h.toNat) Fld.OPT_TRUNK_STATE_swap_pending = 0)
    (idle : ∀ i, s.slotOwner t h.toNat slot.toNat = some i → s.inRun i = false) :
    ∃ u, exec (.seqSwap t 6 h slot ch) s = .next u ∧ u.slotCh t h.toNat slot.toNat = ch.toNat ∧ u.mem = s.mem := by
  have asks : s.swapAsk t h.toNat slot.toNat = (s.swapBegin t h.toNat slot.toNat).swapEnd t h.toNat := by
    rw [State.swapAsk]
    cases owner : s.slotOwner t h.toNat slot.toNat with
    | none => rfl
    | some i => exact if_neg (by rw [idle i owner]; exact Bool.false_ne_true)
  have lit : s.spareCh t h.toNat ≠ 0x3F := by
    rw [spare]
    exact fun c => some_ (BitVec.eq_of_toNat_eq c)
  obtain ⟨slotCh, mem⟩ := State.swap_slotCh (s := s) ht h.isLt slot.isLt lit
  exact ⟨_, (seqSwap_asks ht spare some_ none_).trans (congrArg _ asks), slotCh.trans spare, mem⟩

theorem seqSwap_later {h : BitVec 3} {slot : BitVec 5} {ch : BitVec 6} (spare : s.spareCh t h.toNat = ch.toNat) (some_ : ch ≠ 0x3F)
    (none_ : s.gf (Reg.OPT_TRUNK_STATE t h.toNat) Fld.OPT_TRUNK_STATE_swap_pending = 0) {i : Nat}
    (owner : s.slotOwner t h.toNat slot.toNat = some i) (runs : s.inRun i = true) :
    ∃ u, exec (.seqSwap t 6 h slot ch) s = .next u ∧
      u.gf (Reg.OPT_TRUNK_STATE t h.toNat) Fld.OPT_TRUNK_STATE_swap_pending = 1 ∧
      u.gf (Reg.OPT_TRUNK_STATE t h.toNat) Fld.OPT_TRUNK_STATE_swap_slot = slot.toNat ∧
      u = { s with regs := u.regs } ∧ ∀ b, b ≠ Reg.OPT_TRUNK_STATE t h.toNat → u.reg b = s.reg b := by
  have asks : s.swapAsk t h.toNat slot.toNat = (s.sf (Reg.OPT_TRUNK_STATE t h.toNat) Fld.OPT_TRUNK_STATE_swap_pending 1).sf
      (Reg.OPT_TRUNK_STATE t h.toNat) Fld.OPT_TRUNK_STATE_swap_slot slot.toNat := by
    rw [State.swapAsk, owner]
    exact if_pos runs
  have does := (seqSwap_asks ht (slot := slot) spare some_ none_).trans (congrArg _ asks)
  have off (y : State) (f : Fld) (v : Nat) : RegsOnly (· = Reg.OPT_TRUNK_STATE t h.toNat) y (y.sf (Reg.OPT_TRUNK_STATE t h.toNat) f v) :=
    RegsOnly.sf (R := (· = Reg.OPT_TRUNK_STATE t h.toNat)) y rfl f v
  have only := (off s Fld.OPT_TRUNK_STATE_swap_pending 1).trans (off _ Fld.OPT_TRUNK_STATE_swap_slot slot.toNat)
  refine ⟨_, does, ?_, State.gf_sf_val (by decide) slot.isLt, only.frame, only.regs⟩
  rw [State.gf_sf_apart (.inr (by decide)) (by decide)]
  exact State.gf_sf_val (by decide) (by decide)

theorem seqPark_listener {h : BitVec 3} {ch : BitVec 6} {l : BitVec 11} (hl : l.toNat < 1080) (serves : (s.listener t l.toNat).mode ≠ .fenced) :
    ∃ u, exec (.seqPark t 6 true h ch l) s = .next u ∧ u.listener t l.toNat =
      { s.listener t l.toNat with mode := .parked, user := none, lost := false } ∧
      (∀ j, j ≠ l.toNat → u.listener t j = s.listener t j) ∧ u = { s with fab := u.fab } := by
  have does : exec (.seqPark t 6 true h ch l) s = .next (s.parkListener t l.toNat) := by
    show execSeqPark t 6 true h ch l s = _
    rw [execSeqPark]
    rw [if_pos rfl, show seqManageOk (seqParkWord 1 0 0 l.toNat) = true from seqParkWord_listener hl, if_neg (by decide),
      seqGuard_manages ht (legal := 6 == 6) rfl, if_pos rfl]
  refine ⟨_, does, ?_⟩
  rw [State.parkListener]
  dsimp only
  rw [if_neg serves]
  exact ⟨State.listener_setListener_same .., fun j hj => State.listener_setListener_ne _ _ hj, rfl⟩

theorem seqPark_modulator {h : BitVec 3} {ch : BitVec 6} (hch : ch.toNat < 33) : ∃ u, exec (.seqPark t 6 false h ch 0) s = .next u ∧
    natBit (u.gf (Reg.OPT_CH_PARKED t h.toNat) Fld.OPT_CH_PARKED_ch) ch.toNat = true ∧ u = { s with regs := u.regs } ∧
    ∀ b, b ≠ Reg.OPT_CH_PARKED t h.toNat → u.reg b = s.reg b := by
  have does : exec (.seqPark t 6 false h ch 0) s = .next (s.sf (Reg.OPT_CH_PARKED t h.toNat) Fld.OPT_CH_PARKED_ch
      (natPut (s.gf (Reg.OPT_CH_PARKED t h.toNat) Fld.OPT_CH_PARKED_ch) ch.toNat 1 1)) := by
    show execSeqPark t 6 false h ch 0 s = _
    rw [execSeqPark]
    rw [if_neg Bool.false_ne_true, seqParkWord_modulator h hch, if_neg (by decide), seqGuard_manages ht (legal := 6 == 6) rfl,
      if_neg Bool.false_ne_true]
  have only := RegsOnly.sf (R := (· = Reg.OPT_CH_PARKED t h.toNat)) s rfl Fld.OPT_CH_PARKED_ch
    (natPut (s.gf (Reg.OPT_CH_PARKED t h.toNat) Fld.OPT_CH_PARKED_ch) ch.toNat 1 1)
  refine ⟨_, does, ?_, only.frame, only.regs⟩
  rw [State.gf_sf_val (by decide) (natPut_lt (s.gf_lt _ _) (show ch.toNat + 1 ≤ 33 by omega))]
  exact natBit_natPut_same _ _ true

end

/-- Settles O34: the opening by its listener and its circuit; a swap by what its fold over the listeners keeps. -/
theorem circuitsAndManagement : Obligations.CircuitsAndManagement := by
  unfold Obligations.CircuitsAndManagement
  refine ⟨?_, ?_⟩
  · intro s t x c u h slot pd runs k f owner quota foreign free closed mask
    obtain ⟨l, hl, ctx, mine, others, mem, regs⟩ := openGo_spec (s := s) (t := t) (x := x) (c := c.toNat) (u := u.toNat) (h := h.toNat)
      (slot := slot.toNat) (pd := pd) free
    refine ⟨_, l, seqOpen_opens runs owner quota foreign free closed mask, hl, ?_⟩
    generalize openGo t x c.toNat u.toNat h.toNat slot.toNat pd s = y at ctx mine others mem regs ⊢
    rw [State.ctx_setCtx_same, ctx]
    refine ⟨(CtxSt.circ_goto ..).trans (CtxSt.circ_setCirc_same ..), fun e he => (CtxSt.circ_goto ..).trans (CtxSt.circ_setCirc_ne _ _ he), rfl, (State.listener_setCtx ..).trans mine,
      fun j hj => (State.listener_setCtx ..).trans (others j hj), mem, regs⟩
  · intro s t h slot ch ht a own
    exact ⟨fun spare some_ none_ => ⟨seqSwap_now ht spare some_ none_, fun i owner runs => seqSwap_later ht spare some_ none_ owner runs⟩,
      fun l hl serves => seqPark_listener ht hl serves, seqPark_modulator ht⟩

end Sys2Proof.Machine

/-! PROOF. Router cycles and the fence of a lane (R299, R313, R324, R328, R339, R346, R347). -/

namespace Sys2Proof.Machine

/-! ### The packet plane alone -/

/-- From `s` to `u` only the tiles' packet plane and counts change. -/
structure Plane (s u : State) : Prop where
  frame : u = { s with tiles := u.tiles, pmc := u.pmc, mapAcc := u.mapAcc }

section
variable {s t u : State}

theorem Plane.refl (s : State) : Plane s s := ⟨rfl⟩

theorem Plane.trans (h : Plane s t) (k : Plane t u) : Plane s u := ⟨by rw [k.frame, h.frame]⟩

theorem Plane.setTile (s : State) (k : Nat) (x : PlaneTile) : Plane s (s.setTile k x) := ⟨rfl⟩

theorem Plane.laneLit (h : Plane s u) (a d k : Nat) : u.laneLit a d k = s.laneLit a d k := by rw [h.frame]; rfl

theorem Plane.crossing (h : Plane s u) (p : Pkt) : u.crossing p = s.crossing p := by rw [h.frame]; rfl

theorem Plane.pairHas (h : Plane s u) (a d : Nat) : u.pairHas a d = s.pairHas a d := by rw [h.frame]; rfl

theorem Plane.gf (h : Plane s u) (a : Nat) (f : Fld) : u.gf a f = s.gf a f := by rw [h.frame]; rfl

end

/-- From `s` to `u` only counts change. -/
structure Counted (s u : State) : Prop where
  plane : Plane s u
  tiles : u.tiles = s.tiles

section
variable {s t u : State}

theorem Counted.trans (h : Counted s t) (k : Counted t u) : Counted s u := ⟨h.plane.trans k.plane, k.tiles.trans h.tiles⟩

theorem Counted.rcount (s : State) (t e n : Nat) : Counted s (s.rcount t e n) := by
  unfold State.rcount
  split
  · exact ⟨.refl s, rfl⟩
  · exact ⟨⟨rfl⟩, rfl⟩

theorem Counted.setAcc (s : State) (t : Nat) (x : MapAcc) : Counted s (s.setAcc t x) := ⟨⟨rfl⟩, rfl⟩

theorem Counted.tile (h : Counted s u) (k : Nat) : u.tile k = s.tile k := by rw [State.tile, h.tiles]; rfl

end

/-! ### A router cycle in its parts -/

/-- What the cycle begins with where nothing has arrived for the tile itself: the cells that have arrived are taken. -/
def State.routerStart (s : State) (t : Nat) : Rc :=
  let a := (s.rcount t 0 1).setTile t { s.tile t with rx := [] }
  let b := a.setTile t { a.tile t with pool := [] }
  ⟨b.setTile t { b.tile t with pool := [] ++ (b.tile t).pool }, s.allLanes t, (s.allLanes t).map (·.length), 0⟩

/-- Injection, and the idle cells. -/
def Rc.injectRest (r : Rc) (t : Nat) (lanes : List (List Nat)) (lost : List Nat) : State :=
  let s5 := r.s.combineCycle t
  let y := s5.tile t
  let confs := (y.confirms.filter fun c => !c.sent).map fun c => (⟨confirmPkt t c, 0, true⟩ : InjEnt)
  let rest := y.inject.filter fun e => !(e.pkt.kind == 2 && y.confirms.any fun c =>
    !c.sent && c.seq == e.pkt.seq && c.dst == e.pkt.dst)
  let r5 := Rc.injectAll t lost (rest ++ confs) [] { r with s := s5.setTile t { y with inject := [] } }
  r5.s.idleLanes t lanes r5.free

/-- The cycle up to injection: of the cells that have arrived `kept` wait, `here` are the tile's own and `away` are in transit. -/
def State.routerMoves (s : State) (t : Nat) (lost : List Nat) (kept here away : List Pkt) : Rc :=
  let lanes := s.allLanes t
  let free := lanes.map (·.length)
  let (s1, ref) := deliverAll t (free.any (· > 0)) here ((s.rcount t 0 1).setTile t { s.tile t with rx := kept }) []
  let pool := (s1.tile t).pool
  let (r2, kept) := directAll t lost pool ⟨s1.setTile t { s1.tile t with pool := [] }, lanes, free, 0⟩ []
  let r2' := { r2 with s := r2.s.setTile t { r2.s.tile t with pool := kept ++ (r2.s.tile t).pool } }
  let (r3, left) := directAll t lost away r2' []
  (left ++ ref).foldl (fun r p => r.detour t p lost) r3

section
variable {s : State} {t : Nat} {p : Pkt} {lost : List Nat}

theorem routerCycle_parts (s : State) (t : Nat) (lost : List Nat) : s.routerCycle t lost =
    (let cells := (s.tile t).rx.filter fun p => !(p.dst.toNat = t && s.replyHeld p)
     (s.routerMoves t lost ((s.tile t).rx.filter fun p => p.dst.toNat = t && s.replyHeld p) (cells.filter fun p => p.dst.toNat = t)
      ((cells.filter fun p => p.dst.toNat ≠ t).foldr transitInsert [])).injectRest t (s.allLanes t) lost) := rfl

theorem routerMoves_none (pool : (s.tile t).pool = []) (away : List Pkt) : s.routerMoves t lost [] [] away =
    (let (r, left) := directAll t lost away (s.routerStart t) []
     left.foldl (fun r p => r.detour t p lost) r) := by
  have empty : (((s.rcount t 0 1).setTile t { s.tile t with rx := [] }).tile t).pool = [] := by
    rw [State.tile_setTile_same]
    exact pool
  unfold State.routerMoves deliverAll
  dsimp only
  rw [empty]
  unfold State.routerStart
  generalize (s.rcount t 0 1).setTile t { s.tile t with rx := [] } = a
  simp only [List.append_nil]
  rfl

theorem routerCycle_transit (rx : (s.tile t).rx = [p]) (pool : (s.tile t).pool = []) (away : p.dst.toNat ≠ t) {r : Rc}
    (goes : (s.routerStart t).direct t p lost = some r) : s.routerCycle t lost = r.injectRest t (s.allLanes t) lost := by
  have moves : s.routerMoves t lost [] [] [p] = r := by
    rw [routerMoves_none pool, directAll, goes]
    rfl
  have kept : [p].filter (fun p => decide (p.dst.toNat = t) && s.replyHeld p) = [] := by simp [away]
  have cells : [p].filter (fun p => !(decide (p.dst.toNat = t) && s.replyHeld p)) = [p] := by simp [away]
  have here : [p].filter (fun p => decide (p.dst.toNat = t)) = [] := by simp [away]
  have transit : [p].filter (fun p => decide (p.dst.toNat ≠ t)) = [p] := by simp [away]
  rw [routerCycle_parts, rx]
  dsimp only
  rw [kept, cells, here, transit]
  exact congrArg (Rc.injectRest · t (s.allLanes t) lost) moves

theorem routerCycle_quiet (rx : (s.tile t).rx = []) (pool : (s.tile t).pool = []) : s.routerCycle t lost =
    (s.routerStart t).injectRest t (s.allLanes t) lost := by
  rw [routerCycle_parts, rx]
  exact congrArg (Rc.injectRest · t (s.allLanes t) lost) (routerMoves_none pool [])

end

/-! ### A cell on a direct lane -/

theorem boolNat_mono {a b : Bool} (h : a = true → b = true) : boolNat a ≤ boolNat b := by
  cases a with
  | false => exact Nat.zero_le _
  | true => rw [h rfl]

/-- A lane that carries cells is a lane of the pair. -/
theorem State.pairHas_of_lanes {s : State} {a d : Nat} (h : 0 < s.pairLanes a d) : 0 < s.pairHas a d := by
  have lane (q l : Nat) : boolNat (s.laneUp d q l) ≤ boolNat (!natBit (s.laneByte d q l) 6) := by
    refine boolNat_mono fun up => ?_
    have small : s.laneByte d q l < 64 := by
      have := (Bool.and_eq_true_iff.1 up).1
      exact of_decide_eq_true this
    rw [natBit, Bool.not_eq_true', beq_eq_false_iff_ne]
    omega
  refine lt_of_lt_of_le h ?_
  unfold State.pairLanes State.pairHas
  simp only [List.map_cons, List.map_nil, List.sum_cons, List.sum_nil]
  have l1 := lane 0 (2 * laneRank d a)
  have l2 := lane 0 (2 * laneRank d a + 1)
  have l3 := lane 1 (2 * laneRank d a)
  have l4 := lane 1 (2 * laneRank d a + 1)
  omega

theorem State.allLanes_getD {s : State} {t d : Nat} (hd : d < 16) (away : d ≠ t) : (s.allLanes t).getD d [] = s.lanesFree t d := by
  unfold State.allLanes
  rw [List.getD_eq_getElem?_getD, List.getElem?_map, upto, List.getElem?_range hd]
  exact if_neg away

/-- What a lane needs toward the cell's tile. -/
structure LaneOpen (s : State) (t : Nat) (p : Pkt) : Prop where
  away : p.dst.toNat ≠ t
  lanes : 0 < s.pairLanes t p.dst.toNat
  free : s.lanesFree t p.dst.toNat ≠ []
  lit : ∀ k ∈ s.lanesUp t p.dst.toNat, s.laneLit t p.dst.toNat k = true

section
variable {s : State} {t : Nat} {p : Pkt} {lost : List Nat} (open_ : LaneOpen s t p)
include open_

/-- A cell with a free direct lane takes it. -/
theorem Rc.direct_sends {r : Rc} (plane : Plane s r.s) (lanes : r.lanes = s.allLanes t) (free : r.free = (s.allLanes t).map (·.length)) :
    ∃ c r1, Counted r.s c ∧ r.direct t p lost = some r1 ∧
      r1.s = if lost.contains r.sent then c else c.arrive p.dst.toNat p := by
  obtain ⟨away, has, some_, lit⟩ := open_
  have hd := p.dst.isLt
  have mine := State.allLanes_getD (s := s) hd away
  have hop : r.s.hop t p.dst.toNat = p.dst.toNat := if_pos (by rw [plane.pairHas]; exact State.pairHas_of_lanes has)
  have count : r.free.getD p.dst.toNat 0 = (s.lanesFree t p.dst.toNat).length := by
    rw [free, ← mine, List.getD_eq_getElem?_getD, List.getElem?_map, List.getD_eq_getElem?_getD]
    cases (s.allLanes t)[p.dst.toNat]? <;> rfl
  have positive : 0 < (s.lanesFree t p.dst.toNat).length := List.length_pos_iff.2 some_
  have first : r.lane p.dst.toNat ∈ s.lanesUp t p.dst.toNat := by
    rw [Rc.lane, lanes, mine, count, Nat.sub_self, List.getD_eq_getElem _ _ positive]
    exact (List.mem_filter.1 (List.getElem_mem positive)).1
  generalize hn : boolNat (decide (p.srcTile.toNat ≠ t ∧ r.s.pairHas p.srcTile.toNat p.dst.toNat = 0)) = n
  generalize hx : { r.s.acc t with sent := sset 0 (r.s.acc t).sent p.dst.toNat (sget 0 (r.s.acc t).sent p.dst.toNat + 1) } = x
  have counted : Counted r.s (((r.s.rcount t 3 1).rcount t 15 n).setAcc t x) :=
    ((Counted.rcount ..).trans (.rcount ..)).trans (.setAcc ..)
  refine ⟨_, Rc.send { r with s := ((r.s.rcount t 3 1).rcount t 15 n).setAcc t x } t p.dst.toNat p lost, counted, ?_, ?_⟩
  · rw [Rc.direct]
    dsimp only
    rw [hop, if_neg (by omega), hn, hx]
  · rw [Rc.send]
    dsimp only
    have light : (((r.s.rcount t 3 1).rcount t 15 n).setAcc t x).laneLit t p.dst.toNat (r.lane p.dst.toNat) = true := by
      rw [(plane.trans counted.plane).laneLit]
      exact lit _ first
    rw [show Rc.lane { r with s := ((r.s.rcount t 3 1).rcount t 15 n).setAcc t x } p.dst.toNat = r.lane p.dst.toNat from rfl, light]
    simp only [Bool.not_true, Bool.or_false]

end

/-! ### The ends of a cycle -/

/-- From `s` to `u` only idle cells have been sent. -/
structure Idles (s u : State) : Prop where
  frame : u = { s with tiles := u.tiles }
  tile : ∀ k, u.tile k = { s.tile k with idle := (u.tile k).idle, tags := (u.tile k).tags }

section
variable {s t u : State}

theorem Idles.refl (s : State) : Idles s s := ⟨rfl, fun _ => rfl⟩

theorem Idles.trans (h : Idles s t) (k : Idles t u) : Idles s u := ⟨by rw [k.frame, h.frame], fun a => by rw [k.tile a, h.tile a]⟩

theorem Idles.setTile (s : State) (a : Nat) {x : PlaneTile} (h : x = { s.tile a with idle := x.idle, tags := x.tags }) : Idles s (s.setTile a x) := by
  refine ⟨rfl, fun k => ?_⟩
  by_cases same : k = a
  · rw [same, State.tile_setTile_same]
    exact h
  · rw [State.tile_setTile_ne _ _ same]

theorem Idles.foldl {α : Type} {f : State → α → State} (l : List α) (s : State) (h : ∀ y a, Idles y (f y a)) : Idles s (l.foldl f s) :=
  foldl_invariant (P := Idles s) (.refl s) fun y a k => k.trans (h y a)

theorem Idles.idleSend (s : State) (a d k : Nat) : Idles s (s.idleSend a d k) := by
  have begun : Idles s (if sget 0 (s.tile a).idle (4 * d + k) = 0 then s
      else s.setTile a { s.tile a with idle := sset 0 (s.tile a).idle (4 * d + k) 0 }) := by
    split
    · exact .refl s
    · exact .setTile _ _ rfl
  unfold State.idleSend
  generalize (if sget 0 (s.tile a).idle (4 * d + k) = 0 then s
      else s.setTile a { s.tile a with idle := sset 0 (s.tile a).idle (4 * d + k) 0 }) = s1 at begun
  dsimp only
  split
  · exact begun.trans (.setTile _ _ rfl)
  · exact begun

theorem PlaneTile.carried_idle (x : PlaneTile) (lanes : List (List Nat)) (left : List Nat) :
    x.carried lanes left = { x with idle := (x.carried lanes left).idle } :=
  foldl_invariant (P := fun z : PlaneTile => z = { x with idle := z.idle }) rfl fun y d kept =>
    foldl_invariant (P := fun z : PlaneTile => z = { x with idle := z.idle }) kept fun z k kept => by rw [kept]

theorem Idles.carried (s : State) (a : Nat) (lanes : List (List Nat)) (left : List Nat) :
    Idles s (s.setTile a ((s.tile a).carried lanes left)) := by
  refine .setTile _ _ ?_
  rw [PlaneTile.carried_idle]

theorem Idles.idleLanes (s : State) (a : Nat) (lanes : List (List Nat)) (left : List Nat) : Idles s (s.idleLanes a lanes left) := by
  unfold State.idleLanes
  dsimp only
  refine (Idles.carried ..).trans (.foldl _ _ fun y d => ?_)
  split
  · exact .refl y
  · exact .foldl _ _ fun z k => .idleSend ..

/-- Combining leaves what waits alone already. -/
theorem State.combineCycle_alone {y : State} {a : Nat} (alone : ∀ e ∈ (y.tile a).inject, e.comb = true ∧ combinable e.pkt = false) :
    y.combineCycle a = y.setTile a { y.tile a with inject := (y.tile a).inject } := by
  have map_ {f : InjEnt → InjEnt} (h : ∀ e ∈ (y.tile a).inject, f e = e) : (y.tile a).inject.map f = (y.tile a).inject :=
    (List.map_congr_left h).trans (List.map_id _)
  unfold State.combineCycle
  dsimp only
  split
  · rw [map_ fun e he => ?_]
    obtain ⟨comb, -⟩ := alone e he
    rw [← comb]
  · have inj : (y.tile a).inject.map (fun e => if y.crossing e.pkt then e
        else if combinable e.pkt then { e with held := min (e.held + 1) 64 } else { e with comb := true }) = (y.tile a).inject := by
      refine map_ fun e he => ?_
      obtain ⟨comb, not_⟩ := alone e he
      rw [not_, if_neg Bool.false_ne_true, ← comb]
      exact ite_self _
    have ripe (hold : Nat) : ((y.tile a).inject.filter fun e => !e.comb && decide (e.held > hold)) = [] :=
      List.filter_eq_nil_iff.2 fun e he => by rw [(alone e he).1]; simp
    rw [inj, ripe]
    rfl

end

/-! ### What the cycle sends -/

section
variable {s : State} {t : Nat} {p : Pkt} {lost : List Nat}

theorem State.routerStart_spec (s : State) (t : Nat) : Plane s (s.routerStart t).s ∧
    (s.routerStart t).s.tile t = { s.tile t with rx := [], pool := [] } ∧ ∀ k, k ≠ t → (s.routerStart t).s.tile k = s.tile k := by
  have counted := Counted.rcount s t 0 1
  unfold State.routerStart
  generalize s.rcount t 0 1 = a at counted
  dsimp only
  refine ⟨((counted.plane.trans (.setTile ..)).trans (.setTile ..)).trans (.setTile ..), ?_, fun k hk => ?_⟩
  · simp only [State.tile_setTile_same, List.append_nil]
  · rw [State.tile_setTile_ne _ _ hk, State.tile_setTile_ne _ _ hk, State.tile_setTile_ne _ _ hk, counted.tile]

/-- Injection of `entries`, and the idle cells. -/
def Rc.injectList (r : Rc) (t : Nat) (lanes : List (List Nat)) (lost : List Nat) (entries : List InjEnt) : State :=
  let r5 := Rc.injectAll t lost entries [] r
  r5.s.idleLanes t lanes r5.free

/-- Without confirms the local packets are those at injection. -/
theorem Rc.injectRest_noConfirms {r : Rc} (lanes : List (List Nat)) {y : PlaneTile} (own : (r.s.combineCycle t).tile t = y)
    (conf : y.confirms = []) : r.injectRest t lanes lost =
      Rc.injectList { r with s := (r.s.combineCycle t).setTile t { y with inject := [] } } t lanes lost y.inject := by
  have all : (y.inject.filter fun e => !(e.pkt.kind == 2 && y.confirms.any fun c =>
      !c.sent && c.seq == e.pkt.seq && c.dst == e.pkt.dst)) ++
      ((y.confirms.filter fun c => !c.sent).map fun c => (⟨confirmPkt t c, 0, true⟩ : InjEnt)) = y.inject := by
    rw [conf]
    simp
  rw [← own] at all ⊢
  exact congrArg (Rc.injectList { r with s := (r.s.combineCycle t).setTile t { (r.s.combineCycle t).tile t with inject := [] } }
    t lanes lost) all

/-- With nothing left to inject the cycle only sends idle cells. -/
theorem Rc.injectRest_none {r : Rc} (lanes : List (List Nat)) (inj : (r.s.tile t).inject = []) (conf : (r.s.tile t).confirms = []) :
    Idles r.s (r.injectRest t lanes lost) := by
  have alone : r.s.combineCycle t = r.s.setTile t (r.s.tile t) :=
    State.combineCycle_alone (by rw [inj]; exact fun e he => absurd he List.not_mem_nil)
  have own : (r.s.combineCycle t).tile t = r.s.tile t := by rw [alone, State.tile_setTile_same]
  have same : ({ r.s.tile t with inject := [] } : PlaneTile) = r.s.tile t := by rw [← inj]
  rw [Rc.injectRest_noConfirms lanes own conf, inj, alone, same]
  have first : Idles r.s ((r.s.setTile t (r.s.tile t)).setTile t (r.s.tile t)) :=
    (Idles.setTile r.s t rfl).trans (.setTile _ t (by rw [State.tile_setTile_same]))
  generalize (r.s.setTile t (r.s.tile t)).setTile t (r.s.tile t) = z at first
  show Idles r.s ((z.setTile t { z.tile t with inject := [] ++ (z.tile t).inject }).idleLanes t lanes r.free)
  exact (first.trans (.setTile z t rfl)).trans (.idleLanes ..)

variable (open_ : LaneOpen s t p)
include open_

/-- A cell in transit, alone. -/
theorem routerCycle_carries (rx : (s.tile t).rx = [p]) (inj : (s.tile t).inject = []) (pool : (s.tile t).pool = [])
    (conf : (s.tile t).confirms = []) : ((s.routerCycle t lost).tile p.dst.toNat).rx =
      (if lost.contains 0 then (s.tile p.dst.toNat).rx else (s.tile p.dst.toNat).rx ++ [p]) ∧ ((s.routerCycle t lost).tile t).rx = [] ∧
      (s.routerCycle t lost).cores = s.cores ∧ (s.routerCycle t lost).mem = s.mem := by
  obtain ⟨plane, mine, others⟩ := s.routerStart_spec t
  obtain ⟨c, r1, counted, goes, sent⟩ := Rc.direct_sends (lost := lost) open_ plane rfl rfl
  rw [routerCycle_transit rx pool open_.away goes]
  have away := open_.away
  have tile1 : r1.s.tile t = { s.tile t with rx := [], pool := [] } := by
    rw [sent]
    split
    · rw [counted.tile, mine]
    · rw [State.arrive, State.tile_setTile_ne _ _ (Ne.symm away), counted.tile, mine]
  have dst1 : (r1.s.tile p.dst.toNat).rx = if lost.contains 0 then (s.tile p.dst.toNat).rx else (s.tile p.dst.toNat).rx ++ [p] := by
    rw [sent, show (s.routerStart t).sent = 0 from rfl]
    split
    · rw [counted.tile, others _ away]
    · rw [State.arrive, State.tile_setTile_same, counted.tile, others _ away]
  have plane1 : Plane s r1.s := by
    rw [sent]
    split
    · exact plane.trans counted.plane
    · exact (plane.trans counted.plane).trans (.setTile ..)
  have idles := Rc.injectRest_none (r := r1) (t := t) (lost := lost) (s.allLanes t) (by rw [tile1]; exact inj) (by rw [tile1]; exact conf)
  refine ⟨?_, ?_, ?_, ?_⟩
  · rw [idles.tile]
    exact dst1
  · rw [idles.tile, tile1]
  · rw [idles.frame, plane1.frame]
  · rw [idles.frame, plane1.frame]

/-- A reply at injection, alone. -/
theorem routerCycle_injects (rx : (s.tile t).rx = []) (inj : (s.tile t).inject = [⟨p, 0, true⟩]) (pool : (s.tile t).pool = [])
    (conf : (s.tile t).confirms = []) (reply : p.kind = 1) : ((s.routerCycle t []).tile p.dst.toNat).rx = (s.tile p.dst.toNat).rx ++ [p] ∧
      ((s.routerCycle t []).tile t).inject = [] := by
  obtain ⟨plane, mine, others⟩ := s.routerStart_spec t
  have away := open_.away
  have notComb : combinable p = false := by
    rw [combinable, reply]
    rfl
  rw [routerCycle_quiet rx pool]
  generalize start : s.routerStart t = r at plane mine others
  have begun : r.lanes = s.allLanes t ∧ r.free = (s.allLanes t).map (·.length) ∧ r.sent = 0 := by rw [← start]; exact ⟨rfl, rfl, rfl⟩
  obtain ⟨lanes, free, sent0⟩ := begun
  have waits : (r.s.tile t).inject = [⟨p, 0, true⟩] := by rw [mine]; exact inj
  have conf1 : (r.s.tile t).confirms = [] := by rw [mine]; exact conf
  have alone : r.s.combineCycle t = r.s.setTile t (r.s.tile t) := State.combineCycle_alone (by
    rw [waits]
    intro e he
    rw [List.mem_singleton.1 he]
    exact ⟨rfl, notComb⟩)
  have plane1 : Plane s ((r.s.setTile t (r.s.tile t)).setTile t { r.s.tile t with inject := [] }) :=
    (plane.trans (.setTile ..)).trans (.setTile ..)
  have mine1 : ((r.s.setTile t (r.s.tile t)).setTile t { r.s.tile t with inject := [] }).tile t = { r.s.tile t with inject := [] } :=
    State.tile_setTile_same ..
  have dst1 : ((r.s.setTile t (r.s.tile t)).setTile t { r.s.tile t with inject := [] }).tile p.dst.toNat = s.tile p.dst.toNat := by
    rw [State.tile_setTile_ne _ _ away, State.tile_setTile_ne _ _ away, others _ away]
  rw [Rc.injectRest_noConfirms (y := r.s.tile t) (s.allLanes t) (by rw [alone, State.tile_setTile_same]) conf1, alone, waits]
  generalize (r.s.setTile t (r.s.tile t)).setTile t { r.s.tile t with inject := [] } = z at plane1 mine1 dst1
  obtain ⟨c, r1, counted, goes, sent⟩ := Rc.direct_sends (r := { r with s := z }) (lost := []) open_ plane1 lanes free
  have marked : r1.s.markSent t p = r1.s := by
    rw [State.markSent, reply]
    rfl
  have injects : ({ r with s := z } : Rc).inject t ⟨p, 0, true⟩ [] = (true, { r1 with s := r1.s.rcount t 1 1 }) := by
    rw [Rc.inject]
    dsimp only
    rw [if_pos (by rw [reply]; decide), if_neg away, goes]
    dsimp only
    rw [marked]
  rw [Rc.injectList, Rc.injectAll, injects]
  dsimp only [Rc.injectAll, List.nil_append]
  rw [if_neg (by simp)] at sent
  have counted1 := Counted.rcount r1.s t 1 1
  generalize r1.s.rcount t 1 1 = w at counted1
  have idles := Idles.idleLanes (w.setTile t { w.tile t with inject := (w.tile t).inject }) t (s.allLanes t) r1.free
  have wt : (w.tile t).inject = [] := by
    rw [counted1.tile, sent, State.arrive, State.tile_setTile_ne _ _ (Ne.symm away), counted.tile, mine1]
  refine ⟨?_, ?_⟩
  · rw [idles.tile, State.tile_setTile_ne _ _ away, counted1.tile, sent, State.arrive, State.tile_setTile_same, counted.tile, dst1]
  · rw [idles.tile, State.tile_setTile_same]
    exact wt

end

/-! ### A request that no other joins -/

section
variable {s : State} {t k : Nat} {p : Pkt}

/-- What combining asks of a request. -/
theorem combinable_fields (h : combinable p = true) : p.kind = 0 ∧ p.comb = false ∧ p.af = false ∧ p.src.toNat < 12288 := by
  simp only [combinable, Bool.and_eq_true, beq_iff_eq, Bool.not_eq_true', decide_eq_true_eq] at h
  obtain ⟨⟨⟨⟨⟨kind, comb⟩, af⟩, -⟩, src⟩, -⟩ := h
  exact ⟨kind, comb, af, src⟩

theorem State.release_alone (inj : (s.tile t).inject = [⟨p, k, false⟩]) : s.release t p =
    s.setTile t { s.tile t with inject := [⟨p, k, true⟩] } := by
  have waiting : ∃ l : List Pkt, (((s.tile t).inject.filter fun e =>
      !e.comb && combinable e.pkt && combinesWith p e.pkt && !s.crossing e.pkt).map (·.pkt)).filter (fun q => q != p) = l ∧ l = [] := by
    refine ⟨_, rfl, List.filter_eq_nil_iff.2 fun q hq => ?_⟩
    obtain ⟨e, he, rfl⟩ := List.mem_map.1 hq
    have := (List.mem_filter.1 he).1
    rw [inj, List.mem_singleton] at this
    rw [this]
    simp
  obtain ⟨l, is, none_⟩ := waiting
  unfold State.release
  dsimp only
  rw [is, none_]
  rw [if_pos (show (List.foldr pktInsert [] (combTake p [] [p])).length < 2 from Nat.lt_succ_self 1), inj]
  simp

/-- A request with a lane and a place in its window leaves. -/
theorem Rc.inject_sends {r : Rc} (plane : Plane s r.s) (lanes : r.lanes = s.allLanes t) (free : r.free = (s.allLanes t).map (·.length))
    (open_ : LaneOpen s t p) (comb : combinable p = true) (clear : s.crossing p = false)
    (window : ∀ w ∈ (r.s.tile t).windows, w.dst ≠ p.dst) : ∃ r1, r.inject t ⟨p, k, true⟩ [] = (true, r1) ∧ r1.s.mem = r.s.mem ∧
      (r1.s.tile p.dst.toNat).rx = (r.s.tile p.dst.toNat).rx ++ [p] ∧
      (r1.s.tile t).inject = (r.s.tile t).inject ∧ (r1.s.tile t).windows = (r.s.tile t).windows ++ [⟨p.dst, p.src, p.seq, !p.isBo⟩] := by
  obtain ⟨kind, plain, af, core⟩ := combinable_fields comb
  have away := open_.away
  have held : ((r.s.tile t).windows.any fun w => w.dst == p.dst && w.src == p.src && w.seq == p.seq) = false :=
    List.any_eq_false.2 fun w hw => by simp [window w hw]
  have used : ((r.s.tile t).windows.filter fun w => w.dst == p.dst) = [] :=
    List.filter_eq_nil_iff.2 fun w hw => by simpa using window w hw
  have free_ : r.s.afHeld t p = false := by rw [State.afHeld, af]; rfl
  obtain ⟨c, r1, counted, goes, sent⟩ := Rc.direct_sends (lost := []) open_ plane lanes free
  rw [if_neg (by simp)] at sent
  have marked : ∃ y, (r1.s.markSent t p).rcount t 1 1 = y ∧ y.tiles = r1.s.tiles ∧ y.mem = r1.s.mem := by
    have core_ : ∃ v, r1.s.markSent t p = r1.s.setCore p.src.toNat v := by
      unfold State.markSent
      rw [if_neg (by rw [kind]; decide), if_neg (by rw [kind]; decide), if_neg (by rw [plain]; decide), if_pos core]
      exact ⟨_, rfl⟩
    obtain ⟨v, is⟩ := core_
    have count := Counted.rcount (r1.s.markSent t p) t 1 1
    refine ⟨_, rfl, count.tiles.trans (by rw [is]; rfl), ?_⟩
    rw [count.plane.frame, is]
    rfl
  obtain ⟨y, isy, tiles, mem⟩ := marked
  have tile (j : Nat) : y.tile j = r1.s.tile j := by rw [State.tile, tiles]; rfl
  have memc : r1.s.mem = r.s.mem := by
    rw [sent, counted.plane.frame]
    rfl
  have does : ∃ x, r.inject t ⟨p, k, true⟩ [] = (true, { r1 with s := (y.setTile t { y.tile t with
      windows := (y.tile t).windows ++ [⟨p.dst, p.src, p.seq, !p.isBo⟩] }).setAcc t x }) := by
    refine ⟨{ y.acc t with winHigh := sset 0 (y.acc t).winHigh p.dst.toNat (max (sget 0 (y.acc t).winHigh p.dst.toNat) (0 + 1)) }, ?_⟩
    rw [Rc.inject]
    dsimp only
    rw [if_neg (by rw [kind]; exact fun c => c rfl), if_neg (by rw [plane.crossing, clear, free_]; decide), held, used,
      if_neg (by decide), if_neg away, goes]
    dsimp only
    rw [isy]
    rfl
  obtain ⟨x, is⟩ := does
  refine ⟨_, is, mem.trans memc, ?_, ?_, ?_⟩
  · rw [State.tile_setAcc, State.tile_setTile_ne _ _ away, tile, sent, State.arrive, State.tile_setTile_same, counted.tile]
  · rw [State.tile_setAcc, State.tile_setTile_same, tile, sent, State.arrive, State.tile_setTile_ne _ _ (Ne.symm away), counted.tile]
  · rw [State.tile_setAcc, State.tile_setTile_same, tile, sent, State.arrive, State.tile_setTile_ne _ _ (Ne.symm away), counted.tile]

theorem combHoldExpiry_injects (ht : t < 16) (in_ : s.tileOut t = false) (open_ : LaneOpen s t p) (clear : s.crossing p = false)
    (inj : (s.tile t).inject = [⟨p, k, false⟩]) (comb : combinable p = true) (window : ∀ w ∈ (s.tile t).windows, w.dst ≠ p.dst)
    (en : s.gf (Reg.PKT_CFG t) Fld.PKT_CFG_comb_en ≠ 0) :
    ∃ u, exec (.combHoldExpiry t) s = .next u ∧ (u.tile p.dst.toNat).rx = (s.tile p.dst.toNat).rx ++ [p] ∧ (u.tile t).inject = [] ∧
      (u.tile t).windows = (s.tile t).windows ++ [⟨p.dst, p.src, p.seq, !p.isBo⟩] ∧ u.mem = s.mem := by
  have away := open_.away
  generalize alone : ({ s.tile t with inject := [⟨p, k, true⟩] } : PlaneTile) = x
  have inject1 : x.inject = [⟨p, k, true⟩] := by rw [← alone]
  have lanes : (s.setTile t x).allLanes t = s.allLanes t := by
    have idle : ((s.setTile t x).tile t).idle = (s.tile t).idle := by rw [State.tile_setTile_same, ← alone]
    unfold State.allLanes State.lanesFree
    rw [idle]
    rfl
  generalize bare : ({ x with inject := [] } : PlaneTile) = y
  have fields : y.inject = [] ∧ y.windows = (s.tile t).windows := by rw [← bare, ← alone]; exact ⟨rfl, rfl⟩
  obtain ⟨noInject, sameWindows⟩ := fields
  have plane : Plane s ((s.setTile t x).setTile t y) := (Plane.setTile ..).trans (.setTile ..)
  have mine : ((s.setTile t x).setTile t y).tile t = y := State.tile_setTile_same ..
  have dst : ((s.setTile t x).setTile t y).tile p.dst.toNat = s.tile p.dst.toNat := by
    rw [State.tile_setTile_ne _ _ away, State.tile_setTile_ne _ _ away]
  obtain ⟨r1, injects, mem, rx, inject2, windows⟩ := Rc.inject_sends (k := k) (r := ((s.setTile t x).setTile t y).lanesRc (s.allLanes t))
    plane rfl rfl open_ comb clear (by rw [show (((s.setTile t x).setTile t y).lanesRc (s.allLanes t)).s = (s.setTile t x).setTile t y from rfl, mine, sameWindows]; exact window)
  have does : exec (.combHoldExpiry t) s = .next (r1.finish t) := by
    have find : (s.tile t).inject.find? (fun e => !e.comb && combinable e.pkt && !s.crossing e.pkt) = some ⟨p, k, false⟩ := by
      rw [inj]
      simp [comb, clear]
    have ready : ([⟨p, k, true⟩] : List InjEnt).find? (fun y => y.comb && !([⟨p, k, false⟩] : List InjEnt).contains y) = some ⟨p, k, true⟩ := by
      simp
    have erased : ([⟨p, k, true⟩] : List InjEnt).erase ⟨p, k, true⟩ = [] := by simp
    show execCombHoldExpiry t s = _
    rw [execCombHoldExpiry, if_neg (by omega), if_neg (by rw [in_]; exact Bool.false_ne_true), find]
    dsimp only
    rw [if_neg en, State.release_alone inj, show _ = x from alone, lanes, State.tile_setTile_same, inject1, inj, ready]
    dsimp only
    rw [erased, show _ = y from bare, injects]
  have idles := Idles.carried r1.s t r1.lanes r1.free
  refine ⟨_, does, ?_, ?_, ?_, ?_⟩
  · rw [Rc.finish, idles.tile, ← dst]
    exact rx
  · rw [Rc.finish, idles.tile]
    exact inject2.trans ((congrArg PlaneTile.inject mine).trans noInject)
  · rw [Rc.finish, idles.tile, ← sameWindows, ← mine]
    exact windows
  · rw [Rc.finish, idles.frame]
    exact mem

end

/-! ### The fence of a lane -/

section
variable {s : State} {t q l : Nat}

theorem State.laneByte_lt (s : State) (t q l : Nat) : s.laneByte t q l < 256 := natBits_lt ..

theorem State.laneByte_setLaneByte_same (s : State) (t q l : Nat) {v : Nat} (hv : v < 256) : (s.setLaneByte t q l v).laneByte t q l = v := by
  unfold State.laneByte State.setLaneByte
  dsimp only
  rw [State.reg_setReg_same, BitVec.toNat_ofNat, natBits_mod _ _ _ _ (by omega), natBits_natPut_same]
  exact Nat.mod_eq_of_lt hv

theorem State.laneByte_setLaneByte_ne (s : State) (t q : Nat) {l k : Nat} (v : Nat) (h : k ≠ l) :
    (s.setLaneByte t q l v).laneByte t q k = s.laneByte t q k := by
  unfold State.laneByte State.setLaneByte
  dsimp only
  by_cases same : k / 4 = l / 4
  · rw [same, State.reg_setReg_same, BitVec.toNat_ofNat, natBits_mod _ _ _ _ (by omega), natBits_natPut_ne _ _ _ _ _ _ (by omega)]
  · rw [State.reg_setReg_ne _ _ (by unfold Reg.PKT_LANE_MAP; omega)]

/-- The move of a lane by one channel. -/
def State.laneMoves (x : State) (t q l : Nat) : State := x.setLaneByte t q l (natPut (x.laneByte t q l) 0 6 (x.laneByte t q l % 64 + 1))

theorem State.laneByte_laneMoves (x : State) (t q l : Nat) : (x.laneMoves t q l).laneByte t q l % 64 = (x.laneByte t q l % 64 + 1) % 64 := by
  have small : natPut (x.laneByte t q l) 0 6 (x.laneByte t q l % 64 + 1) < 2 ^ 8 := natPut_lt (x.laneByte_lt t q l) (by decide)
  have low := natBits_natPut_same (x.laneByte t q l) 0 6 (x.laneByte t q l % 64 + 1)
  rw [State.laneMoves, State.laneByte_setLaneByte_same _ _ _ _ small]
  rw [natBits, Nat.pow_zero, Nat.div_one] at low
  exact low

/-- The lanes of a group from a position on move up. -/
theorem lanesMove (y : State) (t q g i k : Nat) :
    (((upto 10).filter (i ≤ ·)).foldl (fun x j => x.laneMoves t q (10 * g + j)) y).laneByte t q k % 64 =
      if k / 10 = g ∧ 10 * g + i ≤ k then (y.laneByte t q k % 64 + 1) % 64 else y.laneByte t q k % 64 := by
  have apart (x : State) (j : Nat) (h : k ≠ 10 * g + j) : (x.laneMoves t q (10 * g + j)).laneByte t q k = x.laneByte t q k :=
    State.laneByte_setLaneByte_ne _ _ _ _ h
  by_cases moves : k / 10 = g ∧ 10 * g + i ≤ k
  · have at_ : 10 * g + k % 10 = k := by omega
    rw [if_pos moves]
    refine foldl_turn (P := fun x : State => x.laneByte t q k = y.laneByte t q k)
      (Q := fun x : State => x.laneByte t q k % 64 = (y.laneByte t q k % 64 + 1) % 64) (q := k % 10) (List.Nodup.filter _ List.nodup_range)
      (List.mem_filter.2 ⟨List.mem_range.2 (Nat.mod_lt _ (by decide)), by simp; omega⟩) (fun x before => ?_)
      (fun x j _ ne before => ?_) (fun x j _ ne after => ?_) rfl
    · rw [at_, State.laneByte_laneMoves, before]
    · rw [apart x j (by omega), before]
    · rw [apart x j (by omega), after]
  · rw [if_neg moves]
    refine congrArg (· % 64) (List.foldlRecOn (motive := fun x : State => x.laneByte t q k = y.laneByte t q k) _ _ rfl fun x kept j hj => ?_)
    obtain ⟨range, above⟩ := List.mem_filter.1 hj
    have := List.mem_range.1 range
    have := of_decide_eq_true above
    rw [apart x j (by omega), kept]

theorem State.remapLanes_spec (y : State) (t : Nat) (q : Nat) {g : Nat} (i : Nat) (hg : g < 3) :
    natBit ((y.remapLanes t q g i).gf (Reg.PKT_LANE_GROUP t q) Fld.PKT_LANE_GROUP_spare_used) g = true ∧
      (y.remapLanes t q g i).gf (Reg.PKT_LANE_FENCED t q) Fld.PKT_LANE_FENCED_ch = y.gf (Reg.PKT_LANE_FENCED t q) Fld.PKT_LANE_FENCED_ch ∧
      ∀ k < 30, (y.remapLanes t q g i).laneByte t q k % 64 =
        if k / 10 = g ∧ 10 * g + i ≤ k then (y.laneByte t q k % 64 + 1) % 64 else y.laneByte t q k % 64 := by
  have moved := lanesMove y t q g i
  have fenced : (((upto 10).filter (i ≤ ·)).foldl (fun x j => x.laneMoves t q (10 * g + j)) y).reg (Reg.PKT_LANE_FENCED t q) =
      y.reg (Reg.PKT_LANE_FENCED t q) := foldl_reg_ne fun x j hj => by
    have := List.mem_range.1 (List.mem_filter.1 hj).1
    exact State.reg_setReg_ne _ _ (by unfold Reg.PKT_LANE_FENCED Reg.PKT_LANE_MAP; omega)
  have does : y.remapLanes t q g i = (let s1 := ((upto 10).filter (i ≤ ·)).foldl (fun x j => x.laneMoves t q (10 * g + j)) y
      let a := Reg.PKT_LANE_GROUP t q
      let s2 := s1.sf a Fld.PKT_LANE_GROUP_spare_used (natPut (s1.gf a Fld.PKT_LANE_GROUP_spare_used) g 1 1)
      s2.sf a Fld.PKT_LANE_GROUP_remap_pending (natPut (s2.gf a Fld.PKT_LANE_GROUP_remap_pending) g 1 0)) := rfl
  rw [does]
  generalize ((upto 10).filter (i ≤ ·)).foldl (fun x j => x.laneMoves t q (10 * g + j)) y = s1 at moved fenced
  dsimp only
  have set : (s1.sf (Reg.PKT_LANE_GROUP t q) Fld.PKT_LANE_GROUP_spare_used
      (natPut (s1.gf (Reg.PKT_LANE_GROUP t q) Fld.PKT_LANE_GROUP_spare_used) g 1 1)).gf (Reg.PKT_LANE_GROUP t q) Fld.PKT_LANE_GROUP_spare_used =
      natPut (s1.gf (Reg.PKT_LANE_GROUP t q) Fld.PKT_LANE_GROUP_spare_used) g 1 1 :=
    State.gf_sf_val (by decide) (natPut_lt (s1.gf_lt _ _) (show g + 1 ≤ 3 by omega))
  have far (b : Nat) (h : b ≠ Reg.PKT_LANE_GROUP t q) : (s1.sf (Reg.PKT_LANE_GROUP t q) Fld.PKT_LANE_GROUP_spare_used
      (natPut (s1.gf (Reg.PKT_LANE_GROUP t q) Fld.PKT_LANE_GROUP_spare_used) g 1 1)).reg b = s1.reg b := State.reg_sf_ne _ _ _ h
  generalize s1.sf (Reg.PKT_LANE_GROUP t q) Fld.PKT_LANE_GROUP_spare_used
      (natPut (s1.gf (Reg.PKT_LANE_GROUP t q) Fld.PKT_LANE_GROUP_spare_used) g 1 1) = s2 at set far
  refine ⟨?_, ?_, fun k hk => ?_⟩
  · rw [State.gf_sf_apart (.inl (by decide)) (by decide), set]
    exact natBit_natPut_same _ g true
  · have off : Reg.PKT_LANE_FENCED t q ≠ Reg.PKT_LANE_GROUP t q := by unfold Reg.PKT_LANE_FENCED Reg.PKT_LANE_GROUP; omega
    rw [State.gf_sf_ne _ _ _ _ off, State.gf_of_reg (far _ off), State.gf_of_reg fenced]
  · have off : Reg.PKT_LANE_MAP t q (k / 4) ≠ Reg.PKT_LANE_GROUP t q := by unfold Reg.PKT_LANE_MAP Reg.PKT_LANE_GROUP; omega
    rw [← moved k]
    unfold State.laneByte
    rw [State.reg_sf_ne _ _ _ off, far _ off]

/-- What a fence notes leaves the lanes and the runs as they are. -/
theorem Notes.tileStand {u : State} (h : Notes s u) (t : Nat) : u.tileStand t = s.tileStand t := by
  have state (i : Nat) : u.stdState i = s.stdState i := h.gf (fun n => by
    rcases n with (⟨lo, hi⟩ | n | n) | n | n
    · unfold Reg.STD_STATUS at hi
      omega
    all_goals
      simp only [Reg.STD_STATUS, Reg.HIF_MOD_INT, Reg.THM_NV_WINDOW, Reg.NVS_REFUSE] at n
      omega) _
  have plan : u.tilesOf = s.tilesOf ∧ u.stacksOf = s.stacksOf := by rw [h.frame]; exact ⟨rfl, rfl⟩
  unfold State.tileStand
  simp only [state, plan.1, plan.2]

/-- A write of another register keeps a tile's running stand. -/
theorem State.tileStand_sf {a : Nat} (f : Fld) (v t : Nat) (apart : ∀ i, Reg.STD_STATUS i ≠ a) : (s.sf a f v).tileStand t = s.tileStand t := by
  have state (i : Nat) : (s.sf a f v).stdState i = s.stdState i := by
    unfold State.stdState
    rw [State.gf_sf_ne _ _ _ _ (apart i)]
  unfold State.tileStand
  simp only [state, State.tilesOf, State.stacksOf, State.sf_planForce]

theorem laneFence_moves (ht : t < 16) (hq : q < 2) (hl : l < 30) :
    let ch := s.laneByte t q l % 64
    ch < 33 → natBit (s.gf (Reg.PKT_LANE_FENCED t q) Fld.PKT_LANE_FENCED_ch) ch = false → natBit (s.laneByte t q l) 6 = false →
    natBit (s.gf (Reg.PKT_LANE_GROUP t q) Fld.PKT_LANE_GROUP_spare_used) (l / 10) = false →
    natBit (s.gf (Reg.PKT_LANE_GROUP t q) Fld.PKT_LANE_GROUP_remap_pending) (l / 10) = false → s.tileStand t = none →
    ∃ u, exec (.laneFence t q l) s = .next u ∧
      natBit (u.gf (Reg.PKT_LANE_FENCED t q) Fld.PKT_LANE_FENCED_ch) ch = true ∧
      natBit (u.gf (Reg.PKT_LANE_GROUP t q) Fld.PKT_LANE_GROUP_spare_used) (l / 10) = true ∧
      ∀ k < 30, u.laneByte t q k % 64 =
        if k / 10 = l / 10 ∧ l ≤ k then (s.laneByte t q k % 64 + 1) % 64 else s.laneByte t q k % 64 := by
  intro ch small unfenced serves unused none_ idle
  have marked : natBit ((s.sf (Reg.PKT_LANE_FENCED t q) Fld.PKT_LANE_FENCED_ch
      (natPut (s.gf (Reg.PKT_LANE_FENCED t q) Fld.PKT_LANE_FENCED_ch) ch 1 1)).gf (Reg.PKT_LANE_FENCED t q) Fld.PKT_LANE_FENCED_ch) ch = true := by
    rw [State.gf_sf_val (by decide) (natPut_lt (s.gf_lt _ _) (show ch + 1 ≤ 33 by omega))]
    exact natBit_natPut_same _ ch true
  have group (f : Fld) : (s.sf (Reg.PKT_LANE_FENCED t q) Fld.PKT_LANE_FENCED_ch
      (natPut (s.gf (Reg.PKT_LANE_FENCED t q) Fld.PKT_LANE_FENCED_ch) ch 1 1)).gf (Reg.PKT_LANE_GROUP t q) f =
      s.gf (Reg.PKT_LANE_GROUP t q) f := State.gf_sf_ne _ _ _ _ (by unfold Reg.PKT_LANE_FENCED Reg.PKT_LANE_GROUP; omega)
  have bytes (k : Nat) (hk : k < 30) : (s.sf (Reg.PKT_LANE_FENCED t q) Fld.PKT_LANE_FENCED_ch
      (natPut (s.gf (Reg.PKT_LANE_FENCED t q) Fld.PKT_LANE_FENCED_ch) ch 1 1)).laneByte t q k = s.laneByte t q k := by
    unfold State.laneByte
    rw [State.reg_sf_ne _ _ _ (by unfold Reg.PKT_LANE_FENCED Reg.PKT_LANE_MAP; omega)]
  have stand : (s.sf (Reg.PKT_LANE_FENCED t q) Fld.PKT_LANE_FENCED_ch
      (natPut (s.gf (Reg.PKT_LANE_FENCED t q) Fld.PKT_LANE_FENCED_ch) ch 1 1)).tileStand t = none :=
    (State.tileStand_sf _ _ t fun i => by unfold Reg.STD_STATUS Reg.PKT_LANE_FENCED; omega).trans idle
  have does : ∃ e, exec (.laneFence t q l) s = .next (let s1 := ((s.sf (Reg.PKT_LANE_FENCED t q) Fld.PKT_LANE_FENCED_ch
      (natPut (s.gf (Reg.PKT_LANE_FENCED t q) Fld.PKT_LANE_FENCED_ch) ch 1 1)).contained e).dead 7 t 0xFF q l 0
      let a := Reg.PKT_LANE_GROUP t q
      let used := false || natBit (s1.gf a Fld.PKT_LANE_GROUP_spare_used) (l / 10) || natBit (s1.gf a Fld.PKT_LANE_GROUP_remap_pending) (l / 10)
      let s2 := if used then s1.retireLane t q l else s1.remapAsk t q (l / 10) (l % 10)
      let u := if l / 2 < t then l / 2 else l / 2 + 1
      if s.pairHas u t > 0 ∧ s2.pairHas u t = 0 then
        s2.contained { ErrInfo.plain 5 0x0A with tile := some t, detail := some (16 * u + t) }
      else s2) := by
    refine ⟨{ ErrInfo.plain 5 0x0C with tile := some t, addr := some (l + ch * 2 ^ 8 + q * 2 ^ 16) }, ?_⟩
    show execLaneFence t q l s = _
    rw [execLaneFence, if_neg (by omega), State.fenceLane, State.fenceLaneAs]
    dsimp only
    rw [if_neg (by rw [show s.laneByte t q l % 64 = ch from rfl, unfenced, serves]; decide), if_neg Bool.false_ne_true]
    rfl
  obtain ⟨e, does⟩ := does
  generalize s.sf (Reg.PKT_LANE_FENCED t q) Fld.PKT_LANE_FENCED_ch (natPut (s.gf (Reg.PKT_LANE_FENCED t q) Fld.PKT_LANE_FENCED_ch) ch 1 1) = s0
    at marked group bytes stand does
  have noted : Notes s0 ((s0.contained e).dead 7 t 0xFF q l 0) := (((Reports.contained s0 e).mono fun _ => .log).notes).trans (.dead ..)
  generalize (s0.contained e).dead 7 t 0xFF q l 0 = s1 at noted does
  have tileReg (a : Nat) (h : 0x1_0000_0000 ≤ a) : ¬NvReg a := fun n => absurd n.low (by omega)
  have groupHigh : 0x1_0000_0000 ≤ Reg.PKT_LANE_GROUP t q := by unfold Reg.PKT_LANE_GROUP; omega
  have fencedHigh : 0x1_0000_0000 ≤ Reg.PKT_LANE_FENCED t q := by unfold Reg.PKT_LANE_FENCED; omega
  have mapHigh (k : Nat) : 0x1_0000_0000 ≤ Reg.PKT_LANE_MAP t q (k / 4) := by unfold Reg.PKT_LANE_MAP; omega
  have moves : s1.remapAsk t q (l / 10) (l % 10) = s1.remapLanes t q (l / 10) (l % 10) := by
    rw [State.remapAsk, noted.tileStand, stand]
  have keeps : (if (false || false || false) = true then s1.retireLane t q l else s1.remapAsk t q (l / 10) (l % 10)) =
      s1.remapLanes t q (l / 10) (l % 10) := (if_neg Bool.false_ne_true).trans moves
  dsimp only at does
  rw [noted.gf (tileReg _ groupHigh), noted.gf (tileReg _ groupHigh), group, group, unused, none_, keeps] at does
  obtain ⟨spare, fenced, lanes⟩ := s1.remapLanes_spec t q (g := l / 10) (l % 10) (by omega)
  generalize s1.remapLanes t q (l / 10) (l % 10) = s2 at does spare fenced lanes
  have last : ∃ u, exec (.laneFence t q l) s = .next u ∧ Notes s2 u := by
    generalize (if l / 2 < t then l / 2 else l / 2 + 1) = v at does
    refine ⟨_, does, ?_⟩
    split
    · exact ((Reports.contained s2 _).mono fun _ => .log).notes
    · exact (Reports.refl NvReg s2).notes
  obtain ⟨u, does, same⟩ := last
  refine ⟨u, does, ?_, ?_, fun k hk => ?_⟩
  · rw [same.gf (tileReg _ fencedHigh), fenced, noted.gf (tileReg _ fencedHigh)]
    exact marked
  · rw [same.gf (tileReg _ groupHigh)]
    exact spare
  · have byte : u.laneByte t q k = s2.laneByte t q k := by
      unfold State.laneByte
      rw [same.regs _ (tileReg _ (mapHigh k))]
    have byte1 : s1.laneByte t q k = s.laneByte t q k := by
      rw [← bytes k hk]
      unfold State.laneByte
      rw [noted.regs _ (tileReg _ (mapHigh k))]
    rw [byte, lanes k hk, byte1, show 10 * (l / 10) + l % 10 = l by omega]

end

/-- Settles O33: a cycle in its parts, with the one cell followed to its lane; a fence by the bytes of the lanes' map. -/
theorem routerAndLanes : Obligations.RouterAndLanes := by
  unfold Obligations.RouterAndLanes
  refine ⟨?_, fun s t q l ht hq hl => laneFence_moves ht hq hl⟩
  intro s t p ht away in_ lanes free lit clear d x
  have open_ : LaneOpen s t p := ⟨away, lanes, free, lit⟩
  have runs (lost : List Nat) : exec (.routerCycle t lost) s = .next (s.routerCycle t lost) := by
    show execRouterCycle t lost s = _
    rw [execRouterCycle, if_neg (by omega), if_neg (by rw [in_]; exact Bool.false_ne_true)]
  refine ⟨fun rx inj pool conf => ⟨?_, ?_⟩, fun rx inj pool conf reply => ?_, fun k inj comb window en => ?_⟩
  · obtain ⟨dst, mine, cores, mem⟩ := routerCycle_carries (lost := []) open_ rx inj pool conf
    exact ⟨_, runs [], dst, mine, cores, mem⟩
  · obtain ⟨dst, mine, -⟩ := routerCycle_carries (lost := [0]) open_ rx inj pool conf
    exact ⟨_, runs [0], dst, mine⟩
  · exact ⟨_, runs [], routerCycle_injects open_ rx inj pool conf reply⟩
  · exact combHoldExpiry_injects ht in_ open_ clear inj comb window en

end Sys2Proof.Machine

/-! PROOF. Replies, acknowledgements, confirms and retransmission (R90, R91, R211, R334). -/

namespace Sys2Proof.Machine

section
variable {s u : State} {t g : Nat} {p : Pkt}

/-! ### What has arrived -/

/-- The packet that is taken is the first of its kind for the tile that is not held. -/
theorem State.takeRx_first {pre post : List Pkt} (rx : (s.tile t).rx = pre ++ p :: post) (here : p.dst.toNat = t)
    (others : ∀ y ∈ pre, y.kind = p.kind → y.dst.toNat ≠ t) (goes : s.replyHeld p = false) :
    s.takeRx t p.kind = some (p, s.setTile t { s.tile t with rx := pre ++ post }) := by
  have passed : ∀ y ∈ pre, (y.kind == p.kind && decide (y.dst.toNat = t) && !s.replyHeld y) = false := fun y hy => by
    by_cases kind : y.kind = p.kind
    · simp [others y hy kind]
    · simp [kind]
  have found : (s.tile t).rx.find? (fun y => y.kind == p.kind && decide (y.dst.toNat = t) && !s.replyHeld y) = some p := by
    rw [rx, List.find?_append, List.find?_eq_none.2 fun y hy => by rw [passed y hy]; exact Bool.false_ne_true]
    simp [here, goes]
  have fresh : p ∉ pre := fun hp => others p hp rfl here
  rw [State.takeRx]
  dsimp only
  rw [found]
  dsimp only
  rw [rx, List.erase_append_right _ fresh, List.erase_cons_head]

theorem State.tile_taken (s : State) (t e n : Nat) (x : PlaneTile) : ((s.setTile t x).rcount t e n).tile t = x := by
  unfold State.rcount
  split <;> exact State.tile_setTile_same ..

/-! ### Crossing into the row -/

/-- Only regions differ, and what they count. -/
theorem State.enterRow_keeps (s : State) (g : Nat) (own : Bool) :
    (s.enterRow g own).mem = s.mem ∧ (∀ k, (s.enterRow g own).core k = s.core k) ∧ ∀ k, (s.enterRow g own).tile k = s.tile k := by
  unfold State.enterRow
  dsimp only
  split
  · exact ⟨rfl, fun _ => rfl, fun _ => rfl⟩
  · generalize (s.region (rowRegion g)).receive _ = r
    split <;> exact ⟨rfl, fun _ => rfl, fun _ => rfl⟩

/-! ### The requester -/

/-- The core after an operation of it has ended with status ok. -/
def CoreSt.completed (c : CoreSt) (n : NiOp) (value : Nat) : CoreSt :=
  let c1 := match n.dest with
    | some d => c.put d (BitVec.ofNat 65536 (value % 2 ^ (8 * wBytes n.pkt.width)))
    | none => c
  let isMine := fun (e : SbEnt) => match e.wait with
    | .remote tl q => tl == n.pkt.dst && q == n.pkt.seq
    | _ => false
  { c1 with ni := c.ni.erase n, sb := c1.sb.filter fun e => !isMine e, active := c1.active || c1.sb.any isMine }

theorem State.niComplete_ok (n : NiOp) (value : Nat) (runs : (s.core g).fenced = false) :
    s.niComplete g n 0 value = s.setCore g ((s.core g).completed n value) := by
  rw [State.niComplete]
  dsimp only
  rw [if_neg (by rw [runs]; exact Bool.false_ne_true), if_pos rfl, if_pos rfl]
  rfl

theorem CoreSt.completed_ni (c : CoreSt) (n : NiOp) (value : Nat) : (c.completed n value).ni = c.ni.erase n := rfl

theorem CoreSt.completed_sb (c : CoreSt) (n : NiOp) (value : Nat) : ∀ e ∈ (c.completed n value).sb, e.wait ≠ .remote n.pkt.dst n.pkt.seq := by
  intro e he waits
  have := (List.mem_filter.1 he).2
  simp [waits] at this

theorem CoreSt.completed_get (c : CoreSt) {n : NiOp} {d : Dest} (value : Nat) (dest : n.dest = some d) :
    (c.completed n value).get d = d.after (BitVec.ofNat 65536 (value % 2 ^ (8 * wBytes n.pkt.width))) := by
  have := CoreSt.get_put c d d (BitVec.ofNat 65536 (value % 2 ^ (8 * wBytes n.pkt.width)))
  rw [if_pos rfl] at this
  rw [← this]
  refine CoreSt.get_congr ?_ ?_ ?_ ?_ d <;> simp only [CoreSt.completed, dest]

theorem CoreSt.completed_none (c : CoreSt) {n : NiOp} (value : Nat) (dest : n.dest = none) :
    (c.completed n value).s = c.s ∧ (c.completed n value).v = c.v := by
  simp only [CoreSt.completed, dest, and_self]

/-! ### Confirms -/

/-- The confirm names the reply, in a confirm toward the reply's tile. -/
theorem State.confirm_names (s : State) (t : Nat) (dst : BitVec 4) (src : BitVec 14) (seq : BitVec 16) :
    ∃ q ∈ ((s.confirm t dst src seq).tile t).confirms, q.dst = dst ∧ (src, seq) ∈ q.names := by
  rw [State.confirm]
  dsimp only
  split
  next c found =>
    have is := List.find?_some found
    have has := List.mem_of_find?_eq_some found
    simp only [Bool.and_eq_true, beq_iff_eq] at is
    obtain ⟨⟨toward, -⟩, -⟩ := is
    rw [State.tile_setTile_same]
    refine ⟨{ c with names := c.names ++ [(src, seq)] }, List.mem_map.2 ⟨c, has, ?_⟩, toward, by simp⟩
    rw [if_pos (by rw [toward]; simp)]
  next =>
    rw [State.tile_setTile_same]
    exact ⟨⟨dst, sget 0 (s.tile t).confSeq dst.toNat, (s.tile t).epoch, s.gtc, false, [(src, seq)]⟩, by simp, rfl, by simp⟩

theorem State.confirm_keeps (s : State) (t : Nat) (dst : BitVec 4) (src : BitVec 14) (seq : BitVec 16) :
    (s.confirm t dst src seq).mem = s.mem ∧ ∀ k, (s.confirm t dst src seq).core k = s.core k := by
  rw [State.confirm]
  dsimp only
  split <;> exact ⟨rfl, fun _ => rfl⟩

/-! ### A reply at its core -/

/-- The state once a core's operation has ended with status ok. -/
def State.operationEnds (s : State) (g : Nat) (n : NiOp) (value : Nat) : State :=
  (s.enterRow g true).setCore g ((s.core g).completed n value)

/-- The reply is one to an operation in flight of a core that is not fenced, of a built-in site that is there. -/
structure Answers (s : State) (p : Pkt) (n : NiOp) : Prop where
  core : p.src.toNat < 12288
  there : s.siteAbsent (towerOf p.src.toNat) = false
  built : s.openSite (towerOf p.src.toNat) = false
  runs : (s.core p.src.toNat).fenced = false
  asked : (s.core p.src.toNat).niFind p.srcTile p.seq p.epoch = some n
  source : n.pkt.src = p.src
  ok : p.count.toNat % 16 = 0

theorem Answers.ends {n : NiOp} (h : Answers s p n) (hasData : Bool) (value : Nat) (whole : (returnsData n.pkt.op && !hasData) = false) :
    s.niReply n.pkt hasData 0 value = s.operationEnds p.src.toNat n value := by
  have is := List.find?_some h.asked
  simp only [Bool.and_eq_true, beq_iff_eq] at is
  obtain ⟨⟨dst, seq⟩, epoch⟩ := is
  have entered := State.enterRow_keeps s p.src.toNat true
  rw [State.niReply, h.source]
  dsimp only
  rw [if_neg (by rw [h.there]; exact Bool.false_ne_true), if_neg (by rw [h.built]; exact Bool.false_ne_true), dst, seq, epoch, h.asked]
  dsimp only
  rw [if_neg (by rw [whole]; exact Bool.false_ne_true), State.niComplete_ok _ _ (by rw [entered.2.1]; exact h.runs), entered.2.1]
  rfl

theorem Answers.takeReply_data {n : NiOp} (h : Answers s p n) (data : p.count.getLsbD 4 = true) :
    s.takeReply t p = (s.operationEnds p.src.toNat n p.payload.toNat).confirm t p.srcTile p.src p.seq := by
  have bit : natBit p.count.toNat 4 = true := (natBit_eq_testBit ..).trans data
  rw [State.takeReply]
  dsimp only
  rw [if_pos h.core, if_neg (by rw [h.there]; exact Bool.false_ne_true), if_neg (by rw [h.built]; exact Bool.false_ne_true), h.asked, h.ok, bit]
  dsimp only
  rw [h.ends true _ (by simp)]
  simp

theorem Answers.takeReply_ack {n : NiOp} (h : Answers s p n) (data : p.count.getLsbD 4 = false) (op : returnsData n.pkt.op = false)
    (last : returnsData p.op = false) :
    s.takeReply t p = (s.operationEnds p.src.toNat n p.payload.toNat).freeWindow t p.srcTile p.src p.seq := by
  have bit : natBit p.count.toNat 4 = false := (natBit_eq_testBit ..).trans data
  rw [State.takeReply]
  dsimp only
  rw [if_pos h.core, if_neg (by rw [h.there]; exact Bool.false_ne_true), if_neg (by rw [h.built]; exact Bool.false_ne_true), h.asked, h.ok, bit, last]
  dsimp only
  rw [h.ends false _ (by rw [op]; rfl)]
  simp

theorem State.operationEnds_keeps (s : State) (g : Nat) (n : NiOp) (value : Nat) :
    (s.operationEnds g n value).mem = s.mem ∧ (s.operationEnds g n value).core g = (s.core g).completed n value ∧
      ∀ k, (s.operationEnds g n value).tile k = s.tile k :=
  have entered := State.enterRow_keeps s g true
  ⟨entered.1, State.core_setCore_same .., entered.2.2⟩

/-- A reply that has arrived is taken, one cell counted. -/
theorem exec_replyArrival {pre post : List Pkt} (arrived : Arrived s t p pre post) (kind : p.kind = 1) (src : p.src.toNat < 12288)
    (goes : s.inwardHeld p.src.toNat = false) :
    exec (.replyArrival ⟨t, .clean⟩) s =
      .next (((s.setTile t { s.tile t with rx := pre ++ post }).rcount t 2 1).takeReply t p) := by
  obtain ⟨ht, in_, rx, here, others⟩ := arrived
  have held : s.replyHeld p = false := by
    rw [State.replyHeld, if_pos src, goes, Bool.and_false]
  have takes := State.takeRx_first rx here others held
  rw [kind] at takes
  show execReplyArrival ⟨t, .clean⟩ s = _
  rw [execReplyArrival, if_neg (by simpa using ht), if_neg (by simp [in_])]
  dsimp only
  rw [takes]
  dsimp only
  rw [if_neg (by simp), if_neg (by simp)]

/-- Taking a packet changes nothing that a reply's core reads. -/
theorem Answers.taken {n : NiOp} (h : Answers s p n) (x : PlaneTile) (e k : Nat) : Answers ((s.setTile t x).rcount t e k) p n := by
  unfold State.rcount
  split <;> exact ⟨h.core, h.there, h.built, h.runs, h.asked, h.source, h.ok⟩

/-! ### A confirm at its tile -/

theorem exec_confirmArrival {pre post : List Pkt} (arrived : Arrived s t p pre post) (kind : p.kind = 2) :
    exec (.confirmArrival t) s = .next (((s.setTile t { s.tile t with rx := pre ++ post }).rcount t 2 1).takeConfirm t p) := by
  obtain ⟨ht, in_, rx, here, others⟩ := arrived
  have takes := State.takeRx_first rx here others (by rw [State.replyHeld, kind]; rfl)
  rw [kind] at takes
  show execConfirmArrival t s = _
  rw [execConfirmArrival, if_neg (by omega), if_neg (by simp [in_]), takes]

theorem State.sendReply_spec (s : State) (t : Nat) (r : Pkt) :
    (s.sendReply t r).mem = s.mem ∧ (s.sendReply t r).cores = s.cores ∧ ((s.sendReply t r).tile t).cache = (s.tile t).cache ∧
      Replied s (s.sendReply t r) t r := by
  unfold Replied State.sendReply
  split
  · exact ⟨rfl, rfl, by rw [State.arrive, State.tile_setTile_same], by rw [State.arrive, State.tile_setTile_same]⟩
  · exact ⟨rfl, rfl, by rw [State.tile_setTile_same], by rw [State.tile_setTile_same]⟩

/-- The entries of the reply cache that a confirm does not name remain. -/
theorem State.takeConfirm_spec (s : State) (t : Nat) (p : Pkt) :
    (s.takeConfirm t p).mem = s.mem ∧ (s.takeConfirm t p).cores = s.cores ∧
      (∀ e, e ∈ ((s.takeConfirm t p).tile t).cache ↔ e ∈ (s.tile t).cache ∧ ¬∃ k < p.count.toNat,
        natBits p.payload.toNat (32 * k) 14 = e.src.toNat ∧ natBits p.payload.toNat (32 * k + 16) 16 = e.seq.toNat) ∧
      Replied s (s.takeConfirm t p) t (p.replyTo 0 none) := by
  have low (x k : Nat) : natBits x (32 * k) 32 % 2 ^ 14 = natBits x (32 * k) 14 :=
    Nat.mod_mod_of_dvd _ (by decide)
  have high (x k : Nat) : natBits x (32 * k) 32 / 2 ^ 16 = natBits x (32 * k + 16) 16 := by
    unfold natBits
    rw [Nat.pow_add, ← Nat.div_div_eq_div_mul, show (2 : Nat) ^ 32 = 2 ^ 16 * 2 ^ 16 from rfl, Nat.mod_mul_right_div_self]
  rw [State.takeConfirm]
  dsimp only
  generalize kept : s.setTile t _ = x
  obtain ⟨mem, cores, cache, replied⟩ := State.sendReply_spec x t (p.replyTo 0 none)
  subst kept
  refine ⟨mem, cores, fun e => ?_, ?_⟩
  · rw [cache, State.tile_setTile_same, List.mem_filter, Bool.not_eq_true', ← Bool.not_eq_true]
    refine and_congr_right fun _ => not_congr ?_
    simp only [List.any_map, List.any_eq_true, upto, List.mem_range, Function.comp, Bool.and_eq_true, beq_iff_eq, low, high]
  · unfold Replied at replied ⊢
    rw [State.tile_setTile_same] at replied
    exact replied

/-! ### Retransmission -/

theorem State.ctr_bump_same (s : State) (a n : Nat) : (s.bump a n).ctr a = s.ctr a + BitVec.ofNat 48 n := sget_sset_same _ _ _ _

/-- The count of a core that is not fenced goes up. -/
theorem State.coreCount_one (s : State) (g e : Nat) :
    (s.coreCount g e 1).ctr (s.coreCtr g e) = s.ctr (s.coreCtr g e) + if (s.core g).fenced then 0 else 1 := by
  unfold State.coreCount
  by_cases fenced : (s.core g).fenced
  · rw [if_pos (.inr fenced), if_pos fenced]
    exact (BitVec.add_zero _).symm
  · rw [if_neg (by simp [fenced]), if_neg fenced, State.ctr_bump_same]
    rfl

/-- A packet of a core that has been sent and is not answered is the first of its number, and not waiting at injection. -/
structure Overdue (s : State) (t : Nat) (n : NiOp) : Prop where
  tile : t < 16
  in_ : s.tileOut t = false
  core : n.pkt.src.toNat < 12288
  home : tileOf n.pkt.src.toNat = t
  first : (s.core n.pkt.src.toNat).ni.find? (fun m => m.pkt.dst == n.pkt.dst && m.pkt.seq == n.pkt.seq) = some n
  sent : n.sent = true
  alone : n.grouped = false
  unanswered : n.acked = false
  away : s.queued t n.pkt = false

/-- The core that sends an overdue packet again. -/
def CoreSt.resends (c : CoreSt) (n : NiOp) (at_ : Word) : CoreSt :=
  { c with niRetrans := min (c.niRetrans + 1) (2 ^ 32 - 1),
           ni := c.ni.map fun m => if m == n then { m with sentAt := at_, sent := false } else m }

theorem Overdue.resends {n : NiOp} (h : Overdue s t n) :
    ∃ r : State, r.cores = s.cores ∧ r.tiles = s.tiles ∧ r.pmc = s.pmc ∧ r.mem = s.mem ∧ r.regs = s.regs ∧
      exec (.retransmissionTimeout t n.pkt.src n.pkt.dst n.pkt.seq) s = .next (((r.setCore n.pkt.src.toNat
        ((s.core n.pkt.src.toNat).resends n r.gtc)).coreCount n.pkt.src.toNat 32 1).resend t n.pkt) := by
  refine ⟨s.gtcTo (n.sentAt.toNat + retransTicks), ?_, ?_, ?_, ?_, ?_, ?_⟩
  case refine_6 =>
    show execRetransmissionTimeout t n.pkt.src n.pkt.dst n.pkt.seq s = _
    rw [execRetransmissionTimeout, if_neg (by have := h.tile; omega), if_neg (by simp [h.in_]), if_pos h.core]
    dsimp only
    rw [h.first]
    dsimp only
    rw [if_neg (by simp [h.home, h.sent, h.alone, h.unanswered, h.away])]
    rfl
  all_goals
    unfold State.gtcTo
    split <;> rfl

theorem State.coreCount_keeps (s : State) (g e n : Nat) : (s.coreCount g e n).mem = s.mem ∧ (s.coreCount g e n).regs = s.regs ∧
    (∀ k, (s.coreCount g e n).tile k = s.tile k) ∧ ∀ k, (s.coreCount g e n).core k = s.core k := by
  unfold State.coreCount
  split <;> exact ⟨rfl, rfl, fun _ => rfl, fun _ => rfl⟩

theorem Overdue.waits {n : NiOp} (h : Overdue s t n) :
    ∃ u, exec (.retransmissionTimeout t n.pkt.src n.pkt.dst n.pkt.seq) s = .next u ∧
      (u.tile t).inject = (s.tile t).inject ++ [⟨n.pkt, 0, true⟩] ∧
      (u.core n.pkt.src.toNat).niRetrans = min ((s.core n.pkt.src.toNat).niRetrans + 1) (2 ^ 32 - 1) ∧
      u.ctr (s.coreCtr n.pkt.src.toNat 32) = s.ctr (s.coreCtr n.pkt.src.toNat 32) + (if (s.core n.pkt.src.toNat).fenced then 0 else 1) ∧
      (∃ m ∈ (u.core n.pkt.src.toNat).ni, m.pkt = n.pkt ∧ m.sent = false) ∧ u.mem = s.mem ∧ u.regs = s.regs := by
  obtain ⟨r, cores, tiles, pmc, mem, regs, does⟩ := h.resends
  have same : r.coreCtr n.pkt.src.toNat 32 = s.coreCtr n.pkt.src.toNat 32 := by
    unfold State.coreCtr State.physOf State.rowMap State.gf State.reg
    rw [regs]
  have counted := (r.setCore n.pkt.src.toNat ((s.core n.pkt.src.toNat).resends n r.gtc)).coreCount_one n.pkt.src.toNat 32
  obtain ⟨mem1, regs1, tile1, core1⟩ :=
    (r.setCore n.pkt.src.toNat ((s.core n.pkt.src.toNat).resends n r.gtc)).coreCount_keeps n.pkt.src.toNat 32 1
  rw [State.core_setCore_same] at counted
  have ctr : ∀ k, (r.setCore n.pkt.src.toNat ((s.core n.pkt.src.toNat).resends n r.gtc)).ctr k = s.ctr k := fun k =>
    congrArg (sget 0 · k) pmc
  refine ⟨_, does, ?_, ?_, ?_, ⟨{ n with sentAt := r.gtc, sent := false }, ?_, rfl, rfl⟩, mem1.trans mem, regs1.trans regs⟩
  · rw [State.resend, State.tile_setTile_same, tile1]
    exact congrArg (fun x => (sget PlaneTile.empty x t).inject ++ [⟨n.pkt, 0, true⟩]) tiles
  · rw [State.resend, State.core_setTile, core1, State.core_setCore_same]
    rfl
  · rw [← same]
    refine counted.trans ?_
    rw [ctr]
    rfl
  · rw [State.resend, State.core_setTile, core1, State.core_setCore_same]
    exact List.mem_map.2 ⟨n, List.mem_of_find?_eq_some h.first, if_pos (beq_self_eq_true n)⟩

/-! ### The four ends -/

theorem replyArrival_data {pre post : List Pkt} (arrived : Arrived s t p pre post) {n : NiOp} {d : Dest} :
    (p.src.toNat < 12288 ∧ p.kind = 1 ∧ s.siteAbsent (towerOf p.src.toNat) = false ∧ s.openSite (towerOf p.src.toNat) = false ∧
      s.inwardHeld p.src.toNat = false ∧ (s.core p.src.toNat).fenced = false ∧
      (s.core p.src.toNat).niFind p.srcTile p.seq p.epoch = some n ∧ n.pkt.src = p.src ∧ p.count.toNat % 16 = 0) →
    p.count.getLsbD 4 = true → returnsData n.pkt.op = true → n.dest = some d →
    ∃ u, exec (.replyArrival ⟨t, .clean⟩) s = .next u ∧ u.mem = s.mem ∧ (u.core p.src.toNat).ni = (s.core p.src.toNat).ni.erase n ∧
      (u.core p.src.toNat).get d = d.after (BitVec.ofNat 65536 (p.payload.toNat % 2 ^ (8 * wBytes n.pkt.width))) ∧
      (∀ e ∈ (u.core p.src.toNat).sb, e.wait ≠ .remote n.pkt.dst n.pkt.seq) ∧
      ∃ q ∈ (u.tile t).confirms, q.dst = p.srcTile ∧ (p.src, p.seq) ∈ q.names := by
  intro ⟨src, kind, there, built, goes, runs, asked, source, ok⟩ data _ dest
  have answers := (Answers.mk src there built runs asked source ok).taken (t := t) { s.tile t with rx := pre ++ post } 2 1
  have does := exec_replyArrival arrived kind src goes
  rw [answers.takeReply_data data] at does
  have taken : (((s.setTile t { s.tile t with rx := pre ++ post }).rcount t 2 1).mem = s.mem) ∧
      ((s.setTile t { s.tile t with rx := pre ++ post }).rcount t 2 1).core p.src.toNat = s.core p.src.toNat := ⟨rfl, rfl⟩
  generalize (s.setTile t { s.tile t with rx := pre ++ post }).rcount t 2 1 = s1 at answers does taken
  have ended := s1.operationEnds_keeps p.src.toNat n p.payload.toNat
  rw [taken.1, taken.2] at ended
  obtain ⟨mem, core, -⟩ := ended
  have confirmed := (s1.operationEnds p.src.toNat n p.payload.toNat).confirm_keeps t p.srcTile p.src p.seq
  refine ⟨_, does, confirmed.1.trans mem, ?_, ?_, ?_, State.confirm_names ..⟩ <;> rw [confirmed.2, core]
  · rfl
  · exact (s.core p.src.toNat).completed_get _ dest
  · exact (s.core p.src.toNat).completed_sb n _

theorem replyArrival_ack {pre post : List Pkt} (arrived : Arrived s t p pre post) {n : NiOp} :
    (p.src.toNat < 12288 ∧ p.kind = 1 ∧ s.siteAbsent (towerOf p.src.toNat) = false ∧ s.openSite (towerOf p.src.toNat) = false ∧
      s.inwardHeld p.src.toNat = false ∧ (s.core p.src.toNat).fenced = false ∧
      (s.core p.src.toNat).niFind p.srcTile p.seq p.epoch = some n ∧ n.pkt.src = p.src ∧ p.count.toNat % 16 = 0) →
    p.count.getLsbD 4 = false → returnsData n.pkt.op = false → returnsData p.op = false → n.dest = none →
    ∃ u, exec (.replyArrival ⟨t, .clean⟩) s = .next u ∧ (u.core p.src.toNat).ni = (s.core p.src.toNat).ni.erase n ∧
      (u.core p.src.toNat).s = (s.core p.src.toNat).s ∧ (u.core p.src.toNat).v = (s.core p.src.toNat).v ∧
      ∀ w, w ∈ (u.tile t).windows ↔ w ∈ (s.tile t).windows ∧ ¬(w.dst = p.srcTile ∧ w.src = p.src ∧ w.seq = p.seq) := by
  intro ⟨src, kind, there, built, goes, runs, asked, source, ok⟩ data op last dest
  have answers := (Answers.mk src there built runs asked source ok).taken (t := t) { s.tile t with rx := pre ++ post } 2 1
  have does := exec_replyArrival arrived kind src goes
  rw [answers.takeReply_ack data op last] at does
  have taken : ((s.setTile t { s.tile t with rx := pre ++ post }).rcount t 2 1).core p.src.toNat = s.core p.src.toNat ∧
      (((s.setTile t { s.tile t with rx := pre ++ post }).rcount t 2 1).tile t).windows = (s.tile t).windows :=
    ⟨rfl, by rw [State.tile_taken]⟩
  generalize (s.setTile t { s.tile t with rx := pre ++ post }).rcount t 2 1 = s1 at answers does taken
  have ended := s1.operationEnds_keeps p.src.toNat n p.payload.toNat
  rw [taken.1] at ended
  obtain ⟨-, core, tile⟩ := ended
  have kept := (s.core p.src.toNat).completed_none p.payload.toNat dest
  refine ⟨_, does, ?_, ?_, ?_, fun w => ?_⟩
  · exact (congrArg CoreSt.ni core)
  · exact (congrArg CoreSt.s core).trans kept.1
  · exact (congrArg CoreSt.v core).trans kept.2
  · rw [State.freeWindow, State.tile_setTile_same, tile]
    dsimp only
    rw [taken.2, List.mem_filter]
    simp only [Bool.not_eq_true', Bool.and_eq_false_iff, beq_eq_false_iff_ne, ne_eq]
    tauto

theorem confirmArrival_frees {pre post : List Pkt} (arrived : Arrived s t p pre post) :
    p.kind = 2 → ∃ u, exec (.confirmArrival t) s = .next u ∧ u.cores = s.cores ∧ u.mem = s.mem ∧
      (∀ e, e ∈ (u.tile t).cache ↔ e ∈ (s.tile t).cache ∧ ¬∃ k < p.count.toNat,
        natBits p.payload.toNat (32 * k) 14 = e.src.toNat ∧ natBits p.payload.toNat (32 * k + 16) 16 = e.seq.toNat) ∧
      Replied (s.setTile t { s.tile t with rx := pre ++ post }) u t (p.replyTo 0 none) := by
  intro kind
  have does := exec_confirmArrival arrived kind
  obtain ⟨mem, cores, cache, replied⟩ := ((s.setTile t { s.tile t with rx := pre ++ post }).rcount t 2 1).takeConfirm_spec t p
  refine ⟨_, does, cores, mem, fun e => ?_, replied⟩
  rw [cache, show (((s.setTile t { s.tile t with rx := pre ++ post }).rcount t 2 1).tile t).cache = (s.tile t).cache from
    by rw [State.tile_taken]]

end

/-- Settles O32: each end in its own lemma, over the packet that is taken first. -/
theorem repliesAndRetransmission : Obligations.RepliesAndRetransmission := by
  unfold Obligations.RepliesAndRetransmission
  refine ⟨?_, ?_⟩
  · intro s t p pre post arrived g c mine
    exact ⟨fun n d => replyArrival_data arrived, fun n => replyArrival_ack arrived, confirmArrival_frees arrived⟩
  · intro s t n pre post g c ht in_ core home ni before sent alone unanswered away
    have first : c.ni.find? (fun m => m.pkt.dst == n.pkt.dst && m.pkt.seq == n.pkt.seq) = some n := by
      rw [ni, List.find?_append, List.find?_eq_none.2 fun m hm => by simpa using before m hm]
      simp
    have waits : s.queued t n.pkt = false := by
      rw [State.queued, List.any_eq_false]
      exact fun e he => by simpa using away e he
    obtain ⟨r, cores, tiles, pmc, mem, regs, does⟩ := (Overdue.mk ht in_ core home first sent alone unanswered waits).resends
    exact (Overdue.mk ht in_ core home first sent alone unanswered waits).waits

end Sys2Proof.Machine

/-! PROOF. What the end of a run leaves alone (R60 to R66, R146, R368): the layer that launches, edges, starts and trips share. -/

namespace Sys2Proof.Machine

/-! ### The registers that a run's work and its end may write -/

/-- A tile's register, a report of the device's own, or one of a stand's but its status, tag and counts of beats and holds. -/
def WindReg (a : Nat) : Prop :=
  0x1_0000_0000 ≤ a ∨ NvReg a ∨ a = Reg.MGT_PLAN_STATUS ∨ (0x1000 ≤ a ∧ a < 0x1200) ∨ (0x9000 ≤ a ∧ a % 0x40 = 0x10) ∨
    0x38 ≤ a % 0x100000 ∧ 0x1000000 ≤ a

theorem WindReg.high {a : Nat} (h : 0x1_0000_0000 ≤ a) : WindReg a := .inl h

theorem WindReg.stdErr (i : Nat) : WindReg (Reg.STD_ERR i) := by
  unfold WindReg Reg.STD_ERR
  omega

theorem WindReg.stdInt (i : Nat) : WindReg (Reg.HIF_STD_INT i) := by
  unfold WindReg Reg.HIF_STD_INT
  omega

theorem WindReg.nextClear {i : Nat} (hi : i < 16) : WindReg (Reg.STD_NEXT_CLEAR i) := by
  unfold WindReg Reg.STD_NEXT_CLEAR
  omega

theorem WindReg.gateLevel {i : Nat} (hi : i < 16) : WindReg (Reg.STD_GATE_LEVEL i) := by
  unfold WindReg Reg.STD_GATE_LEVEL
  omega

theorem WindReg.stdDigest (i : Nat) {w : Nat} (hw : w < 8) : WindReg (Reg.STD_DIGEST i w) := by
  unfold WindReg Reg.STD_DIGEST
  omega

theorem WindReg.trunk (t h : Nat) : WindReg (Reg.OPT_TRUNK_STATE t h) := .high (by unfold Reg.OPT_TRUNK_STATE; omega)
theorem WindReg.slotMap (t h k : Nat) : WindReg (Reg.OPT_SLOT_MAP t h k) := .high (by unfold Reg.OPT_SLOT_MAP; omega)
theorem WindReg.spareListen (t f : Nat) : WindReg (Reg.OPT_SPARE_LISTEN t f) := .high (by unfold Reg.OPT_SPARE_LISTEN; omega)
theorem WindReg.laneMap (t q k : Nat) : WindReg (Reg.PKT_LANE_MAP t q k) := .high (by unfold Reg.PKT_LANE_MAP; omega)
theorem WindReg.laneGroup (t q : Nat) : WindReg (Reg.PKT_LANE_GROUP t q) := .high (by unfold Reg.PKT_LANE_GROUP; omega)
theorem WindReg.thmCh (t c : Nat) : WindReg (Reg.THM_CH t c) := .high (by unfold Reg.THM_CH; omega)
theorem WindReg.linkState (t c : Nat) : WindReg (Reg.SITE_LINK_STATE t c) := .high (by unfold Reg.SITE_LINK_STATE; omega)
theorem WindReg.dieId (t c : Nat) : WindReg (Reg.CORE_DIE_ID t c) := .high (by unfold Reg.CORE_DIE_ID; omega)
theorem WindReg.tsMap (t c : Nat) : WindReg (Reg.CORE_TS_MAP t c) := .high (by unfold Reg.CORE_TS_MAP; omega)

/-- A stand's status is none of them. -/
theorem WindReg.not_status {i : Nat} (hi : i < 16) : ¬WindReg (Reg.STD_STATUS i) := by
  unfold WindReg NvReg LogReg Reg.STD_STATUS Reg.HIF_MOD_INT Reg.THM_NV_WINDOW Reg.NVS_REFUSE Reg.MGT_PLAN_STATUS
  omega

/-! ### The relation -/

/-- From `x` to `y` a stand goes on in its course: what has loaded, its copies, its beat, grid and gate, its streak; and handling
that has begun stays. -/
structure StandSt.Course (x y : StandSt) : Prop where
  loaded : y.loaded = x.loaded
  copy : y.copy = x.copy
  beat : y.beat = x.beat
  edge : y.lastEdge = x.lastEdge
  grid : y.grid = x.grid
  gate : y.gate = x.gate
  streak : y.streak = x.streak
  stopped : y.stopped = x.stopped
  handled : x.handling.isSome = true → y.handling.isSome = true

theorem StandSt.Course.refl (x : StandSt) : x.Course x := ⟨rfl, rfl, rfl, rfl, rfl, rfl, rfl, rfl, id⟩

theorem StandSt.Course.trans {x y z : StandSt} (h : x.Course y) (k : y.Course z) : x.Course z :=
  ⟨k.loaded.trans h.loaded, k.copy.trans h.copy, k.beat.trans h.beat, k.edge.trans h.edge, k.grid.trans h.grid, k.gate.trans h.gate,
    k.streak.trans h.streak, k.stopped.trans h.stopped, k.handled ∘ h.handled⟩

/-- From `b` to `s` a stand's course (the beat, the edges and what has loaded), the store's copies and the write in progress are kept, and
every register but those of `WindReg`, and no core starts; from `k = 1` on every core too, from `k = 2` on what handling each stand
is in, and at `k = 3` the plan in force. -/
structure Winds (k : Nat) (b s : State) : Prop where
  regs : ∀ a, ¬WindReg a → s.reg a = b.reg a
  copies : s.copy0 = b.copy0 ∧ s.copy15 = b.copy15
  front : ∀ r rest, b.nvq = r :: rest → ∃ more, s.nvq = r :: more
  stands : ∀ j, (b.stand j).Course (s.stand j)
  idle : ∀ g, (s.core g).running = true → (b.core g).running = true
  cores : 1 ≤ k → s.cores = b.cores
  handling : 2 ≤ k → ∀ j, (s.stand j).handling = (b.stand j).handling
  plan : 3 ≤ k → s.planForce = b.planForce

section
variable {k : Nat} {b s u : State}

theorem Winds.refl (k : Nat) (s : State) : Winds k s s :=
  ⟨fun _ _ => rfl, ⟨rfl, rfl⟩, fun _ rest h => ⟨rest, h⟩, fun _ => .refl _, fun _ => id, fun _ => rfl, fun _ _ => rfl, fun _ => rfl⟩

theorem Winds.trans (h : Winds k b s) (g : Winds k s u) : Winds k b u where
  regs a ha := (g.regs a ha).trans (h.regs a ha)
  copies := ⟨g.copies.1.trans h.copies.1, g.copies.2.trans h.copies.2⟩
  front r rest hr := by
    obtain ⟨more, hm⟩ := h.front r rest hr
    exact g.front r more hm
  stands j := (h.stands j).trans (g.stands j)
  idle c := h.idle c ∘ g.idle c
  cores hk := (g.cores hk).trans (h.cores hk)
  handling hk j := (g.handling hk j).trans (h.handling hk j)
  plan hk := (g.plan hk).trans (h.plan hk)

theorem Winds.mono {l : Nat} (h : Winds k b s) (le : l ≤ k) : Winds l b s :=
  ⟨h.regs, h.copies, h.front, h.stands, h.idle, fun hl => h.cores (hl.trans le), fun hl => h.handling (hl.trans le), fun hl => h.plan (hl.trans le)⟩

/-- A change of none of these. -/
theorem Winds.of (h : Winds k b s) (regs : u.regs = s.regs) (zero : u.copy0 = s.copy0) (fifteen : u.copy15 = s.copy15) (nvq : u.nvq = s.nvq)
    (stands : u.stands = s.stands) (cores : u.cores = s.cores) (plan : 3 ≤ k → u.planForce = s.planForce) : Winds k b u :=
  have std (j : Nat) : u.stand j = s.stand j := congrArg (sget StandSt.zero · j) stands
  h.trans ⟨fun a _ => congrArg (fun m => (sget (regDefault a) m a)) regs, ⟨zero, fifteen⟩, fun r rest hr => ⟨rest, nvq.trans hr⟩,
    fun j => by rw [std]; exact .refl _, fun g => congrArg (fun m => (sget CoreSt.zero m g).running) cores ▸ id, fun _ => cores,
    fun _ j => by rw [std], plan⟩

theorem Winds.foldl {α : Type} {f : State → α → State} {l : List α} (h : Winds k b s) (step : ∀ y, ∀ x ∈ l, Winds k b y → Winds k b (f y x)) :
    Winds k b (l.foldl f s) :=
  List.foldlRecOn (motive := Winds k b) l f h fun y hy x hx => step y x hx hy

theorem Winds.setReg (h : Winds k b s) {a : Nat} (ha : WindReg a) (v : Word) : Winds k b (s.setReg a v) :=
  h.trans ⟨fun _ hc => State.reg_setReg_ne _ _ fun e => hc (e ▸ ha), ⟨rfl, rfl⟩, fun _ rest hr => ⟨rest, hr⟩,
    fun _ => .refl _, fun _ => id, fun _ => rfl, fun _ _ => rfl, fun _ => rfl⟩

theorem Winds.sf (h : Winds k b s) {a : Nat} (ha : WindReg a) (f : Fld) (v : Nat) : Winds k b (s.sf a f v) := h.setReg ha _

theorem Winds.sfSat (h : Winds k b s) {a : Nat} (ha : WindReg a) (f : Fld) (v : Nat) : Winds k b (s.sfSat a f v) := h.sf ha f _

theorem Winds.sfBit (h : Winds k b s) {a : Nat} (ha : WindReg a) (f : Fld) (v : Nat) : Winds k b (s.sfBit a f v) := h.sf ha f _

theorem Winds.setFab (h : Winds k b s) (t : Nat) (x : FabTile) : Winds k b (s.setFab t x) := h.of rfl rfl rfl rfl rfl rfl fun _ => rfl
theorem Winds.setTile (h : Winds k b s) (t : Nat) (x : PlaneTile) : Winds k b (s.setTile t x) := h.of rfl rfl rfl rfl rfl rfl fun _ => rfl
theorem Winds.setSite (h : Winds k b s) (w : Nat) (x : SiteSt) : Winds k b (s.setSite w x) := h.of rfl rfl rfl rfl rfl rfl fun _ => rfl
theorem Winds.setHbm (h : Winds k b s) (j : Nat) (x : HbmSt) : Winds k b (s.setHbm j x) := h.of rfl rfl rfl rfl rfl rfl fun _ => rfl
theorem Winds.setTs (h : Winds k b s) (w : Nat) (x : TsSt) : Winds k b (s.setTs w x) := h.of rfl rfl rfl rfl rfl rfl fun _ => rfl
theorem Winds.setPwr (h : Winds k b s) (i : Nat) (x : PwrSt) : Winds k b (s.setPwr i x) := h.of rfl rfl rfl rfl rfl rfl fun _ => rfl
theorem Winds.setPort (h : Winds k b s) (p : Nat) (x : PortSt) : Winds k b (s.setPort p x) := h.of rfl rfl rfl rfl rfl rfl fun _ => rfl
theorem Winds.setAcc (h : Winds k b s) (t : Nat) (x : MapAcc) : Winds k b (s.setAcc t x) := h.of rfl rfl rfl rfl rfl rfl fun _ => rfl
theorem Winds.emit (h : Winds k b s) (o : Out) : Winds k b (s.emit o) := h.of rfl rfl rfl rfl rfl rfl fun _ => rfl
theorem Winds.bump (h : Winds k b s) (a n : Nat) : Winds k b (s.bump a n) := h.of rfl rfl rfl rfl rfl rfl fun _ => rfl
theorem Winds.wr (h : Winds k b s) (a n v : Nat) : Winds k b (s.wr a n v) := h.of rfl rfl rfl rfl rfl rfl fun _ => rfl
theorem Winds.setPoison (h : Winds k b s) (a : Nat) (v : Bool) : Winds k b (s.setPoison a v) := h.of rfl rfl rfl rfl rfl rfl fun _ => rfl
theorem Winds.setCtx (h : Winds k b s) (t x : Nat) (c : CtxSt) : Winds k b (s.setCtx t x c) := h.setFab ..
theorem Winds.setListener (h : Winds k b s) (t l : Nat) (x : Listener) : Winds k b (s.setListener t l x) := h.setFab ..
theorem Winds.takeBit (h : Winds k b s) : Winds k b s.takeBit.2 := h.of rfl rfl rfl rfl rfl rfl fun _ => rfl
theorem Winds.takeLine (h : Winds k b s) : Winds k b s.takeLine.2 := h.of rfl rfl rfl rfl rfl rfl fun _ => rfl

/-- A stand's other state. -/
theorem Winds.setStand (h : Winds k b s) (i : Nat) {x : StandSt} (course : (s.stand i).Course x)
    (handling : 2 ≤ k → x.handling = (s.stand i).handling) : Winds k b (s.setStand i x) := by
  refine h.trans ⟨fun _ _ => rfl, ⟨rfl, rfl⟩, fun _ rest hr => ⟨rest, hr⟩, fun j => ?_, fun _ => id, fun _ => rfl, fun hk j => ?_,
    fun _ => rfl⟩ <;>
    by_cases hj : j = i
  · subst hj
    rw [State.stand_setStand_same]
    exact course
  · rw [State.stand_setStand_ne _ _ hj]
    exact .refl _
  · subst hj
    rw [State.stand_setStand_same]
    exact handling hk
  · rw [State.stand_setStand_ne _ _ hj]

/-- A core that does not start. -/
theorem Winds.setCore (h : Winds 0 b s) (g : Nat) {c : CoreSt} (idle : c.running = true → (s.core g).running = true) :
    Winds 0 b (s.setCore g c) := by
  refine h.trans ⟨fun _ _ => rfl, ⟨rfl, rfl⟩, fun _ rest hr => ⟨rest, hr⟩, fun _ => .refl _, fun j => ?_, fun hk => absurd hk (by decide),
    fun _ _ => rfl, fun _ => rfl⟩
  by_cases hj : j = g
  · subst hj
    rw [State.core_setCore_same]
    exact idle
  · rw [State.core_setCore_ne _ _ hj]
    exact id

/-! ### Reports, deadwood entries, store writes -/

theorem Winds.notes (h : Winds k b s) (n : Notes s u) (front : ∀ r rest, s.nvq = r :: rest → ∃ more, u.nvq = r :: more) : Winds k b u := by
  have stands (j : Nat) : u.stand j = s.stand j := by rw [n.frame]; rfl
  refine h.trans ⟨fun a ha => n.regs a fun hn => ha (.inr (.inl hn)), ?_, front, fun j => ?_, fun g => ?_, fun _ => ?_, fun _ j => ?_,
    fun _ => by rw [n.frame]⟩
  · rw [n.frame]
    exact ⟨rfl, rfl⟩
  · rw [stands]
    exact .refl _
  · rw [n.frame]
    exact id
  · rw [n.frame]
  · rw [stands]

theorem Winds.reports (h : Winds k b s) (r : Reports NvReg s u) : Winds k b u :=
  h.notes r.notes fun r' rest hr => ⟨rest, by rw [r.frame]; exact hr⟩

theorem Winds.contained (h : Winds k b s) (e : ErrInfo) : Winds k b (s.contained e) := h.reports ((Reports.contained s e).mono fun _ => .log)

theorem Winds.modCause (h : Winds k b s) (c : Nat) : Winds k b (s.modCause c) := h.reports ((Reports.modCause s c).mono fun _ => .log)

theorem Winds.logErr (h : Winds k b s) {cls : Nat} (hc : cls < 4) (l : LogEnt) : Winds k b (s.logErr cls l) :=
  h.reports ((Reports.logErr s hc l).mono fun _ => .log)

theorem Winds.stdEvent (h : Winds k b s) (i e : Nat) : Winds k b (s.stdEvent i e) := by
  have r : Reports WindReg s (s.stdEvent i e) := .stdEvent s (.stdInt i) e
  have stands (j : Nat) : (s.stdEvent i e).stand j = s.stand j := by rw [r.frame]; rfl
  refine h.trans ⟨fun a ha => r.regs a ha, by rw [r.frame]; exact ⟨rfl, rfl⟩, fun r' rest hr => ⟨rest, by rw [r.frame]; exact hr⟩, fun j => ?_,
    fun g => ?_, fun _ => by rw [r.frame], fun _ j => ?_, fun _ => by rw [r.frame]⟩
  · rw [stands]
    exact .refl _
  · rw [r.frame]
    exact id
  · rw [stands]

/-- A store write that is asked for goes behind the one in progress. -/
theorem State.nvWrite_front (s : State) (r : NvReq) : ∀ q rest, s.nvq = q :: rest → ∃ more, (s.nvWrite r).2.nvq = q :: more := by
  intro q rest hq
  unfold State.nvWrite State.nvPut
  split
  · exact ⟨rest, hq⟩
  · rw [if_neg (by rw [hq]; simp)]
    dsimp only
    split
    · exact ⟨rest, by rw [(Reports.nvRefused ..).frame]; exact hq⟩
    · exact ⟨rest ++ [r], by rw [hq]; rfl⟩

theorem Winds.nvWrite (h : Winds k b s) (r : NvReq) : Winds k b (s.nvWrite r).2 := h.notes (.nvWrite s r) (s.nvWrite_front r)

theorem Winds.dead (h : Winds k b s) (kind tile site sub index cause : Nat) : Winds k b (s.dead kind tile site sub index cause) := by
  unfold State.dead
  dsimp only
  generalize s.dwm ++ _ = m
  have entry : Winds k b { s with dwm := m } := h.of rfl rfl rfl rfl rfl rfl fun _ => rfl
  exact (entry.modCause 13).nvWrite _

theorem Winds.showDegraded (h : Winds k b s) (w cause : Nat) : Winds k b (s.showDegraded w cause) := by
  unfold State.showDegraded
  split
  · exact h.sf (.dieId ..) _ _
  · split
    · exact h.sf (.tsMap ..) _ _
    · exact h

theorem Winds.degradeTower (h : Winds k b s) (w cause : Nat) : Winds k b (s.degradeTower w cause) := by
  have shown := h.showDegraded w cause
  unfold State.degradeTower
  dsimp only
  split
  · exact shown
  · refine Winds.dead ?_ ..
    split
    · exact shown
    · exact shown.contained _

theorem Winds.retireChannel (h : Winds k b s) (t ch : Nat) : Winds k b (s.retireChannel t ch) :=
  (((h.sf (.thmCh ..) _ _).sf (.thmCh ..) _ _).contained _).dead ..

/-- A stand comes under handling, unless an abort keeps its own ending. -/
theorem Winds.handled (h : Winds k b s) (hk : k < 2) (i : Nat) :
    Winds k b (if (s.stand i).handling.isSome then s else s.setStand i { s.stand i with handling := some .fatal }) := by
  split
  · exact h
  · exact h.setStand i ⟨rfl, rfl, rfl, rfl, rfl, rfl, rfl, rfl, fun _ => rfl⟩ fun h2 => absurd h2 (by omega)

theorem Winds.standFatal (h : Winds k b s) (hk : k < 2) (i : Nat) (e : ErrInfo) : Winds k b (s.standFatal i e) := by
  unfold State.standFatal
  split
  · have logged : Winds k b (s.logErr 2 (s.logEnt 2 { e with stand := some i })) := h.logErr (by decide) _
    generalize s.logErr 2 (s.logEnt 2 { e with stand := some i }) = s1 at logged ⊢
    dsimp only
    refine iteInduction (motive := Winds k b) (fun _ => logged) fun _ => Winds.handled (Winds.stdEvent (Winds.sfSat ?_ (.stdErr i) ..) ..) hk i
    split
    · exact logged.sf (.stdErr i) _ _
    · exact ((logged.sf (.stdErr i) _ _).sf (.stdErr i) _ _).sf (.stdErr i) _ _
  · exact h.contained _

end

end Sys2Proof.Machine

/-! PROOF. The end of a run, operation by operation (R60 to R66, R368). -/

namespace Sys2Proof.Machine

section
variable {k : Nat} {b s : State}

/-! ### Remote work and moves in flight -/

theorem Winds.coreCount (h : Winds k b s) (g e n : Nat) : Winds k b (s.coreCount g e n) := by
  unfold State.coreCount
  split
  · exact h
  · exact h.bump ..

theorem Winds.ecount (h : Winds k b s) (t e n : Nat) : Winds k b (s.ecount t e n) := by
  unfold State.ecount
  split
  · exact h
  · exact h.bump ..

theorem Winds.countApplied (h : Winds k b s) (t : Nat) (pl : Place) : Winds k b (s.countApplied t pl) := by
  have counted := (h.setAcc t { s.acc t with applied := (s.acc t).applied + 1 }).ecount t 1 1
  unfold State.countApplied State.busCount
  dsimp only
  split
  · exact counted.coreCount ..
  · exact counted

theorem Winds.store (h : Winds k b s) (a n v : Nat) : Winds k b (s.store a n v) := by
  unfold State.store
  split
  · exact (h.setPoison ..).wr ..
  · split
    · exact h
    · exact h.wr ..

theorem Winds.lineWhole (h : Winds k b s) (a : Nat) : Winds k b (s.lineWhole a) := by
  refine h.foldl fun y t _ hy => ?_
  dsimp only
  split
  · exact hy
  · exact hy.setTile ..

theorem Winds.topWrite (h : Winds k b s) (a : Nat) (es : List TopEnt) : Winds k b (topWrite s a es) := by
  induction es generalizing s a with
  | nil => exact h
  | cons e es ih => exact ih (h.wr ..) _

theorem Winds.applyOp (h : Winds k b s) (p : Pkt) (a room : Nat) : Winds k b (applyOp s p a room).2.2 := by
  have lines (l : List Nat) : Winds k b (l.foldl (fun y l => y.lineWhole (a + 64 * l)) s) := h.foldl fun y l _ hy => hy.lineWhole _
  have stores (c : Prop) [Decidable c] (v : Nat) : Winds k b ((if c then s.lineWhole a else s).store a (wBytes p.width) v) := by
    split
    · exact (h.lineWhole a).store ..
    · exact h.store ..
  unfold Machine.applyOp
  dsimp only
  split
  · split <;> exact h
  · split
    · exact h
    · exact stores ..
  · split
    · exact h
    · exact stores ..
  · split
    · exact h
    · split
      · exact h
      · split
        · exact h
        · exact ((lines _).wr ..).topWrite ..
  · split
    · exact h
    · split <;> exact h.wr ..

theorem Winds.digest (h : Winds k b s) (hk : k < 2) (t : Nat) (p : Pkt) (a : Nat) (edge : Bool) : Winds k b (s.digest t p a edge) := by
  unfold State.digest digestLate
  dsimp only
  split
  · exact h
  · split
    · exact h.standFatal hk ..
    · exact (h.setTile ..).ecount ..

theorem Winds.applyAt (h : Winds k b s) (hk : k < 2) (t : Nat) (p : Pkt) : Winds k b (s.applyAt t p []).2.2 := by
  unfold State.applyAt
  split
  · exact h
  · next pl _ =>
    split
    · exact h
    · next a _ =>
      have applied := (h.countApplied t pl).applyOp p a (placeRoom pl)
      unfold State.applyMet
      dsimp only
      rw [if_neg (by simp)]
      dsimp only
      split
      · exact applied.digest hk ..
      · exact applied

theorem Winds.endOp (h : Winds k b s) (hk : k < 2) (n : NiOp) : Winds k b (s.endOp n) := by
  unfold State.endOp
  split
  · exact h
  · dsimp only
    split
    · exact h.takeBit.applyAt hk ..
    · exact h.takeBit

theorem Winds.takeSplit (h : Winds k b s) (l : List Nat) : Winds k b (s.takeSplit l).2 := by
  induction l generalizing s with
  | nil => exact h
  | cons x l ih => exact ih h.takeBit

theorem Winds.linePut (h : Winds k b s) (i g : Nat) (m : MoveSt) (l : Nat) (v : BitVec 512) : Winds k b (linePut s i g m l v) := by
  unfold Machine.linePut
  split
  · split
    · exact (h.lineWhole _).store ..
    · exact h
  · exact (h.lineWhole _).wr ..

theorem Winds.endLine (h : Winds k b s) (i g : Nat) (m : MoveSt) (l : Nat) : Winds k b (s.endLine i g m l) := by
  unfold State.endLine
  dsimp only
  split
  · exact h.linePut ..
  · split
    · exact h
    · exact h.linePut ..
  · split
    · exact h.linePut ..
    · exact h

theorem Winds.endMove (h : Winds k b s) (i g : Nat) (m : MoveSt) : Winds k b (s.endMove i g m) := by
  unfold State.endMove
  refine Winds.foldl (h.takeSplit _) fun y l _ hy => ?_
  split
  · dsimp only
    split
    · exact hy.takeLine.emit _
    · split
      · exact hy.takeLine.store ..
      · exact hy.takeLine
  · exact hy.endLine ..

/-! ### Circuits and streams -/

theorem Winds.sendFlit (h : Winds k b s) (w m : Nat) (f : TxFlit) : Winds k b (s.sendFlit w m f) := (h.setSite ..).emit _

theorem Winds.sendCtl (h : Winds k b s) (w type : Nat) (fields : List Nat) : Winds k b (s.sendCtl w type fields) := h.sendFlit ..

theorem Winds.sendStream (h : Winds k b s) (w n len v : Nat) : Winds k b (s.sendStream w n len v) := h.foldl fun _ _ _ hy => hy.sendFlit ..

theorem Winds.setStream (h : Winds k b s) (w n : Nat) (v : Option Stream) : Winds k b (s.setStream w n v) :=
  (h.setSite ..).sf (.linkState ..) _ _

theorem Winds.freeStream (h : Winds k b s) (w n : Nat) : Winds k b (s.freeStream w n) := by
  unfold State.freeStream
  split
  · exact h
  · dsimp only
    split
    · exact (h.setStream ..).sendCtl ..
    · exact h.setStream ..

theorem Winds.freeStreams (h : Winds k b s) (t i : Nat) (p : Stream → Bool) : Winds k b (s.freeStreams t i p) := by
  refine h.foldl fun y c _ hy => ?_
  dsimp only
  split
  · exact hy
  · exact hy.foldl fun z n _ hz => hz.freeStream ..

theorem Winds.unbindStreams (h : Winds k b s) (t i : Nat) (recv : Bool) (e : Nat) : Winds k b (s.unbindStreams t i recv e) := h.freeStreams ..

theorem Winds.linePlaces (h : Winds k b s) (ds : List Nat) (v : BitVec 512) : Winds k b (linePlaces ds v s) :=
  h.foldl fun _ _ _ hy => (hy.lineWhole _).store ..

theorem Winds.flush (h : Winds k b s) (l : FrameLine) : Winds k b (l.flush s).2 := by
  unfold FrameLine.flush State.frameLine
  split
  · exact h.linePlaces ..
  · split
    · exact h.takeLine.linePlaces ..
    · exact h.linePlaces ..

theorem Winds.flushLines (h : Winds k b s) (ls : List FrameLine) : Winds k b (flushLines ls s).2 := by
  induction ls generalizing s with
  | nil => exact h
  | cons l ls ih => exact ih (h.flush l)

theorem Winds.finishFrame (h : Winds k b s) (t x c : Nat) : Winds k b (s.finishFrame t x c) := by
  unfold State.finishFrame
  dsimp only
  split
  · exact h
  · split
    · exact h.setCtx ..
    · have flushed := Winds.flushLines (h.setCtx t x ((s.ctx t x).setCirc c { (s.ctx t x).circ c with frame := [] }))
        ((s.ctx t x).circ c).frame
      split
      · exact flushed
      · refine flushed.foldl fun y d _ hy => ?_
        split
        · exact hy.sendStream ..
        · exact hy

theorem Winds.parkListener (h : Winds k b s) (t l : Nat) : Winds k b (s.parkListener t l) := by
  unfold State.parkListener
  dsimp only
  split <;> exact h.setListener ..

theorem Winds.replaceListener (h : Winds k b s) (t l : Nat) : Winds k b (s.replaceListener t l) := by
  unfold State.replaceListener
  dsimp only
  split
  · exact h.sf (.spareListen ..) _ _
  · exact h

theorem Winds.setSlotByte (h : Winds k b s) (t q l v : Nat) : Winds k b (s.setSlotByte t q l v) := h.setReg (.slotMap ..) _

theorem Winds.carriageBit (h : Winds k b s) (u q l : Nat) : Winds k b (s.carriageBit u q l) := by
  unfold State.carriageBit
  split
  · exact h
  · exact h.setSlotByte ..

theorem Winds.closeCirc (h : Winds k b s) (t x c : Nat) : Winds k b (s.closeCirc t x c) := by
  have ended := (h.finishFrame t x c).unbindStreams t (s.ctx t x).stand true c
  unfold State.closeCirc
  generalize (s.finishFrame t x c).unbindStreams t (s.ctx t x).stand true c = s0 at ended ⊢
  dsimp only
  split
  · exact ended
  · have parked : Winds k b (if ((s0.ctx t x).circ c).listener = noListener then s0
        else if decide ((s0.listener t ((s0.ctx t x).circ c).listener).mode = .fenced) = true then
          (s0.parkListener t ((s0.ctx t x).circ c).listener).replaceListener t ((s0.ctx t x).circ c).listener
        else s0.parkListener t ((s0.ctx t x).circ c).listener) := by
      split
      · exact ended
      · split
        · exact (ended.parkListener ..).replaceListener ..
        · exact ended.parkListener ..
    generalize (if ((s0.ctx t x).circ c).listener = noListener then s0 else _) = s1 at parked ⊢
    split
    · exact ((parked.setFab ..).setCtx ..).carriageBit ..
    · exact (parked.setFab ..).setCtx ..

theorem Winds.closeAll (h : Winds k b s) (t x : Nat) : Winds k b (s.closeAll t x) := h.foldl fun _ _ _ hy => hy.closeCirc ..

theorem Winds.freeCtx (h : Winds k b s) (t i : Nat) : Winds k b (s.freeCtx t i) := by
  have freed := h.setFab t { s.fabT t with mcast := (s.fabT t).mcast.filter fun e => !(s.slotOwner t (e.1 / 32) (e.1 % 32) == some i) }
  unfold State.freeCtx
  dsimp only
  split
  · exact freed
  · exact ((freed.closeAll ..).setCtx ..).freeStreams ..

/-! ### Swaps, remaps and what a clearing was to do -/

theorem Winds.listenTaken (h : Winds k b s) (u f : Nat) : Winds k b (s.listenTaken u f) := by
  unfold State.listenTaken
  dsimp only
  split
  · exact h
  · refine (h.sf (.spareListen ..) _ _).foldl fun y j _ hy => ?_
    split
    · exact hy.setListener ..
    · exact hy

theorem Winds.swapEnd (h : Winds k b s) (t q : Nat) : Winds k b (s.swapEnd t q) := by
  unfold State.swapEnd
  split
  · exact h
  · next m _ =>
    have moved : Winds k b ((upto 16).foldl (fun y u =>
        if u = t then y
        else
          let f := foreignTrunk u t q
          (upto 9).foldl (fun z j =>
            let l := 9 * f + j
            let x := z.listener u l
            if (x.mode = .drop ∨ x.mode = .moving) ∧ x.ch = m % 64 then
              let z1 := z.parkListener u l
              z1.setFab u { z1.fabT u with spareJ := sset 0 (z1.fabT u).spareJ f (8 - j) }
            else z) y |>.listenTaken u f) s) := by
      refine h.foldl fun y u _ hy => ?_
      split
      · exact hy
      · refine Winds.listenTaken (hy.foldl fun z j _ hz => ?_) ..
        dsimp only
        split
        · exact (hz.parkListener ..).setFab ..
        · exact hz
    dsimp only
    split
    · exact moved.setFab ..
    · exact (moved.setFab ..).sf (.trunk ..) _ _

theorem Winds.calAbandon (h : Winds k b s) (t q : Nat) : Winds k b (s.calAbandon t q) := by
  unfold State.calAbandon
  dsimp only
  split
  · exact h
  · exact ((h.sf (.trunk ..) _ _).sf (.trunk ..) _ _).setFab ..

theorem Winds.swapListeners (h : Winds k b s) (t q l ch : Nat) : Winds k b (swapListeners s t q l ch) := by
  refine h.foldl fun y u _ hy => ?_
  split
  · exact hy
  · refine hy.foldl fun z x _ hz => hz.foldl fun w e _ hw => ?_
    split
    · split <;> exact (hw.setListener ..).setCtx ..
    · exact hw

theorem Winds.swapBegin (h : Winds k b s) (t q l : Nat) : Winds k b (s.swapBegin t q l) := by
  unfold State.swapBegin
  dsimp only
  split
  · exact h
  · exact (((((h.setSlotByte ..).swapListeners ..).sf (.trunk ..) _ _).sf (.trunk ..) _ _).sf (.trunk ..) _ _).setFab ..

theorem Winds.swapAsk (h : Winds k b s) (t q l : Nat) : Winds k b (s.swapAsk t q l) := by
  unfold State.swapAsk
  dsimp only
  split
  · split
    · exact (h.sf (.trunk ..) _ _).sf (.trunk ..) _ _
    · exact (h.swapBegin ..).swapEnd ..
  · exact (h.swapBegin ..).swapEnd ..

theorem Winds.swapNext (h : Winds k b s) (t q : Nat) : Winds k b (s.swapNext t q) := by
  unfold State.swapNext
  split
  · exact h
  · split
    · exact h
    · dsimp only
      split
      · exact h.calAbandon ..
      · exact (h.calAbandon ..).swapAsk ..

theorem Winds.swapsEnd (h : Winds k b s) (i : Nat) : Winds k b (s.swapsEnd i) := by
  refine h.foldl fun y q _ hy => ?_
  split
  · exact hy
  · split
    · exact (hy.swapEnd ..).swapNext ..
    · exact hy

theorem Winds.swapsNow (h : Winds k b s) (i : Nat) : Winds k b (s.swapsNow i) := by
  refine h.foldl fun y q _ hy => ?_
  dsimp only
  split
  · exact ((hy.swapBegin ..).swapEnd ..).swapNext ..
  · exact hy

theorem Winds.calHandover (h : Winds k b s) (t q : Nat) : Winds k b (s.calHandover t q) := by
  unfold State.calHandover
  split
  · exact h
  · exact (((h.setFab ..).sf (.trunk ..) _ _).sf (.trunk ..) _ _).swapNext ..

theorem Winds.handoversNow (h : Winds k b s) (i : Nat) : Winds k b (s.handoversNow i) := by
  refine h.foldl fun y q _ hy => ?_
  split
  · exact hy.calHandover ..
  · exact hy

theorem Winds.setLaneByte (h : Winds k b s) (t q l v : Nat) : Winds k b (s.setLaneByte t q l v) := h.setReg (.laneMap ..) _

theorem Winds.remapLanes (h : Winds k b s) (t q g i : Nat) : Winds k b (s.remapLanes t q g i) :=
  ((h.foldl fun _ _ _ hy => hy.setLaneByte ..).sf (.laneGroup ..) _ _).sf (.laneGroup ..) _ _

theorem Winds.remapsNow (h : Winds k b s) (t : Nat) : Winds k b (s.remapsNow t) := by
  unfold State.remapsNow
  split
  · exact h
  · exact (h.foldl fun _ _ _ hy => hy.remapLanes ..).setTile ..

theorem Winds.remapsOver (h : Winds k b s) (t i : Nat) : Winds k b (s.remapsOver t i) :=
  (h.foldl fun _ _ _ hy => hy.foldl fun _ _ _ hz => hz.setLaneByte ..).setTile ..

theorem Winds.remapsEnd (h : Winds k b s) (i : Nat) : Winds k b (s.remapsEnd i) := by
  refine h.foldl fun y t _ hy => ?_
  split
  · exact hy.remapsOver ..
  · exact hy

theorem Winds.clearingOver (h : Winds k b s) {i : Nat} (hi : i < 16) : Winds k b (s.clearingOver i) := by
  have ended := (h.swapsEnd i).remapsEnd i
  unfold State.clearingOver
  generalize (s.swapsEnd i).remapsEnd i = s1 at ended ⊢
  dsimp only
  refine Winds.foldl ?_ fun y c _ hy => hy.retireChannel ..
  split
  · exact ended.sf (.gateLevel hi) _ _
  · exact ended

theorem Winds.standDigest (h : Winds k b s) (i : Nat) : Winds k b (s.standDigest i) :=
  h.foldl fun _ _ hw hy => hy.setReg (.stdDigest i (List.mem_range.1 hw)) _

theorem Winds.budgetTaken (h : Winds k b s) (i : Nat) :
    Winds k b (let s2 := s.setStand i { s.stand i with budgetNext := none }
      if (upto 16).any fun j => (s2.stand j).budgetNext.isSome then s2
      else (s2.sf Reg.MGT_PLAN_STATUS Fld.MGT_PLAN_STATUS_pending 0).modCause 5) := by
  have taken := h.setStand i (x := { s.stand i with budgetNext := none }) ⟨rfl, rfl, rfl, rfl, rfl, rfl, rfl, rfl, id⟩ fun _ => rfl
  dsimp only
  split
  · exact taken
  · exact (taken.sf (.inr (.inr (.inl rfl))) _ _).modCause _

theorem Winds.budgetApply (h : Winds k b s) (hk : k < 3) (i : Nat) : Winds k b (s.budgetApply i) := by
  have plan (m : SMap Byte) : Winds k b { s with planForce := m } := h.of rfl rfl rfl rfl rfl rfl fun h3 => absurd h3 (by omega)
  unfold State.budgetApply
  split
  · exact h
  · exact (plan _).budgetTaken i

end

/-! ### The end of a run -/

section
variable {s : State} {i g : Nat}

/-- A core of the run keeps its fence and its flows' epoch alone. -/
def CoreSt.atEnd (c : CoreSt) : CoreSt := { CoreSt.zero with fenced := c.fenced, epoch := c.epoch }

theorem endCores_core (l : List Nat) (s : State) (g : Nat) :
    (l.foldl (fun x g => x.endCore g) s).core g = if g ∈ l then (s.core g).atEnd else s.core g := by
  induction l generalizing s with
  | nil => rfl
  | cons a l ih =>
    rw [List.foldl_cons, ih]
    by_cases here : g = a
    · subst here
      rw [State.endCore, State.core_setCore_same, if_pos (List.mem_cons_self ..)]
      split <;> rfl
    · rw [State.endCore, State.core_setCore_ne _ _ here]
      simp [here]

theorem Winds.endCores {b : State} (h : Winds 0 b s) (l : List Nat) : Winds 0 b (l.foldl (fun x g => x.endCore g) s) :=
  h.foldl fun _ _ _ hy => hy.setCore _ nofun

/-- What the end of a run on stand `i` leaves: the stand's state and run code, the cores' fences and epochs, and whatever the run's work does
not write. -/
structure RunEnded (i state code : Nat) (s u : State) : Prop where
  regs : ∀ a, ¬WindReg a → a ≠ Reg.STD_STATUS i → u.reg a = s.reg a
  state : u.stdState i = state
  code : u.gf (Reg.STD_STATUS i) Fld.STD_STATUS_run_code = code
  rest : ∀ f : Fld, 16 ≤ f.lo → f.lo + f.w ≤ 64 → u.gf (Reg.STD_STATUS i) f = s.gf (Reg.STD_STATUS i) f
  copies : u.copy0 = s.copy0 ∧ u.copy15 = s.copy15
  front : ∀ r rest, s.nvq = r :: rest → ∃ more, u.nvq = r :: more
  stand : (u.stand i).handling = none ∧ (u.stand i).loaded = false
  cores : ∀ g, u.core g = if g ∈ s.coresOf i then (s.core g).atEnd else s.core g

/-- A stand's status as the end of its run writes it. -/
theorem State.runStatus (s : State) (i : Nat) {state code : Nat} (hs : state < 8) (hc : code < 256) :
    let u := (s.sf (Reg.STD_STATUS i) Fld.STD_STATUS_run_code code).sf (Reg.STD_STATUS i) Fld.STD_STATUS_state state
    u.stdState i = state ∧ u.gf (Reg.STD_STATUS i) Fld.STD_STATUS_run_code = code :=
  ⟨State.gf_sf_val (by decide) hs, (State.gf_sf_apart (.inr (by decide)) (by decide)).trans (State.gf_sf_val (by decide) hc)⟩

/-- What the run's work leaves of a stand's status. -/
theorem Winds.status {k : Nat} {u : State} (h : Winds k s u) (hi : i < 16) (f : Fld) : u.gf (Reg.STD_STATUS i) f = s.gf (Reg.STD_STATUS i) f :=
  State.gf_of_reg (h.regs _ (WindReg.not_status hi)) f

theorem endRun_spec (hi : i < 16) {state code : Nat} (hs : state < 8) (hc : code < 256) (s : State) :
    RunEnded i state code s (s.endRun i state code) := by
  unfold State.endRun
  extract_lets cores s1 s2 own s3 s4 s5 a s6 x s7 y0 z0 s7a s8 y9 s9
  have h1 : Winds 1 s s1 := (Winds.refl 1 s).foldl fun x g _ hx => hx.foldl fun y n _ hy => hy.endOp (by decide) n
  have h2 : Winds 1 s s2 := h1.foldl fun x g _ hx => hx.foldl fun y m _ hy => hy.endMove ..
  have h3 : Winds 1 s s3 := h2.foldl fun x t _ hx => hx.setTile ..
  have ends := endCores_core cores s3
  have h3c : Winds 0 s (cores.foldl (fun x g => x.endCore g) s3) := (h3.mono (by decide)).endCores cores
  have h4c : Winds 1 (cores.foldl (fun x g => x.endCore g) s3) s4 := ((Winds.refl 1 _).foldl fun x t _ hx => hx.freeCtx t i).clearingOver hi
  have h5 : Winds 1 s4 s5 := ((Winds.refl 1 s4).standDigest i).setReg (.nextClear hi) _
  have h6 := s5.runStatus i hs hc
  have h7 : Winds 1 s6 s7 := (Winds.refl 1 s6).foldl fun y g _ hy => hy.degradeTower ..
  have h8 : Winds 2 s7a s8 := (((Winds.refl 2 s7a).swapsNow i).handoversNow i).foldl fun z t _ hz =>
    iteInduction (motive := Winds 2 s7a) (fun _ => hz) fun _ => hz.remapsNow t
  have h9 : Winds 2 s7a s9 := (h8.budgetApply (by decide) i).setPwr ..
  have last : Winds 2 s7a (if state = 3 ∨ state = 4 then s9.stdEvent i 0 else s9) :=
    iteInduction (motive := Winds 2 s7a) (fun _ => h9.stdEvent i 0) fun _ => h9
  have before : Winds 0 s s5 := (h3c.trans (h4c.mono (by decide))).trans (h5.mono (by decide))
  clear_value s4 s5 s7
  have front6 : ∀ r rest, s5.nvq = r :: rest → ∃ more, s7a.nvq = r :: more := fun r rest hr => by
    obtain ⟨more, hm⟩ := h7.front r rest ((State.sf_nvq ..).trans ((State.sf_nvq ..).trans hr))
    exact ⟨more, (State.setStand_nvq ..).trans hm⟩
  have copies6 : s7a.copy0 = s5.copy0 ∧ s7a.copy15 = s5.copy15 :=
    ⟨(State.setStand_copy0 ..).trans (h7.copies.1.trans ((State.sf_copy0 ..).trans (State.sf_copy0 ..))),
      (State.setStand_copy15 ..).trans (h7.copies.2.trans ((State.sf_copy15 ..).trans (State.sf_copy15 ..)))⟩
  have reg6 (b : Nat) (hb : ¬WindReg b) (ne : b ≠ Reg.STD_STATUS i) : s7a.reg b = s5.reg b :=
    (State.reg_setStand ..).trans ((h7.regs b hb).trans ((State.reg_sf_ne _ _ _ ne).trans (State.reg_sf_ne _ _ _ ne)))
  have status6 (f : Fld) : s7a.gf (Reg.STD_STATUS i) f = s6.gf (Reg.STD_STATUS i) f := (State.gf_setStand ..).trans (h7.status hi f)
  have cores6 (g : Nat) : s7a.core g = s4.core g := congrArg (sget CoreSt.zero · g) ((State.setStand_cores ..).trans
    ((h7.cores (by decide)).trans ((State.sf_cores ..).trans ((State.sf_cores ..).trans (h5.cores (by decide))))))
  generalize (if state = 3 ∨ state = 4 then s9.stdEvent i 0 else s9) = u at last ⊢
  have stand := last.stands i
  have handling := last.handling (by decide) i
  rw [State.stand_setStand_same] at stand handling
  refine ⟨fun b hb ne => ?_, ?_, ?_, fun f high inside => ?_, ?_, fun r rest hr => ?_, ⟨handling, stand.1⟩, fun g => ?_⟩
  · rw [last.regs b hb, reg6 b hb ne, before.regs b hb]
  · exact (last.status hi _).trans ((status6 _).trans h6.1)
  · exact (last.status hi _).trans ((status6 _).trans h6.2)
  · refine (last.status hi _).trans ((status6 _).trans (Eq.trans ?_ (before.status hi f)))
    have apart (g : Fld) (hg : g.lo + g.w ≤ 16) (y : State) (v : Nat) : (y.sf (Reg.STD_STATUS i) g v).gf (Reg.STD_STATUS i) f =
        y.gf (Reg.STD_STATUS i) f := State.gf_sf_apart (.inr (hg.trans high)) inside
    exact (apart _ (by decide) _ _).trans (apart _ (by decide) _ _)
  · exact ⟨last.copies.1.trans (copies6.1.trans before.copies.1), last.copies.2.trans (copies6.2.trans before.copies.2)⟩
  · obtain ⟨m5, q5⟩ := before.front r rest hr
    obtain ⟨m7, q7⟩ := front6 r m5 q5
    exact last.front r m7 q7
  · have kept : u.core g = (cores.foldl (fun x g => x.endCore g) s3).core g :=
      (congrArg (sget CoreSt.zero · g) (last.cores (by decide))).trans ((cores6 g).trans (congrArg (sget CoreSt.zero · g) (h4c.cores (by decide))))
    rw [kept, ends, show s3.core g = s.core g from congrArg (sget CoreSt.zero · g) (h3.cores (by decide))]

end

end Sys2Proof.Machine

/-! PROOF. The supply input, its excursions, and the thermal trip (R26, R27, R36, R443, R458, R491). -/

namespace Sys2Proof.Machine

/-! ### A write that is broken off is no record -/

theorem length_wordsOf (p : List Byte) {n : Nat} (hn : p.length ≤ n) : (wordsOf n p).length = (p.length + 7) / 8 := by
  induction n generalizing p with
  | zero => rw [List.length_eq_zero_iff.1 (Nat.le_zero.1 hn)]; rfl
  | succ n ih =>
    cases p with
    | nil => rfl
    | cons b rest =>
      rw [wordsOf, List.length_cons, ih _ (by rw [List.length_drop]; rw [List.length_cons] at hn ⊢; omega), List.length_drop, List.length_cons]
      rw [List.length_cons] at hn
      omega

theorem NvRec.length_words (r : NvRec) : r.words.length = 4 + (r.payload.length + 7) / 8 := by
  rw [NvRec.words]
  simp only [NvRec.front, List.length_append, List.length_cons, List.length_nil, length_wordsOf r.payload le_rfl]
  omega

/-- Fewer words than a record's begin no record. -/
theorem NvRec.parse_broken (prev : Nat) (r : NvRec) (hp : r.payload.length ≤ 65536) {k : Nat} (hk : k < r.words.length) :
    NvRec.parse prev (r.words.take k) = none := by
  have begins : ∃ h rest, r.words = h :: BitVec.ofNat 64 r.payload.length :: rest := ⟨_, _, rfl⟩
  obtain ⟨h, rest, words⟩ := begins
  match k with
  | 0 => rfl
  | 1 => rw [words]; rfl
  | k + 2 =>
    have size : (BitVec.ofNat 64 r.payload.length).toNat = r.payload.length := by
      rw [BitVec.toNat_ofNat]
      omega
    have left : (rest.take k).length ≤ k := List.length_take_le ..
    have bytes : ((rest.take k).flatMap fun w => bytesOf 8 w.toNat).length = 8 * (rest.take k).length := by
      simp [List.length_flatMap, length_bytesOf, Nat.mul_comm]
    rw [words, List.take_succ_cons, List.take_succ_cons, NvRec.parse]
    refine if_neg fun ⟨_, _, _, whole⟩ => ?_
    have long := congrArg List.length whole
    rw [List.length_take, NvRec.length_words, List.length_cons, List.length_cons] at long
    dsimp only at long
    rw [List.length_take, bytes, size] at long
    rw [NvRec.length_words] at hk
    omega

theorem NvCopy.setCur_setCur (c : NvCopy) {x : NvBank} (same : x.gen = c.cur.gen) (y : NvBank) : (c.setCur x).setCur y = c.setCur y := by
  have bank := NvCopy.setCur_bank same
  rw [NvCopy.setCur, bank]
  rcases c.bank_le with h | h <;> simp [NvCopy.setCur, h]

theorem NvCopy.setCur_self (c : NvCopy) : c.setCur c.cur = c := by
  unfold NvCopy.setCur NvCopy.cur
  split <;> rfl

/-- The scan of a copy takes nothing of a write that was broken off. -/
theorem NvCopy.scan_tear {c : NvCopy} (clean : c.cur.torn = []) (scanned : scanRecs [] ((c.cur.slot.map NvRec.seq).getD 0) c.recs = c.recs)
    {r : NvReq} (hp : r.payload.length ≤ 65536) {k : Nat} (hk : k < r.len) : (c.tear r k).scan [] = c := by
  have none_ : NvRec.parse c.cur.seq ((NvRec.words ⟨r.kind, r.key, c.seq + 1, r.payload⟩).take k) = none :=
    NvRec.parse_broken _ _ hp (by rw [NvRec.length_words]; exact hk)
  have whole : c.scan [] = c := if_pos ⟨clean, rfl⟩
  rw [NvCopy.tear, whole]
  generalize (NvRec.words ⟨r.kind, r.key, c.seq + 1, r.payload⟩).take k = w at none_
  have same : ({ c.cur with torn := w } : NvBank).gen = c.cur.gen := rfl
  have back : ({ c.cur with torn := w } : NvBank).scan [] = c.cur := by
    have recs : scanRecs [] ((c.cur.slot.map NvRec.seq).getD 0) c.cur.recs = c.cur.recs := scanned
    rw [NvBank.scan]
    dsimp only
    rw [recs, if_pos rfl, show NvBank.seq { slot := c.cur.slot, recs := c.cur.recs, torn := [] } = c.cur.seq from rfl, none_]
    dsimp only
    rw [← clean]
  rw [NvCopy.scan, NvCopy.setCur_cur same]
  split
  · next empty =>
    rw [show ({ c.cur with torn := w } : NvBank) = c.cur by rw [show w = c.cur.torn from empty.1.trans clean.symm]]
    exact c.setCur_self
  · rw [NvCopy.setCur_setCur c same, back, c.setCur_self]

/-! ### The module without power -/

section
variable {s : State}

theorem NvReq.len_pos (r : NvReq) : 0 < r.len := by
  unfold NvReq.len
  omega

theorem State.writeTorn_frame (s : State) : s.writeTorn =
    { s with nvq := s.writeTorn.nvq, freeCtr := s.writeTorn.freeCtr, copy0 := s.writeTorn.copy0, copy15 := s.writeTorn.copy15 } := by
  have parts : ∃ q c z f, s.writeTorn = { s with nvq := q, freeCtr := c, copy0 := z, copy15 := f } := by
    unfold State.writeTorn
    split
    · exact ⟨_, _, _, _, rfl⟩
    · dsimp only
      split
      · split <;> exact ⟨_, _, _, _, rfl⟩
      · split
        · split <;> exact ⟨_, _, _, _, rfl⟩
        · exact ⟨_, _, _, _, rfl⟩
  obtain ⟨q, c, z, f, h⟩ := parts
  rw [h]

theorem State.writeTorn_idle (h : s.nvq = []) : s.writeTorn = s := by
  unfold State.writeTorn
  rw [h]

/-- The words of a write that is broken off stand on the copy that was being written. -/
theorem State.writeTorn_tears {r : NvReq} {rest : List NvReq} (h : s.nvq = r :: rest) : ∃ k < r.len,
    (s.copy0.ok = true → (s.writeTorn.copy0 = s.copy0.tear r k ∧ s.writeTorn.copy15 = s.copy15) ∨
      (s.copy15.ok = true ∧ s.writeTorn.copy0 = s.copy0.tear r r.len ∧ s.writeTorn.copy15 = s.copy15.tear r k)) ∧
    (s.copy0.ok = false → s.copy15.ok = true → s.writeTorn.copy0 = s.copy0 ∧ s.writeTorn.copy15 = s.copy15.tear r k) := by
  refine ⟨(State.takeBelow { s with nvq := [] } r.len).1, Nat.mod_lt _ r.len_pos, fun ok => ?_, fun bad ok => ?_⟩
  · unfold State.writeTorn
    rw [h]
    dsimp only
    rw [if_neg (by simp [ok])]
    split
    · next both =>
      split
      · exact .inr ⟨both, rfl, rfl⟩
      · exact .inl ⟨rfl, rfl⟩
    · exact .inl ⟨rfl, rfl⟩
  · unfold State.writeTorn
    rw [h]
    dsimp only
    rw [if_pos (by simp [bad]), if_pos ok]
    exact ⟨rfl, rfl⟩

/-- The module without power, its input so. -/
def State.unpowered (s : State) (out : Bool) : State :=
  State.setReg { State.reset with
    power := false, inputOut := out, storeTemp := s.storeTemp, pending := s.pending, freeCtr := s.writeTorn.freeCtr,
    copy0 := s.writeTorn.copy0, copy15 := s.writeTorn.copy15, hbm := s.hbmFuses, out := s.out } Reg.SITE_CENSUS_GEN (s.reg Reg.SITE_CENSUS_GEN)

theorem State.powerOff_eq (s : State) : s.powerOff = s.unpowered s.inputOut := by
  have frame := s.writeTorn_frame
  unfold State.powerOff State.unpowered
  generalize s.writeTorn = y at frame ⊢
  rw [frame]
  rfl

theorem State.unpowered_with (s : State) (a b : Bool) : { s.unpowered a with inputOut := b } = s.unpowered b := rfl

theorem State.powerOn_eq (s : State) (vin : Nat) :
    s.powerOn vin = State.stored (({ s.unpowered false with power := true }).writes [(Reg.MGT_BOUNDARY, Fld.MGT_BOUNDARY_vin, vin)]) := by
  rw [State.powerOn, State.powerOff_eq, State.writes_one]
  rfl

theorem State.mem_hbmFuses {e : Nat × HbmSt} (h : e ∈ s.hbmFuses) : ∃ x, (e.1, x) ∈ s.hbm ∧ e.2 = { HbmSt.zero with hard := x.hard } := by
  obtain ⟨q, hq, some_⟩ := List.mem_filterMap.1 h
  split at some_
  · exact absurd some_ nofun
  · rw [← Option.some.inj some_]
    exact ⟨q.2, hq, rfl⟩

/-- The supply input of the module without power. -/
theorem supply_comes {vin : BitVec 12} (dead : s.power = false) :
    (1920 ≤ vin.toNat → vin.toNat ≤ (if s.inputOut then 2400 else 2480) → exec (.powerUp vin) s = .next (s.powerOn vin.toNat)) ∧
    (s.inputOut = true → 2400 < vin.toNat → exec (.powerUp vin) s = .next s) ∧
    (1920 ≤ vin.toNat → vin.toNat ≤ 2400 → exec (.inputReenable vin) s = .next (s.powerOn vin.toNat)) := by
  refine ⟨fun low high => ?_, fun out high => ?_, fun low high => ?_⟩
  · show execPowerUp vin s = _
    rw [execPowerUp, if_neg (by simp only [dead, Bool.false_eq_true, false_or, not_or]; omega)]
  · show execPowerUp vin s = _
    rw [execPowerUp, if_pos (.inr (.inr (by rw [if_pos out]; exact high)))]
  · show execInputReenable vin s = _
    rw [execInputReenable, if_pos ⟨by simp [dead], low, high⟩]

/-- The supply input of the module with power. -/
theorem supply_goes {vin : BitVec 12} (on : s.power = true) :
    exec .powerRemoval s = .next s.powerOff ∧
    (2480 < vin.toNat → exec (.inputOvervoltage vin) s = .next { s.powerOff with inputOut := true }) ∧
    (vin.toNat < 1760 → exec (.inputLockout vin) s = .next { s.powerOff with inputOut := true }) ∧
    (2400 < vin.toNat → vin.toNat ≤ 2480 → exec (.supplyHigh vin) s =
      .next ((s.sf Reg.MGT_BOUNDARY Fld.MGT_BOUNDARY_supply_high_seen 1).modCause 7)) := by
  refine ⟨?_, fun high => ?_, fun low => ?_, fun low high => ?_⟩
  · show execPowerRemoval s = _
    rw [execPowerRemoval, if_pos on]
  · show execInputOvervoltage vin s = _
    rw [execInputOvervoltage, if_pos ⟨on, high⟩]
  · show execInputLockout vin s = _
    rw [execInputLockout, if_pos ⟨on, low⟩]
  · show execSupplyHigh vin s = _
    rw [execSupplyHigh, if_pos ⟨on, low, high⟩]

/-- An excursion of the supply below 48.0 V. -/
theorem supply_excursion {vin : BitVec 12} (on : s.power = true) :
    (s.supplyLow = false → 1760 ≤ vin.toNat → vin.toNat < 1920 → exec (.supplyLowExcursion vin) s =
      .next (((({ s with supplyLow := true }).writes [(Reg.MGT_BOUNDARY, Fld.MGT_BOUNDARY_supply_low_seen, 1)]).modCause 7).corrected
        (ErrInfo.plain 10 6))) ∧
    (s.supplyLow = true → s.supplyPark = false →
      exec .supplyLowTimeout s = .next (({ s with supplyPark := true }.moduleFatal (ErrInfo.plain 10 1)).parkAll) ∧
      (1920 ≤ vin.toNat → vin.toNat ≤ 2480 → exec (.supplyReturn vin) s = .next { s with supplyLow := false, supplyPark := false })) ∧
    (s.supplyLow = true → s.supplyPark = true → 1920 ≤ vin.toNat → vin.toNat ≤ 2480 →
      exec (.supplyReturn vin) s = .next ({ s with supplyLow := false, supplyPark := false }.parkReturn)) := by
  refine ⟨fun high low band => ?_, fun low free => ⟨?_, fun above below => ?_⟩, fun low parked above below => ?_⟩
  · show execSupplyLowExcursion vin s = _
    rw [execSupplyLowExcursion, if_pos ⟨on, by simp [high], low, band⟩, State.writes_one]
  · show execSupplyLowTimeout s = _
    rw [execSupplyLowTimeout, if_pos ⟨on, low, by simp [free]⟩]
  · show execSupplyReturn vin s = _
    rw [execSupplyReturn, if_pos ⟨on, low, above, below⟩]
    dsimp only
    rw [if_neg (by simp [free])]
  · show execSupplyReturn vin s = _
    rw [execSupplyReturn, if_pos ⟨on, low, above, below⟩]
    dsimp only
    rw [if_pos parked]

end

/-! ### Every tower and every stack without power -/

section
variable {s : State}

/-- A tower loses its power. -/
def State.cutTower (y : State) (w : Nat) : State :=
  let a := Reg.SITE_LINK_STATE (w / 6) (w % 6)
  let z := (y.setBranches w 3).padSite w 1
  if z.gf a Fld.SITE_LINK_STATE_state = 3 then z.sf a Fld.SITE_LINK_STATE_state 0 else z

/-- A stand's power state as it is without power. -/
def State.cutStand (y : State) (i : Nat) : State := ((y.setPState i 3).setPStep i 0).setPwr i PwrSt.zero

theorem State.towersOff_eq (s : State) : s.towersOff = (upto 16).foldl State.cutStand
    ((upto 32).foldl (fun y j => y.stackSleep j) ((upto 96).foldl State.cutTower s)) := rfl

/-- The registers of a tower without power. -/
def CutReg (w a : Nat) : Prop := ClockReg w a ∨ a = Reg.PWR_PAD_HOLD (w / 6) ∨ a = Reg.SITE_LINK_STATE (w / 6) (w % 6)

theorem CutReg.high {w a : Nat} (h : CutReg w a) : 0x1_0000_0000 ≤ a := by
  rcases h with (h | h | h) | h | h
  · unfold Reg.CLK_SITE_ACTIVE at h; omega
  · unfold Reg.CLK_SITE_DIV at h; omega
  · unfold Reg.CLK_TILE_STATUS at h; omega
  · unfold Reg.PWR_PAD_HOLD at h; omega
  · unfold Reg.SITE_LINK_STATE at h; omega

theorem RegsOnly.cutTower (y : State) (w : Nat) : RegsOnly (CutReg w) y (y.cutTower w) := by
  have off : RegsOnly (CutReg w) y ((y.setBranches w 3).padSite w 1) :=
    ((RegsOnly.setBranches y w 3).mono fun _ => .inl).trans (.sf _ (.inr (.inl rfl)) _ _)
  unfold State.cutTower
  dsimp only
  split
  · exact off.trans (.sf _ (.inr (.inr rfl)) _ _)
  · exact off

theorem State.cutTower_mask (y : State) (w : Nat) : (y.cutTower w).gf (Reg.CLK_SITE_ACTIVE (w / 6) (w % 6)) Fld.CLK_SITE_ACTIVE_mask = 0 := by
  have padded : ((y.setBranches w 3).padSite w 1).gf (Reg.CLK_SITE_ACTIVE (w / 6) (w % 6)) Fld.CLK_SITE_ACTIVE_mask = 0 :=
    (State.gf_sf_ne _ _ _ _ (by unfold Reg.CLK_SITE_ACTIVE Reg.PWR_PAD_HOLD; omega)).trans (y.setBranches_mask w 3)
  unfold State.cutTower
  dsimp only
  split
  · rw [State.gf_sf_ne _ _ _ _ (by unfold Reg.CLK_SITE_ACTIVE Reg.SITE_LINK_STATE; omega)]
    exact padded
  · exact padded

theorem CutReg.apart {v w : Nat} (h : v ≠ w) : ¬CutReg v (Reg.CLK_SITE_ACTIVE (w / 6) (w % 6)) := by
  rintro (c | c | c)
  · exact not_clockReg h c
  · unfold Reg.CLK_SITE_ACTIVE Reg.PWR_PAD_HOLD at c
    omega
  · unfold Reg.CLK_SITE_ACTIVE Reg.SITE_LINK_STATE at c
    omega

theorem RegsOnly.stackSleep (y : State) (j : Nat) : RegsOnly StackReg y (y.stackSleep j) := by
  have pad (z : State) : RegsOnly StackReg z (z.padHbm j 1) := .sf _ ⟨_, 0, .inr rfl⟩ _ _
  unfold State.stackSleep
  dsimp only
  split
  · split
    · exact (RegsOnly.sf _ ⟨_, _, .inl ⟨rfl, Nat.mod_lt _ (by decide)⟩⟩ _ _).trans (pad _)
    · exact pad y
  · exact .refl _ y

theorem StackReg.high {a : Nat} (h : StackReg a) : 0x1_0000_0000 ≤ a := by
  obtain ⟨t, c, ⟨h, -⟩ | h⟩ := h
  · unfold Reg.HBM_STATE at h; omega
  · unfold Reg.PWR_PAD_HOLD at h; omega

theorem StackReg.clock (t c : Nat) : ¬StackReg (Reg.CLK_SITE_ACTIVE t c) := by
  rintro ⟨u, d, ⟨h, hd⟩ | h⟩
  · unfold Reg.CLK_SITE_ACTIVE Reg.HBM_STATE at h; omega
  · unfold Reg.CLK_SITE_ACTIVE Reg.PWR_PAD_HOLD at h; omega

/-- With every tower off no clock of a tower runs; no other stand state changes than those of power. -/
structure TowersCut (s u : State) : Prop where
  frame : u = { s with regs := u.regs, pwr := u.pwr }
  masks : ∀ w < 96, u.gf (Reg.CLK_SITE_ACTIVE (w / 6) (w % 6)) Fld.CLK_SITE_ACTIVE_mask = 0
  low : ∀ a < 0x1_0000_0000, (∀ i < 16, a ≠ Reg.PWR_STD_STATE i) → u.reg a = s.reg a

theorem RegsOnly.frame_pwr {R : Nat → Prop} {u : State} (h : RegsOnly R s u) : u = { s with regs := u.regs, pwr := u.pwr } := by
  rw [h.pwr]
  exact h.frame

theorem State.towersOff_spec (s : State) : TowersCut s s.towersOff := by
  have cut : RegsOnly (0x1_0000_0000 ≤ ·) s ((upto 96).foldl State.cutTower s) := .foldl _ _ fun y w => (RegsOnly.cutTower y w).mono fun _ => CutReg.high
  have masks : ∀ w < 96, ((upto 96).foldl State.cutTower s).gf (Reg.CLK_SITE_ACTIVE (w / 6) (w % 6)) Fld.CLK_SITE_ACTIVE_mask = 0 := fun w hw =>
    foldl_settles (P := fun y : State => y.gf (Reg.CLK_SITE_ACTIVE (w / 6) (w % 6)) Fld.CLK_SITE_ACTIVE_mask = 0) (List.mem_range.2 hw)
      (fun y => y.cutTower_mask w) fun y v _ ne kept => ((RegsOnly.cutTower y v).gf (CutReg.apart ne) _).trans kept
  rw [State.towersOff_eq]
  generalize (upto 96).foldl State.cutTower s = s1 at cut masks ⊢
  have sleep : RegsOnly StackReg s1 ((upto 32).foldl (fun y j => y.stackSleep j) s1) := .foldl _ _ fun y j => .stackSleep y j
  generalize (upto 32).foldl (fun y j => y.stackSleep j) s1 = s2 at sleep ⊢
  have both : RegsOnly (0x1_0000_0000 ≤ ·) s s2 := cut.trans (sleep.mono fun _ => StackReg.high)
  have low : ∀ a < 0x1_0000_0000, s2.reg a = s.reg a := fun a ha => both.regs a (by omega)
  refine List.foldlRecOn (motive := TowersCut s) _ _ ⟨both.frame_pwr, fun w hw => ?_, fun a ha _ => low a ha⟩
    fun y kept i hi => ?_
  · rw [sleep.gf (StackReg.clock _ _)]
    exact masks w hw
  · have hi16 := List.mem_range.1 hi
    have slept : RegsOnly (· = Reg.PWR_STD_STATE i) y ((y.setPState i 3).setPStep i 0) :=
      (RegsOnly.sf (R := (· = Reg.PWR_STD_STATE i)) y rfl _ _).trans (RegsOnly.sf (R := (· = Reg.PWR_STD_STATE i)) _ rfl _ _)
    rw [State.cutStand]
    generalize (y.setPState i 3).setPStep i 0 = z at slept ⊢
    refine ⟨by rw [slept.frame, kept.frame]; rfl, fun w hw => ?_, fun a ha apart => ?_⟩
    · exact (slept.gf (by unfold Reg.CLK_SITE_ACTIVE Reg.PWR_STD_STATE; omega) _).trans (kept.masks w hw)
    · exact (slept.regs a (apart i hi16)).trans (kept.low a ha apart)

end

/-! ### The thermal trip -/

section
variable {s t u : State}

/-- Between a trip and the cut of power the trip stays latched, and the store as it was but for writes asked for. -/
structure Latched (s u : State) : Prop where
  trip : u.reg Reg.THM_TRIP = s.reg Reg.THM_TRIP
  bit : u.gf Reg.MGT_BOUNDARY Fld.MGT_BOUNDARY_therm_trip = s.gf Reg.MGT_BOUNDARY Fld.MGT_BOUNDARY_therm_trip
  copies : u.copy0 = s.copy0 ∧ u.copy15 = s.copy15
  front : ∀ r rest, s.nvq = r :: rest → ∃ more, u.nvq = r :: more

theorem Latched.refl (s : State) : Latched s s := ⟨rfl, rfl, ⟨rfl, rfl⟩, fun _ rest h => ⟨rest, h⟩⟩

theorem Latched.trans (h : Latched s t) (k : Latched t u) : Latched s u := by
  refine ⟨k.trip.trans h.trip, k.bit.trans h.bit, ⟨k.copies.1.trans h.copies.1, k.copies.2.trans h.copies.2⟩, fun r rest hr => ?_⟩
  obtain ⟨more, hm⟩ := h.front r rest hr
  exact k.front r more hm

theorem WindReg.not_trip : ¬WindReg Reg.THM_TRIP := by
  unfold WindReg NvReg LogReg Reg.THM_TRIP Reg.HIF_MOD_INT Reg.THM_NV_WINDOW Reg.NVS_REFUSE Reg.MGT_PLAN_STATUS
  omega

theorem WindReg.not_boundary : ¬WindReg Reg.MGT_BOUNDARY := by
  unfold WindReg NvReg LogReg Reg.MGT_BOUNDARY Reg.HIF_MOD_INT Reg.THM_NV_WINDOW Reg.NVS_REFUSE Reg.MGT_PLAN_STATUS
  omega

theorem Winds.latched {k : Nat} (h : Winds k s u) : Latched s u :=
  ⟨h.regs _ WindReg.not_trip, State.gf_of_reg (h.regs _ WindReg.not_boundary) _, h.copies, h.front⟩

theorem RunEnded.latched {i state code : Nat} (h : RunEnded i state code s u) : Latched s u :=
  ⟨h.regs _ WindReg.not_trip (by unfold Reg.THM_TRIP Reg.STD_STATUS; omega),
    State.gf_of_reg (h.regs _ WindReg.not_boundary (by unfold Reg.MGT_BOUNDARY Reg.STD_STATUS; omega)) _, h.copies, h.front⟩

/-- A write of a register that is neither the trip nor the boundary. -/
theorem Latched.sf (s : State) {a : Nat} (trip : a ≠ Reg.THM_TRIP) (bound : a ≠ Reg.MGT_BOUNDARY) (f : Fld) (v : Nat) : Latched s (s.sf a f v) :=
  ⟨State.reg_sf_ne _ _ _ trip.symm, State.gf_sf_ne _ _ _ _ bound.symm, ⟨State.sf_copy0 .., State.sf_copy15 ..⟩,
    fun _ rest h => ⟨rest, (State.sf_nvq ..).trans h⟩⟩

/-- A write of another field of the boundary. -/
theorem Latched.boundary (s : State) {f : Fld} (apart : f.lo + f.w ≤ 7 ∨ 8 ≤ f.lo) (v : Nat) : Latched s (s.sf Reg.MGT_BOUNDARY f v) :=
  ⟨State.reg_sf_ne _ _ _ (by decide), State.gf_sf_apart apart.symm (by decide), ⟨State.sf_copy0 .., State.sf_copy15 ..⟩,
    fun _ rest h => ⟨rest, (State.sf_nvq ..).trans h⟩⟩

theorem Latched.fatalRuns (s : State) : Latched s s.fatalRuns :=
  List.foldlRecOn (motive := Latched s) _ _ (.refl s) fun y kept i hi =>
    kept.trans (endRun_spec (List.mem_range.1 (List.mem_filter.1 hi).1) (by decide) (by decide) y).latched

/-- The same, with the queue of store writes and the stands' states as they were. -/
structure LatchedStill (s u : State) : Prop extends Latched s u where
  nvq : u.nvq = s.nvq
  states : ∀ i < 16, u.stdState i = s.stdState i

theorem LatchedStill.trans (h : LatchedStill s t) (k : LatchedStill t u) : LatchedStill s u :=
  ⟨h.toLatched.trans k.toLatched, k.nvq.trans h.nvq, fun i hi => (k.states i hi).trans (h.states i hi)⟩

/-- A write of a register that is no stand's status, neither the trip nor the boundary. -/
theorem LatchedStill.sf (s : State) {a : Nat} (trip : a ≠ Reg.THM_TRIP) (bound : a ≠ Reg.MGT_BOUNDARY) (status : ∀ i < 16, a ≠ Reg.STD_STATUS i)
    (f : Fld) (v : Nat) : LatchedStill s (s.sf a f v) :=
  ⟨.sf s trip bound f v, State.sf_nvq .., fun i hi => State.gf_sf_ne _ _ _ _ (status i hi).symm⟩

theorem LatchedStill.boundary (s : State) {f : Fld} (apart : f.lo + f.w ≤ 7 ∨ 8 ≤ f.lo) (v : Nat) : LatchedStill s (s.sf Reg.MGT_BOUNDARY f v) :=
  ⟨.boundary s apart v, State.sf_nvq .., fun i _ => State.gf_sf_ne _ _ _ _ (by unfold Reg.STD_STATUS Reg.MGT_BOUNDARY; omega)⟩

theorem LatchedStill.ilk (s : State) (f : Fld) (v : Nat) : LatchedStill s (s.sf Reg.OPT_ILK_STATUS f v) :=
  .sf s (by decide) (by decide) (fun i _ => by unfold Reg.OPT_ILK_STATUS Reg.STD_STATUS; omega) f v

theorem LatchedStill.reports (r : Reports NvReg s u) : LatchedStill s u :=
  ⟨((Winds.refl 0 s).reports r).latched, by rw [r.frame], fun _ hi => ((Winds.refl 0 s).reports r).status hi _⟩

theorem LatchedStill.disarm (s : State) : LatchedStill s s.disarm :=
  List.foldlRecOn (motive := LatchedStill s) _ _ (.reports (.refl NvReg s)) fun _ kept q _ => kept.trans <|
    .sf _ (by unfold Reg.OPT_FIBRE Reg.THM_TRIP; omega) (by unfold Reg.OPT_FIBRE Reg.MGT_BOUNDARY; omega)
      (fun i _ => by unfold Reg.OPT_FIBRE Reg.STD_STATUS; omega) _ _

/-- The laser interlock opens for cause 2: its own writes, then the fatal error of every run that is left. -/
theorem State.ilkOpen_parts (s : State) : ∃ s5, LatchedStill s s5 ∧ (s.ilkOpen 2 none none = s5 ∨ s.ilkOpen 2 none none =
    ((upto 16).filter s5.inRun).foldl (fun y i => y.standFatal i { ErrInfo.plain 4 0x23 with tile := none, detail := none }) s5) := by
  unfold State.ilkOpen
  extract_lets a next ph s1 s2 s3 s5
  have h1 : LatchedStill s s1 := ((LatchedStill.ilk s _ _).trans (.ilk _ _ _)).trans (.ilk _ _ _)
  have h2 : LatchedStill s s2 := (h1.trans (.boundary _ (.inl (by decide)) _)).trans (.boundary _ (.inl (by decide)) _)
  have h5 : LatchedStill s s5 := (h2.trans (.disarm _)).trans (.reports ((Reports.modCause _ 8).mono fun _ => .log))
  split
  · exact ⟨s.setIlkPhase next, .ilk s _ _, .inl rfl⟩
  · rw [if_neg (by decide)]
    exact ⟨s5, h5, .inr rfl⟩

theorem Latched.ilkOpen (s : State) : Latched s (s.ilkOpen 2 none none) := by
  obtain ⟨s5, h5, opened | opened⟩ := s.ilkOpen_parts <;> rw [opened]
  · exact h5.toLatched
  · exact h5.toLatched.trans (((Winds.refl 0 s5).foldl fun y i _ hy => hy.standFatal (by decide) ..).latched)

/-- With no run there is none to end. -/
theorem State.fatalRuns_idle (idle : ∀ i < 16, s.inRun i = false) : s.fatalRuns = s := by
  rw [State.fatalRuns, List.filter_eq_nil_iff.2 fun i hi => by simp [idle i (List.mem_range.1 hi)]]
  rfl

theorem State.ilkOpen_idle (idle : ∀ i < 16, s.inRun i = false) : (s.ilkOpen 2 none none).nvq = s.nvq := by
  obtain ⟨s5, h5, opened | opened⟩ := s.ilkOpen_parts <;> rw [opened]
  · exact h5.nvq
  · have idle5 : ∀ i ∈ upto 16, ¬s5.inRun i = true := fun i hi => by
      rw [State.inRun, h5.states i (List.mem_range.1 hi)]
      simpa [State.inRun] using idle i (List.mem_range.1 hi)
    rw [List.filter_eq_nil_iff.2 idle5]
    exact h5.nvq

/-! What the store leaves of the trip's writes once they are asked for. -/

/-- From `s` to `u` writes of the store are given up: reports, the registers of the plan and the test access port, the copies kept. -/
structure GivenUp (s u : State) : Prop where
  regs : ∀ a, ¬NvReg a → a ≠ Reg.MGT_PLAN_STATUS → a ≠ Reg.SEC_TAP_CTL → u.reg a = s.reg a
  copies : u.copy0 = s.copy0 ∧ u.copy15 = s.copy15
  start : s.start.tripRec = true → u.start.tripRec = true

theorem GivenUp.refl (s : State) : GivenUp s s := ⟨fun _ _ _ _ => rfl, ⟨rfl, rfl⟩, id⟩

theorem GivenUp.trans (h : GivenUp s t) (k : GivenUp t u) : GivenUp s u :=
  ⟨fun a n p q => (k.regs a n p q).trans (h.regs a n p q), ⟨k.copies.1.trans h.copies.1, k.copies.2.trans h.copies.2⟩, fun x => k.start (h.start x)⟩

theorem Notes.givenUp (h : Notes s u) : GivenUp s u := by
  refine ⟨fun a n _ _ => h.regs a n, ?_, fun x => ?_⟩ <;> rw [h.frame]
  · exact ⟨rfl, rfl⟩
  · exact x

theorem GivenUp.plan (s : State) (f : Fld) (v : Nat) : GivenUp s (s.sf Reg.MGT_PLAN_STATUS f v) :=
  ⟨fun _ _ p _ => State.reg_sf_ne _ _ _ p, ⟨State.sf_copy0 .., State.sf_copy15 ..⟩, fun x => (congrArg StartSt.tripRec (State.sf_start ..)).trans x⟩

theorem GivenUp.tap (s : State) (f : Fld) (v : Nat) : GivenUp s (s.sf Reg.SEC_TAP_CTL f v) :=
  ⟨fun _ _ _ q => State.reg_sf_ne _ _ _ q, ⟨State.sf_copy0 .., State.sf_copy15 ..⟩, fun x => (congrArg StartSt.tripRec (State.sf_start ..)).trans x⟩

theorem GivenUp.commitPlan (s : State) (p : Nat) (m : SMap Byte) : GivenUp s (s.commitPlan p m) := by
  have cause (y : State) : GivenUp y (y.modCause 4) := ((Reports.modCause y 4).mono fun _ => .log).notes.givenUp
  have asked := GivenUp.plan s Fld.MGT_PLAN_STATUS_commit_port p
  unfold State.commitPlan
  dsimp only
  split
  · exact (asked.trans (.plan ..)).trans (cause _)
  · have put (r : NvReq) : GivenUp s ((s.sf Reg.MGT_PLAN_STATUS Fld.MGT_PLAN_STATUS_commit_port p).nvWrite r).2 :=
      asked.trans (Notes.nvWrite ..).givenUp
    split
    · next s2 e =>
      have kept : GivenUp s s2 := (congrArg (fun q : Bool × State => GivenUp s q.2) e).mp (put _)
      exact (kept.trans (.plan ..)).trans (.plan ..)
    · next s2 e =>
      have kept : GivenUp s s2 := (congrArg (fun q : Bool × State => GivenUp s q.2) e).mp (put _)
      exact (kept.trans (.plan ..)).trans (cause _)

theorem GivenUp.takeCommits (l : List (Nat × SMap Byte)) (s : State) : GivenUp s (takeCommits l s) := by
  induction l generalizing s with
  | nil => exact ⟨fun _ _ _ _ => rfl, ⟨rfl, rfl⟩, id⟩
  | cons q l ih =>
    have first := GivenUp.commitPlan s q.1 q.2
    rw [Machine.takeCommits]
    split
    · exact first.trans ⟨fun _ _ _ _ => rfl, ⟨rfl, rfl⟩, id⟩
    · exact first.trans (ih _)

theorem GivenUp.nvLost (s : State) (code : Nat) (r : NvReq) : GivenUp s (s.nvLost code r) := by
  have refused : GivenUp s (s.nvRefused code r.kind) := (Reports.nvRefused ..).notes.givenUp
  unfold State.nvLost
  generalize s.nvRefused code r.kind = s1 at refused ⊢
  dsimp only
  split
  · exact ((((refused.trans (.plan ..)).trans (.plan ..)).trans ((Reports.modCause _ 4).mono fun _ => .log).notes.givenUp)).trans (.takeCommits ..)
  · exact refused.trans ⟨fun _ _ _ _ => rfl, ⟨rfl, rfl⟩, id⟩
  · exact refused.trans ⟨fun _ _ _ _ => rfl, ⟨rfl, rfl⟩, id⟩
  · exact refused.trans ⟨fun _ _ _ _ => rfl, ⟨rfl, rfl⟩, fun _ => rfl⟩
  · have closed := refused.trans (GivenUp.tap s1 Fld.SEC_TAP_CTL_busy 0)
    generalize s1.sf Reg.SEC_TAP_CTL Fld.SEC_TAP_CTL_busy 0 = s2 at closed ⊢
    exact closed.trans ⟨fun _ _ _ _ => rfl, ⟨rfl, rfl⟩, id⟩
  · exact refused.trans ⟨fun _ _ _ _ => rfl, ⟨rfl, rfl⟩, id⟩
  · exact refused

theorem GivenUp.setNvq (s : State) (q : List NvReq) : GivenUp s { s with nvq := q } := ⟨fun _ _ _ _ => rfl, ⟨rfl, rfl⟩, id⟩

/-- A write at the front that is given up. -/
theorem GivenUp.front (s : State) (r : NvReq) (rest : List NvReq) : GivenUp s (({ s with nvq := rest }).nvLost 1 r) :=
  (GivenUp.setNvq s rest).trans (.nvLost ..)

theorem GivenUp.nvTurn (n : Nat) (s : State) : GivenUp s (nvTurn n s) := by
  induction n generalizing s with
  | zero => exact .refl s
  | succ n ih =>
    cases waits : s.nvq with
    | nil =>
      rw [Machine.nvTurn, waits]
      exact .refl s
    | cons r rest =>
      by_cases checked : r.checked = true
      · rw [Machine.nvTurn, waits]
        dsimp only
        rw [if_pos checked]
        exact .refl s
      · have unchecked : r.checked = false := by simpa using checked
        cases temp : s.nvTempOk with
        | true =>
          rw [nvTurn_warm waits unchecked temp]
          exact (Reports.nvWindow s).notes.givenUp
        | false =>
          rw [nvTurn_refused waits unchecked temp]
          exact (((Reports.nvWindow s).notes.givenUp).trans (.front ..)).trans (ih _)

end

section
variable {s : State}

/-- Every stack without power. -/
def State.stacksOff (s : State) : State := (upto 32).foldl (fun y j => y.sf (Reg.HBM_STATE (j / 2) (j % 2)) Fld.HBM_STATE_state 0) s

theorem RegsOnly.stacksOff (s : State) : RegsOnly StackReg s s.stacksOff :=
  .foldl _ _ fun y j => .sf y ⟨_, _, .inl ⟨rfl, Nat.mod_lt _ (by decide)⟩⟩ _ _

theorem State.stacksOff_state (s : State) {j : Nat} (hj : j < 32) : s.stacksOff.gf (Reg.HBM_STATE (j / 2) (j % 2)) Fld.HBM_STATE_state = 0 :=
  foldl_settles (P := fun y : State => y.gf (Reg.HBM_STATE (j / 2) (j % 2)) Fld.HBM_STATE_state = 0) (List.mem_range.2 hj)
    (fun y => State.gf_sf_val (by decide) (by decide)) fun y i _ ne kept =>
      (State.gf_sf_ne _ _ _ _ (by unfold Reg.HBM_STATE; omega)).trans kept

/-- The power of every tower and stack cut, with the trip and the store as they were. -/
structure PowerCut (s u : State) : Prop where
  trip : u.reg Reg.THM_TRIP = s.reg Reg.THM_TRIP
  bit : u.gf Reg.MGT_BOUNDARY Fld.MGT_BOUNDARY_therm_trip = s.gf Reg.MGT_BOUNDARY Fld.MGT_BOUNDARY_therm_trip
  copies : u.copy0 = s.copy0 ∧ u.copy15 = s.copy15
  nvq : u.nvq = s.nvq
  masks : ∀ w < 96, u.gf (Reg.CLK_SITE_ACTIVE (w / 6) (w % 6)) Fld.CLK_SITE_ACTIVE_mask = 0
  hbm : ∀ j < 32, u.gf (Reg.HBM_STATE (j / 2) (j % 2)) Fld.HBM_STATE_state = 0

theorem State.powerCut (s : State) : PowerCut s s.towersOff.stacksOff := by
  have off := s.towersOff_spec
  generalize s.towersOff = y at off ⊢
  have slept := RegsOnly.stacksOff y
  have low (a : Nat) (ha : a < 0x1_0000_0000) (apart : ∀ i < 16, a ≠ Reg.PWR_STD_STATE i) : y.stacksOff.reg a = s.reg a :=
    (slept.regs a fun h => absurd h.high (by omega)).trans (off.low a ha apart)
  refine ⟨low _ (by decide) fun i hi => ?_, State.gf_of_reg (low _ (by decide) fun i hi => ?_) _, ?_, ?_, fun w hw => ?_,
    fun j hj => y.stacksOff_state hj⟩
  · unfold Reg.THM_TRIP Reg.PWR_STD_STATE; omega
  · unfold Reg.MGT_BOUNDARY Reg.PWR_STD_STATE; omega
  · rw [slept.frame, off.frame]
    exact ⟨rfl, rfl⟩
  · rw [slept.frame, off.frame]
  · rw [slept.gf (StackReg.clock _ _)]
    exact off.masks w hw

/-- The store's write in progress is broken off; no register changes. -/
theorem State.tripTorn_spec (s : State) : s.tripTorn.regs = s.regs ∧ (s.nvq = [] → s.tripTorn = s) ∧
    ∀ r rest, s.nvq = r :: rest → s.tripTorn.nvq = rest ∧ ∃ k < r.len, s.tripTorn.copy0 = (if s.copy0.ok then s.copy0.tear r k else s.copy0) ∧
      s.tripTorn.copy15 = (if s.copy0.ok then s.copy15 else s.copy15.tear r k) := by
  cases waits : s.nvq with
  | nil =>
    have same : s.tripTorn = s := by
      unfold State.tripTorn
      rw [waits]
    rw [same]
    exact ⟨rfl, fun _ => rfl, fun _ _ => nofun⟩
  | cons r rest =>
    unfold State.tripTorn
    rw [waits]
    dsimp only
    refine ⟨?_, nofun, fun q more hq => ?_⟩
    · split <;> rfl
    · obtain ⟨rfl, rfl⟩ := List.cons.inj hq
      refine ⟨by split <;> rfl, (State.takeBelow { s with nvq := rest } r.len).1, Nat.mod_lt _ r.len_pos, ?_⟩
      by_cases ok : s.copy0.ok = true
      · rw [if_pos ok, if_pos ok, if_pos ok]
        exact ⟨rfl, rfl⟩
      · rw [if_neg ok, if_neg ok, if_neg ok]
        exact ⟨rfl, rfl⟩

/-- The trip's own record and error, before any run ends. -/
def State.tripLatch (s : State) (v : Word) (e : ErrInfo) : State :=
  ((s.setReg Reg.THM_TRIP v).sf Reg.MGT_BOUNDARY Fld.MGT_BOUNDARY_therm_trip 1).moduleFatal e

theorem State.tripLatch_spec (s : State) (v : Word) (e : ErrInfo) :
    (s.tripLatch v e).reg Reg.THM_TRIP = v ∧ (s.tripLatch v e).gf Reg.MGT_BOUNDARY Fld.MGT_BOUNDARY_therm_trip = 1 ∧
      ((s.tripLatch v e).copy0 = s.copy0 ∧ (s.tripLatch v e).copy15 = s.copy15) ∧ (s.tripLatch v e).nvq = s.nvq ∧
      ∀ i < 16, (s.tripLatch v e).inRun i = s.inRun i := by
  have first : (s.setReg Reg.THM_TRIP v).reg Reg.THM_TRIP = v := State.reg_setReg_same ..
  have kept (i : Nat) : (s.setReg Reg.THM_TRIP v).stdState i = s.stdState i :=
    State.gf_of_reg (State.reg_setReg_ne _ _ (by unfold Reg.THM_TRIP Reg.STD_STATUS; omega)) _
  have store : ((s.setReg Reg.THM_TRIP v).copy0 = s.copy0 ∧ (s.setReg Reg.THM_TRIP v).copy15 = s.copy15) ∧ (s.setReg Reg.THM_TRIP v).nvq = s.nvq :=
    ⟨⟨State.setReg_copy0 .., State.setReg_copy15 ..⟩, State.setReg_nvq ..⟩
  rw [State.tripLatch]
  generalize s.setReg Reg.THM_TRIP v = s1 at first kept store ⊢
  have flag : (s1.sf Reg.MGT_BOUNDARY Fld.MGT_BOUNDARY_therm_trip 1).gf Reg.MGT_BOUNDARY Fld.MGT_BOUNDARY_therm_trip = 1 :=
    State.gf_sf_val (by decide) (by decide)
  have trip : (s1.sf Reg.MGT_BOUNDARY Fld.MGT_BOUNDARY_therm_trip 1).reg Reg.THM_TRIP = v :=
    (State.reg_sf_ne _ _ _ (by decide)).trans first
  have states (i : Nat) : (s1.sf Reg.MGT_BOUNDARY Fld.MGT_BOUNDARY_therm_trip 1).stdState i = s.stdState i :=
    (State.gf_sf_ne _ _ _ _ (by unfold Reg.MGT_BOUNDARY Reg.STD_STATUS; omega)).trans (kept i)
  have store2 : ((s1.sf Reg.MGT_BOUNDARY Fld.MGT_BOUNDARY_therm_trip 1).copy0 = s.copy0 ∧
      (s1.sf Reg.MGT_BOUNDARY Fld.MGT_BOUNDARY_therm_trip 1).copy15 = s.copy15) ∧
      (s1.sf Reg.MGT_BOUNDARY Fld.MGT_BOUNDARY_therm_trip 1).nvq = s.nvq :=
    ⟨⟨(State.sf_copy0 ..).trans store.1.1, (State.sf_copy15 ..).trans store.1.2⟩, (State.sf_nvq ..).trans store.2⟩
  generalize s1.sf Reg.MGT_BOUNDARY Fld.MGT_BOUNDARY_therm_trip 1 = s2 at flag trip states store2 ⊢
  have told : Reports NvReg s2 (s2.moduleFatal e) :=
    ((Reports.logErr s2 (by decide) _).trans (Reports.modCause _ 0)).mono fun _ => .log
  have still := LatchedStill.reports told
  refine ⟨still.trip.trans trip, still.bit.trans flag, ⟨still.copies.1.trans store2.1.1, still.copies.2.trans store2.1.2⟩,
    still.nvq.trans store2.2, fun i hi => ?_⟩
  rw [State.inRun, still.states i hi, states]
  rfl

/-- The trip's cell of the error log. -/
def tripErr (tower layer tile : Nat) (hbm : Bool) : ErrInfo :=
  let w := if tower < 96 then tower else 0x7F
  { ErrInfo.plain 10 2 with tile := some tile, site := (if w < 96 then some (w % 6) else if hbm then some (6 + layer % 2) else none) }

/-- The write in progress broken off and the trip's record still to be written. -/
def State.tripNoted (s : State) : State := { s.tripTorn with start := { s.start with tripRec := true } }

theorem State.tripNoted_spec (s : State) : s.tripNoted.regs = s.regs ∧ s.tripNoted.start.tripRec = true ∧
    (s.nvq = [] → s.tripNoted.nvq = [] ∧ s.tripNoted.copy0 = s.copy0 ∧ s.tripNoted.copy15 = s.copy15) ∧
    ∀ r rest, s.nvq = r :: rest → s.tripNoted.nvq = rest ∧ ∃ k < r.len, s.tripNoted.copy0 = (if s.copy0.ok then s.copy0.tear r k else s.copy0) ∧
      s.tripNoted.copy15 = (if s.copy0.ok then s.copy15 else s.copy15.tear r k) := by
  obtain ⟨regs, empty, broken⟩ := s.tripTorn_spec
  rw [State.tripNoted]
  generalize s.tripTorn = y at regs empty broken ⊢
  refine ⟨regs, rfl, fun h => ?_, broken⟩
  rw [empty h]
  exact ⟨h, rfl, rfl⟩

/-- What the trip leaves of a state with the trip latched: its runs ended, its power cut and the write in progress broken off. -/
def State.tripEnds (s : State) : State :=
  let s4 := (s.fatalRuns.ilkOpen 2 none none).towersOff.stacksOff
  nvTurn 64 s4.tripNoted

theorem exec_thermalTrip {tower layer tile : Nat} {hbm : Bool} (ht : tile < 16) (hl : layer < 4) (on : s.power = true)
    (calm : s.gf Reg.THM_TRIP Fld.THM_TRIP_tripped = 0) : exec (.thermalTrip tower layer tile hbm) s =
      .next (s.tripLatch (BitVec.ofNat 64 (1 + 2 * (if tower < 96 then tower else 0x7F) + 2 ^ 8 * layer + 2 ^ 10 * tile +
        2 ^ 14 * boolNat hbm)) (tripErr tower layer tile hbm)).tripEnds := by
  show execThermalTrip tower layer tile hbm s = _
  rw [execThermalTrip, if_neg (by omega), if_neg (by simp [on, calm])]
  rfl

/-- Everything that the trip's end leaves, over the state with the trip latched. -/
structure TripEnded (s u : State) : Prop where
  trip : u.reg Reg.THM_TRIP = s.reg Reg.THM_TRIP
  bit : u.gf Reg.MGT_BOUNDARY Fld.MGT_BOUNDARY_therm_trip = s.gf Reg.MGT_BOUNDARY Fld.MGT_BOUNDARY_therm_trip
  record : u.start.tripRec = true
  masks : ∀ w < 96, u.gf (Reg.CLK_SITE_ACTIVE (w / 6) (w % 6)) Fld.CLK_SITE_ACTIVE_mask = 0
  hbm : ∀ j < 32, u.gf (Reg.HBM_STATE (j / 2) (j % 2)) Fld.HBM_STATE_state = 0
  torn : ∀ r rest, s.nvq = r :: rest → ∃ k < r.len, u.copy0 = (if s.copy0.ok then s.copy0.tear r k else s.copy0) ∧
    u.copy15 = (if s.copy0.ok then s.copy15 else s.copy15.tear r k)
  idle : (∀ i < 16, s.inRun i = false) → (s.nvq = [] → u.copy0 = s.copy0 ∧ u.copy15 = s.copy15) ∧ ∀ r, s.nvq = [r] → u.nvq = []

theorem nvTurn_nil (n : Nat) (h : s.nvq = []) : nvTurn n s = s := by
  cases n with
  | zero => rfl
  | succ n => rw [nvTurn, h]

theorem State.tripEnds_spec (s : State) : TripEnded s s.tripEnds := by
  have latched : Latched s (s.fatalRuns.ilkOpen 2 none none) := (Latched.fatalRuns s).trans (.ilkOpen _)
  have quiet : (∀ i < 16, s.inRun i = false) → (s.fatalRuns.ilkOpen 2 none none).nvq = s.nvq := fun idle => by
    rw [State.fatalRuns_idle idle]
    exact State.ilkOpen_idle idle
  rw [State.tripEnds]
  generalize s.fatalRuns.ilkOpen 2 none none = c at latched quiet ⊢
  have cut := c.powerCut
  generalize c.towersOff.stacksOff = d at cut ⊢
  obtain ⟨regs, record, none_, torn⟩ := d.tripNoted_spec
  generalize d.tripNoted = f at regs record none_ torn ⊢
  have reg (a : Nat) : f.reg a = d.reg a := congrArg (sget (regDefault a) · a) regs
  have given := GivenUp.nvTurn 64 f
  have high (a : Nat) (h : 0x1_0000_0000 ≤ a) : (nvTurn 64 f).reg a = d.reg a :=
    (given.regs a (fun n => absurd n.low (by omega)) (by unfold Reg.MGT_PLAN_STATUS; omega) (by unfold Reg.SEC_TAP_CTL; omega)).trans (reg a)
  have low (a : Nat) (h : ¬WindReg a) (ne : a ≠ Reg.SEC_TAP_CTL) : (nvTurn 64 f).reg a = d.reg a :=
    (given.regs a (fun n => h (.inr (.inl n))) (fun e => h (.inr (.inr (.inl e)))) ne).trans (reg a)
  refine ⟨?_, ?_, given.start record, fun w hw => ?_, fun j hj => ?_, fun r rest hr => ?_, fun idle => ⟨fun hq => ?_, fun r hr => ?_⟩⟩
  · exact (low _ WindReg.not_trip (by decide)).trans (cut.trip.trans latched.trip)
  · exact (State.gf_of_reg (low _ WindReg.not_boundary (by decide)) _).trans (cut.bit.trans latched.bit)
  · exact (State.gf_of_reg (high _ (by unfold Reg.CLK_SITE_ACTIVE; omega)) _).trans (cut.masks w hw)
  · exact (State.gf_of_reg (high _ (by unfold Reg.HBM_STATE; omega)) _).trans (cut.hbm j hj)
  · obtain ⟨more, hm⟩ := latched.front r rest hr
    have broken := (torn r more (cut.nvq.trans hm)).2
    rw [cut.copies.1, cut.copies.2, latched.copies.1, latched.copies.2] at broken
    obtain ⟨k, hk, zero, fifteen⟩ := broken
    exact ⟨k, hk, given.copies.1.trans zero, given.copies.2.trans fifteen⟩
  · obtain ⟨-, zero, fifteen⟩ := none_ (cut.nvq.trans ((quiet idle).trans hq))
    exact ⟨given.copies.1.trans (zero.trans (cut.copies.1.trans latched.copies.1)),
      given.copies.2.trans (fifteen.trans (cut.copies.2.trans latched.copies.2))⟩
  · have done := (torn r [] (cut.nvq.trans ((quiet idle).trans hr))).1
    rw [nvTurn_nil 64 done]
    exact done

/-- With the trip latched no stack has its supply. -/
theorem State.supply_tripped {v : Nat} (h : s.reg Reg.THM_TRIP = BitVec.ofNat 64 (1 + 2 * v)) (j : Nat) : s.supply (.stack j) = .off := by
  have tripped : s.tripped = true := by
    rw [State.tripped, beq_iff_eq, State.gf, h, natBits, BitVec.toNat_ofNat]
    show (1 + 2 * v) % 2 ^ 64 / 2 ^ 0 % 2 ^ 1 = 1
    omega
  rw [State.supply, tripped]
  simp

theorem exec_tripRecordWrite (asked : s.start.tripRec = true) (cool : ∀ x ∈ s.junctions, x ≤ 720) :
    let w := s.nvWrite ⟨7, 0, bytesOf 8 s.gtc.toNat ++ bytesOf 4 (s.reg Reg.THM_TRIP).toNat, .trip⟩
    exec .tripRecordWrite s = .next (if w.1 then { w.2 with start := { w.2.start with tripRec := false } } else w.2) := by
  intro w
  show execTripRecordWrite s = _
  rw [execTripRecordWrite, if_neg (by simpa [asked] using cool)]

end

/-- Settles O50: the module without power in its own lemmas; the trip from its latch, over the end of every run, to the cut. -/
theorem supplyAndTrip : Obligations.SupplyAndTrip := by
  unfold Obligations.SupplyAndTrip
  refine ⟨fun s vin => ?_, fun s vin on => supply_excursion on, fun s tower layer tile hbm ht hl => ⟨fun on calm => ?_, fun asked cool => ?_⟩⟩
  · intro y off on
    refine ⟨State.writeTorn_idle, fun e he => State.mem_hbmFuses he, fun r rest hr => State.writeTorn_tears hr,
      fun c r k clean scanned hp hk => NvCopy.scan_tear clean scanned hp hk, fun dead => ?_, fun powered => ?_⟩
    · have comes : s.powerOn vin.toNat = on := s.powerOn_eq vin.toNat
      rw [← comes]
      exact supply_comes dead
    · have goes := supply_goes (vin := vin) powered
      rw [s.powerOff_eq, s.unpowered_with] at goes
      exact goes
  · obtain ⟨trip, bit, copies, nvq, runs⟩ := s.tripLatch_spec (BitVec.ofNat 64 (1 + 2 * (if tower < 96 then tower else 0x7F) + 2 ^ 8 * layer +
      2 ^ 10 * tile + 2 ^ 14 * boolNat hbm)) (tripErr tower layer tile hbm)
    refine ⟨_, exec_thermalTrip ht hl on calm, ?_⟩
    generalize s.tripLatch _ _ = s2 at trip bit copies nvq runs ⊢
    obtain ⟨trip', bit', record, masks, stacks_, torn, idle⟩ := s2.tripEnds_spec
    rw [copies.1, copies.2, nvq] at torn idle
    have latched := trip'.trans trip
    refine ⟨record, fun free => idle fun i hi => (runs i hi).trans (free i hi), torn, fun j _ => ?_, latched, bit'.trans bit, masks, stacks_⟩
    refine State.supply_tripped (v := (if tower < 96 then tower else 0x7F) + 2 ^ 7 * layer + 2 ^ 9 * tile + 2 ^ 13 * boolNat hbm) (latched.trans ?_) j
    congr 1
    omega
  · exact exec_tripRecordWrite asked cool

end Sys2Proof.Machine

/-! PROOF. Launch and abort words, loading, and what the end of a run leaves (R60 to R66, R146, R529). -/

namespace Sys2Proof.Machine

/-! ### What a wake changes -/

/-- From `s` to `u` only registers and the stands' power states change. -/
def PowerOnly (s u : State) : Prop := u = { s with regs := u.regs, pwr := u.pwr }

section
variable {s t u : State}

theorem PowerOnly.refl (s : State) : PowerOnly s s := rfl

theorem PowerOnly.trans (h : PowerOnly s t) (k : PowerOnly t u) : PowerOnly s u := by
  unfold PowerOnly at h k ⊢
  rw [k, h]

theorem RegsOnly.powerOnly {R : Nat → Prop} (h : RegsOnly R s u) : PowerOnly s u := h.frame_pwr

theorem PowerOnly.sf (s : State) (a : Nat) (f : Fld) (v : Nat) : PowerOnly s (s.sf a f v) :=
  (RegsOnly.sf (R := (· = a)) s rfl f v).powerOnly

theorem PowerOnly.setPwr (s : State) (k : Nat) (x : PwrSt) : PowerOnly s (s.setPwr k x) := rfl

theorem PowerOnly.foldl {α : Type} {f : State → α → State} (l : List α) (s : State) (h : ∀ y a, PowerOnly y (f y a)) :
    PowerOnly s (l.foldl f s) :=
  List.foldlRecOn (motive := PowerOnly s) _ _ (.refl s) fun y kept a _ => kept.trans (h y a)

theorem PowerOnly.startTower (s : State) (i : Nat) : PowerOnly s (s.startTower i) := by
  unfold State.startTower
  dsimp only
  split
  · exact .refl s
  · exact ((PowerOnly.setPwr ..).trans (.sf ..)).trans (.foldl _ _ fun y j => (RegsOnly.stackLeave y j).powerOnly)

theorem PowerOnly.startAll (i n : Nat) (s : State) : PowerOnly s (startAll i n s) := by
  induction n generalizing s with
  | zero => exact .refl s
  | succ n ih => exact (PowerOnly.startTower s i).trans (ih _)

theorem PowerOnly.enter (s : State) (i g : Nat) : PowerOnly s (s.enter i g) := by
  unfold State.enter
  dsimp only
  split
  · exact .refl s
  · exact (PowerOnly.sf ..).trans (.setPwr ..)

theorem PowerOnly.exitOver (s : State) (i : Nat) : PowerOnly s (s.exitOver i) := by
  have left : PowerOnly s ((s.stacksOf i).foldl (fun y j => y.stackWake j) s) := .foldl _ _ fun y j => (RegsOnly.stackWake y j).powerOnly
  have shown (v : Nat) : PowerOnly s (if (s.pwrS i).undo then (((s.stacksOf i).foldl (fun y j => y.stackWake j) s).setPState i 0).setPStep i 0
      else ((((s.stacksOf i).foldl (fun y j => y.stackWake j) s).setPState i 0).setPStep i 0).sf (Reg.PWR_STD_WAKE i)
        Fld.PWR_STD_WAKE_ticks v) := by
    split
    · exact (left.trans (.sf ..)).trans (.sf ..)
    · exact ((left.trans (.sf ..)).trans (.sf ..)).trans (.sf ..)
  unfold State.exitOver
  dsimp only
  split
  · split
    · exact (shown _).trans (.setPwr ..)
    · exact ((shown _).trans (.setPwr ..)).trans (.enter ..)
  · exact (shown _).trans (.setPwr ..)

theorem PowerOnly.exitStart (s : State) (i : Nat) : PowerOnly s (s.exitStart i) := by
  have first (x : PwrSt) : PowerOnly s ((s.setPStep i 6).setPwr i x) := (PowerOnly.sf ..).trans (.setPwr ..)
  have left (y : State) (ws : List Nat) :
      PowerOnly y ((y.stacksOf i).foldl (fun z j => if ws.any fun w => w / 6 = j / 2 then z else z.stackLeave j) y) := by
    refine .foldl _ _ fun z j => ?_
    split
    · exact .refl z
    · exact (RegsOnly.stackLeave z j).powerOnly
  have starts (y : State) (h : PowerOnly s y) (ws : List Nat) : PowerOnly s (if ws = [] then y.exitOver i
      else if y.rampBefore i then y.sf (Reg.PWR_STD_STATE i) Fld.PWR_STD_STATE_ramping 1
      else if s.gf (Reg.PWR_STD_CTL i) Fld.PWR_STD_CTL_ramp = 0 then Machine.startAll i ws.length y
      else y.startTower i) := by
    split
    · exact h.trans (.exitOver ..)
    · split
      · exact h.trans (.sf ..)
      · split
        · exact h.trans (.startAll ..)
        · exact h.trans (.startTower ..)
  unfold State.exitStart
  exact starts _ ((first _).trans (left _ _)) _

theorem PowerOnly.wake (s : State) (i : Nat) : PowerOnly s (s.wake i) := by
  unfold State.wake
  dsimp only
  split
  · exact .setPwr ..
  · split
    · exact .setPwr ..
    · split
      · exact .setPwr ..
      · split
        · exact .setPwr ..
        · exact (PowerOnly.setPwr ..).trans (.exitStart ..)

end

/-! ### The registers and cores of a launch -/

/-- A register of a stand, of its digests on a tile, or of a context's repeat. -/
def LaunchReg (a : Nat) : Prop :=
  (0x1000 ≤ a ∧ a < 0x1800) ∨ (0x1000000 ≤ a ∧ a < 0x2000000) ∨
    0x1_0000_0000 ≤ a ∧ (0x300400 ≤ a % 0x1_0000_0000 ∧ a % 0x1_0000_0000 < 0x300800 ∨
      0x100000 ≤ a % 0x1_0000_0000 ∧ a % 0x1_0000_0000 < 0x100200)

section
variable {R : Nat → Prop} {s t u : State} {i : Nat}

/-- The registers of a run begin anew but for its status and its tag. -/
def RunReg (i a : Nat) : Prop := LaunchReg a ∧ a ≠ Reg.STD_STATUS i ∧ a ≠ Reg.STD_TAG_RUN i

theorem RegsOnly.setRegs (f : Nat → Word) (l : List Nat) (s : State) (h : ∀ a ∈ l, R a) :
    RegsOnly R s (l.foldl (fun x a => x.setReg a (f a)) s) :=
  List.foldlRecOn (motive := RegsOnly R s) _ _ (.refl R s) fun _ kept a ha => kept.trans (.setReg _ (h a ha) _)

theorem RegsOnly.runRegs (hi : i < 16) (s : State) : RegsOnly (RunReg i) s (s.runRegs i) := by
  have low (a : Nat) (h : 0x1000 ≤ a ∧ a < 0x1800 ∨ 0x1000000 ≤ a ∧ a < 0x2000000) (p : a ≠ Reg.STD_STATUS i) (q : a ≠ Reg.STD_TAG_RUN i) :
      RunReg i a := ⟨by unfold LaunchReg; omega, p, q⟩
  have high (k w : Nat) (hk : k < 16) (hw : w < 8) : RunReg i (Reg.PKT_DIGEST k i w) := by
    unfold RunReg LaunchReg Reg.PKT_DIGEST Reg.STD_STATUS Reg.STD_TAG_RUN
    omega
  have digests (y : State) (k : Nat) (hk : k < 16) : RegsOnly (RunReg i) y (y.setDigestReg (Reg.PKT_DIGEST k i) 0) :=
    List.foldlRecOn (motive := RegsOnly (RunReg i) y) _ _ (.refl _ y) fun _ kept w hw => kept.trans (.setReg _ (high k w hk (List.mem_range.1 hw)) _)
  unfold State.runRegs
  extract_lets ones s1 s2 s3
  have h1 : RegsOnly (RunReg i) s s1 := .setRegs (fun _ => 0) _ s (by
    simp only [List.mem_cons, List.not_mem_nil, or_false, forall_eq_or_imp, forall_eq]
    refine ⟨?_, ?_, ?_, ?_, ?_⟩ <;> refine low _ ?_ ?_ ?_ <;>
      simp only [Reg.STD_BEATS, Reg.STD_HOLDS, Reg.STD_HOLD_RUN, Reg.STD_CLEARINGS, Reg.STD_CLEAR_ABANDON, Reg.STD_STATUS, Reg.STD_TAG_RUN] <;> omega)
  have h2 : RegsOnly (RunReg i) s1 s2 := .setRegs (fun _ => ones) _ s1 (by
    simp only [List.mem_cons, List.not_mem_nil, or_false, forall_eq_or_imp, forall_eq]
    refine ⟨?_, ?_, ?_⟩ <;> refine low _ ?_ ?_ ?_ <;>
      simp only [Reg.STD_FAIL_BEAT, Reg.STD_REJOIN_BEAT, Reg.STD_NEXT_CLEAR, Reg.STD_STATUS, Reg.STD_TAG_RUN] <;> omega)
  have h3 : RegsOnly (RunReg i) s2 s3 := .setRegs regDefault _ s2 (by
    simp only [List.mem_cons, List.not_mem_nil, or_false, forall_eq_or_imp, forall_eq]
    refine ⟨?_, ?_, ?_⟩ <;> refine low _ ?_ ?_ ?_ <;>
      simp only [Reg.STD_HOLD_LAST, Reg.STD_FENCES, Reg.STD_ERR, Reg.STD_STATUS, Reg.STD_TAG_RUN] <;> omega)
  exact ((h1.trans h2).trans h3).trans (List.foldlRecOn (motive := RegsOnly (RunReg i) s3) _ _ (.refl _ s3) fun y kept k hk =>
    kept.trans (digests y k (List.mem_range.1 hk)))

/-- A core as a launch leaves it. -/
def CoreSt.launched (c : CoreSt) : CoreSt := { CoreSt.zero with fenced := c.fenced, epoch := c.epoch + 1 }

theorem launchCores_core {l : List Nat} (nodup : l.Nodup) (s : State) (g : Nat) :
    (l.foldl (fun x g => x.setCore g (x.core g).launched) s).core g = if g ∈ l then (s.core g).launched else s.core g := by
  induction l generalizing s with
  | nil => rfl
  | cons a l ih =>
    obtain ⟨notin, rest⟩ := List.nodup_cons.1 nodup
    rw [List.foldl_cons, ih rest]
    by_cases here : g = a
    · subst here
      rw [State.core_setCore_same, if_neg notin, if_pos (List.mem_cons_self ..)]
    · rw [State.core_setCore_ne _ _ here]
      simp [here]

theorem State.coresOf_nodup (s : State) (i : Nat) : (s.coresOf i).Nodup := by
  unfold State.coresOf
  refine List.nodup_flatMap.2 ⟨fun w _ => List.Nodup.map (fun a b => by omega) List.nodup_range, ?_⟩
  refine List.Pairwise.imp_of_mem ?_ (List.Nodup.filter _ List.nodup_range)
  intro v w _ _ ne g hv hw
  obtain ⟨a, ha, rfl⟩ := List.mem_map.1 hv
  obtain ⟨c, hc, e⟩ := List.mem_map.1 hw
  have := List.mem_range.1 ha
  have := List.mem_range.1 hc
  omega

theorem State.mem_coresOf {g : Nat} (h : g ∈ s.coresOf i) : towerOf g ∈ s.towersOf i := by
  obtain ⟨w, hw, hg⟩ := List.mem_flatMap.1 h
  obtain ⟨k, hk, rfl⟩ := List.mem_map.1 hg
  rw [show towerOf (128 * w + k) = w by have := List.mem_range.1 hk; unfold towerOf; omega]
  exact hw

/-- A place of a core's data memory names its memory and its tower. -/
theorem dmAddr_fields {g o : Nat} (hg : towerOf g < 96) (ho : o < dmBytes) :
    natBits (dmAddr g o) 44 4 = 3 ∧ natBits (dmAddr g o) 37 7 = towerOf g := by
  unfold natBits dmAddr rowOf colOf dmBytes towerOf at *
  omega

end

/-! ### A launch, part by part -/

section
variable {s t u : State} {i : Nat} {c : RunCopy}

/-- The registers of a stand that a launch starts. -/
def State.launchRegs (s : State) (i : Nat) (c : RunCopy) : State :=
  ((((s.sf (Reg.STD_STATUS i) Fld.STD_STATUS_state 1).sf (Reg.STD_STATUS i) Fld.STD_STATUS_run_code 1).sf (Reg.STD_STATUS i)
    Fld.STD_STATUS_cmd_code 1).sf (Reg.STD_TAG_RUN i) Fld.STD_TAG_RUN_tag c.tag.toNat).runRegs i

/-- Its towers' memory and crossings, its contexts, and what its stand takes over. -/
def State.launchUnits (s : State) (i : Nat) (c : RunCopy) : State :=
  let ws := s.towersOf i
  let cleared := memClear s.mem fun b => decide (natBits b 44 4 = 3) && ws.contains (natBits b 37 7)
  let s3 := { s with mem := cleared, regions := s.regions.filter fun e => !(ws.contains (e.1 / 9)) }
  let s4 := (s3.tilesOf i).foldl (fun x t =>
    match (upto 6).find? fun k => (x.ctx t k).state = 0 with
    | some k =>
      let k1 := { CtxSt.zero with state := 1, stand := i }
      (x.setCtx t k k1).setReg (Reg.FAB_CTX_REPEAT t k) 0
    | none => x) s3
  (s4.towersOf i).foldl (fun y w => if (y.site w).images = [] then y else y.setSite w { y.site w with images := [] })
    (s4.setStand i { s4.stand i with copy := c, loaded := false })

/-- The stand as it stands before its units are found whole or not. -/
def State.launchState (s : State) (i : Nat) (c : RunCopy) : State :=
  (((s.launchRegs i c).coresOf i).foldl (fun x g => x.setCore g (x.core g).launched) (s.launchRegs i c)).launchUnits i c

theorem State.launchGo_eq (s : State) (i : Nat) (c : RunCopy) : s.launchGo i c =
    match (s.launchState i c).launchFault i c.bl.toNat with
    | some e => ((s.launchState i c).wake i).failLaunch i e
    | none => (s.launchState i c).wake i := by
  unfold State.launchGo
  extract_lets a s1 z s2 ws cleared s3 z1 k1 s4 x0 s5
  have regs : s1 = s.launchRegs i c := rfl
  have cores : s2 = (s1.coresOf i).foldl (fun x g => x.setCore g (x.core g).launched) s1 := rfl
  clear_value s1
  clear_value s2
  have units : s5 = s2.launchUnits i c := rfl
  rewrite [State.launchState, ← regs, ← cores, ← units]
  clear_value s5
  cases s5.launchFault i c.bl.toNat <;> rfl

/-- The status of a launched stand in register `a`, its tag in register `b`. -/
theorem State.launchFields {a b : Nat} (apart : a ≠ b) (s : State) {tag : Nat} (ht : tag < 2 ^ 16) :
    let u := (((s.sf a Fld.STD_STATUS_state 1).sf a Fld.STD_STATUS_run_code 1).sf a Fld.STD_STATUS_cmd_code 1).sf b Fld.STD_TAG_RUN_tag tag
    u.gf a Fld.STD_STATUS_state = 1 ∧ u.gf a Fld.STD_STATUS_run_code = 1 ∧ u.gf a Fld.STD_STATUS_cmd_code = 1 ∧
      u.gf b Fld.STD_TAG_RUN_tag = tag := by
  intro u
  have kept (y : State) (f : Fld) (v : Nat) : (y.sf b Fld.STD_TAG_RUN_tag v).gf a f = y.gf a f := State.gf_sf_ne _ _ _ _ apart
  refine ⟨(kept ..).trans ?_, (kept ..).trans ?_, (kept ..).trans ?_, State.gf_sf_val (by decide) ht⟩
  · exact (State.gf_sf_apart (.inl (by decide)) (by decide)).trans
      ((State.gf_sf_apart (.inl (by decide)) (by decide)).trans (State.gf_sf_val (by decide) (by decide)))
  · exact (State.gf_sf_apart (.inl (by decide)) (by decide)).trans (State.gf_sf_val (by decide) (by decide))
  · exact State.gf_sf_val (by decide) (by decide)

theorem State.launchRegs_spec (hi : i < 16) (s : State) (c : RunCopy) : RegsOnly LaunchReg s (s.launchRegs i c) ∧
    (s.launchRegs i c).stdState i = 1 ∧ (s.launchRegs i c).gf (Reg.STD_STATUS i) Fld.STD_STATUS_run_code = 1 ∧
    (s.launchRegs i c).gf (Reg.STD_STATUS i) Fld.STD_STATUS_cmd_code = 1 ∧
    (s.launchRegs i c).gf (Reg.STD_TAG_RUN i) Fld.STD_TAG_RUN_tag = c.tag.toNat := by
  have status : LaunchReg (Reg.STD_STATUS i) := by unfold LaunchReg Reg.STD_STATUS; omega
  have tag : LaunchReg (Reg.STD_TAG_RUN i) := by unfold LaunchReg Reg.STD_TAG_RUN; omega
  have apart : Reg.STD_STATUS i ≠ Reg.STD_TAG_RUN i := by unfold Reg.STD_STATUS Reg.STD_TAG_RUN; omega
  have notStatus : ¬RunReg i (Reg.STD_STATUS i) := fun h => h.2.1 rfl
  have notTag : ¬RunReg i (Reg.STD_TAG_RUN i) := fun h => h.2.2 rfl
  unfold State.launchRegs State.stdState
  generalize Reg.STD_STATUS i = a at status apart notStatus ⊢
  generalize Reg.STD_TAG_RUN i = b at tag apart notTag ⊢
  have fields := State.launchFields apart s c.tag.isLt
  have written : RegsOnly LaunchReg s ((((s.sf a Fld.STD_STATUS_state 1).sf a Fld.STD_STATUS_run_code 1).sf a Fld.STD_STATUS_cmd_code 1).sf b
      Fld.STD_TAG_RUN_tag c.tag.toNat) :=
    ((RegsOnly.sf _ status _ _).trans (.sf _ status _ _)).trans (.sf _ status _ _) |>.trans (.sf _ tag _ _)
  generalize (((s.sf a Fld.STD_STATUS_state 1).sf a Fld.STD_STATUS_run_code 1).sf a Fld.STD_STATUS_cmd_code 1).sf b
      Fld.STD_TAG_RUN_tag c.tag.toNat = s4 at fields written ⊢
  obtain ⟨state, code, cmd, named⟩ := fields
  have anew := RegsOnly.runRegs hi s4
  exact ⟨written.trans (anew.mono fun _ h => h.1), (anew.gf notStatus _).trans state, (anew.gf notStatus _).trans code,
    (anew.gf notStatus _).trans cmd, (anew.gf notTag _).trans named⟩

/-- A launch touches no unit's health: the registers outside `LaunchReg`, the plan, the deadwood map and the swaps. -/
structure Healthy (s u : State) : Prop where
  regs : ∀ a, ¬LaunchReg a → u.reg a = s.reg a
  plan : u.planForce = s.planForce
  dwm : u.dwm = s.dwm
  swaps : ∀ k, (u.fabT k).swapOld = (s.fabT k).swapOld

theorem Healthy.refl (s : State) : Healthy s s := ⟨fun _ _ => rfl, rfl, rfl, fun _ => rfl⟩

theorem Healthy.trans (h : Healthy s t) (k : Healthy t u) : Healthy s u :=
  ⟨fun a ha => (k.regs a ha).trans (h.regs a ha), k.plan.trans h.plan, k.dwm.trans h.dwm, fun j => (k.swaps j).trans (h.swaps j)⟩

theorem RegsOnly.healthy (h : RegsOnly LaunchReg s u) : Healthy s u :=
  ⟨h.regs, by rw [h.frame], by rw [h.frame], fun k => by rw [h.frame]; rfl⟩

theorem Healthy.setCtx (s : State) (k x : Nat) (v : CtxSt) : Healthy s (s.setCtx k x v) := by
  refine ⟨fun _ _ => rfl, rfl, rfl, fun j => ?_⟩
  by_cases hj : j = k
  · subst hj
    rw [State.setCtx, State.fabT_setFab_same]
  · rw [State.setCtx, State.fabT_setFab_ne _ _ hj]

theorem Healthy.launchFault (h : Healthy s u) (i bl : Nat) : u.launchFault i bl = s.launchFault i bl := by
  have gf (a : Nat) (f : Fld) (ha : ¬LaunchReg a) : u.gf a f = s.gf a f := State.gf_of_reg (h.regs a ha) f
  have towers : u.towersOf i = s.towersOf i := by unfold State.towersOf; rw [h.plan]
  have stacked : u.stacksOf i = s.stacksOf i := by unfold State.stacksOf; rw [h.plan]
  have slots : u.slotsOf i = s.slotsOf i := by unfold State.slotsOf State.tilesOf; rw [h.plan]
  have small (w : Nat) (hw : w ∈ s.towersOf i) : w < 96 := List.mem_range.1 (List.mem_filter.1 hw).1
  have low (a : Nat) (ha : a < 0x10000) (hb : a < 0x1000 ∨ 0x1800 ≤ a) : ¬LaunchReg a := by unfold LaunchReg; omega
  have tile (b : Nat) (lo : 0x100000000 ≤ b) (n : Nat) (hn : b % 0x100000000 = n)
      (hb : 0x400000 ≤ n ∨ 0x200000 ≤ n ∧ n < 0x300000) : ¬LaunchReg b := by unfold LaunchReg; omega
  have agent (w : Nat) (hw : w < 96) : u.openSite w = s.openSite w :=
    congrArg (· == 1) (gf _ _ (low _ (by unfold Reg.SITE_CENSUS0; omega) (by unfold Reg.SITE_CENSUS0; omega)))
  have census (w : Nat) (hw : w < 96) (f : Fld) : u.gf (Reg.SITE_CENSUS2 w) f = s.gf (Reg.SITE_CENSUS2 w) f :=
    gf _ _ (low _ (by unfold Reg.SITE_CENSUS2; omega) (by unfold Reg.SITE_CENSUS2; omega))
  have degraded (w : Nat) (hw : w < 96) : u.towerDegraded w = s.towerDegraded w := by
    unfold State.towerDegraded
    rw [gf (Reg.CORE_DIE_ID _ _) _ (tile _ (by unfold Reg.CORE_DIE_ID; omega) _ rfl (by unfold Reg.CORE_DIE_ID; omega)),
      gf (Reg.CORE_TS_MAP _ _) _ (tile _ (by unfold Reg.CORE_TS_MAP; omega) _ rfl (by unfold Reg.CORE_TS_MAP; omega)), h.dwm]
  have repair (w : Nat) (hw : w < 96) (f : Fld) : u.gf (Reg.SITE_REPAIR (w / 6) (w % 6)) f = s.gf (Reg.SITE_REPAIR (w / 6) (w % 6)) f :=
    gf _ _ (tile _ (by unfold Reg.SITE_REPAIR; omega) _ rfl (by unfold Reg.SITE_REPAIR; omega))
  have link (w : Nat) (hw : w < 96) : u.linkState w = s.linkState w :=
    gf _ _ (tile _ (by unfold Reg.SITE_LINK_STATE; omega) _ rfl (by unfold Reg.SITE_LINK_STATE; omega))
  have stack (j : Nat) (hj : j ∈ s.stacksOf i) (f : Fld) : u.gf (Reg.HBM_STATE (j / 2) (j % 2)) f = s.gf (Reg.HBM_STATE (j / 2) (j % 2)) f :=
    gf _ _ (tile _ (by unfold Reg.HBM_STATE; omega) _ rfl (by unfold Reg.HBM_STATE; omega))
  have trunk (x y : Nat) (hy : y < 8) (f : Fld) : u.gf (Reg.OPT_TRUNK_STATE x y) f = s.gf (Reg.OPT_TRUNK_STATE x y) f :=
    gf _ _ (tile _ (by unfold Reg.OPT_TRUNK_STATE; omega) _ rfl (by unfold Reg.OPT_TRUNK_STATE; omega))
  have fenced (x y : Nat) (hy : y < 8) (f : Fld) : u.gf (Reg.OPT_CH_FENCED x y) f = s.gf (Reg.OPT_CH_FENCED x y) f :=
    gf _ _ (tile _ (by unfold Reg.OPT_CH_FENCED; omega) _ rfl (by unfold Reg.OPT_CH_FENCED; omega))
  have lost (x y k : Nat) (hy : y < 8) (hk : k < 128) : u.slotLost x y k = s.slotLost x y k := by
    unfold State.slotLost State.slotCh State.slotByte
    rw [fenced x y hy, h.regs (Reg.OPT_SLOT_MAP x y (k / 4))
      (tile _ (by unfold Reg.OPT_SLOT_MAP; omega) _ rfl (by unfold Reg.OPT_SLOT_MAP; omega))]
  have gone (q : Nat × Nat × Nat) (hq : q ∈ s.slotsOf i) : u.slotGone q.1 q.2.1 q.2.2 = s.slotGone q.1 q.2.1 q.2.2 := by
    obtain ⟨x, -, hx⟩ := List.mem_flatMap.1 hq
    obtain ⟨y, hy, hq⟩ := List.mem_flatMap.1 hx
    obtain ⟨k, hk, rfl⟩ := List.mem_map.1 hq
    have hy : y < 8 := List.mem_range.1 hy
    have hk : k < 32 := List.mem_range.1 (List.mem_filter.1 hk).1
    have swap : s.gf (Reg.OPT_TRUNK_STATE x y) Fld.OPT_TRUNK_STATE_swap_slot < 128 :=
      Nat.lt_of_lt_of_le (State.gf_lt ..) (by decide)
    unfold State.slotGone
    dsimp only
    rw [fenced x y hy, trunk x y hy, trunk x y hy, trunk x y hy, trunk x y hy, lost x y k hy (by omega), lost x y _ hy swap, h.swaps]
  have first : ((s.towersOf i).find? fun w => u.openSite w && !natBit (u.gf (Reg.SITE_CENSUS2 w) Fld.SITE_CENSUS2_bl) (bl - 1)) =
      (s.towersOf i).find? fun w => s.openSite w && !natBit (s.gf (Reg.SITE_CENSUS2 w) Fld.SITE_CENSUS2_bl) (bl - 1) :=
    List.find?_congr fun w hw => by rw [agent w (small w hw), census w (small w hw)]
  have second : ((s.towersOf i).find? fun w => u.towerDegraded w ||
        u.gf (Reg.SITE_REPAIR (w / 6) (w % 6)) Fld.SITE_REPAIR_limited == 1) = (s.towersOf i).find? fun w => s.towerDegraded w ||
        s.gf (Reg.SITE_REPAIR (w / 6) (w % 6)) Fld.SITE_REPAIR_limited == 1 :=
    List.find?_congr fun w hw => by rw [degraded w (small w hw), repair w (small w hw)]
  have third : ((s.towersOf i).find? fun w => decide (u.linkState w ≥ 4)) = (s.towersOf i).find? fun w => decide (s.linkState w ≥ 4) :=
    List.find?_congr fun w hw => by rw [link w (small w hw)]
  have fourth : ((s.stacksOf i).find? fun j => u.gf (Reg.HBM_STATE (j / 2) (j % 2)) Fld.HBM_STATE_state ≥ 4) =
      (s.stacksOf i).find? fun j => s.gf (Reg.HBM_STATE (j / 2) (j % 2)) Fld.HBM_STATE_state ≥ 4 :=
    List.find?_congr fun j hj => by rw [stack j hj]
  unfold State.launchFault
  rw [towers, stacked, slots, first, second, third, fourth, List.find?_congr gone]
  dsimp only
  split
  · rfl
  · split
    · next w found => rw [degraded w (small w (List.mem_of_find?_eq_some found))]
    · rfl

/-- What the contexts' and the agents' shares of a launch leave. -/
structure UnitsKept (s u : State) : Prop where
  health : Healthy s u
  cores : u.cores = s.cores
  mem : u.mem = s.mem
  stands : u.stands = s.stands
  low : ∀ a < 0x1_0000_0000, u.reg a = s.reg a

theorem UnitsKept.refl (s : State) : UnitsKept s s := ⟨.refl s, rfl, rfl, rfl, fun _ _ => rfl⟩

theorem UnitsKept.trans (h : UnitsKept s t) (k : UnitsKept t u) : UnitsKept s u :=
  ⟨h.health.trans k.health, k.cores.trans h.cores, k.mem.trans h.mem, k.stands.trans h.stands,
    fun a ha => (k.low a ha).trans (h.low a ha)⟩

theorem UnitsKept.setCtx (s : State) (k x : Nat) (v : CtxSt) : UnitsKept s (s.setCtx k x v) :=
  ⟨.setCtx s k x v, rfl, rfl, rfl, fun _ _ => rfl⟩

theorem UnitsKept.setSite (s : State) (w : Nat) (x : SiteSt) : UnitsKept s (s.setSite w x) :=
  ⟨⟨fun _ _ => rfl, rfl, rfl, fun _ => rfl⟩, rfl, rfl, rfl, fun _ _ => rfl⟩

theorem UnitsKept.setHigh (s : State) {a : Nat} (named : LaunchReg a) (high : 0x1_0000_0000 ≤ a) (v : Word) : UnitsKept s (s.setReg a v) :=
  ⟨(RegsOnly.setReg s named v).healthy, rfl, rfl, rfl, fun b hb => State.reg_setReg_ne _ _ (by omega)⟩

theorem LaunchReg.repeats {k x : Nat} (hx : x < 6) : LaunchReg (Reg.FAB_CTX_REPEAT k x) ∧ 0x1_0000_0000 ≤ Reg.FAB_CTX_REPEAT k x := by
  unfold LaunchReg Reg.FAB_CTX_REPEAT
  omega

theorem UnitsKept.foldl {α : Type} {f : State → α → State} (l : List α) (s : State) (h : ∀ y a, UnitsKept y (f y a)) :
    UnitsKept s (l.foldl f s) :=
  List.foldlRecOn (motive := UnitsKept s) _ _ (.refl s) fun y kept a _ => kept.trans (h y a)

/-- The data memory of the cores of towers `ws` is zero. -/
def clearedData (m : List Host.Cell) (ws : List Nat) : List Host.Cell :=
  memClear m fun b => decide (natBits b 44 4 = 3) && ws.contains (natBits b 37 7)

theorem State.launchUnits_spec (s : State) (i : Nat) (c : RunCopy) : Healthy s (s.launchUnits i c) ∧
    (s.launchUnits i c).cores = s.cores ∧ (s.launchUnits i c).mem = clearedData s.mem (s.towersOf i) ∧
    ((s.launchUnits i c).stand i).copy = c ∧ ((s.launchUnits i c).stand i).loaded = false ∧
    ∀ a < 0x1_0000_0000, (s.launchUnits i c).reg a = s.reg a := by
  unfold State.launchUnits
  extract_lets ws cleared s3 z1 k1 s4 x0
  have first : Healthy s s3 ∧ s3.cores = s.cores ∧ s3.mem = clearedData s.mem (s.towersOf i) ∧ ∀ a, s3.reg a = s.reg a :=
    ⟨⟨fun _ _ => rfl, rfl, rfl, fun _ => rfl⟩, rfl, rfl, fun _ => rfl⟩
  clear_value s3
  have ctx : UnitsKept s3 s4 := by
    refine .foldl _ _ fun y k => ?_
    split
    · next x found =>
      obtain ⟨named, high⟩ := LaunchReg.repeats (k := k) (List.mem_range.1 (List.mem_of_find?_eq_some found))
      exact (UnitsKept.setCtx ..).trans (.setHigh _ named high _)
    · exact .refl y
  subst x0
  clear_value s4
  generalize hs : s4.setStand i { s4.stand i with copy := c, loaded := false } = s5
  have sites : UnitsKept s5 ((s4.towersOf i).foldl (fun y w => if (y.site w).images = [] then y else y.setSite w { y.site w with images := [] }) s5) := by
    refine .foldl _ _ fun y w => ?_
    split
    · exact .refl y
    · exact .setSite ..
  generalize (s4.towersOf i).foldl (fun y w => if (y.site w).images = [] then y else y.setSite w { y.site w with images := [] }) s5 = u at sites ⊢
  have own : s5.stand i = { s4.stand i with copy := c, loaded := false } := by rw [← hs, State.stand_setStand_same]
  have shown : u.stand i = s5.stand i := congrArg (sget StandSt.zero · i) sites.stands
  have taken : Healthy s4 s5 ∧ s5.cores = s4.cores ∧ s5.mem = s4.mem ∧ ∀ a, s5.reg a = s4.reg a := by
    subst hs
    exact ⟨⟨fun _ _ => rfl, rfl, rfl, fun _ => rfl⟩, rfl, rfl, fun _ => rfl⟩
  obtain ⟨health, cores, mem, regs⟩ := first
  obtain ⟨health', cores', mem', regs'⟩ := taken
  exact ⟨((health.trans ctx.health).trans health').trans sites.health,
    sites.cores.trans (cores'.trans (ctx.cores.trans cores)), sites.mem.trans (mem'.trans (ctx.mem.trans mem)),
    by rw [shown, own], by rw [shown, own],
    fun a ha => (sites.low a ha).trans ((regs' a).trans ((ctx.low a ha).trans (regs a)))⟩

theorem clearedData_get {m : List Host.Cell} {ws : List Nat} {g o : Nat} (hg : towerOf g ∈ ws) (hw : towerOf g < 96) (ho : o < dmBytes) :
    memGet (clearedData m ws) (dmAddr g o) = 0 := by
  obtain ⟨memory, tower⟩ := dmAddr_fields hw ho
  rw [clearedData, memGet_memClear, if_pos]
  rw [memory, tower]
  simpa using hg

/-- What a launch leaves before the wake and the check of the units. -/
structure Launched (i : Nat) (c : RunCopy) (s u : State) : Prop where
  plan : u.planForce = s.planForce
  state : u.stdState i = 1
  code : u.gf (Reg.STD_STATUS i) Fld.STD_STATUS_run_code = 1
  cmd : u.gf (Reg.STD_STATUS i) Fld.STD_STATUS_cmd_code = 1
  tag : u.gf (Reg.STD_TAG_RUN i) Fld.STD_TAG_RUN_tag = c.tag.toNat
  cores : ∀ g, u.core g = if g ∈ s.coresOf i then (s.core g).launched else s.core g
  stand : (u.stand i).copy = c ∧ (u.stand i).loaded = false
  mem : ∀ g ∈ s.coresOf i, ∀ o, o < dmBytes → memGet u.mem (dmAddr g o) = 0

theorem State.towersOf_congr (h : u.planForce = s.planForce) (i : Nat) : u.towersOf i = s.towersOf i := by
  unfold State.towersOf
  rw [h]

theorem State.coresOf_congr (h : u.planForce = s.planForce) (i : Nat) : u.coresOf i = s.coresOf i := by
  unfold State.coresOf
  rw [State.towersOf_congr h]

theorem Healthy.launchCores (l : List Nat) (s : State) :
    Healthy s (l.foldl (fun x g => x.setCore g (x.core g).launched) s) ∧
      (l.foldl (fun x g => x.setCore g (x.core g).launched) s).regs = s.regs :=
  List.foldlRecOn (motive := fun y => Healthy s y ∧ y.regs = s.regs) _ _ ⟨.refl s, rfl⟩ fun _ kept _ _ =>
    ⟨kept.1.trans ⟨fun _ _ => rfl, rfl, rfl, fun _ => rfl⟩, kept.2⟩

theorem State.launchState_spec (hi : i < 16) (s : State) (c : RunCopy) : Healthy s (s.launchState i c) ∧ Launched i c s (s.launchState i c) := by
  have status : Reg.STD_STATUS i < 0x1_0000_0000 := by unfold Reg.STD_STATUS; omega
  have tagged : Reg.STD_TAG_RUN i < 0x1_0000_0000 := by unfold Reg.STD_TAG_RUN; omega
  obtain ⟨only, state, code, cmd, tag⟩ := s.launchRegs_spec hi c
  unfold State.launchState
  generalize s.launchRegs i c = s1 at only state code cmd tag ⊢
  obtain ⟨health2, same⟩ := Healthy.launchCores (s1.coresOf i) s1
  have anew := launchCores_core (s1.coresOf_nodup i) s1
  generalize (s1.coresOf i).foldl (fun x g => x.setCore g (x.core g).launched) s1 = s2 at health2 same anew ⊢
  obtain ⟨health, cores, mem, copy, loaded, low⟩ := s2.launchUnits_spec i c
  generalize s2.launchUnits i c = u at health cores mem copy loaded low ⊢
  have plan1 : s1.planForce = s.planForce := by rw [only.frame]
  have plan2 : s2.planForce = s.planForce := health2.plan.trans plan1
  have regs : ∀ a < 0x1_0000_0000, u.reg a = s1.reg a := fun a ha => (low a ha).trans (congrArg (sget (regDefault a) · a) same)
  have fields (f : Fld) : u.gf (Reg.STD_STATUS i) f = s1.gf (Reg.STD_STATUS i) f := State.gf_of_reg (regs _ status) f
  have named (f : Fld) : u.gf (Reg.STD_TAG_RUN i) f = s1.gf (Reg.STD_TAG_RUN i) f := State.gf_of_reg (regs _ tagged) f
  clear status tagged
  unfold State.stdState at state
  refine ⟨(only.healthy.trans health2).trans health, health.plan.trans plan2, ?_, (fields _).trans code, (fields _).trans cmd, (named _).trans tag,
    fun g => ?_, ⟨copy, loaded⟩, fun g hg o ho => ?_⟩
  · unfold State.stdState
    exact (fields _).trans state
  · rw [show u.core g = s2.core g from congrArg (sget CoreSt.zero · g) cores, anew, State.coresOf_congr plan1]
    rw [show s1.core g = s.core g from congrArg (sget CoreSt.zero · g) (by rw [only.frame] : s1.cores = s.cores)]
  · have here := State.mem_coresOf hg
    rw [mem, State.towersOf_congr plan2]
    exact clearedData_get here (List.mem_range.1 (List.mem_filter.1 here).1) ho

theorem State.standFatal_planForce (s : State) (i : Nat) (e : ErrInfo) : (s.standFatal i e).planForce = s.planForce := by
  have reported {R : Nat → Prop} {y u : State} (h : Reports R y u) : u.planForce = y.planForce := by rw [h.frame]
  unfold State.standFatal
  split
  · have logged : (s.logErr 2 (s.logEnt 2 { e with stand := some i })).planForce = s.planForce := reported (.logErr s (by decide) _)
    generalize s.logErr 2 (s.logEnt 2 { e with stand := some i }) = s1 at logged ⊢
    dsimp only
    have event (y : State) (hy : y.planForce = s.planForce) (a : Nat) (f : Fld) (n : Nat) : ((y.sfSat a f n).stdEvent i 2).planForce = s.planForce := by
      rw [reported (Reports.stdEvent (R := fun _ => True) _ trivial 2), State.sfSat, State.sf_planForce, hy]
    generalize Reg.STD_ERR i = a
    have shown : (if s.gf a Fld.STD_ERR_valid = 1 then s1.sf a Fld.STD_ERR_more 1
        else ((s1.sf a Fld.STD_ERR_code e.code).sf a Fld.STD_ERR_valid 1).sf a Fld.STD_ERR_gcore (e.gcore.getD 0x3FFF)).planForce = s.planForce := by
      split
      · rw [State.sf_planForce, logged]
      · rw [State.sf_planForce, State.sf_planForce, State.sf_planForce, logged]
    have happened := event _ shown a Fld.STD_ERR_count 1
    generalize State.stdEvent _ i 2 = y at happened ⊢
    split
    · exact logged
    · split
      · exact happened
      · exact (y.setStand_planForce _ _).trans happened
  · exact reported (.contained ..)

/-- How a run that has ended stands: its state and code, no handling, no core running. -/
def Ended (i : Nat) (s u : State) (code : Nat) : Prop :=
  u.stdState i = 4 ∧ u.gf (Reg.STD_STATUS i) Fld.STD_STATUS_run_code = code ∧ (u.stand i).handling = none ∧
    ∀ g ∈ s.coresOf i, (u.core g).running = false

theorem RunEnded.ended {code : Nat} (h : RunEnded i 4 code s u) : Ended i s u code := by
  refine ⟨h.state, h.code, h.stand.1, fun g hg => ?_⟩
  rw [h.cores, if_pos hg]
  rfl

theorem Ended.congr {code : Nat} (h : Ended i s u code) (plan : s.planForce = t.planForce) : Ended i t u code :=
  ⟨h.1, h.2.1, h.2.2.1, fun g hg => h.2.2.2 g (by rwa [State.coresOf_congr plan])⟩

/-- A launch that fails ends with code 0x0C; what else it leaves of the status, the tag and the cores. -/
theorem failLaunch_spec (hi : i < 16) (s : State) (e : ErrInfo) : Ended i s (s.failLaunch i e) 0x0C ∧
    (s.failLaunch i e).gf (Reg.STD_STATUS i) Fld.STD_STATUS_cmd_code = s.gf (Reg.STD_STATUS i) Fld.STD_STATUS_cmd_code ∧
    (s.failLaunch i e).gf (Reg.STD_TAG_RUN i) Fld.STD_TAG_RUN_tag = s.gf (Reg.STD_TAG_RUN i) Fld.STD_TAG_RUN_tag ∧
    ∀ g ∈ s.coresOf i, (s.failLaunch i e).core g = (s.core g).atEnd := by
  have tagReg : ¬WindReg (Reg.STD_TAG_RUN i) ∧ Reg.STD_TAG_RUN i ≠ Reg.STD_STATUS i := by
    unfold WindReg NvReg LogReg Reg.STD_TAG_RUN Reg.STD_STATUS Reg.HIF_MOD_INT Reg.THM_NV_WINDOW Reg.NVS_REFUSE Reg.MGT_PLAN_STATUS
    omega
  have plan := s.standFatal_planForce i e
  have fatal := (Winds.refl 1 s).standFatal (by decide) i e
  unfold State.failLaunch
  generalize s.standFatal i e = s1 at plan fatal ⊢
  have over_ := endRun_spec hi (state := 4) (code := 0x0C) (by decide) (by decide) s1
  refine ⟨over_.ended.congr plan, (over_.rest _ (by decide) (by decide)).trans (fatal.status hi _), ?_, fun g hg => ?_⟩
  · exact (State.gf_of_reg (over_.regs _ tagReg.1 tagReg.2) _).trans (State.gf_of_reg (fatal.regs _ tagReg.1) _)
  · rw [over_.cores, if_pos (by rwa [State.coresOf_congr plan])]
    rw [show s1.core g = s.core g from congrArg (sget CoreSt.zero · g) (fatal.cores (by decide))]

theorem Wakes.not_launch (hi : i < 16) : ¬WakeReg i (Reg.STD_STATUS i) ∧ ¬WakeReg i (Reg.STD_TAG_RUN i) := by
  constructor <;> rintro (h | h | ⟨t, c, h | h⟩) <;>
    simp only [Reg.STD_STATUS, Reg.STD_TAG_RUN, Reg.PWR_STD_STATE, Reg.PWR_STD_WAKE, Reg.HBM_STATE, Reg.PWR_PAD_HOLD] at h <;> omega

/-- A stand that is launched and woken. -/
theorem Launched.wake (hi : i < 16) (h : Launched i c s u) : Launched i c s (u.wake i) := by
  have power := PowerOnly.wake u i
  have wakes := Wakes.wake u i
  obtain ⟨notStatus, notTag⟩ := Wakes.not_launch hi
  generalize u.wake i = v at power wakes ⊢
  have status (f : Fld) : v.gf (Reg.STD_STATUS i) f = u.gf (Reg.STD_STATUS i) f := State.gf_of_reg (wakes.regs _ notStatus) f
  have tag : v.gf (Reg.STD_TAG_RUN i) Fld.STD_TAG_RUN_tag = u.gf (Reg.STD_TAG_RUN i) Fld.STD_TAG_RUN_tag :=
    State.gf_of_reg (wakes.regs _ notTag) _
  have cores : v.cores = u.cores := by rw [power]
  have stands : v.stands = u.stands := by rw [power]
  have mem : v.mem = u.mem := by rw [power]
  have plan : v.planForce = u.planForce := by rw [power]
  have own : v.stand i = u.stand i := congrArg (sget StandSt.zero · i) stands
  refine ⟨plan.trans h.plan, (status _).trans h.state, (status _).trans h.code, (status _).trans h.cmd, tag.trans h.tag, fun g => ?_,
    by rw [own]; exact h.stand, by rw [mem]; exact h.mem⟩
  exact (congrArg (sget CoreSt.zero · g) cores).trans (h.cores g)

theorem launchGo_spec (hi : i < 16) (s : State) (c : RunCopy) :
    (s.launchGo i c).gf (Reg.STD_STATUS i) Fld.STD_STATUS_cmd_code = 1 ∧
    (s.launchGo i c).gf (Reg.STD_TAG_RUN i) Fld.STD_TAG_RUN_tag = c.tag.toNat ∧
    (∀ g ∈ s.coresOf i, (s.launchGo i c).core g = (s.core g).launched) ∧
    (s.launchFault i c.bl.toNat = none → (s.launchGo i c).stdState i = 1 ∧
      (s.launchGo i c).gf (Reg.STD_STATUS i) Fld.STD_STATUS_run_code = 1 ∧ ((s.launchGo i c).stand i).copy = c ∧
      ((s.launchGo i c).stand i).loaded = false ∧
      ∀ g ∈ s.coresOf i, ∀ o, o < dmBytes → memGet (s.launchGo i c).mem (dmAddr g o) = 0) ∧
    (∀ e, s.launchFault i c.bl.toNat = some e → Ended i s (s.launchGo i c) 0x0C) := by
  obtain ⟨health, started⟩ := s.launchState_spec hi c
  have woken := started.wake hi
  rw [State.launchGo_eq, health.launchFault]
  generalize (s.launchState i c).wake i = u at woken ⊢
  have cores (g : Nat) (hg : g ∈ s.coresOf i) : u.core g = (s.core g).launched := by rw [woken.cores, if_pos hg]
  cases fault : s.launchFault i c.bl.toNat with
  | none => exact ⟨woken.cmd, woken.tag, cores, fun _ => ⟨woken.state, woken.code, woken.stand.1, woken.stand.2, woken.mem⟩, nofun⟩
  | some e =>
    obtain ⟨ended, cmd, tag, same⟩ := failLaunch_spec hi u e
    refine ⟨cmd.trans woken.cmd, tag.trans woken.tag, fun g hg => ?_, nofun, fun e' he => ?_⟩
    · rw [same g (by rwa [State.coresOf_congr woken.plan]), cores g hg]
      rfl
    · cases he
      exact ended.congr woken.plan

theorem State.repairsUp_frame (s : State) (i : Nat) : (s.repairsUp i).planForce = s.planForce ∧ (s.repairsUp i).cores = s.cores :=
  List.foldlRecOn (motive := fun y : State => y.planForce = s.planForce ∧ y.cores = s.cores) _ _ ⟨rfl, rfl⟩ fun _ kept _ _ => kept

theorem State.launchCheck_tag {n : Nat} (h : s.launchCheck i n = .inr c) : c.tag = BitVec.ofNat 16 n := by
  unfold State.launchCheck at h
  dsimp only at h
  repeat' split at h
  all_goals cases h
  rfl

theorem execLaunch_served {p : Nat} (hi : i < 16) (served : Served s p (Reg.STD_LAUNCH i)) (v : BitVec 32) :
    exec (.launch p i v []) s = .next (s.asMaster p i (Reg.STD_LAUNCH i) fun s =>
      if v.toNat % 16 = 1 ∧ s.phase = 1 then s.launchWord i (v.toNat / 2 ^ 16) else s) := by
  show execLaunch p i v [] s = _
  rw [execLaunch, if_neg (by omega), State.hostWrite_served served]
  simp only [State.imageEcc, List.foldl_nil, ite_self]

theorem execLaunch_word {p : Nat} (hi : i < 16) (served : Served s p (Reg.STD_LAUNCH i)) (master : planPort s.planForce i = p)
    (phase : s.phase = 1) {v : BitVec 32} (op : v.toNat % 16 = 1) :
    exec (.launch p i v []) s = .next (s.launchWord i (v.toNat / 2 ^ 16)) := by
  rw [execLaunch_served hi served, State.asMaster, if_neg (by simpa using master)]
  rw [if_pos ⟨op, phase⟩]

theorem State.launchWord_idle (idle : s.inRun i = false) (n : Nat) : s.launchWord i n = match (s.repairsUp i).launchCheck i n with
    | .inl code => (s.repairsUp i).sf (Reg.STD_STATUS i) Fld.STD_STATUS_cmd_code code
    | .inr c => (s.repairsUp i).launchGo i c := by
  unfold State.launchWord
  rw [if_neg (by rw [idle]; decide)]
  rfl

theorem State.gf_of_regs (h : u.regs = s.regs) (a : Nat) (f : Fld) : u.gf a f = s.gf a f :=
  State.gf_of_reg (congrArg (sget (regDefault a) · a) h) f

/-- One core's share of the loading. -/
def State.loadOne (i : Nat) (c : RunCopy) (x : State) (e : CoreEnt) : State :=
  match c.progs[e.prog]? with
  | some p => if x.openSite (towerOf e.g) then x else x.loadCore i e p e.start
  | none => x

theorem State.loadCore_core (x : State) (i : Nat) (e : CoreEnt) (p : ProgEnt) (n g : Nat) :
    (x.loadCore i e p n).core g = if g = e.g then { x.core g with pc := n, progLen := p.len } else x.core g := by
  unfold State.loadCore
  dsimp only
  split
  · next here => subst here; exact State.core_setCore_same ..
  · next other => exact State.core_setCore_ne _ _ other

theorem State.loadOne_regs (i : Nat) (c : RunCopy) (x : State) (e : CoreEnt) : (x.loadOne i c e).regs = x.regs := by
  unfold State.loadOne
  split
  · split <;> rfl
  · rfl

theorem State.loadOne_core_ne {e : CoreEnt} {g : Nat} (h : g ≠ e.g) (i : Nat) (c : RunCopy) (x : State) :
    (x.loadOne i c e).core g = x.core g := by
  unfold State.loadOne
  split
  · split
    · rfl
    · rw [State.loadCore_core, if_neg h]
  · rfl

theorem State.loadOne_core {e : CoreEnt} {q : ProgEnt} {x : State} (named : c.progs[e.prog]? = some q) (here : x.openSite (towerOf e.g) = false)
    (i : Nat) : (x.loadOne i c e).core e.g = { x.core e.g with pc := e.start, progLen := q.len } := by
  unfold State.loadOne
  rw [named]
  dsimp only
  rw [if_neg (by rw [here]; decide), State.loadCore_core, if_pos rfl]

theorem State.loadSeqs_kept (i : Nat) (l : List SeqEnt) (s : State) :
    let u := l.foldl (fun x q =>
      match x.ctxOf q.tile i with
      | some k => x.setCtx q.tile k { x.ctx q.tile k with prog := x.seqWords i q }
      | none => x) s
    u.regs = s.regs ∧ u.cores = s.cores :=
  List.foldlRecOn (motive := fun y : State => y.regs = s.regs ∧ y.cores = s.cores) _ _ ⟨rfl, rfl⟩ fun y kept q _ => by
    split
    · exact kept
    · exact kept

theorem State.loadAll_spec (s : State) (i : Nat) (c : RunCopy) : (s.loadAll i c).regs = s.regs ∧
    ((c.cores.map (·.g)).Nodup → ∀ e ∈ c.cores, ∀ q, c.progs[e.prog]? = some q → s.openSite (towerOf e.g) = false →
      (s.loadAll i c).core e.g = { s.core e.g with pc := e.start, progLen := q.len }) := by
  have all : s.loadAll i c = c.seqs.foldl (fun x q =>
      match x.ctxOf q.tile i with
      | some k => x.setCtx q.tile k { x.ctx q.tile k with prog := x.seqWords i q }
      | none => x) (c.cores.foldl (State.loadOne i c) s) := rfl
  obtain ⟨regs, cores⟩ := State.loadSeqs_kept i c.seqs (c.cores.foldl (State.loadOne i c) s)
  rw [← all] at regs cores
  have loaded : (c.cores.foldl (State.loadOne i c) s).regs = s.regs :=
    List.foldlRecOn (motive := fun y : State => y.regs = s.regs) _ _ rfl fun y kept e _ => (y.loadOne_regs i c e).trans kept
  refine ⟨regs.trans loaded, fun nodup e mem q named here => ?_⟩
  have apart (r : CoreEnt) (hr : r ∈ c.cores) (ne : r ≠ e) : e.g ≠ r.g := fun same =>
    ne (List.inj_on_of_nodup_map nodup hr mem same.symm)
  refine (congrArg (sget CoreSt.zero · e.g) cores).trans ?_
  refine foldl_turn (P := fun y : State => y.regs = s.regs ∧ y.core e.g = s.core e.g)
    (Q := fun y : State => y.core e.g = { s.core e.g with pc := e.start, progLen := q.len }) (List.Nodup.of_map _ nodup) mem
    (fun y kept => ?_) (fun y r hr ne kept => ?_) (fun y r hr ne kept => ?_) ⟨rfl, rfl⟩
  · have shut : y.openSite (towerOf e.g) = false := by
      rw [← here]
      exact congrArg (· == 1) (State.gf_of_regs kept.1 _ _)
    rw [State.loadOne_core named shut, kept.2]
  · exact ⟨(y.loadOne_regs i c r).trans kept.1, (State.loadOne_core_ne (apart r hr ne) i c y).trans kept.2⟩
  · exact (State.loadOne_core_ne (apart r hr ne) i c y).trans kept

theorem execProgramLoadComplete_loads (hi : i < 16) (starting : s.stdState i = 1) (fresh : (s.stand i).loaded = false)
    (cores : coreFailure s i (s.stand i).copy = none) (seqs : seqFailure s i (s.stand i).copy = none) :
    exec (.programLoadComplete i) s = .next ((s.loadAll i (s.stand i).copy).setStand i
      { (s.loadAll i (s.stand i).copy).stand i with loaded := true }) := by
  show execProgramLoadComplete i s = _
  rw [execProgramLoadComplete, if_neg (by omega)]
  dsimp only
  rw [if_neg (by rw [starting, fresh]; decide), cores, seqs]

theorem execProgramLoadComplete_fails (hi : i < 16) (starting : s.stdState i = 1) (fresh : (s.stand i).loaded = false) {e : ErrInfo}
    (failed : coreFailure s i (s.stand i).copy = some e) : exec (.programLoadComplete i) s = .next (s.failLaunch i e) := by
  show execProgramLoadComplete i s = _
  rw [execProgramLoadComplete, if_neg (by omega)]
  dsimp only
  rw [if_neg (by rw [starting, fresh]; decide), failed]

theorem execStartMissed_ends (hi : i < 16) (starting : s.stdState i = 1) (runs : (s.stand i).stopped = false) (late : s.startReady i = false) :
    exec (.startMissed i) s =
      .next ((s.gtcTo ((s.stand i).copy.start.toNat - 4 * (s.stand i).copy.beatLen)).endRun i 4 0x06) := by
  show execStartMissed i s = _
  rw [execStartMissed, if_neg (by omega)]
  dsimp only
  rw [if_neg (by rw [starting, runs, late]; decide)]

theorem execStandHandlingSettled_ends (hi : i < 16) (stopped : (s.stand i).stopped = true) {h : Handling} (under : (s.stand i).handling = some h) :
    exec (.standHandlingSettled i) s = .next (s.endRun i 4 (if h = .fatal then 0x0C else 0x0D)) := by
  show execStandHandlingSettled i s = _
  rw [execStandHandlingSettled, if_neg (by omega)]
  dsimp only
  rw [under]
  dsimp only
  rw [if_pos stopped]

theorem State.gtcTo_planForce (s : State) (n : Nat) : (s.gtcTo n).planForce = s.planForce := by
  unfold State.gtcTo
  split <;> rfl

theorem endRun_ended (hi : i < 16) {code : Nat} (hc : code < 256) (s : State) : Ended i s (s.endRun i 4 code) code :=
  (endRun_spec hi (by decide) hc s).ended

/-- An abort word in a run brings the stand under handling. -/
theorem State.abortWord_spec (run : s.inRun i = true) (free : (s.stand i).handling = none) :
    s.abortWord i = (s.sf (Reg.STD_STATUS i) Fld.STD_STATUS_cmd_code 1).setStand i { s.stand i with handling := some .abort } := by
  have own : (s.sf (Reg.STD_STATUS i) Fld.STD_STATUS_cmd_code 1).stand i = s.stand i :=
    congrArg (sget StandSt.zero · i) (s.sf_stands _ _ _)
  unfold State.abortWord
  generalize s.sf (Reg.STD_STATUS i) Fld.STD_STATUS_cmd_code 1 = s1 at own ⊢
  dsimp only
  rw [own, if_pos ⟨run, free⟩]

theorem execAbort_word {p : Nat} (hi : i < 16) (served : Served s p (Reg.STD_LAUNCH i)) (master : planPort s.planForce i = p)
    (phase : s.phase = 1) {v : BitVec 32} (op : v.toNat % 16 = 2) : exec (.abort p i v) s = .next (s.abortWord i) := by
  show execAbort p i v s = _
  rw [execAbort, if_neg (by omega), State.hostWrite_served served, State.asMaster, if_neg (by simpa using master), if_pos ⟨op, phase⟩]

/-- The command code of a status, and a stand set with it. -/
theorem State.cmdCode_setStand (s : State) (a i : Nat) (x : StandSt) :
    let u := (s.sf a Fld.STD_STATUS_cmd_code 1).setStand i x
    u.gf a Fld.STD_STATUS_cmd_code = 1 ∧ u.gf a Fld.STD_STATUS_state = s.gf a Fld.STD_STATUS_state ∧
      u = { s with regs := u.regs, stands := u.stands } := by
  have kept := (RegsOnly.sf (R := (· = a)) s rfl Fld.STD_STATUS_cmd_code 1).frame
  have cmd : (s.sf a Fld.STD_STATUS_cmd_code 1).gf a Fld.STD_STATUS_cmd_code = 1 := State.gf_sf_val (by decide) (by decide)
  have state : (s.sf a Fld.STD_STATUS_cmd_code 1).gf a Fld.STD_STATUS_state = s.gf a Fld.STD_STATUS_state :=
    State.gf_sf_apart (.inl (by decide)) (by decide)
  generalize s.sf a Fld.STD_STATUS_cmd_code 1 = s1 at kept cmd state ⊢
  generalize s1.regs = r at kept
  subst kept
  exact ⟨cmd, state, rfl⟩

/-- What an abort word leaves of the rest. -/
theorem State.abortWord_leaves (run : s.inRun i = true) (free : (s.stand i).handling = none) :
    ((s.abortWord i).stand i).handling = some .abort ∧ (s.abortWord i).gf (Reg.STD_STATUS i) Fld.STD_STATUS_cmd_code = 1 ∧
      (s.abortWord i).stdState i = s.stdState i ∧
      s.abortWord i = { s with regs := (s.abortWord i).regs, stands := (s.abortWord i).stands } ∧
      ∀ k, k ≠ i → (s.abortWord i).stand k = s.stand k := by
  have spec := State.abortWord_spec run free
  obtain ⟨cmd, state, frame⟩ := s.cmdCode_setStand (Reg.STD_STATUS i) i { s.stand i with handling := some .abort }
  have own : (s.abortWord i).stands = sset StandSt.zero s.stands i { s.stand i with handling := some .abort } := by
    rw [spec, State.setStand, State.sf_stands]
  rw [← spec] at cmd state frame
  refine ⟨?_, cmd, state, frame, fun k hk => ?_⟩
  · unfold State.stand
    rw [own, sget_sset_same]
  · unfold State.stand
    rw [own, sget_sset_ne _ _ _ hk]

end

section
variable {s t u : State} {i : Nat} {c : RunCopy}

/-! ### The statement's clauses -/

/-- A launch word of the stand's master with no run on the stand (R60, R61). -/
theorem execLaunch_idle {p : Nat} (hi : i < 16) (served : Served s p (Reg.STD_LAUNCH i)) (master : planPort s.planForce i = p)
    (phase : s.phase = 1) {v : BitVec 32} (op : v.toNat % 16 = 1) (idle : s.inRun i = false) :
    (∀ code, (s.repairsUp i).launchCheck i (v.toNat / 2 ^ 16) = .inl code →
      exec (.launch p i v []) s = .next ((s.repairsUp i).sf (Reg.STD_STATUS i) Fld.STD_STATUS_cmd_code code)) ∧
    (∀ c, (s.repairsUp i).launchCheck i (v.toNat / 2 ^ 16) = .inr c → ∃ t, exec (.launch p i v []) s = .next t ∧
      t = (s.repairsUp i).launchGo i c ∧ t.gf (Reg.STD_STATUS i) Fld.STD_STATUS_cmd_code = 1 ∧
      t.gf (Reg.STD_TAG_RUN i) Fld.STD_TAG_RUN_tag = v.toNat / 2 ^ 16 ∧
      (∀ g ∈ s.coresOf i, t.core g = (s.core g).launched) ∧
      ((s.repairsUp i).launchFault i c.bl.toNat = none → t.stdState i = 1 ∧ t.gf (Reg.STD_STATUS i) Fld.STD_STATUS_run_code = 1 ∧
        (t.stand i).copy = c ∧ (t.stand i).loaded = false ∧
        ∀ g ∈ s.coresOf i, ∀ o, o < dmBytes → memGet t.mem (dmAddr g o) = 0) ∧
      (∀ e, (s.repairsUp i).launchFault i c.bl.toNat = some e → Ended i s t 0x0C)) := by
  rw [execLaunch_word hi served master phase op, State.launchWord_idle idle]
  obtain ⟨plan, cores⟩ := s.repairsUp_frame i
  generalize s.repairsUp i = r at plan cores ⊢
  refine ⟨fun code refused => by rw [refused], fun c go => ⟨r.launchGo i c, by rw [go], rfl, ?_⟩⟩
  obtain ⟨cmd, tag, anew, whole, broken⟩ := launchGo_spec hi r c
  have number : c.tag.toNat = v.toNat / 2 ^ 16 := by
    rw [State.launchCheck_tag go, BitVec.toNat_ofNat]
    have := v.isLt
    omega
  rw [State.coresOf_congr plan] at anew whole
  refine ⟨cmd, tag.trans number, fun g hg => ?_, whole, fun e he => (broken e he).congr plan⟩
  rw [anew g hg, show r.core g = s.core g from congrArg (sget CoreSt.zero · g) cores]

end

/-- Settles O28: the launch's parts leave what each unit starts with; the ends go through `endRun_spec`. -/
theorem launchesAndRunEnds : Obligations.LaunchesAndRunEnds := by
  unfold Obligations.LaunchesAndRunEnds
  refine ⟨fun s p i v hi => ⟨fun served master phase => ⟨fun op run => ?_, fun op idle => execLaunch_idle hi served master phase op idle,
    fun op run free => ?_⟩, fun served other => ?_, fun starting fresh cores seqs => ?_, fun starting fresh e failed => ?_,
    fun starting runs late => ?_, fun stopped => ⟨fun under => ?_, fun under => ?_⟩⟩, fun s i state code hi hs hc => ?_⟩
  · rw [execLaunch_word hi served master phase op, State.launchWord, if_pos run]
  · obtain ⟨handling, cmd, state, frame, others⟩ := State.abortWord_leaves run free
    exact ⟨_, execAbort_word hi served master phase op, handling, cmd, state, frame, others⟩
  · rw [execLaunch_served hi served, State.asMaster, if_pos other]
    rfl
  · obtain ⟨regs, loaded⟩ := s.loadAll_spec i (s.stand i).copy
    refine ⟨_, execProgramLoadComplete_loads hi starting fresh cores seqs, rfl, by rw [State.stand_setStand_same], ?_, loaded⟩
    exact (State.gf_of_regs regs _ _).trans starting
  · exact ⟨_, execProgramLoadComplete_fails hi starting fresh failed, rfl, (failLaunch_spec hi s e).1⟩
  · exact ⟨_, execStartMissed_ends hi starting runs late, rfl, (endRun_ended hi (by decide) _).congr (s.gtcTo_planForce _)⟩
  · exact ⟨_, execStandHandlingSettled_ends hi stopped under, rfl, endRun_ended hi (by decide) s⟩
  · exact ⟨_, execStandHandlingSettled_ends hi stopped under, rfl, endRun_ended hi (by decide) s⟩
  · have ended := endRun_spec hi hs hc s
    refine ⟨ended.state, ended.code, fun g hg => ?_, ended.stand⟩
    rw [ended.cores, if_pos hg]
    rfl

end Sys2Proof.Machine

/-! PROOF. The gate of an edge and what the edge does (R63, R80, R232 to R240, R274, R368, R427, R489). -/

namespace Sys2Proof.Machine

/-! ### Error correction and the streams of a beat -/

section
variable {k : Nat} {b s u : State}

theorem WindReg.hbm {a t c : Nat} (h : a = Reg.HBM_ECC t c ∨ a = Reg.HBM_SPARE t c ∨ a = Reg.HBM_UNCORR t c ∨ a = Reg.HBM_ERR_ADDR t c ∨
    a = Reg.HBM_STATE t c ∨ a = Reg.HBM_MIGRATE t c) : WindReg a := by
  refine .high ?_
  rcases h with rfl | rfl | rfl | rfl | rfl | rfl <;>
    simp only [Reg.HBM_ECC, Reg.HBM_SPARE, Reg.HBM_UNCORR, Reg.HBM_ERR_ADDR, Reg.HBM_STATE, Reg.HBM_MIGRATE] <;> omega

theorem WindReg.core {a t c r : Nat} (h : a = Reg.CORE_TS_ECC t c ∨ a = Reg.CORE_TS_UNCORR t c ∨ a = Reg.CORE_TS_ERR_ADDR t c ∨
    a = Reg.CORE_TS_MIGRATE t c ∨ a = Reg.CORE_ECC_CORR t c ∨ a = Reg.CORE_FAULT t c ∨ a = Reg.CORE_ROW_MAP t c r ∨ a = Reg.CORE_STATE t c r) :
    WindReg a := by
  refine .high ?_
  rcases h with rfl | rfl | rfl | rfl | rfl | rfl | rfl | rfl <;>
    simp only [Reg.CORE_TS_ECC, Reg.CORE_TS_UNCORR, Reg.CORE_TS_ERR_ADDR, Reg.CORE_TS_MIGRATE, Reg.CORE_ECC_CORR, Reg.CORE_FAULT,
      Reg.CORE_ROW_MAP, Reg.CORE_STATE] <;> omega

theorem Winds.corrEnt (h : Winds k b s) (l : LogEnt) : Winds k b (s.corrEnt l) := by
  have status : NvReg Reg.MGT_ERR_STATUS := .log (.inl (by decide))
  have first : Winds k b (s.capture 0 l) := h.reports ((Reports.capture s (by decide) l).mono fun _ => .log)
  unfold State.corrEnt
  generalize s.capture 0 l = s1 at first ⊢
  dsimp only
  split
  · exact first.reports (.sfSat _ status _ _)
  · have logged : Winds k b (s1.append 0 l) := first.reports ((Reports.append s1 0 l).mono fun _ => .log)
    generalize s1.append 0 l = s2 at logged ⊢
    split
    · exact logged.of rfl rfl rfl rfl rfl rfl fun _ => rfl
    · exact logged

theorem Winds.corrected (h : Winds k b s) (e : ErrInfo) : Winds k b (s.corrected e) := by
  unfold State.corrected
  split
  · exact h.of rfl rfl rfl rfl rfl rfl fun _ => rfl
  · exact h.corrEnt _

theorem Winds.degradeStack (h : Winds k b s) (j cause : Nat) : Winds k b (s.degradeStack j cause) := by
  unfold State.degradeStack
  dsimp only
  split
  · exact h
  · exact ((h.sf (.hbm (.inr (.inr (.inr (.inr (.inl rfl)))))) _ _).contained _).dead ..

theorem Winds.hbmMigrate (h : Winds k b s) (j : Nat) (layer : Bool) (key : Nat) : Winds k b (s.hbmMigrate j layer key) :=
  (((h.setHbm ..).sf (.hbm (.inr (.inr (.inr (.inr (.inl rfl)))))) _ _).sf (.hbm (.inr (.inr (.inr (.inr (.inr rfl)))))) _ _).sf
    (.hbm (.inr (.inr (.inr (.inr (.inr rfl)))))) _ _

theorem Winds.hbmBankRepair (h : Winds k b s) (j q : Nat) : Winds k b (s.hbmBankRepair j q) := by
  unfold State.hbmBankRepair
  extract_lets x rs layer sameLayer
  split
  · exact h
  · split
    · split
      · exact h
      · exact h.setHbm ..
    · split
      · exact h.degradeStack ..
      · split
        · split
          · exact h.hbmMigrate ..
          · exact h.degradeStack ..
        · split
          · exact h.degradeStack ..
          · exact h.hbmMigrate ..

theorem Winds.hbmRowRepair (h : Winds k b s) (j r : Nat) : Winds k b (s.hbmRowRepair j r) := by
  unfold State.hbmRowRepair
  dsimp only
  split
  · exact (h.setHbm ..).sfSat (.hbm (.inr (.inl rfl))) _ _
  · exact h.hbmBankRepair ..

theorem Winds.hbmPoison (h : Winds k b s) (j o : Nat) : Winds k b (s.hbmPoison j o) := by
  have counted : Winds k b ((s.setPoison (j * 2 ^ 39 + o) true).sfSat (Reg.HBM_UNCORR (j / 2) (j % 2)) Fld.HBM_UNCORR_count 1) :=
    (h.setPoison ..).sfSat (.hbm (.inr (.inr (.inl rfl)))) _ _
  unfold State.hbmPoison
  dsimp only
  split
  · exact counted.sf (.hbm (.inr (.inr (.inr (.inl rfl))))) _ _
  · exact (counted.sf (.hbm (.inr (.inr (.inr (.inl rfl))))) _ _).sf (.hbm (.inr (.inr (.inr (.inl rfl))))) _ _

theorem Winds.hbmBad (h : Winds k b s) (j o : Nat) : Winds k b (s.hbmBad j o) := by
  have repaired := (h.hbmPoison j o).hbmRowRepair j (hbmRow o)
  unfold State.hbmBad
  dsimp only
  split
  · exact repaired.degradeStack ..
  · exact repaired

theorem Winds.hbmCorrected (h : Winds k b s) (j o : Nat) : Winds k b (s.hbmCorrected j o) := by
  unfold State.hbmCorrected
  extract_lets s1 x r recent all x1 s2
  have counted : Winds k b s2 := ((h.sfSat (.hbm (.inl rfl)) _ _).corrected _).setHbm ..
  split
  · exact counted.hbmRowRepair ..
  · exact counted

theorem Winds.tsReplace (h : Winds k b s) (w q : Nat) : Winds k b (s.tsReplace w q) := by
  have migrate {a : Nat} (ha : a = Reg.CORE_TS_MIGRATE (w / 6) (w % 6)) : WindReg a := .core (r := 0) (.inr (.inr (.inr (.inl ha))))
  unfold State.tsReplace
  dsimp only
  split
  · split
    · exact h
    · exact h.setTs ..
  · split
    · exact h.degradeTower ..
    · exact (((h.setTs ..).sf (migrate rfl) _ _).sf (migrate rfl) _ _).sf (migrate rfl) _ _

theorem Winds.tsPoison (h : Winds k b s) (w o : Nat) : Winds k b (s.tsPoison w o) := by
  have addr : WindReg (Reg.CORE_TS_ERR_ADDR (w / 6) (w % 6)) := .core (r := 0) (.inr (.inr (.inl rfl)))
  have counted : Winds k b ((s.setPoison (tsAddr w o) true).sfSat (Reg.CORE_TS_UNCORR (w / 6) (w % 6)) Fld.CORE_TS_UNCORR_count 1) :=
    (h.setPoison ..).sfSat (.core (r := 0) (.inr (.inl rfl))) _ _
  unfold State.tsPoison
  dsimp only
  split
  · exact counted.sf addr _ _
  · exact (counted.sf addr _ _).sf addr _ _

theorem Winds.tsBad (h : Winds k b s) (w o : Nat) : Winds k b (s.tsBad w o) := (h.tsPoison w o).tsReplace ..

theorem Winds.tsCorrected (h : Winds k b s) (w o : Nat) : Winds k b (s.tsCorrected w o) := by
  unfold State.tsCorrected
  extract_lets s1 x q recent all x1 s2
  have counted : Winds k b s2 := ((h.sfSat (.core (r := 0) (.inl rfl)) _ _).corrected _).setTs ..
  split
  · exact counted.tsReplace ..
  · exact counted

theorem Winds.eccNote (h : Winds k b s) (g e : Nat) : Winds k b (eccNote s g e) :=
  ((h.coreCount g e 1).sfSat (.core (r := 0) (.inr (.inr (.inr (.inr (.inl rfl)))))) _ _).corrected _

theorem Winds.crossbarParity (h : Winds k b s) (hk : k < 2) (g : Nat) : Winds k b (s.crossbarParity g) := (h.dead ..).standFatal hk ..

/-! ### Circuits, streams and swaps at an edge -/

theorem Winds.gtcTo (h : Winds k b s) (n : Nat) : Winds k b (s.gtcTo n) := by
  unfold State.gtcTo
  split
  · exact h.of rfl rfl rfl rfl rfl rfl fun _ => rfl
  · exact h

theorem Winds.framesEdge (h : Winds k b s) (i : Nat) : Winds k b (s.framesEdge i) := by
  unfold State.framesEdge
  extract_lets s1
  have finished : Winds k b s1 := by
    refine h.foldl fun y t _ hy => ?_
    split
    · exact hy.foldl fun _ _ _ hz => hz.finishFrame ..
    · exact hy
  refine finished.foldl fun y w _ hy => ?_
  split
  · exact hy
  · exact hy.setSite ..

theorem Winds.siteUnbound (h : Winds k b s) (i w : Nat) : Winds k b (s.siteUnbound i w) := by
  unfold State.siteUnbound
  extract_lets t c names s1 s2
  have unbound : Winds k b s1 := by
    unfold s1
    split
    · exact h
    · refine (h.setCtx ..).foldl fun y e _ hy => ?_
      split
      · split
        · exact hy.closeCirc ..
        · exact hy.setCtx ..
      · exact hy
  exact (unbound.foldl (f := fun y n => y.freeStream w n) fun _ _ _ hy => hy.freeStream ..).setSite ..

theorem Winds.sitesEdge (h : Winds k b s) (i : Nat) : Winds k b (s.sitesEdge i) := by
  refine h.foldl fun y w _ hy => ?_
  split
  · exact hy.siteUnbound ..
  · exact hy

theorem Winds.carry (h : Winds k b s) (t x c : Nat) (q : Circ) : Winds k b (s.carry t x c q) := by
  unfold State.carry
  extract_lets a f other cal s1 s2
  have given : Winds k b s1 := by
    unfold s1
    split
    · exact h.calAbandon ..
    · exact h
  have carried : Winds k b s2 := (given.setSlotByte ..).setCtx ..
  split
  · exact h
  · split
    · exact h
    · split
      · exact carried
      · exact (carried.sf (.trunk ..) _ _).sf (.trunk ..) _ _

theorem WindReg.ctxRepeat (t x : Nat) : WindReg (Reg.FAB_CTX_REPEAT t x) := .high (by unfold Reg.FAB_CTX_REPEAT; omega)

theorem Winds.ctxRepeat (h : Winds k b s) (t x : Nat) : Winds k b (s.ctxRepeat t x) := (h.sfSat (.ctxRepeat t x) _ _).setCtx ..

theorem Winds.newStream (h : Winds k b s) (w n : Nat) (v : Stream) : Winds k b (s.newStream w n v) := (h.setStream ..).sendCtl ..

theorem Winds.bindStream (h : Winds k b s) (w : Nat) (v : Stream) : Winds k b (s.bindStream w v) := by
  unfold State.bindStream
  split
  · exact h
  · split
    · exact h.newStream ..
    · exact h

theorem Winds.bindStreams (h : Winds k b s) (t i : Nat) (recv : Bool) (e : Nat) (v : Binding) : Winds k b (s.bindStreams t i recv e v) :=
  (h.freeStreams ..).foldl (f := fun y c => y.bindStream (6 * t + c) (v.stream recv e)) fun _ _ _ hy => hy.bindStream ..

theorem Winds.edgeAct (h : Winds k b s) (t x : Nat) (a : EdgeAct) : Winds k b (s.edgeAct t x a) := by
  unfold State.edgeAct
  split
  · exact (h.setCtx ..).bindStreams ..
  · exact (h.setCtx ..).unbindStreams ..
  · dsimp only
    split
    · exact (h.setCtx ..).bindStreams ..
    · exact h
  · dsimp only
    split
    · exact (h.setCtx ..).unbindStreams ..
    · exact h
  · exact h.closeCirc ..
  · exact h.setFab ..

theorem Winds.ctxEdge (h : Winds k b s) (t x n : Nat) : Winds k b (s.ctxEdge t x n) := by
  unfold State.ctxEdge
  extract_lets s1 k0 turned k1
  have acted : Winds k b s1 := h.foldl (f := fun y a => y.edgeAct t x a) fun _ _ _ hy => hy.edgeAct ..
  split
  · split
    · exact acted.setCtx ..
    · exact acted.setCtx ..
  · exact acted.setCtx ..

theorem Winds.groupsEdge (h : Winds k b s) (i n : Nat) (gtc : Word) : Winds k b (s.groupsEdge i n gtc) := by
  refine h.foldl fun y t _ hy => ?_
  split
  · exact hy.setTile ..
  · exact hy

theorem Winds.clearAdd (h : Winds k b s) (i : Nat) (a : ClearAct) : Winds k b (s.clearAdd i a) :=
  h.setStand i ⟨rfl, rfl, rfl, rfl, rfl, rfl, rfl, rfl, id⟩ fun _ => rfl

theorem Winds.swapsDue (h : Winds k b s) (i : Nat) : Winds k b (s.swapsDue i) := by
  refine h.foldl fun y q _ hy => ?_
  extract_lets a e y1 y2
  have moved : Winds k b y2 := (hy.setSlotByte ..).swapBegin ..
  split
  · split
    · exact moved.clearAdd ..
    · exact moved
  · exact hy

theorem Winds.takeListeners (h : Winds k b s) (i : Nat) : Winds k b (s.takeListeners i) := by
  refine h.foldl fun y t _ hy => ?_
  split
  · exact hy
  · next x _ =>
    refine hy.foldl fun z e _ hz => ?_
    extract_lets f l a q z3
    split
    · exact (((hz.setListener ..).setCtx ..).sf (.spareListen ..) _ _).clearAdd ..
    · exact hz

theorem Winds.groupOut (h : Winds k b s) (t q g v : Nat) : Winds k b (s.groupOut t q g v) := h.foldl fun _ _ _ hy => hy.setLaneByte ..

theorem Winds.remapsDue (h : Winds k b s) (i : Nat) : Winds k b (s.remapsDue i) := by
  refine h.foldl fun y t _ hy => ?_
  dsimp only
  split
  · exact (hy.foldl (f := fun z (r : Nat × Nat × Nat × Nat) => (z.remapLanes t r.1 r.2.1 r.2.2.1).groupOut t r.1 r.2.1 1) fun _ _ _ hz =>
      (hz.remapLanes ..).groupOut ..).setTile ..
  · exact hy

theorem Winds.openingErrs (h : Winds k b s) (hk : k < 2) (i : Nat) (gone : List Nat) : Winds k b (s.openingErrs i gone) := by
  unfold State.openingErrs
  extract_lets e0 places e1 slots s1 towers sensors
  have ended : Winds k b s1 := by
    refine Winds.foldl (f := fun (y : State) (q : Nat × ErrInfo) => y.standFatal i q.2) (l := edgeSort (places ++ slots)) h fun y q _ hy => ?_
    exact hy.standFatal hk i q.2
  refine ended.foldl fun y q hq hy => ?_
  rcases List.mem_append.1 (mem_edgeSort hq) with tower | sensor
  · obtain ⟨g, -, rfl⟩ := List.mem_map.1 tower
    exact hy.degradeTower ..
  · obtain ⟨c, -, rfl⟩ := List.mem_map.1 sensor
    exact hy.retireChannel ..

end

/-! ### The course of a run -/

/-- From `b` to `s` stand `i` stays in its state, every stand goes on in its course, and while stand `i` is stopped no core starts. -/
structure Goes (i : Nat) (b s : State) : Prop where
  state : i < 16 → s.stdState i = b.stdState i
  stands : ∀ j, (b.stand j).Course (s.stand j)
  idle : (b.stand i).stopped = true → ∀ g, (s.core g).running = true → (b.core g).running = true

section
variable {i k : Nat} {b s u : State}

theorem Goes.refl (i : Nat) (s : State) : Goes i s s := ⟨fun _ => rfl, fun _ => .refl _, fun _ _ => id⟩

theorem Goes.trans (h : Goes i b s) (g : Goes i s u) : Goes i b u :=
  ⟨fun hi => (g.state hi).trans (h.state hi), fun j => (h.stands j).trans (g.stands j),
    fun stopped c => h.idle stopped c ∘ g.idle ((h.stands i).stopped.trans stopped) c⟩

theorem Winds.goes (h : Winds k b s) (i : Nat) : Goes i b s := ⟨fun hi => h.status hi _, h.stands, fun _ => h.idle⟩

/-- What a run's work does, done within it. -/
theorem Goes.work (h : Goes i b s) (w : Winds 0 s u) : Goes i b u := h.trans (w.goes i)

theorem Goes.foldl {α : Type} {f : State → α → State} {l : List α} (h : Goes i b s) (step : ∀ y, ∀ x ∈ l, Goes i b y → Goes i b (f y x)) :
    Goes i b (l.foldl f s) :=
  List.foldlRecOn (motive := Goes i b) l f h fun y hy x hx => step y x hx hy

theorem State.stdState_of_reg (h : u.reg (Reg.STD_STATUS i) = s.reg (Reg.STD_STATUS i)) : u.stdState i = s.stdState i :=
  State.gf_of_reg h _

theorem Goes.setReg (h : Goes i b s) {a : Nat} (ha : i < 16 → a ≠ Reg.STD_STATUS i) (v : Word) : Goes i b (s.setReg a v) :=
  h.trans ⟨fun hi => State.stdState_of_reg (State.reg_setReg_ne _ _ (ha hi).symm), fun _ => .refl _, fun _ _ => id⟩

theorem Goes.sf (h : Goes i b s) {a : Nat} (ha : i < 16 → a ≠ Reg.STD_STATUS i) (f : Fld) (v : Nat) : Goes i b (s.sf a f v) := h.setReg ha _

theorem State.runCode_state (s : State) (a c v : Nat) :
    (s.sf a Fld.STD_STATUS_run_code v).gf c Fld.STD_STATUS_state = s.gf c Fld.STD_STATUS_state := by
  by_cases same : a = c
  · subst same
    exact State.gf_sf_apart (.inl (by decide)) (by decide)
  · exact State.gf_sf_ne _ _ _ _ (Ne.symm same)

theorem RegsOnly.goes {R : Nat → Prop} (h : RegsOnly R s u) (state : i < 16 → u.stdState i = s.stdState i) : Goes i s u := by
  have frame := h.frame
  generalize u.regs = r at frame
  subst frame
  exact ⟨state, fun _ => .refl _, fun _ _ => id⟩

/-- Another field of a stand's status. -/
theorem Goes.runCode (h : Goes i b s) (j v : Nat) : Goes i b (s.sf (Reg.STD_STATUS j) Fld.STD_STATUS_run_code v) := by
  have state := s.runCode_state (Reg.STD_STATUS j) (Reg.STD_STATUS i) v
  have only := RegsOnly.sf (R := fun _ => True) s (a := Reg.STD_STATUS j) trivial Fld.STD_STATUS_run_code v
  generalize s.sf (Reg.STD_STATUS j) Fld.STD_STATUS_run_code v = u at state only ⊢
  exact h.trans (only.goes fun _ => state)

theorem Goes.setStand (h : Goes i b s) (j : Nat) {x : StandSt} (course : (s.stand j).Course x) : Goes i b (s.setStand j x) :=
  h.work ((Winds.refl 0 s).setStand j course fun hk => absurd hk (by decide))

theorem Goes.setCore (h : Goes i b s) (g : Nat) {c : CoreSt}
    (idle : (s.stand i).stopped = true → c.running = true → (s.core g).running = true) : Goes i b (s.setCore g c) := by
  refine h.trans ⟨fun _ => State.stdState_of_reg rfl, fun _ => .refl _, fun stopped n => ?_⟩
  by_cases hn : n = g
  · subst hn
    rw [State.core_setCore_same]
    exact idle stopped
  · rw [State.core_setCore_ne _ _ hn]
    exact id

/-! ### A fence -/

theorem Winds.coreFault (h : Winds k b s) (t c p cause : Nat) : Winds k b (s.coreFault t c p cause) := by
  have fault : WindReg (Reg.CORE_FAULT t c) := .core (r := 0) (.inr (.inr (.inr (.inr (.inr (.inl rfl))))))
  unfold State.coreFault
  dsimp only
  split
  · exact h.sf fault _ _
  · exact ((h.sf fault _ _).sf fault _ _).sf fault _ _

theorem WindReg.rowMap (t c r : Nat) : WindReg (Reg.CORE_ROW_MAP t c r) := .core (.inr (.inr (.inr (.inr (.inr (.inr (.inl rfl)))))))

theorem Winds.posState (h : Winds k b s) (t c r p v : Nat) : Winds k b (s.posState t c r p v) :=
  h.sf (.core (.inr (.inr (.inr (.inr (.inr (.inr (.inr rfl)))))))) _ _

theorem Winds.placeSpare (h : Winds k b s) (g : Nat) : Winds k b (s.placeSpare g) := by
  unfold State.placeSpare
  dsimp only
  split
  · exact h
  · exact (((h.sf (.rowMap ..) _ _).sf (.dieId ..) _ _).posState ..).dead ..

theorem Winds.fillPlace (h : Winds 0 b s) (g : Nat) : Winds 0 b (s.fillPlace g) := by
  have emptied (j : Nat) : Winds 0 b (if s.inRun j then s.setStand j { s.stand j with emptied := (s.stand j).emptied ++ [g] }
      else s.degradeTower (towerOf g) 0x21) := by
    split
    · exact h.setStand j ⟨rfl, rfl, rfl, rfl, rfl, rfl, rfl, rfl, id⟩ fun _ => rfl
    · exact h.degradeTower ..
  unfold State.fillPlace
  dsimp only
  split
  · split
    · exact emptied _
    · next p j _ _ _ =>
      have own : (s.posState (tileOf g) (siteOf g) (rowOf g) p 6).stand j = s.stand j :=
        congrArg (sget StandSt.zero · j) (s.sf_stands _ _ _)
      have shown := h.posState (tileOf g) (siteOf g) (rowOf g) p 6
      generalize s.posState (tileOf g) (siteOf g) (rowOf g) p 6 = y at own shown ⊢
      exact shown.setStand j (by rw [own]; exact ⟨rfl, rfl, rfl, rfl, rfl, rfl, rfl, rfl, id⟩) fun hk => absurd hk (by decide)
  · exact (h.placeSpare g).setCore _ nofun
  · exact emptied _
  · exact h.degradeTower ..

theorem Goes.failBatch (h : Goes i b s) {j : Nat} (hj : j < 16) (g : Nat) : Goes i b (s.failBatch j g) := by
  have failBeat (_ : i < 16) : Reg.STD_FAIL_BEAT j ≠ Reg.STD_STATUS i := by unfold Reg.STD_FAIL_BEAT Reg.STD_STATUS; omega
  have fences (_ : i < 16) : Reg.STD_FENCES j ≠ Reg.STD_STATUS i := by unfold Reg.STD_FENCES Reg.STD_STATUS; omega
  unfold State.failBatch
  extract_lets x s1 fa s2 s3
  have h1 : Goes i b s1 := by
    unfold s1
    split
    · exact h.setReg failBeat _
    · exact h
  have h2 : Goes i b s2 := by
    unfold s2
    split
    · exact h1.sf fences _ _
    · exact h1
  have h3 : Goes i b s3 := (((h2.sf fences _ _).runCode j _).work ((Winds.refl 0 _).stdEvent ..))
  exact h3.setStand j ⟨rfl, rfl, rfl, rfl, rfl, rfl, rfl, rfl, id⟩

theorem Goes.fenceCore (h : Goes i b s) (g cause : Nat) : Goes i b (fenceCore s g cause) := by
  unfold Machine.fenceCore
  extract_lets c t st r phys p s1 s2 a s3 e s4 s5
  have stopped : Goes i b s1 := h.setCore g fun _ => nofun
  have told : Winds 0 s1 s5 := (((((Winds.refl 0 s1).coreFault ..).posState ..).sf (.rowMap ..) _ _).contained _).dead ..
  have h5 := stopped.work told
  split
  · exact h
  · split
    · next j owner =>
      have hj : j < 16 := List.mem_range.1 (List.mem_of_find?_eq_some owner)
      split
      · exact (h5.failBatch hj _).work ((Winds.refl 0 _).fillPlace _)
      · exact h5.work ((Winds.refl 0 _).fillPlace _)
    · exact h5.work ((Winds.refl 0 _).fillPlace _)

/-! ### The beat-ordered entries of an edge -/

theorem Goes.eccAt (h : Goes i b s) (p : Place) (e : Ecc) : Goes i b (s.eccAt p e) := by
  unfold State.eccAt
  split
  · exact h
  · exact h.work ((Winds.refl 0 s).hbmCorrected ..)
  · exact h.work ((Winds.refl 0 s).hbmBad ..)
  · exact h.work ((Winds.refl 0 s).tsCorrected ..)
  · exact h.work ((Winds.refl 0 s).tsBad ..)
  · exact h.work ((Winds.refl 0 s).eccNote ..)
  · exact h.fenceCore ..
  · exact h.work ((Winds.refl 0 s).eccNote ..)
  · exact h.fenceCore ..
  · exact h.fenceCore ..
  · exact h.fenceCore ..
  · exact h.work ((Winds.refl 0 s).crossbarParity (by decide) _)
  · exact h.work ((Winds.refl 0 s).crossbarParity (by decide) _)
  · exact h

theorem Goes.applyMet (h : Goes i b s) (t : Nat) (p : Pkt) (pl : Place) (a : Nat) (ecc : List (Nat × Ecc)) (bo : Bool) :
    Goes i b (s.applyMet t p pl a ecc bo).2.2 := by
  unfold State.applyMet
  extract_lets met s1 full core r
  have read : Goes i b s1 := h.foldl (f := fun y (q : Nat × Ecc) => y.eccAt (pl.line q.1) q.2) fun _ _ _ hy => hy.eccAt ..
  have applied : Goes i b r.2.2 := read.work ((Winds.refl 0 s1).applyOp ..)
  split
  · exact read
  · dsimp only
    split
    · exact applied.work ((Winds.refl 0 _).digest (by decide) ..)
    · exact applied

theorem Winds.goDown (h : Winds k b s) (t : Nat) (d : DownReq) : Winds k b (s.goDown t d) := (h.setTile ..).sendFlit ..

theorem Goes.boGo (t : Nat) (ents : List Pkt) (met : List (Nat × Ecc)) (l : List (BoEnt × Nat)) (h : Goes i b s)
    (acc : List (Nat × Nat × Nat × Nat)) : Goes i b (boGo t ents met l s acc).1 := by
  induction l generalizing s acc with
  | nil => exact h
  | cons q rest ih =>
    obtain ⟨⟨c, k, p⟩, n⟩ := q
    unfold Machine.boGo
    split
    · exact ih h _
    · split
      · exact ih (h.work ((Winds.refl 0 s).goDown ..)) _
      · split
        · exact ih h _
        · exact ih ((h.work (((Winds.refl 0 s).countApplied ..).ecount ..)).applyMet ..) _

theorem Winds.boError (h : Winds k b s) (hk : k < 2) (i t : Nat) (p : Pkt) (status : Nat) : Winds k b (s.boError i t p status) := by
  unfold State.boError
  dsimp only
  split
  · exact h.standFatal hk ..
  · exact h.standFatal hk ..

theorem Winds.sendReply (h : Winds k b s) (t : Nat) (r : Pkt) : Winds k b (s.sendReply t r) := by
  unfold State.sendReply
  split
  · exact h.setTile ..
  · exact h.setTile ..

theorem Goes.boApply (h : Goes i b s) (j t : Nat) (met : List (Nat × Ecc)) : Goes i b (s.boApply j t met) := by
  unfold State.boApply
  extract_lets e clear
  split
  · exact h.work ((Winds.refl 0 s).setTile ..)
  · split
    · exact h
    · have ran := Goes.boGo t e.ents met e.order.zipIdx h []
      generalize Machine.boGo t e.ents met e.order.zipIdx s [] = r at ran ⊢
      obtain ⟨s1, vals⟩ := r
      dsimp only at ran ⊢
      have cleared : Winds 0 s1 (clear s1) := (Winds.refl 0 s1).setTile ..
      have judged : Winds 0 s1 (vals.reverse.foldl (fun y v =>
          match e.ents[v.1]? with
          | some c => if boFatal c v.2.2.1 then y.boError j t (c.parts.getD v.2.1 c) v.2.2.1 else y
          | none => y) (clear s1)) := by
        refine cleared.foldl fun y v _ hy => ?_
        split
        · split
          · exact hy.boError (by decide) ..
          · exact hy
        · exact hy
      refine ran.work (judged.foldl fun y c _ hy => ?_)
      have noted : Winds 0 s1 (y.flowNote t c.1 0 false) := hy.setTile ..
      split
      · exact (noted.setTile ..).sendReply ..
      · exact noted

theorem WindReg.pktDigest (t i w : Nat) : WindReg (Reg.PKT_DIGEST t i w) := .high (by unfold Reg.PKT_DIGEST; omega)

theorem Winds.foldDigest (h : Winds k b s) (i t : Nat) : Winds k b (s.foldDigest i t) := by
  unfold State.foldDigest State.setDigestReg
  dsimp only
  split
  · exact h
  · exact (h.foldl (f := fun (x : State) w => x.setReg (Reg.PKT_DIGEST t i w) _) fun _ _ _ hy => hy.setReg (.pktDigest ..) _).setTile ..

/-! ### The two edges of a clearing -/

theorem RegsOnly.winds {R : Nat → Prop} (h : RegsOnly R s u) (sub : ∀ a, R a → WindReg a) : Winds k s u := by
  obtain ⟨frame, regs⟩ := h
  have kept (a : Nat) (ha : ¬WindReg a) : u.reg a = s.reg a := regs a fun hr => ha (sub a hr)
  generalize u.regs = r at frame
  subst frame
  exact ⟨kept, ⟨rfl, rfl⟩, fun _ rest hr => ⟨rest, hr⟩, fun _ => .refl _, fun _ => id, fun _ => rfl, fun _ _ => rfl, fun _ => rfl⟩

theorem RegsOnly.stand {R : Nat → Prop} (h : RegsOnly R s u) (j : Nat) : u.stand j = s.stand j :=
  congrArg (sget StandSt.zero · j) (by rw [h.frame] : u.stands = s.stands)

/-- The registers of the tiles. -/
def TileReg (a : Nat) : Prop := 0x1_0000_0000 ≤ a

theorem RegsOnly.gateClocks (s : State) (j v : Nat) : RegsOnly TileReg s (s.gateClocks j v) := by
  refine .foldl _ _ fun y w => ?_
  have div : TileReg (Reg.CLK_SITE_DIV (w / 6) (w % 6)) := by unfold TileReg Reg.CLK_SITE_DIV; omega
  have active : TileReg (Reg.CLK_SITE_ACTIVE (w / 6) (w % 6)) := by unfold TileReg Reg.CLK_SITE_ACTIVE; omega
  dsimp only
  split
  · exact (RegsOnly.sf _ div _ _).trans (.sf _ active _ _)
  · exact .refl _ y

theorem RegsOnly.setDiv (s : State) (j l : Nat) : RegsOnly TileReg s (s.setDiv j l) :=
  .foldl _ _ fun y w => .sf y (by unfold TileReg Reg.CLK_SITE_DIV; omega) _ _

/-- A level change gates or releases the clocks, and its phase is noted. -/
theorem Winds.levelStep (h : Winds k b s) {R : Nat → Prop} (only : RegsOnly R s u) (sub : ∀ a, R a → WindReg a) (j : Nat) {x : StandSt}
    (course : (s.stand j).Course x) (handling : x.handling = (s.stand j).handling) : Winds k b (u.setStand j x) :=
  (h.trans (only.winds sub)).setStand j (by rw [only.stand]; exact course) fun _ => by rw [only.stand]; exact handling

theorem Winds.levelBegin (h : Winds k b s) (j : Nat) : Winds k b (s.levelBegin j) := by
  unfold State.levelBegin
  extract_lets a l n s1
  have added : Winds k b s1 := h.clearAdd ..
  split
  · exact h
  · split
    · exact added.levelStep ((RegsOnly.setDiv s1 j n).trans (.gateClocks ..)) (fun _ => .high) j
        ⟨rfl, rfl, rfl, rfl, rfl, rfl, rfl, rfl, id⟩ rfl
    · exact added.setStand j ⟨rfl, rfl, rfl, rfl, rfl, rfl, rfl, rfl, id⟩ fun _ => rfl

theorem Goes.throttleEnd (hi : i < 16) (h : Goes i b s) : Goes i b (s.throttleEnd i) := by
  have half (w : Nat) : WindReg (Reg.PWR_HALF (w / 6) (w % 6)) := .high (by unfold Reg.PWR_HALF; omega)
  have thr (_ : i < 16) : Reg.PWR_STD_THR i ≠ Reg.STD_STATUS i := by unfold Reg.PWR_STD_THR Reg.STD_STATUS; omega
  unfold State.throttleEnd
  extract_lets s1 x s2
  have freed : Winds 0 s s1 := (Winds.refl 0 s).foldl (f := fun x w => x.setReg (Reg.PWR_HALF (w / 6) (w % 6)) 0) fun _ w _ hy => hy.setReg (half w) _
  have begun : Goes i b s2 := (h.work ((freed.setPwr ..).sf (.gateLevel hi) _ _)).sf thr _ _
  exact ((begun.sf thr _ _).sf thr _ _).sf thr _ _

theorem Goes.opening (hi : i < 16) (h : Goes i b s) (n : Nat) : Goes i b (s.opening i n) := by
  unfold State.opening
  extract_lets x s2 s3 s4 s5 s7 x7 s8 x8 s9
  have h2 : Goes i b s2 := h.setStand i ⟨rfl, rfl, rfl, rfl, rfl, rfl, rfl, rfl, id⟩
  have h3 : Goes i b s3 := (h2.throttleEnd hi).work (((Winds.refl 0 _).budgetApply (by decide) i).levelBegin i)
  have h4 : Goes i b s4 := by
    refine Goes.foldl h3 fun y q _ hy => ?_
    split
    · exact hy.work ((Winds.refl 0 y).calHandover ..)
    · exact hy
  have h5 : Goes i b s5 := h4.work ((((Winds.refl 0 s4).swapsDue i).takeListeners i).remapsDue i)
  have h7 : Goes i b s7 := h5.work ((Winds.refl 0 s5).openingErrs (by decide) ..)
  have h8 : Goes i b s8 := h7.setStand i ⟨rfl, rfl, rfl, rfl, rfl, rfl, rfl, rfl, id⟩
  have h9 : Goes i b s9 := h8.setStand i ⟨rfl, rfl, rfl, rfl, rfl, rfl, rfl, rfl, id⟩
  refine h9.foldl fun y sp _ hy => ?_
  split
  · exact hy.work ((Winds.refl 0 y).clearAdd ..)
  · exact hy

theorem Goes.takeover (h : Goes i b s) (g pc : Nat) {run : Bool} (idle : (s.stand i).stopped = true → run = false) :
    Goes i b (s.takeover g pc run) := by
  unfold State.takeover
  extract_lets c base m
  have placed : Winds 0 s ({ s with mem := m }.placeSpare g) :=
    ((Winds.refl 0 s).of (u := { s with mem := m }) rfl rfl rfl rfl rfl rfl fun _ => rfl).placeSpare g
  refine (h.work placed).setCore g fun stopped running => ?_
  have off := idle ((placed.stands i).stopped ▸ stopped)
  have on : run = true := running
  exact absurd (off.symm.trans on) (by decide)

theorem Goes.closing (hi : i < 16) (h : Goes i b s) (n : Nat) : Goes i b (s.closing i n) := by
  have rejoin (_ : i < 16) : Reg.STD_REJOIN_BEAT i ≠ Reg.STD_STATUS i := by unfold Reg.STD_REJOIN_BEAT Reg.STD_STATUS; omega
  have clearings (_ : i < 16) : Reg.STD_CLEARINGS i ≠ Reg.STD_STATUS i := by unfold Reg.STD_CLEARINGS Reg.STD_STATUS; omega
  unfold State.closing
  extract_lets s2 x ready s3 x3 s4 a
  have h2 : Goes i b s2 := h.work (((Winds.refl 0 s).swapsEnd i).remapsEnd i)
  clear_value s2
  have h3 : Goes i s2 s3 := by
    refine (Goes.refl i s2).foldl fun y sp _ hy => ?_
    extract_lets pc y1
    have taken : Goes i s2 y1 := hy.takeover sp.g pc fun stopped => by
      rw [show x.stopped = true from (hy.stands i).stopped ▸ stopped]
      rfl
    split
    · exact taken.setReg rejoin _
    · exact taken
  clear_value s3
  have h4 : Goes i b s4 := (h2.trans h3).setStand i ⟨rfl, rfl, rfl, rfl, rfl, rfl, rfl, rfl, id⟩
  clear_value s4
  exact h4.setReg clearings _

/-! ### Stops, holds and admitted edges -/

/-- The cores and contexts of a stand that stops. -/
def State.stopUnits (s : State) (i : Nat) : State :=
  (upto 16).foldl (fun y t =>
    let y1 := y.setTile t ((y.tile t).setPart ⟨i, [], false⟩)
    match y1.ctxOf t i with
    | some x => y1.closeAll t x
    | none => y1) ((s.coresOf i).foldl (fun y g => y.setCore g { y.core g with running := false, staged := [] }) s)

theorem State.stopStand_eq (s : State) (i : Nat) :
    s.stopStand i = (s.stopUnits i).setStand i { (s.stopUnits i).stand i with stopped := true } := rfl

theorem State.stopCores (l : List Nat) (s : State) :
    let u := l.foldl (fun y g => y.setCore g { y.core g with running := false, staged := [] }) s
    Winds 0 s u ∧ ∀ g ∈ l, (u.core g).running = false := by
  refine ⟨(Winds.refl 0 s).foldl fun y g _ hy => hy.setCore g nofun, fun g hg => ?_⟩
  refine foldl_settles (P := fun y : State => (y.core g).running = false) hg (fun y => by rw [State.core_setCore_same]) fun y r _ ne kept => ?_
  rw [State.core_setCore_ne _ _ ne.symm]
  exact kept

theorem State.stopUnits_spec (s : State) (i : Nat) : Winds 0 s (s.stopUnits i) ∧ ∀ g ∈ s.coresOf i, ((s.stopUnits i).core g).running = false := by
  obtain ⟨work, stopped⟩ := State.stopCores (s.coresOf i) s
  unfold State.stopUnits
  generalize (s.coresOf i).foldl (fun y g => y.setCore g { y.core g with running := false, staged := [] }) s = s1 at work stopped ⊢
  have closed : Winds 1 s1 ((upto 16).foldl (fun y t =>
      let y1 := y.setTile t ((y.tile t).setPart ⟨i, [], false⟩)
      match y1.ctxOf t i with
      | some x => y1.closeAll t x
      | none => y1) s1) := by
    refine (Winds.refl 1 s1).foldl fun y t _ hy => ?_
    have cleared := hy.setTile t ((y.tile t).setPart ⟨i, [], false⟩)
    dsimp only
    split
    · exact cleared.closeAll ..
    · exact cleared
  refine ⟨work.trans (closed.mono (by decide)), fun g hg => ?_⟩
  rw [State.core, closed.cores (by decide)]
  exact stopped g hg

/-- The cores of a held edge. -/
theorem State.holdCores (l : List CoreEnt) (s : State) :
    let u := l.foldl (fun y e => if (y.core e.g).waiting = some .wflag then y.setCore e.g { y.core e.g with waitHolds := (y.core e.g).waitHolds + 1 } else y) s
    Winds 0 s u ∧ ∀ g, (u.core g).nom = (s.core g).nom := by
  refine List.foldlRecOn (motive := fun u : State => Winds 0 s u ∧ ∀ g, (u.core g).nom = (s.core g).nom) _ _ ⟨.refl 0 s, fun _ => rfl⟩
    fun y kept e _ => ?_
  obtain ⟨work, nom⟩ := kept
  split
  · refine ⟨work.setCore _ id, fun g => ?_⟩
    by_cases hg : g = e.g
    · subst hg
      rw [State.core_setCore_same]
      exact nom _
    · rw [State.core_setCore_ne _ _ hg]
      exact nom g
  · exact ⟨work, nom⟩

theorem State.countedLast (s : State) {a c : Nat} (ne : a ≠ c) {f : Fld} (hf : f.lo + f.w ≤ 64) (v : Word) :
    let u := (s.sfSat a f 1).setReg c v
    u.gf a f = min (s.gf a f + 1) (2 ^ f.w - 1) ∧ u.cores = s.cores := by
  have room : min (s.gf a f + 1) (2 ^ f.w - 1) < 2 ^ f.w := by
    have := Nat.two_pow_pos f.w
    omega
  exact ⟨(State.gf_of_reg (State.reg_setReg_ne _ _ ne) f).trans (State.gf_sf_val hf room), rfl⟩

theorem holdEdge_spec (hi : i < 16) (s : State) : Goes i s (s.holdEdge i) ∧
    (s.holdEdge i).gf (Reg.STD_HOLDS i) Fld.STD_HOLDS_holds =
      min (s.gf (Reg.STD_HOLDS i) Fld.STD_HOLDS_holds + 1) (2 ^ Fld.STD_HOLDS_holds.w - 1) ∧
    ∀ g, ((s.holdEdge i).core g).nom = (s.core g).nom := by
  have notHolds : ¬WindReg (Reg.STD_HOLDS i) ∧ Reg.STD_HOLDS i ≠ Reg.STD_STATUS i ∧ Reg.STD_HOLDS i ≠ Reg.STD_HOLD_LAST i ∧
      Reg.STD_HOLD_LAST i ≠ Reg.STD_STATUS i := by
    unfold WindReg NvReg LogReg Reg.STD_HOLDS Reg.STD_STATUS Reg.STD_HOLD_LAST Reg.HIF_MOD_INT Reg.THM_NV_WINDOW Reg.NVS_REFUSE Reg.MGT_PLAN_STATUS
    omega
  obtain ⟨outside, apart, ne, last⟩ := notHolds
  unfold State.holdEdge
  extract_lets x s1 s2
  have h1 : Goes i s s1 := ((Goes.refl i s).sf (fun _ => apart) _ _).setReg (fun _ => last) _
  obtain ⟨counted, cores⟩ := s.countedLast ne (f := Fld.STD_HOLDS_holds) (by decide) x.lateReg
  change s1.gf (Reg.STD_HOLDS i) Fld.STD_HOLDS_holds = _ at counted
  change s1.cores = s.cores at cores
  clear_value s1
  have nom1 (g : Nat) : (s1.core g).nom = (s.core g).nom := by rw [State.core, cores, State.core]
  obtain ⟨work, nom2⟩ := State.holdCores x.copy.cores s1
  change Winds 0 s1 s2 at work
  change ∀ g, (s2.core g).nom = (s1.core g).nom at nom2
  clear_value s2
  have rest (u : State) (w : Winds 1 s2 u) : Goes i s u ∧ u.gf (Reg.STD_HOLDS i) Fld.STD_HOLDS_holds =
      min (s.gf (Reg.STD_HOLDS i) Fld.STD_HOLDS_holds + 1) (2 ^ Fld.STD_HOLDS_holds.w - 1) ∧ ∀ g, (u.core g).nom = (s.core g).nom := by
    refine ⟨(h1.work work).work (w.mono (by decide)), ?_, fun g => ?_⟩
    · rw [State.gf_of_reg (w.regs _ outside), State.gf_of_reg (work.regs _ outside), counted]
    · rw [State.core, w.cores (by decide)]
      exact (nom2 g).trans (nom1 g)
  split
  · exact rest s2 (.refl 1 s2)
  · refine rest _ ((Winds.refl 1 s2).foldl fun y t _ hy => ?_)
    split
    · exact hy
    · next k _ =>
      refine Winds.ctxRepeat (hy.foldl fun z e _ hz => ?_) ..
      split
      · exact hz.carry ..
      · exact hz

/-- An edge that an admitted beat ends at. -/
structure Admitted (i : Nat) (s u : State) : Prop where
  state : u.stdState i = s.stdState i
  beat : (u.stand i).beat = (s.stand i).beat + 1
  edge : (u.stand i).lastEdge = BitVec.ofNat 64 (s.stand i).edgeAt
  streak : (u.stand i).streak = 0
  grid : (u.stand i).grid = (s.stand i).grid
  stopped : (u.stand i).stopped = (s.stand i).stopped
  idle : (s.stand i).stopped = true → ∀ g, (u.core g).running = true → (s.core g).running = true

/-- A stand at the admitted edge that begins beat `n` at time `e`. -/
def StandSt.turned (x : StandSt) (n e : Nat) : StandSt :=
  { x with beat := BitVec.ofNat 64 n, lastEdge := BitVec.ofNat 64 e, streak := 0 }.adopt e

/-- A run that goes on from the turned beat. -/
theorem Goes.admitted {s1 : State} (h : Goes i s s1) {n : Nat} (hn : n = (s.stand i).beat.toNat + 1)
    (on : Goes i (s1.setStand i ((s1.stand i).turned n (s1.stand i).edgeAt)) u) (hi : i < 16) : Admitted i s u := by
  have before := h.stands i
  have after := on.stands i
  have state : (s1.setStand i ((s1.stand i).turned n (s1.stand i).edgeAt)).stdState i = s1.stdState i := State.stdState_of_reg rfl
  rw [State.stand_setStand_same] at after
  refine ⟨(on.state hi).trans (state.trans (h.state hi)), ?_, ?_, after.streak, after.grid.trans before.grid, after.stopped.trans before.stopped,
    fun stopped g running => h.idle stopped g (on.idle ?_ g running)⟩
  · refine after.beat.trans ?_
    rw [hn]
    exact BitVec.eq_of_toNat_eq (by simp [StandSt.turned, StandSt.adopt, BitVec.toNat_add])
  · refine after.edge.trans ?_
    rw [StandSt.edgeAt, before.copy, before.grid]
    rfl
  · rw [State.stand_setStand_same]
    exact before.stopped.trans stopped

theorem admitEdge_spec (hi : i < 16) (s : State) (ecc : EdgeEcc) :
    (((s.admitEdge i ecc).stdState i = 3 ∨ (s.admitEdge i ecc).stdState i = 4) ∧ (s.stand i).handling.isSome = false) ∨
      Admitted i s (s.admitEdge i ecc) := by
  unfold State.admitEdge
  extract_lets n p s1 x at_ s2 s3 evt s4 s5 s6 s7 s8
  have beats (_ : i < 16) : Reg.STD_BEATS i ≠ Reg.STD_STATUS i := by unfold Reg.STD_BEATS Reg.STD_STATUS; omega
  have hold (_ : i < 16) : Reg.STD_HOLD_RUN i ≠ Reg.STD_STATUS i := by unfold Reg.STD_HOLD_RUN Reg.STD_STATUS; omega
  have next (_ : i < 16) : Reg.STD_NEXT_CLEAR i ≠ Reg.STD_STATUS i := by unfold Reg.STD_NEXT_CLEAR Reg.STD_STATUS; omega
  have h1 : Goes i s s1 := by
    refine (Goes.refl i s).foldl fun y t _ hy => ?_
    exact (hy.boApply ..).work ((Winds.refl 0 _).foldDigest ..)
  have h2 : Goes i (s1.setStand i (x.turned n x.edgeAt)) s2 := (Goes.refl i _).setReg beats _
  clear_value s1
  clear_value s2
  have h3 : Goes i (s1.setStand i (x.turned n x.edgeAt)) s3 := h2.sf hold _ _
  clear_value s3
  have h4 : Goes i (s1.setStand i (x.turned n x.edgeAt)) s4 := by
    unfold s4
    split
    · exact h3.work ((Winds.refl 0 s3).stdEvent ..)
    · exact h3
  clear_value s4
  have h6 : Goes i (s1.setStand i (x.turned n x.edgeAt)) s6 := by
    refine Goes.work (h4.foldl fun y e _ hy => ?_) ((Winds.refl 0 _).groupsEdge ..)
    exact hy.setCore _ fun _ => id
  clear_value s6
  have h7 : Goes i (s1.setStand i (x.turned n x.edgeAt)) s7 := by
    refine h6.foldl fun y t _ hy => ?_
    split
    · exact hy.work ((Winds.refl 0 y).ctxEdge ..)
    · exact hy
  clear_value s7
  have h8 : Goes i (s1.setStand i (x.turned n x.edgeAt)) s8 := by
    unfold s8
    split
    · exact h7.opening hi n
    · split
      · exact h7.closing hi n
      · exact h7
  clear_value s8 s5
  split
  · next over_ =>
    have free : (s.stand i).handling.isSome = false := by
      rw [Bool.eq_false_iff]
      intro under
      have still := (h1.stands i).handled under
      rw [show (s1.stand i).handling = none from over_.2.1] at still
      cases still
    refine .inl ⟨?_, free⟩
    split
    · exact .inr (endRun_spec hi (by decide) (by decide) s5).state
    · exact .inl (endRun_spec hi (by decide) (by decide) s5).state
  · exact .inr (h1.admitted rfl (h8.setReg next _) hi)

end

/-! ### Memory at an edge with no frame -/

theorem mem_sput {α : Type} {m : SMap α} {k : Nat} {v : α} {q : Nat × α} (h : q ∈ sput m k v) : q = (k, v) ∨ q ∈ m := by
  induction m with
  | nil => exact .inl (List.mem_singleton.1 h)
  | cons e rest ih =>
    rw [sput] at h
    split at h
    · exact List.mem_cons.1 h
    · split at h
      · exact (List.mem_cons.1 h).imp_right (List.mem_cons_of_mem _)
      · rcases List.mem_cons.1 h with rfl | later
        · exact .inr (List.mem_cons_self ..)
        · exact (ih later).imp_right (List.mem_cons_of_mem _)

theorem mem_sdel {α : Type} {m : SMap α} {k : Nat} {q : Nat × α} (h : q ∈ sdel m k) : q ∈ m := by
  induction m with
  | nil => exact h
  | cons e rest ih =>
    rw [sdel] at h
    split at h
    · exact List.mem_cons_of_mem _ (ih h)
    · rcases List.mem_cons.1 h with rfl | later
      · exact List.mem_cons_self ..
      · exact List.mem_cons_of_mem _ (ih later)

theorem mem_sset {α : Type} [DecidableEq α] {d : α} {m : SMap α} {k : Nat} {v : α} {q : Nat × α} (h : q ∈ sset d m k v) :
    q = (k, v) ∨ q ∈ m := by
  unfold sset at h
  split at h
  · exact .inr (mem_sdel h)
  · exact mem_sput h

theorem sget_mem {α : Type} {d : α} {m : SMap α} {k : Nat} : sget d m k = d ∨ (k, sget d m k) ∈ m := by
  induction m with
  | nil => exact .inl rfl
  | cons e rest ih =>
    obtain ⟨n, v⟩ := e
    rw [sget]
    split
    · next same => exact .inr (by rw [same]; exact List.mem_cons_self ..)
    · exact ih.imp_right (List.mem_cons_of_mem _)

/-- No circuit of the context holds a line of a frame. -/
def CtxSt.Dry (k : CtxSt) : Prop := ∀ q ∈ k.circs, q.2.frame = []

theorem CtxSt.Dry.circ {k : CtxSt} (h : k.Dry) (c : Nat) : (k.circ c).frame = [] := by
  rcases sget_mem (d := Circ.zero) (m := k.circs) (k := c) with zero | mem
  · rw [CtxSt.circ, zero]
    rfl
  · exact h _ mem

theorem CtxSt.Dry.setCirc {k : CtxSt} (h : k.Dry) (c : Nat) {x : Circ} (hx : x.frame = []) : (k.setCirc c x).Dry := by
  intro q hq
  rcases mem_sset hq with rfl | old
  · exact hx
  · exact h q old

/-- Memory is `m`, and no circuit of the tiles' contexts holds a line. -/
structure Still (m : List Host.Cell) (s : State) : Prop where
  mem : s.mem = m
  dry : ∀ k < 16, ∀ c < 6, (s.ctx k c).Dry

section
variable {m : List Host.Cell} {s u : State}

theorem Still.of (h : Still m s) (mem : u.mem = s.mem) (fab : u.fab = s.fab) : Still m u :=
  ⟨mem.trans h.mem, fun k hk c hc => by
    rw [show u.ctx k c = s.ctx k c by rw [State.ctx, State.fabT, fab]; rfl]
    exact h.dry k hk c hc⟩

theorem Still.foldl {α : Type} {f : State → α → State} {l : List α} (h : Still m s) (step : ∀ y, ∀ x ∈ l, Still m y → Still m (f y x)) :
    Still m (l.foldl f s) :=
  List.foldlRecOn (motive := Still m) l f h fun y hy x hx => step y x hx hy

theorem Still.setFab (h : Still m s) (t : Nat) {x : FabTile} (ctxs : x.ctxs = (s.fabT t).ctxs) : Still m (s.setFab t x) := by
  refine ⟨h.mem, fun k hk c hc => ?_⟩
  by_cases here : k = t
  · subst here
    rw [State.ctx, State.fabT_setFab_same, ctxs]
    exact h.dry k hk c hc
  · rw [State.ctx, State.fabT_setFab_ne _ _ here]
    exact h.dry k hk c hc

theorem Still.setCtx (h : Still m s) (t c : Nat) {k : CtxSt} (dry : k.Dry) : Still m (s.setCtx t c k) := by
  refine ⟨h.mem, fun t' ht' c' hc' => ?_⟩
  by_cases here : t' = t
  · subst here
    rw [State.ctx, State.setCtx, State.fabT_setFab_same]
    dsimp only
    rw [sget_sset]
    split
    · exact dry
    · exact h.dry _ ht' _ hc'
  · rw [State.ctx, State.setCtx, State.fabT_setFab_ne _ _ here]
    exact h.dry _ ht' _ hc'

theorem Still.setReg (h : Still m s) (a : Nat) (v : Word) : Still m (s.setReg a v) := h.of rfl rfl
theorem Still.sf (h : Still m s) (a : Nat) (f : Fld) (v : Nat) : Still m (s.sf a f v) := h.setReg a _
theorem Still.setSite (h : Still m s) (w : Nat) (x : SiteSt) : Still m (s.setSite w x) := h.of rfl rfl
theorem Still.emit (h : Still m s) (o : Out) : Still m (s.emit o) := h.of rfl rfl
theorem Still.setCore (h : Still m s) (g : Nat) (c : CoreSt) : Still m (s.setCore g c) := h.of rfl rfl
theorem Still.setStand (h : Still m s) (i : Nat) (x : StandSt) : Still m (s.setStand i x) := h.of rfl rfl

theorem Still.finishFrame (h : Still m s) {t x : Nat} (ht : t < 16) (hx : x < 6) (c : Nat) : s.finishFrame t x c = s := by
  unfold State.finishFrame
  exact if_pos ((h.dry t ht x hx).circ c)

theorem Still.freeStream (h : Still m s) (w n : Nat) : Still m (s.freeStream w n) := by
  have set (v : Option Stream) : Still m (s.setStream w n v) := (h.setSite ..).sf ..
  unfold State.freeStream
  split
  · exact h
  · dsimp only
    split
    · exact ((set _).setSite ..).emit _
    · exact set _

theorem Still.unbindStreams (h : Still m s) (t i : Nat) (recv : Bool) (e : Nat) : Still m (s.unbindStreams t i recv e) := by
  refine h.foldl fun y c _ hy => ?_
  dsimp only
  split
  · exact hy
  · exact hy.foldl fun z n _ hz => hz.freeStream ..

theorem Still.parkListener (h : Still m s) (t l : Nat) : Still m (s.parkListener t l) := by
  unfold State.parkListener State.setListener
  dsimp only
  split
  · exact h.setFab t rfl
  · exact h.setFab t rfl

theorem Still.carriageBit (h : Still m s) (u q l : Nat) : Still m (s.carriageBit u q l) := by
  unfold State.carriageBit
  split
  · exact h
  · exact h.setReg ..

theorem Still.closeCirc (h : Still m s) {t x : Nat} (ht : t < 16) (hx : x < 6) (c : Nat) : Still m (s.closeCirc t x c) := by
  have ended := h.unbindStreams t (s.ctx t x).stand true c
  unfold State.closeCirc
  rw [h.finishFrame ht hx]
  generalize s.unbindStreams t (s.ctx t x).stand true c = s0 at ended ⊢
  dsimp only
  have dry := ended.dry t ht x hx
  split
  · exact ended
  · have parked : Still m (if ((s0.ctx t x).circ c).listener = noListener then s0
        else if decide ((s0.listener t ((s0.ctx t x).circ c).listener).mode = .fenced) = true then
          (s0.parkListener t ((s0.ctx t x).circ c).listener).replaceListener t ((s0.ctx t x).circ c).listener
        else s0.parkListener t ((s0.ctx t x).circ c).listener) := by
      split
      · exact ended
      · split
        · have off := ended.parkListener t ((s0.ctx t x).circ c).listener
          unfold State.replaceListener
          dsimp only
          split
          · exact off.sf ..
          · exact off
        · exact ended.parkListener ..
    generalize (if ((s0.ctx t x).circ c).listener = noListener then s0 else _) = s1 at parked ⊢
    have shut (lst : SMap Listener) : Still m ((s1.setFab t { s1.fabT t with lst := lst }).setCtx t x ((s0.ctx t x).setCirc c Circ.zero)) :=
      (parked.setFab t (x := { s1.fabT t with lst := lst }) rfl).setCtx t x (dry.setCirc c (x := Circ.zero) rfl)
    split
    · exact (shut _).carriageBit ..
    · exact shut _

theorem State.ctxOf_lt {t i x : Nat} (h : s.ctxOf t i = some x) : x < 6 := List.mem_range.1 (List.mem_of_find?_eq_some h)

theorem State.tilesOf_lt {t i : Nat} (h : t ∈ s.tilesOf i) : t < 16 := List.mem_range.1 (List.mem_filter.1 h).1

theorem Still.framesEdge (h : Still m s) (i : Nat) : Still m (s.framesEdge i) := by
  unfold State.framesEdge
  extract_lets s1
  have finished : Still m s1 := by
    refine h.foldl fun y t ht hy => ?_
    split
    · next x own =>
      refine hy.foldl fun z c _ hz => ?_
      rw [hz.finishFrame (State.tilesOf_lt ht) (State.ctxOf_lt own)]
      exact hz
    · exact hy
  refine finished.foldl fun y w _ hy => ?_
  split
  · exact hy
  · exact hy.setSite ..

theorem Still.siteUnbound (h : Still m s) (i : Nat) {w : Nat} (hw : w < 96) : Still m (s.siteUnbound i w) := by
  unfold State.siteUnbound
  extract_lets t c names s1 s2
  have ht : t < 16 := by
    unfold t
    omega
  have unbound : Still m s1 := by
    unfold s1
    split
    · exact h
    · next x own =>
      have hx := State.ctxOf_lt own
      dsimp only
      refine Still.foldl (h.setCtx t x fun q hq => h.dry t ht x hx q hq) fun y e _ hy => ?_
      split
      · split
        · exact hy.closeCirc ht hx _
        · exact hy.setCtx t x ((hy.dry t ht x hx).setCirc _ ((hy.dry t ht x hx).circ _))
      · exact hy
  exact (unbound.foldl (f := fun y n => y.freeStream w n) fun _ _ _ hy => hy.freeStream ..).setSite ..

theorem Still.sitesEdge (h : Still m s) (i : Nat) : Still m (s.sitesEdge i) := by
  refine h.foldl fun y w hw hy => ?_
  split
  · exact hy.siteUnbound i (List.mem_range.1 (List.mem_filter.1 hw).1)
  · exact hy

theorem Still.nominalZero (h : Still m s) (i : Nat) : Still m (s.nominalZero i) := h.foldl fun _ _ _ hy => hy.setCore ..

theorem Still.gtcTo (h : Still m s) (n : Nat) : Still m (s.gtcTo n) := by
  unfold State.gtcTo
  split
  · exact h.of rfl rfl
  · exact h

theorem Still.setSlotByte (h : Still m s) (t q l v : Nat) : Still m (s.setSlotByte t q l v) := h.setReg ..

theorem Still.calAbandon (h : Still m s) (t q : Nat) : Still m (s.calAbandon t q) := by
  unfold State.calAbandon
  dsimp only
  split
  · exact h
  · exact ((h.sf ..).sf ..).setFab t (by rw [State.fabT, State.fabT, State.sf_fab, State.sf_fab])

theorem Still.carry (h : Still m s) {t x : Nat} (ht : t < 16) (hx : x < 6) (c : Nat) {q : Circ} (dry : q.frame = []) : Still m (s.carry t x c q) := by
  unfold State.carry
  extract_lets a f other cal s1 s2
  have given : Still m s1 := by
    unfold s1
    split
    · exact h.calAbandon ..
    · exact h
  clear_value s1
  have carried : Still m s2 :=
    (given.setSlotByte q.src q.trunk q.slot (natPut (s1.slotByte q.src q.trunk q.slot) 6 1 1)).setCtx t x
      (k := (s1.ctx t x).setCirc c { q with carriage := true }) ((given.dry t ht x hx).setCirc c dry)
  split
  · exact h
  · split
    · exact h
    · split
      · exact carried
      · exact (carried.sf ..).sf ..

theorem Still.ctxRepeat (h : Still m s) {t x : Nat} (ht : t < 16) (hx : x < 6) : Still m (s.ctxRepeat t x) := by
  refine (h.sf ..).setCtx t x fun q hq => ?_
  obtain ⟨e, he, rfl⟩ := List.mem_map.1 hq
  exact h.dry t ht x hx e he

theorem Still.holdEdge (h : Still m s) (i : Nat) : Still m (s.holdEdge i) := by
  unfold State.holdEdge
  extract_lets x s1 s2
  have h1 : Still m s1 := (h.sf ..).setReg ..
  have h2 : Still m s2 := by
    refine h1.foldl fun y e _ hy => ?_
    dsimp only
    split
    · exact hy.setCore ..
    · exact hy
  clear_value s2
  split
  · exact h2
  · refine h2.foldl fun y t ht hy => ?_
    split
    · exact hy
    · next k own =>
      have hk := State.ctxOf_lt own
      refine Still.ctxRepeat (hy.foldl fun z e he hz => ?_) (State.tilesOf_lt ht) hk
      split
      · exact hz.carry (State.tilesOf_lt ht) hk _ (hy.dry _ (State.tilesOf_lt ht) _ hk e he)
      · exact hz

end

/-! ### The gate -/

section
variable {i : Nat} {b s u : State}

theorem State.gtcTo_frame (s : State) (n : Nat) : s.gtcTo n = { s with gtc := (s.gtcTo n).gtc } := by
  unfold State.gtcTo
  split <;> rfl

theorem State.gtcTo_late (s : State) (n i : Nat) : (s.gtcTo n).coreLate i = s.coreLate i ∧ (s.gtcTo n).boLate i = s.boLate i ∧
    (s.gtcTo n).seqLate i = s.seqLate i ∧ (s.gtcTo n).clearLate i = s.clearLate i ∧ (s.gtcTo n).tilesOf i = s.tilesOf i := by
  unfold State.gtcTo
  split
  · exact ⟨rfl, rfl, rfl, rfl, rfl⟩
  · exact ⟨rfl, rfl, rfl, rfl, rfl⟩

/-- The verdict of the gate (R234, R235). -/
def State.verdict (s : State) (i : Nat) : Bool :=
  (((s.stand i).copy.cores.map (·.g)).filter (s.coreLate i)).isEmpty && !((s.stand i).copy.cores.map (·.g)).any (s.boLate i) &&
    ((s.tilesOf i).filter (s.seqLate i)).isEmpty && !s.clearLate i

theorem State.verdict_iff (s : State) (i : Nat) : s.verdict i = true ↔
    (∀ e ∈ (s.stand i).copy.cores, s.coreLate i e.g = false ∧ s.boLate i e.g = false) ∧
      (∀ k ∈ s.tilesOf i, s.seqLate i k = false) ∧ s.clearLate i = false := by
  simp only [State.verdict, Bool.and_eq_true, List.isEmpty_iff, List.filter_eq_nil_iff, List.mem_map, Bool.not_eq_true', List.any_eq_false,
    forall_exists_index, and_imp, forall_apply_eq_imp_iff₂, Bool.not_eq_true]
  constructor
  · rintro ⟨⟨⟨cores, bo⟩, seqs⟩, clear⟩
    exact ⟨fun e he => ⟨cores e he, bo e he⟩, seqs, clear⟩
  · rintro ⟨cores, seqs, clear⟩
    exact ⟨⟨⟨fun e he => (cores e he).1, fun e he => (cores e he).2⟩, seqs⟩, clear⟩

theorem gateEval_spec (hi : i < 16) (s : State) : ((s.gateEval i).stand i).gate = some (s.verdict i) ∧
    ((s.gateEval i).stand i).streak = (if s.verdict i then 0 else min ((s.stand i).streak + 1) 0xFFFF) ∧
    ((s.gateEval i).stand i).beat = (s.stand i).beat ∧ ((s.gateEval i).stand i).grid = (s.stand i).grid := by
  have hold (_ : i < 16) : Reg.STD_HOLD_RUN i ≠ Reg.STD_STATUS i := by unfold Reg.STD_HOLD_RUN Reg.STD_STATUS; omega
  unfold State.gateEval
  extract_lets x s0 cores lateC bo lateT clr ok reg streak hr s1 s2 s3 dead s4 s5 p
  obtain ⟨cl, bl, sl, kl, tiles⟩ := s.gtcTo_late (x.edgeAt - 256) i
  have verdict : ok = s.verdict i := by
    unfold State.verdict
    rw [← cl, ← bl, ← sl, ← kl, ← tiles]
  clear_value s0
  have own : s1.stand i = { x with gate := some ok, lateReg := BitVec.ofNat 64 reg, streak := streak, longBefore := s0.gf hr Fld.STD_HOLD_RUN_longest,
                                   clearHolds := if clr then x.clearHolds + 1 else 0 } := State.stand_setStand_same ..
  clear_value s1
  have h2 : Goes i s1 s2 := ((Goes.refl i s1).sf hold _ _).sf hold _ _
  clear_value s2
  have h3 : Goes i s1 s3 := by
    unfold s3
    split
    · exact h2.work ((Winds.refl 0 s2).stdEvent ..)
    · exact h2
  clear_value s3
  have h4 : Goes i s1 s4 := h3.foldl fun y g _ hy => hy.setCore g fun _ => id
  clear_value s4
  have h5 : Goes i s1 s5 := h4.foldl fun y g _ hy => hy.fenceCore ..
  clear_value s5
  have last (u : State) (h : Goes i s1 u) : (u.stand i).gate = some (s.verdict i) ∧
      (u.stand i).streak = (if s.verdict i then 0 else min ((s.stand i).streak + 1) 0xFFFF) ∧
      (u.stand i).beat = (s.stand i).beat ∧ (u.stand i).grid = (s.stand i).grid := by
    have course := h.stands i
    rw [own] at course
    rw [← verdict]
    exact ⟨course.gate, course.streak, course.beat, course.grid⟩
  split
  · exact last _ (h5.work ((Winds.refl 0 s5).sf (.gateLevel hi) _ _))
  · exact last _ h5

/-! ### Beat 0 -/

/-- One core's share of beat 0. -/
def State.startCore (y : State) (e : CoreEnt) : State :=
  if (y.core e.g).fenced || y.openSite (towerOf e.g) then y else y.setCore e.g { y.core e.g with running := true, active := true, nom := 0 }

theorem startCores_spec (l : List CoreEnt) (s : State) : (l.foldl State.startCore s).regs = s.regs ∧ (l.foldl State.startCore s).stands = s.stands ∧
    ∀ g, ((l.foldl State.startCore s).core g).running =
      ((s.core g).running || (l.any (·.g == g) && !((s.core g).fenced || s.openSite (towerOf g)))) := by
  induction l generalizing s with
  | nil => exact ⟨rfl, rfl, fun g => by simp⟩
  | cons e l ih =>
    have one : (s.startCore e).regs = s.regs ∧ (s.startCore e).stands = s.stands ∧ (∀ g, ((s.startCore e).core g).fenced = (s.core g).fenced) ∧
        ∀ g, ((s.startCore e).core g).running = ((s.core g).running || ((e.g == g) && !((s.core g).fenced || s.openSite (towerOf g)))) := by
      unfold State.startCore
      split
      · next out =>
        refine ⟨rfl, rfl, fun _ => rfl, fun g => ?_⟩
        by_cases here : e.g = g
        · subst here
          rw [out]
          simp
        · simp [here]
      · next up =>
        refine ⟨rfl, rfl, fun g => ?_, fun g => ?_⟩ <;> by_cases here : g = e.g
        · subst here
          rw [State.core_setCore_same]
        · rw [State.core_setCore_ne _ _ here]
        · subst here
          rw [State.core_setCore_same]
          simp [Bool.eq_false_iff.2 up]
        · rw [State.core_setCore_ne _ _ here]
          simp [Ne.symm here]
    obtain ⟨regs, stands, fenced, running⟩ := one
    obtain ⟨regs', stands', running'⟩ := ih (s.startCore e)
    refine ⟨regs'.trans regs, stands'.trans stands, fun g => ?_⟩
    have agent : (s.startCore e).openSite (towerOf g) = s.openSite (towerOf g) := congrArg (· == 1) (State.gf_of_regs regs _ _)
    rw [List.foldl_cons, running', running, fenced, agent, List.any_cons]
    cases (s.core g).running <;> cases (e.g == g) <;> cases (!((s.core g).fenced || s.openSite (towerOf g))) <;> simp

/-- A stand at beat 0. -/
def StandSt.begun (x : StandSt) : StandSt :=
  { x with grid := 1, beat := 0, lastEdge := x.copy.start, gate := none, levelPhase := .none, railFrom := none }.adopt x.copy.start.toNat

/-- The registers that beat 0 writes besides the status and the level. -/
def BeginReg (i a : Nat) : Prop := TileReg a ∨ a = Reg.STD_NEXT_CLEAR i ∨ a = Reg.HIF_STD_INT i ∨ LogReg a

theorem BeginReg.not (hi : i < 16) : ¬BeginReg i (Reg.STD_STATUS i) ∧ ¬BeginReg i (Reg.STD_GATE_LEVEL i) ∧
    ∀ w < 96, ¬BeginReg i (Reg.SITE_CENSUS0 w) := by
  unfold BeginReg TileReg LogReg
  refine ⟨?_, ?_, fun w hw => ?_⟩ <;>
    simp only [Reg.STD_STATUS, Reg.STD_GATE_LEVEL, Reg.SITE_CENSUS0, Reg.STD_NEXT_CLEAR, Reg.HIF_STD_INT, Reg.HIF_MOD_INT] <;> omega

/-- The status and the level of a stand at beat 0. -/
theorem State.beginFields {a c : Nat} (apart : a ≠ c) (s : State) (l : Nat) :
    let u := ((s.sf a Fld.STD_STATUS_state 2).sf c Fld.STD_GATE_LEVEL_level l).sf c Fld.STD_GATE_LEVEL_next_level l
    u.gf a Fld.STD_STATUS_state = 2 ∧ u.gf c Fld.STD_GATE_LEVEL_level = l % 8 ∧ u.cores = s.cores ∧ u.stands = s.stands ∧
      ∀ b, b ≠ a → b ≠ c → u.reg b = s.reg b := by
  refine ⟨?_, ?_, rfl, rfl, fun b ha hc => ?_⟩
  · rw [State.gf_sf_ne _ _ _ _ apart, State.gf_sf_ne _ _ _ _ apart]
    exact State.gf_sf_val (by decide) (by decide)
  · exact (State.gf_sf_apart (.inl (by decide)) (by decide)).trans (State.gf_sf_same _ _ _ _ (by decide))
  · rw [State.reg_sf_ne _ _ _ hc, State.reg_sf_ne _ _ _ hc, State.reg_sf_ne _ _ _ ha]

theorem Reports.kept {R : Nat → Prop} (h : Reports R s u) : u.cores = s.cores ∧ u.stands = s.stands := by
  have frame := h.frame
  rw [frame]
  exact ⟨rfl, rfl⟩

/-- From `s` to `u` cores, stands and every register but those of `BeginReg` are kept. -/
structure Begins (i : Nat) (s u : State) : Prop where
  cores : u.cores = s.cores
  stands : u.stands = s.stands
  regs : ∀ a, ¬BeginReg i a → u.reg a = s.reg a

theorem Begins.refl (i : Nat) (s : State) : Begins i s s := ⟨rfl, rfl, fun _ _ => rfl⟩

theorem Begins.trans {t : State} (h : Begins i s t) (k : Begins i t u) : Begins i s u :=
  ⟨k.cores.trans h.cores, k.stands.trans h.stands, fun a ha => (k.regs a ha).trans (h.regs a ha)⟩

theorem RegsOnly.begins {R : Nat → Prop} (h : RegsOnly R s u) (sub : ∀ a, R a → BeginReg i a) : Begins i s u :=
  ⟨by rw [h.frame], by rw [h.frame], fun a ha => h.regs a fun hr => ha (sub a hr)⟩

theorem Reports.begins {R : Nat → Prop} (h : Reports R s u) (sub : ∀ a, R a → BeginReg i a) : Begins i s u :=
  ⟨h.kept.1, h.kept.2, fun a ha => h.regs a fun hr => ha (sub a hr)⟩

/-- The contexts of a stand at beat 0 go to their programs' start. -/
theorem State.startCtxs (s : State) (i : Nat) (l : List Nat) :
    let u := l.foldl (fun y t =>
      match y.ctxOf t i with
      | some k => y.setCtx t k ((y.ctx t k).goto 0)
      | none => y) s
    Begins i s u :=
  List.foldlRecOn (motive := Begins i s) _ _ (.refl i s) fun y kept t _ => by
    split
    · exact kept.trans ⟨rfl, rfl, fun _ _ => rfl⟩
    · exact kept

/-- A throttle in force is marked. -/
theorem Begins.throttleMark (s : State) (i : Nat) : Begins i s (s.throttleMark i) := by
  unfold State.throttleMark
  extract_lets x s1
  have set : Begins i s s1 := ⟨rfl, rfl, fun _ _ => rfl⟩
  clear_value s1
  split
  · exact set
  · exact set.trans ((Reports.modCause s1 6).begins fun _ h => .inr (.inr (.inr h)))

theorem Begins.stand (h : Begins i s u) (j : Nat) : u.stand j = s.stand j := congrArg (sget StandSt.zero · j) h.stands

theorem Begins.core (h : Begins i s u) (g : Nat) : u.core g = s.core g := congrArg (sget CoreSt.zero · g) h.cores

theorem Begins.gf (h : Begins i s u) {a : Nat} (ha : ¬BeginReg i a) (f : Fld) : u.gf a f = s.gf a f := State.gf_of_reg (h.regs a ha) f

theorem beatZero_spec (hi : i < 16) (s : State) : (s.beatZero i).stdState i = 2 ∧
    (s.beatZero i).gf (Reg.STD_GATE_LEVEL i) Fld.STD_GATE_LEVEL_level = (s.stand i).copy.level % 8 ∧
    (s.beatZero i).stand i = (s.stand i).begun ∧
    ∀ e ∈ (s.stand i).copy.cores, e.g < 12288 → ((s.beatZero i).core e.g).running =
      ((s.core e.g).running || !((s.core e.g).fenced || s.openSite (towerOf e.g))) := by
  obtain ⟨notStatus, notLevel, notCensus⟩ := BeginReg.not hi
  have apart : Reg.STD_STATUS i ≠ Reg.STD_GATE_LEVEL i := by unfold Reg.STD_STATUS Reg.STD_GATE_LEVEL; omega
  have census (w : Nat) (hw : w < 96) : Reg.SITE_CENSUS0 w ≠ Reg.STD_STATUS i ∧ Reg.SITE_CENSUS0 w ≠ Reg.STD_GATE_LEVEL i := by
    unfold Reg.SITE_CENSUS0 Reg.STD_STATUS Reg.STD_GATE_LEVEL
    omega
  unfold State.beatZero
  extract_lets x a l s1 s2 s3 s4 y s5
  obtain ⟨state, level, cores, stands, regs⟩ := State.beginFields apart s l
  have own : s1 = (((s.sf (Reg.STD_STATUS i) Fld.STD_STATUS_state 2).sf a Fld.STD_GATE_LEVEL_level l).sf a Fld.STD_GATE_LEVEL_next_level l).setDiv i l :=
    rfl
  clear_value s1
  generalize ((s.sf (Reg.STD_STATUS i) Fld.STD_STATUS_state 2).sf a Fld.STD_GATE_LEVEL_level l).sf a Fld.STD_GATE_LEVEL_next_level l = z
    at own state level cores stands regs
  have h2 : Begins i z s2 := by
    have divided := (RegsOnly.setDiv z i l).begins (i := i) fun _ => .inl
    rw [← own] at divided
    exact (divided.trans ((RegsOnly.gateClocks s1 i 0).begins fun _ => .inl)).trans
      ((RegsOnly.setReg (R := (· = Reg.STD_NEXT_CLEAR i)) _ rfl _).begins fun _ h => .inr (.inl h))
  clear_value s2
  obtain ⟨regs3, stands3, running⟩ := startCores_spec x.copy.cores s2
  change s3.regs = s2.regs at regs3
  change s3.stands = s2.stands at stands3
  change ∀ g, (s3.core g).running = _ at running
  clear_value s3
  have h4 : Begins i s3 s4 := State.startCtxs s3 i _
  clear_value s4
  have shown : y = x := (h4.stand i).trans (congrArg (sget StandSt.zero · i) (stands3.trans (h2.stands.trans stands)))
  have h5 : Begins i (s4.setStand i x.begun) s5 := by
    unfold s5
    rw [shown]
    exact (Reports.stdEvent (R := (· = Reg.HIF_STD_INT i)) _ rfl 1).begins fun _ h => .inr (.inr (.inl h))
  clear_value s5
  have last : Begins i s5 (if ((s5.halvesOf i).any fun q => q.1 != 0) = true then s5.throttleMark i else s5) := by
    split
    · exact .throttleMark ..
    · exact .refl i s5
  generalize (if ((s5.halvesOf i).any fun q => q.1 != 0) = true then s5.throttleMark i else s5) = u at last ⊢
  have fields {b : Nat} (hb : ¬BeginReg i b) (f : Fld) : u.gf b f = z.gf b f := by
    rw [last.gf hb, h5.gf hb, State.gf_setStand, h4.gf hb, State.gf_of_regs regs3, h2.gf hb]
  refine ⟨(fields notStatus _).trans state, (fields notLevel _).trans level, ?_, fun e he hg => ?_⟩
  · rw [last.stand, h5.stand, State.stand_setStand_same]
  · have hw : towerOf e.g < 96 := by unfold towerOf; omega
    have agent : s2.openSite (towerOf e.g) = s.openSite (towerOf e.g) :=
      congrArg (· == 1) (State.gf_of_reg ((h2.regs _ (notCensus _ hw)).trans (regs _ (census _ hw).1 (census _ hw).2)) _)
    have same : s2.core e.g = s.core e.g := congrArg (sget CoreSt.zero · e.g) (h2.cores.trans cores)
    have kept : u.core e.g = s3.core e.g := (last.core _).trans ((h5.core _).trans (h4.core _))
    have listed : x.copy.cores.any (·.g == e.g) = true := List.any_eq_true.2 ⟨e, he, beq_self_eq_true _⟩
    rw [kept, running, same, agent, listed, Bool.true_and]

end

/-! ### The statement's clauses -/

section
variable {i : Nat} {s : State} {ecc : EdgeEcc}

/-- A grid edge before its verdict acts. -/
def State.edgeBase (s : State) (i : Nat) : State := (((s.gtcTo (s.stand i).edgeAt).nominalZero i).framesEdge i).sitesEdge i

/-- A stand's grid goes on by one edge, with no gate. -/
def State.gridOn (s : State) (i n : Nat) : State := s.setStand i { s.stand i with grid := n + 1, gate := none }

theorem State.nominalZero_spec (s : State) (i : Nat) : Winds 0 s (s.nominalZero i) ∧ ∀ e ∈ (s.stand i).copy.cores, ((s.nominalZero i).core e.g).nom = 0 := by
  refine ⟨(Winds.refl 0 s).foldl fun y e _ hy => hy.setCore _ id, fun e he => ?_⟩
  refine foldl_settles (P := fun y : State => (y.core e.g).nom = 0) he (fun y => by rw [State.core_setCore_same]) fun y r _ _ kept => ?_
  by_cases same : e.g = r.g
  · rw [same, State.core_setCore_same]
  · rw [State.core_setCore_ne _ _ same]
    exact kept

theorem State.edgeBase_spec (s : State) (i : Nat) : Winds 0 s (s.edgeBase i) ∧ ∀ e ∈ (s.stand i).copy.cores, ((s.edgeBase i).core e.g).nom = 0 := by
  have reached := (Winds.refl 0 s).gtcTo (s.stand i).edgeAt
  have copy : ((s.gtcTo (s.stand i).edgeAt).stand i).copy = (s.stand i).copy := (reached.stands i).copy
  unfold State.edgeBase
  generalize s.gtcTo (s.stand i).edgeAt = s1 at reached copy ⊢
  obtain ⟨zeroed, nom⟩ := s1.nominalZero_spec i
  generalize s1.nominalZero i = s2 at zeroed nom ⊢
  have rest : Winds 1 s2 ((s2.framesEdge i).sitesEdge i) := ((Winds.refl 1 s2).framesEdge i).sitesEdge i
  refine ⟨(reached.trans zeroed).trans (rest.mono (by decide)), fun e he => ?_⟩
  rw [State.core, rest.cores (by decide)]
  exact nom e (by rw [copy]; exact he)

theorem State.edgeBase_planForce (s : State) (i : Nat) : (s.edgeBase i).planForce = s.planForce := by
  have zeroed (y : State) : (y.nominalZero i).planForce = y.planForce :=
    List.foldlRecOn (motive := fun u : State => u.planForce = y.planForce) _ _ rfl fun _ kept _ _ => kept
  unfold State.edgeBase
  exact ((((Winds.refl 3 _).framesEdge i).sitesEdge i).plan (by decide)).trans ((zeroed _).trans (s.gtcTo_planForce _))

theorem Still.edgeBase {m : List Host.Cell} (h : Still m s) (i : Nat) : Still m (s.edgeBase i) := by
  unfold State.edgeBase
  exact (((h.gtcTo _).nominalZero i).framesEdge i).sitesEdge i

theorem execGridEdge_run (hi : i < 16) (on : s.clk.stopped = false) (run : s.stdState i = 2) :
    exec (.gridEdge i ecc) s = .next (s.gridStep i ecc) := by
  show execGridEdge i ecc s = _
  rw [execGridEdge, if_neg (by omega)]
  dsimp only
  rw [if_neg (by rw [on]; decide), if_neg (by omega), if_pos run]

theorem State.gridOn_state (s : State) (i n j : Nat) : (s.gridOn i n).stdState j = s.stdState j := State.stdState_of_reg rfl

theorem State.gridOn_stand (s : State) (i n : Nat) : (s.gridOn i n).stand i = { s.stand i with grid := n + 1, gate := none } :=
  State.stand_setStand_same ..

theorem gridStep_stopped (h : (s.stand i).stopped = true) : s.gridStep i ecc = (s.edgeBase i).gridOn i (s.stand i).grid := by
  unfold State.gridStep
  exact if_pos h

theorem gridStep_handled (runs : (s.stand i).stopped = false) {ok : Bool} (gate : (s.stand i).gate = some ok)
    (under : (s.stand i).handling.isSome = true) : s.gridStep i ecc =
      (if ok then ((s.edgeBase i).stopStand i).admitEdge i ecc else ((s.edgeBase i).stopStand i).holdEdge i).gridOn i (s.stand i).grid := by
  unfold State.gridStep
  dsimp only
  rw [if_neg (by rw [runs]; decide), gate]
  dsimp only
  rw [if_pos under]
  rfl

theorem gridStep_held (run : RunsOn s i) (gate : (s.stand i).gate = some false) :
    s.gridStep i ecc = ((s.edgeBase i).holdEdge i).gridOn i (s.stand i).grid := by
  obtain ⟨-, -, runs, free⟩ := run
  unfold State.gridStep
  dsimp only
  rw [if_neg (by rw [runs]; decide), gate]
  dsimp only
  rw [if_neg (by rw [free]; decide)]
  rfl

theorem gridStep_admitted (run : RunsOn s i) (gate : (s.stand i).gate = some true) : s.gridStep i ecc =
    if ((s.edgeBase i).admitEdge i ecc).stdState i = 2 then ((s.edgeBase i).admitEdge i ecc).gridOn i (s.stand i).grid
    else (s.edgeBase i).admitEdge i ecc := by
  obtain ⟨-, -, runs, free⟩ := run
  unfold State.gridStep
  dsimp only
  rw [if_neg (by rw [runs]; decide), gate]
  dsimp only
  rw [if_neg (by rw [free]; decide), if_pos rfl]
  rfl

/-- A held edge of a run (R238). -/
theorem gridEdge_held (run : RunsOn s i) (on : s.clk.stopped = false) (gate : (s.stand i).gate = some false) :
    ∃ t, exec (.gridEdge i ecc) s = .next t ∧ (t.stand i).beat = (s.stand i).beat ∧
      (t.stand i).grid = (s.stand i).grid + 1 ∧ (t.stand i).gate = none ∧ t.stdState i = 2 ∧
      t.gf (Reg.STD_HOLDS i) Fld.STD_HOLDS_holds = min (s.gf (Reg.STD_HOLDS i) Fld.STD_HOLDS_holds + 1) (2 ^ Fld.STD_HOLDS_holds.w - 1) ∧
      (∀ e ∈ (s.stand i).copy.cores, (t.core e.g).nom = 0) ∧
      ((∀ k < 16, ∀ c < 6, ∀ q ∈ (s.ctx k c).circs, q.2.frame = []) → t.mem = s.mem) := by
  obtain ⟨hi, state, -, -⟩ := id run
  obtain ⟨base, nom⟩ := s.edgeBase_spec i
  obtain ⟨goes, holds, same⟩ := holdEdge_spec hi (s.edgeBase i)
  have course := ((base.goes i).trans goes)
  have outside : ¬WindReg (Reg.STD_HOLDS i) := by
    unfold WindReg NvReg LogReg Reg.STD_HOLDS Reg.HIF_MOD_INT Reg.THM_NV_WINDOW Reg.NVS_REFUSE Reg.MGT_PLAN_STATUS
    omega
  refine ⟨_, (execGridEdge_run hi on state).trans (congrArg _ (gridStep_held run gate)), ?_, ?_, ?_, ?_, ?_, fun e he => ?_, fun dry => ?_⟩
  · rw [State.gridOn_stand]
    exact (course.stands i).beat
  · rw [State.gridOn_stand]
  · rw [State.gridOn_stand]
  · rw [State.gridOn_state]
    exact (course.state hi).trans state
  · rw [State.gridOn, State.gf_setStand, holds, State.gf_of_reg (base.regs _ outside)]
  · exact (same e.g).trans (nom e he)
  · have still : Still s.mem s := ⟨rfl, dry⟩
    exact ((still.edgeBase i).holdEdge i).mem

/-- An admitted edge of a run (R233, R65). -/
theorem gridEdge_admitted (run : RunsOn s i) (on : s.clk.stopped = false) (gate : (s.stand i).gate = some true) :
    ∃ t, exec (.gridEdge i ecc) s = .next t ∧
      t = (if ((s.edgeBase i).admitEdge i ecc).stdState i = 2 then ((s.edgeBase i).admitEdge i ecc).gridOn i (s.stand i).grid
        else (s.edgeBase i).admitEdge i ecc) ∧
      (t.stdState i = 2 ∨ t.stdState i = 3 ∨ t.stdState i = 4) ∧
      (t.stdState i = 2 → (t.stand i).beat = (s.stand i).beat + 1 ∧ (t.stand i).grid = (s.stand i).grid + 1 ∧ (t.stand i).gate = none ∧
        (t.stand i).streak = 0 ∧ (t.stand i).lastEdge = BitVec.ofNat 64 (s.stand i).edgeAt) := by
  obtain ⟨hi, state, -, -⟩ := id run
  obtain ⟨base, -⟩ := s.edgeBase_spec i
  have before := base.stands i
  refine ⟨_, (execGridEdge_run hi on state).trans (congrArg _ (gridStep_admitted run gate)), rfl, ?_⟩
  rcases admitEdge_spec hi (s.edgeBase i) ecc with ⟨over_, -⟩ | goes
  · have ended : ((s.edgeBase i).admitEdge i ecc).stdState i ≠ 2 := by omega
    rw [if_neg ended]
    exact ⟨.inr over_, fun h => absurd h ended⟩
  · have going : ((s.edgeBase i).admitEdge i ecc).stdState i = 2 := goes.state.trans (((base.goes i).state hi).trans state)
    rw [if_pos going, State.gridOn_state, State.gridOn_stand]
    have edge : ((s.edgeBase i).stand i).edgeAt = (s.stand i).edgeAt := by rw [StandSt.edgeAt, StandSt.edgeAt, before.copy, before.grid]
    refine ⟨.inl going, fun _ => ⟨?_, rfl, rfl, ?_, ?_⟩⟩
    · dsimp only
      rw [goes.beat, before.beat]
    · dsimp only
      rw [goes.streak]
    · dsimp only
      rw [goes.edge, edge]

/-- The edge that begins stand handling (R489). -/
theorem gridEdge_handled (hi : i < 16) (on : s.clk.stopped = false) (state : s.stdState i = 2) (runs : (s.stand i).stopped = false)
    (under : (s.stand i).handling.isSome = true) {ok : Bool} (gate : (s.stand i).gate = some ok) :
    ∃ t, exec (.gridEdge i ecc) s = .next t ∧
      t = (if ok then ((s.edgeBase i).stopStand i).admitEdge i ecc else ((s.edgeBase i).stopStand i).holdEdge i).gridOn i (s.stand i).grid ∧
      (t.stand i).stopped = true ∧ (t.stand i).grid = (s.stand i).grid + 1 ∧ ∀ g ∈ s.coresOf i, (t.core g).running = false := by
  refine ⟨_, (execGridEdge_run hi on state).trans (congrArg _ (gridStep_handled runs gate under)), rfl, ?_⟩
  obtain ⟨base, -⟩ := s.edgeBase_spec i
  obtain ⟨units, halted⟩ := (s.edgeBase i).stopUnits_spec i
  have course := (base.stands i).trans (units.stands i)
  have plan : (s.edgeBase i).coresOf i = s.coresOf i := State.coresOf_congr (s.edgeBase_planForce i) i
  rw [plan] at halted
  rw [State.stopStand_eq]
  generalize hs : ((s.edgeBase i).stopUnits i).setStand i { ((s.edgeBase i).stopUnits i).stand i with stopped := true } = s1
  have own : s1.stand i = { ((s.edgeBase i).stopUnits i).stand i with stopped := true } := by rw [← hs, State.stand_setStand_same]
  have cores (g : Nat) : s1.core g = ((s.edgeBase i).stopUnits i).core g := by rw [← hs, State.core, State.core, State.setStand_cores]
  have stopped : (s1.stand i).stopped = true := by rw [own]
  rw [State.gridOn_stand]
  have kept (g : Nat) (u : State) (grid : Nat) : (u.gridOn i grid).core g = u.core g := rfl
  have finish (u : State) (stays : (u.stand i).stopped = (s1.stand i).stopped)
      (idle : (s1.stand i).stopped = true → ∀ g, (u.core g).running = true → (s1.core g).running = true) :
      (u.stand i).stopped = true ∧ (s.stand i).grid + 1 = (s.stand i).grid + 1 ∧
        ∀ g ∈ s.coresOf i, ((u.gridOn i (s.stand i).grid).core g).running = false := by
    refine ⟨stays.trans stopped, rfl, fun g hg => ?_⟩
    rw [kept, Bool.eq_false_iff]
    intro running
    have still := idle stopped g running
    rw [cores, halted g hg] at still
    cases still
  cases ok with
  | false =>
    obtain ⟨goes, -, -⟩ := holdEdge_spec hi s1
    rw [if_neg (by decide)]
    dsimp only
    exact finish _ (goes.stands i).stopped goes.idle
  | true =>
    rcases admitEdge_spec hi s1 ecc with ⟨-, free⟩ | goes
    · rw [own] at free
      exact absurd (course.handled under) (by rw [free]; decide)
    · rw [if_pos rfl]
      dsimp only
      exact finish _ goes.stopped goes.idle

end

section
variable {i : Nat} {s : State} {ecc : EdgeEcc}

/-- Beat 0 (R63). -/
theorem gridEdge_begins (hi : i < 16) (on : s.clk.stopped = false) (starting : s.stdState i = 1) (free : (s.stand i).handling = none)
    (ready : s.startReady i = true) (inside : ∀ e ∈ (s.stand i).copy.cores, e.g < 12288) :
    ∃ t, exec (.gridEdge i ecc) s = .next t ∧ t.stdState i = 2 ∧ (t.stand i).beat = 0 ∧ (t.stand i).grid = 1 ∧
      (t.stand i).gate = none ∧ t.gf (Reg.STD_GATE_LEVEL i) Fld.STD_GATE_LEVEL_level = (s.stand i).copy.level % 8 ∧
      ∀ e ∈ (s.stand i).copy.cores, (t.core e.g).running =
        ((s.core e.g).running || !((s.core e.g).fenced || s.openSite (towerOf e.g))) := by
  have step : exec (.gridEdge i ecc) s = .next ((s.gtcTo (s.stand i).copy.start.toNat).beatZero i) := by
    show execGridEdge i ecc s = _
    rw [execGridEdge, if_neg (by omega)]
    dsimp only
    rw [if_neg (by rw [on]; decide), if_pos starting, if_neg (by rw [free]; decide), if_pos ready]
  refine ⟨_, step, ?_⟩
  have frame := s.gtcTo_frame (s.stand i).copy.start.toNat
  generalize s.gtcTo (s.stand i).copy.start.toNat = s0 at frame ⊢
  generalize s0.gtc = g at frame
  obtain ⟨state, level, own, running⟩ := beatZero_spec hi s0
  generalize s0.beatZero i = u at state level own running ⊢
  subst frame
  refine ⟨state, ?_, ?_, ?_, level, fun e he => running e he (inside e he)⟩ <;> rw [own] <;> rfl

/-- A gate of a run (R234 to R236). -/
theorem beatGate_spec (hi : i < 16) (on : s.clk.stopped = false) (run : s.stdState i = 2) (open_ : (s.stand i).gate = none)
    (runs : (s.stand i).stopped = false) : exec (.beatGate i) s = .next (s.gateEval i) := by
  show execBeatGate i s = _
  rw [execBeatGate, if_neg (by omega)]
  dsimp only
  rw [if_pos ⟨run, open_, by rw [runs]; rfl, by rw [on]; rfl⟩]

end

/-- Settles O29: each part of an edge keeps the run's course, its beat and grid. -/
theorem gatesAndEdges : Obligations.GatesAndEdges := by
  unfold Obligations.GatesAndEdges
  refine ⟨fun s i hi off => ⟨?_, fun ecc => ?_⟩, fun s i hi on run open_ runs => ?_, fun s i ecc hi on =>
    ⟨gridEdge_begins hi on, fun run => gridEdge_held run on, fun run => gridEdge_admitted run on,
      fun state runs under ok gate => gridEdge_handled hi on state runs under gate, fun state stopped => ?_⟩⟩
  · show execBeatGate i s = _
    rw [execBeatGate, if_neg (by omega)]
    dsimp only
    rw [if_neg (by simp [off])]
  · show execGridEdge i ecc s = _
    rw [execGridEdge, if_neg (by omega)]
    dsimp only
    rw [if_pos off]
  · obtain ⟨gate, streak, beat, grid⟩ := gateEval_spec hi s
    exact ⟨_, s.verdict i, beatGate_spec hi on run open_ runs, gate, s.verdict_iff i, streak, beat, grid⟩
  · refine ⟨_, (execGridEdge_run hi on state).trans (congrArg _ (gridStep_stopped stopped)), rfl, ?_, ?_⟩
    · rw [State.gridOn_stand]
    · rw [State.gridOn_stand]
      dsimp only
      rw [((s.edgeBase_spec i).1.stands i).beat]

end Sys2Proof.Machine

/-! PROOF. Starts of the module and of a tile (R462 to R471, R479). -/

namespace Sys2Proof.Machine

/-! ### What a start's own registers outlast -/

/-- The start's status and its failure, and the hold of tile `o`. -/
def BootReg (o a : Nat) : Prop := a = Reg.MGT_START_STATUS ∨ a = Reg.MGT_START_FAIL ∨ a = Reg.OPT_HOLD_STATE o

theorem BootReg.tile {o a : Nat} (h : 0x1_0000_0000 ≤ a) (n : a % 0x1_0000_0000 ≠ 0x21000C) : ¬BootReg o a := by
  unfold BootReg Reg.MGT_START_STATUS Reg.MGT_START_FAIL Reg.OPT_HOLD_STATE
  omega

theorem BootReg.low {o a : Nat} (h : a < 0x1_0000_0000) (status : a ≠ Reg.MGT_START_STATUS) (fail : a ≠ Reg.MGT_START_FAIL) : ¬BootReg o a := by
  unfold BootReg Reg.OPT_HOLD_STATE
  omega

theorem BootReg.not_nv {o a : Nat} (h : NvReg a) : ¬BootReg o a := by
  unfold NvReg LogReg Reg.HIF_MOD_INT Reg.THM_NV_WINDOW Reg.NVS_REFUSE at h
  unfold BootReg Reg.MGT_START_STATUS Reg.MGT_START_FAIL Reg.OPT_HOLD_STATE
  omega

/-- From `s` to `u` these registers are kept; from `k = 1` on the memory and the fabric too. -/
structure Boots (o k : Nat) (s u : State) : Prop where
  regs : ∀ a, BootReg o a → u.reg a = s.reg a
  mem : 1 ≤ k → u.mem = s.mem
  fab : 1 ≤ k → u.fab = s.fab

section
variable {o k : Nat} {s t u : State}

theorem Boots.refl (o k : Nat) (s : State) : Boots o k s s := ⟨fun _ _ => rfl, fun _ => rfl, fun _ => rfl⟩

theorem Boots.trans (h : Boots o k s t) (g : Boots o k t u) : Boots o k s u :=
  ⟨fun a ha => (g.regs a ha).trans (h.regs a ha), fun hk => (g.mem hk).trans (h.mem hk), fun hk => (g.fab hk).trans (h.fab hk)⟩

theorem Boots.mono {l : Nat} (h : Boots o k s u) (le : l ≤ k) : Boots o l s u :=
  ⟨h.regs, fun hl => h.mem (hl.trans le), fun hl => h.fab (hl.trans le)⟩

theorem Boots.gf (h : Boots o k s u) {a : Nat} (ha : BootReg o a) (f : Fld) : u.gf a f = s.gf a f := State.gf_of_reg (h.regs a ha) f

theorem Boots.foldl {α : Type} {f : State → α → State} (l : List α) (s : State) (h : ∀ y a, Boots o k y (f y a)) : Boots o k s (l.foldl f s) :=
  List.foldlRecOn (motive := Boots o k s) _ _ (.refl o k s) fun y kept a _ => kept.trans (h y a)

/-- A change of none of these. -/
theorem Boots.of (regs : u.regs = s.regs) (mem : 1 ≤ k → u.mem = s.mem) (fab : 1 ≤ k → u.fab = s.fab) : Boots o k s u :=
  ⟨fun a _ => congrArg (fun m => sget (regDefault a) m a) regs, mem, fab⟩

theorem Boots.setReg (s : State) {a : Nat} (ha : ¬BootReg o a) (v : Word) : Boots o k s (s.setReg a v) :=
  ⟨fun _ hc => State.reg_setReg_ne _ _ fun e => ha (e ▸ hc), fun _ => rfl, fun _ => rfl⟩

theorem Boots.sf (s : State) {a : Nat} (ha : ¬BootReg o a) (f : Fld) (v : Nat) : Boots o k s (s.sf a f v) := .setReg s ha _

theorem Boots.setSite (s : State) (w : Nat) (x : SiteSt) : Boots o k s (s.setSite w x) := .of rfl (fun _ => rfl) fun _ => rfl
theorem Boots.setTile (s : State) (t : Nat) (x : PlaneTile) : Boots o k s (s.setTile t x) := .of rfl (fun _ => rfl) fun _ => rfl
theorem Boots.setStand (s : State) (i : Nat) (x : StandSt) : Boots o k s (s.setStand i x) := .of rfl (fun _ => rfl) fun _ => rfl
theorem Boots.setPwr (s : State) (i : Nat) (x : PwrSt) : Boots o k s (s.setPwr i x) := .of rfl (fun _ => rfl) fun _ => rfl
theorem Boots.setCore (s : State) (g : Nat) (x : CoreSt) : Boots o k s (s.setCore g x) := .of rfl (fun _ => rfl) fun _ => rfl
theorem Boots.setFab (s : State) (t : Nat) (x : FabTile) : Boots o 0 s (s.setFab t x) :=
  .of rfl (fun h => absurd h (by decide)) fun h => absurd h (by decide)

theorem RegsOnly.boots {R : Nat → Prop} (h : RegsOnly R s u) (sub : ∀ a, R a → ¬BootReg o a) : Boots o k s u :=
  ⟨fun a ha => h.regs a fun hr => sub a hr ha, fun _ => by rw [h.frame], fun _ => by rw [h.frame]⟩

theorem Notes.boots (h : Notes s u) : Boots o k s u :=
  ⟨fun a ha => h.regs a fun hn => BootReg.not_nv hn ha, fun _ => by rw [h.frame], fun _ => by rw [h.frame]⟩

theorem Reports.boots {R : Nat → Prop} (h : Reports R s u) (sub : ∀ a, R a → ¬BootReg o a) : Boots o k s u :=
  ⟨fun a ha => h.regs a fun hr => sub a hr ha, fun _ => by rw [h.frame], fun _ => by rw [h.frame]⟩

theorem Boots.modCause (s : State) (c : Nat) : Boots o k s (s.modCause c) := (Reports.modCause s c).boots fun _ h => BootReg.not_nv (.log h)

theorem Boots.standFatal (s : State) {i : Nat} (hi : i < 16) (e : ErrInfo) : Boots o k s (s.standFatal i e) := by
  have err : ¬BootReg o (Reg.STD_ERR i) := by
    unfold BootReg Reg.MGT_START_STATUS Reg.MGT_START_FAIL Reg.OPT_HOLD_STATE Reg.STD_ERR
    omega
  have int : ¬BootReg o (Reg.HIF_STD_INT i) := by
    unfold BootReg Reg.MGT_START_STATUS Reg.MGT_START_FAIL Reg.OPT_HOLD_STATE Reg.HIF_STD_INT
    omega
  unfold State.standFatal
  split
  · have logged : Boots o k s (s.logErr 2 (s.logEnt 2 { e with stand := some i })) :=
      (Reports.logErr s (by decide) _).boots fun _ h => BootReg.not_nv (.log h)
    generalize s.logErr 2 (s.logEnt 2 { e with stand := some i }) = s1 at logged ⊢
    generalize Reg.STD_ERR i = a at err
    dsimp only
    have shown : Boots o k s1 (if s.gf a Fld.STD_ERR_valid = 1 then s1.sf a Fld.STD_ERR_more 1
        else ((s1.sf a Fld.STD_ERR_code e.code).sf a Fld.STD_ERR_valid 1).sf a Fld.STD_ERR_gcore (e.gcore.getD 0x3FFF)) := by
      split
      · exact .sf _ err _ _
      · exact ((Boots.sf _ err _ _).trans (.sf _ err _ _)).trans (.sf _ err _ _)
    generalize (if s.gf a Fld.STD_ERR_valid = 1 then s1.sf a Fld.STD_ERR_more 1
        else ((s1.sf a Fld.STD_ERR_code e.code).sf a Fld.STD_ERR_valid 1).sf a Fld.STD_ERR_gcore (e.gcore.getD 0x3FFF)) = s2 at shown ⊢
    have told : Boots o k s2 ((s2.sfSat a Fld.STD_ERR_count 1).stdEvent i 2) :=
      (Boots.sf _ err _ _).trans ((Reports.stdEvent (R := (· = Reg.HIF_STD_INT i)) _ rfl 2).boots fun _ h => h ▸ int)
    have all := (logged.trans shown).trans told
    generalize (s2.sfSat a Fld.STD_ERR_count 1).stdEvent i 2 = s3 at all ⊢
    split
    · exact logged
    · split
      · exact all
      · exact all.trans (.setStand ..)
  · exact (Reports.contained s _).boots fun _ h => BootReg.not_nv (.log h)

/-! ### A site's training -/

theorem BootReg.site (o w : Nat) : ¬BootReg o (Reg.SITE_LINK_STATE (w / 6) (w % 6)) ∧ ¬BootReg o (Reg.SITE_MODULES (w / 6) (w % 6)) ∧
    ¬BootReg o (Reg.SITE_HALF (w / 6) (w % 6)) ∧ ¬BootReg o (Reg.SITE_REPAIR (w / 6) (w % 6)) ∧ ¬BootReg o (Reg.SITE_EQUIV (w / 6) (w % 6)) ∧
    ¬BootReg o (Reg.CLK_SITE_ACTIVE (w / 6) (w % 6)) ∧ ¬BootReg o (Reg.PWR_PAD_HOLD (w / 6)) := by
  refine ⟨BootReg.tile ?_ ?_, BootReg.tile ?_ ?_, BootReg.tile ?_ ?_, BootReg.tile ?_ ?_, BootReg.tile ?_ ?_, BootReg.tile ?_ ?_,
    BootReg.tile ?_ ?_⟩ <;>
    simp only [Reg.SITE_LINK_STATE, Reg.SITE_MODULES, Reg.SITE_HALF, Reg.SITE_REPAIR, Reg.SITE_EQUIV, Reg.CLK_SITE_ACTIVE, Reg.PWR_PAD_HOLD] <;>
    omega

theorem Boots.showMap (s : State) (w : Nat) : Boots o k s (s.showMap w) := by
  obtain ⟨link, -, -, -, equiv, -⟩ := BootReg.site o w
  exact (Boots.sf _ link _ _).trans (.sf _ equiv _ _)

theorem Boots.setSiteRepair (s : State) (w : Nat) (f : Fld) (v : Nat) : Boots o k s (s.setSiteRepair w f v) := by
  obtain ⟨-, -, -, repair, -⟩ := BootReg.site o w
  exact .sf _ repair _ _

theorem Boots.setSiteMask (s : State) (w v : Nat) : Boots o k s (s.setSiteMask w v) := by
  obtain ⟨-, mask, -⟩ := BootReg.site o w
  exact .sf _ mask _ _

theorem Boots.setHalf (s : State) (w v : Nat) : Boots o k s (s.sf (Reg.SITE_HALF (w / 6) (w % 6)) Fld.SITE_HALF_mask v) := by
  obtain ⟨-, -, half, -⟩ := BootReg.site o w
  exact .sf _ half _ _

theorem Boots.dead (s : State) (kind tile site sub index cause : Nat) : Boots o k s (s.dead kind tile site sub index cause) :=
  (Notes.dead ..).boots

theorem Boots.remapSite (s : State) (w : Nat) : Boots o k s (s.remapSite w) := by
  have shown : Boots o k s (s.showMap w) := .showMap s w
  unfold State.remapSite
  generalize s.showMap w = s1 at shown ⊢
  dsimp only
  split
  · exact shown
  · have limited : Boots o k s1 (if s1.siteRepair w Fld.SITE_REPAIR_limited = 1 then s1
        else (s1.setSiteRepair w Fld.SITE_REPAIR_limited 1).dead 0x0B (w / 6) (w % 6) 0 0 0x1C) := by
      split
      · exact .refl o k s1
      · exact (Boots.setSiteRepair ..).trans (.dead ..)
    have all := shown.trans limited
    generalize (if s1.siteRepair w Fld.SITE_REPAIR_limited = 1 then s1
        else (s1.setSiteRepair w Fld.SITE_REPAIR_limited 1).dead 0x0B (w / 6) (w % 6) 0 0 0x1C) = s2 at all ⊢
    split
    · next i stand => exact all.trans (.standFatal _ (State.standOfTower_lt stand) _)
    · exact all

theorem Boots.moduleEnt (s : State) (w sub x cause : Nat) : Boots o k s (s.moduleEnt w sub x cause) := by
  unfold State.moduleEnt
  split
  · exact .refl o k s
  · dsimp only
    exact ((Boots.setSiteRepair ..).trans (.setSiteMask ..)).trans (.setHalf ..)

theorem Boots.formMap (s : State) (w : Nat) : Boots o k s (s.formMap w) :=
  (((Boots.setSiteMask ..).trans (.setHalf ..)).trans (.setSiteRepair ..)).trans
    (.foldl _ _ fun y e => .moduleEnt y w e.sub.toNat e.index.toNat e.cause.toNat)

theorem Boots.moduleOut (s : State) (w m : Nat) : Boots o k s (s.moduleOut w m) := by
  unfold State.moduleOut
  dsimp only
  split
  · exact .refl o k s
  · refine Boots.trans ?_ (.dead ..)
    split
    · exact ((Boots.setSiteMask ..).trans (.setHalf ..)).trans (.setSiteRepair ..)
    · exact (Boots.setSiteMask ..).trans (.setHalf ..)

theorem Boots.narrow (s : State) (w : Nat) : Boots o k s (s.narrow w) := by
  unfold State.narrow
  split
  · exact .refl o k s
  · exact (Boots.setHalf ..).trans (.setSiteMask ..)

theorem Boots.siteFailed (s : State) {w : Nat} (hw : w < 96) : Boots o k s (s.siteFailed w) := by
  obtain ⟨link, -, -, -, -, active, pads⟩ := BootReg.site o w
  have census : ¬BootReg o (Reg.SITE_CENSUS0 w) := by
    unfold BootReg Reg.SITE_CENSUS0 Reg.MGT_START_STATUS Reg.MGT_START_FAIL Reg.OPT_HOLD_STATE
    omega
  exact ((Boots.sf _ link _ _).trans (.sf _ census _ _)).trans ((Boots.sf _ active _ _).trans (.sf _ pads _ _))

theorem Boots.censusGen (s : State) : Boots o k s s.censusGen := by
  have gen : ¬BootReg o Reg.SITE_CENSUS_GEN := BootReg.low (by decide) (by decide) (by decide)
  exact (Boots.sf _ gen _ _).trans (.modCause ..)

theorem Boots.siteRetrain (s : State) (w : Nat) : Boots o k s (s.siteRetrain w) := by
  unfold State.siteRetrain
  split
  · exact .refl o k s
  · exact (((Boots.setSite ..).trans (.formMap ..)).trans (.narrow ..)).trans (.remapSite ..)

theorem Boots.siteTrain (s : State) {w : Nat} (hw : w < 96) (out : List Nat) (fails : Bool) : Boots o k s (s.siteTrain w out fails) := by
  unfold State.siteTrain
  split
  · exact .refl o k s
  · have moved : Boots o k s (((upto 17).filter out.contains).foldl (fun y m => y.moduleOut w m) s) := .foldl _ _ fun y m => .moduleOut y w m
    generalize ((upto 17).filter out.contains).foldl (fun y m => y.moduleOut w m) s = s1 at moved
    dsimp only
    split
    · exact moved.trans ((Boots.siteFailed s1 hw).trans (.censusGen _))
    · exact moved.trans ((Boots.setSite ..).trans (.siteRetrain ..))

/-! ### A tile's warm start -/

theorem BootReg.not_stack {o a : Nat} (h : StackReg a) : ¬BootReg o a := by
  obtain ⟨x, c, ⟨rfl, hc⟩ | rfl⟩ := h
  · exact BootReg.tile (by unfold Reg.HBM_STATE; omega) (by unfold Reg.HBM_STATE; omega)
  · exact BootReg.tile (by unfold Reg.PWR_PAD_HOLD; omega) (by unfold Reg.PWR_PAD_HOLD; omega)

theorem Boots.stackSleep (s : State) (j : Nat) : Boots o k s (s.stackSleep j) := (RegsOnly.stackSleep s j).boots fun _ => BootReg.not_stack

theorem Boots.stackFollow (s : State) (i j : Nat) : Boots o k s (s.stackFollow i j) := by
  unfold State.stackFollow
  split
  · exact .stackSleep ..
  · split
    · exact (RegsOnly.stackLeave s j).boots fun _ => BootReg.not_stack
    · exact (RegsOnly.stackWake s j).boots fun _ => BootReg.not_stack

theorem Boots.deskewed (s : State) (t : Nat) : Boots o k s (s.deskewed t) := by
  have status : ¬BootReg o (Reg.CLK_TILE_STATUS t) := BootReg.tile (by unfold Reg.CLK_TILE_STATUS; omega) (by unfold Reg.CLK_TILE_STATUS; omega)
  have deskew : ¬BootReg o (Reg.CLK_TILE_DESKEW t) := BootReg.tile (by unfold Reg.CLK_TILE_DESKEW; omega) (by unfold Reg.CLK_TILE_DESKEW; omega)
  have chosen : Boots o k s (s.deskew t) := by
    unfold State.deskew State.takeBelow
    generalize Reg.CLK_TILE_DESKEW t = a at deskew
    dsimp only
    refine Boots.trans ?_ (.setReg _ deskew _)
    exact .of rfl (fun _ => rfl) fun _ => rfl
  unfold State.deskewed
  split
  · exact .refl o k s
  · generalize s.deskew t = s1 at chosen ⊢
    dsimp only
    split
    · exact chosen.trans (.of rfl (fun _ => rfl) fun _ => rfl)
    · refine chosen.trans (Boots.trans ?_ (.sf _ status _ _))
      exact .of rfl (fun _ => rfl) fun _ => rfl

/-- The lane maps of tile `t` lie beyond its hold register. -/
theorem BootReg.lanes (t q l : Nat) : ¬BootReg t (Reg.PKT_LANE_MAP t q l) ∧ ¬BootReg t (Reg.PKT_LANE_GROUP t q) := by
  unfold BootReg Reg.PKT_LANE_MAP Reg.PKT_LANE_GROUP Reg.MGT_START_STATUS Reg.MGT_START_FAIL Reg.OPT_HOLD_STATE
  omega

theorem Boots.remapsNow (s : State) (t : Nat) : Boots t k s (s.remapsNow t) := by
  unfold State.remapsNow
  split
  · exact .refl t k s
  · refine Boots.trans (.foldl _ _ fun y r => ?_) (.setTile ..)
    exact ((Boots.foldl _ _ fun z l => .setReg z (BootReg.lanes t _ _).1 _).trans (.sf _ (BootReg.lanes t _ 0).2 _ _)).trans
      (.sf _ (BootReg.lanes t _ 0).2 _ _)

end

/-- The heaters of a tile are back, and it is no longer held. -/
theorem State.gf_released (s : State) (a t : Nat) (x : FabTile) :
    ((((s.sf a Fld.OPT_HOLD_STATE_held 0).sf a Fld.OPT_HOLD_STATE_parked 0).setFab t x).sf a Fld.OPT_HOLD_STATE_unknown 0).gf a
      Fld.OPT_HOLD_STATE_held = 0 :=
  calc _ = State.gf ((s.sf a Fld.OPT_HOLD_STATE_held 0).sf a Fld.OPT_HOLD_STATE_parked 0) a Fld.OPT_HOLD_STATE_held :=
        (State.gf_sf_apart (by decide) (by decide)).trans (State.gf_of_regs rfl _ _)
    _ = (s.sf a Fld.OPT_HOLD_STATE_held 0).gf a Fld.OPT_HOLD_STATE_held := State.gf_sf_apart (by decide) (by decide)
    _ = 0 := State.gf_sf_val (by decide) (by decide)

theorem State.mem_released (s : State) (a t : Nat) (x : FabTile) :
    ((((s.sf a Fld.OPT_HOLD_STATE_held 0).sf a Fld.OPT_HOLD_STATE_parked 0).setFab t x).sf a Fld.OPT_HOLD_STATE_unknown 0).mem = s.mem := rfl

theorem State.tileResume_hold (s : State) {t : Nat} (ht : t < 16) : (s.tileResume t).tileHeld t = false ∧
    ((s.tileResume t).fabT t).holdTemp = none ∧ ((s.tileResume t).fabT t).lostRings = [] ∧ (s.tileResume t).mem = s.mem := by
  have busy : ¬BootReg t Reg.MGT_TILE_CTL := BootReg.low (by decide) (by decide) (by decide)
  have train (y : State) : Boots t 1 y ((upto 6).foldl (fun z c => z.siteTrain (6 * t + c) [] false) y) :=
    List.foldlRecOn (motive := Boots t 1 y) _ _ (.refl t 1 y) fun z kept c hc =>
      kept.trans (.siteTrain z (by have := List.mem_range.1 hc; omega) _ _)
  have follow (y : State) : Boots t 1 y ([2 * t, 2 * t + 1].foldl (fun z j =>
      match z.standOfStack j with
      | some i => z.stackFollow i j
      | none => z) y) := .foldl _ _ fun z j => by
    split
    · exact .stackFollow ..
    · exact .refl t 1 z
  unfold State.tileResume
  extract_lets h s0 s1 f rest s2 s3 s4
  have trims : s1.regs = s0.regs ∧ s1.mem = s0.mem :=
    List.foldlRecOn (motive := fun y : State => y.regs = s0.regs ∧ y.mem = s0.mem) _ _ ⟨rfl, rfl⟩ fun _ kept _ _ => kept
  have opened : s0.gf h Fld.OPT_HOLD_STATE_held = 0 := State.gf_released s h t _
  have memory : s0.mem = s.mem := State.mem_released s h t _
  clear_value s0
  have mem : s2.mem = s.mem := trims.2.trans memory
  have held : s2.gf h Fld.OPT_HOLD_STATE_held = 0 := (State.gf_of_regs (u := s2) trims.1 _ _).trans opened
  have free : (s2.fabT t).holdTemp = none ∧ (s2.fabT t).lostRings = [] := by
    unfold s2
    rw [State.fabT_setFab_same]
    exact ⟨rfl, rfl⟩
  clear_value s2
  have tail : Boots t 1 s2 (s4.sf Reg.MGT_TILE_CTL Fld.MGT_TILE_CTL_busy (boolNat ((upto 16).any s4.tileHeld))) :=
    (((Boots.deskewed s2 t).trans (follow _)).trans ((Boots.remapsNow s3 t).trans (train _))).trans (.sf _ busy _ _)
  generalize s4.sf Reg.MGT_TILE_CTL Fld.MGT_TILE_CTL_busy (boolNat ((upto 16).any s4.tileHeld)) = u at tail
  have same : u.fabT t = s2.fabT t := congrArg (sget FabTile.zero · t) (tail.fab le_rfl)
  refine ⟨?_, ?_, ?_, (tail.mem le_rfl).trans mem⟩
  · unfold State.tileHeld
    rw [tail.gf (.inr (.inr rfl))]
    exact beq_eq_false_iff_ne.2 (held.trans_ne (by decide))
  · exact (congrArg FabTile.holdTemp same).trans free.1
  · exact (congrArg FabTile.lostRings same).trans free.2

theorem exec_tileWarmStartRequest (s : State) (p t : Nat) (ht : t < 16) :
    let a := Reg.MGT_TILE_CTL
    let s1 := s.writes [(a, Fld.MGT_TILE_CTL_tile, t)]
    Served s p a → s.takingOver = false → s.phase = 1 → s.tileOut t = false →
      ((∃ i ∈ s.standsOn t, s.inRun i = true) → exec (.tileWarmStartRequest p (BitVec.ofNat 32 (16 + t))) s =
        .next (s1.writes [(a, Fld.MGT_TILE_CTL_refused, 1)])) ∧
      ((∀ i ∈ s.standsOn t, s.inRun i = false) → exec (.tileWarmStartRequest p (BitVec.ofNat 32 (16 + t))) s =
        .next (s1.tileReset t)) := by
  intro a s1 served free ready up
  have run : exec (.tileWarmStartRequest p (BitVec.ofNat 32 (16 + t))) s = .next (s.tileCtl (16 + t)) := by
    have value : (BitVec.ofNat 32 (16 + t)).toNat = 16 + t := by rw [BitVec.toNat_ofNat]; omega
    change s.hostWrite p Reg.MGT_TILE_CTL (fun y => y.managed _ fun z => z.tileCtl _) = _
    rw [State.hostWrite_served served, State.managed_free free, value]
  have tile : (16 + t) % 16 = t := by omega
  have starts : natBit (16 + t) 4 = true := by interval_cases t <;> rfl
  have keeps : natBit (16 + t) 6 = false := by interval_cases t <;> rfl
  have ctl : s.tileCtl (16 + t) = if (s.standsOn t).any s.inRun then s1.sf a Fld.MGT_TILE_CTL_refused 1 else s1.tileReset t := by
    unfold State.tileCtl
    rw [tile, starts, keeps, ready]
    dsimp only
    rw [up]
    exact if_neg (by decide)
  refine ⟨fun some => ?_, fun none => ?_⟩
  · rw [run, ctl, if_pos (List.any_eq_true.2 some)]
    rfl
  · rw [run, ctl, if_neg (by simpa using none)]

theorem exec_tileWarmStartComplete (s : State) (t : Nat) (ht : t < 16) (held : s.tileHeld t = true) :
    ∃ u, exec (.tileWarmStartComplete t) s = .next u ∧ u.tileHeld t = false ∧
      (u.fabT t).holdTemp = none ∧ (u.fabT t).lostRings = [] ∧ u.mem = s.mem := by
  refine ⟨s.tileResume t, ?_, s.tileResume_hold ht⟩
  change execTileWarmStartComplete t s = _
  unfold execTileWarmStartComplete
  rw [if_neg (by omega), if_pos held]

/-! ### A cold start begins -/

theorem sget_filter_out {α : Type} {d : α} {a : Nat} {p : Nat × α → Bool} (h : ∀ v, p (a, v) = false) (m : SMap α) :
    sget d (m.filter p) a = d := by
  induction m with
  | nil => rfl
  | cons e rest ih =>
    obtain ⟨b, v⟩ := e
    rw [List.filter_cons]
    split
    · next kept =>
      have other : a ≠ b := fun same => absurd kept (by rw [← same, h]; decide)
      unfold sget
      rw [if_neg other, ih]
    · exact ih

theorem State.endRuns_none {s : State} (h : ∀ i < 16, s.inRun i = false) (state code : Nat) : s.endRuns state code = s := by
  unfold State.endRuns
  rw [List.filter_eq_nil_iff.2 fun i hi => by rw [h i (List.mem_range.1 hi)]; decide]
  rfl

/-- Every register but the start's status. -/
def NotStatus (a : Nat) : Prop := a ≠ Reg.MGT_START_STATUS

theorem RegsOnly.stored (s : State) : RegsOnly NotStatus s s.stored := by
  have sec : NotStatus Reg.SEC_STATE := by unfold NotStatus; decide
  have ctl : NotStatus Reg.OPT_ILK_CTL := by unfold NotStatus; decide
  have ref : NotStatus Reg.CLK_REF_CTL := by unfold NotStatus; decide
  unfold State.stored
  extract_lets rs a opened key s1
  have shown : RegsOnly NotStatus s s1 := ((RegsOnly.sf s sec _ _).trans (.sf _ sec _ _)).trans (.sf _ sec _ _)
  clear_value s1
  split
  · exact shown.trans (((RegsOnly.sf _ sec _ _).trans (.sf _ ctl _ _)).trans (.sf _ ref _ _))
  · exact shown

/-- What a cold start leaves. -/
theorem State.coldBegin_spec (s : State) :
    let u := s.coldBegin
    let torn := (s.endRuns 0 0x0E).writeTorn
    u.phase = 0 ∧ u.gf Reg.MGT_START_STATUS Fld.MGT_START_STATUS_step = 1 ∧ u.cores = [] ∧ u.stands = [] ∧ u.tiles = [] ∧ u.fab = [] ∧
      u.log = [] ∧ u.nvq = [] ∧ u.copy0 = torn.copy0 ∧ u.copy15 = torn.copy15 := by
  intro u torn
  have boundary : NotStatus Reg.MGT_BOUNDARY := by unfold NotStatus; decide
  have refs : NotStatus Reg.CLK_REF_STATUS := by unfold NotStatus; decide
  have status (i : Nat) : NotStatus (Reg.STD_STATUS i) := by unfold NotStatus Reg.STD_STATUS Reg.MGT_START_STATUS; omega
  unfold u State.coldBegin
  extract_lets ended r keepReg a b c _ _ s1 s2 s3 s4
  have tail : RegsOnly NotStatus s2 (ended.foldl (fun y i => y.sf (Reg.STD_STATUS i) Fld.STD_STATUS_run_code 0x0E) s4).stored :=
    (((RegsOnly.foldl _ _ fun y f => .sf y boundary _ _).trans (.foldl _ _ fun y f => .sf y refs _ _)).trans
      (.foldl _ _ fun y i => .sf y (status i) _ _)).trans (.stored _)
  generalize (ended.foldl (fun y i => y.sf (Reg.STD_STATUS i) Fld.STD_STATUS_run_code 0x0E) s4).stored = v at tail ⊢
  have fresh : s1.reg a = regDefault a := by
    refine sget_filter_out (fun v => ?_) torn.regs
    change (isHif Reg.MGT_START_STATUS || decide (Reg.MGT_START_STATUS = Reg.MGT_START_FAIL) ||
      decide (Reg.MGT_START_STATUS = Reg.SITE_CENSUS_GEN) || (upto 16).any fun t => decide (Reg.MGT_START_STATUS = Reg.PWR_PAD_HOLD t)) = false
    decide
  have phase : s1.gf a Fld.MGT_START_STATUS_phase = 0 := by
    unfold State.gf
    rw [fresh]
    decide
  have begun : s2.gf a Fld.MGT_START_STATUS_phase = 0 ∧ s2.gf a Fld.MGT_START_STATUS_step = 1 := by
    clear_value s1 a
    exact ⟨(State.gf_sf_apart (by decide) (by decide)).trans ((State.gf_sf_apart (by decide) (by decide)).trans
        ((State.gf_sf_apart (by decide) (by decide)).trans phase)),
      (State.gf_sf_apart (by decide) (by decide)).trans ((State.gf_sf_apart (by decide) (by decide)).trans
        (State.gf_sf_val (by decide) (by decide)))⟩
  have keep : ¬NotStatus a := fun ne => ne rfl
  refine ⟨(tail.gf keep _).trans begun.1, (tail.gf keep _).trans begun.2, ?_⟩
  rw [tail.frame]
  exact ⟨rfl, rfl, rfl, rfl, rfl, rfl, rfl, rfl⟩

theorem exec_startCold (s : State) (p : Nat) (served : Served s p Reg.MGT_START_CTL) (free : s.takingOver = false)
    (trip : s.gf Reg.THM_TRIP Fld.THM_TRIP_tripped = 0)
    (may : s.phase ≠ 0 ∨ s.gf Reg.MGT_START_STATUS Fld.MGT_START_STATUS_kind = 1 ∨ s.unmanaged = true) :
    ∃ u, exec (.startCold p) s = .next u ∧ u.phase = 0 ∧ u.gf Reg.MGT_START_STATUS Fld.MGT_START_STATUS_step = 1 ∧ u.cores = [] ∧
      u.stands = [] ∧ u.tiles = [] ∧ u.fab = [] ∧ u.log = [] ∧ u.nvq = [] ∧ u.pending = s.pending ∧
      (s.nvq = [] → (∀ i < 16, s.inRun i = false) → u.copy0 = s.copy0 ∧ u.copy15 = s.copy15) := by
  obtain ⟨phase, step, cores, stands, tiles, fab, log, nvq, copy0, copy15⟩ := s.coldBegin_spec
  obtain ⟨pending, -⟩ := State.keeps_coldBegin ((keeps_self s).2 trivial)
  refine ⟨s.coldBegin, ?_, phase, step, cores, stands, tiles, fab, log, nvq, pending, fun idle none => ?_⟩
  · change s.hostWrite p Reg.MGT_START_CTL (fun y => y.managed _ State.askCold) = _
    rw [State.hostWrite_served served, State.managed_free free]
    unfold State.askCold
    rw [if_neg (by omega), if_neg]
    rintro ⟨starting, cold, managed⟩
    rcases may with h | h | h
    · exact h starting
    · omega
    · exact absurd (managed.symm.trans h) (by decide)
  · rw [copy0, copy15, State.endRuns_none none, State.writeTorn_idle idle]
    exact ⟨rfl, rfl⟩

theorem exec_start_tripped (s : State) (p : Nat) (bist : Bool) (served : Served s p Reg.MGT_START_CTL) (free : s.takingOver = false)
    (trip : s.gf Reg.THM_TRIP Fld.THM_TRIP_tripped = 1) :
    exec (.startCold p) s = .next (s.writes [(Reg.MGT_START_STATUS, Fld.MGT_START_STATUS_refused, 1)]) ∧
      exec (.startWarm p bist) s = .next (s.writes [(Reg.MGT_START_STATUS, Fld.MGT_START_STATUS_refused, 1)]) := by
  constructor
  · change s.hostWrite p Reg.MGT_START_CTL (fun y => y.managed _ State.askCold) = _
    rw [State.hostWrite_served served, State.managed_free free]
    exact congrArg _ (if_pos trip)
  · change s.hostWrite p Reg.MGT_START_CTL (fun y => y.managed _ fun z => z.askWarm bist) = _
    rw [State.hostWrite_served served, State.managed_free free]
    exact congrArg _ (if_pos trip)

/-! ### A warm start begins -/

theorem WindReg.not_boot : ¬WindReg Reg.MGT_START_STATUS ∧ ¬WindReg Reg.MGT_START_FAIL := by
  unfold WindReg NvReg LogReg Reg.MGT_PLAN_STATUS Reg.HIF_MOD_INT Reg.THM_NV_WINDOW Reg.NVS_REFUSE Reg.MGT_START_STATUS Reg.MGT_START_FAIL
  omega

section
variable {k : Nat} {b s : State}

theorem Winds.trunksSettle (h : Winds k b s) (t : Nat) : Winds k b (s.trunksSettle t) := by
  unfold State.trunksSettle
  refine h.foldl fun y q _ hy => ?_
  have settled : Winds k b ((y.swapEnd t q).calAbandon t q) := (hy.swapEnd t q).calAbandon t q
  dsimp only
  split
  · exact ((settled.swapBegin ..).swapEnd ..).calAbandon ..
  · exact settled

theorem Winds.parksEnd (h : Winds k b s) (t : Nat) : Winds k b (s.parksEnd t) :=
  h.foldl fun _ q _ hy => hy.sf (.high (by unfold Reg.OPT_CH_PARKED; omega)) _ _

theorem Winds.niKeep (h : Winds 0 b s) (w : Nat) : Winds 0 b (s.niKeep w) := by
  unfold State.niKeep
  refine h.foldl fun y g _ hy => ?_
  dsimp only
  split
  · exact hy
  · exact hy.setCore _ fun runs => runs

theorem Winds.tileLogic (h : Winds 0 b s) (t : Nat) : Winds 0 b (s.tileLogic t) := by
  have settled : Winds 0 b ((upto 6).foldl (fun y x => y.setCtx t x CtxSt.zero) ((s.trunksSettle t).parksEnd t)) :=
    ((h.trunksSettle t).parksEnd t).foldl fun _ x _ hy => hy.setCtx ..
  exact ((settled.setTile ..).setFab ..).foldl fun y c _ hy => (hy.setSite ..).niKeep _

end

/-- A warm start is in its first step. -/
def WarmFirst (s : State) : Prop :=
  s.phase = 0 ∧ s.gf Reg.MGT_START_STATUS Fld.MGT_START_STATUS_step = 1 ∧ s.gf Reg.MGT_START_STATUS Fld.MGT_START_STATUS_kind = 1

theorem WarmFirst.kept {s u : State} (h : WarmFirst s) (kept : u.reg Reg.MGT_START_STATUS = s.reg Reg.MGT_START_STATUS) : WarmFirst u := by
  obtain ⟨phase, step, kind⟩ := h
  exact ⟨(State.gf_of_reg kept _).trans phase, (State.gf_of_reg kept _).trans step, (State.gf_of_reg kept _).trans kind⟩

theorem WarmFirst.begun (s : State) :
    let a := Reg.MGT_START_STATUS
    WarmFirst ((((s.sf a Fld.MGT_START_STATUS_phase 0).sf a Fld.MGT_START_STATUS_step 1).sf a Fld.MGT_START_STATUS_kind 1).sf a
      Fld.MGT_START_STATUS_refused 0) := by
  unfold WarmFirst State.phase
  generalize Reg.MGT_START_STATUS = a
  exact ⟨(State.gf_sf_apart (by decide) (by decide)).trans ((State.gf_sf_apart (by decide) (by decide)).trans
      ((State.gf_sf_apart (by decide) (by decide)).trans (State.gf_sf_val (by decide) (by decide)))),
    (State.gf_sf_apart (by decide) (by decide)).trans ((State.gf_sf_apart (by decide) (by decide)).trans
      (State.gf_sf_val (by decide) (by decide))),
    (State.gf_sf_apart (by decide) (by decide)).trans (State.gf_sf_val (by decide) (by decide))⟩

/-- What a warm start leaves of the start's status. -/
theorem State.warmBegin_first (s : State) (bist : Bool) : WarmFirst (s.warmBegin bist) := by
  have level (i : Nat) : ¬BootReg 0 (Reg.STD_GATE_LEVEL i) := by
    unfold BootReg Reg.STD_GATE_LEVEL Reg.MGT_START_STATUS Reg.MGT_START_FAIL Reg.OPT_HOLD_STATE
    omega
  have state (i : Nat) : ¬BootReg 0 (Reg.PWR_STD_STATE i) := by
    unfold BootReg Reg.PWR_STD_STATE Reg.MGT_START_STATUS Reg.MGT_START_FAIL Reg.OPT_HOLD_STATE
    omega
  unfold State.warmBegin
  extract_lets a s0 s1 s2 s3 s4 s5 s6
  have begun : WarmFirst s2 := .begun s1
  have logic : Winds 0 s2 s3 := (Winds.refl 0 s2).foldl fun y t _ hy => hy.tileLogic t
  have slept : Boots 0 0 s3 s4 := .foldl _ _ fun y j => .stackSleep y j
  have levels : Boots 0 0 s4 s5 := .foldl _ _ fun y i => (Boots.setStand ..).trans (.sf _ (level i) _ _)
  have states : Boots 0 0 s5 s6 := .foldl _ _ fun y i => .sf y (state i) _ _
  have whole : WarmFirst s6 := begun.kept ((((slept.trans levels).trans states).regs _ (.inl rfl)).trans (logic.regs _ WindReg.not_boot.1))
  clear_value s6
  exact whole.kept (congrArg (sget (regDefault _) · _) rfl)

theorem exec_startWarm (s : State) (p : Nat) (bist : Bool) (served : Served s p Reg.MGT_START_CTL) (free : s.takingOver = false)
    (trip : s.gf Reg.THM_TRIP Fld.THM_TRIP_tripped = 0) (ready : s.phase ≠ 0) (managed : s.unmanaged = false)
    (may : s.gf Reg.MGT_START_STATUS Fld.MGT_START_STATUS_forced_cold = 0) : exec (.startWarm p bist) s = .next (s.warmBegin bist) := by
  change s.hostWrite p Reg.MGT_START_CTL (fun y => y.managed _ fun z => z.askWarm bist) = _
  rw [State.hostWrite_served served, State.managed_free free]
  unfold State.askWarm
  rw [if_neg (by omega), if_neg, if_neg (by omega)]
  rintro (starting | out)
  · exact ready starting
  · exact absurd (managed.symm.trans out) (by decide)

/-! ### Towers that follow their stands' power states -/

section
variable {o k : Nat} {s : State}

theorem ClockReg.not_boot {w a : Nat} (h : ClockReg w a) : ¬BootReg o a := by
  rcases h with rfl | rfl | rfl
  · exact BootReg.tile (by unfold Reg.CLK_SITE_ACTIVE; omega) (by unfold Reg.CLK_SITE_ACTIVE; omega)
  · exact BootReg.tile (by unfold Reg.CLK_SITE_DIV; omega) (by unfold Reg.CLK_SITE_DIV; omega)
  · exact BootReg.tile (by unfold Reg.CLK_TILE_STATUS; omega) (by unfold Reg.CLK_TILE_STATUS; omega)

theorem Boots.setBranches (s : State) (w st : Nat) : Boots o k s (s.setBranches w st) :=
  (RegsOnly.setBranches s w st).boots fun _ => ClockReg.not_boot

theorem Boots.padSite (s : State) (w v : Nat) : Boots o k s (s.padSite w v) := by
  obtain ⟨-, -, -, -, -, -, pads⟩ := BootReg.site o w
  exact .sf _ pads _ _

theorem Boots.padRelease (s : State) (w : Nat) : Boots o k s (s.padRelease w) := by
  unfold State.padRelease
  split
  · exact .padSite ..
  · exact .refl o k s

theorem Boots.towerUp (s : State) (w : Nat) : Boots o k s (s.towerUp w) := by
  have up : Boots o k s ((s.setBranches w 0).padRelease w) := (Boots.setBranches ..).trans (.padRelease ..)
  unfold State.towerUp
  dsimp only
  split
  · exact up.trans (.setSite ..)
  · exact up

theorem Boots.sramZero (s : State) (w : Nat) : Boots o 0 s (s.sramZero w) :=
  .of rfl (fun h => absurd h (by decide)) fun _ => rfl

theorem Boots.forgets (s : State) (m : List Host.Cell) (p : SMap (BitVec 48)) : Boots o 0 s { s with mem := m, pmc := p } :=
  .of rfl (fun h => absurd h (by decide)) fun _ => rfl

theorem Boots.towerBringUp (s : State) {w : Nat} (hw : w < 96) (out : List Nat) (fails : Bool) : Boots o 0 s (s.towerBringUp w out fails) := by
  obtain ⟨link, -⟩ := BootReg.site o w
  unfold State.towerBringUp
  extract_lets t a down s1 s2 _ s3
  have branches : Boots o 0 s s1 := .setBranches ..
  have begun : Boots o 0 s1 s2 := by
    unfold s2
    split
    · exact .sf _ link _ _
    · exact .refl o 0 s1
  have trained : Boots o 0 s2 s3 := (((Boots.setSite ..).trans (.siteTrain _ hw _ _)).trans (.padRelease ..)).trans (.sramZero ..)
  clear_value s3
  exact ((branches.trans begun).trans trained).trans (.forgets ..)

theorem Boots.towerRun (s : State) {w : Nat} (hw : w < 96) (out : List Nat) (fails : Bool) : Boots o 0 s (s.towerRun w out fails) := by
  unfold State.towerRun
  split
  · exact .towerBringUp _ hw _ _
  · exact .towerUp ..

theorem Boots.joinMid (s : State) (i : Nat) {w : Nat} (hw : w < 96) : Boots o 0 s (s.joinMid i w) := by
  unfold State.joinMid
  dsimp only
  split
  · split
    · exact .refl o 0 s
    · exact .setPwr ..
  · split
    · exact .refl o 0 s
    · exact ((Boots.towerRun _ hw _ _).trans (.setBranches ..)).trans (.padSite ..)

theorem Boots.towerTo (s : State) {w : Nat} (hw : w < 96) (st : Nat) : Boots o 0 s (s.towerTo w st) := by
  obtain ⟨link, -⟩ := BootReg.site o w
  unfold State.towerTo
  extract_lets mask s1 s2
  split
  · exact .refl o 0 s
  · have ran : Boots o 0 s s1 := by
      unfold s1
      split
      · exact .towerRun _ hw _ _
      · exact .refl o 0 s
    have held : Boots o 0 s1 s2 := (Boots.setBranches ..).trans (.padSite ..)
    clear_value s1 s2
    split
    · exact ran.trans ((Boots.setBranches ..).trans (.padRelease ..))
    · split
      · exact (ran.trans held).trans (.sf _ link _ _)
      · exact ran.trans held

theorem Boots.applyPower (s : State) : Boots o 0 s s.applyPower := by
  have towers : Boots o 0 s (if s.tripped then s else (upto 96).foldl (fun y w =>
      match if y.linkState w ≥ 4 then none else y.standOfTower w with
      | some i => if y.inRun i then y else if y.pStep i ≠ 0 then y.joinMid i w else y.towerTo w (y.pState i)
      | none => y.towerTo w 3) s) := by
    split
    · exact .refl o 0 s
    · refine List.foldlRecOn (motive := Boots o 0 s) _ _ (.refl o 0 s) fun y kept w hw => kept.trans ?_
      have low : w < 96 := List.mem_range.1 hw
      split
      · split
        · exact .refl o 0 y
        · split
          · exact .joinMid _ _ low
          · exact .towerTo _ low _
      · exact .towerTo _ low _
  refine towers.trans (.foldl _ _ fun y j => ?_)
  split
  · split
    · exact .refl o 0 y
    · exact .stackFollow ..
  · exact .stackSleep ..

theorem Boots.setPState (s : State) (i v : Nat) : Boots 0 k s (s.setPState i v) := by
  have state : ¬BootReg 0 (Reg.PWR_STD_STATE i) := by
    unfold BootReg Reg.PWR_STD_STATE Reg.MGT_START_STATUS Reg.MGT_START_FAIL Reg.OPT_HOLD_STATE
    omega
  exact .sf _ state _ _

theorem BootReg.fibre (t c : Nat) : ¬BootReg 0 (Reg.OPT_FIBRE t c) := by
  unfold BootReg Reg.OPT_FIBRE Reg.MGT_START_STATUS Reg.MGT_START_FAIL Reg.OPT_HOLD_STATE
  omega

theorem Boots.ilk (s : State) (f : Fld) (v : Nat) : Boots 0 k s (s.sf Reg.OPT_ILK_STATUS f v) :=
  .sf _ (BootReg.low (by decide) (by decide) (by decide)) _ _

theorem Boots.boundary (s : State) (f : Fld) (v : Nat) : Boots 0 k s (s.sf Reg.MGT_BOUNDARY f v) :=
  .sf _ (BootReg.low (by decide) (by decide) (by decide)) _ _

end

/-! ### The ends of a start -/

theorem State.gf_begun (s : State) {a f : Nat} (ne : a ≠ f) :
    (((((s.sf a Fld.MGT_START_STATUS_phase 1).sf a Fld.MGT_START_STATUS_step 0).sf a Fld.MGT_START_STATUS_attempts 0).sf a
      Fld.MGT_START_STATUS_forced_cold 0).sf f Fld.MGT_START_FAIL_valid 0).gf a Fld.MGT_START_STATUS_phase = 1 :=
  (State.gf_sf_ne _ _ _ _ ne).trans ((State.gf_sf_apart (by decide) (by decide)).trans ((State.gf_sf_apart (by decide) (by decide)).trans
    ((State.gf_sf_apart (by decide) (by decide)).trans (State.gf_sf_val (by decide) (by decide)))))

theorem Boots.restart {o k : Nat} (s : State) (x : StartSt) : Boots o k s { s with start := x } := .of rfl (fun _ => rfl) fun _ => rfl

theorem Boots.phase {o k : Nat} {s u : State} (h : Boots o k s u) : u.phase = s.phase := h.gf (.inl rfl) _

theorem Boots.chooseInputs (s : State) (t : Nat) : Boots 0 0 s (s.chooseInputs t) := .foldl _ _ fun y _ => .sf y (BootReg.fibre _ _) _ _

theorem State.phase_starts (s : State) (v : Nat) : (s.sf Reg.MGT_START_STATUS Fld.MGT_START_STATUS_starts v).phase = s.phase := by
  unfold State.phase
  generalize Reg.MGT_START_STATUS = a
  exact State.gf_sf_apart (by decide) (by decide)

theorem State.startDone_phase (s : State) : s.startDone.phase = 1 := by
  unfold State.startDone
  extract_lets a kind s1 _ s2 s3 s4 s5
  have apart : Reg.MGT_START_STATUS ≠ Reg.MGT_START_FAIL := by decide
  have ready : s1.phase = 1 := by
    unfold s1 State.phase
    exact State.gf_begun s apart
  have same : Boots 0 0 s1 s2 := .restart s1 _
  have loop : Boots 0 0 s2 s3 := by
    unfold s3
    split
    · exact ((Boots.ilk ..).trans (.ilk ..)).trans (.modCause ..)
    · exact .refl 0 0 s2
  have up : s3.phase = 1 := (same.trans loop).phase.trans ready
  clear_value s2 s3
  have states : Boots 0 0 s3 s4 := .foldl _ _ fun y i => .setPState ..
  have up4 : s4.phase = 1 := states.phase.trans up
  clear_value s4
  have up5 : s5.phase = 1 := (Boots.applyPower (o := 0) _).phase.trans ((State.phase_starts s4 0).trans up4)
  clear_value s5
  have inputs : Boots 0 0 s5 ((upto 16).foldl (fun y t => y.chooseInputs t) s5) := .foldl _ _ fun y t => .chooseInputs y t
  split
  · exact (Boots.applyPower (o := 0) _).phase.trans ((State.phase_starts s3 _).trans up)
  · exact inputs.phase.trans up5

theorem State.elapsed_atLeast (s : State) (n : Nat) : (s.atLeast n).elapsed = max s.elapsed (s.start.stepAt + n) := by
  have run : (s.atLeast n).elapsed = s.elapsed + (s.start.stepAt + n - s.elapsed) := by
    have whole : s.elapsed = s.start.spent + (s.gtc - s.start.from_).toNat := rfl
    change s.start.spent + (s.start.stepAt + n - s.elapsed) + (s.gtc - s.start.from_).toNat = _
    omega
  omega

theorem Boots.disarm (s : State) : Boots 0 0 s s.disarm := .foldl _ _ fun y _ => .sf y (BootReg.fibre _ _) _ _

theorem Boots.failWrite (s : State) : Boots 0 0 s s.failWrite := by
  refine ((Notes.nvWrite s s.failRecord).boots (o := 0) (k := 0)).trans ?_
  exact .of rfl (fun _ => rfl) fun _ => rfl

theorem State.towersOff_status (s : State) {a : Nat} (h : a = Reg.MGT_START_STATUS ∨ a = Reg.MGT_START_FAIL) :
    s.towersOff.reg a = s.reg a := by
  refine s.towersOff_spec.low a ?_ fun i _ => ?_
  all_goals
    unfold Reg.MGT_START_STATUS Reg.MGT_START_FAIL at h
  · omega
  · unfold Reg.PWR_STD_STATE
    omega

/-- The failure's register, from its parts. -/
def failWord (step cause tile kind ms : Nat) : Word :=
  BitVec.ofNat 64 (step + 2 ^ 4 * cause + 2 ^ 8 * (tile % 16) + 2 ^ 12 * kind + 2 ^ 13 + 2 ^ 32 * (ms % 2 ^ 32))

theorem failWord_ms {step cause kind : Nat} (hs : step < 16) (hc : cause < 16) (hk : kind < 2) (tile ms : Nat) :
    natBits (failWord step cause tile kind ms).toNat 32 32 = ms % 2 ^ 32 := by
  unfold failWord natBits
  rw [BitVec.toNat_ofNat]
  omega

theorem State.gf_failed (s : State) {a f : Nat} (ne : a ≠ f) (v : Word) (force : Bool) :
    let s2 := (((s.setReg f v).sfSat a Fld.MGT_START_STATUS_attempts 1).sf a Fld.MGT_START_STATUS_phase 2).sf a Fld.MGT_START_STATUS_step 0
    let s3 := if force then s2.sf a Fld.MGT_START_STATUS_forced_cold 1 else s2
    s3.gf a Fld.MGT_START_STATUS_phase = 2 ∧ s3.gf a Fld.MGT_START_STATUS_step = 0 ∧ s3.reg f = v := by
  intro s2 s3
  have phase : s2.gf a Fld.MGT_START_STATUS_phase = 2 := (State.gf_sf_apart (by decide) (by decide)).trans (State.gf_sf_val (by decide) (by decide))
  have step : s2.gf a Fld.MGT_START_STATUS_step = 0 := State.gf_sf_val (by decide) (by decide)
  have fail : s2.reg f = v := (State.reg_sf_ne _ _ _ ne.symm).trans ((State.reg_sf_ne _ _ _ ne.symm).trans ((State.reg_sf_ne _ _ _ ne.symm).trans
    (State.reg_setReg_same ..)))
  clear_value s2
  unfold s3
  split
  · exact ⟨(State.gf_sf_apart (by decide) (by decide)).trans phase, (State.gf_sf_apart (by decide) (by decide)).trans step,
      (State.reg_sf_ne _ _ _ ne.symm).trans fail⟩
  · exact ⟨phase, step, fail⟩

/-- What a start's failure leaves: the safe state, and what the failure's register says. -/
theorem State.startFail_spec (s : State) (cause tile : Nat) : (s.startFail cause tile).phase = 2 ∧
    (s.startFail cause tile).gf Reg.MGT_START_STATUS Fld.MGT_START_STATUS_step = 0 ∧
    (cause < 16 → (s.startFail cause tile).gf Reg.MGT_START_FAIL Fld.MGT_START_FAIL_ms = s.elapsed / 1000000 % 2 ^ 32) := by
  unfold State.startFail State.phase
  extract_lets a f kind step ms s1 n s2 s3 _ s4 s5 b s6
  have apart : Reg.MGT_START_STATUS ≠ Reg.MGT_START_FAIL := by decide
  have start : s3.gf a Fld.MGT_START_STATUS_phase = 2 ∧ s3.gf a Fld.MGT_START_STATUS_step = 0 ∧
      s3.reg f = failWord step cause tile kind ms := by
    have both := State.gf_failed s apart (failWord step cause tile kind ms) (decide (n ≥ 3))
    simp only [decide_eq_true_eq] at both
    exact both
  have same : s4.regs = s3.regs := rfl
  clear_value s4
  clear_value s3
  have cut : ∀ c, c = Reg.MGT_START_STATUS ∨ c = Reg.MGT_START_FAIL → s5.reg c = s3.reg c := by
    have slept : Boots 0 0 s4.towersOff s5 := .foldl _ _ fun y j => by
      dsimp only
      split
      · exact .sf y (BootReg.not_stack ⟨_, _, .inl ⟨rfl, Nat.mod_lt _ (by decide)⟩⟩) _ _
      · exact .refl 0 0 y
    exact fun c hc => (slept.regs c (or_assoc.1 (.inl hc))).trans ((State.towersOff_status s4 hc).trans
      (congrArg (sget (regDefault c) · c) same))
  clear_value s5
  have loop : Boots 0 0 s5 s6 := by
    unfold s6
    split
    · exact ((((Boots.ilk ..).trans (.ilk ..)).trans (.boundary ..)).trans (.boundary ..)).trans ((Boots.disarm _).trans (.modCause ..))
    · exact .ilk ..
  clear_value s6
  have noted : Boots 0 0 s6 (if kind = 0 then s6.failWrite else s6) := by
    split
    · exact .failWrite s6
    · exact .refl 0 0 s6
  generalize (if kind = 0 then s6.failWrite else s6) = u at noted ⊢
  have all : ∀ c, c = Reg.MGT_START_STATUS ∨ c = Reg.MGT_START_FAIL → u.reg c = s3.reg c := fun c hc =>
    ((loop.trans noted).regs c (or_assoc.1 (.inl hc))).trans (cut c hc)
  obtain ⟨phase, low, fail⟩ := start
  refine ⟨(State.gf_of_reg (all _ (.inl rfl)) _).trans phase, (State.gf_of_reg (all _ (.inl rfl)) _).trans low, fun small => ?_⟩
  unfold State.gf
  rw [all _ (.inr rfl), fail]
  exact failWord_ms (State.gf_lt ..) small (State.gf_lt ..) _ _

/-! ### The steps of a start -/

theorem exec_start_idle (s : State) (f : StepFinding) (t : BitVec 4) (idle : s.tripped = true ∨ s.unmanaged = true ∨ s.clk.stopped = true) :
    exec (.startStepComplete f) s = .next s ∧
      (s.unmanaged = true ∨ s.clk.stopped = true → exec (.startStepTimeout t) s = .next s) := by
  refine ⟨?_, fun out => ?_⟩
  · change execStartStepComplete f s = _
    unfold execStartStepComplete
    exact if_pos (.inr (.inr idle))
  · change execStartStepTimeout t s = _
    unfold execStartStepTimeout
    exact if_pos (.inr (.inr (or_assoc.1 (.inl out))))

/-- A start under way whose steps may end. -/
structure Starting (s : State) : Prop where
  power : s.power = true
  phase : s.phase = 0
  tripped : s.tripped = false
  managed : s.unmanaged = false
  clock : s.clk.stopped = false

section
variable {s : State} {f : StepFinding} (starting : Starting s)
include starting

theorem Starting.idle : ¬(!s.power ∨ s.phase ≠ 0 ∨ s.tripped = true ∨ s.unmanaged = true ∨ s.clk.stopped = true) := by
  obtain ⟨power, phase, tripped, managed, clock⟩ := starting
  simp [power, phase, tripped, managed, clock]

theorem Starting.fails {c t : BitVec 4} (fail : f.fail = some (c, t))
    (fits : failFits (s.gf Reg.MGT_START_STATUS Fld.MGT_START_STATUS_step) (s.gf Reg.MGT_START_STATUS Fld.MGT_START_STATUS_kind) c.toNat = true) :
    exec (.startStepComplete f) s = .next (s.startFail c.toNat t.toNat) := by
  change execStartStepComplete f s = _
  unfold execStartStepComplete
  dsimp only
  rw [if_neg starting.idle, fail]
  exact if_pos fits

theorem Starting.stale (fail : f.fail = none)
    (stale : s.gf Reg.MGT_START_STATUS Fld.MGT_START_STATUS_step = 3 ∧ s.gf Reg.MGT_START_STATUS Fld.MGT_START_STATUS_kind = 1 ∧
      s.imageStale = true) :
    exec (.startStepComplete f) s = .next { s with sec := { s.sec with image := none } } := by
  change execStartStepComplete f s = _
  unfold execStartStepComplete
  dsimp only
  rw [if_neg starting.idle, fail]
  exact if_pos stale

theorem Starting.copiesLost (fail : f.fail = none) (step : s.gf Reg.MGT_START_STATUS Fld.MGT_START_STATUS_step = 4)
    (kind : s.gf Reg.MGT_START_STATUS Fld.MGT_START_STATUS_kind = 0) (lost0 : (s.copiesRead f.badCopies).copy0.ok = false)
    (lost15 : (s.copiesRead f.badCopies).copy15.ok = false) :
    exec (.startStepComplete f) s = .next ((s.copiesRead f.badCopies).startFail 4 0) := by
  change execStartStepComplete f s = _
  unfold execStartStepComplete
  dsimp only
  rw [if_neg starting.idle, fail]
  dsimp only
  rw [if_neg (by omega), if_pos (c := _ ∧ _) ⟨step, kind⟩]
  exact if_pos ⟨step, kind, by rw [lost0]; rfl, by rw [lost15]; rfl⟩

/-- A step that ends. -/
theorem Starting.ends (fail : f.fail = none) {u : State}
    (copies : s.gf Reg.MGT_START_STATUS Fld.MGT_START_STATUS_step ≠ 4 ∨ s.copy0.ok = true ∧ f.badCopies = [])
    (fresh : s.gf Reg.MGT_START_STATUS Fld.MGT_START_STATUS_step = 3 → s.gf Reg.MGT_START_STATUS Fld.MGT_START_STATUS_kind = 1 →
      s.imageStale = false)
    (done : s.stepEnd (s.gf Reg.MGT_START_STATUS Fld.MGT_START_STATUS_step) (s.gf Reg.MGT_START_STATUS Fld.MGT_START_STATUS_kind) f = some u) :
    exec (.startStepComplete f) s = .next
      (if s.gf Reg.MGT_START_STATUS Fld.MGT_START_STATUS_step = 11 then
        (if u.startDone.parkHeld then u.startDone.parkAll else u.startDone)
      else { u with start := { u.start with stepAt := u.elapsed } }.sf Reg.MGT_START_STATUS Fld.MGT_START_STATUS_step
        (s.gf Reg.MGT_START_STATUS Fld.MGT_START_STATUS_step + 1)) := by
  have idle := starting.idle
  change execStartStepComplete f s = _
  unfold execStartStepComplete
  dsimp only
  generalize s.gf Reg.MGT_START_STATUS Fld.MGT_START_STATUS_step = n at *
  generalize s.gf Reg.MGT_START_STATUS Fld.MGT_START_STATUS_kind = kind at *
  have read : (if n = 4 ∧ kind = 0 then s.copiesRead f.badCopies else s) = s := by
    split
    · next four =>
      obtain ⟨-, none⟩ := copies.resolve_left fun ne => ne four.1
      rw [none]
      rfl
    · rfl
  rw [if_neg idle, fail]
  dsimp only
  rw [if_neg fun stale => absurd (fresh stale.1 stale.2.1 ▸ stale.2.2) (by decide), read, if_neg, done]
  · dsimp only
    by_cases last : n = 11
    · rw [if_pos last, if_pos last]
    · rw [if_neg last, if_neg last]
  · rintro ⟨four, -, lost, -⟩
    obtain ⟨works, -⟩ := copies.resolve_left fun ne => ne four
    exact absurd lost (by rw [works]; decide)

end

theorem exec_startStepTimeout (s : State) (t : BitVec 4) (power : s.power = true) (phase : s.phase = 0) (managed : s.unmanaged = false)
    (clock : s.clk.stopped = false)
    (image : s.gf Reg.MGT_START_STATUS Fld.MGT_START_STATUS_step ≠ 3 ∨ s.sec.image.isSome = true) :
    let n := s.gf Reg.MGT_START_STATUS Fld.MGT_START_STATUS_step
    let noRef := n = 1 ∧ s.gf Reg.CLK_REF_STATUS Fld.CLK_REF_STATUS_mode = 0
    let open_ := n = 10 ∧ s.gf Reg.MGT_BOUNDARY Fld.MGT_BOUNDARY_ilk_closed = 0
    exec (.startStepTimeout t) s = .next ((s.atLeast (if noRef then 1000000000 else stepLimit n)).startFail
      (if noRef then 1 else if open_ then 7 else 6) t.toNat) := by
  intro n noRef open_
  have run : ¬(!s.power ∨ s.phase ≠ 0 ∨ s.unmanaged = true ∨ s.clk.stopped = true ∨
      (s.gf Reg.MGT_START_STATUS Fld.MGT_START_STATUS_step = 3 ∧ s.sec.image.isNone)) := by
    rintro (h | h | h | h | ⟨three, none⟩)
    · exact absurd h (by rw [power]; decide)
    · exact h phase
    · exact absurd (managed.symm.trans h) (by decide)
    · exact absurd (clock.symm.trans h) (by decide)
    · have some := image.resolve_left fun ne => ne three
      rw [Option.isSome_iff_ne_none] at some
      exact some (Option.isNone_iff_eq_none.1 none)
  change execStartStepTimeout t s = _
  unfold execStartStepTimeout
  dsimp only
  rw [if_neg run]
  simp only [noRef, open_, n, Bool.and_eq_true, decide_eq_true_eq, beq_iff_eq]

theorem hbmState_inj {i j : Nat} (h : Reg.HBM_STATE (i / 2) (i % 2) = Reg.HBM_STATE (j / 2) (j % 2)) : i = j := by
  unfold Reg.HBM_STATE at h
  omega

theorem RegsOnly.mem {R : Nat → Prop} {s u : State} (h : RegsOnly R s u) : u.mem = s.mem := by
  rw [h.frame]

theorem RegsOnly.poison {R : Nat → Prop} {s u : State} (h : RegsOnly R s u) : u.poison = s.poison := by
  rw [h.frame]

/-- A stack state that a step gives every stack. -/
theorem State.stacksTo (s : State) {v : Nat} (fits : v < 2 ^ Fld.HBM_STATE_state.w) :
    let u := (upto 32).foldl (fun y j => y.sf (Reg.HBM_STATE (j / 2) (j % 2)) Fld.HBM_STATE_state v) s
    u.mem = s.mem ∧ u.poison = s.poison ∧ ∀ j < 32, u.gf (Reg.HBM_STATE (j / 2) (j % 2)) Fld.HBM_STATE_state = v := by
  intro u
  have only : RegsOnly StackReg s u := .foldl _ _ fun y j => .sf y ⟨_, _, .inl ⟨rfl, Nat.mod_lt _ (by decide)⟩⟩ _ _
  refine ⟨only.mem, only.poison, fun j hj => ?_⟩
  exact foldl_settles (P := fun y : State => y.gf (Reg.HBM_STATE (j / 2) (j % 2)) Fld.HBM_STATE_state = v) (List.mem_range.2 hj)
    (fun y => State.gf_sf_val (by decide) fits) fun y i _ other kept =>
      (State.gf_sf_ne _ _ _ _ fun same => other (hbmState_inj same).symm).trans kept

theorem State.stepEnd_train (s : State) (f : StepFinding) :
    ∃ u, s.stepEnd 6 0 f = some u ∧ ∀ j < 32, u.gf (Reg.HBM_STATE (j / 2) (j % 2)) Fld.HBM_STATE_state = 1 := by
  have trained := ((s.step6 0 f).stacksTo (v := 1) (by decide)).2.2
  unfold State.stepEnd
  generalize s.step6 0 f = s1 at trained
  exact ⟨_, congrArg some (if_pos rfl), trained⟩

theorem State.stepEnd_serve (s : State) :
    ∃ u, s.stepEnd 7 0 StepFinding.clean = some u ∧ u.mem = [] ∧ u.poison = [] ∧
      ∀ j < 32, u.gf (Reg.HBM_STATE (j / 2) (j % 2)) Fld.HBM_STATE_state = 2 := by
  refine ⟨_, rfl, ?_⟩
  have served : s.step7 0 [] =
      (upto 32).foldl (fun y j => y.sf (Reg.HBM_STATE (j / 2) (j % 2)) Fld.HBM_STATE_state 2) { s with mem := [], poison := [] } := by
    unfold State.step7
    rw [if_pos rfl]
    rfl
  rw [show s.step7 0 StepFinding.clean.badStacks = s.step7 0 [] from rfl, served]
  exact State.stacksTo { s with mem := [], poison := [] } (by decide)

/-- Settles O49: starts of the module and of a tile. -/
theorem startsOfModuleAndTiles : Obligations.StartsOfModuleAndTiles := by
  unfold Obligations.StartsOfModuleAndTiles
  refine ⟨fun s p bist served free => ⟨exec_start_tripped s p bist served free, exec_startCold s p served free, fun trip ready managed may =>
    ⟨exec_startWarm s p bist served free trip ready managed may, s.warmBegin_first bist⟩⟩, exec_start_idle, ?_, fun s p t ht =>
    ⟨exec_tileWarmStartRequest s p t ht, exec_tileWarmStartComplete s t ht⟩⟩
  intro s f power phase tripped managed clock a n kind
  have starting : Starting s := ⟨power, phase, tripped, managed, clock⟩
  refine ⟨fun fail three warm stale => starting.stale fail ⟨three, warm, stale⟩, fun fail four cold lost0 lost15 =>
    starting.copiesLost fail four cold lost0 lost15, fun fail copies fresh u done => ⟨fun early => ?_, fun last => ?_⟩,
    fun c t fail fits => starting.fails fail fits, fun t image => exec_startStepTimeout s t power phase managed clock image,
    fun c t => ?_, s.startDone_phase, fun six cold => ?_, fun seven cold => ?_⟩
  · rw [starting.ends fail copies fresh done, if_neg (Nat.ne_of_lt early)]
    rfl
  · rw [starting.ends fail copies fresh done, if_pos last]
  · obtain ⟨safe, none, ms⟩ := s.startFail_spec c t
    exact ⟨safe, none, ms, s.elapsed_atLeast⟩
  · rw [six, cold]
    exact s.stepEnd_train f
  · rw [seven, cold]
    exact s.stepEnd_serve

end Sys2Proof.Machine
